-- ==== Sys2Proof/Word.lean ====
section
/-! DEFINITION. The word types of the Zarmel 980 and the plain sparse table every large array of it is held in. -/

namespace Sys2Proof

/-- One byte. Byte 0 of a layout is at the lowest address and bit 0 is the least significant (R12). -/
abbrev Byte := BitVec 8

/-- A 64-bit register, field or address. -/
abbrev Word := BitVec 64

/-- A 64-byte line, chunk, descriptor, ring context or table context: byte k is bits [8k+7:8k] (R12). -/
abbrev Line := BitVec 512

/-- A sparse array: pairs of an index and what stands there, indexes strictly rising. -/
abbrev Tbl (α : Type) := List (Nat × α)

abbrev Port := BitVec 2
abbrev RingId := BitVec 12
abbrev Pos := BitVec 32
abbrev VoiceId := BitVec 12
abbrev SPort := BitVec 5
abbrev Tenant := BitVec 4
abbrev Dev := BitVec 6
abbrev Gallery := BitVec 5
abbrev TableId := BitVec 12
abbrev Handle := BitVec 20
abbrev SessionId := BitVec 32
abbrev Endpoint := BitVec 12

end Sys2Proof
end

