-- ==== Sys2Proof/Machine/Bits.lean ====
section
/-! DEFINITION. Bit fields, byte order and sparse tables: the plain helpers every layout of the spec is read with. -/

namespace Sys2Proof.Machine

/-! ## Sparse tables -/

/-- What stands at an index; `d` gives what an unlisted index reads as. -/
def tget {α : Type} (d : Nat → α) : Tbl α → Nat → α
  | [], k => d k
  | (a, v) :: t, k => if a = k then v else tget d t k

/-- Every index of the table lies above `lo`. -/
def tAbove {α : Type} (lo : Nat) : Tbl α → Bool
  | [] => true
  | (a, _) :: _ => decide (lo < a)

/-- The canonical form: indexes strictly rising, no entry equal to what an unlisted index reads as. -/
def twf {α : Type} [DecidableEq α] (d : Nat → α) : Tbl α → Bool
  | [] => true
  | (a, v) :: t => tAbove a t && decide (v ≠ d a) && twf d t

/-- Look up in a sparse array without a default. -/
def lget {α : Type} : Tbl α → Nat → Option α
  | [], _ => none
  | (a, v) :: t, k => if a = k then some v else lget t k

/-- Store in a sparse array without a default. -/
def lput {α : Type} : Tbl α → Nat → α → Tbl α
  | [], k, v => [(k, v)]
  | (a, w) :: t, k, v =>
    if a < k then (a, w) :: lput t k v else if a = k then (k, v) :: t else (k, v) :: (a, w) :: t

/-- Remove from a sparse array without a default. -/
def ldel {α : Type} (t : Tbl α) (k : Nat) : Tbl α := t.filter fun e => decide (e.1 ≠ k)

/-- Store at an index, keeping the canonical form: rising indexes, no entry equal to the default. -/
def tput {α : Type} [DecidableEq α] (d : Nat → α) (t : Tbl α) (k : Nat) (v : α) : Tbl α :=
  if v = d k then ldel t k else lput t k v

/-- Remove the entries with indexes in [lo, lo + n). -/
def tclear {α : Type} (lo n : Nat) (t : Tbl α) : Tbl α :=
  t.filter fun e => decide (e.1 < lo ∨ lo + n ≤ e.1)

/-- Rewrite every listed entry. -/
def tmap {α : Type} [DecidableEq α] (d : Nat → α) (f : Nat → α → α) (t : Tbl α) : Tbl α :=
  t.foldl (fun acc e => tput d acc e.1 (f e.1 e.2)) []

/-! ## Fields -/

/-- Bits [lo + n − 1 : lo] of a word, as a number. -/
def fld {w : Nat} (x : BitVec w) (lo n : Nat) : Nat := x.toNat / 2 ^ lo % 2 ^ n

/-- One bit. -/
def bit {w : Nat} (x : BitVec w) (i : Nat) : Bool := x.toNat / 2 ^ i % 2 == 1

/-- `x` with bits [lo + n − 1 : lo] replaced by the low bits of `v`. -/
def setFld {w : Nat} (x : BitVec w) (lo n : Nat) (v : Nat) : BitVec w :=
  BitVec.ofNat w (x.toNat - fld x lo n * 2 ^ lo + v % 2 ^ n * 2 ^ lo)

def b2n (b : Bool) : Nat := if b then 1 else 0

/-- ⌈a ÷ b⌉. -/
def ceilDiv (a b : Nat) : Nat := (a + b - 1) / b

/-- A 32-bit value sign-extended to 64 bits (R182). -/
def sext32 (x : BitVec 32) : Word := x.signExtend 64

/-! ## Byte strings, little-endian (R12) -/

/-- The `n` bytes of a number, least significant first. -/
def leBytes : Nat → Nat → List Byte
  | 0, _ => []
  | n + 1, x => BitVec.ofNat 8 (x % 256) :: leBytes n (x / 256)

/-- The number a byte string holds, least significant first. -/
def leNat : List Byte → Nat
  | [] => 0
  | b :: t => b.toNat + 256 * leNat t

/-- The 64 bytes of a line. -/
def lineBytes (l : Line) : List Byte := leBytes 64 l.toNat

def bytesLine (bs : List Byte) : Line := BitVec.ofNat 512 (leNat (bs.take 64))

/-- Bytes [i, i + n) of a byte string; past its end it reads 0. -/
def slice (bs : List Byte) (i n : Nat) : List Byte :=
  let t := (bs.drop i).take n
  t ++ List.replicate (n - t.length) 0

/-- The number at bytes [i, i + n) of a byte string. -/
def numAt (bs : List Byte) (i n : Nat) : Nat := leNat (slice bs i n)

/-- A byte string cut into 64-byte lines, the last padded with zeros. -/
def chop : Nat → List Byte → List Line
  | 0, _ => []
  | n + 1, bs => bytesLine bs :: chop n (bs.drop 64)

/-! ## Sets of devices as 64-bit masks -/

def maskHas (m : Word) (d : Nat) : Bool := bit m d

def maskDrop (m : Word) (d : Nat) : Word := m &&& ~~~(1#64 <<< d)

def maskAdd (m : Word) (d : Nat) : Word := m ||| (1#64 <<< d)

/-- The number of bits set below bit `n`. -/
def popBelow (m : Word) : Nat → Nat
  | 0 => 0
  | n + 1 => popBelow m n + b2n (bit m n)

def maskList (m : Word) : List Nat := (List.range 64).filter (bit m ·)

/-! ## Saturating counters (R88 and each block's register rule) -/

def satAdd (w : Nat) (x : Word) (n : Nat) : Word :=
  if 2 ^ w ≤ x.toNat + n then BitVec.ofNat 64 (2 ^ w - 1) else x + BitVec.ofNat 64 n

/-! ## Selecting from lists -/

/-- The least number below `n` that satisfies `p`. -/
def least (p : Nat → Bool) (n : Nat) : Option Nat := (List.range n).find? p

/-- Update the elements that satisfy `p`. -/
def mapIf {α : Type} (p : α → Bool) (f : α → α) (l : List α) : List α := l.map fun a => if p a then f a else a

/-- Remove the elements that satisfy `p`. -/
def dropIf {α : Type} (p : α → Bool) (l : List α) : List α := l.filter fun a => !p a

/-- Do two ranges of `n` and `m` places overlap? -/
def overlap (a n b m : Nat) : Bool := decide (a < b + m) && decide (b < a + n) && decide (0 < n) && decide (0 < m)

end Sys2Proof.Machine
end

