-- ==== Sys2Proof/Syntax.lean ====
section
/-! DEFINITION. The commands of the Zarmel 980: one constructor of Instr for each row of the opcode table, in its
order, with what the command carries from outside. -/

namespace Sys2Proof

/-- The instruction fields of R182 that an instruction names its operands with. -/
structure Fields where
  d : BitVec 5
  a : BitVec 5
  b : BitVec 5
  c : BitVec 5
  mod : BitVec 4
  imm : BitVec 32
deriving DecidableEq, Repr

/-- Why a DMA transfer ends part-way (R56). Poison does not end one. -/
inductive DmaFail where
  | translation | keyMismatch | extentRevoked | hostTimeout
deriving DecidableEq, Repr

/-- How a pool access or stream of a clause came back (R409), or a translation fault found at its target (R239
reasons 8 and 9). -/
inductive AccessEnd where
  | ok | keyMismatch | extentRevoked | timeout | poisoned | noFrame | refused8 | refused9
deriving DecidableEq, Repr

/-- A request header of the fabric with its data (R281, R283). `poison`: what it writes is poisoned (R342); no bit of the header says
so (log entry 187). -/
structure Req where
  nl : BitVec 2
  rot : Bool
  src : Endpoint
  agent : Gallery
  tenant : Tenant
  tag : BitVec 15
  tgt : Bool
  key : BitVec 24
  addr : Word
  data : List Line
  mask : Word
  operand : Word
  comparand : Word
  poison : Bool
deriving DecidableEq, Repr

/-- A response header of the fabric with its data (R282). -/
structure Rsp where
  nl : BitVec 2
  rot : Bool
  dst : Endpoint
  tag : BitVec 15
  stale : Bool
  status : Byte
  sector : BitVec 2
  overocc : Bool
  grant : BitVec 2
  fwd : Bool
  agent : Gallery
  from_ : Dev
  info : Word
  data : List Line
deriving DecidableEq, Repr

/-- A snoop header of the fabric (R282): requester, target gallery, OWNER. -/
structure Snp where
  rot : Bool
  requester : Endpoint
  agent : Gallery
  tag : BitVec 15
  target : Dev
  gallery : Gallery
  owner : Bool
  tenant : Tenant
  addr : Word
deriving DecidableEq, Repr

/-- What a home asks of a member of its shard set (R110). -/
inductive MemberKind where
  | fork | openView | discard | offer | undoFork | undoOpen | undoDiscard | undoOffer
deriving DecidableEq, Repr

/-- A member operation as it travels from the home (R110): the named session, the new one, the fields a new entry
starts with, and the device that sent it. -/
structure MemberOp where
  kind : MemberKind
  session : SessionId
  child : SessionId
  version : BitVec 32
  pub : BitVec 21
  home : Dev
deriving DecidableEq, Repr

/-- What a pull asks for (R111, R128): an entry, or one page of one layer. -/
inductive PullKind where
  | entry | page (layer : Byte) (page : BitVec 12)
deriving DecidableEq, Repr

/-- What a device learns of a session from an entry that another holds (R99): the fields that are the same on every device of a
set, and where a REMOTE session's pages are pulled from. -/
structure EntryInfo where
  version : BitVec 32
  pub : BitVec 21
  tenant : Tenant
  kvfmt : BitVec 4
  layers : Byte
  hdim : BitVec 2
  kvh : BitVec 4
  epoch : BitVec 32
  view : Bool
  parent : SessionId
  parentVersion : BitVec 32
  remote : Bool
  peer : Dev
  peerId : SessionId
  peerMask : Word
  lost : Bool
deriving DecidableEq, Repr

/-- An answer to a pull: what the entry says, a page's bytes, a page that does not agree with its CRCs or is poisoned (R105), or a
refusal (R111, R128). `last`: the receiving pool holds every page on every member (log entry 100). -/
inductive PullAnswer where
  | entry (id : SessionId) (info : EntryInfo)
  | page (layer : Byte) (page : BitVec 12) (fill : BitVec 16) (bytes : List Byte)
  | poisoned
  | last
  | refused
deriving DecidableEq, Repr

/-- What a refusal of CLAIM or COMMIT carries (R127): the sending home's epoch, and whether the session it names is gone (R108). -/
structure ClaimRefusal where
  epoch : BitVec 32
  stale : Bool
deriving DecidableEq, Repr

/-- A lease as its home answers it (R122, R130): handoff phase, epoch and peer; `lost`: its session is LOST. -/
structure Lease where
  handoff : Bool
  lost : Bool
  phase : BitVec 2
  epoch : BitVec 32
  peer : Dev
deriving DecidableEq, Repr

/-- What a drive command did (R211, R215). -/
inductive DriveEnd where
  | ok | mediaError (units : BitVec 16)
deriving DecidableEq, Repr

/-- A firmware image as the Keeper finds it (R322): its bytes, header to signature, and whether its signing key chains to the fused root
and its signature verifies. -/
structure Image where
  genuine : Bool
  bytes : List Byte
deriving DecidableEq, Repr, Inhabited

/-- The population of one DDR channel and whether it trains (R208, R209). -/
structure DdrPop where
  modules : BitVec 2
  size : BitVec 3
  mrdimm : Bool
  trains : Bool
deriving DecidableEq, Repr

/-- What the drive of one NVMe port reports at qualification (R212): whether its link trained, whether it answers, whether the 4 KiB format
is active on namespace 1, its largest transfer in KiB, its I/O queues, whether deallocated blocks read as zeros, and the whole 64 KiB
granules of its namespace. -/
structure DrivePop where
  present : Bool
  responds : Bool
  format4k : Bool
  transferKib : BitVec 16
  ioQueues : BitVec 17
  zeros : Bool
  granules : BitVec 32
deriving DecidableEq, Repr

/-- What boot and bring-up find (R323, R376): whether another device holds the SPI bus (FLASH_EXT_N low, R403), the images of
copies A and B and the certificate chain, the DIMMs and the drives. -/
structure BringUp where
  flashHeld : Bool
  keeperA : Image
  coreA : Image
  keeperB : Image
  coreB : Image
  chain : List Byte
  ddr : List DdrPop
  nvme : List DrivePop
deriving DecidableEq, Repr

/-- One sample of the sensors and of the input (R363): whole °C, mV, mA, W averaged over 1 ms. -/
structure Sample where
  gallery : List Byte
  io : List Byte
  stack : List Byte
  ddr : List Byte
  vin : BitVec 16
  iin : BitVec 16
  watts : BitVec 11
deriving DecidableEq, Repr

/-- What a configuration read names (R27): the largest payload or read request, the completion timeout ranges, whether that timeout can be
disabled, a BAR after all ones were written to it, the bits of a capability that R27 does not list as supported, or a register of which
R27 says nothing. -/
inductive CfgItem where
  | maxPayload | maxReadRequest | timeoutRanges | timeoutDisable | barSize (bar : BitVec 3) | unsupported | reg (off : BitVec 12)
deriving DecidableEq, Repr

/-- What a host's configuration request asks (R27, R376): read a register, or set Bus Master Enable. -/
inductive CfgReq where
  | read (item : CfgItem) | busMaster (on : Bool)
deriving DecidableEq, Repr

/-- A management message's function (R283, R298). -/
inductive MgBody where
  | keeper (bytes : List Byte) | other (bytes : List Byte)
deriving DecidableEq, Repr

inductive Instr where
  -- set-up space and rings
  | setupRegisterWrite (port : Port) (off : BitVec 26) (size : Nat) (value : Word)
  | ringCreate (port : Port) (ring : RingId)
  | ringDestroy (port : Port) (ring : RingId)
  | ringStop (port : Port) (ring : RingId)
  | ringResume (port : Port) (ring : RingId)
  | ringRead (port : Port) (ring : RingId)
  | ringCommandComplete
  | dbSqTail (ring : RingId) (value : BitVec 32)
  | dbCqHead (ring : RingId) (value : BitVec 32)
  | descriptorFetch (ring : RingId)
  | descriptorFetched (ring : RingId) (descs : List Line) (fault : Bool)
  | descriptorPrecheckComplete (ring : RingId) (pos : Pos)
  | completionRecordWriteFault (ring : RingId)
  | coalesceTimerExpiry (ring : RingId)
  | msixUnmask (port : Port) (vector : BitVec 11)
  | msixEnable (port : Port)
  -- DMA
  | dmaCopy (ring : RingId) (pos : Pos)
  | dmaFill (ring : RingId) (pos : Pos)
  | dmaNop (ring : RingId) (pos : Pos)
  | dmaDescriptorComplete (ring : RingId) (src : List Byte) (bad : List Nat)
  | dmaTransferFailure (ring : RingId) (why : DmaFail) (written : Nat) (src : List Byte)
  | pcieCompletionTimeout (ring : RingId) (pos : Pos)
  -- the rotation
  | rotationStart
  | bindPhase
  | launchPhase
  | clauseWindowStart (v : VoiceId)
  | clauseWindowEnd (v : VoiceId) (waited bound : BitVec 32) (exceeded overran : Bool)
  | closePhase (load : BitVec 7) (overran : Bool)
  | guardPhase
  | rotChangeAt (port : Port) (value : Word)
  | bookLoad (port : Port) (book : BitVec 2)
  | bookUnload (port : Port) (book : BitVec 2)
  | bookLoadComplete
  | rotRunSet (port : Port) (root standby : Bool)
  | rotRunClear (port : Port) (root standby : Bool)
  | beaconReceived (p : SPort) (number : Word) (period : BitVec 9) (root : Dev) (hops : Byte) (err : Int)
  | beaconMissed
  | holdoverExpiry
  | standbyRootTakeover
  | firstBeaconWaitExpiry
  -- sessions
  | sessCreate (ring : RingId) (pos : Pos)
  | append (ring : RingId) (pos : Pos) (rows : List Byte)
  | publish (ring : RingId) (pos : Pos)
  | fork (ring : RingId) (pos : Pos)
  | sessOpen (ring : RingId) (pos : Pos)
  | discard (ring : RingId) (pos : Pos)
  | offer (ring : RingId) (pos : Pos)
  | accept (ring : RingId) (pos : Pos)
  | sessQuery (ring : RingId) (pos : Pos)
  | wake (ring : RingId) (pos : Pos)
  | memberOperation (op : MemberOp)
  | memberAck (session : SessionId) (dev : Dev)
  | sessionMemberTimeout (session : SessionId) (dev : Dev)
  | pull (from_ : Dev) (session : SessionId) (epoch : BitVec 32) (what : PullKind)
  | pullResponse (session : SessionId) (answer : PullAnswer)
  | pullTimeout (session : SessionId)
  | claim (session : SessionId) (epoch : BitVec 32) (peer : Dev) (peerId : SessionId) (peerMask : Word)
  | handoffGrant (peer : Dev) (peerId : SessionId) (epoch : BitVec 32) (mask : Word) (info : EntryInfo)
  | commit (session : SessionId) (epoch : BitVec 32) (peer : Dev)
  | commitAck (peer : Dev) (peerId : SessionId)
  | commitTimeout (peer : Dev) (peerId : SessionId)
  | leaseReadTimeout (peer : Dev) (peerId : SessionId)
  | leaseResolve (session : SessionId) (lease : Lease)
  | release (session : SessionId) (epoch : BitVec 32) (peer : Dev)
  | handoffTimerExpiry (handle : Handle)
  | releaseWaitExpiry (handle : Handle)
  | sessionIdleExpiry (handle : Handle)
  | reclamationProgress
  -- attention
  | attnQuery (ring : RingId) (pos : Pos) (block : List Byte)
  | attAbftInject (port : Port) (value : BitVec 32)
  -- embedding
  | define (port : Port) (table : TableId)
  | retire (port : Port) (table : TableId)
  | tableRead (port : Port) (table : TableId)
  | tableZeroingComplete
  | lookup (ring : RingId) (pos : Pos) (idx off : List (BitVec 32))
  | lookahead (ring : RingId) (pos : Pos) (idx : List (BitVec 32))
  | grad (ring : RingId) (pos : Pos) (idx : List (BitVec 32)) (gsrc : List Byte)
  | close (ring : RingId) (pos : Pos)
  | abandon (ring : RingId) (pos : Pos)
  | reversalComplete (ring : RingId) (pos : Pos) (readOk : Bool)
  | closeInstallComplete (table : TableId)
  -- scalar integer instructions
  | nop (v : VoiceId) (f : Fields)
  | add (v : VoiceId) (f : Fields)
  | sub (v : VoiceId) (f : Fields)
  | and (v : VoiceId) (f : Fields)
  | or (v : VoiceId) (f : Fields)
  | xor (v : VoiceId) (f : Fields)
  | shl (v : VoiceId) (f : Fields)
  | shr (v : VoiceId) (f : Fields)
  | sra (v : VoiceId) (f : Fields)
  | mul (v : VoiceId) (f : Fields)
  | mulh (v : VoiceId) (f : Fields)
  | min (v : VoiceId) (f : Fields)
  | max (v : VoiceId) (f : Fields)
  | slt (v : VoiceId) (f : Fields)
  | sltu (v : VoiceId) (f : Fields)
  | li (v : VoiceId) (f : Fields)
  | lih (v : VoiceId) (f : Fields)
  | addImm (v : VoiceId) (f : Fields)
  | subImm (v : VoiceId) (f : Fields)
  | andImm (v : VoiceId) (f : Fields)
  | orImm (v : VoiceId) (f : Fields)
  | xorImm (v : VoiceId) (f : Fields)
  | shlImm (v : VoiceId) (f : Fields)
  | shrImm (v : VoiceId) (f : Fields)
  | sraImm (v : VoiceId) (f : Fields)
  | mulImm (v : VoiceId) (f : Fields)
  | mulhImm (v : VoiceId) (f : Fields)
  | minImm (v : VoiceId) (f : Fields)
  | maxImm (v : VoiceId) (f : Fields)
  | sltImm (v : VoiceId) (f : Fields)
  | sltuImm (v : VoiceId) (f : Fields)
  -- scalar fp32 and control
  | fadd (v : VoiceId) (f : Fields)
  | fsub (v : VoiceId) (f : Fields)
  | fmul (v : VoiceId) (f : Fields)
  | ffma (v : VoiceId) (f : Fields)
  | fdiv (v : VoiceId) (f : Fields)
  | fsqrt (v : VoiceId) (f : Fields)
  | fmin (v : VoiceId) (f : Fields)
  | fmax (v : VoiceId) (f : Fields)
  | fcvti (v : VoiceId) (f : Fields)
  | icvtf (v : VoiceId) (f : Fields)
  | beq (v : VoiceId) (f : Fields)
  | bne (v : VoiceId) (f : Fields)
  | blt (v : VoiceId) (f : Fields)
  | bge (v : VoiceId) (f : Fields)
  | jmp (v : VoiceId) (f : Fields)
  | halt (v : VoiceId) (f : Fields)
  -- vector
  | vadd (v : VoiceId) (f : Fields)
  | vsub (v : VoiceId) (f : Fields)
  | vmul (v : VoiceId) (f : Fields)
  | vfma (v : VoiceId) (f : Fields)
  | vmin (v : VoiceId) (f : Fields)
  | vmax (v : VoiceId) (f : Fields)
  | vand (v : VoiceId) (f : Fields)
  | vor (v : VoiceId) (f : Fields)
  | vxor (v : VoiceId) (f : Fields)
  | vsel (v : VoiceId) (f : Fields)
  | vbcast (v : VoiceId) (f : Fields)
  | vredsum (v : VoiceId) (f : Fields)
  | vredmax (v : VoiceId) (f : Fields)
  | vperm (v : VoiceId) (f : Fields)
  | vcvt (v : VoiceId) (f : Fields)
  | vexp2 (v : VoiceId) (f : Fields)
  | vdiv (v : VoiceId) (f : Fields)
  | vsqrt (v : VoiceId) (f : Fields)
  | vcmp (v : VoiceId) (f : Fields)
  -- array
  | amm (v : VoiceId) (f : Fields)
  | ammComplete (core : BitVec 9) (checks : Bool)
  | azero (v : VoiceId) (f : Fields)
  | astore (v : VoiceId) (f : Fields)
  | aload (v : VoiceId) (f : Fields)
  -- scratchpad and streams
  | lds (v : VoiceId) (f : Fields)
  | sts (v : VoiceId) (f : Fields)
  | vlds (v : VoiceId) (f : Fields)
  | vsts (v : VoiceId) (f : Fields)
  | stream (v : VoiceId) (f : Fields)
  | swait (v : VoiceId) (f : Fields)
  | streamTileBegin (v : VoiceId) (token : Word)
  | streamComplete (v : VoiceId) (token : Word) (how : AccessEnd) (exceeded : Bool) (hops : Byte) (measured bound : BitVec 32)
  -- pool accesses
  | ld (v : VoiceId) (f : Fields)
  | st (v : VoiceId) (f : Fields)
  | vld (v : VoiceId) (f : Fields)
  | vst (v : VoiceId) (f : Fields)
  | ldv (v : VoiceId) (f : Fields)
  | vldv (v : VoiceId) (f : Fields)
  | linv (v : VoiceId) (f : Fields)
  | aadd (v : VoiceId) (f : Fields)
  | aswp (v : VoiceId) (f : Fields)
  | acas (v : VoiceId) (f : Fields)
  | amin (v : VoiceId) (f : Fields)
  | amax (v : VoiceId) (f : Fields)
  | alda (v : VoiceId) (f : Fields)
  | astr (v : VoiceId) (f : Fields)
  | fence (v : VoiceId) (f : Fields)
  | poolAccessComplete (v : VoiceId) (slot : BitVec 2) (measured bound : BitVec 32)
  -- tiers
  | tierEnable (port : Port) (promote : Bool)
  | tierReady
  | nvmeCommandComplete (drive : BitVec 3) (granule : BitVec 48) (how : DriveEnd)
  | nvmeCommandTimeout (drive : BitVec 3)
  | driveResetTimeout (drive : BitVec 3)
  | fillComplete (granule : BitVec 34)
  | frameWaitTimeout (granule : BitVec 34)
  | ageExamination
  | copyPassComplete (granule : BitVec 34)
  | writebackStart (granule : BitVec 34)
  | patrolScrubStep (line : BitVec 44) (corrected uncorrectable : Bool)
  -- translation
  | ptwrite (ring : RingId) (pos : Pos) (src : List Byte)
  | inval (ring : RingId) (pos : Pos)
  | setroot (ring : RingId) (pos : Pos)
  | ptwriteBroadcast (from_ : Dev) (off : BitVec 32) (bytes : List Byte)
  | invalForward (from_ : Dev) (tenant : Tenant) (all : Bool) (addr len : Word) (root : Option (BitVec 32))
  | invalConfirm (ring : RingId) (dev : Dev)
  | invalConfirmTimeout (ring : RingId)
  | walkEntryRead (walk : BitVec 7)
  -- weight regions
  | regionValidSet (port : Port) (region : BitVec 6) (value : BitVec 32)
  | regionValidClear (port : Port) (region : BitVec 6) (value : BitVec 32)
  | regionMeasured (region : BitVec 6)
  | weightBlockExpanded (region : BitVec 6) (block : BitVec 32)
  -- Sprinoucel links
  | flitReceived (p : SPort) (flit : BitVec 2048) (correctable : Bool)
  | replayTimerExpiry (p : SPort)
  | signalDetect (p : SPort)
  | trainComplete (p : SPort) (delay : BitVec 11)
  | trainTimeout (p : SPort)
  | trainRetryTimer (p : SPort)
  | keyExchangeComplete (p : SPort) (level : Byte)
  | keyExchangeTimeout (p : SPort)
  | retrainTimeout (p : SPort)
  | signalLost (p : SPort)
  | portReset (port : Port) (p : SPort)
  | portRetrain (port : Port) (p : SPort)
  -- coherence and messages
  | rdS (via : SPort) (r : Req)
  | rdX (via : SPort) (r : Req)
  | upg (via : SPort) (r : Req)
  | rdNc (via : SPort) (r : Req)
  | wrC (via : SPort) (r : Req)
  | wrCm (via : SPort) (r : Req)
  | wrNs (via : SPort) (r : Req)
  | atAdd (via : SPort) (r : Req)
  | atSwp (via : SPort) (r : Req)
  | atCas (via : SPort) (r : Req)
  | atMin (via : SPort) (r : Req)
  | atMax (via : SPort) (r : Req)
  | evict (via : SPort) (r : Req)
  | snInv (via : SPort) (r : Snp)
  | snFwdS (via : SPort) (r : Snp)
  | snFwdX (via : SPort) (r : Snp)
  | snRecall (via : SPort) (r : Snp)
  | snRecallX (via : SPort) (r : Snp)
  | data (via : SPort) (r : Rsp)
  | cmp (via : SPort) (r : Rsp)
  | snAck (via : SPort) (r : Rsp)
  | snData (via : SPort) (r : Rsp)
  | wbPull (via : SPort) (r : Rsp)
  | wbData (via : SPort) (r : Rsp)
  | atData (via : SPort) (r : Rsp)
  | mg (via : SPort) (src : Endpoint) (tag : BitVec 15) (body : MgBody)
  | snoopTimeout (line : BitVec 44) (dev : Dev) (gallery : Gallery)
  | victimBufferTimeout (gallery : Gallery) (line : BitVec 50)
  | remoteRequestTimeout (tag : BitVec 15)
  | tagQuarantineExpiry (tag : BitVec 15)
  -- pool sharing
  | mark (ring : RingId) (pos : Pos)
  | unmark (ring : RingId) (pos : Pos)
  | grant (ring : RingId) (pos : Pos)
  | revoke (ring : RingId) (pos : Pos)
  | poolQuery (ring : RingId) (pos : Pos)
  | setmode (ring : RingId) (pos : Pos)
  | setmodeDrained (port : Port)
  | revokeTimerExpiry (ring : RingId) (pos : Pos)
  | directorySweepComplete (ring : RingId) (pos : Pos)
  | cxlMemRead (port : Port) (hpa : Word) (copy : BitVec 2) (tag : BitVec 16)
  | cxlMemWrite (port : Port) (hpa : Word) (data : Line) (tag : BitVec 16)
  | tokenAdmit (port : Port)
  | throttleHoldExpiry (port : Port)
  | birsp (port : Port) (line : BitVec 44) (dirty : Bool) (data : Line)
  | backInvalidateTimeout (port : Port) (line : BitVec 44)
  | hdmDecoderCommit (port : Port) (decoder : BitVec 4) (base size : Word) (ways : BitVec 4) (bi : Bool)
      (commit : Bool)
  | hostConfigRequest (port : Port) (req : CfgReq)
  -- the Keeper
  | sealKeeper (port : Port)
  | anchor (port : Port) (t : Tenant)
  | switch (port : Port) (t : Tenant) (erase : Bool)
  | switchComplete (t : Tenant)
  | fwStage (port : Port) (keeper core : Bool)
  | commitSvn (port : Port)
  | kprCommandComplete
  | mailboxSend (port : Port) (len : BitVec 32)
  | mailboxRxAck (port : Port) (value : BitVec 32)
  | getVersion (binding : BitVec 3) (body : List Byte)
  | getCapabilities (binding : BitVec 3) (body : List Byte)
  | negotiateAlgorithms (binding : BitVec 3) (body : List Byte) (common : Bool)
  | getDigests (binding : BitVec 3) (body : List Byte)
  | getCertificate (binding : BitVec 3) (slot : Byte) (body : List Byte)
  | challenge (binding : BitVec 3) (slot : Byte) (body : List Byte)
  | getMeasurements (binding : BitVec 3) (session : Option (BitVec 2)) (index : Byte) (signed : Bool)
      (body : List Byte)
  | keyExchange (binding : BitVec 3) (body : List Byte)
  | finish (session : BitVec 2) (mutually : Bool) (rootDigest : BitVec 384) (verified : Bool)
  | heartbeat (session : BitVec 2)
  | keyUpdate (session : BitVec 2) (body : List Byte)
  | endSession (session : BitVec 2)
  | chunkSend (binding : BitVec 3) (handle : Byte) (seq : BitVec 16) (last : Bool) (body : List Byte)
  | chunkGet (binding : BitVec 3) (handle : Byte) (seq : BitVec 16)
  | keyInstall (session : BitVec 2) (payload : List Byte)
  | keyDestroy (session : BitVec 2) (payload : List Byte)
  | setEndpointId (binding : BitVec 3) (eid : Byte)
  | getEndpointId (binding : BitVec 3)
  | getMctpVersionSupport (binding : BitVec 3) (msgType : Byte)
  | getMessageTypeSupport (binding : BitVec 3)
  | unsupportedMctpCommand (binding : BitVec 3) (command : Byte)
  | pldmRequest (binding : BitVec 3) (sensor : BitVec 16) (body : List Byte)
  | keeperReconciliation (differ : List (BitVec 4 × BitVec 16)) (failed : List (BitVec 4 × BitVec 16))
  | fenceTimeout (cls : BitVec 4) (unit : BitVec 16)
  | proxyTimeout
  -- errors
  | jobReset (port : Port)
  | jobResetComplete
  | fog (port : Port)
  | fogEntryComplete
  | rasAck (port : Port) (seq : BitVec 32)
  | rasInject (port : Port) (value : BitVec 32)
  | rasLogBaseWrite (port : Port) (value : Word)
  | relief (ring : RingId) (pos : Pos)
  -- power, clocks, reset and pins
  | dark (port : Port)
  | darkEntryComplete
  | pwrWake (port : Port)
  | wakeComplete
  | cold (port : Port)
  | resetNAssert
  | resetNRelease (b : BringUp)
  | powerOn (b : BringUp)
  | vinLockout
  | vinMargin (inside : Bool)
  | sensorSample (x : Sample)
  | throttleClearExpiry
  | refclkSysLost
  | refclkSysRestored (b : BringUp)
  | refclkFabLost
  | perstAssert (port : Port)
  | perstDeassert (port : Port)
  | hostLinkDown (port : Port)
  | flashExtRelease (b : BringUp)
  | tapBypass
  | tapIdcode
  | tapSamplePreload
  | tapExtest (cells : Word)
  | trstAssert
  | hostL1Exit (port : Port)
  | idleLinkMessage (p : SPort)
  | hostLinkTrained (port : Port)
  | codewordAlignmentLost (p : SPort)
  | nvmeControllerReady (drive : BitVec 3)
  | nvmeControllerResetTimeout (drive : BitVec 3)
  | nvmePerstPulseEnd (drive : BitVec 3)
  | claimRefused (peer : Dev) (peerId : SessionId) (why : ClaimRefusal)
  | leaseReadAnswer (peer : Dev) (peerId : SessionId) (lease : Lease)
deriving DecidableEq, Repr

end Sys2Proof
end

