-- ==== Sys2Proof/Decode.lean ====
section
/-! DEFINITION. Decoding: no row of the table gives bits, so a table word spells no command; and the 64-bit words of
clause code, the one encoding the spec gives instructions (R182, R183), read and written. -/

namespace Sys2Proof

/-- The command a table word spells: none, since no row of the table has bits. -/
def decodeTableWord (_nbits _w : Nat) : Option Instr := none

namespace Machine

/-- OPCODE = 32 × CLASS + FUNC and the fields of an instruction word (R182). -/
def coreWord (op : BitVec 8) (f : Fields) : Word := f.imm ++ f.mod ++ f.c ++ f.b ++ f.a ++ f.d ++ op

def coreOpcode (w : Word) : BitVec 8 := w.extractLsb' 0 8

def coreFields (w : Word) : Fields :=
  { d := w.extractLsb' 8 5, a := w.extractLsb' 13 5, b := w.extractLsb' 18 5, c := w.extractLsb' 23 5,
    mod := w.extractLsb' 28 4, imm := w.extractLsb' 32 32 }

/-- The instruction an opcode names (R183); every other opcode is reserved. -/
def coreInstr (op : BitVec 8) (v : VoiceId) (f : Fields) : Option Instr :=
  match op with
  | 0x00 => some (.nop v f)
  | 0x01 => some (.add v f)
  | 0x02 => some (.sub v f)
  | 0x03 => some (.and v f)
  | 0x04 => some (.or v f)
  | 0x05 => some (.xor v f)
  | 0x06 => some (.shl v f)
  | 0x07 => some (.shr v f)
  | 0x08 => some (.sra v f)
  | 0x09 => some (.mul v f)
  | 0x0A => some (.mulh v f)
  | 0x0B => some (.min v f)
  | 0x0C => some (.max v f)
  | 0x0D => some (.slt v f)
  | 0x0E => some (.sltu v f)
  | 0x0F => some (.li v f)
  | 0x10 => some (.lih v f)
  | 0x11 => some (.addImm v f)
  | 0x12 => some (.subImm v f)
  | 0x13 => some (.andImm v f)
  | 0x14 => some (.orImm v f)
  | 0x15 => some (.xorImm v f)
  | 0x16 => some (.shlImm v f)
  | 0x17 => some (.shrImm v f)
  | 0x18 => some (.sraImm v f)
  | 0x19 => some (.mulImm v f)
  | 0x1A => some (.mulhImm v f)
  | 0x1B => some (.minImm v f)
  | 0x1C => some (.maxImm v f)
  | 0x1D => some (.sltImm v f)
  | 0x1E => some (.sltuImm v f)
  | 0x20 => some (.fadd v f)
  | 0x21 => some (.fsub v f)
  | 0x22 => some (.fmul v f)
  | 0x23 => some (.ffma v f)
  | 0x24 => some (.fdiv v f)
  | 0x25 => some (.fsqrt v f)
  | 0x26 => some (.fmin v f)
  | 0x27 => some (.fmax v f)
  | 0x28 => some (.fcvti v f)
  | 0x29 => some (.icvtf v f)
  | 0x30 => some (.beq v f)
  | 0x31 => some (.bne v f)
  | 0x32 => some (.blt v f)
  | 0x33 => some (.bge v f)
  | 0x34 => some (.jmp v f)
  | 0x3F => some (.halt v f)
  | 0x40 => some (.vadd v f)
  | 0x41 => some (.vsub v f)
  | 0x42 => some (.vmul v f)
  | 0x43 => some (.vfma v f)
  | 0x44 => some (.vmin v f)
  | 0x45 => some (.vmax v f)
  | 0x46 => some (.vand v f)
  | 0x47 => some (.vor v f)
  | 0x48 => some (.vxor v f)
  | 0x49 => some (.vsel v f)
  | 0x4A => some (.vbcast v f)
  | 0x4B => some (.vredsum v f)
  | 0x4C => some (.vredmax v f)
  | 0x4D => some (.vperm v f)
  | 0x60 => some (.vcvt v f)
  | 0x61 => some (.vexp2 v f)
  | 0x62 => some (.vdiv v f)
  | 0x63 => some (.vsqrt v f)
  | 0x64 => some (.vcmp v f)
  | 0x80 => some (.amm v f)
  | 0x81 => some (.azero v f)
  | 0x82 => some (.astore v f)
  | 0x83 => some (.aload v f)
  | 0xA0 => some (.lds v f)
  | 0xA1 => some (.sts v f)
  | 0xA2 => some (.vlds v f)
  | 0xA3 => some (.vsts v f)
  | 0xA4 => some (.stream v f)
  | 0xA5 => some (.swait v f)
  | 0xC0 => some (.ld v f)
  | 0xC1 => some (.st v f)
  | 0xC2 => some (.vld v f)
  | 0xC3 => some (.vst v f)
  | 0xC4 => some (.ldv v f)
  | 0xC5 => some (.vldv v f)
  | 0xC6 => some (.linv v f)
  | 0xC8 => some (.aadd v f)
  | 0xC9 => some (.aswp v f)
  | 0xCA => some (.acas v f)
  | 0xCB => some (.amin v f)
  | 0xCC => some (.amax v f)
  | 0xCD => some (.alda v f)
  | 0xCE => some (.astr v f)
  | 0xE0 => some (.fence v f)
  | _ => none

/-- The instruction voice v issues for a word of clause code; none for a reserved opcode, which faults it (R185). -/
def decodeCore (v : VoiceId) (w : Word) : Option Instr := coreInstr (coreOpcode w) v (coreFields w)

/-- The opcode, voice and fields of a core instruction; none for every other command. -/
def coreParts : Instr → Option (BitVec 8 × VoiceId × Fields)
  | .nop v f => some (0x00, v, f)
  | .add v f => some (0x01, v, f)
  | .sub v f => some (0x02, v, f)
  | .and v f => some (0x03, v, f)
  | .or v f => some (0x04, v, f)
  | .xor v f => some (0x05, v, f)
  | .shl v f => some (0x06, v, f)
  | .shr v f => some (0x07, v, f)
  | .sra v f => some (0x08, v, f)
  | .mul v f => some (0x09, v, f)
  | .mulh v f => some (0x0A, v, f)
  | .min v f => some (0x0B, v, f)
  | .max v f => some (0x0C, v, f)
  | .slt v f => some (0x0D, v, f)
  | .sltu v f => some (0x0E, v, f)
  | .li v f => some (0x0F, v, f)
  | .lih v f => some (0x10, v, f)
  | .addImm v f => some (0x11, v, f)
  | .subImm v f => some (0x12, v, f)
  | .andImm v f => some (0x13, v, f)
  | .orImm v f => some (0x14, v, f)
  | .xorImm v f => some (0x15, v, f)
  | .shlImm v f => some (0x16, v, f)
  | .shrImm v f => some (0x17, v, f)
  | .sraImm v f => some (0x18, v, f)
  | .mulImm v f => some (0x19, v, f)
  | .mulhImm v f => some (0x1A, v, f)
  | .minImm v f => some (0x1B, v, f)
  | .maxImm v f => some (0x1C, v, f)
  | .sltImm v f => some (0x1D, v, f)
  | .sltuImm v f => some (0x1E, v, f)
  | .fadd v f => some (0x20, v, f)
  | .fsub v f => some (0x21, v, f)
  | .fmul v f => some (0x22, v, f)
  | .ffma v f => some (0x23, v, f)
  | .fdiv v f => some (0x24, v, f)
  | .fsqrt v f => some (0x25, v, f)
  | .fmin v f => some (0x26, v, f)
  | .fmax v f => some (0x27, v, f)
  | .fcvti v f => some (0x28, v, f)
  | .icvtf v f => some (0x29, v, f)
  | .beq v f => some (0x30, v, f)
  | .bne v f => some (0x31, v, f)
  | .blt v f => some (0x32, v, f)
  | .bge v f => some (0x33, v, f)
  | .jmp v f => some (0x34, v, f)
  | .halt v f => some (0x3F, v, f)
  | .vadd v f => some (0x40, v, f)
  | .vsub v f => some (0x41, v, f)
  | .vmul v f => some (0x42, v, f)
  | .vfma v f => some (0x43, v, f)
  | .vmin v f => some (0x44, v, f)
  | .vmax v f => some (0x45, v, f)
  | .vand v f => some (0x46, v, f)
  | .vor v f => some (0x47, v, f)
  | .vxor v f => some (0x48, v, f)
  | .vsel v f => some (0x49, v, f)
  | .vbcast v f => some (0x4A, v, f)
  | .vredsum v f => some (0x4B, v, f)
  | .vredmax v f => some (0x4C, v, f)
  | .vperm v f => some (0x4D, v, f)
  | .vcvt v f => some (0x60, v, f)
  | .vexp2 v f => some (0x61, v, f)
  | .vdiv v f => some (0x62, v, f)
  | .vsqrt v f => some (0x63, v, f)
  | .vcmp v f => some (0x64, v, f)
  | .amm v f => some (0x80, v, f)
  | .azero v f => some (0x81, v, f)
  | .astore v f => some (0x82, v, f)
  | .aload v f => some (0x83, v, f)
  | .lds v f => some (0xA0, v, f)
  | .sts v f => some (0xA1, v, f)
  | .vlds v f => some (0xA2, v, f)
  | .vsts v f => some (0xA3, v, f)
  | .stream v f => some (0xA4, v, f)
  | .swait v f => some (0xA5, v, f)
  | .ld v f => some (0xC0, v, f)
  | .st v f => some (0xC1, v, f)
  | .vld v f => some (0xC2, v, f)
  | .vst v f => some (0xC3, v, f)
  | .ldv v f => some (0xC4, v, f)
  | .vldv v f => some (0xC5, v, f)
  | .linv v f => some (0xC6, v, f)
  | .aadd v f => some (0xC8, v, f)
  | .aswp v f => some (0xC9, v, f)
  | .acas v f => some (0xCA, v, f)
  | .amin v f => some (0xCB, v, f)
  | .amax v f => some (0xCC, v, f)
  | .alda v f => some (0xCD, v, f)
  | .astr v f => some (0xCE, v, f)
  | .fence v f => some (0xE0, v, f)
  | _ => none

/-- The word of clause code a core instruction is encoded as (R182, R183). -/
def encodeCore (i : Instr) : Option Word := (coreParts i).map fun p => coreWord p.1 p.2.2

end Machine

end Sys2Proof
end

