-- ==== Sys2Proof/Config.lean ====
section
/-! DEFINITION. What no command changes and no rule of the spec computes: free values, which have no body, and the
functions other standards define (SHA-384, AES-GCM, SPDM and PLDM message bodies), which are opaque here. -/

namespace Sys2Proof

/-- A value the spec leaves open, drawn by the state's counter `free` (log entry 4). -/
opaque Config.freeWord : Nat → Word

/-- The byte read from a pool offset whose line was written under another key (R336): key written under, key read
under, offset (log entry 18). -/
opaque Config.wrongKeyByte : Nat → Nat → Nat → Byte

/-- The sign and payload of a NaN result the spec does not choose: format width, operands (log entry 35). -/
opaque Config.nanChoice : Nat → List Nat → Nat

/-- Bits [63:32] of an x register that an fp32 result is written to: the result (log entry 36). -/
opaque Config.fpHigh : BitVec 32 → BitVec 32

/-- Does VSEL take the lane of its first source? Lane format and the bits of the selecting lane (log entry 37). -/
opaque Config.selLane : Nat → Nat → Bool

/-- The index VPERM makes of a lane of its second source: lane format and the lane's bits (log entry 37). -/
opaque Config.permLane : Nat → Nat → Nat

/-- Does VBCAST take its scalar from an x register (else from lane 0 of a v register)? (log entry 37) -/
opaque Config.bcastX : Bool

/-- A lane of a vector result that the spec does not state: opcode, lane format, place, operand bits (log entry 37). -/
opaque Config.freeLane : Nat → Nat → Nat → List Nat → Nat

/-- The set of a gallery cache's 8,192 in which a line lies: bank and set (R188; log entry 192). -/
opaque Config.cacheSet : Nat → BitVec 13

/-- What bytes 88 to 95 of a FREE frame's record hold (R101; log entry 197). -/
opaque Config.freeRunLink : Nat → Word

/-- Hops between two devices other than this one, which their SMF_ROUTE registers hold (R289; log entry 39). -/
opaque Config.hops : Nat → Nat → Nat

/-- Up to which 4 KiB unit a pass of a granule's copy has come at a time: granule, passes made, time (R221; log entry 23). -/
opaque Config.unitsCopied : Nat → Nat → Nat → Nat

/-- The near frame that holds a granule of the reserved region (R207, R228; log entry 206). -/
opaque Config.reservedFrame : Nat → Nat

/-- The sub-channel of the first line of a far unit (R210; log entry 206). -/
opaque Config.firstSub : Nat

/-- Where boot puts the mark table: POOL_MARK_BASE (R320; log entry 40). -/
opaque Config.markBase : Word

/-- How many data chunks follow the header of a management message: what its function makes them (R283; log entry 201). -/
opaque Config.mgLength : BitVec 128 → Nat

/-- A data chunk of a management message: draw, place (R283; log entry 201). -/
opaque Config.mgChunk : Nat → Nat → BitVec 128

/-- SHA-384 of a byte string (FIPS 180; R69, R325; log entry 19). -/
opaque Config.sha384 : List Byte → BitVec 384

/-- AES-256-GCM decryption of a Gloss payload: key, nonce, additional data, ciphertext, tag. None when the tag does
not verify (R26, R334; log entry 19). -/
opaque Config.gcmOpen : BitVec 256 → BitVec 96 → List Byte → List Byte → BitVec 128 → Option (List Byte)

/-- AES-256-GCM opening of a flit's payload under the link key of an epoch: port, epoch, flit count, the flit. None
when the tag does not verify (R273; log entry 19). -/
opaque Config.flitOpen : Nat → Nat → Nat → BitVec 2048 → Option (BitVec 1792)

/-- AES-256-GCM sealing of a flit's payload and tag: port, epoch, flit count, the clear flit (R273; log entry 19). -/
opaque Config.flitSeal : Nat → Nat → Nat → BitVec 2048 → BitVec 2048

/-- The body of an SPDM response whose content SPDM 1.3 fixes: request code, request, measurement or report bytes
(R328; log entry 20). -/
opaque Config.spdmBody : Nat → List Byte → List Byte → List Byte

/-- The body of a PLDM or MCTP control response whose content those standards fix: request, sensor value (R327; log entry 20). -/
opaque Config.pldmBody : List Byte → List Byte → List Byte

/-- Does an image's signing key chain to the fused root digest, and does its signature over the bytes before it verify (ECDSA P-384;
R322; log entry 7)? -/
opaque Config.genuine : BitVec 384 → List Byte → Bool

/-- HKDF-SHA-384 (RFC 5869) of a secret with an info string, as the private key of a P-384 pair (R324; log entry 19). -/
opaque Config.hkdf : BitVec 256 → List Byte → BitVec 384

/-- The body of an SPDM response that an identity key signs: key, request code, request, content (R324, R328; log entry 20). -/
opaque Config.spdmSigned : BitVec 384 → Nat → List Byte → List Byte → List Byte

end Sys2Proof
end

