-- ==== Sys2Proof/Machine/Regs.lean ====
section
/-! DEFINITION. The set-up register map: every register of BAR0's sixteen blocks with its offset, width, writable bits,
reset value and owner, row by row as the chapters' register tables give them. -/

namespace Sys2Proof.Machine

/-- Which partition a register belongs to (R384): partition 0; the one its index names; the one its key slot's index
names; the region's TENANT field; or shared. -/
inductive Own where
  | zero | index | key | region | shared
deriving DecidableEq, Repr

/-- Which kind of unit an indexed register belongs to, for R4. -/
inductive UnitKind where
  | none | sport | hport | ddr | nvme | stack | io
deriving DecidableEq, Repr

/-- A row of a register table: name, BAR0 offset of index 0, stride, count, width, writable bits, reset value, RWK, the
partition it belongs to, its unit, and the fields with reserved encodings (low bit, bits, least and greatest allowed;
R14). -/
structure RegRow where
  name : String
  off : Nat
  stride : Nat
  count : Nat
  width : Nat
  rw : Nat
  reset : Nat
  rwk : Bool
  own : Own
  unit : UnitKind
  checks : List (Nat × Nat × Nat × Nat)
deriving DecidableEq, Repr

/-- Block GLB. -/
def glbRows : List RegRow := [
  ⟨"GLB_ID", 0x0, 0, 1, 32, 0x0, 0x10980, false, .zero, .none, []⟩,
  ⟨"GLB_ORDER", 0x4, 0, 1, 32, 0x0, 0x0, false, .zero, .none, []⟩,
  ⟨"GLB_STATUS", 0x8, 0, 1, 32, 0x0, 0x0, false, .zero, .none, []⟩,
  ⟨"GLB_SERIAL0", 0x10, 0, 1, 64, 0x0, 0x0, false, .zero, .none, []⟩,
  ⟨"GLB_SERIAL1", 0x18, 0, 1, 64, 0x0, 0x0, false, .zero, .none, []⟩,
  ⟨"GLB_FITTED0", 0x20, 0, 1, 64, 0x0, 0x0, false, .zero, .none, []⟩,
  ⟨"GLB_FITTED1", 0x28, 0, 1, 32, 0x0, 0x0, false, .zero, .none, []⟩,
  ⟨"GLB_HPORT_EN", 0x30, 0, 1, 32, 0xE, 0x0, true, .zero, .none, []⟩,
  ⟨"GLB_ENABLED0", 0x38, 0, 1, 64, 0x0, 0x0, false, .zero, .none, []⟩,
  ⟨"GLB_ENABLED1", 0x40, 0, 1, 32, 0x0, 0x0, false, .zero, .none, []⟩,
  ⟨"GLB_TIMESTAMP", 0x48, 0, 1, 64, 0x0, 0x0, false, .zero, .none, []⟩,
  ⟨"GLB_SETUP_ERR_OFFSET", 0x50, 0, 1, 32, 0x0, 0x0, false, .zero, .none, []⟩,
  ⟨"GLB_SETUP_ERR_INFO", 0x54, 0, 1, 32, 0x0, 0x0, false, .zero, .none, []⟩]

/-- Block KPR. -/
def kprRows : List RegRow := [
  ⟨"KPR_STATUS", 0x100000, 0, 1, 32, 0x0, 0x0, false, .zero, .none, []⟩,
  ⟨"KPR_CMD", 0x100004, 0, 1, 32, 0x0, 0x0, false, .shared, .none, []⟩,
  ⟨"KPR_VENDOR_ID", 0x100008, 0, 1, 32, 0x0, 0x5A39, false, .zero, .none, []⟩,
  ⟨"KPR_SVN", 0x10000C, 0, 1, 32, 0x0, 0x0, false, .zero, .none, []⟩,
  ⟨"KPR_ARG", 0x100010, 8, 6, 64, 0xFFFFFFFFFFFFFFFF, 0x0, false, .shared, .none, []⟩,
  ⟨"KPR_MGEN", 0x100040, 0, 1, 64, 0x0, 0x0, false, .zero, .none, []⟩,
  ⟨"KPR_VECTOR", 0x100048, 0, 1, 32, 0xFFF, 0x0, false, .zero, .none, []⟩,
  ⟨"KPR_PART_STATE", 0x100060, 4, 16, 32, 0x0, 0x0, false, .index, .none, []⟩,
  ⟨"KPR_PART_SWITCHES", 0x1000A0, 4, 16, 32, 0x0, 0x0, false, .index, .none, []⟩,
  ⟨"KPR_MBX_TX_LEN", 0x100100, 0, 1, 32, 0x7FF, 0x0, false, .shared, .none, [(0, 11, 1, 1024)]⟩,
  ⟨"KPR_MBX_RX_LEN", 0x100104, 0, 1, 32, 0x0, 0x0, false, .zero, .none, []⟩,
  ⟨"KPR_MBX_RX_ACK", 0x100108, 0, 1, 32, 0x0, 0x0, false, .shared, .none, []⟩,
  ⟨"KPR_MBX_TX", 0x101000, 8, 128, 64, 0xFFFFFFFFFFFFFFFF, 0x0, false, .shared, .none, []⟩,
  ⟨"KPR_MBX_RX", 0x102000, 8, 128, 64, 0x0, 0x0, false, .zero, .none, []⟩]

/-- Block PWR. -/
def pwrRows : List RegRow := [
  ⟨"PWR_STATUS", 0x200000, 0, 1, 32, 0x0, 0x4, false, .zero, .none, []⟩,
  ⟨"PWR_CMD", 0x200004, 0, 1, 32, 0x0, 0x0, false, .zero, .none, []⟩,
  ⟨"PWR_CAP", 0x200008, 0, 1, 32, 0x7FF, 0x0, false, .zero, .none, []⟩,
  ⟨"PWR_WAKE_CAUSE", 0x20000C, 0, 1, 32, 0x0, 0x0, false, .zero, .none, []⟩,
  ⟨"PWR_DOMAIN", 0x200010, 0, 1, 64, 0x0, 0x0, false, .zero, .none, []⟩,
  ⟨"PWR_VIN", 0x200018, 0, 1, 32, 0x0, 0x0, false, .zero, .none, []⟩,
  ⟨"PWR_IIN", 0x20001C, 0, 1, 32, 0x0, 0x0, false, .zero, .none, []⟩,
  ⟨"PWR_INPUT", 0x200020, 0, 1, 32, 0x0, 0x0, false, .zero, .none, []⟩,
  ⟨"PWR_THROTTLE_TOTAL", 0x200028, 0, 1, 64, 0x0, 0x0, false, .zero, .none, []⟩,
  ⟨"PWR_DARK_TOTAL", 0x200030, 0, 1, 64, 0x0, 0x0, false, .zero, .none, []⟩,
  ⟨"PWR_TEMP_G", 0x200100, 4, 32, 32, 0x0, 0x0, false, .zero, .none, []⟩,
  ⟨"PWR_TEMP_IO", 0x200180, 4, 2, 32, 0x0, 0x0, false, .zero, .io, []⟩,
  ⟨"PWR_TEMP_S", 0x200188, 4, 8, 32, 0x0, 0x0, false, .zero, .stack, []⟩,
  ⟨"PWR_TEMP_D", 0x2001C0, 4, 16, 32, 0x0, 0x0, false, .zero, .ddr, []⟩]

/-- Block RAS. -/
def rasRows : List RegRow := [
  ⟨"RAS_STATUS", 0x300000, 0, 1, 32, 0x0, 0x0, false, .zero, .none, []⟩,
  ⟨"RAS_CMD", 0x300004, 0, 1, 32, 0x0, 0x0, false, .zero, .none, []⟩,
  ⟨"RAS_ACK", 0x300008, 0, 1, 32, 0x0, 0x0, false, .zero, .none, []⟩,
  ⟨"RAS_PENDING", 0x30000C, 0, 1, 32, 0x0, 0x0, false, .zero, .none, []⟩,
  ⟨"RAS_PENDING_SEQ", 0x300010, 0, 1, 32, 0x0, 0x0, false, .zero, .none, []⟩,
  ⟨"RAS_VECTOR", 0x300014, 0, 1, 32, 0xFFF, 0x0, false, .zero, .none, []⟩,
  ⟨"RAS_WIN_CFG", 0x300018, 0, 1, 32, 0x3FF00FF, 0xA0010, false, .zero, .none, [(0, 8, 2, 255), (16, 10, 1, 1000)]⟩,
  ⟨"RAS_LOG_SIZE", 0x30001C, 0, 1, 32, 0xF, 0x0, false, .zero, .none, [(0, 4, 0, 10)]⟩,
  ⟨"RAS_LOG_BASE", 0x300020, 0, 1, 64, 0xFFFFFFFFFFFFF000, 0x0, false, .zero, .none, []⟩,
  ⟨"RAS_LOG_TAIL", 0x300028, 0, 1, 32, 0x0, 0x0, false, .zero, .none, []⟩,
  ⟨"RAS_LOG_HEAD", 0x30002C, 0, 1, 32, 0xFFFFFFFF, 0x0, false, .zero, .none, []⟩,
  ⟨"RAS_LOG_LOST", 0x300030, 0, 1, 32, 0x0, 0x0, false, .zero, .none, []⟩,
  ⟨"RAS_QUEUE_LOST", 0x300034, 0, 1, 32, 0x0, 0x0, false, .zero, .none, []⟩,
  ⟨"RAS_INJECT", 0x300038, 0, 1, 32, 0x0, 0x0, false, .zero, .none, []⟩,
  ⟨"RAS_SEV_TOTAL", 0x300040, 8, 5, 64, 0x0, 0x0, false, .zero, .none, []⟩,
  ⟨"RAS_SETUP_ERR_TOTAL", 0x300068, 0, 1, 64, 0x0, 0x0, false, .zero, .none, []⟩,
  ⟨"RAS_SELF_LATE", 0x300070, 0, 1, 32, 0x0, 0x0, false, .zero, .none, []⟩,
  ⟨"RAS_LASTING_CORE", 0x300080, 8, 8, 64, 0x0, 0x0, false, .zero, .none, []⟩,
  ⟨"RAS_LASTING_UNIT", 0x3000C0, 0, 1, 64, 0x0, 0x0, false, .zero, .none, []⟩,
  ⟨"RAS_LASTING_PORT", 0x3000C8, 0, 1, 32, 0x0, 0x0, false, .zero, .none, []⟩,
  ⟨"RAS_FENCED", 0x3000D0, 0, 1, 64, 0x0, 0x0, false, .zero, .none, []⟩,
  ⟨"RAS_FENCED_PORT", 0x3000D8, 0, 1, 32, 0x0, 0x0, false, .zero, .none, []⟩,
  ⟨"RAS_FENCED_CORE", 0x300100, 8, 8, 64, 0x0, 0x0, false, .zero, .none, []⟩]

/-- Block HST. -/
def hstRows : List RegRow := [
  ⟨"HST_LEVEL_MIN", 0x400000, 0, 1, 64, 0x0, 0x101010101010101, false, .zero, .none, []⟩,
  ⟨"HST_LEVEL_MAX", 0x400008, 0, 1, 64, 0x0, 0x101010101010101, false, .zero, .none, []⟩,
  ⟨"HST_RCTX_DATA", 0x400010, 8, 8, 64, 0xFFFFFFFFFFFFFFFF, 0x0, false, .shared, .none, []⟩,
  ⟨"HST_RCTX_CMD", 0x400050, 0, 1, 32, 0x0, 0x0, false, .shared, .none, []⟩,
  ⟨"HST_RCTX_STATUS", 0x400054, 0, 1, 32, 0x0, 0x0, false, .zero, .none, []⟩]

/-- Block DMA. -/
def dmaRows : List RegRow := [
  ⟨"DMA_CAPS", 0x500000, 0, 1, 32, 0x0, 0x340, false, .zero, .none, []⟩,
  ⟨"DMA_MAX_LENGTH", 0x500004, 0, 1, 32, 0x0, 0x4000000, false, .zero, .none, []⟩,
  ⟨"DMA_CHAN", 0x500100, 4, 64, 32, 0x0, 0x0, false, .zero, .none, []⟩,
  ⟨"DMA_BYTES", 0x500200, 8, 64, 64, 0x0, 0x0, false, .zero, .none, []⟩,
  ⟨"DMA_WEIGHT", 0x500400, 4, 64, 32, 0xF, 0x1, false, .zero, .none, [(0, 4, 1, 15)]⟩,
  ⟨"DMA_DESC_TOTAL", 0x500500, 0, 1, 64, 0x0, 0x0, false, .zero, .none, []⟩,
  ⟨"DMA_ERR_TOTAL", 0x500508, 0, 1, 64, 0x0, 0x0, false, .zero, .none, []⟩,
  ⟨"DMA_SWAP_TOTAL", 0x500510, 0, 1, 64, 0x0, 0x0, false, .zero, .none, []⟩]

/-- Block ROT. -/
def rotRows : List RegRow := [
  ⟨"ROT_CTRL", 0x600000, 0, 1, 32, 0x7, 0x0, false, .zero, .none, []⟩,
  ⟨"ROT_STATUS", 0x600004, 0, 1, 32, 0x0, 0x0, false, .zero, .none, []⟩,
  ⟨"ROT_PERIOD", 0x600008, 0, 1, 32, 0x0, 0x10, false, .zero, .none, []⟩,
  ⟨"ROT_PERIOD_NEXT", 0x60000C, 0, 1, 32, 0x1FF, 0x10, false, .zero, .none, [(0, 9, 4, 256)]⟩,
  ⟨"ROT_NUMBER", 0x600010, 0, 1, 64, 0x0, 0x0, false, .zero, .none, []⟩,
  ⟨"ROT_CHANGE_AT", 0x600018, 0, 1, 64, 0xFFFFFFFFFFFFFFFF, 0x0, false, .zero, .none, []⟩,
  ⟨"ROT_BEACON_CFG", 0x600020, 0, 1, 32, 0x7FF, 0x0, false, .zero, .none, [(0, 5, 0, 17), (5, 5, 0, 17)]⟩,
  ⟨"ROT_BEACON_DOWN", 0x600024, 0, 1, 32, 0x3FFFF, 0x0, false, .zero, .none, []⟩,
  ⟨"ROT_EXT_FLOOR", 0x600028, 0, 1, 32, 0x3F, 0x0, false, .zero, .none, [(0, 6, 0, 50)]⟩,
  ⟨"ROT_BOOK_CMD", 0x60002C, 0, 1, 32, 0x0, 0x0, false, .zero, .none, []⟩,
  ⟨"ROT_BOOK_STATUS", 0x600030, 0, 1, 32, 0x0, 0x0, false, .zero, .none, []⟩,
  ⟨"ROT_BOOK_NEXT", 0x600034, 0, 1, 32, 0x7, 0x4, false, .zero, .none, []⟩,
  ⟨"ROT_SEQ_LEN_NEXT", 0x600038, 0, 1, 32, 0x7F, 0x1, false, .zero, .none, [(0, 7, 1, 64)]⟩,
  ⟨"ROT_LOG_SIZE", 0x60003C, 0, 1, 32, 0xF, 0x0, false, .zero, .none, [(0, 4, 0, 10)]⟩,
  ⟨"ROT_BOOK_ADDR", 0x600040, 8, 4, 64, 0xFFFFFFFFFFFFF000, 0x0, false, .zero, .none, []⟩,
  ⟨"ROT_SEQ_NEXT", 0x600060, 8, 4, 64, 0xFFFFFFFFFFFFFFFF, 0x0, false, .zero, .none, []⟩,
  ⟨"ROT_SEQ", 0x600080, 8, 4, 64, 0x0, 0x0, false, .zero, .none, []⟩,
  ⟨"ROT_SEQ_LEN", 0x6000A0, 0, 1, 32, 0x0, 0x1, false, .zero, .none, []⟩,
  ⟨"ROT_LOG_BASE", 0x6000A8, 0, 1, 64, 0xFFFFFFFFFFFFF000, 0x0, false, .zero, .none, []⟩,
  ⟨"ROT_LOG_TAIL", 0x6000B0, 0, 1, 32, 0x0, 0x0, false, .zero, .none, []⟩,
  ⟨"ROT_LOG_HEAD", 0x6000B4, 0, 1, 32, 0xFFFFFFFF, 0x0, false, .zero, .none, []⟩,
  ⟨"ROT_LOG_LOST", 0x6000B8, 0, 1, 32, 0x0, 0x0, false, .zero, .none, []⟩,
  ⟨"ROT_LATE_TOTAL", 0x6000C0, 0, 1, 64, 0x0, 0x0, false, .zero, .none, []⟩,
  ⟨"ROT_DEFER_TOTAL", 0x6000C8, 0, 1, 64, 0x0, 0x0, false, .zero, .none, []⟩,
  ⟨"ROT_EXCEED_TOTAL", 0x6000D0, 0, 1, 64, 0x0, 0x0, false, .zero, .none, []⟩,
  ⟨"ROT_OVEROCC_TOTAL", 0x6000D8, 0, 1, 64, 0x0, 0x0, false, .zero, .none, []⟩,
  ⟨"ROT_ALIGN_TOTAL", 0x6000E0, 0, 1, 64, 0x0, 0x0, false, .zero, .none, []⟩,
  ⟨"ROT_GLATE", 0x600100, 4, 32, 32, 0x0, 0x0, false, .zero, .none, []⟩,
  ⟨"ROT_RCLASS", 0x600800, 4, 512, 32, 0xFFFFFFFF, 0x0, false, .zero, .none, []⟩]

/-- Block SES. -/
def sesRows : List RegRow := [
  ⟨"SES_CTRL", 0x700000, 0, 1, 32, 0x1, 0x0, false, .zero, .none, []⟩,
  ⟨"SES_TABLE_BASE", 0x700008, 0, 1, 64, 0x0, 0x0, false, .zero, .none, []⟩,
  ⟨"SES_SET_MASK", 0x700010, 0, 1, 64, 0xFFFFFFFFFFFFFFFF, 0x0, false, .zero, .none, []⟩,
  ⟨"SES_ACCEPT_PROFILE", 0x700018, 0, 1, 32, 0x3FFFF, 0x0, false, .zero, .none, [(14, 4, 0, 3)]⟩,
  ⟨"SES_IDLE_TIME", 0x700020, 0, 1, 32, 0xFFFF, 0xC8, false, .zero, .none, [(0, 16, 1, 65535)]⟩,
  ⟨"SES_DENSE_TIME", 0x700024, 0, 1, 32, 0xFFFF, 0x7D0, false, .zero, .none, [(0, 16, 1, 65535)]⟩,
  ⟨"SES_HANDOFF_TIME", 0x700028, 0, 1, 32, 0x3FF, 0x32, false, .zero, .none, [(0, 10, 1, 1000)]⟩,
  ⟨"SES_RELEASE_WAIT", 0x70002C, 0, 1, 32, 0xFF, 0xA, false, .zero, .none, [(0, 8, 1, 255)]⟩,
  ⟨"SES_LIVE_COUNT", 0x700040, 0, 1, 32, 0x0, 0x0, false, .zero, .none, []⟩,
  ⟨"SES_IDLE_COUNT", 0x700044, 0, 1, 32, 0x0, 0x0, false, .zero, .none, []⟩,
  ⟨"SES_RECLAIM_PENDING", 0x700048, 0, 1, 32, 0x0, 0x0, false, .zero, .none, []⟩,
  ⟨"SES_ORPHAN_TOTAL", 0x700050, 0, 1, 64, 0x0, 0x0, false, .zero, .none, []⟩,
  ⟨"SES_LOST_TOTAL", 0x700058, 0, 1, 64, 0x0, 0x0, false, .zero, .none, []⟩,
  ⟨"SES_CACHE_MISS_TOTAL", 0x700060, 0, 1, 64, 0x0, 0x0, false, .zero, .none, []⟩,
  ⟨"SES_ARENA_BASE", 0x700100, 16, 16, 64, 0xFFFFFFFFFFFF0000, 0x0, false, .index, .none, []⟩,
  ⟨"SES_ARENA_SIZE", 0x700108, 16, 16, 64, 0xFFFFFFFFFFFF0000, 0x0, false, .index, .none, []⟩,
  ⟨"SES_QUOTA", 0x700200, 4, 16, 32, 0xFFFFF, 0x0, false, .index, .none, []⟩]

/-- Block ATT. -/
def attRows : List RegRow := [
  ⟨"ATT_CAPS", 0x800000, 0, 1, 32, 0x0, 0x3FFFF, false, .zero, .none, []⟩,
  ⟨"ATT_CHUNK", 0x800004, 0, 1, 32, 0x0, 0x8, false, .zero, .none, []⟩,
  ⟨"ATT_ROPE_CFG", 0x800010, 4, 8, 32, 0x1FF, 0x0, false, .zero, .none, []⟩,
  ⟨"ATT_ROPE_FREQ", 0x800040, 8, 8, 64, 0xFFFFFFFFFFFFFE00, 0x0, false, .zero, .none, []⟩,
  ⟨"ATT_ABFT_INJECT", 0x800080, 0, 1, 32, 0x0, 0x0, false, .zero, .none, []⟩,
  ⟨"ATT_QUERY_TOTAL", 0x800100, 0, 1, 64, 0x0, 0x0, false, .zero, .none, []⟩,
  ⟨"ATT_PAGE_TOTAL", 0x800108, 0, 1, 64, 0x0, 0x0, false, .zero, .none, []⟩,
  ⟨"ATT_APPEND_TOTAL", 0x800110, 0, 1, 64, 0x0, 0x0, false, .zero, .none, []⟩,
  ⟨"ATT_ABFT_FAIL_TOTAL", 0x800118, 0, 1, 64, 0x0, 0x0, false, .zero, .none, []⟩,
  ⟨"ATT_NAN_TOTAL", 0x800120, 0, 1, 64, 0x0, 0x0, false, .zero, .none, []⟩,
  ⟨"ATT_ABFT_G", 0x800200, 4, 32, 32, 0x0, 0x0, false, .zero, .none, []⟩]

/-- Block EMB. -/
def embRows : List RegRow := [
  ⟨"EMB_CAPS", 0x900000, 0, 1, 32, 0x0, 0x3FF, false, .zero, .none, []⟩,
  ⟨"EMB_TCTX_DATA", 0x900010, 8, 8, 64, 0xFFFFFFFFFFFFFFFF, 0x0, false, .shared, .none, []⟩,
  ⟨"EMB_TCTX_CMD", 0x900050, 0, 1, 32, 0x0, 0x0, false, .shared, .none, []⟩,
  ⟨"EMB_TCTX_STATUS", 0x900054, 0, 1, 32, 0x0, 0x0, false, .zero, .none, []⟩,
  ⟨"EMB_STEPBUF_BASE", 0x900060, 0, 1, 64, 0x0, 0x0, false, .zero, .none, []⟩,
  ⟨"EMB_STEPBUF_SIZE", 0x900068, 0, 1, 64, 0x0, 0x200000000, false, .zero, .none, []⟩,
  ⟨"EMB_STEPBUF_USED", 0x900070, 0, 1, 64, 0x0, 0x0, false, .zero, .none, []⟩,
  ⟨"EMB_WARM_LIMIT", 0x900078, 0, 1, 32, 0x3FFF, 0x800, false, .zero, .none, [(0, 14, 0, 8192)]⟩,
  ⟨"EMB_LOOKUP_TOTAL", 0x900100, 0, 1, 64, 0x0, 0x0, false, .zero, .none, []⟩,
  ⟨"EMB_ROW_FETCH_TOTAL", 0x900108, 0, 1, 64, 0x0, 0x0, false, .zero, .none, []⟩,
  ⟨"EMB_DROP_TOTAL", 0x900110, 0, 1, 64, 0x0, 0x0, false, .zero, .none, []⟩,
  ⟨"EMB_GRAD_TOTAL", 0x900118, 0, 1, 64, 0x0, 0x0, false, .zero, .none, []⟩,
  ⟨"EMB_CLIP_TOTAL", 0x900120, 0, 1, 64, 0x0, 0x0, false, .zero, .none, []⟩,
  ⟨"EMB_NONFINITE_TOTAL", 0x900128, 0, 1, 64, 0x0, 0x0, false, .zero, .none, []⟩,
  ⟨"EMB_REVERSE_TOTAL", 0x900130, 0, 1, 64, 0x0, 0x0, false, .zero, .none, []⟩,
  ⟨"EMB_CLOSE_TOTAL", 0x900138, 0, 1, 64, 0x0, 0x0, false, .zero, .none, []⟩]

/-- Block COR. -/
def corRows : List RegRow := [
  ⟨"COR_CAPS", 0xA00000, 0, 1, 32, 0x0, 0x1070300, false, .zero, .none, []⟩,
  ⟨"COR_ABUF_ENTRIES", 0xA00004, 0, 1, 32, 0x0, 0x40, false, .zero, .none, []⟩,
  ⟨"COR_FAULT_TOTAL", 0xA00008, 0, 1, 64, 0x0, 0x0, false, .zero, .none, []⟩,
  ⟨"COR_ABUF_WB_TOTAL", 0xA00010, 0, 1, 64, 0x0, 0x0, false, .zero, .none, []⟩,
  ⟨"COR_LINV_TOTAL", 0xA00018, 0, 1, 64, 0x0, 0x0, false, .zero, .none, []⟩,
  ⟨"COR_VOLATILE_TOTAL", 0xA00020, 0, 1, 64, 0x0, 0x0, false, .zero, .none, []⟩,
  ⟨"COR_GFAULT", 0xA00100, 4, 32, 32, 0x0, 0x0, false, .zero, .none, []⟩]

/-- Block TIER. -/
def tierRows : List RegRow := [
  ⟨"TIER_CTRL", 0xB00000, 0, 1, 32, 0x3, 0x2, false, .zero, .none, []⟩,
  ⟨"TIER_STATUS", 0xB00004, 0, 1, 32, 0x0, 0x0, false, .zero, .none, []⟩,
  ⟨"TIER_CAPACITY", 0xB00008, 0, 1, 64, 0x0, 0x0, false, .zero, .none, []⟩,
  ⟨"TIER_NEAR_BYTES", 0xB00010, 0, 1, 64, 0x0, 0x0, false, .zero, .none, []⟩,
  ⟨"TIER_FAR_BYTES", 0xB00018, 0, 1, 64, 0x0, 0x0, false, .zero, .none, []⟩,
  ⟨"TIER_DENSE_BYTES", 0xB00020, 0, 1, 64, 0x0, 0x0, false, .zero, .none, []⟩,
  ⟨"TIER_RESERVED_BASE", 0xB00028, 0, 1, 64, 0x0, 0x3FFF800000000, false, .zero, .none, []⟩,
  ⟨"TIER_RESERVED_SIZE", 0xB00030, 0, 1, 64, 0x0, 0x7C0000000, false, .zero, .none, []⟩,
  ⟨"TIER_DDR_EN", 0xB00038, 0, 1, 32, 0xFFFF, 0x0, true, .zero, .none, []⟩,
  ⟨"TIER_NVME_EN", 0xB0003C, 0, 1, 32, 0xFF, 0x0, true, .zero, .none, []⟩,
  ⟨"TIER_NEAR_AGE", 0xB00040, 0, 1, 32, 0xFFFF, 0xC8, false, .zero, .none, [(0, 16, 1, 65535)]⟩,
  ⟨"TIER_FAR_AGE", 0xB00044, 0, 1, 32, 0xFFFF, 0x7D0, false, .zero, .none, [(0, 16, 1, 65535)]⟩,
  ⟨"TIER_NEAR_RESERVE", 0xB00048, 0, 1, 32, 0xFFFFFF, 0x4000, false, .zero, .none, []⟩,
  ⟨"TIER_FAR_RESERVE", 0xB0004C, 0, 1, 32, 0xFFFFFFF, 0x4000, false, .zero, .none, []⟩,
  ⟨"TIER_NVME_TIMEOUT", 0xB00050, 0, 1, 32, 0x3FFF, 0x3E8, false, .zero, .none, [(0, 14, 10, 10000)]⟩,
  ⟨"TIER_NEAR_FREE", 0xB00058, 0, 1, 32, 0x0, 0x0, false, .zero, .none, []⟩,
  ⟨"TIER_FAR_FREE", 0xB0005C, 0, 1, 32, 0x0, 0x0, false, .zero, .none, []⟩,
  ⟨"TIER_DIRTY", 0xB00060, 0, 1, 32, 0x0, 0x0, false, .zero, .none, []⟩,
  ⟨"TIER_PINNED", 0xB00064, 0, 1, 32, 0x0, 0x0, false, .zero, .none, []⟩,
  ⟨"TIER_HELD", 0xB00068, 0, 1, 32, 0x0, 0x0, false, .zero, .none, []⟩,
  ⟨"TIER_FILL_TOTAL", 0xB00080, 0, 1, 64, 0x0, 0x0, false, .zero, .none, []⟩,
  ⟨"TIER_PROMOTE_TOTAL", 0xB00088, 0, 1, 64, 0x0, 0x0, false, .zero, .none, []⟩,
  ⟨"TIER_DEMOTE_TOTAL", 0xB00090, 0, 1, 64, 0x0, 0x0, false, .zero, .none, []⟩,
  ⟨"TIER_WRITEBACK_TOTAL", 0xB00098, 0, 1, 64, 0x0, 0x0, false, .zero, .none, []⟩,
  ⟨"TIER_DROP_TOTAL", 0xB000A0, 0, 1, 64, 0x0, 0x0, false, .zero, .none, []⟩,
  ⟨"TIER_ABANDON_TOTAL", 0xB000A8, 0, 1, 64, 0x0, 0x0, false, .zero, .none, []⟩,
  ⟨"TIER_POISON_TOTAL", 0xB000B0, 0, 1, 64, 0x0, 0x0, false, .zero, .none, []⟩,
  ⟨"TIER_DDR_INFO", 0xB00100, 4, 16, 32, 0x0, 0x0, false, .zero, .ddr, []⟩,
  ⟨"TIER_NVME_INFO", 0xB00140, 8, 8, 64, 0x0, 0x0, false, .zero, .nvme, []⟩]

/-- Block XLT. -/
def xltRows : List RegRow := [
  ⟨"XLT_CAPS", 0xC00000, 0, 1, 32, 0x0, 0x757, false, .zero, .none, []⟩,
  ⟨"XLT_PT_AREA", 0xC00008, 0, 1, 64, 0x0, 0x3FFF8C0000000, false, .zero, .none, []⟩,
  ⟨"XLT_BCAST_MASK", 0xC00010, 0, 1, 64, 0xFFFFFFFFFFFFFFFF, 0x0, false, .zero, .none, []⟩,
  ⟨"XLT_TOKEN", 0xC00018, 0, 1, 64, 0x0, 0x0, false, .zero, .none, []⟩,
  ⟨"XLT_FAULT_TOTAL", 0xC00020, 0, 1, 64, 0x0, 0x0, false, .zero, .none, []⟩,
  ⟨"XLT_WALK_TOTAL", 0xC00028, 0, 1, 64, 0x0, 0x0, false, .zero, .none, []⟩,
  ⟨"XLT_PREFETCH_TOTAL", 0xC00030, 0, 1, 64, 0x0, 0x0, false, .zero, .none, []⟩,
  ⟨"XLT_REWALK_TOTAL", 0xC00038, 0, 1, 64, 0x0, 0x0, false, .zero, .none, []⟩,
  ⟨"XLT_LAST_FAULT_DVA", 0xC00040, 0, 1, 64, 0x0, 0x0, false, .zero, .none, []⟩,
  ⟨"XLT_LAST_FAULT_INFO", 0xC00048, 0, 1, 32, 0x0, 0x0, false, .zero, .none, []⟩,
  ⟨"XLT_PT_BASE", 0xC00100, 16, 16, 64, 0xFFFFFFFFFFFFF000, 0x0, false, .index, .none, []⟩,
  ⟨"XLT_PT_SIZE", 0xC00108, 16, 16, 64, 0xFFFFFFFFFFFFF000, 0x0, false, .index, .none, []⟩,
  ⟨"XLT_ROOT", 0xC00200, 8, 16, 64, 0x0, 0x0, false, .index, .none, []⟩,
  ⟨"XLT_KEY", 0xC00400, 4, 256, 32, 0xFFFFFF, 0x0, false, .key, .none, []⟩]

/-- Block GLS. -/
def glsRows : List RegRow := [
  ⟨"GLS_CAPS", 0xD00000, 0, 1, 32, 0x0, 0x1203F, false, .zero, .none, []⟩,
  ⟨"GLS_RAW_TOTAL", 0xD00010, 0, 1, 64, 0x0, 0x0, false, .zero, .none, []⟩,
  ⟨"GLS_CODED_TOTAL", 0xD00018, 0, 1, 64, 0x0, 0x0, false, .zero, .none, []⟩,
  ⟨"GLS_ZERO_TOTAL", 0xD00020, 0, 1, 64, 0x0, 0x0, false, .zero, .none, []⟩,
  ⟨"GLS_LINES_SAVED_TOTAL", 0xD00028, 0, 1, 64, 0x0, 0x0, false, .zero, .none, []⟩,
  ⟨"GLS_DECODE_ERR_TOTAL", 0xD00030, 0, 1, 64, 0x0, 0x0, false, .zero, .none, []⟩,
  ⟨"GLS_TAG_FAIL_TOTAL", 0xD00038, 0, 1, 64, 0x0, 0x0, false, .zero, .none, []⟩,
  ⟨"GLS_LAST_ERR", 0xD00040, 0, 1, 32, 0x0, 0x0, false, .zero, .none, []⟩,
  ⟨"GLS_LAST_ERR_BLOCK", 0xD00048, 0, 1, 32, 0x0, 0x0, false, .zero, .none, []⟩,
  ⟨"GLS_REGION_BASE", 0xD00100, 32, 64, 64, 0xFFFFFFFFFFFF0000, 0x0, false, .region, .none, []⟩,
  ⟨"GLS_REGION_SIZE", 0xD00108, 32, 64, 64, 0xFFFFFFFFFFFF0000, 0x0, false, .region, .none, []⟩,
  ⟨"GLS_REGION_SEAL", 0xD00110, 32, 64, 64, 0xFFFFFFFFFFFFFFC0, 0x0, false, .region, .none, []⟩,
  ⟨"GLS_REGION_CTRL", 0xD00118, 32, 64, 32, 0x1FF, 0x0, false, .region, .none, []⟩]

/-- Block SMF. -/
def smfRows : List RegRow := [
  ⟨"SMF_CAPS", 0xE00000, 0, 1, 32, 0x0, 0x121012, false, .zero, .none, []⟩,
  ⟨"SMF_DEVICE", 0xE00004, 0, 1, 32, 0x3F, 0x0, true, .zero, .none, []⟩,
  ⟨"SMF_LEVEL_RACK", 0xE00008, 0, 1, 32, 0xFF, 0x12, true, .zero, .none, [(0, 8, 16, 18)]⟩,
  ⟨"SMF_PORT_EN", 0xE0000C, 0, 1, 32, 0x3FFFF, 0x0, true, .zero, .none, []⟩,
  ⟨"SMF_PORT_CMD", 0xE00010, 0, 1, 32, 0x0, 0x0, false, .zero, .none, []⟩,
  ⟨"SMF_ROUTE", 0xE00100, 4, 64, 32, 0x1FF, 0x0, false, .zero, .none, []⟩,
  ⟨"SMF_PORT_CFG", 0xE00200, 4, 18, 32, 0x3, 0x0, true, .zero, .sport, []⟩,
  ⟨"SMF_PORT_TMASK", 0xE00280, 4, 18, 32, 0xFFFF, 0x0, false, .zero, .sport, []⟩,
  ⟨"SMF_PORT_STATUS", 0xE00300, 4, 18, 32, 0x0, 0x0, false, .zero, .sport, []⟩,
  ⟨"SMF_CRC_ERR_TOTAL", 0xE00400, 0, 1, 64, 0x0, 0x0, false, .zero, .none, []⟩,
  ⟨"SMF_REPLAY_TOTAL", 0xE00408, 0, 1, 64, 0x0, 0x0, false, .zero, .none, []⟩,
  ⟨"SMF_RETRAIN_TOTAL", 0xE00410, 0, 1, 64, 0x0, 0x0, false, .zero, .none, []⟩,
  ⟨"SMF_TAGFAIL_TOTAL", 0xE00418, 0, 1, 64, 0x0, 0x0, false, .zero, .none, []⟩,
  ⟨"SMF_KEY_MISMATCH_TOTAL", 0xE00420, 0, 1, 64, 0x0, 0x0, false, .zero, .none, []⟩,
  ⟨"SMF_ROUTE_ERR_TOTAL", 0xE00428, 0, 1, 64, 0x0, 0x0, false, .zero, .none, []⟩,
  ⟨"SMF_STRAY_TOTAL", 0xE00430, 0, 1, 64, 0x0, 0x0, false, .zero, .none, []⟩,
  ⟨"SMF_TIMEOUT_TOTAL", 0xE00438, 0, 1, 64, 0x0, 0x0, false, .zero, .none, []⟩,
  ⟨"SMF_FWD_TOTAL", 0xE00440, 0, 1, 64, 0x0, 0x0, false, .zero, .none, []⟩,
  ⟨"SMF_DIR_EVICT_TOTAL", 0xE00448, 0, 1, 64, 0x0, 0x0, false, .zero, .none, []⟩,
  ⟨"SMF_SNOOP_TIMEOUT_TOTAL", 0xE00450, 0, 1, 64, 0x0, 0x0, false, .zero, .none, []⟩,
  ⟨"SMF_OVEROCC_TOTAL", 0xE00458, 0, 1, 64, 0x0, 0x0, false, .zero, .none, []⟩]

/-- Block POOL. -/
def poolRows : List RegRow := [
  ⟨"POOL_CAPS", 0xF00000, 0, 1, 32, 0x0, 0x400010, false, .zero, .none, []⟩,
  ⟨"POOL_REVOKE_TIME", 0xF00004, 0, 1, 32, 0xFF, 0x2, false, .zero, .none, [(0, 8, 1, 255)]⟩,
  ⟨"POOL_LOAD", 0xF00008, 0, 1, 32, 0x0, 0x0, false, .zero, .none, []⟩,
  ⟨"POOL_MARK_BASE", 0xF00010, 0, 1, 64, 0x0, 0x0, false, .zero, .none, []⟩,
  ⟨"POOL_PART_PORTS", 0xF00040, 4, 16, 32, 0xF, 0x0, true, .zero, .none, []⟩,
  ⟨"POOL_MODE", 0xF00080, 4, 4, 32, 0x0, 0x0, false, .zero, .hport, []⟩,
  ⟨"POOL_RATE", 0xF00090, 4, 4, 32, 0x1FF, 0x0, false, .zero, .hport, [(0, 9, 0, 256)]⟩,
  ⟨"POOL_BURST", 0xF000A0, 4, 4, 32, 0xFFFF, 0x400, false, .zero, .hport, [(0, 16, 4, 65535)]⟩,
  ⟨"POOL_HDIR_USED", 0xF000B0, 4, 4, 32, 0x0, 0x0, false, .zero, .hport, []⟩,
  ⟨"POOL_THROTTLE_TOTAL", 0xF000C0, 8, 4, 64, 0x0, 0x0, false, .zero, .hport, []⟩,
  ⟨"POOL_REFUSED_TOTAL", 0xF000E0, 8, 4, 64, 0x0, 0x0, false, .zero, .hport, []⟩,
  ⟨"POOL_POISON_TOTAL", 0xF00100, 0, 1, 64, 0x0, 0x0, false, .zero, .none, []⟩,
  ⟨"POOL_BI_TOTAL", 0xF00108, 0, 1, 64, 0x0, 0x0, false, .zero, .none, []⟩,
  ⟨"POOL_BI_TIMEOUT_TOTAL", 0xF00110, 0, 1, 64, 0x0, 0x0, false, .zero, .none, []⟩]

/-- Every set-up register of BAR0 (R379). -/
def regRows : List RegRow :=
  glbRows ++ kprRows ++ pwrRows ++ rasRows ++ hstRows ++ dmaRows ++ rotRows ++ sesRows ++ attRows ++ embRows ++ corRows ++ tierRows ++ xltRows ++ glsRows ++ smfRows ++ poolRows

/-- The row that holds the register at a BAR0 offset, and the register's index in it. A 64-bit register is found at
its own offset and at the offset of its upper half. -/
def RegRow.covers (r : RegRow) (off : Nat) : Option Nat :=
  if off < r.off then none
  else
    let i := if r.stride = 0 then 0 else (off - r.off) / r.stride
    let within := off - r.off - i * r.stride
    if i < r.count ∧ (within = 0 ∨ (r.width = 64 ∧ within = 4)) then some i else none

/-- The rows of the 1 MiB block an offset lies in. -/
def blockRows (off : Nat) : List RegRow :=
  match off / 1048576 with

  | 0 => glbRows
  | 1 => kprRows
  | 2 => pwrRows
  | 3 => rasRows
  | 4 => hstRows
  | 5 => dmaRows
  | 6 => rotRows
  | 7 => sesRows
  | 8 => attRows
  | 9 => embRows
  | 10 => corRows
  | 11 => tierRows
  | 12 => xltRows
  | 13 => glsRows
  | 14 => smfRows
  | 15 => poolRows
  | _ => []

/-- The register at an offset, if the map has one there. -/
def findReg (off : Nat) : Option (RegRow × Nat) :=
  (blockRows off).findSome? fun r => (r.covers off).map fun i => (r, i)

/-! ## Offsets by name -/


def R.hstLevelMin : Nat := 0x400000
def R.hstLevelMax : Nat := 0x400008
def R.hstRctxData (i : Nat) : Nat := 0x400010 + 8 * i
def R.hstRctxCmd : Nat := 0x400050
def R.hstRctxStatus : Nat := 0x400054
def R.rotCtrl : Nat := 0x600000
def R.rotStatus : Nat := 0x600004
def R.rotPeriod : Nat := 0x600008
def R.rotPeriodNext : Nat := 0x60000C
def R.rotNumber : Nat := 0x600010
def R.rotChangeAt : Nat := 0x600018
def R.rotBeaconCfg : Nat := 0x600020
def R.rotBeaconDown : Nat := 0x600024
def R.rotExtFloor : Nat := 0x600028
def R.rotBookCmd : Nat := 0x60002C
def R.rotBookStatus : Nat := 0x600030
def R.rotBookNext : Nat := 0x600034
def R.rotSeqLenNext : Nat := 0x600038
def R.rotLogSize : Nat := 0x60003C
def R.rotBookAddr (i : Nat) : Nat := 0x600040 + 8 * i
def R.rotSeqNext (i : Nat) : Nat := 0x600060 + 8 * i
def R.rotSeq (i : Nat) : Nat := 0x600080 + 8 * i
def R.rotSeqLen : Nat := 0x6000A0
def R.rotLogBase : Nat := 0x6000A8
def R.rotLogTail : Nat := 0x6000B0
def R.rotLogHead : Nat := 0x6000B4
def R.rotLogLost : Nat := 0x6000B8
def R.rotLateTotal : Nat := 0x6000C0
def R.rotDeferTotal : Nat := 0x6000C8
def R.rotExceedTotal : Nat := 0x6000D0
def R.rotOveroccTotal : Nat := 0x6000D8
def R.rotAlignTotal : Nat := 0x6000E0
def R.rotGlate (i : Nat) : Nat := 0x600100 + 4 * i
def R.rotRclass (i : Nat) : Nat := 0x600800 + 4 * i
def R.sesCtrl : Nat := 0x700000
def R.sesTableBase : Nat := 0x700008
def R.sesSetMask : Nat := 0x700010
def R.sesAcceptProfile : Nat := 0x700018
def R.sesIdleTime : Nat := 0x700020
def R.sesDenseTime : Nat := 0x700024
def R.sesHandoffTime : Nat := 0x700028
def R.sesReleaseWait : Nat := 0x70002C
def R.sesLiveCount : Nat := 0x700040
def R.sesIdleCount : Nat := 0x700044
def R.sesReclaimPending : Nat := 0x700048
def R.sesOrphanTotal : Nat := 0x700050
def R.sesLostTotal : Nat := 0x700058
def R.sesCacheMissTotal : Nat := 0x700060
def R.sesArenaBase (i : Nat) : Nat := 0x700100 + 16 * i
def R.sesArenaSize (i : Nat) : Nat := 0x700108 + 16 * i
def R.sesQuota (i : Nat) : Nat := 0x700200 + 4 * i
def R.attCaps : Nat := 0x800000
def R.attChunk : Nat := 0x800004
def R.attRopeCfg (i : Nat) : Nat := 0x800010 + 4 * i
def R.attRopeFreq (i : Nat) : Nat := 0x800040 + 8 * i
def R.attAbftInject : Nat := 0x800080
def R.attQueryTotal : Nat := 0x800100
def R.attPageTotal : Nat := 0x800108
def R.attAppendTotal : Nat := 0x800110
def R.attAbftFailTotal : Nat := 0x800118
def R.attNanTotal : Nat := 0x800120
def R.attAbftG (i : Nat) : Nat := 0x800200 + 4 * i
def R.embCaps : Nat := 0x900000
def R.embTctxData (i : Nat) : Nat := 0x900010 + 8 * i
def R.embTctxCmd : Nat := 0x900050
def R.embTctxStatus : Nat := 0x900054
def R.embStepbufBase : Nat := 0x900060
def R.embStepbufSize : Nat := 0x900068
def R.embStepbufUsed : Nat := 0x900070
def R.embWarmLimit : Nat := 0x900078
def R.embLookupTotal : Nat := 0x900100
def R.embRowFetchTotal : Nat := 0x900108
def R.embDropTotal : Nat := 0x900110
def R.embGradTotal : Nat := 0x900118
def R.embClipTotal : Nat := 0x900120
def R.embNonfiniteTotal : Nat := 0x900128
def R.embReverseTotal : Nat := 0x900130
def R.embCloseTotal : Nat := 0x900138
def R.corCaps : Nat := 0xA00000
def R.corAbufEntries : Nat := 0xA00004
def R.corFaultTotal : Nat := 0xA00008
def R.corAbufWbTotal : Nat := 0xA00010
def R.corLinvTotal : Nat := 0xA00018
def R.corVolatileTotal : Nat := 0xA00020
def R.corGfault (i : Nat) : Nat := 0xA00100 + 4 * i
def R.tierCtrl : Nat := 0xB00000
def R.tierStatus : Nat := 0xB00004
def R.tierCapacity : Nat := 0xB00008
def R.tierNearBytes : Nat := 0xB00010
def R.tierFarBytes : Nat := 0xB00018
def R.tierDenseBytes : Nat := 0xB00020
def R.tierReservedBase : Nat := 0xB00028
def R.tierReservedSize : Nat := 0xB00030
def R.tierDdrEn : Nat := 0xB00038
def R.tierNvmeEn : Nat := 0xB0003C
def R.tierNearAge : Nat := 0xB00040
def R.tierFarAge : Nat := 0xB00044
def R.tierNearReserve : Nat := 0xB00048
def R.tierFarReserve : Nat := 0xB0004C
def R.tierNvmeTimeout : Nat := 0xB00050
def R.tierNearFree : Nat := 0xB00058
def R.tierFarFree : Nat := 0xB0005C
def R.tierDirty : Nat := 0xB00060
def R.tierPinned : Nat := 0xB00064
def R.tierHeld : Nat := 0xB00068
def R.tierFillTotal : Nat := 0xB00080
def R.tierPromoteTotal : Nat := 0xB00088
def R.tierDemoteTotal : Nat := 0xB00090
def R.tierWritebackTotal : Nat := 0xB00098
def R.tierDropTotal : Nat := 0xB000A0
def R.tierAbandonTotal : Nat := 0xB000A8
def R.tierPoisonTotal : Nat := 0xB000B0
def R.tierDdrInfo (i : Nat) : Nat := 0xB00100 + 4 * i
def R.tierNvmeInfo (i : Nat) : Nat := 0xB00140 + 8 * i
def R.xltCaps : Nat := 0xC00000
def R.xltPtArea : Nat := 0xC00008
def R.xltBcastMask : Nat := 0xC00010
def R.xltToken : Nat := 0xC00018
def R.xltFaultTotal : Nat := 0xC00020
def R.xltWalkTotal : Nat := 0xC00028
def R.xltPrefetchTotal : Nat := 0xC00030
def R.xltRewalkTotal : Nat := 0xC00038
def R.xltLastFaultDva : Nat := 0xC00040
def R.xltLastFaultInfo : Nat := 0xC00048
def R.xltPtBase (i : Nat) : Nat := 0xC00100 + 16 * i
def R.xltPtSize (i : Nat) : Nat := 0xC00108 + 16 * i
def R.xltRoot (i : Nat) : Nat := 0xC00200 + 8 * i
def R.xltKey (i : Nat) : Nat := 0xC00400 + 4 * i
def R.glsCaps : Nat := 0xD00000
def R.glsRawTotal : Nat := 0xD00010
def R.glsCodedTotal : Nat := 0xD00018
def R.glsZeroTotal : Nat := 0xD00020
def R.glsLinesSavedTotal : Nat := 0xD00028
def R.glsDecodeErrTotal : Nat := 0xD00030
def R.glsTagFailTotal : Nat := 0xD00038
def R.glsLastErr : Nat := 0xD00040
def R.glsLastErrBlock : Nat := 0xD00048
def R.glsRegionBase (i : Nat) : Nat := 0xD00100 + 32 * i
def R.glsRegionSize (i : Nat) : Nat := 0xD00108 + 32 * i
def R.glsRegionSeal (i : Nat) : Nat := 0xD00110 + 32 * i
def R.glsRegionCtrl (i : Nat) : Nat := 0xD00118 + 32 * i
def R.smfCaps : Nat := 0xE00000
def R.smfDevice : Nat := 0xE00004
def R.smfLevelRack : Nat := 0xE00008
def R.smfPortEn : Nat := 0xE0000C
def R.smfPortCmd : Nat := 0xE00010
def R.smfRoute (i : Nat) : Nat := 0xE00100 + 4 * i
def R.smfPortCfg (i : Nat) : Nat := 0xE00200 + 4 * i
def R.smfPortTmask (i : Nat) : Nat := 0xE00280 + 4 * i
def R.smfPortStatus (i : Nat) : Nat := 0xE00300 + 4 * i
def R.smfCrcErrTotal : Nat := 0xE00400
def R.smfReplayTotal : Nat := 0xE00408
def R.smfRetrainTotal : Nat := 0xE00410
def R.smfTagfailTotal : Nat := 0xE00418
def R.smfKeyMismatchTotal : Nat := 0xE00420
def R.smfRouteErrTotal : Nat := 0xE00428
def R.smfStrayTotal : Nat := 0xE00430
def R.smfTimeoutTotal : Nat := 0xE00438
def R.smfFwdTotal : Nat := 0xE00440
def R.smfDirEvictTotal : Nat := 0xE00448
def R.smfSnoopTimeoutTotal : Nat := 0xE00450
def R.smfOveroccTotal : Nat := 0xE00458
def R.poolCaps : Nat := 0xF00000
def R.poolRevokeTime : Nat := 0xF00004
def R.poolLoad : Nat := 0xF00008
def R.poolMarkBase : Nat := 0xF00010
def R.poolPartPorts (i : Nat) : Nat := 0xF00040 + 4 * i
def R.poolMode (i : Nat) : Nat := 0xF00080 + 4 * i
def R.poolRate (i : Nat) : Nat := 0xF00090 + 4 * i
def R.poolBurst (i : Nat) : Nat := 0xF000A0 + 4 * i
def R.poolHdirUsed (i : Nat) : Nat := 0xF000B0 + 4 * i
def R.poolThrottleTotal (i : Nat) : Nat := 0xF000C0 + 8 * i
def R.poolRefusedTotal (i : Nat) : Nat := 0xF000E0 + 8 * i
def R.poolPoisonTotal : Nat := 0xF00100
def R.poolBiTotal : Nat := 0xF00108
def R.poolBiTimeoutTotal : Nat := 0xF00110
def R.kprStatus : Nat := 0x100000
def R.kprCmd : Nat := 0x100004
def R.kprVendorId : Nat := 0x100008
def R.kprSvn : Nat := 0x10000C
def R.kprArg (i : Nat) : Nat := 0x100010 + 8 * i
def R.kprMgen : Nat := 0x100040
def R.kprVector : Nat := 0x100048
def R.kprPartState (i : Nat) : Nat := 0x100060 + 4 * i
def R.kprPartSwitches (i : Nat) : Nat := 0x1000A0 + 4 * i
def R.kprMbxTxLen : Nat := 0x100100
def R.kprMbxRxLen : Nat := 0x100104
def R.kprMbxRxAck : Nat := 0x100108
def R.kprMbxTx (i : Nat) : Nat := 0x101000 + 8 * i
def R.kprMbxRx (i : Nat) : Nat := 0x102000 + 8 * i
def R.rasStatus : Nat := 0x300000
def R.rasCmd : Nat := 0x300004
def R.rasAck : Nat := 0x300008
def R.rasPending : Nat := 0x30000C
def R.rasPendingSeq : Nat := 0x300010
def R.rasVector : Nat := 0x300014
def R.rasWinCfg : Nat := 0x300018
def R.rasLogSize : Nat := 0x30001C
def R.rasLogBase : Nat := 0x300020
def R.rasLogTail : Nat := 0x300028
def R.rasLogHead : Nat := 0x30002C
def R.rasLogLost : Nat := 0x300030
def R.rasQueueLost : Nat := 0x300034
def R.rasInject : Nat := 0x300038
def R.rasSevTotal (i : Nat) : Nat := 0x300040 + 8 * i
def R.rasSetupErrTotal : Nat := 0x300068
def R.rasSelfLate : Nat := 0x300070
def R.rasLastingCore (i : Nat) : Nat := 0x300080 + 8 * i
def R.rasLastingUnit : Nat := 0x3000C0
def R.rasLastingPort : Nat := 0x3000C8
def R.rasFenced : Nat := 0x3000D0
def R.rasFencedPort : Nat := 0x3000D8
def R.rasFencedCore (i : Nat) : Nat := 0x300100 + 8 * i
def R.pwrStatus : Nat := 0x200000
def R.pwrCmd : Nat := 0x200004
def R.pwrCap : Nat := 0x200008
def R.pwrWakeCause : Nat := 0x20000C
def R.pwrDomain : Nat := 0x200010
def R.pwrVin : Nat := 0x200018
def R.pwrIin : Nat := 0x20001C
def R.pwrInput : Nat := 0x200020
def R.pwrThrottleTotal : Nat := 0x200028
def R.pwrDarkTotal : Nat := 0x200030
def R.pwrTempG (i : Nat) : Nat := 0x200100 + 4 * i
def R.pwrTempIo (i : Nat) : Nat := 0x200180 + 4 * i
def R.pwrTempS (i : Nat) : Nat := 0x200188 + 4 * i
def R.pwrTempD (i : Nat) : Nat := 0x2001C0 + 4 * i
def R.glbId : Nat := 0x0
def R.glbOrder : Nat := 0x4
def R.glbStatus : Nat := 0x8
def R.glbSerial0 : Nat := 0x10
def R.glbSerial1 : Nat := 0x18
def R.glbFitted0 : Nat := 0x20
def R.glbFitted1 : Nat := 0x28
def R.glbHportEn : Nat := 0x30
def R.glbEnabled0 : Nat := 0x38
def R.glbEnabled1 : Nat := 0x40
def R.glbTimestamp : Nat := 0x48
def R.glbSetupErrOffset : Nat := 0x50
def R.glbSetupErrInfo : Nat := 0x54
def R.dmaCaps : Nat := 0x500000
def R.dmaMaxLength : Nat := 0x500004
def R.dmaChan (i : Nat) : Nat := 0x500100 + 4 * i
def R.dmaBytes (i : Nat) : Nat := 0x500200 + 8 * i
def R.dmaWeight (i : Nat) : Nat := 0x500400 + 4 * i
def R.dmaDescTotal : Nat := 0x500500
def R.dmaErrTotal : Nat := 0x500508
def R.dmaSwapTotal : Nat := 0x500510

end Sys2Proof.Machine
end

