-- ==== Sys2Proof/Machine/State.lean ====
section
/-! DEFINITION. The state of the Zarmel 980 as plain data, and the state right after a cold reset. -/

namespace Sys2Proof.Machine

/-- No command stops the machine with a fault: what the spec calls a fault is an effect on the state (log entry 1). -/
inductive Fault
deriving DecidableEq, Repr

/-- A command without a meaning. -/
inductive Refusal where
  /-- Raised by the dispatch alone, for a command not modelled yet. Safe: nothing is claimed of it. -/
  | notModelled (mnemonic : String)
deriving DecidableEq, Repr

/-! ## Small names -/

/-- The assembly variants of R3. -/
inductive Variant where
  | s8i2 | s6i2 | s4i1
deriving DecidableEq, Repr

/-- Ring kinds of R32. -/
inductive RingKind where
  | dma | attn | sess | embl | embu | xinv | pool | mgmt
deriving DecidableEq, Repr

/-- Ring states of R36. -/
inductive RingState where
  | disabled | active | stopping | stopped | error
deriving DecidableEq, Repr

/-- Alignment states of R91. -/
inductive Align where
  | halted | aligned | holdover | free | realigning
deriving DecidableEq, Repr

/-- Phases of a rotation (R64); `idle` while no rotation is in progress. -/
inductive Phase where
  | idle | snapshot | bind | launch | close | guard
deriving DecidableEq, Repr

/-- Book states of R93. Which book is ACTIVE is the rotation's. -/
inductive BookState where
  | empty | loading | loaded | failed
deriving DecidableEq, Repr

/-- Session entry states of R99. -/
inductive SesState where
  | free | live | idle | waking | handoff | lost
deriving DecidableEq, Repr

/-- Handoff phases of R99. -/
inductive HPhase where
  | none | offered | granted | committed
deriving DecidableEq, Repr

/-- Frame types of R101. -/
inductive FrameType where
  | free | kvFirst | kvCont | map | table
deriving DecidableEq, Repr

/-- Where a granule's current copy lies (R203): `none` is UNPLACED in DRAM-only mode and DENSE in backed mode. -/
inductive Tier where
  | none | near | far
deriving DecidableEq, Repr

/-- Link states of R276. -/
inductive LinkState where
  | disabled | down | train | key | active | retrain | idle | failed
deriving DecidableEq, Repr

/-- Cache-line and directory states of R287. -/
inductive CohState where
  | i | s | e | m
deriving DecidableEq, Repr

/-- Power states of R366. -/
inductive Power where
  | off | boot | on | entering | dark | waking
deriving DecidableEq, Repr

/-- Service state of a drive as TIER_NVME_INFO gives it (R230). -/
inductive DriveState where
  | absent | inService | refused | failed
deriving DecidableEq, Repr

/-- The requests a home serves (R288); and what its own functions ask of a line: that its entry be emptied, for a victim of R293 or a
sweep of R309 (`victim`), or that memory hold what it reads (`recall`, RD_NC without a requester). -/
inductive HomeOp where
  | rdS | rdX | upg | rdNc | wrC | wrCm | wrNs | atAdd | atSwp | atCas | atMin | atMax | evict | victim | recall
deriving DecidableEq, Repr

/-- What a snoop asks (R283). -/
inductive SnoopOp where
  | inv | fwdS | fwdX | recalls | recallX
deriving DecidableEq, Repr

/-! ## Completion records and descriptors in hand -/

/-- What a completion record says beside the fields every record has (R42): STATUS, DETAIL [63:42], RESULT0 and
RESULT1. -/
structure Cpl where
  status : Byte
  detail : BitVec 22
  result0 : Word
  result1 : Word
deriving DecidableEq, Repr

/-- How far a fetched descriptor has come: checked and not started; at its pre-check (R72); a candidate; in
progress; bound into a slot; decided, but for writes that other homes have still to acknowledge; or decided, with its record still to
be written in order (R57, R58, R339). -/
inductive Stage where
  | queued | preparing | candidate | running | bound | landing (c : Cpl) | ended (c : Cpl)
deriving DecidableEq, Repr

/-- A fetched descriptor that has not completed (R57): `seq` orders those in hand by their fetches (R113, R115), and `host`, `idx` and `off`
hold what the descriptor reads from a host; `depths` are the DEPTH bytes of a TREE query, read at its pre-check (R138). -/
structure Flight where
  pos : Pos
  desc : Line
  stage : Stage
  seq : Nat
  host : List Byte
  idx : List (BitVec 32)
  off : List (BitVec 32)
  depths : List Nat
deriving DecidableEq, Repr

/-- A ring (R31, R36, R37). `ctx` is its 64-byte context of R32, `failedAt` the last DMA transfer that failed
part-way (R56), `held` the granules its CREATE found its pool storage in (R34), and `fresh` the INT flags of the records written
whose write has still to be acknowledged, each with its place in the completion ring (R49, R58; log entry 186). -/
structure Ring where
  state : RingState
  ctx : Line
  sqTail : BitVec 32
  sqHead : BitVec 32
  cqTail : BitVec 32
  cqHead : BitVec 32
  cause : Byte
  dropped : BitVec 16
  fetching : Nat
  flights : List Flight
  unsignalled : Nat
  coal : Bool
  failedAt : Option Pos
  held : List Nat
  fresh : List (BitVec 32 × Bool)
deriving DecidableEq, Repr

/-- A ring command in progress (R34): the port, its ring, and the result it will show. -/
structure RingCmd where
  port : Port
  ring : RingId
  result : Byte
deriving DecidableEq, Repr

/-! ## Host ports -/

/-- Link of a host port: held in reset by PERSTn_N, training, or up. -/
inductive HostLink where
  | reset | training | up
deriving DecidableEq, Repr

/-- An HDM decoder (R233): base, size, whether it is committed, Error Not Committed, and Back-Invalidate enabled on it (R316). -/
structure Decoder where
  base : Word
  size : Word
  committed : Bool
  error : Bool
  bi : Bool
deriving DecidableEq, Repr

/-- A CXL.mem request a port has admitted and not answered (R309): the slot it is in, which a later one under the same tag does not share, extent-map entry it came through, FPA, whether it
is a write, and its data. `dead`: its port was reset since, and its host gets no answer (R374). -/
structure HostReq where
  slot : BitVec 16
  tag : BitVec 16
  entry : Nat
  fpa : BitVec 56
  write : Bool
  copy : BitVec 2
  data : Line
  dead : Bool
deriving DecidableEq, Repr

/-- A CXL.mem request before admission (R312). -/
structure HostWait where
  hpa : Word
  write : Bool
  copy : BitVec 2
  data : Line
  tag : BitVec 16
deriving DecidableEq, Repr

/-- A line recorded in a host directory (R316) and when it was recorded. -/
structure HostLine where
  exclusive : Bool
  seq : Nat
deriving DecidableEq, Repr

/-- An extent-map entry (R234): STATE 0 UNGRANTED, 1 GRANTED, 2 DRAINING. -/
structure Extent where
  base : BitVec 26
  tenant : Tenant
  keysel : BitVec 4
  state : BitVec 2
  w : Bool
deriving DecidableEq, Repr

/-- A Back-Invalidate snoop awaiting its BIRsp (R316); `keep`: a BISnpData, which leaves the host a shared copy. -/
structure BackInv where
  line : Nat
  exclusive : Bool
  keep : Bool
deriving DecidableEq, Repr

/-- One host port (R27, R28, R49, R233, R312, R316, R318, R374). `msix` holds MSI-X table entries, `pba` pending
bits; a vector's mask bit is bit 96 of its entry. `counted`: how many of the oldest waiting requests have waited for tokens. -/
structure HostPort where
  link : HostLink
  perst : Bool
  l1 : Bool
  busMaster : Bool
  msixOn : Bool
  msix : Tbl (BitVec 128)
  pba : Tbl Bool
  decoders : Tbl Decoder
  extents : Tbl Extent
  recalls : Bool
  switching : Bool
  hdir : Tbl HostLine
  hdirSeq : Nat
  bis : List BackInv
  tokens : Nat
  waiting : List HostWait
  throttled : Bool
  counted : Nat
  inflight : List HostReq
deriving DecidableEq, Repr

/-! ## The rotation -/

/-- A sentence book slot (R69): its state, the reason its checks gave, the pool offset it was loaded from, the copy clauses
run from (R228) and its digest. -/
structure Book where
  state : BookState
  reason : BitVec 4
  addr : Nat
  data : List Byte
  digest : BitVec 384
deriving DecidableEq, Repr

/-- An item bound into a slot (R74, R76): its descriptor, size and rotations needed and run, what the slot was when
it bound, how it ends once that is decided, whether it ends as soon as every access of its clauses has completed (R186), the bytes of its
output, and whether that has been sent. -/
structure Item where
  ring : RingId
  pos : Pos
  kind : RingKind
  tenant : Tenant
  cls : BitVec 4
  nearOnly : Bool
  cap : Nat
  span : Nat
  runs : Nat
  need : Nat
  running : Bool
  fault : Option Cpl
  late : Option Cpl
  pins : List Nat
  closing : Bool
  rope : BitVec 96
  outLen : Nat
  written : Bool
deriving DecidableEq, Repr

/-- The rotation and its alignment (R62 to R76, R89 to R92). `closes` are the CLOSEs that wait for lookups to drain (R165),
`up0` the root of the beacons UP0 carries, `rooted` a standby root that took over, `rotations` those run and `hadBeacon` a beacon
received since RUN was set. `parity`: the next rotation that starts under a throttle is empty (R362). `forced`: what INVAL and
SETROOT dropped from the galleries' caches in this rotation, as gallery, tenant, page and its size in bits (R250). -/
structure Rot where
  align : Align
  phase : Phase
  halting : Bool
  mismatch : Bool
  pending : Bool
  behind : Bool
  hops : BitVec 3
  active : Option (BitVec 2)
  base : Word
  sentence : Option Nat
  books : Tbl Book
  loading : Option (BitVec 2)
  snapshot : List (RingId × Pos)
  tried : List Nat
  items : Tbl Item
  rotations : Nat
  lastBeacon : Word
  adopt : Option Word
  slew : Int
  rooted : Bool
  hadBeacon : Bool
  up0 : Option Dev
  parity : Bool
  overran : Bool
  closes : List (RingId × Pos)
  forced : List (Nat × Tenant × Nat × Nat)
deriving DecidableEq, Repr

/-! ## Sessions -/

/-- A session table entry (R99) with its map root (R103): `counts` are the N_l and `root` maps 8·l + g to a leaf
unit, pool offset ÷ 4,096. -/
structure Session where
  gen : BitVec 12
  state : SesState
  hphase : HPhase
  view : Bool
  remote : Bool
  tenant : Tenant
  kvfmt : BitVec 4
  layers : Byte
  hdim : BitVec 2
  kvh : BitVec 4
  version : BitVec 32
  pub : BitVec 21
  parent : SessionId
  parentVersion : BitVec 32
  epoch : BitVec 32
  mapRoot : BitVec 38
  home : Dev
  peer : Dev
  peerId : SessionId
  deadline : BitVec 32
  lastTouch : Word
  peerMask : Word
  counts : Tbl Nat
  root : Tbl Nat
deriving DecidableEq, Repr

/-- A leaf unit (R103): its reference count and its valid page entries, each a first frame ÷ 65,536. -/
structure Leaf where
  count : Nat
  pages : Tbl Nat
deriving DecidableEq, Repr

/-- A frame record (R101). `units` are a MAP frame's reference counts, `crc` a KV frame's CRC-32C by 4 KiB. -/
structure Frame where
  type : FrameType
  refs : Nat
  appender : SessionId
  fill : Nat
  span : Nat
  touch : Word
  units : Tbl Nat
  crc : Tbl (BitVec 32)
deriving DecidableEq, Repr

/-- An entry given up, of which nothing has been reclaimed yet (R121), and when it was given up. -/
structure Gone where
  handle : Nat
  entry : Session
  at_ : Nat
deriving DecidableEq, Repr

/-- A pull that waits (R128): for the lease to be read, or, once the lease allows it, for lines of its page that others hold. -/
structure HeldPull where
  dev : Dev
  session : SessionId
  epoch : BitVec 32
  what : PullKind
  leased : Bool
deriving DecidableEq, Repr

/-- An operation a home carries out on its members (R110): who has still to answer, and whether one was missed. -/
structure SesOp where
  ring : RingId
  pos : Pos
  kind : MemberKind
  session : SessionId
  child : SessionId
  waiting : Word
  missed : Bool
deriving DecidableEq, Repr

/-- An OFFER whose handoff runs (R127). -/
structure Offer where
  ring : RingId
  pos : Pos
  handle : Handle
deriving DecidableEq, Repr

/-- How far an ACCEPT has come (R127, R130). -/
inductive AcceptPhase where
  | claiming | committing | readingLease
deriving DecidableEq, Repr

/-- An ACCEPT in progress (R127). `quiet`: its descriptor has completed already, and the handoff goes on (R340, R355). -/
structure Accept where
  ring : RingId
  pos : Pos
  tenant : Tenant
  quiet : Bool
  peer : Dev
  peerId : SessionId
  epoch : BitVec 32
  handle : Option Handle
  phase : AcceptPhase
deriving DecidableEq, Repr

/-- Frames awaiting reclamation (R121): first frame numbers of pages, and map units. -/
structure Reclaim where
  page : Nat
  span : Nat
deriving DecidableEq, Repr

/-! ## Embedding -/

/-- A defined table (R157): its context as staged and the fields the device keeps. -/
structure Table where
  ctx : Line
  step : BitVec 32
  base : Nat
  dropped : Word
  clipped : Word
  nonfinite : Word
deriving DecidableEq, Repr

/-- A step-buffer entry (R170). The accumulators are exact, one integer an element; CLIP reads 1 while `clips`, the clipped
contributions among those it holds, is not 0. -/
structure StepEntry where
  table : TableId
  tenant : Tenant
  step : BitVec 32
  row : BitVec 32
  cnt : Nat
  clips : Nat
  acc : List Int
  image : Option (List Byte)
deriving DecidableEq, Repr

/-- What a GRAD has added to the step buffer (R171): rows with the contributions it added to each, and its counts; `ends`:
how it ends while it is being reversed (R172). -/
structure GradSum where
  ring : RingId
  pos : Pos
  table : TableId
  step : BitVec 32
  adds : List (Nat × Nat)
  accepted : Nat
  dropped : Nat
  clipped : Nat
  ends : Option Cpl
deriving DecidableEq, Repr

/-- A CLOSE whose images are being written over their rows (R175). -/
structure Install where
  ring : RingId
  pos : Pos
  table : TableId
  step : BitVec 32
  cpl : Cpl
deriving DecidableEq, Repr

/-! ## Cores -/

/-- What a split-phase access of a voice does (R183, class 6). -/
inductive AccKind where
  | ld | st | vld | vst | ldv | vldv | linv | aadd | aswp | acas | amin | amax | alda | astr
deriving DecidableEq, Repr

/-- A split-phase access outstanding (R79): its destination register, the device virtual address, the byte count, the
data it stores or the operand and comparand of an atomic, its modifier bits and IMM, and its translation once it is
`ready`: TGT, target address, mark key, and the size of its page, 2^bits bytes. `slot` names it among the voice's four, and `got` holds what came back that
no cache holds: line, data, poison. It belongs to the item of slot `own` and to its tenant, and is `stale` once its voice has been
launched again (R181, R186). `sentence` is its clause's, and `forced`: it walks only because an INVAL or SETROOT of this rotation
dropped its page (R250). -/
structure Access where
  own : Nat
  sentence : Nat
  forced : Bool
  tenant : Tenant
  stale : Bool
  slot : BitVec 2
  kind : AccKind
  dst : BitVec 5
  dva : Word
  len : Nat
  data : BitVec 2048
  cmp : Word
  mod : BitVec 4
  imm : BitVec 32
  ready : Bool
  tgt : Bool
  target : Word
  key : BitVec 24
  bits : Nat
  got : List (Nat × Line × Bool)
deriving DecidableEq, Repr

/-- A stream in progress or ended (R81, R243): whose it is as in `Access`, its place in its gallery's order of issue, token, descriptor,
tiles already moved, whether the next one is being transferred, the pages still to be requested ahead of it (R244), and how it ended. -/
structure Strm where
  own : Nat
  sentence : Nat
  seq : Nat
  begun : Bool
  want : List Nat
  tenant : Tenant
  stale : Bool
  token : Word
  desc : Line
  tiles : Nat
  done : Option AccessEnd
deriving DecidableEq, Repr

/-- A voice (R179, R181): registers, program counter (a byte offset into its sentence's code segment), fault status,
its clause's slot, sentence, tenant, window and code segment, and what it has outstanding. `stall`: the access that was its oldest
when it met a fifth (R79). `forced`: an access of its clause walked only because of an INVAL or SETROOT of this rotation (R250). -/
structure Voice where
  loaded : Bool
  running : Bool
  x : Tbl Word
  v : Tbl (BitVec 2048)
  t : Tbl (BitVec 32)
  pc : Nat
  code : List Byte
  fault : Byte
  slot : Nat
  sentence : Nat
  tenant : Tenant
  start : Nat
  stop : Nat
  out : List Access
  streams : List Strm
  nextToken : Word
  stall : Option (BitVec 2)
  forced : Bool
deriving DecidableEq, Repr

/-- An AMM queued on a core's array (R184): whose it is as in `Access`, the voice, its tile, MOD, rows and scratchpad
addresses, and whether the checks compare any of its rows (R150). -/
structure Amm where
  own : Nat
  tenant : Tenant
  stale : Bool
  voice : VoiceId
  tile : Bool
  mod : BitVec 4
  rows : Nat
  a : Nat
  b : Nat
  checked : Bool
deriving DecidableEq, Repr

/-- A line of a gallery cache or of a victim buffer (R188, R291): state, I for a victim given up, tenant, mark key,
data. No poisoned line is ever cached (R409). -/
structure CLine where
  state : CohState
  tenant : Tenant
  key : BitVec 24
  data : Line
deriving DecidableEq, Repr

/-- A line in an atomic buffer (R199): data, which bytes its atomics changed and no write-back has taken yet, the partition that
entered it and its mark key, and whether a write-back has still to be acknowledged. -/
structure ALine where
  data : Line
  mask : BitVec 64
  tenant : Tenant
  key : BitVec 24
  draining : Bool
deriving DecidableEq, Repr

/-! ## Tiers -/

/-- A copy of a granule under R221: where it goes, the frame it takes there, the units marked for another pass, the
passes made, the units this pass copies, and up to which unit it is known to have come. An eviction goes to no frame. -/
structure Move where
  dst : Tier
  frame : Nat
  marks : BitVec 16
  passes : Nat
  todo : BitVec 16
  copied : Nat
deriving DecidableEq, Repr

/-- A granule's placement entry (R203, R216, R221, R224). `fill`: a fill or placement is in progress into that tier;
`waits`: it has no frame yet (R217); `zeroing`: it brings zeros, not what a drive holds; `evict`: dirty units whose Writes are in flight;
`due`: set by an abandoned move, until the next age examination; `rise`: a promotion that has still to be made (R218). -/
structure Granule where
  tier : Tier
  frame : Nat
  dirty : BitVec 16
  touch : Nat
  pins : Nat
  nearHeld : Bool
  dramHeld : Bool
  fill : Option Tier
  waits : Bool
  zeroing : Bool
  fillUser : Option (RingId × Pos)
  move : Option Move
  evict : BitVec 16
  due : Bool
  rise : Bool
deriving DecidableEq, Repr

/-- A drive (R211 to R215): `cmds` are the commands it has been sent and has not answered, `queued` those that wait to be sent. -/
structure Drive where
  state : DriveState
  reason : BitVec 6
  granules : Nat
  cmds : List Nat
  queued : List Nat
  prepared : Nat
  resetting : Bool
  perst : Bool
deriving DecidableEq, Repr

/-- A block that an expansion die keeps expanded (R264): the die, its region and the region's tenant, the block's number, the bytes. -/
structure KeptBlock where
  die : Nat
  region : Nat
  tenant : Nat
  block : Nat
  bytes : List Byte
deriving DecidableEq, Repr

/-- A DDR channel (R209): its population, and its service code of TIER_DDR_INFO [7:6]. -/
structure Ddr where
  pop : BitVec 6
  trained : Bool
  info : BitVec 2
deriving DecidableEq, Repr

/-! ## Translation -/

/-- A cached leaf (R238, R241, R242): the cache it lies in (a gallery's, a DMA channel's or a front end's; see
`channelCache`), tenant, page number and size in bits, the leaf's bits, the mark key sampled when it was loaded (R251), the rotation
it was loaded in and its place in the order of loads. The list they stand in is in the order of their last use. -/
structure TlbEntry where
  cache : Nat
  tenant : Tenant
  page : Nat
  bits : Nat
  leaf : Word
  key : BitVec 24
  loaded : Word
  seq : Nat
deriving DecidableEq, Repr

/-- A cached pointer entry (R240): die, tenant, level, the index path above it, and the table it points to. -/
structure WalkEntry where
  die : Nat
  tenant : Tenant
  level : Nat
  path : Nat
  table : Nat
deriving DecidableEq, Repr

/-- A walk in progress (R239): the gallery that asked, the tenant and DVA, the level and table it reads next, the ranges of DVAs
invalidated since it began (R248), as first and length, and whether a stream's prefetch asked for it (R244). -/
structure Walk where
  gallery : Nat
  tenant : Tenant
  dva : Word
  level : Nat
  table : Nat
  drops : List (Nat × Nat)
  prefetch : Bool
deriving DecidableEq, Repr

/-- An INVAL, SETROOT or broadcast PTWRITE that has not completed (R247, R249): its descriptor, or the device that
forwarded it and waits for the confirmation, the devices that have still to confirm and those that have, whether one was missed, whether it counts in XLT_TOKEN, and this device's accesses that went through dropped entries. `quiet`: its descriptor has completed already (R339). -/
structure Bcast where
  ring : RingId
  pos : Pos
  quiet : Bool
  sender : Option Dev
  waiting : Word
  confirmed : Word
  missed : Bool
  counts : Bool
  accesses : List (VoiceId × BitVec 2)
deriving DecidableEq, Repr

/-! ## Sprinoucel -/

/-- A directory entry (R287). `ptrs` are (device, gallery); in E and M the first is the owner. `used` orders uses for
R293. -/
structure Dir where
  state : CohState
  coarse : Bool
  ptrs : List (Nat × Nat)
  devs : Word
  used : Nat
deriving DecidableEq, Repr

/-- A transaction open at the home (R288): the request, the lines it covers, the snoops it awaits as (device, gallery,
line), the Back-Invalidates it awaits as (port, line), and whether the requester was a listed sharer, the data was
forwarded to it, the line was found poisoned, a host was waited for (R316), and a drain has answered already (R309). -/
structure Txn where
  op : HomeOp
  req : Req
  host : Option (Port × BitVec 16)
  lines : List Nat
  awaiting : List (Nat × Nat × Nat)
  hosts : List (Nat × Nat)
  sharer : Bool
  forwarded : Bool
  poison : Bool
  hostWait : Bool
  answered : Bool
deriving DecidableEq, Repr

/-- A request waiting behind an open transaction (R288). -/
structure HomeWait where
  op : HomeOp
  req : Req
  host : Option (Port × BitVec 16)
deriving DecidableEq, Repr

/-- What travels inside the device: a request for this home, with the host request it stands for, a response, a snoop; and what a
home does to itself: the waiting requests of a 256-byte block are looked at again, a function's read waits for a line, or directory
sweeps start that nothing delays any more (R309). -/
inductive Msg where
  | req (op : HomeOp) (r : Req) (host : Option (Port × BitVec 16))
  | rsp (op : BitVec 5) (r : Rsp)
  | snp (op : SnoopOp) (r : Snp)
  | retry (block : Nat)
  | recall (line : Nat)
  | sweep
deriving DecidableEq, Repr

/-- A packet of the causeway (R18 to R20): the stop it stands at and the one it goes to, as row × 128 + column, and whether it holds
a buffer there, or still waits to enter. -/
structure Packet where
  msg : Msg
  at_ : Nat
  to_ : Nat
  inside : Bool
deriving DecidableEq, Repr

/-- Which engine of the device waits for a request (R23, R298): a descriptor (`off`: the byte of it that names the address), the record at
a place of a completion ring, a ring's fetch, a stream, a relief, the write-back of a gallery's atomic buffer, or none. -/
inductive Waiter where
  | flight (ring : RingId) (pos : Pos) (off : Nat)
  | record (ring : RingId) (place : BitVec 32)
  | fetch (ring : RingId)
  | stream (voice : VoiceId) (token : Word)
  | relief (ring : RingId) (pos : Pos)
  | abuf (gallery : Nat)
  | nobody
deriving DecidableEq, Repr

/-- A request of one of the device's own engines (R23, R298): who waits for it, what it asks, the DVA it stands for, and the bytes a write
brings. -/
structure EngReq where
  who : Waiter
  op : HomeOp
  req : Req
  dva : Nat
  bytes : Nat
deriving DecidableEq, Repr

/-- A line that an engine's read brought from another device or an endpoint: for whom, its address ÷ 64, and the status
it came with; `reason`: that of a BAD_DESCRIPTOR. -/
structure Came where
  who : Waiter
  tgt : Bool
  line : Nat
  data : Line
  status : Byte
  reason : Nat
deriving DecidableEq, Repr

/-! ## What leaves the device -/

/-- One thing the device sends (log entry 2). A management message of a function leaves as what it says and, on its port, as a `packet`
(R283; log entry 201). -/
inductive Out where
  | msix (port : Port) (vector : BitVec 11)
  | hostWrite (port : Port) (addr : Word) (data : List Byte) (poisoned : Bool)
  | hostRead (port : Port) (addr : Word) (len : Nat)
  | beacon (p : SPort) (number : Word) (period : BitVec 9) (root : Dev) (hops : Byte)
  | flit (p : SPort) (flit : BitVec 2048)
  | request (p : SPort) (op : HomeOp) (r : Req)
  | response (p : SPort) (op : BitVec 5) (r : Rsp)
  | snoop (p : SPort) (op : SnoopOp) (r : Snp)
  | packet (p : SPort) (dst : Endpoint) (tag : BitVec 15) (payload : List (BitVec 128))
  | mgStatus (p : SPort) (dst : Endpoint) (tag : BitVec 15) (status : Byte)
  | member (dev : Dev) (op : MemberOp)
  | memberAck (dev : Dev) (session : SessionId)
  | pull (dev : Dev) (session : SessionId) (epoch : BitVec 32) (what : PullKind)
  | pullAnswer (dev : Dev) (session : SessionId) (answer : PullAnswer)
  | claim (dev : Dev) (session : SessionId) (epoch : BitVec 32) (mask : Word)
  | grant (dev : Dev) (session : SessionId) (epoch : BitVec 32) (mask : Word) (info : EntryInfo)
  | claimRefused (dev : Dev) (session : SessionId) (epoch : BitVec 32) (stale : Bool)
  | commit (dev : Dev) (session : SessionId) (epoch : BitVec 32)
  | commitAck (dev : Dev) (session : SessionId)
  | leaseRead (dev : Dev) (session : SessionId)
  | release (dev : Dev) (session : SessionId) (epoch : BitVec 32)
  | ptwrite (dev : Dev) (off : BitVec 32) (bytes : List Byte)
  | inval (dev : Dev) (tenant : Tenant) (all : Bool) (addr len : Word) (root : Option (BitVec 32))
  | invalConfirm (dev : Dev)
  | cxlData (port : Port) (tag : BitVec 16) (data : Line) (poison : Bool)
  | cxlDone (port : Port) (tag : BitVec 16)
  | cxlCredit (port : Port)
  | driveReset (drive : BitVec 3)
  | bisnp (port : Port) (line : Nat) (keep : Bool)
  | cfgRetry (port : Port)
  | cfgDone (port : Port) (value : BitVec 32)
  | drive (d : BitVec 3) (op : Nat) (block count : Nat)
  | reliefMeta (dev : Dev) (sessions : Tbl Session) (tables : Tbl (Option Table))
  | mctp (binding : BitVec 3) (bytes : List Byte)
  | pldmEvent (seq : BitVec 32)
  | thermTrip
  | tdo (value : BitVec 32)
deriving DecidableEq, Repr

/-- What a requester tag is used for (R296). `gone`: the access that asked for a line has ended, and the line still comes; `zero`
says that its partition was scrubbed meanwhile. `mg`: a management request. `other`: nothing waits for the
response any more. -/
inductive TagUse where
  | free
  | access (voice : VoiceId) (slot : BitVec 2) (line : Nat) (op : HomeOp)
  | gone (gallery : Nat) (line : Nat) (op : HomeOp) (tenant : Tenant) (key : BitVec 24) (zero : Bool)
  | evict (gallery : Nat) (line : Nat)
  | host (port : Port) (tag : BitVec 16)
  | engine (q : EngReq)
  | mg (o : Out)
  | other
  | quarantined
deriving DecidableEq, Repr

/-- A requester tag (R296); `held`: the one snoop it may hold (R290). -/
structure ReqTag where
  use : TagUse
  held : Option (SnoopOp × Snp)
  noInstall : Bool
deriving DecidableEq, Repr

/-- A mark-table entry (R302). -/
structure Mark where
  key : BitVec 24
  tenant : Tenant
  valid : Bool
  drain : Bool
deriving DecidableEq, Repr

/-- A drain (R309): the descriptor that began it, whether it is a REVOKE, the port, the first entry and count, the
requests that completed and those poisoned, and whether the directory sweep has begun. `quiet`: its descriptor has completed
already (R339). -/
structure Drain where
  ring : RingId
  pos : Pos
  quiet : Bool
  revoke : Bool
  port : Port
  first : Nat
  count : Nat
  normal : Nat
  poisoned : Nat
  sweeping : Bool
deriving DecidableEq, Repr

/-- A SETMODE in progress (R318): the mode it switches to, whether its requests in flight have completed, the lines
back-invalidated and those written poisoned. `quiet` as in `Drain`. -/
structure ModeSwitch where
  ring : RingId
  pos : Pos
  quiet : Bool
  port : Port
  recalls : Bool
  drained : Bool
  lines : Nat
  poisoned : Nat
deriving DecidableEq, Repr

/-! ## The Keeper -/

/-- A model key (R331). -/
structure ModelKey where
  key : BitVec 256
  pfx : BitVec 32
deriving DecidableEq, Repr

/-- An SPDM session (R328, R331): the binding it runs over, whether it is finished and mutually authenticated with this root
certificate digest, and the time and measurement generation of the last signed report sent on it. -/
structure Spdm where
  binding : Nat
  finished : Bool
  mutually : Bool
  root : BitVec 384
  report : Option (Nat × Word)
deriving DecidableEq, Repr

/-- A partition's state (R326, R339). -/
structure Part where
  switching : Bool
  erase : Bool
  anchored : Bool
  anchor : BitVec 384
  switches : BitVec 32
  keys : Tbl ModelKey
  keyGen : Nat
deriving DecidableEq, Repr

/-- A Keeper command in progress (R341). -/
structure KprCmd where
  port : Port
  result : Byte
  waits : Bool
deriving DecidableEq, Repr

/-- The Keeper (R321 to R341). By MCTP binding: `conns`, how far an SPDM connection has come (0 nothing, 1 version, 2 capabilities,
3 algorithms), and the parts of a message being received and sent in chunks; `mbxRest` is what the mailbox's packet leaves of an answer. -/
structure Keeper where
  booted : Bool
  bootFail : Bool
  sealed : Bool
  copyB : Bool
  tapLocked : Bool
  svn : Byte
  stagedSvn : Byte
  cmd : Option KprCmd
  last : Tbl Byte
  measKeeper : BitVec 384
  measCore : BitVec 384
  measConfig : BitVec 384
  measRegion : Tbl (BitVec 384)
  parts : Tbl Part
  deviceKeyGen : Nat
  sessions : Tbl Spdm
  reports : Word
  conns : Tbl Nat
  chunkIn : Tbl (List Byte)
  chunkOut : Tbl (List Byte)
  eids : Tbl Byte
  mbxBusy : Bool
  mbxFull : Bool
  mbxRest : List Byte
deriving DecidableEq, Repr

/-- What a cold reset keeps (R375): the fuses (R321; the codes of the lifecycle state are not given) and the SPI flash (R322), with
`chain` the identity certificate chain. -/
structure Nvm where
  lifecycle : Nat
  fuseSvn : Byte
  rootDigest : BitVec 384
  secret : BitVec 256
  serial : BitVec 128
  keeperA : Image
  coreA : Image
  keeperB : Image
  coreB : Image
  chain : List Byte
deriving DecidableEq, Repr

/-! ## Errors -/

/-- A pending or queued error (R348, R349): SEQ and severity. -/
structure Err where
  seq : BitVec 32
  severity : Nat
deriving DecidableEq, Repr

/-- The fence of a unit (R350, R351): fenced at a comparison; past its 2 ms. -/
structure FenceSt where
  cls : Nat
  unit : Nat
  late : Bool
  afterReset : Bool
deriving DecidableEq, Repr

/-- A relief (R356): whether its rotation has come, its writes have been sent, one went unanswered, and its
descriptor is gone; `read` names the DENSE granules that its direct Reads have returned. -/
structure Relief where
  ring : RingId
  pos : Pos
  first : Nat
  count : Nat
  target : Dev
  at_ : Word
  metadata : Bool
  started : Bool
  copied : Bool
  late : Bool
  quiet : Bool
  bytes : Nat
  poisoned : Nat
  read : List Nat
deriving DecidableEq, Repr

/-- The RAS block (R342 to R359). `wins` holds the times of counted events by unit, newest first; `failed` are units whose health
the Keeper holds as failed. -/
structure Ras where
  jobHalt : Bool
  haltNow : Bool
  fog : Bool
  fogEntering : Bool
  resetBusy : Bool
  resetWaits : Bool
  resetDone : Bool
  seq : BitVec 32
  buffer : List Line
  baseWritten : Bool
  pending : Option Err
  queue : List Err
  wins : Tbl (List Nat)
  fences : List FenceSt
  absent : List (Nat × Nat)
  failed : List (Nat × Nat)
  reliefs : List Relief
  selfLate : List Nat
  fogCls : Nat
  fogUnit : Nat
deriving DecidableEq, Repr

/-! ## Power and pins -/

/-- Why a throttle is in force (R362): input power, sensors (class × 64 + number), the margin bands. `wasPower` and `wasThermal`:
what has been among its triggers since it began. -/
structure Throttle where
  power : Bool
  thermal : List Nat
  margin : Bool
  inForce : Bool
  wasPower : Bool
  wasThermal : Bool
deriving DecidableEq, Repr

/-- TAP instructions of R403; `reset` is Test-Logic-Reset. -/
inductive Tap where
  | reset | bypass | idcode | sample | extest
deriving DecidableEq, Repr

/-- A request that arrived while the device slept and waits for the wake to end (R370, R380): a set-up write, a doorbell, a
CXL.mem or configuration request of a host, a message of the fabric, or a timer of the session store that expired (R369). -/
inductive Held where
  | setup (port : Port) (off : BitVec 26) (size : Nat) (value : Word)
  | fwStage (port : Port) (keeper core : Bool)
  | doorbell (cqHead : Bool) (ring : RingId) (value : BitVec 32)
  | cxl (port : Port) (w : HostWait)
  | config (port : Port) (req : CfgReq)
  | req (via : SPort) (op : HomeOp) (r : Req)
  | snp (via : SPort) (op : SnoopOp) (r : Snp)
  | rsp (via : SPort) (op : BitVec 5) (r : Rsp)
  | mg (via : SPort) (src : Endpoint) (tag : BitVec 15) (body : MgBody)
  | ptwrite (from_ : Dev) (off : BitVec 32) (bytes : List Byte)
  | inval (from_ : Dev) (tenant : Tenant) (all : Bool) (addr len : Word) (root : Option (BitVec 32))
  | confirm (ring : RingId) (dev : Dev)
  | member (op : MemberOp)
  | memberAck (session : SessionId) (dev : Dev)
  | pull (from_ : Dev) (session : SessionId) (epoch : BitVec 32) (what : PullKind)
  | pullAnswer (session : SessionId) (answer : PullAnswer)
  | claim (session : SessionId) (epoch : BitVec 32) (peer : Dev) (peerId : SessionId) (peerMask : Word)
  | grant (peer : Dev) (peerId : SessionId) (epoch : BitVec 32) (mask : Word) (info : EntryInfo)
  | commit (session : SessionId) (epoch : BitVec 32) (peer : Dev)
  | commitAck (peer : Dev) (peerId : SessionId)
  | lease (session : SessionId) (lease : Lease)
  | release (session : SessionId) (epoch : BitVec 32)
  | claimRefused (peer : Dev) (peerId : SessionId) (stale : Bool)
  | leaseAnswer (peer : Dev) (peerId : SessionId) (lease : Lease)
  | memberTimeout (session : SessionId) (dev : Dev)
  | pullTimeout (session : SessionId)
  | commitTimeout (peer : Dev) (peerId : SessionId)
  | leaseTimeout (peer : Dev) (peerId : SessionId)
  | handoffTimer (handle : Handle)
  | releaseWait (handle : Handle)
deriving DecidableEq, Repr

/-- Power, clocks, reset and pins (R360 to R378, R398 to R403). `result` is that of the last PWR_CMD, and `warned` the sensors that
stand at or above their warning threshold, and + 1024 their critical one (class × 64 + number). -/
structure Pwr where
  state : Power
  throttle : Throttle
  vinMargin : Bool
  result : Byte
  wakeCause : BitVec 3
  waiting : List Held
  warned : List Nat
  resetN : Bool
  flashExtN : Bool
  sysReady : Bool
  refSys : Bool
  refFab : Bool
  tap : Tap
  cells : Word
  fogAfterWake : Bool
deriving DecidableEq, Repr

/-- A link (R269 to R276, R284, R285). `expSeq` is the SEQ awaited, `nakSet` while a NAK is out, `sameNak` the NAKs for the flit
awaited and `nakTimes` the times of the last ones, `gotNaks` those the partner sent for one flit, and `ackDue` while a flit received
has still to be acknowledged; `replay` holds unacknowledged flits in the clear, oldest first; `rxCount` and `txCount` count flits since
the last KEY; `credits` are the chunks held toward the partner by channel and `nonRot` those of them in use without ROT; `discards`
counts the flits of the replay buffer that a timeout in RETRAIN discarded (R276), which no register shows; `owed` are credits to return
(channel, without ROT, chunks); `rx` and `rxRot` the chunks of the message being received and of one that preempts it; `txq` the
messages waiting to be sent, and `reqSkip`, `mgtSkip` the messages sent since one of REQ and MGT. -/
structure SLink where
  state : LinkState
  level : Byte
  reason : BitVec 4
  long : Bool
  delay : BitVec 11
  retrainKey : Bool
  expSeq : BitVec 10
  nakSet : Bool
  nakTimes : List Nat
  sameNak : Nat
  gotNaks : Nat
  ackDue : Bool
  txSeq : BitVec 10
  replay : List (BitVec 2048)
  discards : Nat
  rxCount : Nat
  txCount : Nat
  epoch : Nat
  credits : Tbl Nat
  nonRot : Tbl Nat
  owed : List (Nat × Bool × Nat)
  rx : List (BitVec 128)
  rxRot : List (BitVec 128)
  txq : List Out
  reqSkip : Nat
  mgtSkip : Nat
deriving DecidableEq, Repr

/-! ## The machine -/

/-- What the load of R48 is taken from: the near-tier bandwidth in use in per cent (log entry 10); the memory transactions and requester
tags in use, newest first, with the time since which they stood so; the nanoseconds that cores spent running clauses in this rotation;
and those of the rotations completed, newest first, with their ends and lengths. -/
structure Usage where
  near : BitVec 7
  points : List (Nat × Nat × Nat)
  busy : Nat
  done : List (Nat × Nat × Nat)
deriving DecidableEq, Repr

/-- The Zarmel 980. `use` gives the load of R48, `stripe` the drives
of the dense tier, settled at READY (R213), `heldPulls` pulls waiting to be served, `discarded` entries given up whose
reclamation has not begun (R121), `engineQ` engines' requests that wait for a tag (R23), `came` what their reads brought, `heldOps` member operations that wait for the entry they
name, `receiving` the members of this home's REMOTE sessions that have pages still to pull (R128), `sesCache` the session entries
cached on die (R98), `mgWaits` management requests that wait for a tag (R298), and `missed` those found unreachable (R296). `regs` holds every set-up register that no other field determines, by BAR0 offset (per-port
staging by offset + port × 2^26), and `rwk` those of R388. -/
structure State where
  pending : List Instr
  out : List Out
  free : Nat
  variant : Variant
  time : Nat
  latch : Tbl (BitVec 32)
  rwk : Tbl (BitVec 32)
  regs : Tbl Word
  ports : Tbl HostPort
  rings : Tbl Ring
  ringCmd : Option RingCmd
  ringLast : Tbl (BitVec 12)
  rot : Rot
  sessions : Tbl Session
  leaves : Tbl Leaf
  frames : Tbl Frame
  sesOps : List SesOp
  offers : List Offer
  accepts : List Accept
  pulls : List (Nat × PullKind)
  heldPulls : List HeldPull
  discarded : List Gone
  reclaims : List Reclaim
  abftArm : Tbl Bool
  tables : Tbl (Option Table)
  tabCmd : Option (Port × TableId × Table)
  tabLast : Tbl Byte
  steps : List StepEntry
  grads : List GradSum
  installs : List Install
  poisonSteps : List (TableId × BitVec 32)
  voices : Tbl Voice
  pads : Tbl Byte
  carries : Tbl (BitVec 16)
  amms : Tbl (List Amm)
  gcache : Tbl CLine
  abuf : Tbl ALine
  victims : Tbl CLine
  pool : List Host.Cell
  poison : Tbl Bool
  lineKey : Tbl Nat
  granules : Tbl Granule
  backed : Bool
  preparing : Bool
  ready : Bool
  drives : Tbl Drive
  stripe : List Nat
  ddr : Tbl Ddr
  tlb : List TlbEntry
  walkCache : List WalkEntry
  walks : Tbl Walk
  bcasts : List Bcast
  blocks : List KeptBlock
  links : Tbl SLink
  tags : Tbl ReqTag
  dir : Tbl Dir
  dirSeq : Nat
  txns : Tbl Txn
  homeWaits : Tbl (List HomeWait)
  net : List Packet
  marks : Tbl Mark
  mgQueue : List (Endpoint × BitVec 15 × MgBody)
  drains : List Drain
  modeSwitches : List ModeSwitch
  keeper : Keeper
  nvm : Nvm
  ras : Ras
  pwr : Pwr
  use : Usage
  engineQ : List EngReq
  came : List Came
  heldOps : List MemberOp
  receiving : List (Nat × Word)
  sesCache : List Nat
  mgWaits : List Out
  missed : List Out
deriving DecidableEq, Repr

/-! ## Reset -/

/-- A ring as cold reset leaves it (R31, R36, R37). -/
def Ring.off : Ring :=
  { state := .disabled, ctx := 0, sqTail := 0, sqHead := 0, cqTail := 0, cqHead := 0, cause := 0, dropped := 0,
    fetching := 0, flights := [], unsignalled := 0, coal := false, failedAt := none, held := [], fresh := [] }

/-- A host port as cold reset leaves it: PERSTn_N asserted (R376), flush mode (R314), a full bucket (log entry
9). -/
def HostPort.off : HostPort :=
  { link := .reset, perst := true, l1 := false, busMaster := false, msixOn := false, msix := [],
    pba := [], decoders := [], extents := [], recalls := false, switching := false, hdir := [], hdirSeq := 0, bis := [],
    tokens := 1048576, waiting := [], throttled := false, counted := 0, inflight := [] }

def Rot.off : Rot :=
  { align := .halted, phase := .idle, halting := false, mismatch := false, pending := false, behind := false,
    hops := 0, active := none, base := 0, sentence := none, books := [], loading := none, snapshot := [], tried := [],
    items := [], rotations := 0, lastBeacon := 0, adopt := none, slew := 0, rooted := false, hadBeacon := false, up0 := none, parity := false, overran := false, closes := [], forced := [] }

def Image.none : Image := { genuine := false, bytes := [] }

def Nvm.blank : Nvm :=
  { lifecycle := 0, fuseSvn := 0, rootDigest := 0, secret := 0, serial := 0, keeperA := Image.none, coreA := Image.none,
    keeperB := Image.none, coreB := Image.none, chain := [] }

def Keeper.off : Keeper :=
  { booted := false, bootFail := false, sealed := false, copyB := false, tapLocked := false, svn := 0,
    stagedSvn := 0xFF, cmd := none, last := [], measKeeper := 0, measCore := 0, measConfig := 0, measRegion := [],
    parts := [], deviceKeyGen := 0, sessions := [], reports := 0, conns := [],
    chunkIn := [], chunkOut := [], eids := [], mbxBusy := false, mbxFull := false, mbxRest := [] }

def Ras.off : Ras :=
  { jobHalt := false, haltNow := false, fog := false, fogEntering := false, resetBusy := false, resetWaits := false,
    resetDone := false, seq := 0, buffer := [], baseWritten := false, pending := none, queue := [], wins := [],
    fences := [], absent := [], failed := [], reliefs := [], selfLate := [], fogCls := 0, fogUnit := 0 }

def Throttle.off : Throttle :=
  { power := false, thermal := [], margin := false, inForce := false, wasPower := false, wasThermal := false }

/-- Power and pins right after a cold reset: BOOT, bring-up not begun (R366, R376). -/
def Pwr.off : Pwr :=
  { state := .boot, throttle := Throttle.off, vinMargin := false, result := 0, wakeCause := 0,
    waiting := [], warned := [], resetN := true, flashExtN := true, sysReady := false,
    refSys := true, refFab := true, tap := .reset, cells := 0, fogAfterWake := false }

def Usage.off : Usage := { near := 0, points := [], busy := 0, done := [] }

/-- What a cold reset leaves of a device of a variant with these fuses and this flash: everything else is lost
(R375). -/
def State.cold (v : Variant) (n : Nvm) : State :=
  { pending := [], out := [], free := 0, variant := v, time := 0, latch := [], rwk := [], regs := [], ports := [],
    rings := [], ringCmd := none, ringLast := [], rot := Rot.off, sessions := [], leaves := [], frames := [],
    sesOps := [], offers := [], accepts := [], pulls := [], heldPulls := [], discarded := [], reclaims := [], abftArm := [], tables := [],
    tabCmd := none, tabLast := [], steps := [], grads := [], installs := [], poisonSteps := [], voices := [],
    pads := [], carries := [], amms := [], gcache := [], abuf := [], victims := [], pool := [], poison := [],
    lineKey := [], granules := [], backed := false, preparing := false, ready := false, drives := [], stripe := [], ddr := [],
    tlb := [], walkCache := [], walks := [], bcasts := [], blocks := [], links := [], tags := [],
    dir := [], dirSeq := 0, txns := [], homeWaits := [], net := [], marks := [], mgQueue := [], drains := [],
    modeSwitches := [], keeper := Keeper.off, nvm := n, ras := Ras.off, pwr := Pwr.off, use := Usage.off, engineQ := [], came := [], heldOps := [], receiving := [], sesCache := [], mgWaits := [], missed := [] }

/-- The machine right after reset: the reference configuration of R8 (log entry 5), blank fuses and flash (log entry
7), every register at its reset value. -/
def State.reset : State := State.cold .s8i2 Nvm.blank

end Sys2Proof.Machine
end

