-- ==== Sys2Proof/Machine/Ops.lean ====
section
/-! DEFINITION. The named operations over the state: what an unlisted entry of each table reads as, the accessors of
each table, registers, units, error records, interrupts, and pool memory. -/

namespace Sys2Proof.Machine

/-! ## Status codes (R47) and completion contents (R42) -/

def St.done : Byte := 0x00
def St.doneDropped : Byte := 0x01
def St.staleVersion : Byte := 0x02
def St.keyMismatch : Byte := 0x03
def St.extentRevoked : Byte := 0x04
def St.late : Byte := 0x05
def St.poisoned : Byte := 0x06
def St.timeout : Byte := 0x07
def St.unsupportedLevel : Byte := 0x08
def St.stopped : Byte := 0x09
def St.fog : Byte := 0x0A
def St.noSpace : Byte := 0x0B
def St.abftFail : Byte := 0x0C
def St.badDescriptor : Byte := 0x0D
def St.notOwner : Byte := 0x0E
def St.tenantScrubbed : Byte := 0x0F
def St.lost : Byte := 0x10
def St.deferred : Byte := 0x11

/-- A completion with a status and nothing else. -/
def Cpl.of (status : Byte) : Cpl := { status, detail := 0, result0 := 0, result1 := 0 }

/-- A completion with a status and a DETAIL. -/
def Cpl.why (status : Byte) (detail : Nat) : Cpl := { Cpl.of status with detail := BitVec.ofNat 22 detail }

/-- A completion with a status and results. -/
def Cpl.res (status : Byte) (r0 r1 : Nat) : Cpl :=
  { Cpl.of status with result0 := BitVec.ofNat 64 r0, result1 := BitVec.ofNat 64 r1 }

/-- BAD_DESCRIPTOR with the byte offset of the offending field and the reason (R42: record bits [47:42] and
[55:48]). -/
def Cpl.bad (offset reason : Nat) : Cpl := Cpl.why St.badDescriptor (offset + 64 * reason)

/-! ## What an unlisted entry reads as -/

def Decoder.off : Decoder := { base := 0, size := 0, committed := false, error := false, bi := false }

def Extent.none : Extent := { base := 0, tenant := 0, keysel := 0, state := 0, w := false }

def Book.empty : Book := { state := .empty, reason := 0, addr := 0, data := [], digest := 0 }

def Session.none : Session :=
  { gen := 0, state := .free, hphase := .none, view := false, remote := false, tenant := 0, kvfmt := 0, layers := 0,
    hdim := 0, kvh := 0, version := 0, pub := 0, parent := 0, parentVersion := 0, epoch := 0, mapRoot := 0, home := 0,
    peer := 0, peerId := 0, deadline := 0, lastTouch := 0, peerMask := 0, counts := [], root := [] }

def Leaf.none : Leaf := { count := 0, pages := [] }

def Frame.free : Frame :=
  { type := .free, refs := 0, appender := 0, fill := 0, span := 0, touch := 0, units := [], crc := [] }

def Voice.off : Voice :=
  { loaded := false, running := false, x := [], v := [], t := [], pc := 0, code := [], fault := 0, slot := 0,
    sentence := 0, tenant := 0, start := 0, stop := 0, out := [], streams := [], nextToken := 1, stall := none, forced := false }

def CLine.none : CLine := { state := .i, tenant := 0, key := 0, data := 0 }

def ALine.none : ALine := { data := 0, mask := 0, tenant := 0, key := 0, draining := false }

/-- A granule in no frame: UNPLACED in DRAM-only mode, DENSE in backed mode (R216). -/
def Granule.none : Granule :=
  { tier := .none, frame := 0, dirty := 0, touch := 0, pins := 0, nearHeld := false, dramHeld := false, fill := .none,
    waits := false, zeroing := false, fillUser := .none, move := .none, evict := 0, due := false, rise := false }

def Drive.off : Drive :=
  { state := .absent, reason := 0, granules := 0, cmds := [], queued := [], prepared := 0, resetting := false, perst := true }

def Ddr.off : Ddr := { pop := 0, trained := false, info := 0 }

/-- Chunks a receiver holds for a channel: 0 REQ, 1 SNP, 2 RSP, 3 MGT; and how many messages without ROT may take (R284). -/
def vcChunks (vc : Nat) : Nat × Nat :=
  if vc = 0 then (3584, 896) else if vc = 1 then (1344, 1344) else if vc = 2 then (5376, 2688) else (448, 448)

/-- A link as cold reset leaves it (R276). -/
def SLink.off : SLink :=
  { state := .disabled, level := 0, reason := 0, long := false, delay := 0, retrainKey := false, expSeq := 0, nakSet := false
    nakTimes := [], sameNak := 0, gotNaks := 0, ackDue := false, txSeq := 0, replay := [], discards := 0, rxCount := 0, txCount := 0, epoch := 0, credits := []
    nonRot := [], owed := [], rx := [], rxRot := [], txq := [], reqSkip := 0, mgtSkip := 0 }

def ReqTag.free : ReqTag := { use := .free, held := .none, noInstall := false }

def Dir.none : Dir := { state := .i, coarse := false, ptrs := [], devs := 0, used := 0 }

def Mark.none : Mark := { key := 0, tenant := 0, valid := false, drain := false }

def Part.off : Part :=
  { switching := false, erase := false, anchored := false, anchor := 0, switches := 0, keys := [], keyGen := 0 }

/-! ## Accessors -/

def State.ring (s : State) (r : Nat) : Ring := tget (fun _ => Ring.off) s.rings r

def State.setRing (s : State) (r : Nat) (x : Ring) : State :=
  { s with rings := tput (fun _ => Ring.off) s.rings r x }

def State.updRing (s : State) (r : Nat) (f : Ring → Ring) : State := s.setRing r (f (s.ring r))

def State.port (s : State) (p : Nat) : HostPort := tget (fun _ => HostPort.off) s.ports p

def State.updPort (s : State) (p : Nat) (f : HostPort → HostPort) : State :=
  { s with ports := tput (fun _ => HostPort.off) s.ports p (f (s.port p)) }

def State.session (s : State) (h : Nat) : Session := tget (fun _ => Session.none) s.sessions h

def State.setSession (s : State) (h : Nat) (x : Session) : State :=
  { s with sessions := tput (fun _ => Session.none) s.sessions h x }

def State.updSession (s : State) (h : Nat) (f : Session → Session) : State := s.setSession h (f (s.session h))

def State.leaf (s : State) (u : Nat) : Leaf := tget (fun _ => Leaf.none) s.leaves u

def State.setLeaf (s : State) (u : Nat) (x : Leaf) : State :=
  { s with leaves := tput (fun _ => Leaf.none) s.leaves u x }

def State.frame (s : State) (f : Nat) : Frame := tget (fun _ => Frame.free) s.frames f

def State.setFrame (s : State) (f : Nat) (x : Frame) : State :=
  { s with frames := tput (fun _ => Frame.free) s.frames f x }

def State.updFrame (s : State) (f : Nat) (g : Frame → Frame) : State := s.setFrame f (g (s.frame f))

def State.table (s : State) (t : Nat) : Option Table := tget (fun _ => none) s.tables t

def State.setTable (s : State) (t : Nat) (x : Option Table) : State :=
  { s with tables := tput (fun _ => none) s.tables t x }

def State.voice (s : State) (v : Nat) : Voice := tget (fun _ => Voice.off) s.voices v

def State.setVoice (s : State) (v : Nat) (x : Voice) : State :=
  { s with voices := tput (fun _ => Voice.off) s.voices v x }

def State.updVoice (s : State) (v : Nat) (f : Voice → Voice) : State := s.setVoice v (f (s.voice v))

def State.granule (s : State) (g : Nat) : Granule := tget (fun _ => Granule.none) s.granules g

def State.setGranule (s : State) (g : Nat) (x : Granule) : State :=
  { s with granules := tput (fun _ => Granule.none) s.granules g x }

def State.updGranule (s : State) (g : Nat) (f : Granule → Granule) : State := s.setGranule g (f (s.granule g))

def State.drive (s : State) (d : Nat) : Drive := tget (fun _ => Drive.off) s.drives d

def State.updDrive (s : State) (d : Nat) (f : Drive → Drive) : State :=
  { s with drives := tput (fun _ => Drive.off) s.drives d (f (s.drive d)) }

def State.ddrCh (s : State) (d : Nat) : Ddr := tget (fun _ => Ddr.off) s.ddr d

def State.setDdr (s : State) (d : Nat) (x : Ddr) : State := { s with ddr := tput (fun _ => Ddr.off) s.ddr d x }

def State.link (s : State) (p : Nat) : SLink := tget (fun _ => SLink.off) s.links p

def State.setLink (s : State) (p : Nat) (x : SLink) : State :=
  { s with links := tput (fun _ => SLink.off) s.links p x }

def State.updLink (s : State) (p : Nat) (f : SLink → SLink) : State := s.setLink p (f (s.link p))

def State.tag (s : State) (t : Nat) : ReqTag := tget (fun _ => ReqTag.free) s.tags t

def State.setTag (s : State) (t : Nat) (x : ReqTag) : State :=
  { s with tags := tput (fun _ => ReqTag.free) s.tags t x }

def State.dirEntry (s : State) (l : Nat) : Dir := tget (fun _ => Dir.none) s.dir l

def State.setDir (s : State) (l : Nat) (x : Dir) : State := { s with dir := tput (fun _ => Dir.none) s.dir l x }

def State.mark (s : State) (x : Nat) : Mark := tget (fun _ => Mark.none) s.marks x

def State.setMark (s : State) (x : Nat) (m : Mark) : State :=
  { s with marks := tput (fun _ => Mark.none) s.marks x m }

def State.part (s : State) (t : Nat) : Part := tget (fun _ => Part.off) s.keeper.parts t

def State.updPart (s : State) (t : Nat) (f : Part → Part) : State :=
  { s with keeper := { s.keeper with parts := tput (fun _ => Part.off) s.keeper.parts t (f (s.part t)) } }

def State.carry (s : State) (core : Nat) : BitVec 16 := tget (fun _ => 0) s.carries core

def State.book (s : State) (b : Nat) : Book := tget (fun _ => Book.empty) s.rot.books b

def State.setBook (s : State) (b : Nat) (x : Book) : State :=
  { s with rot := { s.rot with books := tput (fun _ => Book.empty) s.rot.books b x } }

def HostPort.decoder (p : HostPort) (d : Nat) : Decoder := tget (fun _ => Decoder.off) p.decoders d

def HostPort.extent (p : HostPort) (e : Nat) : Extent := tget (fun _ => Extent.none) p.extents e

def HostPort.setExtent (p : HostPort) (e : Nat) (x : Extent) : HostPort :=
  { p with extents := tput (fun _ => Extent.none) p.extents e x }

/-- The device sends something (log entry 2). -/
def State.emit (s : State) (o : Out) : State := { s with out := s.out ++ [o] }

/-- Do something for each element of a list, in its order. -/
def State.each {α : Type} (s : State) (l : List α) (f : State → α → State) : State := l.foldl f s

/-- The value of the counter a free value is drawn with, and the state after drawing (log entry 4). -/
def State.draw (s : State) : Nat × State := (s.free, { s with free := s.free + 1 })

/-- Bytes nothing determines: one draw each (log entry 4). -/
def State.drawBytes : Nat → State → List Byte × State
  | 0, s => ([], s)
  | n + 1, s =>
    let (k, s) := s.draw
    let (t, s) := State.drawBytes n s
    (BitVec.ofNat 8 (Config.freeWord k).toNat :: t, s)

/-! ## Units of a variant (R3, R4) -/

def Variant.ioDies : Variant → Nat
  | .s4i1 => 1
  | _ => 2

/-- Is stack site Si fitted? -/
def Variant.stack : Variant → Nat → Bool
  | .s8i2, i => decide (i < 8)
  | .s6i2, i => decide (i < 7 ∧ i ≠ 3)
  | .s4i1, i => decide (i < 4)

def Variant.stacks : Variant → Nat
  | .s8i2 => 8
  | .s6i2 => 6
  | .s4i1 => 4

def Variant.hostPorts (v : Variant) : Nat := 2 * v.ioDies
def Variant.ddrChannels (v : Variant) : Nat := 8 * v.ioDies
def Variant.nvmePorts (v : Variant) : Nat := 4 * v.ioDies
def Variant.fabricPorts (v : Variant) : Nat := 9 * v.ioDies

/-- TIER_NEAR_BYTES (R3, R206): 128 GiB a stack. -/
def Variant.nearBytes (v : Variant) : Nat := v.stacks * 2 ^ 37

/-- What an RWK register reads after cold reset (R388): every fitted unit enabled, partition 0 controlled through
every fitted host port (R301). -/
def rwkReset (v : Variant) (off : Nat) : BitVec 32 :=
  if off = R.glbHportEn then BitVec.ofNat 32 (2 ^ v.hostPorts - 1)
  else if off = R.tierDdrEn then BitVec.ofNat 32 (2 ^ v.ddrChannels - 1)
  else if off = R.tierNvmeEn then BitVec.ofNat 32 (2 ^ v.nvmePorts - 1)
  else if off = R.smfPortEn then BitVec.ofNat 32 (2 ^ v.fabricPorts - 1)
  else if off = R.poolPartPorts 0 then BitVec.ofNat 32 (2 ^ v.hostPorts - 1)
  else match findReg off with
    | some (r, _) => BitVec.ofNat 32 r.reset
    | none => 0

def State.rwkReg (s : State) (off : Nat) : BitVec 32 := tget (rwkReset s.variant) s.rwk off

def State.setRwk (s : State) (off : Nat) (w : BitVec 32) : State :=
  { s with rwk := tput (rwkReset s.variant) s.rwk off w }

/-- Is a unit fenced (R350 to R352)? It starts no new work, and requests that need it wait. -/
def State.fenced (s : State) (cls unit : Nat) : Bool := s.ras.fences.any fun f => f.cls == cls && f.unit == unit

/-- Has a unit become absent under R351? -/
def State.unitLost (s : State) (cls unit : Nat) : Bool := s.ras.absent.contains (cls, unit)

/-- Is a unit of an enable register in being (R4, R389)? Until the seal every fitted one is. -/
def State.unitThere (s : State) (fitted : Nat) (en cls unit : Nat) : Bool :=
  decide (unit < fitted) && (!s.keeper.sealed || bit (s.rwkReg en) unit) && !s.unitLost cls unit

def State.hostThere (s : State) (p : Nat) : Bool := s.unitThere s.variant.hostPorts R.glbHportEn 7 p
def State.ddrThere (s : State) (d : Nat) : Bool := s.unitThere s.variant.ddrChannels R.tierDdrEn 4 d
def State.nvmeThere (s : State) (n : Nat) : Bool := s.unitThere s.variant.nvmePorts R.tierNvmeEn 5 n
def State.sportThere (s : State) (p : Nat) : Bool := s.unitThere s.variant.fabricPorts R.smfPortEn 6 p

/-- The device number (R231, R299). -/
def State.devNo (s : State) : Nat := fld (s.rwkReg R.smfDevice) 0 6

/-- Does a port control a partition (R301)? An absent port controls none. -/
def State.controls (s : State) (port t : Nat) : Bool :=
  s.hostThere port && bit (s.rwkReg (R.poolPartPorts t)) port

/-- The die that homes a granule (R406). -/
def State.homeDie (s : State) (g : Nat) : Nat := g % s.variant.ioDies

/-- The die that serves a ring, channel or walk of parity `n` (R407). -/
def State.dieOf (s : State) (n : Nat) : Nat := n % s.variant.ioDies

/-- The die whose walker serves a gallery (R407). -/
def State.dieOfGallery (s : State) (g : Nat) : Nat := if 16 ≤ g then s.dieOf 1 else 0

/-! ## Set-up registers -/

/-- The reset value of a register that lies in `regs`. Per-port staging lies at its offset + port × 2^26 (R384). -/
def regReset (off : Nat) : Word :=
  match findReg (off % 2 ^ 26) with
  | some (r, _) => if r.rwk then 0 else BitVec.ofNat 64 r.reset
  | none => 0

def State.reg (s : State) (off : Nat) : Word := tget regReset s.regs off

def State.setReg (s : State) (off : Nat) (w : Word) : State := { s with regs := tput regReset s.regs off w }

/-- Replace a field of a register. -/
def State.setRegFld (s : State) (off lo n v : Nat) : State := s.setReg off (setFld (s.reg off) lo n v)

def State.setRegBit (s : State) (off i : Nat) (b : Bool) : State := s.setRegFld off i 1 (b2n b)

/-- A saturating counter advances by n (R88, R230, R359 and each block's register rule). -/
def State.count (s : State) (off : Nat) (n : Nat := 1) : State := s.setReg off (satAdd 64 (s.reg off) n)

def State.count32 (s : State) (off : Nat) (n : Nat := 1) : State := s.setReg off (satAdd 32 (s.reg off) n)

/-- The offset of a register in one port's staging (R384). -/
def stageOff (port off : Nat) : Nat := off + port * 2 ^ 26

/-- ROT_NUMBER. -/
def State.rotNo (s : State) : Word := s.reg R.rotNumber

/-- The port toward a device, when SMF_ROUTE gives one (R279, R299). -/
def State.routePort (s : State) (dev : Nat) : Option Nat :=
  let w := s.reg (R.smfRoute dev)
  if bit w 5 then some (fld w 0 5) else none

/-- Is a device reachable: its route port ACTIVE (R296)? -/
def State.reachable (s : State) (dev : Nat) : Bool :=
  match s.routePort dev with
  | some p => (s.link p).state == .active
  | none => false

/-! ## Pool offsets (R227 to R229, R231) -/

def reservedBase : Nat := 0x3FFF800000000
def reservedBytes : Nat := 0x800000000
def ptArea : Nat := 0x3FFF8C0000000
def stepArea : Nat := 0x3FFF9C0000000

/-- TIER_CAPACITY: 0 until READY (R229). -/
def State.capacity (s : State) : Nat := (s.reg R.tierCapacity).toNat

def inReserved (o : Nat) : Bool := decide (reservedBase ≤ o)

/-- The FPA of a pool offset of this device. -/
def State.fpaOf (s : State) (o : Nat) : Nat := s.devNo * 2 ^ 50 + o % 2 ^ 50

/-- The FPA of a session table entry: 64 bytes an entry at the table's start (R98, R227). -/
def State.sessionFpa (s : State) (h : Nat) : Nat := s.fpaOf (reservedBase + 64 * h)

/-! ## Error records (R345, R346, R349) -/

/-- What an error record says of an error beside what R346 fills in. -/
structure ErrRec where
  severity : Nat
  injected : Bool
  cls : Nat
  unit : Nat
  code : Nat
  status : Byte
  tenant : Option Tenant
  addr : Nat
deriving DecidableEq, Repr

/-- A record with no status, tenant or address. -/
def ErrRec.plain (severity cls unit code : Nat) : ErrRec :=
  { severity, injected := false, cls, unit, code, status := 0, tenant := none, addr := 0 }

/-- Bits [i] set in a byte list's bit map of units: where a unit's bit lies in RAS_LASTING and RAS_FENCED (R359). The
Keeper has none. -/
def unitBit (coreBase unitReg portReg cls unit : Nat) : Option (Nat × Nat) :=
  match cls with
  | 1 => some (coreBase + 8 * (unit / 64), unit % 64)
  | 2 => some (unitReg, unit)
  | 3 => some (unitReg, 32 + unit)
  | 4 => some (unitReg, 40 + unit)
  | 5 => some (unitReg, 56 + unit)
  | 6 => some (portReg, unit)
  | 7 => some (portReg, 18 + unit)
  | 8 => some (portReg, 22 + unit)
  | _ => none

/-- An MSI-X message (R49): dropped while MSI-X is disabled on the port, held as a Pending Bit while the vector is
masked, else sent. -/
def State.msix (s : State) (port vector : Nat) : State :=
  let p := s.port port
  if !p.msixOn then s
  else if bit (tget (fun _ => 0x1000000000000000000000000#128) p.msix vector) 96 then
    s.updPort port fun p => { p with pba := tput (fun _ => false) p.pba vector true }
  else s.emit (.msix (BitVec.ofNat 2 port) (BitVec.ofNat 11 vector))

/-- An interrupt of a vector register of H0 with an EN bit [11] (RAS_VECTOR, KPR_VECTOR). -/
def State.vectorH0 (s : State) (off : Nat) : State :=
  let w := s.reg off
  if bit w 11 then s.msix 0 (fld w 0 11) else s

/-- The 32 bytes of a record, PHASE apart (R346). -/
def recordLine (s : State) (e : ErrRec) (promoted queued overran : Bool) (ref : Nat) : Line :=
  let ten := match e.tenant with
    | some t => t.toNat + 16
    | none => 0
  BitVec.ofNat 512 (
    s.rotNo.toNat + s.ras.seq.toNat * 2 ^ 64
    + (e.severity + b2n e.injected * 8 + b2n promoted * 16 + b2n queued * 32 + b2n overran * 64) * 2 ^ 96
    + e.cls % 256 * 2 ^ 104 + e.unit % 65536 * 2 ^ 112 + e.code % 256 * 2 ^ 128 + e.status.toNat * 2 ^ 136
    + ten * 2 ^ 144 + ref % 2 ^ 32 * 2 ^ 160 + e.addr % 2 ^ 56 * 2 ^ 192)

/-- The number of records the error log holds. -/
def State.logSize (s : State) : Nat := 2 ^ (fld (s.reg R.rasLogSize) 0 4 + 6)

/-! ## Pool memory (R203, R335, R336, R342) -/

/-- A byte of the pool that nothing has written reads 0 (R214, R216). -/
def zeroByte : Nat → Byte := fun _ => 0

def State.rawByte (s : State) (o : Nat) : Byte := tget zeroByte s.pool o

/-- The owner of a pool offset (R335): 0 for the device, t + 1 for partition t. -/
def State.owner (s : State) (o : Nat) : Nat :=
  if inReserved o then 0
  else
    match (List.range 16).find? fun t =>
      let b := (s.reg (R.sesArenaBase t)).toNat
      decide (b ≤ o ∧ o < b + (s.reg (R.sesArenaSize t)).toNat) with
    | some t => t + 1
    | none =>
      let m := s.mark (o / 2 ^ 30)
      if m.valid then m.tenant.toNat + 1 else 0

/-- The at-rest key a pool offset is read and written under, as a number (R336; log entry 12): owner and the
generation of its key. Never 0. -/
def State.restKey (s : State) (o : Nat) : Nat :=
  let w := s.owner o
  1 + w + 17 * (if w = 0 then s.keeper.deviceKeyGen else (s.part (w - 1)).keyGen)

/-- The key a line was last written under, 0 for a line nothing has written. -/
def State.keyOf (s : State) (line : Nat) : Nat := tget (fun _ => 0) s.lineKey line

/-- Read a byte of the pool: what was written, or an unpredictable byte when the line was written under another key
(R336; log entry 18). -/
def State.poolByte (s : State) (o : Nat) : Byte :=
  let k := s.keyOf (o / 64)
  let r := s.restKey (64 * (o / 64))
  if k = 0 then 0
  else if k = r then s.rawByte o
  else Config.wrongKeyByte k r o

/-- Read n bytes of the pool. -/
def State.poolRead (s : State) (o n : Nat) : List Byte := (List.range n).map fun i => s.poolByte (o + i)

def State.poolLine (s : State) (line : Nat) : Line := bytesLine (s.poolRead (64 * line) 64)

/-- The drive that holds a granule of the dense tier (R213). -/
def State.driveOf (s : State) (g : Nat) : Option Nat :=
  if s.stripe.length = 0 then none else s.stripe[g % s.stripe.length]?

/-- Is the drive of a granule out of service (R215)? -/
def State.driveGone (s : State) (g : Nat) : Bool :=
  match s.driveOf g with
  | some d => (s.drive d).state != .inService
  | none => true

/-- Does a granule lie only in the dense tier, on a drive that failed (R215)? -/
def State.lost (s : State) (g : Nat) : Bool :=
  s.backed && !inReserved (65536 * g) && (s.granule g).tier == .none && (s.granule g).fill.isNone && s.driveGone g

/-- Does a line hold poison (R215, R342)? -/
def State.poisoned (s : State) (line : Nat) : Bool := tget (fun _ => false) s.poison line || s.lost (line / 1024)

def State.setPoison (s : State) (line : Nat) (b : Bool) : State :=
  { s with poison := tput (fun _ => false) s.poison line b }

/-- Do any of the lines of [o, o + n) hold poison? -/
def State.anyPoison (s : State) (o n : Nat) : Bool :=
  (List.range (if n = 0 then 0 else (o + n - 1) / 64 - o / 64 + 1)).any fun i => s.poisoned (o / 64 + i)

def State.putByte (s : State) (o : Nat) (b : Byte) : State := { s with pool := tput zeroByte s.pool o b }

def State.putBytes (s : State) : Nat → List Byte → State
  | _, [] => s
  | o, b :: t => (s.putByte o b).putBytes (o + 1) t

/-- Bring a line under the key of its owner before part of it is written: what stands in the rest of it is what a read
gives. -/
def State.rekey (s : State) (line : Nat) : State :=
  let o := 64 * line
  let k := s.restKey o
  let s := if s.keyOf line = k then s else s.putBytes o (s.poolRead o 64)
  { s with lineKey := tput (fun _ => 0) s.lineKey line k }

/-- The lines of a range. -/
def linesOf (o n : Nat) : List Nat :=
  if n = 0 then [] else (List.range ((o + n - 1) / 64 - o / 64 + 1)).map (o / 64 + ·)

/-- The granules of a range (R203). -/
def granulesOf (o n : Nat) : List Nat :=
  if n = 0 then [] else (List.range ((o + n - 1) / 65536 - o / 65536 + 1)).map (o / 65536 + ·)

/-- Store bytes in the pool: keys, contents, and poison lifted from every line written whole (R342). -/
def State.store (s : State) (o : Nat) (bs : List Byte) : State :=
  let s := s.each (linesOf o bs.length) State.rekey
  let s := s.putBytes o bs
  s.each (linesOf o bs.length) fun s l =>
    if o ≤ 64 * l ∧ 64 * l + 64 ≤ o + bs.length then s.setPoison l false else s

/-- Forget what a range of whole lines holds: it reads 0 (R216, R223). -/
def State.wipe (s : State) (o n : Nat) : State :=
  { s with pool := tclear o n s.pool, poison := tclear (o / 64) (n / 64) s.poison,
           lineKey := tclear (o / 64) (n / 64) s.lineKey }

/-! ## Drive commands (R211)

A command of a drive is a code: granule g for the Read of its fill, and the codes below. -/

/-- The code of a write-back Write of n units of a granule from unit u on. -/
def writeCode (g u n : Nat) : Nat := 2 ^ 44 + 2 ^ 38 * (n - 1) + 2 ^ 34 * u + g
/-- Is a code that of a Write? -/
def isWrite (code : Nat) : Bool := decide (2 ^ 44 ≤ code ∧ code < 2 ^ 45)
/-- The granule, first unit and unit count of a Write. -/
def writeOf (code : Nat) : Nat × Nat × Nat := (code % 2 ^ 34, code / 2 ^ 34 % 16, code / 2 ^ 38 % 16 + 1)
/-- Deallocate every block of namespace 1. -/
def deallocCode : Nat := 2 ^ 45
/-- Enable the volatile write cache. -/
def cacheCode : Nat := 2 ^ 45 + 1
/-- Flush, on entry to Dark (R214). -/
def flushCode : Nat := 2 ^ 45 + 2
/-- The Deallocate of a dropped granule (R216, R223). -/
def dropCode (g : Nat) : Nat := 2 ^ 46 + g

/-- A Read of a granule that a RELIEF copies without filling it (R356). -/
def directCode (g : Nat) : Nat := 2 ^ 47 + g
/-- The granule that a code reads, for a fill or directly. -/
def readOf (code : Nat) : Option Nat :=
  if code < 2 ^ 34 then some code else if 2 ^ 47 ≤ code then some (code - 2 ^ 47) else none

/-- The memory transactions, of 256 bytes each, that a command makes (R23). -/
def codeTxns (code : Nat) : Nat := if (readOf code).isSome then 256 else if isWrite code then 16 * (writeOf code).2.2 else 0

/-- Memory transactions in flight: those of the commands that drives carry out; one at a DRAM controller takes no time here (R23; log
entry 189). -/
def State.memTxns (s : State) : Nat := s.drives.foldl (fun n e => e.2.cmds.foldl (fun n c => n + codeTxns c) n) 0

/-- Memory transactions the device holds in flight (R22, R23). -/
def memTop : Nat := 65536

/-- Commands a drive's 64 I/O queues of 256 entries hold (R211). -/
def driveTop : Nat := 64 * 256

/-! ## Frames of the tiers (R203, R216, R219) -/

/-- The near frames the reserved region takes (R227). -/
def reservedFrames : Nat := 507904

/-- Frames of a tier in use: copies, fills that have a frame, and moves into it. -/
def State.usedFrames (s : State) (t : Tier) : List Nat :=
  s.granules.flatMap fun e =>
    (if e.2.tier = t then [e.2.frame] else [])
    ++ (if e.2.fill = some t ∧ e.2.waits = false then [e.2.frame] else [])
    ++ (match e.2.move with
        | some m => if m.dst = t then [m.frame] else []
        | none => [])

def State.frameCount (s : State) : Tier → Nat
  | .none => 0
  | .near => s.variant.nearBytes / 65536 - reservedFrames
  | .far => (s.reg R.tierFarBytes).toNat / 65536

/-- TIER_NEAR_FREE and TIER_FAR_FREE. -/
def State.freeFrames (s : State) (t : Tier) : Nat := s.frameCount t - (s.usedFrames t).length

/-- The lowest free frame of a tier (log entry 22). -/
def State.pickFrame (s : State) (t : Tier) : Option Nat :=
  let used := s.usedFrames t
  if s.frameCount t ≤ used.length then none else least (fun n => !used.contains n) (used.length + 1)

/-- A granule is touched (R219). -/
def State.touchGranule (s : State) (g : Nat) : State := s.updGranule g fun x => { x with touch := s.time }

/-- The sub-dirty bits of the 4 KiB units of granule g that [o, o + n) touches (R224). -/
def unitMask (g o n : Nat) : BitVec 16 :=
  BitVec.ofNat 16 (((List.range 16).filter fun u => overlap (g * 65536 + u * 4096) 4096 o n).foldl
    (fun a u => a + 2 ^ u) 0)

/-- The first n units of a granule. -/
def lowUnits (n : Nat) : BitVec 16 := BitVec.ofNat 16 (2 ^ n - 1)

/-- A write to units `m` of granule g while it moves: a unit that this pass has copied, or does not copy, is marked for another. How far a
pass has come between its start and its end nothing states (R221; log entry 23). -/
def Move.written (mv : Move) (g time : Nat) (m : BitVec 16) : Move :=
  let k := max mv.copied (Config.unitsCopied g mv.passes time % 17)
  { mv with copied := k, marks := mv.marks ||| (m &&& (~~~mv.todo ||| lowUnits k)) }

/-- What a write does to the placement of one granule: an UNPLACED one is placed (R216), one lost with its drive takes
a DRAM frame with every line poisoned (log entry 33), one of the dense tier begins a fill that the tier unit gives its frame (log entry
95), a unit is marked dirty in backed mode (R224), and marked for another pass when a move is in progress (R221). -/
def State.placeWrite (s : State) (o n g : Nat) : State :=
  let x := s.granule g
  if inReserved (65536 * g) then s
  else if s.lost g then
    let t := if s.frameCount .far = 0 then Tier.near else Tier.far
    match s.pickFrame t with
    | some f =>
      (s.each (List.range 1024) fun s i => s.setPoison (1024 * g + i) true).setGranule g
        { x with tier := t, frame := f, dirty := 0xFFFF, touch := s.time }
    | none => s
  else if x.tier = .none then
    if s.backed then
      let t := if x.nearHeld ∨ s.frameCount .far = 0 then Tier.near else Tier.far
      s.setGranule g { x with
        fill := some (x.fill.getD t), waits := x.waits || x.fill.isNone, dirty := x.dirty ||| unitMask g o n, touch := s.time }
    else if x.fill ≠ none then s.touchGranule g
    else
      let t := if (s.reg R.tierNearReserve).toNat < s.freeFrames .near then Tier.near else Tier.far
      match s.pickFrame t with
      | some f => s.setGranule g { x with tier := t, frame := f, touch := s.time }
      | none => s.touchGranule g
  else
    let m := unitMask g o n
    s.setGranule g { x with
      dirty := if s.backed then x.dirty ||| m else x.dirty
      move := x.move.map fun mv => mv.written g s.time m
      touch := s.time }

/-- Does [o, o + n) meet the pool range of a book that is loading or loaded, which nothing may write (R69)? -/
def State.inBook (s : State) (o n : Nat) : Bool :=
  s.rot.books.any fun e => (e.2.state == .loading || e.2.state == .loaded) && overlap e.2.addr e.2.data.length o n

/-- A write to the pool by any engine: placement, then contents. A range outside the populated pool and the reserved
region is the caller's to refuse; a book's range is not written (R69; log entry 45). -/
def State.poolWrite (s : State) (o : Nat) (bs : List Byte) : State :=
  if s.inBook o bs.length then s
  else ((granulesOf o bs.length).foldl (fun s g => s.placeWrite o bs.length g) s).store o bs

/-! ## Writing error records -/

/-- GLS_REGION_CTRL: VALID, TENANT, KEY, PENDING (R267). -/
def State.regionValid (s : State) (r : Nat) : Bool := bit (s.reg (R.glsRegionCtrl r)) 0
def State.regionTenant (s : State) (r : Nat) : Nat := fld (s.reg (R.glsRegionCtrl r)) 1 4
def State.regionKey (s : State) (r : Nat) : Nat := fld (s.reg (R.glsRegionCtrl r)) 5 4
def State.regionPending (s : State) (r : Nat) : Bool := bit (s.reg (R.glsRegionCtrl r)) 9
def State.regionBase (s : State) (r : Nat) : Nat := (s.reg (R.glsRegionBase r)).toNat
def State.regionSize (s : State) (r : Nat) : Nat := (s.reg (R.glsRegionSize r)).toNat

/-- The region, VALID or PENDING, that holds a pool offset (R261). -/
def State.regionAt (s : State) (o : Nat) : Option Nat :=
  (List.range 64).find? fun r =>
    (s.regionValid r || s.regionPending r) && decide (s.regionBase r ≤ o ∧ o < s.regionBase r + s.regionSize r)

/-- Does a range meet a region that is VALID or PENDING? Nothing is written there (R261, R263). -/
def State.meetsRegion (s : State) (o n : Nat) : Bool := (granulesOf o n).any fun g => (s.regionAt (65536 * g)).isSome

/-- Put a record in the error log, or in the on-die buffer until RAS_LOG_BASE is written, or drop and count it
(R346). A log that lies outside the populated pool or in a weight region
drops it too (R263; log entry 24). -/
def State.logRecord (s : State) (l : Line) : State :=
  if !s.ras.baseWritten then
    if 64 ≤ s.ras.buffer.length then s.count32 R.rasLogLost
    else { s with ras := { s.ras with buffer := s.ras.buffer ++ [l] } }
  else
    let tail := (s.reg R.rasLogTail).toNat
    let head := (s.reg R.rasLogHead).toNat
    let n := s.logSize
    let o := (s.reg R.rasLogBase).toNat + 32 * (tail % n)
    if n ≤ (tail + 2 ^ 32 - head) % 2 ^ 32 ∨ s.capacity < o + 32 ∨ s.meetsRegion o 32 then s.count32 R.rasLogLost
    else
      let phase := if tail / n % 2 = 0 then 2 ^ 255 else 0
      (s.poolWrite o (leBytes 32 (l.toNat + phase))).setReg R.rasLogTail (BitVec.ofNat 64 ((tail + 1) % 2 ^ 32))

/-- The record of one error and its pending handling (R346, R348, R349), without window counting. -/
def State.recordOne (s : State) (e : ErrRec) : State :=
  let seq := s.ras.seq
  let pend := s.ras.pending
  let promoted := match pend with
    | some p => decide (3 ≤ e.severity ∧ p.severity ≤ e.severity)
    | none => false
  let lower := pend.isSome && decide (3 ≤ e.severity) && !promoted
  let queued := lower && decide (s.ras.queue.length < 8)
  let overran := lower && !queued
  let ref := match pend with
    | some p => if promoted || queued then p.seq.toNat else 2 ^ 32 - 1
    | none => 2 ^ 32 - 1
  let line := recordLine s e promoted queued overran ref
  let s := { s with ras := { s.ras with seq := seq + 1 } }
  let s := s.count (R.rasSevTotal (e.severity - 1))
  let s := s.logRecord line
  if e.severity < 3 then s
  else
    let s := s.emit (.pldmEvent seq)
    let sev := if promoted ∧ e.severity < 5 then 4 else e.severity
    let s := if sev = 4 then { s with ras := { s.ras with jobHalt := true } } else s
    let s := if overran then s.count32 R.rasQueueLost else s
    match pend with
    | none => ({ s with ras := { s.ras with pending := some { seq, severity := e.severity } } }).vectorH0 R.rasVector
    | some p =>
      if promoted then
        { s with ras := { s.ras with pending := some { p with severity := if e.severity = 5 ∨ p.severity = 5 then 5 else 4 } } }
      else if queued then
        { s with ras := { s.ras with queue := s.ras.queue ++ [{ seq, severity := e.severity }] } }
      else s

/-- Window counting (R345): a corrected or contained error that was not injected. A lasting fault writes its record
directly after the event's. -/
def State.window (s : State) (e : ErrRec) : State :=
  if e.injected ∨ e.severity < 2 ∨ 3 < e.severity then s
  else
    let key := e.cls * 65536 + e.unit
    let n := fld (s.reg R.rasWinCfg) 0 8
    let span := fld (s.reg R.rasWinCfg) 16 10 * 1000000000
    let times := (tget (fun _ => []) s.ras.wins key).take (n - 1)
    let put (s : State) (l : List Nat) : State :=
      { s with ras := { s.ras with wins := tput (fun _ => []) s.ras.wins key l } }
    if times.length + 1 = n ∧ s.time - times.getLastD 0 ≤ span then
      let s := put s []
      let s := s.recordOne (ErrRec.plain 4 e.cls e.unit 6)
      match unitBit (R.rasLastingCore 0) R.rasLastingUnit R.rasLastingPort e.cls e.unit with
      | some (off, i) => s.setRegBit off i true
      | none => s
    else put s ((s.time :: times).take (n - 1))

/-- Record an error (R343 to R349). Job halt starts here; a device-fatal error's Fog entry is its caller's
(`State.fogEnter`), since nothing else waits for it. -/
def State.record (s : State) (e : ErrRec) : State := (s.recordOne e).window e

/-- A set-up error (R387): a CAUSE, the port and the BAR0 offset. -/
def State.setupError (s : State) (port off cause : Nat) : State :=
  let s := s.setReg R.glbSetupErrOffset (BitVec.ofNat 64 (off % 2 ^ 26))
  let s := s.setReg R.glbSetupErrInfo (BitVec.ofNat 64 (cause % 16 + port % 4 * 16))
  let s := s.count R.rasSetupErrTotal
  s.record { ErrRec.plain 1 7 port 8 with addr := off % 2 ^ 26 }

/-- An event of the device's own lateness (R359: RAS_SELF_LATE counts those of the last RAS_WIN_TIME). -/
def State.selfLateEvent (s : State) : State :=
  let span := fld (s.reg R.rasWinCfg) 16 10 * 1000000000
  { s with ras := { s.ras with selfLate := s.time :: s.ras.selfLate.filter fun t => decide (s.time - t ≤ span) } }

end Sys2Proof.Machine
end

