-- ==== Sys2Proof/Machine/Layout.lean ====
section
/-! DEFINITION. What the session store's own structures look like as bytes of the pool: frame records, map roots and leaves (R100, R101,
R103), and the mark table (R302). -/

namespace Sys2Proof.Machine

/-! ## Arenas (R100) -/

def State.arenaFirst (s : State) (t : Nat) : Nat := (s.reg (R.sesArenaBase t)).toNat / 65536
def State.arenaFrames (s : State) (t : Nat) : Nat := (s.reg (R.sesArenaSize t)).toNat / 65536

/-- Frames of the arena's frame table. -/
def State.tableFrames (s : State) (t : Nat) : Nat := ceilDiv (ceilDiv (s.reg (R.sesArenaSize t)).toNat 512) 65536

/-- The granules of the frame table of a partition's arena. -/
def State.frameTable (s : State) (t : Nat) : List Nat := (List.range (s.tableFrames t)).map (s.arenaFirst t + ·)

/-- The partition whose frame table lies in a granule. -/
def State.tableOf (s : State) (g : Nat) : Option Nat :=
  (List.range 16).find? fun t => decide (s.arenaFirst t ≤ g ∧ g < s.arenaFirst t + s.tableFrames t)

/-! ## Frame records (R101) -/

/-- CRC-32C of 4 KiB of zeros: what a frame's CRC fields hold when it is allocated. -/
def zeroCrc : BitVec 32 := 0x98F94189

def FrameType.code : FrameType → Nat
  | .free => 0
  | .kvFirst => 1
  | .kvCont => 2
  | .map => 3
  | .table => 4

/-- Bytes 0 to 63 of a record: CRCs of a KV frame, or the reference counts of a MAP frame's units. -/
def Frame.words (x : Frame) : List Nat :=
  (List.range 16).map fun i => match x.type with
    | .kvFirst => (tget (fun _ => zeroCrc) x.crc i).toNat
    | .kvCont => (tget (fun _ => zeroCrc) x.crc i).toNat
    | .map => tget (fun _ => 0) x.units i
    | _ => 0

/-- The record of frame f. Nothing states what a free run's link holds (log entry 197). -/
def State.frameRecord (s : State) (f : Nat) : List Byte :=
  let x := s.frame f
  let first (n : Nat) : Nat := if x.type = .kvFirst then n else 0
  (x.words.flatMap (leBytes 4)) ++ leBytes 4 (first x.refs) ++ leBytes 4 (first x.appender.toNat) ++ leBytes 2 (first x.fill)
    ++ leBytes 1 x.type.code ++ leBytes 1 (first x.span) ++ leBytes 4 0 ++ leBytes 8 x.touch.toNat
    ++ leBytes 8 (if x.type = .free then (Config.freeRunLink f).toNat else 0) ++ leBytes 32 0

/-! ## Map roots and leaves (R103) -/

def Session.nLayers (x : Session) : Nat := x.layers.toNat + 1

/-- 4 KiB units of a map root. -/
def Session.rootUnits (x : Session) : Nat := ceilDiv (1024 + 64 * x.nLayers) 4096

/-- Entry n of a table of 8-byte pointers, VALID unless 0. -/
def pointer (n : Nat) : Nat := if n = 0 then 0 else n + 2 ^ 63

/-- Byte i of a map root. -/
def Session.rootByte (x : Session) (i : Nat) : Byte :=
  if i < 1024 then BitVec.ofNat 8 (tget (fun _ => 0) x.counts (i / 4) / 2 ^ (8 * (i % 4)))
  else BitVec.ofNat 8 (pointer (tget (fun _ => 0) x.root ((i - 1024) / 8)) / 2 ^ (8 * (i % 8)))

/-- Byte i of a leaf. -/
def Leaf.byte (x : Leaf) (i : Nat) : Byte := BitVec.ofNat 8 (pointer (tget (fun _ => 0) x.pages (i / 8)) / 2 ^ (8 * (i % 8)))

/-- The session whose map root holds a unit, with the root's first unit. -/
def State.rootAt (s : State) (u : Nat) : Option Session :=
  (s.sessions.find? fun e => e.2.state != .free && decide (e.2.mapRoot.toNat ≤ u ∧ u < e.2.mapRoot.toNat + e.2.rootUnits)).map Prod.snd

/-- A byte of a MAP frame: of a leaf, of a root, or of a unit in no use. -/
def State.mapByte (s : State) (o : Nat) : Byte :=
  let x := s.leaf (o / 4096)
  if x.count ≠ 0 then x.byte (o % 4096)
  else
    match s.rootAt (o / 4096) with
    | some y => y.rootByte (o - 4096 * y.mapRoot.toNat)
    | none => 0

/-! ## The mark table (R302) -/

/-- A mark entry as its 4 bytes, KEY aside. -/
def markNat (m : Mark) : Nat := m.tenant.toNat * 2 ^ 24 + b2n m.valid * 2 ^ 28 + b2n m.drain * 2 ^ 29

/-- A byte of the mark table, from its first one on. -/
def State.markByte (s : State) (i : Nat) : Byte :=
  let m := s.mark (i / 4)
  BitVec.ofNat 8 ((m.key.toNat + markNat m) / 2 ^ (8 * (i % 4)))

/-! ## What a read of the pool finds -/

/-- A byte of the pool as memory shows it: the mark table and the session store's structures where they lie, else what was written. -/
def State.shownByte (s : State) (o : Nat) : Byte :=
  let g := o / 65536
  if inReserved o && decide (Config.markBase.toNat ≤ o ∧ o < Config.markBase.toNat + 2 ^ 22) then s.markByte (o - Config.markBase.toNat)
  else match (s.frame g).type with
  | .map => s.mapByte o
  | .table =>
    match s.tableOf g with
    | some t =>
      let i := (o - 65536 * s.arenaFirst t) / 128
      if i < s.arenaFrames t then (s.frameRecord (s.arenaFirst t + i)).getD (o % 128) 0 else 0
    | none => s.poolByte o
  | _ => s.poolByte o

/-- Read n bytes of the pool as memory shows them. -/
def State.shownRead (s : State) (o n : Nat) : List Byte := (List.range n).map fun i => s.shownByte (o + i)

end Sys2Proof.Machine
end

