-- ==== Sys2Proof/Machine/Codec.lean ====
section
/-! DEFINITION. The Gloss codec: the block header, the code table and the expansion of one block (R252 to R260), and the
weight regions the expanded blocks are read through (R261 to R263, R334). -/

namespace Sys2Proof.Machine

/-! ## Headers and formats -/

/-- Sign, exponent and mantissa bits and elements of a block, by FMT (R256). -/
structure Fmt where
  s : Nat
  e : Nat
  m : Nat
  n : Nat
deriving DecidableEq, Repr

def fmtOf : Nat → Option Fmt
  | 0 => some ⟨1, 8, 7, 32768⟩
  | 1 => some ⟨1, 5, 10, 32768⟩
  | 2 => some ⟨1, 4, 3, 65536⟩
  | 3 => some ⟨1, 5, 2, 65536⟩
  | 4 => some ⟨1, 2, 1, 131072⟩
  | 5 => some ⟨0, 8, 0, 65536⟩
  | _ => none

def hdrMode (h : List Byte) : Nat := numAt h 0 1 % 4
def hdrFmt (h : List Byte) : Nat := numAt h 0 1 / 4 % 8
def hdrLines (h : List Byte) : Nat := numAt h 2 2 % 2048
def hdrExpBits (h : List Byte) : Nat := numAt h 4 4
def hdrValue (h : List Byte) (i : Nat) : Nat := numAt h (8 + i) 1
def hdrLen (h : List Byte) (i : Nat) : Nat := numAt h (24 + i / 2) 1 / 16 ^ (i % 2) % 16

/-- Is a header valid under R253? -/
def hdrOk (h : List Byte) : Bool :=
  decide (numAt h 0 1 / 32 = 0 ∧ numAt h 1 1 = 0 ∧ numAt h 2 2 / 2048 = 0)
  && match hdrMode h with
     | 0 => decide (hdrFmt h = 0 ∧ hdrLines h = 1024 ∧ numAt h 4 28 = 0)
     | 1 => decide (hdrFmt h < 6 ∧ 1 ≤ hdrLines h ∧ hdrLines h ≤ 1023 ∧ hdrValue h 15 = 0)
     | 2 => decide (hdrFmt h = 0 ∧ hdrLines h = 0 ∧ numAt h 4 28 = 0)
     | _ => false

/-- The entries of the table that are used. -/
def usedEntries (h : List Byte) : List Nat := (List.range 16).filter fun i => decide (hdrLen h i ≠ 0)

/-- Is a CODED header's table valid (R257)? -/
def tableOk (h : List Byte) (f : Fmt) : Bool :=
  let used := usedEntries h
  let vals := (used.filter (· < 15)).map (hdrValue h)
  decide (2 ≤ used.length)
  && decide ((used.map fun i => 2 ^ (15 - hdrLen h i)).sum = 2 ^ 15)
  && vals.all (fun v => decide (v < 2 ^ f.e))
  && decide vals.Nodup
  && (List.range 15).all fun i => decide (hdrLen h i ≠ 0 ∨ hdrValue h i = 0)

/-- The codewords of the entries of one length, from `code` on. -/
def codesOfLen (len : Nat) : List Nat → Nat → List (Nat × Nat × Nat) × Nat
  | [], code => ([], code)
  | i :: t, code =>
    let (r, c) := codesOfLen len t (code + 1)
    ((len, code, i) :: r, c)

/-- The canonical codewords (R258): length, codeword, entry, by ascending length and then index. -/
def codesFrom (h : List Byte) : Nat → Nat → Nat → List (Nat × Nat × Nat)
  | 0, _, _ => []
  | k + 1, len, code =>
    let (r, c) := codesOfLen len ((List.range 16).filter fun i => hdrLen h i == len) code
    r ++ codesFrom h k (len + 1) (2 * c)

def codeTable (h : List Byte) : List (Nat × Nat × Nat) := codesFrom h 15 1 0

/-! ## The bitstream (R259) -/

/-- The stream as one number: bit 0 of the stream is its most significant of `8 × length`. -/
def msbNat (bs : List Byte) : Nat := bs.foldl (fun a b => a * 256 + b.toNat) 0

/-- Bits [p, p + n) of a stream of `total` bits, most significant first. Past the end it reads 0. -/
def bitsAt (x total p n : Nat) : Nat := x * 2 ^ n / 2 ^ (total - p) % 2 ^ n

/-- The exponents of `n` elements from bit p on, last first, and the bit after them. None when no codeword matches. -/
def decodeExps (h : List Byte) (codes : List (Nat × Nat × Nat)) (e x total : Nat) :
    Nat → Nat → List Nat → Option (List Nat × Nat)
  | 0, p, acc => some (acc, p)
  | n + 1, p, acc =>
    match codes.find? fun c => decide (p + c.1 ≤ total) && bitsAt x total p c.1 == c.2.1 with
    | none => none
    | some (len, _, i) =>
      if i = 15 then
        if total < p + len + e then none
        else decodeExps h codes e x total n (p + len + e) (bitsAt x total (p + len) e :: acc)
      else decodeExps h codes e x total n (p + len) (hdrValue h i :: acc)

/-- Place the elements of a block (R256): little-endian bytes, two elements a byte for fp4. -/
def placeElems (w : Nat) : List Nat → List Byte
  | [] => []
  | [x] => if w = 4 then [BitVec.ofNat 8 x] else leBytes (w / 8) x
  | x :: y :: t => if w = 4 then BitVec.ofNat 8 (x + 16 * y) :: placeElems w t else leBytes (w / 8) x ++ placeElems w (y :: t)

/-- Expand a CODED payload (R259). None is a decode error (R260). -/
def expandCoded (h payload : List Byte) (f : Fmt) : Option (List Byte) :=
  let total := 512 * hdrLines h
  let x := msbNat payload
  let expAt := f.n * (f.s + f.m)
  let stop := expAt + hdrExpBits h
  if total < stop ∨ 512 + stop ≤ total then none
  else
    match decodeExps h (codeTable h) f.e x total f.n expAt [] with
    | none => none
    | some (exps, p) =>
      if p ≠ stop ∨ x % 2 ^ (total - p) ≠ 0 then none
      else
        let elems := exps.reverse.mapIdx fun j ex =>
          bitsAt x total (j * f.s) f.s * 2 ^ (f.e + f.m) + ex * 2 ^ f.m + bitsAt x total (f.n * f.s + j * f.m) f.m
        some (placeElems (f.s + f.e + f.m) elems)

/-- Expand a verified payload by its header (R254, R260). -/
def expand (h payload : List Byte) : Option (List Byte) :=
  if !hdrOk h then none
  else
    match hdrMode h with
    | 0 => some payload
    | 2 => some (List.replicate 65536 0)
    | _ =>
      match fmtOf (hdrFmt h) with
      | some f => if tableOk h f then expandCoded h payload f else none
      | none => none

/-! ## Weight regions -/

/-- Is a line of a VALID weight region (R261)? -/
def State.weightLine (s : State) (line : Nat) : Bool :=
  match s.regionAt (64 * line) with
  | some r => s.regionValid r
  | none => false

/-- Is a line stored poisoned, for a reader of what it holds: what expands from a weight block has no poison of its own (R254). -/
def State.storedPoison (s : State) (line : Nat) : Bool := s.poisoned line && !s.weightLine line

/-- How the read of a block ends: expanded, its tag failed, a decode error, or a poisoned line met at a pool offset (R26, R260, R342). -/
inductive BlockEnd where
  | ok (bytes : List Byte)
  | tagFail
  | decodeError
  | poisoned (at_ : Nat)
deriving DecidableEq, Repr

/-- The header of a block: bytes 0 to 31 of its seal record (R252). -/
def State.sealRecord (s : State) (r b : Nat) : List Byte :=
  s.poolRead ((s.reg (R.glsRegionSeal r)).toNat + 64 * b) 64

/-- The die that expands a block (R262). -/
def State.blockDie (s : State) (b : Nat) : Nat := b % s.variant.ioDies

/-- The first poisoned line of a block's seal record or payload, as a pool offset. -/
def State.blockPoison (s : State) (r b : Nat) : Option Nat :=
  let n := 64 * min 1024 (hdrLines ((s.sealRecord r b).take 32))
  ((linesOf ((s.reg (R.glsRegionSeal r)).toNat + 64 * b) 64 ++ linesOf (s.regionBase r + 65536 * b) n).find? s.poisoned).map (64 * ·)

/-- What its die keeps of a block (R264). -/
def State.keptBlock (s : State) (r b : Nat) : Option (List Byte) :=
  (s.blocks.find? fun k => k.die == s.blockDie b && k.region == r && k.tenant == s.regionTenant r && k.block == b).map KeptBlock.bytes

/-- The block of a VALID region that a granule is: region and block number. -/
def State.granuleBlock (s : State) (g : Nat) : Option (Nat × Nat) :=
  match s.regionAt (65536 * g) with
  | some r => if s.regionValid r then some (r, (65536 * g - s.regionBase r) / 65536) else none
  | none => none

/-- The granules that a read of a granule needs: none of a block its die keeps (R264), and of another block also its seal record's
(R262). -/
def State.readGranules (s : State) (g : Nat) : List Nat :=
  match s.granuleBlock g with
  | some (r, b) =>
    if (s.keptBlock r b).isSome then [] else [g, ((s.reg (R.glsRegionSeal r)).toNat + 64 * b) / 65536]
  | none => [g]

/-- Read block b of region r through the stages of R26: seal record (R334), tag, expansion. -/
def State.readBlock (s : State) (r b : Nat) : BlockEnd :=
  let rec_ := s.sealRecord r b
  let h := rec_.take 32
  let base := s.regionBase r + 65536 * b
  let n := 64 * min 1024 (hdrLines h)
  let payload := s.poolRead base n
  let t := s.regionTenant r
  match s.blockPoison r b, (s.part t).keys.find? fun k => k.1 == s.regionKey r with
  | some o, _ => .poisoned o
  | none, none => .tagFail
  | none, some (_, k) =>
    if numAt rec_ 32 4 ≠ k.pfx.toNat ∨ numAt rec_ 36 8 ≠ b ∨ numAt rec_ 60 4 ≠ 0 then .tagFail
    else
      match Config.gcmOpen k.key (BitVec.ofNat 96 (numAt rec_ 32 12)) h payload (BitVec.ofNat 128 (numAt rec_ 44 16)) with
      | none => .tagFail
      | some p =>
        match expand h p with
        | some bs => .ok bs
        | none => .decodeError

/-- A block as a read gets it: as its die keeps it, else read through the stages of R26 (R264). -/
def State.expandBlock (s : State) (r b : Nat) : BlockEnd :=
  match s.keptBlock r b with
  | some bs => .ok bs
  | none => s.readBlock r b

/-- The bytes [o, o + n) as an engine of the region's tenant reads them: expanded where they lie in a VALID region, else
as stored. None when a block fails (R26): nothing of the read is delivered. -/
def State.readThrough (s : State) (o n : Nat) : Option (List Byte) :=
  match s.regionAt o with
  | none => some (s.shownRead o n)
  | some r =>
    if s.regionValid r then
      let first := (o - s.regionBase r) / 65536
      let last := if n = 0 then first else (o + n - 1 - s.regionBase r) / 65536
      let blocks := (List.range (last - first + 1)).map fun i => s.expandBlock r (first + i)
      if blocks.all fun b => match b with
          | .ok _ => true
          | _ => false
      then
        let all := blocks.flatMap fun b => match b with
          | .ok bs => bs
          | _ => []
        some (slice all (o - s.regionBase r - 65536 * first) n)
      else none
    else some (s.poolRead o n)

end Sys2Proof.Machine
end

