-- ==== Sys2Proof/Machine/Wire.lean ====
section
/-! DEFINITION. Messages and flits on a link: header layouts, flit layout, CRC-64, and the sender with its credits, order and
replay buffer (R269 to R274, R281 to R285). -/

namespace Sys2Proof.Machine

/-! ## Message headers and chunks (R270, R281 to R283) -/

/-- Opcodes of requests (R283); a recall of the home's own never leaves it. -/
def HomeOp.code : HomeOp → Nat
  | .rdS => 0x01
  | .rdX => 0x02
  | .upg => 0x03
  | .rdNc => 0x04
  | .wrC => 0x05
  | .wrCm => 0x06
  | .wrNs => 0x07
  | .atAdd => 0x08
  | .atSwp => 0x09
  | .atCas => 0x0A
  | .atMin => 0x0B
  | .atMax => 0x0C
  | .evict => 0x0D
  | .victim => 0
  | .recall => 0

def SnoopOp.code : SnoopOp → Nat
  | .inv => 0x10
  | .fwdS => 0x11
  | .fwdX => 0x12
  | .recalls => 0x13
  | .recallX => 0x14

/-- The header chunk of a request (R281). -/
def reqHeader (op : HomeOp) (r : Req) : BitVec 128 :=
  BitVec.ofNat 128 (op.code + r.nl.toNat * 2 ^ 5 + b2n r.rot * 2 ^ 7 + r.src.toNat * 2 ^ 8 + r.tenant.toNat * 2 ^ 20
    + r.tag.toNat * 2 ^ 24 + b2n r.tgt * 2 ^ 39 + r.key.toNat * 2 ^ 40 + r.addr.toNat * 2 ^ 64)

/-- Of a response (R282). -/
def rspHeader (op : BitVec 5) (r : Rsp) : BitVec 128 :=
  BitVec.ofNat 128 (op.toNat + r.nl.toNat * 2 ^ 5 + b2n r.rot * 2 ^ 7 + r.dst.toNat * 2 ^ 8 + r.tag.toNat * 2 ^ 24
    + b2n r.stale * 2 ^ 39 + r.status.toNat * 2 ^ 40 + r.sector.toNat * 2 ^ 48 + b2n r.overocc * 2 ^ 50
    + r.grant.toNat * 2 ^ 51 + b2n r.fwd * 2 ^ 53 + r.agent.toNat * 2 ^ 56 + r.info.toNat * 2 ^ 64)

/-- Of a snoop (R282). -/
def snpHeader (op : SnoopOp) (r : Snp) : BitVec 128 :=
  BitVec.ofNat 128 (op.code + b2n r.rot * 2 ^ 7 + r.requester.toNat * 2 ^ 8 + r.tenant.toNat * 2 ^ 20 + r.tag.toNat * 2 ^ 24
    + r.target.toNat * 2 ^ 40 + r.gallery.toNat * 2 ^ 48 + b2n r.owner * 2 ^ 53 + r.addr.toNat * 2 ^ 64)

/-- The 4 chunks of a line. -/
def lineChunks (l : Line) : List (BitVec 128) := (List.range 4).map fun i => BitVec.ofNat 128 (fld l (128 * i) 128)

/-- The header chunk of a management message: SRC or DST, TAG and, in an answer, STATUS; the rest is its function's. -/
def mgHeader (ep : Endpoint) (tag : BitVec 15) (status : Byte) : BitVec 128 :=
  BitVec.ofNat 128 (0x1F + ep.toNat * 2 ^ 8 + tag.toNat * 2 ^ 24 + status.toNat * 2 ^ 40)

/-- Its data chunks: never more than a receiver's buffers hold beside the header. -/
def mgLen (h : BitVec 128) : Nat := Config.mgLength h % 448

/-- The chunks of a message that travels as R281 to R283 lay it out. -/
def msgChunks : Out → List (BitVec 128)
  | .request _ op r =>
    reqHeader op r :: (match op with
      | .wrCm => BitVec.ofNat 128 r.mask.toNat :: lineChunks (r.data.headD 0)
      | .wrC => r.data.flatMap lineChunks
      | .wrNs => r.data.flatMap lineChunks
      | .atAdd => [BitVec.ofNat 128 (r.operand.toNat + r.comparand.toNat * 2 ^ 64)]
      | .atSwp => [BitVec.ofNat 128 (r.operand.toNat + r.comparand.toNat * 2 ^ 64)]
      | .atCas => [BitVec.ofNat 128 (r.operand.toNat + r.comparand.toNat * 2 ^ 64)]
      | .atMin => [BitVec.ofNat 128 (r.operand.toNat + r.comparand.toNat * 2 ^ 64)]
      | .atMax => [BitVec.ofNat 128 (r.operand.toNat + r.comparand.toNat * 2 ^ 64)]
      | _ => [])
  | .response _ op r =>
    rspHeader op r :: (if op = 0x1E then [BitVec.ofNat 128 (fld (r.data.headD 0) 0 64)] else r.data.flatMap lineChunks)
  | .snoop _ op r => [snpHeader op r]
  | .mgStatus _ dst tag status =>
    let h := mgHeader dst tag status
    h :: (List.range (mgLen h)).map (Config.mgChunk h.toNat)
  | .packet _ dst tag payload => mgHeader dst tag 0 :: payload
  | _ => []

/-- Data chunks that follow a header chunk: none in a DATA that was refused (R286). -/
def dataChunks (h : BitVec 128) : Nat :=
  let op := fld h 0 5
  let n := 4 * (fld h 5 2 + 1)
  let status := BitVec.ofNat 8 (fld h 40 8)
  if op = 0x05 ∨ op = 0x07 then n
  else if op = 0x18 then (if status = St.done ∨ status = St.poisoned then n else 0)
  else if op = 0x06 then 5
  else if (0x08 ≤ op ∧ op ≤ 0x0C) ∨ op = 0x1E then 1
  else if op = 0x1B ∨ op = 0x1D then 4
  else if op = 0x1F then mgLen h
  else 0

/-- The channel of an opcode: 0 REQ, 1 SNP, 2 RSP, 3 MGT. -/
def vcOf (op : Nat) : Nat := if op < 0x10 then 0 else if op < 0x18 then 1 else if op < 0x1F then 2 else 3

/-! ## Flits (R269) -/

/-- CRC-64 of ECMA-182: initial value 0, most significant bit first, no final inversion. -/
def crc64 (bs : List Byte) : Nat :=
  bs.foldl (fun c b => (List.range 8).foldl (fun c _ =>
    if 2 ^ 63 ≤ c then (c * 2 % 2 ^ 64) ^^^ 0x42F0E1EBA9EA3693 else c * 2) (c ^^^ b.toNat * 2 ^ 56)) 0

/-- The CRC of a flit's bytes 0 to 247. -/
def flitCrc (w : BitVec 2048) : Nat := crc64 (leBytes 248 w.toNat)

/-- A flit in the clear: its first 8 bytes and its chunks. -/
def clearFlit (head : Nat) (chunks : List (BitVec 128)) : BitVec 2048 :=
  BitVec.ofNat 2048 (head + (chunks.foldr (fun c a => c.toNat + a * 2 ^ 128) 0) * 2 ^ 64)

/-- Transmit one flit: its payload encrypted afresh under the link's key, its first 8 bytes as they are, with its CRC (R269, R273). -/
def State.sendFlit (s : State) (p : Nat) (clear : BitVec 2048) : State :=
  let x := s.link p
  let sealed := setFld (Config.flitSeal p x.epoch x.txCount clear) 0 64 (fld clear 0 64)
  (s.updLink p fun x => { x with txCount := x.txCount + 1 }).emit
    (.flit (BitVec.ofNat 5 p) (setFld sealed 1984 64 (flitCrc sealed)))

/-- The first bytes of a flit that is not a control flit, with the credits returned next, and the link once they are returned and
what it received is acknowledged. -/
def SLink.head (x : SLink) (seq : BitVec 10) (nak : Bool) : Nat × SLink :=
  let x := { x with ackDue := false }
  let base := seq.toNat + (x.expSeq - 1).toNat * 2 ^ 10 + b2n nak * 2 ^ 20
  match x.owed with
  | [] => (base, x)
  | (vc, free, n) :: rest =>
    let k := min n 1023
    (base + vc * 2 ^ 21 + k * 2 ^ 23 + b2n free * 2 ^ 33,
     { x with owed := if k = n then rest else (vc, free, n - k) :: rest })

/-- An idle flit, which carries the SEQ of the last flit sent. -/
def State.sendIdle (s : State) (p : Nat) (nak : Bool) : State :=
  let x := s.link p
  let (h, x) := x.head (x.txSeq - 1) nak
  (s.setLink p x).sendFlit p (clearFlit h [])

/-- A message's chunks with their slot codes: 1 for its header, 2 for what continues it (R269, R270). -/
def slotted (cs : List (BitVec 128)) : List (Nat × BitVec 128) := cs.mapIdx fun i c => (if i = 0 then 1 else 2, c)

/-- Transmit up to 14 chunks in one flit; it stays in the replay buffer until it is acknowledged. -/
def State.sendChunks (s : State) (p : Nat) (l : List (Nat × BitVec 128)) : State :=
  let x := s.link p
  let (h, x) := x.head x.txSeq false
  let slots := l.zipIdx.foldl (fun a e => a + e.1.1 * 2 ^ (34 + 2 * e.2)) 0
  let f := clearFlit (h + slots) (l.map Prod.snd)
  (s.setLink p { x with txSeq := x.txSeq + 1, replay := x.replay ++ [f] }).sendFlit p f

/-- Transmit the chunks of messages, 14 a flit: messages share flits (R270). The fuel is the number of flits. -/
def State.sendAll (p : Nat) : Nat → List (Nat × BitVec 128) → State → State
  | 0, _, s => s
  | n + 1, l, s => if l.isEmpty then s else State.sendAll p n (l.drop 14) (s.sendChunks p (l.take 14))

/-! ## The sender (R271, R284, R285) -/

def Out.vc (o : Out) : Nat := match o with
  | .request .. => 0
  | .snoop .. => 1
  | .response .. => 2
  | _ => 3

def Out.rot (o : Out) : Bool := match o with
  | .request _ _ r => r.rot
  | .snoop _ _ r => r.rot
  | .response _ _ r => r.rot
  | _ => false

def SLink.credit (x : SLink) (vc : Nat) : Nat := tget (fun _ => 0) x.credits vc
def SLink.used (x : SLink) (vc : Nat) : Nat := tget (fun _ => 0) x.nonRot vc

/-- A message's source and destination, for those that must arrive in order (R279). -/
def Out.ends : Out → Nat × Nat
  | .request _ _ r => (r.src.toNat, if r.tgt then 64 + r.key.toNat % 4096 else r.addr.toNat / 2 ^ 50)
  | .response _ _ r => (r.from_.toNat, r.dst.toNat)
  | .snoop _ _ r => (r.addr.toNat / 2 ^ 50, r.target.toNat)
  | .packet _ dst _ _ => (0, dst.toNat)
  | .mgStatus _ dst _ _ => (0, dst.toNat)
  | _ => (0, 0)

/-- The messages that none of the same channel, source and destination stands before (R279). -/
def orderly (l : List Out) : List Out :=
  l.foldl (fun acc o => if acc.any fun a => a.vc == o.vc && a.ends == o.ends then acc else acc ++ [o]) []

/-- May a message be sent now, after `ahead` chunks: credits for all its chunks, the limit of messages without ROT, and room in the
replay buffer? -/
def SLink.maySend (x : SLink) (ahead : Nat) (o : Out) : Bool :=
  let n := (msgChunks o).length
  x.state == .active && decide (n ≤ x.credit o.vc) && decide (x.replay.length + ceilDiv (ahead + n) 14 ≤ 256)
    && (o.rot || decide (x.used o.vc + n ≤ (vcChunks o.vc).2))

/-- The message R285 picks: RSP, SNP, REQ, MGT, with ROT first; MGT once in 64 messages, and REQ once in 16, one early so that an MGT
message that is due cannot make it late. -/
def SLink.pick (x : SLink) (ahead : Nat) : Option Out :=
  let ready := (orderly x.txq).filter (x.maySend ahead)
  let of (vc : Nat) : Option Out :=
    let l := ready.filter fun o => o.vc == vc
    (l.find? Out.rot).or l.head?
  let due (vc skip top : Nat) : Option Out := if top ≤ skip + 1 then of vc else none
  ((due 3 x.mgtSkip 64).or (due 0 x.reqSkip 15)).or ((of 2).or ((of 1).or ((of 0).or (of 3))))

/-- A link once it has taken a message to send: its credits are spent. -/
def SLink.took (x : SLink) (o : Out) : SLink :=
  let k := (msgChunks o).length
  { x with
    txq := x.txq.erase o
    credits := tput (fun _ => 0) x.credits o.vc (x.credit o.vc - k)
    nonRot := if o.rot then x.nonRot else tput (fun _ => 0) x.nonRot o.vc (x.used o.vc + k)
    reqSkip := if o.vc = 0 then 0 else if x.txq.any (fun m => m.vc == 0) then x.reqSkip + 1 else 0
    mgtSkip := if o.vc = 3 then 0 else if x.txq.any (fun m => m.vc == 3) then x.mgtSkip + 1 else 0 }

/-- Take what may be sent, in the order of R285: the link, and the chunks to transmit. The fuel is the number of messages waiting. -/
def SLink.takeAll : Nat → SLink → List (Nat × BitVec 128) → SLink × List (Nat × BitVec 128)
  | 0, x, acc => (x, acc)
  | n + 1, x, acc =>
    match x.pick acc.length with
    | none => (x, acc)
    | some o => SLink.takeAll n (x.took o) (acc ++ slotted (msgChunks o))

/-- Send what may be sent. -/
def State.pumpPort (s : State) (p : Nat) : State :=
  if s.fenced 6 p then s
  else
    let (x, l) := SLink.takeAll (s.link p).txq.length (s.link p) []
    State.sendAll p (ceilDiv l.length 14) l (s.setLink p x)

/-- A message leaves by a port: it is sent, or waits for credits. -/
def State.sendOn (s : State) (p : Nat) (o : Out) : State :=
  ((s.emit o).updLink p fun x => { x with txq := x.txq ++ [o] }).pumpPort p

/-- A control flit: a beacon (R274). It is not sequenced or kept. -/
def State.sendControl (s : State) (p : Nat) (number : Word) (period : BitVec 9) (root : Dev) (hops : Byte) : State :=
  (s.emit (.beacon (BitVec.ofNat 5 p) number period root hops)).sendFlit p (BitVec.ofNat 2048
    (2 ^ 63 + (number.toNat + period.toNat * 2 ^ 64 + root.toNat * 2 ^ 80 + hops.toNat * 2 ^ 88) * 2 ^ 64))

end Sys2Proof.Machine
end

