-- ==== Sys2Proof/Machine/Route.lean ====
section
/-! DEFINITION. Ways through the device: endpoints and routes (R278 to R281, R296), the causeway's stops (R18 to R20), the load (R48),
responses and requests, and the requester tags of the device's own engines (R23, R298). -/

namespace Sys2Proof.Machine

/-! ## Opcodes of responses (R283), endpoints -/

def Op.data : BitVec 5 := 0x18
def Op.cmp : BitVec 5 := 0x19
def Op.snAck : BitVec 5 := 0x1A
def Op.snData : BitVec 5 := 0x1B
def Op.wbPull : BitVec 5 := 0x1C
def Op.wbData : BitVec 5 := 0x1D
def Op.atData : BitVec 5 := 0x1E

def epDev (e : Endpoint) : Nat := e.toNat / 64
def epLocal (e : Endpoint) : Nat := e.toNat % 64

/-- The endpoint ID of this device's checked engines, and of its own functions. -/
def State.ownEp (s : State) : Endpoint := BitVec.ofNat 12 (s.devNo * 64)
def State.funcEp (s : State) : Endpoint := BitVec.ofNat 12 (s.devNo * 64 + 63)

/-- The home's own functions, where a snoop's answer goes. -/
def homeEp (addr : Word) : Endpoint := BitVec.ofNat 12 (addr.toNat / 2 ^ 50 % 64 * 64 + 63)

/-! ## Requests -/

/-- Does an operation write memory? -/
def HomeOp.writes : HomeOp → Bool
  | .wrC => true
  | .wrCm => true
  | .wrNs => true
  | .atAdd => true
  | .atSwp => true
  | .atCas => true
  | .atMin => true
  | .atMax => true
  | _ => false

/-- Does an operation give a gallery the line? -/
def HomeOp.caches : HomeOp → Bool
  | .rdS => true
  | .rdX => true
  | .upg => true
  | _ => false

def HomeOp.atomic : HomeOp → Bool
  | .atAdd => true
  | .atSwp => true
  | .atCas => true
  | .atMin => true
  | .atMax => true
  | _ => false

/-- The line of its home's pool a request names. -/
def reqLine (r : Req) : Nat := r.addr.toNat % 2 ^ 50 / 64

/-- The lines a request covers: NL + 1 for RD_NC, WR_C and WR_NS, one for the others (R281). -/
def reqLines (op : HomeOp) (r : Req) : List Nat :=
  let n := match op with
    | .rdNc => r.nl.toNat + 1
    | .wrC => r.nl.toNat + 1
    | .wrNs => r.nl.toNat + 1
    | _ => 1
  (List.range n).map (reqLine r + ·)

/-- The open transaction that covers a line. -/
def State.txnOn (s : State) (line : Nat) : Option Nat := (s.txns.find? fun e => e.2.lines.contains line).map Prod.fst

/-! ## Cores and the causeway (R18, R19) -/

def coreOf (v : Nat) : Nat := v / 8
def galleryOf (v : Nat) : Nat := v / 128

/-- The number of a stop: row × 128 + column. -/
def stopAt (row column : Nat) : Nat := row * 128 + column

/-- The stop of core n (R19). -/
def coreStop (n : Nat) : Nat :=
  let gallery := n / 16
  let tile := gallery / 8
  let gi := gallery - 8 * tile
  let k := n - 16 * gallery
  let column := 64 * (tile % 2) + 16 * (gi % 4) + k
  stopAt (if tile < 2 then (if gi < 4 then 1 else 0) else if gi < 4 then 4 else 5) column

/-- The stop of a gallery's cache: that of its first core (log entry 188). -/
def galleryStop (g : Nat) : Nat := coreStop (16 * g)

/-- The I/O stop of the home of a line: in the row of its die, 256-byte blocks taking the columns in turn (log entry 188). -/
def State.homeStop (s : State) (line : Nat) : Nat := stopAt (2 + s.homeDie (line / 1024)) (line / 4 % 128)

/-- The I/O stop of the device's engines (log entry 188). -/
def engineStop : Nat := stopAt 2 0

/-- The stop of the engine or gallery that a requester tag of this device belongs to, and the home of the line it asked for. -/
def State.tagStops (s : State) (t : Nat) : Nat × Nat :=
  match (s.tag t).use with
  | .access v _ l _ => (coreStop (coreOf v.toNat), s.homeStop (l % 2 ^ 44))
  | .gone g l _ _ _ _ => (galleryStop g, s.homeStop (l % 2 ^ 44))
  | .evict g l => (galleryStop g, s.homeStop (l % 2 ^ 44))
  | .engine q => (engineStop, s.homeStop (reqLine q.req))
  | _ => (engineStop, engineStop)

/-- Where a message of the causeway starts and where it goes. -/
def State.stopsOf (s : State) : Msg → Nat × Nat
  | .req _ r host => (if host.isSome then engineStop else (s.tagStops r.tag.toNat).1, s.homeStop (reqLine r))
  | .rsp op r =>
    if op = Op.snAck ∨ op = Op.snData then (galleryStop r.agent.toNat, s.homeStop (r.info.toNat % 2 ^ 50 / 64))
    else if op = Op.wbData then s.tagStops r.tag.toNat
    else ((s.tagStops r.tag.toNat).2, (s.tagStops r.tag.toNat).1)
  | .snp _ r => (s.homeStop (r.addr.toNat % 2 ^ 50 / 64), galleryStop r.gallery.toNat)
  | _ => (engineStop, engineStop)

/-- A message goes on inside the device: it waits at its first stop. -/
def State.post (s : State) (m : Msg) : State :=
  let (a, b) := s.stopsOf m
  { s with net := s.net ++ [{ msg := m, at_ := a, to_ := b, inside := false }] }

/-! ## The load (R48) -/

/-- Requester tags in use. -/
def State.tagsUsed (s : State) : Nat := s.tags.length

/-- A quantity summed over the last 64 µs, in nanoseconds, from the points at which it changed. -/
def sumSince (now : Nat) (value : Nat × Nat × Nat → Nat) : Nat → List (Nat × Nat × Nat) → Nat
  | _, [] => 0
  | until_, p :: t =>
    let from_ := max p.1 (now - 64000)
    value p * (until_ - from_) + (if p.1 + 64000 ≤ now then 0 else sumSince now value p.1 t)

/-- The rotations whose core cycles count: those that completed in the last 64 µs, or the last one, but none when RUN reads 0. -/
def State.loadRots (s : State) : List (Nat × Nat × Nat) :=
  let l := s.use.done.filter fun e => decide (s.time < e.1 + 64000)
  if l.isEmpty && bit (s.reg R.rotCtrl) 0 then s.use.done.take 1 else l

/-- The four fractions of R48, as numerators and denominators. -/
def State.loads (s : State) : List (Nat × Nat) :=
  let rots := s.loadRots
  [(s.use.near.toNat, 100),
   (sumSince s.time (fun p => p.2.1) s.time s.use.points, 64000 * 65536),
   (sumSince s.time (fun p => p.2.2) s.time s.use.points, 64000 * 32768),
   (rots.foldl (fun n e => n + e.2.1) 0, 512 * rots.foldl (fun n e => n + e.2.2) 0)]

/-- The load in whole per cent (log entry 10). -/
def State.loadPercent (s : State) : Nat := s.loads.foldl (fun m f => max m (if f.2 = 0 then 0 else min 100 (100 * f.1 / f.2))) 0

/-- SECTOR (R48): GREEN below 60 %, WHITE to 85 %, RED above, or RED while the ring's host port is throttled. -/
def sectorOf (loads : List (Nat × Nat)) (throttled : Bool) : Nat :=
  if throttled || loads.any (fun f => decide (85 * f.2 < 100 * f.1)) then 2
  else if loads.any fun f => decide (f.2 ≠ 0 ∧ 60 * f.2 ≤ 100 * f.1) then 1 else 0

/-- SECTOR for a host port. -/
def State.sector (s : State) (hport : Nat) : Nat := sectorOf s.loads (s.port hport).throttled

/-! ## Routing (R278, R279, R296) -/

/-- The ACTIVE port a message for an endpoint leaves by; none where the device itself is meant or the port is not ACTIVE. -/
def State.exitPort (s : State) (dev local_ : Nat) : Option Nat :=
  if dev = s.devNo then
    if 1 ≤ local_ ∧ local_ ≤ 18 ∧ (s.link (local_ - 1)).state = .active then some (local_ - 1) else none
  else
    match s.routePort dev with
    | some p => if (s.link p).state = .active then some p else none
    | none => none

/-- Does an endpoint name one of this device's own engines or functions? -/
def State.isOwn (s : State) (dev local_ : Nat) : Bool := dev == s.devNo && !(decide (1 ≤ local_ ∧ local_ ≤ 18))

/-- A response goes its way. One for a port that is not ACTIVE is discarded (R296). -/
def State.routeRsp (s : State) (op : BitVec 5) (r : Rsp) : State :=
  let d := epDev r.dst
  let l := epLocal r.dst
  if s.isOwn d l then s.post (.rsp op r)
  else
    match s.exitPort d l with
    | some p => s.sendOn p (.response (BitVec.ofNat 5 p) op r)
    | none => s

/-- This device responds: the response carries its SECTOR (R48, R282). -/
def State.sendRsp (s : State) (op : BitVec 5) (r : Rsp) : State :=
  s.routeRsp op { r with sector := BitVec.ofNat 2 (sectorOf s.loads false) }

/-- Send a snoop to an agent. -/
def State.sendSnp (s : State) (op : SnoopOp) (r : Snp) : State :=
  if r.target.toNat = s.devNo then s.post (.snp op r)
  else
    match s.exitPort r.target.toNat 0 with
    | some p => s.sendOn p (.snoop (BitVec.ofNat 5 p) op r)
    | none => s

/-- A response with nothing in it. AGENT is filled in for EVICT traffic alone (R282). -/
def Rsp.plain (r : Req) (status : Byte) : Rsp :=
  { nl := 0, rot := r.rot, dst := r.src, tag := r.tag, stale := false, status, sector := 0, overocc := false, grant := 0,
    fwd := false, agent := 0, from_ := 0, info := 0, data := [] }

/-- The answer to a request whose route port is not ACTIVE (R296). -/
def State.unreachable (s : State) (r : Req) : State :=
  (s.count R.smfTimeoutTotal).sendRsp Op.cmp { Rsp.plain r St.timeout with info := 1 }

/-- The endpoint a request goes to: its TGT 1 target, or the home of its line (R278, R281). -/
def reqDest (r : Req) : Nat × Nat :=
  if r.tgt then (fld r.key 6 6, fld r.key 0 6) else (r.addr.toNat / 2 ^ 50 % 64, 63)

/-- The rack level (R275). -/
def State.rackLevel (s : State) : Nat := (s.rwkReg R.smfLevelRack).toNat % 256

/-- Send a request toward its target. No link carries AT_MIN or AT_MAX at a rack level below 0x11 (R275; log entry 208). -/
def State.sendReq (s : State) (op : HomeOp) (r : Req) : State :=
  let (d, l) := reqDest r
  if s.isOwn d l then s.post (.req op r none)
  else if (op == .atMin || op == .atMax) && decide (s.rackLevel < 0x11) then s.unreachable r
  else
    match s.exitPort d l with
    | some p => s.sendOn p (.request (BitVec.ofNat 5 p) op r)
    | none => s.unreachable r

/-! ## Requester tags (R23, R296, R298) -/

/-- The lowest free tag, found among one more than are in use (log entry 22). -/
def State.freeTag (s : State) : Option Nat :=
  least (fun t => (s.tag t).use == .free) (min 32768 (s.tags.length + 1))

def State.takeTag (s : State) (t : Nat) (u : TagUse) : State := s.setTag t { ReqTag.free with use := u }

/-- Send an engine's request under a tag. -/
def State.sendEngine (s : State) (t : Nat) (q : EngReq) : State :=
  (s.takeTag t (.engine q)).sendReq q.op { q.req with tag := BitVec.ofNat 15 t }

/-- An engine makes a request: it goes out under a free tag, or waits behind those that wait for one (R23). -/
def State.engineReq (s : State) (q : EngReq) : State :=
  match s.engineQ, s.freeTag with
  | [], some t => s.sendEngine t q
  | _, _ => { s with engineQ := s.engineQ ++ [q] }

/-- Engines' requests that waited for a tag go out while there are any free. The fuel is their number. -/
def State.pumpEngines : Nat → State → State
  | 0, s => s
  | n + 1, s =>
    match s.engineQ, s.freeTag with
    | q :: rest, some t => State.pumpEngines n (({ s with engineQ := rest } : State).sendEngine t q)
    | _, _ => s

def State.pumpEngineQ (s : State) : State := State.pumpEngines s.engineQ.length s

/-- The requests of the device's engines that have not been answered. -/
def State.engineReqs (s : State) : List EngReq :=
  s.engineQ ++ s.tags.filterMap fun e => match e.2.use with
    | .engine q => some q
    | _ => none

/-- Does an engine of the device await an answer to a request that `p` describes? -/
def State.awaits (s : State) (p : EngReq → Bool) : Bool := s.engineReqs.any p

def Waiter.isFlight (r pos : Nat) : Waiter → Bool
  | .flight ring p _ => ring.toNat == r && p.toNat == pos
  | _ => false

/-- The ring an engine serves. -/
def Waiter.ring? : Waiter → Option RingId
  | .flight r _ _ => some r
  | .record r _ => some r
  | .fetch r => some r
  | .relief r _ => some r
  | _ => none

/-- The descriptor an access is for. -/
def Waiter.user : Waiter → Option (RingId × Pos)
  | .flight r p _ => some (r, p)
  | _ => none

def Waiter.isRelief : Waiter → Bool
  | .relief _ _ => true
  | _ => false

/-- Engines that `p` describes are gone: what they have asked is nobody's, and what they have still to ask is not asked. -/
def State.dropEngines (s : State) (p : Waiter → Bool) : State :=
  let nobody (x : ReqTag) : ReqTag := match x.use with
    | .engine q => if p q.who then { x with use := .other } else x
    | _ => x
  { s with
    engineQ := dropIf (fun q => p q.who) s.engineQ
    came := dropIf (fun c => p c.who) s.came
    tags := tmap (fun _ => ReqTag.free) (fun _ t => nobody t) s.tags }

/-- Has a descriptor writes that other homes have still to acknowledge? -/
def State.sentFor (s : State) (r pos : Nat) : Bool := s.awaits fun q => q.op.writes && q.who.isFlight r pos

/-! ## Management messages (R283, R296, R298) -/

/-- The device a management message of a function goes to, and whether it asks for an answer. -/
def Out.mgTo : Out → Dev × Bool
  | .member d _ => (d, true)
  | .pull d _ _ _ => (d, true)
  | .claim d _ _ _ => (d, true)
  | .commit d _ _ => (d, true)
  | .leaseRead d _ => (d, true)
  | .ptwrite d _ _ => (d, true)
  | .inval d _ _ _ _ _ => (d, true)
  | .release d _ _ => (d, false)
  | .memberAck d _ => (d, false)
  | .pullAnswer d _ _ => (d, false)
  | .grant d _ _ _ _ => (d, false)
  | .claimRefused d _ _ _ => (d, false)
  | .commitAck d _ => (d, false)
  | .invalConfirm d => (d, false)
  | .reliefMeta d _ _ => (d, false)
  | _ => (0, false)

/-- A management message leaves by a port with its header, under a tag. -/
def State.mgOut (s : State) (p : Nat) (o : Out) (tag : BitVec 15) : State :=
  let (k, s) := s.draw
  let dst : Endpoint := BitVec.ofNat 12 (o.mgTo.1.toNat * 64 + 63)
  (s.emit o).sendOn p (.packet (BitVec.ofNat 5 p) dst tag ((List.range (mgLen (mgHeader dst tag 0))).map (Config.mgChunk k)))

/-- Send a management message: a request holds a tag until it is answered, or waits for one; toward a port that is not ACTIVE it counts
as missed at once. An answer bears the tag of its request, which no command says (log entry 201). -/
def State.sendMg (s : State) (o : Out) : State :=
  match s.exitPort o.mgTo.1.toNat 63 with
  | none => if o.mgTo.2 then { s with missed := s.missed ++ [o] } else s
  | some p =>
    if o.mgTo.2 then
      match s.mgWaits, s.freeTag with
      | [], some t => (s.takeTag t (.mg o)).mgOut p o (BitVec.ofNat 15 t)
      | _, _ => { s with mgWaits := s.mgWaits ++ [o] }
    else
      let (k, s) := s.draw
      s.mgOut p o (BitVec.ofNat 15 (Config.freeWord k).toNat)

/-- Management requests that waited for a tag go out while there are any free. The fuel is their number. -/
def State.pumpMg : Nat → State → State
  | 0, s => s
  | n + 1, s =>
    match s.mgWaits, s.freeTag with
    | o :: rest, some t =>
      let s : State := { s with mgWaits := rest }
      State.pumpMg n (match s.exitPort o.mgTo.1.toNat 63 with
        | some p => (s.takeTag t (.mg o)).mgOut p o (BitVec.ofNat 15 t)
        | none => { s with missed := s.missed ++ [o] })
    | _, _ => s

/-- The tag a management request holds. -/
def State.mgTag (s : State) (p : Out → Bool) : Option Nat :=
  (s.tags.find? fun e => match e.2.use with
    | .mg o => p o
    | _ => false).map Prod.fst

/-- A management request is answered: its tag is free again. -/
def State.mgAnswered (s : State) (p : Out → Bool) : State :=
  match s.mgTag p with
  | some t => s.setTag t ReqTag.free
  | none => { s with mgWaits := dropIf p s.mgWaits }

/-- A management request has gone unanswered for 2 ms: its tag is not used again for 10 ms (R296). -/
def State.mgLate (s : State) (p : Out → Bool) : State :=
  match s.mgTag p with
  | some t => (s.setTag t { ReqTag.free with use := .quarantined }).count R.smfTimeoutTotal
  | none => { s with mgWaits := dropIf p s.mgWaits }

/-- A management message that finds the receiver's queue of 256 full is answered NO_SPACE and has no effect (R298). -/
def State.mgServe (s : State) (from_ : Dev) (act : State → State) : State :=
  if s.mgQueue.length < 256 then act s
  else
    match s.exitPort from_.toNat 63 with
    | none => s
    | some p =>
      let (k, s) := s.draw
      s.sendOn p (.mgStatus (BitVec.ofNat 5 p) (BitVec.ofNat 12 (from_.toNat * 64 + 63)) (BitVec.ofNat 15 (Config.freeWord k).toNat) St.noSpace)

/-- Forget what reads brought for an engine. -/
def State.dropCame (s : State) (p : Waiter → Bool) : State := { s with came := dropIf (fun c => p c.who) s.came }

end Sys2Proof.Machine
end

