-- ==== Sys2Proof/Machine/Place.lean ====
section
/-! DEFINITION. Placement of granules: the drives' queues, fills, promotion, demotion, eviction, drops, zeroing, pins and holds (R207,
R210 to R224). -/

namespace Sys2Proof.Machine

/-! ## The dense tier's addresses (R213) -/

/-- The first logical block of a granule on its drive. -/
def State.blockOf (s : State) (g : Nat) : Nat := if s.stripe.length = 0 then 0 else 16 * (g / s.stripe.length)

/-! ## The drives' queues (R23, R211) -/

/-- The command a code stands for, as it leaves the device: opcode, first block, block count. A Dataset Management of 0 blocks is of
every block; admin commands have 0x100 added to their opcodes, and 0x109 is Set Features. -/
def State.driveOp (s : State) (code : Nat) : Nat × Nat × Nat :=
  if code = deallocCode then (9, 0, 0)
  else if code = cacheCode then (0x109, 0, 0)
  else if code = flushCode then (0, 0, 0)
  else if isWrite code then
    let (g, u, n) := writeOf code
    (1, s.blockOf g + u, n)
  else if 2 ^ 47 ≤ code then (2, s.blockOf (code - 2 ^ 47), 16)
  else if 2 ^ 46 ≤ code then (9, s.blockOf (code - 2 ^ 46), 16)
  else (2, s.blockOf code, 16)

/-- A command leaves for a drive. -/
def State.driveCmd (s : State) (d op block count : Nat) : State := s.emit (.drive (BitVec.ofNat 3 d) op block count)

/-- May a drive be sent a command now: its controller is not being reset, its queues have an entry, and the device holds no more memory
transactions than it may (R23)? -/
def State.driveRoom (s : State) (d code : Nat) : Bool :=
  !(s.drive d).resetting && decide ((s.drive d).cmds.length < driveTop) && decide (s.memTxns + codeTxns code ≤ memTop)

/-- Commands that wait for a drive are sent, in order, while they may be. The fuel is their number. -/
def State.pumpDriveN (d : Nat) : Nat → State → State
  | 0, s => s
  | n + 1, s =>
    match (s.drive d).queued with
    | [] => s
    | c :: rest =>
      if s.driveRoom d c then
        let (op, block, count) := s.driveOp c
        State.pumpDriveN d n ((s.updDrive d fun x => { x with cmds := x.cmds ++ [c], queued := rest }).driveCmd d op block count)
      else s

def State.pumpDrive (s : State) (d : Nat) : State := State.pumpDriveN d (s.drive d).queued.length s

/-- Issue a command to a drive, behind those that wait to be sent. -/
def State.issueDrive (s : State) (d code : Nat) : State :=
  (s.updDrive d fun x => { x with queued := x.queued ++ [code] }).pumpDrive d

/-! ## Ages (R124, R219) -/

/-- T_rot in nanoseconds: 250 ns a step of ROT_PERIOD (R61). -/
def State.rotNs (s : State) : Nat := (s.reg R.rotPeriod).toNat * 250

/-- The first frame of the page a KV frame belongs to (R101). The fuel is the largest SPAN. -/
def State.firstFrame (s : State) : Nat → Nat → Nat
  | 0, f => f
  | k + 1, f => if (s.frame f).type = .kvCont then s.firstFrame k (f - 1) else f

/-- How long ago a granule was last touched, in nanoseconds: a KV frame by its page's LAST_TOUCH (R219). -/
def State.granuleAge (s : State) (g : Nat) : Nat :=
  let t := (s.frame g).type
  if t = .kvFirst ∨ t = .kvCont then (s.rotNo - (s.frame (s.firstFrame 64 g)).touch).toNat * s.rotNs
  else s.time - (s.granule g).touch

/-! ## Moves -/

/-- May a granule be moved down (R219, R220)? Pinned and held ones never are, nor one that is moving or to be promoted. -/
def Granule.movable (x : Granule) : Bool :=
  x.pins == 0 && x.move.isNone && x.fill.isNone && !x.due && !x.rise && !x.nearHeld
  && (match x.tier with
      | .near => true
      | .far => !x.dramHeld
      | .none => false)

/-- Can a granule be evicted to the dense tier: one that is not DRAM-held, and clean or homed on a drive in service (R215, R216)? -/
def State.evictable (s : State) (g : Nat) (x : Granule) : Bool := s.backed && !x.dramHeld && (x.dirty == 0 || !s.driveGone g)

/-- May demotion choose a granule: there is also somewhere for it to go? -/
def State.demotable (s : State) (g : Nat) (x : Granule) : Bool :=
  x.movable && (if x.tier = .near ∧ s.frameCount .far ≠ 0 then (s.pickFrame .far).isSome else s.evictable g x)

/-- A copy or an eviction as it begins. -/
def Move.begun (dst : Tier) (frame : Nat) : Move := { dst, frame, marks := 0, passes := 0, todo := 0xFFFF, copied := 0 }

/-- Free a granule's frame: DENSE in backed mode (R216). -/
def State.toDense (s : State) (g : Nat) : State :=
  s.updGranule g fun x => { x with tier := .none, frame := 0, dirty := 0, move := none, evict := 0 }

/-- Begin moving a granule down one tier (R216, R219, R221, R224). A clean one is evicted with no drive access. -/
def State.demote (s : State) (g : Nat) : State :=
  let x := s.granule g
  let evict (s : State) : State :=
    if !s.evictable g x then s
    else if x.dirty = 0 then s.toDense g
    else s.setGranule g { x with move := some (Move.begun .none 0) }
  match x.tier with
  | .near =>
    if s.frameCount .far = 0 then evict s
    else
      match s.pickFrame .far with
      | some f => s.setGranule g { x with move := some (Move.begun .far f) }
      | none => s
  | .far => evict s
  | .none => s

/-- The granule of a tier that demotion takes first: least recently touched, then lowest (R219). -/
def State.oldest (s : State) (t : Tier) : Option Nat :=
  (s.granules.filter fun e => e.2.tier == t && s.demotable e.1 e.2).foldl
    (fun best e => match best with
      | none => some e.1
      | some b => if s.granuleAge b < s.granuleAge e.1 then some e.1 else best) none

/-- Granules leaving a tier. -/
def State.leaving (s : State) (t : Tier) : Nat :=
  (s.granules.filter fun e => e.2.tier == t && e.2.move.isSome).length

/-- Demote the oldest of a tier, k times. -/
def State.demoteOldest (t : Tier) : Nat → State → State
  | 0, s => s
  | k + 1, s =>
    match s.oldest t with
    | some g => State.demoteOldest t k (s.demote g)
    | none => s

/-- Pressure (R219): while fewer frames are free than the reserve, demote regardless of age. -/
def State.pressure (s : State) (t : Tier) : State :=
  let reserve := if t = .near then (s.reg R.tierNearReserve).toNat else (s.reg R.tierFarReserve).toNat
  if t = .far ∧ !s.backed then s
  else
    let short := reserve - s.freeFrames t - s.leaving t
    State.demoteOldest t (min short s.granules.length) s

/-! ## Fills and promotion (R216 to R218) -/

/-- Is the drive of a granule fenced (R350)? -/
def State.driveFenced (s : State) (g : Nat) : Bool :=
  match s.driveOf g with
  | some d => s.backed && s.fenced 5 d
  | none => false

/-- Give a waiting or new fill its frame and issue its one Read, which one that brings zeros has not; or leave it waiting for a demotion
(R217), or for the fence of its drive to be lifted (R350). -/
def State.fillFrame (s : State) (g : Nat) (t : Tier) : State :=
  let reads := s.backed && !(s.granule g).zeroing
  if reads && s.driveFenced g then s.updGranule g fun x => { x with fill := some t, waits := true }
  else
  match s.pickFrame t with
  | some f =>
    let s := s.updGranule g fun x => { x with fill := some t, frame := f, waits := false }
    match s.driveOf g with
    | some d => if reads then s.issueDrive d g else s
    | none => s
  | none =>
    let s := s.updGranule g fun x => { x with fill := some t, waits := true }
    State.demoteOldest t 1 s

/-- Start a fill of a DENSE granule, or the placement of an UNPLACED one (R216, R217): near for a wake, a lookahead, a NEAR_ONLY deferral or a near-held
granule, or when the far tier is empty; else far. No second Read is issued. -/
def State.startFill (s : State) (g : Nat) (near : Bool) (user : Option (RingId × Pos)) : State :=
  let x := s.granule g
  if x.tier ≠ .none ∨ x.fill.isSome ∨ (s.backed && s.driveGone g) then s
  else
    let t := if near || x.nearHeld || s.frameCount .far == 0 then Tier.near else Tier.far
    (s.updGranule g fun x => { x with fillUser := user }).fillFrame g t

/-- Fills that wait for a frame take one that has become free (R217). -/
def State.fillsGoOn (s : State) : State :=
  s.each s.granules fun s e =>
    let x := s.granule e.1
    match x.fill with
    | some t => if x.waits && (s.pickFrame t).isSome then s.fillFrame e.1 t else s
    | none => s

/-- An access finds a granule: in DRAM, UNPLACED, or lost with its drive it is served now; DENSE or filling it waits
(R216). The granule is touched (R219). -/
def State.demand (s : State) (g : Nat) (near : Bool) (user : Option (RingId × Pos)) : State :=
  s.each (s.readGranules g) fun s g =>
    if inReserved (65536 * g) then s
    else
      let s := s.touchGranule g
      if s.backed ∧ (s.granule g).tier = .none then s.startFill g near user else s

/-- Is a granule's copy in DRAM, or its data lost with its drive? -/
def State.inDram (s : State) (g : Nat) : Bool :=
  inReserved (65536 * g) ||
    let x := s.granule g
    x.fill.isNone && (!s.backed || x.tier != .none || s.driveGone g)

/-- Can an access to a granule be served now: what it needs is in DRAM, and the device holds no more memory transactions than it may
(R23)? -/
def State.served (s : State) (g : Nat) : Bool := (s.readGranules g).all s.inDram && decide (s.memTxns < memTop)

/-- Promote a FAR granule by a copy to a near frame, if there is one and it may be begun now: it is not moving and no abandoned move of it
waits for the next age examination (R221); else it stays to be promoted, and an eviction of it is given up (R218; log entry 27). -/
def State.raiseTo (s : State) (g : Nat) (frame : Option Nat) : State :=
  let x := s.granule g
  let evicted : Bool := match x.move with
    | some m => m.dst == .none
    | none => false
  let x := { x with move := if evicted then none else x.move, evict := if evicted then 0 else x.evict }
  match frame with
  | some f =>
    if x.move.isSome then s.setGranule g { x with rise := x.rise || !(x.move.any fun m => m.dst == .near) }
    else if x.due then s.setGranule g { x with rise := true }
    else s.setGranule g { x with rise := false, move := some (Move.begun .near f) }
  | none =>
    if x.move.any fun m => m.dst == .near then s
    else State.demoteOldest .near 1 (s.setGranule g { x with rise := true })

/-- Promote a FAR granule by a copy. -/
def State.raise (s : State) (g : Nat) : State := s.raiseTo g (s.pickFrame .near)

/-- Promote a granule (R218): FAR by a copy, DENSE by a fill to the near tier; one that is being filled to the far tier follows. -/
def State.promote (s : State) (g : Nat) (user : Option (RingId × Pos)) : State :=
  let x := s.granule g
  match x.tier with
  | .far => s.raise g
  | .none =>
    if x.fill = some .far then s.setGranule g { x with rise := true } else if s.backed then s.startFill g true user else s
  | .near =>
    if x.move.any fun m => m.dst == .far then s.setGranule g { x with rise := true } else s

/-- Promotions that have still to be made begin where they can. -/
def State.risesGoOn (s : State) : State :=
  s.each (s.granules.filter fun e => e.2.rise) fun s e =>
    let x := s.granule e.1
    if x.rise ∧ x.tier = .far ∧ x.move.isNone then s.raise e.1
    else if x.rise ∧ x.tier = .near ∧ x.move.isNone then s.setGranule e.1 { x with rise := false }
    else if x.rise ∧ x.tier = .none ∧ x.fill.isNone then (s.setGranule e.1 { x with rise := false }).promote e.1 none
    else s

/-! ## Zeroing, drops, pins and holds -/

/-- Zero a granule by allocation (R105, R158, R216): a near frame without a Read, all 16 sub-dirty bits set; it waits for one as a fill
does. Where it is moving, every unit is marked for another pass (R221). -/
def State.zeroGranule (s : State) (g : Nat) : State :=
  let s := s.wipe (65536 * g) 65536
  let x := s.granule g
  let dirty : BitVec 16 := if s.backed then 0xFFFF else 0
  if x.tier = .none then
    let t := if s.backed ∨ (s.reg R.tierNearReserve).toNat < s.freeFrames .near then Tier.near else Tier.far
    match s.pickFrame t with
    | some f => s.setGranule g { x with tier := t, frame := f, dirty, fill := none, waits := false, touch := s.time }
    | none =>
      if s.backed then
        (s.setGranule g { x with fill := some t, waits := true, zeroing := true, dirty, touch := s.time }).fillFrame g t
      else s.setGranule g { x with touch := s.time }
  else
    s.setGranule g { x with dirty, touch := s.time, move := x.move.map fun mv => { mv with marks := 0xFFFF } }

/-- Drop a granule (R223): write-back and moves are cancelled, the frame is freed, and it reads zeros. -/
def State.dropGranule (s : State) (g : Nat) : State :=
  let s := (s.wipe (65536 * g) 65536).count R.tierDropTotal
  let s := s.setGranule g { Granule.none with pins := (s.granule g).pins, touch := s.time }
  if s.backed then
    match s.driveOf g with
    | some d =>
      if (s.drive d).state = .inService then
        s.issueDrive d (dropCode g)
      else s
    | none => s
  else s

/-- A granule never goes to the dense tier (R220): an eviction of it is given up. -/
def State.holdDram (s : State) (g : Nat) : State :=
  s.updGranule g fun x =>
    let out : Bool := match x.move with
      | some m => m.dst == .none
      | none => false
    { x with dramHeld := true, move := if out then none else x.move, evict := if out then 0 else x.evict }

/-- A pin under R75; it cancels a move that would take the granule out of the tier the item requires (R222). -/
def State.pin (s : State) (near : Bool) (g : Nat) : State :=
  s.updGranule g fun x =>
    let out : Bool := match x.move with
      | some m => if near then m.dst != .near else m.dst == .none
      | none => false
    { x with pins := x.pins + 1, move := if out then none else x.move
             evict := if out then 0 else x.evict }

def State.unpin (s : State) (g : Nat) : State := s.updGranule g fun x => { x with pins := x.pins - 1 }

/-- Frames of a tier that no hold takes (R220). -/
def State.unheld (s : State) (t : Tier) : Nat :=
  s.frameCount t - (s.granules.filter fun e =>
    (t == .near && e.2.nearHeld)
    || ((e.2.tier == t || e.2.fill == some t) && e.2.dramHeld && !(t == .near && e.2.nearHeld))).length

/-- Frames of a tier that may still be held: those above its reserve (R220). -/
def State.holdRoom (s : State) (t : Tier) : Nat :=
  s.unheld t - (if t = .near then (s.reg R.tierNearReserve).toNat else (s.reg R.tierFarReserve).toNat)

/-- Would holding n more frames of a tier leave fewer unheld frames than its reserve (R220)? -/
def State.holdFails (s : State) (t : Tier) (n : Nat) : Bool :=
  decide (s.unheld t < n + (if t = .near then (s.reg R.tierNearReserve).toNat else (s.reg R.tierFarReserve).toNat))

/-- Would holding n more frames of DRAM, spread over both tiers, leave fewer unheld frames in one of them than its reserve (R220; log
entry 125)? -/
def State.dramFails (s : State) (n : Nat) : Bool := decide (s.holdRoom .near + s.holdRoom .far < n)

/-! ## The unit behind a line (R207, R210, R213) and the record of a poisoned read -/

/-- The fitted stacks in the order of R207. -/
def Variant.stackOrder (v : Variant) : List Nat := [0, 4, 1, 5, 2, 6, 3, 7].filter v.stack

/-- The channels in service in the order of R210. -/
def State.ddrOrder (s : State) : List Nat :=
  ((List.range 8).flatMap fun i => [i, 8 + i]).filter fun d => (s.ddrCh d).info == 1

/-- The stack and the pseudo-channel of an offset of near frame f (R207). -/
def Variant.nearPlace (v : Variant) (f o : Nat) : Nat × Nat :=
  let u := o % 65536 / 256
  let n := v.stackOrder.length
  (v.stackOrder.getD (u % n) 0, (u / n + f) % 64)

/-- The channel and the sub-channel of an offset of far frame f (R210): lines alternate between the two. -/
def State.farPlace (s : State) (f o : Nat) : Nat × Nat :=
  let l := s.ddrOrder
  (l.getD ((o % 65536 / 4096 + f) % l.length) 0, (o % 4096 / 64 + Config.firstSub) % 2)

/-- Class and unit of the store that holds a pool offset's current copy. -/
def State.storeUnit (s : State) (o : Nat) : Nat × Nat :=
  let x := s.granule (o / 65536)
  if inReserved o then (3, (s.variant.nearPlace (Config.reservedFrame (o / 65536)) o).1)
  else if x.tier = .near then (3, (s.variant.nearPlace x.frame o).1)
  else if x.tier = .far then (4, (s.farPlace x.frame o).1)
  else
    match s.driveOf (o / 65536) with
    | some d => (5, d)
    | none => (3, 0)

/-- The contained record of a request that met a poisoned line (R342, R343). -/
def State.poisonError (s : State) (o : Nat) (t : Option Tenant) : State :=
  let (c, u) := s.storeUnit o
  s.record { ErrRec.plain 3 c u 2 with status := St.poisoned, tenant := t, addr := s.fpaOf o }

end Sys2Proof.Machine
end

