-- ==== Sys2Proof/Machine/Operands.lean ====
section
/-! DEFINITION. Every operand form: the ring context, the descriptor header and the descriptor layout of every ring kind
with the checks of R41 step 3, device virtual addresses and the walk, and reads and writes through them. -/

namespace Sys2Proof.Machine

/-! ## The ring context (R32) -/

def Ring.sqBase (r : Ring) : Nat := fld r.ctx 0 64
def Ring.cqBase (r : Ring) : Nat := fld r.ctx 64 64
def Ring.kindCode (r : Ring) : Nat := fld r.ctx 128 4
def Ring.entries (r : Ring) : Nat := 2 ^ (fld r.ctx 132 4 + 6)
def Ring.level (r : Ring) : Nat := fld r.ctx 136 8
def Ring.tenant (r : Ring) : Nat := fld r.ctx 144 4
def Ring.inPool (r : Ring) : Bool := fld r.ctx 148 2 == 1
def Ring.hport (r : Ring) : Nat := fld r.ctx 150 2
def Ring.vector (r : Ring) : Nat := fld r.ctx 152 11
def Ring.intEn (r : Ring) : Bool := bit r.ctx 163
def Ring.channel (r : Ring) : Nat := fld r.ctx 164 6
def Ring.coalCount (r : Ring) : Nat := fld r.ctx 176 16
def Ring.coalTime (r : Ring) : Nat := fld r.ctx 192 16

def kindOf : Nat → RingKind
  | 0 => .dma
  | 1 => .attn
  | 2 => .sess
  | 3 => .embl
  | 4 => .embu
  | 5 => .xinv
  | 6 => .pool
  | _ => .mgmt

def Ring.kind (r : Ring) : RingKind := kindOf r.kindCode

/-- Does a ring context hold a reserved encoding or a non-zero reserved field, or a base that is not 4 KiB aligned
(R32, R34)? CHANNEL is 0 for a kind other than DMA, LEVEL 0 is reserved (R35). -/
def ctxBad (c : Line) : Bool :=
  decide (7 < fld c 128 4 ∨ 10 < fld c 132 4 ∨ fld c 136 8 = 0 ∨ 1 < fld c 148 2
    ∨ (fld c 128 4 ≠ 0 ∧ fld c 164 6 ≠ 0) ∨ fld c 170 6 ≠ 0 ∨ fld c 208 48 ≠ 0 ∨ fld c 256 256 ≠ 0
    ∨ fld c 0 12 ≠ 0 ∨ fld c 64 12 ≠ 0)

/-! ## The descriptor header (R40) -/

def dOpcode (d : Line) : Nat := fld d 0 8
def dInt (d : Line) : Bool := bit d 8
def dFence (d : Line) : Bool := bit d 9
def dFlag (d : Line) (i : Nat) : Bool := bit d i
def dLevel (d : Line) : Nat := fld d 16 8
def dTenant (d : Line) : Nat := fld d 24 4
def dTag (d : Line) : Nat := fld d 32 32

/-- A little-endian field of a descriptor by byte offset and byte count. -/
def dNum (d : Line) (byte n : Nat) : Nat := fld d (8 * byte) (8 * n)

/-! ## Layouts by kind: every field, reserved ones included, as (first bit, bits), in ascending order -/

/-- R52. -/
def layDma : List (Nat × Nat) :=
  [(64, 64), (128, 64), (192, 32), (224, 2), (226, 2), (228, 2), (230, 2), (232, 2), (234, 22), (256, 64), (320, 192)]

/-- R134. -/
def layAttn : List (Nat × Nat) :=
  [(64, 32), (96, 32), (128, 16), (144, 4), (148, 4), (152, 2), (154, 1), (155, 3), (158, 2), (160, 21), (181, 11),
   (192, 21), (213, 11), (224, 16), (240, 16), (256, 32), (288, 32), (320, 64), (384, 64), (448, 2), (450, 2),
   (452, 2), (454, 2), (456, 56)]

/-- R107. -/
def laySess : List (Nat × Nat) :=
  [(64, 32), (96, 32), (128, 21), (149, 11), (160, 21), (181, 11), (192, 16), (208, 6), (214, 2), (216, 8), (224, 32),
   (256, 32), (288, 8), (296, 2), (298, 4), (302, 4), (306, 14), (320, 64), (384, 2), (386, 2), (388, 4), (392, 120)]

/-- R161, as LOOKUP, LOOKAHEAD and GRAD divide it. -/
def layEmb : List (Nat × Nat) :=
  [(64, 12), (76, 4), (80, 2), (82, 2), (84, 1), (85, 3), (88, 8), (96, 21), (117, 11), (128, 32), (160, 32), (192, 64),
   (256, 64), (320, 64), (384, 2), (386, 2), (388, 2), (390, 2), (392, 120)]

/-- R161, as CLOSE and ABANDON divide it. -/
def layClose : List (Nat × Nat) :=
  [(64, 12), (76, 4), (80, 2), (82, 2), (84, 1), (85, 3), (88, 8), (96, 21), (117, 11), (128, 32), (160, 32), (192, 32),
   (224, 32), (256, 32), (288, 32), (320, 32), (352, 32), (384, 2), (386, 2), (388, 2), (390, 2), (392, 120)]

/-- R246. -/
def layXinv : List (Nat × Nat) :=
  [(64, 64), (128, 64), (192, 32), (224, 2), (226, 2), (228, 4), (232, 280)]

/-- R305. -/
def layPool : List (Nat × Nat) :=
  [(64, 26), (90, 6), (96, 17), (113, 15), (128, 2), (130, 4), (134, 2), (136, 16), (152, 4), (156, 1), (157, 1),
   (158, 2), (160, 24), (184, 8), (192, 64), (256, 2), (258, 2), (260, 4), (264, 248)]

/-- R356. -/
def layMgmt : List (Nat × Nat) :=
  [(64, 20), (84, 12), (96, 20), (116, 12), (128, 6), (134, 2), (136, 56), (192, 64), (256, 256)]

/-- Is an opcode defined for a kind (R51, R106, R133, R161, R246, R304, R356)? -/
def opcodeOk : RingKind → Nat → Bool
  | .dma, o => decide (1 ≤ o ∧ o ≤ 3)
  | .attn, o => o == 1
  | .sess, o => decide (1 ≤ o ∧ o ≤ 10)
  | .embl, o => decide (1 ≤ o ∧ o ≤ 2)
  | .embu, o => decide (1 ≤ o ∧ o ≤ 3)
  | .xinv, o => decide (1 ≤ o ∧ o ≤ 3)
  | .pool, o => decide (1 ≤ o ∧ o ≤ 6)
  | .mgmt, o => o == 1

/-- The KFLAGS bits a descriptor may set (R133, R161, R246, R304, R356). -/
def flagsUsed : RingKind → Nat → List Nat
  | .attn, _ => [12, 13, 14]
  | .xinv, 2 => [12, 13]
  | .xinv, _ => [12]
  | .pool, 5 => [12]
  | .mgmt, _ => [12]
  | _, _ => []

def layoutOf : RingKind → Nat → List (Nat × Nat)
  | .dma, _ => layDma
  | .attn, _ => layAttn
  | .sess, _ => laySess
  | .embl, _ => layEmb
  | .embu, 1 => layEmb
  | .embu, _ => layClose
  | .xinv, _ => layXinv
  | .pool, _ => layPool
  | .mgmt, _ => layMgmt

/-- The fields, by first bit, that a descriptor uses; every other field of its layout is reserved. A port field whose
kind field does not name a host is reserved (log entry 25). -/
def fieldsUsed (k : RingKind) (d : Line) : List Nat :=
  let hostOnly (kindLo portLo : Nat) : List Nat := if fld d kindLo 2 = 1 then [portLo] else []
  match k, dOpcode d with
  | .dma, 1 => [64, 128, 192, 224, 226, 232] ++ hostOnly 224 228 ++ hostOnly 226 230
  | .dma, 2 => [128, 192, 226, 232, 256] ++ hostOnly 226 230
  | .dma, _ => []
  | .attn, _ => [64, 96, 128, 144, 148, 152, 154, 155, 160, 192, 224, 256, 320, 384, 448, 452]
      ++ hostOnly 448 450 ++ hostOnly 452 454
  | .sess, 1 => [288, 296, 298, 302]
  | .sess, 2 => [64, 96, 128, 160, 192, 320, 384] ++ hostOnly 384 386
  | .sess, 3 => [64, 96, 128]
  | .sess, 4 => [64, 96]
  | .sess, 5 => [64, 96]
  | .sess, 7 => [64, 208, 256]
  | .sess, 8 => [64, 208, 224, 256]
  | .sess, _ => [64]
  | .embl, 1 => [64, 80, 82, 96, 128, 192, 256, 320, 384, 388] ++ hostOnly 384 386 ++ hostOnly 388 390
  | .embl, _ => [64, 96, 192, 384] ++ hostOnly 384 386
  | .embu, 1 => [64, 84, 96, 128, 192, 256, 384] ++ hostOnly 384 386
  | .embu, 2 => [64, 128, 160, 192, 224, 256, 288, 320]
  | .embu, _ => [64, 128]
  | .xinv, 1 => [64, 128, 192, 224] ++ hostOnly 224 226
  | .xinv, 2 => if dFlag d 13 then [] else [64, 128]
  | .xinv, _ => [192]
  | .pool, 1 => [64, 96, 160]
  | .pool, 2 => [64, 96]
  | .pool, 3 => [64, 96, 128, 130, 136, 152, 156]
  | .pool, 4 => [96, 128, 130, 136]
  | .pool, 5 => [96, 128, 130, 136, 192, 256] ++ hostOnly 256 258 ++ (if dFlag d 12 then [64] else [])
  | .pool, _ => [128, 157]
  | .mgmt, _ => [64, 96, 128, 192]

/-- Does a used field hold a reserved encoding (R14)? -/
def fieldReserved (k : RingKind) (lo v : Nat) : Bool :=
  match k, lo with
  | .dma, 224 => decide (1 < v)
  | .dma, 226 => decide (1 < v)
  | .dma, 232 => v == 3
  | .attn, 152 => v == 3
  | .attn, 448 => decide (1 < v)
  | .attn, 452 => decide (1 < v)
  | .sess, 302 => decide (3 < v)
  | .sess, 384 => decide (1 < v)
  | .embl, 82 => v == 3
  | .embl, 384 => decide (1 < v)
  | .embl, 388 => decide (1 < v)
  | .embu, 384 => decide (1 < v)
  | .xinv, 224 => decide (1 < v)
  | .pool, 256 => decide (1 < v)
  | _, _ => false

/-- The first offending field of a descriptor under R41 step 3, as byte offset and reason: an undefined opcode, then
fields in ascending place. -/
def firstBad (k : RingKind) (tenant : Nat) (d : Line) : Option (Nat × Nat) :=
  if !opcodeOk k (dOpcode d) then some (0, 3)
  else if fld d 10 2 ≠ 0 then some (1, 1)
  else if ([12, 13, 14, 15].any fun i => bit d i && !(flagsUsed k (dOpcode d)).contains i) then some (1, 1)
  else if dTenant d ≠ tenant then some (3, 4)
  else if fld d 28 4 ≠ 0 then some (3, 1)
  else
    let used := fieldsUsed k d
    (layoutOf k (dOpcode d)).findSome? fun (lo, n) =>
      let v := fld d lo n
      if !used.contains lo then (if v ≠ 0 then some (lo / 8, 1) else none)
      else if fieldReserved k lo v then some (lo / 8, 2)
      else none

/-! ## Device virtual addresses (R232, R236 to R239) -/

/-- What a translation gives: the pool (an FPA) or an endpoint's memory (EP in bits [63:52] of `addr`), the mark key,
the page size in bits, and the leaf. -/
structure Xlat where
  tgt : Bool
  addr : Nat
  key : BitVec 24
  bits : Nat
  leaf : Word
deriving DecidableEq, Repr

/-- One past the highest device virtual address. -/
def dvaTop : Nat := 2 ^ 57

/-- DVA bits a level indexes: the first and how many (R236). -/
def levelBits : Nat → Nat × Nat
  | 4 => (48, 9)
  | 3 => (39, 9)
  | 2 => (30, 9)
  | 1 => (21, 9)
  | _ => (16, 5)

/-- Size and alignment of a table that is read at a level (R236). -/
def tableBytes (level : Nat) : Nat := if level = 0 then 256 else 4096

/-- The 8 bytes of the entry a DVA selects in a table of the page-table area. -/
def State.ptEntry (s : State) (table dva level : Nat) : Word :=
  let i := dva / 2 ^ (levelBits level).1 % 2 ^ (levelBits level).2
  BitVec.ofNat 64 (leNat ((List.range 8).map fun k => s.rawByte (ptArea + table + 8 * i + k)))

/-- Is an entry a leaf where it was read? At level 0 every entry is one. -/
def isLeaf (level : Nat) (e : Word) : Bool := level == 0 || bit e 1

/-- What is wrong with a valid entry read at a level: reason 2, or reason 3 for a pointer out of the tenant's range. -/
def entryFault (base size level : Nat) (e : Word) : Option Nat :=
  if isLeaf level e then
    if 3 ≤ level ∨ bit e 1 = false ∨ fld e 8 8 ≠ 0 ∨ (bit e 3 = false ∧ fld e 56 8 ≠ 0)
        ∨ fld e 16 ((levelBits level).1 - 16) ≠ 0
        ∨ (bit e 3 = true ∧ (fld e 52 6 = 0 ∨ 18 < fld e 52 6)) then some 2
    else none
  else if fld e 2 6 ≠ 0 ∨ fld e 32 32 ≠ 0 then some 2
  else
    let next := fld e 8 24 * 256
    let n := tableBytes (level - 1)
    if next % n ≠ 0 ∨ next < base ∨ base + size < next + n then some 3 else none

/-- What a leaf translates a DVA to (R238). -/
def State.leafXlat (s : State) (t dva level : Nat) (e : Word) : Xlat :=
  let bits := (levelBits level).1
  let page := if bit e 3 then fld e 16 36 * 65536 else fld e 16 40 * 65536
  let low := dva % 2 ^ bits
  { tgt := bit e 3
    addr := page + low + (if bit e 3 then fld e 52 12 * 2 ^ 52 else 0)
    key := BitVec.ofNat 24 (fld (s.reg (R.xltKey (16 * t + fld e 4 4))) 0 24)
    bits, leaf := e }

/-- A finished leaf's own faults: 4 for a write without W, 5 for the reserved region of this device (R239). -/
def State.leafFault (s : State) (x : Xlat) (write : Bool) : Option Nat :=
  if write && !bit x.leaf 2 then some 4
  else if !x.tgt && x.addr / 2 ^ 50 == s.devNo && inReserved (x.addr % 2 ^ 50) then some 5
  else none

/-- The walk of R239 from a table at a level: reason and level of a fault, or the translation. -/
def State.walkFrom (s : State) (t dva : Nat) (write : Bool) : Nat → Nat → Except (Nat × Nat) Xlat
  | level, table =>
    let e := s.ptEntry table dva level
    let base := (s.reg (R.xltPtBase t)).toNat
    let size := (s.reg (R.xltPtSize t)).toNat
    if !bit e 0 then .error (1, level)
    else
      match entryFault base size level e with
      | some r => .error (r, level)
      | none =>
        if isLeaf level e then
          let x := s.leafXlat t dva level e
          match s.leafFault x write with
          | some r => .error (r, level)
          | none => .ok x
        else
          match level with
          | 0 => .error (2, 0)
          | level + 1 => s.walkFrom t dva write level (fld e 8 24 * 256)

/-! ## Translation caches and walks (R240 to R242, R407) -/

/-- The caches are numbered: gallery g's is g, DMA channel c's 32 + c, and the front end's of I/O die d 96 + d. -/
def channelCache (c : Nat) : Nat := 32 + c

/-- The front-end cache that serves a ring. -/
def State.frontCache (s : State) (ring : Nat) : Nat := 96 + s.dieOf ring

def xlatTop (who : Nat) : Nat := if who < 32 then 4096 else if who < 96 then 64 else 2048

/-- The die whose walker serves a cache. -/
def State.cacheDie (s : State) (who : Nat) : Nat :=
  if who < 32 then s.dieOfGallery who else if who < 96 then s.dieOf (who - 32) else who - 96

def TlbEntry.has (e : TlbEntry) (who : Nat) (t : Tenant) (dva : Nat) : Bool :=
  e.cache == who && e.tenant == t && dva / 2 ^ e.bits == e.page

/-- The entry that translates a DVA. -/
def State.tlbFind (s : State) (who : Nat) (t : Tenant) (dva : Nat) : Option TlbEntry := s.tlb.find? fun e => e.has who t dva

/-- What an entry translates a DVA to. -/
def TlbEntry.xlat (e : TlbEntry) (dva : Nat) : Xlat :=
  let low := dva % 2 ^ e.bits
  { tgt := bit e.leaf 3
    addr := (if bit e.leaf 3 then fld e.leaf 16 36 else fld e.leaf 16 40) * 65536 + low
      + (if bit e.leaf 3 then fld e.leaf 52 12 * 2 ^ 52 else 0)
    key := e.key, bits := e.bits, leaf := e.leaf }

/-- The level of an entry's leaf. -/
def TlbEntry.level (e : TlbEntry) : Nat := if e.bits = 16 then 0 else if e.bits = 21 then 1 else 2

/-- An entry is used. -/
def State.tlbUse (s : State) (e : TlbEntry) : State := { s with tlb := s.tlb.filter (· != e) ++ [e] }

/-- The entry a full gallery cache evicts (R242): one of an earlier rotation, least recently used first, else the oldest
load. -/
def State.tlbVictim (s : State) (g : Nat) : Option TlbEntry :=
  let own := s.tlb.filter fun e => e.cache == g
  match own.find? fun e => e.loaded != s.rotNo with
  | some e => some e
  | none => own.foldl (fun best e => match best with
      | some b => if e.seq < b.seq then some e else best
      | none => some e) none

/-- Make room in a cache: R242 says which entry of a full gallery cache goes; of another, any (log entry 179). -/
def State.tlbRoom (s : State) (who : Nat) : State :=
  let own := s.tlb.filter fun e => e.cache == who
  if own.length < xlatTop who then s
  else if who < 32 then
    match s.tlbVictim who with
    | some v => { s with tlb := s.tlb.filter (· != v) }
    | none => s
  else
    let (k, s) := s.draw
    match own[(Config.freeWord k).toNat % own.length]? with
    | some v => { s with tlb := s.tlb.filter (· != v) }
    | none => s

/-- Load a leaf; a page that is cached already stays as it is. -/
def State.tlbLoad (s : State) (who : Nat) (t : Tenant) (x : Xlat) (dva : Nat) : State :=
  if (s.tlbFind who t dva).isSome then s
  else
    let seq := s.tlb.foldl (fun m e => max m (e.seq + 1)) 0
    let e : TlbEntry :=
      { cache := who, tenant := t, page := dva / 2 ^ x.bits, bits := x.bits, leaf := x.leaf, key := x.key, loaded := s.rotNo, seq }
    let s := s.tlbRoom who
    { s with tlb := s.tlb ++ [e] }

/-- The index path of a DVA above a level. -/
def pathAbove (dva level : Nat) : Nat := dva / 2 ^ (levelBits (level + 1)).1

/-- The table of a level that a die's walk cache gives. -/
def State.walkCached (s : State) (die : Nat) (t : Tenant) (dva level : Nat) : Option Nat :=
  (s.walkCache.find? fun e => e.die == die && e.tenant == t && e.level == level && e.path == pathAbove dva level).map
    fun e => e.table

/-- Keep a pointer entry; a full walk cache gives up any (log entry 179). -/
def State.walkKeep (s : State) (e : WalkEntry) : State :=
  let own := s.walkCache.filter fun w => w.die == e.die
  if own.length < 4096 then { s with walkCache := s.walkCache ++ [e] }
  else
    let (k, s) := s.draw
    match own[(Config.freeWord k).toNat % own.length]? with
    | some v => { s with walkCache := s.walkCache.erase v ++ [e] }
    | none => s

/-- Where a walk starts (R239, R240): the fault found on die, or the deepest level and table the walk cache gives, else level 3. -/
def State.walkStart (s : State) (die t dva : Nat) : Except (Nat × Nat) (Nat × Nat) :=
  if 2 ^ 57 ≤ dva then .error (7, 7)
  else
    let root := s.reg (R.xltRoot t)
    if !bit root 0 then .error (1, 4)
    else
      let e := s.ptEntry (fld root 8 24 * 256) dva 4
      if !bit e 0 then .error (1, 4)
      else
        match entryFault (s.reg (R.xltPtBase t)).toNat (s.reg (R.xltPtSize t)).toNat 4 e with
        | some r => .error (r, 4)
        | none =>
          let n := BitVec.ofNat 4 t
          match s.walkCached die n dva 0, s.walkCached die n dva 1, s.walkCached die n dva 2 with
          | some x, _, _ => .ok (0, x)
          | none, some x, _ => .ok (1, x)
          | none, none, some x => .ok (2, x)
          | none, none, none => .ok (3, fld e 8 24 * 256)

/-- A walk from a table at a level: the pointer entries it reads are kept, and the leaf it finds is loaded. -/
def State.walkLoad (who t dva : Nat) : Nat → Nat → State → State
  | level, table, s =>
    let e := s.ptEntry table dva level
    let fault := entryFault (s.reg (R.xltPtBase t)).toNat (s.reg (R.xltPtSize t)).toNat level e
    if !bit e 0 ∨ fault.isSome then s
    else if isLeaf level e then s.tlbLoad who (BitVec.ofNat 4 t) (s.leafXlat t dva level e) dva
    else
      match level with
      | 0 => s
      | level + 1 =>
        let next := fld e 8 24 * 256
        State.walkLoad who t dva level next (s.walkKeep
          { die := s.cacheDie who, tenant := BitVec.ofNat 4 t, level, path := pathAbove dva level, table := next })

/-- An engine translates a DVA: its cache's entry is used, else a walk loads one (R241). -/
def State.xlatUse (s : State) (who t dva : Nat) : State :=
  match s.tlbFind who (BitVec.ofNat 4 t) dva with
  | some e => s.tlbUse e
  | none =>
    match s.walkStart (s.cacheDie who) t dva with
    | .error _ => s
    | .ok (level, table) => (State.walkLoad who t dva level table s).count R.xltWalkTotal

/-- Translate a DVA of a tenant (R239, R241): by the engine's cache, else by a walk. -/
def State.translate (s : State) (who t dva : Nat) (write : Bool) : Except (Nat × Nat) Xlat :=
  if 2 ^ 57 ≤ dva then .error (7, 7)
  else
    match s.tlbFind who (BitVec.ofNat 4 t) dva with
    | some e =>
      match s.leafFault (e.xlat dva) write with
      | some r => .error (r, e.level)
      | none => .ok (e.xlat dva)
    | none =>
      match s.walkStart (s.cacheDie who) t dva with
      | .error f => .error f
      | .ok (level, table) => s.walkFrom t dva write level table

/-- The part of a range that lies in one 64 KiB piece. -/
def pieceLen (dva len : Nat) : Nat := min len (65536 - dva % 65536)

/-- An engine translates the pieces of a range, in order. -/
def State.xlatRange (who t : Nat) : Nat → State → Nat → Nat → State
  | 0, s, _, _ => s
  | fuel + 1, s, dva, len =>
    if len = 0 then s
    else State.xlatRange who t fuel (s.xlatUse who t dva) (dva + pieceLen dva len) (len - pieceLen dva len)

/-- The pieces a range has. -/
def pieces (len : Nat) : Nat := len / 65536 + 2

/-- What an engine translates that read `got` bytes of [dva, dva + len) before it was refused, or all of it. -/
def State.xlatRead (s : State) (who t dva len got : Nat) : State :=
  State.xlatRange who t (pieces len) s dva (min len (got + 1))

/-! ## Expanded blocks (R260, R262, R264) -/

/-- Keep an expanded block among its die's 256 most recent. -/
def State.keepBlock (s : State) (r b : Nat) (bytes : List Byte) : State :=
  let die := s.blockDie b
  let rest := dropIf (fun (k : KeptBlock) => k.die == die && k.region == r && k.block == b) s.blocks
  let own := rest.filter fun (k : KeptBlock) => k.die == die
  let rest := if 256 ≤ own.length then rest.eraseP (fun (k : KeptBlock) => k.die == die) else rest
  { s with blocks := rest ++ [{ die, region := r, tenant := s.regionTenant r, block := b, bytes }] }

/-- A block failed: GLS_LAST_ERR and a contained record (R260; log entry 44: the code of a failed tag). -/
def State.blockError (s : State) (r b : Nat) (decode : Bool) : State :=
  let s := s.count (if decode then R.glsDecodeErrTotal else R.glsTagFailTotal)
  let s := s.setReg R.glsLastErr (BitVec.ofNat 64 (r + b2n decode * 64))
  let s := s.setReg R.glsLastErrBlock (BitVec.ofNat 64 b)
  s.record { ErrRec.plain 3 8 (s.blockDie b) (if decode then 11 else 9) with
    status := St.poisoned, tenant := some (BitVec.ofNat 4 (s.regionTenant r)), addr := s.fpaOf (s.regionBase r + 65536 * b) }

/-- An expansion die finishes a block of a VALID region. -/
def State.blockExpanded (s : State) (r b : Nat) : State :=
  if !s.regionValid r ∨ s.regionSize r ≤ 65536 * b ∨ s.ras.fog then s
  else
    let h := (s.sealRecord r b).take 32
    match s.readBlock r b with
    | .tagFail => s.blockError r b false
    | .decodeError => s.blockError r b true
    | .poisoned o => s.poisonError o (some (BitVec.ofNat 4 (s.regionTenant r)))
    | .ok bytes =>
      let s := match hdrMode h with
        | 0 => s.count R.glsRawTotal
        | 1 => (s.count R.glsCodedTotal).count R.glsLinesSavedTotal (1024 - hdrLines h)
        | _ => (s.count R.glsZeroTotal).count R.glsLinesSavedTotal 1024
      s.keepBlock r b bytes

/-- What a read of a granule of this pool does to the block it is, if it is one of a VALID region: its die expands and keeps it, or
records how it failed, unless it keeps it already (R260, R262, R264, R266). -/
def State.blockUse (s : State) (g : Nat) : State :=
  match s.granuleBlock g with
  | some (r, b) => if (s.keptBlock r b).isSome then s else s.blockExpanded r b
  | none => s

/-- A read touches the granule that a piece of a range translates to, and expands the weight block it is (R219, R262). -/
def State.touchPiece (s : State) (who t dva : Nat) : State :=
  match s.translate who t dva false with
  | .ok x =>
    if !x.tgt && x.addr / 2 ^ 50 == s.devNo && !inReserved (x.addr % 2 ^ 50) then
      (s.touchGranule (x.addr % 2 ^ 50 / 65536)).blockUse (x.addr % 2 ^ 50 / 65536)
    else s
  | .error _ => s

/-- What an engine's read of [dva, dva + len) that got `got` bytes does beside giving them: translations are cached, granules touched. -/
def State.readUse (s : State) (who t dva len got : Nat) : State :=
  let s := s.xlatRead who t dva len got
  s.each (List.range (if got = 0 then 0 else (dva + got - 1) / 65536 - dva / 65536 + 1)) fun s i =>
    s.touchPiece who t (if i = 0 then dva else 65536 * (dva / 65536 + i))

/-- Record a translation fault (R239, R251): tenant, DVA, reason, level, write, and the core or 0x3FF. -/
def State.xltFault (s : State) (t dva reason level : Nat) (write : Bool) (core : Nat) : State :=
  ((s.setReg R.xltLastFaultDva (BitVec.ofNat 64 dva)).setReg R.xltLastFaultInfo
    (BitVec.ofNat 64 (t % 16 + level % 8 * 16 + reason % 16 * 128 + b2n write * 2048 + core % 1024 * 4096))).count
    R.xltFaultTotal

/-! ## The home's checks (R229, R231, R263, R286, R302) -/

/-- Why an access is refused: a translation fault with its reason and level, the mark check, a drain, or another status that came
from the home. -/
inductive Refuse where
  | xlat (reason level : Nat)
  | key
  | revoked
  | other (status : Byte)
deriving DecidableEq, Repr

/-- Does a relief refuse writes to a pool offset (R356)? -/
def State.relieved (s : State) (o : Nat) : Bool :=
  s.ras.reliefs.any fun r => r.started && decide (r.first ≤ o / 2 ^ 30 ∧ o / 2 ^ 30 < r.first + r.count)

/-- Does the mark of an offset's extent refuse a tenant and key (R286)? -/
def State.markRefuses (s : State) (o t : Nat) (key : BitVec 24) : Bool :=
  let m := s.mark (o / 2 ^ 30)
  !m.valid || m.key != key || m.tenant.toNat != t

/-- What refuses an access at its home, in R303's order. `checked`: the requester is not a device's own function. -/
def State.homeRefuses (s : State) (o t : Nat) (key : BitVec 24) (write checked : Bool) : Option Refuse :=
  if s.capacity ≤ o then some (.xlat 8 7)
  else if checked && s.markRefuses o t key then some .key
  else if checked && (s.mark (o / 2 ^ 30)).drain then some .revoked
  else if write && s.relieved o then some .revoked
  else if write && s.inBook o 1 then some (.xlat 9 7)
  else
    match s.regionAt o with
    | none => none
    | some r =>
      if s.regionPending r || write || s.regionTenant r != t then some (.xlat 9 7) else none

/-! ## Reading and writing through a DVA -/

/-- A byte on its way, and whether it is poisoned (R56). -/
abbrev PByte := Byte × Bool

/-- The key of a gallery-cache line: gallery and FPA ÷ 64. -/
def cacheKey (gallery line : Nat) : Nat := gallery * 2 ^ 50 + line

/-- The bytes of [addr, …) that lie in a line. -/
def lineBytesOf (addr : Nat) (bs : List PByte) (line : Nat) : List PByte :=
  (bs.drop (64 * line - addr)).take (64 * line + 64 - max addr (64 * line))

/-- Join a line's bytes to the run before it when both are poisoned or neither is. -/
def joinRun (acc : List (Nat × List Byte × Bool)) (addr : Nat) (bs : List Byte) (bad : Bool) : List (Nat × List Byte × Bool) :=
  match acc with
  | (a, b, q) :: rest => if q = bad then (a, b ++ bs, q) :: rest else (addr, bs, bad) :: acc
  | [] => [(addr, bs, bad)]

/-- Bytes to be written from an address on, cut into runs of lines that are poisoned and runs of lines that are not (R56). -/
def poisonRuns (addr : Nat) (bs : List PByte) : List (Nat × List Byte × Bool) :=
  if !bs.any Prod.snd then [(addr, bs.map Prod.fst, false)]
  else
    ((linesOf addr bs.length).foldl (fun acc l =>
      joinRun acc (max addr (64 * l)) ((lineBytesOf addr bs l).map Prod.fst) ((lineBytesOf addr bs l).any Prod.snd)) []).reverse

/-- Write bytes to a host in posted writes (R56: a poisoned line goes in TLPs marked poisoned; log entry 26). -/
def State.hostWriteP (s : State) (port addr : Nat) (bs : List PByte) : State :=
  s.each (poisonRuns addr bs) fun s w =>
    s.emit (.hostWrite (BitVec.ofNat 2 port) (BitVec.ofNat 64 w.1) w.2.1 w.2.2)

/-- Bytes that came from [addr, …), of which the lines `bad`, counted from the first one's, came poisoned. -/
def withPoison (addr : Nat) (bs : List Byte) (bad : List Nat) : List PByte :=
  bs.mapIdx fun i b => (b, bad.contains ((addr + i) / 64 - addr / 64))

/-- One of the device's engines at work: its translation cache, its tenant, whether its accesses are checked against marks (R286),
whether its writes are coherent or non-snooped (R191), whether they serve a rotation clause (R83), and who waits for them. -/
structure Eng where
  cache : Nat
  tenant : Nat
  checked : Bool
  coherent : Bool
  rot : Bool
  who : Waiter
deriving DecidableEq, Repr

/-- One of the device's own functions: unchecked, coherent. -/
def Eng.func (cache tenant : Nat) (who : Waiter) : Eng := { cache, tenant, checked := false, coherent := true, rot := false, who }

/-- The pieces of [addr, addr + n) in aligned blocks of k bytes: address and length. -/
def piecesOf (k addr n : Nat) : List (Nat × Nat) :=
  if n = 0 then []
  else (List.range ((addr + n - 1) / k - addr / k + 1)).map fun i =>
    let lo := max addr (k * (addr / k + i))
    (lo, min (addr + n) (k * (addr / k + i) + k) - lo)

/-- The pieces of a range that one request each moves: up to four lines of one block, one line at a rack level below 0x11 (R275). -/
def State.blocksOf (s : State) (addr n : Nat) : List (Nat × Nat) := piecesOf (if s.rackLevel < 0x11 then 64 else 256) addr n

/-- Does a host in recall mode hold a line of this pool recorded (R316)? -/
def State.hostHas (s : State) (line : Nat) : Bool :=
  (List.range 4).any fun p => (s.port p).recalls && (lget (s.port p).hdir line).isSome

/-- Has an engine of the device a write of its own in flight to the block of a line of this pool? -/
def State.writing (s : State) (line : Nat) : Bool :=
  s.awaits fun q => q.op.writes && !q.req.tgt && q.req.addr.toNat / 256 == (s.devNo * 2 ^ 44 + line) / 4

/-- The lines of this pool that memory does not hold as a coherent read gives them: a transaction is open on them, a cache or a host has
them to itself, or a write of an engine is on its way (R288, R316). -/
def State.uncalm (s : State) : List Nat :=
  s.txns.flatMap (fun e => e.2.lines) ++ (s.dir.filter fun e => e.2.state == .e || e.2.state == .m).map Prod.fst
    ++ ((List.range 4).filter fun p => (s.port p).recalls).flatMap (fun p =>
      ((s.port p).hdir.filter fun e => e.2.exclusive).map Prod.fst)
    ++ s.engineReqs.flatMap fun q =>
      if q.op.writes && !q.req.tgt && q.req.addr.toNat / 2 ^ 50 == s.devNo then reqLines q.op q.req else []

/-- Those of a range. -/
def State.uncalmIn (s : State) (o n : Nat) : List Nat := s.uncalm.filter fun l => decide (o / 64 ≤ l ∧ 64 * l < o + n)

/-- May a line of this pool be written at once: nothing must be snooped, recalled, filled or waited for (R216, R288, R316)? -/
def State.calmWrite (s : State) (coherent : Bool) (line : Nat) : Bool :=
  s.served (line / 1024) && (s.txnOn line).isNone && (!coherent || (s.dirEntry line).state == .i) && !s.hostHas line && !s.writing line

/-- A request of an engine: for the line of an address, of this pool, another device's or an endpoint. -/
def State.engReq (s : State) (e : Eng) (tgt : Bool) (key : BitVec 24) (addr : Nat) : Req :=
  { nl := 0, rot := e.rot, src := if e.checked then s.ownEp else s.funcEp, agent := 0, tenant := BitVec.ofNat 4 e.tenant, tag := 0, tgt
    key := if tgt then BitVec.ofNat 24 (addr / 2 ^ 52) else key
    addr := BitVec.ofNat 64 (if tgt then addr % 2 ^ 52 / 64 * 64 else addr / 64 * 64)
    data := [], mask := 0, operand := 0, comparand := 0, poison := false }

/-- A line made of the bytes of [addr, …) that lie in it, and which of its bytes they are. -/
def placedLine (addr : Nat) (bs : List Byte) : Line × Word :=
  (BitVec.ofNat 512 (leNat bs * 2 ^ (8 * (addr % 64))), BitVec.ofNat 64 ((2 ^ bs.length - 1) * 2 ^ (addr % 64)))

/-- Send the write of a part of one block: whole lines as WR_C or WR_NS, part of a line as WR_CM, poisoned lines apart from the others
(R283; log entry 187). -/
def State.sendBlock (s : State) (e : Eng) (tgt : Bool) (key : BitVec 24) (addr dva : Nat) (bs : List PByte) : State :=
  let op : HomeOp := if e.coherent then .wrC else .wrNs
  let bad := bs.any Prod.snd
  if addr % 64 = 0 ∧ bs.length % 64 = 0 ∧ (!bad || bs.all Prod.snd) then
    s.engineReq { who := e.who, op, dva, bytes := bs.length, req := { s.engReq e tgt key addr with
      nl := BitVec.ofNat 2 (bs.length / 64 - 1), poison := bad
      data := (List.range (bs.length / 64)).map fun i => bytesLine (slice (bs.map Prod.fst) (64 * i) 64) } }
  else
    s.each (linesOf addr bs.length) fun s l =>
      let lo := max addr (64 * l)
      let part := lineBytesOf addr bs l
      let (line, mask) := placedLine lo (part.map Prod.fst)
      s.engineReq { who := e.who, op := if part.length = 64 then op else .wrCm, dva := dva + (lo - addr), bytes := part.length
                    req := { s.engReq e tgt key lo with poison := part.any Prod.snd, data := [line], mask } }

/-- Store bytes in this pool with their poison: a line that takes a poisoned byte is stored poisoned (R56, R342). -/
def State.poolWriteP (s : State) (o : Nat) (bs : List PByte) : State :=
  let s := s.poolWrite o (bs.map Prod.fst)
  s.each (linesOf o bs.length) fun s l => if (lineBytesOf o bs l).any Prod.snd then s.setPoison l true else s

/-- Write bytes to this pool for an engine: at once where nothing stands in the way, else by requests to the home (R288). -/
def State.putLocal (s : State) (e : Eng) (key : BitVec 24) (o dva : Nat) (bs : List PByte) : State :=
  if (linesOf o bs.length).all (s.calmWrite e.coherent) then s.poolWriteP o bs
  else
    s.each (s.blocksOf o bs.length) fun s b =>
      let part := (bs.drop (b.1 - o)).take b.2
      if (linesOf b.1 b.2).all (s.calmWrite e.coherent) then s.poolWriteP b.1 part
      else s.sendBlock e false key (s.fpaOf b.1) (dva + (b.1 - o)) part

/-- What a function of the device writes to its pool, coherently. -/
def State.putFunc (s : State) (who : Waiter) (o : Nat) (bs : List Byte) : State :=
  s.putLocal (Eng.func 0 0 who) 0 o o (bs.map (·, false))

/-- Write bytes to another device's pool or an endpoint. -/
def State.putRemote (s : State) (e : Eng) (tgt : Bool) (key : BitVec 24) (addr dva : Nat) (bs : List PByte) : State :=
  s.each (s.blocksOf addr bs.length) fun s b =>
    s.sendBlock e tgt key b.1 (dva + (b.1 - addr)) ((bs.drop (b.1 - addr)).take b.2)

/-- What an engine's read brought of a line. -/
def State.cameLine (s : State) (who : Waiter) (tgt : Bool) (line : Nat) : Option Came :=
  s.came.find? fun c => c.who == who && c.tgt == tgt && c.line == line

/-- The reason of a translation fault found at a home, from the reason code of its response: 9 in a weight region, else 8 (R231, R239;
log entry 194). -/
def homeReason (info : Word) : Nat := if info = 9 then 9 else 8

/-- The refusal a home's status is. -/
def statusRefuse (status : Byte) (reason : Nat) : Refuse :=
  if status = St.badDescriptor then .xlat reason 7
  else if status = St.keyMismatch then .key
  else if status = St.extentRevoked then .revoked
  else .other status

/-- What an engine's reads brought of [addr, addr + n), until a line that was refused. -/
def State.cameBytes (s : State) (who : Waiter) (tgt : Bool) (addr n : Nat) : List PByte × Option Refuse :=
  (linesOf addr n).foldl (fun (acc : List PByte × Option Refuse) l =>
    if acc.2.isSome then acc
    else
      let c := s.cameLine who tgt l
      let status := (c.map Came.status).getD St.done
      if status = St.done ∨ status = St.poisoned then
        let bs := (lineBytes ((c.map Came.data).getD 0)).map (·, status == St.poisoned)
        (acc.1 ++ (bs.drop (addr - 64 * l)).take (addr + n - max addr (64 * l)), none)
      else (acc.1, some (statusRefuse status ((c.map Came.reason).getD 8)))) ([], none)

/-- Read n bytes of this pool as a coherent read does (R189), once memory holds them (`State.uncalm`): expanded weights, else the
pool. -/
def State.readLocal (s : State) (o n : Nat) : List PByte :=
  match s.readThrough o n with
  | none => List.replicate n (0, true)
  | some bs => bs.mapIdx fun i b => (b, s.storedPoison ((o + i) / 64))

/-- The first line of a range that its home refuses: how many bytes come before it, and why. -/
def State.refusedFrom (s : State) (e : Eng) (key : BitVec 24) (write : Bool) (o n : Nat) : Option (Nat × Refuse) :=
  (linesOf o n).findSome? fun l =>
    (s.homeRefuses (max o (64 * l)) e.tenant key write e.checked).map fun why => (max o (64 * l) - o, why)

/-- What an engine's read still needs before memory and what came hold all of it. -/
inductive Need where
  | far (tgt : Bool) (key : BitVec 24) (addr len dva : Nat)
  | line (line : Nat)
  | fill (granule : Nat)
deriving DecidableEq, Repr

/-- What a read of n bytes of this pool still needs: granules in DRAM (R216), and lines in memory. -/
def State.localNeeds (s : State) (o n : Nat) : List Need :=
  ((granulesOf o n).filter fun g => !s.served g).map .fill ++ (s.uncalmIn o n).map .line

/-- What a read of [dva, dva + len) still needs, up to a piece that does not translate or is refused. -/
def State.needs (s : State) (e : Eng) : Nat → Nat → Nat → List Need
  | 0, _, _ => []
  | fuel + 1, dva, len =>
    if len = 0 then []
    else
      let n := pieceLen dva len
      match s.translate e.cache e.tenant dva false with
      | .error _ => []
      | .ok x =>
        if x.tgt ∨ x.addr / 2 ^ 50 ≠ s.devNo then
          ((s.blocksOf x.addr n).filter fun b => (linesOf b.1 b.2).any fun l => (s.cameLine e.who x.tgt l).isNone).map
            (fun b => .far x.tgt x.key b.1 b.2 (dva + (b.1 - x.addr)))
          ++ s.needs e fuel (dva + n) (len - n)
        else
          let o := x.addr % 2 ^ 50
          match s.refusedFrom e x.key false o n with
          | some (k, _) => s.localNeeds o k
          | none => s.localNeeds o n ++ s.needs e fuel (dva + n) (len - n)

/-- Ask for what a read needs: RD_NC for other devices and endpoints, and a recall of what caches or hosts hold (R288). -/
def State.ask (s : State) (e : Eng) (l : List Need) : State :=
  s.each l fun s n => match n with
    | .far tgt key addr len dva =>
      let r := s.engReq e tgt key addr
      let lines := linesOf addr len
      if s.awaits fun q => q.who == e.who && q.op == .rdNc && q.req.tgt == tgt && (reqLines q.op q.req).contains (reqLine r) && q.req.key == r.key then s
      else s.engineReq { who := e.who, op := .rdNc, dva, bytes := 0, req := { r with nl := BitVec.ofNat 2 (lines.length - 1) } }
    | .fill g => s.demand g false e.who.user
    | .line l => if (s.txnOn l).isSome ∨ s.net.any (fun p => p.msg == .recall l) then s else s.post (.recall l)

/-- Ask for the lines of a range of this pool that memory does not hold. -/
def State.askLocal (s : State) (o n : Nat) : State :=
  s.ask (Eng.func 0 0 .nobody) (s.localNeeds o n)

/-- Read [dva, dva + len) of a tenant for an engine, by its translation cache, piece by piece, until it is refused; it needs nothing
more (`State.needs`). The fuel is the number of pieces. -/
def State.gather (s : State) (e : Eng) : Nat → Nat → Nat → List PByte × Option (Nat × Refuse)
  | 0, _, _ => ([], none)
  | fuel + 1, dva, len =>
    if len = 0 then ([], none)
    else
      let n := pieceLen dva len
      match s.translate e.cache e.tenant dva false with
      | .error (r, l) => ([], some (dva, .xlat r l))
      | .ok x =>
        let (bs, why) : List PByte × Option Refuse :=
          if x.tgt ∨ x.addr / 2 ^ 50 ≠ s.devNo then s.cameBytes e.who x.tgt x.addr n
          else
            match s.refusedFrom e x.key false (x.addr % 2 ^ 50) n with
            | some (k, why) => (s.readLocal (x.addr % 2 ^ 50) k, some why)
            | none => (s.readLocal (x.addr % 2 ^ 50) n, none)
        match why with
        | some why => (bs, some (dva + bs.length, why))
        | none =>
          let (rest, err) := s.gather e fuel (dva + n) (len - n)
          (bs ++ rest, err)

/-- Write bytes to [dva, …) of a tenant for an engine, whose cache loads what it translates, piece by piece, until a piece is refused: the state, the bytes written, and
the refusal. What goes to another device, to an endpoint or to lines that others hold is written by requests, whose answers are
awaited. -/
def State.scatter (e : Eng) : Nat → State → Nat → List PByte → State × Nat × Option (Nat × Refuse)
  | 0, s, _, _ => (s, 0, none)
  | fuel + 1, s, dva, bs =>
    match bs with
    | [] => (s, 0, none)
    | _ =>
      let n := pieceLen dva bs.length
      let now := bs.take n
      match s.translate e.cache e.tenant dva true with
      | .error (r, l) => (s.xlatUse e.cache e.tenant dva, 0, some (dva, .xlat r l))
      | .ok x =>
        let s := s.xlatUse e.cache e.tenant dva
        if x.tgt ∨ x.addr / 2 ^ 50 ≠ s.devNo then
          let (s, k, err) := State.scatter e fuel (s.putRemote e x.tgt x.key x.addr dva now) (dva + n) (bs.drop n)
          (s, n + k, err)
        else
          let o := x.addr % 2 ^ 50
          match s.refusedFrom e x.key true o n with
          | some (k, why) => (s.putLocal e x.key o dva (now.take k), k, some (dva + k, why))
          | none =>
            let (s, k, err) := State.scatter e fuel (s.putLocal e x.key o dva now) (dva + n) (bs.drop n)
            (s, n + k, err)

/-- The first piece of a range that does not translate without a fault (R34, R72). -/
def State.rangeFault (s : State) (who t : Nat) (write : Bool) : Nat → Nat → Nat → Option (Nat × Nat × Nat)
  | 0, _, _ => none
  | fuel + 1, dva, len =>
    if len = 0 then none
    else
      match s.translate who t dva write with
      | .error (r, l) => some (dva, r, l)
      | .ok x =>
        if !x.tgt && x.addr / 2 ^ 50 == s.devNo && decide (s.capacity ≤ x.addr % 2 ^ 50) then some (dva, 8, 7)
        else s.rangeFault who t write fuel (dva + pieceLen dva len) (len - pieceLen dva len)

/-- The granules of this pool that a DVA range translates to. -/
def State.rangeGranules (s : State) (who t : Nat) : Nat → Nat → Nat → List Nat
  | 0, _, _ => []
  | fuel + 1, dva, len =>
    if len = 0 then []
    else
      let n := pieceLen dva len
      (match s.translate who t dva false with
        | .ok x => if !x.tgt && x.addr / 2 ^ 50 == s.devNo then granulesOf (x.addr % 2 ^ 50) n else []
        | .error _ => [])
      ++ s.rangeGranules who t fuel (dva + n) (len - n)

/-- Record the translation fault of a refusal, if it is one (R239: engines other than cores report 0x3FF). -/
def State.noteRefusal (s : State) (t : Nat) (write : Bool) (core : Nat) (dva : Nat) : Refuse → State
  | .xlat r l => s.xltFault t dva r l write core
  | _ => s

/-- The completion a refusal gives a DMA transfer or another descriptor's access (R56). -/
def Refuse.cpl (offset : Nat) : Refuse → Cpl
  | .xlat _ _ => Cpl.bad offset 6
  | .key => Cpl.of St.keyMismatch
  | .revoked => Cpl.of St.extentRevoked
  | .other status => Cpl.of status

/-- The record of an engine's read of [dva, dva + len) of a tenant that met poison: of the first poisoned line. -/
def State.poisonedRead (s : State) (who t dva len : Nat) : State :=
  let off : Option Nat := (List.range (len / 64 + 2)).findSome? fun i =>
    match s.translate who t (dva / 64 * 64 + 64 * i) false with
    | .ok x =>
      if !x.tgt && x.addr / 2 ^ 50 == s.devNo && s.storedPoison (x.addr % 2 ^ 50 / 64) then some (x.addr % 2 ^ 50) else none
    | .error _ => none
  match off with
  | some o => s.poisonError o (some (BitVec.ofNat 4 t))
  | none => s

/-! ## The table context (R157) -/

def tcTable (c : Line) : Nat := fld c 0 12
def tcTenant (c : Line) : Nat := fld c 12 4
/-- n, the elements of a row. -/
def tcElems (c : Line) : Nat := 16 * (fld c 16 8 + 1)
def tcInt4 (c : Line) : Bool := bit c 24
def tcOpt (c : Line) : Nat := fld c 25 2
def tcWide (c : Line) : Bool := bit c 27
def tcStochastic (c : Line) : Bool := bit c 28
def tcFrac (c : Line) : Nat := fld c 32 6
def tcFirst (c : Line) : Nat := fld c 64 32
def tcCount (c : Line) : Nat := fld c 96 33
def tcStep (c : Line) : BitVec 32 := BitVec.ofNat 32 (fld c 160 32)

/-- A reserved encoding or non-zero reserved field, or a COUNT the row space cannot hold. -/
def tcBad (c : Line) : Bool :=
  decide (fld c 29 3 ≠ 0 ∨ fld c 38 2 ≠ 0 ∨ fld c 41 23 ≠ 0 ∨ fld c 129 31 ≠ 0 ∨ fld c 448 64 ≠ 0)
  || ((tcOpt c == 0 || tcOpt c == 3) && tcWide c) || decide (tcCount c = 0 ∨ 2 ^ 32 < tcFirst c + tcCount c)

/-! ## Rows (R160) -/

/-- Bytes of the codes, of the optimiser state, and of a row. -/
def codeBytes (c : Line) : Nat := if tcInt4 c then tcElems c / 2 else tcElems c

/-- The state values of a row: how many, and whether each is fp16. -/
def stateShape (c : Line) : Nat × Bool :=
  match tcOpt c with
  | 1 => (tcElems c, !tcWide c)
  | 2 => (if tcWide c then tcElems c else 1, false)
  | 3 => (2 * tcElems c, true)
  | _ => (0, false)

def stateBytes (c : Line) : Nat := (stateShape c).1 * (if (stateShape c).2 then 2 else 4)

def rowStride (c : Line) : Nat := ceilDiv (4 + codeBytes c + stateBytes c) 64 * 64

/-- Bytes of a step-buffer entry (R170). -/
def entryBytes (c : Line) : Nat := 64 + 12 * tcElems c + rowStride c

/-- Frames of a slice's storage (R158). -/
def tableFrameCount (c : Line) : Nat := ceilDiv (tcCount c * rowStride c) 65536

end Sys2Proof.Machine
end

