-- ==== Sys2Proof/Machine/Flags.lean ====
section
/-! DEFINITION. Flags and codes the device computes: PHASE, SECTOR, the ring's doorbell state, and the state codes of
registers and records. -/

namespace Sys2Proof.Machine

/-- PHASE of a record at a counter value in a ring of n places (R43): 1 when the counter ÷ n is even. -/
def phaseBit (count n : Nat) : Bool := count / n % 2 == 0

def RingState.code : RingState → Nat
  | .disabled => 0
  | .active => 1
  | .stopping => 2
  | .stopped => 3
  | .error => 4

/-- DB_STATE.OUTSTANDING (R37): fetched descriptors of a ring in ERROR or STOPPING have not all completed. -/
def Ring.outstanding (r : Ring) : Bool := (r.state == .error || r.state == .stopping) && !r.flights.isEmpty

/-- DB_STATE (R37). -/
def Ring.dbState (r : Ring) : Nat :=
  r.state.code + b2n r.outstanding * 16 + r.cause.toNat * 256 + r.dropped.toNat * 65536

def SesState.code : SesState → Nat
  | .free => 0
  | .live => 1
  | .idle => 2
  | .waking => 3
  | .handoff => 4
  | .lost => 5

def HPhase.code : HPhase → Nat
  | .none => 0
  | .offered => 1
  | .granted => 2
  | .committed => 3

def Align.code : Align → Nat
  | .halted => 0
  | .aligned => 1
  | .holdover => 2
  | .free => 3
  | .realigning => 4

def CohState.code : CohState → Nat
  | .i => 0
  | .s => 1
  | .e => 2
  | .m => 3

def Variant.code : Variant → Nat
  | .s8i2 => 0
  | .s6i2 => 1
  | .s4i1 => 2

/-- The 32 bytes of a completion record as a number (R42). -/
def recordNat (tag : Nat) (c : Cpl) (sector sqHead ring : Nat) (phase : Bool) : Nat :=
  tag % 2 ^ 32 + c.status.toNat * 2 ^ 32 + sector * 2 ^ 40 + c.detail.toNat * 2 ^ 42
  + c.result0.toNat * 2 ^ 64 + c.result1.toNat * 2 ^ 128
  + (sqHead % 2 ^ 32 + ring % 4096 * 2 ^ 32 + b2n phase * 2 ^ 63) * 2 ^ 192

/-- May a record or interrupt of a host-stored ring be written through a port? Not while the port is in reset or its
Bus Master Enable is 0 (R58, R374). -/
def HostPort.writable (p : HostPort) : Bool := !p.perst && p.busMaster

end Sys2Proof.Machine
end

