-- ==== Sys2Proof/Machine/Records.lean ====
section
/-! DEFINITION. Completion records, ring interrupts, rings in error and rings that stop (R42 to R45, R49, R57, R58). -/

namespace Sys2Proof.Machine

/-! ## Results of SESS records (R109) -/

def sidHandle (id : Nat) : Nat := id % 2 ^ 20
def sidGen (id : Nat) : Nat := id / 2 ^ 20

/-- The completion of a SESS descriptor: status, cause, the session it names or made, and a layer for COUNT. Of a session that this
device does not know nothing but the ID is given (log entry 199). -/
def State.sesCpl (s : State) (status : Byte) (cause sid : Nat) (layer : Option Nat) : Cpl :=
  let x := s.session (sidHandle sid)
  let known := decide (x.gen.toNat = sidGen sid ∧ x.state ≠ .free)
  let count := match layer with
    | some l => tget (fun _ => 0) x.counts l
    | none => x.pub.toNat
  { status, detail := BitVec.ofNat 22 cause
    result0 := BitVec.ofNat 64 (sid + (if known then x.version.toNat * 2 ^ 32 else 0))
    result1 := BitVec.ofNat 64 (if known then count % 2 ^ 21 + x.state.code * 2 ^ 21 + x.epoch.toNat * 2 ^ 32 else 0) }

/-- The results of a SESS descriptor's record, where its completion brings none of its own: of the session it names; CREATE names none
(log entry 199), and ACCEPT one of another pool. -/
def State.sesFill (s : State) (d : Line) (c : Cpl) : Cpl :=
  if c.result0 ≠ 0 ∨ c.result1 ≠ 0 then c
  else if dOpcode d = 1 then { c with result0 := 0xFFFFFFFF }
  else if dOpcode d = 8 then { c with result0 := BitVec.ofNat 64 (dNum d 28 4) }
  else
    let r := s.sesCpl c.status 0 (dNum d 8 4) (if dOpcode d = 2 then some (fld d 192 16) else none)
    { c with result0 := r.result0, result1 := r.result1 }

/-- A ring enters ERROR (R38, R58): fetching ends, the first cause stays, and an advisory CODE 19 record is written.
What becomes of its descriptors is `State.settle`'s. -/
def State.ringError (s : State) (r cause : Nat) : State :=
  let x := s.ring r
  if x.state = .disabled ∨ x.state = .error then s
  else
    (s.setRing r { x with state := .error, cause := BitVec.ofNat 8 cause, fetching := 0 }).record
      { ErrRec.plain 1 7 x.hport 19 with addr := r + cause * 4096, tenant := some (BitVec.ofNat 4 x.tenant) }

/-- Raise a ring's vector: every record visible now counts as signalled (R49). -/
def State.ringSignal (s : State) (r : Nat) : State :=
  let x := s.ring r
  (s.setRing r { x with unsignalled := 0, coal := false }).msix x.hport x.vector

/-- What a record that became visible does for interrupts (R49). -/
def State.ringVisible (s : State) (r : Nat) (int : Bool) : State :=
  let x := s.ring r
  if !x.intEn then s
  else
    let n := x.unsignalled + 1
    let s := s.setRing r { x with unsignalled := n, coal := x.coal || decide (x.coalTime ≠ 0) }
    if int ∨ (x.coalCount ≠ 0 ∧ x.coalCount ≤ n) then s.ringSignal r else s

/-- Has another home still to acknowledge the record at a place of a completion ring? -/
def State.recordSent (s : State) (r : Nat) (place : BitVec 32) : Bool :=
  s.awaits fun q => q.who == .record (BitVec.ofNat 12 r) place

/-- The writes of a ring's records are acknowledged: each is visible, in the order it was written (log entry 186). -/
def State.ringShown (s : State) (r : Nat) : State :=
  let l := (s.ring r).fresh.takeWhile fun e => !s.recordSent r e.1
  (s.updRing r fun x => { x with fresh := x.fresh.drop l.length }).each l fun s e => s.ringVisible r e.2

/-- The write of a ring's record fails: the record at a place is dropped, is counted and raises no interrupt (R38, R58). -/
def State.dropRecord (s : State) (r : Nat) (place : BitVec 32) : State :=
  let x := s.ring r
  (s.setRing r { x with
    fresh := dropIf (fun e => e.1 == place) x.fresh
    dropped := if x.dropped = 0xFFFF then x.dropped else x.dropped + 1 }).ringError r 3

/-- Write one completion record at CQ tail, or drop it where the storage cannot be written (R43, R58); CQ tail advances
either way. -/
def State.deliver (s : State) (r : Nat) (f : Flight) (c : Cpl) : State :=
  let x := s.ring r
  let c := if x.kind = .sess then s.sesFill f.desc c else c
  let n := recordNat (dTag f.desc) c (s.sector x.hport) x.sqHead.toNat r (phaseBit x.cqTail.toNat x.entries)
  let addr := x.cqBase + 32 * (x.cqTail.toNat % x.entries)
  let s := if x.kind = .dma then
      let s := s.count R.dmaDescTotal
      if c.status = St.done then s else s.count R.dmaErrTotal
    else s
  let advance (s : State) : State := s.updRing r fun x => { x with cqTail := x.cqTail + 1 }
  let written (s : State) : State := (advance s).updRing r fun y => { y with fresh := y.fresh ++ [(x.cqTail, dInt f.desc)] }
  let drop (s : State) : State :=
    (advance s).updRing r fun x => { x with dropped := if x.dropped = 0xFFFF then x.dropped else x.dropped + 1 }
  if x.inPool then
    let (s1, k, e) := State.scatter (Eng.func (s.frontCache r) x.tenant (.record (BitVec.ofNat 12 r) x.cqTail)) 3 s addr
      ((leBytes 32 n).map (·, false))
    match e with
    | some (dva, why) => ((drop s1).noteRefusal x.tenant true 0x3FF dva why).ringError r 3
    | none => if k = 32 then written s1 else drop s1
  else if (s.port x.hport).writable then
    (written s).hostWriteP x.hport addr ((leBytes 32 n).map (·, false))
  else drop s

def Stage.busy : Stage → Bool
  | .running => true
  | .bound => true
  | .landing _ => true
  | _ => false

def Stage.result? : Stage → Option Cpl
  | .ended c => some c
  | _ => none

/-- Is a descriptor's completion still open? -/
def Stage.open_ : Stage → Bool
  | .ended _ => false
  | .landing _ => false
  | _ => true

/-- Write the records of ended descriptors: on a DMA ring only those with no earlier one still open (R44, R54). The fuel
is the number of descriptors in hand. -/
def State.flushEnded (r : Nat) : Nat → State → State
  | 0, s => s
  | k + 1, s =>
    let x := s.ring r
    let next : Option Flight :=
      if x.kind = .dma then x.flights.head? else x.flights.find? fun f => f.stage.result?.isSome
    match next with
    | none => s
    | some f =>
      match f.stage.result? with
      | none => s
      | some c =>
        let s := s.updRing r fun x => { x with flights := dropIf (fun g => g.pos == f.pos) x.flights }
        State.flushEnded r k (s.deliver r f c)

/-- Bring a ring's records up to date: ended descriptors get theirs; in STOPPING and ERROR, once nothing is in
progress, what was not started completes STOPPED in ring order and STOPPING becomes STOPPED (R57, R58). Records of a partition that
is SWITCHING wait for the switch (R339). -/
def State.settle (s : State) (r : Nat) : State :=
  if (s.part (s.ring r).tenant).switching then s else
  let s := State.flushEnded r (s.ring r).flights.length s
  let x := s.ring r
  if (x.state = .stopping ∨ x.state = .error) ∧ !(x.flights.any fun f => f.stage.busy) then
    let s := s.setRing r { x with flights := x.flights.map fun f =>
      if f.stage.result?.isSome then f else { f with stage := .ended (Cpl.of St.stopped) } }
    let s := State.flushEnded r x.flights.length s
    s.updRing r fun x => if x.state = .stopping then { x with state := .stopped } else x
  else s

/-- A descriptor in hand. -/
def State.flight (s : State) (r pos : Nat) : Option Flight := (s.ring r).flights.find? fun f => f.pos.toNat == pos

/-- Update a descriptor in hand. -/
def State.setFlight (s : State) (r pos : Nat) (g : Flight → Flight) : State :=
  s.updRing r fun x => { x with flights := mapIf (fun f => f.pos.toNat == pos) g x.flights }

/-- Replace a descriptor's stage. -/
def State.setStage (s : State) (r pos : Nat) (st : Stage) : State :=
  s.updRing r fun x => { x with flights := mapIf (fun f => f.pos.toNat == pos) (fun f => { f with stage := st }) x.flights }

/-- A descriptor's stage becomes its completion, once every home has acknowledged what it wrote; the first completion stands. -/
def State.endStage (s : State) (r pos : Nat) (c : Cpl) : State :=
  let st : Stage := if s.sentFor r pos then .landing c else .ended c
  let s := s.dropCame (Waiter.isFlight r pos)
  s.updRing r fun x => { x with flights := mapIf (fun f => f.pos.toNat == pos && f.stage.open_) (fun f => { f with stage := st }) x.flights }

/-- A descriptor completes. -/
def State.finish (s : State) (r pos : Nat) (c : Cpl) : State := (s.endStage r pos c).settle r

/-- A descriptor whose writes have all been acknowledged has completed. -/
def State.landed (s : State) (r pos : Nat) : State :=
  if s.sentFor r pos then s
  else
    let land (f : Flight) : Flight := match f.stage with
      | .landing c => { f with stage := .ended c }
      | _ => f
    (s.updRing r fun x => { x with flights := mapIf (fun f => f.pos.toNat == pos) land x.flights }).settle r

/-- May a descriptor start now? It is fetched and not started, its ring is ACTIVE, and with FENCE, or on an XINV ring,
every earlier one has completed (R40, R246). -/
def State.mayStart (s : State) (r pos : Nat) (k : RingKind) : Option Flight :=
  let x := s.ring r
  if x.state ≠ .active ∨ x.kind ≠ k then none
  else
    match s.flight r pos with
    | none => none
    | some f =>
      let first := match x.flights.head? with
        | some g => g.pos == f.pos
        | none => false
      if f.stage ≠ .queued ∨ ((dFence f.desc ∨ k = .xinv) ∧ !first) then none else some f

/-- Every ring that is not DISABLED, by number. -/
def State.openRings (s : State) : List Nat := (s.rings.filter fun e => e.2.state != .disabled).map Prod.fst

end Sys2Proof.Machine
end

