-- ==== Sys2Proof/Machine/SessBase.lean ====
section
/-! DEFINITION. The session store beneath its commands: shard sets, the arena and its frames, maps, pages and their
CRCs, touches and wakes (R94 to R105, R120 to R125). -/

namespace Sys2Proof.Machine

/-! ## Session IDs and shard sets (R94, R95) -/

/-- The session ID of an entry. -/
def State.sidOf (s : State) (h : Nat) : Nat := h + (s.session h).gen.toNat * 2 ^ 20

def State.setMask (s : State) : Word := s.reg R.sesSetMask

/-- The number of members of this device's shard set; a mask of 0 is a set of this device (log entry 28). -/
def State.setSize (s : State) : Nat := max 1 (popBelow s.setMask 64)

def State.setIndex (s : State) : Nat := popBelow s.setMask s.devNo

/-- The home of a handle (R94). -/
def State.homeDev (s : State) (h : Nat) : Nat := (maskList s.setMask).getD (h % s.setSize) s.devNo

def State.isHome (s : State) (h : Nat) : Bool := s.homeDev h == s.devNo

/-- The members of the set but this device. -/
def State.others (s : State) : Word := maskDrop s.setMask s.devNo

/-! ## Geometry (R99, R103, R104) -/

def Session.dim (x : Session) : Nat := 64 * (x.hdim.toNat + 1)
def Session.heads (x : Session) : Nat := x.kvh.toNat + 1

/-- Bytes of a row of dimension d (R104). -/
def rowBytes (kvfmt d : Nat) : Nat := if kvfmt = 3 then 2 * d else if kvfmt = 2 then 9 * d / 16 else d

def Session.row (x : Session) : Nat := rowBytes x.kvfmt.toNat x.dim

/-- Frames in a page. -/
def Session.span (x : Session) : Nat := ceilDiv (x.heads * 512 * x.row) 65536

/-- The place of a row in a page: head, K (0) or V (1), position in the page. -/
def Session.rowAt (x : Session) (head kv q : Nat) : Nat := (2 * head + kv) * 256 * x.row + q * x.row

/-- N_l. -/
def Session.count (x : Session) (l : Nat) : Nat := tget (fun _ => 0) x.counts l

def Session.setCount (x : Session) (l n : Nat) : Session := { x with counts := tput (fun _ => 0) x.counts l n }

/-- N, the least N_l (R112). -/
def Session.tokens (x : Session) : Nat :=
  (List.range x.nLayers).foldl (fun a l => min a (x.count l)) (x.count 0)

/-- Every N_l at n (R119). -/
def Session.allCounts (x : Session) (n : Nat) : Tbl Nat := (List.range x.nLayers).foldl (fun t l => tput (fun _ => 0) t l n) []

/-- What an entry tells another device (R99). -/
def Session.info (x : Session) : EntryInfo :=
  { lost := x.state == .lost, version := x.version, pub := x.pub, tenant := x.tenant, kvfmt := x.kvfmt, layers := x.layers, hdim := x.hdim, kvh := x.kvh
    epoch := x.epoch, view := x.view, parent := x.parent, parentVersion := x.parentVersion, remote := x.remote, peer := x.peer
    peerId := x.peerId, peerMask := x.peerMask }

/-- The leaf of a page group, 0 for none. -/
def Session.leafOf (x : Session) (l p : Nat) : Nat := tget (fun _ => 0) x.root (8 * l + p / 512)

def Session.setLeafOf (x : Session) (l p u : Nat) : Session :=
  { x with root := tput (fun _ => 0) x.root (8 * l + p / 512) u }

def Leaf.page (x : Leaf) (p : Nat) : Nat := tget (fun _ => 0) x.pages (p % 512)

def Leaf.setPage (x : Leaf) (p f : Nat) : Leaf := { x with pages := tput (fun _ => 0) x.pages (p % 512) f }

/-- The first frame of page p of a layer (R103). -/
def State.pageOf (s : State) (x : Session) (l p : Nat) : Option Nat :=
  let u := x.leafOf l p
  if u = 0 then none
  else
    let f := (s.leaf u).page p
    if f = 0 then none else some f

/-! ## CRC-32C (R105) -/

def crcBit (c : Nat) : Nat := if c % 2 = 1 then (c / 2) ^^^ 0x82F63B78 else c / 2

def crcByte (c : Nat) (b : Byte) : Nat :=
  crcBit (crcBit (crcBit (crcBit (crcBit (crcBit (crcBit (crcBit (c ^^^ b.toNat))))))))

/-- CRC-32C of a byte string. -/
def crc32c (bs : List Byte) : BitVec 32 := BitVec.ofNat 32 ((bs.foldl crcByte 0xFFFFFFFF) ^^^ 0xFFFFFFFF)

def Frame.crcOf (x : Frame) (chunk : Nat) : BitVec 32 := tget (fun _ => zeroCrc) x.crc chunk

/-- Bring the CRC fields of every 4 KiB that [o, o + n) touches up to date. -/
def State.recrc (s : State) (o n : Nat) : State :=
  s.each ((List.range (if n = 0 then 0 else (o + n - 1) / 4096 - o / 4096 + 1)).map (o / 4096 + ·)) fun s c =>
    s.updFrame (c / 16) fun x =>
      { x with crc := tput (fun _ => zeroCrc) x.crc (c % 16) (crc32c (s.poolRead (4096 * c) 4096)) }

/-- The first 4 KiB chunk of [o, o + n) whose CRC does not agree with what it holds. -/
def State.badChunk (s : State) (o n : Nat) : Option Nat :=
  ((List.range (if n = 0 then 0 else (o + n - 1) / 4096 - o / 4096 + 1)).map (o / 4096 + ·)).find? fun c =>
    (s.frame (c / 16)).crcOf (c % 16) != crc32c (s.poolRead (4096 * c) 4096)

/-- The contained record of a CRC mismatch in a KV page (R105, R346). -/
def State.crcError (s : State) (chunk : Nat) (t : Tenant) : State :=
  s.record { ErrRec.plain 3 8 (s.homeDie (chunk / 16)) 3 with
    status := St.poisoned, tenant := some t, addr := s.fpaOf (4096 * chunk) }

/-- Write part of a page for a waiter: contents, CRCs, and the page's LAST_TOUCH. What others hold copies of is written at the home, and
its CRCs with it (`State.homeWrite`). -/
def State.writePage (s : State) (who : Waiter) (page at_ : Nat) (bs : List Byte) : State :=
  let s := (s.putFunc who (65536 * page + at_) bs).recrc (65536 * page + at_) bs.length
  s.updFrame page fun x => { x with touch := s.rotNo }

/-! ## The arena (R100 to R102) -/

/-- Has another partition a claim on a granule: its arena or its marked extents? No operation of one partition alters another's data
(R11). -/
def State.othersOwn (s : State) (t g : Nat) : Bool :=
  ((List.range 16).any fun u => u != t && decide (s.arenaFirst u ≤ g ∧ g < s.arenaFirst u + s.arenaFrames u))
    || ((s.mark (g / 16384)).valid && (s.mark (g / 16384)).tenant.toNat != t)

/-- The lowest-addressed free run of `span` frames (R102) on which no other partition has a claim. -/
def State.findRun (s : State) (t span : Nat) : Option Nat :=
  let lo := s.arenaFirst t + s.tableFrames t
  let n := s.arenaFrames t - s.tableFrames t
  if n < span then none
  else
    ((List.range (n - span + 1)).map (lo + ·)).find? fun f =>
      (List.range span).all fun i => (s.frame (f + i)).type == .free && !s.othersOwn t (f + i)

/-- The lines of a granule that caches or hosts hold copies of, or that are on their way. -/
def State.sharedLines (s : State) (g : Nat) : List Nat :=
  let near (l : Nat) : Bool := l / 1024 == g
  ((s.uncalmIn (65536 * g) 65536) ++ (s.dir.map Prod.fst).filter near
    ++ (List.range 4).flatMap fun p => if (s.port p).recalls then ((s.port p).hdir.map Prod.fst).filter near else []).eraseDups

/-- Zero a frame (R105, R158): the copies that others hold of its lines go with it. -/
def State.zeroFrame (s : State) (g : Nat) : State :=
  let l := s.sharedLines g
  (s.zeroGranule g).each l fun s l => s.putFunc .nobody (64 * l) (List.replicate 64 0)

/-- Allocate a page of `span` frames, zeroed, its CRC fields set for zero data (R102, R105). -/
def State.allocPage (s : State) (t span : Nat) (sid : Nat) : Option (State × Nat) :=
  match s.findRun t span with
  | none => none
  | some f =>
    let s := s.each (List.range span) fun s i =>
      (s.zeroFrame (f + i)).setFrame (f + i)
        { Frame.free with
          type := if i = 0 then .kvFirst else .kvCont
          appender := if i = 0 then BitVec.ofNat 32 sid else 0
          span := if i = 0 then span else 0
          touch := s.rotNo }
    some (s, f)

/-- Is a unit of a MAP frame free? -/
def Frame.unitFree (x : Frame) (i : Nat) : Bool := tget (fun _ => 0) x.units i == 0

def State.setUnit (s : State) (u n : Nat) : State :=
  s.updFrame (u / 16) fun x => { x with units := tput (fun _ => 0) x.units (u % 16) n }

/-- Allocate n contiguous units of one MAP frame, taking a new MAP frame when none has room (R102, R103); a MAP frame is
DRAM-held (R220). The unit number is the pool offset ÷ 4,096. -/
def State.allocUnits (s : State) (t n : Nat) : Option (State × Nat) :=
  let frames := (List.range (s.arenaFrames t)).map (s.arenaFirst t + ·)
  let place : Option Nat := frames.findSome? fun f =>
    if (s.frame f).type = .map then
      (((List.range 17).filter fun i => decide (i + n ≤ 16)).find? fun i =>
        (List.range n).all fun j => (s.frame f).unitFree (i + j)).map (16 * f + ·)
    else none
  let take (s : State) (u : Nat) : State := s.each (List.range n) fun s j => s.setUnit (u + j) 1
  match place with
  | some u => some (take s u, u)
  | none =>
    match s.findRun t 1 with
    | none => none
    | some f =>
      if s.dramFails 1 then none
      else
        let s := ((s.zeroFrame f).setFrame f { Frame.free with type := .map }).holdDram f
        some (take s (16 * f), 16 * f)

/-- Set a leaf's count, in the leaf and in its unit (R101, R103). -/
def State.setLeafCount (s : State) (u n : Nat) : State :=
  (s.setLeaf u (if n = 0 then Leaf.none else { s.leaf u with count := n })).setUnit u n

/-- A page loses one reference; at 0 its frames await reclamation (R121). -/
def State.dropPageRef (s : State) (f : Nat) : State :=
  let x := s.frame f
  let s := s.setFrame f { x with refs := x.refs - 1 }
  if x.refs ≤ 1 then { s with reclaims := s.reclaims ++ [{ page := f, span := x.span }] } else s

def State.addPageRef (s : State) (f : Nat) : State := s.updFrame f fun x => { x with refs := x.refs + 1 }

/-- Begin reclamation of what an entry held (R121). -/
def State.reclaimEntry (s : State) (x : Session) : State :=
  let s := s.each (List.range x.rootUnits) fun s j => s.setUnit (x.mapRoot.toNat + j) 0
  s.each x.root fun s e =>
    let lf := s.leaf e.2
    if lf.count ≤ 1 then (s.each lf.pages fun s p => s.dropPageRef p.2).setLeafCount e.2 0
    else s.setLeafCount e.2 (lf.count - 1)

/-! ## Entries -/

/-- Count the entry's entering LOST and record it (R357). -/
def State.loseSession (s : State) (h : Nat) : State :=
  let x := s.session h
  if x.state = .free ∨ x.state = .lost then s
  else
    let s := (s.setSession h { x with state := .lost, hphase := .none }).count R.sesLostTotal
    s.record { ErrRec.plain 3 8 (s.homeDie ((reservedBase + 64 * h) / 65536)) 12 with
      status := St.lost, tenant := some x.tenant, addr := s.sessionFpa h }

/-- The session a query or append names, its layer, and whether a bound item holds that layer (R139). -/
def attnSession (d : Line) : Nat := dNum d 8 4
def attnLayer (d : Line) : Nat := dNum d 16 2
def attnAppend (d : Line) : Bool := dFlag d 12

/-- The descriptor of a bound item. -/
def State.itemDesc (s : State) (it : Item) : Line :=
  match s.flight it.ring.toNat it.pos.toNat with
  | some f => f.desc
  | none => 0

def State.layerHeld (s : State) (sid l : Nat) : Bool :=
  s.rot.items.any fun e =>
    e.2.kind == .attn &&
      let d := s.itemDesc e.2
      attnAppend d && attnSession d == sid && attnLayer d == l

/-- End bound ATTN items of a session at the close with NOT_OWNER (R139): every one for a DISCARD (cause 0), those with
APPEND for an OFFER (cause 3). -/
def State.endItemsOf (s : State) (sid cause : Nat) (appendOnly : Bool) : State :=
  { s with rot := { s.rot with items := s.rot.items.map fun e =>
      let d := s.itemDesc e.2
      if e.2.kind == .attn && attnSession d == sid && (!appendOnly || attnAppend d) && e.2.fault.isNone then
        (e.1, { e.2 with fault := some (Cpl.why St.notOwner cause) })
      else e } }

/-- An entry becomes FREE with its next generation (R96, R121); what it held is reclaimed from `discarded`, and what was being pulled
for it is no longer awaited. -/
def State.freeEntry (s : State) (h : Nat) : State :=
  let x := s.session h
  let sid := s.sidOf h
  if x.state = .free then s
  else
    let s := s.endItemsOf sid 0 false
    { s.setSession h { Session.none with gen := BitVec.ofNat 12 ((x.gen.toNat + 1) % 4095) } with
      discarded := s.discarded ++ [{ handle := h, entry := x, at_ := s.time }]
      pulls := dropIf (fun e => e.1 == sid) s.pulls, receiving := dropIf (fun e => e.1 == sid) s.receiving }

/-! ## The session cache (R98) -/

/-- The handles of the sessions that bound items hold: their entries are pinned in the cache. -/
def State.pinnedHandles (s : State) : List Nat :=
  (s.rot.items.filter fun e => e.2.kind == .attn).map fun e => sidHandle (attnSession (s.itemDesc e.2))

/-- An entry is needed: one that is not cached is loaded, and a full cache first writes back one of its choice that nothing pins (log
entry 196). -/
def State.sesLoad (s : State) (h : Nat) : State :=
  if s.sesCache.contains h then s
  else
    let s := s.count R.sesCacheMissTotal
    if s.sesCache.length < 16384 then { s with sesCache := s.sesCache ++ [h] }
    else
      let (k, s) := s.draw
      let l := s.sesCache.filter fun x => !s.pinnedHandles.contains x
      match l[(Config.freeWord k).toNat % l.length]? with
      | some x => { s with sesCache := s.sesCache.erase x ++ [h] }
      | none => s

/-! ## Touch and wake (R123, R125) -/

/-- The pages of a session in the order a wake reads them: page index descending, layer ascending. -/
def State.wakePages (s : State) (x : Session) : List Nat :=
  let top := ceilDiv ((List.range x.nLayers).foldl (fun a l => max a (x.count l)) 0) 256
  ((List.range top).reverse.flatMap fun p => (List.range x.nLayers).filterMap fun l =>
    if 256 * p < x.count l then s.pageOf x l p else none)

/-- The granules of a page. -/
def State.pageGranules (s : State) (f : Nat) : List Nat := (List.range (max 1 (s.frame f).span)).map (f + ·)

/-- Does a granule stand in the near tier, or lie UNPLACED with its zeros (R216)? -/
def State.nearNow (s : State) (g : Nat) : Bool :=
  let x := s.granule g
  x.tier == .near || (!s.backed && x.tier == .none)

/-- A WAKING session whose pages are all near is LIVE (R122). -/
def State.wakeCheck (s : State) (h : Nat) : State :=
  let x := s.session h
  if x.state = .waking ∧ (s.wakePages x).all (fun f => (s.pageGranules f).all s.nearNow) then
    s.setSession h { x with state := .live }
  else s

/-- Begin waking a session (R125). -/
def State.wakeSession (s : State) (h : Nat) : State :=
  let x := s.session h
  let s := s.setSession h { x with state := .waking }
  let s := s.each (s.wakePages x) fun s f => s.each (s.pageGranules f) fun s g => s.promote g none
  s.wakeCheck h

/-- A touch of a session (R123): LAST_TOUCH, the wake of an IDLE one, and at most once a rotation the reading of the
lease of one that a member holds in HANDOFF (R122). -/
def State.touchSession (s : State) (h : Nat) : State :=
  let x := s.session h
  if x.state = .free then s
  else
    let s1 := s.setSession h { x with lastTouch := s.rotNo }
    if x.state = .idle then s1.wakeSession h
    else if x.state = .handoff ∧ !s.isHome h ∧ x.lastTouch ≠ s.rotNo then
      s1.sendMg (.leaseRead (BitVec.ofNat 6 (s.homeDev h)) (BitVec.ofNat 32 (s.sidOf h)))
    else s1

/-- Every WAKING session is looked at again, after a fill or a copy. -/
def State.wakeChecks (s : State) : State :=
  s.each (s.sessions.filter fun e => e.2.state == .waking) fun s e => s.wakeCheck e.1

/-! ## Appending (R112, R120) -/

/-- Copy positions 0 to q − 1 of every tile from one page to another. -/
def State.copyRows (s : State) (who : Waiter) (x : Session) (src dst q : Nat) : State :=
  s.each (List.range x.heads) fun s h => s.each [0, 1] fun s kv =>
    s.writePage who dst (x.rowAt h kv 0) (s.poolRead (65536 * src + x.rowAt h kv 0) (q * x.row))

/-- A leaf of session h's own for page p: the one it has, a copy of a shared one, or a new one (R120 step 1). -/
def State.ownLeaf (s : State) (h l p : Nat) : Option (State × Nat) :=
  let x := s.session h
  let u := x.leafOf l p
  if u = 0 then
    match s.allocUnits x.tenant.toNat 1 with
    | none => none
    | some (s, n) =>
      some ((s.setLeaf n { Leaf.none with count := 1 }).setSession h ((s.session h).setLeafOf l p n), n)
  else if (s.leaf u).count ≤ 1 then some (s, u)
  else
    match s.allocUnits x.tenant.toNat 1 with
    | none => none
    | some (s, n) =>
      let kept := (s.leaf u).pages.filter fun e => decide (e.1 ≤ p % 512)
      let s := s.each kept fun s e => s.addPageRef e.2
      let s := s.setLeaf n { count := 1, pages := kept }
      let s := s.setLeafCount u ((s.leaf u).count - 1)
      some (s.setSession h ((s.session h).setLeafOf l p n), n)

/-- Make the page that receives position t of layer l one the session may append to in place (R120). None when the
arena has no room (R102). -/
def State.appendPage (s : State) (who : Waiter) (h l t : Nat) : Option (State × Nat) :=
  let x := s.session h
  let sid := s.sidOf h
  let p := t / 256
  let q := t % 256
  let fits (f : Nat) : Bool :=
    let r := s.frame f
    r.fill == q && (r.appender.toNat == sid || (r.refs == 1 && (s.leaf (x.leafOf l p)).count == 1))
  match s.pageOf x l p with
  | some f =>
    if fits f then some (s.updFrame f fun r => { r with appender := BitVec.ofNat 32 sid }, f)
    else
      match s.ownLeaf h l p with
      | none => none
      | some (s, u) =>
        match s.allocPage x.tenant.toNat x.span sid with
        | none => none
        | some (s, n) =>
          let s := if q = 0 then s else (s.copyRows who x f n q).updFrame n fun r => { r with fill := q }
          let s := (s.updFrame n fun r => { r with refs := 1 }).setLeaf u ((s.leaf u).setPage p n)
          some (s.dropPageRef f, n)
  | none =>
    match s.ownLeaf h l p with
    | none => none
    | some (s, u) =>
      match s.allocPage x.tenant.toNat x.span sid with
      | none => none
      | some (s, n) =>
        some ((s.updFrame n fun r => { r with refs := 1 }).setLeaf u ((s.leaf u).setPage p n), n)

/-- Append the rows of one position: `row head kv` gives its K and V rows. -/
def State.appendOne (s : State) (who : Waiter) (h l t : Nat) (row : Nat → Nat → List Byte) : Option State :=
  match s.appendPage who h l t with
  | none => none
  | some (s, f) =>
    let x := s.session h
    let s := s.each (List.range x.heads) fun s hd => s.each [0, 1] fun s kv =>
      s.writePage who f (x.rowAt hd kv (t % 256)) (row hd kv)
    some (s.updFrame f fun r => { r with fill := r.fill + 1 })

/-- Append n positions of layer l from position t on; `row i head kv` gives the rows. All or nothing. -/
def State.appendRows (who : Waiter) (h l : Nat) (row : Nat → Nat → Nat → List Byte) : Nat → Nat → Nat → State → Option State
  | 0, _, _, s => some s
  | n + 1, i, t, s =>
    match s.appendOne who h l t (row i) with
    | none => none
    | some s => State.appendRows who h l row n (i + 1) (t + 1) s

/-- The granules an append to position t meets: its tail page, where one stands. -/
def State.tailGranules (s : State) (x : Session) (l t : Nat) : List Nat :=
  match s.pageOf x l (t / 256) with
  | some f => s.pageGranules f
  | none => []

end Sys2Proof.Machine
end

