-- ==== Sys2Proof/Machine/Guard.lean ====
section
/-! DEFINITION. Wake triggers, and the checks every set-up write meets before its register's own rule (R28, R366, R370,
R379, R381, R384). -/

namespace Sys2Proof.Machine

/-- A wake trigger (R366, R370): it starts a wake from DARK or abandons an entry, and the first trigger's cause stays.
Causes: 1 doorbell, 2 set-up write, 3 CXL.mem, 4 host L1 exit, 5 fabric message, 6 timer (R378). -/
def State.wakeTrigger (s : State) (cause : Nat) : State :=
  if s.pwr.state = .dark ∨ s.pwr.state = .entering then
    { s with pwr := { s.pwr with state := .waking, wakeCause := BitVec.ofNat 3 cause } }
  else s

/-- Is the device in Dark, on its way there, or waking? -/
def State.asleep (s : State) : Bool :=
  s.pwr.state == .dark || s.pwr.state == .entering || s.pwr.state == .waking

/-- A request that arrives while the device sleeps wakes it and waits (R370); else it is served. -/
def State.whenAwake (s : State) (cause : Nat) (c : Held) (act : State → State) : State :=
  if s.pwr.state = .off then s
  else if s.asleep then
    let s := s.wakeTrigger cause
    { s with pwr := { s.pwr with waiting := s.pwr.waiting ++ [c] } }
  else act s

/-- A message of another device's session store, served outside Fog mode only (R354). -/
def State.whenServed (s : State) (c : Held) (act : State → State) : State :=
  s.whenAwake 5 c fun s => if s.ras.fog then s else act s

/-- GLB_STATUS.ID_VALID: step 6 of bring-up is complete (R376, R390). -/
def State.idValid (s : State) : Bool := s.pwr.state != .boot && s.pwr.state != .off

/-- Does Fog mode accept a write to an offset (R379)? HST commands are judged by their OP. -/
def fogAccepts (off : Nat) : Bool :=
  let block := off / 2 ^ 20
  decide (block < 4) || block == 14 || (decide (R.poolRate 0 ≤ off) && decide (off < R.poolHdirUsed 0))

/-- A set-up write as it waits for a wake. -/
def heldWrite (port off : Nat) (value : Word) : Held :=
  let wide := match findReg off with
    | some (r, _) => r.width == 64
    | none => false
  .setup (BitVec.ofNat 2 port) (BitVec.ofNat 26 off) (if wide then 8 else 4) value

/-- Does a set-up write reach the KPR mailbox, which the Keeper serves without waking the device (R369)? -/
def mailboxWrite (off : Nat) : Bool := decide (R.kprMbxTxLen ≤ off ∧ off < 0x200000)

/-- The checks of a set-up write in their order, then the register's own rule. `owner` is the partition the register
belongs to, or none for a shared command register (R384). -/
def State.setupWrite (s : State) (port off : Nat) (owner : Option Nat) (fogOk : Bool) (held : Held)
    (act : State → State) : State :=
  if mailboxWrite off then go s else s.whenAwake 2 held go
where
  go (s : State) : State :=
    if s.pwr.state = .off then s else
    let block := off / 2 ^ 20
    if !s.hostThere port || (s.port port).link != .up then s
    else if s.keeper.bootFail then (if block = 1 then act s else s)
    else if !s.idValid && decide (4 ≤ block) then s.setupError port off 8
    else if s.ras.fog && !(fogAccepts off || fogOk) then s.setupError port off 8
    else
      match owner with
      | some t => if s.controls port t then act s else s.setupError port off 6
      | none => act s

end Sys2Proof.Machine
end

