-- ==== Sys2Proof/Machine/Ring.lean ====
section
/-! DEFINITION. Ring commands, doorbells, descriptor fetch and interrupts (R31 to R49). -/

namespace Sys2Proof.Machine

/-! ## Ring commands (R33, R34) -/

/-- The staged ring context of a port (R384). -/
def State.stagedCtx (s : State) (port : Nat) : Line :=
  BitVec.ofNat 512 ((List.range 8).foldl
    (fun a i => a + (s.reg (stageOff port (R.hstRctxData i))).toNat * 2 ^ (64 * i)) 0)

/-- The storage granules of a ring in the pool, each once. -/
def State.ringGranules (s : State) (r : Nat) (x : Ring) : List Nat :=
  if x.inPool then
    (s.rangeGranules (s.frontCache r) x.tenant (pieces (64 * x.entries)) x.sqBase (64 * x.entries)
      ++ s.rangeGranules (s.frontCache r) x.tenant (pieces (32 * x.entries)) x.cqBase (32 * x.entries)).eraseDups
  else []

/-- The first page of a ring's pool storage that does not translate: DVA, reason, level, write. -/
def State.ringFault (s : State) (r : Nat) (x : Ring) : Option (Nat × Nat × Nat × Bool) :=
  if x.inPool then
    match s.rangeFault (s.frontCache r) x.tenant false (pieces (64 * x.entries)) x.sqBase (64 * x.entries) with
    | some (a, e, l) => some (a, e, l, false)
    | none =>
      (s.rangeFault (s.frontCache r) x.tenant true (pieces (32 * x.entries)) x.cqBase (32 * x.entries)).map
        fun (a, e, l) => (a, e, l, true)
  else none

/-- The result of CREATE: the first check of R34 that fails, or DONE. -/
def State.createResult (s : State) (port r : Nat) (c : Line) : Byte :=
  let x := { Ring.off with ctx := c }
  let t := x.tenant
  if (s.ring r).state ≠ .disabled then St.badDescriptor
  else if ctxBad c then St.badDescriptor
  else if !s.controls port t then St.notOwner
  else if !s.hostThere x.hport then St.badDescriptor
  else if (s.ringFault r x).isSome then St.badDescriptor
  else if x.kind = .dma ∧ s.rings.any (fun e =>
      e.2.state != .disabled && e.2.kind == .dma && e.2.channel == x.channel) then St.noSpace
  else if x.inPool ∧ s.holdFails .near ((s.ringGranules r x).filter fun g => !(s.granule g).nearHeld).length then St.noSpace
  else if x.level ≠ 1 then St.unsupportedLevel
  else St.done

/-- Near-hold granules (R220); they are promoted (R218). -/
def State.holdNear (s : State) (l : List Nat) : State :=
  s.each l fun s g => (s.updGranule g fun x => { x with nearHeld := true }).promote g none

/-- Give a ring's holds up, but for what another ring still holds. -/
def State.unholdNear (s : State) (l : List Nat) : State :=
  let kept := s.openRings.flatMap fun r => (s.ring r).held
  s.each (l.filter fun g => !kept.contains g) fun s g => s.updGranule g fun x => { x with nearHeld := false }

/-- A ring command arrives through a port (R34): refused while BUSY (R383), else run, its result shown when it
completes. -/
def State.ringCommand (s : State) (port r op : Nat) (act : State → State × Byte) : State :=
  s.setupWrite port R.hstRctxCmd none (op == 2 || op == 5)
      (heldWrite port R.hstRctxCmd (BitVec.ofNat 64 (r + op * 4096))) fun s =>
    if s.ringCmd.isSome then s.setupError port R.hstRctxCmd 4
    else
      let (s, res) := act s
      { s with ringCmd := some { port := BitVec.ofNat 2 port, ring := BitVec.ofNat 12 r, result := res } }

/-- Does an open ring belong to a partition the port does not control? -/
def State.ringForeign (s : State) (port r : Nat) : Bool :=
  (s.ring r).state != .disabled && !s.controls port (s.ring r).tenant

/-- The translation fault that decides a CREATE (R239). -/
def State.createFault (s : State) (port r : Nat) (c : Line) : Option (Nat × Nat × Nat × Bool) :=
  let x := { Ring.off with ctx := c }
  if (s.ring r).state = .disabled ∧ !ctxBad c ∧ s.controls port x.tenant ∧ s.hostThere x.hport then s.ringFault r x else none

/-- A ring's front end translates its pool storage. -/
def State.ringXlat (s : State) (r : Nat) (x : Ring) : State :=
  if x.inPool then
    let s := s.xlatRead (s.frontCache r) x.tenant x.sqBase (64 * x.entries) (64 * x.entries)
    s.xlatRead (s.frontCache r) x.tenant x.cqBase (32 * x.entries) (32 * x.entries)
  else s

def State.doCreate (s : State) (port r : Nat) : State × Byte :=
  let c := s.stagedCtx port
  let res := s.createResult port r c
  if res = St.done then
    let x := { Ring.off with ctx := c, state := .active, held := s.ringGranules r { Ring.off with ctx := c } }
    (((s.setRing r x).holdNear x.held).ringXlat r x, res)
  else
    match s.createFault port r c with
    | some (a, e, l, w) => (s.xltFault (Ring.tenant { Ring.off with ctx := c }) a e l w 0x3FF, res)
    | none => (s, res)

def State.doDestroy (s : State) (port r : Nat) : State × Byte :=
  let x := s.ring r
  if s.ringForeign port r then (s, St.notOwner)
  else if x.state = .stopped ∨ (x.state = .error ∧ !x.outstanding) then
    (((s.ringShown r).setRing r Ring.off).unholdNear x.held, St.done)
  else (s, St.badDescriptor)

def State.doStop (s : State) (port r : Nat) : State × Byte :=
  let x := s.ring r
  if s.ringForeign port r then (s, St.notOwner)
  else if x.state = .active then ((s.setRing r { x with state := .stopping, fetching := 0 }).settle r, St.done)
  else (s, St.badDescriptor)

def State.doResume (s : State) (port r : Nat) : State × Byte :=
  let x := s.ring r
  if s.ringForeign port r then (s, St.notOwner)
  else if x.state = .stopped then (s.setRing r { x with state := .active }, St.done)
  else (s, St.badDescriptor)

def State.doRead (s : State) (port r : Nat) : State × Byte :=
  if s.ringForeign port r then (s, St.notOwner)
  else
    (s.each (List.range 8) fun s i =>
      s.setReg (stageOff port (R.hstRctxData i)) (BitVec.ofNat 64 (fld (s.ring r).ctx (64 * i) 64)), St.done)

/-- The ring command completes: RESULT and STATE become readable through its port, BUSY reads 0 (R33, R384). -/
def State.ringCmdDone (s : State) : State :=
  match s.ringCmd with
  | none => s
  | some c =>
    { s with ringCmd := none,
             ringLast := tput (fun _ => 0) s.ringLast c.port.toNat
               (BitVec.ofNat 12 (c.result.toNat + (s.ring c.ring.toNat).state.code * 256)) }

/-! ## Doorbells (R37, R38) -/

def State.sqTailWrite (s : State) (r : Nat) (v : BitVec 32) : State :=
  let x := s.ring r
  if x.state = .disabled ∨ x.state = .error then s
  else if (v - x.sqTail).toNat ≤ x.entries ∧ (v - x.sqHead).toNat ≤ x.entries then s.setRing r { x with sqTail := v }
  else (s.ringError r 1).settle r

def State.cqHeadWrite (s : State) (r : Nat) (v : BitVec 32) : State :=
  let x := s.ring r
  if x.state = .disabled then s
  else if (v - x.cqHead).toNat ≤ (x.cqTail - x.cqHead).toNat then s.setRing r { x with cqHead := v }
  else if x.state = .error then s
  else (s.ringError r 2).settle r

/-! ## Fetch (R45, R46) -/

/-- How many descriptors a fetch may take (R45, R46). -/
def Ring.fetchable (x : Ring) : Nat :=
  min 16 (min (x.sqTail - x.sqHead).toNat (x.entries - (x.sqHead - x.cqHead).toNat))

/-- Begin a fetch: reserve its completion slots, and read host storage, in two reads where the ring wraps. -/
def State.fetchBegin (s : State) (r : Nat) : State :=
  let x := s.ring r
  let n := x.fetchable
  if s.pwr.state ≠ .on ∨ x.state ≠ .active ∨ x.fetching ≠ 0 ∨ n = 0 ∨ s.fenced 8 (s.dieOf r)
      ∨ (!x.inPool ∧ s.fenced 7 x.hport) then s
  else
    let s := s.setRing r { x with fetching := n }
    if x.inPool then s.dropCame (· == .fetch (BitVec.ofNat 12 r))
    else
      let slot := x.sqHead.toNat % x.entries
      let p := BitVec.ofNat 2 x.hport
      let a := min n (x.entries - slot)
      let s := s.emit (.hostRead p (BitVec.ofNat 64 (x.sqBase + 64 * slot)) (64 * a))
      if a < n then s.emit (.hostRead p (BitVec.ofNat 64 x.sqBase) (64 * (n - a))) else s

/-- The stage a fetched descriptor takes from Fog mode (R354) and the checks of R41, steps 1 to 3. -/
def State.firstStage (s : State) (x : Ring) (d : Line) : Stage :=
  if s.ras.fog then .ended (Cpl.of St.fog)
  else if (s.part x.tenant).switching then .ended (Cpl.of St.tenantScrubbed)
  else if dLevel d ≠ x.level then .ended (Cpl.of St.unsupportedLevel)
  else
    match firstBad x.kind x.tenant d with
    | some (off, why) => .ended (Cpl.bad off why)
    | none => .queued

/-- Does a descriptor name a session whose fetch touches it (R123)? A QUERY of the session store does not, and CREATE
and ACCEPT name none of this device's. -/
def touches (k : RingKind) (d : Line) : Bool :=
  k == .attn || (k == .sess && dOpcode d != 1 && dOpcode d != 8 && dOpcode d != 9)

/-- The table whose fetch a descriptor of a ring of a tenant touches (R72): that of an EMBL or EMBU descriptor, defined for the
tenant. -/
def State.tableNamed (s : State) (k : RingKind) (t : Nat) (d : Line) : Option Table :=
  if k = .embl ∨ k = .embu then (s.table (fld d 64 12)).filter fun x => tcTenant x.ctx == t else none

/-- Touch every granule of a table. -/
def State.touchTable (s : State) (x : Table) : State :=
  s.each (List.range (tableFrameCount x.ctx)) fun s i => s.touchGranule (x.base / 65536 + i)

/-- The fetch of a descriptor of tenant t touches the session or table it names, whatever its checks say (R72, R123). One of another
tenant's is not touched: no descriptor alters another partition's data (R11). -/
def State.touchNamed (s : State) (k : RingKind) (t : Nat) (d : Line) : State :=
  let sid := attnSession d
  let x := s.session (sidHandle sid)
  let s := if touches k d ∧ x.gen.toNat = sidGen sid ∧ x.tenant.toNat = t then s.touchSession (sidHandle sid) else s
  match s.tableNamed k t d with
  | some x => s.touchTable x
  | none => s

/-- The place of the next descriptor in the order of fetches. -/
def State.nextSeq (s : State) : Nat := s.rings.foldl (fun n e => e.2.flights.foldl (fun n f => max n (f.seq + 1)) n) 0

/-- One descriptor arrives. -/
def State.arrive (s : State) (r : Nat) (d : Line) : State :=
  let x := s.ring r
  let f : Flight :=
    { pos := x.sqHead, desc := d, stage := s.firstStage x d, seq := s.nextSeq, host := [], idx := [], off := [], depths := [] }
  (s.setRing r { x with sqHead := x.sqHead + 1, fetching := x.fetching - 1, flights := x.flights ++ [f] }).touchNamed x.kind x.tenant d

/-- Where descriptor i of a fetch of pool storage lies. -/
def State.fetchAddr (x : Ring) (i : Nat) : Nat := x.sqBase + 64 * ((x.sqHead.toNat + i) % x.entries)

/-- The front end of a ring as it fetches. -/
def State.fetchEng (s : State) (r : Nat) (x : Ring) : Eng := Eng.func (s.frontCache r) x.tenant (.fetch (BitVec.ofNat 12 r))

/-- Its bytes, and what refuses the read. -/
def State.poolDesc (s : State) (r : Nat) (x : Ring) (i : Nat) : List PByte × Option (Nat × Refuse) :=
  s.gather (s.fetchEng r x) 2 (State.fetchAddr x i) 64

/-- What the reads of a fetch of pool storage still need (R288, R296). -/
def State.fetchNeeds (s : State) (r : Nat) (x : Ring) : List Need :=
  if x.inPool then (List.range x.fetching).flatMap fun i => s.needs (s.fetchEng r x) 2 (State.fetchAddr x i) 64 else []

/-- The first descriptor of a fetch that does not translate, is refused or is poisoned. -/
def State.fetchFails (s : State) (r : Nat) (x : Ring) : Option Nat :=
  (List.range x.fetching).find? fun i => (s.poolDesc r x i).2.isSome || (s.poolDesc r x i).1.any Prod.snd

/-- The descriptors a fetch of pool storage reads. -/
def State.poolDescs (s : State) (r : Nat) (x : Ring) : List Line :=
  (List.range x.fetching).map fun i => bytesLine ((s.poolDesc r x i).1.map Prod.fst)

/-- The front end translates the descriptors of a fetch, up to one that fails, whose translation fault is recorded (R239, R241). -/
def State.fetchXlat (s : State) (r : Nat) (x : Ring) : State :=
  let n := match s.fetchFails r x with
    | some i => i + 1
    | none => x.fetching
  let s1 := s.each (List.range n) fun s i => s.xlatUse (s.frontCache r) x.tenant (State.fetchAddr x i)
  match s.fetchFails r x with
  | some i =>
    match (s.poolDesc r x i).2 with
    | some (dva, e) => s1.noteRefusal x.tenant false 0x3FF dva e
    | none => s1
  | none => s1

/-- The descriptor data of a fetch arrives, or a fault on its storage puts the ring in ERROR (R38, R41). Descriptors in the pool are
awaited until memory holds them and what lies on other devices has come. -/
def State.fetched (s : State) (r : Nat) (descs : List Line) (fault : Bool) : State :=
  let x := s.ring r
  if x.fetching = 0 ∨ x.state ≠ .active then s
  else if !fault && !(s.fetchNeeds r x).isEmpty then s.ask (s.fetchEng r x) (s.fetchNeeds r x)
  else
    let s1 := (if x.inPool && !fault then s.fetchXlat r x else s).dropCame (· == .fetch (BitVec.ofNat 12 r))
    if fault || (x.inPool && (s.fetchFails r x).isSome) then
      ((s1.setRing r { x with fetching := 0 }).ringError r 3).settle r
    else
      let l := if x.inPool then s.poolDescs r x else descs.take x.fetching
      let s := s1.each l fun s d => s.arrive r d
      (s.updRing r fun x => { x with fetching := 0 }).settle r

/-- The write of the last completion record, not acknowledged yet, faults at the storage: the record is dropped, is counted and raises
no interrupt (R38, R58). -/
def State.recordFault (s : State) (r : Nat) : State :=
  match (s.ring r).fresh.getLast? with
  | some e => if (s.ring r).state = .disabled then s else (s.dropRecord r e.1).settle r
  | none => s

/-- COAL_TIME after the first unsignalled record (R49). -/
def State.coalExpired (s : State) (r : Nat) : State := if (s.ring r).coal then s.ringSignal r else s

/-! ## MSI-X (R49) -/

/-- A vector's table entry; every vector is masked after a reset (log entry 8). -/
def HostPort.vector (p : HostPort) (v : Nat) : BitVec 128 :=
  tget (fun _ => 0x1000000000000000000000000#128) p.msix v

def HostPort.setVector (p : HostPort) (v : Nat) (w : BitVec 128) : HostPort :=
  { p with msix := tput (fun _ => 0x1000000000000000000000000#128) p.msix v w }

/-- Send what a vector holds pending, if it may be sent now. -/
def State.sendPending (s : State) (port v : Nat) : State :=
  let p := s.port port
  if p.msixOn ∧ bit (p.vector v) 96 = false ∧ tget (fun _ => false) p.pba v then
    (s.updPort port fun p => { p with pba := tput (fun _ => false) p.pba v false }).msix port v
  else s

def State.unmask (s : State) (port v : Nat) : State :=
  (s.updPort port fun p => p.setVector v (setFld (p.vector v) 96 1 0)).sendPending port v

def State.enableMsix (s : State) (port : Nat) : State :=
  if (s.port port).link = .up then
    let s := s.updPort port fun p => { p with msixOn := true }
    s.each ((s.port port).pba.map Prod.fst) fun s v => s.sendPending port v
  else s

/-! ## The commands -/

def execRingCreate (port : Port) (ring : RingId) (s : State) : Host.Outcome State Fault Refusal :=
  .next (s.ringCommand port.toNat ring.toNat 1 fun s => s.doCreate port.toNat ring.toNat)

def execRingDestroy (port : Port) (ring : RingId) (s : State) : Host.Outcome State Fault Refusal :=
  .next (s.ringCommand port.toNat ring.toNat 2 fun s => s.doDestroy port.toNat ring.toNat)

def execRingStop (port : Port) (ring : RingId) (s : State) : Host.Outcome State Fault Refusal :=
  .next (s.ringCommand port.toNat ring.toNat 3 fun s => s.doStop port.toNat ring.toNat)

def execRingResume (port : Port) (ring : RingId) (s : State) : Host.Outcome State Fault Refusal :=
  .next (s.ringCommand port.toNat ring.toNat 4 fun s => s.doResume port.toNat ring.toNat)

def execRingRead (port : Port) (ring : RingId) (s : State) : Host.Outcome State Fault Refusal :=
  .next (s.ringCommand port.toNat ring.toNat 5 fun s => s.doRead port.toNat ring.toNat)

def execRingCommandComplete (s : State) : Host.Outcome State Fault Refusal := .next s.ringCmdDone

def execDbSqTail (ring : RingId) (value : BitVec 32) (s : State) : Host.Outcome State Fault Refusal :=
  .next (s.whenAwake 1 (.doorbell false ring value) fun s => s.sqTailWrite ring.toNat value)

def execDbCqHead (ring : RingId) (value : BitVec 32) (s : State) : Host.Outcome State Fault Refusal :=
  .next (s.whenAwake 1 (.doorbell true ring value) fun s => s.cqHeadWrite ring.toNat value)

def execDescriptorFetch (ring : RingId) (s : State) : Host.Outcome State Fault Refusal := .next (s.fetchBegin ring.toNat)

def execDescriptorFetched (ring : RingId) (descs : List Line) (fault : Bool) (s : State) :
    Host.Outcome State Fault Refusal := .next (s.fetched ring.toNat descs fault)

def execCompletionRecordWriteFault (ring : RingId) (s : State) : Host.Outcome State Fault Refusal :=
  .next (s.recordFault ring.toNat)

def execCoalesceTimerExpiry (ring : RingId) (s : State) : Host.Outcome State Fault Refusal :=
  .next (s.coalExpired ring.toNat)

def execMsixUnmask (port : Port) (vector : BitVec 11) (s : State) : Host.Outcome State Fault Refusal :=
  .next (s.unmask port.toNat vector.toNat)

def execMsixEnable (port : Port) (s : State) : Host.Outcome State Fault Refusal := .next (s.enableMsix port.toNat)

end Sys2Proof.Machine
end

