-- ==== Sys2Proof/Machine/Dma.lean ====
section
/-! DEFINITION. The DMA engine (R50 to R56, R394) and PCIe completion timeouts (R27). -/

namespace Sys2Proof.Machine

/-! ## Checks of R53, in its order -/

def dmaLen (d : Line) : Nat := dNum d 24 4
def dmaSrc (d : Line) : Nat := dNum d 8 8
def dmaDst (d : Line) : Nat := dNum d 16 8
def dmaSwap (d : Line) : Nat := fld d 232 2
def dmaIsFill (d : Line) : Bool := dOpcode d == 2
def dmaSrcHost (d : Line) : Bool := fld d 224 2 == 1
def dmaDstHost (d : Line) : Bool := fld d 226 2 == 1

/-- The first check of R53 that fails: byte offset and reason. -/
def State.dmaCheck (s : State) (d : Line) : Option (Nat × Nat) :=
  let n := dmaLen d
  let srcDva := !dmaIsFill d && !dmaSrcHost d
  if n = 0 ∨ 67108864 < n then some (24, 7)
  else if dmaSwap d ≠ 0 ∧ n % 4 ≠ 0 then some (24, 8)
  else if srcDva ∧ 2 ^ 57 ≤ dmaSrc d then some (8, 1)
  else if !dmaDstHost d ∧ 2 ^ 57 ≤ dmaDst d then some (16, 1)
  else if (!dmaIsFill d ∧ dmaSrcHost d ∧ !s.hostThere (fld d 228 2)) ∨ (dmaDstHost d ∧ !s.hostThere (fld d 230 2)) then
    some (28, 5)
  else if srcDva ∧ !dmaDstHost d ∧ overlap (dmaSrc d) n (dmaDst d) n then some (8, 9)
  else none

/-- Does the source of a COPY to a host lie in a VALID weight region (R263)? -/
def State.dmaWeights (s : State) (who t : Nat) (d : Line) : Bool :=
  !dmaIsFill d && !dmaSrcHost d && dmaDstHost d
    && (s.rangeGranules who t (pieces (dmaLen d)) (dmaSrc d) (dmaLen d)).any fun g =>
      match s.regionAt (65536 * g) with
      | some r => s.regionValid r
      | none => false

/-! ## Data -/

/-- SWAP (R55): BYTE reverses the bytes of each 32-bit word, HALF exchanges its halves. -/
def swapWords {α : Type} (mode : Nat) : List α → List α
  | a :: b :: c :: d :: t =>
    (if mode = 1 then [d, c, b, a] else if mode = 2 then [c, d, a, b] else [a, b, c, d]) ++ swapWords mode t
  | l => l

/-- PATTERN repeated from DST (R51). -/
def fillBytes (pattern len : Nat) : List PByte :=
  (List.range len).map fun i => (BitVec.ofNat 8 (pattern / 2 ^ (8 * (i % 8)) % 256), false)

/-- A ring's channel at work on a descriptor: it reads (`off` 8) or writes (`off` 16). Its writes leave copies in caches (R54). -/
def State.dmaEng (s : State) (r pos off : Nat) : Eng :=
  { cache := channelCache (s.ring r).channel, tenant := (s.ring r).tenant, checked := true, coherent := false, rot := false
    who := .flight (BitVec.ofNat 12 r) (BitVec.ofNat 32 pos) off }

/-- What a transfer still needs of its source (R288, R296). -/
def State.dmaNeeds (s : State) (r pos : Nat) (d : Line) : List Need :=
  if dmaIsFill d || dmaSrcHost d then [] else s.needs (s.dmaEng r pos 8) (pieces (dmaLen d)) (dmaSrc d) (dmaLen d)

/-- What a transfer reads, until it is refused; `bad`: the lines of a host source that came poisoned, counted from its first. -/
def State.dmaRead (s : State) (r pos : Nat) (d : Line) (src : List Byte) (bad : List Nat) :
    List PByte × Option (Nat × Refuse) :=
  let n := dmaLen d
  if dmaIsFill d then (fillBytes (dNum d 32 8) n, none)
  else if dmaSrcHost d then (withPoison (dmaSrc d) (slice src 0 n) bad, none)
  else s.gather (s.dmaEng r pos 8) (pieces n) (dmaSrc d) n

/-- Whole words only when the transfer swaps (R55). -/
def dmaWhole (d : Line) (n : Nat) : Nat := if dmaSwap d = 0 then n else n / 4 * 4

/-- Move the bytes of a transfer: at most `limit` of them. The state, the bytes written, the refusal that ended it with
the side it was met on (a write first), and whether it moved poison (R52, R55, R56). The source is read whole before the first byte is
written (log entry 190). -/
def State.dmaMove (s : State) (r pos : Nat) (d : Line) (src : List Byte) (bad : List Nat) (limit : Nat) :
    State × Nat × Option (Bool × Nat × Refuse) × Bool :=
  let e := s.dmaEng r pos 16
  let (got, readErr) := s.dmaRead r pos d src bad
  let s := if dmaIsFill d || dmaSrcHost d then s else s.readUse e.cache e.tenant (dmaSrc d) (min (dmaLen d) (limit + 1)) got.length
  let bs := swapWords (dmaSwap d) (got.take (dmaWhole d (min limit got.length)))
  let (s1, k, writeErr) : State × Nat × Option (Nat × Refuse) :=
    if dmaDstHost d then (s.hostWriteP (fld d 230 2) (dmaDst d) bs, bs.length, none)
    else
      let w := State.scatter e (pieces bs.length) s (dmaDst d) bs
      if dmaWhole d w.2.1 = w.2.1 then w
      else
        let w' := State.scatter e (pieces bs.length) s (dmaDst d) (bs.take (dmaWhole d w.2.1))
        (w'.1, w'.2.1, w.2.2)
  let s1 := s1.count (R.dmaBytes (s.ring r).channel) k
  let s1 := if dmaSwap d = 0 then s1 else s1.count R.dmaSwapTotal k
  let err := match writeErr with
    | some (a, e) => some (true, a, e)
    | none => if limit < got.length then none else readErr.map fun (a, e) => (false, a, e)
  (s1, k, err, got.any Prod.snd)

/-- The completion of a transfer that a refusal ended. -/
def dmaRefused : Bool × Nat × Refuse → Cpl
  | (write, _, e) => e.cpl (if write then 16 else 8)

/-- End a transfer: its record carries the bytes written, and one that failed marks its place for the descriptor after
it (R56; log entry 34: poison is one of R56's failures). -/
def State.dmaEnd (s : State) (r pos : Nat) (c : Cpl) (n : Nat) : State :=
  let s := if c.status = St.done then s else s.updRing r fun x => { x with failedAt := some (BitVec.ofNat 32 pos) }
  s.finish r pos { c with result0 := BitVec.ofNat 64 n }

/-- End a transfer after it moved at most `limit` bytes: as its own failures say, else as `how` says. -/
def State.dmaFinish (s : State) (r : Nat) (f : Flight) (src : List Byte) (bad : List Nat) (limit : Nat) (how : Cpl) :
    State :=
  let x := s.ring r
  let (s1, n, err, poison) := s.dmaMove r f.pos.toNat f.desc src bad limit
  let s1 := if poison ∧ !dmaIsFill f.desc ∧ !dmaSrcHost f.desc then
      s1.poisonedRead (channelCache x.channel) x.tenant (dmaSrc f.desc) (dmaLen f.desc) else s1
  match err with
  | some (w, a, e) => (s1.noteRefusal x.tenant w 0x3FF a e).dmaEnd r f.pos.toNat (dmaRefused (w, a, e)) n
  | none =>
    if how.status = St.done ∧ poison then s1.dmaEnd r f.pos.toNat (Cpl.of St.poisoned) n
    else s1.dmaEnd r f.pos.toNat how n

/-- A transfer ends where it stands when nothing says how far it came: a free number of bytes, at most its length, has
been written (R56, R355, R374). What a host would still have sent is free too. -/
def State.dmaCut (s : State) (r : Nat) (f : Flight) (how : Cpl) : State :=
  let (k, s) := s.draw
  let n := (Config.freeWord k).toNat % (dmaLen f.desc + 1)
  let (src, s) := s.drawBytes n
  s.dmaFinish r f src [] n how

/-! ## Starting -/

/-- May a DMA descriptor start now? Every earlier one has started (R54), and with FENCE has completed. -/
def State.dmaMay (s : State) (r pos op : Nat) : Option Flight :=
  match s.mayStart r pos .dma with
  | none => none
  | some f =>
    let before := (s.ring r).flights.takeWhile fun g => g.pos != f.pos
    if dOpcode f.desc ≠ op ∨ (before.any fun g => g.stage == .queued) then none else some f

/-- Does a fenced descriptor follow a transfer that failed (R56)? -/
def State.dmaStopped (s : State) (r : Nat) (f : Flight) : Bool :=
  dFence f.desc && (s.ring r).failedAt == some (f.pos - 1)

/-- The granules a transfer touches on this device. -/
def State.dmaGranules (s : State) (who t : Nat) (d : Line) : List Nat :=
  (if dmaIsFill d || dmaSrcHost d then [] else s.rangeGranules who t (pieces (dmaLen d)) (dmaSrc d) (dmaLen d))
  ++ (if dmaDstHost d then [] else s.rangeGranules who t (pieces (dmaLen d)) (dmaDst d) (dmaLen d))

/-- A COPY or FILL starts (R51, R53): the checks, then the fills of DENSE granules it touches (R226). -/
def State.dmaStart (s : State) (r pos op : Nat) : State :=
  match s.dmaMay r pos op with
  | none => s
  | some f =>
    let who := channelCache (s.ring r).channel
    let t := (s.ring r).tenant
    if s.dmaStopped r f then s.finish r pos (Cpl.of St.stopped)
    else
      match s.dmaCheck f.desc with
      | some (off, why) => s.finish r pos (Cpl.bad off why)
      | none =>
        if s.dmaWeights who t f.desc then s.dmaEnd r pos (Cpl.bad 8 6) 0
        else
          let s := s.setStage r pos .running
          s.each (s.dmaGranules who t f.desc) fun s g => s.demand g false (some (BitVec.ofNat 12 r, BitVec.ofNat 32 pos))

/-- A NOP completes DONE; its record waits for those before it (R51, R54). -/
def State.dmaNop (s : State) (r pos : Nat) : State :=
  match s.dmaMay r pos 3 with
  | none => s
  | some f => s.finish r pos (Cpl.of (if s.dmaStopped r f then St.stopped else St.done))

/-- The oldest transfer in progress on a ring. -/
def State.dmaOldest (s : State) (r : Nat) : Option Flight :=
  if (s.ring r).kind = .dma then (s.ring r).flights.find? fun f => f.stage == .running else none

/-- Is a unit that a transfer needs fenced (R350): the die of its channel, or a host port it reads or writes? -/
def State.dmaFenced (s : State) (channel : Nat) (d : Line) : Bool :=
  s.fenced 8 (s.dieOf channel) || (!dmaIsFill d && dmaSrcHost d && s.fenced 7 (fld d 228 2))
    || (dmaDstHost d && s.fenced 7 (fld d 230 2))

/-- The bytes of the oldest transfer move; it completes once homes have acknowledged what it wrote. Nothing moves while a granule it
touches waits for a fill (R226), nor before all of its source can be read; a source that has become weights stops it (R263). -/
def State.dmaComplete (s : State) (r : Nat) (src : List Byte) (bad : List Nat) : State :=
  match s.dmaOldest r with
  | none => s
  | some f =>
    if s.dmaFenced (s.ring r).channel f.desc then s
    else if s.dmaWeights (channelCache (s.ring r).channel) (s.ring r).tenant f.desc then s.dmaEnd r f.pos.toNat (Cpl.bad 8 6) 0
    else if (s.dmaGranules (channelCache (s.ring r).channel) (s.ring r).tenant f.desc).all s.served then
      if (s.dmaNeeds r f.pos.toNat f.desc).isEmpty then s.dmaFinish r f src bad (dmaLen f.desc) (Cpl.of St.done)
      else s.ask (s.dmaEng r f.pos.toNat 8) (s.dmaNeeds r f.pos.toNat f.desc)
    else s.each (s.dmaGranules (channelCache (s.ring r).channel) (s.ring r).tenant f.desc) fun s g => s.demand g false none

/-- The completion a failure found outside this device's own checks gives. -/
def dmaFailCpl (d : Line) : DmaFail → Cpl
  | .translation => Cpl.bad (if dmaDstHost d then 8 else 16) 6
  | .keyMismatch => Cpl.of St.keyMismatch
  | .extentRevoked => Cpl.of St.extentRevoked
  | .hostTimeout => Cpl.of St.timeout

/-- The translation fault that a home found after `written` bytes is recorded with reason 8 (R231, R239). -/
def State.dmaXltFault (s : State) (r : Nat) (d : Line) (written : Nat) : State :=
  s.xltFault (s.ring r).tenant ((if dmaDstHost d then dmaSrc d else dmaDst d) + written) 8 7 (!dmaDstHost d) 0x3FF

def State.dmaFails (s : State) (r : Nat) (why : DmaFail) (written : Nat) (src : List Byte) : State :=
  match s.dmaOldest r with
  | none => s
  | some f =>
    if why = .hostTimeout ∧ (dmaIsFill f.desc ∨ !dmaSrcHost f.desc) then s
    else
      let s := match why with
        | .translation => s.dmaXltFault r f.desc (min written (dmaLen f.desc))
        | _ => s
      s.dmaFinish r f src [] (min written (dmaLen f.desc)) (dmaFailCpl f.desc why)

/-! ## PCIe completion timeout (R27) -/

/-- Does a descriptor read from a host? -/
def readsHost (k : RingKind) (d : Line) : Bool :=
  match k with
  | .dma => dOpcode d == 1 && dmaSrcHost d
  | .attn => fld d 448 2 == 1
  | .sess => dOpcode d == 2 && fld d 384 2 == 1
  | .embl => fld d 384 2 == 1
  | .embu => dOpcode d == 1 && fld d 384 2 == 1
  | .xinv => dOpcode d == 1 && fld d 224 2 == 1
  | _ => false

/-- A read of a host for a descriptor goes unanswered for 2 ms. -/
def State.hostTimeout (s : State) (r pos : Nat) : State :=
  match s.flight r pos with
  | none => s
  | some f =>
    let k := (s.ring r).kind
    if !readsHost k f.desc then s
    else if k = .dma then (if f.stage = .running then s.dmaCut r f (Cpl.of St.timeout) else s)
    else if f.stage = .queued ∨ f.stage = .preparing then s.finish r pos (Cpl.of St.timeout)
    else s

/-! ## DMA_CHANc (R394) -/

/-- The ring that names a channel. -/
def State.channelRing (s : State) (c : Nat) : Option Nat :=
  (s.rings.find? fun e => e.2.state != .disabled && e.2.kind == .dma && e.2.channel == c).map Prod.fst

/-- DMA_CHANc as a port reads it: RING and TENANT read 0 where the port does not control the ring's tenant. -/
def State.dmaChan (s : State) (port c : Nat) : Nat :=
  match s.channelRing c with
  | none => 0
  | some r =>
    let x := s.ring r
    let active := x.flights.any fun f => f.stage == .running
    let fenced := match x.flights.find? fun f => f.stage == .queued with
      | some f => dFence f.desc && (match x.flights.head? with
          | some g => g.pos != f.pos
          | none => false)
      | none => false
    1 + b2n active * 2 ^ 13 + b2n fenced * 2 ^ 14
      + (if s.controls port x.tenant then r * 2 + x.tenant * 2 ^ 15 else 0)

/-! ## The commands -/

def execDmaCopy (ring : RingId) (pos : Pos) (s : State) : Host.Outcome State Fault Refusal :=
  .next (s.dmaStart ring.toNat pos.toNat 1)

def execDmaFill (ring : RingId) (pos : Pos) (s : State) : Host.Outcome State Fault Refusal :=
  .next (s.dmaStart ring.toNat pos.toNat 2)

def execDmaNop (ring : RingId) (pos : Pos) (s : State) : Host.Outcome State Fault Refusal :=
  .next (s.dmaNop ring.toNat pos.toNat)

def execDmaDescriptorComplete (ring : RingId) (src : List Byte) (bad : List Nat) (s : State) :
    Host.Outcome State Fault Refusal := .next (s.dmaComplete ring.toNat src bad)

def execDmaTransferFailure (ring : RingId) (why : DmaFail) (written : Nat) (src : List Byte) (s : State) :
    Host.Outcome State Fault Refusal := .next (s.dmaFails ring.toNat why written src)

def execPcieCompletionTimeout (ring : RingId) (pos : Pos) (s : State) : Host.Outcome State Fault Refusal :=
  .next (s.hostTimeout ring.toNat pos.toNat)

end Sys2Proof.Machine
end

