-- ==== Sys2Proof/Machine/Fp.lean ====
section
/-! DEFINITION. Floating point, exact and then rounded once: formats, values, RN, and the correctly rounded functions
of R141, R146, R149 and R176. -/

namespace Sys2Proof.Machine

/-! ## Formats and values -/

/-- A binary format: exponent and mantissa bits. -/
structure Flt where
  eb : Nat
  mb : Nat
deriving DecidableEq, Repr

def Flt.fp32 : Flt := ⟨8, 23⟩
def Flt.bf16 : Flt := ⟨8, 7⟩
def Flt.fp16 : Flt := ⟨5, 10⟩
def Flt.e5m2 : Flt := ⟨5, 2⟩
def Flt.e4m3 : Flt := ⟨4, 3⟩

def Flt.bias (f : Flt) : Int := 2 ^ (f.eb - 1) - 1
def Flt.width (f : Flt) : Nat := 1 + f.eb + f.mb
/-- The magnitude bits of infinity. -/
def Flt.infBits (f : Flt) : Nat := (2 ^ f.eb - 1) * 2 ^ f.mb
/-- The canonical quiet NaN: 0x7FC0_0000 in fp32, 0x7FC0 in bf16 (R150). -/
def Flt.qnan (f : Flt) : Nat := f.infBits + 2 ^ (f.mb - 1)

/-- A value: NaN, an infinity, or (−1)^neg · m · 2^e exactly. -/
inductive Fval where
  | nan
  | inf (neg : Bool)
  | num (neg : Bool) (m : Nat) (e : Int)
deriving DecidableEq, Repr

/-- The value of a bit pattern. E4M3 has no infinity: only its all-ones patterns are NaN (R142). -/
def Flt.val (f : Flt) (x : Nat) : Fval :=
  let neg := x / 2 ^ (f.eb + f.mb) % 2 == 1
  let e := x / 2 ^ f.mb % 2 ^ f.eb
  let m := x % 2 ^ f.mb
  if e = 2 ^ f.eb - 1 ∧ (f ≠ Flt.e4m3 ∨ m = 7) then (if m = 0 then .inf neg else .nan)
  else if e = 0 then .num neg m (1 - f.bias - f.mb)
  else .num neg (m + 2 ^ f.mb) (e - f.bias - f.mb)

/-- fp4 E2M1: 0, 0.5, 1, 1.5, 2, 3, 4, 6 with a sign. -/
def fp4Val (x : Nat) : Fval :=
  .num (x / 8 % 2 == 1) ([0, 1, 2, 3, 4, 6, 8, 12].getD (x % 8) 0) (-1)

/-- An integer as a value. -/
def Fval.ofInt (i : Int) : Fval := .num (decide (i < 0)) i.natAbs 0

/-- Sign-extended w-bit pattern. -/
def sInt (w x : Nat) : Int := if x % 2 ^ w < 2 ^ (w - 1) then x % 2 ^ w else (x % 2 ^ w : Int) - 2 ^ w

/-- An E8M0 scale: 2^(x − 127), 0xFF is NaN (OCP Microscaling, R180). -/
def e8m0Val (x : Nat) : Fval := if x = 255 then .nan else .num false 1 ((x : Int) - 127)

def Fval.isNum : Fval → Bool
  | .num _ _ _ => true
  | _ => false

def Fval.isZero : Fval → Bool
  | .num _ m _ => m == 0
  | _ => false

def Fval.neg : Fval → Fval
  | .nan => .nan
  | .inf s => .inf (!s)
  | .num s m e => .num (!s) m e

def Fval.abs : Fval → Fval
  | .nan => .nan
  | .inf _ => .inf false
  | .num _ m e => .num false m e

/-- m · 2^e as a ratio. -/
def ratio (m : Nat) (e : Int) : Nat × Nat := if 0 ≤ e then (m * 2 ^ e.toNat, 1) else (m, 2 ^ (-e).toNat)

def signed (neg : Bool) (m : Nat) : Int := if neg then -(m : Int) else m

/-! ## Exact operations -/

/-- The exact sum. A zero sum is −0 only when both terms are (IEEE 754). -/
def Fval.add : Fval → Fval → Fval
  | .nan, _ => .nan
  | _, .nan => .nan
  | .inf s, .inf t => if s = t then .inf s else .nan
  | .inf s, _ => .inf s
  | _, .inf t => .inf t
  | .num s m e, .num t n g =>
    let l := min e g
    let x := signed s (m * 2 ^ (e - l).toNat) + signed t (n * 2 ^ (g - l).toNat)
    if x = 0 then .num (s && t) 0 l else .num (decide (x < 0)) x.natAbs l

def Fval.sub (a b : Fval) : Fval := a.add b.neg

def Fval.mul : Fval → Fval → Fval
  | .nan, _ => .nan
  | _, .nan => .nan
  | .inf s, .inf t => .inf (s != t)
  | .inf s, .num t n _ => if n = 0 then .nan else .inf (s != t)
  | .num s m _, .inf t => if m = 0 then .nan else .inf (s != t)
  | .num s m e, .num t n g => .num (s != t) (m * n) (e + g)

/-- The exact sum of a list (R144): −0 only when every term is. -/
def Fval.sum : List Fval → Fval
  | [] => .num false 0 0
  | [a] => a
  | a :: t => a.add (Fval.sum t)

/-- Is a < b, for values that are not NaN? −0 counts as less than +0 (R408). -/
def Fval.lt : Fval → Fval → Bool
  | .inf s, .inf t => s && !t
  | .inf s, _ => s
  | _, .inf t => !t
  | .num s m e, .num t n g =>
    let l := min e g
    let x := signed s (m * 2 ^ (e - l).toNat)
    let y := signed t (n * 2 ^ (g - l).toNat)
    decide (x < y) || (decide (x = y) && x == 0 && s && !t)
  | _, _ => false

/-! ## Rounding -/

/-- RN of n/d, ties to even, as magnitude bits; a value too large gives bits past the largest finite. -/
def Flt.roundMag (f : Flt) (n d : Nat) : Nat :=
  if n = 0 then 0
  else
    let k0 : Int := (Nat.log2 n : Int) - Nat.log2 d
    let below := if 0 ≤ k0 then decide (n < d * 2 ^ k0.toNat) else decide (n * 2 ^ (-k0).toNat < d)
    let k := if below then k0 - 1 else k0
    let low := 1 - f.bias
    let u : Int := max k low - f.mb
    let (a, b) := if 0 ≤ u then (n, d * 2 ^ u.toNat) else (n * 2 ^ (-u).toNat, d)
    let q := a / b
    let r := a % b
    let q := if b < 2 * r ∨ (2 * r = b ∧ q % 2 = 1) then q + 1 else q
    (u - (low - f.mb)).toNat * 2 ^ f.mb + q

/-- The magnitude bits of the largest finite value. -/
def Flt.topBits (f : Flt) : Nat := if f = Flt.e4m3 then 0x7E else f.infBits - 1

def Flt.withSign (f : Flt) (neg : Bool) (mag : Nat) : Nat := mag + b2n neg * 2 ^ (f.eb + f.mb)

/-- RN of a value in an IEEE format: overflow gives an infinity, NaN the canonical one. -/
def Flt.round (f : Flt) : Fval → Nat
  | .nan => f.qnan
  | .inf s => f.withSign s f.infBits
  | .num s m e => let (n, d) := ratio m e; f.withSign s (min (f.roundMag n d) f.infBits)

/-- RN of a value, saturating at the largest finite magnitude. Infinities keep theirs where the format has one. -/
def Flt.roundSat (f : Flt) : Fval → Nat
  | .num s m e => let (n, d) := ratio m e; f.withSign s (min (f.roundMag n d) f.topBits)
  | v => f.round v

/-- Conversion to E4M3 and E5M2 (R142). `neg` is the sign of a NaN input. -/
def toE4m3 (neg : Bool) : Fval → Nat
  | .nan => Flt.e4m3.withSign neg 0x7F
  | .inf s => Flt.e4m3.withSign s 0x7F
  | v => Flt.e4m3.roundSat v

def toE5m2 (neg : Bool) : Fval → Nat
  | .nan => Flt.e5m2.withSign neg 0x7F
  | .inf s => Flt.e5m2.withSign s 0x7C
  | v => Flt.e5m2.roundSat v

/-- RN of a value, as a value of the format. -/
def Flt.rn (f : Flt) (v : Fval) : Fval := f.val (f.round v)

/-- RN of a quotient in fp32 or another IEEE format. -/
def Flt.div (f : Flt) : Fval → Fval → Fval
  | .nan, _ => .nan
  | _, .nan => .nan
  | .inf _, .inf _ => .nan
  | .inf s, .num t _ _ => .inf (s != t)
  | .num s _ _, .inf t => .num (s != t) 0 0
  | .num s m e, .num t n g =>
    if n = 0 then (if m = 0 then .nan else .inf (s != t))
    else
      let (a, b) := ratio m (e - g)
      f.val (f.withSign (s != t) (min (f.roundMag a (b * n)) f.infBits))

/-- ⌊√n⌋, bit by bit. -/
def isqrt (n : Nat) : Nat → Nat → Nat
  | 0, r => r
  | k + 1, r => let t := r + 2 ^ k; isqrt n k (if t * t ≤ n then t else r)

/-- RN of a square root: the root to 200 bits below its leading one, with what is left below them marked. -/
def Flt.sqrt (f : Flt) : Fval → Fval
  | .nan => .nan
  | .inf s => if s then .nan else .inf false
  | .num s m e =>
    if m = 0 then .num s 0 0
    else if s then .nan
    else
      let (m, e) := if e % 2 = 0 then (m, e) else (2 * m, e - 1)
      let n := m * 2 ^ 400
      let r := isqrt n (Nat.log2 n / 2 + 1) 0
      let t := if r * r = n then 2 * r else 2 * r + 1
      let (a, b) := ratio t (e / 2 - 201)
      f.val (f.withSign false (min (f.roundMag a b) f.infBits))

/-- Rounding of a value to an integer: 0 nearest even, 1 toward zero, 2 down, 3 up (R408). -/
def toInt (mode : Nat) (neg : Bool) (m : Nat) (e : Int) : Int :=
  let (n, d) := ratio m e
  let q := n / d
  let r := n % d
  let q := match mode with
    | 0 => if d < 2 * r ∨ (2 * r = d ∧ q % 2 = 1) then q + 1 else q
    | 1 => q
    | 2 => if neg ∧ r ≠ 0 then q + 1 else q
    | _ => if !neg ∧ r ≠ 0 then q + 1 else q
  signed neg q

/-- Clamp to a w-bit two's complement range. -/
def clampInt (w : Nat) (i : Int) : Int := max (-(2 ^ (w - 1) : Int)) (min (2 ^ (w - 1) - 1) i)

/-- Conversion to a w-bit integer, saturating by sign; a NaN gives 0 (R408). -/
def Fval.toIntSat (mode w : Nat) : Fval → Int
  | .nan => 0
  | .inf s => if s then -(2 ^ (w - 1) : Int) else 2 ^ (w - 1) - 1
  | .num s m e => clampInt w (toInt mode s m e)

/-- minimum and maximum of IEEE 754-2019 (R408). -/
def Fval.min (a b : Fval) : Fval :=
  match a, b with
  | .nan, _ => .nan
  | _, .nan => .nan
  | a, b => if b.lt a then b else a

def Fval.max (a b : Fval) : Fval :=
  match a, b with
  | .nan, _ => .nan
  | _, .nan => .nan
  | a, b => if a.lt b then b else a

/-! ## NaNs the spec does not choose -/

/-- A quiet NaN whose sign and payload nothing states: a free value of the operands (log entry 35). -/
def Flt.freeNan (f : Flt) (args : List Nat) : Nat :=
  let k := Config.nanChoice f.width args
  f.withSign (k % 2 == 1) (f.infBits + 2 ^ (f.mb - 1) + k / 2 % 2 ^ (f.mb - 1))

/-- RN of an arithmetic result in the scalar and vector units. -/
def Flt.result (f : Flt) (args : List Nat) (v : Fval) : Nat := if v = .nan then f.freeNan args else f.round v

/-! ## exp2 (R146) and cos, sin (R141): fixed point with 700 fraction bits -/

/-- ⌊π · 2^1024⌋. -/
def piFix : Nat := 0x3243f6a8885a308d313198a2e03707344a4093822299f31d0082efa98ec4e6c89452821e638d01377be5466cf34e90c6cc0ac29b7c97c50dd3f84d5b5b54709179216d5d98979fb1bd1310ba698dfb5ac2ffd72dbd01adfb7b8e1afed6a267e96ba7c9045f12c7f9924a19947b3916cf70801f2e2858efc16636920d871574e69

/-- ⌊ln 2 · 2^1024⌋. -/
def ln2Fix : Nat := 0xb17217f7d1cf79abc9e3b39803f2f6af40f343267298b62d8a0d175b8baafa2be7b876206debac98559552fb4afa1b10ed2eae35c138214427573b291169b8253e96ca16224ae8c51acbda11317c387eb9ea9bc3b136603b256fa0ec7657f74b72ce87b19d6548caf5dfa6bd38303248655fa1872f20e3a2da2d97c50f3fd5c6

/-- Sums of y^i / i! in fixed point, from term i on: the terms with i ≡ 0, 1, 2, 3 mod 4. -/
def expSeries (y : Nat) : Nat → Nat → Nat → (Nat × Nat × Nat × Nat) → Nat × Nat × Nat × Nat
  | 0, _, _, acc => acc
  | k + 1, i, term, (a, b, c, d) =>
    let acc := match i % 4 with
      | 0 => (a + term, b, c, d)
      | 1 => (a, b + term, c, d)
      | 2 => (a, b, c + term, d)
      | _ => (a, b, c, d + term)
    expSeries y k (i + 1) (term * y / 2 ^ 700 / (i + 1)) acc

/-- RN of a value known to lie within 1,024 · 2^−p of v · 2^−p: both ends of that interval round to it. -/
def roundNear (neg : Bool) (v : Nat) (p : Int) : Nat :=
  let (a, b) := ratio (v - 1024) (-p)
  Flt.fp32.withSign neg (min (Flt.fp32.roundMag a b) Flt.fp32.infBits)

/-- exp2 of an fp32 value, correctly rounded to fp32, as bits. -/
def exp2Bits : Fval → Nat
  | .nan => Flt.fp32.qnan
  | .inf s => if s then 0 else Flt.fp32.infBits
  | .num s m e =>
    let (n, d) := ratio m e
    let x : Int := signed s n
    let i := x / d
    let f := (x - i * d).toNat
    if 128 ≤ i then Flt.fp32.infBits
    else if i < -151 then 0
    else if f = 0 then let (a, b) := ratio 1 i; Flt.fp32.roundMag a b
    else
      let (a, b, c, g) := expSeries (f * (ln2Fix / 2 ^ 324) / d) 160 0 (2 ^ 700) (0, 0, 0, 0)
      roundNear false (a + b + c + g) (700 - i)

def exp2 (v : Fval) : Fval := Flt.fp32.val (exp2Bits v)

/-- cos and sin of t × f, each correctly rounded to fp32; f is an fp32 value (R141). -/
def cosSin (t : Nat) : Fval → Fval × Fval
  | .num s m e =>
    if t * m = 0 then (.num false 1 0, .num false 0 0)
    else
      let (n, d) := ratio (t * m) e
      let x := n * 2 ^ 700 / d
      let k := x * 2 ^ 325 / piFix
      let r := x - k * piFix / 2 ^ 325
      let (c0, s0, c1, s1) := expSeries r 200 0 (2 ^ 700) (0, 0, 0, 0)
      let c : Int := (c0 : Int) - c1
      let n : Int := (s0 : Int) - s1
      let (c, n) := match k % 4 with
        | 0 => (c, n)
        | 1 => (-n, c)
        | 2 => (-c, -n)
        | _ => (n, -c)
      let out (i : Int) (flip : Bool) : Fval := Flt.fp32.val (roundNear ((decide (i < 0)) != flip) i.natAbs 700)
      (out c false, out n s)
  | _ => (.nan, .nan)

/-- Pairwise sum with RN at each node, an odd last entry carried (R147, R148, R176). The fuel is the levels. -/
def pairwise {α : Type} (f : α → α → α) : List α → List α
  | a :: b :: t => f a b :: pairwise f t
  | l => l

def pairTree {α : Type} (f : α → α → α) : Nat → List α → List α
  | 0, l => l
  | k + 1, l => pairTree f k (pairwise f l)

/-! ## int4 groups (R142) -/

/-- The bf16 scale and the codes of a group of fp32 values: a NaN or an infinity gives the NaN scale and codes 0. -/
def int4Group (xs : List Fval) : Nat × List Int :=
  if xs.all Fval.isNum then
    let a := xs.foldl (fun m x => if m.lt x.abs then x.abs else m) (.num false 0 0)
    let s := Flt.bf16.round (Flt.fp32.div a (.num false 7 0))
    let sv := Flt.bf16.val s
    if sv.isZero then (s, xs.map fun _ => 0)
    else (s, xs.map fun x => match Flt.fp32.div x sv with
      | .num neg m e => max (-8) (min 7 (toInt 0 neg m e))
      | .inf neg => if neg then -8 else 7
      | .nan => 0)
  else (0x7FC0, xs.map fun _ => 0)

end Sys2Proof.Machine
end

