-- ==== Sys2Proof/Machine/Voice.lean ====
section
/-! DEFINITION. Voices: registers, issue, faults and refusals of a clause, and their effect on the clause's item (R79,
R179 to R186, R409). -/

namespace Sys2Proof.Machine

/-! ## Registers -/

/-- x0 always reads 0 (Voices). -/
def Voice.xr (x : Voice) (i : Nat) : Word := if i = 0 then 0 else tget (fun _ => 0) x.x i

def Voice.setX (x : Voice) (i : Nat) (w : Word) : Voice :=
  if i = 0 then x else { x with x := tput (fun _ => 0) x.x i w }

def Voice.vr (x : Voice) (i : Nat) : BitVec 2048 := tget (fun _ => 0) x.v i

def Voice.setV (x : Voice) (i : Nat) (w : BitVec 2048) : Voice := { x with v := tput (fun _ => 0) x.v i w }

/-- Element (row, column) of an accumulator tile. -/
def Voice.acc (x : Voice) (tile : Bool) (row col : Nat) : BitVec 32 :=
  tget (fun _ => 0) x.t (1024 * b2n tile + 32 * row + col)

def Voice.setAcc (x : Voice) (tile : Bool) (row col : Nat) (w : BitVec 32) : Voice :=
  { x with t := tput (fun _ => 0) x.t (1024 * b2n tile + 32 * row + col) w }

/-! ## The item a clause serves -/

def State.item (s : State) (slot : Nat) : Option Item := lget s.rot.items slot

def State.setItem (s : State) (slot : Nat) (x : Item) : State :=
  { s with rot := { s.rot with items := lput s.rot.items slot x } }

def State.updItem (s : State) (slot : Nat) (f : Item → Item) : State :=
  match s.item slot with
  | some x => s.setItem slot (f x)
  | none => s

/-- What clauses of a slot have outstanding belongs to the item under another name from now on. -/
def State.reown (s : State) (slot new : Nat) : State :=
  let s := s.each (s.voices.filter fun e => (e.2.out.any fun a => a.own == slot) || e.2.streams.any fun t => t.own == slot) fun s e =>
    s.updVoice e.1 fun x => { x with
      out := mapIf (fun (a : Access) => a.own == slot) (fun a => { a with own := new }) x.out
      streams := mapIf (fun (t : Strm) => t.own == slot) (fun t => { t with own := new }) x.streams }
  let l (q : List Amm) : List Amm := mapIf (fun a => a.own == slot) (fun a => { a with own := new }) q
  { s with amms := s.amms.map fun e => (e.1, l e.2) }

/-- What clauses of a slot have outstanding belongs to no item any more. -/
def State.disown (s : State) (slot : Nat) : State := s.reown slot 0xFFFF

def State.dropItem (s : State) (slot : Nat) : State :=
  let s := s.disown slot
  { s with rot := { s.rot with items := ldel s.rot.items slot } }

/-- A fault or a refused access decides the status of the item; the first one detected stands (R409). A clause with
SLOT 0xFFFF serves no item. -/
def State.itemFault (s : State) (slot : Nat) (c : Cpl) : State :=
  s.updItem slot fun x => if x.fault.isSome then x else { x with fault := some c }

/-- The voice halts. Accesses it has issued go on (R186). -/
def State.haltVoice (s : State) (v : Nat) : State := s.updVoice v fun x => { x with running := false }

/-- A voice fault (R185) met by something of a voice that belongs to the item of slot `own`: reason, and the FPA concerned or
0. A voice launched again since goes on. -/
def State.faultOf (s : State) (v own : Nat) (t : Tenant) (stale : Bool) (reason : Nat) (addr : Nat := 0) : State :=
  let s := if stale then s else s.updVoice v fun x => { x with running := false, fault := BitVec.ofNat 8 reason }
  let s := (s.count R.corFaultTotal).count32 (R.corGfault (galleryOf v))
  let s := s.record { ErrRec.plain 1 1 (coreOf v) 18 with tenant := some t, addr }
  s.itemFault own (Cpl.bad 0 reason)

/-- A voice faults. -/
def State.voiceFault (s : State) (v reason : Nat) (addr : Nat := 0) : State :=
  s.faultOf v (s.voice v).slot (s.voice v).tenant false reason addr

/-- An access refused or failed at its target (R409): the voice halts if it still runs the clause, and the item's status is
decided. -/
def State.refusedOf (s : State) (v own : Nat) (stale : Bool) (c : Cpl) : State :=
  (if stale then s else s.haltVoice v).itemFault own c

/-- What a voice waits for fails. -/
def State.voiceRefused (s : State) (v : Nat) (c : Cpl) : State := s.refusedOf v (s.voice v).slot false c

/-! ## Streams that fail (R243, R244, R409) -/

/-- A stream of a voice. -/
def Voice.stream (x : Voice) (tok : Word) : Option Strm := x.streams.find? fun t => t.token == tok

def State.updStream (s : State) (v : Nat) (tok : Word) (f : Strm → Strm) : State :=
  s.updVoice v fun x => { x with streams := mapIf (fun t => t.token == tok) f x.streams }

/-- The outcome a refusal gives a stream: a translation fault stops it, and SWAIT then faults (R244). -/
def Refuse.ends : Refuse → AccessEnd
  | .xlat r _ => if r = 9 then .refused9 else .refused8
  | .key => .keyMismatch
  | .revoked => .extentRevoked
  | .other status => if status = St.poisoned then .poisoned else if status = St.noSpace then .noFrame else .timeout

def endStatus : AccessEnd → Byte
  | .ok => St.done
  | .keyMismatch => St.keyMismatch
  | .extentRevoked => St.extentRevoked
  | .timeout => St.timeout
  | .poisoned => St.poisoned
  | .noFrame => St.noSpace
  | .refused8 => St.badDescriptor
  | .refused9 => St.badDescriptor

/-- A stream that ended badly decides its item at once, but for a translation fault, which SWAIT reports (R244, R409). -/
def State.streamFailed (s : State) (v : Nat) (tok : Word) : State :=
  match (s.voice v).stream tok with
  | none => s
  | some st =>
    match st.done with
    | some .ok => s
    | some .refused8 => s
    | some .refused9 => s
    | some e => s.refusedOf v st.own st.stale (Cpl.of (endStatus e))
    | none => s

/-- A stream stops at the tile that is refused. -/
def State.streamStops (s : State) (v : Nat) (tok : Word) (e : AccessEnd) : State :=
  (s.updStream v tok fun t => { t with done := some e }).streamFailed v tok

/-- Has a stream writes that homes have still to acknowledge? -/
def State.streamSends (s : State) (v : Nat) (tok : Word) : Bool :=
  s.awaits fun q => q.op.writes && q.who == .stream (BitVec.ofNat 12 v) tok

/-! ## Issue -/

/-- Does an access return a value in an x register? -/
def AccKind.toX : AccKind → Bool
  | .ld => true
  | .ldv => true
  | .aadd => true
  | .aswp => true
  | .acas => true
  | .amin => true
  | .amax => true
  | .alda => true
  | _ => false

/-- Does an access return a value in a v register? -/
def AccKind.toV : AccKind → Bool
  | .vld => true
  | .vldv => true
  | _ => false

/-- Is one of these registers awaiting a split-phase result (R79)? -/
def Voice.waits (x : Voice) (xs vs : List Nat) : Bool :=
  x.out.any fun a => !a.stale &&
    ((a.kind.toX && a.dst != 0 && xs.contains a.dst.toNat) || (a.kind.toV && vs.contains a.dst.toNat))

/-- Why a voice faults where it fetches: outside its code segment, or a word whose opcode is reserved (R185); 0 where it does
not. -/
def Voice.fetchFault (x : Voice) (pc : Int) : Nat :=
  if pc < 0 ∨ (x.code.length : Int) < pc + 8 then 7
  else if (decodeCore 0 (BitVec.ofNat 64 (numAt x.code pc.toNat 8))).isNone then 2
  else 0

/-- Control reaches a place of the code segment (R185). -/
def State.goto (s : State) (v : Nat) (pc : Int) : State :=
  let r := (s.voice v).fetchFault pc
  if r ≠ 0 then s.voiceFault v r else s.updVoice v fun x => { x with pc := pc.toNat }

/-- The next instruction in order. -/
def State.advance (s : State) (v : Nat) : State := s.goto v ((s.voice v).pc + 8)

/-- Is the core of a voice or its gallery fenced (R350)? -/
def State.voiceFenced (s : State) (v : Nat) : Bool := s.fenced 1 (coreOf v) || s.fenced 2 (galleryOf v)

/-- A voice issues an instruction that uses x registers `xs` and v registers `vs`: nothing happens while the voice does
not run, one of them awaits a result (R78, R79), or its core or gallery is fenced (R350). -/
def State.issue (s : State) (v : Nat) (xs vs : List (BitVec 5)) (act : State → Voice → State) : State :=
  let x := s.voice v
  if !x.loaded ∨ !x.running ∨ s.voiceFenced v ∨ x.waits (xs.map BitVec.toNat) (vs.map BitVec.toNat) then s else act s x

/-- Write an x register and go on. -/
def State.writeX (s : State) (v : Nat) (d : BitVec 5) (w : Word) : State :=
  (s.updVoice v fun x => x.setX d.toNat w).advance v

/-- Write a v register and go on. -/
def State.writeV (s : State) (v : Nat) (d : BitVec 5) (w : BitVec 2048) : State :=
  (s.updVoice v fun x => x.setV d.toNat w).advance v

end Sys2Proof.Machine
end

