-- ==== Sys2Proof/Machine/LateLog.lean ====
section
/-! DEFINITION. The lateness log and its counters (R88). -/

namespace Sys2Proof.Machine

/-- What a lateness record says beside the rotation number. `voice` is 0xFFF and `slot` 0xFFFF for none. -/
structure LateRec where
  event : Nat
  cls : Nat
  voice : Nat
  sentence : Nat
  slot : Nat
  hops : Nat
  measured : Nat
  bound : Nat
deriving DecidableEq, Repr

/-- A record of an event that no voice or item caused. -/
def LateRec.plain (event cls : Nat) : LateRec :=
  { event, cls, voice := 0xFFF, sentence := 0, slot := 0xFFFF, hops := 0, measured := 0, bound := 0 }

/-- TAG, RING and TENANT of the item in a slot, as bytes 24 to 29 of a record. -/
def State.lateItem (s : State) (slot : Nat) : Nat :=
  match s.item slot with
  | some it => dTag (s.itemDesc it) + (it.ring.toNat + it.tenant.toNat * 4096) * 2 ^ 32
  | none => 0

/-- Write a record, or drop and count it: the log is full, or lies outside the populated pool or in a weight region (R263; log
entry 24). -/
def State.lateLog (s : State) (e : LateRec) : State :=
  let tail := (s.reg R.rotLogTail).toNat
  let head := (s.reg R.rotLogHead).toNat
  let n := 2 ^ (fld (s.reg R.rotLogSize) 0 4 + 6)
  let o := (s.reg R.rotLogBase).toNat + 32 * (tail % n)
  if n ≤ (tail + 2 ^ 32 - head) % 2 ^ 32 ∨ s.capacity < o + 32 ∨ s.meetsRegion o 32 then s.count32 R.rotLogLost
  else
    let w := s.rotNo.toNat + (e.voice % 4096 + e.sentence % 16 * 4096 + e.slot % 65536 * 65536) * 2 ^ 64
      + (e.event + e.cls % 256 * 256 + e.hops % 65536 * 65536) * 2 ^ 96
      + e.measured % 2 ^ 32 * 2 ^ 128 + e.bound % 2 ^ 32 * 2 ^ 160 + s.lateItem e.slot * 2 ^ 192
      + b2n (phaseBit tail n) * 2 ^ 255
    (s.poolWrite o (leBytes 32 w)).setReg R.rotLogTail (BitVec.ofNat 64 ((tail + 1) % 2 ^ 32))

/-- An access or stream of a voice took longer than its bound at rated occupancy (R88): counted and logged; an event of
the device's own lateness (R359). It names the slot and sentence of the clause that issued it. CLASS 0 near, 1 far, 2 gallery cache, 3 remote, 4 stream. -/
def State.boundExceeded (s : State) (v own sentence cls hops measured bound : Nat) : State :=
  let s := s.lateLog { LateRec.plain 3 cls with voice := v, sentence, slot := own, hops, measured, bound }
  (s.count R.rotExceedTotal).selfLateEvent

/-- The alignment state changes (R91): counted and logged with the phase error in ns. -/
def State.setAlign (s : State) (a : Align) (phaseError : Nat) : State :=
  if s.rot.align = a then s
  else
    let s := { s with rot := { s.rot with align := a } }
    (s.lateLog { LateRec.plain 5 a.code with measured := phaseError }).count R.rotAlignTotal

end Sys2Proof.Machine
end

