-- ==== Sys2Proof/Machine/Drain.lean ====
section
/-! DEFINITION. Answers to CXL.mem requests, the host directory and its Back-Invalidates, and drains (R303, R309, R316 to
R318, R374). -/

namespace Sys2Proof.Machine

/-! ## The host directory (R316) -/

/-- POOL_CAPS: records a host directory holds. -/
def hdirTop : Nat := 4194304

def HostPort.hline (p : HostPort) (line : Nat) : Option HostLine := lget p.hdir line

/-- Send a Back-Invalidate for a line a port has recorded; none is sent while one is outstanding for it. -/
def State.sendBi (s : State) (port line : Nat) (keep : Bool) : State :=
  let p := s.port port
  match p.hline line with
  | none => s
  | some h =>
    if p.bis.any fun b => b.line == line then s
    else
      ((s.updPort port fun p => { p with bis := p.bis ++ [{ line, exclusive := h.exclusive, keep }] }).count
        R.poolBiTotal).emit (.bisnp (BitVec.ofNat 2 port) line keep)

/-- The record of a directory least recently made, of those not being back-invalidated. -/
def HostPort.oldestLine (p : HostPort) : Option Nat :=
  ((p.hdir.filter fun e => p.bis.all fun b => b.line != e.1).foldl (fun (best : Option (Nat × Nat)) e => match best with
    | some (_, q) => if e.2.seq < q then some (e.1, e.2.seq) else best
    | none => some (e.1, e.2.seq)) none).map Prod.fst

/-- Record a line a port read in recall mode. -/
def State.recordLineFor (s : State) (port line : Nat) (exclusive : Bool) : State :=
  s.updPort port fun p =>
    { p with hdir := lput p.hdir line { exclusive, seq := p.hdirSeq }, hdirSeq := p.hdirSeq + 1 }

/-! ## Drains (R309) -/

/-- Does a drain cover an extent-map entry of a port, or an extent of this pool? -/
def Drain.covers (d : Drain) (revoke : Bool) (port x : Nat) : Bool :=
  d.revoke == revoke && (!revoke || d.port.toNat == port) && decide (d.first ≤ x ∧ x < d.first + d.count)

/-- A request a drain waits for has ended, normally or poisoned. -/
def State.drainCount (s : State) (revoke : Bool) (port x : Nat) (normal : Bool) : State :=
  { s with drains := s.drains.map fun d =>
      if !d.covers revoke port x then d
      else if normal then { d with normal := d.normal + 1 }
      else { d with poisoned := d.poisoned + 1 } }

/-- The extent of a line of this pool. -/
def extentOf (line : Nat) : Nat := line / 2 ^ 24

/-- Was a request checked against a mark when it arrived (R286)? -/
def reqChecked (r : Req) : Bool := r.src.toNat % 64 != 63

/-- Requests past the check of a drain and not closed (R309 step 1). -/
def State.inFlight (s : State) (d : Drain) : Nat :=
  if d.revoke then
    ((s.port d.port.toNat).inflight.filter fun q => !q.dead && d.covers true d.port.toNat q.entry).length
  else
    (s.txns.filter fun e => reqChecked e.2.req && !e.2.answered
      && d.covers false 0 (extentOf e.1)).length
    + ((s.homeWaits.map Prod.snd).flatten.filter fun w =>
        reqChecked w.req && d.covers false 0 (extentOf (reqLine w.req))).length

/-- End a drain: the entries clear, and the descriptor completes (R307, R309). -/
def State.endDrain (s : State) (d : Drain) : State :=
  let s := { s with drains := dropIf (fun e => e.ring == d.ring && e.pos == d.pos) s.drains }
  let s :=
    if d.revoke then
      s.updPort d.port.toNat fun p => (List.range d.count).foldl (fun p i => p.setExtent (d.first + i) Extent.none) p
    else s.each (List.range d.count) fun s i => s.setMark (d.first + i) Mark.none
  let s := s.count R.poolPoisonTotal d.poisoned
  if d.quiet then s else s.finish d.ring.toNat d.pos.toNat (Cpl.res St.done d.poisoned d.normal)

/-- Drains of REVOKE that have nothing left in flight end. -/
def State.revokesEnd (s : State) : State :=
  s.each s.drains fun s d =>
    match s.drains.find? fun e => e.ring == d.ring && e.pos == d.pos with
    | some d => if d.revoke ∧ s.inFlight d = 0 then s.endDrain d else s
    | none => s

/-! ## Reliefs (R356) -/

/-- Does a relief wait for writes of its copy? -/
def State.reliefWaits (s : State) (r : Relief) : Bool := s.awaits fun q => q.who == .relief r.ring r.pos

/-- Update a relief. -/
def State.updRelief (s : State) (ring : RingId) (pos : Pos) (f : Relief → Relief) : State :=
  { s with ras := { s.ras with reliefs := mapIf (fun (q : Relief) => q.ring == ring && q.pos == pos) f s.ras.reliefs } }

/-- Once every write of a relief is answered its descriptor completes: TIMEOUT where TARGET stopped answering. Writes to the range stay
refused until job reset. -/
def State.reliefEnd (s : State) (ring : RingId) (pos : Pos) : State :=
  match s.ras.reliefs.find? fun r => r.ring == ring && r.pos == pos && r.copied with
  | none => s
  | some r =>
    if s.reliefWaits r ∨ r.quiet then s
    else s.finish ring.toNat pos.toNat (if r.late then Cpl.of St.timeout else Cpl.res St.done r.bytes r.poisoned)

/-! ## Answers to a host (R303, R309, R314) -/

/-- The request a port has admitted into a slot. -/
def State.hostReq (s : State) (port : Nat) (slot : BitVec 16) : Option HostReq :=
  (s.port port).inflight.find? fun q => q.slot == slot

/-- A request leaves the port. -/
def State.dropHostReq (s : State) (port : Nat) (slot : BitVec 16) : State :=
  s.updPort port fun p => { p with inflight := dropIf (fun q => q.slot == slot) p.inflight }

/-- Answer a host's request, by the slot it is in (`HostReq`): a write completes; a read returns its data, poisoned where it must be, and is recorded in
recall mode in the state it asked for. `refused` counts it (R303); `normal`: neither a drain nor R294 poisoned it (R309). -/
def State.hostAnswer (s : State) (port : Nat) (slot : BitVec 16) (d : Line) (poison refused : Bool) (normal : Bool := true) : State :=
  match s.hostReq port slot with
  | none => s
  | some q =>
    let p := BitVec.ofNat 2 port
    let s := s.dropHostReq port slot
    if q.dead then s else
    let s := if refused then s.count (R.poolRefusedTotal port) else s
    let s := if q.write then s.emit (.cxlDone p q.tag) else s.emit (.cxlData p q.tag d poison)
    let s := if (s.port port).recalls ∧ !q.write ∧ !poison ∧ q.copy ≠ 0 then
        s.recordLineFor port (q.fpa.toNat % 2 ^ 50 / 64) (decide (2 ≤ q.copy.toNat)) else s
    (s.drainCount true port q.entry normal).revokesEnd

end Sys2Proof.Machine
end

