-- ==== Sys2Proof/Machine/Home.lean ====
section
/-! DEFINITION. The home of this device's lines: routing, the directory, transactions and their responses (R278 to R297,
R316). -/

namespace Sys2Proof.Machine

/-! ## The directory (R287, R289, R293) -/

/-- Add a sharer; a ninth switches the entry to COARSE. -/
def Dir.add (d : Dir) (dev g : Nat) : Dir :=
  if d.coarse then { d with devs := maskAdd d.devs dev }
  else if d.ptrs.contains (dev, g) then d
  else if 8 ≤ d.ptrs.length then
    { d with coarse := true, devs := ((dev, g) :: d.ptrs).foldl (fun m p => maskAdd m p.1) 0, ptrs := [] }
  else { d with ptrs := d.ptrs ++ [(dev, g)] }

/-- The agents an entry lists: every gallery of each device in COARSE. -/
def Dir.agents (d : Dir) : List (Nat × Nat) :=
  if d.coarse then (maskList d.devs).flatMap fun n => (List.range 32).map fun g => (n, g) else d.ptrs

def Dir.owner (d : Dir) : Option (Nat × Nat) := if d.state = .e ∨ d.state = .m then d.ptrs.head? else Option.none

/-- One agent becomes an entry's only one. The entry stays COARSE where it was (R287; log entry 191). -/
def Dir.own (d : Dir) (st : CohState) (dev g : Nat) : Dir :=
  { d with state := st, ptrs := [(dev, g)], devs := if d.coarse then maskAdd 0 dev else 0 }

/-- Set an entry and mark it used; one in I is removed. -/
def State.putDir (s : State) (line : Nat) (d : Dir) : State :=
  if d.state = .i then s.setDir line Dir.none
  else { s.setDir line { d with used := s.dirSeq } with dirSeq := s.dirSeq + 1 }

/-- Mark an entry used. -/
def State.useDir (s : State) (line : Nat) : State := s.putDir line (s.dirEntry line)

/-- Hops between two devices (R289): from this device's SMF_ROUTE where it is one of them (log entry 39). -/
def State.hops (s : State) (a b : Nat) : Nat :=
  if a = b then 0
  else if a = s.devNo then fld (s.reg (R.smfRoute b)) 6 3
  else if b = s.devNo then fld (s.reg (R.smfRoute a)) 6 3
  else Config.hops a b

/-- Is (a, b, c) before (d, e, f) in order? -/
def before3 (x y : Nat × Nat × Nat) : Bool :=
  decide (x.1 < y.1) || (x.1 == y.1 && (decide (x.2.1 < y.2.1) || (x.2.1 == y.2.1 && decide (x.2.2 < y.2.2))))

/-- The sharer that serves a read of a line in S (R289). -/
def State.forwarder (s : State) (d : Dir) (requester : Nat) : Option (Nat × Nat) :=
  if d.coarse ∨ s.rackLevel < 0x12 then none
  else
    let ok := d.ptrs.filter fun p => p.1 != s.devNo
      && decide (s.hops s.devNo p.1 + s.hops p.1 requester ≤ s.hops s.devNo requester + 1)
    (ok.foldl (fun (best : Option (Nat × Nat × Nat)) p =>
      let k := (s.hops p.1 requester, p.1, p.2)
      match best with
      | some b => if before3 k b then some k else some b
      | none => some k) none).map fun k => (k.2.1, k.2.2)

/-! ## Transactions (R288) -/

def State.waitsOf (s : State) (block : Nat) : List HomeWait := tget (fun _ => []) s.homeWaits block

def State.setWaits (s : State) (block : Nat) (l : List HomeWait) : State :=
  { s with homeWaits := tput (fun _ => []) s.homeWaits block l }

/-- Entries of a directory set. -/
def State.setEntries (s : State) (line : Nat) : List (Nat × Dir) :=
  s.dir.filter fun e => e.1 % 2 ^ 26 == line % 2 ^ 26 && e.1 != line

/-- The snoops a request makes of one line's agents (R288): what is asked, of whom, and whether as the owner. -/
def State.snoopsOf (s : State) (op : HomeOp) (dev g line : Nat) : List (SnoopOp × (Nat × Nat) × Bool) :=
  let d := s.dirEntry line
  match d.state, d.owner with
  | .i, _ => []
  | .s, _ =>
    match op with
    | .rdS => match s.forwarder d dev with
      | some p => [(.fwdS, p, false)]
      | none => []
    | .rdX => (d.agents.filter (· != (dev, g))).map fun p => (.inv, p, false)
    | .upg => (d.agents.filter (· != (dev, g))).map fun p => (.inv, p, false)
    | .rdNc => []
    | .recall => []
    | .wrNs => []
    | .evict => []
    | _ => d.agents.map fun p => (.inv, p, false)
  | _, none => []
  | _, some p =>
    match op with
    | .rdS => if p = (dev, g) then [] else [(.fwdS, p, true)]
    | .rdX => if p = (dev, g) then [] else [(.fwdX, p, true)]
    | .upg => if p = (dev, g) then [] else [(.fwdX, p, true)]
    | .rdNc => [(.recalls, p, true)]
    | .recall => [(.recalls, p, true)]
    | .wrNs => []
    | .evict => []
    | _ => [(.recallX, p, true)]

/-- The Back-Invalidates a request makes (R316): of every port in recall mode that has the line recorded, but the one the
request comes from. The flag says that the host may keep a shared copy. -/
def State.bisOf (s : State) (op : HomeOp) (host : Option (Port × BitVec 16)) (line : Nat) : List (Nat × Bool) :=
  let grants : Bool := match op with
    | .rdS => (s.dirEntry line).state == .i
    | .rdX => true
    | .upg => true
    | _ => op.writes
  let reads := op == .rdS || op == .rdNc || op == .recall
  (List.range 4).filterMap fun p =>
    if host.any fun h => h.1.toNat == p then none
    else
      match (s.port p).recalls, (s.port p).hline line with
      | true, some h => if grants then some (p, false) else if reads && h.exclusive then some (p, true) else none
      | _, _ => none

/-- Is a unit that a request for a line needs fenced (R350): the die that homes it, or the store that holds it? -/
def State.lineFenced (s : State) (line : Nat) : Bool :=
  !s.ras.fences.isEmpty && (s.fenced 8 (s.homeDie (line / 1024))
    || ((inReserved (64 * line) || (s.granule (line / 1024)).tier != .none)
      && s.fenced (s.storeUnit (64 * line)).1 (s.storeUnit (64 * line)).2))

/-- Must a request wait: a transaction is open on one of its lines, a granule has no copy in DRAM yet, or a unit it needs is fenced
(R226, R288, R350)? -/
def State.mustWait (s : State) (lines : List Nat) : Bool :=
  lines.any fun l => (s.txnOn l).isSome || !s.served (l / 1024) || s.lineFenced l

/-- Put a request in its block's queue. -/
def State.enqueue (s : State) (w : HomeWait) : State :=
  let b := reqLine w.req / 4
  s.setWaits b (s.waitsOf b ++ [w])

/-- Change an open transaction. -/
def State.updTxn (s : State) (k : Nat) (f : Txn → Txn) : State :=
  match lget s.txns k with
  | some t => { s with txns := lput s.txns k (f t) }
  | none => s

/-! ### Closing -/

/-- Does the response of a transaction carry OVEROCC (R297, R316)? -/
def State.overocc (s : State) (t : Txn) : Bool :=
  decide (0x12 ≤ s.rackLevel) && (s.rot.overran || (t.hostWait && t.req.rot))

/-- In Fog mode lines on a failed unit read as poisoned (R354). -/
def State.fogLost (s : State) (line : Nat) : Bool :=
  s.ras.fog && ((s.ras.failed ++ s.ras.absent).contains (s.storeUnit (64 * line)))

/-- The data of a line as a request's reader gets it, poisoned where it is or where a weight block fails: what expands from a weight
block has no poison of its own (R254). -/
def State.homeData (s : State) (line : Nat) : Line × Bool :=
  match s.readThrough (64 * line) 64 with
  | some bs => (bytesLine bs, s.storedPoison line || s.fogLost line)
  | none => (0, true)

/-- Answer the requester of a transaction. -/
def State.answer (s : State) (t : Txn) (op : BitVec 5) (status : Byte) (grant : Nat) (data : List Line)
    (stale : Bool := false) : State :=
  if t.answered ∨ t.op = .victim ∨ t.op = .recall then s
  else
    let s := if reqChecked t.req then s.drainCount false 0 (extentOf (reqLine t.req)) (!t.poison) else s
    match t.host with
    | some (p, tag) => s.hostAnswer p.toNat tag (data.headD 0) (status != St.done) false (!t.poison)
    | none =>
      let overran := s.overocc t
      let s := if overran then s.count R.smfOveroccTotal else s
      s.sendRsp op { Rsp.plain t.req status with
        nl := BitVec.ofNat 2 (data.length - 1), stale, overocc := overran, grant := BitVec.ofNat 2 grant, data }

/-- A transaction whose data another agent sent has no response of its own. -/
def State.drainClosed (s : State) (t : Txn) : State :=
  if !t.answered && reqChecked t.req then s.drainCount false 0 (extentOf (reqLine t.req)) true else s

/-- Answer a read with lines of this pool: POISONED where any is, recorded once (R260, R342). -/
def State.answerRead (s : State) (t : Txn) (grant : Nat) : State :=
  let got := t.lines.map s.homeData
  let s := s.each (t.lines.map (· / 1024)).eraseDups fun s g => s.blockUse g
  match (t.lines.zip got).find? fun e => e.2.2 with
  | some e =>
    (if s.weightLine e.1 && !s.fogLost e.1 then s else s.poisonError (64 * e.1) (some t.req.tenant)).answer t Op.data St.poisoned grant
      (got.map Prod.fst)
  | none => s.answer t Op.data St.done grant (got.map Prod.fst)

/-- New value of an atomic: width 64 or 32 bits, signed comparison, old value, operand, comparand (R198, R292). -/
def atomicNew (op : HomeOp) (wide signed : Bool) (old x c : Nat) : Nat :=
  let n := if wide then 64 else 32
  let v (a : Nat) : Int := if signed ∧ 2 ^ (n - 1) ≤ a % 2 ^ n then (a % 2 ^ n : Nat) - 2 ^ n else (a % 2 ^ n : Nat)
  match op with
  | .atAdd => (old + x) % 2 ^ n
  | .atSwp => x % 2 ^ n
  | .atCas => if old = c % 2 ^ n then x % 2 ^ n else old
  | .atMin => if v x < v old then x % 2 ^ n else old
  | .atMax => if v old < v x then x % 2 ^ n else old
  | _ => old

/-- Perform an atomic at the home (R292): a poisoned target is not written (R409). -/
def State.homeAtomic (s : State) (t : Txn) : State :=
  let o := t.req.addr.toNat % 2 ^ 50
  let wide := bit t.req.nl 0
  let n := if wide then 8 else 4
  if s.poisoned (o / 64) then (s.poisonError o (some t.req.tenant)).answer t Op.atData St.poisoned 0 []
  else
    let old := leNat (s.poolRead o n)
    let new := atomicNew t.op wide (bit t.req.nl 1) old t.req.operand.toNat t.req.comparand.toNat
    (s.poolWrite o (leBytes n new)).answer t Op.atData St.done 0 [BitVec.ofNat 512 old]

/-- The bytes of a line under a mask, as runs written one by one. -/
def State.maskedWrite (s : State) (line : Nat) (d : Line) (mask : BitVec 64) : State :=
  s.each ((List.range 64).filter fun i => bit mask i) fun s i =>
    s.poolWrite (64 * line + i) [BitVec.ofNat 8 (fld d (8 * i) 8)]

/-- Poison lines of this pool. -/
def State.poisonLines (s : State) (l : List Nat) : State := s.each l fun s l => s.setPoison l true

/-- Write what a write request brings, poisoned where it comes poisoned (R342); what the session store writes into a page takes the
page's CRCs along (R105). -/
def State.homeWrite (s : State) (t : Txn) : State :=
  let s := if t.op = .wrCm then s.maskedWrite (reqLine t.req) (t.req.data.headD 0) t.req.mask
    else s.each (t.lines.zip t.req.data) fun s e => s.poolWrite (64 * e.1) (lineBytes e.2)
  let s := if t.req.poison then s.poisonLines t.lines else s
  let page (l : Nat) : Bool := !reqChecked t.req && ((s.frame (l / 1024)).type == .kvFirst || (s.frame (l / 1024)).type == .kvCont)
  s.each t.lines fun s l => if page l then s.recrc (64 * l) 64 else s

/-- What closing a transaction does to the directory and memory, and its response (R288, R294). -/
def State.conclude (s : State) (t : Txn) : State :=
  let line := reqLine t.req
  let dev := epDev t.req.src
  let g := t.req.agent.toNat
  let d := s.dirEntry line
  let clear (s : State) : State := s.each t.lines fun s l => s.putDir l Dir.none
  let bad := (s.homeData line).2
  match t.op with
  | .rdS =>
    if t.poison then lost s
    else if s.weightLine line then s.answerRead t 0
    else
      match d.state with
      | .i => if bad then s.answerRead t 0 else (s.putDir line (d.own .e dev g)).answerRead t 2
      | .s =>
        if t.forwarded then ((s.putDir line (d.add dev g)).count R.smfFwdTotal).drainClosed t
        else if bad then s.answerRead t 0 else (s.putDir line (d.add dev g)).answerRead t 1
      | _ =>
        if t.forwarded then (s.putDir line ({ d with state := .s }.add dev g)).drainClosed t
        else s.answerRead t (if d.state = .e then 2 else 3)
  | .rdX =>
    if t.poison then lost s
    else
      if t.forwarded then (s.putDir line (d.own .m dev g)).drainClosed t
      else if bad then (clear s).answerRead t 0 else (s.putDir line (d.own .m dev g)).answerRead t 3
  | .upg =>
    if t.poison then lost s
    else
      let s1 := s.putDir line (d.own .m dev g)
      if t.forwarded then s1.drainClosed t
      else if t.sharer then s1.answer t Op.cmp St.done 0 []
      else if bad then (clear s).answerRead t 0 else s1.answerRead t 3
  | .rdNc =>
    (shared s).answerRead t 0
  | .evict =>
    if d.owner = some (dev, g) then (s.putDir line Dir.none).answer t Op.cmp St.done 0 []
    else s.answer t Op.cmp St.done 0 [] true
  | .victim => clear s
  | .recall => shared s
  | .wrNs =>
    if t.answered then s.poisonLines t.lines
    else (s.homeWrite t).answer t Op.cmp St.done 0 []
  | .wrC => write s clear
  | .wrCm => write s clear
  | _ =>
    let s := clear s
    if t.answered then s.poisonLines t.lines
    else if t.poison then s.answer t Op.cmp St.poisoned 0 [] else s.homeAtomic t
where
  lost (s : State) : State := s.answer t Op.data St.poisoned 0 (t.lines.map fun l => (s.homeData l).1)
  shared (s : State) : State := s.each t.lines fun s l =>
    let e := s.dirEntry l
    if e.state = .e ∨ e.state = .m then s.putDir l { e with state := .s } else s
  write (s : State) (clear : State → State) : State :=
    let s := clear s
    if t.answered then s.poisonLines t.lines
    else if t.poison then s.answer t Op.cmp St.poisoned 0 [] else (s.homeWrite t).answer t Op.cmp St.done 0 []

/-- The blocks whose waiting requests may go on once a line of a set is free. -/
def State.wakeBlocks (s : State) (line : Nat) : State :=
  s.each (s.homeWaits.filter fun e => e.1 % 2 ^ 24 == line / 4 % 2 ^ 24) fun s e => s.post (.retry e.1)

/-- Close a transaction that awaits nothing more. -/
def State.closeTxn (s : State) (k : Nat) : State :=
  match lget s.txns k with
  | none => s
  | some t =>
    if !t.awaiting.isEmpty ∨ !t.hosts.isEmpty then s
    else
      let s := (({ s with txns := ldel s.txns k } : State).conclude t).wakeBlocks k
      if s.drains.any fun d => d.covers false 0 (extentOf k) then s.post .sweep else s

/-! ### Opening -/

/-- The Back-Invalidate that makes room in a port's full directory for the line a read of its host will record (R316). -/
def State.roomBi (s : State) (host : Option (Port × BitVec 16)) (line : Nat) : List (Nat × Nat × Bool) :=
  match host with
  | none => []
  | some (p, tag) =>
    let x := s.port p.toNat
    let records := match s.hostReq p.toNat tag with
      | some q => x.recalls && !q.write && q.copy != 0 && (x.hline line).isNone
      | none => false
    let others := (s.txns.filter fun e => e.2.host.any fun h => h.1 == p).length
    match x.oldestLine with
    | some l => if records && decide (hdirTop ≤ x.hdir.length + others - x.bis.length) then [(l, p.toNat, false)] else []
    | none => []

/-- Open a transaction: send its snoops and Back-Invalidates, and close it where there are none. An EVICT of a dirty line
by its owner pulls the data (R291). -/
def State.openTxn (s : State) (op : HomeOp) (r : Req) (host : Option (Port × BitVec 16)) : State :=
  let dev := epDev r.src
  let g := r.agent.toNat
  let lines := reqLines op r
  let k := reqLine r
  let d := s.dirEntry k
  let snoops := lines.flatMap fun l => (s.snoopsOf op dev g l).map fun x => (l, x)
  let bis := if op = .evict ∨ op = .victim then [] else (lines.flatMap fun l => (s.bisOf op host l).map fun x => (l, x)) ++ s.roomBi host k
  let pull := op == .evict && d.owner == some (dev, g) && bit r.nl 0
  let t : Txn :=
    { op, req := r, host, lines
      awaiting := snoops.map (fun x => (x.2.2.1.1, x.2.2.1.2, x.1)) ++ (if pull then [(dev, g, k)] else [])
      hosts := bis.map fun x => (x.2.1, x.1)
      sharer := d.state == .s && d.agents.contains (dev, g)
      forwarded := false, poison := false, hostWait := !bis.isEmpty, answered := false }
  let s := s.each lines fun s l => if (s.dirEntry l).state = .i then s else s.useDir l
  let s := { s with txns := lput s.txns k t }
  let s := s.each snoops fun s x => s.sendSnp x.2.1
    { rot := r.rot, requester := r.src, agent := r.agent, tag := r.tag, target := BitVec.ofNat 6 x.2.2.1.1
      gallery := BitVec.ofNat 5 x.2.2.1.2, owner := x.2.2.2, tenant := r.tenant, addr := BitVec.ofNat 64 (s.fpaOf (64 * x.1)) }
  let s := s.each bis fun s x => s.sendBi x.2.1 x.1 x.2.2
  let s := if pull then s.sendRsp Op.wbPull { Rsp.plain r St.done with overocc := s.overocc t } else s
  s.closeTxn k

/-- A recall that no requester asked for: a victim of the directory (R293), a sweep (R309). -/
def victimReq (s : State) (line : Nat) : Req :=
  { nl := 0, rot := false, src := s.funcEp, agent := 0, tenant := 0, tag := 0, tgt := false
    key := 0, addr := BitVec.ofNat 64 (s.fpaOf (64 * line)), data := [], mask := 0, operand := 0, comparand := 0, poison := false }

/-- Empty a line's directory entry. -/
def State.recallLine (s : State) (line : Nat) : State :=
  if (s.dirEntry line).state = .i ∨ (s.txnOn line).isSome then s else s.openTxn .victim (victimReq s line) none

/-- Memory is to hold a line that a function reads: what a cache or a host has to itself is recalled (R288, R316). -/
def State.recallRead (s : State) (line : Nat) : State :=
  let d := s.dirEntry line
  let held := (List.range 4).any fun p => (s.port p).recalls && ((s.port p).hline line).any HostLine.exclusive
  if (s.txnOn line).isSome ∨ !(d.state == .e || d.state == .m || held) then s else s.openTxn .recall (victimReq s line) none

/-- Start the directory sweep of every UNMARK with no request in flight (R309): every line of its extents that a gallery
holds is recalled. -/
def State.sweepStart (s : State) : State :=
  s.each (s.drains.filter fun d => !d.revoke && !d.sweeping) fun s d =>
    if s.inFlight d ≠ 0 then s
    else
      let s := { s with drains := mapIf (fun e => e.ring == d.ring && e.pos == d.pos) (fun e => { e with sweeping := true }) s.drains }
      s.each (s.dir.filter fun e => d.covers false 0 (extentOf e.1)) fun s e => s.recallLine e.1

/-- The entry of a full set that is emptied first: the least recently used with no open transaction (R293). -/
def State.victimOf (s : State) (line : Nat) : Option Nat :=
  (((s.setEntries line).filter fun e => (s.txnOn e.1).isNone).foldl
    (fun (best : Option (Nat × Nat)) e => match best with
      | some (_, u) => if e.2.used < u then some (e.1, e.2.used) else best
      | none => some (e.1, e.2.used)) none).map Prod.fst

/-- A checked request starts, or waits for its line, its granule or room in its directory set. -/
def State.startReq (s : State) (w : HomeWait) : State :=
  let lines := reqLines w.op w.req
  let s := s.each (lines.map (· / 1024)).eraseDups fun s g =>
    let s := s.demand g false none
    if w.req.rot && !s.ras.fog && bit (s.reg R.tierCtrl) 1 && (s.granule g).tier == .far then s.promote g none else s
  let ahead := (s.waitsOf (reqLine w.req / 4)).any fun v => (reqLines v.op v.req).any lines.contains
  if ahead ∨ s.mustWait lines then s.enqueue w
  else if w.op.caches ∧ (s.dirEntry (reqLine w.req)).state = .i ∧ 16 ≤ (s.setEntries (reqLine w.req)).length then
    let s := s.enqueue w
    match s.victimOf (reqLine w.req) with
    | some l => (s.count R.smfDirEvictTotal).recallLine l
    | none => s
  else s.openTxn w.op w.req w.host

/-- Look again at the requests of a block. -/
def State.retryBlock (s : State) (b : Nat) : State :=
  let l := s.waitsOf b
  (s.setWaits b []).each l State.startReq

/-! ## Arrival at the home (R229, R263, R286, R303, R354) -/

/-- Refuse a request: CMP with a status, or the host's poison or completion. -/
def State.refuse (s : State) (r : Req) (host : Option (Port × BitVec 16)) (status : Byte) (info : Nat) : State :=
  match host with
  | some (p, tag) => s.hostAnswer p.toNat tag 0 true true
  | none => s.sendRsp Op.cmp { Rsp.plain r status with info := BitVec.ofNat 64 info }

/-- What Fog mode serves: RD_NC, WR_C, WR_CM, WR_NS and lines given back (R354). -/
def fogServes (op : HomeOp) : Bool :=
  match op with
  | .rdNc => true
  | .wrC => true
  | .wrCm => true
  | .wrNs => true
  | .evict => true
  | _ => false

/-- The advisory record of a KEY_MISMATCH (R343; log entry 41: its class and code). -/
def State.keyError (s : State) (o : Nat) (t : Tenant) : State :=
  (s.count R.smfKeyMismatchTotal).record { ErrRec.plain 1 8 (s.homeDie (o / 65536)) 9 with
    status := St.keyMismatch, tenant := some t, addr := s.fpaOf o }

/-- A request at its home: checked in R303's order, then served. In Fog mode a DENSE granule and a VALID weight region
read as poison, and a write to a DENSE granule is dropped (R354). -/
def State.homeRequest (s : State) (op : HomeOp) (r : Req) (host : Option (Port × BitVec 16)) : State :=
  let o := r.addr.toNat % 2 ^ 50
  let last := 64 * (reqLines op r).getLastD 0
  let write := op.writes || op == .rdX || op == .upg || (op == .evict && bit r.nl 0)
  if s.ras.fog && !fogServes op then s.refuse r host St.fog 0
  else if !reqChecked r && inReserved o then s.startReq { op, req := r, host }
  else
    match s.homeRefuses o r.tenant.toNat r.key write (reqChecked r), s.homeRefuses last r.tenant.toNat r.key write (reqChecked r) with
    | some .key, _ => (s.keyError o r.tenant).refuse r host St.keyMismatch 0
    | some .revoked, _ => s.refuse r host St.extentRevoked 0
    | some (.other status), _ => s.refuse r host status 0
    | some (.xlat why _), _ => s.refuse r host St.badDescriptor why
    | none, some (.xlat why _) => s.refuse r host St.badDescriptor why
    | none, some _ => s.refuse r host St.badDescriptor 8
    | none, none =>
      if s.ras.fog && s.backed && (s.granule (o / 65536)).tier == .none then
        if op.writes then
          match host with
          | some (p, tag) => s.hostAnswer p.toNat tag 0 false false
          | none => s.sendRsp Op.cmp (Rsp.plain r St.done)
        else
          match host with
          | some (p, tag) => s.hostAnswer p.toNat tag 0 true false
          | none => s.sendRsp Op.data (Rsp.plain r St.poisoned)
      else if s.ras.fog && !op.writes && s.weightLine (o / 64) then
        match host with
        | some (p, tag) => s.hostAnswer p.toNat tag 0 true false
        | none => s.sendRsp Op.data (Rsp.plain r St.poisoned)
      else if host.isSome && !op.writes && s.weightLine (o / 64) then s.refuse r host St.badDescriptor 6
      else s.startReq { op, req := r, host }

/-! ## Snoop responses (R288, R294, R296) -/

/-- The transaction that awaits an agent's answer for a line. -/
def State.awaited (s : State) (dev g line : Nat) : Option (Nat × Txn) :=
  s.txns.find? fun e => e.2.awaiting.contains (dev, g, line)

/-- An agent has answered. -/
def State.answered (s : State) (k dev g line : Nat) (f : Txn → Txn) : State :=
  (s.updTxn k fun t => f { t with awaiting := t.awaiting.filter (· != (dev, g, line)) }).closeTxn k

/-- Was an agent the owner of a line? -/
def State.isOwner (s : State) (dev g line : Nat) : Bool := (s.dirEntry line).owner == some (dev, g)

/-- The owner of a line does not have it (R291, R294): the line is poisoned and its entry set to I. -/
def State.ownerLost (s : State) (line : Nat) : State := (s.setPoison line true).putDir line Dir.none

/-- SN_ACK. -/
def State.homeAck (s : State) (r : Rsp) : State :=
  let line := r.info.toNat % 2 ^ 50 / 64
  let dev := r.from_.toNat
  let g := r.agent.toNat
  match s.awaited dev g line with
  | none => s.count R.smfStrayTotal
  | some (k, _) =>
    if r.fwd then s.answered k dev g line fun t => { t with forwarded := true }
    else if s.isOwner dev g line then (s.ownerLost line).answered k dev g line fun t => { t with poison := true }
    else s.answered k dev g line id

/-- Write a line an agent returned to memory (R288, R342), but never to a weight region (R263). -/
def State.takeLine (s : State) (line : Nat) (r : Rsp) : State :=
  if s.meetsRegion (64 * line) 64 then s
  else
    let s := s.poolWrite (64 * line) (lineBytes (r.data.headD 0))
    if r.status = St.poisoned then s.setPoison line true else s

/-- SN_DATA: a line returned, written before the transaction closes; the answer of an M owner to SN_FWD_S. -/
def State.homeSnData (s : State) (r : Rsp) : State :=
  let line := r.info.toNat % 2 ^ 50 / 64
  let dev := r.from_.toNat
  let g := r.agent.toNat
  match s.awaited dev g line with
  | none => s.count R.smfStrayTotal
  | some (k, _) => (s.takeLine line r).answered k dev g line fun t => { t with forwarded := t.op == .rdS }

/-- WB_DATA: the data of the EVICT its tag names. -/
def State.homeWbData (s : State) (r : Rsp) : State :=
  match s.txns.find? fun e => e.2.op == .evict && e.2.req.tag == r.tag && epDev e.2.req.src == r.from_.toNat
      && !e.2.awaiting.isEmpty with
  | none => s.count R.smfStrayTotal
  | some (k, t) => (s.takeLine k r).answered k (epDev t.req.src) t.req.agent.toNat k id

/-- A snoop goes unanswered for 2 ms (R294): a sharer is removed, an owner loses the line; job-fatal. -/
def State.snoopLate (s : State) (line dev g : Nat) : State :=
  match s.awaited dev g line with
  | none => s
  | some (k, t) =>
    let s := (s.count R.smfSnoopTimeoutTotal).record { ErrRec.plain 4 8 (s.homeDie (line / 1024)) 5 with
      status := St.timeout, tenant := some t.req.tenant, addr := s.fpaOf (64 * line) }
    if s.isOwner dev g line then (s.ownerLost line).answered k dev g line fun t => { t with poison := true }
    else
      let d := s.dirEntry line
      (s.setDir line { d with ptrs := d.ptrs.filter (· != (dev, g)) }).answered k dev g line id

end Sys2Proof.Machine
end

