-- ==== Sys2Proof/Machine/Tlb.lean ====
section
/-! DEFINITION. Walks for the galleries and invalidation tokens (R239, R240, R247 to R249). -/

namespace Sys2Proof.Machine

/-! ## Walks of galleries (R239, R240) -/

def walkTop : Nat := 64

/-- Begin a walk for a gallery: the fault found on die, or the walk in its first place below level 4. Nothing while 64 walks
run on the die. -/
def State.startWalk (s : State) (g : Nat) (t : Tenant) (dva : Nat) (prefetch : Bool) : Except (Nat × Nat) State :=
  let die := s.dieOfGallery g
  match s.walkStart die t.toNat dva with
  | .error f => .error f
  | .ok (level, table) =>
    match (List.range (walkTop * s.variant.ioDies)).find? fun k => k % s.variant.ioDies == die % s.variant.ioDies && (lget s.walks k).isNone with
    | none => .ok s
    | some k =>
      let w : Walk := { gallery := g, tenant := t, dva := BitVec.ofNat 64 dva, level, table, drops := [], prefetch }
      .ok { s with walks := lput s.walks k w }

/-- May a walk begin for a gallery: fewer than 64 run on its die? -/
def State.walkRoom (s : State) (g : Nat) : Bool :=
  let n := s.variant.ioDies
  (List.range (walkTop * n)).any fun k => k % n == s.dieOfGallery g % n && (lget s.walks k).isNone

/-- Is a walk for a DVA's 64 KiB page in progress for a gallery? -/
def State.walking (s : State) (g : Nat) (t : Tenant) (dva : Nat) : Bool :=
  s.walks.any fun e => e.2.gallery == g && e.2.tenant == t && e.2.dva.toNat / 65536 == dva / 65536

/-- Does a gallery lack a page only because an INVAL or SETROOT of this rotation dropped it (R250)? -/
def State.forcedWalk (s : State) (g : Nat) (t : Tenant) (dva : Nat) : Bool :=
  s.rot.forced.any fun e => e.1 == g && e.2.1 == t && dva / 2 ^ e.2.2.2 == e.2.2.1

/-- Request the translations a stream still wants, as many as may begin; faults of a prefetch are not reported (R244). -/
def State.wantPages (s : State) (v : Nat) (st : Strm) : State :=
  let g := v / 128
  let r := st.want.foldl (fun (q : State × List Nat) a =>
    if (q.1.tlbFind g st.tenant a).isSome || q.1.walking g st.tenant a then q
    else if !q.1.walkRoom g then (q.1, q.2 ++ [a])
    else
      match q.1.startWalk g st.tenant a true with
      | .ok s => (s, q.2)
      | .error _ => q) (s, [])
  r.1.updVoice v fun x => { x with streams := mapIf (fun t => t.token == st.token) (fun t => { t with want := r.2 }) x.streams }

/-- The streams' requests that waited for a walk to end. -/
def State.pumpStreams (s : State) : State :=
  s.each (s.voices.filter fun e => e.2.streams.any fun t => !t.want.isEmpty) fun s e =>
    s.each (e.2.streams.filter fun t => !t.want.isEmpty) fun s t => s.wantPages e.1 t

/-! ## Invalidation tokens (R249) -/

/-- Complete an operation on the tables: DONE, or TIMEOUT where a device was missed; or confirm it to the device that
forwarded it. -/
def State.bcastDone (s : State) (b : Bcast) : State :=
  let s := if b.counts then s.count R.xltToken else s
  match b.sender with
  | some d => s.sendMg (.invalConfirm d)
  | none =>
    let c := Cpl.of (if b.missed then St.timeout else St.done)
    if b.quiet then s else s.finish b.ring.toNat b.pos.toNat { c with result0 := s.reg R.xltToken, result1 := b.confirmed }

/-- Complete every operation that waits for nothing more. -/
def State.bcastsEnd (s : State) : State :=
  let overran (b : Bcast) : Bool := b.waiting == 0 && b.accesses.isEmpty
  (({ s with bcasts := dropIf overran s.bcasts } : State).each (s.bcasts.filter overran) State.bcastDone)

/-- The operation of an XINV ring that awaits confirmations: one at most, since its descriptors run in order (R246). -/
def State.updBcast (s : State) (r : Nat) (f : Bcast → Bcast) : State :=
  ({ s with bcasts := mapIf (fun b => b.ring.toNat == r && b.sender.isNone) f s.bcasts } : State).bcastsEnd

/-- Does a management request carry an operation on the tables to a device? -/
def tableOut (dev : Dev) : Out → Bool
  | .ptwrite d _ _ => d == dev
  | .inval d _ _ _ _ _ => d == dev
  | _ => false

/-- A device was found unreachable: the oldest operation that waits for it has missed it (R249, R296). -/
def State.bcastMiss (s : State) (dev : Nat) : State :=
  match s.bcasts.find? fun b => maskHas b.waiting dev with
  | none => s
  | some b =>
    ({ s with bcasts := mapIf (· == b) (fun (b : Bcast) => { b with waiting := maskDrop b.waiting dev, missed := true }) s.bcasts } : State).bcastsEnd

/-- A device confirms. -/
def State.confirmed (s : State) (r dev : Nat) : State :=
  s.updBcast r fun b =>
    if maskHas b.waiting dev then { b with waiting := maskDrop b.waiting dev, confirmed := maskAdd b.confirmed dev } else b

/-- 2 ms have passed since an operation was forwarded: devices that have not confirmed are missed. -/
def State.confirmTimeout (s : State) (r : Nat) : State :=
  let late := (s.bcasts.filter fun b => b.ring.toNat == r && b.sender.isNone).flatMap fun b => maskList b.waiting
  (s.each late fun s d => s.mgLate (tableOut (BitVec.ofNat 6 d))).updBcast r fun b => if b.waiting = 0 then b else { b with waiting := 0, missed := true }

/-- An access of a voice has ended. -/
def State.accessGone (s : State) (v : VoiceId) (slot : BitVec 2) : State :=
  let s : State := { s with bcasts := s.bcasts.map fun (b : Bcast) => { b with accesses := b.accesses.filter (· != (v, slot)) } }
  s.bcastsEnd

end Sys2Proof.Machine
end

