-- ==== Sys2Proof/Machine/Agent.lean ====
section
/-! DEFINITION. Gallery caches, victim buffers and atomic buffers as caching agents: evictions, snoops and requester tags
(R188, R199, R290, R291, R296). -/

namespace Sys2Proof.Machine

/-! ## Lines of a gallery; a line is an FPA ÷ 64 -/

/-- 8 MiB of 64-byte lines. -/
def cacheTop : Nat := 131072
def victimTop : Nat := 64
def abufTop : Nat := 64

def State.gline (s : State) (g line : Nat) : CLine := tget (fun _ => CLine.none) s.gcache (cacheKey g line)

def State.setGline (s : State) (g line : Nat) (c : CLine) : State :=
  { s with gcache := tput (fun _ => CLine.none) s.gcache (cacheKey g line) c }

def State.victimLine (s : State) (g line : Nat) : Option CLine := lget s.victims (cacheKey g line)

def State.aline (s : State) (g line : Nat) : Option ALine := lget s.abuf (cacheKey g line)

/-- The lines a gallery holds. -/
def galleryLines {α : Type} (t : Tbl α) (g : Nat) : Tbl α := t.filter fun e => e.1 / 2 ^ 50 == g

/-! ## Requester tags (R296, R298) -/

/-- A request of a gallery of this device. -/
def State.galleryReq (s : State) (g : Nat) (t : Nat) (tenant : Tenant) (key : BitVec 24) (addr : Nat) : Req :=
  { nl := 0, rot := true, src := s.ownEp, agent := BitVec.ofNat 5 g, tenant, tag := BitVec.ofNat 15 t, tgt := false, key
    addr := BitVec.ofNat 64 addr, data := [], mask := 0, operand := 0, comparand := 0, poison := false }

/-- The tag of a gallery's own request for a line that is still awaited: of one whose line will be kept, if there is one. -/
def State.requestFor (s : State) (g line : Nat) : Option Nat :=
  let own (e : Nat × ReqTag) : Bool := match e.2.use with
    | .access v _ l _ => galleryOf v.toNat == g && l == line
    | .gone h l _ _ _ _ => h == g && l == line
    | _ => false
  match s.tags.find? fun e => own e && !e.2.noInstall with
  | some e => some e.1
  | none => (s.tags.find? own).map Prod.fst

/-! ## Giving lines up (R188, R291) -/

/-- Give up a line: S silently; E and M with an EVICT. Nothing happens while no tag is free. -/
def State.giveUp (s : State) (g line : Nat) : State :=
  let c := s.gline g line
  match c.state with
  | .i => s
  | .s => s.setGline g line CLine.none
  | _ =>
    match s.freeTag with
    | none => s
    | some t =>
      let s := (s.setGline g line CLine.none).takeTag t (.evict g line)
      let s := { s with victims := lput s.victims (cacheKey g line) c }
      let r := s.galleryReq g t c.tenant c.key (64 * line)
      s.sendReq .evict { r with rot := false, nl := if c.state = .m then 1 else 0 }

/-- Give up a line while the victim buffer has room for it. -/
def State.evictLine (s : State) (g line : Nat) : State :=
  if (s.gline g line).state ≠ .s ∧ (victimTop ≤ (galleryLines s.victims g).length ∨ (s.victimLine g line).isSome) then s
  else s.giveUp g line

/-- The lines that have a way in a gallery's cache: those it holds, and those its requests will bring. -/
def State.wayLines (s : State) (g : Nat) : List Nat :=
  let held := (galleryLines s.gcache g).map fun e => e.1 % 2 ^ 50
  let comes := s.tags.filterMap fun e => match e.2.use with
    | .access v _ l op => if galleryOf v.toNat = g ∧ op.caches then some l else none
    | .gone h l op _ _ _ => if h = g ∧ op.caches then some l else none
    | _ => none
  held ++ (comes.eraseDups.filter fun l => !held.contains l)

/-- Are all 16 ways of a line's set taken (R188)? -/
def State.setFull (s : State) (g line : Nat) : Bool :=
  let l := s.wayLines g
  if l.length < 16 then false else decide (16 ≤ (l.filter fun x => Config.cacheSet x == Config.cacheSet line).length)

/-- Make room in a full set: it gives up a line it chooses freely (R188). -/
def State.makeWay (s : State) (g line : Nat) : State :=
  if !s.setFull g line then s
  else
    let own := (galleryLines s.gcache g).filter fun e => Config.cacheSet (e.1 % 2 ^ 50) == Config.cacheSet line
    let (k, s) := s.draw
    match own[(Config.freeWord k).toNat % own.length]? with
    | some e => s.evictLine g (e.1 % 2 ^ 50)
    | none => s

/-! ## The atomic buffer (R199) -/

/-- The bytes of a line under a mask put into another. -/
def mergeLine (mask : BitVec 64) (d old : Line) : Line :=
  bytesLine ((List.range 64).map fun i => BitVec.ofNat 8 (if bit mask i then fld d (8 * i) 8 else fld old (8 * i) 8))

/-- Write a buffered line back: into the gallery's own E or M copy, else as a coherent write of the bytes its atomics changed; it stays
buffered until that is acknowledged, so that the gallery's voices read no older value (R190; log entry 193). -/
def State.abufWriteBack (s : State) (g line : Nat) : State :=
  match s.aline g line with
  | none => s
  | some a =>
    let c := s.gline g line
    let gone := { s with abuf := ldel s.abuf (cacheKey g line) }
    if a.draining then s
    else if a.mask = 0 then gone
    else if c.state = .e ∨ c.state = .m then
      (gone.setGline g line { c with state := .m, data := mergeLine a.mask a.data c.data }).count R.corAbufWbTotal
    else
      let s := ({ s with abuf := lput s.abuf (cacheKey g line) { a with mask := 0, draining := true } } : State).count R.corAbufWbTotal
      let r := s.galleryReq g 0 a.tenant a.key (64 * line)
      s.engineReq { who := .abuf g, op := .wrCm, req := { r with data := [a.data], mask := a.mask }, dva := 64 * line, bytes := 0 }

/-- The write-back of a line is acknowledged: it leaves the buffer, unless atomics have changed it since. -/
def State.abufWritten (s : State) (g line : Nat) : State :=
  match s.aline g line with
  | none => s
  | some a =>
    if !a.draining then s
    else ({ s with abuf := lput s.abuf (cacheKey g line) { a with draining := false } } : State).abufWriteBack g line

/-- Write back a gallery's whole buffer. -/
def State.abufFlush (s : State) (g : Nat) : State :=
  s.each (galleryLines s.abuf g) fun s e => s.abufWriteBack g (e.1 % 2 ^ 50)

/-- Does a gallery's buffer hold nothing? -/
def State.abufEmpty (s : State) (g : Nat) : Bool := (galleryLines s.abuf g).isEmpty

/-- Is there room for a line in a gallery's buffer? -/
def State.abufRoom (s : State) (g line : Nat) : Bool :=
  (s.aline g line).isSome || decide ((galleryLines s.abuf g).length < abufTop)

/-- A full buffer writes back a line it chooses freely. -/
def State.abufMakeRoom (s : State) (g line : Nat) : State :=
  if s.abufRoom g line then s
  else
    let own := galleryLines s.abuf g
    let (k, s) := s.draw
    match own[(Config.freeWord k).toNat % own.length]? with
    | some e => s.abufWriteBack g (e.1 % 2 ^ 50)
    | none => s

/-- Enter a line. -/
def State.abufEnter (s : State) (g line : Nat) (a : ALine) : State := { s with abuf := lput s.abuf (cacheKey g line) a }

/-! ## Snoops (R290, R291) -/

/-- An answer to a snoop. -/
def State.snoopRsp (s : State) (r : Snp) : Rsp :=
  { nl := 0, rot := r.rot, dst := homeEp r.addr, tag := r.tag, stale := false, status := St.done, sector := 0
    overocc := false, grant := 0, fwd := false, agent := r.gallery, from_ := BitVec.ofNat 6 s.devNo, info := r.addr
    data := [] }

/-- Data for the requester of a snoop. -/
def State.snoopData (s : State) (r : Snp) (c : CLine) (grant : Nat) : State :=
  s.sendRsp Op.data { s.snoopRsp r with
    dst := r.requester, agent := 0, info := 0, grant := BitVec.ofNat 2 grant, data := [c.data] }

def State.snoopAck (s : State) (r : Snp) (fwd : Bool) : State := s.sendRsp Op.snAck { s.snoopRsp r with fwd }

/-- The line itself for the home. -/
def State.snoopLine (s : State) (r : Snp) (c : CLine) : State :=
  s.sendRsp Op.snData { s.snoopRsp r with data := [c.data] }

/-- Apply a snoop to a line held in S, E or M: what is sent, and the state the line is left in. -/
def State.applySnoop (s : State) (op : SnoopOp) (r : Snp) (c : CLine) : State × CohState :=
  match op with
  | .inv => (s.snoopAck r false, .i)
  | .fwdS =>
    let s := s.snoopData r c 1
    (if c.state = .m then s.snoopLine r c else s.snoopAck r true, .s)
  | .fwdX => ((s.snoopData r c 3).snoopAck r true, .i)
  | .recalls => (s.snoopLine r c, .s)
  | .recallX => (s.snoopLine r c, .i)

/-- A snoop at its agent: the cache, the victim buffer, the tag of a request that will bring the line, or absent. -/
def State.agentSnoop (s : State) (op : SnoopOp) (r : Snp) : State :=
  let g := r.gallery.toNat
  let line := r.addr.toNat / 64
  let c := s.gline g line
  if c.state ≠ .i then
    let (s, st) := s.applySnoop op r c
    s.setGline g line (if st = .i then CLine.none else { c with state := st })
  else
    match s.victimLine g line with
    | some v =>
      if v.state = .i then s.snoopAck r false
      else
        let (s, _) := s.applySnoop op r v
        { s with victims := lput s.victims (cacheKey g line) { v with state := .i } }
    | none =>
      match s.requestFor g line with
      | some t =>
        if r.owner && (s.tag t).held.isNone then s.setTag t { s.tag t with held := some (op, r) }
        else
          let reading := match (s.tag t).use with
            | .access _ _ _ .rdS => true
            | .gone _ _ .rdS _ _ _ => true
            | _ => false
          let s := if op = .inv && reading then s.setTag t { s.tag t with noInstall := true } else s
          s.snoopAck r false
      | none => s.snoopAck r false

end Sys2Proof.Machine
end

