-- ==== Sys2Proof/Machine/Float.lean ====
section
/-! DEFINITION. Scalar fp32 instructions (R180, R183, R408). fp32 is held in bits [31:0] of an x register. -/

namespace Sys2Proof.Machine

/-- The fp32 pattern in an x register. -/
def lo32 (w : Word) : Nat := fld w 0 32

/-- An fp32 result in an x register: bits [63:32] are not stated (log entry 36). -/
def fpWord (bits : Nat) : Word := Config.fpHigh (BitVec.ofNat 32 bits) ++ BitVec.ofNat 32 bits

/-- x[D] := op of the fp32 values of x[A] and x[B]. -/
def State.fpu2 (s : State) (v : Nat) (f : Fields) (op : Nat → Nat → Nat) : State :=
  s.issue v [f.a, f.b, f.d] [] fun s x =>
    s.writeX v f.d (fpWord (op (lo32 (x.xr f.a.toNat)) (lo32 (x.xr f.b.toNat))))

/-! ## The operations, by format -/

def Flt.opAdd (f : Flt) (a b : Nat) : Nat := f.result [a, b] ((f.val a).add (f.val b))
def Flt.opSub (f : Flt) (a b : Nat) : Nat := f.result [a, b] ((f.val a).sub (f.val b))
def Flt.opMul (f : Flt) (a b : Nat) : Nat := f.result [a, b] ((f.val a).mul (f.val b))
/-- One rounding (R180). -/
def Flt.opFma (f : Flt) (a b c : Nat) : Nat := f.result [a, b, c] (((f.val a).mul (f.val b)).add (f.val c))
def Flt.opDiv (f : Flt) (a b : Nat) : Nat := f.result [a, b] (f.div (f.val a) (f.val b))
def Flt.opSqrt (f : Flt) (a : Nat) : Nat := f.result [a] (f.sqrt (f.val a))
def Flt.opMin (f : Flt) (a b : Nat) : Nat := f.round ((f.val a).min (f.val b))
def Flt.opMax (f : Flt) (a b : Nat) : Nat := f.round ((f.val a).max (f.val b))

/-- FCVTI: MOD[3:2] is reserved (R408). -/
def State.fcvti (s : State) (v : Nat) (f : Fields) : State :=
  s.issue v [f.a, f.d] [] fun s x =>
    if 4 ≤ f.mod.toNat then s.voiceFault v 2
    else s.writeX v f.d (BitVec.ofInt 64 ((Flt.fp32.val (lo32 (x.xr f.a.toNat))).toIntSat f.mod.toNat 64))

/-! ## The commands -/

def execFadd (v : VoiceId) (f : Fields) (s : State) : Host.Outcome State Fault Refusal :=
  .next (s.fpu2 v.toNat f Flt.fp32.opAdd)

def execFsub (v : VoiceId) (f : Fields) (s : State) : Host.Outcome State Fault Refusal :=
  .next (s.fpu2 v.toNat f Flt.fp32.opSub)

def execFmul (v : VoiceId) (f : Fields) (s : State) : Host.Outcome State Fault Refusal :=
  .next (s.fpu2 v.toNat f Flt.fp32.opMul)

def execFfma (v : VoiceId) (f : Fields) (s : State) : Host.Outcome State Fault Refusal :=
  .next (s.issue v.toNat [f.a, f.b, f.c, f.d] [] fun s x =>
    s.writeX v.toNat f.d (fpWord (Flt.fp32.opFma (lo32 (x.xr f.a.toNat)) (lo32 (x.xr f.b.toNat)) (lo32 (x.xr f.c.toNat)))))

def execFdiv (v : VoiceId) (f : Fields) (s : State) : Host.Outcome State Fault Refusal :=
  .next (s.fpu2 v.toNat f Flt.fp32.opDiv)

def execFsqrt (v : VoiceId) (f : Fields) (s : State) : Host.Outcome State Fault Refusal :=
  .next (s.issue v.toNat [f.a, f.d] [] fun s x =>
    s.writeX v.toNat f.d (fpWord (Flt.fp32.opSqrt (lo32 (x.xr f.a.toNat)))))

def execFmin (v : VoiceId) (f : Fields) (s : State) : Host.Outcome State Fault Refusal :=
  .next (s.fpu2 v.toNat f Flt.fp32.opMin)

def execFmax (v : VoiceId) (f : Fields) (s : State) : Host.Outcome State Fault Refusal :=
  .next (s.fpu2 v.toNat f Flt.fp32.opMax)

def execFcvti (v : VoiceId) (f : Fields) (s : State) : Host.Outcome State Fault Refusal := .next (s.fcvti v.toNat f)

def execIcvtf (v : VoiceId) (f : Fields) (s : State) : Host.Outcome State Fault Refusal :=
  .next (s.issue v.toNat [f.a, f.d] [] fun s x =>
    s.writeX v.toNat f.d (fpWord (Flt.fp32.round (Fval.ofInt (x.xr f.a.toNat).toInt))))

end Sys2Proof.Machine
end

