-- ==== Sys2Proof/Machine/Vector.lean ====
section
/-! DEFINITION. Vector instructions (R180, R183, R408). What the spec names and does not define lane by lane is left
free (log entry 37). -/

namespace Sys2Proof.Machine

/-! ## Lanes -/

/-- Lane width of a lane format: 0 fp32, 1 bf16, 2 fp16, 3 int32, 4 int16, 5 int8, 6 E4M3, 7 E5M2, 8 int4, 9 fp4. -/
def laneW : Nat → Nat
  | 0 => 32
  | 1 => 16
  | 2 => 16
  | 3 => 32
  | 4 => 16
  | 5 => 8
  | 6 => 8
  | 7 => 8
  | _ => 4

def laneFlt : Nat → Option Flt
  | 0 => some Flt.fp32
  | 1 => some Flt.bf16
  | 2 => some Flt.fp16
  | _ => none

/-- The lanes of a register, lane 0 in its lowest bits. -/
def lanes (w : Nat) (x : BitVec 2048) : List Nat := (List.range (2048 / w)).map fun i => fld x (w * i) w

/-- A register of lanes. -/
def packLanes (w : Nat) (l : List Nat) : BitVec 2048 :=
  BitVec.ofNat 2048 (l.foldr (fun a acc => a % 2 ^ w + acc * 2 ^ w) 0)

/-- A lane result the spec does not state. -/
def freeLanes (op fmt : Nat) (args : List Nat) (w : Nat) : BitVec 2048 :=
  packLanes w ((List.range (2048 / w)).map fun i => Config.freeLane op fmt i args)

/-! ## Lane operations -/

def laneAdd (fmt a b : Nat) : Nat :=
  match laneFlt fmt with
  | some f => f.opAdd a b
  | none => a + b

def laneSub (fmt a b : Nat) : Nat :=
  match laneFlt fmt with
  | some f => f.opSub a b
  | none => a + (2 ^ laneW fmt - b)

def laneMul (fmt a b : Nat) : Nat :=
  match laneFlt fmt with
  | some f => f.opMul a b
  | none => a * b

def laneFma (fmt a b c : Nat) : Nat :=
  match laneFlt fmt with
  | some f => f.opFma a b c
  | none => a * b + c

def laneMin (fmt a b : Nat) : Nat :=
  match laneFlt fmt with
  | some f => f.opMin a b
  | none => if sInt (laneW fmt) a < sInt (laneW fmt) b then a else b

def laneMax (fmt a b : Nat) : Nat :=
  match laneFlt fmt with
  | some f => f.opMax a b
  | none => if sInt (laneW fmt) a < sInt (laneW fmt) b then b else a

/-- v[D] := op of the lanes of v[A] and v[B]. A lane format above 5 is a reserved encoding. -/
def State.vec2 (s : State) (v : Nat) (f : Fields) (op : Nat → Nat → Nat → Nat) : State :=
  s.issue v [] [f.a, f.b, f.d] fun s x =>
    let m := f.mod.toNat
    if 5 < m then s.voiceFault v 2
    else
      let w := laneW m
      s.writeV v f.d (packLanes w (List.zipWith (op m) (lanes w (x.vr f.a.toNat)) (lanes w (x.vr f.b.toNat))))

/-- v[D] := op of the lanes of v[A], v[B] and v[C]. -/
def State.vec3 (s : State) (v : Nat) (f : Fields) (op : Nat → Nat → Nat → Nat → Nat) : State :=
  s.issue v [] [f.a, f.b, f.c, f.d] fun s x =>
    let m := f.mod.toNat
    if 5 < m then s.voiceFault v 2
    else
      let w := laneW m
      let ab := List.zip (lanes w (x.vr f.a.toNat)) (lanes w (x.vr f.b.toNat))
      s.writeV v f.d (packLanes w (List.zipWith (fun p c => op m p.1 p.2 c) ab (lanes w (x.vr f.c.toNat))))

/-- v[D] := a bitwise function of v[A] and v[B]. -/
def State.vecBits (s : State) (v : Nat) (f : Fields) (op : BitVec 2048 → BitVec 2048 → BitVec 2048) : State :=
  s.issue v [] [f.a, f.b, f.d] fun s x =>
    if 5 < f.mod.toNat then s.voiceFault v 2 else s.writeV v f.d (op (x.vr f.a.toNat) (x.vr f.b.toNat))

/-- A reduction of v[A] in the pairwise tree of R147: the result in lane 0 of v[D], the other lanes not stated. -/
def State.vecReduce (s : State) (v : Nat) (f : Fields) (code : Nat) (op : Nat → Nat → Nat → Nat) : State :=
  s.issue v [] [f.a, f.d] fun s x =>
    let m := f.mod.toNat
    if 5 < m then s.voiceFault v 2
    else
      let w := laneW m
      let a := x.vr f.a.toNat
      let r := (pairTree (fun p q => op m p q % 2 ^ w) 8 (lanes w a)).headD 0
      let rest := lanes w (freeLanes code m [a.toNat] w)
      s.writeV v f.d (packLanes w (r :: rest.drop 1))

/-- VSEL: each lane is v[A]'s or v[B]'s, as the lane of v[C] selects. -/
def State.vecSelect (s : State) (v : Nat) (f : Fields) : State :=
  s.vec3 v f fun m a b c => if Config.selLane m c then a else b

/-- VPERM: each lane is a lane of v[A], as the lane of v[B] says. -/
def State.vecPermute (s : State) (v : Nat) (f : Fields) : State :=
  s.issue v [] [f.a, f.b, f.d] fun s x =>
    let m := f.mod.toNat
    if 5 < m then s.voiceFault v 2
    else
      let w := laneW m
      let src := lanes w (x.vr f.a.toNat)
      s.writeV v f.d (packLanes w ((lanes w (x.vr f.b.toNat)).map fun b => src.getD (Config.permLane m b % (2048 / w)) 0))

/-- VBCAST: one value in every lane. -/
def State.vecBroadcast (s : State) (v : Nat) (f : Fields) : State :=
  s.issue v [f.a] [f.a, f.d] fun s x =>
    let m := f.mod.toNat
    if 5 < m then s.voiceFault v 2
    else
      let w := laneW m
      let e := if Config.bcastX then fld (x.xr f.a.toNat) 0 w else fld (x.vr f.a.toNat) 0 w
      s.writeV v f.d (packLanes w (List.replicate (2048 / w) e))

/-! ## Conversion (VCVT) -/

/-- The value of a lane in any of the ten formats, and the sign of its pattern. -/
def cvtVal (fmt x : Nat) : Bool × Fval :=
  let neg := x / 2 ^ (laneW fmt - 1) % 2 == 1
  match fmt with
  | 0 => (neg, Flt.fp32.val x)
  | 1 => (neg, Flt.bf16.val x)
  | 2 => (neg, Flt.fp16.val x)
  | 6 => (neg, Flt.e4m3.val x)
  | 7 => (neg, Flt.e5m2.val x)
  | 9 => (neg, fp4Val x)
  | _ => (neg, Fval.ofInt (sInt (laneW fmt) x))

def isIntFmt (fmt : Nat) : Bool := fmt == 3 || fmt == 4 || fmt == 5 || fmt == 8

/-- RN of a value to fp4 E2M1, saturating at ±6 (R180): the code of the nearest, ties to an even code. -/
def toFp4 (s : Bool) (m : Nat) (e : Int) : Nat :=
  let (n, d) := ratio m e
  Flt.withSign ⟨2, 1⟩ s (min (Flt.roundMag ⟨2, 1⟩ n d) 7)

/-- One lane converted to a format other than int4. -/
def cvtLane (src dst x : Nat) : Nat :=
  let (neg, v) := cvtVal src x
  match laneFlt dst with
  | some f => f.result [x] v
  | none =>
    if dst = 6 then toE4m3 neg v
    else if dst = 7 then toE5m2 neg v
    else if dst = 9 then
      match v with
      | .num s m e => toFp4 s m e
      | .inf s => Flt.withSign ⟨2, 1⟩ s 7
      | .nan => Config.freeLane 0x60 dst 0 [x]
    else if isIntFmt src then (BitVec.ofInt 32 (sInt (laneW src) x)).toNat
    else (BitVec.ofInt 32 (v.toIntSat 0 (laneW dst))).toNat

/-- Lanes converted to int4 codes, in groups of 32 (R142). -/
def cvtInt4 (src : Nat) : Nat → List Nat → List Nat
  | 0, _ => []
  | k + 1, l =>
    let (_, codes) := int4Group ((l.take 32).map fun x => Flt.fp32.rn (cvtVal src x).2)
    codes.map (fun c => (BitVec.ofInt 4 c).toNat) ++ cvtInt4 src k (l.drop 32)

/-- VCVT: lane i to lane i. What lies past the converted lanes is not stated. -/
def State.vecConvert (s : State) (v : Nat) (f : Fields) : State :=
  s.issue v [] [f.a, f.d] fun s x =>
    let src := f.mod.toNat
    let dst := fld f.imm 0 4
    if 9 < src ∨ 9 < dst then s.voiceFault v 2
    else
      let a := x.vr f.a.toNat
      let n := 2048 / max (laneW src) (laneW dst)
      let l := (lanes (laneW src) a).take n
      let w := laneW dst
      let got := if dst = 8 then cvtInt4 src 16 l else l.map (cvtLane src dst)
      s.writeV v f.d (packLanes w (got ++ (lanes w (freeLanes 0x60 (16 * src + dst) [a.toNat] w)).drop got.length))

/-! ## Special functions -/

/-- An operation of the float lane formats: for integer lanes the result is not stated. -/
def State.vecFloat1 (s : State) (v : Nat) (f : Fields) (code : Nat) (op : Nat → Option (Nat → Nat)) : State :=
  s.issue v [] [f.a, f.d] fun s x =>
    let m := f.mod.toNat
    if 5 < m then s.voiceFault v 2
    else
      let w := laneW m
      let a := x.vr f.a.toNat
      match op m with
      | some g => s.writeV v f.d (packLanes w ((lanes w a).map g))
      | none => s.writeV v f.d (freeLanes code m [a.toNat] w)

/-- VEXP2 (R146 defines the fp32 function). -/
def vexp2Op (m : Nat) : Option (Nat → Nat) :=
  if m = 0 then some fun a => match Flt.fp32.val a with
    | .nan => Flt.fp32.freeNan [a]
    | v => exp2Bits v
  else none

def vsqrtOp (m : Nat) : Option (Nat → Nat) := (laneFlt m).map fun f => f.opSqrt

/-- VDIV, correctly rounded. -/
def State.vecDivide (s : State) (v : Nat) (f : Fields) : State :=
  s.issue v [] [f.a, f.b, f.d] fun s x =>
    let m := f.mod.toNat
    if 5 < m then s.voiceFault v 2
    else
      let w := laneW m
      let a := x.vr f.a.toNat
      let b := x.vr f.b.toNat
      match laneFlt m with
      | some g => s.writeV v f.d (packLanes w (List.zipWith g.opDiv (lanes w a) (lanes w b)))
      | none => s.writeV v f.d (freeLanes 0x62 m [a.toNat, b.toNat] w)

/-- VCMP: neither the relation's code nor the form of the result is stated. -/
def State.vecCompare (s : State) (v : Nat) (f : Fields) : State :=
  s.vec2 v f fun m a b => Config.freeLane 0x64 (16 * m + fld f.imm 0 3) 0 [a, b]

/-! ## The commands -/

def execVadd (v : VoiceId) (f : Fields) (s : State) : Host.Outcome State Fault Refusal :=
  .next (s.vec2 v.toNat f laneAdd)

def execVsub (v : VoiceId) (f : Fields) (s : State) : Host.Outcome State Fault Refusal :=
  .next (s.vec2 v.toNat f laneSub)

def execVmul (v : VoiceId) (f : Fields) (s : State) : Host.Outcome State Fault Refusal :=
  .next (s.vec2 v.toNat f laneMul)

def execVfma (v : VoiceId) (f : Fields) (s : State) : Host.Outcome State Fault Refusal :=
  .next (s.vec3 v.toNat f laneFma)

def execVmin (v : VoiceId) (f : Fields) (s : State) : Host.Outcome State Fault Refusal :=
  .next (s.vec2 v.toNat f laneMin)

def execVmax (v : VoiceId) (f : Fields) (s : State) : Host.Outcome State Fault Refusal :=
  .next (s.vec2 v.toNat f laneMax)

def execVand (v : VoiceId) (f : Fields) (s : State) : Host.Outcome State Fault Refusal :=
  .next (s.vecBits v.toNat f (fun a b => a &&& b))

def execVor (v : VoiceId) (f : Fields) (s : State) : Host.Outcome State Fault Refusal :=
  .next (s.vecBits v.toNat f (fun a b => a ||| b))

def execVxor (v : VoiceId) (f : Fields) (s : State) : Host.Outcome State Fault Refusal :=
  .next (s.vecBits v.toNat f (fun a b => a ^^^ b))

def execVsel (v : VoiceId) (f : Fields) (s : State) : Host.Outcome State Fault Refusal :=
  .next (s.vecSelect v.toNat f)

def execVbcast (v : VoiceId) (f : Fields) (s : State) : Host.Outcome State Fault Refusal :=
  .next (s.vecBroadcast v.toNat f)

def execVredsum (v : VoiceId) (f : Fields) (s : State) : Host.Outcome State Fault Refusal :=
  .next (s.vecReduce v.toNat f 0x4B laneAdd)

def execVredmax (v : VoiceId) (f : Fields) (s : State) : Host.Outcome State Fault Refusal :=
  .next (s.vecReduce v.toNat f 0x4C laneMax)

def execVperm (v : VoiceId) (f : Fields) (s : State) : Host.Outcome State Fault Refusal :=
  .next (s.vecPermute v.toNat f)

def execVcvt (v : VoiceId) (f : Fields) (s : State) : Host.Outcome State Fault Refusal :=
  .next (s.vecConvert v.toNat f)

def execVexp2 (v : VoiceId) (f : Fields) (s : State) : Host.Outcome State Fault Refusal :=
  .next (s.vecFloat1 v.toNat f 0x61 vexp2Op)

def execVdiv (v : VoiceId) (f : Fields) (s : State) : Host.Outcome State Fault Refusal :=
  .next (s.vecDivide v.toNat f)

def execVsqrt (v : VoiceId) (f : Fields) (s : State) : Host.Outcome State Fault Refusal :=
  .next (s.vecFloat1 v.toNat f 0x63 vsqrtOp)

def execVcmp (v : VoiceId) (f : Fields) (s : State) : Host.Outcome State Fault Refusal :=
  .next (s.vecCompare v.toNat f)

end Sys2Proof.Machine
end

