-- ==== Sys2Proof/Machine/Array.lean ====
section
/-! DEFINITION. Scratchpad accesses and the matrix array (R152, R153, R180, R183, R184, R187). -/

namespace Sys2Proof.Machine

/-! ## Scratchpad: 768 KiB a core -/

def padTop : Nat := 0xBFFFF

def padKey (core a : Nat) : Nat := core * 2 ^ 20 + a

def State.padRead (s : State) (core a n : Nat) : List Byte :=
  (List.range n).map fun i => tget (fun _ => 0) s.pads (padKey core (a + i))

def State.padWrite (s : State) (core : Nat) : Nat → List Byte → State
  | _, [] => s
  | a, b :: t => ({ s with pads := tput (fun _ => 0) s.pads (padKey core a) b }).padWrite core (a + 1) t

/-- The scratchpad address x[A] + IMM (R182). -/
def padAddr (x : Voice) (f : Fields) : Nat := (x.xr f.a.toNat + sext32 f.imm).toNat

/-- The fault of a scratchpad access (R185), alignment first. -/
def padFault (a n align : Nat) : Option Nat :=
  if a % align ≠ 0 then some 8 else if padTop < a + n - 1 then some 7 else none

/-- Width of LDS, STS, LD and ST: MOD[1:0]. -/
def accWidth (f : Fields) : Nat := 2 ^ (f.mod.toNat % 4)

def State.lds (s : State) (v : Nat) (f : Fields) : State :=
  s.issue v [f.a, f.d] [] fun s x =>
    let a := padAddr x f
    let n := accWidth f
    match padFault a n n with
    | some r => s.voiceFault v r
    | none => s.writeX v f.d (BitVec.ofNat 64 (leNat (s.padRead (coreOf v) a n)))

def State.sts (s : State) (v : Nat) (f : Fields) : State :=
  s.issue v [f.a, f.b] [] fun s x =>
    let a := padAddr x f
    let n := accWidth f
    match padFault a n n with
    | some r => s.voiceFault v r
    | none => (s.padWrite (coreOf v) a (leBytes n (x.xr f.b.toNat).toNat)).advance v

def State.vlds (s : State) (v : Nat) (f : Fields) : State :=
  s.issue v [f.a] [f.d] fun s x =>
    let a := padAddr x f
    match padFault a 256 64 with
    | some r => s.voiceFault v r
    | none => s.writeV v f.d (BitVec.ofNat 2048 (leNat (s.padRead (coreOf v) a 256)))

def State.vsts (s : State) (v : Nat) (f : Fields) : State :=
  s.issue v [f.a] [f.b] fun s x =>
    let a := padAddr x f
    match padFault a 256 64 with
    | some r => s.voiceFault v r
    | none => (s.padWrite (coreOf v) a (leBytes 256 (x.vr f.b.toNat).toNat)).advance v

/-! ## The array -/

/-- Is MOD an integer mode (4 int8, 6 int4)? -/
def ammInt (mod : Nat) : Bool := mod == 4 || mod == 6

/-- Bits of an element. -/
def ammBits (mod : Nat) : Nat := if mod = 5 ∨ mod = 6 then 4 else if mod = 7 then 16 else 8

/-- Bytes of one row of A or column of B: 32 elements, and in fp4 mode the scale after them. -/
def ammRow (mod : Nat) : Nat := 4 * ammBits mod + (if mod = 5 then 1 else 0)

/-- The value of an element; `isB` for an element of B. -/
def ammVal (mod : Nat) (isB : Bool) (x : Nat) : Fval :=
  match mod with
  | 4 => Fval.ofInt (sInt 8 x)
  | 5 => fp4Val x
  | 6 => Fval.ofInt (sInt 4 x)
  | 7 => Flt.bf16.val x
  | m => if (if isB then m % 2 else m / 2) = 0 then Flt.e4m3.val x else Flt.e5m2.val x

/-- The elements of a row or column held in memory order, and its scale. -/
def ammElems (mod : Nat) (isB : Bool) (bs : List Byte) : List Fval × Fval :=
  let n := leNat bs
  let w := ammBits mod
  ((List.range 32).map fun i => ammVal mod isB (n / 2 ^ (w * i) % 2 ^ w),
   if mod = 5 then e8m0Val (numAt bs 16 1) else .num false 1 0)

/-- t + A-row · B-column: the exact segment sum rounded once, scales first; integers wrap (R144, R180). -/
def ammStep (mod : Nat) (old : BitVec 32) (a b : List Byte) : BitVec 32 :=
  let (ea, sa) := ammElems mod false a
  let (eb, sb) := ammElems mod true b
  let seg := (Fval.sum (List.zipWith Fval.mul ea eb)).mul (sa.mul sb)
  if ammInt mod then
    match seg with
    | .num neg m e => old + BitVec.ofInt 32 (toInt 1 neg m e)
    | _ => old
  else
    BitVec.ofNat 32 (Flt.fp32.result [old.toNat, leNat a, leNat b] ((Flt.fp32.val old.toNat).add (Flt.fp32.rn seg)))

/-- Rows of a list of bytes, n bytes each. -/
def chunksOf (n : Nat) : Nat → List Byte → List (List Byte)
  | 0, _ => []
  | k + 1, l => l.take n :: chunksOf n k (l.drop n)

/-- The tile after an AMM. -/
def ammTile (mod : Nat) (x : Voice) (tile : Bool) (a b : List (List Byte)) : Voice :=
  (a.zipIdx).foldl (fun x r => (b.zipIdx).foldl (fun y c => y.setAcc tile r.2 c.2 (ammStep mod (x.acc tile r.2 c.2) r.1 c.1)) x) x

/-- Has a voice an AMM that has not completed? What reads its tiles waits for it (R152, R184). -/
def State.ammBusy (s : State) (v : Nat) : Bool :=
  (tget (fun _ => []) s.amms (coreOf v)).any fun q => q.voice.toNat == v && !q.stale

/-- Do the checks of an AMM compare a row at all? A row with a NaN or an infinity among its sums is left out (R150). -/
def ammChecked (mod rows : Nat) (tile : Bool) (x : Voice) : Bool :=
  ammInt mod || (List.range rows).any fun i => (List.range 32).all fun j => (Flt.fp32.val (x.acc tile i j).toNat).isNum

/-- AMM: it reads its operands in issue order (R187) and joins its core's queue until it is checked. -/
def State.amm (s : State) (v : Nat) (f : Fields) : State :=
  s.issue v [f.a, f.b] [] fun s x =>
    let m := f.mod.toNat
    let rows := fld f.imm 0 5 + 1
    let n := ammRow m
    let a := (x.xr f.a.toNat).toNat
    let b := (x.xr f.b.toNat).toNat
    let tile := bit f.d 0
    let c := coreOf v
    if 7 < m then s.voiceFault v 2
    else if padTop < a + n * rows - 1 ∨ padTop < b + n * 32 - 1 then s.voiceFault v 7
    else
      let ra := chunksOf n rows (s.padRead c a (n * rows))
      let rb := chunksOf n 32 (s.padRead c b (n * 32))
      let y := ammTile m x tile ra rb
      let q : Amm :=
        { own := x.slot, tenant := x.tenant, stale := false, voice := BitVec.ofNat 12 v, tile, mod := f.mod, rows, a, b
          checked := ammChecked m rows tile y }
      let s := s.updVoice v fun x => ammTile m x tile ra rb
      ({ s with amms := tput (fun _ => []) s.amms c (tget (fun _ => []) s.amms c ++ [q]) }).advance v

/-- The oldest AMM of a core completes and its checks are made (R152). A failed one ends its item ABFT_FAIL, a
contained event; an armed injection fails it and is recorded as injected (R153, R156). A product all of whose rows are left
out is not checked (R150). -/
def State.ammDone (s : State) (core : Nat) (checks : Bool) : State :=
  match tget (fun _ => []) s.amms core with
  | [] => s
  | q :: rest =>
    let s := { s with amms := tput (fun _ => []) s.amms core rest }
    let armed := tget (fun _ => false) s.abftArm core
    if !q.checked then s
    else if checks && !armed then s
    else
      let s := { s with abftArm := tput (fun _ => false) s.abftArm core false }
      let open_ := match s.item q.own with
        | some i => i.fault.isNone
        | none => false
      let s := s.count32 (R.attAbftG (core / 16))
      let s := if open_ then s.count R.attAbftFailTotal else s
      let s := s.record { ErrRec.plain 3 1 core 4 with injected := armed, status := St.abftFail, tenant := some q.tenant }
      s.refusedOf q.voice.toNat q.own q.stale (Cpl.why St.abftFail core)

/-- Bytes of a tile in scratchpad: 32 rows of 32 elements (log entry 38). -/
def State.aload (s : State) (v : Nat) (f : Fields) : State :=
  if s.ammBusy v then s
  else
    s.issue v [f.a] [] fun s x =>
      let a := (x.xr f.a.toNat).toNat
      if padTop < a + 4095 then s.voiceFault v 7
      else
        let bs := s.padRead (coreOf v) a 4096
        let tile := bit f.d 0
        (s.updVoice v fun x => (List.range 1024).foldl
          (fun y i => y.setAcc tile (i / 32) (i % 32) (BitVec.ofNat 32 (numAt bs (4 * i) 4))) x).advance v

def State.astore (s : State) (v : Nat) (f : Fields) : State :=
  if s.ammBusy v then s
  else
    s.issue v [f.a] [] fun s x =>
      let a := (x.xr f.a.toNat).toNat
      if padTop < a + 4095 then s.voiceFault v 7
      else
        let tile := bit f.d 0
        let bs := (List.range 1024).flatMap fun i => leBytes 4 (x.acc tile (i / 32) (i % 32)).toNat
        (s.padWrite (coreOf v) a bs).advance v

def State.azero (s : State) (v : Nat) (f : Fields) : State :=
  if s.ammBusy v then s
  else
    s.issue v [] [] fun s _ =>
      (s.updVoice v fun x => { x with t := tclear (1024 * b2n (bit f.d 0)) 1024 x.t }).advance v

/-- ATT_ABFT_INJECT (R156). -/
def State.abftInject (s : State) (w : BitVec 32) : State :=
  if bit w 0 then { s with abftArm := tput (fun _ => false) s.abftArm (fld w 1 9) true } else s

/-! ## The commands -/

def execLds (v : VoiceId) (f : Fields) (s : State) : Host.Outcome State Fault Refusal := .next (s.lds v.toNat f)

def execSts (v : VoiceId) (f : Fields) (s : State) : Host.Outcome State Fault Refusal := .next (s.sts v.toNat f)

def execVlds (v : VoiceId) (f : Fields) (s : State) : Host.Outcome State Fault Refusal := .next (s.vlds v.toNat f)

def execVsts (v : VoiceId) (f : Fields) (s : State) : Host.Outcome State Fault Refusal := .next (s.vsts v.toNat f)

def execAmm (v : VoiceId) (f : Fields) (s : State) : Host.Outcome State Fault Refusal := .next (s.amm v.toNat f)

def execAzero (v : VoiceId) (f : Fields) (s : State) : Host.Outcome State Fault Refusal := .next (s.azero v.toNat f)

def execAstore (v : VoiceId) (f : Fields) (s : State) : Host.Outcome State Fault Refusal := .next (s.astore v.toNat f)

def execAload (v : VoiceId) (f : Fields) (s : State) : Host.Outcome State Fault Refusal := .next (s.aload v.toNat f)

def execAmmComplete (core : BitVec 9) (checks : Bool) (s : State) : Host.Outcome State Fault Refusal :=
  .next (s.ammDone core.toNat checks)

def execAttAbftInject (port : Port) (value : BitVec 32) (s : State) : Host.Outcome State Fault Refusal :=
  .next (s.setupWrite port.toNat R.attAbftInject (some 0) false
    (heldWrite port.toNat R.attAbftInject (value.setWidth 64)) fun s =>
    s.abftInject value)

end Sys2Proof.Machine
end

