-- ==== Sys2Proof/Machine/Access.lean ====
section
/-! DEFINITION. Split-phase pool accesses of voices: issue, translation, the requests they make, the responses they take
and their completion (R79, R182 to R200, R239, R282, R296, R409). -/

namespace Sys2Proof.Machine

/-! ## What an access needs -/

/-- The lines an access touches: FPA ÷ 64, or an endpoint's address ÷ 64. -/
def Access.lines (a : Access) : List Nat := linesOf a.target.toNat a.len

def AccKind.atomic : AccKind → Bool
  | .aadd => true
  | .aswp => true
  | .acas => true
  | .amin => true
  | .amax => true
  | .alda => true
  | .astr => true
  | _ => false

/-- Does an access count as a write for the W check of R239? LINV and ALDA count as reads. -/
def AccKind.writes : AccKind → Bool
  | .st => true
  | .vst => true
  | .aadd => true
  | .aswp => true
  | .acas => true
  | .amin => true
  | .amax => true
  | .astr => true
  | _ => false

/-- Scope of an atomic, MOD[2:0]; device and rack are wide (R195, R198). -/
def Access.wide (a : Access) : Bool := decide (3 ≤ a.mod.toNat % 8)

/-- Does an atomic act at device or rack scope? Outside the pool every one does (R198). -/
def Access.outer (a : Access) : Bool := a.wide || a.tgt

/-- MOD[3]: the atomic acts as an acquire and a release (R198). -/
def Access.ord (a : Access) : Bool := a.kind.atomic && bit a.mod 3

/-- What came back for a line that no cache holds. -/
def Access.gotLine (a : Access) (line : Nat) : Option (Line × Bool) := (a.got.find? fun e => e.1 == line).map Prod.snd

/-- Has the gallery what an access needs of a line? -/
def State.lineReady (s : State) (g : Nat) (a : Access) (line : Nat) : Bool :=
  if a.tgt then (a.gotLine line).isSome
  else
    let buffered := (s.aline g line).isSome
    let c := (s.gline g line).state
    match a.kind with
    | .linv => true
    | .ldv => buffered || (a.gotLine line).isSome
    | .vldv => buffered || (a.gotLine line).isSome
    | .ld => buffered || c != .i || (a.gotLine line).isSome
    | .vld => buffered || c != .i || (a.gotLine line).isSome
    | .st => buffered || c == .e || c == .m
    | .vst => buffered || c == .e || c == .m
    | _ => if a.wide then !buffered && (c == .e || c == .m) else buffered || c != .i || (a.gotLine line).isSome

/-- Two accesses of a voice to one line keep their order (R190). -/
def Access.meets (a b : Access) : Bool := a.tgt == b.tgt && a.lines.any b.lines.contains

def State.access (s : State) (v : Nat) (slot : BitVec 2) : Option Access := (s.voice v).out.find? fun a => a.slot == slot

def State.updAccess (s : State) (v : Nat) (slot : BitVec 2) (f : Access → Access) : State :=
  s.updVoice v fun x => { x with out := mapIf (fun a => a.slot == slot) f x.out }

/-- The accesses a voice issued before one of its own. -/
def Voice.before (x : Voice) (slot : BitVec 2) : List Access := x.out.takeWhile fun a => a.slot != slot

/-- Must an access wait for an earlier one of its voice? -/
def Voice.blocked (x : Voice) (a : Access) : Bool :=
  (x.before a.slot).any fun b => !b.ready || b.meets a || b.kind == .linv

/-- Must a gallery's atomic buffer be written back before an ordered atomic goes on (R196, R199)? -/
def State.releases (s : State) (g : Nat) (a : Access) : Bool := a.ord && a.outer && !s.abufEmpty g

/-- Does an access read a line for the gallery to share: a load, or an atomic of narrow scope? -/
def Access.shares (a : Access) : Bool :=
  match a.kind with
  | .ld => true
  | .vld => true
  | k => k.atomic && !a.wide

/-- The operand bytes of an access that fall in one line, and which of its bytes they are. -/
def Access.piece (a : Access) (line : Nat) : Line × BitVec 64 :=
  let at_ := a.target.toNat
  let lo := max at_ (64 * line)
  let hi := min (at_ + a.len) (64 * line + 64)
  let n := hi - lo
  (BitVec.ofNat 512 (fld a.data (8 * (lo - at_)) (8 * n) * 2 ^ (8 * (lo - 64 * line))),
   BitVec.ofNat 64 ((2 ^ n - 1) * 2 ^ (lo - 64 * line)))

/-- The fabric atomic of an atomic instruction. -/
def AccKind.atOp : AccKind → HomeOp
  | .aadd => .atAdd
  | .alda => .atAdd
  | .aswp => .atSwp
  | .astr => .atSwp
  | .acas => .atCas
  | .amin => .atMin
  | _ => .atMax

/-- The request an access makes for a line: its operation, and what it carries. -/
def State.lineRequest (s : State) (g : Nat) (a : Access) (line : Nat) (r : Req) : HomeOp × Req :=
  let piece := a.piece line
  if a.tgt then
    let r := { r with tgt := true, key := BitVec.ofNat 24 (a.target.toNat / 2 ^ 52), addr := BitVec.ofNat 64 (64 * line % 2 ^ 52) }
    if a.kind.atomic then
      (a.kind.atOp, { r with
        addr := BitVec.ofNat 64 (a.target.toNat % 2 ^ 52)
        nl := BitVec.ofNat 2 (a.imm.toNat % 4)
        operand := if a.kind = .alda then 0 else BitVec.ofNat 64 (fld a.data 0 64), comparand := a.cmp })
    else if a.kind.writes then (.wrCm, { r with data := [piece.1], mask := piece.2 })
    else (.rdNc, r)
  else
    let want : HomeOp :=
      match a.kind with
      | .ldv => .rdNc
      | .vldv => .rdNc
      | .ld => .rdS
      | .vld => .rdS
      | .st => if (s.gline g line).state = .s then .upg else .rdX
      | .vst => if (s.gline g line).state = .s then .upg else .rdX
      | _ => if !a.wide then .rdS else if (s.gline g line).state = .s then .upg else .rdX
    (want, r)

/-- Has an access a request of its own out for a line? -/
def State.ownAsk (s : State) (v : Nat) (slot : BitVec 2) (line : Nat) : Bool :=
  s.tags.any fun e => match e.2.use with
    | .access w sl l _ => l == line && w.toNat == v && sl == slot
    | _ => false

/-- Is a request for a line of an access already out? One of the gallery's serves them all, unless the line has been invalidated since
(R190, R290); to an endpoint, and for a volatile read, each access has its own. -/
def State.asked (s : State) (g v : Nat) (a : Access) (line : Nat) : Bool :=
  s.ownAsk v a.slot line || s.tags.any fun e => match e.2.use with
    | .access w _ l _ => !a.tgt && !e.2.noInstall && l == line && galleryOf w.toNat == g
    | .evict h l => !a.tgt && h == g && l == line
    | .gone h l _ _ _ _ => !a.tgt && !e.2.noInstall && h == g && l == line
    | _ => false

/-- Send what an access still needs for one line. A volatile read first drops the gallery's own copy (R194), an atomic of device or rack
scope first has a buffered line written back (log entry 193), and a line to be cached first finds room in its set (R188). -/
def State.askLine (s : State) (v : Nat) (a : Access) (line : Nat) : State :=
  let g := galleryOf v
  if s.lineReady g a line || s.asked g v a line then s
  else
    let s := if a.kind = .ldv ∨ a.kind = .vldv then s.evictLine g line else s
    let s := if !a.tgt && a.kind.atomic && a.wide then s.abufWriteBack g line else s
    let (op, r) := s.lineRequest g a line (s.galleryReq g 0 a.tenant a.key (64 * line))
    let s := if op.caches && (s.gline g line).state == .i then s.makeWay g line else s
    if (!a.tgt && (a.kind == .ldv || a.kind == .vldv) && (s.gline g line).state != .i)
        ∨ (!a.tgt && a.kind.atomic && a.wide && (s.aline g line).isSome)
        ∨ (op.caches && (s.gline g line).state == .i && s.setFull g line) ∨ s.lineReady g a line then s
    else
      match s.freeTag with
      | none => s
      | some t =>
        let r := { r with tag := BitVec.ofNat 15 t }
        (s.takeTag t (.access (BitVec.ofNat 12 v) a.slot line op)).sendReq op r

/-- Send what an access needs, once it is translated and nothing of its voice's before it stands in the way. -/
def State.pump (s : State) (v : Nat) (slot : BitVec 2) : State :=
  match s.access v slot with
  | none => s
  | some a =>
    if !a.ready ∨ (s.voice v).blocked a then s
    else if s.releases (galleryOf v) a then s.abufFlush (galleryOf v)
    else s.each a.lines fun s l => s.askLine v a l

/-- Every access of a gallery is looked at again. -/
def State.pumpGallery (s : State) (g : Nat) : State :=
  s.each (s.voices.filter fun e => galleryOf e.1 == g) fun s e => s.each e.2.out fun s a => s.pump e.1 a.slot

/-! ## Translation (R239, R241) -/

/-- What a tag of an access serves once that access has ended: a line its gallery gets, or nothing. -/
def goneUse (a : Option Access) (zero : Bool) : TagUse → TagUse
  | .access v _ line op =>
    if op = .rdS ∨ op = .rdX ∨ op = .upg then
      match a with
      | some a => .gone (galleryOf v.toNat) line op a.tenant a.key zero
      | none => .other
    else .other
  | u => u

/-- An access ends: it leaves its voice; a line it asked for still comes to its gallery. -/
def State.dropAccess (s : State) (v : Nat) (slot : BitVec 2) (zero : Bool := false) : State :=
  let w := BitVec.ofNat 12 v
  let a := s.access v slot
  let s := s.updVoice v fun x => { x with
    out := dropIf (fun a => a.slot == slot) x.out, stall := if x.stall = some slot then none else x.stall }
  let s := s.each (s.tags.filter fun e => match e.2.use with
    | .access u sl _ _ => u == w && sl == slot
    | _ => false) fun s e => s.setTag e.1 { s.tag e.1 with use := goneUse a zero (s.tag e.1).use }
  s.accessGone w slot

/-- A translation fault of an access: recorded, and a fault of its voice with reason 0x06 (R185, R239). -/
def State.accessFault (s : State) (v : Nat) (a : Access) (reason level : Nat) (addr : Nat := 0) : State :=
  let s := s.xltFault a.tenant.toNat a.dva.toNat reason level a.kind.writes (coreOf v)
  (s.dropAccess v a.slot).faultOf v a.own a.tenant a.stale 6 addr

/-- Translate an access through its gallery's cache: ready, a fault of the leaf, or a walk. -/
def State.translateAccess (s : State) (v : Nat) (slot : BitVec 2) : State :=
  match s.access v slot with
  | none => s
  | some a =>
    let g := galleryOf v
    let t := a.tenant
    if a.ready then s
    else
      match s.tlbFind g t a.dva.toNat with
      | some e =>
        let x := e.xlat a.dva.toNat
        match s.leafFault x a.kind.writes with
        | some r => s.accessFault v a r ((if x.bits = 16 then 0 else if x.bits = 21 then 1 else 2))
        | none =>
          let s := (s.tlbUse e).updAccess v slot fun a =>
            { a with ready := true, tgt := x.tgt, target := BitVec.ofNat 64 x.addr, key := x.key, bits := x.bits }
          s.pump v slot
      | none =>
        let s := if !s.forcedWalk g t a.dva.toNat then s
          else (s.updAccess v slot fun a => { a with forced := true }).updVoice v fun x => { x with forced := x.forced || !a.stale }
        if s.walking g t a.dva.toNat then s
        else
          match s.startWalk g t a.dva.toNat false with
          | .error (r, l) => s.accessFault v a r l
          | .ok s => s

/-- Every access of a gallery that waits for a translation is looked at again. -/
def State.translateGallery (s : State) (g : Nat) : State :=
  s.each (s.voices.filter fun e => galleryOf e.1 == g) fun s e => s.each e.2.out fun s a => s.translateAccess e.1 a.slot

/-! ## Responses (R282, R290, R296, R409) -/

/-- An access refused or failed at its target ends, and decides its item's status. A BAD_DESCRIPTOR is a translation
fault found at the target, whose reason comes with it (R239). -/
def State.endAccess (s : State) (v : Nat) (a : Access) (status : Byte) (reason : Nat := 8) : State :=
  if status = St.badDescriptor then s.accessFault v a reason 7 (if a.tgt then 0 else a.target.toNat)
  else (s.dropAccess v a.slot).refusedOf v a.own a.stale (Cpl.of status)

/-- The accesses of a gallery that wait for a line to share, have no request of their own out for it and follow none of their voice's
that must come first (R190). -/
def State.sharers (s : State) (g line : Nat) : List (Nat × Access) :=
  (s.voices.filter fun e => galleryOf e.1 == g).flatMap fun e =>
    (e.2.out.filter fun a => a.ready && !a.tgt && a.lines.contains line && a.shares && !s.lineReady g a line
      && !s.ownAsk e.1 a.slot line && !e.2.blocked a).map fun a => (e.1, a)

/-- They take data that is not installed (R290, R409). -/
def State.serveLoads (s : State) (g line : Nat) (d : Line) (poison : Bool) : State :=
  s.each (s.sharers g line) fun s e => s.updAccess e.1 e.2.slot fun a => { a with got := a.got ++ [(line, d, poison)] }

/-- A line that its home gives unpoisoned but not to keep is weights: an atomic that would write it is refused there (R263; log entry
195). -/
def State.refuseWeights (s : State) (g line : Nat) : State :=
  s.each ((s.sharers g line).filter fun e => e.2.kind.writes) fun s e => s.endAccess e.1 e.2 St.badDescriptor 9

/-- A response for a request of an access. -/
def State.accessRsp (s : State) (t : Nat) (q : ReqTag) (v : VoiceId) (slot : BitVec 2) (line : Nat) (hop : HomeOp)
    (op : BitVec 5) (r : Rsp) : State :=
  let g := galleryOf v.toNat
  let s := s.setTag t ReqTag.free
  let d := r.data.headD 0
  let poison := r.status == St.poisoned
  let keep (s : State) (bad : Bool) : State := s.updAccess v.toNat slot fun a => { a with got := a.got ++ [(line, d, bad)] }
  let s :=
    if r.status ≠ St.done ∧ !poison then
      match s.access v.toNat slot with
      | some a => s.endAccess v.toNat a r.status (homeReason r.info)
      | none => s
    else if hop = .rdS ∨ hop = .rdX ∨ hop = .upg then
      let (key, tenant) := match s.access v.toNat slot with
        | some a => (a.key, a.tenant)
        | none => (0, (s.voice v.toNat).tenant)
      if op = Op.cmp then
        let c := s.gline g line
        if c.state = .i then s else s.setGline g line { c with state := .m }
      else if r.grant = 0 ∨ q.noInstall ∨ poison then
        (if r.grant = 0 ∧ !poison then s.refuseWeights g line else s).serveLoads g line d poison
      else
        let st : CohState := if r.grant = 1 then .s else if r.grant = 2 then .e else .m
        s.setGline g line { state := st, tenant, key, data := d }
    else keep s poison
  let s := match q.held with
    | some (o, n) => s.agentSnoop o n
    | none => s
  -- a poisoned line that a store or a wide atomic asked for ends that access (R409)
  let s := if poison ∧ (hop = .rdX ∨ hop = .upg) then
      match s.access v.toNat slot with
      | some a => s.endAccess v.toNat a St.poisoned
      | none => s
    else s
  s.pumpGallery g

/-- A response for a line whose access has ended: the line is installed, with zeros where its partition was scrubbed (R339), and
serves other loads of its gallery. -/
def State.goneRsp (s : State) (t : Nat) (q : ReqTag) (g line : Nat) (tenant : Tenant) (key : BitVec 24) (zero : Bool)
    (op : BitVec 5) (r : Rsp) : State :=
  let s := s.setTag t ReqTag.free
  let d := r.data.headD 0
  let c := s.gline g line
  let s :=
    if r.status ≠ St.done then s
    else if op = Op.cmp then (if c.state = .i then s else s.setGline g line { c with state := .m })
    else if zero then
      (if 2 ≤ r.grant.toNat then s.setGline g line { state := if r.grant = 2 then .e else .m, tenant, key, data := 0 } else s)
    else if r.grant = 0 ∨ q.noInstall then s.serveLoads g line d false
    else s.setGline g line { state := if r.grant = 1 then .s else if r.grant = 2 then .e else .m, tenant, key, data := d }
  let s := match q.held with
    | some (o, n) => s.agentSnoop o n
    | none => s
  s.pumpGallery g

/-! ## What engines' requests bring -/

/-- Does an engine still want what its reads bring? -/
def State.stillWaits (s : State) : Waiter → Bool
  | .flight r p _ => (s.flight r.toNat p.toNat).any fun f => f.stage.open_
  | .fetch r => (s.ring r.toNat).fetching != 0
  | .stream v tok => ((s.voice v.toNat).stream tok).any fun x => x.done.isNone
  | _ => false

/-- What a read brought: line by line, with its status. Lines that came poisoned together are asked for again one by one (R56). -/
def State.engineRead (s : State) (q : EngReq) (r : Rsp) : State :=
  let first := ((if q.req.tgt then q.req.key.toNat % 4096 * 2 ^ 52 else 0) + q.req.addr.toNat) / 64
  let n := q.req.nl.toNat + 1
  if !s.stillWaits q.who then s
  else if r.status = St.poisoned ∧ 1 < n then
    s.each (List.range n) fun s i => s.engineReq { q with req := { q.req with nl := 0, addr := q.req.addr + BitVec.ofNat 64 (64 * i) } }
  else
    { s with came := s.came ++ (List.range n).map fun i =>
      { who := q.who, tgt := q.req.tgt, line := first + i, data := r.data.getD i 0, status := r.status, reason := homeReason r.info } }

/-- A completion whose last writes fail: the first failure decides its status, and a transfer has not written those bytes (R52, R56). -/
def Cpl.unwritten (c : Cpl) (why : Refuse) (off bytes : Nat) (dma : Bool) : Cpl :=
  let n := if dma then BitVec.ofNat 64 (c.result0.toNat - bytes) else c.result0
  { (if c.status = St.done ∨ c.status = St.poisoned then why.cpl off else c) with result0 := n }

/-- A write of a descriptor is refused or goes unanswered: it decides the completion, an item's by its fault (R85). -/
def State.flightUnwritten (s : State) (r : RingId) (pos : Pos) (off : Nat) (q : EngReq) (why : Refuse) : State :=
  let dma := (s.ring r.toNat).kind == .dma
  let fail (f : Flight) : Flight := match f.stage with
    | .landing c => { f with stage := .landing (c.unwritten why off q.bytes dma) }
    | _ => f
  let s := (s.noteRefusal (s.ring r.toNat).tenant true 0x3FF q.dva why).updRing r.toNat fun x =>
    { x with flights := mapIf (fun f => f.pos == pos) fail x.flights, failedAt := if dma then some pos else x.failedAt }
  match s.rot.items.find? fun e => e.2.ring == r && e.2.pos == pos with
  | some e => s.itemFault e.1 (why.cpl off)
  | none => s

/-- A write is answered (R38, R52, R58, R199, R243, R356). -/
def State.engineWrote (s : State) (q : EngReq) (status : Byte) (reason : Nat) : State :=
  let ok := status == St.done
  let why := statusRefuse status reason
  match q.who with
  | .flight r pos off => (if ok then s else s.flightUnwritten r pos off q why).landed r.toNat pos.toNat
  | .record r place =>
    if ok then s else ((s.noteRefusal (s.ring r.toNat).tenant true 0x3FF q.dva why).dropRecord r.toNat place).settle r.toNat
  | .stream v tok =>
    match (s.voice v.toNat).stream tok with
    | none => s
    | some st =>
      if st.done.isSome then s
      else if ok then s
      else (s.noteRefusal st.tenant.toNat true (coreOf v.toNat) q.dva why).streamStops v.toNat tok why.ends
  | .relief r pos => (if ok then s else s.updRelief r pos fun x => { x with late := true }).reliefEnd r pos
  | .abuf g => (s.abufWritten g (q.req.addr.toNat / 64)).pumpGallery g
  | .fetch _ => s
  | .nobody => s

/-- A response to a request of an engine. -/
def State.engineEnd (s : State) (t : Nat) (q : EngReq) (r : Rsp) : State :=
  let s := s.setTag t ReqTag.free
  if q.op.writes then s.engineWrote q r.status (homeReason r.info) else s.engineRead q r

/-- A response at the device it is for. A home's OVEROCC is this rotation's too (R82, R297). -/
def State.ownRsp (s : State) (op : BitVec 5) (r : Rsp) : State :=
  if op = Op.snAck then s.homeAck r
  else if op = Op.snData then s.homeSnData r
  else if op = Op.wbData then s.homeWbData r
  else
    let t := r.tag.toNat
    let q := s.tag t
    let s := if r.overocc && r.rot && s.rot.phase != .idle then { s with rot := { s.rot with overran := true } } else s
    match q.use with
    | .free => s.count R.smfStrayTotal
    | .quarantined => s.count R.smfStrayTotal
    | .access v slot line hop => s.accessRsp t q v slot line hop op r
    | .gone g line _ tenant key zero => s.goneRsp t q g line tenant key zero op r
    | .evict g line =>
      if op = Op.wbPull then
        let c := (s.victimLine g line).getD CLine.none
        s.sendRsp Op.wbData { r with
          dst := homeEp (BitVec.ofNat 64 (64 * line)), from_ := BitVec.ofNat 6 s.devNo, agent := BitVec.ofNat 5 g
          status := St.done, overocc := false, data := [c.data] }
      else
        let s := s.setTag t ReqTag.free
        ({ s with victims := ldel s.victims (cacheKey g line) } : State).pumpGallery g
    | .host p tag =>
      let s := s.setTag t ReqTag.free
      let bad := r.status ≠ St.done
      s.hostAnswer p.toNat tag (r.data.headD 0) bad (bad && r.status != St.poisoned)
    | .engine e => s.engineEnd t e r
    | .mg o =>
      let s := s.setTag t ReqTag.free
      if r.status = St.done then s else { s with missed := s.missed ++ [o] }
    | .other => s.setTag t ReqTag.free

/-! ## The causeway at work (R18 to R20) -/

def State.deliverMsg (s : State) : Msg → State
  | .req op r host => s.homeRequest op r host
  | .rsp op r => s.ownRsp op r
  | .snp op r => s.agentSnoop op r
  | .retry b => s.retryBlock b
  | .recall l => s.recallRead l
  | .sweep => s.sweepStart

/-- A message's class in order of precedence: RSP, SNP, REQ, MGT. -/
def Msg.cls : Msg → Nat
  | .rsp _ _ => 0
  | .snp _ _ => 1
  | .req _ _ _ => 2
  | _ => 3

/-- The stop after `a` on the way to `b`: along the row first, then along the column. -/
def nextStop (a b : Nat) : Nat :=
  if a % 128 < b % 128 then a + 1 else if b % 128 < a % 128 then a - 1 else if a / 128 < b / 128 then a + 128 else a - 128

/-- Packets of one class that a stop holds (log entry 188). -/
def stopRoom : Nat := 8

/-- May a packet go on: it has arrived, or the next stop has a credit for its class? -/
def State.mayMove (s : State) (p : Packet) : Bool :=
  p.at_ == p.to_ || decide ((s.net.filter fun q =>
    q.inside && q.at_ == nextStop p.at_ p.to_ && q.msg.cls == p.msg.cls).length < stopRoom)

/-- The packet that moves next: of the class that takes precedence, the oldest that may move. -/
def State.nextPacket (s : State) : Option (Nat × Packet) :=
  [0, 1, 2, 3].findSome? fun c =>
    (s.net.zipIdx.find? fun e => e.1.msg.cls == c && s.mayMove e.1).map fun e => (e.2, e.1)

/-- Move packets, at most `fuel` times; what remains stays on its way. Where fewer packets are about than a stop holds, no credit can be
wanting, and a packet goes to its end at once. Engines' requests that wait for a tag follow as tags become free. -/
def State.settleNet : Nat → State → State
  | 0, s => s
  | n + 1, s =>
    match s.nextPacket with
    | none => if !s.engineQ.isEmpty && s.freeTag.isSome then State.settleNet n s.pumpEngineQ else s
    | some (i, p) =>
      if p.at_ = p.to_ ∨ s.net.length ≤ stopRoom then State.settleNet n (({ s with net := s.net.eraseIdx i } : State).deliverMsg p.msg)
      else State.settleNet n { s with net := s.net.set i { p with at_ := nextStop p.at_ p.to_, inside := true } }

def netFuel : Nat := 1000000

def State.runNet (s : State) : State := State.settleNet netFuel s

/-! ## Issue (R79, R182, R193, R195, R198) -/

/-- An access is issued: at most four are outstanding, a fifth waits until the oldest of them returns, and none passes an ordered
atomic. -/
def State.issueAccess (s : State) (v : Nat) (a : Access) : State :=
  let x := s.voice v
  if x.stall.isSome ∨ x.out.any Access.ord ∨ (a.ord ∧ !x.out.isEmpty) then s
  else if 4 ≤ x.out.length then s.setVoice v { x with stall := x.out.head?.map fun b => b.slot }
  else
    match least (fun i => !(x.out.any fun b => b.slot.toNat == i)) 4 with
    | none => s
    | some i =>
      let s := s.updVoice v fun x => { x with out := x.out ++ [{ a with slot := BitVec.ofNat 2 i, own := x.slot, sentence := x.sentence, tenant := x.tenant }] }
      let s := s.advance v
      (s.translateAccess v (BitVec.ofNat 2 i)).runNet

def Access.blank (kind : AccKind) (f : Fields) (dva : Word) (len : Nat) : Access :=
  { own := 0, sentence := 0, forced := false, tenant := 0, stale := false, slot := 0, kind, dst := f.d, dva, len, data := 0, cmp := 0, mod := f.mod, imm := f.imm, ready := false, tgt := false
    target := 0, key := 0, bits := 0, got := [] }

/-- The DVA x[A] + IMM. -/
def poolAddr (x : Voice) (f : Fields) : Word := x.xr f.a.toNat + sext32 f.imm

/-- A load or store of the scalar unit. -/
def State.scalarAccess (s : State) (v : Nat) (f : Fields) (k : AccKind) (xs : List (BitVec 5)) : State :=
  s.issue v xs [] fun s x =>
    let n := accWidth f
    let a := poolAddr x f
    if a.toNat % n ≠ 0 then s.voiceFault v 8
    else s.issueAccess v { Access.blank k f a n with data := BitVec.ofNat 2048 ((x.xr f.b.toNat).toNat % 2 ^ (8 * n)) }

/-- A load or store of the vector unit. -/
def State.vectorAccess (s : State) (v : Nat) (f : Fields) (k : AccKind) (vs : List (BitVec 5)) : State :=
  s.issue v [f.a] vs fun s x =>
    let a := poolAddr x f
    if a.toNat % 256 ≠ 0 then s.voiceFault v 8
    else s.issueAccess v { Access.blank k f a 256 with data := x.vr f.b.toNat }

/-- LINV: the range and its fault (R193). -/
def State.linv (s : State) (v : Nat) (f : Fields) : State :=
  s.issue v [f.a, f.b] [] fun s x =>
    let a := (x.xr f.a.toNat).toNat
    let n := (x.xr f.b.toNat).toNat
    if n = 0 ∨ 65536 < n ∨ a / 65536 ≠ (a + n - 1) / 65536 then s.voiceFault v 7
    else s.issueAccess v (Access.blank .linv f (BitVec.ofNat 64 a) n)

/-- An atomic: reserved scopes, alignment, then issue (R195, R198). -/
def State.atomic (s : State) (v : Nat) (f : Fields) (k : AccKind) (xs : List (BitVec 5)) : State :=
  s.issue v (f.a :: xs) [] fun s x =>
    let n := if bit f.imm 0 then 8 else 4
    let a := x.xr f.a.toNat
    if 4 < f.mod.toNat % 8 then s.voiceFault v 2
    else if a.toNat % n ≠ 0 then s.voiceFault v 8
    else s.issueAccess v { Access.blank k f a n with
      data := BitVec.ofNat 2048 ((x.xr f.b.toNat).toNat % 2 ^ (8 * n))
      cmp := BitVec.ofNat 64 ((x.xr f.c.toNat).toNat % 2 ^ (8 * n)) }

/-- FENCE (R195, R196): an acquire waits for earlier reads, a release or full fence for every earlier access, and one at
device or rack scope for the write-back of the gallery's atomic buffer. -/
def State.fence (s : State) (v : Nat) (f : Fields) : State :=
  s.issue v [] [] fun s x =>
    let scope := f.mod.toNat % 8
    let kind := f.imm.toNat % 4
    if 4 < scope ∨ kind = 0 then s.voiceFault v 2
    else if (if kind = 1 then x.out.any fun a => a.kind.toX || a.kind.toV else !x.out.isEmpty) then s
    else
      let outer := decide (1 < kind ∧ 3 ≤ scope)
      let s := if outer then (s.abufFlush (galleryOf v)).runNet else s
      if outer && !s.abufEmpty (galleryOf v) then s else s.advance v

/-! ## Completion -/

/-- A line as the gallery's own voices see it. -/
def State.seenLine (s : State) (g : Nat) (a : Access) (line : Nat) : Line × Bool :=
  if a.tgt then (a.gotLine line).getD (0, false)
  else
    match s.aline g line with
    | some b => (b.data, false)
    | none =>
      let c := s.gline g line
      if c.state = .i ∨ a.kind = .ldv ∨ a.kind = .vldv then (a.gotLine line).getD (c.data, false) else (c.data, false)

/-- The bytes an access reads, and whether any is poisoned. -/
def State.seen (s : State) (g : Nat) (a : Access) : Nat × Bool :=
  let got := a.lines.map fun l => s.seenLine g a l
  let bs := got.flatMap fun e => lineBytes e.1
  (leNat (slice bs (a.target.toNat % 64) a.len), got.any Prod.snd)

/-- Write bytes of a line into the gallery: the buffered copy, or the cache in M (R199). -/
def State.putLine (s : State) (g line : Nat) (d : Line) (mask : BitVec 64) : State :=
  match s.aline g line with
  | some b => { s with abuf := lput s.abuf (cacheKey g line) { b with data := mergeLine mask d b.data, mask := b.mask ||| mask } }
  | none =>
    let c := s.gline g line
    s.setGline g line { c with state := .m, data := mergeLine mask d c.data }

/-- What an atomic of a voice writes (R198). -/
def Access.newValue (a : Access) (old : Nat) : Nat :=
  let x := fld a.data 0 64
  match a.kind with
  | .alda => old
  | .aswp => x
  | .astr => x
  | k => atomicNew k.atOp (bit a.imm 0) (bit a.imm 1) old x a.cmp.toNat

/-- The gallery performs an atomic: narrow scopes in the atomic buffer, which the line enters first, the others in the
cache (R198, R199). -/
def State.doAtomic (s : State) (v : Nat) (a : Access) (old : Nat) : State :=
  let g := galleryOf v
  let line := a.target.toNat / 64
  let s := if a.wide ∨ (s.aline g line).isSome then s
    else s.abufEnter g line
      { data := (s.seenLine g a line).1, mask := 0, tenant := a.tenant, key := a.key, draining := false }
  if a.kind = .alda ∨ a.newValue old = old then s
  else
    let p := { a with data := BitVec.ofNat 2048 (a.newValue old) }.piece line
    s.putLine g line p.1 p.2

/-- Give a result to the voice; one that was halted discards it (R84). -/
def State.result (s : State) (v : Nat) (a : Access) (w : Nat) : State :=
  if (s.voice v).running ∧ a.stale = false then
    if a.kind.toX then s.updVoice v fun x => x.setX a.dst.toNat (BitVec.ofNat 64 w)
    else if a.kind.toV then s.updVoice v fun x => x.setV a.dst.toNat (BitVec.ofNat 2048 w)
    else s
  else s

/-- Perform an access whose lines are all there. -/
def State.perform (s : State) (v : Nat) (a : Access) : State :=
  let g := galleryOf v
  let (old, poison) := s.seen g a
  if a.kind = .linv then (s.count R.corLinvTotal).dropAccess v a.slot
  else if poison then (s.dropAccess v a.slot).refusedOf v a.own a.stale (Cpl.of St.poisoned)
  else
    let s :=
      if a.tgt then s
      else if a.kind = .st ∨ a.kind = .vst then
        s.each a.lines fun s l => s.putLine g l (a.piece l).1 (a.piece l).2
      else if a.kind.atomic then s.doAtomic v a old
      else s
    let s := if a.kind = .ldv ∨ a.kind = .vldv then s.count R.corVolatileTotal else s
    (s.result v a old).dropAccess v a.slot

/-- The class of bound an access has (R59, R88): gallery cache where its bound is 38 ns, else its home's. -/
def State.boundClass (s : State) (a : Access) (bound : Nat) : Nat × Nat :=
  let dev := if a.tgt then a.target.toNat / 2 ^ 58 else a.target.toNat / 2 ^ 50
  if bound = 38 then (2, 0)
  else if a.tgt ∨ dev ≠ s.devNo then (3, s.hops s.devNo dev)
  else if (s.granule (a.target.toNat % 2 ^ 50 / 65536)).tier = .far then (1, 0) else (0, 0)

/-- POOL_ACCESS_COMPLETE: the access completes once it is translated, what it needs is there, and none of its voice's
earlier accesses stands in its way; LINV once none of its lines is cached any more or on its way to the cache (R193), an atomic of narrow
scope once the buffer has room for its line, and an ordered one once it is written back (R196, R199). -/
def State.accessComplete (s : State) (v : Nat) (slot : BitVec 2) (measured bound : Nat) : State :=
  let s := (s.pump v slot).runNet
  match s.access v slot with
  | none => s
  | some a =>
    let g := galleryOf v
    if !a.ready ∨ (s.voice v).blocked a ∨ s.fenced 2 g then s
    else
      let s := if a.kind = .linv ∧ !a.tgt then (s.each a.lines fun s l => s.evictLine g l).runNet else s
      let still := a.kind == .linv && !a.tgt && a.lines.any fun l =>
        (s.gline g l).state != .i || (s.victimLine g l).isSome || (s.requestFor g l).isSome
      let narrow := a.kind.atomic && !a.outer
      let s := if narrow then (s.each a.lines fun s l => s.abufMakeRoom g l).runNet else s
      if still ∨ s.releases g a ∨ !(a.lines.all fun l => s.lineReady g a l && (!narrow || s.abufRoom g l)) then s
      else
        let (cls, hops) := s.boundClass a bound
        let s := if bound < measured ∧ bound ≠ 0 ∧ !s.rot.overran ∧ !a.forced then s.boundExceeded v a.own a.sentence cls hops measured bound else s
        ((s.perform v a).pumpGallery g).runNet

/-! ## The commands -/

def execLd (v : VoiceId) (f : Fields) (s : State) : Host.Outcome State Fault Refusal :=
  .next (s.scalarAccess v.toNat f .ld [f.a, f.d])

def execSt (v : VoiceId) (f : Fields) (s : State) : Host.Outcome State Fault Refusal :=
  .next (s.scalarAccess v.toNat f .st [f.a, f.b])

def execVld (v : VoiceId) (f : Fields) (s : State) : Host.Outcome State Fault Refusal :=
  .next (s.vectorAccess v.toNat f .vld [f.d])

def execVst (v : VoiceId) (f : Fields) (s : State) : Host.Outcome State Fault Refusal :=
  .next (s.vectorAccess v.toNat f .vst [f.b])

def execLdv (v : VoiceId) (f : Fields) (s : State) : Host.Outcome State Fault Refusal :=
  .next (s.scalarAccess v.toNat f .ldv [f.a, f.d])

def execVldv (v : VoiceId) (f : Fields) (s : State) : Host.Outcome State Fault Refusal :=
  .next (s.vectorAccess v.toNat f .vldv [f.d])

def execLinv (v : VoiceId) (f : Fields) (s : State) : Host.Outcome State Fault Refusal := .next (s.linv v.toNat f)

def execAadd (v : VoiceId) (f : Fields) (s : State) : Host.Outcome State Fault Refusal :=
  .next (s.atomic v.toNat f .aadd [f.b, f.d])

def execAswp (v : VoiceId) (f : Fields) (s : State) : Host.Outcome State Fault Refusal :=
  .next (s.atomic v.toNat f .aswp [f.b, f.d])

def execAcas (v : VoiceId) (f : Fields) (s : State) : Host.Outcome State Fault Refusal :=
  .next (s.atomic v.toNat f .acas [f.b, f.c, f.d])

def execAmin (v : VoiceId) (f : Fields) (s : State) : Host.Outcome State Fault Refusal :=
  .next (s.atomic v.toNat f .amin [f.b, f.d])

def execAmax (v : VoiceId) (f : Fields) (s : State) : Host.Outcome State Fault Refusal :=
  .next (s.atomic v.toNat f .amax [f.b, f.d])

def execAlda (v : VoiceId) (f : Fields) (s : State) : Host.Outcome State Fault Refusal :=
  .next (s.atomic v.toNat f .alda [f.d])

def execAstr (v : VoiceId) (f : Fields) (s : State) : Host.Outcome State Fault Refusal :=
  .next (s.atomic v.toNat f .astr [f.b])

def execFence (v : VoiceId) (f : Fields) (s : State) : Host.Outcome State Fault Refusal := .next (s.fence v.toNat f)

end Sys2Proof.Machine
end

