-- ==== Sys2Proof/Machine/Attend.lean ====
section
/-! DEFINITION. The arithmetic of attention, rounding by rounding: rotary encoding, conversion of rows, scores, weights,
chunks and their tree (R135, R140 to R150). -/

namespace Sys2Proof.Machine

/-! ## Rows (R104, R141 to R143) -/

/-- A list cut into pieces of n elements. -/
def pieces32 {α : Type} (n : Nat) : Nat → List α → List (List α)
  | 0, _ => []
  | k + 1, l => if l.isEmpty then [] else l.take n :: pieces32 n k (l.drop n)

/-- The values of n elements held in memory order in a format of w bits. -/
def elems (w n : Nat) (val : Nat → Fval) (bs : List Byte) : List Fval :=
  let x := leNat bs
  (List.range n).map fun i => val (x / 2 ^ (w * i) % 2 ^ w)

/-- A row as the array reads it: the operand of QKᵀ, the scales of an int4 key, the operand of PV, and whether every
value is finite. -/
structure KvRow where
  key : List Fval
  scales : List Fval
  value : List Fval
  finite : Bool
deriving DecidableEq, Repr

/-- A row of d elements of a KVFMT (R104, R143). An int4 value is RN-converted to bf16 from code × scale. -/
def kvRow (kvfmt d : Nat) (bs : List Byte) : KvRow :=
  if kvfmt = 2 then
    let codes := elems 4 d (fun x => Fval.ofInt (sInt 4 x)) (bs.take (d / 2))
    let scales := elems 16 (d / 32) Flt.bf16.val (bs.drop (d / 2))
    let value := (pieces32 32 (d / 32) codes).zipWith (fun c s => c.map fun v => Flt.bf16.rn (v.mul s)) scales
    { key := codes, scales, value := value.flatten, finite := scales.all Fval.isNum }
  else
    let v := if kvfmt = 3 then elems 16 d Flt.bf16.val bs
      else elems 8 d (if kvfmt = 0 then Flt.e4m3.val else Flt.e5m2.val) bs
    { key := v, scales := [], value := v, finite := v.all Fval.isNum }

/-- A rotary profile as an item samples it (R141, R156): half-split style, and its frequencies. -/
structure Rope where
  half : Bool
  freqs : List Fval
deriving DecidableEq, Repr

/-- An element of a new row: its bf16 bits, or the fp32 value a rotation gave it with the sign of a NaN (log entry 35). -/
inductive NewElem where
  | raw (bits : Nat)
  | rotated (v : Fval) (neg : Bool)
deriving DecidableEq, Repr

def NewElem.value : NewElem → Fval
  | .raw b => Flt.bf16.val b
  | .rotated v _ => v

def NewElem.neg : NewElem → Bool
  | .raw b => b / 32768 % 2 == 1
  | .rotated _ n => n

/-- Rotate a key at position t (R141). -/
def ropeRow (r : Rope) (t : Nat) (bits : List Nat) : List NewElem :=
  let h := r.freqs.length
  let cs := r.freqs.map (cosSin t)
  bits.mapIdx fun e b =>
    if 2 * h ≤ e then .raw b
    else
      let k := if r.half then e % h else e / 2
      let first := if r.half then decide (e < h) else decide (e % 2 = 0)
      let p := if r.half then (if first then e + h else e - h) else (if first then e + 1 else e - 1)
      let (c, s) := cs.getD k (.nan, .nan)
      let x := Flt.bf16.val b
      let y := Flt.bf16.val (bits.getD p 0)
      let v := if first then ((Flt.fp32.rn (x.mul c)).sub (Flt.fp32.rn (y.mul s)))
        else ((Flt.fp32.rn (y.mul s)).add (Flt.fp32.rn (x.mul c)))
      .rotated (Flt.fp32.rn v) (Config.nanChoice 32 [t, e, b, bits.getD p 0] % 2 == 1)

/-- The bf16 bits of an element: unchanged where no rotation was applied (R142). -/
def NewElem.bf16 : NewElem → Nat
  | .raw b => b
  | .rotated v n => if v = .nan then Flt.bf16.withSign n Flt.bf16.qnan else Flt.bf16.round v

/-- The bytes of int4 codes, low nibble first. -/
def nibbles : List Int → List Byte
  | a :: b :: t => BitVec.ofNat 8 ((a % 16).toNat + 16 * (b % 16).toNat) :: nibbles t
  | _ => []

/-- A new row in the session's KVFMT (R104, R142). -/
def newRow (kvfmt : Nat) (xs : List NewElem) : List Byte :=
  match kvfmt with
  | 0 => xs.map fun x => BitVec.ofNat 8 (toE4m3 x.neg x.value)
  | 1 => xs.map fun x => BitVec.ofNat 8 (toE5m2 x.neg x.value)
  | 2 =>
    let g := (pieces32 32 xs.length xs).map fun p => int4Group (p.map NewElem.value)
    (g.flatMap fun x => nibbles x.2) ++ g.flatMap fun x => leBytes 2 x.1
  | _ => xs.flatMap fun x => leBytes 2 x.bf16

/-- The query vector of one row (R134, R135): qfmt 0 bf16, 1 E4M3, 2 E5M2. -/
def queryVec (qfmt d : Nat) (bs : List Byte) : List Fval :=
  match qfmt with
  | 0 => elems 16 d Flt.bf16.val bs
  | 1 => elems 8 d Flt.e4m3.val bs
  | _ => elems 8 d Flt.e5m2.val bs

/-! ## Scores and weights (R144 to R147) -/

def rn32 : Fval → Fval := Flt.fp32.rn

/-- The fold of segment results in ascending order. -/
def foldSegs : List Fval → Fval
  | [] => .num false 0 0
  | a :: t => t.foldl (fun x y => rn32 (x.add y)) a

/-- QKᵀ: d ÷ 32 segments, an int4 key's scaled first (R144). -/
def qkDot (q : List Fval) (k : KvRow) : Fval :=
  let n := q.length
  let seg := (pieces32 32 n q).zipWith (fun a b => rn32 (Fval.sum (a.zipWith Fval.mul b))) (pieces32 32 n k.key)
  foldSegs (if k.scales.isEmpty then seg else seg.zipWith (fun a s => rn32 (a.mul s)) k.scales)

/-- A row's state (R147): running maximum, sum and output, and whether a score, S, l or acc became infinite (R150). -/
structure AttSt where
  m : Fval
  l : Fval
  acc : List Fval
  bad : Bool
deriving DecidableEq, Repr

def AttSt.empty (d : Nat) : AttSt := { m := .inf true, l := .num false 0 0, acc := List.replicate d (.num false 0 0), bad := false }

/-- One seen position of a page: its place, its key and its value. -/
structure Seen where
  at_ : Nat
  key : KvRow
  value : KvRow
deriving DecidableEq, Repr

/-- The weight of position j of a page; positions not seen carry 0. -/
def weightAt (ps : List (Nat × Fval)) (j : Nat) : Fval := (lget ps j).getD (.num false 0 0)

/-- PV for one element over the 8 segments of a page (R144). A position not seen contributes +0. -/
def pvElem (ps : List (Nat × Fval)) (col : List (Nat × Fval)) : Fval :=
  foldSegs ((List.range 8).map fun k =>
    let terms := (List.range 32).filterMap fun i =>
      match lget ps (32 * k + i), lget col (32 * k + i) with
      | some p, some v => some (p.mul v)
      | _, _ => none
    rn32 (Fval.sum (if terms.length < 32 then terms ++ [.num false 0 0] else terms)))

/-- One page updates a row's state (R147). `p8`: weights are rounded to E4M3, else to bf16 (R143). -/
def attPage (p8 : Bool) (scale : Fval) (q : List Fval) (seen : List Seen) (old : Option AttSt) : Option AttSt :=
  if seen.isEmpty then old
  else
    let st := old.getD (AttSt.empty q.length)
    let zs := seen.map fun x => (x.at_, rn32 ((qkDot q x.key).mul scale))
    let m := zs.foldl (fun a z => a.max z.2) st.m
    let α := exp2 (rn32 (st.m.sub m))
    let ps := zs.map fun z =>
      let w := exp2 (rn32 (z.2.sub m))
      (z.1, if p8 then Flt.e4m3.val (toE4m3 false w) else Flt.bf16.rn w)
    let sum := (pairTree (fun a b => rn32 (a.add b)) 8 ((List.range 256).map (weightAt ps))).headD .nan
    let l := rn32 ((rn32 (st.l.mul α)).add sum)
    let acc := st.acc.mapIdx fun e a =>
      rn32 ((rn32 (a.mul α)).add (pvElem ps (seen.map fun x => (x.at_, x.value.value.getD e .nan))))
    some { m, l, acc
           bad := st.bad || !(zs.all fun z => z.2.isNum) || !sum.isNum || !l.isNum || !acc.all Fval.isNum }

/-- Combine two chunk states (R148). -/
def attCombine : Option AttSt → Option AttSt → Option AttSt
  | none, b => b
  | a, none => a
  | some a, some b =>
    let m := a.m.max b.m
    let α := exp2 (rn32 (a.m.sub m))
    let β := exp2 (rn32 (b.m.sub m))
    let l := rn32 ((rn32 (a.l.mul α)).add (rn32 (b.l.mul β)))
    let acc := List.zipWith (fun x y => rn32 ((rn32 (x.mul α)).add (rn32 (y.mul β)))) a.acc b.acc
    some { m, l, acc, bad := a.bad || b.bad || !l.isNum || !acc.all Fval.isNum }

/-! ## One query row (R140, R148 to R150) -/

/-- Does the row of a token at position q see stored key k? -/
def seesKey (window sinks q k : Nat) : Bool := decide (k ≤ q) && (window == 0 || decide (q < k + window) || decide (k < sinks))

/-- Does it see any key of page p, of `stored` keys? -/
def seesPage (window sinks stored q p : Nat) : Bool :=
  let hi := min (min (256 * p + 255) (stored - 1)) q
  decide (0 < stored ∧ 256 * p ≤ hi) && (window == 0 || decide (q < hi + window) || decide (256 * p < sinks))

/-- The positions of page p that a row sees. -/
def seenOf (window sinks stored q p : Nat) : List Nat :=
  if seesPage window sinks stored q p then
    (List.range 256).filter fun j => decide (256 * p + j < stored) && seesKey window sinks q (256 * p + j)
  else []

/-- The state of a row after every chunk: stored pages in chunks of 8, then the transient keys, in the tree of R148. -/
def attRow (p8 : Bool) (scale : Fval) (q : List Fval) (stored window sinks at_ : Nat) (key : Nat → KvRow)
    (value : Nat → KvRow) (transient : Option (List Seen)) : Option AttSt :=
  let np := ceilDiv stored 256
  let page (st : Option AttSt) (p : Nat) : Option AttSt :=
    attPage p8 scale q ((seenOf window sinks stored at_ p).map fun j =>
      { at_ := j, key := key (256 * p + j), value := value (256 * p + j) }) st
  let chunks := (List.range (ceilDiv np 8)).map fun c =>
    (((List.range 8).map (8 * c + ·)).filter (· < np)).foldl page none
  let chunks := match transient with
    | some l => chunks ++ [attPage p8 scale q l none]
    | none => chunks
  (pairTree attCombine 11 chunks).headD none

/-- The output of a row, and whether it is a NaN row (R149, R150). -/
def attOut (fp32 : Bool) (d : Nat) (finite : Bool) (st : Option AttSt) : List Byte × Bool :=
  let f := if fp32 then Flt.fp32 else Flt.bf16
  let w := if fp32 then 4 else 2
  match st with
  | some a =>
    if finite ∧ a.bad = false then (a.acc.flatMap fun x => leBytes w (f.round (Flt.fp32.div x a.l)), false)
    else ((List.range d).flatMap fun _ => leBytes w f.qnan, true)
  | none => ((List.range d).flatMap fun _ => leBytes w f.qnan, true)

end Sys2Proof.Machine
end

