-- ==== Sys2Proof/Machine/Gloss.lean ====
section
/-! DEFINITION. Weight regions: VALID, measurement, expanded blocks (R253, R260 to R267, R325). -/

namespace Sys2Proof.Machine

/-! ## Setting and clearing VALID (R261, R266, R384) -/

/-- A write of GLS_REGION_CTRL: the port must control the partition of the TENANT field now and of the value written. -/
def State.regionWrite (s : State) (port r : Nat) (value : BitVec 32) (act : State → State) : State :=
  s.setupWrite port (R.glsRegionCtrl r) (some (s.regionTenant r)) false
      (heldWrite port (R.glsRegionCtrl r) (value.setWidth 64)) fun s =>
    if !s.controls port (fld value 1 4) then s.setupError port (R.glsRegionCtrl r) 6 else act s

/-- Does a range overlap the KV arena of any partition? -/
def State.meetsArena (s : State) (o n : Nat) : Bool :=
  (List.range 16).any fun t => overlap o n (s.reg (R.sesArenaBase t)).toNat (s.reg (R.sesArenaSize t)).toNat

/-- RESULT of a region write that asks for VALID: 0 when it is accepted. -/
def State.regionResult (s : State) (r tenant key : Nat) : Nat :=
  let b := s.regionBase r
  let n := s.regionSize r
  if (List.range 64).any fun q => q != r && (s.regionValid q || s.regionPending q)
      && overlap b n (s.regionBase q) (s.regionSize q) then 1
  else if b % 65536 ≠ 0 ∨ n % 65536 ≠ 0 ∨ n = 0 ∨ s.capacity < b + n ∨ s.meetsArena b n then 2
  else if ((s.part tenant).keys.find? fun k => k.1 == key).isNone ∨ (s.part tenant).switching then 3
  else 0

/-- The galleries' copies of a region that becomes PENDING go, and the directory's entries with them: nothing of it is written from then
on, and every later read of it is refused or expanded (R261 to R263; log entry 207). -/
def State.dropCached (s : State) (r : Nat) : State :=
  let own (line : Nat) : Bool := decide (s.regionBase r / 64 ≤ line ∧ line < (s.regionBase r + s.regionSize r) / 64)
  let mine (k : Nat) : Bool := decide (k % 2 ^ 50 / 2 ^ 44 = s.devNo) && own (k % 2 ^ 44)
  { s with
    gcache := dropIf (fun e => mine e.1) s.gcache, abuf := dropIf (fun e => mine e.1) s.abuf
    victims := dropIf (fun e => mine e.1) s.victims, dir := dropIf (fun e => own e.1 && (s.txnOn e.1).isNone) s.dir }

/-- A write with VALID 1. A region already VALID or PENDING keeps its TENANT and KEY, and a write that would change them is
refused (R266). -/
def State.regionSet (s : State) (port r : Nat) (value : BitVec 32) : State :=
  let tenant := fld value 1 4
  let key := fld value 5 4
  if s.regionValid r ∨ s.regionPending r then
    if tenant ≠ s.regionTenant r ∨ key ≠ s.regionKey r then s.setupError port (R.glsRegionCtrl r) 5 else s
  else
    let res := s.regionResult r tenant key
    let s := s.setReg (R.glsRegionCtrl r) (BitVec.ofNat 64 (tenant * 2 + key * 32 + (if res = 0 then 512 else 0) + res * 1024))
    if res = 0 then s.dropCached r else s

/-- Forget the expanded blocks of a region (R266). -/
def State.dropBlocks (s : State) (r : Nat) : State := { s with blocks := dropIf (fun (k : KeptBlock) => k.region == r) s.blocks }

/-- KPR_MGEN advances (R325). -/
def State.advanceMgen (s : State) : State := s.setReg R.kprMgen (s.reg R.kprMgen + 1)

/-- A region stops being VALID or PENDING (R266). -/
def State.regionClear (s : State) (r tenant key : Nat) : State :=
  let was := s.regionValid r
  let s := (s.dropBlocks r).setReg (R.glsRegionCtrl r) (BitVec.ofNat 64 (tenant * 2 + key * 32))
  let s := { s with keeper := { s.keeper with measRegion := tput (fun _ => 0) s.keeper.measRegion r 0 } }
  if was then s.advanceMgen else s

/-- What a region's measurement is taken over (R325): seal records and payloads, block by block. -/
def State.regionBytes (s : State) (r : Nat) : List Byte :=
  (List.range (s.regionSize r / 65536)).flatMap fun b =>
    let h := s.sealRecord r b
    h ++ s.poolRead (s.regionBase r + 65536 * b) (64 * hdrLines h)

/-- The Keeper has measured a PENDING region: it is VALID. -/
def State.regionReady (s : State) (r : Nat) : State :=
  if s.regionPending r then
    let d := Config.sha384 (s.regionBytes r)
    let s := s.setReg (R.glsRegionCtrl r) (BitVec.ofNat 64 (1 + s.regionTenant r * 2 + s.regionKey r * 32))
    ({ s with keeper := { s.keeper with measRegion := tput (fun _ => 0) s.keeper.measRegion r d } } : State).advanceMgen
  else s

/-! ## The commands -/

def execRegionValidSet (port : Port) (region : BitVec 6) (value : BitVec 32) (s : State) :
    Host.Outcome State Fault Refusal :=
  .next (s.regionWrite port.toNat region.toNat value fun s =>
    s.regionSet port.toNat region.toNat value)

def execRegionValidClear (port : Port) (region : BitVec 6) (value : BitVec 32) (s : State) :
    Host.Outcome State Fault Refusal :=
  .next (s.regionWrite port.toNat region.toNat value fun s =>
    let r := region.toNat
    if (s.regionValid r ∨ s.regionPending r) ∧ (fld value 1 4 ≠ s.regionTenant r ∨ fld value 5 4 ≠ s.regionKey r) then
      s.setupError port.toNat (R.glsRegionCtrl r) 5
    else s.regionClear r (fld value 1 4) (fld value 5 4))

def execRegionMeasured (region : BitVec 6) (s : State) : Host.Outcome State Fault Refusal :=
  .next (s.regionReady region.toNat)

def execWeightBlockExpanded (region : BitVec 6) (block : BitVec 32) (s : State) : Host.Outcome State Fault Refusal :=
  .next (s.blockExpanded region.toNat block.toNat)

end Sys2Proof.Machine
end

