-- ==== Sys2Proof/Machine/Sentence.lean ====
section
/-! DEFINITION. Sentence books: their layout, the Keeper's checks, and LOAD and UNLOAD (R65 to R70, R228). -/

namespace Sys2Proof.Machine

/-! ## Layout (R65 to R68) -/

/-- A clause entry (R67). -/
structure Clause where
  voice : Nat
  slot : Nat
  start : Nat
  stop : Nat
  code : Nat
deriving DecidableEq, Repr

/-- A slot entry (R68). -/
structure Slot where
  index : Nat
  kind : Nat
  tenant : Nat
  cls : Nat
  nearOnly : Bool
  cap : Nat
  maxSpan : Nat
  kparam : List Byte
deriving DecidableEq, Repr

def bookCount (b : List Byte) : Nat := numAt b 6 1
def bookPeriod (b : List Byte) : Nat := numAt b 8 2 % 512
def bookLength (b : List Byte) : Nat := numAt b 12 4

/-- Offset and length of sentence i. -/
def dirEntryOf (b : List Byte) (i : Nat) : Nat × Nat := (numAt b (16 + 8 * i) 4, numAt b (20 + 8 * i) 4)

/-- The bytes of sentence i. -/
def sentenceBytes (b : List Byte) (i : Nat) : List Byte := slice b (dirEntryOf b i).1 (dirEntryOf b i).2

def sentClauses (x : List Byte) : Nat := numAt x 2 2
def sentSlots (x : List Byte) : Nat := numAt x 4 2
def sentCodeOff (x : List Byte) : Nat := numAt x 16 4
def sentCodeLen (x : List Byte) : Nat := numAt x 20 4

def clauseRaw (x : List Byte) (k : Nat) : List Byte := slice x (numAt x 8 4 + 16 * k) 16
def slotRaw (x : List Byte) (k : Nat) : List Byte := slice x (numAt x 12 4 + 32 * k) 32

def clauseOf (c : List Byte) : Clause :=
  { voice := numAt c 0 2 % 4096, slot := numAt c 2 2, start := numAt c 4 4, stop := numAt c 8 4, code := numAt c 12 4 }

def slotOf (c : List Byte) : Slot :=
  { index := numAt c 0 2, kind := numAt c 2 1 % 16, tenant := numAt c 2 1 / 16, cls := numAt c 3 1 % 16
    nearOnly := numAt c 3 1 / 16 % 2 == 1, cap := numAt c 4 4, maxSpan := numAt c 8 2, kparam := slice c 16 16 }

/-- The clause and slot tables of a sentence. -/
def clausesOf (x : List Byte) : List Clause := (List.range (sentClauses x)).map fun k => clauseOf (clauseRaw x k)
def slotsOf (x : List Byte) : List Slot := (List.range (sentSlots x)).map fun k => slotOf (slotRaw x k)

/-- The code segment of a sentence. -/
def codeOf (x : List Byte) : List Byte := slice x (sentCodeOff x) (sentCodeLen x)

/-! ## The checks of R69: each failed one's reason -/

def failing (reason : Nat) (bad : Bool) : List Nat := if bad then [reason] else []

def allZero (l : List Byte) : Bool := l.all (· == 0)

/-- Entries out of strictly ascending order. -/
def unsorted : List Nat → Bool
  | a :: b :: t => decide (b ≤ a) || unsorted (b :: t)
  | _ => false

def clauseBad (period codeLen : Nat) (c : List Byte) : List Nat :=
  let x := clauseOf c
  failing 3 (decide (x.code % 8 ≠ 0 ∨ codeLen < x.code + 8))
  ++ failing 4 (decide (x.start < 540 ∨ x.stop ≤ x.start ∨ 450 * period < x.stop + 468))
  ++ failing 7 (decide (numAt c 0 2 / 4096 ≠ 0))

/-- Reserved bits of KPARAM: R137 for ATTN, R164 for EMBL and EMBU. -/
def kparamBad (kind : Nat) (k : List Byte) : Bool :=
  if kind = 1 then decide (numAt k 2 1 / 8 ≠ 0) || !allZero (k.drop 3)
  else decide (numAt k 0 1 / 32 ≠ 0) || !allZero (k.drop 2)

def slotBad (c : List Byte) : List Nat :=
  let x := slotOf c
  failing 6 (!([1, 3, 4].contains x.kind) || decide (1023 < x.index ∨ x.cap = 0 ∨ x.maxSpan = 0)
    || (x.kind != 1 && x.nearOnly) || (x.kind == 3 && numAt x.kparam 0 1 / 4 % 2 == 1))
  ++ failing 7 (decide (numAt c 3 1 / 32 ≠ 0) || !allZero (slice c 10 6) || kparamBad x.kind x.kparam)

/-- Does a part of a sentence lie at a multiple of 64 within it? -/
def partBad (x : List Byte) (off n : Nat) : Bool := decide (off % 64 ≠ 0 ∨ x.length < off + n)

def sentenceBad (period i : Nat) (x : List Byte) : List Nat :=
  let shape := decide (numAt x 0 1 ≠ i ∨ 4096 < sentClauses x ∨ 1024 < sentSlots x ∨ sentCodeLen x % 64 ≠ 0)
    || partBad x (numAt x 8 4) (16 * sentClauses x) || partBad x (numAt x 12 4) (32 * sentSlots x)
    || partBad x (sentCodeOff x) (sentCodeLen x)
  failing 3 shape ++ failing 7 (numAt x 1 1 != 0 || numAt x 6 2 != 0 || !allZero (slice x 24 40))
  ++ (if shape then []
    else
      ((List.range (sentClauses x)).flatMap fun k => clauseBad period (sentCodeLen x) (clauseRaw x k))
      ++ ((List.range (sentSlots x)).flatMap fun k => slotBad (slotRaw x k))
      ++ failing 5 (unsorted ((clausesOf x).map Clause.voice))
      ++ failing 6 (unsorted ((slotsOf x).map Slot.index)))

/-- Is LENGTH one a book may have? -/
def lengthOk (n : Nat) : Bool := decide (0 < n ∧ n % 4096 = 0 ∧ n ≤ 67108864)

def bookBad (b : List Byte) (poisoned : Bool) : List Nat :=
  let n := bookLength b
  let count := bookCount b
  let dir := (List.range 16).map (dirEntryOf b)
  let dirBad := (dir.take count).any fun e => decide (e.1 % 64 ≠ 0 ∨ e.2 % 64 ≠ 0 ∨ e.2 < 64 ∨ n < e.1 + e.2)
  let shape := !lengthOk n || decide (b.length < n ∨ count = 0 ∨ 16 < count ∨ bookPeriod b < 4 ∨ 256 < bookPeriod b) || dirBad
  failing 1 (decide (numAt b 0 4 ≠ 0x3142535A ∨ numAt b 4 2 ≠ 1)) ++ failing 2 (numAt b 10 2 != 1) ++ failing 3 shape
  ++ failing 7 (numAt b 7 1 != 0 || numAt b 8 2 / 512 != 0 || (dir.drop count).any (fun e => e != (0, 0))
      || !allZero (slice b 144 112))
  ++ failing 8 poisoned
  ++ (if shape then [] else (List.range count).flatMap fun i => sentenceBad (bookPeriod b) i (sentenceBytes b i))

/-- The lowest reason among the checks that fail, 0 for none. -/
def bookReason (b : List Byte) (poisoned : Bool) : Nat :=
  match bookBad b poisoned with
  | [] => 0
  | r :: t => t.foldl min r

/-! ## LOAD and UNLOAD -/

def State.loadingBook (s : State) : Bool := s.rot.loading.isSome

/-- Is a book the active one? -/
def State.activeBook (s : State) (n : Nat) : Bool := s.rot.active == some (BitVec.ofNat 2 n)

/-- Is a book named in a pending change (R69)? -/
def State.bookPending (s : State) (n : Nat) : Bool :=
  s.rot.pending && !bit (s.reg R.rotBookNext) 2 && fld (s.reg R.rotBookNext) 0 2 == n

/-- What the Keeper copies of a book: LENGTH bytes where LENGTH is one a book may have and they lie in the pool, else what
of the first 256 bytes does. -/
def State.bookBytes (s : State) (addr : Nat) : List Byte :=
  if s.capacity < addr + 256 then []
  else
    let n := bookLength (s.poolRead addr 256)
    if lengthOk n ∧ addr + n ≤ s.capacity then s.poolRead addr n else s.poolRead addr 256

/-- LOAD is accepted: the Keeper reads the book and begins its checks (R69, R228; log entry 46). A poisoned line is
recorded as its own error (R342). -/
def State.bookStart (s : State) (n : Nat) : State :=
  let addr := (s.reg (R.rotBookAddr n)).toNat
  let data := s.bookBytes addr
  let bad := (linesOf addr data.length).find? s.poisoned
  let s := match bad with
    | some l => s.poisonError (64 * l) none
    | none => s
  let r := bookReason data bad.isSome
  let s := s.setBook n { state := .loading, reason := BitVec.ofNat 4 r, addr, data, digest := 0 }
  { s with rot := { s.rot with loading := some (BitVec.ofNat 2 n) } }

/-- The load ends: LOADED with its digest, or FAILED. -/
def State.bookDone (s : State) : State :=
  match s.rot.loading with
  | none => s
  | some n =>
    let x := s.book n.toNat
    let s := { s with rot := { s.rot with loading := none } }
    if x.reason = 0 then
      (s.setBook n.toNat { x with state := .loaded, digest := Config.sha384 x.data }).advanceMgen
    else s.setBook n.toNat { Book.empty with state := .failed, reason := x.reason }

/-- A write of ROT_BOOK_CMD (R69, R70, R93). -/
def State.bookCommand (s : State) (port op n : Nat) : State :=
  let refuse := s.setupError port R.rotBookCmd 5
  if s.loadingBook then refuse
  else
    let x := s.book n
    match op with
    | 1 => if x.state = .empty ∨ x.state = .failed then s.bookStart n else refuse
    | 2 =>
      if s.activeBook n ∨ s.bookPending n then refuse
      else
        let t := s.setBook n Book.empty
        if x.state = .loaded then t.advanceMgen else t
    | _ => s.setupError port R.rotBookCmd 2

/-- ROT_BOOK_STATUS (R93). -/
def State.bookStatus (s : State) : Nat :=
  (List.range 4).foldl (fun a n =>
    let x := s.book n
    let code := match x.state with
      | .empty => 0
      | .loading => 1
      | .loaded => if s.activeBook n then 3 else 2
      | .failed => 4
    a + (code + (if x.state = .failed then x.reason.toNat * 16 else 0)) * 2 ^ (8 * n)) 0

/-! ## The commands -/

def State.bookWrite (s : State) (port op n : Nat) : State :=
  s.setupWrite port R.rotBookCmd (some 0) false (heldWrite port R.rotBookCmd (BitVec.ofNat 64 (n + 4 * op))) fun s =>
    s.bookCommand port op n

def execBookLoad (port : Port) (book : BitVec 2) (s : State) : Host.Outcome State Fault Refusal :=
  .next (s.bookWrite port.toNat 1 book.toNat)

def execBookUnload (port : Port) (book : BitVec 2) (s : State) : Host.Outcome State Fault Refusal :=
  .next (s.bookWrite port.toNat 2 book.toNat)

def execBookLoadComplete (s : State) : Host.Outcome State Fault Refusal := .next s.bookDone

end Sys2Proof.Machine
end

