-- ==== Sys2Proof/Machine/Session.lean ====
section
/-! DEFINITION. The session commands: what a SESS descriptor does, what a member and a home do for each other, the
handoff between pools, and the session timers (R106 to R131). -/

namespace Sys2Proof.Machine

/-! ## Finding the session a descriptor names (R97, R108, R111) -/

inductive SesLook where
  | ok (h : Nat)
  | bad (status : Byte) (cause : Nat)
  | pull (h : Nat)
deriving DecidableEq, Repr

/-- Look a session ID up for a tenant: R108 step 2. A device that is not the home pulls an entry it holds as FREE or
as an older generation, or whose version is behind the one named (R97, R111). -/
def State.lookSession (s : State) (sid tenant : Nat) (version : Option Nat) : SesLook :=
  let h := sidHandle sid
  let x := s.session h
  let older := (sidGen sid + 4095 - x.gen.toNat) % 4095
  if s.isHome h then
    if x.state = .free ∨ x.gen.toNat ≠ sidGen sid then .bad St.notOwner 0
    else if x.tenant.toNat ≠ tenant then .bad St.notOwner 5
    else .ok h
  else if x.gen.toNat = sidGen sid ∧ x.state ≠ .free then
    if x.tenant.toNat ≠ tenant then .bad St.notOwner 5
    else
      match version with
      | some v => if x.version.toNat < v ∧ x.state ≠ .lost then .pull h else .ok h
      | none => .ok h
  else if x.state = .free ∨ older < 2048 then .pull h
  else .bad St.notOwner 0

/-- Ask for an entry once (R111). A stale generation is reclaimed first (R97). -/
def State.askEntry (s : State) (h sid : Nat) : State :=
  let x := s.session h
  let s := if x.state ≠ .free ∧ x.gen.toNat ≠ sidGen sid then s.freeEntry h else s
  if s.pulls.contains (sid, PullKind.entry) then s
  else
    ({ s with pulls := s.pulls ++ [(sid, PullKind.entry)] } : State).sendMg
      (.pull (BitVec.ofNat 6 (s.homeDev h)) (BitVec.ofNat 32 sid) x.epoch .entry)

/-! ## Operations on every member (R110) -/

/-- The root a fork or view starts with: every entry whose group holds a page below ⌈P ÷ 256⌉, each leaf counted once
more (R119). -/
def State.shareRoot (s : State) (x : Session) : State × Tbl Nat :=
  let groups := ceilDiv (ceilDiv x.pub.toNat 256) 512
  let kept := x.root.filter fun e => decide (e.1 % 8 < groups)
  (s.each kept fun s e => s.setLeafCount e.2 ((s.leaf e.2).count + 1), kept)

/-- FORK or OPEN as every member applies it (R118, R119). None when no map units are left (R102). -/
def State.makeChild (s : State) (h childId : Nat) (view : Bool) (version : BitVec 32) (pub : BitVec 21) (home : Dev) :
    Option State :=
  let x := { s.session h with pub }
  let parentId := s.sidOf h
  let c := sidHandle childId
  match s.allocUnits x.tenant.toNat x.rootUnits with
  | none => none
  | some (s, u) =>
    let (s, root) := s.shareRoot x
    some (s.setSession c { x with
      gen := BitVec.ofNat 12 (sidGen childId)
      state := .live
      hphase := .none
      view
      remote := false
      version := if view then version else 0
      pub
      parent := BitVec.ofNat 32 parentId
      parentVersion := version
      epoch := 0
      mapRoot := BitVec.ofNat 38 u
      home
      peer := 0
      peerId := 0
      deadline := 0
      lastTouch := s.rotNo
      peerMask := 0
      counts := x.allCounts pub.toNat
      root })

/-- Is an entry given up that of a session ID? -/
def Gone.is (g : Gone) (sid : Nat) : Bool := g.handle == sidHandle sid && g.entry.gen.toNat == sidGen sid

/-- The entry of a discarded session, while it is kept. -/
def State.goneEntry (s : State) (sid : Nat) : Option Session := (s.discarded.find? fun g => g.is sid).map Gone.entry

/-- Does a device's handle stand as the discard of a session left it? -/
def State.stillFree (s : State) (sid : Nat) : Bool :=
  let x := s.session (sidHandle sid)
  x.state == .free && x.gen.toNat == (sidGen sid + 1) % 4095

/-- What one device does for one member operation. None when it cannot. -/
def State.applyMember (s : State) (k : MemberKind) (sid childId : Nat) (version : BitVec 32) (pub : BitVec 21)
    (home : Dev) : Option State :=
  let h := sidHandle sid
  let x := s.session h
  let mine := decide (x.state ≠ .free ∧ x.gen.toNat = sidGen sid)
  let dropChild (s : State) : State :=
    let c := sidHandle childId
    if (s.session c).gen.toNat = sidGen childId then s.freeEntry c else s
  match k with
  | .fork => if mine then s.makeChild h childId false version pub home else none
  | .openView => if mine then s.makeChild h childId true version pub home else none
  | .discard => some (if mine then s.freeEntry h else s)
  | .offer =>
    if mine then some ((s.endItemsOf sid 3 true).updSession h fun x => { x with state := .handoff }) else none
  | .undoFork => some (dropChild s)
  | .undoOpen => some (dropChild s)
  | .undoDiscard =>
    match s.goneEntry sid with
    | some old =>
      if s.stillFree sid then some ({ s.setSession h old with discarded := dropIf (fun g => g.is sid) s.discarded }) else some s
    | none => some s
  | .undoOffer => some (if mine ∧ x.state = .handoff then s.setSession h { x with state := .live } else s)

def undoOf : MemberKind → MemberKind
  | .fork => .undoFork
  | .openView => .undoOpen
  | .discard => .undoDiscard
  | k => if k = .offer then .undoOffer else k

/-- Send an operation to every device of a mask. -/
def State.tellMembers (s : State) (mask : Word) (op : MemberOp) : State :=
  s.each (maskList mask) fun s d => s.sendMg (.member (BitVec.ofNat 6 d) op)

/-- Send an operation to the other members. -/
def State.tellOthers (s : State) (k : MemberKind) (sid childId : Nat) (version : BitVec 32) (pub : BitVec 21) : State :=
  s.tellMembers s.others
    { kind := k, session := BitVec.ofNat 32 sid, child := BitVec.ofNat 32 childId, version, pub,
      home := BitVec.ofNat 6 s.devNo }

/-- Enter OFFERED and start the handoff timer (R127, R129). -/
def State.enterOffered (s : State) (op : SesOp) : State :=
  let h := sidHandle op.session.toNat
  let ticks := fld (s.reg R.sesHandoffTime) 0 10 * 1000000 / max 1 s.rotNs
  let s := s.updSession h fun x =>
    { x with state := .handoff, hphase := .offered, deadline := BitVec.ofNat 32 (s.rotNo.toNat + ticks) }
  { s with offers := s.offers ++ [{ ring := op.ring, pos := op.pos, handle := BitVec.ofNat 20 h }] }

/-- A discarded session that came from another pool is released there (R128). -/
def State.releaseGone (s : State) (sid : Nat) : State :=
  match s.goneEntry sid with
  | some x => if x.remote then s.sendMg (.release x.peer x.peerId x.epoch) else s
  | none => s

/-- Every member has answered or was missed: complete, or undo on every member (R110, R296). -/
def State.endSesOp (s : State) (op : SesOp) : State :=
  let sid := op.session.toNat
  let s := { s with sesOps := dropIf (· == op) s.sesOps }
  if op.missed then
    let u := undoOf op.kind
    let s := match s.applyMember u sid op.child.toNat 0 0 0 with
      | some s => s
      | none => s
    let s := s.tellOthers u sid op.child.toNat 0 0
    s.finish op.ring.toNat op.pos.toNat (s.sesCpl St.timeout 0 sid none)
  else
    match op.kind with
    | .offer => s.enterOffered op
    | .discard => (s.releaseGone sid).finish op.ring.toNat op.pos.toNat (s.sesCpl St.done 0 sid none)
    | _ => s.finish op.ring.toNat op.pos.toNat (s.sesCpl St.done 0 op.child.toNat none)

/-- A member has answered (or was missed) for a session. -/
def State.memberAnswered (s : State) (sid dev : Nat) (missed : Bool) : State :=
  match s.sesOps.find? fun o => o.session.toNat == sid && maskHas o.waiting dev with
  | none => s
  | some o =>
    let o' := { o with waiting := maskDrop o.waiting dev, missed := o.missed || missed }
    let s := { s with sesOps := mapIf (· == o) (fun _ => o') s.sesOps }
    if o'.waiting = 0 then s.endSesOp o' else s

/-- Carry an operation out on this device and send it to the others (R110). An unreachable member is missed at once
(R296). -/
def State.startMulti (s : State) (ring : RingId) (pos : Pos) (k : MemberKind) (sid childId : Nat) (version : BitVec 32)
    (pub : BitVec 21) : State :=
  match s.applyMember k sid childId version pub (BitVec.ofNat 6 s.devNo) with
  | none => s.finish ring.toNat pos.toNat (s.sesCpl St.noSpace 0 sid none)
  | some s =>
    let s := s.setStage ring.toNat pos.toNat .running
    let s := s.tellOthers k sid childId version pub
    let gone := (maskList s.others).filter fun d => !s.reachable d
    let waiting := gone.foldl maskDrop s.others
    let op : SesOp := { ring, pos, kind := k, session := BitVec.ofNat 32 sid, child := BitVec.ofNat 32 childId, waiting,
                        missed := !gone.isEmpty }
    let s := { s with sesOps := s.sesOps ++ [op] }
    if waiting = 0 then s.endSesOp op else s

/-- Is a session busy with an operation of its home (R115)? -/
def State.sesBusy (s : State) (sid : Nat) : Bool := s.sesOps.any fun o => o.session.toNat == sid

/-! ## What every SESS descriptor does first -/

/-- The opcode of each SESS command (R106), for matching a command to its descriptor. -/
def State.startSess (s : State) (ring : RingId) (pos : Pos) (opcode : Nat) : Option Flight :=
  if !bit (s.reg R.sesCtrl) 0 then none
  else
    match s.mayStart ring.toNat pos.toNat .sess with
    | some f => if dOpcode f.desc = opcode then some f else none
    | none => none

/-- Complete a SESS descriptor. -/
def State.endSess (s : State) (ring : RingId) (pos : Pos) (status : Byte) (cause sid : Nat) (layer : Option Nat) : State :=
  s.finish ring.toNat pos.toNat (s.sesCpl status cause sid layer)

/-- Does a descriptor fetched before this one, of the same session, still wait to start (R113, R115)? A QUERY delays none, nor does one of
CREATE and ACCEPT, which name no session of this device. -/
def State.sesBehind (s : State) (f : Flight) : Bool :=
  s.rings.any fun e => e.2.state == .active && e.2.kind == .sess && e.2.flights.any fun g =>
    g.stage == .queued && decide (g.seq < f.seq) && attnSession g.desc == attnSession f.desc
      && dOpcode g.desc != 1 && dOpcode g.desc != 8 && dOpcode g.desc != 9

/-- Does an earlier APPEND of the ring still wait to start (R113)? -/
def State.appendBehind (s : State) (r : Nat) (f : Flight) : Bool :=
  (s.ring r).flights.any fun g => g.stage == .queued && decide (g.seq < f.seq) && dOpcode g.desc == 2

/-- R108 steps 2 and 3 and the LOST rule, then what the opcode does with the handle, in the order of the descriptors' fetches (R113,
R115). `layer`: an append's, for COUNT. -/
def State.withSession (s : State) (ring : RingId) (pos : Pos) (f : Flight) (homeOnly lostOk : Bool) (version : Option Nat)
    (act : State → Nat → State) : State :=
  let d := f.desc
  let sid := attnSession d
  let layer := if dOpcode d = 2 then some (fld d 192 16) else none
  let s := s.sesLoad (sidHandle sid)
  match s.lookSession sid (dTenant d) version with
  | .bad st c => s.endSess ring pos st c sid layer
  | .pull h => s.askEntry h sid
  | .ok h =>
    if homeOnly ∧ !s.isHome h then s.endSess ring pos St.notOwner 1 sid layer
    else if (s.session h).state = .lost ∧ !lostOk then s.endSess ring pos St.lost 0 sid layer
    else if s.sesBusy sid ∨ (dOpcode d ≠ 9 ∧ s.sesBehind f) ∨ (dOpcode d = 2 ∧ s.appendBehind ring.toNat f) then s
    else act s h

/-- The lowest FREE handle this home may give (R96). -/
def State.freeHandle (s : State) (tenant : Nat) : Option Nat :=
  let live := (s.sessions.filter fun e =>
    e.2.state != .free && e.2.tenant.toNat == tenant && s.isHome e.1).length
  if fld (s.reg (R.sesQuota tenant)) 0 20 ≤ live then none
  else
    match least (fun k =>
        let h := s.setIndex + s.setSize * k
        (s.session h).state == .free
          && !(s.sesOps.any fun o => sidHandle o.child.toNat == h || (o.kind == .discard && sidHandle o.session.toNat == h))) (s.sessions.length + s.sesOps.length + 1) with
    | some k => if s.setIndex + s.setSize * k < 2 ^ 20 then some (s.setIndex + s.setSize * k) else none
    | none => none

/-- A new entry with its map root (R99, R103). -/
def State.newEntry (s : State) (h : Nat) (x : Session) : Option State :=
  match s.allocUnits x.tenant.toNat x.rootUnits with
  | none => none
  | some (s, u) =>
    some (s.setSession h { x with
      gen := (s.session h).gen, state := .live, mapRoot := BitVec.ofNat 38 u, lastTouch := s.rotNo
      parent := 0xFFFFFFFF, home := BitVec.ofNat 6 (s.homeDev h) })

/-! ## SESS descriptors -/

/-- CREATE (R96, R106). -/
def State.sesCreate (s : State) (ring : RingId) (pos : Pos) : State :=
  match s.startSess ring pos 1 with
  | none => s
  | some f =>
    let d := f.desc
    match s.freeHandle (dTenant d) with
    | none => s.endSess ring pos St.noSpace 0 0xFFFFFFFF none
    | some h =>
      match s.newEntry h { Session.none with
          tenant := BitVec.ofNat 4 (dTenant d), layers := BitVec.ofNat 8 (fld d 288 8), hdim := BitVec.ofNat 2 (fld d 296 2)
          kvh := BitVec.ofNat 4 (fld d 298 4), kvfmt := BitVec.ofNat 4 (fld d 302 4) } with
      | none => s.endSess ring pos St.noSpace 0 0xFFFFFFFF none
      | some s => s.endSess ring pos St.done 0 (s.sidOf h) none

/-- The refusals of R113 an append meets, in the table's order, then R139 and R112. -/
def State.appendRefusal (s : State) (h l start version : Nat) : Option (Byte × Nat × Option Nat) :=
  let x := s.session h
  if x.version.toNat ≠ version then some (St.staleVersion, 0, some l)
  else if x.view then some (St.notOwner, 2, some l)
  else if x.state = .handoff then some (St.notOwner, 3, some l)
  else if s.layerHeld (s.sidOf h) l ∨ x.count l ≠ start then some (St.staleVersion, 1, some l)
  else none

/-- Ask for the page an append or a query needs of a REMOTE session, once (R111, R128). -/
def State.askPage (s : State) (h l p : Nat) : State :=
  let x := s.session h
  let k : PullKind := .page (BitVec.ofNat 8 l) (BitVec.ofNat 12 p)
  if s.pulls.contains (s.sidOf h, k) then s
  else
    ({ s with pulls := s.pulls ++ [(s.sidOf h, k)] } : State).sendMg
      (.pull (BitVec.ofNat 6 ((maskList x.peerMask).getD s.setIndex x.peer.toNat)) x.peerId x.epoch k)

/-- Does a descriptor name a layer that the session does not have (R107, R108)? -/
def State.layerBad (s : State) (sid l : Nat) : Bool :=
  let x := s.session (sidHandle sid)
  x.state != .free && x.gen.toNat == sidGen sid && decide (x.nLayers ≤ l)

/-- APPEND (R107, R112, R113, R120): all of it or nothing. -/
def State.sesAppend (s : State) (ring : RingId) (pos : Pos) (rows : List Byte) : State :=
  match s.startSess ring pos 2 with
  | none => s
  | some f =>
    let d := f.desc
    let n := fld d 128 21
    let start := fld d 160 21
    let l := fld d 192 16
    let sid := attnSession d
    let bad (off why : Nat) : State := s.finish ring.toNat pos.toNat (Cpl.bad off why)
    if n = 0 ∨ 65536 < n ∨ 1048576 < start + n then bad 16 7
    else if s.layerBad sid l then bad 24 7
    else if fld d 384 2 = 1 ∧ !s.hostThere (fld d 386 2) then bad 48 5
    else
      s.withSession ring pos f false false (some (dNum d 12 4)) fun s h =>
        let s := s.touchSession h
        let x := s.session h
        match s.appendRefusal h l start (dNum d 12 4) with
        | some (st, c, ly) => s.endSess ring pos st c sid ly
        | none =>
          if x.remote ∧ start % 256 ≠ 0 ∧ (s.pageOf x l (start / 256)).isNone then s.askPage h l (start / 256)
          else
            let tail := if start % 256 = 0 then [] else s.tailGranules x l start
            let s := s.each tail fun s g => s.demand g false (some (ring, pos))
            let len := x.heads * 2 * n * x.row
            let eng := Eng.func (s.frontCache ring.toNat) (dTenant d) (.flight ring pos 40)
            let needs := if fld d 384 2 = 1 then [] else s.needs eng (pieces len) (dNum d 40 8) len
            if !(tail.all s.served) then s
            else if !needs.isEmpty then s.ask eng needs
            else if tail.any fun g => !(s.uncalmIn (65536 * g) 65536).isEmpty then
              s.each tail fun s g => s.askLocal (65536 * g) 65536
            else
              let (bs, e) : List PByte × Option (Nat × Refuse) :=
                if fld d 384 2 = 1 then ((slice rows 0 len).map (·, false), none)
                else s.gather eng (pieces len) (dNum d 40 8) len
              let s := if fld d 384 2 = 1 then s else s.readUse (s.frontCache ring.toNat) (dTenant d) (dNum d 40 8) len bs.length
              match e with
              | some (dva, why) =>
                (s.noteRefusal (dTenant d) false 0x3FF dva why).finish ring.toNat pos.toNat (Cpl.bad 40 6)
              | none =>
                if bs.any Prod.snd then
                  (s.poisonedRead (s.frontCache ring.toNat) (dTenant d) (dNum d 40 8) len).endSess ring pos St.poisoned 0 sid (some l)
                else
                  let data := bs.map Prod.fst
                  let row (i hd kv : Nat) : List Byte := slice data (((2 * hd + kv) * n + i) * x.row) x.row
                  match State.appendRows (.flight ring pos 40) h l row n 0 start s with
                  | none => s.endSess ring pos St.noSpace 0 sid (some l)
                  | some s =>
                    let s := s.updSession h fun x => x.setCount l (start + n)
                    s.endSess ring pos St.done 0 sid (some l)

/-- PUBLISH (R114). A view does not publish (log entry 30). -/
def State.sesPublish (s : State) (ring : RingId) (pos : Pos) : State :=
  match s.startSess ring pos 3 with
  | none => s
  | some f =>
    let d := f.desc
    let sid := attnSession d
    let tokens := fld d 128 21
    if 1048576 < tokens then s.finish ring.toNat pos.toNat (Cpl.bad 16 7)
    else
      s.withSession ring pos f true false none fun s h =>
        let s := s.touchSession h
        let x := s.session h
        if x.view then s.endSess ring pos St.notOwner 2 sid none
        else if x.state = .handoff then s.endSess ring pos St.notOwner 3 sid none
        else if x.version.toNat ≠ dNum d 12 4 then s.endSess ring pos St.staleVersion 0 sid none
        else if tokens < x.pub.toNat then s.finish ring.toNat pos.toNat (Cpl.bad 16 7)
        else
          (s.setSession h { x with version := x.version + 1, pub := BitVec.ofNat 21 tokens }).endSess ring pos St.done 0
            sid none

/-- FORK and OPEN (R118, R119). -/
def State.sesChild (s : State) (ring : RingId) (pos : Pos) (opcode : Nat) (k : MemberKind) : State :=
  match s.startSess ring pos opcode with
  | none => s
  | some f =>
    let d := f.desc
    let sid := attnSession d
    s.withSession ring pos f true false none fun s h =>
      let s := s.touchSession h
      let x := s.session h
      if x.version.toNat ≠ dNum d 12 4 then s.endSess ring pos St.staleVersion 0 sid none
      else if x.state = .handoff then s.endSess ring pos St.notOwner 3 sid none
      else
        match s.freeHandle (dTenant d) with
        | none => s.endSess ring pos St.noSpace 0 sid none
        | some c => s.startMulti ring pos k sid (s.sidOf c) x.version x.pub

/-- DISCARD (R121). -/
def State.sesDiscard (s : State) (ring : RingId) (pos : Pos) : State :=
  match s.startSess ring pos 6 with
  | none => s
  | some f =>
    let d := f.desc
    let sid := attnSession d
    s.withSession ring pos f true true none fun s h =>
      let x := s.session h
      if x.state = .handoff ∧ (x.hphase = .offered ∨ x.hphase = .granted) then s.endSess ring pos St.notOwner 3 sid none
      else s.startMulti ring pos .discard sid 0 0 0

/-- OFFER (R127): refused unless the session is LIVE with the descriptor's epoch. -/
def State.sesOffer (s : State) (ring : RingId) (pos : Pos) : State :=
  match s.startSess ring pos 7 with
  | none => s
  | some f =>
    let d := f.desc
    let sid := attnSession d
    s.withSession ring pos f true false none fun s h =>
      let s := s.touchSession h
      let x := s.session h
      if x.state ≠ .live then s.endSess ring pos St.notOwner 3 sid none
      else if x.epoch.toNat ≠ dNum d 32 4 then s.endSess ring pos St.staleVersion 2 sid none
      else
        (s.setSession h { x with peer := BitVec.ofNat 6 (fld d 208 6) }).startMulti ring pos .offer sid 0 0 0

/-- ACCEPT (R127): CLAIM goes to the sending home. -/
def State.sesAccept (s : State) (ring : RingId) (pos : Pos) : State :=
  match s.startSess ring pos 8 with
  | none => s
  | some f =>
    let d := f.desc
    let peer := BitVec.ofNat 6 (fld d 208 6)
    let peerId := BitVec.ofNat 32 (dNum d 28 4)
    let epoch := BitVec.ofNat 32 (dNum d 32 4)
    let s := s.setStage ring.toNat pos.toNat .running
    let a : Accept := { ring, pos, tenant := BitVec.ofNat 4 (dTenant d), quiet := false, peer, peerId, epoch, handle := none, phase := .claiming }
    ({ s with accepts := s.accepts ++ [a] } : State).sendMg
      (.claim peer peerId epoch s.setMask)

/-- QUERY (R106, R109): no touch (R123), answered for a LOST session too. -/
def State.sesQueryOp (s : State) (ring : RingId) (pos : Pos) : State :=
  match s.startSess ring pos 9 with
  | none => s
  | some f => s.withSession ring pos f false true none fun s _ => s.endSess ring pos St.done 0 (attnSession f.desc) none

/-- WAKE (R106, R125): the descriptor completes once the wake has begun. -/
def State.sesWake (s : State) (ring : RingId) (pos : Pos) : State :=
  match s.startSess ring pos 10 with
  | none => s
  | some f =>
    s.withSession ring pos f false false none fun s h =>
      let s := s.touchSession h
      let s := if (s.session h).state = .waking then s.wakeSession h else s
      s.endSess ring pos St.done 0 (attnSession f.desc) none

/-! ## Between members -/

/-- A member applies its home's operation and acknowledges it (R110). One that holds the entry as FREE or as an older generation pulls it
first (R97, R111); an operation it has no room for is not acknowledged (log entry 31). -/
def State.memberOp (s : State) (op : MemberOp) : State :=
  let sid := op.session.toNat
  let needs := op.kind = .fork ∨ op.kind = .openView ∨ op.kind = .offer
  match s.applyMember op.kind sid op.child.toNat op.version op.pub op.home with
  | none =>
    match s.lookSession sid (s.session (sidHandle sid)).tenant.toNat none with
    | .pull h => if needs then { s.askEntry h sid with heldOps := s.heldOps ++ [op] } else s
    | _ => s
  | some s =>
    if op.kind = .undoFork ∨ op.kind = .undoOpen ∨ op.kind = .undoDiscard ∨ op.kind = .undoOffer then s
    else s.sendMg (.memberAck op.home op.session)

/-- Complete every waiting descriptor that names a session, by what `why` says of it. -/
def State.endNaming (s : State) (sid : Nat) (why : Line → Option Cpl) : State :=
  s.each s.openRings fun s r =>
    let x := s.ring r
    if x.kind = .sess ∨ x.kind = .attn then
      s.each x.flights fun s f =>
        if attnSession f.desc = sid ∧ !f.stage.busy ∧ f.stage.result?.isNone ∧ !(x.kind = .sess ∧ dOpcode f.desc = 1) then
          match why f.desc with
          | some c => s.finish r f.pos.toNat c
          | none => s
        else s
    else s

/-- Serve a pull of a page (R128): its bytes and fill, checked against its CRCs. A touch of the page and session. -/
def State.servePage (s : State) (dev : Dev) (sid : SessionId) (layer : Byte) (page : BitVec 12) : State :=
  let h := sidHandle sid.toNat
  let x := s.session h
  match s.pageOf x layer.toNat page.toNat with
  | none => s.sendMg (.pullAnswer dev sid .refused)
  | some f =>
    let n := x.heads * 512 * x.row
    match (linesOf (65536 * f) n).find? s.poisoned, s.badChunk (65536 * f) n with
    | some l, _ => (s.poisonError (64 * l) (some x.tenant)).sendMg (.pullAnswer dev sid .poisoned)
    | none, some c => (s.crcError c x.tenant).sendMg (.pullAnswer dev sid .poisoned)
    | none, none =>
      let s := (s.touchSession h).updFrame f fun r => { r with touch := s.rotNo }
      s.sendMg (.pullAnswer dev sid (.page layer page (BitVec.ofNat 16 (s.frame f).fill) (s.poolRead (65536 * f) n)))

/-- What an entry tells another device. -/
def State.entryAnswer (s : State) (h : Nat) : PullAnswer := .entry (BitVec.ofNat 32 (s.sidOf h)) (s.session h).info

/-- Serve a page once memory holds it; until then the pull waits (R288). -/
def State.servePageWhenCalm (s : State) (dev : Dev) (sid : SessionId) (epoch : BitVec 32) (layer : Byte) (page : BitVec 12) : State :=
  let x := s.session (sidHandle sid.toNat)
  match s.pageOf x layer.toNat page.toNat with
  | none => s.servePage dev sid layer page
  | some f =>
    let n := x.heads * 512 * x.row
    if (s.uncalmIn (65536 * f) n).isEmpty then s.servePage dev sid layer page
    else
      let h : HeldPull := { dev, session := sid, epoch, what := .page layer page, leased := true }
      ({ s with heldPulls := s.heldPulls ++ [h] } : State).askLocal (65536 * f) n

/-- Answer a pull from another pool as the home's lease says (R128). -/
def State.serveLeased (s : State) (dev : Dev) (sid : SessionId) (epoch : BitVec 32) (what : PullKind) (l : Lease) : State :=
  if l.handoff ∧ l.phase = 3 ∧ l.epoch = epoch ∧ (s.session (sidHandle sid.toNat)).gen.toNat = sidGen sid.toNat then
    match what with
    | .entry => s.sendMg (.pullAnswer dev sid (s.entryAnswer (sidHandle sid.toNat)))
    | .page l p => s.servePageWhenCalm dev sid epoch l p
  else s.sendMg (.pullAnswer dev sid .refused)

/-- The lease as this home holds it. -/
def State.leaseOf (s : State) (sid : Nat) : Lease :=
  let x := s.session (sidHandle sid)
  let own := x.gen.toNat == sidGen sid
  { handoff := own && x.state == .handoff, lost := own && x.state == .lost, phase := BitVec.ofNat 2 x.hphase.code, epoch := x.epoch, peer := x.peer }

/-- PULL: a member of this set is served the home's entry (R111); another pool by the lease, which a member that is not
the home reads from it each time (R122, R128). -/
def State.pullAsked (s : State) (dev : Dev) (sid : SessionId) (epoch : BitVec 32) (what : PullKind) : State :=
  let h := sidHandle sid.toNat
  let x := s.session h
  if maskHas s.setMask dev.toNat ∧ what = .entry then
    if x.state = .free ∨ x.gen.toNat ≠ sidGen sid.toNat then s.sendMg (.pullAnswer dev sid .refused)
    else s.sendMg (.pullAnswer dev sid (s.entryAnswer h))
  else if s.isHome h then s.serveLeased dev sid epoch what (s.leaseOf sid.toNat)
  else if x.gen.toNat ≠ sidGen sid.toNat ∨ x.state = .free then s.sendMg (.pullAnswer dev sid .refused)
  else
    ({ s with heldPulls := s.heldPulls ++ [{ dev, session := sid, epoch, what, leased := false }] } : State).sendMg
      (.leaseRead (BitVec.ofNat 6 (s.homeDev h)) sid)

/-- Pulls that waited for lines of their page are looked at again. -/
def State.pullsGoOn (s : State) : State :=
  let held := s.heldPulls.filter fun p => p.leased
  ({ s with heldPulls := dropIf (fun p => p.leased) s.heldPulls } : State).each held fun s p => match p.what with
    | .page l n => s.servePageWhenCalm p.dev p.session p.epoch l n
    | .entry => s

/-- A page that was pulled takes its place (R128). None when the arena has no room (R102). -/
def State.takePage (s : State) (h l p fill : Nat) (bytes : List Byte) : Option State :=
  let x := s.session h
  match s.ownLeaf h l p with
  | none => none
  | some (s, u) =>
    match s.allocPage x.tenant.toNat x.span (s.sidOf h) with
    | none => none
    | some (s, n) =>
      let s := s.writePage .nobody n 0 (bytes.take (x.heads * 512 * x.row))
      let s := s.updFrame n fun r => { r with refs := 1, fill }
      some (s.setLeaf u ((s.leaf u).setPage p n))

/-- Is every page below the published count here? -/
def State.holdsAll (s : State) (x : Session) : Bool :=
  (List.range x.nLayers).all fun l => (List.range (ceilDiv x.pub.toNat 256)).all fun p => (s.pageOf x l p).isSome

/-- No page of a REMOTE session is still to be pulled: REMOTE clears, and the home releases the sending pool (R99, R128). -/
def State.pullsEnd (s : State) (h : Nat) : State :=
  let x := s.session h
  let s := { s.setSession h { x with remote := false } with receiving := dropIf (fun e => e.1 == s.sidOf h) s.receiving }
  if s.isHome h then s.sendMg (.release x.peer x.peerId x.epoch) else s

/-- The members of a REMOTE session of this home that have pages still to pull. -/
def State.stillReceiving (s : State) (sid : Nat) : Word := ((s.receiving.find? fun e => e.1 == sid).map Prod.snd).getD 0

/-- A device that holds every page of a REMOTE session: a member tells its home so, and the home releases the sending pool once the last
one has (log entry 100). -/
def State.pageCame (s : State) (h : Nat) : State :=
  let x := s.session h
  if !x.remote || !s.holdsAll x then s
  else if s.isHome h then (if s.stillReceiving (s.sidOf h) = 0 then s.pullsEnd h else s)
  else (s.setSession h { x with remote := false }).sendMg (.memberAck (BitVec.ofNat 6 (s.homeDev h)) (BitVec.ofNat 32 (s.sidOf h)))

/-- A member of a home's REMOTE session holds every page. -/
def State.memberHolds (s : State) (sid dev : Nat) : State :=
  let s := { s with receiving := mapIf (fun e => e.1 == sid) (fun e => (e.1, maskDrop e.2 dev)) s.receiving }
  s.pageCame (sidHandle sid)

/-- MEMBER_ACK: the answer to an operation of the home (R110), or the notice of a member that holds every page of a REMOTE session
(R128). -/
def State.memberAcked (s : State) (sid dev : Nat) : State :=
  if s.sesOps.any fun o => o.session.toNat == sid && maskHas o.waiting dev then s.memberAnswered sid dev false
  else if maskHas (s.stillReceiving sid) dev then s.memberHolds sid dev
  else s

/-- An entry that was pulled fills a FREE one; of a REMOTE session the published tokens are there to be read. -/
def State.fillEntry (s : State) (h gen : Nat) (i : EntryInfo) : Option State :=
  let s := s.setSession h { s.session h with gen := BitVec.ofNat 12 gen }
  let e : Session := { Session.none with
    tenant := i.tenant, kvfmt := i.kvfmt, layers := i.layers, hdim := i.hdim, kvh := i.kvh, version := i.version, pub := i.pub
    epoch := i.epoch, view := i.view, remote := i.remote, peer := i.peer, peerId := i.peerId, peerMask := i.peerMask }
  let e := { e with counts := if i.remote ∨ i.view then e.allCounts i.pub.toNat else [] }
  (s.newEntry h e).map fun s =>
    let s := s.updSession h fun x => { x with parent := i.parent, parentVersion := i.parentVersion }
    if i.lost then s.loseSession h else s

/-- The member operations that waited for an entry are applied (R110). -/
def State.opsGoOn (s : State) (sid : Nat) : State :=
  let held := s.heldOps.filter fun o => o.session.toNat == sid
  ({ s with heldOps := dropIf (fun o => o.session.toNat == sid) s.heldOps } : State).each held State.memberOp

/-- PULL_RESPONSE (R111, R122, R128): the entry is filled or a page takes its place; a refusal ends what waited with
NOT_OWNER. A descriptor whose version is still ahead of the home's is stale (R117). -/
def State.pullAnswered (s : State) (sid : SessionId) (a : PullAnswer) : State :=
  let id := sid.toNat
  let h := sidHandle id
  let x := s.session h
  match a with
  | .entry eid i =>
    if !s.pulls.contains (id, PullKind.entry) then s
    else
      let s := { s with pulls := dropIf (· == (id, PullKind.entry)) s.pulls }
      let s : State :=
        if x.state = .free then
          match s.fillEntry h (sidGen eid.toNat) i with
          | some s => s
          | none => s.endNaming id fun _ => some (s.sesCpl St.noSpace 0 id none)
        else if x.gen.toNat ≠ sidGen id then s
        else
          let s := s.setSession h { x with version := i.version, pub := i.pub }
          if i.lost then s.loseSession h else s
      let s := s.opsGoOn id
      s.endNaming id fun d =>
        if dNum d 12 4 ≤ i.version.toNat ∨ (dOpcode d ≠ 2 ∧ dOpcode d ≠ 1) then none
        else some (s.sesCpl St.staleVersion 0 id none)
  | .page l p fill bytes =>
    let k : PullKind := .page l p
    if !s.pulls.contains (id, k) ∨ x.state = .free ∨ x.gen.toNat ≠ sidGen id then s
    else
      let s := { s with pulls := dropIf (· == (id, k)) s.pulls }
      match s.takePage h l.toNat p.toNat fill.toNat bytes with
      | some s => s.pageCame h
      | none => s.endNaming id fun _ => some (s.sesCpl St.noSpace 0 id none)
  | .poisoned =>
    if !(s.pulls.any fun e => e.1 == id) then s
    else
      ({ s with pulls := dropIf (fun e => e.1 == id) s.pulls }).endNaming id fun _ => some (s.sesCpl St.poisoned 0 id none)
  | .last =>
    let s := { s with pulls := dropIf (fun e => e.1 == id) s.pulls }
    if x.remote then s.pullsEnd h else s
  | .refused =>
    if !(s.pulls.any fun e => e.1 == id) then s
    else
      let cause := if x.remote then 4 else 0
      ({ s with pulls := dropIf (fun e => e.1 == id) s.pulls
                heldOps := dropIf (fun o => o.session.toNat == id) s.heldOps } : State).endNaming id fun _ =>
        some (s.sesCpl St.notOwner cause id none)

/-- A pull unanswered for 2 ms: the session is LOST (R130), and what named it completes LOST. A pull of an entry this
device does not hold ends with the descriptors that asked for it. -/
def State.pullExpired (s : State) (sid : SessionId) : State :=
  let id := sid.toNat
  if !(s.pulls.any fun e => e.1 == id) then s
  else
    let s := { s with pulls := dropIf (fun e => e.1 == id) s.pulls }
    let s := s.loseSession (sidHandle id)
    s.endNaming id fun _ => some (s.sesCpl St.lost 0 id none)

/-! ## Handoff between pools (R127 to R131) -/

/-- CLAIM at the sending home. -/
def State.claimed (s : State) (sid : SessionId) (epoch : BitVec 32) (peer : Dev) (peerId : SessionId) (mask : Word) :
    State :=
  let h := sidHandle sid.toNat
  let x := s.session h
  if x.gen.toNat = sidGen sid.toNat ∧ x.state = .handoff ∧ x.hphase = .offered ∧ x.epoch = epoch ∧ x.peer = peer then
    (s.setSession h { x with epoch := epoch + 1, hphase := .granted, peerId, peerMask := mask }).sendMg
      (.grant peer sid (epoch + 1) s.setMask x.info)
  else s.sendMg (.claimRefused peer sid x.epoch (decide (x.state = .free ∨ x.gen.toNat ≠ sidGen sid.toNat)))

/-- An ACCEPT in progress. -/
def State.acceptOf (s : State) (peer : Dev) (peerId : SessionId) : Option Accept :=
  s.accepts.find? fun a => a.peer == peer && a.peerId == peerId

def State.endAccept (s : State) (a : Accept) (status : Byte) (cause : Nat) : State :=
  let s := { s with accepts := dropIf (· == a) s.accepts }
  if a.quiet then s else
  match a.handle with
  | some h => s.endSess a.ring a.pos status cause (s.sidOf h.toNat) none
  | none => s.finish a.ring.toNat a.pos.toNat (Cpl.why status cause)

/-- An ACCEPT ends DONE, and its session's pages are to be pulled on every member; one with no published page has nothing to pull. -/
def State.acceptDone (s : State) (a : Accept) : State :=
  let s := s.endAccept a St.done 0
  match a.handle with
  | some h => ({ s with receiving := s.receiving ++ [(s.sidOf h.toNat, s.others)] } : State).pageCame h.toNat
  | none => s

/-- An ACCEPT that fails frees its handle (R129). Its record names the session of the other pool. -/
def State.failAccept (s : State) (a : Accept) (cause : Nat) : State :=
  let s := { s with accepts := dropIf (· == a) s.accepts }
  let s := if a.quiet then s else s.finish a.ring.toNat a.pos.toNat (Cpl.why St.notOwner cause)
  match a.handle with
  | some h => s.freeEntry h.toNat
  | none => s

/-- Does the offered session have the shape that SES_ACCEPT_PROFILE asks for (R126)? -/
def State.acceptable (s : State) (i : EntryInfo) : Bool :=
  let p := s.reg R.sesAcceptProfile
  i.layers.toNat == fld p 0 8 && i.hdim.toNat == fld p 8 2 && i.kvh.toNat == fld p 10 4 && i.kvfmt.toNat == fld p 14 4

/-- The entry of a session that another pool granted: its pages are still to be pulled (R127; log entry 100). -/
def receivedEntry (i : EntryInfo) (t : Tenant) (peer : Dev) (peerId : SessionId) (epoch : BitVec 32) (mask : Word) : Session :=
  let e : Session := { Session.none with
    tenant := t, layers := i.layers, hdim := i.hdim, kvh := i.kvh, kvfmt := i.kvfmt, version := i.version, pub := i.pub
    view := i.view, remote := true, epoch, peer, peerId, peerMask := mask }
  { e with counts := e.allCounts i.pub.toNat }

/-- GRANT at the receiving home (R108, R126, R127): a session of the ring's tenant, sets of one size, a session of the shape SES_ACCEPT_PROFILE gives, a handle with REMOTE
set, and COMMIT. -/
def State.granted (s : State) (peer : Dev) (peerId : SessionId) (epoch : BitVec 32) (mask : Word) (i : EntryInfo) : State :=
  match s.acceptOf peer peerId with
  | none => s
  | some a =>
    if a.phase ≠ .claiming ∨ epoch ≠ a.epoch + 1 then s
    else if i.tenant ≠ a.tenant then s.endAccept a St.notOwner 5
    else if popBelow mask 64 ≠ s.setSize ∨ !s.acceptable i then
      let s := { s with accepts := dropIf (· == a) s.accepts }
      if a.quiet then s else s.finish a.ring.toNat a.pos.toNat (Cpl.bad 28 7)
    else
      match s.freeHandle a.tenant.toNat with
      | none => s.endAccept a St.noSpace 0
      | some h =>
        match s.newEntry h (receivedEntry i a.tenant peer peerId epoch mask) with
        | none => s.endAccept a St.noSpace 0
        | some s =>
          let a' := { a with handle := some (BitVec.ofNat 20 h), phase := .committing }
          ({ s with accepts := mapIf (· == a) (fun _ => a') s.accepts } : State).sendMg (.commit peer peerId epoch)

/-- COMMIT at the sending home: the OFFER completes DONE and the release wait starts (R127, R131). -/
def State.committedAt (s : State) (sid : SessionId) (epoch : BitVec 32) (peer : Dev) : State :=
  let h := sidHandle sid.toNat
  let x := s.session h
  if x.gen.toNat = sidGen sid.toNat ∧ x.state = .handoff ∧ x.hphase = .granted ∧ x.epoch = epoch then
    let ticks := fld (s.reg R.sesReleaseWait) 0 8 * 1000000000 / max 1 s.rotNs
    let s := s.setSession h { x with hphase := .committed, deadline := BitVec.ofNat 32 (s.rotNo.toNat + ticks) }
    let s := s.each (s.offers.filter fun o => o.handle.toNat == h) fun s o =>
      s.endSess o.ring o.pos St.done 0 sid.toNat none
    ({ s with offers := dropIf (fun o => o.handle.toNat == h) s.offers } : State).sendMg (.commitAck peer sid)
  else s.sendMg (.claimRefused peer sid x.epoch false)

/-- The commit is acknowledged: ACCEPT completes DONE (R127). -/
def State.commitAcked (s : State) (peer : Dev) (peerId : SessionId) : State :=
  match s.acceptOf peer peerId with
  | some a => if a.phase = .committing ∨ a.phase = .readingLease then s.acceptDone a else s
  | none => s

/-- COMMIT unanswered for 2 ms: the lease is read (R130). -/
def State.commitExpired (s : State) (peer : Dev) (peerId : SessionId) : State :=
  match s.acceptOf peer peerId with
  | some a =>
    if a.phase = .committing then
      ({ s with accepts := mapIf (· == a) (fun (b : Accept) => { b with phase := .readingLease }) s.accepts } : State).sendMg
        (.leaseRead peer peerId)
    else s
  | none => s

/-- The lease as the sending home answers it (R130). -/
def State.leaseAnswered (s : State) (peer : Dev) (peerId : SessionId) (l : Lease) : State :=
  match s.acceptOf peer peerId with
  | some a =>
    if a.phase ≠ .readingLease then s
    else if l.handoff ∧ l.phase = 3 ∧ l.epoch = a.epoch + 1 ∧ l.peer.toNat = s.devNo then s.acceptDone a
    else s.failAccept a 4
  | none => s

/-- The lease read is unanswered too: the receiving session is LOST and ACCEPT completes LOST (R130). -/
def State.leaseExpired (s : State) (peer : Dev) (peerId : SessionId) : State :=
  match s.acceptOf peer peerId with
  | some a =>
    if a.phase ≠ .readingLease then s
    else
      let s := match a.handle with
        | some h => s.loseSession h.toNat
        | none => s
      s.endAccept a St.lost 0
  | none => s

/-- A CLAIM or COMMIT that found its epoch superseded: ACCEPT completes NOT_OWNER, cause 4 (R127, R129), or 0 where the session ID is
stale (R108). -/
def State.claimRefusedAt (s : State) (peer : Dev) (peerId : SessionId) (stale : Bool) : State :=
  match s.acceptOf peer peerId with
  | some a => s.failAccept a (if stale then 0 else 4)
  | none => s

/-- A member reads the home's lease and follows it, and serves the pulls that waited for it (R122, R128, R130). The home alone keeps the
phase. -/
def State.leaseRead (s : State) (sid : SessionId) (l : Lease) : State :=
  let h := sidHandle sid.toNat
  let x := s.session h
  let s :=
    if x.gen.toNat ≠ sidGen sid.toNat ∨ s.isHome h then s
    else if l.lost then s.loseSession h
    else if x.state ≠ .handoff then s
    else if l.handoff then s.setSession h { x with epoch := l.epoch, hphase := .none, peer := l.peer }
    else s.setSession h { x with state := .live, hphase := .none, epoch := l.epoch }
  let waits (p : HeldPull) : Bool := p.session == sid && !p.leased
  let held := s.heldPulls.filter waits
  let s := { s with heldPulls := dropIf waits s.heldPulls }
  s.each held fun s p => s.serveLeased p.dev p.session p.epoch p.what l

/-- The home's lease cannot be read: the pulls that waited for it are refused (R128). -/
def State.leaseLost (s : State) (sid : SessionId) : State :=
  let waits (p : HeldPull) : Bool := p.session == sid && !p.leased
  let held := s.heldPulls.filter waits
  ({ s with heldPulls := dropIf waits s.heldPulls } : State).each held fun s p => s.sendMg (.pullAnswer p.dev sid .refused)

/-- RELEASE at the sending home: the committed session is FREE on every member (R122, R128). -/
def State.released (s : State) (sid : SessionId) (epoch : BitVec 32) : State :=
  let h := sidHandle sid.toNat
  let x := s.session h
  if x.gen.toNat = sidGen sid.toNat ∧ x.state = .handoff ∧ x.hphase = .committed ∧ x.epoch = epoch then
    (s.freeEntry h).tellOthers .discard sid.toNat 0 0 0
  else s

/-- The handoff timer expires in OFFERED or GRANTED (R129). The event is an advisory timeout of the die that homes the
entry (log entry 32). -/
def State.handoffExpired (s : State) (h : Nat) : State :=
  let x := s.session h
  if x.state = .handoff ∧ (x.hphase = .offered ∨ x.hphase = .granted) then
    let s := (s.setSession h { x with state := .live, hphase := .none, epoch := x.epoch + 1 }).count R.sesOrphanTotal
    let s := s.record { ErrRec.plain 1 8 (s.homeDie ((reservedBase + 64 * h) / 65536)) 5 with
      status := St.timeout, tenant := some x.tenant, addr := s.sessionFpa h }
    let mine := s.offers.filter fun o => o.handle.toNat == h
    let s := { s with offers := dropIf (fun o => o.handle.toNat == h) s.offers }
    s.each mine fun s o => s.endSess o.ring o.pos St.timeout 0 (s.sidOf h) none
  else s

/-- The release wait expires: the sending entry is LOST (R131). -/
def State.releaseExpired (s : State) (h : Nat) : State :=
  let x := s.session h
  if x.state = .handoff ∧ x.hphase = .committed then s.loseSession h else s

/-- A LIVE session untouched for SES_IDLE_TIME is IDLE, and its pages begin to demote (R122, R124). -/
def State.sessionIdle (s : State) (h : Nat) : State :=
  let x := s.session h
  if x.state = .live then s.setSession h { x with state := .idle } else s

/-- May a discard still be undone: the home's operation runs, or a member has not yet heard nothing of it for longer than the home waits
for its members (log entry 93)? -/
def State.undoable (s : State) (g : Gone) : Bool :=
  (s.sesOps.any fun o => o.kind == .discard && sidHandle o.session.toNat == g.handle)
    || (!s.isHome g.handle && decide (s.time < g.at_ + 4000000))

/-- Background reclamation (R121): an entry given up has its references taken back, or a page with none has its frames
returned and its granules dropped once nothing pins them. An entry whose discard may still be undone waits. -/
def State.reclaimStep (s : State) : State :=
  match s.discarded.find? fun g => !s.undoable g with
  | some g => ({ s with discarded := s.discarded.erase g }).reclaimEntry g.entry
  | none =>
    match s.reclaims.find? fun r => (List.range r.span).all fun i => (s.granule (r.page + i)).pins == 0 with
    | none => s
    | some r =>
      let s := { s with reclaims := s.reclaims.erase r }
      s.each (List.range r.span) fun s i => (s.setFrame (r.page + i) Frame.free).dropGranule (r.page + i)

/-! ## Requests between devices and their tags (R296, R298) -/

/-- A member operation sent to a device for a session. -/
def memberOut (sid : SessionId) (dev : Dev) : Out → Bool
  | .member d op => d == dev && op.session == sid
  | _ => false

/-- What an answer to a pull is about, where it says so. -/
def answerKind : PullAnswer → Option PullKind
  | .entry _ _ => some .entry
  | .page l p _ _ => some (.page l p)
  | _ => none

/-- A pull for a session of this device; a page's names the session at the sending pool. -/
def State.pullOut (s : State) (sid : SessionId) (k : Option PullKind) : Out → Bool
  | .pull _ id _ what => (id == sid || id == (s.session (sidHandle sid.toNat)).peerId) && (k.isNone || k == some what)
  | _ => false

def claimOut (peer : Dev) (peerId : SessionId) : Out → Bool
  | .claim d id _ _ => d == peer && id == peerId
  | _ => false

def commitOut (peer : Dev) (peerId : SessionId) : Out → Bool
  | .commit d id _ => d == peer && id == peerId
  | _ => false

def leaseOut (sid : SessionId) : Out → Bool
  | .leaseRead _ id => id == sid
  | _ => false

/-- A request between session stores found its device unreachable: what waited for the answer ends as if its time were up (R110, R130,
R296). A CLAIM's ACCEPT completes TIMEOUT. -/
def State.sessionMiss (s : State) : Out → State
  | .member d op => s.memberAnswered op.session.toNat d.toNat true
  | .pull _ id _ what =>
    match s.pulls.find? fun e => e.2 == what && (e.1 == id.toNat || (s.session (sidHandle e.1)).peerId == id) with
    | some e => s.pullExpired (BitVec.ofNat 32 e.1)
    | none => s
  | .claim d id _ _ =>
    match s.acceptOf d id with
    | some a => if a.phase = .claiming then s.endAccept a St.timeout 0 else s
    | none => s
  | .commit d id _ => s.commitExpired d id
  | .leaseRead d id => (s.leaseExpired d id).leaseLost id
  | _ => s

/-! ## The commands -/

def execSessCreate (ring : RingId) (pos : Pos) (s : State) : Host.Outcome State Fault Refusal :=
  .next (s.sesCreate ring pos)

def execAppend (ring : RingId) (pos : Pos) (rows : List Byte) (s : State) : Host.Outcome State Fault Refusal :=
  .next (s.sesAppend ring pos rows)

def execPublish (ring : RingId) (pos : Pos) (s : State) : Host.Outcome State Fault Refusal :=
  .next (s.sesPublish ring pos)

def execFork (ring : RingId) (pos : Pos) (s : State) : Host.Outcome State Fault Refusal :=
  .next (s.sesChild ring pos 4 .fork)

def execSessOpen (ring : RingId) (pos : Pos) (s : State) : Host.Outcome State Fault Refusal :=
  .next (s.sesChild ring pos 5 .openView)

def execDiscard (ring : RingId) (pos : Pos) (s : State) : Host.Outcome State Fault Refusal :=
  .next (s.sesDiscard ring pos)

def execOffer (ring : RingId) (pos : Pos) (s : State) : Host.Outcome State Fault Refusal :=
  .next (s.sesOffer ring pos)

def execAccept (ring : RingId) (pos : Pos) (s : State) : Host.Outcome State Fault Refusal :=
  .next (s.sesAccept ring pos)

def execSessQuery (ring : RingId) (pos : Pos) (s : State) : Host.Outcome State Fault Refusal :=
  .next (s.sesQueryOp ring pos)

def execWake (ring : RingId) (pos : Pos) (s : State) : Host.Outcome State Fault Refusal :=
  .next (s.sesWake ring pos)

def execMemberOperation (op : MemberOp) (s : State) : Host.Outcome State Fault Refusal :=
  .next (s.whenServed (.member op) fun s => s.mgServe op.home fun s => s.memberOp op)

def execMemberAck (session : SessionId) (dev : Dev) (s : State) : Host.Outcome State Fault Refusal :=
  .next (s.whenServed (.memberAck session dev) fun s =>
    (s.mgAnswered (memberOut session dev)).memberAcked session.toNat dev.toNat)

def execSessionMemberTimeout (session : SessionId) (dev : Dev) (s : State) : Host.Outcome State Fault Refusal :=
  .next (s.whenAwake 6 (.memberTimeout session dev) fun s =>
    (s.mgLate (memberOut session dev)).memberAnswered session.toNat dev.toNat true)

def execPull (from_ : Dev) (session : SessionId) (epoch : BitVec 32) (what : PullKind) (s : State) :
    Host.Outcome State Fault Refusal :=
  .next (s.whenServed (.pull from_ session epoch what) fun s =>
    s.mgServe from_ fun s => s.pullAsked from_ session epoch what)

def execPullResponse (session : SessionId) (answer : PullAnswer) (s : State) : Host.Outcome State Fault Refusal :=
  .next (s.whenServed (.pullAnswer session answer) fun s =>
    (s.mgAnswered (s.pullOut session (answerKind answer))).pullAnswered session answer)

def execPullTimeout (session : SessionId) (s : State) : Host.Outcome State Fault Refusal := .next (s.whenAwake 6 (.pullTimeout session) fun s =>
    (s.mgLate (s.pullOut session none)).pullExpired session)

def execClaim (session : SessionId) (epoch : BitVec 32) (peer : Dev) (peerId : SessionId) (peerMask : Word) (s : State) :
    Host.Outcome State Fault Refusal :=
  .next (s.whenServed (.claim session epoch peer peerId peerMask) fun s =>
    s.mgServe peer fun s => s.claimed session epoch peer peerId peerMask)

def execHandoffGrant (peer : Dev) (peerId : SessionId) (epoch : BitVec 32) (mask : Word) (info : EntryInfo) (s : State) :
    Host.Outcome State Fault Refusal :=
  .next (s.whenServed (.grant peer peerId epoch mask info) fun s =>
    (s.mgAnswered (claimOut peer peerId)).granted peer peerId epoch mask info)

def execCommit (session : SessionId) (epoch : BitVec 32) (peer : Dev) (s : State) : Host.Outcome State Fault Refusal :=
  .next (s.whenServed (.commit session epoch peer) fun s => s.mgServe peer fun s => s.committedAt session epoch peer)

def execCommitAck (peer : Dev) (peerId : SessionId) (s : State) : Host.Outcome State Fault Refusal :=
  .next (s.whenServed (.commitAck peer peerId) fun s =>
    (s.mgAnswered (commitOut peer peerId)).commitAcked peer peerId)

def execCommitTimeout (peer : Dev) (peerId : SessionId) (s : State) : Host.Outcome State Fault Refusal :=
  .next (s.whenAwake 6 (.commitTimeout peer peerId) fun s =>
    (s.mgLate (commitOut peer peerId)).commitExpired peer peerId)

def execLeaseReadTimeout (peer : Dev) (peerId : SessionId) (s : State) : Host.Outcome State Fault Refusal :=
  .next (s.whenAwake 6 (.leaseTimeout peer peerId) fun s =>
    (s.mgLate (leaseOut peerId)).leaseExpired peer peerId)

def execLeaseResolve (session : SessionId) (lease : Lease) (s : State) : Host.Outcome State Fault Refusal :=
  .next (s.whenServed (.lease session lease) fun s => (s.mgAnswered (leaseOut session)).leaseRead session lease)

def execRelease (session : SessionId) (epoch : BitVec 32) (peer : Dev) (s : State) : Host.Outcome State Fault Refusal :=
  .next (s.whenServed (.release session epoch) fun s => s.mgServe peer fun s => s.released session epoch)

def execHandoffTimerExpiry (handle : Handle) (s : State) : Host.Outcome State Fault Refusal :=
  .next (s.whenAwake 6 (.handoffTimer handle) fun s => s.handoffExpired handle.toNat)

def execReleaseWaitExpiry (handle : Handle) (s : State) : Host.Outcome State Fault Refusal :=
  .next (s.whenAwake 6 (.releaseWait handle) fun s => s.releaseExpired handle.toNat)

def execSessionIdleExpiry (handle : Handle) (s : State) : Host.Outcome State Fault Refusal :=
  .next (if s.asleep then s else s.sessionIdle handle.toNat)

def execReclamationProgress (s : State) : Host.Outcome State Fault Refusal := .next s.reclaimStep

def execClaimRefused (peer : Dev) (peerId : SessionId) (why : ClaimRefusal) (s : State) :
    Host.Outcome State Fault Refusal :=
  .next (s.whenServed (.claimRefused peer peerId why.stale) fun s =>
    (s.mgAnswered fun o => claimOut peer peerId o || commitOut peer peerId o).claimRefusedAt peer peerId why.stale)

def execLeaseReadAnswer (peer : Dev) (peerId : SessionId) (lease : Lease) (s : State) :
    Host.Outcome State Fault Refusal :=
  .next (s.whenServed (.leaseAnswer peer peerId lease) fun s =>
    (s.mgAnswered (leaseOut peerId)).leaseAnswered peer peerId lease)

end Sys2Proof.Machine
end

