-- ==== Sys2Proof/Machine/Attention.lean ====
section
/-! DEFINITION. Attention queries: their checks, size, locations, and what an item computes and commits at its last close
(R133 to R156). -/

namespace Sys2Proof.Machine

/-! ## The descriptor (R133, R134) -/

structure AttnQ where
  sid : Nat
  version : Nat
  layer : Nat
  q : Nat
  g : Nat
  qfmt : Nat
  f32 : Bool
  profile : Nat
  pos : Nat
  window : Nat
  sinks : Nat
  scale : Nat
  src : Nat
  dst : Nat
  srcHost : Bool
  srcPort : Nat
  dstHost : Bool
  dstPort : Nat
  append : Bool
  rope : Bool
  tree : Bool
deriving DecidableEq, Repr

def attnQ (d : Line) : AttnQ :=
  { sid := attnSession d, version := dNum d 12 4, layer := attnLayer d, q := fld d 144 4 + 1, g := fld d 148 4 + 1
    qfmt := fld d 152 2, f32 := bit d 154, profile := fld d 155 3, pos := fld d 160 21, window := fld d 192 21
    sinks := fld d 224 16, scale := fld d 256 32, src := dNum d 40 8, dst := dNum d 48 8, srcHost := fld d 448 2 == 1
    srcPort := fld d 450 2, dstHost := fld d 452 2 == 1, dstPort := fld d 454 2, append := dFlag d 12
    rope := dFlag d 13, tree := dFlag d 14 }

/-- Bytes of a query element and of an output element. -/
def AttnQ.qb (a : AttnQ) : Nat := if a.qfmt = 0 then 2 else 1
def AttnQ.ob (a : AttnQ) : Nat := if a.f32 then 4 else 2

def roundUp64 (n : Nat) : Nat := ceilDiv n 64 * 64

/-- The query block (R135): where NEW and MASK start, and its length. -/
def AttnQ.newAt (a : AttnQ) (x : Session) : Nat := roundUp64 (a.q * x.heads * a.g * x.dim * a.qb)
def AttnQ.maskAt (a : AttnQ) (x : Session) : Nat :=
  roundUp64 (a.newAt x + (if a.append || a.tree then 4 * x.heads * a.q * x.dim else 0))
def AttnQ.blockLen (a : AttnQ) (x : Session) : Nat := a.maskAt x + (if a.tree then 64 else 0)
def AttnQ.outLen (a : AttnQ) (x : Session) : Nat := a.q * x.heads * a.g * x.dim * a.ob

/-- Stored keys read (R140): those of other positions no row sees. -/
def AttnQ.stored (a : AttnQ) : Nat := if a.tree then a.pos else a.pos + a.q

/-- The readable count of a layer (R117). -/
def Session.readable (x : Session) (l : Nat) : Nat := if x.view then x.pub.toNat else x.count l

/-- ROTDIM ÷ 2 of a profile register. -/
def ropeHalf (cfg : Word) : Nat := fld cfg 2 7 + 1

/-! ## Records (R155) -/

/-- A completion with RESULT0 and RESULT1 as R109 gives them, COUNT the committed N_l of the layer. -/
def State.attnCpl (s : State) (a : AttnQ) (c : Cpl) : Cpl :=
  let x := s.session (sidHandle a.sid)
  let r := s.sesCpl c.status 0 a.sid (if a.layer < x.nLayers then some a.layer else none)
  { c with result0 := r.result0, result1 := r.result1 }

/-! ## Pre-check (R136 steps 1 to 4) -/

/-- How a pre-check ends. -/
inductive PreEnd where
  | ok
  | ends (c : Cpl)
  | pull (h : Nat)
deriving DecidableEq, Repr

/-- Step 1. -/
def State.attnFlags (s : State) (a : AttnQ) : Option Cpl :=
  let sc := Flt.fp32.val a.scale
  if a.append ∧ a.tree then some (Cpl.bad 1 2)
  else if a.rope ∧ !a.append ∧ !a.tree then some (Cpl.bad 1 2)
  else if a.rope ∧ bit (s.reg (R.attRopeCfg a.profile)) 0 = false then some (Cpl.bad 19 2)
  else if !a.rope ∧ a.profile ≠ 0 then some (Cpl.bad 19 2)
  else if a.sinks ≠ 0 ∧ a.window = 0 then some (Cpl.bad 28 2)
  else if !sc.isNum ∨ (Fval.num false 0 0).lt sc = false ∨ sc.isZero then some (Cpl.bad 32 2)
  else none

/-- Step 2. -/
def State.attnAddrs (s : State) (a : AttnQ) : Option Cpl :=
  if a.src % 64 ≠ 0 then some (Cpl.bad 40 8)
  else if a.dst % 64 ≠ 0 then some (Cpl.bad 48 8)
  else if !a.srcHost ∧ 2 ^ 57 ≤ a.src then some (Cpl.bad 40 1)
  else if !a.dstHost ∧ 2 ^ 57 ≤ a.dst then some (Cpl.bad 48 1)
  else if (a.srcHost ∧ !s.hostThere a.srcPort) ∨ (a.dstHost ∧ !s.hostThere a.dstPort) then some (Cpl.bad 56 5)
  else none

/-- Steps 3 and 4 once the entry is found. -/
def State.attnSessionCheck (s : State) (a : AttnQ) (h : Nat) : Option Cpl :=
  let x := s.session h
  if x.state = .lost then some (Cpl.of St.lost)
  else if x.version.toNat ≠ a.version then some (Cpl.why St.staleVersion 0)
  else if a.append ∧ x.view then some (Cpl.why St.notOwner 2)
  else if a.append ∧ x.state = .handoff then some (Cpl.why St.notOwner 3)
  else if x.nLayers ≤ a.layer then some (Cpl.bad 16 7)
  else if a.rope ∧ x.dim < 2 * ropeHalf (s.reg (R.attRopeCfg a.profile)) then some (Cpl.bad 19 7)
  else if 1048576 < a.pos + a.q ∨ (a.tree ∧ 1048575 < a.pos + 15) then some (Cpl.bad 20 7)
  else none

/-- The pre-check of a QUERY. -/
def State.attnCheck (s : State) (tenant : Nat) (a : AttnQ) : PreEnd :=
  match s.attnFlags a with
  | some c => .ends c
  | none =>
    match s.attnAddrs a with
    | some c => .ends c
    | none =>
      match s.lookSession a.sid tenant (some a.version) with
      | .bad st c => .ends (Cpl.why st c)
      | .pull h => .pull h
      | .ok h =>
        match s.attnSessionCheck a h with
        | some c => .ends c
        | none => .ok

/-- ATTN_QUERY: a fetched query's pre-check begins (R72). `block` is what a query block in a host, another device or an
endpoint holds. -/
def State.attnStart (s : State) (r pos : Nat) (block : List Byte) : State :=
  if !bit (s.reg R.sesCtrl) 0 then s
  else
    match s.mayStart r pos .attn with
    | none => s
    | some f =>
      let a := attnQ f.desc
      let s := s.sesLoad (sidHandle a.sid)
      match s.attnCheck (dTenant f.desc) a with
      | .ends c => s.finish r pos (s.attnCpl a c)
      | .pull h => s.askEntry h a.sid
      | .ok =>
        (s.setFlight r pos fun f => { f with stage := .preparing, host := block }).touchSession (sidHandle a.sid)

/-! ## Size and locations (R138, R75) -/

/-- The pages counted in u, token i standing at POS + `depth i`. -/
def AttnQ.pages (a : AttnQ) (depth : Nat → Nat) : List Nat :=
  (List.range (ceilDiv a.stored 256)).filter fun p =>
    (List.range a.q).any fun i => seesPage a.window a.sinks a.stored (a.pos + (if a.tree then depth i else i)) p

/-- The depths of a query's rows as its pre-check read them (log entry 47). -/
def Flight.depth (f : Flight) (i : Nat) : Nat := f.depths.getD i 0

def AttnQ.units (a : AttnQ) (depth : Nat → Nat) : Nat := max 1 (a.pages depth).length

/-- The pages an item reads or appends to. -/
def AttnQ.allPages (a : AttnQ) (depth : Nat → Nat) : List Nat :=
  a.pages depth ++ (if a.append then
    (List.range ((a.pos + a.q - 1) / 256 - a.pos / 256 + 1)).map (a.pos / 256 + ·) else [])

/-- The granules of its locations: pages, query block and output. -/
def State.attnLocations (s : State) (who tenant : Nat) (a : AttnQ) (depth : Nat → Nat) : List Nat :=
  let x := s.session (sidHandle a.sid)
  ((a.allPages depth).filterMap fun p => s.pageOf x a.layer p).flatMap s.pageGranules
  ++ (if a.srcHost then [] else s.rangeGranules who tenant (pieces (a.blockLen x)) a.src (a.blockLen x))
  ++ (if a.dstHost then [] else s.rangeGranules who tenant (pieces (a.outLen x)) a.dst (a.outLen x))

/-- The DVA spans the pre-check translates: address, length, write, and the descriptor byte of a fault. -/
def State.attnSpans (s : State) (a : AttnQ) : List (Nat × Nat × Bool × Nat) :=
  let x := s.session (sidHandle a.sid)
  (if a.srcHost then [] else [(a.src, a.blockLen x, false, 40)])
  ++ (if a.dstHost then [] else [(a.dst, a.outLen x, true, 48)])

/-- Pages of a REMOTE session that have not been pulled (R128). -/
def State.attnMissing (s : State) (a : AttnQ) (depth : Nat → Nat) : List Nat :=
  let x := s.session (sidHandle a.sid)
  if x.remote then
    (a.allPages depth).filter fun p => decide (256 * p < x.count a.layer) && (s.pageOf x a.layer p).isNone
  else []

/-! ## Slots and binding (R137, R139, R140, R116) -/

/-- KPARAM of R137. -/
def State.attnFits (s : State) (a : AttnQ) (k : List Byte) : Bool :=
  let x := s.session (sidHandle a.sid)
  decide (a.q - 1 ≤ numAt k 0 1 % 16 ∧ a.g - 1 ≤ numAt k 0 1 / 16)
  && numAt k 1 1 / 2 ^ x.hdim.toNat % 2 == 1 && numAt k 1 1 / 2 ^ (4 + x.kvfmt.toNat) % 2 == 1
  && (!a.append || numAt k 2 1 % 2 == 1) && (!a.tree || numAt k 2 1 / 2 % 2 == 1) && (a.qfmt != 0 || numAt k 2 1 / 4 % 2 == 1)

/-- How the check at bind ends: it may bind, it completes, or it finds no slot. -/
inductive BindEnd where
  | ok
  | ends (c : Cpl)
  | blocked
deriving DecidableEq, Repr

/-- R136 step 5. A session given up since the pre-check is a stale handle. -/
def State.attnBind (s : State) (a : AttnQ) : BindEnd :=
  let h := sidHandle a.sid
  let x := s.session h
  if !bit (s.reg R.sesCtrl) 0 then .blocked
  else if x.state = .free ∨ x.gen.toNat ≠ sidGen a.sid then .ends (Cpl.why St.notOwner 0)
  else if x.state = .lost then .ends (Cpl.of St.lost)
  else if a.append ∧ x.state = .handoff then .ends (Cpl.why St.notOwner 3)
  else if a.append ∧ (s.layerHeld a.sid a.layer ∨ a.pos ≠ x.count a.layer) then .ends (Cpl.why St.staleVersion 1)
  else if a.tree ∧ a.pos ≠ x.readable a.layer then .ends (Cpl.why St.staleVersion 1)
  else if !a.append ∧ !a.tree ∧ x.readable a.layer < a.pos + a.q then .ends (Cpl.bad 20 7)
  else if x.count a.layer < x.pub.toNat then .ends (Cpl.bad 12 7)
  else .ok

/-! ## Reads and writes of an item -/

/-- What an item reads: bytes, how the item ends, or that it waits for what other caches, hosts and devices hold of it (R288). -/
inductive Got where
  | ok (s : State) (bs : List Byte)
  | ends (s : State) (c : Cpl)
  | waits (s : State)

/-- The item of a descriptor at work: the front end of its ring translates for it (R241). `off` is the byte of the descriptor that names
the address. -/
def State.itemEng (s : State) (r pos off : Nat) : Eng :=
  { cache := s.frontCache r, tenant := (s.ring r).tenant, checked := true, coherent := true, rot := true
    who := .flight (BitVec.ofNat 12 r) (BitVec.ofNat 32 pos) off }

/-- Read a span of an item's source: its host's bytes, or a DVA. -/
def State.itemRead (s : State) (r pos : Nat) (host : Bool) (hostBytes : List Byte) (addr len off : Nat) : Got :=
  let e := s.itemEng r pos off
  if host then .ok s (slice hostBytes 0 len)
  else if !(s.needs e (pieces len) addr len).isEmpty then .waits (s.ask e (s.needs e (pieces len) addr len))
  else
    let (bs, err) := s.gather e (pieces len) addr len
    let s := s.readUse e.cache e.tenant addr len bs.length
    match err with
    | some (dva, why) => .ends (s.noteRefusal e.tenant false 0x3FF dva why) (why.cpl off)
    | none =>
      if bs.any Prod.snd then .ends (s.poisonedRead e.cache e.tenant addr len) (Cpl.of St.poisoned) else .ok s (bs.map Prod.fst)

/-- Write an item's output: coherent stores under the tenant's translation, or posted writes of a host port. The state, and
how the item ends where a store is refused. -/
def State.itemWrite (s : State) (r pos : Nat) (host : Bool) (port addr off : Nat) (bs : List Byte) : State × Option Cpl :=
  if host then (s.hostWriteP port addr (bs.map (·, false)), none)
  else
    let e := s.itemEng r pos off
    let (s, _, err) := State.scatter e (pieces bs.length) s addr (bs.map (·, false))
    match err with
    | some (dva, why) => (s.noteRefusal e.tenant true 0x3FF dva why, some (why.cpl off))
    | none => (s, none)

/-- Lines of this pool that an item reads without a DVA: those that others hold are asked for, and the item waits. -/
def State.itemAsk (s : State) (lines : List Nat) : State := s.ask (Eng.func 0 0 .nobody) (lines.map .line)

/-- How the last close of an item ends: it completes, a CLOSE goes on to its install, or the item waits for lines it reads or for the
acknowledgement of its output. -/
inductive Closed where
  | done (s : State) (c : Cpl)
  | installs (s : State)
  | waits (s : State)

/-- Send an item's output once; nothing is committed before all of it is acknowledged (R85, R154). `commit` goes on from there. -/
def State.outputThen (s : State) (slot : Nat) (it : Item) (host : Bool) (port addr off : Nat) (out : List Byte) (commit : State → Closed) :
    Closed :=
  let r := it.ring.toNat
  let pos := it.pos.toNat
  if it.written then (if s.sentFor r pos then .waits s else commit s)
  else
    match s.itemWrite r pos host port addr off out with
    | (s, some c) => .done s c
    | (s, none) => if s.sentFor r pos then .waits (s.updItem slot fun x => { x with written := true }) else commit s

/-! ## Output that no DONE stands for (R154) -/

/-- Bytes of an output that nothing determines, where they lie in this pool and may be written (log entry 200). -/
def State.spoilPiece (s : State) (e : Eng) (dva : Nat) (bs : List Byte) : State :=
  match s.translate e.cache e.tenant dva true with
  | .error _ => s
  | .ok x =>
    if x.tgt ∨ x.addr / 2 ^ 50 ≠ s.devNo then s
    else
      let o := x.addr % 2 ^ 50
      match s.refusedFrom e x.key true o bs.length with
      | some (k, _) => s.putLocal e x.key o dva ((bs.take k).map (·, false))
      | none => s.putLocal e x.key o dva (bs.map (·, false))

/-- Free bytes take the place of what a range held. The fuel is the number of pieces. -/
def State.spoil (e : Eng) : Nat → State → Nat → Nat → State
  | 0, s, _, _ => s
  | fuel + 1, s, dva, len =>
    if len = 0 then s
    else
      let n := pieceLen dva len
      let (bs, s) := s.drawBytes n
      State.spoil e fuel (s.spoilPiece e dva bs) (dva + n) (len - n)

/-- A QUERY that does not end DONE leaves the bytes at DST unpredictable (R154). -/
def State.spoilOutput (s : State) (it : Item) (c : Cpl) : State :=
  let a := attnQ (s.itemDesc it)
  if it.kind ≠ .attn ∨ c.status = St.done ∨ a.dstHost then s
  else State.spoil { s.itemEng it.ring.toNat it.pos.toNat 48 with who := .nobody } (pieces it.outLen) s a.dst it.outLen

/-! ## What an item computes -/

/-- Does the MASK section break R135 (R136 step 6)? -/
def maskBad (q : Nat) (m : List Byte) : Bool :=
  ((List.range 16).any fun i =>
    let w := numAt m (2 * i) 2
    let d := numAt m (32 + i) 1
    if i < q then w / 2 ^ i % 2 == 0 || decide (2 ^ q ≤ w) || decide (15 < d) else w != 0 || d != 0)
  || !allZero (slice m 48 16)

/-- The bf16 bits of a row of the NEW section. -/
def newBits (a : AttnQ) (x : Session) (block : List Byte) (i h kv : Nat) : List Nat :=
  let o := a.newAt x + ((2 * h + kv) * a.q + i) * 2 * x.dim
  (List.range x.dim).map fun e => numAt block (o + 2 * e) 2

/-- A new row as the session stores it; keys are rotated. -/
def newRowOf (a : AttnQ) (x : Session) (block : List Byte) (rope : Option Rope) (t i h kv : Nat) : List Byte :=
  let bits := newBits a x block i h kv
  newRow x.kvfmt.toNat (match rope with
    | some r => if kv = 0 then ropeRow r t bits else bits.map .raw
    | none => bits.map .raw)

/-- A stored row of the layer. -/
def State.rowOf (s : State) (x : Session) (l k h kv : Nat) : KvRow :=
  match s.pageOf x l (k / 256) with
  | some f => kvRow x.kvfmt.toNat x.dim (s.poolRead (65536 * f + x.rowAt h kv (k % 256)) x.row)
  | none => kvRow x.kvfmt.toNat x.dim (List.replicate x.row 0)

/-- The output of a query over what the session holds, and its NaN rows (R140 to R151). -/
def State.attnOutput (s : State) (a : AttnQ) (x : Session) (block : List Byte) (rope : Option Rope) : List Byte × Nat :=
  let d := x.dim
  let mask (i : Nat) : Nat := if a.tree then numAt block (a.maskAt x + 2 * i) 2 else 0
  let depth (i : Nat) : Nat := if a.tree then numAt block (a.maskAt x + 32 + i) 1 else i
  let p8 := decide (x.kvfmt.toNat < 2 ∧ a.qfmt ≠ 0)
  let rows := (List.range a.q).flatMap fun i => (List.range x.heads).flatMap fun h => (List.range a.g).map fun g =>
    let v := (i * x.heads + h) * a.g + g
    let q := queryVec a.qfmt d (slice block (v * d * a.qb) (d * a.qb))
    let trans : Option (List Seen) :=
      if a.tree then some (((List.range a.q).filter fun j => mask i / 2 ^ j % 2 == 1).map fun j =>
        { at_ := j, key := kvRow x.kvfmt.toNat d (newRowOf a x block rope (a.pos + depth j) j h 0)
          value := kvRow x.kvfmt.toNat d (newRowOf a x block rope (a.pos + depth j) j h 1) })
      else none
    let key (k : Nat) : KvRow := s.rowOf x a.layer k h 0
    let value (k : Nat) : KvRow := s.rowOf x a.layer k h 1
    let seen := (List.range (ceilDiv a.stored 256)).flatMap fun p =>
      (seenOf a.window a.sinks a.stored (a.pos + depth i) p).map (256 * p + ·)
    let finite := q.all Fval.isNum && (seen.all fun k => (key k).finite && (value k).finite)
      && (trans.getD []).all fun t => t.key.finite && t.value.finite
    attOut a.f32 d finite
      (attRow p8 (Flt.fp32.val a.scale) q a.stored a.window a.sinks (a.pos + depth i) key value trans)
  (rows.flatMap Prod.fst, (rows.filter Prod.snd).length)

/-- The profile an item sampled (R156): none where its table holds poison. -/
def State.ropeOf (s : State) (w : BitVec 96) : Option Rope :=
  let n := fld w 2 7 + 1
  let base := fld w 32 64
  if s.anyPoison base (4 * n) then none
  else some { half := bit w 1, freqs := (List.range n).map fun k => Flt.fp32.val (leNat (s.poolRead (base + 4 * k) 4)) }

/-- Profile p as a bind samples it. -/
def State.sampleRope (s : State) (p : Nat) : BitVec 96 :=
  BitVec.ofNat 96 ((s.reg (R.attRopeCfg p)).toNat % 2 ^ 32 + (s.reg (R.attRopeFreq p)).toNat * 2 ^ 32)

/-- The first page of those read that holds poison or fails its CRC: the state with its record (R105, R342). -/
def State.pageFault (s : State) (x : Session) (l : Nat) (ps : List Nat) : Option State :=
  let n := x.heads * 512 * x.row
  (ps.filterMap fun p => s.pageOf x l p).findSome? fun f =>
    match (linesOf (65536 * f) n).find? s.poisoned with
    | some ln => some (s.poisonError (64 * ln) (some x.tenant))
    | none => (s.badChunk (65536 * f) n).map fun c => s.crcError c x.tenant

/-- Reading pages touches them (R123). -/
def State.touchPages (s : State) (x : Session) (l : Nat) (ps : List Nat) : State :=
  s.each (ps.filterMap fun p => s.pageOf x l p) fun s f => s.updFrame f fun r => { r with touch := s.rotNo }

/-- The lines a query reads beside its query block: its pages', the page it appends to, and its profile's table. -/
def State.attnLines (s : State) (a : AttnQ) (x : Session) (depth : Nat → Nat) (sample : BitVec 96) : List Nat :=
  ((a.allPages depth).filterMap fun p => s.pageOf x a.layer p).flatMap (fun f => s.uncalmIn (65536 * f) (x.heads * 512 * x.row))
  ++ if a.rope then s.uncalmIn (fld sample 32 64) (4 * (fld sample 2 7 + 1)) else []

/-- What a query that has computed its output commits, and its completion (R85, R155). -/
def State.attnCommit (s : State) (a : AttnQ) (h nans : Nat) (pages : List Nat) (append : State → Option State) : State × Cpl :=
  match append s with
  | none => (s, Cpl.of St.noSpace)
  | some s =>
    let s := (s.touchPages (s.session h) a.layer pages).touchSession h
    let s := (s.count R.attQueryTotal).count R.attAppendTotal (if a.append then a.q else 0)
    (s.count R.attNanTotal nans, Cpl.why St.done pages.length)

/-- The rows a query appends. -/
def State.attnAppend (s : State) (who : Waiter) (a : AttnQ) (x : Session) (block : List Byte) (rope : Option Rope) : Option State :=
  let h := sidHandle a.sid
  if a.append then
    (State.appendRows who h a.layer (fun i hd kv => newRowOf a x block rope (a.pos + i) i hd kv) a.q 0 a.pos s).map
      fun s => s.updSession h fun x => x.setCount a.layer (a.pos + a.q)
  else some s

/-- The last close of a query that met no fault: what it commits, and its completion (R85, R154, R155). Its pages count as read. -/
def State.attnClose (s : State) (slot : Nat) (it : Item) (f : Flight) : Closed :=
  let a := attnQ f.desc
  let r := it.ring.toNat
  let x := s.session (sidHandle a.sid)
  let e := s.itemEng r f.pos.toNat 0
  match s.itemRead r f.pos.toNat a.srcHost f.host a.src (a.blockLen x) 40 with
  | .waits s => .waits s
  | .ends s c => .done s c
  | .ok s block =>
    if a.tree ∧ maskBad a.q (slice block (a.maskAt x) 64) then .done s (Cpl.bad 40 2)
    else
      let depth (i : Nat) : Nat := if a.tree then numAt block (a.maskAt x + 32 + i) 1 else i
      let pages := a.pages depth
      if !(s.attnLines a x depth it.rope).isEmpty then .waits (s.itemAsk (s.attnLines a x depth it.rope))
      else
        let s := if it.written then s else s.count R.attPageTotal pages.length
        match s.pageFault x a.layer (pages ++ (if a.append then [a.pos / 256] else [])) with
        | some s => .done s (Cpl.of St.poisoned)
        | none =>
          let rope := if a.rope then s.ropeOf it.rope else none
          if a.rope ∧ rope.isNone then .done (s.poisonError (fld it.rope 32 50) (some x.tenant)) (Cpl.of St.poisoned)
          else
            match s.attnAppend e.who a x block rope with
            | none => .done s (Cpl.of St.noSpace)
            | some s1 =>
              let (out, nans) := s1.attnOutput a (s1.session (sidHandle a.sid)) block rope
              s.outputThen slot it a.dstHost a.dstPort a.dst 48 out fun s =>
                let (s, c) := s.attnCommit a (sidHandle a.sid) nans pages fun s => s.attnAppend e.who a x block rope
                .done s c

/-! ## The command -/

def execAttnQuery (ring : RingId) (pos : Pos) (block : List Byte) (s : State) : Host.Outcome State Fault Refusal :=
  .next (s.attnStart ring.toNat pos.toNat block)

end Sys2Proof.Machine
end

