-- ==== Sys2Proof/Machine/Embed.lean ====
section
/-! DEFINITION. The arithmetic of embedding tables: values, gradient contributions, the optimisers and
requantisation (R157, R160, R167, R171, R176, R177). -/

namespace Sys2Proof.Machine

/-! ## Values of rows (R160) -/

/-- The values w_j of a stored row: code × SCALE + OFFSET, rounded once. -/
def rowValues (c : Line) (bs : List Byte) : List Fval :=
  let scale := Flt.fp16.val (numAt bs 0 2)
  let offset := Flt.fp16.val (numAt bs 2 2)
  let w := if tcInt4 c then 4 else 8
  (elems w (tcElems c) (fun x => Fval.ofInt (sInt w x)) (slice bs 4 (codeBytes c))).map fun k =>
    Flt.fp32.rn ((k.mul scale).add offset)

/-- The optimiser state of a stored row, widened exactly. -/
def rowState (c : Line) (bs : List Byte) : List Fval :=
  let (k, half) := stateShape c
  let o := 4 + codeBytes c
  if half then elems 16 k Flt.fp16.val (slice bs o (2 * k)) else elems 32 k Flt.fp32.val (slice bs o (4 * k))

/-! ## Output (R167) -/

/-- Bits of a value in OFMT: 0 fp32, 1 bf16, 2 fp16. -/
def embOut (ofmt : Nat) (v : Fval) : List Byte :=
  match ofmt with
  | 0 => leBytes 4 (Flt.fp32.round v)
  | 1 => leBytes 2 (Flt.bf16.round v)
  | _ => leBytes 2 (Flt.fp16.round v)

/-- Element e of a bag: 1 sum, 2 mean, 3 max over its remaining indices in order. -/
def poolElem (pool : Nat) (col : List Fval) : Fval :=
  match col with
  | [] => .num false 0 0
  | a :: t =>
    if (a :: t).contains .nan then .nan
    else if pool = 3 then t.foldl Fval.max a
    else
      let s := t.foldl (fun x y => rn32 (x.add y)) a
      if pool = 2 then Flt.fp32.div s (.num false (t.length + 1) 0) else s

/-! ## Gradients (R171) -/

/-- The integer a gradient element contributes, and whether it clipped. None for a NaN or an infinity. -/
def gradQ (frac : Nat) : Fval → Option (Int × Bool)
  | .num s m e =>
    let q := toInt 0 s m (e + frac)
    let top : Int := 2 ^ 63 - 1
    if q < -top then some (-top, true) else if top < q then some (top, true) else some (q, false)
  | _ => none

/-- A gradient vector: its integers, and whether any clipped; none when it holds a NaN or an infinity. -/
def gradVec (c : Line) (bf16 : Bool) (bs : List Byte) : Option (List Int × Bool) :=
  let xs := if bf16 then elems 16 (tcElems c) Flt.bf16.val bs else elems 32 (tcElems c) Flt.fp32.val bs
  (xs.mapM (gradQ (tcFrac c))).map fun qs => (qs.map Prod.fst, qs.any Prod.snd)

/-! ## The optimisers (R176) -/

/-- The parameters of a CLOSE as fp32 values. -/
structure CloseArgs where
  lr : Fval
  mu : Fval
  beta2 : Fval
  eps : Fval
  bc1 : Fval
  bc2 : Fval
deriving DecidableEq, Repr

/-- fp16 nearest, saturating at 65,504. -/
def sat16 (v : Fval) : Nat :=
  match v with
  | .inf s => Flt.fp16.withSign s Flt.fp16.topBits
  | v => Flt.fp16.roundSat v

/-- A state value as it is stored. -/
def storedAs (half : Bool) (v : Fval) : Fval := if half then Flt.fp16.val (sat16 v) else v

def one32 : Fval := .num false 1 0

/-- New values and new state of a row from its old ones and its gradient: the old state enters as it is stored, the new one before it is
stored (R176; log entry 48). -/
def optimise (c : Line) (p : CloseArgs) (w st g : List Fval) : List Fval × List Fval :=
  let n := tcElems c
  let at_ (l : List Fval) (e : Nat) : Fval := l.getD e .nan
  let half := (stateShape c).2
  let step (l : List Fval) : List Fval := (List.range n).map fun e => rn32 ((at_ w e).sub (at_ l e))
  match tcOpt c with
  | 0 => (step (g.map fun x => rn32 (p.lr.mul x)), [])
  | 1 =>
    let v := (List.range n).map fun e => rn32 ((rn32 (p.mu.mul (at_ st e))).add (at_ g e))
    (step (v.map fun x => rn32 (p.lr.mul x)), v.map (storedAs half))
  | 2 =>
    let sq := g.map fun x => rn32 (x.mul x)
    let h : List Fval :=
      if tcWide c then (List.range n).map fun e => rn32 ((at_ st e).add (at_ sq e))
      else
        let t := (pairTree (fun a b => rn32 (a.add b)) 12 sq).headD .nan
        [rn32 ((at_ st 0).add (Flt.fp32.div t (.num false n 0)))]
    let d := (List.range n).map fun e =>
      Flt.fp32.div (rn32 (p.lr.mul (at_ g e))) (rn32 ((Flt.fp32.sqrt (at_ h (if tcWide c then e else 0))).add p.eps))
    (step d, h)
  | _ =>
    let m := (List.range n).map fun e =>
      rn32 ((rn32 (p.mu.mul (at_ st e))).add (rn32 ((rn32 (one32.sub p.mu)).mul (at_ g e))))
    let v := (List.range n).map fun e =>
      rn32 ((rn32 (p.beta2.mul (at_ st (n + e)))).add
        (rn32 ((rn32 (one32.sub p.beta2)).mul (rn32 ((at_ g e).mul (at_ g e))))))
    let d := (List.range n).map fun e =>
      rn32 (p.lr.mul (Flt.fp32.div (rn32 ((at_ m e).mul p.bc1))
        (rn32 ((Flt.fp32.sqrt (rn32 ((at_ v e).mul p.bc2))).add p.eps))))
    (step d, (m ++ v).map (storedAs half))

/-! ## Requantisation (R177) -/

/-- r of R177 for an element. -/
def stochastic (table row step j : Nat) : Nat :=
  let x : Word := BitVec.ofNat 64 (row * 2 ^ 32 + step)
  let x := x ^^^ (BitVec.ofNat 64 (table * 2 ^ 12 + j) * 0x9E3779B97F4A7C15)
  let x := (x ^^^ (x >>> 30)) * 0xBF58476D1CE4E5B9
  let x := (x ^^^ (x >>> 27)) * 0x94D049BB133111EB
  let x := x ^^^ (x >>> 31)
  (x >>> 40).toNat

/-- round(y), clamped to the codes −B to B − 1. -/
def quantise (sto : Bool) (r b : Nat) : Fval → Int
  | .num s m e =>
    let i : Int :=
      if sto then
        let (n, d) := ratio m e
        let x : Int := signed s n
        let f := x / d
        if (r : Int) * d < (x - f * d) * 2 ^ 24 then f + 1 else f
      else toInt 0 s m e
    max (-(b : Int)) (min ((b : Int) - 1) i)
  | .inf s => if s then -(b : Int) else (b : Int) - 1
  | .nan => 0

/-- Codes as bytes. -/
def codeList (int4 : Bool) (l : List Int) : List Byte :=
  if int4 then nibbles l else l.map fun i => BitVec.ofInt 8 i

/-- The new row of R177: SCALE, OFFSET, codes, state, padding. -/
def rowImage (c : Line) (row step : Nat) (w st : List Fval) : List Byte :=
  let k := if tcInt4 c then 15 else 255
  let b := if tcInt4 c then 8 else 128
  let lo := w.tail.foldl Fval.min (w.headD .nan)
  let hi := w.tail.foldl Fval.max (w.headD .nan)
  let s := sat16 (Flt.fp32.div (rn32 (hi.sub lo)) (.num false k 0))
  let sv := Flt.fp16.val s
  let (scale, offset, codes) : Nat × Nat × List Int :=
    if sv.isZero then (0, sat16 lo, w.map fun _ => 0)
    else
      let o := sat16 (rn32 (lo.add (rn32 ((Fval.num false b 0).mul sv))))
      let ov := Flt.fp16.val o
      (s, o, w.mapIdx fun j x =>
        quantise (tcStochastic c) (stochastic (tcTable c) row step j) b (Flt.fp32.div (rn32 (x.sub ov)) sv))
  let body := leBytes 2 scale ++ leBytes 2 offset ++ codeList (tcInt4 c) codes
    ++ st.flatMap fun v => if (stateShape c).2 then leBytes 2 (sat16 v) else leBytes 4 (Flt.fp32.round v)
  slice body 0 (rowStride c)

/-- The image a CLOSE builds for a touched row, from its stored bytes and its sums; none where a new value is a NaN or an
infinity. -/
def closeRow (c : Line) (p : CloseArgs) (row step : Nat) (bs : List Byte) (acc : List Int) : Option (List Byte) :=
  let g := acc.map fun a => rn32 (.num (decide (a < 0)) a.natAbs (-(tcFrac c : Int)))
  let (w, st) := optimise c p (rowValues c bs) (rowState c bs) g
  if w.all Fval.isNum then some (rowImage c row step w st) else none

end Sys2Proof.Machine
end

