-- ==== Sys2Proof/Machine/Stream.lean ====
section
/-! DEFINITION. Streams: STREAM, their tiles, SWAIT and their completion (R81, R187, R243, R244, R409). -/

namespace Sys2Proof.Machine

/-! ## Stride descriptors (R243) -/

def sdBase (d : Line) : Nat := dNum d 0 8
def sdTile (d : Line) : Nat := dNum d 8 4
def sdCount (d : Line) : Nat := dNum d 12 4
def sdStride (d : Line) : Int := (BitVec.ofNat 64 (dNum d 16 8)).toInt
def sdLocal (d : Line) : Nat := fld d 192 20
def sdOut (d : Line) : Bool := bit d 224
def sdCacheOnly (d : Line) : Bool := bit d 225
def sdAhead (d : Line) : Nat := fld d 226 5

/-- The DVA of a tile, modulo 2^64. -/
def sdAddr (d : Line) (i : Nat) : Nat := (BitVec.ofInt 64 (sdBase d + i * sdStride d)).toNat

/-- An encoding fault of a descriptor: a reserved field, LOOKAHEAD, TILE or COUNT out of range, DIR 1 with DEST 1, or LOCAL
other than 0 when DEST is 1. -/
def sdBad (d : Line) : Bool :=
  fld d 212 12 != 0 || bit d 231 || fld d 232 280 != 0
  || decide (16 < sdAhead d ∨ sdTile d < 64 ∨ 16777216 < sdTile d ∨ sdTile d % 64 ≠ 0 ∨ sdCount d = 0 ∨ 65536 < sdCount d)
  || (sdOut d && sdCacheOnly d) || (sdCacheOnly d && sdLocal d != 0)

/-- A misaligned BASE, STRIDE or LOCAL (R185). -/
def sdUneven (d : Line) : Bool := decide (sdBase d % 64 ≠ 0 ∨ dNum d 16 8 % 64 ≠ 0 ∨ sdLocal d % 64 ≠ 0)

/-- Does the scratchpad range of a stream leave the scratchpad? -/
def sdRange (d : Line) : Bool := !sdCacheOnly d && decide (padTop < sdLocal d + sdTile d * sdCount d - 1)

/-- The 64 KiB pages a tile touches, as DVAs. -/
def tilePages (d : Line) (i : Nat) : List Nat :=
  let a := sdAddr d i
  (List.range ((a + sdTile d - 1) / 65536 - a / 65536 + 1)).map fun k => (a / 65536 + k) * 65536

/-- A stream asks for the translations of pages its gallery has not cached, at most 256 (R244). -/
def State.prefetch (s : State) (v : Nat) (tok : Word) (pages : List Nat) : State :=
  match (s.voice v).stream tok with
  | none => s
  | some st =>
    let new := (pages.eraseDups.filter fun a => (s.tlbFind (galleryOf v) st.tenant a).isNone && !st.want.contains a).take 256
    (s.updStream v tok fun t => { t with want := t.want ++ new }).wantPages v { st with want := st.want ++ new }

/-- The place of the next stream in its gallery's order of issue (R81). -/
def State.streamSeq (s : State) (g : Nat) : Nat :=
  (s.voices.filter fun e => galleryOf e.1 == g).foldl (fun n e => e.2.streams.foldl (fun n t => max n (t.seq + 1)) n) 0

/-- STREAM: the descriptor's checks, then a token in x[D]; every page of tile 0 is translated. -/
def State.streamIssue (s : State) (v : Nat) (f : Fields) : State :=
  s.issue v [f.a, f.d] [] fun s x =>
    let a := (x.xr f.a.toNat).toNat
    match padFault a 64 1 with
    | some r => s.voiceFault v r
    | none =>
      let d := bytesLine (s.padRead (coreOf v) a 64)
      if sdBad d then s.voiceFault v 2
      else if sdUneven d then s.voiceFault v 8
      else if sdRange d then s.voiceFault v 7
      else
        let tok := x.nextToken
        let s := s.updVoice v fun x =>
          { x with
            streams := x.streams ++ [{ own := x.slot, sentence := x.sentence, seq := s.streamSeq (galleryOf v), begun := false, want := []
                                       tenant := x.tenant, stale := false, token := tok, desc := d, tiles := 0, done := none }]
            nextToken := tok + 1 }
        (s.prefetch v tok (tilePages d 0)).writeX v f.d tok

/-- Bytes of a granule range that are not yet in DRAM (R226). -/
def State.tileServed (s : State) (g t a n : Nat) : Bool := (s.rangeGranules g t (pieces n) a n).all s.served

/-- A stream at work: it reads and writes coherently (R243). -/
def Strm.eng (st : Strm) (v : Nat) : Eng :=
  { cache := galleryOf v, tenant := st.tenant.toNat, checked := true, coherent := true, rot := true
    who := .stream (BitVec.ofNat 12 v) st.token }

/-- What a tile still needs of its source (R288, R296). -/
def State.tileNeeds (s : State) (v : Nat) (st : Strm) (i : Nat) : List Need :=
  if sdOut st.desc then [] else s.needs (st.eng v) (pieces (sdTile st.desc)) (sdAddr st.desc i) (sdTile st.desc)

/-- Put a line read by a stream in the gallery cache, shared, listed at its home; the reserved and remote lines a stream
brings are not kept, nor one that finds no room in its set (R188, R243). -/
def State.streamCache (s : State) (g : Nat) (t : Tenant) (key : BitVec 24) (line : Nat) (bs : List Byte) : State :=
  let l := s.devNo * 2 ^ 44 + line
  if (s.gline g l).state ≠ .i ∨ s.weightLine line ∨ (s.dirEntry line).state = .e
      ∨ (s.dirEntry line).state = .m ∨ (s.txnOn line).isSome then s
  else
    let s := s.makeWay g l
    if s.setFull g l then s
    else
      let d := s.dirEntry line
      (s.putDir line { d.add s.devNo g with state := .s }).setGline g l { state := .s, tenant := t, key, data := bytesLine bs }

/-- How one tile moved: the state, or the refusal or poison that stops the stream. -/
inductive TileEnd where
  | moved (s : State)
  | refused (s : State) (e : Refuse)
  | poison (s : State)

/-- Move one tile (R243): pool to core by coherent reads, scratchpad to pool by coherent writes. -/
def State.moveTile (s : State) (v : Nat) (st : Strm) (i : Nat) : TileEnd :=
  let g := galleryOf v
  let t := st.tenant.toNat
  let d := st.desc
  let a := sdAddr d i
  let n := sdTile d
  if sdOut d then
    let (s1, _, e) := State.scatter (st.eng v) (pieces n) s a ((s.padRead (coreOf v) (sdLocal d + i * n) n).map (·, false))
    match e with
    | some (dva, e) => .refused (s1.noteRefusal t true (coreOf v) dva e) e
    | none => .moved s1
  else
    let (bs, e) := s.gather (st.eng v) (pieces n) a n
    let s := (s.readUse g t a n bs.length).dropCame (· == (st.eng v).who)
    match e with
    | some (dva, e) => .refused (s.noteRefusal t false (coreOf v) dva e) e
    | none =>
      if bs.any Prod.snd then .poison (s.poisonedRead g t a n)
      else if sdCacheOnly d then
        .moved (s.each (List.range (n / 64)) fun s k =>
          match s.translate g t (a + 64 * k) false with
          | .ok x =>
            if x.tgt ∨ x.addr / 2 ^ 50 ≠ s.devNo then s
            else s.streamCache g st.tenant x.key (x.addr % 2 ^ 50 / 64) (slice (bs.map Prod.fst) (64 * k) 64)
          | .error _ => s)
      else .moved (s.padWrite (coreOf v) (sdLocal d + i * n) (bs.map Prod.fst))

/-- The granules of a tile start their fills, and are promoted on use (R218, R226). -/
def State.tileDemand (s : State) (g : Nat) (t : Tenant) (d : Line) (i : Nat) : State :=
  s.each (s.rangeGranules g t.toNat (pieces (sdTile d)) (sdAddr d i) (sdTile d)) fun s n =>
    let s := s.demand n false none
    if bit (s.reg R.tierCtrl) 1 && (s.granule n).tier == .far then s.promote n none else s

/-- A tile that is there moves, or stops the stream; one that waits for a fill or for lines of others is asked for (R226, R288). Whether
it moved. -/
def State.tryTile (s : State) (v : Nat) (st : Strm) (i : Nat) : State × Bool :=
  let s := s.tileDemand (galleryOf v) st.tenant st.desc i
  let needs := s.tileNeeds v st i
  if !s.tileServed (galleryOf v) st.tenant.toNat (sdAddr st.desc i) (sdTile st.desc) then (s, false)
  else if !needs.isEmpty then (s.ask (st.eng v) needs, false)
  else
    match s.moveTile v st i with
    | .moved s => (s.updStream v st.token fun t => { t with tiles := i + 1 }, true)
    | .refused s e => (s.streamStops v st.token e.ends, false)
    | .poison s => (s.streamStops v st.token .poisoned, false)

/-- Move the tiles a stream has still to move, in ascending order, as far as they are there. It has ended once all have moved and every
write has been acknowledged. -/
def State.moveTiles (v : Nat) (st : Strm) : Nat → State → Nat → State
  | 0, s, _ => if s.streamSends v st.token then s else s.updStream v st.token fun t => { t with done := some .ok }
  | k + 1, s, i =>
    let (s, moved) := s.tryTile v st i
    if moved then State.moveTiles v st k s (i + 1) else s

/-- Tile i of a stream begins to transfer: the tiles after it are prefetched, and its granules start their fills (R226, R244). -/
def State.tileStart (s : State) (v : Nat) (st : Strm) (i : Nat) : State :=
  let ahead := ((List.range (sdAhead st.desc)).map (i + 1 + ·)).filter (· < sdCount st.desc)
  ((s.updStream v st.token fun t => { t with begun := true }).prefetch v st.token (ahead.flatMap (tilePages st.desc))).tileDemand
    (galleryOf v) st.tenant st.desc i

/-- STREAM_TILE_BEGIN: the next tile begins to transfer. The one before it has landed, unless it waits for a fill; one that is refused
or poisoned stops the stream. -/
def State.tileBegin (s : State) (v : Nat) (tok : Word) : State :=
  match (s.voice v).stream tok with
  | none => s
  | some st =>
    if st.done.isSome then s
    else if !st.begun then s.tileStart v st 0
    else if sdCount st.desc ≤ st.tiles + 1 then s
    else
      let (s, moved) := s.tryTile v st st.tiles
      if moved then s.tileStart v st (st.tiles + 1) else s

/-- Has every stream that its gallery issued earlier completed (R81)? -/
def State.streamFirst (s : State) (v : Nat) (st : Strm) : Bool :=
  s.voices.all fun e => galleryOf e.1 != galleryOf v || e.2.streams.all fun t => t.done.isSome || decide (st.seq ≤ t.seq)

/-- The translation fault that a refusal by the home of another device is (R231, R239): of the tile in transfer. -/
def State.streamRefused (s : State) (v : Nat) (st : Strm) : AccessEnd → State
  | .refused8 => s.xltFault st.tenant.toNat (sdAddr st.desc st.tiles) 8 7 (sdOut st.desc) (coreOf v)
  | .refused9 => s.xltFault st.tenant.toNat (sdAddr st.desc st.tiles) 9 7 (sdOut st.desc) (coreOf v)
  | _ => s

/-- STREAM_COMPLETE: the tiles left are moved, unless one waits for a fill or for lines of others (R226, R288), or, at rated
occupancy, an earlier stream of the gallery has still to complete (R81); or the stream fails as the command says. -/
def State.streamEnd (s : State) (v : Nat) (tok : Word) (how : AccessEnd) (exceeded : Bool) (hops measured bound : Nat) : State :=
  match (s.voice v).stream tok with
  | none => s
  | some st =>
    if st.done.isSome ∨ (how = .ok ∧ !s.rot.overran ∧ !s.streamFirst v st) then s
    else
      let left := sdCount st.desc - st.tiles
      let s := s.each (List.range left) fun s k => s.tileDemand (galleryOf v) st.tenant st.desc (st.tiles + k)
      let s := if how = .ok then State.moveTiles v st left s st.tiles else (s.streamRefused v st how).streamStops v tok how
      let ended := match (s.voice v).stream tok with
        | some t => t.done.isSome
        | none => true
      if ended && exceeded && !s.rot.overran then s.boundExceeded v st.own st.sentence 4 hops measured bound else s

/-- SWAIT: nothing happens while the stream is in progress; one that met a translation fault faults the voice, and one
refused otherwise halts it (R244, R409). A token that names no stream goes on. -/
def State.swait (s : State) (v : Nat) (f : Fields) : State :=
  s.issue v [f.a] [] fun s x =>
    match x.stream (x.xr f.a.toNat) with
    | none => s.advance v
    | some st =>
      match st.done with
      | none => s
      | some .ok => (s.updVoice v fun x => { x with streams := dropIf (fun t => t.token == st.token) x.streams }).advance v
      | some .refused8 => s.voiceFault v 6
      | some .refused9 => s.voiceFault v 6
      | some e => s.voiceRefused v (Cpl.of (endStatus e))

/-! ## The commands -/

def execStream (v : VoiceId) (f : Fields) (s : State) : Host.Outcome State Fault Refusal := .next (s.streamIssue v.toNat f)

def execSwait (v : VoiceId) (f : Fields) (s : State) : Host.Outcome State Fault Refusal := .next (s.swait v.toNat f)

end Sys2Proof.Machine
end

