-- ==== Sys2Proof/Machine/Embedding.lean ====
section
/-! DEFINITION. Embedding tables: their definition, the checks and binding of EMBL and EMBU descriptors, and what their
items compute and commit (R157 to R178). -/

namespace Sys2Proof.Machine

/-! ## Tables (R157 to R159, R178) -/

/-- The context of a table read back. -/
def Table.readBack (x : Table) : Nat :=
  x.ctx.toNat % 2 ^ 160 + 2 ^ 40 * (1 - fld x.ctx 40 1) + x.step.toNat * 2 ^ 160 + x.base * 2 ^ 192
  + x.dropped.toNat * 2 ^ 256 + x.clipped.toNat * 2 ^ 320 + x.nonfinite.toNat * 2 ^ 384

/-- The staged context of a port. -/
def State.stagedTable (s : State) (port : Nat) : Line :=
  BitVec.ofNat 512 ((List.range 8).foldl
    (fun a i => a + (s.reg (stageOff port (R.embTctxData i))).toNat * 2 ^ (64 * i)) 0)

def State.tableResult (s : State) (port : Nat) (res : Byte) : State :=
  { s with tabLast := tput (fun _ => 0) s.tabLast port res }

/-- EMB_TCTX_CMD (R158, R178, R384): refused while BUSY. -/
def State.tableCommand (s : State) (port t op : Nat) (act : State → State) : State :=
  s.setupWrite port R.embTctxCmd none false (heldWrite port R.embTctxCmd (BitVec.ofNat 64 (t + op * 4096))) fun s =>
    if s.tabCmd.isSome then s.setupError port R.embTctxCmd 4 else act s

/-- A table the issuing port does not control. -/
def State.tableForeign (s : State) (port : Nat) (x : Table) : Bool := !s.controls port (tcTenant x.ctx)

/-- DEFINE (log entry 49: the order of its results, and a context that names another table). The frames are taken at once;
the table is defined when they are zeroed. -/
def State.tableDefine (s : State) (port t : Nat) : State :=
  let c := s.stagedTable port
  let n := tableFrameCount c
  let ten := tcTenant c
  if tcBad c ∨ tcTable c ≠ t then s.tableResult port St.badDescriptor
  else if !s.controls port ten then s.tableResult port St.notOwner
  else if (s.table t).isSome then s.tableResult port St.badDescriptor
  else
    match s.findRun ten n with
    | none => s.tableResult port St.noSpace
    | some f =>
      if s.dramFails n then s.tableResult port St.noSpace
      else
        let s := s.each (List.range n) fun s i => s.setFrame (f + i) { Frame.free with type := .table }
        { s with tabCmd := some (BitVec.ofNat 2 port, BitVec.ofNat 12 t,
            { ctx := c, step := tcStep c, base := 65536 * f, dropped := 0, clipped := 0, nonfinite := 0 }) }

/-- The zeroing of a DEFINE is complete (R158): its frames read zeros and are DRAM-held (R220). -/
def State.tableZeroed (s : State) : State :=
  match s.tabCmd with
  | none => s
  | some (port, t, x) =>
    let s := s.each (List.range (tableFrameCount x.ctx)) fun s i =>
      (s.zeroFrame (x.base / 65536 + i)).holdDram (x.base / 65536 + i)
    ({ s with tabCmd := none } : State).setTable t.toNat (some x) |>.tableResult port.toNat St.done

/-! ## Descriptors (R161) -/

structure EmbQ where
  table : Nat
  op : Nat
  upd : Bool
  pool : Nat
  ofmt : Nat
  bf16 : Bool
  count : Nat
  bags : Nat
  step : BitVec 32
  idx : Nat
  off : Nat
  dst : Nat
  srcHost : Bool
  srcPort : Nat
  dstHost : Bool
  dstPort : Nat
deriving DecidableEq, Repr

def embQ (k : RingKind) (d : Line) : EmbQ :=
  { table := fld d 64 12, op := dOpcode d, upd := k == .embu, pool := fld d 80 2, ofmt := fld d 82 2, bf16 := bit d 84
    count := fld d 96 21, bags := dNum d 16 4, step := BitVec.ofNat 32 (dNum d 16 4), idx := dNum d 24 8
    off := dNum d 32 8, dst := dNum d 40 8, srcHost := fld d 384 2 == 1, srcPort := fld d 386 2
    dstHost := fld d 388 2 == 1, dstPort := fld d 390 2 }

def EmbQ.lookup (a : EmbQ) : Bool := !a.upd && a.op == 1
def EmbQ.lookahead (a : EmbQ) : Bool := !a.upd && a.op == 2
def EmbQ.grad (a : EmbQ) : Bool := a.upd && a.op == 1
def EmbQ.close (a : EmbQ) : Bool := a.upd && a.op == 2
def EmbQ.abandon (a : EmbQ) : Bool := a.upd && a.op == 3
def EmbQ.indexed (a : EmbQ) : Bool := a.lookup || a.lookahead || a.grad

def EmbQ.outVecs (a : EmbQ) : Nat := if a.pool = 0 then a.count else a.bags
def EmbQ.ob (a : EmbQ) : Nat := if a.ofmt = 0 then 4 else 2
def EmbQ.gb (a : EmbQ) : Nat := if a.bf16 then 2 else 4

/-- The six parameters of a CLOSE: bit place, and the optimisers that use each. -/
def closeParams : List (Nat × List Nat) :=
  [(160, [0, 1, 2, 3]), (192, [1, 3]), (224, [3]), (256, [2, 3]), (288, [3]), (320, [3])]

def closeArgs (d : Line) : CloseArgs :=
  let p (i : Nat) : Fval := Flt.fp32.val (fld d i 32)
  { lr := p 160, mu := p 192, beta2 := p 224, eps := p 256, bc1 := p 288, bc2 := p 320 }

/-- The spans a descriptor names by DVA: address, length, write, descriptor byte. -/
def EmbQ.spans (a : EmbQ) (c : Line) : List (Nat × Nat × Bool × Nat) :=
  (if a.indexed && !a.srcHost then
    [(a.idx, 4 * a.count, false, 24)]
    ++ (if a.lookup && a.pool != 0 then [(a.off, 4 * a.bags, false, 32)] else [])
    ++ (if a.grad then [(a.off, a.count * tcElems c * a.gb, false, 32)] else [])
  else [])
  ++ (if a.lookup && !a.dstHost then [(a.dst, a.outVecs * tcElems c * a.ob, true, 40)] else [])

/-! ## Checks (R162, R163) -/

/-- NOT_OWNER or STALE_VERSION with its cause and the open step (R163). -/
def embRefuse (status : Byte) (cause : Nat) (step : BitVec 32) : Cpl :=
  { Cpl.why status cause with result1 := BitVec.ofNat 64 step.toNat }

/-- Step 3 of R162 (log entry 50: a step precedes S when it lies within 2^31 below it). -/
def EmbQ.stepCheck (a : EmbQ) (open_ : BitVec 32) : Option Cpl :=
  if !a.upd ∨ a.step = open_ then none
  else if a.step = open_ + 1 then (if a.close then some (embRefuse St.staleVersion 4 open_) else none)
  else if (open_ - a.step).toNat < 2 ^ 31 then some (embRefuse St.staleVersion 3 open_)
  else some (embRefuse St.staleVersion 4 open_)

/-- Step 1: the table, when this tenant may use it. -/
def State.embTable (s : State) (a : EmbQ) (tenant : Nat) : Except Cpl Table :=
  match s.table a.table with
  | none => .error (embRefuse St.notOwner 6 0)
  | some x => if tcTenant x.ctx = tenant then .ok x else .error (embRefuse St.notOwner 6 x.step)

/-- Step 2. -/
def State.embFields (s : State) (a : EmbQ) (d c : Line) : Option Cpl :=
  let aligns := (if a.indexed then [(a.idx, 4, 24)] else []) ++ (if a.lookup && a.pool != 0 then [(a.off, 4, 32)] else [])
    ++ (if a.grad then [(a.off, 64, 32)] else []) ++ (if a.lookup then [(a.dst, 64, 40)] else [])
  let dvas := (a.spans c).map fun x => (x.1, x.2.2.2)
  if a.indexed ∧ (a.count = 0 ∨ 1048576 < a.count) then some (Cpl.bad 12 7)
  else if a.lookup ∧ (if a.pool = 0 then a.bags ≠ 0 else a.bags = 0 ∨ 1048576 < a.bags) then some (Cpl.bad 16 7)
  else
    match if a.close then closeParams.find? fun p => fld d p.1 32 != 0 && !p.2.contains (tcOpt c) else none with
    | some p => some (Cpl.bad (p.1 / 8) 7)
    | none =>
      match aligns.find? fun x => x.1 % x.2.1 != 0 with
      | some x => some (Cpl.bad x.2.2 8)
      | none =>
        match dvas.find? fun x => decide (2 ^ 57 ≤ x.1) with
        | some x => some (Cpl.bad x.2 1)
        | none =>
          if (a.indexed ∧ a.srcHost ∧ !s.hostThere a.srcPort) ∨ (a.lookup ∧ a.dstHost ∧ !s.hostThere a.dstPort) then
            some (Cpl.bad 48 5)
          else none

/-- The pre-check of an EMBL or EMBU descriptor. -/
def State.embCheck (s : State) (a : EmbQ) (d : Line) : Option Cpl :=
  match s.embTable a (dTenant d) with
  | .error c => some c
  | .ok x =>
    match s.embFields a d x.ctx with
    | some c => some c
    | none => a.stepCheck x.step

/-- The pre-check of a fetched descriptor begins (R72). -/
def State.embStart (s : State) (r pos : Nat) (k : RingKind) (op : Nat) (idx off : List (BitVec 32)) (src : List Byte) :
    State :=
  match s.mayStart r pos k with
  | none => s
  | some f =>
    let a := embQ k f.desc
    if a.op ≠ op then s
    else
      match s.embCheck a f.desc with
      | some c => s.finish r pos c
      | none =>
        s.setFlight r pos fun f => { f with stage := .preparing, host := src, idx, off }

/-! ## The step buffer (R170 to R174) -/

/-- Bytes of step buffer in use: EMB_STEPBUF_USED. -/
def State.stepUsed (s : State) : Nat :=
  s.steps.foldl (fun n e => n + (match s.table e.table.toNat with
    | some x => entryBytes x.ctx
    | none => 0)) 0

def StepEntry.is (e : StepEntry) (t : Nat) (step : BitVec 32) : Bool := e.table.toNat == t && e.step == step

/-- The entries of a table and step. -/
def State.stepRows (s : State) (t : Nat) (step : BitVec 32) : List StepEntry := s.steps.filter fun e => e.is t step

/-- Discard them. -/
def State.discardStep (s : State) (t : Nat) (step : BitVec 32) : State :=
  { s with steps := dropIf (fun e => e.is t step) s.steps }

/-! ## Size, slots and binding (R164, R165) -/

def State.embUnits (s : State) (a : EmbQ) : Nat :=
  if a.indexed then a.count else if a.close then max 1 (s.stepRows a.table a.step).length else 1

/-- KPARAM of R164. -/
def State.embFits (s : State) (a : EmbQ) (k : List Byte) : Bool :=
  match s.table a.table with
  | none => false
  | some x =>
    numAt k 0 1 / 2 ^ (a.op - 1) % 2 == 1 && (!a.lookup || a.pool == 0 || numAt k 0 1 / 8 % 2 == 1)
    && (!tcInt4 x.ctx || numAt k 0 1 / 16 % 2 == 1) && decide (fld x.ctx 16 8 ≤ numAt k 1 1)

/-- The bound descriptors of a table. -/
def State.boundOn (s : State) (t : Nat) : List EmbQ :=
  s.rot.items.filterMap fun e =>
    if e.2.kind = .embl ∨ e.2.kind = .embu then
      let a := embQ e.2.kind (s.itemDesc e.2)
      if a.table = t then some a else none
    else none

def State.installing (s : State) (t : Nat) : Bool := s.installs.any fun x => x.table.toNat == t

/-- Does R165 keep a CLOSE from binding? -/
def State.closeBlocked (s : State) (a : EmbQ) : Bool :=
  let l := s.boundOn a.table
  l.any (fun b => (b.grad && b.step == a.step) || b.lookup || b.close || b.abandon)
  || (s.grads.any fun g => g.ends.isSome && g.table.toNat == a.table && g.step == a.step) || s.installing a.table

/-- Does a CLOSE of a table stand as a candidate of this rotation that R165 blocks: one the binder has met and found blocked, or one it
has yet to meet (log entry 51)? -/
def State.closeWaits (s : State) (t : Nat) : Bool :=
  s.rot.snapshot.any fun c =>
    match s.flight c.1.toNat c.2.toNat with
    | some f =>
      let a := embQ .embu f.desc
      (s.ring c.1.toNat).kind == .embu && f.stage == .candidate && a.close && a.table == t && (s.rot.closes.contains c || s.closeBlocked a)
    | none => false

/-- The checks of an embedding candidate at bind. -/
def State.embBind (s : State) (a : EmbQ) (tenant : Nat) : BindEnd :=
  match s.embTable a tenant with
  | .error c => .ends c
  | .ok x =>
    match a.stepCheck x.step with
    | some c => .ends c
    | none =>
      let l := s.boundOn a.table
      if a.close then (if s.closeBlocked a then .blocked else .ok)
      else if a.abandon then
        (if (l.any fun b => b.close || b.abandon) || s.installing a.table then .blocked else .ok)
      else if a.lookup then
        (if (l.any fun b => b.close) || s.installing a.table || s.closeWaits a.table then .blocked else .ok)
      else if a.grad ∧ ((l.any fun b => b.close && b.step == a.step)
          || s.installs.any fun i => i.table.toNat == a.table && i.step == a.step) then
        .ends (embRefuse St.staleVersion 3 x.step)
      else .ok

/-- The granules of its locations: lists, gradients and output; table rows are resident by rule (R159). -/
def State.embLocations (s : State) (who tenant : Nat) (a : EmbQ) : List Nat :=
  match s.table a.table with
  | none => []
  | some x => (a.spans x.ctx).flatMap fun p => s.rangeGranules who tenant (pieces p.2.1) p.1 p.2.1

/-! ## Reading lists and rows (R166, R168) -/

def words32 (bs : List Byte) (n : Nat) : List Nat := (List.range n).map fun i => numAt bs (4 * i) 4

/-- The indices of an item. -/
def State.readIdx (s : State) (r : Nat) (a : EmbQ) (f : Flight) : Got :=
  s.itemRead r f.pos.toNat a.srcHost (f.idx.flatMap fun w => leBytes 4 w.toNat) a.idx (4 * a.count) 24

/-- Is an index dropped (R166)? -/
def indexDropped (c : Line) (i : Nat) : Bool :=
  decide (i = 0xFFFFFFFF ∨ i < tcFirst c ∨ tcFirst c + tcCount c ≤ i)

/-- Insert in ascending order without repeats. -/
def insertUniq (x : Nat) : List Nat → List Nat
  | [] => [x]
  | a :: t => if x < a then x :: a :: t else if x = a then a :: t else a :: insertUniq x t

/-- Sorted and unique (the gallery sorters of R166). -/
def sortUniq (l : List Nat) : List Nat := l.foldr insertUniq []

/-- The place of a row. -/
def Table.rowAt (x : Table) (row : Nat) : Nat := x.base + (row - tcFirst x.ctx) * rowStride x.ctx

/-- Read a row, once memory holds it (`State.rowLines`): its bytes, and whether any is poisoned. -/
def State.readRow (s : State) (x : Table) (row : Nat) : List Byte × Bool :=
  let l := s.readLocal (x.rowAt row) (rowStride x.ctx)
  (l.map Prod.fst, l.any Prod.snd)

/-- The lines of rows that caches or hosts hold (R168, R288). -/
def State.rowLines (s : State) (x : Table) (rows : List Nat) : List Nat :=
  rows.flatMap fun r => s.uncalmIn (x.rowAt r) (rowStride x.ctx)

/-- The record of a poisoned row. -/
def State.rowPoison (s : State) (x : Table) (row : Nat) : State :=
  match (linesOf (x.rowAt row) (rowStride x.ctx)).find? s.poisoned with
  | some l => s.poisonError (64 * l) (some (BitVec.ofNat 4 (tcTenant x.ctx)))
  | none => s

/-- Read rows in order, until one is poisoned. -/
def State.readRows (x : Table) : List Nat → State → State × List (Nat × List Byte) × Bool
  | [], s => (s, [], true)
  | r :: t, s =>
    if (s.readRow x r).2 then (s.rowPoison x r, [], false)
    else
      let (s1, l, ok) := State.readRows x t s
      (s1, (r, (s.readRow x r).1) :: l, ok)

/-- Count dropped indices in the table and the engine. -/
def State.countDrops (s : State) (t n : Nat) : State :=
  let s := s.count R.embDropTotal n
  match s.table t with
  | some x => s.setTable t (some { x with dropped := satAdd 64 x.dropped n })
  | none => s

/-- DONE, or DONE_DROPPED when something was dropped. Two counts of a result stand in its lower and upper halves (log
entry 52). -/
def embDone (dropped r0lo r0hi r1lo r1hi : Nat) : Cpl :=
  Cpl.res (if dropped = 0 then St.done else St.doneDropped) (r0lo + r0hi * 2 ^ 32) (r1lo + r1hi * 2 ^ 32)

/-! ## LOOKUP and LOOKAHEAD (R166 to R169) -/

/-- Is a list of bag offsets one R162 accepts? -/
def offsetsOk (count : Nat) : List Nat → Nat → Bool
  | [], _ => true
  | o :: t, prev => decide (prev ≤ o ∧ o ≤ count) && offsetsOk count t o

/-- The output of a LOOKUP: vectors of indices or of bags. -/
def lookupOut (a : EmbQ) (c : Line) (idx offs : List Nat) (rows : List (Nat × List Byte)) : List Byte :=
  let value (i : Nat) : Option (List Fval) :=
    if indexDropped c i then none else (rows.find? fun r => r.1 == i).map fun r => rowValues c r.2
  let zero : List Byte := List.replicate (tcElems c * a.ob) 0
  if a.pool = 0 then
    idx.flatMap fun i => match value i with
      | some v => v.flatMap (embOut a.ofmt)
      | none => zero
  else
    (List.range offs.length).flatMap fun b =>
      let lo := offs.getD b 0
      let hi := offs.getD (b + 1) idx.length
      let bag := ((idx.drop lo).take (hi - lo)).filterMap value
      (List.range (tcElems c)).flatMap fun e => embOut a.ofmt (poolElem a.pool (bag.map fun v => v.getD e .nan))

/-- What a LOOKUP that has computed its output counts, and its completion. -/
def State.lookupCommit (s : State) (t uniq dropped : Nat) : State × Cpl :=
  (((s.count R.embLookupTotal).count R.embRowFetchTotal uniq).countDrops t dropped, embDone dropped uniq dropped 0 0)

/-- The bag offsets of a LOOKUP. -/
def State.readOff (s : State) (r : Nat) (a : EmbQ) (f : Flight) : Got :=
  if a.pool = 0 then .ok s []
  else s.itemRead r f.pos.toNat a.srcHost (f.off.flatMap fun w => leBytes 4 w.toNat) a.off (4 * a.bags) 32

/-- The last close of a LOOKUP. -/
def State.lookupClose (s : State) (slot : Nat) (it : Item) (a : EmbQ) (x : Table) (f : Flight) : Closed :=
  let r := it.ring.toNat
  match s.readIdx r a f with
  | .waits s => .waits s
  | .ends s c => .done s c
  | .ok s bs =>
    match s.readOff r a f with
    | .waits s => .waits s
    | .ends s c => .done s c
    | .ok s ob =>
      let idx := words32 bs a.count
      let kept := idx.filter fun i => !indexDropped x.ctx i
      let uniq := sortUniq kept
      let offs := if a.pool = 0 then [] else words32 ob a.bags
      if a.pool ≠ 0 ∧ (offs.headD 1 ≠ 0 ∨ offsetsOk a.count offs 0 = false) then .done s (Cpl.bad 32 7)
      else if !(s.rowLines x uniq).isEmpty then .waits (s.itemAsk (s.rowLines x uniq))
      else
        let (s, rows, ok) := State.readRows x uniq s
        if !ok then .done s (Cpl.of St.poisoned)
        else
          s.outputThen slot it a.dstHost a.dstPort a.dst 40 (lookupOut a x.ctx idx offs rows) fun s =>
            let (s, c) := s.lookupCommit a.table uniq.length (idx.length - kept.length)
            .done s c

/-- The granules of a row. -/
def Table.rowGranules (x : Table) (row : Nat) : List Nat := granulesOf (x.rowAt row) (rowStride x.ctx)

/-- The galleries whose cores serve EMBL slots of a tenant and class in the active book. -/
def State.warmGalleries (s : State) (tenant cls : Nat) : List Nat :=
  match s.rot.active with
  | none => []
  | some b =>
    let data := (s.book b.toNat).data
    sortUniq ((List.range (bookCount data)).flatMap fun i =>
      let x := sentenceBytes data i
      let slots := ((slotsOf x).filter fun k => k.kind == 3 && k.tenant == tenant && k.cls == cls).map Slot.index
      ((clausesOf x).filter fun c => slots.contains c.slot).map fun c => galleryOf c.voice)

/-- The lines of rows that are placed in a gallery cache, up to EMB_WARM_LIMIT. -/
def State.warmLines (s : State) (x : Table) (rows : List Nat) : List Nat :=
  (rows.flatMap fun r => linesOf (x.rowAt r) (rowStride x.ctx)).take (fld (s.reg R.embWarmLimit) 0 14 * 16)

/-- Place rows in a gallery cache. -/
def State.warm (s : State) (x : Table) (g : Nat) (rows : List Nat) : State :=
  s.each (s.warmLines x rows) fun s l =>
    if s.poisoned l then s
    else s.streamCache g (BitVec.ofNat 4 (tcTenant x.ctx)) (s.mark (l / 2 ^ 24)).key l (s.poolRead (64 * l) 64)

/-- The last close of a LOOKAHEAD. -/
def State.lookaheadClose (s : State) (it : Item) (a : EmbQ) (x : Table) (f : Flight) : Closed :=
  match s.readIdx it.ring.toNat a f with
  | .waits s => .waits s
  | .ends s c => .done s c
  | .ok s bs =>
    let idx := words32 bs a.count
    let kept := idx.filter fun i => !indexDropped x.ctx i
    let uniq := sortUniq kept
    let galleries := s.warmGalleries it.tenant.toNat it.cls.toNat
    let held := if galleries.isEmpty then [] else (s.warmLines x uniq).filter s.uncalm.contains
    if !held.isEmpty then .waits (s.itemAsk held)
    else
      let near := (uniq.filter fun r => (x.rowGranules r).all fun g => (s.granule g).tier == .near).length
      let s := s.each uniq fun s r => s.each (x.rowGranules r) fun s g => s.promote g none
      let s := s.each galleries fun s g => s.warm x g uniq
      let n := idx.length - kept.length
      .done (s.countDrops a.table n) (embDone n uniq.length n near 0)

/-! ## GRAD (R171 to R173) -/

/-- What a GRAD contributes: for each kept index in order its row, integers and whether one clipped; and the count
dropped. -/
def gradList (a : EmbQ) (c : Line) (idx : List Nat) (src : List Byte) : List (Nat × List Int × Bool) × Nat :=
  let w := tcElems c * a.gb
  let l := idx.mapIdx fun k i =>
    if indexDropped c i then none else (gradVec c a.bf16 (slice src (k * w) w)).map fun q => (i, q.1, q.2)
  let kept := l.filterMap id
  (kept, l.length - kept.length)

/-- What reading the lists of a GRAD gives: its contributions and the count of those dropped, how it ends, or that it waits. -/
inductive GradGot where
  | ok (s : State) (l : List (Nat × List Int × Bool)) (dropped : Nat)
  | ends (s : State) (c : Cpl)
  | waits (s : State)

/-- The lists of a GRAD, read again for a reversal. -/
def State.gradRead (s : State) (r : Nat) (a : EmbQ) (c : Line) (f : Flight) : GradGot :=
  match s.readIdx r a f with
  | .waits s => .waits s
  | .ends s e => .ends s e
  | .ok s bs =>
    match s.itemRead r f.pos.toNat a.srcHost f.host a.off (a.count * tcElems c * a.gb) 32 with
    | .waits s => .waits s
    | .ends s e => .ends s e
    | .ok s src => .ok s (gradList a c (words32 bs a.count) src).1 (gradList a c (words32 bs a.count) src).2

def addInts (a b : List Int) : List Int := List.zipWith (· + ·) a b

/-- The sums of a row's first k contributions, and the clipped ones among all of them: those past k count as clipped. -/
def rowSums (n : Nat) (l : List (List Int × Bool)) (k : Nat) : List Int × Nat :=
  ((l.take k).foldl (fun a q => addInts a q.1) (List.replicate n 0),
   ((l.take k).filter Prod.snd).length + (l.length - k))

/-- Change the entry of a row: its contributions, sums and clips; it goes when no contribution is left. -/
def State.changeEntry (s : State) (t : Nat) (step : BitVec 32) (row : Nat) (f : StepEntry → StepEntry) : State :=
  { s with steps := (s.steps.map fun (e : StepEntry) =>
      if e.is t step && e.row.toNat == row then f e else e).filter fun e => e.cnt != 0 }

/-- Add one row's contributions, creating its entry; none when the buffer is full. The contributions added. -/
def State.addRow (s : State) (t : Nat) (x : Table) (step : BitVec 32) (row : Nat) (l : List (List Int × Bool)) :
    Option (State × Nat) :=
  let old := s.steps.find? fun e => e.is t step && e.row.toNat == row
  let have_ := match old with
    | some e => e.cnt
    | none => 0
  let k := min l.length (2 ^ 32 - 1 - have_)
  let (acc, clips) := rowSums (tcElems x.ctx) l k
  match old with
  | some _ =>
    some (s.changeEntry t step row fun e => { e with cnt := e.cnt + k, acc := addInts e.acc acc, clips := e.clips + clips }, k)
  | none =>
    if 0x200000000 < s.stepUsed + entryBytes x.ctx then none
    else
      some ({ s with steps := s.steps ++ [{ table := BitVec.ofNat 12 t, tenant := BitVec.ofNat 4 (tcTenant x.ctx), step
                                            row := BitVec.ofNat 32 row, cnt := k, clips, acc, image := none }] }, k)

/-- Add rows in ascending order until the buffer is full: the state, what was added, and whether all of it was. -/
def State.addRows (t : Nat) (x : Table) (step : BitVec 32) (l : List (Nat × List Int × Bool)) :
    List Nat → State → State × List (Nat × Nat) × Bool
  | [], s => (s, [], true)
  | r :: rest, s =>
    match s.addRow t x step r ((l.filter fun q => q.1 == r).map Prod.snd) with
    | none => (s, [], false)
    | some (s, k) =>
      let (s, m, ok) := State.addRows t x step l rest s
      (s, (r, k) :: m, ok)

def GradSum.is (g : GradSum) (r pos : Nat) : Bool := g.ring.toNat == r && g.pos.toNat == pos

/-- What a GRAD's contributions add to the step buffer, its counts kept; whether all of it found room. -/
def State.gradEnter (s : State) (r pos : Nat) (a : EmbQ) (x : Table) (l : List (Nat × List Int × Bool)) (dropped : Nat) : State × Bool :=
  let (s, adds, ok) := State.addRows a.table x a.step l (sortUniq (l.map Prod.fst)) s
  let clipped := adds.foldl (fun n w => n + (rowSums 0 ((l.filter fun q => q.1 == w.1).map Prod.snd) w.2).2) 0
  ({ s with grads := s.grads ++ [{ ring := BitVec.ofNat 12 r, pos := BitVec.ofNat 32 pos, table := BitVec.ofNat 12 a.table
                                   step := a.step, adds, accepted := adds.foldl (fun n w => n + w.2) 0
                                   dropped, clipped, ends := none }] }, ok)

/-- A GRAD adds its sums, once (R171; log entry 53): none of it waits, or how it ends. A full buffer ends it. -/
def State.gradAdd (s : State) (r : Nat) (f : Flight) : Got :=
  let a := embQ .embu f.desc
  if s.grads.any fun g => g.is r f.pos.toNat then .ok s []
  else
    match s.table a.table with
    | none => .ok s []
    | some x =>
      match s.gradRead r a x.ctx f with
      | .waits s => .waits s
      | .ends s c => .ends s c
      | .ok s l dropped =>
        let (s, ok) := s.gradEnter r f.pos.toNat a x l dropped
        if ok then .ok s [] else .ends s (Cpl.of St.noSpace)

/-- A GRAD's item runs for the first time: it adds its sums, or waits for the lists until its close. -/
def State.gradBegin (s : State) (slot : Nat) (it : Item) : State :=
  match s.flight it.ring.toNat it.pos.toNat with
  | none => s
  | some f =>
    match s.gradAdd it.ring.toNat f with
    | .ok s _ => s
    | .ends s c => s.itemFault slot c
    | .waits s => s

/-- What a GRAD's completion counts. -/
def State.gradCounts (s : State) (r pos : Nat) : State × Cpl :=
  match s.grads.find? fun g => g.is r pos with
  | none => (s, Cpl.of St.done)
  | some g =>
    let s := { s with grads := dropIf (fun g => g.is r pos) s.grads }
    let s := ((s.countDrops g.table.toNat g.dropped).count R.embClipTotal g.clipped).count R.embGradTotal g.accepted
    let s := match s.table g.table.toNat with
      | some x => s.setTable g.table.toNat (some { x with clipped := satAdd 64 x.clipped g.clipped })
      | none => s
    (s, embDone g.dropped g.adds.length g.dropped g.step.toNat g.clipped)

/-- The last close of a GRAD. -/
def State.gradClose (s : State) (r : Nat) (f : Flight) : Closed :=
  match s.gradAdd r f with
  | .waits s => .waits s
  | .ends s c => .done s c
  | .ok s _ => .done (s.gradCounts r f.pos.toNat).1 (s.gradCounts r f.pos.toNat).2

/-- Forget what a GRAD added. -/
def State.dropGrad (s : State) (r pos : Nat) : State := { s with grads := dropIf (fun g => g.is r pos) s.grads }

/-- An item ends with a status of its own: a GRAD that added to entries is reversed first, and its record waits (R172). -/
def State.itemRecord (s : State) (r pos : Nat) (c : Cpl) : State :=
  match s.grads.find? fun g => g.is r pos with
  | none => s.finish r pos c
  | some g =>
    if g.adds.isEmpty then (s.dropGrad r pos).finish r pos c
    else
      let s := { s with grads := mapIf (fun g => g.is r pos) (fun g => { g with ends := some c }) s.grads }
      (s.setStage r pos .running).count R.embReverseTotal

/-- A reversal subtracts what was added; a read that fails discards the table's step (R172), a job-fatal event on the home
die of the table's storage. -/
def State.reversed (s : State) (r pos : Nat) (readOk : Bool) : State :=
  match s.grads.find? fun g => g.is r pos && g.ends.isSome with
  | none => s
  | some g =>
    let c := g.ends.getD (Cpl.of St.stopped)
    let t := g.table.toNat
    let s0 := s
    let s := s.dropGrad r pos
    let lost (s : State) (x : Table) : State :=
      let s := s.discardStep t g.step
      let s := { s with poisonSteps := (g.table, g.step) :: s.poisonSteps }
      s.record { ErrRec.plain 4 8 (s.homeDie (x.base / 65536)) 14 with
        tenant := some (BitVec.ofNat 4 (tcTenant x.ctx)), addr := s.fpaOf x.base }
    match s.table t, s.flight r pos with
    | some x, some f =>
      let a := embQ .embu f.desc
      if !readOk then (lost s x).finish r pos c
      else
        match s0.gradRead r a x.ctx f with
        | .waits s => s
        | .ends s _ => (lost (s.dropGrad r pos) x).finish r pos c
        | .ok s l _ =>
          let s := s.dropGrad r pos
          let s := s.each g.adds fun s w =>
            let (acc, clips) := rowSums (tcElems x.ctx) ((l.filter fun q => q.1 == w.1).map Prod.snd) w.2
            s.changeEntry t g.step w.1 fun e =>
              { e with cnt := e.cnt - w.2, acc := addInts e.acc (acc.map fun i => -i), clips := e.clips - clips }
          s.finish r pos c
    | _, _ => s.finish r pos c

/-! ## CLOSE (R175 to R177) and ABANDON (R174) -/

/-- Build every entry's image in ascending rows, until a row is poisoned; none in place of an image leaves its row
unchanged. -/
def State.buildImages (x : Table) (p : CloseArgs) (step : BitVec 32) :
    List StepEntry → State → State × List (Nat × Option (List Byte)) × Bool
  | [], s => (s, [], true)
  | e :: t, s =>
    if (s.readRow x e.row.toNat).2 then (s.rowPoison x e.row.toNat, [], false)
    else
      let (s1, l, ok) := State.buildImages x p step t s
      (s1, (e.row.toNat, closeRow x.ctx p e.row.toNat step.toNat (s.readRow x e.row.toNat).1 e.acc) :: l, ok)

/-- The rows with an entry for a step. -/
def State.touchedRows (s : State) (a : EmbQ) : List Nat := (s.stepRows a.table a.step).map fun e => e.row.toNat

/-- The last close of a CLOSE builds every image (R175). -/
def State.closeBuild (s : State) (r pos : Nat) (a : EmbQ) (x : Table) (d : Line) : Closed :=
  let key := (BitVec.ofNat 12 a.table, a.step)
  if s.poisonSteps.contains key then
    .done { s with poisonSteps := s.poisonSteps.filter (· != key) } (Cpl.of St.poisoned)
  else if !(s.rowLines x (s.touchedRows a)).isEmpty then .waits (s.itemAsk (s.rowLines x (s.touchedRows a)))
  else
    let (s, l, ok) := State.buildImages x (closeArgs d) a.step (s.stepRows a.table a.step) s
    if !ok then .done s (Cpl.of St.poisoned)
    else
      let built := (l.filter fun e => e.2.isSome).length
      let left := l.length - built
      let image (e : StepEntry) : StepEntry :=
        if e.is a.table a.step then { e with image := ((l.find? fun q => q.1 == e.row.toNat).bind Prod.snd) } else e
      let s := { s with steps := (s.steps.map image).filter fun e => !e.is a.table a.step || e.image.isSome }
      let s := s.count R.embNonfiniteTotal left
      let s := s.setTable a.table (some { x with nonfinite := satAdd 64 x.nonfinite left })
      let i : Install := { ring := BitVec.ofNat 12 r, pos := BitVec.ofNat 32 pos, table := BitVec.ofNat 12 a.table
                           step := a.step, cpl := embDone left built 0 a.step.toNat left }
      .installs { s with installs := s.installs ++ [i] }

/-- The install unit has written every image over its row (R175): the step is closed. -/
def State.installed (s : State) (t : Nat) : State :=
  match s.installs.find? fun i => i.table.toNat == t with
  | none => s
  | some i =>
    let s := { s with installs := dropIf (fun i => i.table.toNat == t) s.installs }
    match s.table t with
    | none => s.finish i.ring.toNat i.pos.toNat i.cpl
    | some x =>
      let s := s.each (s.stepRows t i.step) fun s e =>
        s.putFunc (.flight i.ring i.pos 0) (x.rowAt e.row.toNat) (e.image.getD [])
      let s := (s.discardStep t i.step).setTable t (some { x with step := i.step + 1 })
      (s.count R.embCloseTotal).finish i.ring.toNat i.pos.toNat i.cpl

/-- The last close of an embedding item that met no fault. -/
def State.embClose (s : State) (slot : Nat) (it : Item) (f : Flight) : Closed :=
  let a := embQ it.kind f.desc
  let r := it.ring.toNat
  match s.table a.table with
  | none => .done s (embRefuse St.notOwner 6 0)
  | some x =>
    if a.lookup then s.lookupClose slot it a x f
    else if a.lookahead then s.lookaheadClose it a x f
    else if a.grad then s.gradClose r f
    else if a.close then s.closeBuild r f.pos.toNat a x f.desc
    else .done (s.discardStep a.table a.step) (Cpl.of St.done)

/-! ## RETIRE and READ (R158) -/

/-- Is an item naming a table bound, being reversed or installing? -/
def State.tableBusy (s : State) (t : Nat) : Bool :=
  !(s.boundOn t).isEmpty || s.installing t || s.grads.any fun g => g.ends.isSome && g.table.toNat == t

/-- RETIRE frees the frames, dropping their granules (R223), and discards the table's step-buffer entries. -/
def State.tableRetire (s : State) (port t : Nat) : State :=
  match s.table t with
  | none => s.tableResult port St.badDescriptor
  | some x =>
    if s.tableForeign port x then s.tableResult port St.notOwner
    else if s.tableBusy t then s.tableResult port St.badDescriptor
    else
      let s := s.each (List.range (tableFrameCount x.ctx)) fun s i =>
        (s.setFrame (x.base / 65536 + i) Frame.free).dropGranule (x.base / 65536 + i)
      let s := { s with steps := dropIf (fun e => e.table.toNat == t) s.steps
                        poisonSteps := s.poisonSteps.filter fun p => p.1.toNat != t }
      (s.setTable t none).tableResult port St.done

/-- READ copies the context; that of a table not defined reads DEFINED 0 (log entry 49). -/
def State.tableReadCmd (s : State) (port t : Nat) : State :=
  let put (s : State) (w : Nat) : State :=
    (s.each (List.range 8) fun s i =>
      s.setReg (stageOff port (R.embTctxData i)) (BitVec.ofNat 64 (w / 2 ^ (64 * i)))).tableResult port St.done
  match s.table t with
  | none => put s t
  | some x => if s.tableForeign port x then s.tableResult port St.notOwner else put s x.readBack

/-! ## The commands -/

def execDefine (port : Port) (table : TableId) (s : State) : Host.Outcome State Fault Refusal :=
  .next (s.tableCommand port.toNat table.toNat 1 fun s => s.tableDefine port.toNat table.toNat)

def execRetire (port : Port) (table : TableId) (s : State) : Host.Outcome State Fault Refusal :=
  .next (s.tableCommand port.toNat table.toNat 2 fun s => s.tableRetire port.toNat table.toNat)

def execTableRead (port : Port) (table : TableId) (s : State) : Host.Outcome State Fault Refusal :=
  .next (s.tableCommand port.toNat table.toNat 3 fun s => s.tableReadCmd port.toNat table.toNat)

def execTableZeroingComplete (s : State) : Host.Outcome State Fault Refusal := .next s.tableZeroed

def execLookup (ring : RingId) (pos : Pos) (idx off : List (BitVec 32)) (s : State) : Host.Outcome State Fault Refusal :=
  .next (s.embStart ring.toNat pos.toNat .embl 1 idx off [])

def execLookahead (ring : RingId) (pos : Pos) (idx : List (BitVec 32)) (s : State) : Host.Outcome State Fault Refusal :=
  .next (s.embStart ring.toNat pos.toNat .embl 2 idx [] [])

def execGrad (ring : RingId) (pos : Pos) (idx : List (BitVec 32)) (gsrc : List Byte) (s : State) :
    Host.Outcome State Fault Refusal := .next (s.embStart ring.toNat pos.toNat .embu 1 idx [] gsrc)

def execClose (ring : RingId) (pos : Pos) (s : State) : Host.Outcome State Fault Refusal :=
  .next (s.embStart ring.toNat pos.toNat .embu 2 [] [] [])

def execAbandon (ring : RingId) (pos : Pos) (s : State) : Host.Outcome State Fault Refusal :=
  .next (s.embStart ring.toNat pos.toNat .embu 3 [] [] [])

def execReversalComplete (ring : RingId) (pos : Pos) (readOk : Bool) (s : State) : Host.Outcome State Fault Refusal :=
  .next (s.reversed ring.toNat pos.toNat readOk)

def execCloseInstallComplete (table : TableId) (s : State) : Host.Outcome State Fault Refusal :=
  .next (s.installed table.toNat)

end Sys2Proof.Machine
end

