-- ==== Sys2Proof/Machine/Relief.lean ====
section
/-! DEFINITION. RELIEF: its checks, and the copy that begins at its rotation (R356). -/

namespace Sys2Proof.Machine

def rlFirst (d : Line) : Nat := fld d 64 20
def rlCount (d : Line) : Nat := fld d 96 20
def rlTarget (d : Line) : Nat := fld d 128 6
def rlAt (d : Line) : Nat := dNum d 24 8

/-- What refuses a RELIEF, in the order of R356. -/
def State.reliefCheck (s : State) (d : Line) : Option Cpl :=
  let gib := s.capacity / 2 ^ 30
  if dTenant d ≠ 0 then some (Cpl.why St.notOwner 2)
  else if gib ≤ rlFirst d then some (Cpl.bad 8 7)
  else if rlCount d = 0 ∨ gib < rlFirst d + rlCount d then some (Cpl.bad 12 7)
  else if rlTarget d = s.devNo then some (Cpl.bad 16 7)
  else if !s.reachable (rlTarget d) then some (Cpl.of St.timeout)
  else none

/-- RELIEF: refused, or waiting for the start of rotation AT. -/
def State.reliefStart (s : State) (r pos : Nat) : State :=
  match s.mayStart r pos .mgmt with
  | none => s
  | some f =>
    match s.reliefCheck f.desc with
    | some c => s.finish r pos c
    | none =>
      let d := f.desc
      let x : Relief :=
        { ring := BitVec.ofNat 12 r, pos := BitVec.ofNat 32 pos, first := rlFirst d, count := rlCount d
          target := BitVec.ofNat 6 (rlTarget d), at_ := BitVec.ofNat 64 (rlAt d), metadata := dFlag d 12, started := false
          copied := false, late := false, quiet := false, bytes := 0, poisoned := 0, read := [] }
      { s.setStage r pos .running with ras := { s.ras with reliefs := s.ras.reliefs ++ [x] } }

/-- The written or poisoned lines of a relief's range, in ascending order. -/
def State.reliefLines (s : State) (r : Relief) : List Nat :=
  let inside (l : Nat) : Bool := decide (r.first ≤ l / 2 ^ 24 ∧ l / 2 ^ 24 < r.first + r.count)
  sortUniq (((s.lineKey.map Prod.fst) ++ s.poison.map Prod.fst).filter inside)

/-- The lines of a relief's range that caches or hosts hold, or that writes are on their way to. -/
def State.reliefHeld (s : State) (r : Relief) : List Nat :=
  s.uncalm.filter fun l => decide (r.first ≤ l / 2 ^ 24 ∧ l / 2 ^ 24 < r.first + r.count)

/-- The copy of a relief: its writes leave as device-function writes; with none, it is complete at once. -/
def State.reliefCopy (s : State) (r : Relief) : State :=
  let lines := s.reliefLines r
  let e := Eng.func 0 0 (.relief r.ring r.pos)
  let s := s.updRelief r.ring r.pos fun q =>
    { q with copied := true, bytes := 64 * lines.length, poisoned := (lines.filter s.poisoned).length }
  let s := s.each lines fun s l =>
    s.putRemote e false 0 (r.target.toNat * 2 ^ 50 + 64 * l) (64 * l) ((s.poolRead (64 * l) 64).map fun b => (b, s.poisoned l))
  let s := if r.metadata then s.sendMg (.reliefMeta r.target s.sessions s.tables) else s
  s.reliefEnd r.ring r.pos

/-- The granules of a relief's range that hold something, are not in DRAM, and have still to be read from their drives (R216). -/
def State.reliefDense (s : State) (r : Relief) : List Nat :=
  ((s.reliefLines r).map (· / 1024)).eraseDups.filter fun g => !s.inDram g && !r.read.contains g

/-- A DENSE granule is read directly from its drive, without filling; one whose fill or Read is under way, or whose drive is fenced, is
waited for (R216, R350, R356). -/
def State.reliefRead (s : State) (g : Nat) : State :=
  match s.driveOf g with
  | some d =>
    if (s.granule g).fill.isSome ∨ s.driveFenced g ∨ ((s.drive d).cmds ++ (s.drive d).queued).contains (directCode g) then s
    else s.issueDrive d (directCode g)
  | none => s

/-- Reliefs that have begun copy once their lines are in memory or read; until then they ask for what others hold, and read their DENSE
granules in ascending order (R216, R288). -/
def State.reliefsGo (s : State) : State :=
  s.each (s.ras.reliefs.filter fun r => r.started && !r.copied) fun s r =>
    if (s.reliefHeld r).isEmpty ∧ (s.reliefDense r).isEmpty then s.reliefCopy r
    else (s.each (s.reliefDense r) State.reliefRead).itemAsk (s.reliefHeld r)

/-- The reliefs whose rotation has come begin. -/
def State.reliefsBegin (s : State) : State :=
  (s.each (s.ras.reliefs.filter fun r => !r.started && decide (r.at_.toNat ≤ s.rotNo.toNat)) fun s r =>
    s.updRelief r.ring r.pos fun q => { q with started := true }).reliefsGo.runNet.reliefsGo.runNet

def execRelief (ring : RingId) (pos : Pos) (s : State) : Host.Outcome State Fault Refusal :=
  .next (s.reliefStart ring.toNat pos.toNat)

end Sys2Proof.Machine
end

