-- ==== Sys2Proof/Machine/Align.lean ====
section
/-! DEFINITION. Running and aligning the rotation: ROT_CTRL, ROT_CHANGE_AT, beacons, holdover and the beacon root (R62, R63, R70,
R89 to R92). -/

namespace Sys2Proof.Machine

def State.updRot (s : State) (f : Rot → Rot) : State := { s with rot := f s.rot }

def State.running (s : State) : Bool := bit (s.reg R.rotCtrl) 0

/-- Is this device the beacon root: ROOT set, or a standby that took over (R89, R90)? -/
def State.isRoot (s : State) : Bool := bit (s.reg R.rotCtrl) 1 || s.rot.rooted

/-! ## ROT_CHANGE_AT (R63, R70) -/

/-- From the last rotation before a pending change until it has applied, CHANGE_AT and the NEXT registers are locked (R70), also while
the change is held in FREE (R91). -/
def State.changeLocked (s : State) : Bool := s.rot.pending && decide ((s.reg R.rotChangeAt).toNat ≤ s.rotNo.toNat + 1)

def State.changeAt (s : State) (port : Nat) (n : Word) : State :=
  if s.changeLocked then s.setupError port R.rotChangeAt 5
  else if n = 0 then (s.setReg R.rotChangeAt 0).updRot fun r => { r with pending := false }
  else if n.toNat ≤ s.rotNo.toNat + 1 then s.setupError port R.rotChangeAt 5
  else (s.setReg R.rotChangeAt n).updRot fun r => { r with pending := true }

/-! ## ROT_CTRL (R90, R91) -/

/-- RUN becomes 1 in HALTED: a root is ALIGNED at once, any other device waits for a beacon. -/
def State.runBegins (s : State) : State :=
  let s := s.updRot fun r =>
    { r with rotations := 0, hadBeacon := false, adopt := none, behind := false, slew := 0, up0 := none }
  if s.isRoot then s.setAlign .aligned 0 else s

/-- The rotation halts: RUN was cleared and no rotation is in progress. -/
def State.runEnds (s : State) : State :=
  (s.updRot fun r => { r with phase := .idle, halting := false, rooted := false, adopt := none }).setAlign .halted 0

/-- A write of ROT_CTRL with RUN 1. A root is always ALIGNED while it runs; set again before the rotation in progress has ended,
RUN counts as set when it ends (log entry 63). -/
def State.runSet (s : State) (root standby : Bool) : State :=
  let was := s.running
  let s := s.setReg R.rotCtrl (BitVec.ofNat 64 (1 + 2 * b2n root + 4 * b2n standby))
  let s := if standby then s else s.updRot fun r => { r with rooted := false }
  if s.rot.halting then s
  else if was then (if root then s.setAlign .aligned 0 else s)
  else s.runBegins

/-- A write of ROT_CTRL with RUN 0: the current rotation runs to its end. -/
def State.runClear (s : State) (root standby : Bool) : State :=
  let was := s.running
  let s := s.setReg R.rotCtrl (BitVec.ofNat 64 (2 * b2n root + 4 * b2n standby))
  if !was then s
  else if s.rot.phase = .idle then s.runEnds
  else s.updRot fun r => { r with halting := true }

def State.ctrlWrite (s : State) (port value : Nat) (act : State → State) : State :=
  s.setupWrite port R.rotCtrl (some 0) false (heldWrite port R.rotCtrl (BitVec.ofNat 64 value)) act

/-! ## Beacons (R89, R92) -/

/-- Send a beacon on every downstream port whose link is ACTIVE. -/
def State.sendBeacon (s : State) (number : Word) (period : BitVec 9) (root : Dev) (hops : Nat) : State :=
  s.each ((List.range 18).filter fun p => bit (s.reg R.rotBeaconDown) p && s.sportThere p && (s.link p).state == .active)
    fun s p => s.sendControl p number period root (BitVec.ofNat 8 hops)

/-- Does this device take a beacon of a port: UP0, or UP1 while UP0 carries none and UP1_EN is set? -/
def State.takesBeacon (s : State) (p : Nat) : Bool :=
  let c := s.reg R.rotBeaconCfg
  p == fld c 0 5 || (bit c 10 && p == fld c 5 5 && s.rot.up0.isNone)

/-- Is it a beacon of a second root, on UP1 while UP0 carries those of another (R90)? -/
def State.secondRoot (s : State) (p : Nat) (root : Dev) : Bool :=
  let c := s.reg R.rotBeaconCfg
  bit c 10 && p == fld c 5 5 && p != fld c 0 5 && (match s.rot.up0 with
    | some d => d != root
    | none => false)

/-- What the beacon of rotation `m` does to the alignment; `e` is how many ns the local start came after the beacon's. -/
def State.align (s : State) (m : Word) (e : Int) : State :=
  let n := s.rotNo
  let adopt (s : State) : State := s.updRot fun r => { r with adopt := some m }
  let behind (s : State) : State := (s.updRot fun r => { r with behind := true }).setAlign .free e.natAbs
  match s.rot.align with
  | .halted =>
    if m.toNat < n.toNat then behind s else adopt (s.setAlign .aligned e.natAbs)
  | .aligned =>
    if n.toNat < m.toNat then adopt s
    else if m = n then s.updRot fun r => { r with slew := e }
    else s
  | .realigning => if n.toNat < m.toNat then adopt (s.setAlign .aligned e.natAbs) else s
  | _ =>
    if m.toNat < n.toNat then behind s
    else if m = n ∧ e.natAbs ≤ 40 then (s.setAlign .aligned e.natAbs).updRot fun r => { r with slew := e }
    else s.setAlign .realigning e.natAbs

/-- A beacon arrives: one with a hop count above 4, or on another port, is ignored. It is forwarded; a root, a device that does
not run and one in Fog mode do nothing else with it (R89, R354). -/
def State.beacon (s : State) (p : Nat) (m : Word) (period : BitVec 9) (root : Dev) (hops : Nat) (e : Int) : State :=
  if s.pwr.state ≠ .on ∨ !s.sportThere p ∨ 4 < hops then s
  else if s.secondRoot p root then
    s.lateLog { LateRec.plain 5 s.rot.align.code with measured := e.natAbs }
  else if !s.takesBeacon p then s
  else if s.isRoot ∧ !s.ras.fog then s
  else
    let s := s.sendBeacon m period root (hops + 1)
    let s := s.updRot fun r => { r with
      lastBeacon := m, hops := BitVec.ofNat 3 hops, hadBeacon := r.hadBeacon || s.running
      up0 := if p = fld (s.reg R.rotBeaconCfg) 0 5 then some root else r.up0 }
    if s.ras.fog ∨ !s.running ∨ s.rot.halting then s else s.align m e

/-! ## Timers (R90, R91) -/

/-- Two expected beacons are missed. -/
def State.beaconMissed (s : State) : State :=
  let s := s.updRot fun r => { r with up0 := none }
  if s.running ∧ !s.isRoot ∧ s.rot.align = .aligned then s.setAlign .holdover 0 else s

/-- 20 ms without a beacon in HOLDOVER. -/
def State.holdoverEnds (s : State) : State := if s.rot.align = .holdover then s.setAlign .free 0 else s

/-- A standby root takes over after 8 periods without a beacon. -/
def State.takeOver (s : State) : State :=
  if s.running ∧ bit (s.reg R.rotCtrl) 2 ∧ !s.isRoot ∧ (s.rot.align = .holdover ∨ s.rot.align = .free) then
    (s.updRot fun r => { r with rooted := true }).setAlign .aligned 0
  else s

/-- No beacon came within 8 periods of RUN: FREE. -/
def State.firstWaitEnds (s : State) : State :=
  if s.running ∧ !s.isRoot ∧ !s.rot.halting ∧ s.rot.align = .halted ∧ !s.rot.hadBeacon ∧ !s.ras.fog then s.setAlign .free 0 else s

/-! ## The commands -/

def execRotChangeAt (port : Port) (value : Word) (s : State) : Host.Outcome State Fault Refusal :=
  .next (s.setupWrite port.toNat R.rotChangeAt (some 0) false (heldWrite port.toNat R.rotChangeAt value) fun s =>
    s.changeAt port.toNat value)

def execRotRunSet (port : Port) (root standby : Bool) (s : State) : Host.Outcome State Fault Refusal :=
  .next (s.ctrlWrite port.toNat (1 + 2 * b2n root + 4 * b2n standby) fun s => s.runSet root standby)

def execRotRunClear (port : Port) (root standby : Bool) (s : State) : Host.Outcome State Fault Refusal :=
  .next (s.ctrlWrite port.toNat (2 * b2n root + 4 * b2n standby) fun s => s.runClear root standby)

def execBeaconReceived (p : SPort) (number : Word) (period : BitVec 9) (root : Dev) (hops : Byte) (err : Int) (s : State) :
    Host.Outcome State Fault Refusal :=
  .next (s.beacon p.toNat number period root hops.toNat err)

def execBeaconMissed (s : State) : Host.Outcome State Fault Refusal := .next s.beaconMissed

def execHoldoverExpiry (s : State) : Host.Outcome State Fault Refusal := .next s.holdoverEnds

def execStandbyRootTakeover (s : State) : Host.Outcome State Fault Refusal := .next s.takeOver

def execFirstBeaconWaitExpiry (s : State) : Host.Outcome State Fault Refusal := .next s.firstWaitEnds

end Sys2Proof.Machine
end

