-- ==== Sys2Proof/Machine/Rotation.lean ====
section
/-! DEFINITION. The rotation: candidates, the change at a start, the snapshot, binding, launch, windows and the close (R62 to R77,
R84 to R88, R181, R186). -/

namespace Sys2Proof.Machine

/-! ## Candidates (R72) -/

/-- The first span of a list that does not translate: descriptor byte, DVA, reason, level, write (R239). -/
def State.spanFault (s : State) (who t : Nat) (l : List (Nat × Nat × Bool × Nat)) : Option (Nat × Nat × Nat × Nat × Bool) :=
  l.findSome? fun p => (s.rangeFault who t p.2.2.1 (pieces p.2.1) p.1 p.2.1).map fun e => (p.2.2.2, e.1, e.2.1, e.2.2, p.2.2.1)

/-- The front end translates the spans, up to one that faults (R241). -/
def State.spansXlat (who t : Nat) : List (Nat × Nat × Bool × Nat) → State → State
  | [], s => s
  | p :: rest, s =>
    match s.rangeFault who t p.2.2.1 (pieces p.2.1) p.1 p.2.1 with
    | some e => s.xlatRead who t p.1 p.2.1 (e.1 - p.1)
    | none => State.spansXlat who t rest (s.xlatRead who t p.1 p.2.1 p.2.1)

/-- A descriptor completes before it binds; an ATTN record carries what R155 gives it. -/
def State.endFlight (s : State) (r pos : Nat) (c : Cpl) : State :=
  match s.flight r pos with
  | none => s
  | some f => if (s.ring r).kind = .attn then s.finish r pos (s.attnCpl (attnQ f.desc) c) else s.finish r pos c

/-- The spans a descriptor's pre-check translates. -/
def State.spansOf (s : State) (k : RingKind) (d : Line) : List (Nat × Nat × Bool × Nat) :=
  if k = .attn then s.attnSpans (attnQ d)
  else
    match s.table (embQ k d).table with
    | some x => (embQ k d).spans x.ctx
    | none => []

/-- The rest of a pre-check: the descriptor is a candidate, or completes with its failure; pages of a REMOTE session that are not
here are pulled first. -/
def State.precheckSpans (s : State) (r : Nat) (f : Flight) : State :=
  let k := (s.ring r).kind
  let t := dTenant f.desc
  let a := attnQ f.desc
  let missing := if k = .attn then s.attnMissing a f.depth else []
  if !missing.isEmpty then s.each missing fun s p => s.askPage (sidHandle a.sid) a.layer p
  else
    let spans := s.spansOf k f.desc
    let s1 := State.spansXlat (s.frontCache r) t spans s
    match s.spanFault (s.frontCache r) t spans with
    | some (byte, dva, reason, level, write) =>
      (s1.xltFault t dva reason level write 0x3FF).endFlight r f.pos.toNat (Cpl.bad byte 6)
    | none => s1.setStage r f.pos.toNat .candidate

/-- The MASK section of a TREE query, which the pre-check reads for its depths. -/
def State.readMask (s : State) (r : Nat) (f : Flight) : Got :=
  let a := attnQ f.desc
  let n := a.maskAt (s.session (sidHandle a.sid))
  if a.tree then s.itemRead r f.pos.toNat a.srcHost (f.host.drop n) (a.src + n) 64 40 else .ok s []

/-- The pre-check ends. A TREE query waits until its MASK section has come; one that cannot be read counts as all zeros here, and ends
the item when its clauses read it (R136, R138). -/
def State.precheck (s : State) (r pos : Nat) : State :=
  match s.flight r pos with
  | none => s
  | some f =>
    if f.stage ≠ .preparing then s
    else if (s.ring r).kind ≠ .attn then s.precheckSpans r f
    else
      match s.readMask r f with
      | .waits s => s.runNet
      | .ends _ _ => s.precheckSpans r f
      | .ok s bs =>
        let depths := (List.range 16).map fun i => numAt bs (32 + i) 1
        (s.setFlight r pos fun f => { f with depths }).precheckSpans r { f with depths }

/-- The class of a ring (R93). -/
def State.ringClass (s : State) (r : Nat) : Nat := fld (s.reg (R.rotRclass (r / 8))) (4 * (r % 8)) 4

/-- The candidates, by ring and in ring order. -/
def State.candidates (s : State) : List (RingId × Pos) :=
  s.rings.flatMap fun e =>
    if e.2.state = .active ∧ (e.2.kind = .attn ∨ e.2.kind = .embl ∨ e.2.kind = .embu) then
      (e.2.flights.filter fun f => f.stage == .candidate).map fun f => (BitVec.ofNat 12 e.1, f.pos)
    else []

/-! ## Sentences and slots (R68, R71, R74, R76) -/

def kindCode : RingKind → Nat
  | .attn => 1
  | .embl => 3
  | _ => 4

/-- The active book's bytes. -/
def State.activeBytes (s : State) : List Byte :=
  match s.rot.active with
  | some b => (s.book b.toNat).data
  | none => []

def State.seqLen (s : State) : Nat := (s.reg R.rotSeqLen).toNat

/-- Entry i of the current sequence. -/
def State.seqEntry (s : State) (i : Nat) : Nat := fld (s.reg (R.rotSeq (i / 16))) (4 * (i % 16)) 4

/-- The sentences the active sequence names that the book has. -/
def State.sequence (s : State) : List Nat :=
  let n := bookCount s.activeBytes
  sortUniq (((List.range s.seqLen).map s.seqEntry).filter fun i => s.rot.active.isSome && decide (i < n))

/-- The sentence of rotation n: none in an empty rotation (R71). -/
def State.selectSentence (s : State) (n : Nat) : Option Nat :=
  if s.rot.active.isNone ∨ s.rot.mismatch ∨ s.seqLen = 0 then none
  else
    let i := s.seqEntry (((n : Int) - s.rot.base.toNat) % s.seqLen).toNat
    if i < bookCount s.activeBytes then some i else none

/-- The work units of a descriptor (R138, R164). -/
def State.unitsOf (s : State) (k : RingKind) (f : Flight) : Nat :=
  if k = .attn then (attnQ f.desc).units f.depth else s.embUnits (embQ k f.desc)

/-- May a descriptor of a ring class bind to a slot, the slot's being free apart (R74, R137, R164)? -/
def State.slotFits (s : State) (k : RingKind) (cls : Nat) (f : Flight) (x : Slot) : Bool :=
  x.kind == kindCode k && x.tenant == dTenant f.desc && x.cls == cls && decide (s.unitsOf k f ≤ x.cap * x.maxSpan)
  && (if k = .attn then s.attnFits (attnQ f.desc) x.kparam else s.embFits (embQ k f.desc) x.kparam)

/-- Does a slot entry define an item's slot as it was at bind (R76)? -/
def Item.same (it : Item) (slot : Nat) (x : Slot) : Bool :=
  x.index == slot && x.kind == kindCode it.kind && x.tenant == it.tenant.toNat && x.cls == it.cls.toNat
  && x.nearOnly == it.nearOnly && x.cap == it.cap && x.maxSpan == it.span

/-- Does a sentence of the active book? -/
def State.defines (s : State) (i slot : Nat) (it : Item) : Bool :=
  (slotsOf (sentenceBytes s.activeBytes i)).any fun x => it.same slot x

/-! ## Ends of items (R84 to R86, R186) -/

/-- Have accesses, streams or array products of a slot's clauses still to complete? -/
def State.itemBusy (s : State) (slot : Nat) : Bool :=
  s.voices.any (fun e => (e.2.out.any fun a => a.own == slot) || e.2.streams.any fun t => t.own == slot && t.done.isNone)
  || s.amms.any fun e => e.2.any fun q => q.own == slot

/-- An item leaves its slot. -/
def State.freeSlot (s : State) (slot : Nat) (it : Item) : State :=
  (s.each it.pins State.unpin).dropItem slot

/-- The pages that a query read which ends before its output: those of the rotations it ran, and in the last one a number that nothing
says (log entry 117). -/
def State.countPages (s : State) (it : Item) : State :=
  match s.flight it.ring.toNat it.pos.toNat with
  | none => s
  | some f =>
    if it.kind ≠ .attn ∨ it.written then s
    else
      let n := ((attnQ f.desc).pages f.depth).length
      let was := min n (it.runs * it.cap)
      let (k, s) := s.draw
      s.count R.attPageTotal (was + if it.closing then (Config.freeWord k).toNat % (min it.cap (n - was) + 1) else 0)

/-- An item ends with a status other than its own DONE: nothing is committed (R85). -/
def State.stopItem (s : State) (slot : Nat) (c : Cpl) : State :=
  match s.item slot with
  | none => s
  | some it =>
    let c := if it.kind = .attn then s.attnCpl (attnQ (s.itemDesc it)) c else c
    (((s.spoilOutput it c).countPages it).freeSlot slot it).itemRecord it.ring.toNat it.pos.toNat c

/-- An item whose last rotation met no fault and no lateness: what it computed is committed and its record follows; a CLOSE goes
on to its install (R175). -/
def State.commitItem (s : State) (slot : Nat) (it : Item) : State :=
  match s.flight it.ring.toNat it.pos.toNat with
  | none => s.freeSlot slot it
  | some f =>
    match (if it.kind = .attn then s.attnClose slot it f else s.embClose slot it f) with
    | .waits s => s
    | .installs s => (s.freeSlot slot it).setStage it.ring.toNat it.pos.toNat .running
    | .done s c =>
      let c := if it.kind = .attn then s.attnCpl (attnQ f.desc) c else c
      ((s.spoilOutput it c).freeSlot slot it).itemRecord it.ring.toNat it.pos.toNat c

/-- End a closing item: a fault or refused access decides over lateness (R409). -/
def State.endItem (s : State) (slot : Nat) : State :=
  match s.item slot with
  | none => s
  | some it =>
    match it.fault, it.late with
    | some c, _ => s.stopItem slot c
    | none, some c => s.stopItem slot c
    | none, none => s.commitItem slot it

/-- The name an item goes on under once it has left its slot: none is a slot's, nor another item's. -/
def Item.leftAs (it : Item) (slot : Nat) : Nat := slot + 65536 * (1 + it.ring.toNat + 4096 * it.pos.toNat)

/-- A rotation start frees the slots of late items whose accesses have not all completed; they complete LATE when these have (R84,
R186). -/
def State.lateLeave (s : State) : State :=
  s.each (s.rot.items.filter fun e => decide (e.1 < 65536) && e.2.closing && e.2.late.isSome) fun s e =>
    (s.reown e.1 (e.2.leftAs e.1)).updRot fun r => { r with items := lput (ldel r.items e.1) (e.2.leftAs e.1) e.2 }

/-- Closing items end once every access of their clauses has completed (R186). -/
def State.itemsTry (s : State) : State :=
  s.each ((s.rot.items.filter fun e => e.2.closing).map Prod.fst) fun s slot =>
    if s.itemBusy slot then s else s.endItem slot

/-- Does a closing item wait for lines it reads, or for the acknowledgement of its output? -/
def State.itemsWait (s : State) : Bool := s.rot.items.any fun e => e.2.closing && !s.itemBusy e.1

/-- Closing items end; what one waits for inside the device comes at once. -/
def State.itemsEnd (s : State) : State :=
  let s := s.itemsTry
  if s.itemsWait then s.runNet.itemsTry.runNet else s

/-! ## The change at a rotation start (R63, R70, R71, R76) -/

/-- The NEXT values take effect with rotation n. -/
def State.applyChange (s : State) (n : Nat) : State :=
  let k := (s.reg R.rotPeriodNext).toNat
  let s := (s.setReg R.rotPeriod (s.reg R.rotPeriodNext)).setReg R.rotSeqLen (s.reg R.rotSeqLenNext)
  let s := s.each (List.range 4) fun s i => s.setReg (R.rotSeq i) (s.reg (R.rotSeqNext i))
  let s := s.setReg R.rotChangeAt 0
  let next := s.reg R.rotBookNext
  let b := fld next 0 2
  let (active, mismatch) : Option (BitVec 2) × Bool :=
    if bit next 2 then (none, s.rot.mismatch && s.rot.active.isNone)
    else if (s.book b).state = .loaded then (some (BitVec.ofNat 2 b), bookPeriod (s.book b).data != k)
    else (none, true)
  let s := s.updRot fun r => { r with active, mismatch, pending := false, base := BitVec.ofNat 64 n }
  s.each s.rot.items fun s e =>
    if e.2.closing || s.sequence.any fun i => s.defines i e.1 e.2 then s else s.stopItem e.1 (Cpl.of St.stopped)

/-- Does a pending change apply at rotation n? It is held while FREE after beacons were lost (R91; log entry 64). -/
def State.changeDue (s : State) (n : Nat) : Bool :=
  s.rot.rotations == 0
  || (s.rot.pending && !(s.rot.align == .free && s.rot.hadBeacon) && decide ((s.reg R.rotChangeAt).toNat ≤ n))

/-! ## Rotation start and snapshot (R62, R64, R74, R89, R362) -/

/-- Candidates no slot of the active sequence could take complete NO_SPACE; the others are frozen. -/
def State.takeSnapshot (s : State) : State :=
  let slots := s.sequence.flatMap fun i => slotsOf (sentenceBytes s.activeBytes i)
  let (keep, drop) := s.candidates.partition fun c =>
    match s.flight c.1.toNat c.2.toNat with
    | some f => slots.any fun x => s.slotFits (s.ring c.1.toNat).kind (s.ringClass c.1.toNat) f x
    | none => false
  let s := s.each drop fun s c => s.endFlight c.1.toNat c.2.toNat (Cpl.of St.noSpace)
  s.updRot fun r => { r with snapshot := keep, tried := [] }

/-- A rotation starts. -/
def State.startRotation (s : State) : State :=
  let n := match s.rot.adopt with
    | some m => m
    | none => s.rotNo + 1
  let s := (s.setReg R.rotNumber n).lateLeave
  let s := if s.changeDue n.toNat then s.applyChange n.toNat else s
  let throttled := s.pwr.throttle.inForce
  let empty := throttled && s.rot.parity
  let sentence := if empty then none else s.selectSentence n.toNat
  let s := s.updRot fun r => { r with
    phase := .snapshot, adopt := none, rotations := r.rotations + 1, sentence, overran := throttled, forced := []
    parity := throttled && !r.parity }
  let s : State := { s with ras := { s.ras with haltNow := s.ras.jobHalt } }
  let s := if s.isRoot then s.sendBeacon n (BitVec.ofNat 9 (s.reg R.rotPeriod).toNat) (BitVec.ofNat 6 s.devNo) 1 else s
  (s.takeSnapshot).reliefsBegin

/-- ROTATION_START: the rotation in progress has ended. Where RUN was cleared the device halts; RUN set again then counts. A
rotation starts unless the device waits for a beacon. -/
def State.rotationStart (s : State) : State :=
  if s.pwr.state ≠ .on ∨ s.ras.fog ∨ !(s.rot.phase = .idle ∨ s.rot.phase = .guard) then s
  else
    let s := s.updRot fun r => { r with phase := .idle }
    let s := if s.rot.halting then (if s.running then s.runEnds.runBegins else s.runEnds) else s
    if s.running ∧ (s.rot.align = .aligned ∨ s.rot.align = .holdover ∨ s.rot.align = .free) then s.startRotation else s

/-! ## Binding (R73 to R75, R87, R165) -/

/-- Insert by key, after those with the same key. -/
def insertBy {α : Type} (k : α → Nat) (a : α) : List α → List α
  | [] => [a]
  | b :: t => if k a < k b then a :: b :: t else b :: insertBy k a t

/-- The binder's order: class, then ring from n on, then ring order. -/
def State.bindOrder (s : State) (l : List (RingId × Pos)) : List (RingId × Pos) :=
  let n := s.rotNo.toNat % 4096
  let key (c : RingId × Pos) : Nat := s.ringClass c.1.toNat * 4096 + (c.1.toNat + 4096 - n) % 4096
  l.foldl (fun acc c => insertBy key c acc) []

/-- The check of a candidate at bind. -/
def State.bindCheck (s : State) (k : RingKind) (d : Line) : BindEnd :=
  if k = .attn then s.attnBind (attnQ d) else s.embBind (embQ k d) (dTenant d)

/-- The granules of a candidate's locations. -/
def State.locations (s : State) (r : Nat) (k : RingKind) (f : Flight) : List Nat :=
  let t := dTenant f.desc
  (if k = .attn then s.attnLocations (s.frontCache r) t (attnQ f.desc) f.depth
    else s.embLocations (s.frontCache r) t (embQ k f.desc)).filter
    fun g => !inReserved (65536 * g)

/-- Why a granule is not resident: the CAUSE of R87. -/
def State.absence (s : State) (near : Bool) (g : Nat) : Option Nat :=
  let x := s.granule g
  match x.tier with
  | .near => none
  | .far =>
    let rising : Bool := match x.move with
      | some m => m.dst == .near
      | none => false
    if near then some (if rising then 1 else 2) else none
  | .none =>
    if s.backed then some (if x.fill.isSome then 1 else 0)
    else if near then some (if x.fill.isSome then 1 else 3) else none

/-- Begin to bring a granule to the tier an item requires (R75, R217, R218). -/
def State.bring (s : State) (near : Bool) (g : Nat) : State :=
  let x := s.granule g
  if x.tier = .none ∧ (near ∨ !s.backed) then s.startFill g true none
  else if x.tier = .none then s.demand g false none
  else s.promote g none

/-- A candidate is DEFERRED: its slot is tried, promotion of what is missing begins, and it is counted and logged. -/
def State.deferItem (s : State) (slot : Nat) (it : Item) (missing : List (Nat × Nat)) : State :=
  let cause := match missing with
    | (_, c) :: _ => c
    | [] => 0
  let s := s.each missing fun s m => s.bring it.nearOnly m.1
  let s := s.updRot fun r => { r with tried := slot :: r.tried }
  let s := (s.count R.rotDeferTotal).setItem slot it
  let s := (s.lateLog { LateRec.plain 2 cause with sentence := s.rot.sentence.getD 0, slot }).dropItem slot
  s.endFlight it.ring.toNat it.pos.toNat (Cpl.why St.deferred cause)

/-- The lowest-indexed slot of the selected sentence that is free, untried and fits. -/
def State.findSlot (s : State) (k : RingKind) (cls : Nat) (f : Flight) : Option Slot :=
  match s.rot.sentence with
  | none => none
  | some i => (slotsOf (sentenceBytes s.activeBytes i)).find? fun x =>
      (s.item x.index).isNone && !s.rot.tried.contains x.index && s.slotFits k cls f x

/-- The item a candidate becomes in a slot. -/
def State.newItem (s : State) (r pos : Nat) (k : RingKind) (f : Flight) (x : Slot) : Item :=
  let d := f.desc
  let a := attnQ d
  { ring := BitVec.ofNat 12 r, pos := BitVec.ofNat 32 pos, kind := k, tenant := BitVec.ofNat 4 (dTenant d)
    cls := BitVec.ofNat 4 x.cls, nearOnly := x.nearOnly, cap := x.cap, span := x.maxSpan, runs := 0
    need := ceilDiv (s.unitsOf k f) x.cap, running := false, fault := none, late := none, pins := [], closing := false
    rope := if k = .attn ∧ a.rope then s.sampleRope a.profile else 0
    outLen := if k = .attn then a.outLen (s.session (sidHandle a.sid)) else 0, written := false }

/-- A candidate takes a slot, or is DEFERRED. -/
def State.bindSlot (s : State) (r pos : Nat) (k : RingKind) (f : Flight) (x : Slot) : State :=
  let it := s.newItem r pos k f x
  let locs := s.locations r k f
  let missing := locs.filterMap fun g => (s.absence x.nearOnly g).map fun c => (g, c)
  if missing.isEmpty then
    let s := s.each locs fun s g => s.pin x.nearOnly g
    (s.setItem x.index { it with pins := locs }).setStage r pos .bound
  else s.deferItem x.index it missing

/-- One candidate at the binder: the state, and whether its ring binds no more in this rotation. -/
def State.bindOne (s : State) (r pos : Nat) : State × Bool :=
  match s.flight r pos with
  | none => (s, false)
  | some f =>
    let k := (s.ring r).kind
    if f.stage ≠ .candidate then (s, false)
    else
      match s.bindCheck k f.desc with
      | .ends c => (s.endFlight r pos c, false)
      | .blocked =>
        let c := (BitVec.ofNat 12 r, BitVec.ofNat 32 pos)
        (if k = .embu ∧ (embQ k f.desc).close then
          s.updRot fun x => { x with closes := if x.closes.contains c then x.closes else c :: x.closes } else s, true)
      | .ok =>
        match s.findSlot k (s.ringClass r) f with
        | none => (s, true)
        | some x => (s.bindSlot r pos k f x, false)

/-- BIND_PHASE. No candidate binds in an empty rotation or in job halt (R71, R347). -/
def State.bindPhase (s : State) : State :=
  if s.rot.phase ≠ .snapshot then s
  else
    let s := s.updRot fun r => { r with phase := .bind, closes := [] }
    if s.rot.sentence.isNone ∨ s.ras.haltNow then s
    else
      ((s.bindOrder s.rot.snapshot).foldl (fun (q : State × List RingId) c =>
        if q.2.contains c.1 then q
        else
          let (s, stuck) := q.1.bindOne c.1.toNat c.2.toNat
          (s, if stuck then c.1 :: q.2 else q.2)) (s, [])).1

/-! ## Launch (R77, R181, R182, R338) -/

/-- What a voice had outstanding is another launch's from now on. -/
def Voice.outdated (x : Voice) : Voice :=
  { x with out := x.out.map fun (a : Access) => { a with stale := true }
           streams := (x.streams.filter fun t => t.done.isNone).map fun (t : Strm) => { t with stale := true } }

/-- A clause's voice is set up; its core carries its partition. -/
def State.launchClause (s : State) (i : Nat) (c : Clause) (it : Option Item) : State :=
  let v := c.voice
  let code := codeOf (sentenceBytes s.activeBytes i)
  let tenant : Tenant := match it with
    | some it => it.tenant
    | none => 0
  let runs := match it with
    | some it => it.runs
    | none => 0
  let block := match it with
    | some it => lineBytes (s.itemDesc it)
    | none => List.replicate 64 0
  let s := { s with amms := tput (fun _ => []) s.amms (coreOf v) ((tget (fun _ => []) s.amms (coreOf v)).map fun (q : Amm) =>
    if q.voice.toNat = v then { q with stale := true } else q) }
  let x := (s.voice v).outdated
  let y : Voice := { Voice.off with
    loaded := true, pc := c.code, code, slot := c.slot, sentence := i, tenant, start := c.start, stop := c.stop
    out := x.out, streams := x.streams, nextToken := x.nextToken }
  let y := ((y.setX 1 (BitVec.ofNat 64 runs)).setX 2 (BitVec.ofNat 64 (s.rotNo.toNat % 2 ^ 32))).setX 3 (BitVec.ofNat 64 c.slot)
  let s := (s.setVoice v y).padWrite (coreOf v) (0xBFE00 + 64 * (v % 8)) block
  { s with carries := tput (fun _ => 0) s.carries (coreOf v) (s.carry (coreOf v) ||| (1#16 <<< tenant.toNat)) }

/-- Does an item run in a rotation of a sentence? -/
def State.itemRuns (s : State) (i slot : Nat) (it : Item) : Bool :=
  !s.ras.haltNow && !it.closing && it.fault.isNone && s.defines i slot it

/-- GRADs that run and whose lists had not come add their sums once these have (R171). -/
def State.gradsGo (s : State) : State :=
  s.each (s.rot.items.filter fun e => e.2.running && e.2.fault.isNone && e.2.kind == .embu && (embQ .embu (s.itemDesc e.2)).grad) fun s e =>
    s.gradBegin e.1 e.2

/-- An item runs: its clauses launch, and a GRAD in its first rotation adds its sums (log entry 53). -/
def State.launchItem (s : State) (i slot : Nat) (it : Item) : State :=
  let s := s.updItem slot fun x => { x with running := true }
  let s := if it.runs = 0 ∧ it.kind = .embu ∧ (embQ .embu (s.itemDesc it)).grad then s.gradBegin slot it else s
  s.each ((clausesOf (sentenceBytes s.activeBytes i)).filter fun c => c.slot == slot) fun s c => s.launchClause i c (some it)

/-- LAUNCH_PHASE. A job reset holds every voice halted (R355). -/
def State.launchPhase (s : State) : State :=
  if s.rot.phase ≠ .bind then s
  else
    let s := s.updRot fun r => { r with phase := .launch }
    match s.rot.sentence with
    | none => s
    | some i =>
      if s.ras.resetBusy ∧ !s.ras.resetWaits then s
      else
        let s := s.each s.rot.items fun s e => if s.itemRuns i e.1 e.2 then s.launchItem i e.1 e.2 else s
        (s.each ((clausesOf (sentenceBytes s.activeBytes i)).filter fun c => c.slot == 0xFFFF) fun s c =>
          s.launchClause i c none).runNet.gradsGo

/-! ## Clause windows (R77, R84, R86) -/

/-- The window of a launched clause opens, once, and the voice fetches at its entry point (R181, R185). -/
def State.windowStart (s : State) (v : Nat) : State :=
  let x := s.voice v
  if s.rot.phase = .launch ∧ x.loaded ∧ x.start ≠ 0 then (s.setVoice v { x with running := true, start := 0 }).goto v x.pc else s

/-- The cause of a late clause. -/
def lateCause (overran exceeded : Bool) : Nat := if overran then 2 else if exceeded then 1 else 0

/-- A late clause joins its item's completion: the first one's voice and sentence, the weightiest cause. -/
def State.itemLate (s : State) (slot v sentence cause : Nat) : State :=
  s.updItem slot fun x => match x.late with
    | none => { x with late := some (Cpl.why St.late (cause + v * 4 + sentence * 16384)) }
    | some c => { x with late := some { c with detail := setFld c.detail 0 2 (max cause (fld c.detail 0 2)) } }

/-- At END a clause that has not halted is late: halted, counted and logged. Waiting for a fence is not at rated occupancy (R351), nor
is a walk that an INVAL or SETROOT of the same rotation forced (R250). -/
def State.windowEnd (s : State) (v waited bound : Nat) (exceeded overran : Bool) : State :=
  let x := s.voice v
  if !x.loaded ∨ !x.running then s
  else
    let s := if overran then s.updRot fun r => { r with overran := true } else s
    let cause := lateCause (overran || s.rot.overran || s.voiceFenced v || x.forced) exceeded
    let s := ((s.haltVoice v).count R.rotLateTotal).count32 (R.rotGlate (galleryOf v))
    let s := s.lateLog { event := 1, cls := cause, voice := v, sentence := x.sentence, slot := x.slot, hops := 0
                         measured := waited, bound }
    let s := if cause = 1 then s.selfLateEvent else s
    s.itemLate x.slot v x.sentence cause

/-! ## Close and guard (R64, R82, R88, R92, R199) -/

/-- What becomes of an item at the close of a rotation. -/
def Item.closed (it : Item) : Item :=
  if it.closing then it
  else
    let runs := if it.running ∧ it.fault.isNone ∧ it.late.isNone then it.runs + 1 else it.runs
    { it with running := false, runs
              closing := it.fault.isSome || it.late.isSome || (it.running && decide (it.need ≤ runs)) }

/-- A rotation found off rated occupancy gives its late items CAUSE 0b10 (R86). -/
def Item.unrated (it : Item) : Item :=
  if it.closing then it else { it with late := it.late.map fun c => { c with detail := setFld c.detail 0 2 2 } }

/-- The core cycles and the length of a rotation that ends count in the load, with the near-tier bandwidth used (R48). -/
def State.tally (s : State) (near : BitVec 7) : State :=
  let old := s.use.done.filter fun e => decide (s.time < e.1 + 64000)
  { s with use := { s.use with near, busy := 0, done := (s.time, s.use.busy, s.rotNs) :: old } }

/-- CLOSE_PHASE: every window has ended; atomic buffers are written back, finished items are committed, and occupancy is
tallied. -/
def State.closePhase (s : State) (near : BitVec 7) (overran : Bool) : State :=
  if s.rot.phase ≠ .launch then s
  else
    let s := s.each (s.voices.filter fun e => e.2.running) fun s e => s.windowEnd e.1 0 0 false overran
    let s := s.each (s.voices.filter fun e => e.2.loaded) fun s e => s.updVoice e.1 fun x => { x with loaded := false }
    let s := (s.updRot fun r => { r with phase := .close, overran := r.overran || overran }).tally near
    let s := if s.rot.overran then
        ((s.updRot fun r => { r with items := r.items.map fun e => (e.1, e.2.unrated) }).count R.rotOveroccTotal).lateLog
          { LateRec.plain 4 2 with sentence := s.rot.sentence.getD 0 }
      else s
    let s := (s.each (List.range 32) State.abufFlush).runNet
    (s.updRot fun r => { r with items := r.items.map fun e => (e.1, e.2.closed) }).itemsEnd

/-- GUARD_PHASE: the start of the next rotation moves by at most 10 ns towards the beacon's. -/
def State.guardPhase (s : State) : State :=
  if s.rot.phase ≠ .close then s
  else s.updRot fun r => { r with
    phase := .guard
    slew := if 10 < r.slew then r.slew - 10 else if r.slew < -10 then r.slew + 10 else 0 }

/-! ## The commands -/

def execDescriptorPrecheckComplete (ring : RingId) (pos : Pos) (s : State) : Host.Outcome State Fault Refusal :=
  .next (s.precheck ring.toNat pos.toNat)

def execRotationStart (s : State) : Host.Outcome State Fault Refusal := .next s.rotationStart

def execBindPhase (s : State) : Host.Outcome State Fault Refusal := .next s.bindPhase

def execLaunchPhase (s : State) : Host.Outcome State Fault Refusal := .next s.launchPhase

def execClauseWindowStart (v : VoiceId) (s : State) : Host.Outcome State Fault Refusal := .next (s.windowStart v.toNat)

def execClauseWindowEnd (v : VoiceId) (waited bound : BitVec 32) (exceeded overran : Bool) (s : State) :
    Host.Outcome State Fault Refusal :=
  .next (s.windowEnd v.toNat waited.toNat bound.toNat exceeded overran)

def execClosePhase (near : BitVec 7) (overran : Bool) (s : State) : Host.Outcome State Fault Refusal :=
  .next (s.closePhase near overran)

def execGuardPhase (s : State) : Host.Outcome State Fault Refusal := .next s.guardPhase

/-- An access that completes may be the last its item waited for (R186). -/
def execPoolAccessComplete (v : VoiceId) (slot : BitVec 2) (measured bound : BitVec 32) (s : State) :
    Host.Outcome State Fault Refusal := .next (s.accessComplete v.toNat slot measured.toNat bound.toNat).itemsEnd

/-- A stream that stops may be the last its item waited for (R186). -/
def execStreamTileBegin (v : VoiceId) (token : Word) (s : State) : Host.Outcome State Fault Refusal :=
  .next (s.tileBegin v.toNat token).runNet.itemsEnd

def execStreamComplete (v : VoiceId) (token : Word) (how : AccessEnd) (exceeded : Bool)
    (hops : Byte) (measured bound : BitVec 32) (s : State) : Host.Outcome State Fault Refusal :=
  .next (s.streamEnd v.toNat token how exceeded hops.toNat measured.toNat bound.toNat).runNet.itemsEnd

end Sys2Proof.Machine
end

