-- ==== Sys2Proof/Machine/Fabric.lean ====
section
/-! DEFINITION. Messages of the fabric: what arrives at a port, what goes on to another device, and the timers of requests,
snoops and victims (R279 to R298). -/

namespace Sys2Proof.Machine

/-- ROLE and DIR of a port (R279, R280). -/
def State.isEndpoint (s : State) (p : Nat) : Bool := bit (s.rwkReg (R.smfPortCfg p)) 0
def State.isUp (s : State) (p : Nat) : Bool := !bit (s.rwkReg (R.smfPortCfg p)) 0 && !bit (s.rwkReg (R.smfPortCfg p)) 1

/-- A message that arrived on a port goes on to another device or to an endpoint; one that would go from an UP port to an
UP port is discarded (R279). `send` sends it. -/
def State.onward (s : State) (via dev local_ : Nat) (send : State → State) : State :=
  match s.exitPort dev local_ with
  | some p => if s.isUp via && s.isUp p then s.count R.smfRouteErrTotal else send s
  | none => send s

/-- May an endpoint issue an operation (R280)? -/
def endpointMay (op : HomeOp) : Bool :=
  match op with
  | .rdNc => true
  | .wrC => true
  | .wrCm => true
  | .wrNs => true
  | o => o.atomic

/-- The SRC of a message that arrives on a port: on an endpoint port, the port's own (R280). -/
def State.srcOf (s : State) (via : Nat) (src : Endpoint) : Endpoint :=
  if s.isEndpoint via then BitVec.ofNat 12 (s.devNo * 64 + via + 1) else src

/-- A request arrives (R280, R281): from an endpoint its SRC is the port's, its tenant must be accepted there and its
operation allowed. -/
def State.recvReq (s : State) (via : Nat) (op : HomeOp) (r : Req) : State :=
  let r := { r with src := s.srcOf via r.src }
  let (d, l) := reqDest r
  if s.isEndpoint via && !bit (s.reg (R.smfPortTmask via)) r.tenant.toNat then s.sendRsp Op.cmp (Rsp.plain r St.keyMismatch)
  else if s.isEndpoint via && !endpointMay op then s.sendRsp Op.cmp { Rsp.plain r St.badDescriptor with info := 2 }
  else if s.isOwn d l then
    if r.tgt then s.sendRsp Op.cmp { Rsp.plain r St.badDescriptor with info := 2 } else s.homeRequest op r none
  else s.onward via d l fun s => s.sendReq op r

def State.recvSnp (s : State) (via : Nat) (op : SnoopOp) (r : Snp) : State :=
  let r := { r with requester := s.srcOf via r.requester }
  if r.target.toNat = s.devNo then s.agentSnoop op r
  else s.onward via r.target.toNat 0 fun s => s.sendSnp op r

def State.recvRsp (s : State) (via : Nat) (op : BitVec 5) (r : Rsp) : State :=
  let d := epDev r.dst
  let l := epLocal r.dst
  if s.isOwn d l then s.ownRsp op r else s.onward via d l fun s => s.routeRsp op r

/-- Requests between devices that found theirs unreachable end what waited for them (R296). -/
def State.missesGo (s : State) : State :=
  ({ s with missed := [] } : State).each s.missed fun s o => match o with
    | .ptwrite d _ _ => s.bcastMiss d.toNat
    | .inval d _ _ _ _ _ => s.bcastMiss d.toNat
    | o => s.sessionMiss o

/-- Messages that Fog mode serves: requests, snoops and responses (R354). -/
def Held.inFog : Held → Bool
  | .req _ _ _ => true
  | .snp _ _ _ => true
  | .rsp _ _ _ => true
  | _ => false

/-- A message on a port that is there: it wakes a sleeping device and waits (R370), else it is handled whole. In Fog mode one that
is not served is dropped (R354). -/
def State.message (s : State) (c : Held) (act : State → State) : State :=
  s.whenAwake 5 c fun s => if s.ras.fog && !c.inFog then s else (act s).missesGo.runNet.itemsEnd

/-! ## Timers -/

/-- A request tag's response is 2 ms overdue (R296): the request completes TIMEOUT, and the tag is quarantined. -/
def State.tagTimeout (s : State) (t : Nat) : State :=
  let q := s.tag t
  let quarantine (s : State) : State := (s.setTag t { ReqTag.free with use := .quarantined }).count R.smfTimeoutTotal
  match q.use with
  | .free => s
  | .quarantined => s
  | .access v slot _ _ =>
    let s := quarantine s
    let s := match q.held with
      | some (o, n) => s.agentSnoop o n
      | none => s
    let s := match s.access v.toNat slot with
      | some a => s.endAccess v.toNat a St.timeout
      | none => s
    s.pumpGallery (galleryOf v.toNat)
  | .gone g _ _ _ _ _ =>
    let s := quarantine s
    let s := match q.held with
      | some (o, n) => s.agentSnoop o n
      | none => s
    s.pumpGallery g
  | .evict g line =>
    let s := { quarantine s with victims := ldel s.victims (cacheKey g line) }
    (s.record { ErrRec.plain 4 2 g 5 with status := St.timeout, addr := 64 * line }).pumpGallery g
  | .host p tag => (quarantine s).hostAnswer p.toNat tag 0 true false
  | .engine e => if e.op.writes then (quarantine s).engineWrote e St.timeout 8
    else (quarantine s).engineRead e { Rsp.plain e.req St.timeout with tag := BitVec.ofNat 15 t }
  | .mg o => { quarantine s with missed := s.missed ++ [o] }
  | .other => quarantine s

/-- A victim's CMP is 2 ms overdue (R291). -/
def State.victimTimeout (s : State) (g line : Nat) : State :=
  match s.tags.find? fun e => e.2.use == .evict g line with
  | some e => s.tagTimeout e.1
  | none => s

def State.quarantineEnd (s : State) (t : Nat) : State :=
  if (s.tag t).use = .quarantined then s.setTag t ReqTag.free else s

/-- A management message arrives (R298): NO_SPACE at once when the queue of 256 is full. -/
def State.mgArrive (s : State) (via : Nat) (src : Endpoint) (tag : BitVec 15) (body : MgBody) : State :=
  let src := s.srcOf via src
  if 256 ≤ s.mgQueue.length then s.sendOn via (.mgStatus (BitVec.ofNat 5 via) src tag St.noSpace)
  else { s with mgQueue := s.mgQueue ++ [(src, tag, body)] }

/-! ## The commands -/

def execRdS (via : SPort) (r : Req) (s : State) : Host.Outcome State Fault Refusal :=
  .next (s.message (.req via .rdS r) fun s => s.recvReq via.toNat .rdS r)

def execRdX (via : SPort) (r : Req) (s : State) : Host.Outcome State Fault Refusal :=
  .next (s.message (.req via .rdX r) fun s => s.recvReq via.toNat .rdX r)

def execUpg (via : SPort) (r : Req) (s : State) : Host.Outcome State Fault Refusal :=
  .next (s.message (.req via .upg r) fun s => s.recvReq via.toNat .upg r)

def execRdNc (via : SPort) (r : Req) (s : State) : Host.Outcome State Fault Refusal :=
  .next (s.message (.req via .rdNc r) fun s => s.recvReq via.toNat .rdNc r)

def execWrC (via : SPort) (r : Req) (s : State) : Host.Outcome State Fault Refusal :=
  .next (s.message (.req via .wrC r) fun s => s.recvReq via.toNat .wrC r)

def execWrCm (via : SPort) (r : Req) (s : State) : Host.Outcome State Fault Refusal :=
  .next (s.message (.req via .wrCm r) fun s => s.recvReq via.toNat .wrCm r)

def execWrNs (via : SPort) (r : Req) (s : State) : Host.Outcome State Fault Refusal :=
  .next (s.message (.req via .wrNs r) fun s => s.recvReq via.toNat .wrNs r)

def execAtAdd (via : SPort) (r : Req) (s : State) : Host.Outcome State Fault Refusal :=
  .next (s.message (.req via .atAdd r) fun s => s.recvReq via.toNat .atAdd r)

def execAtSwp (via : SPort) (r : Req) (s : State) : Host.Outcome State Fault Refusal :=
  .next (s.message (.req via .atSwp r) fun s => s.recvReq via.toNat .atSwp r)

def execAtCas (via : SPort) (r : Req) (s : State) : Host.Outcome State Fault Refusal :=
  .next (s.message (.req via .atCas r) fun s => s.recvReq via.toNat .atCas r)

def execAtMin (via : SPort) (r : Req) (s : State) : Host.Outcome State Fault Refusal :=
  .next (s.message (.req via .atMin r) fun s => s.recvReq via.toNat .atMin r)

def execAtMax (via : SPort) (r : Req) (s : State) : Host.Outcome State Fault Refusal :=
  .next (s.message (.req via .atMax r) fun s => s.recvReq via.toNat .atMax r)

def execEvict (via : SPort) (r : Req) (s : State) : Host.Outcome State Fault Refusal :=
  .next (s.message (.req via .evict r) fun s => s.recvReq via.toNat .evict r)

def execSnInv (via : SPort) (r : Snp) (s : State) : Host.Outcome State Fault Refusal :=
  .next (s.message (.snp via .inv r) fun s => s.recvSnp via.toNat .inv r)

def execSnFwdS (via : SPort) (r : Snp) (s : State) : Host.Outcome State Fault Refusal :=
  .next (s.message (.snp via .fwdS r) fun s => s.recvSnp via.toNat .fwdS r)

def execSnFwdX (via : SPort) (r : Snp) (s : State) : Host.Outcome State Fault Refusal :=
  .next (s.message (.snp via .fwdX r) fun s => s.recvSnp via.toNat .fwdX r)

def execSnRecall (via : SPort) (r : Snp) (s : State) : Host.Outcome State Fault Refusal :=
  .next (s.message (.snp via .recalls r) fun s => s.recvSnp via.toNat .recalls r)

def execSnRecallX (via : SPort) (r : Snp) (s : State) : Host.Outcome State Fault Refusal :=
  .next (s.message (.snp via .recallX r) fun s => s.recvSnp via.toNat .recallX r)

def execData (via : SPort) (r : Rsp) (s : State) : Host.Outcome State Fault Refusal :=
  .next (s.message (.rsp via Op.data r) fun s => s.recvRsp via.toNat Op.data r)

def execCmp (via : SPort) (r : Rsp) (s : State) : Host.Outcome State Fault Refusal :=
  .next (s.message (.rsp via Op.cmp r) fun s => s.recvRsp via.toNat Op.cmp r)

def execSnAck (via : SPort) (r : Rsp) (s : State) : Host.Outcome State Fault Refusal :=
  .next (s.message (.rsp via Op.snAck r) fun s => s.recvRsp via.toNat Op.snAck r)

def execSnData (via : SPort) (r : Rsp) (s : State) : Host.Outcome State Fault Refusal :=
  .next (s.message (.rsp via Op.snData r) fun s => s.recvRsp via.toNat Op.snData r)

def execWbPull (via : SPort) (r : Rsp) (s : State) : Host.Outcome State Fault Refusal :=
  .next (s.message (.rsp via Op.wbPull r) fun s => s.recvRsp via.toNat Op.wbPull r)

def execWbData (via : SPort) (r : Rsp) (s : State) : Host.Outcome State Fault Refusal :=
  .next (s.message (.rsp via Op.wbData r) fun s => s.recvRsp via.toNat Op.wbData r)

def execAtData (via : SPort) (r : Rsp) (s : State) : Host.Outcome State Fault Refusal :=
  .next (s.message (.rsp via Op.atData r) fun s => s.recvRsp via.toNat Op.atData r)

def execMg (via : SPort) (src : Endpoint) (tag : BitVec 15) (body : MgBody) (s : State) :
    Host.Outcome State Fault Refusal :=
  .next (s.message (.mg via src tag body) fun s => s.mgArrive via.toNat src tag body)

def execSnoopTimeout (line : BitVec 44) (dev : Dev) (gallery : Gallery) (s : State) : Host.Outcome State Fault Refusal :=
  .next (s.snoopLate line.toNat dev.toNat gallery.toNat).runNet

def execVictimBufferTimeout (gallery : Gallery) (line : BitVec 50) (s : State) : Host.Outcome State Fault Refusal :=
  .next (s.victimTimeout gallery.toNat line.toNat).runNet.itemsEnd

def execRemoteRequestTimeout (tag : BitVec 15) (s : State) : Host.Outcome State Fault Refusal :=
  .next (s.tagTimeout tag.toNat).missesGo.runNet.itemsEnd

def execTagQuarantineExpiry (tag : BitVec 15) (s : State) : Host.Outcome State Fault Refusal :=
  .next (s.quarantineEnd tag.toNat)

end Sys2Proof.Machine
end

