-- ==== Sys2Proof/Machine/Tier.lean ====
section
/-! DEFINITION. The tier unit and the drives: enabling and READY, drive commands and their failures, fills, ages, copies, write-back
and patrol scrub (R204, R208 to R225). -/

namespace Sys2Proof.Machine

/-! ## The tier unit -/

/-- Does the tier unit work: the device ON and not in Fog mode (R353, R368)? -/
def State.tierOn (s : State) : Bool := s.pwr.state == .on && !s.ras.fog

/-- The drives in service, in port order. -/
def State.drivesUp (s : State) : List Nat := (List.range 8).filter fun d => (s.drive d).state == .inService

/-- Write-back staging buffers of a die in use: granules with a Write not answered on the drives it carries (R225). -/
def State.stagingUsed (s : State) (die : Nat) : Nat :=
  (((List.range 8).filter fun d => d / 4 == die).flatMap fun d =>
    (((s.drive d).cmds ++ (s.drive d).queued).filter isWrite).map fun c => (writeOf c).1).eraseDups.length

/-! ## ENABLE and READY (R204, R209, R213, R214, R229) -/

/-- A write of TIER_CTRL with ENABLE 1. -/
def State.tierEnable (s : State) (port : Nat) (promote : Bool) : State :=
  if !s.keeper.sealed then s.setupError port R.tierCtrl 5
  else
    let was := bit (s.reg R.tierCtrl) 0
    let s := s.setReg R.tierCtrl (BitVec.ofNat 64 (1 + 2 * b2n promote))
    if was then s
    else ({ s with preparing := true } : State).each s.drivesUp fun s d => s.issueDrive d deallocCode

/-- READY: the stripe, the mode and the capacity are settled over the drives that remain. -/
def State.tierReady (s : State) : State :=
  if !s.tierOn ∨ !s.preparing ∨ !(s.drivesUp.all fun d => (s.drive d).prepared == 2) then s
  else
    let up := s.drivesUp
    let g := up.foldl (fun a d => min a (s.drive d).granules) (s.drive (up.headD 0)).granules
    let dense := up.length * g * 65536
    let backed := !up.isEmpty
    let capacity := if backed then dense / 2 ^ 30 * 2 ^ 30
      else s.variant.nearBytes + (s.reg R.tierFarBytes).toNat - 32 * 2 ^ 30
    ({ s with stripe := up, backed, preparing := false, ready := true } : State).setReg R.tierDenseBytes
      (BitVec.ofNat 64 dense) |>.setReg R.tierCapacity (BitVec.ofNat 64 capacity)

/-! ## Requests and descriptors that wait for a fill -/

/-- Requests that wait at this home are looked at again. -/
def State.retryAll (s : State) : State := s.each s.homeWaits fun s e => s.post (.retry e.1)

/-- After frames were freed or a copy landed: wakes, waiting fills and promotions, pressure, waiting requests. -/
def State.tierMoved (s : State) : State :=
  ((((s.wakeChecks.fillsGoOn.risesGoOn).pressure .near).pressure .far).retryAll).runNet.itemsEnd

/-! ## A drive fails (R215) -/

/-- What a failed drive leaves of one of its granules: a fill that has not landed ends, an eviction is given up. -/
def Granule.orphaned (x : Granule) (landing : Bool) : Granule :=
  let x := if x.fill.isSome && !landing then { x with fill := .none, waits := false, zeroing := false, frame := 0, fillUser := .none } else x
  match x.move with
  | .some m => if m.dst = .none then { x with move := .none, evict := 0 } else x
  | .none => x

/-- The granules of the populated pool that a drive holds. -/
def State.drivesShare (s : State) (d : Nat) : Nat :=
  match s.stripe.findIdx? (· == d) with
  | some i => (s.capacity / 65536 + s.stripe.length - 1 - i) / s.stripe.length
  | none => 0

/-- A drive is failed, for reason 8 (timeout) or 9 (media error): job-fatal. -/
def State.failDrive (s : State) (d reason : Nat) : State :=
  let x := s.drive d
  if x.state ≠ .inService then s
  else
    let mine := s.granules.filter fun e => s.driveOf e.1 == some d
    let s := s.each mine fun s e => s.updGranule e.1 fun y =>
      y.orphaned (y.zeroing || !(y.waits || x.cmds.contains e.1 || x.queued.contains e.1))
    let inDram := (s.granules.filter fun e => s.driveOf e.1 == some d && !inReserved (65536 * e.1)
      && (e.2.tier != .none || e.2.fill.isSome)).length
    let s := s.updDrive d fun x => { x with state := .failed, reason := BitVec.ofNat 6 reason, cmds := [], queued := [], resetting := false }
    let s := s.count R.tierPoisonTotal (16 * (s.drivesShare d - inDram))
    (s.record (ErrRec.plain 4 5 d 13)).tierMoved

/-! ## Drive commands complete (R214 to R216, R224, R225) -/

/-- The mask of n units from unit u on. -/
def unitRun (u n : Nat) : BitVec 16 := BitVec.ofNat 16 ((2 ^ n - 1) * 2 ^ u)

/-- Bits set in a 4 KiB unit mask. -/
def unitCount (m : BitVec 16) : Nat := ((List.range 16).filter (bit m ·)).length

/-- A Write of a granule completes: the bits of its run clear, but those written to since; after the last one the granule is
DENSE, or another pass follows, at most four (R221, R224). -/
def State.writeDone (s : State) (g u n : Nat) : State :=
  let x := s.granule g
  let run := x.evict &&& unitRun u n
  let marks : BitVec 16 := match x.move with
    | some m => m.marks
    | none => 0
  let left := x.evict &&& ~~~run
  let dirty := x.dirty &&& ~~~(run &&& ~~~marks)
  let s := (s.setGranule g { x with evict := left, dirty }).count R.tierWritebackTotal n
  match x.move with
  | none => s
  | some m =>
    if m.dst ≠ .none ∨ left ≠ 0 ∨ run = 0 then s
    else if x.dramHeld || x.nearHeld then s.updGranule g fun x => { x with move := .none }
    else if dirty = 0 then (s.toDense g).tierMoved
    else if m.passes + 1 = 4 then
      (s.updGranule g fun x => { x with move := .none, due := true }).count R.tierAbandonTotal
    else s.updGranule g fun x => { x with move := some { m with passes := m.passes + 1, todo := 0xFFFF, copied := 0 } }

/-- A granule has been read for the RELIEFs that copy it (R356). -/
def State.directRead (s : State) (g : Nat) : State :=
  let done (r : Relief) : Relief := { r with read := g :: r.read }
  { s with ras := { s.ras with reliefs := mapIf (fun (r : Relief) => r.started && !r.copied) done s.ras.reliefs } }

/-- A drive command completes without an error. -/
def State.driveOk (s : State) (d code : Nat) : State :=
  if code = deallocCode then (s.updDrive d fun x => { x with prepared := 1 }).issueDrive d cacheCode
  else if code = cacheCode then s.updDrive d fun x => { x with prepared := 2 }
  else if isWrite code then
    let (g, u, n) := writeOf code
    s.writeDone g u n
  else if 2 ^ 47 ≤ code then s.directRead (code - 2 ^ 47)
  else s

/-- Poison the 4 KiB units of a granule that a Read could not return. -/
def State.poisonUnits (s : State) (g : Nat) (units : BitVec 16) : State :=
  (s.each ((List.range 16).filter (bit units ·)) fun s u =>
    s.poisonLines ((List.range 64).map (1024 * g + 64 * u + ·))).count R.tierPoisonTotal (unitCount units)

/-- Commands that wait for any drive are sent while they may be; where the device held all its memory transactions, requests that waited
for one go on (R23). -/
def State.drivesGoOn (s was : State) : State :=
  let s := s.each (List.range 8) State.pumpDrive
  if was.memTxns < memTop then s else s.retryAll.runNet

/-- NVME_COMMAND_COMPLETE. A Read that failed in part still lands; the drive is failed. Nothing completes while the controller is being
reset. -/
def State.driveDone (s : State) (d code : Nat) (how : DriveEnd) : State :=
  if !(s.drive d).cmds.contains code ∨ (s.drive d).resetting ∨ s.pwr.state = .off ∨ s.pwr.state = .boot then s
  else
    let was := s
    let s := (s.updDrive d fun x => { x with cmds := x.cmds.erase code }).drivesGoOn was
    match how with
    | .ok => if s.ras.fog then s else s.driveOk d code
    | .mediaError units =>
      let s := match readOf code with
        | some g => if (s.granule g).fill.isSome ∨ 2 ^ 47 ≤ code then s.poisonUnits g units else s
        | none => s
      s.failDrive d 9

/-! ## A drive that does not answer (R215, R400) -/

/-- The oldest command passes TIER_NVME_TIMEOUT: it is aborted and the controller reset; before READY the drive is failed (R214). What the
drive had not answered waits to be sent again (log entry 205). -/
def State.driveTimeout (s : State) (d : Nat) : State :=
  let x := s.drive d
  match x.cmds with
  | [] => s
  | c :: _ =>
    if x.state ≠ .inService then s
    else if s.preparing then s.failDrive d 8
    else
      let (_, block, count) := s.driveOp c
      ((s.driveCmd d 0x108 block count).emit (.driveReset (BitVec.ofNat 3 d))).updDrive d fun x =>
        { x with cmds := [], queued := x.cmds ++ x.queued, resetting := true }

/-- The controller returns to service: what waits for it is sent. -/
def State.driveBack (s : State) (d : Nat) : State :=
  let x := s.drive d
  if x.state ≠ .inService ∨ !x.resetting ∨ x.perst then s
  else (s.updDrive d fun x => { x with resetting := false }).pumpDrive d

/-- It does not return within a further TIER_NVME_TIMEOUT. -/
def State.driveLost (s : State) (d : Nat) : State := if (s.drive d).resetting then s.failDrive d 8 else s

/-- It does not respond to a controller reset within 10 ms: Nn_PERST_N is driven low. -/
def State.perstLow (s : State) (d : Nat) : State :=
  if (s.drive d).resetting then s.updDrive d fun x => { x with perst := true } else s

/-- After 100 ms it is driven high again. -/
def State.perstHigh (s : State) (d : Nat) : State :=
  if (s.drive d).state ≠ .absent then s.updDrive d fun x => { x with perst := false } else s

/-! ## Fills (R216, R217, R226) -/

/-- Has the Read of a fill still to be answered? -/
def State.reading (s : State) (g : Nat) : Bool :=
  match s.driveOf g with
  | some d => (s.drive d).cmds.contains g || (s.drive d).queued.contains g
  | none => false

/-- A fill or placement lands: the granule is dirty only where it was written meanwhile, or zeroed, and what waited for it is served. -/
def State.fillDone (s : State) (g : Nat) : State :=
  let x := s.granule g
  match x.fill with
  | none => s
  | some t =>
    if !s.tierOn then s
    else if x.waits then s.fillsGoOn
    else if s.reading g then s
    else
      let s := s.setGranule g { x with tier := t, fill := .none, zeroing := false, fillUser := .none }
      (if s.backed && !x.zeroing then s.count R.tierFillTotal else s).tierMoved

/-- Refuse a request that waited for an abandoned fill: an access of this device's clauses or descriptors gets NO_SPACE, another's read returns
poison, and a write is dropped with its completion. -/
def State.refuseWait (s : State) (w : HomeWait) : State :=
  let t : Txn := { op := w.op, req := w.req, host := w.host, lines := reqLines w.op w.req, awaiting := [], hosts := []
                   sharer := false, forwarded := false, poison := false, hostWait := false, answered := false }
  let own : Bool := w.host.isNone && w.req.src == s.ownEp && (match (s.tag w.req.tag.toNat).use with
    | .access .. => true
    | .engine q => q.who.user.isSome
    | _ => false)
  if own then s.answer t Op.cmp St.noSpace 0 []
  else if w.op.atomic then s.answer t Op.atData St.poisoned 0 []
  else if w.op.writes || w.op == .evict then s.answer t Op.cmp St.done 0 []
  else s.answer t Op.data St.poisoned 0 []

/-- The descriptor whose access caused a fill completes NO_SPACE. -/
def State.refuseUser (s : State) (ring pos : Nat) : State :=
  match s.flight ring pos with
  | none => s
  | some f =>
    if (s.ring ring).kind = .dma then (if f.stage = .running then s.dmaCut ring f (Cpl.of St.noSpace) else s)
    else if (s.ring ring).kind = .sess then
      s.endSess (BitVec.ofNat 12 ring) (BitVec.ofNat 32 pos) St.noSpace 0 (attnSession f.desc) (some (fld f.desc 192 16))
    else s.finish ring pos (Cpl.of St.noSpace)

/-- FRAME_WAIT_TIMEOUT: no frame has become free; the fill is abandoned, a contained event. -/
def State.frameWait (s : State) (g : Nat) : State :=
  let x := s.granule g
  match x.fill with
  | none => s
  | some t =>
    if !s.tierOn ∨ !x.waits then s
    else if (s.pickFrame t).isSome then s.fillFrame g t
    else
      let s := s.setGranule g { x with fill := .none, waits := false, zeroing := false, fillUser := .none, dirty := 0 }
      let s := s.record { ErrRec.plain 3 8 (s.homeDie g) 5 with status := St.noSpace, addr := s.fpaOf (65536 * g) }
      let s := match x.fillUser with
        | some (r, p) => s.refuseUser r.toNat p.toNat
        | none => s
      let s := s.each (s.homeWaits.filter fun e => e.1 / 256 == g) fun s e =>
        (s.setWaits e.1 []).each e.2 State.refuseWait
      s.runNet.itemsEnd

/-! ## Ages, copies and write-back (R124, R219, R221, R224, R225) -/

/-- The age in ms at which a granule of a tier is demoted: KV frames by SES_IDLE_TIME and SES_DENSE_TIME (R124). -/
def State.ageLimit (s : State) (g : Nat) (t : Tier) : Nat :=
  let kv := (s.frame g).type == .kvFirst || (s.frame g).type == .kvCont
  let near := (s.reg (if kv then R.sesIdleTime else R.tierNearAge)).toNat
  let far := (s.reg (if kv then R.sesDenseTime else R.tierFarAge)).toNat
  if t = .near then near else near + far

/-- Is a granule past its age? -/
def State.aged (s : State) (g : Nat) (x : Granule) : Bool :=
  s.demotable g x
    && decide (s.ageLimit g x.tier * 1000000 ≤ s.granuleAge g)

/-- Fills that wait for a frame of a tier and have no demotion to wait for. -/
def State.waitingFor (s : State) (t : Tier) : Nat :=
  (s.granules.filter fun e => e.2.fill == some t && e.2.waits).length - s.leaving t

/-- AGE_EXAMINATION. -/
def State.ageExamination (s : State) : State :=
  if !s.tierOn then s
  else
    let s := s.each s.granules fun s e => s.updGranule e.1 fun x => { x with due := false }
    let s := s.each s.granules fun s e => if s.aged e.1 (s.granule e.1) then s.demote e.1 else s
    let s := State.demoteOldest .near (s.waitingFor .near) s
    let s := State.demoteOldest .far (s.waitingFor .far) s
    s.tierMoved

/-- COPY_PASS_COMPLETE of a copy between near and far: the switch, another pass, or abandonment. -/
def State.copyPass (s : State) (g : Nat) : State :=
  let x := s.granule g
  match x.move with
  | none => s
  | some m =>
    if !s.tierOn ∨ m.dst = .none then s
    else if x.nearHeld ∧ m.dst ≠ .near then s.setGranule g { x with move := .none }
    else if m.marks = 0 then
      ((s.setGranule g { x with tier := m.dst, frame := m.frame, move := .none }).count
        (if m.dst = .near then R.tierPromoteTotal else R.tierDemoteTotal)).tierMoved
    else if m.passes + 1 = 4 then
      ((s.setGranule g { x with move := .none, due := true }).count R.tierAbandonTotal).tierMoved
    else s.setGranule g { x with move := some { m with marks := 0, passes := m.passes + 1, todo := m.marks, copied := 0 } }

/-- The maximal runs of consecutive units of a mask, as first unit and count. -/
def runsOf (m : BitVec 16) : List (Nat × Nat) :=
  ((List.range 16).filter fun u => bit m u && (u == 0 || !bit m (u - 1))).map fun u =>
    (u, (((List.range 16).drop u).takeWhile (bit m ·)).length)

/-- WRITEBACK_START: a staging buffer is free, and a pass of an eviction's Writes is issued. -/
def State.writebackStart (s : State) (g : Nat) : State :=
  let x := s.granule g
  match x.move, s.driveOf g with
  | some m, some d =>
    let busy : Bool := ((s.drive d).cmds ++ (s.drive d).queued).any fun c => isWrite c && (writeOf c).1 == g
    if !s.tierOn ∨ m.dst ≠ .none ∨ x.evict ≠ 0 ∨ s.fenced 5 d ∨ busy ∨ 64 ≤ s.stagingUsed (d / 4) ∨ (s.drive d).state ≠ .inService then s
    else if x.dramHeld then s.setGranule g { x with move := .none }
    else if x.dirty = 0 then (s.toDense g).tierMoved
    else
      let s := s.setGranule g { x with evict := x.dirty, move := some { m with marks := 0, todo := x.dirty, copied := 0 } }
      s.each (runsOf x.dirty) fun s r => s.issueDrive d (writeCode g r.1 r.2)
  | _, _ => s

/-- PATROL_SCRUB_STEP: a line of the far tier is read; what its ECC finds is recorded against its channel (R208, R342). -/
def State.patrol (s : State) (line : Nat) (corrected uncorrectable : Bool) : State :=
  if !s.tierOn ∨ (s.granule (line / 1024)).tier ≠ .far then s
  else
    let (c, u) := s.storeUnit (64 * line)
    let rec_ (severity code : Nat) : ErrRec := { ErrRec.plain severity c u code with addr := s.fpaOf (64 * line) }
    if uncorrectable then (s.setPoison line true).record (rec_ 3 2)
    else if corrected then s.record (rec_ 2 1)
    else s

/-! ## The commands -/

def execTierEnable (port : Port) (promote : Bool) (s : State) : Host.Outcome State Fault Refusal :=
  .next (s.setupWrite port.toNat R.tierCtrl (some 0) false
    (heldWrite port.toNat R.tierCtrl (BitVec.ofNat 64 (1 + 2 * b2n promote))) fun s => s.tierEnable port.toNat promote)

def execTierReady (s : State) : Host.Outcome State Fault Refusal := .next s.tierReady

def execNvmeCommandComplete (drive : BitVec 3) (granule : BitVec 48) (how : DriveEnd) (s : State) :
    Host.Outcome State Fault Refusal := .next (s.driveDone drive.toNat granule.toNat how)

def execNvmeCommandTimeout (drive : BitVec 3) (s : State) : Host.Outcome State Fault Refusal :=
  .next (s.driveTimeout drive.toNat)

def execDriveResetTimeout (drive : BitVec 3) (s : State) : Host.Outcome State Fault Refusal := .next (s.driveLost drive.toNat)

def execNvmeControllerReady (drive : BitVec 3) (s : State) : Host.Outcome State Fault Refusal := .next (s.driveBack drive.toNat)

def execNvmeControllerResetTimeout (drive : BitVec 3) (s : State) : Host.Outcome State Fault Refusal :=
  .next (s.perstLow drive.toNat)

def execNvmePerstPulseEnd (drive : BitVec 3) (s : State) : Host.Outcome State Fault Refusal := .next (s.perstHigh drive.toNat)

def execFillComplete (granule : BitVec 34) (s : State) : Host.Outcome State Fault Refusal := .next (s.fillDone granule.toNat)

def execFrameWaitTimeout (granule : BitVec 34) (s : State) : Host.Outcome State Fault Refusal :=
  .next (s.frameWait granule.toNat)

def execAgeExamination (s : State) : Host.Outcome State Fault Refusal := .next s.ageExamination

def execCopyPassComplete (granule : BitVec 34) (s : State) : Host.Outcome State Fault Refusal := .next (s.copyPass granule.toNat)

def execWritebackStart (granule : BitVec 34) (s : State) : Host.Outcome State Fault Refusal :=
  .next (s.writebackStart granule.toNat)

def execPatrolScrubStep (line : BitVec 44) (corrected uncorrectable : Bool) (s : State) : Host.Outcome State Fault Refusal :=
  .next (s.patrol line.toNat corrected uncorrectable)

end Sys2Proof.Machine
end

