-- ==== Sys2Proof/Machine/Link.lean ====
section
/-! DEFINITION. Sprinoucel links: states, training, keys, the receiver and its retries, and SMF_PORT_CMD (R269 to R277, R296). -/

namespace Sys2Proof.Machine

/-- Do the links of the device work: ON, or asleep with state kept? -/
def State.linksOn (s : State) : Bool := s.pwr.state != .off && s.pwr.state != .boot

/-! ## Leaving ACTIVE (R276, R296) -/

/-- A message waiting for a link that is not ACTIVE any more: a request is answered as unreachable, any other is discarded (R296). -/
def State.dropTx (s : State) : Out → State
  | .request _ _ r => s.unreachable r
  | .packet _ _ tag _ =>
    match (s.tag tag.toNat).use with
    | .mg o => { (s.setTag tag.toNat ReqTag.free).count R.smfTimeoutTotal with missed := s.missed ++ [o] }
    | _ => s
  | _ => s

/-- A link has left ACTIVE: what waits to be sent is given up. -/
def State.dropQueue (s : State) (p : Nat) : State :=
  let l := (s.link p).txq
  ((s.updLink p fun x => { x with txq := [] }).each l State.dropTx).missesGo.runNet.itemsEnd

/-- A link goes DOWN or FAILED with a reason: its replay buffer and what waits to be sent are given up. -/
def State.linkOut (s : State) (p : Nat) (goes : LinkState) (reason : BitVec 4) : State :=
  (s.updLink p fun x => { x with
    state := goes, reason, retrainKey := false, nakSet := false, sameNak := 0, gotNaks := 0, ackDue := false, nakTimes := [], replay := []
    owed := [], rx := [], rxRot := [] }).dropQueue p

/-- A link enters RETRAIN (R272); the flit it waits for stays expected, and no new message is sent. -/
def State.linkRetrain (s : State) (p : Nat) : State :=
  ((s.updLink p fun x => { x with
    state := .retrain, retrainKey := false, nakSet := false, sameNak := 0, gotNaks := 0, nakTimes := [] }).count R.smfRetrainTotal).dropQueue p

/-! ## Training and keys (R273, R275, R276) -/

/-- The links that may leave DISABLED: there, and the device sealed (R276, R329). -/
def State.linkReady (s : State) (p : Nat) : Bool := s.linksOn && s.keeper.sealed && s.sportThere p

def State.signal (s : State) (p : Nat) : State :=
  if s.linkReady p ∧ (s.link p).state = .down then
    { s.updLink p fun x => { x with state := .train } with pwr := { s.pwr with refFab := true } }
  else s

/-- Training is done: the delay is recorded, LONG above 20 ns. In RETRAIN the keys follow. -/
def State.trained (s : State) (p : Nat) (delay : BitVec 11) : State :=
  let long : Bool := decide (20 < delay.toNat)
  match (s.link p).state with
  | .train => s.updLink p fun x => { x with state := .key, delay, long }
  | .retrain => s.updLink p fun x => { x with retrainKey := true, delay, long }
  | _ => s

def State.trainTimeout (s : State) (p : Nat) : State :=
  if (s.link p).state = .train then s.linkOut p .down 2 else s

/-- 100 ms after a training timeout. -/
def State.trainRetry (s : State) (p : Nat) : State :=
  if s.linkReady p ∧ (s.link p).state = .down ∧ (s.link p).reason = 2 then s.updLink p fun x => { x with state := .train } else s

/-- Transmit again every flit that is not acknowledged, encrypted afresh, with the acknowledgement of now (R269, R271, R273). -/
def State.resend (s : State) (p : Nat) : State :=
  s.each (s.link p).replay fun s f => s.sendFlit p (setFld f 10 10 ((s.link p).expSeq - 1).toNat)

/-- Credits for every chunk of the partner's buffers (R284). -/
def fullCredits : Tbl Nat := [(0, 3584), (1, 1344), (2, 5376), (3, 448)]

/-- Keys are agreed and levels exchanged. `level` is the lower of the two ends' highest. A link that comes up afresh starts its
sequence numbers and credits over; one that retrained resends what was not acknowledged. -/
def State.keyed (s : State) (p : Nat) (level : Byte) : State :=
  let x := s.link p
  let low : Bool := decide (level.toNat < s.rackLevel)
  let up (y : SLink) : SLink := { y with state := .active, level, txCount := 0, rxCount := 0, epoch := y.epoch + 1, retrainKey := false }
  match x.state with
  | .key =>
    if low then s.linkOut p .failed 4
    else s.setLink p { up x with
      expSeq := 0, txSeq := 0, credits := fullCredits, nonRot := [], owed := [], rx := [], rxRot := [], reqSkip := 0, mgtSkip := 0 }
  | .retrain =>
    if !x.retrainKey then s
    else if low then s.linkOut p .failed 4
    else ((s.setLink p (up x)).resend p).pumpPort p
  | _ => s

/-- The key exchange is refused, or 50 ms pass in KEY. In RETRAIN, which 2 ms end, it can only be refused (R276, R324). -/
def State.keyTimeout (s : State) (p : Nat) : State :=
  let x := s.link p
  if x.state = .key ∨ (x.state = .retrain ∧ x.retrainKey) then s.linkOut p .failed 3 else s

/-- RETRAIN's 2 ms pass: the replay buffer is discarded and counted. -/
def State.retrainTimeout (s : State) (p : Nat) : State :=
  if (s.link p).state = .retrain then
    (s.updLink p fun x => { x with discards := x.discards + x.replay.length }).linkOut p .down 5
  else s

def State.signalLost (s : State) (p : Nat) : State := if (s.link p).state = .disabled then s else s.linkOut p .down 1

/-- Codeword alignment is lost (R272). -/
def State.alignmentLost (s : State) (p : Nat) : State :=
  if (s.link p).state = .active then (s.count R.smfCrcErrTotal).linkRetrain p else s

/-! ## The receiver (R269 to R273) -/

/-- Send a NAK for the flit awaited. The fourth for one flit, or the sixteenth within 10 µs, retrains the link (R272). -/
def State.sendNak (s : State) (p : Nat) : State :=
  let times := (s.time :: (s.link p).nakTimes).filter fun t => decide (s.time - t ≤ 10000)
  let n := (s.link p).sameNak + 1
  let s := ((s.updLink p fun x => { x with nakSet := true, sameNak := n, nakTimes := times }).sendIdle p true).count R.smfReplayTotal
  if 4 ≤ n ∨ 16 ≤ times.length then s.linkRetrain p else s

/-- A flit is discarded and the one awaited is asked for, once until the replay timer expires. -/
def State.rejectFlit (s : State) (p : Nat) : State := if (s.link p).nakSet then s else s.sendNak p

/-- The partner has received the flits up to `ack`: they leave the replay buffer. -/
def SLink.acked (x : SLink) (ack : BitVec 10) : SLink :=
  let n := (ack.toNat + 1 + 2048 - (x.txSeq.toNat + 1024 - x.replay.length)) % 1024
  if n ≤ x.replay.length then { x with replay := x.replay.drop n, gotNaks := if n = 0 then x.gotNaks else 0 } else x

/-- Credits come back. -/
def SLink.credited (x : SLink) (vc n : Nat) (free : Bool) : SLink :=
  { x with credits := tput (fun _ => 0) x.credits vc (min (vcChunks vc).1 (x.credit vc + n))
           nonRot := if free then tput (fun _ => 0) x.nonRot vc (x.used vc - n) else x.nonRot }

/-- Is a message whole: a header chunk and its data chunks? -/
def msgWhole (cs : List (BitVec 128)) : Bool :=
  match cs with
  | [] => false
  | h :: d => decide (dataChunks h ≤ d.length)

/-- A chunk arrives. A whole message is consumed and its credits are owed (R270, R284); what it does arrives as its own command. -/
def SLink.chunk (x : SLink) (slot : Nat) (c : BitVec 128) : SLink :=
  let owe (x : SLink) (cs : List (BitVec 128)) : SLink :=
    match cs with
    | [] => x
    | h :: _ => { x with owed := x.owed ++ [(vcOf (fld h 0 5), !bit h 7, cs.length)] }
  if slot = 0 then x
  else if slot = 3 then
    let cs := x.rxRot ++ [c]
    if msgWhole cs then { owe x cs with rxRot := [] } else { x with rxRot := cs }
  else
    let cs := (if slot = 1 then [] else x.rx) ++ [c]
    if msgWhole cs then { owe x cs with rx := [] } else { x with rx := cs }

/-- The link fails on a tag (R273): a security event, of advisory severity (DESIGN CHOICE, log entry 65). -/
def State.tagFailed (s : State) (p : Nat) : State :=
  ((s.count R.smfTagfailTotal).record (ErrRec.plain 1 6 p 9)).linkOut p .failed 6

/-- Take an intact flit in order: chunks, acknowledgement, credits, and the partner's NAK, the fourth of which for one flit retrains the
link (R272). -/
def State.takeFlit (s : State) (p : Nat) (w : BitVec 2048) (payload : BitVec 1792) (idle : Bool) : State :=
  let x := s.link p
  let x := (List.range 14).foldl (fun x k => x.chunk (fld w (34 + 2 * k) 2) (BitVec.ofNat 128 (fld payload (128 * k) 128))) x
  let x := (x.acked (BitVec.ofNat 10 (fld w 10 10))).credited (fld w 21 2) (fld w 23 10) (bit w 33)
  let x := if idle then x else { x with expSeq := x.expSeq + 1, nakSet := false, sameNak := 0, ackDue := true }
  let x := if bit w 20 then { x with gotNaks := x.gotNaks + 1 } else x
  let s := s.setLink p x
  if bit w 20 ∧ 4 ≤ x.gotNaks then s.linkRetrain p else (if bit w 20 then s.resend p else s).pumpPort p

/-- FLIT_RECEIVED. `correctable`: the codewords that carried it were. The CRC and SEQ are checked before decryption; an idle flit
carries the SEQ of the last flit sent. -/
def State.flit (s : State) (p : Nat) (w : BitVec 2048) (correctable : Bool) : State :=
  let x := s.link p
  if !s.linksOn ∨ x.state ≠ .active then s
  else
    let n := x.rxCount
    let s := s.setLink p { x with rxCount := n + 1 }
    if !correctable ∨ fld w 1984 64 ≠ flitCrc w then (s.count R.smfCrcErrTotal).rejectFlit p
    else
      let control := bit w 63
      let idle := fld w 34 28 == 0
      if !control ∧ fld w 0 10 ≠ (if idle then x.expSeq - 1 else x.expSeq).toNat then s.rejectFlit p
      else
        match Config.flitOpen p x.epoch n w with
        | none => s.tagFailed p
        | some payload => if control then s else s.takeFlit p w payload idle

/-- The replay timer expires: the NAK is sent again. -/
def State.replayTimer (s : State) (p : Nat) : State :=
  if (s.link p).state = .active ∧ (s.link p).nakSet then s.sendNak p else s

/-- A port with nothing to send, but an acknowledgement or credits to return, transmits an idle flit (R269; log entry 56). -/
def State.idleFlits (s : State) : State :=
  s.each ((s.links.filter fun e => e.2.state == .active && (e.2.ackDue || !e.2.owed.isEmpty)).map Prod.fst) fun s p =>
    if s.fenced 6 p then s else s.sendIdle p false

/-! ## SMF_PORT_CMD (R276, R299, R373) -/

def State.portReset (s : State) (p : Nat) : State :=
  if (s.link p).state = .failed ∨ (s.link p).state = .down then s.updLink p fun x => { x with state := .down } else s

def State.portRetrain (s : State) (p : Nat) : State := if (s.link p).state = .active then s.linkRetrain p else s

def State.portCmd (s : State) (port value : Nat) (act : State → State) : State :=
  s.setupWrite port R.smfPortCmd (some 0) false (heldWrite port R.smfPortCmd (BitVec.ofNat 64 value)) act

/-! ## The commands -/

def execFlitReceived (p : SPort) (flit : BitVec 2048) (correctable : Bool) (s : State) : Host.Outcome State Fault Refusal :=
  .next (s.flit p.toNat flit correctable)

def execReplayTimerExpiry (p : SPort) (s : State) : Host.Outcome State Fault Refusal := .next (s.replayTimer p.toNat)

def execSignalDetect (p : SPort) (s : State) : Host.Outcome State Fault Refusal := .next (s.signal p.toNat)

def execTrainComplete (p : SPort) (delay : BitVec 11) (s : State) : Host.Outcome State Fault Refusal :=
  .next (s.trained p.toNat delay)

def execTrainTimeout (p : SPort) (s : State) : Host.Outcome State Fault Refusal := .next (s.trainTimeout p.toNat)

def execTrainRetryTimer (p : SPort) (s : State) : Host.Outcome State Fault Refusal := .next (s.trainRetry p.toNat)

def execKeyExchangeComplete (p : SPort) (level : Byte) (s : State) : Host.Outcome State Fault Refusal :=
  .next (s.keyed p.toNat level)

def execKeyExchangeTimeout (p : SPort) (s : State) : Host.Outcome State Fault Refusal := .next (s.keyTimeout p.toNat)

def execRetrainTimeout (p : SPort) (s : State) : Host.Outcome State Fault Refusal := .next (s.retrainTimeout p.toNat)

def execSignalLost (p : SPort) (s : State) : Host.Outcome State Fault Refusal := .next (s.signalLost p.toNat)

def execCodewordAlignmentLost (p : SPort) (s : State) : Host.Outcome State Fault Refusal := .next (s.alignmentLost p.toNat)

def execPortReset (port : Port) (p : SPort) (s : State) : Host.Outcome State Fault Refusal :=
  .next (s.portCmd port.toNat (p.toNat + 1 * 32) fun s => s.portReset p.toNat)

def execPortRetrain (port : Port) (p : SPort) (s : State) : Host.Outcome State Fault Refusal :=
  .next (s.portCmd port.toNat (p.toNat + 2 * 32) fun s => s.portRetrain p.toNat)

/-- A partner brings a message for a link in IDLE: a wake trigger (R370). -/
def execIdleLinkMessage (p : SPort) (s : State) : Host.Outcome State Fault Refusal :=
  .next (if (s.link p.toNat).state = .idle then s.wakeTrigger 5 else s)

end Sys2Proof.Machine
end

