-- ==== Sys2Proof/Machine/PoolShare.lean ====
section
/-! DEFINITION. Sharing the pool: POOL descriptors, drains, CXL.mem accesses with their bandwidth limit, recall mode and
the host's decoders (R233, R302 to R319, R376). -/

namespace Sys2Proof.Machine

/-! ## Fields of a POOL descriptor (R305) -/

def poolExtent (d : Line) : Nat := fld d 64 26
def poolCount (d : Line) : Nat := fld d 96 17
def poolPort (d : Line) : Nat := fld d 128 2
def poolEntry (d : Line) : Nat := fld d 136 16
def poolMarks (d : Line) : Bool := dFlag d 12

/-- The first extent-map entry of a descriptor: decoder × 65,536 + entry (R234). -/
def poolFirst (d : Line) : Nat := fld d 130 4 * 65536 + poolEntry d

/-- Does an opcode carry PORT? -/
def poolByPort (d : Line) : Bool := decide (3 ≤ dOpcode d ∧ dOpcode d ≤ 6)

/-! ## Checks (R306) -/

/-- Step 1: byte offset and reason. -/
def State.poolCheck1 (s : State) (d : Line) : Option (Nat × Nat) :=
  let op := dOpcode d
  let n := poolCount d
  let mapped := op == 3 || op == 4 || op == 5
  if op ≠ 6 ∧ (n = 0 ∨ 65536 < n ∨ (mapped ∧ 65536 < poolEntry d + n)) then some (12, 7)
  else if op = 5 ∧ dNum d 24 8 % 64 ≠ 0 then some (24, 8)
  else if op = 5 ∧ fld d 256 2 = 0 ∧ 2 ^ 57 ≤ dNum d 24 8 then some (24, 1)
  else if poolByPort d && !s.hostThere (poolPort d) then some (16, 5)
  else if op = 5 ∧ fld d 256 2 = 1 ∧ !s.hostThere (fld d 258 2) then some (32, 5)
  else none

/-- Are extents homed on this device? -/
def State.extentsHere (s : State) (first n : Nat) : Bool :=
  decide (first / 2 ^ 20 = s.devNo ∧ (first + n - 1) / 2 ^ 20 = s.devNo)

/-- Do pool offsets [o, o + n) overlap any KV arena? -/
def State.meetsAnyArena (s : State) (o n : Nat) : Bool :=
  (List.range 16).any fun t => overlap o n (s.reg (R.sesArenaBase t)).toNat (s.reg (R.sesArenaSize t)).toNat

/-- Step 4: byte offset and reason. -/
def State.poolCheck4 (s : State) (d : Line) : Option (Nat × Nat) :=
  let op := dOpcode d
  let n := poolCount d
  let o := poolExtent d % 2 ^ 20 * 2 ^ 30
  if (op = 1 ∨ op = 2) ∧ s.capacity < o + n * 2 ^ 30 then some (8, 7)
  else if op = 1 ∧ s.meetsAnyArena o (n * 2 ^ 30) then some (8, 9)
  else if op = 3 ∧ ((List.range n).any fun i => (poolExtent d + i) / 2 ^ 20 == s.devNo
      && s.meetsAnyArena ((poolExtent d + i) % 2 ^ 20 * 2 ^ 30) (2 ^ 30)) then some (8, 9)
  else none

/-- The mark entries or extent-map entries a descriptor names. -/
def poolMarkList (d : Line) : List Nat := (List.range (poolCount d)).map (poolExtent d % 2 ^ 20 + ·)
def poolMapList (d : Line) : List Nat := (List.range (poolCount d)).map (poolFirst d + ·)

/-- Is a port's SETMODE running? -/
def State.modeBusy (s : State) (port : Nat) : Bool := s.modeSwitches.any fun m => m.port.toNat == port

/-- Step 5: the cause of NOT_OWNER (R308, R310, R316). -/
def State.poolCheck5 (s : State) (x : Ring) (d : Line) : Option Nat :=
  let t := x.tenant
  let p := poolPort d
  let marks := (poolMarkList d).map s.mark
  let maps := (poolMapList d).map (s.port p).extent
  match dOpcode d with
  | 1 =>
    if marks.any fun m => m.valid && m.tenant.toNat != t then some 0
    else if marks.any fun m => m.valid && m.drain then some 3
    else none
  | 2 =>
    if marks.any fun m => m.valid && m.tenant.toNat != t then some 0
    else if marks.any fun m => !m.valid || m.drain then some 3
    else if s.modeBusy x.hport then some 3
    else none
  | 3 =>
    if maps.any fun e => e.state != 0 && e.tenant.toNat != t then some 0
    else if maps.any fun e => e.state != 0 then some 3
    else if (s.port p).recalls && !s.extentsHere (poolExtent d) (poolCount d) then some 4
    else none
  | 4 =>
    if maps.any fun e => e.state != 0 && e.tenant.toNat != t then some 0
    else if maps.any fun e => e.state != 1 then some 3
    else if s.modeBusy p then some 3
    else none
  | 6 => if ((s.port p).extents.any fun e => e.2.state == 2) || s.modeBusy p then some 3 else none
  | _ => none

/-- What ends a POOL descriptor before it starts. -/
def State.poolCheck (s : State) (x : Ring) (d : Line) : Option Cpl :=
  let op := dOpcode d
  match s.poolCheck1 d with
  | some (off, why) => some (Cpl.bad off why)
  | none =>
    let byMark := op == 1 || op == 2 || (op == 5 && poolMarks d)
    if byMark && !s.extentsHere (poolExtent d) (poolCount d) then some (Cpl.why St.notOwner 1)
    else if !s.controls (if poolByPort d then poolPort d else x.hport) x.tenant then some (Cpl.why St.notOwner 2)
    else
      match s.poolCheck4 d with
      | some (off, why) => some (Cpl.bad off why)
      | none => (s.poolCheck5 x d).map (Cpl.why St.notOwner)

/-- Start a POOL descriptor: its checks, or what it does to all of its entries. -/
def State.poolOp (s : State) (r pos op : Nat) (act : State → Ring → Line → State) : State :=
  match s.mayStart r pos .pool with
  | none => s
  | some f =>
    if dOpcode f.desc ≠ op then s
    else
      match s.poolCheck (s.ring r) f.desc with
      | some c => s.finish r pos c
      | none => act s (s.ring r) f.desc

/-! ## MARK, GRANT and QUERY (R302, R304, R308) -/

def State.poolMark (s : State) (r pos : Nat) : State :=
  s.poolOp r pos 1 fun s x d =>
    let m : Mark := { key := BitVec.ofNat 24 (fld d 160 24), tenant := BitVec.ofNat 4 x.tenant, valid := true, drain := false }
    (s.each (poolMarkList d) fun s e => s.setMark e m).finish r pos (Cpl.res St.done 0 0)

def State.poolGrant (s : State) (r pos : Nat) : State :=
  s.poolOp r pos 3 fun s x d =>
    let s := s.updPort (poolPort d) fun p =>
      (List.range (poolCount d)).foldl (fun p i =>
        p.setExtent (poolFirst d + i)
          { base := BitVec.ofNat 26 (poolExtent d + i), tenant := BitVec.ofNat 4 x.tenant
            keysel := BitVec.ofNat 4 (fld d 152 4), state := 1, w := bit d 156 }) p
    s.finish r pos (Cpl.res St.done 0 0)

/-- An extent-map entry as its 8 bytes (R234). -/
def extentNat (e : Extent) : Nat :=
  e.base.toNat + e.tenant.toNat * 2 ^ 26 + e.keysel.toNat * 2 ^ 30 + e.state.toNat * 2 ^ 34 + b2n e.w * 2 ^ 36

/-- What a QUERY may show of its ring's partition: entries that are another's are not read (R300), and what stands in their place is free
(log entry 104). -/
def State.queryBytes (s : State) (x : Ring) (d : Line) : List Byte × State :=
  let entries : List (Option (List Byte)) :=
    if poolMarks d then (poolMarkList d).map fun e =>
      let m := s.mark e
      if m.valid && m.tenant.toNat != x.tenant then none else some (leBytes 4 (markNat m))
    else (poolMapList d).map fun e =>
      let m := (s.port (poolPort d)).extent e
      if m.state != 0 && m.tenant.toNat != x.tenant then none else some (leBytes 8 (extentNat m))
  let n := if poolMarks d then 4 else 8
  let (free, s) := if entries.contains none then s.drawBytes (n * entries.length) else ([], s)
  ((entries.zipIdx.map fun (e, i) => e.getD (slice free (n * i) n)).flatten, s)

/-- QUERY: the entries as they stand, a mark's KEY read as 0 (R304), to a DVA or a host. -/
def State.poolQuery (s : State) (r pos : Nat) : State :=
  s.poolOp r pos 5 fun s x d =>
    let (bs, s) := s.queryBytes x d
    let out : List PByte := bs.map (·, false)
    let dst := dNum d 24 8
    if fld d 256 2 = 1 then
      (s.hostWriteP (fld d 258 2) dst out).finish r pos (Cpl.res St.done (poolCount d) 0)
    else
      let e : Eng := Eng.func (s.frontCache r) x.tenant (.flight (BitVec.ofNat 12 r) (BitVec.ofNat 32 pos) 24)
      match State.scatter e (pieces out.length) s dst out with
      | (s, _, none) => s.finish r pos (Cpl.res St.done (poolCount d) 0)
      | (s, _, some (a, e)) => (s.noteRefusal x.tenant true 0x3FF a e).finish r pos (e.cpl 24)

/-! ## Drains (R309) -/

def State.beginDrain (s : State) (r pos : Nat) (revoke : Bool) (port first count : Nat) : State :=
  let d : Drain :=
    { ring := BitVec.ofNat 12 r, pos := BitVec.ofNat 32 pos, quiet := false, revoke, port := BitVec.ofNat 2 port, first, count, normal := 0
      poisoned := 0, sweeping := false }
  let s := s.setStage r pos .running
  { s with drains := s.drains ++ [d] }

/-- REVOKE: the entries become DRAINING; with nothing in flight the drain ends at once. -/
def State.poolRevoke (s : State) (r pos : Nat) : State :=
  s.poolOp r pos 4 fun s _ d =>
    let s := s.updPort (poolPort d) fun p =>
      (poolMapList d).foldl (fun p e => p.setExtent e { p.extent e with state := 2 }) p
    (s.beginDrain r pos true (poolPort d) (poolFirst d) (poolCount d)).revokesEnd

/-- UNMARK: DRAIN is set; with nothing in flight the sweep begins at once. -/
def State.poolUnmark (s : State) (r pos : Nat) : State :=
  s.poolOp r pos 2 fun s _ d =>
    let s := s.each (poolMarkList d) fun s e => s.setMark e { s.mark e with drain := true }
    ((s.beginDrain r pos false 0 (poolExtent d % 2 ^ 20) (poolCount d)).sweepStart).runNet

/-- Drop a request that waits at the home. -/
def State.dropWait (s : State) (w : HomeWait) : State :=
  let b := reqLine w.req / 4
  s.setWaits b ((s.waitsOf b).filter (· != w))

/-- Poison one host request in flight at its home, this device: its late answer is discarded, and a write leaves its line poisoned. It ends
for a drain of its extent's mark too. -/
def State.poisonLocal (s : State) (port : Nat) (q : HostReq) : State :=
  let line := q.fpa.toNat % 2 ^ 50 / 64
  let h := (BitVec.ofNat 2 port, q.slot)
  match s.txns.find? fun t => t.2.host == some h with
  | some (k, _) => (s.updTxn k fun t => { t with answered := true }).drainCount false 0 (extentOf k) false
  | none =>
    match (s.waitsOf (line / 4)).find? fun w => w.host == some h with
    | some w =>
      let s := (s.dropWait w).drainCount false 0 (extentOf line) false
      if q.write then s.poisonLines [line] else s
    | none => s

/-- Poison one host request in flight at another home: a late response meets a reserved tag, and a write is followed, on the same route,
by one that leaves its line poisoned. -/
def State.poisonRemote (s : State) (port : Nat) (q : HostReq) : State :=
  let e := (s.port port).extent q.entry
  let s := match s.tags.find? fun t => t.2.use == .host (BitVec.ofNat 2 port) q.slot with
    | some (t, _) => s.setTag t { ReqTag.free with use := .quarantined }
    | none => s
  if q.write then
    let eng : Eng := { cache := 0, tenant := e.tenant.toNat, checked := true, coherent := false, rot := false, who := .nobody }
    s.sendBlock eng false (BitVec.ofNat 24 (s.reg (R.xltKey (16 * e.tenant.toNat + e.keysel.toNat))).toNat) q.fpa.toNat 0
      ((lineBytes q.data).map (·, true))
  else s

/-- Poison one host request in flight: it completes for the host. -/
def State.poisonHost (s : State) (port : Nat) (q : HostReq) : State :=
  (if q.fpa.toNat / 2 ^ 50 = s.devNo then s.poisonLocal port q else s.poisonRemote port q).hostAnswer port q.slot 0 true false false

/-- Poison one request of a drained mark at its home. -/
def State.poisonTxn (s : State) (k : Nat) : State :=
  match lget s.txns k with
  | none => s
  | some t =>
    let op := if t.op.atomic then Op.atData else if t.op.writes then Op.cmp else Op.data
    (s.answer { t with poison := true } op St.poisoned 0 []).updTxn k fun t => { t with answered := true }

/-- Poison one request that waits at its home. -/
def State.poisonWait (s : State) (w : HomeWait) : State :=
  let s := (s.dropWait w).drainCount false 0 (extentOf (reqLine w.req)) false
  let s := if w.op.writes then s.poisonLines (reqLines w.op w.req) else s
  match w.host with
  | some (p, slot) => s.hostAnswer p.toNat slot 0 true false false
  | none =>
    s.sendRsp (if w.op.atomic then Op.atData else if w.op.writes then Op.cmp else Op.data) (Rsp.plain w.req St.poisoned)

/-- POOL_REVOKE_TIME after a drain began: what is still in flight is poisoned. -/
def State.revokeExpired (s : State) (r pos : Nat) : State :=
  match s.drains.find? fun d => d.ring.toNat == r && d.pos.toNat == pos with
  | none => s
  | some d =>
    if d.revoke then
      let l := (s.port d.port.toNat).inflight.filter fun q => !q.dead && d.covers true d.port.toNat q.entry
      ((s.each l fun s q => s.poisonHost d.port.toNat q).revokesEnd).runNet
    else
      let ks := (s.txns.filter fun e => reqChecked e.2.req && !e.2.answered && d.covers false 0 (extentOf e.1)).map Prod.fst
      let ws := (s.homeWaits.map Prod.snd).flatten.filter fun w => reqChecked w.req && d.covers false 0 (extentOf (reqLine w.req))
      let s := s.each ks State.poisonTxn
      let s := s.each ws State.poisonWait
      s.sweepStart.runNet

/-- The sweep of an UNMARK finishes: once no line of its extents is held and no transaction on one is open, the drain
ends; a line entered since is recalled first. -/
def State.sweepDone (s : State) (r pos : Nat) : State :=
  let s := (s.sweepStart).runNet
  match s.drains.find? fun d => d.ring.toNat == r && d.pos.toNat == pos with
  | none => s
  | some d =>
    if d.revoke ∨ !d.sweeping then s
    else
      let held := s.dir.filter fun e => d.covers false 0 (extentOf e.1)
      let s := (s.each held fun s e => s.recallLine e.1).runNet
      if (s.dir.any fun e => d.covers false 0 (extentOf e.1)) ∨ (s.txns.any fun e => d.covers false 0 (extentOf e.1)) then s
      else (s.endDrain d).runNet

/-! ## CXL.mem (R233, R303, R312 to R314) -/

/-- The committed decoder of a port that an address lies in. -/
def HostPort.decoderOf (p : HostPort) (hpa : Nat) : Option Nat :=
  (List.range 16).find? fun d =>
    let x := p.decoder d
    x.committed && decide (x.base.toNat ≤ hpa ∧ hpa < x.base.toNat + x.size.toNat)

/-- A host access refused before it reaches a home: poison on a read, a dropped write completed. -/
def State.cxlRefuse (s : State) (port : Nat) (w : HostWait) : State :=
  let p := BitVec.ofNat 2 port
  (s.count (R.poolRefusedTotal port)).emit (if w.write then .cxlDone p w.tag else .cxlData p w.tag 0 true)

/-- Where a host access goes: its extent-map entry and FPA, none where it is refused (R303). -/
def State.cxlRoute (s : State) (port : Nat) (w : HostWait) : Option (Nat × Nat) :=
  let p := s.port port
  match p.decoderOf w.hpa.toNat with
  | none => none
  | some d =>
    let off := w.hpa.toNat - (p.decoder d).base.toNat
    let k := d * 65536 + off / 2 ^ 30
    let e := p.extent k
    if e.state ≠ 1 ∨ (w.write ∧ !e.w) then none else some (k, (e.base.toNat * 2 ^ 30 + off % 2 ^ 30) / 64 * 64)

/-- An admitted host access goes on to its home. `dead`: its host gets no answer. -/
def State.cxlGo (s : State) (port : Nat) (w : HostWait) (dead : Bool := false) : State :=
  match s.cxlRoute port w with
  | none => if dead then s.count (R.poolRefusedTotal port) else s.cxlRefuse port w
  | some (k, fpa) =>
    let p := s.port port
    let e := p.extent k
    let slot := BitVec.ofNat 16 ((least (fun i => p.inflight.all fun q => q.slot.toNat != i) (p.inflight.length + 1)).getD 0)
    let q : HostReq :=
      { slot, tag := w.tag, entry := k, fpa := BitVec.ofNat 56 fpa, write := w.write, copy := w.copy, data := w.data, dead }
    let s := s.updPort port fun p => { p with inflight := p.inflight ++ [q] }
    let op : HomeOp := if w.write then (if p.recalls then .wrC else .wrNs) else .rdNc
    let r : Req :=
      { nl := 0, rot := false, src := s.ownEp, agent := 0, tenant := e.tenant, tag := 0, tgt := false
        key := BitVec.ofNat 24 (s.reg (R.xltKey (16 * e.tenant.toNat + e.keysel.toNat))).toNat
        addr := BitVec.ofNat 64 fpa, data := if w.write then [w.data] else [], mask := 0, operand := 0, comparand := 0, poison := false }
    if fpa / 2 ^ 50 = s.devNo then s.homeRequest op r (some (BitVec.ofNat 2 port, slot))
    else
      match s.freeTag with
      | none => s
      | some t => (s.takeTag t (.host (BitVec.ofNat 2 port) slot)).sendReq op { r with tag := BitVec.ofNat 15 t }

/-- Does a port limit its bandwidth? -/
def State.limited (s : State) (port : Nat) : Bool := (s.reg (R.poolRate port)).toNat % 512 != 0

/-- May a port admitReq a request now: its mode is not switching, it is not fenced, its bucket holds 64 bytes, a tag is free? -/
def State.canAdmit (s : State) (port : Nat) : Bool :=
  !(s.port port).switching && !s.fenced 7 port && (!s.limited port || decide (64 ≤ (s.port port).tokens)) && s.freeTag.isSome

/-- Admit one request: its tokens go, and the host gets the credit it used back (R312; log entry 202). -/
def State.admitReq (s : State) (port : Nat) (w : HostWait) : State :=
  let s := s.emit (.cxlCredit (BitVec.ofNat 2 port))
  let s := if s.limited port then s.updPort port fun p => { p with tokens := p.tokens - 64 } else s
  s.cxlGo port w

/-- Requests wait for tokens: the port is throttled, and each is counted once (R313). -/
def State.tokenWait (s : State) (port : Nat) : State :=
  let p := s.port port
  if p.waiting.isEmpty || p.switching || s.fenced 7 port || !s.limited port || decide (64 ≤ p.tokens) then s
  else (s.updPort port fun p => { p with throttled := true, counted := p.waiting.length }).count (R.poolThrottleTotal port)
    (p.waiting.length - p.counted)

/-- A request arrives: admitted, or put behind those that wait. -/
def State.cxlArrive (s : State) (port : Nat) (w : HostWait) : State :=
  let p := s.port port
  if !s.hostThere port || p.link != .up then s
  else if p.waiting.isEmpty && s.canAdmit port then (s.admitReq port w).runNet
  else
    (s.updPort port fun p => { p with waiting := p.waiting ++ [w] }).tokenWait port

/-- The oldest waiting request is admitted, if it may be. -/
def State.admitNext (s : State) (port : Nat) : State :=
  match (s.port port).waiting with
  | [] => s
  | w :: rest =>
    (if s.canAdmit port then
      ((s.updPort port fun p => { p with waiting := rest, counted := p.counted - 1 }).admitReq port w).runNet
    else s).tokenWait port

/-- Admission resumes: waiting requests go while they may. -/
def State.resume (s : State) (port : Nat) : State :=
  s.each (s.port port).waiting fun s _ => s.admitNext port

/-- 64 µs after the last wait for tokens. -/
def State.throttleOver (s : State) (port : Nat) : State :=
  if (s.port port).counted ≠ 0 ∧ s.limited port then s
  else s.updPort port fun p => { p with throttled := false }

/-! ## Switching modes (R318) -/

/-- SETMODE; a port already in the mode completes at once. -/
def State.poolSetmode (s : State) (r pos : Nat) : State :=
  s.poolOp r pos 6 fun s _ d =>
    let p := poolPort d
    let want := bit d 157
    if (s.port p).recalls = want then s.finish r pos (Cpl.res St.done 0 0)
    else
      let m : ModeSwitch :=
        { ring := BitVec.ofNat 12 r, pos := BitVec.ofNat 32 pos, quiet := false, port := BitVec.ofNat 2 p, recalls := want, drained := false
          lines := 0, poisoned := 0 }
      let s := (s.setStage r pos .running).updPort p fun p => { p with switching := true }
      { s with modeSwitches := s.modeSwitches ++ [m] }

/-- Change the switch of a port. -/
def State.updMode (s : State) (port : Nat) (f : ModeSwitch → ModeSwitch) : State :=
  { s with modeSwitches := mapIf (fun (m : ModeSwitch) => m.port.toNat == port) f s.modeSwitches }

/-- The switch of a port ends: admission resumes and the descriptor completes. -/
def State.modeEnd (s : State) (m : ModeSwitch) (recalls : Bool) (c : Cpl) : State :=
  let p := m.port.toNat
  let s := { s with modeSwitches := dropIf (fun n => n.port == m.port) s.modeSwitches }
  let s := s.updPort p fun p => { p with recalls, switching := false, hdir := if recalls then p.hdir else [] }
  if m.quiet then s.resume p else (s.resume p).finish m.ring.toNat m.pos.toNat c

/-- A switch to flush mode ends once no line is recorded and no Back-Invalidate is unanswered. -/
def State.modeCheck (s : State) (port : Nat) : State :=
  match s.modeSwitches.find? fun m => m.port.toNat == port with
  | none => s
  | some m =>
    let p := s.port port
    if m.recalls ∨ !m.drained ∨ !p.hdir.isEmpty ∨ !p.bis.isEmpty then s
    else s.modeEnd m false (Cpl.res (if m.poisoned = 0 then St.done else St.poisoned) m.lines m.poisoned)

/-- May a port enter recall mode (R316)? -/
def State.recallOk (s : State) (port : Nat) : Bool :=
  let p := s.port port
  (p.extents.all fun e => e.2.state != 1 || e.2.base.toNat / 2 ^ 20 == s.devNo)
  && (p.decoders.all fun e => !e.2.committed || e.2.bi)

/-- The requests in flight at a switching port have completed. -/
def State.modeDrained (s : State) (port : Nat) : State :=
  match s.modeSwitches.find? fun m => m.port.toNat == port with
  | none => s
  | some m =>
    let p := s.port port
    if m.drained ∨ !p.inflight.all HostReq.dead then s
    else if m.recalls then
      if s.recallOk port then
        (s.updPort port fun p => { p with hdir := [], hdirSeq := 0 }).modeEnd m true (Cpl.res St.done 0 0)
      else s.modeEnd m false (Cpl.why St.notOwner 4)
    else
      let s := s.updMode port fun n => { n with drained := true, lines := p.hdir.length }
      (s.each p.hdir fun s e => s.sendBi port e.1 false).modeCheck port

/-! ## Back-Invalidates (R316, R317) -/

/-- A Back-Invalidate is over: the host's record changes, and what waited for it goes on. A record that stays is invalidated in turn
when the port is switching to flush mode (R318). -/
def State.biOver (s : State) (port : Nat) (b : BackInv) (keep : Bool) : State :=
  let s := s.updPort port fun p =>
    let hdir := match keep, p.hline b.line with
      | true, some h => lput p.hdir b.line { h with exclusive := false }
      | _, _ => ldel p.hdir b.line
    { p with bis := dropIf (fun c => c.line == b.line) p.bis, hdir }
  let s := if s.modeSwitches.any fun m => m.port.toNat == port && m.drained then s.sendBi port b.line false else s
  let ks := (s.txns.filter fun e => e.2.hosts.contains (port, b.line)).map Prod.fst
  let s := s.each ks fun s k =>
    (s.updTxn k fun t => { t with hosts := t.hosts.filter (· != (port, b.line)) }).closeTxn k
  (s.runNet.modeCheck port).runNet

/-- The host answers: data it returns is written first, and where no transaction stands on the line the copies of galleries go. -/
def State.biAnswer (s : State) (port line : Nat) (dirty : Bool) (data : Line) : State :=
  match (s.port port).bis.find? fun b => b.line == line with
  | none => s
  | some b =>
    let s := if dirty then
        let s := if s.meetsRegion (64 * line) 64 then s else s.poolWrite (64 * line) (lineBytes data)
        if (s.txnOn line).isSome then s else s.recallLine line
      else s
    s.biOver port b b.keep

/-- No answer for 2 ms: a line the host held exclusive is poisoned, any is dropped from its directory; job-fatal. -/
def State.biLate (s : State) (port line : Nat) : State :=
  match (s.port port).bis.find? fun b => b.line == line with
  | none => s
  | some b =>
    let s := (s.count R.poolBiTimeoutTotal).record { ErrRec.plain 4 7 port 5 with
      status := St.timeout, addr := s.fpaOf (64 * line) }
    let s := if b.exclusive then
        (s.setPoison line true).updMode port fun m => if m.drained then { m with poisoned := m.poisoned + 1 } else m
      else s
    s.biOver port b false

/-! ## Decoders and configuration (R27, R233, R376) -/

/-- Commit or uncommit a decoder: settings that are not supported leave it uncommitted with Error Not Committed. -/
def State.decoderCommit (s : State) (port d : Nat) (base size : Word) (ways : Nat) (bi commit : Bool) : State :=
  if !s.hostThere port || (s.port port).link != .up then s
  else
    let ok := ways == 1 && base.toNat % 2 ^ 30 == 0 && size.toNat % 2 ^ 30 == 0 && decide (size.toNat ≤ 2 ^ 46)
    let x : Decoder := { base, size, committed := commit && ok, error := commit && !ok, bi }
    s.updPort port fun p => { p with decoders := tput (fun _ => Decoder.off) p.decoders d x }

/-- What R27 fixes of a configuration read, in PCIe's encodings (log entry 203): 512 and 4,096 bytes, range A, no disabling, BAR0 of 64 MiB
and BAR2 of 128 KiB, both 64 bits wide and not prefetchable, and 0 for what is not supported. -/
def configFixed : CfgItem → Option (BitVec 32)
  | .maxPayload => some 2
  | .maxReadRequest => some 5
  | .timeoutRanges => some 1
  | .timeoutDisable => some 0
  | .barSize n => some (match n.toNat with
    | 0 => 0xFC000004
    | 1 => 0xFFFFFFFF
    | 2 => 0xFFFE0004
    | 3 => 0xFFFFFFFF
    | _ => 0)
  | .unsupported => some 0
  | .reg _ => none

/-- A configuration request: Request Retry Status before step 6 of bring-up, else its completion. What another register reads no rule
states. -/
def State.configRequest (s : State) (port : Nat) (c : CfgReq) : State :=
  let p := BitVec.ofNat 2 port
  if !s.hostThere port || (s.port port).link != .up then s
  else if !s.idValid then s.emit (.cfgRetry p)
  else
    match c with
    | .read item =>
      match configFixed item with
      | some v => s.emit (.cfgDone p v)
      | none =>
        let (k, s) := s.draw
        s.emit (.cfgDone p ((Config.freeWord k).setWidth 32))
    | .busMaster on => (s.updPort port fun p => { p with busMaster := on }).emit (.cfgDone p 0)

/-! ## The commands -/

def execMark (ring : RingId) (pos : Pos) (s : State) : Host.Outcome State Fault Refusal :=
  .next (s.poolMark ring.toNat pos.toNat)

def execUnmark (ring : RingId) (pos : Pos) (s : State) : Host.Outcome State Fault Refusal :=
  .next (s.poolUnmark ring.toNat pos.toNat)

def execGrant (ring : RingId) (pos : Pos) (s : State) : Host.Outcome State Fault Refusal :=
  .next (s.poolGrant ring.toNat pos.toNat)

def execRevoke (ring : RingId) (pos : Pos) (s : State) : Host.Outcome State Fault Refusal :=
  .next (s.poolRevoke ring.toNat pos.toNat)

def execPoolQuery (ring : RingId) (pos : Pos) (s : State) : Host.Outcome State Fault Refusal :=
  .next (s.poolQuery ring.toNat pos.toNat)

def execSetmode (ring : RingId) (pos : Pos) (s : State) : Host.Outcome State Fault Refusal :=
  .next (s.poolSetmode ring.toNat pos.toNat)

def execSetmodeDrained (port : Port) (s : State) : Host.Outcome State Fault Refusal := .next (s.modeDrained port.toNat)

def execRevokeTimerExpiry (ring : RingId) (pos : Pos) (s : State) : Host.Outcome State Fault Refusal :=
  .next (s.revokeExpired ring.toNat pos.toNat)

def execDirectorySweepComplete (ring : RingId) (pos : Pos) (s : State) : Host.Outcome State Fault Refusal :=
  .next (s.sweepDone ring.toNat pos.toNat)

def execCxlMemRead (port : Port) (hpa : Word) (copy : BitVec 2) (tag : BitVec 16) (s : State) :
    Host.Outcome State Fault Refusal :=
  .next (s.whenAwake 3 (.cxl port { hpa, write := false, copy, data := 0, tag }) fun s =>
    s.cxlArrive port.toNat { hpa, write := false, copy, data := 0, tag })

def execCxlMemWrite (port : Port) (hpa : Word) (data : Line) (tag : BitVec 16) (s : State) :
    Host.Outcome State Fault Refusal :=
  .next (s.whenAwake 3 (.cxl port { hpa, write := true, copy := 0, data, tag }) fun s =>
    s.cxlArrive port.toNat { hpa, write := true, copy := 0, data, tag })

def execTokenAdmit (port : Port) (s : State) : Host.Outcome State Fault Refusal := .next (s.admitNext port.toNat)

def execThrottleHoldExpiry (port : Port) (s : State) : Host.Outcome State Fault Refusal :=
  .next (s.throttleOver port.toNat)

def execBirsp (port : Port) (line : BitVec 44) (dirty : Bool) (data : Line) (s : State) :
    Host.Outcome State Fault Refusal := .next (s.biAnswer port.toNat line.toNat dirty data)

def execBackInvalidateTimeout (port : Port) (line : BitVec 44) (s : State) : Host.Outcome State Fault Refusal :=
  .next (s.biLate port.toNat line.toNat)

def execHdmDecoderCommit (port : Port) (decoder : BitVec 4) (base size : Word) (ways : BitVec 4) (bi commit : Bool)
    (s : State) : Host.Outcome State Fault Refusal :=
  .next (s.decoderCommit port.toNat decoder.toNat base size ways.toNat bi commit)

def execHostConfigRequest (port : Port) (req : CfgReq) (s : State) : Host.Outcome State Fault Refusal :=
  .next (s.whenAwake 4 (.config port req) fun s => s.configRequest port.toNat req)

end Sys2Proof.Machine
end

