-- ==== Sys2Proof/Machine/Boot.lean ====
section
/-! DEFINITION. Cold reset, boot and bring-up, and host-port resets (R209, R212, R319, R322, R323, R366, R373 to R376, R400,
R401). -/

namespace Sys2Proof.Machine

/-! ## Cold reset (R375) -/

/-- A cold reset: everything but the fuses, the flash and what the pins are driven to is lost. -/
def State.coldKeep (s : State) (st : Power) : State :=
  let c := State.cold s.variant s.nvm
  let ports : Tbl HostPort := (List.range 4).foldl (fun t p =>
    tput (fun _ => HostPort.off) t p { HostPort.off with perst := (s.port p).perst }) []
  { c with
    pending := s.pending, out := s.out, free := s.free, ports
    pwr := { c.pwr with state := st, resetN := s.pwr.resetN, refSys := s.pwr.refSys, flashExtN := s.pwr.flashExtN } }

/-- Does the device wait to boot: unpowered, or in BOOT with the Keeper still in reset? -/
def State.awaitsBoot (s : State) : Bool :=
  (s.pwr.state == .off || s.pwr.state == .boot) && !s.keeper.booted && !s.keeper.bootFail

/-! ## Boot (R322, R323) -/

/-- The header of an image (R322): MAGIC, security version, bytes of body, and the bytes of the whole, signature included. -/
def magicOf (bs : List Byte) : Nat := numAt bs 0 4
def svnOf (bs : List Byte) : Byte := BitVec.ofNat 8 (numAt bs 4 1)
def bodyLen (bs : List Byte) : Nat := numAt bs 8 4
def imageLen (bs : List Byte) : Nat := 112 + bodyLen bs + 96

/-- "ZKF1" of a Keeper image, "ZCF1" of core firmware. -/
def imageMagic (core : Bool) : Nat := if core then 0x3146435A else 0x31464B5A

/-- Is an image accepted as a Keeper or core image under a count of blown fuses (R322)? -/
def imageOk (core : Bool) (x : Image) (fuses : Byte) : Bool :=
  x.genuine && magicOf x.bytes == imageMagic core && bodyLen x.bytes % 64 == 0 && x.bytes.length == imageLen x.bytes
    && decide (fuses.toNat ≤ (svnOf x.bytes).toNat ∧ (svnOf x.bytes).toNat ≤ 64)

/-- The Keeper image and the core image of a pair laid one after the other (log entry 7). -/
def pairOf (bs : List Byte) : List Byte × List Byte :=
  let rest := bs.drop (imageLen bs)
  (bs.take (imageLen bs), rest.take (imageLen rest))

/-- The flash as boot finds it: what the device last knew of it, where it knows anything and no other device has held it since. -/
def Nvm.found (n : Nvm) (b : BringUp) (rewritten : Bool) : Nvm :=
  if rewritten ∨ (n.keeperA = Image.none ∧ n.keeperB = Image.none ∧ n.coreA = Image.none ∧ n.coreB = Image.none) then
    { n with keeperA := b.keeperA, coreA := b.coreA, keeperB := b.keeperB, coreB := b.coreB, chain := b.chain }
  else n

/-- The bytes of an image that are measured, header to signature. -/
def imageMeasure (x : Image) : BitVec 384 := Config.sha384 x.bytes

/-- Boot steps 1 to 5: copy A, else copy B, and the core image of the same copy. -/
def State.bootKeeper (s : State) : State :=
  let n := s.nvm
  let a := imageOk false n.keeperA n.fuseSvn
  let keeper := if a then n.keeperA else n.keeperB
  let core := if a then n.coreA else n.coreB
  let started := a || imageOk false n.keeperB n.fuseSvn
  let ok := started && imageOk true core n.fuseSvn
  { s with keeper := { s.keeper with
      booted := ok, bootFail := !ok, copyB := started && !a
      svn := if started then svnOf keeper.bytes else 0
      measKeeper := if started then imageMeasure keeper else 0
      measCore := if ok then imageMeasure core else 0 } }

/-! ## Bring-up (R209, R212, R376) -/

/-- Does the device support what a channel holds: 1 or 2 modules of 32 to 256 GiB (R208)? -/
def ddrSupported (x : DdrPop) : Bool := decide (1 ≤ x.modules.toNat ∧ x.modules.toNat ≤ 2 ∧ 1 ≤ x.size.toNat ∧ x.size.toNat ≤ 4)

/-- The population of a channel as TIER_DDR_INFO gives it; a module size that is not supported reads as none (log entry 204). -/
def popBits (x : DdrPop) : BitVec 6 :=
  BitVec.ofNat 6 (if x.modules = 0 then 0
    else x.modules.toNat + (if x.size.toNat ≤ 4 then x.size.toNat else 0) * 4 + b2n x.mrdimm * 32)

/-- GiB a population holds. -/
def popGib (pop : BitVec 6) : Nat := if fld pop 0 2 = 0 then 0 else fld pop 0 2 * (16 * 2 ^ fld pop 2 3)

/-- Settle which channels are in service and the size of the far tier (R209). A channel without modules differs from the
reference. -/
def State.ddrSettle (s : State) : State :=
  let there := (List.range 16).filter s.ddrThere
  let holds (d : Nat) : Bool := fld (s.ddrCh d).pop 0 2 != 0 && (s.ddrCh d).trained
  let ref : BitVec 6 := match there.find? holds with
    | some d => (s.ddrCh d).pop
    | none => 0
  let code (d : Nat) : BitVec 2 :=
    if !s.ddrThere d then 0 else if holds d && (s.ddrCh d).pop == ref then 1
    else if (s.ddrCh d).trained || fld (s.ddrCh d).pop 0 2 == 0 then 2 else 3
  let n := (there.filter fun d => code d == 1).length
  let s := s.each (List.range 16) fun s d => s.setDdr d { s.ddrCh d with info := code d }
  s.setReg R.tierFarBytes (BitVec.ofNat 64 (n * popGib ref * 2 ^ 30))

/-- Train the DDR channels; one whose modules are not supported does not train (R208). -/
def State.ddrTrain (s : State) (l : List DdrPop) : State :=
  (s.each ((List.range 16).filter s.ddrThere) fun s d =>
    match l[d]? with
    | some x => s.setDdr d { pop := popBits x, trained := x.trains && (ddrSupported x || x.modules == 0), info := 0 }
    | none => s).ddrSettle

/-- Why a drive is refused, as TIER_NVME_INFO codes it: the first of R212's conditions that it fails, 0 for none. -/
def driveRefusal (x : DrivePop) : BitVec 6 :=
  if !x.present then 1
  else if !x.responds then 6
  else if !x.format4k then 2
  else if x.transferKib.toNat < 64 then 3
  else if x.ioQueues.toNat < 64 then 4
  else if !x.zeros then 5
  else if x.granules.toNat < 16384 then 7
  else 0

/-- The admin commands by which the device learns what a drive reports, and makes its queues where it puts it in service: Identify, Get
Features, Set Features, and 64 I/O queue pairs of 256 entries (R211; log entry 205). -/
def State.driveAdmin (s : State) (d : Nat) (x : DrivePop) : State :=
  if !x.present then s
  else
    let s := ((s.driveCmd d 0x106 0 0).driveCmd d 0x10A 0 0)
    if driveRefusal x ≠ 0 then s
    else s.each (List.range 64) (fun s q => (s.driveCmd d 0x105 (q + 1) 256).driveCmd d 0x101 (q + 1) 256) |>.driveCmd d 0x109 64 0

/-- Train the NVMe links and qualify the drives (R212, R400). -/
def State.drivesQualify (s : State) (l : List DrivePop) : State :=
  s.each ((List.range 8).filter s.nvmeThere) fun s d =>
    match l[d]? with
    | none => s.updDrive d fun x => { x with state := .refused, reason := 1 }
    | some x =>
      let reason := driveRefusal x
      (s.driveAdmin d x).updDrive d fun y => { y with
        state := if reason = 0 then .inService else .refused, reason, granules := if reason = 0 then x.granules.toNat else 0
        perst := !x.present }

/-- A host port whose PERSTn_N is high begins training; after a boot failure H0 alone does (R323, R376). -/
def State.portsTrain (s : State) : State :=
  s.each ((List.range 4).filter fun p => s.hostThere p && (!s.keeper.bootFail || p == 0)) fun s p =>
    s.updPort p fun x => if x.perst then x else { x with link := .training }

/-- Boot and bring-up, steps 1 to 6 of R376. -/
def State.bringUp (s : State) (b : BringUp) (rewritten : Bool) : State :=
  let s := ({ s with nvm := s.nvm.found b rewritten, pwr := { s.pwr with state := .boot } } : State).bootKeeper
  let s := ({ s with pwr := { s.pwr with sysReady := true } } : State).portsTrain
  if s.keeper.bootFail then s
  else
    let s := (s.ddrTrain b.ddr).drivesQualify b.nvme
    { s with pwr := { s.pwr with state := .on } }

/-- Bring the device up if it waits for that, its clock is there, RESET_N is high and the flash is free (R401). -/
def State.tryBoot (s : State) (b : BringUp) : State :=
  if !s.awaitsBoot ∨ !s.pwr.refSys ∨ !s.pwr.resetN then s
  else if b.flashHeld then { s with pwr := { s.pwr with state := .boot, flashExtN := false } }
  else s.bringUp b false

/-! ## Resets of the whole device (R366, R372, R373, R375) -/

def State.resetLow (s : State) : State :=
  let s : State := { s with pwr := { s.pwr with resetN := false } }
  if s.pwr.state = .off then s else s.coldKeep .boot

/-- RESET_N is high again; the pulse of a PWR_CMD COLD ends here too. -/
def State.resetHigh (s : State) (b : BringUp) : State :=
  let s : State := { s with pwr := { s.pwr with resetN := true } }
  if s.pwr.state = .off then s else s.tryBoot b

/-- The input has stood within its range for 10 ms. -/
def State.powered (s : State) (b : BringUp) : State :=
  if s.pwr.state ≠ .off ∧ !s.awaitsBoot then s else s.tryBoot b

def State.sysLost (s : State) : State :=
  let s : State := { s with pwr := { s.pwr with refSys := false } }
  if s.pwr.state = .off then s else s.coldKeep .boot

def State.sysBack (s : State) (b : BringUp) : State :=
  let s : State := { s with pwr := { s.pwr with refSys := true } }
  if s.pwr.state = .off then s else s.tryBoot b

/-- FLASH_EXT_N goes high: a Keeper that waited for it starts 1 ms later, from a flash another device may have written. -/
def State.flashFree (s : State) (b : BringUp) : State :=
  let held := !s.pwr.flashExtN
  let s : State := { s with pwr := { s.pwr with flashExtN := true } }
  if held ∧ s.pwr.state ≠ .off ∧ s.awaitsBoot ∧ s.pwr.refSys ∧ s.pwr.resetN then s.bringUp b true else s

/-! ## Host-port reset (R319, R374) -/

/-- What a host-port reset does to the port itself: flush mode, an empty host directory, and requests in flight left without an
answer. -/
def HostPort.wiped (x : HostPort) : HostPort :=
  { x with
    l1 := false, busMaster := false, msixOn := false, msix := [], pba := [], decoders := [], recalls := false
    hdir := [], waiting := [], throttled := false, counted := 0
    inflight := x.inflight.map fun (q : HostReq) => { q with dead := true } }

/-- Does a transfer in progress read or write a host port? -/
def dmaUses (p : Nat) (d : Line) : Bool :=
  (!dmaIsFill d && dmaSrcHost d && fld d 228 2 == p) || (dmaDstHost d && fld d 230 2 == p)

/-- Transfers in progress to or from a port end as timed out (R56). -/
def State.cutTransfers (s : State) (p : Nat) : State :=
  s.each s.openRings fun s r =>
    if (s.ring r).kind ≠ .dma then s
    else s.each ((s.ring r).flights.filter fun f => f.stage == .running && dmaUses p f.desc) fun s f =>
      s.dmaCut r f (Cpl.of St.timeout)

/-- Rings stored behind a port enter ERROR. -/
def State.portRingsFail (s : State) (p : Nat) : State :=
  s.each (s.openRings.filter fun r => !(s.ring r).inPool && (s.ring r).hport == p) fun s r => (s.ringError r 4).settle r

/-- The effects of a host-port reset of port p. Requests in flight are complete, and a drain that waited for them goes on (R310). Requests it had not admitted complete at their homes too. Back-Invalidates it has not answered end as R317 ends them (R374); a switch of mode
that waited for them ends. -/
def State.hostReset (s : State) (p : Nat) : State :=
  let bis := (s.port p).bis
  let s := s.each (s.port p).waiting fun s w => s.cxlGo p w true
  let live := (s.port p).inflight.filter fun q => !q.dead
  let s := (s.each live fun s q => s.drainCount true p q.entry true).updPort p HostPort.wiped
  let s := s.revokesEnd
  let s := (s.cutTransfers p).portRingsFail p
  let s := s.each bis fun s b => s.biLate p b.line
  (s.modeCheck p).runNet.itemsEnd

/-- PERSTn_N goes low. While the device sleeps it counts as a host's L1 exit, and the reset follows at the end of the wake
(R400). -/
def State.perstFalls (s : State) (p : Nat) : State :=
  let s := s.updPort p fun x => { x with perst := true }
  if s.pwr.state = .off ∨ !s.hostThere p then s
  else if s.asleep then s.wakeTrigger 4
  else if (s.port p).link = .reset then s
  else (s.updPort p fun x => { x with link := .reset }).hostReset p

/-- PERSTn_N goes high: the link begins training within 20 ms, once the port's domain is up. -/
def State.perstRises (s : State) (p : Nat) : State :=
  let s := s.updPort p fun x => { x with perst := false }
  if s.pwr.sysReady && s.hostThere p && (!s.keeper.bootFail || p == 0) && (s.port p).link == .reset then
    s.updPort p fun x => { x with link := .training }
  else s

/-- The link of a port goes down, by itself, by a hot reset or with its reference clock (R372, R373). -/
def State.hostDown (s : State) (p : Nat) : State :=
  if (s.port p).link ≠ .up then s
  else (s.updPort p fun x => { x with link := .training }).hostReset p

/-- The link of a port has trained. -/
def State.hostUp (s : State) (p : Nat) : State :=
  if (s.port p).link = .training ∧ s.hostThere p ∧ s.pwr.sysReady then s.updPort p fun x => { x with link := .up } else s

/-! ## The commands -/

def execResetNAssert (s : State) : Host.Outcome State Fault Refusal := .next s.resetLow

def execResetNRelease (b : BringUp) (s : State) : Host.Outcome State Fault Refusal := .next (s.resetHigh b)

def execPowerOn (b : BringUp) (s : State) : Host.Outcome State Fault Refusal := .next (s.powered b)

/-- The input is out of its limits for 50 µs: power is removed from every domain (R361). -/
def execVinLockout (s : State) : Host.Outcome State Fault Refusal := .next (s.coldKeep .off)

def execRefclkSysLost (s : State) : Host.Outcome State Fault Refusal := .next s.sysLost

def execRefclkSysRestored (b : BringUp) (s : State) : Host.Outcome State Fault Refusal := .next (s.sysBack b)

def execFlashExtRelease (b : BringUp) (s : State) : Host.Outcome State Fault Refusal := .next (s.flashFree b)

def execPerstAssert (port : Port) (s : State) : Host.Outcome State Fault Refusal := .next (s.perstFalls port.toNat)

def execPerstDeassert (port : Port) (s : State) : Host.Outcome State Fault Refusal := .next (s.perstRises port.toNat)

def execHostLinkDown (port : Port) (s : State) : Host.Outcome State Fault Refusal := .next (s.hostDown port.toNat)

def execHostLinkTrained (port : Port) (s : State) : Host.Outcome State Fault Refusal := .next (s.hostUp port.toNat)

end Sys2Proof.Machine
end

