-- ==== Sys2Proof/Machine/Xlt.lean ====
section
/-! DEFINITION. XINV descriptors, their broadcasts, and the reads of walks (R235, R239, R246 to R249). -/

namespace Sys2Proof.Machine

/-! ## Checks (R246) -/

def State.ptBase (s : State) (t : Nat) : Nat := (s.reg (R.xltPtBase t)).toNat
def State.ptSize (s : State) (t : Nat) : Nat := (s.reg (R.xltPtSize t)).toNat

/-- Does [off, off + n) lie in a tenant's range of the page-table area? -/
def State.inPtRange (s : State) (t off n : Nat) : Bool := decide (s.ptBase t ≤ off ∧ off + n ≤ s.ptBase t + s.ptSize t)

def noRoot : Nat := 0xFFFFFFFF

/-- The first check that fails: byte offset and reason. -/
def State.xinvCheck (s : State) (t : Nat) (d : Line) : Option (Nat × Nat) :=
  let len := dNum d 16 8
  let off := dNum d 24 4
  match dOpcode d with
  | 1 =>
    if len < 8 ∨ 65536 < len then some (16, 7)
    else if !s.inPtRange t off len then some (24, 7)
    else if dNum d 8 8 % 8 ≠ 0 then some (8, 8)
    else if len % 8 ≠ 0 then some (16, 8)
    else if off % 8 ≠ 0 then some (24, 8)
    else if fld d 224 2 = 1 ∧ !s.hostThere (fld d 226 2) then some (28, 5)
    else none
  | 2 =>
    if dFlag d 13 then none
    else if len < 65536 then some (16, 7)
    else if dNum d 8 8 % 65536 ≠ 0 then some (8, 8)
    else if len % 65536 ≠ 0 then some (16, 8)
    else none
  | _ =>
    if off = noRoot then none
    else if !s.inPtRange t off 4096 then some (24, 7)
    else if off % 4096 ≠ 0 then some (24, 8)
    else none

/-- The devices an operation applies to: this one, and with BCAST those of XLT_BCAST_MASK, whose own bit reads as set. -/
def State.bcastMask (s : State) (d : Line) : Word :=
  if dFlag d 12 then maskAdd (s.reg R.xltBcastMask) s.devNo else maskAdd 0 s.devNo

/-- Start waiting for confirmations: an unreachable device counts as missed at once (R296). -/
def State.await (s : State) (r pos : Nat) (mask : Word) (counts : Bool) (accesses : List (VoiceId × BitVec 2)) : State :=
  let others := maskList (maskDrop mask s.devNo)
  let there := others.filter s.reachable
  let b : Bcast :=
    { ring := BitVec.ofNat 12 r, pos := BitVec.ofNat 32 pos, quiet := false, sender := none
      waiting := there.foldl maskAdd 0, confirmed := maskAdd 0 s.devNo, missed := decide (there.length < others.length)
      counts, accesses }
  ({ s with bcasts := s.bcasts ++ [b] } : State).bcastsEnd

/-! ## What the operations do -/

/-- Do two DVA ranges overlap? -/
def rangesMeet (a n b m : Nat) : Bool := overlap a n b m

/-- Drop what a tenant has cached of a range, or of everything (R248); walks it overtakes are walked again. What
the galleries lose in a rotation is noted (R250). -/
def State.dropXlat (s : State) (t : Tenant) (all : Bool) (a n : Nat) : State :=
  let hit (b m : Nat) : Bool := all || rangesMeet a n b m
  let gone (e : TlbEntry) : Bool := e.tenant == t && hit (e.page * 2 ^ e.bits) (2 ^ e.bits)
  let forced := (s.tlb.filter fun e => gone e && decide (e.cache < 32)).map fun e => (e.cache, e.tenant, e.page, e.bits)
  { s with
    rot := { s.rot with forced := if s.rot.phase = .idle then s.rot.forced else s.rot.forced ++ forced }
    tlb := s.tlb.filter fun e => !gone e
    walkCache := s.walkCache.filter fun e =>
      let bits := (levelBits (e.level + 1)).1
      !(e.tenant == t && hit (e.path * 2 ^ bits) (2 ^ bits))
    walks := s.walks.map fun e =>
      if e.2.tenant == t then (e.1, { e.2 with drops := e.2.drops ++ [if all then (0, dvaTop) else (a, n)] }) else e }

/-- Does the entry a walk reads at a level span an address invalidated since the walk began? -/
def Walk.stale (w : Walk) (level : Nat) : Bool :=
  let n := 2 ^ (levelBits level).1
  w.drops.any fun p => rangesMeet p.1 p.2 (w.dva.toNat / n * n) n

/-- This device's accesses that went through pages an operation drops (R249 item 2). -/
def State.accessesIn (s : State) (t : Tenant) (all : Bool) (a n : Nat) : List (VoiceId × BitVec 2) :=
  s.voices.flatMap fun e =>
    (e.2.out.filter fun x => x.tenant == t && x.ready && (all || rangesMeet a n (x.dva.toNat / 2 ^ x.bits * 2 ^ x.bits) (2 ^ x.bits))).map fun x =>
      (BitVec.ofNat 12 e.1, x.slot)

/-- Set or clear a tenant's root. -/
def State.putRoot (s : State) (t off : Nat) : State :=
  s.setReg (R.xltRoot t) (if off = noRoot then 0 else BitVec.ofNat 64 (1 + off / 256 * 256))

/-- Write bytes into the page-table area. -/
def State.putTables (s : State) (off : Nat) (bs : List Byte) : State := s.poolWrite (ptArea + off) bs

/-- Start an XINV descriptor: its checks, or what it does. -/
def State.xinv (s : State) (r pos op : Nat) (act : State → Flight → State) : State :=
  match s.mayStart r pos .xinv with
  | none => s
  | some f =>
    if dOpcode f.desc ≠ op then s
    else
      match s.xinvCheck (s.ring r).tenant f.desc with
      | some (off, why) => s.finish r pos (Cpl.bad off why)
      | none => act (s.setStage r pos .running) f

/-- The front end of an XINV ring as it reads a PTWRITE's source. -/
def State.xinvEng (s : State) (r pos : Nat) : Eng :=
  { cache := s.frontCache r, tenant := (s.ring r).tenant, checked := true, coherent := true, rot := false
    who := .flight (BitVec.ofNat 12 r) (BitVec.ofNat 32 pos) 8 }

/-- PTWRITE (R247): the source is read once and written on every device of the mask. -/
def State.ptwrite (s : State) (r pos : Nat) (src : List Byte) : State :=
  s.xinv r pos 1 fun s f =>
    let d := f.desc
    let t := (s.ring r).tenant
    let n := dNum d 16 8
    let a := dNum d 8 8
    let e := s.xinvEng r pos
    if fld d 224 2 ≠ 1 ∧ !(s.needs e (pieces n) a n).isEmpty then (s.ask e (s.needs e (pieces n) a n)).setStage r pos .queued
    else
    let (bs, err) : List PByte × Option (Nat × Refuse) :=
      if fld d 224 2 = 1 then ((slice src 0 n).map (·, false), none) else s.gather e (pieces n) a n
    let s := if fld d 224 2 = 1 then s else s.readUse e.cache t a n bs.length
    match err with
    | some (dva, e) => (s.noteRefusal t false 0x3FF dva e).finish r pos (e.cpl 8)
    | none =>
      if bs.any Prod.snd then (s.poisonedRead e.cache t a n).finish r pos (Cpl.of St.poisoned)
      else
        let off := dNum d 24 4
        let mask := s.bcastMask d
        let s := s.putTables off (bs.map Prod.fst)
        let s := s.each (maskList (maskDrop mask s.devNo)) fun s d =>
          s.sendMg (.ptwrite (BitVec.ofNat 6 d) (BitVec.ofNat 32 off) (bs.map Prod.fst))
        s.await r pos mask false []

/-- INVAL and SETROOT on this device and, with BCAST, on the others. -/
def State.invalidate (s : State) (r pos : Nat) (d : Line) (all : Bool) (a n : Nat) (root : Option Nat) : State :=
  let t := BitVec.ofNat 4 (s.ring r).tenant
  let mask := s.bcastMask d
  let acc := s.accessesIn t all a n
  let s := s.dropXlat t all a n
  let s := match root with
    | some off => s.putRoot t.toNat off
    | none => s
  let s := s.each (maskList (maskDrop mask s.devNo)) fun s d =>
    s.sendMg (.inval (BitVec.ofNat 6 d) t all (BitVec.ofNat 64 a) (BitVec.ofNat 64 n) (root.map (BitVec.ofNat 32)))
  s.await r pos mask true acc

def State.inval (s : State) (r pos : Nat) : State :=
  s.xinv r pos 2 fun s f => s.invalidate r pos f.desc (dFlag f.desc 13) (dNum f.desc 8 8) (dNum f.desc 16 8) none

def State.setroot (s : State) (r pos : Nat) : State :=
  s.xinv r pos 3 fun s f => s.invalidate r pos f.desc true 0 0 (some (dNum f.desc 24 4))

/-- An INVAL or SETROOT forwarded by another device (R248, R249): it is confirmed once its guarantee holds here. -/
def State.invalForwarded (s : State) (from_ : Dev) (t : Tenant) (all : Bool) (a n : Nat) (root : Option (BitVec 32)) : State :=
  let acc := s.accessesIn t all a n
  let s := s.dropXlat t all a n
  let s := match root with
    | some off => s.putRoot t.toNat off.toNat
    | none => s
  let b : Bcast :=
    { ring := 0, pos := 0, quiet := false, sender := some from_, waiting := 0, confirmed := 0, missed := false, counts := true
      accesses := acc }
  ({ s with bcasts := s.bcasts ++ [b] } : State).bcastsEnd

/-! ## Walks (R239, R240, R248) -/

/-- A walk ends with a fault: every access that waits for its page takes it; a prefetch alone reports nothing (R244). -/
def State.walkFault (s : State) (w : Walk) (reason level : Nat) : State :=
  s.each (s.voices.filter fun e => galleryOf e.1 == w.gallery) fun s e =>
    s.each (e.2.out.filter fun a => a.tenant == w.tenant && !a.ready && a.dva.toNat / 65536 == w.dva.toNat / 65536) fun s a =>
      s.accessFault e.1 a reason level

/-- Every gallery's waiting accesses, and what its streams still want, are looked at again, since a walk has ended. -/
def State.translateAll (s : State) : State := (s.each (List.range 32) State.translateGallery).pumpStreams

/-- A page-table entry read returns. -/
def State.walkRead (s : State) (k : Nat) : State :=
  match lget s.walks k with
  | none => s
  | some w =>
    if s.fenced 8 (s.dieOfGallery w.gallery) then s else
    let t := w.tenant.toNat
    let a := w.dva.toNat
    let e := s.ptEntry w.table a w.level
    let fault : Option Nat := if !bit e 0 then some 1 else entryFault (s.ptBase t) (s.ptSize t) w.level e
    if fault.isNone ∧ !isLeaf w.level e then
      let next := fld e 8 24 * 256
      let s := if w.stale w.level then s
        else s.walkKeep
          { die := s.dieOfGallery w.gallery, tenant := w.tenant, level := w.level - 1, path := pathAbove a (w.level - 1)
            table := next }
      { s with walks := lput s.walks k { w with level := w.level - 1, table := next } }
    else
      let s : State := { s with walks := ldel s.walks k }
      if w.stale w.level then
        let s := s.count R.xltRewalkTotal
        match s.startWalk w.gallery w.tenant a w.prefetch with
        | .ok s => s.runNet
        | .error (r, l) => ((s.walkFault w r l).translateAll).runNet
      else
        let s := s.count R.xltWalkTotal
        let s := match fault with
          | some r => s.walkFault w r w.level
          | none =>
            let s := if w.prefetch && (s.tlbFind w.gallery w.tenant a).isNone then s.count R.xltPrefetchTotal else s
            s.tlbLoad w.gallery w.tenant (s.leafXlat t a w.level e) a
        (s.translateAll).runNet

/-! ## The commands -/

def execPtwrite (ring : RingId) (pos : Pos) (src : List Byte) (s : State) : Host.Outcome State Fault Refusal :=
  .next (s.ptwrite ring.toNat pos.toNat src).runNet

def execInval (ring : RingId) (pos : Pos) (s : State) : Host.Outcome State Fault Refusal :=
  .next (s.inval ring.toNat pos.toNat)

def execSetroot (ring : RingId) (pos : Pos) (s : State) : Host.Outcome State Fault Refusal :=
  .next (s.setroot ring.toNat pos.toNat)

def execPtwriteBroadcast (from_ : Dev) (off : BitVec 32) (bytes : List Byte) (s : State) :
    Host.Outcome State Fault Refusal :=
  .next (s.message (.ptwrite from_ off bytes) fun s => s.mgServe from_ fun s => (s.putTables off.toNat bytes).sendMg (.invalConfirm from_))

def execInvalForward (from_ : Dev) (tenant : Tenant) (all : Bool) (addr len : Word) (root : Option (BitVec 32)) (s : State) :
    Host.Outcome State Fault Refusal :=
  .next (s.message (.inval from_ tenant all addr len root) fun s => s.mgServe from_ fun s =>
    s.invalForwarded from_ tenant all addr.toNat len.toNat root)

def execInvalConfirm (ring : RingId) (dev : Dev) (s : State) : Host.Outcome State Fault Refusal :=
  .next (s.message (.confirm ring dev) fun s => (s.mgAnswered (tableOut dev)).confirmed ring.toNat dev.toNat)

def execInvalConfirmTimeout (ring : RingId) (s : State) : Host.Outcome State Fault Refusal :=
  .next (s.confirmTimeout ring.toNat)

def execWalkEntryRead (walk : BitVec 7) (s : State) : Host.Outcome State Fault Refusal := .next (s.walkRead walk.toNat)

end Sys2Proof.Machine
end

