-- ==== Sys2Proof/Machine/Scrub.lean ====
section
/-! DEFINITION. What a partition switch, a job reset and Fog entry do to work in progress, in pieces they share (R338 to R340, R353,
R355). -/

namespace Sys2Proof.Machine

/-! ## Descriptors -/

/-- Fills remember a descriptor of a ring as the one that caused them no longer. -/
def State.forgetUser (s : State) (r : Nat) : State :=
  let mine (x : Granule) : Bool := match x.fillUser with
    | some (q, _) => q.toNat == r
    | none => false
  s.each (s.granules.filter fun e => mine e.2) fun s e => s.updGranule e.1 fun x => { x with fillUser := none }

/-- Every descriptor of a ring that is not complete ends with a status: a transfer in progress where it stands. -/
def State.endAll (s : State) (r : Nat) (c : Cpl) : State :=
  let x := s.ring r
  let moving (f : Flight) : Bool := x.kind == .dma && f.stage == .running
  let overran (f : Flight) : Flight := { f with stage := .ended (if x.kind = .attn then s.attnCpl (attnQ f.desc) c else c) }
  let s1 := (s.forgetUser r).setRing r { x with
    flights := mapIf (fun f => f.stage.result?.isNone && !moving f) overran x.flights }
  (s1.each (x.flights.filter moving) fun s f => s.dmaCut r f c).settle r

/-- Operations that go on without their descriptors, which complete otherwise: handoffs, drains, mode switches and broadcasts of the
rings `p` names. -/
def State.detach (s : State) (p : RingId → Bool) : State :=
  let quietB (b : Bcast) : Bcast := { b with quiet := b.quiet || (b.sender.isNone && p b.ring) }
  { s with
    offers := dropIf (fun o => p o.ring) s.offers
    accepts := s.accepts.map fun (a : Accept) => { a with quiet := a.quiet || p a.ring }
    drains := s.drains.map fun (d : Drain) => { d with quiet := d.quiet || p d.ring }
    modeSwitches := s.modeSwitches.map fun (m : ModeSwitch) => { m with quiet := m.quiet || p m.ring }
    bcasts := s.bcasts.map quietB }

/-- Operations on the shard set that a ring began are undone on every member, as R110 undoes a TIMEOUT. -/
def State.undoOps (s : State) (p : RingId → Bool) : State :=
  s.each (s.sesOps.filter fun o => p o.ring) fun s op =>
    let sid := op.session.toNat
    let u := undoOf op.kind
    let s := { s with sesOps := dropIf (· == op) s.sesOps }
    let s := match s.applyMember u sid op.child.toNat 0 0 0 with
      | some s => s
      | none => s
    s.tellOthers u sid op.child.toNat 0 0

/-! ## Cores -/

/-- Voices running clauses of the partitions `p` names halt, their streams and array products end; what their accesses return is
discarded. -/
def State.haltVoices (s : State) (p : Tenant → Bool) : State :=
  let s := s.each (s.voices.filter fun e => p e.2.tenant) fun s e =>
    s.updVoice e.1 fun x => { x.outdated with loaded := false, running := false }
  let s := s.each s.voices fun s e => s.updVoice e.1 fun x => { x with streams := dropIf (fun (t : Strm) => p t.tenant) x.streams }
  s.each s.amms fun s e =>
    { s with amms := tput (fun _ => []) s.amms e.1 (dropIf (fun (q : Amm) => p q.tenant) e.2) }

/-- A voice with its registers cleared; accesses it has issued go on. -/
def Voice.cleared (x : Voice) : Voice :=
  { Voice.off with out := x.outdated.out, streams := x.outdated.streams, nextToken := x.nextToken }

/-- Clear the scratchpad and the voice registers of a core, which then carries no partition. -/
def State.clearCore (s : State) (core : Nat) : State :=
  let s := s.each (s.voices.filter fun e => coreOf e.1 == core) fun s e => s.setVoice e.1 e.2.cleared
  { s with
    pads := tclear (padKey core 0) (2 ^ 20) s.pads
    carries := tput (fun _ => 0) s.carries core 0
    amms := tput (fun _ => []) s.amms core [] }

/-- Every access outstanding completes that can. -/
def State.settleAccesses (s : State) : State :=
  s.each s.voices fun s e => s.each e.2.out fun s a => s.accessComplete e.1 a.slot 0 0

/-- Every gallery cache gives up its lines: M lines are written back. -/
def State.purge (s : State) : State :=
  s.each s.gcache fun s e => (s.giveUp (e.1 / 2 ^ 50) (e.1 % 2 ^ 50)).runNet

/-- The engines that serve rings `p` names, and streams that have ended, are gone. -/
def State.haltEngines (s : State) (p : RingId → Bool) : State :=
  s.dropEngines fun w => match w with
    | .stream v tok => ((s.voice v.toNat).stream tok).isNone
    | w => w.ring?.any p

/-! ## Embedding tables -/

/-- The I/O dies that install a CLOSE: those that home rows with images. -/
def State.installDies (s : State) (i : Install) : List Nat :=
  match s.table i.table.toNat with
  | none => []
  | some x => sortUniq ((s.stepRows i.table.toNat i.step).map fun e => s.homeDie (x.rowAt e.row.toNat / 65536))

/-- An install stops: each of its images has been written over its row or has not (R340, R355). -/
def State.stopInstall (s : State) (i : Install) : State :=
  let s := { s with installs := dropIf (fun (j : Install) => j.table == i.table) s.installs }
  match s.table i.table.toNat with
  | none => s
  | some x =>
    s.each (s.stepRows i.table.toNat i.step) fun s e =>
      let (k, s) := s.draw
      let o := x.rowAt e.row.toNat
      let bs := e.image.getD []
      if bit (Config.freeWord k) 0 then s.putFunc .nobody o bs else s

/-! ## Slots -/

/-- Bound and held items leave their slots without a record of their own. -/
def State.dropItems (s : State) (p : Item → Bool) : State :=
  s.each (s.rot.items.filter fun e => p e.2) fun s e => s.freeSlot e.1 e.2

end Sys2Proof.Machine
end

