-- ==== Sys2Proof/Machine/Ras.lean ====
section
/-! DEFINITION. The RAS block: acknowledgement, injection and the log's base, Fog mode, job reset, and fences (R346 to R355, R359). -/

namespace Sys2Proof.Machine

/-! ## Registers (R346, R349, R359) -/

/-- Acknowledge the pending error: the oldest queued one becomes pending. -/
def State.ack (s : State) (port : Nat) (seq : BitVec 32) : State :=
  match s.ras.pending with
  | none => s.setupError port R.rasAck 9
  | some p =>
    if p.seq ≠ seq then s.setupError port R.rasAck 9
    else
      match s.ras.queue with
      | [] => { s with ras := { s.ras with pending := none } }
      | e :: rest => ({ s with ras := { s.ras with pending := some e, queue := rest } } : State).vectorH0 R.rasVector

/-- RAS_INJECT: an error handled as real, but for window counting. -/
def State.inject (s : State) (port : Nat) (w : BitVec 32) : State :=
  let cls := fld w 0 8
  let sev := fld w 24 3
  if sev < 2 ∨ 4 < sev ∨ cls = 0 ∨ 9 < cls then s.setupError port R.rasInject 2
  else s.record { ErrRec.plain sev cls (fld w 8 16) (if sev = 2 then 1 else 2) with injected := true }

/-- RAS_LOG_BASE: the records held on die are copied to the log. -/
def State.logBase (s : State) (w : Word) : State :=
  let held := s.ras.buffer
  let s := s.setReg R.rasLogBase (BitVec.ofNat 64 (w.toNat / 4096 * 4096))
  ({ s with ras := { s.ras with baseWritten := true, buffer := [] } } : State).each held State.logRecord

/-! ## Reliefs that end early -/

/-- Reliefs of the rings `p` names have no descriptor any more: one not begun is forgotten, and a copy goes on unreported. -/
def State.releaseReliefs (s : State) (p : RingId → Bool) : State :=
  let l := dropIf (fun (r : Relief) => p r.ring && !r.started) s.ras.reliefs
  { s with ras := { s.ras with reliefs := mapIf (fun (r : Relief) => p r.ring) (fun r => { r with quiet := true }) l } }

/-! ## Fog mode (R353, R354) -/

/-- Rotation stops at once. -/
def State.rotationStops (s : State) : State :=
  ((s.setRegBit R.rotCtrl 0 false).runEnds).updRot fun r => { r with snapshot := [], tried := [], closes := [], sentence := none }

/-- Operations that Fog mode drops: what their descriptors began does not go on. -/
def State.dropOperations (s : State) : State :=
  let s := s.each s.installs State.stopInstall
  let s := s.each s.modeSwitches fun s m => s.updPort m.port.toNat fun p => { p with switching := false }
  let s := s.releaseReliefs fun _ => true
  { s with grads := [], sesOps := [], offers := [], accepts := [], drains := [], modeSwitches := [], bcasts := [] }

/-- Fog mode begins (step 1): the error of unit `unit` in class `cls` caused it. A device that sleeps wakes first (R366). -/
def State.fogEnter (s : State) (cls unit : Nat) : State :=
  if s.ras.fog ∨ s.pwr.state = .off ∨ s.pwr.state = .boot then s
  else if s.asleep then
    { s with
      pwr := { s.pwr with state := .waking, fogAfterWake := true }
      ras := { s.ras with fogCls := cls, fogUnit := unit } }
  else
    let s : State := { s with ras := { s.ras with fog := true, fogEntering := true, fogCls := cls, fogUnit := unit } }
    let s := ((s.rotationStops).haltVoices fun _ => true).dropItems fun _ => true
    let s := s.dropOperations
    s.each s.openRings fun s r => s.endAll r (Cpl.of St.fog)

/-- A granule's fills, copies and evictions are over; its current copy stays. -/
def Granule.still (x : Granule) : Granule :=
  { x with
    move := .none, evict := 0, fill := .none, waits := false, zeroing := false, fillUser := .none, rise := false
    frame := if x.tier = .none then 0 else x.frame }

/-- Requests that wait at this home are judged again. -/
def State.repostWaits (s : State) : State :=
  s.each s.homeWaits fun s e =>
    (s.setWaits e.1 []).each e.2 fun s w => s.post (.req w.op w.req w.host)

/-- Requests of voices are nobody's any more. -/
def ReqTag.orphan (x : ReqTag) : ReqTag :=
  match x.use with
  | .access .. => { x with use := .other }
  | .gone .. => { x with use := .other }
  | _ => x

/-- Fog entry is complete (steps 2 to 4): atomic buffers and caches are written back, the gallery domains lose their contents, and
the record of the entry is written. -/
def State.fogEntered (s : State) : State :=
  if !s.ras.fog ∨ !s.ras.fogEntering then s
  else
    let s := s.settleAccesses
    let s := (s.each (List.range 32) State.abufFlush).runNet.purge
    let s : State := { s with
      voices := [], pads := [], carries := [], amms := [], gcache := [], abuf := [], tlb := [], walkCache := [], walks := []
      tags := tmap (fun _ => ReqTag.free) (fun _ t => t.orphan) s.tags }
    let s := s.each s.granules fun s e => s.setGranule e.1 (s.granule e.1).still
    let s := s.repostWaits.runNet
    let s := s.record (ErrRec.plain 1 s.ras.fogCls s.ras.fogUnit 16)
    { s with ras := { s.ras with fogEntering := false } }

/-! ## Job reset (R355) -/

/-- GRADs and CLOSE installs end. A stopped install leaves a record for each die that was installing. -/
def State.stopEmbedding (s : State) : State :=
  let s := s.each s.grads fun s g =>
    (s.dropGrad g.ring.toNat g.pos.toNat).finish g.ring.toNat g.pos.toNat (g.ends.getD (Cpl.of St.stopped))
  s.each s.installs fun s i =>
    let dies := s.installDies i
    let s := match s.table i.table.toNat with
      | none => s
      | some x => s.each dies fun s d => s.record { ErrRec.plain 1 8 d 17 with
          tenant := some (BitVec.ofNat 4 (tcTenant x.ctx)), addr := s.fpaOf x.base }
    (s.stopInstall i).finish i.ring.toNat i.pos.toNat (Cpl.of St.stopped)

/-- Operations on sessions end: those on the shard set are undone, and handoffs go on without their descriptors. -/
def State.stopSessions (s : State) : State :=
  let ops := s.sesOps.map fun o => (o.ring, o.pos, o.session.toNat)
  let offers := s.offers.map fun o => (o.ring, o.pos, s.sidOf o.handle.toNat)
  let accepts := (s.accepts.filter fun a => !a.quiet).map fun a => (a.ring, a.pos, a.peerId.toNat)
  let s := s.undoOps fun _ => true
  let s := { s with offers := [], accepts := s.accepts.map fun (a : Accept) => { a with quiet := true } }
  s.each (ops ++ offers ++ accepts) fun s e => s.finish e.1.toNat e.2.1.toNat (s.sesCpl St.stopped 0 e.2.2 none)

/-- Every RELIEF ends, and writes to its range are accepted again (R356). -/
def State.stopReliefs (s : State) : State :=
  let l := s.ras.reliefs
  let s := ({ s with ras := { s.ras with reliefs := [] } } : State).dropEngines Waiter.isRelief
  s.each l fun s r => s.finish r.ring.toNat r.pos.toNat (Cpl.of St.stopped)

/-- Every ring stops under R57; one in ERROR stays there. -/
def State.stopRings (s : State) : State :=
  s.each s.openRings fun s r => s.updRing r fun x =>
    { x with state := if x.state = .active then .stopping else x.state, fetching := 0 }

/-- Steps 1 and 2. -/
def State.resetBegin (s : State) : State :=
  let s : State := { s with ras := { s.ras with resetWaits := false } }
  let s := s.stopRings
  let s := s.each s.rot.items fun s e => s.stopItem e.1 (Cpl.of St.stopped)
  let s := s.updRot fun r => { r with snapshot := [], tried := [], closes := [] }
  let s := s.each s.openRings fun s r =>
    if (s.ring r).kind ≠ .dma then s
    else s.each ((s.ring r).flights.filter fun f => f.stage == .running) fun s f => s.dmaCut r f (Cpl.of St.stopped)
  let s := ((s.stopEmbedding).stopSessions).stopReliefs.haltVoices fun _ => true
  s.each s.openRings State.settle

/-- RAS_CMD JOB_RESET: it waits for a partition switch in progress (R340). -/
def State.jobReset (s : State) (port : Nat) : State :=
  if s.ras.resetBusy then s.setupError port R.rasCmd 4
  else
    let waits := (List.range 16).any fun t => (s.part t).switching
    let s : State := { s with ras := { s.ras with resetBusy := true, resetDone := false, resetWaits := waits } }
    if waits then s else s.resetBegin

/-- Is a descriptor of any ring still in progress? -/
def State.anyBusy (s : State) : Bool := s.openRings.any fun r => (s.ring r).flights.any fun f => f.stage.busy

/-- Steps 3 to 6, once nothing that step 1 left in progress remains. -/
def State.resetEnds (s : State) : State :=
  if !s.ras.resetBusy ∨ s.ras.resetWaits then s
  else
    let s := s.stopRings
    let s := s.each s.openRings State.settle
    if s.anyBusy then s
    else
      let s := (s.settleAccesses.purge).each s.voices fun s e => s.setVoice e.1 (s.voice e.1).cleared
      let s : State := { s with
        abuf := [], pads := [], carries := [], amms := [], tlb := [], walkCache := []
        walks := s.walks.map fun e => (e.1, { e.2 with drops := [(0, dvaTop)] })
        steps := []
        ras := { s.ras with
          pending := none, queue := [], jobHalt := false, haltNow := false, resetBusy := false, resetDone := true
          fences := s.ras.fences.map fun (f : FenceSt) => { f with afterReset := true } } }
      let s := if s.rot.behind then s.setReg R.rotNumber s.rot.lastBeacon else s
      (s.rotationStops).updRot fun r => { r with behind := false }

/-! ## Fences (R350 to R352) -/

/-- Is there such a unit, to be compared and fenced? -/
def State.unitExists (s : State) (cls unit : Nat) : Bool :=
  match cls with
  | 1 => decide (unit < 512)
  | 2 => decide (unit < 32)
  | 3 => s.variant.stack unit
  | 4 => s.ddrThere unit
  | 5 => s.nvmeThere unit
  | 6 => s.sportThere unit
  | 7 => s.hostThere unit
  | 8 => decide (unit < s.variant.ioDies) && !s.unitLost 8 unit
  | _ => false

/-- A unit's bit in RAS_FENCED. -/
def State.fenceBit (s : State) (cls unit : Nat) (b : Bool) : State :=
  match unitBit (R.rasFencedCore 0) R.rasFenced R.rasFencedPort cls unit with
  | some (off, i) => s.setRegBit off i b
  | none => s

/-- A unit disagrees: it is fenced, and the event is reported both ways. -/
def State.fenceUnit (s : State) (cls unit : Nat) : State :=
  if s.fenced cls unit ∨ !s.unitExists cls unit ∨ s.unitLost cls unit then s
  else
    let f : FenceSt := { cls, unit, late := false, afterReset := false }
    let s : State := { s with ras := { s.ras with fences := s.ras.fences ++ [f] } }
    let seq := s.ras.seq
    ((s.fenceBit cls unit true).record (ErrRec.plain 1 cls unit 7)).emit (.pldmEvent seq)

/-- Requests that waited go on. -/
def State.fenceLifted (s : State) (cls unit : Nat) : State :=
  let s := s.fenceBit cls unit false
  let s := (s.fillsGoOn.retryAll).runNet
  let s := if cls = 6 then s.pumpPort unit else s
  (if cls = 7 then s.resume unit else s).itemsEnd

/-- A unit that still disagrees after a job reset is absent until cold reset, and its fence record is device-fatal. -/
def State.unitGone (s : State) (cls unit : Nat) : State :=
  let s : State := { s with ras := { s.ras with absent := (cls, unit) :: s.ras.absent } }
  let s := s.fenceBit cls unit false
  let s := if cls = 6 then (s.linkOut unit .down 1).updLink unit fun x => { x with state := .disabled } else s
  let s := if cls = 5 then s.updDrive unit fun x => { x with state := .absent, cmds := [], queued := [], resetting := false } else s
  (s.record (ErrRec.plain 5 cls unit 7)).fogEnter cls unit

/-- What a comparison does with a unit that is fenced. -/
def State.compareFenced (s : State) (differ : List (Nat × Nat)) (f : FenceSt) : State :=
  let drop (s : State) : State :=
    { s with ras := { s.ras with fences := dropIf (fun (g : FenceSt) => g.cls == f.cls && g.unit == f.unit) s.ras.fences } }
  if differ.contains (f.cls, f.unit) then (if f.afterReset then (drop s).unitGone f.cls f.unit else s)
  else if f.late ∧ !f.afterReset then s
  else (drop s).fenceLifted f.cls f.unit

/-- KEEPER_RECONCILIATION: the units that differ, and those whose health is failed, which the Keeper adopts. -/
def State.reconcile (s : State) (differ failed : List (Nat × Nat)) : State :=
  if !s.keeper.booted then s
  else
    let s : State := { s with ras := { s.ras with failed } }
    let s := s.each s.ras.fences fun s f => s.compareFenced differ f
    s.each differ fun s u => s.fenceUnit u.1 u.2

/-- The proxy on IO1 does not answer: every unit of IO1 is fenced. -/
def State.proxyLost (s : State) : State :=
  if !s.keeper.booted ∨ s.variant.ioDies < 2 then s
  else
    let units : List (Nat × Nat) :=
      ((List.range 4).map fun i => (3, 4 + i)) ++ ((List.range 8).map fun i => (4, 8 + i))
      ++ ((List.range 4).map fun i => (5, 4 + i)) ++ ((List.range 9).map fun i => (6, 9 + i))
      ++ ((List.range 2).map fun i => (7, 2 + i)) ++ [(8, 1)]
    s.each units fun s u => s.fenceUnit u.1 u.2

/-! ### Requests that waited 2 ms -/

/-- A request at this home completes TIMEOUT. -/
def State.timeWait (s : State) (w : HomeWait) : State :=
  let t : Txn := { op := w.op, req := w.req, host := w.host, lines := reqLines w.op w.req, awaiting := [], hosts := []
                   sharer := false, forwarded := false, poison := false, hostWait := false, answered := false }
  s.answer t Op.cmp St.timeout 0 []

/-- Does a waiting request need a unit? -/
def State.waitNeeds (s : State) (cls unit : Nat) (w : HomeWait) : Bool :=
  (reqLines w.op w.req).any fun l =>
    (cls == 8 && s.homeDie (l / 1024) == unit) || s.storeUnit (64 * l) == (cls, unit)

/-- A host's request that waited at its port: a read gets poison, a write is dropped. -/
def State.timeHost (s : State) (port : Nat) (w : HostWait) : State :=
  let p := BitVec.ofNat 2 port
  s.emit (if w.write then .cxlDone p w.tag else .cxlData p w.tag 0 true)

/-- Transfers in progress that need a unit. -/
def State.timeTransfers (s : State) (cls unit : Nat) : State :=
  s.each s.openRings fun s r =>
    let x := s.ring r
    if x.kind ≠ .dma then s
    else
      let needs (f : Flight) : Bool :=
        f.stage == .running && ((cls == 8 && s.dieOf x.channel == unit) || (cls == 7 && dmaUses unit f.desc))
      s.each (x.flights.filter needs) fun s f => s.dmaCut r f (Cpl.of St.timeout)

/-- A fill that waited for its drive is abandoned, and the descriptor that caused it completes. -/
def State.timeFill (s : State) (g : Nat) : State :=
  let x := s.granule g
  let s := s.setGranule g { x with fill := none, waits := false, zeroing := false, fillUser := none, dirty := 0 }
  let s : State := match x.fillUser with
    | none => s
    | some (r, p) =>
      match s.flight r.toNat p.toNat with
      | none => s
      | some f =>
        if (s.ring r.toNat).kind = .dma then
          (if f.stage = .running then s.dmaCut r.toNat f (Cpl.of St.timeout) else s)
        else s.finish r.toNat p.toNat (Cpl.of St.timeout)
  s.each (s.homeWaits.filter fun e => e.1 / 256 == g) fun s e => (s.setWaits e.1 []).each e.2 State.timeWait

/-- FENCE_TIMEOUT: the unit still disagrees after 2 ms; it stays fenced until job reset. -/
def State.fenceLate (s : State) (cls unit : Nat) : State :=
  match s.ras.fences.find? fun f => f.cls == cls && f.unit == unit with
  | none => s
  | some f =>
    if f.late ∨ f.afterReset then s
    else
      let late (f : FenceSt) : FenceSt := { f with late := true }
      let s : State := { s with
        ras := { s.ras with fences := mapIf (fun (g : FenceSt) => g.cls == cls && g.unit == unit) late s.ras.fences } }
      let s := s.record { ErrRec.plain 4 cls unit 7 with status := St.timeout }
      let s := s.each s.homeWaits fun s e =>
        let (gone, kept) := e.2.partition (s.waitNeeds cls unit)
        (s.setWaits e.1 kept).each gone State.timeWait
      let s := s.timeTransfers cls unit
      let s := if cls = 7 then
          let l := (s.port unit).waiting
          (s.updPort unit fun p => { p with waiting := [], counted := 0 }).each l fun s w => s.timeHost unit w
        else s
      let s := if cls = 6 then
          s.dropQueue unit
        else s
      let s := if cls = 5 then
          s.each (s.granules.filter fun e => e.2.fill.isSome && e.2.waits && s.driveOf e.1 == some unit) fun s e => s.timeFill e.1
        else s
      let s := if cls = 2 then
          s.each (s.voices.filter fun e => galleryOf e.1 == unit) fun s e =>
            s.each e.2.out fun s a => s.endAccess e.1 a St.timeout
        else s
      s.runNet.itemsEnd

/-! ## The commands -/

def unitsOf (l : List (BitVec 4 × BitVec 16)) : List (Nat × Nat) := l.map fun u => (u.1.toNat, u.2.toNat)

def execKeeperReconciliation (differ failed : List (BitVec 4 × BitVec 16)) (s : State) : Host.Outcome State Fault Refusal :=
  .next (s.reconcile (unitsOf differ) (unitsOf failed))

def execFenceTimeout (cls : BitVec 4) (unit : BitVec 16) (s : State) : Host.Outcome State Fault Refusal :=
  .next (s.fenceLate cls.toNat unit.toNat)

def execProxyTimeout (s : State) : Host.Outcome State Fault Refusal := .next s.proxyLost

def State.rasCmd (s : State) (port value : Nat) (act : State → State) : State :=
  s.setupWrite port R.rasCmd (some 0) true (heldWrite port R.rasCmd (BitVec.ofNat 64 value)) act

def execJobReset (port : Port) (s : State) : Host.Outcome State Fault Refusal :=
  .next (s.rasCmd port.toNat 1 fun s => s.jobReset port.toNat)

def execJobResetComplete (s : State) : Host.Outcome State Fault Refusal := .next s.resetEnds

/-- RAS_CMD FOG: the record of the entry names the port. -/
def execFog (port : Port) (s : State) : Host.Outcome State Fault Refusal :=
  .next (s.rasCmd port.toNat 2 fun s => s.fogEnter 7 port.toNat)

def execFogEntryComplete (s : State) : Host.Outcome State Fault Refusal := .next s.fogEntered

def execRasAck (port : Port) (seq : BitVec 32) (s : State) : Host.Outcome State Fault Refusal :=
  .next (s.setupWrite port.toNat R.rasAck (some 0) true (heldWrite port.toNat R.rasAck (seq.setWidth 64)) fun s =>
    s.ack port.toNat seq)

def execRasInject (port : Port) (value : BitVec 32) (s : State) : Host.Outcome State Fault Refusal :=
  .next (s.setupWrite port.toNat R.rasInject (some 0) true (heldWrite port.toNat R.rasInject (value.setWidth 64)) fun s =>
    s.inject port.toNat value)

def execRasLogBaseWrite (port : Port) (value : Word) (s : State) : Host.Outcome State Fault Refusal :=
  .next (s.setupWrite port.toNat R.rasLogBase (some 0) true (heldWrite port.toNat R.rasLogBase value) fun s => s.logBase value)

end Sys2Proof.Machine
end

