-- ==== Sys2Proof/Machine/Keeper.lean ====
section
/-! DEFINITION. The Keeper's commands: the seal, anchors, the partition switch, firmware, and the mailbox registers (R322, R325, R329,
R330, R337 to R341, R388, R389). -/

namespace Sys2Proof.Machine

/-! ## Commands (R341) -/

/-- A KPR command arrives: refused while another runs, and after a boot failure ignored unless it is FW_STAGE (R323). `act` gives
its result and whether something else must end before it completes. -/
def State.kprCommand (s : State) (port : Nat) (fwStage : Bool) (held : Held) (act : State → State × Byte × Bool) : State :=
  s.setupWrite port R.kprCmd none true held fun s =>
    if s.keeper.bootFail && !fwStage then s
    else if s.keeper.cmd.isSome then s.setupError port R.kprCmd 4
    else
      let (s, result, waits) := act s
      { s with keeper := { s.keeper with cmd := some { port := BitVec.ofNat 2 port, result, waits } } }

def kprHeld (port value : Nat) : Held := heldWrite port R.kprCmd (BitVec.ofNat 64 value)

/-- The command in progress completes, unless a switch has still to. -/
def State.kprDone (s : State) : State :=
  match s.keeper.cmd with
  | none => s
  | some c =>
    if c.waits then s
    else
      ({ s with keeper := { s.keeper with cmd := none, last := tput (fun _ => 0) s.keeper.last c.port.toNat c.result } }
        : State).vectorH0 R.kprVector

/-! ## SEAL (R325, R329, R388, R389) -/

/-- The stream the security configuration is measured over. -/
def State.configStream (s : State) : List Byte :=
  let regs := [R.glbHportEn, R.tierDdrEn, R.tierNvmeEn, R.smfDevice, R.smfLevelRack, R.smfPortEn]
    ++ (List.range 18).map R.smfPortCfg ++ (List.range 16).map R.poolPartPorts
  let absent (off : Nat) : Bool := (List.range 18).any fun p => off == R.smfPortCfg p && !s.sportThere p
  regs.flatMap fun off => leBytes 4 (if absent off then 0 else (s.rwkReg off).toNat)

/-- The enable bits take effect: units whose bit is 0 leave service, and links may leave DISABLED (R276). `was` is the device before
the seal. -/
def State.applyEnables (s was : State) : State :=
  let s := s.ddrSettle
  let gone (n : Nat) (there : State → Nat → Bool) : List Nat := (List.range n).filter fun u => there was u && !there s u
  let drives := gone 8 State.nvmeThere
  let hosts := gone 4 State.hostThere
  let s := s.each drives fun s d => s.updDrive d fun _ => Drive.off
  let s := s.each hosts fun s p => (s.updPort p fun x => { x with link := .reset }).hostReset p
  s.each ((List.range 18).filter fun p => s.sportThere p && (s.link p).state == .disabled) fun s p =>
    s.updLink p fun x => { x with state := .down }

/-- After the seal the TAP offers BYPASS and IDCODE alone. -/
def Tap.locked : Tap → Tap
  | .sample => .bypass
  | .extest => .bypass
  | t => t

def State.sealKeeper (s : State) (port : Nat) : State × Byte × Bool :=
  if !s.controls port 0 then (s, St.notOwner, false)
  else if s.keeper.sealed then (s, St.badDescriptor, false)
  else
    let k := { s.keeper with sealed := true, tapLocked := true, measConfig := Config.sha384 s.configStream }
    let t : State := { s with keeper := k, pwr := { s.pwr with tap := s.pwr.tap.locked } }
    ((t.applyEnables s).advanceMgen, St.done, false)

/-! ## ANCHOR, FW_STAGE, COMMIT_SVN (R322, R330, R341) -/

/-- The 48 bytes staged in KPR_ARG0–5. -/
def State.stagedAnchor (s : State) (port : Nat) : BitVec 384 :=
  BitVec.ofNat 384 ((List.range 6).foldl (fun n k => n + (s.reg (stageOff port (R.kprArg k))).toNat * 2 ^ (64 * k)) 0)

def State.setAnchor (s : State) (port t : Nat) : State × Byte × Bool :=
  if !s.controls port t then (s, St.notOwner, false)
  else if !(s.part t).keys.isEmpty ∨ (s.part t).switching then (s, St.badDescriptor, false)
  else
    let a := s.stagedAnchor port
    ((s.updPart t fun x => { x with anchored := true, anchor := a }).advanceMgen, St.done, false)

/-- The bytes of the image pair that FW_STAGE of a port names (R341). -/
def State.stagedPair (s : State) (port : Nat) : List Byte × List Byte :=
  pairOf (s.poolRead (s.reg (stageOff port (R.kprArg 0))).toNat (min (s.reg (stageOff port (R.kprArg 1))).toNat (16 * 2 ^ 20)))

/-- The staged images are checked and written to the copy that did not boot; whether each is genuine is what its signature says. -/
def State.stageFirmware (s : State) (port : Nat) (keeperGenuine coreGenuine : Bool) : State × Byte × Bool :=
  let off := (s.reg (stageOff port (R.kprArg 0))).toNat
  let len := (s.reg (stageOff port (R.kprArg 1))).toNat
  let keeper : Image := { genuine := keeperGenuine, bytes := (s.stagedPair port).1 }
  let core : Image := { genuine := coreGenuine, bytes := (s.stagedPair port).2 }
  if !s.controls port 0 then (s, St.notOwner, false)
  else if off % 4096 ≠ 0 ∨ 16 * 2 ^ 20 < len ∨ !imageOk false keeper s.nvm.fuseSvn ∨ !imageOk true core s.nvm.fuseSvn then
    (s, St.badDescriptor, false)
  else
    let n := if s.keeper.copyB then { s.nvm with keeperA := keeper, coreA := core }
      else { s.nvm with keeperB := keeper, coreB := core }
    ({ s with nvm := n, keeper := { s.keeper with stagedSvn := svnOf keeper.bytes } }, St.done, false)

/-- Fuses are blown up to the version of the running image; none is ever unblown. -/
def State.commit (s : State) (port : Nat) : State × Byte × Bool :=
  if !s.controls port 0 then (s, St.notOwner, false)
  else
    let v := if s.nvm.fuseSvn.toNat < s.keeper.svn.toNat then s.keeper.svn else s.nvm.fuseSvn
    ({ s with nvm := { s.nvm with fuseSvn := v } }, St.done, false)

/-! ## The scrub (R339 steps 1 to 7, R338, R340) -/

/-- A write of this device's engines for a partition, waiting at its home. -/
def HomeWait.ownWrite (w : HomeWait) (s : State) (t : Tenant) : Bool :=
  w.req.src == s.ownEp && w.req.tenant == t && w.op.writes && w.host.isNone

/-- A write with its bytes dropped; its requester is answered all the same. -/
def emptyReq (r : Req) : Req := { r with data := [], mask := 0, poison := false }

/-- The operation of a dropped write: one of no bytes. -/
def HomeOp.emptied (op : HomeOp) : HomeOp := if op.atomic then .wrCm else op

/-- Change the packets on their way across the causeway. -/
def State.mapNet (s : State) (f : Packet → Packet) : State := { s with net := s.net.map f }

/-- Step 2: writes of this device's engines for a partition whose transactions are open, or that are on their way to their homes, are
dropped there. -/
def State.emptyWrites (s : State) (t : Tenant) : State :=
  let own (op : HomeOp) (r : Req) (host : Option (Port × BitVec 16)) : Bool := HomeWait.ownWrite { op, req := r, host } s t
  let txn (x : Txn) : Txn := if own x.op x.req x.host then { x with op := x.op.emptied, req := emptyReq x.req } else x
  let packet (p : Packet) : Packet := match p.msg with
    | .req op r host => if own op r host then { p with msg := .req op.emptied (emptyReq r) host } else p
    | _ => p
  ({ s with txns := s.txns.map fun e => (e.1, txn e.2) } : State).mapNet packet

/-- Step 2: writes not yet applied are dropped, and their requesters answered. -/
def State.dropWrites (s : State) (t : Tenant) : State :=
  (s.emptyWrites t).each s.homeWaits fun s e =>
    let (gone, kept) := e.2.partition fun w => w.ownWrite s t
    (s.setWaits e.1 kept).each gone fun s w =>
      s.answer { op := w.op, req := w.req, host := none, lines := reqLines w.op w.req, awaiting := [], hosts := []
                 sharer := false, forwarded := false, poison := false, hostWait := false, answered := false }
        Op.cmp St.done 0 []

/-- Step 2: accesses of a partition's clauses return nothing. -/
def State.dropAccesses (s : State) (t : Tenant) : State :=
  s.each s.voices fun s e =>
    s.each (e.2.out.filter fun a => a.tenant == t) fun s a => s.dropAccess e.1 a.slot true

/-- A cached line of a partition: dropped from S, zeroed in E and M. -/
def CLine.scrubbed (t : Tenant) (c : CLine) : CLine :=
  if c.tenant ≠ t then c else if c.state = .s then CLine.none else { c with data := 0 }

/-- Step 4: gallery caches, victim buffers and atomic buffers. -/
def State.scrubCaches (s : State) (t : Tenant) : State :=
  let others := s.abuf.filter fun e => e.2.tenant != t
  let s := (s.each others fun s e => s.abufWriteBack (e.1 / 2 ^ 50) (e.1 % 2 ^ 50)).runNet
  { s with
    abuf := s.abuf.filter fun e => e.2.tenant != t
    gcache := tmap (fun _ => CLine.none) (fun _ c => c.scrubbed t) s.gcache
    victims := s.victims.map fun e => (e.1, if e.2.tenant = t then { e.2 with data := 0 } else e.2) }

/-- The cores that carry a partition. -/
def State.carriers (s : State) (t : Nat) : List Nat := (s.carries.filter fun e => bit e.2 t).map Prod.fst

/-- Slots of items of other partitions that have a clause on one of these cores, in some sentence of the sequence. -/
def State.slotsOn (s : State) (cores : List Nat) (t : Nat) : List Nat :=
  let clauses := s.sequence.flatMap fun i => clausesOf (sentenceBytes s.activeBytes i)
  let slots := (clauses.filter fun c => cores.contains (coreOf c.voice)).map fun c => c.slot
  ((s.rot.items.filter fun e => e.2.tenant.toNat != t && slots.contains e.1)).map Prod.fst

/-- Step 5, and what it costs other partitions (R338). -/
def State.scrubCores (s : State) (t : Nat) : State :=
  let cores := s.carriers t
  let s := s.each (s.slotsOn cores t) fun s slot => s.stopItem slot (Cpl.of St.stopped)
  s.each cores State.clearCore

/-- A ring of the partition stops fetching; a ring in ERROR will be STOPPED too (R36). -/
def Ring.scrubbed (x : Ring) : Ring :=
  { x with state := if x.state = .stopped then .stopped else .stopping, fetching := 0 }

/-- Steps 1 to 7: everything partition t has running ends, and its data leaves the die. -/
def State.scrub (s : State) (t : Nat) (erase : Bool) : State :=
  let ten := BitVec.ofNat 4 t
  let own (r : RingId) : Bool := (s.ring r.toNat).tenant == t
  let rings := s.openRings.filter fun r => (s.ring r).tenant == t
  let s := s.updPart t fun x => { x with switching := true, erase }
  let s := s.dropItems fun it => it.tenant == ten
  let s := s.each rings fun s r => s.updRing r Ring.scrubbed
  let s := s.each (s.installs.filter fun i => own i.ring) State.stopInstall
  let s := { s with grads := dropIf (fun (g : GradSum) => own g.ring) s.grads }
  let s := ((s.releaseReliefs own).undoOps own).detach own
  let s := (((s.haltVoices fun x => x == ten).dropAccesses ten).dropWrites ten).haltEngines own
  let s : State := { s with
    tlb := s.tlb.filter fun e => e.tenant != ten
    walkCache := s.walkCache.filter fun e => e.tenant != ten
    walks := s.walks.filter fun e => e.2.tenant != ten }
  let s := ((s.runNet).scrubCaches ten).scrubCores t
  let s := { s with steps := dropIf (fun (e : StepEntry) => e.tenant == ten) s.steps }
  let s := s.each ((List.range 64).filter fun r => s.regionTenant r == t) State.dropBlocks
  let s := s.each rings fun s r => s.endAll r (Cpl.of St.tenantScrubbed)
  s.runNet.itemsEnd

def State.switchPart (s : State) (port t : Nat) (erase : Bool) : State × Byte × Bool :=
  if !s.controls port t then (s, St.notOwner, false)
  else if (s.part t).switching then (s, St.badDescriptor, false)
  else (s.scrub t erase, St.done, true)

/-! ## The end of a switch (R339 steps 8 and 9) -/

/-- A partition after its switch: no model keys, one more switch, and with ERASE a fresh key and no anchor. -/
def Part.switched (x : Part) : Part :=
  let y : Part := { x with
    switching := false, erase := false, keys := []
    switches := if x.switches = 0xFFFFFFFF then x.switches else x.switches + 1 }
  if x.erase then { y with anchored := false, anchor := 0, keyGen := x.keyGen + 1 } else y

/-- The regions bound to a partition, and of those the ones a key slot opens. -/
def State.boundRegions (s : State) (t : Nat) (key : Option Nat) : List Nat :=
  (List.range 64).filter fun r =>
    (s.regionValid r || s.regionPending r) && s.regionTenant r == t && key.getD (s.regionKey r) == s.regionKey r

def State.switchEnds (s : State) (t : Nat) : State :=
  let x := s.part t
  if !x.switching then s
  else
    let s := s.each (s.boundRegions t none) fun s r => s.regionClear r t (s.regionKey r)
    let s := s.each x.keys fun s _ => s.advanceMgen
    let s := if x.erase then (s.putRoot t noRoot).dropXlat (BitVec.ofNat 4 t) true 0 0 else s
    let s := (s.updPart t Part.switched).advanceMgen
    let s := { s with keeper := { s.keeper with cmd := s.keeper.cmd.map fun (c : KprCmd) => { c with waits := false } } }
    let s := s.each (s.openRings.filter fun r => (s.ring r).tenant == t) State.settle
    if s.ras.resetWaits ∧ !((List.range 16).any fun u => (s.part u).switching) then s.resetBegin else s

/-! ## The mailbox registers (R341) -/

/-- The packet staged in KPR_MBX_TX goes to the Keeper. -/
def State.mailboxSend (s : State) (port : Nat) (len : BitVec 32) : State :=
  let n := fld len 0 11
  if s.keeper.bootFail then s
  else if s.keeper.mbxBusy then s.setupError port R.kprMbxTxLen 5
  else if n = 0 ∨ 1024 < n then s.setupError port R.kprMbxTxLen 2
  else ({ s with keeper := { s.keeper with mbxBusy := true } } : State).setReg R.kprMbxTxLen (BitVec.ofNat 64 n)

/-- The next packet of an answer becomes the incoming one; what is beyond its 1,024 bytes waits for it to be read. -/
def State.mailboxLoad (s : State) (bytes : List Byte) : State :=
  let p := bytes.take 1024
  let s : State := { s with keeper := { s.keeper with mbxFull := true, mbxRest := bytes.drop 1024 } }
  let s := s.each (List.range 128) fun s k => s.setReg (R.kprMbxRx k) (BitVec.ofNat 64 (numAt p (8 * k) 8))
  (s.setReg R.kprMbxRxLen (BitVec.ofNat 64 (p.length + 2 ^ 31))).vectorH0 R.kprVector

def State.mailboxAck (s : State) (value : BitVec 32) : State :=
  if s.keeper.bootFail ∨ !bit value 0 then s
  else if s.keeper.mbxFull ∧ s.keeper.mbxRest ≠ [] then s.mailboxLoad s.keeper.mbxRest
  else ({ s with keeper := { s.keeper with mbxFull := false } } : State).setReg R.kprMbxRxLen 0

/-! ## The commands -/

def execSeal (port : Port) (s : State) : Host.Outcome State Fault Refusal :=
  .next (s.kprCommand port.toNat false (kprHeld port.toNat 1) fun s => s.sealKeeper port.toNat)

def execAnchor (port : Port) (t : Tenant) (s : State) : Host.Outcome State Fault Refusal :=
  .next (s.kprCommand port.toNat false (kprHeld port.toNat (2 + t.toNat * 256)) fun s => s.setAnchor port.toNat t.toNat)

def execSwitch (port : Port) (t : Tenant) (erase : Bool) (s : State) : Host.Outcome State Fault Refusal :=
  .next (s.kprCommand port.toNat false (kprHeld port.toNat (3 + t.toNat * 256 + b2n erase * 4096)) fun s =>
    s.switchPart port.toNat t.toNat erase)

def execSwitchComplete (t : Tenant) (s : State) : Host.Outcome State Fault Refusal := .next (s.switchEnds t.toNat)

def execFwStage (port : Port) (keeper core : Bool) (s : State) : Host.Outcome State Fault Refusal :=
  .next (s.kprCommand port.toNat true (.fwStage port keeper core) fun s => s.stageFirmware port.toNat keeper core)

def execCommitSvn (port : Port) (s : State) : Host.Outcome State Fault Refusal :=
  .next (s.kprCommand port.toNat false (kprHeld port.toNat 5) fun s => s.commit port.toNat)

def execKprCommandComplete (s : State) : Host.Outcome State Fault Refusal := .next s.kprDone

def execMailboxSend (port : Port) (len : BitVec 32) (s : State) : Host.Outcome State Fault Refusal :=
  .next (s.setupWrite port.toNat R.kprMbxTxLen none true (heldWrite port.toNat R.kprMbxTxLen (len.setWidth 64)) fun s =>
    s.mailboxSend port.toNat len)

def execMailboxRxAck (port : Port) (value : BitVec 32) (s : State) : Host.Outcome State Fault Refusal :=
  .next (s.setupWrite port.toNat R.kprMbxRxAck none true (heldWrite port.toNat R.kprMbxRxAck (value.setWidth 64)) fun s =>
    s.mailboxAck value)

end Sys2Proof.Machine
end

