-- ==== Sys2Proof/Machine/Spdm.lean ====
section
/-! DEFINITION. What the Keeper answers: MCTP control, SPDM, the attestation report, model keys and PLDM (R326 to R328, R331, R332). -/

namespace Sys2Proof.Machine

/-! ## Bindings (R327, R341) -/

/-- The binding of the KPR mailbox; 0 is I3C, and 1 to 4 are PCIe VDM on H0 to H3. -/
def mailboxBinding : Nat := 5

/-- Can a message arrive over a binding, and its answer leave? The mailbox holds one packet each way. -/
def State.bindingUp (s : State) (b : Nat) : Bool :=
  s.keeper.booted && s.pwr.state != .off &&
    (b == 0 || (decide (1 ≤ b ∧ b ≤ 4) && s.hostThere (b - 1) && (s.port (b - 1)).link == .up)
      || (b == mailboxBinding && s.keeper.mbxBusy && !s.keeper.mbxFull))

/-- A message of the Keeper's: its type, then its body. Over the mailbox it becomes the incoming packet of the driver, and the
Keeper has read the outgoing one. -/
def State.say (s : State) (b : Nat) (bytes : List Byte) : State :=
  if b = mailboxBinding then
    ({ s with keeper := { s.keeper with mbxBusy := false } } : State).mailboxLoad bytes
  else s.emit (.mctp (BitVec.ofNat 3 b) bytes)

/-- A request over a binding that is up. -/
def State.asked? (s : State) (b : Nat) (act : State → State) : State := if s.bindingUp b then act s else s

/-! ## MCTP control (R327) -/

/-- An MCTP control answer: message type 0, command, completion code, data. -/
def State.control (s : State) (b command code : Nat) (data : List Byte) : State :=
  s.say b ([0x00, BitVec.ofNat 8 command, BitVec.ofNat 8 code] ++ data)

def State.eid (s : State) (b : Nat) : Byte := tget (fun _ => 0) s.keeper.eids b

def State.setEid (s : State) (b : Nat) (eid : Byte) : State :=
  if eid = 0 ∨ eid = 0xFF then s.control b 1 2 []
  else
    let s : State := { s with keeper := { s.keeper with eids := tput (fun _ => 0) s.keeper.eids b eid } }
    s.control b 1 0 [0, eid, 0]

def State.getEid (s : State) (b : Nat) : State := s.control b 2 0 [s.eid b, 0, 0]

/-- The message types supported. -/
def mctpTypes : List Byte := [0x00, 0x01, 0x05, 0x06]

def State.mctpVersion (s : State) (b : Nat) (type : Byte) : State :=
  if type = 0xFF ∨ mctpTypes.contains type then s.control b 4 0 (Config.pldmBody [4, type] []) else s.control b 4 0x80 []

def State.mctpTypesAnswer (s : State) (b : Nat) : State := s.control b 5 0 (4 :: mctpTypes)

/-- Any other control command is answered ERROR_UNSUPPORTED_CMD. -/
def State.unsupported (s : State) (b : Nat) (command : Byte) : State :=
  if command = 1 ∨ command = 2 ∨ command = 4 ∨ command = 5 then s else s.control b command.toNat 5 []

/-! ## SPDM connections (R328) -/

def State.conn (s : State) (b : Nat) : Nat := tget (fun _ => 0) s.keeper.conns b

def State.setConn (s : State) (b n : Nat) : State :=
  { s with keeper := { s.keeper with conns := tput (fun _ => 0) s.keeper.conns b n } }

def State.setChunkOut (s : State) (b : Nat) (l : List Byte) : State :=
  { s with keeper := { s.keeper with chunkOut := tput (fun _ => []) s.keeper.chunkOut b l } }

def State.setChunkIn (s : State) (b : Nat) (l : List Byte) : State :=
  { s with keeper := { s.keeper with chunkIn := tput (fun _ => []) s.keeper.chunkIn b l } }

/-- An SPDM ERROR of version 1.3 with its code and data. -/
def spdmError (code data : Nat) : List Byte := [0x13, 0x7F, BitVec.ofNat 8 code, BitVec.ofNat 8 data]

def State.spdmFail (s : State) (b code : Nat) : State := s.say b (0x05 :: spdmError code 0)

/-- A message of type `type`: one above the transfer size waits to be read in chunks, and ERROR LargeResponse says so. -/
def State.spdmSay (s : State) (b : Nat) (type : Byte) (body : List Byte) : State :=
  if 1024 < body.length then (s.setChunkOut b body).say b (type :: spdmError 0x0F 0) else s.say b (type :: body)

/-- A request outside a session, answered once the connection has come as far as it needs. -/
def State.spdmRequest (s : State) (b code need : Nat) (body content : List Byte) (act : State → State) : State :=
  s.asked? b fun s =>
    if s.conn b < need then s.spdmFail b 4 else (act s).spdmSay b 0x05 (Config.spdmBody code body content)

/-- The identity key, derived from the fused secret with "ZARMEL-ID" (R324). -/
def State.identity (s : State) : BitVec 384 := Config.hkdf s.nvm.secret [0x5A, 0x41, 0x52, 0x4D, 0x45, 0x4C, 0x2D, 0x49, 0x44]

/-- A response signed with the identity key. -/
def State.signedBody (s : State) (code : Nat) (body content : List Byte) : List Byte := Config.spdmSigned s.identity code body content

/-- GET_VERSION starts a connection afresh. -/
def State.spdmVersion (s : State) (b : Nat) (body : List Byte) : State :=
  s.spdmRequest b 0x84 0 body [] fun s => ((s.setConn b 1).setChunkIn b []).setChunkOut b []

def State.spdmCapabilities (s : State) (b : Nat) (body : List Byte) : State :=
  s.spdmRequest b 0xE1 1 body [] fun s => s.setConn b (max 2 (s.conn b))

/-- NEGOTIATE_ALGORITHMS; with no algorithm in common the request is invalid. -/
def State.spdmAlgorithms (s : State) (b : Nat) (body : List Byte) (common : Bool) : State :=
  if !common then s.asked? b fun s => s.spdmFail b (if s.conn b < 2 then 4 else 1)
  else s.spdmRequest b 0xE3 2 body [] fun s => s.setConn b 3

/-- A request about a certificate slot: slot 0 alone holds a chain, the one in flash. -/
def State.spdmSlot (s : State) (b code : Nat) (slot : Byte) (body : List Byte) : State :=
  s.asked? b fun s =>
    if 3 ≤ s.conn b ∧ slot ≠ 0 then s.spdmFail b 1 else s.spdmRequest b code 3 body s.nvm.chain id

/-- CHALLENGE, answered with a signature. -/
def State.challenge (s : State) (b : Nat) (slot : Byte) (body : List Byte) : State :=
  s.asked? b fun s =>
    if s.conn b < 3 then s.spdmFail b 4
    else if slot ≠ 0 then s.spdmFail b 1
    else s.spdmSay b 0x05 (s.signedBody 0x83 body s.nvm.chain)

/-! ## The report (R326) -/

def le (n v : Nat) : List Byte := leBytes n v

def State.bookEntry (s : State) (n : Nat) : List Byte :=
  let x := s.book n
  let shown := x.state == .loaded || x.state == .loading
  le 1 (s.bookStatus / 2 ^ (8 * n) % 16) ++ le 7 (b2n (s.activeBook n)) ++ le 48 (if shown then x.digest.toNat else 0) ++ le 8 0

/-- The mask of slots that hold a model key. -/
def Part.keyMask (x : Part) : Nat := x.keys.foldl (fun m k => m + 2 ^ (k.1 % 16)) 0

def State.tenantEntry (s : State) (t : Nat) : List Byte :=
  let x := s.part t
  le 2 (b2n x.switching + 2 * b2n x.anchored) ++ le 2 x.keyMask ++ le 4 x.switches.toNat ++ le 48 x.anchor.toNat ++ le 8 0

def State.regionEntry (s : State) (r : Nat) : List Byte :=
  le 1 r ++ le 7 (s.regionTenant r + 16 * s.regionKey r) ++ le 8 (s.regionBase r) ++ le 8 (s.regionSize r)
    ++ le 48 (tget (fun _ => 0) s.keeper.measRegion r).toNat ++ le 8 0

/-- The attestation report as it is formed now. -/
def State.report (s : State) : List Byte :=
  let k := s.keeper
  let regions := (List.range 64).filter s.regionValid
  let config := if k.sealed then k.measConfig.toNat else 0
  le 4 0x3152415A ++ le 2 1 ++ le 2 regions.length ++ le 4 (1536 + 80 * regions.length) ++ le 1 s.devNo
    ++ le 1 (b2n k.sealed + 2 * b2n k.tapLocked + 4 * b2n k.copyB) ++ le 1 k.svn.toNat ++ le 1 s.nvm.fuseSvn.toNat
    ++ le 16 s.nvm.serial.toNat ++ le 8 k.reports.toNat ++ le 8 s.rotNo.toNat ++ le 8 (s.reg R.kprMgen).toNat ++ le 8 0
    ++ le 48 k.measKeeper.toNat ++ le 48 k.measCore.toNat ++ le 48 config ++ le 48 0
    ++ (List.range 4).flatMap s.bookEntry ++ (List.range 16).flatMap s.tenantEntry ++ regions.flatMap s.regionEntry

/-! ## Sessions (R328) -/

def State.spdm (s : State) (i : Nat) : Option Spdm := lget s.keeper.sessions i

def State.setSpdm (s : State) (i : Nat) (x : Spdm) : State :=
  { s with keeper := { s.keeper with sessions := lput s.keeper.sessions i x } }

def State.dropSpdm (s : State) (i : Nat) : State :=
  { s with keeper := { s.keeper with sessions := ldel s.keeper.sessions i } }

/-- A request within a finished session, answered over its binding. -/
def State.inSession (s : State) (i : Nat) (act : State → Spdm → State) : State :=
  match s.spdm i with
  | none => s
  | some x => s.asked? x.binding fun s => if x.finished then act s x else s.say x.binding (0x06 :: spdmError 4 0)

/-- KEY_EXCHANGE opens a session; a fifth is refused. -/
def State.keyExchange (s : State) (b : Nat) (body : List Byte) : State :=
  s.asked? b fun s =>
    if s.conn b < 3 then s.spdmFail b 4
    else
      match least (fun i => (s.spdm i).isNone) 4 with
      | none => s.spdmFail b 0x0A
      | some i =>
        (s.setSpdm i { binding := b, finished := false, mutually := false, root := 0, report := none }).spdmSay b 0x05
          (s.signedBody 0xE4 body [BitVec.ofNat 8 i])

/-- FINISH; one that does not verify ends the session. -/
def State.finishSession (s : State) (i : Nat) (mutually : Bool) (root : BitVec 384) (verified : Bool) : State :=
  match s.spdm i with
  | none => s
  | some x =>
    s.asked? x.binding fun s =>
      if x.finished then s.say x.binding (0x06 :: spdmError 4 0)
      else if !verified then (s.dropSpdm i).say x.binding (0x06 :: spdmError 6 0)
      else
        (s.setSpdm i { x with finished := true, mutually, root := if mutually then root else 0 }).spdmSay x.binding 0x06
          (Config.spdmBody 0xE5 [] [])

def State.sessionSay (s : State) (x : Spdm) (code : Nat) (body content : List Byte) : State :=
  s.spdmSay x.binding 0x06 (Config.spdmBody code body content)

/-! ## GET_MEASUREMENTS (R326, R328) -/

/-- The content of a measurement index, and whether it is or holds the report. Index 0 asks how many there are, 0xFF for all. -/
def State.measurement (s : State) (index : Nat) : Option (List Byte × Bool) :=
  let k := s.keeper
  let own := [le 48 k.measKeeper.toNat, le 48 k.measCore.toNat, le 48 (if k.sealed then k.measConfig.toNat else 0)]
  match index with
  | 0 => some ([4], false)
  | 1 => some (own[0]!, false)
  | 2 => some (own[1]!, false)
  | 3 => some (own[2]!, false)
  | 0xF0 => some (s.report, true)
  | 0xFF => some (own.flatten ++ s.report, true)
  | _ => none

/-- GET_MEASUREMENTS, outside a session or within one. A signed report within a session starts the 60 s of R331. -/
def State.getMeasurements (s : State) (b : Nat) (session : Option Nat) (index : Nat) (signed : Bool) (body : List Byte) : State :=
  let go (s : State) (b : Nat) (type : Byte) (x : Option (Nat × Spdm)) : State :=
    match s.measurement index with
    | none => s.say b (type :: spdmError 1 0)
    | some (_, holds) =>
      let s : State := if holds then { s with keeper := { s.keeper with reports := s.keeper.reports + 1 } } else s
      let content := match s.measurement index with
        | some (c, _) => c
        | none => []
      let s := match x with
        | some (i, x) => if holds && signed && index == 0xF0 then s.setSpdm i { x with report := some (s.time, s.reg R.kprMgen) } else s
        | none => s
      let request := BitVec.ofNat 8 index :: (if signed then 1 else 0) :: body
      s.spdmSay b type (if signed then s.signedBody 0xE0 request content else Config.spdmBody 0xE0 request content)
  match session with
  | some i => s.inSession i fun s x => go s x.binding 0x06 (some (i, x))
  | none => s.asked? b fun s => if s.conn b < 3 then s.spdmFail b 4 else go s b 0x05 none

/-! ## Chunks (R328) -/

/-- A part of a large request; the request itself follows as a command of its own. -/
def State.chunkIn (s : State) (b handle seq : Nat) (last : Bool) (body : List Byte) : State :=
  s.asked? b fun s =>
    if s.conn b < 3 then s.spdmFail b 4
    else
      let held := if seq = 0 then [] else tget (fun _ => []) s.keeper.chunkIn b
      (s.setChunkIn b (if last then [] else held ++ body)).spdmSay b 0x05
        (Config.spdmBody 0x85 [BitVec.ofNat 8 handle, BitVec.ofNat 8 seq] [])

/-- A part of a large answer: 1,024 bytes of it. -/
def State.chunkGet (s : State) (b handle seq : Nat) : State :=
  s.asked? b fun s =>
    let whole := tget (fun _ => []) s.keeper.chunkOut b
    if s.conn b < 3 then s.spdmFail b 4
    else if whole.length ≤ 1024 * seq then s.spdmFail b 1
    else
      let part := slice whole (1024 * seq) (min 1024 (whole.length - 1024 * seq))
      let s := if whole.length ≤ 1024 * (seq + 1) then s.setChunkOut b [] else s
      s.say b (0x05 :: Config.spdmBody 0x86 [BitVec.ofNat 8 handle, BitVec.ofNat 8 seq] part)

/-! ## Model keys (R331, R332) -/

/-- Fields of the payload of R331. -/
def keyTenant (p : List Byte) : Nat := numAt p 1 1 % 16
def keySlot (p : List Byte) : Nat := numAt p 1 1 / 16

/-- Is a payload malformed: its length, its OP, or a reserved byte that is not 0? -/
def keyBad (op len : Nat) (p : List Byte) : Bool := decide (p.length < len) || numAt p 0 1 != op || numAt p 2 2 != 0

def Part.key (x : Part) (slot : Nat) : Option ModelKey := lget x.keys slot

/-- The ownership check: the device is sealed, and the session is authenticated with the certificate of the partition's anchor. -/
def State.keyOwner (s : State) (x : Spdm) (t : Nat) : Bool :=
  s.keeper.sealed && x.mutually && (s.part t).anchored && x.root == (s.part t).anchor

/-- Was a signed report sent on the session within 60 s, and has no measurement changed since? -/
def State.freshReport (s : State) (x : Spdm) : Bool :=
  match x.report with
  | some (t, gen) => decide (s.time ≤ t + 60000000000) && gen == s.reg R.kprMgen
  | none => false

def State.installStatus (s : State) (x : Spdm) (p : List Byte) : Byte :=
  let t := keyTenant p
  if keyBad 1 40 p ∨ ((s.part t).key (keySlot p)).isSome then St.badDescriptor
  else if s.ras.fog then St.fog
  else if (s.part t).switching then St.stopped
  else if !s.keyOwner x t then St.notOwner
  else if !s.freshReport x then St.staleVersion
  else St.done

def State.putKey (s : State) (t slot : Nat) (k : ModelKey) : State :=
  (s.updPart t fun x => { x with keys := lput x.keys slot k }).advanceMgen

def State.keyInstall (s : State) (i : Nat) (p : List Byte) : State :=
  s.inSession i fun s x =>
    let st := s.installStatus x p
    let k : ModelKey := { key := BitVec.ofNat 256 (numAt p 8 32), pfx := BitVec.ofNat 32 (numAt p 4 4) }
    let s := if st = St.done then s.putKey (keyTenant p) (keySlot p) k else s
    s.sessionSay x 0xFE [BitVec.ofNat 8 1, st] []

/-- The regions bound to a slot stop being VALID, then the key is erased. -/
def State.eraseKey (s : State) (t slot : Nat) : State :=
  let s := s.each (s.boundRegions t (some slot)) fun s r => s.regionClear r t slot
  if ((s.part t).key slot).isSome then (s.updPart t fun x => { x with keys := ldel x.keys slot }).advanceMgen else s

def State.keyDestroy (s : State) (i : Nat) (p : List Byte) : State :=
  s.inSession i fun s x =>
    let st := if keyBad 2 4 p then St.badDescriptor else if !s.keyOwner x (keyTenant p) then St.notOwner else St.done
    let s := if st = St.done then s.eraseKey (keyTenant p) (keySlot p) else s
    s.sessionSay x 0xFE [BitVec.ofNat 8 2, st] []

/-! ## PLDM (R327, R363) -/

/-- The register that holds a numeric sensor: galleries, I/O dies, stacks and channels in their order, then input voltage, current
and power. -/
def sensorReg (n : Nat) : Option Nat :=
  if n < 32 then some (R.pwrTempG n)
  else if n < 34 then some (R.pwrTempIo (n - 32))
  else if n < 42 then some (R.pwrTempS (n - 34))
  else if n < 58 then some (R.pwrTempD (n - 42))
  else if n = 58 then some R.pwrVin
  else if n = 59 then some R.pwrIin
  else if n = 60 then some R.pwrInput
  else none

def State.pldm (s : State) (b sensor : Nat) (body : List Byte) : State :=
  s.asked? b fun s =>
    let value := match sensorReg sensor with
      | some off => le 4 (s.reg off).toNat
      | none => []
    s.say b (0x01 :: Config.pldmBody body value)

/-! ## The commands -/

def execGetVersion (binding : BitVec 3) (body : List Byte) (s : State) : Host.Outcome State Fault Refusal :=
  .next (s.spdmVersion binding.toNat body)

def execGetCapabilities (binding : BitVec 3) (body : List Byte) (s : State) : Host.Outcome State Fault Refusal :=
  .next (s.spdmCapabilities binding.toNat body)

def execNegotiateAlgorithms (binding : BitVec 3) (body : List Byte) (common : Bool) (s : State) :
    Host.Outcome State Fault Refusal := .next (s.spdmAlgorithms binding.toNat body common)

def execGetDigests (binding : BitVec 3) (body : List Byte) (s : State) : Host.Outcome State Fault Refusal :=
  .next (s.spdmSlot binding.toNat 0x81 0 body)

def execGetCertificate (binding : BitVec 3) (slot : Byte) (body : List Byte) (s : State) : Host.Outcome State Fault Refusal :=
  .next (s.spdmSlot binding.toNat 0x82 slot body)

def execChallenge (binding : BitVec 3) (slot : Byte) (body : List Byte) (s : State) : Host.Outcome State Fault Refusal :=
  .next (s.challenge binding.toNat slot body)

def execGetMeasurements (binding : BitVec 3) (session : Option (BitVec 2)) (index : Byte) (signed : Bool) (body : List Byte)
    (s : State) : Host.Outcome State Fault Refusal :=
  .next (s.getMeasurements binding.toNat (session.map BitVec.toNat) index.toNat signed body)

def execKeyExchange (binding : BitVec 3) (body : List Byte) (s : State) : Host.Outcome State Fault Refusal :=
  .next (s.keyExchange binding.toNat body)

def execFinish (session : BitVec 2) (mutually : Bool) (rootDigest : BitVec 384) (verified : Bool) (s : State) :
    Host.Outcome State Fault Refusal := .next (s.finishSession session.toNat mutually rootDigest verified)

def execHeartbeat (session : BitVec 2) (s : State) : Host.Outcome State Fault Refusal :=
  .next (s.inSession session.toNat fun s x => s.sessionSay x 0xE8 [] [])

def execKeyUpdate (session : BitVec 2) (body : List Byte) (s : State) : Host.Outcome State Fault Refusal :=
  .next (s.inSession session.toNat fun s x => s.sessionSay x 0xE9 body [])

def execEndSession (session : BitVec 2) (s : State) : Host.Outcome State Fault Refusal :=
  .next (s.inSession session.toNat fun s x => (s.sessionSay x 0xEC [] []).dropSpdm session.toNat)

def execChunkSend (binding : BitVec 3) (handle : Byte) (seq : BitVec 16) (last : Bool) (body : List Byte) (s : State) :
    Host.Outcome State Fault Refusal := .next (s.chunkIn binding.toNat handle.toNat seq.toNat last body)

def execChunkGet (binding : BitVec 3) (handle : Byte) (seq : BitVec 16) (s : State) : Host.Outcome State Fault Refusal :=
  .next (s.chunkGet binding.toNat handle.toNat seq.toNat)

def execKeyInstall (session : BitVec 2) (payload : List Byte) (s : State) : Host.Outcome State Fault Refusal :=
  .next (s.keyInstall session.toNat payload)

def execKeyDestroy (session : BitVec 2) (payload : List Byte) (s : State) : Host.Outcome State Fault Refusal :=
  .next (s.keyDestroy session.toNat payload)

def execSetEndpointId (binding : BitVec 3) (eid : Byte) (s : State) : Host.Outcome State Fault Refusal :=
  .next (s.asked? binding.toNat fun s => s.setEid binding.toNat eid)

def execGetEndpointId (binding : BitVec 3) (s : State) : Host.Outcome State Fault Refusal :=
  .next (s.asked? binding.toNat fun s => s.getEid binding.toNat)

def execGetMctpVersionSupport (binding : BitVec 3) (msgType : Byte) (s : State) : Host.Outcome State Fault Refusal :=
  .next (s.asked? binding.toNat fun s => s.mctpVersion binding.toNat msgType)

def execGetMessageTypeSupport (binding : BitVec 3) (s : State) : Host.Outcome State Fault Refusal :=
  .next (s.asked? binding.toNat fun s => s.mctpTypesAnswer binding.toNat)

def execUnsupportedMctpCommand (binding : BitVec 3) (command : Byte) (s : State) : Host.Outcome State Fault Refusal :=
  .next (s.asked? binding.toNat fun s => s.unsupported binding.toNat command)

def execPldmRequest (binding : BitVec 3) (sensor : BitVec 16) (body : List Byte) (s : State) : Host.Outcome State Fault Refusal :=
  .next (s.pldm binding.toNat sensor.toNat body)

end Sys2Proof.Machine
end

