-- ==== Sys2Proof/Machine/Power.lean ====
section
/-! DEFINITION. Dark, PWR_CMD, sensors, throttles, the fabric clock and the TAP (R361 to R363, R366 to R370, R372, R378, R400 to
R403). -/

namespace Sys2Proof.Machine

def State.updPwr (s : State) (f : Pwr → Pwr) : State := { s with pwr := f s.pwr }

/-! ## PWR_CMD (R367, R378) -/

def State.pwrResult (s : State) (b : Byte) : State := s.updPwr fun p => { p with result := b }

/-- A PWR_CMD write through a port that does not control partition 0 is ignored, wakes nothing, and shows in RESULT. -/
def State.pwrForeign (s : State) (port : Nat) : State := (s.setupError port R.pwrCmd 6).pwrResult St.notOwner

/-- A PWR_CMD write. While BUSY reads 1, as the device goes Dark or wakes, it is ignored, though it stops an entry (R366, R383). -/
def State.pwrCommand (s : State) (port op : Nat) (act : State → State) : State :=
  let there := s.hostThere port && (s.port port).link == .up
  if s.asleep && there && !s.controls port 0 then s.pwrForeign port
  else if there && (s.pwr.state == .entering || s.pwr.state == .waking) then (s.wakeTrigger 2).setupError port R.pwrCmd 4
  else
    s.setupWrite port R.pwrCmd none true (heldWrite port R.pwrCmd (BitVec.ofNat 64 op)) fun s =>
      if !s.controls port 0 then s.pwrForeign port else act s

/-- May the device go Dark? -/
def State.mayDark (s : State) : Bool :=
  s.pwr.state == .on && s.rot.align == .halted && s.rot.items.isEmpty && !s.ras.fog
    && !((List.range 16).any fun t => (s.part t).switching) && !s.ras.resetBusy
    && s.ras.reliefs.all (fun r => r.started && r.copied && !s.reliefWaits r) && s.drains.isEmpty
    && s.modeSwitches.isEmpty && s.rot.loading.isNone && s.tabCmd.isNone

/-- DARK: the entry begins, and every drive in service receives Flush (R368). -/
def State.dark (s : State) : State :=
  if !s.mayDark then s.pwrResult St.badDescriptor
  else ((s.pwrResult St.done).updPwr fun p => { p with state := .entering }).each s.drivesUp fun s d => s.issueDrive d flushCode

/-- Is nothing in flight that the entry waits for: descriptors, requests of hosts and of the fabric, memory transactions, and the
Flushes? -/
def State.quietNow (s : State) : Bool :=
  !s.anyBusy && s.txns.isEmpty && s.memTxns == 0
    && s.ports.all (fun e => e.2.inflight.isEmpty && e.2.waiting.isEmpty)
    && (List.range 8).all fun d => !((s.drive d).cmds.contains flushCode || (s.drive d).queued.contains flushCode)

/-- The last step of the entry. -/
def State.darkEntered (s : State) : State :=
  if s.pwr.state ≠ .entering ∨ !s.quietNow then s
  else
    let s := s.each ((List.range 18).filter fun p => (s.link p).state == .active) fun s p =>
      s.updLink p fun x => { x with state := .idle }
    let s := s.each ((List.range 4).filter fun p => (s.port p).link == .up) fun s p => s.updPort p fun x => { x with l1 := true }
    (s.updPwr fun p => { p with state := .dark }).count R.pwrDarkTotal

/-- A host begins to leave L1 (R370). -/
def State.l1Exit (s : State) (p : Nat) : State :=
  if !s.hostThere p ∨ (s.port p).link ≠ .up then s
  else (s.updPort p fun x => { x with l1 := false }).wakeTrigger 4

/-! ## Throttles (R362) -/

/-- Does a trigger of a throttle hold? -/
def Throttle.triggered (t : Throttle) : Bool := t.power || !t.thermal.isEmpty || t.margin

/-- A throttle begins when a trigger appears; the rotation in progress is no longer at rated occupancy (R82). One with a temperature
among its triggers is a thermal throttle, and its start is recorded once. -/
def State.throttleCheck (s : State) : State :=
  let t := s.pwr.throttle
  if !t.triggered then s
  else
    let s := if t.inForce then s
      else (s.updRot fun r => { r with overran := r.overran || r.phase != .idle, parity := false }).count R.pwrThrottleTotal
    let s := match t.thermal, t.wasThermal with
      | x :: _, false => s.record (ErrRec.plain 1 (x / 64) (x % 64) 10)
      | _, _ => s
    s.updPwr fun p => { p with throttle := { t with
      inForce := true, wasPower := t.wasPower || t.power, wasThermal := t.wasThermal || !t.thermal.isEmpty } }

/-- Every trigger has been clear for 10 ms. -/
def State.throttleEnds (s : State) : State :=
  if s.pwr.throttle.triggered then s
  else s.updPwr fun p => { p with throttle := { p.throttle with inForce := false, wasPower := false, wasThermal := false } }

/-- The input enters or leaves a margin band (R361). -/
def State.margin (s : State) (inside : Bool) : State :=
  if s.pwr.state = .off then s
  else (s.updPwr fun p => { p with vinMargin := inside, throttle := { p.throttle with margin := inside } }).throttleCheck

/-! ## Sensors (R363) -/

/-- A sensor: error class and unit, the register that shows it, its four thresholds, what it reads. -/
structure Sensor where
  cls : Nat
  unit : Nat
  reg : Nat
  warning : Int
  throttle : Int
  critical : Int
  shutdown : Int
  value : Byte
deriving DecidableEq, Repr

def Sensor.code (x : Sensor) : Nat := x.cls * 64 + x.unit

/-- A reading in °C, two's complement. -/
def Sensor.temp (x : Sensor) : Int := x.value.toInt

/-- The sensors of the units fitted, as a sample reads them. -/
def State.sensors (s : State) (x : Sample) : List Sensor :=
  let get (l : List Byte) (i : Nat) : Byte := l.getD i 0
  ((List.range 32).map fun i => Sensor.mk 2 i (R.pwrTempG i) 95 100 110 120 (get x.gallery i))
    ++ ((List.range s.variant.ioDies).map fun i => Sensor.mk 8 i (R.pwrTempIo i) 95 100 110 120 (get x.io i))
    ++ (((List.range 8).filter s.variant.stack).map fun i => Sensor.mk 3 i (R.pwrTempS i) 85 95 105 110 (get x.stack i))
    ++ (((List.range 16).filter s.ddrThere).map fun i => Sensor.mk 4 i (R.pwrTempD i) 85 90 95 100 (get x.ddr i))

/-- What a sample stores. -/
def State.storeSample (s : State) (x : Sample) : State :=
  let s := s.each (s.sensors x) fun s q => s.setReg q.reg (BitVec.ofNat 64 q.value.toNat)
  ((s.setReg R.pwrVin (x.vin.setWidth 64)).setReg R.pwrIin (x.iin.setWidth 64)).setReg R.pwrInput (x.watts.setWidth 64)

/-- Keep which sensors stand at or above their warning threshold. -/
def State.warn (s : State) (q : Sensor) : State :=
  s.updPwr fun p => { p with warned :=
    if q.warning ≤ q.temp then (if p.warned.contains q.code then p.warned else q.code :: p.warned) else p.warned.erase q.code }

/-- The warnings of a sample: a record and a PLDM event for each sensor that has reached its threshold since the last. -/
def State.warnings (s : State) (l : List Sensor) : State :=
  let new := l.filter fun q => decide (q.warning ≤ q.temp) && !s.pwr.warned.contains q.code
  let s := s.each l State.warn
  s.each new fun s q =>
    let seq := s.ras.seq
    (s.record (ErrRec.plain 1 q.cls q.unit 10)).emit (.pldmEvent seq)

/-- The triggers of a throttle as a sample leaves them: a temperature trigger clears 5 °C below its threshold. -/
def State.triggers (s : State) (l : List Sensor) (x : Sample) : State :=
  let old := s.pwr.throttle.thermal
  let hot (q : Sensor) : Bool := decide (q.throttle ≤ q.temp) || (old.contains q.code && decide (q.throttle - 5 < q.temp))
  let cap := fld (s.reg R.pwrCap) 0 11
  let w := x.watts.toNat
  s.updPwr fun p => { p with throttle := { p.throttle with
    thermal := (l.filter hot).map Sensor.code
    power := decide ((cap ≠ 0 ∧ cap < w) ∨ 1350 < w)
    margin := p.vinMargin || decide (x.vin.toNat < 38000) } }

/-- A sensor that reaches its critical threshold is a device-fatal error, and Fog mode follows. -/
def State.criticals (s : State) (l : List Sensor) : State :=
  let new := l.filter fun q => decide (q.critical ≤ q.temp) && !s.pwr.warned.contains (1024 + q.code)
  let keep := (l.filter fun q => decide (q.critical ≤ q.temp)).map fun q => 1024 + q.code
  let s := s.updPwr fun p => { p with warned := (p.warned.filter fun c => decide (c < 1024)) ++ keep }
  s.each new fun s q => (s.record (ErrRec.plain 5 q.cls q.unit 10)).fogEnter q.cls q.unit

/-- A sample every 100 µs. At a shutdown temperature THERM_TRIP_N goes low and power is removed (R402). -/
def State.sample (s : State) (x : Sample) : State :=
  if s.pwr.state = .off ∨ !s.keeper.booted then s
  else
    let l := s.sensors x
    let s := ((((s.storeSample x).warnings l).triggers l x).throttleCheck).criticals l
    if l.any fun q => decide (q.shutdown ≤ q.temp) then (s.emit .thermTrip).coldKeep .off else s

/-! ## Clocks and the TAP (R372, R403) -/

/-- REFCLK_FAB is lost: every link goes DOWN with reason 1. -/
def State.fabLost (s : State) : State :=
  let s := s.updPwr fun p => { p with refFab := false }
  s.each ((List.range 18).filter fun p => (s.link p).state != .disabled) fun s p => s.linkOut p .down 1

/-- A TAP instruction: the TAP answers while RESET_N is high and the module is powered. After the seal the boundary scan is not
there, and its instructions select BYPASS. -/
def State.tapSelect (s : State) (t : Tap) : State :=
  if s.pwr.state = .off ∨ !s.pwr.resetN then s else s.updPwr fun p => { p with tap := if s.keeper.tapLocked then t.locked else t }

/-- IDCODE (R403). -/
def idcode : BitVec 32 := 0x10980567

def State.tapId (s : State) : State :=
  if s.pwr.state = .off ∨ !s.pwr.resetN then s else (s.tapSelect .idcode).emit (.tdo idcode)

/-- EXTEST drives the pins from the boundary cells. -/
def State.extest (s : State) (cells : Word) : State :=
  if s.pwr.state = .off ∨ !s.pwr.resetN then s
  else
    let s := s.tapSelect .extest
    if s.pwr.tap = .extest then s.updPwr fun p => { p with cells } else s

/-! ## The commands -/

def execDark (port : Port) (s : State) : Host.Outcome State Fault Refusal :=
  .next (s.pwrCommand port.toNat 1 State.dark)

def execDarkEntryComplete (s : State) : Host.Outcome State Fault Refusal := .next s.darkEntered

def execPwrWake (port : Port) (s : State) : Host.Outcome State Fault Refusal :=
  .next (s.pwrCommand port.toNat 2 fun s => s.pwrResult St.done)

/-- PWR_CMD COLD acts as a pulse of RESET_N (R375). -/
def execCold (port : Port) (s : State) : Host.Outcome State Fault Refusal :=
  .next (s.pwrCommand port.toNat 3 fun s => s.coldKeep .boot)

def execVinMargin (inside : Bool) (s : State) : Host.Outcome State Fault Refusal := .next (s.margin inside)

def execSensorSample (x : Sample) (s : State) : Host.Outcome State Fault Refusal := .next (s.sample x)

def execThrottleClearExpiry (s : State) : Host.Outcome State Fault Refusal := .next s.throttleEnds

def execRefclkFabLost (s : State) : Host.Outcome State Fault Refusal := .next s.fabLost

def execTapBypass (s : State) : Host.Outcome State Fault Refusal := .next (s.tapSelect .bypass)

def execTapIdcode (s : State) : Host.Outcome State Fault Refusal := .next s.tapId

def execTapSamplePreload (s : State) : Host.Outcome State Fault Refusal := .next (s.tapSelect .sample)

def execTapExtest (cells : Word) (s : State) : Host.Outcome State Fault Refusal := .next (s.extest cells)

/-- TRST_N low holds the TAP in Test-Logic-Reset. -/
def execTrstAssert (s : State) : Host.Outcome State Fault Refusal := .next (s.updPwr fun p => { p with tap := .reset })

def execHostL1Exit (port : Port) (s : State) : Host.Outcome State Fault Refusal := .next (s.l1Exit port.toNat)

end Sys2Proof.Machine
end

