-- ==== Sys2Proof/Machine/Scalar.lean ====
section
/-! DEFINITION. Scalar integer instructions, branches and HALT (R182, R183, R186, R408). -/

namespace Sys2Proof.Machine

/-- x[D] := op(x[A], x[B]). -/
def State.aluReg (s : State) (v : Nat) (f : Fields) (op : Word → Word → Word) : State :=
  s.issue v [f.a, f.b, f.d] [] fun s x => s.writeX v f.d (op (x.xr f.a.toNat) (x.xr f.b.toNat))

/-- x[D] := op(x[A], IMM sign-extended). -/
def State.aluImm (s : State) (v : Nat) (f : Fields) (op : Word → Word → Word) : State :=
  s.issue v [f.a, f.d] [] fun s x => s.writeX v f.d (op (x.xr f.a.toNat) (sext32 f.imm))

/-! ## The operations of R408 -/

def aluShl (a b : Word) : Word := a <<< fld b 0 6
def aluShr (a b : Word) : Word := a >>> fld b 0 6
def aluSra (a b : Word) : Word := a.sshiftRight (fld b 0 6)
def aluMulh (a b : Word) : Word := BitVec.ofInt 64 (a.toInt * b.toInt / 2 ^ 64)
def aluMin (a b : Word) : Word := if a.slt b then a else b
def aluMax (a b : Word) : Word := if a.slt b then b else a
def aluSlt (a b : Word) : Word := if a.slt b then 1 else 0
def aluSltu (a b : Word) : Word := if a.ult b then 1 else 0

/-- A branch to IMM words from here when the relation of x[A] and x[B] holds. -/
def State.branch (s : State) (v : Nat) (f : Fields) (rel : Word → Word → Bool) : State :=
  s.issue v [f.a, f.b] [] fun s x =>
    if rel (x.xr f.a.toNat) (x.xr f.b.toNat) then s.goto v (x.pc + 8 * f.imm.toInt) else s.advance v

/-- JMP. -/
def State.jump (s : State) (v : Nat) (f : Fields) : State :=
  s.issue v [] [] fun s x => s.goto v (x.pc + 8 * f.imm.toInt)

/-! ## The commands -/

def execNop (v : VoiceId) (_ : Fields) (s : State) : Host.Outcome State Fault Refusal :=
  .next (s.issue v.toNat [] [] fun s _ => s.advance v.toNat)

def execAdd (v : VoiceId) (f : Fields) (s : State) : Host.Outcome State Fault Refusal :=
  .next (s.aluReg v.toNat f (fun a b => a + b))

def execSub (v : VoiceId) (f : Fields) (s : State) : Host.Outcome State Fault Refusal :=
  .next (s.aluReg v.toNat f (fun a b => a - b))

def execAnd (v : VoiceId) (f : Fields) (s : State) : Host.Outcome State Fault Refusal :=
  .next (s.aluReg v.toNat f (fun a b => a &&& b))

def execOr (v : VoiceId) (f : Fields) (s : State) : Host.Outcome State Fault Refusal :=
  .next (s.aluReg v.toNat f (fun a b => a ||| b))

def execXor (v : VoiceId) (f : Fields) (s : State) : Host.Outcome State Fault Refusal :=
  .next (s.aluReg v.toNat f (fun a b => a ^^^ b))

def execShl (v : VoiceId) (f : Fields) (s : State) : Host.Outcome State Fault Refusal :=
  .next (s.aluReg v.toNat f aluShl)

def execShr (v : VoiceId) (f : Fields) (s : State) : Host.Outcome State Fault Refusal :=
  .next (s.aluReg v.toNat f aluShr)

def execSra (v : VoiceId) (f : Fields) (s : State) : Host.Outcome State Fault Refusal :=
  .next (s.aluReg v.toNat f aluSra)

def execMul (v : VoiceId) (f : Fields) (s : State) : Host.Outcome State Fault Refusal :=
  .next (s.aluReg v.toNat f (fun a b => a * b))

def execMulh (v : VoiceId) (f : Fields) (s : State) : Host.Outcome State Fault Refusal :=
  .next (s.aluReg v.toNat f aluMulh)

def execMin (v : VoiceId) (f : Fields) (s : State) : Host.Outcome State Fault Refusal :=
  .next (s.aluReg v.toNat f aluMin)

def execMax (v : VoiceId) (f : Fields) (s : State) : Host.Outcome State Fault Refusal :=
  .next (s.aluReg v.toNat f aluMax)

def execSlt (v : VoiceId) (f : Fields) (s : State) : Host.Outcome State Fault Refusal :=
  .next (s.aluReg v.toNat f aluSlt)

def execSltu (v : VoiceId) (f : Fields) (s : State) : Host.Outcome State Fault Refusal :=
  .next (s.aluReg v.toNat f aluSltu)

def execLi (v : VoiceId) (f : Fields) (s : State) : Host.Outcome State Fault Refusal :=
  .next (s.issue v.toNat [f.d] [] fun s _ => s.writeX v.toNat f.d (sext32 f.imm))

def execLih (v : VoiceId) (f : Fields) (s : State) : Host.Outcome State Fault Refusal :=
  .next (s.issue v.toNat [f.d] [] fun s x =>
    s.writeX v.toNat f.d (f.imm ++ (x.xr f.d.toNat).setWidth 32))

def execAddImm (v : VoiceId) (f : Fields) (s : State) : Host.Outcome State Fault Refusal :=
  .next (s.aluImm v.toNat f (fun a b => a + b))

def execSubImm (v : VoiceId) (f : Fields) (s : State) : Host.Outcome State Fault Refusal :=
  .next (s.aluImm v.toNat f (fun a b => a - b))

def execAndImm (v : VoiceId) (f : Fields) (s : State) : Host.Outcome State Fault Refusal :=
  .next (s.aluImm v.toNat f (fun a b => a &&& b))

def execOrImm (v : VoiceId) (f : Fields) (s : State) : Host.Outcome State Fault Refusal :=
  .next (s.aluImm v.toNat f (fun a b => a ||| b))

def execXorImm (v : VoiceId) (f : Fields) (s : State) : Host.Outcome State Fault Refusal :=
  .next (s.aluImm v.toNat f (fun a b => a ^^^ b))

def execShlImm (v : VoiceId) (f : Fields) (s : State) : Host.Outcome State Fault Refusal :=
  .next (s.aluImm v.toNat f aluShl)

def execShrImm (v : VoiceId) (f : Fields) (s : State) : Host.Outcome State Fault Refusal :=
  .next (s.aluImm v.toNat f aluShr)

def execSraImm (v : VoiceId) (f : Fields) (s : State) : Host.Outcome State Fault Refusal :=
  .next (s.aluImm v.toNat f aluSra)

def execMulImm (v : VoiceId) (f : Fields) (s : State) : Host.Outcome State Fault Refusal :=
  .next (s.aluImm v.toNat f (fun a b => a * b))

def execMulhImm (v : VoiceId) (f : Fields) (s : State) : Host.Outcome State Fault Refusal :=
  .next (s.aluImm v.toNat f aluMulh)

def execMinImm (v : VoiceId) (f : Fields) (s : State) : Host.Outcome State Fault Refusal :=
  .next (s.aluImm v.toNat f aluMin)

def execMaxImm (v : VoiceId) (f : Fields) (s : State) : Host.Outcome State Fault Refusal :=
  .next (s.aluImm v.toNat f aluMax)

def execSltImm (v : VoiceId) (f : Fields) (s : State) : Host.Outcome State Fault Refusal :=
  .next (s.aluImm v.toNat f aluSlt)

def execSltuImm (v : VoiceId) (f : Fields) (s : State) : Host.Outcome State Fault Refusal :=
  .next (s.aluImm v.toNat f aluSltu)

def execBeq (v : VoiceId) (f : Fields) (s : State) : Host.Outcome State Fault Refusal :=
  .next (s.branch v.toNat f (fun a b => a == b))

def execBne (v : VoiceId) (f : Fields) (s : State) : Host.Outcome State Fault Refusal :=
  .next (s.branch v.toNat f (fun a b => a != b))

def execBlt (v : VoiceId) (f : Fields) (s : State) : Host.Outcome State Fault Refusal :=
  .next (s.branch v.toNat f (fun a b => a.slt b))

def execBge (v : VoiceId) (f : Fields) (s : State) : Host.Outcome State Fault Refusal :=
  .next (s.branch v.toNat f (fun a b => !a.slt b))

def execJmp (v : VoiceId) (f : Fields) (s : State) : Host.Outcome State Fault Refusal := .next (s.jump v.toNat f)

def execHalt (v : VoiceId) (_ : Fields) (s : State) : Host.Outcome State Fault Refusal :=
  .next (s.issue v.toNat [] [] fun s _ => s.haltVoice v.toNat)

end Sys2Proof.Machine
end

