-- ==== Sys2Proof/Machine/Setup.lean ====
section
/-! DEFINITION. Writes of BAR0: set-up registers, doorbells and the MSI-X table (R4, R13 to R16, R29, R30, R382 to R387, R410). -/

namespace Sys2Proof.Machine

/-- The state an outcome leaves. -/
def State.after (s : State) : Host.Outcome State Fault Refusal → State
  | .next t => t
  | _ => s

/-! ## Which register, and whose -/

/-- Offset of the register a map entry names. -/
def RegRow.at (x : RegRow) (i : Nat) : Nat := x.off + i * x.stride

/-- The partition a register belongs to, none for a shared command register (R384). -/
def State.regOwner (s : State) (x : RegRow) (i : Nat) : Option Nat :=
  match x.own with
  | .zero => some 0
  | .index => some i
  | .key => some (i / 16)
  | .region => some (s.regionTenant i)
  | .shared => none

/-- Is a register that of an absent unit (R4)? -/
def State.regAbsent (s : State) (x : RegRow) (i : Nat) : Bool :=
  match x.unit with
  | .none => false
  | .sport => !s.sportThere i
  | .hport => !s.hostThere i
  | .ddr => !s.ddrThere i
  | .nvme => !s.nvmeThere i
  | .stack => !s.variant.stack i
  | .io => decide (s.variant.ioDies ≤ i)

/-- Staging that is held once per host port (R384). -/
def staged (off : Nat) : Bool :=
  [R.hstRctxData 0, R.embTctxData 0].any (fun a => decide (a ≤ off ∧ off < a + 64))
    || decide (R.kprArg 0 ≤ off ∧ off < R.kprArg 0 + 48)

/-! ## What may be stored (R13, R14, R16, R385) -/

/-- The bits of an enable or mask register that name an absent unit. -/
def State.absentBits (s : State) (x : RegRow) : Nat :=
  let bits (n : Nat) (there : Nat → Bool) : Nat :=
    (List.range n).foldl (fun m u => if there u then m else m + 2 ^ u) 0
  if x.off = R.glbHportEn ∨ x.off = R.poolPartPorts 0 then bits 4 s.hostThere
  else if x.off = R.tierDdrEn then bits 16 s.ddrThere
  else if x.off = R.tierNvmeEn then bits 8 s.nvmeThere
  else if x.off = R.smfPortEn ∨ x.off = R.rotBeaconDown then bits 18 s.sportThere
  else 0

/-- The fields of a register with reserved encodings, and which encodings are reserved. -/
def RegRow.reserved (x : RegRow) : List (Nat × Nat × (Nat → Bool)) :=
  (x.checks.map fun c => (c.1, c.2.1, fun v => decide (v < c.2.2.1 ∨ c.2.2.2 < v)))
    ++ (if x.off = R.pwrCap then [(0, 11, fun v => decide (v ≠ 0 ∧ (v < 600 ∨ 1350 < v)))] else [])

/-- Fields written with a reserved encoding keep what they held. -/
def RegRow.settle (x : RegRow) (old new : Word) : Word × Bool :=
  x.reserved.foldl (fun (r : Word × Bool) c =>
    if c.2.2 (fld r.1 c.1 c.2.1) then (setFld r.1 c.1 c.2.1 (fld old c.1 c.2.1), true) else r) (new, false)

/-- Is a register locked by the state of its block? (R70, R132, R156, R251, R266) -/
def State.regLocked (s : State) (x : RegRow) (i : Nat) (value : Word) : Bool :=
  if x.off = R.rotPeriodNext ∨ x.off = R.rotBookNext ∨ x.off = R.rotSeqLenNext ∨ x.off = R.rotSeqNext 0
      ∨ x.off = R.rotChangeAt then s.changeLocked
  else if x.off = R.sesSetMask ∨ x.off = R.sesAcceptProfile ∨ x.off = R.sesArenaBase 0 ∨ x.off = R.sesArenaSize 0 then
    bit (s.reg R.sesCtrl) 0
  else if x.off = R.attRopeCfg 0 then bit (s.reg (R.attRopeCfg i)) 0 && bit value 0
  else if x.off = R.attRopeFreq 0 then bit (s.reg (R.attRopeCfg i)) 0
  else if x.off = R.xltPtBase 0 ∨ x.off = R.xltPtSize 0 then bit (s.reg (R.xltRoot i)) 0
  else if x.off = R.glsRegionBase 0 ∨ x.off = R.glsRegionSize 0 ∨ x.off = R.glsRegionSeal 0 then
    s.regionValid i || s.regionPending i
  else false

/-! ## Effects of some plain registers -/

/-- The frames of a partition's frame table are TABLE frames and DRAM-held while sessions are served, and are filled where they are DENSE
(R101, R220; log entry 198). -/
def State.holdTable (s : State) (t : Nat) : State :=
  s.each ((s.frameTable t).filter fun g => !s.othersOwn t g) fun s g =>
    ((s.demand g false none).holdDram g).updFrame g fun x => { x with type := .table }

/-- A frame table that its partition's arena no longer has there. -/
def State.dropTable (s : State) (l : List Nat) : State :=
  s.each l fun s g =>
    let s := s.updGranule g fun x => { x with dramHeld := false }
    if (s.frame g).type = .table then s.setFrame g Frame.free else s

/-- What follows the store of a register: the frame tables of the arenas are DRAM-held while sessions are served (R220). -/
def State.regStored (s was : State) (x : RegRow) (i : Nat) : State :=
  if x.off = R.sesCtrl then
    (if bit (s.reg R.sesCtrl) 0 && !bit (was.reg R.sesCtrl) 0 then
      s.each (List.range 16) fun s t => s.holdTable t else s)
  else if x.off = R.sesArenaBase 0 ∨ x.off = R.sesArenaSize 0 then
    s.dropTable (was.frameTable i)
  else s

/-! ## A write of a register with no row of its own -/

/-- Store what a write changes of a register: `part` are the bits of the access. -/
def State.regStore (s : State) (port : Nat) (x : RegRow) (i : Nat) (value : Word) (part : Nat) : State :=
  let off := x.at i
  let at_ := if staged off then stageOff port off else off
  let old : Word := if x.rwk then (s.rwkReg off).setWidth 64 else s.reg at_
  let m := BitVec.ofNat 64 (x.rw &&& part)
  if s.regAbsent x i || x.rw == 0 then s
  else if x.rwk && s.keeper.sealed then s.setupError port off 3
  else if s.regLocked x i value then s.setupError port off 5
  else
    let (new, bad) := x.settle old ((old &&& ~~~m) ||| (value &&& m))
    let gone := BitVec.ofNat 64 (s.absentBits x)
    let s1 := if x.rwk then s.setRwk off ((new &&& ~~~gone).setWidth 32) else s.setReg at_ (new &&& ~~~gone)
    let s2 := s1.regStored s x i
    let s3 := if bad then s2.setupError port off 2 else s2
    if value &&& m &&& gone ≠ 0 then s3.setupError port off 7 else s3

/-- 64-bit registers whose write acts: on the upper half alone (R382). -/
def State.wideAction (s : State) (port : Nat) (x : RegRow) (w : Word) : Option State :=
  if x.off = R.rotChangeAt then some (s.changeAt port w)
  else if x.off = R.rasLogBase then some (s.logBase w)
  else none

/-- The checks every write meets, with the access as it waits for a wake. -/
def State.regGate (s : State) (port : Nat) (x : RegRow) (i off size : Nat) (value : Word) (act : State → State) : State :=
  s.setupWrite port (x.at i) (s.regOwner x i) false
    (.setup (BitVec.ofNat 2 port) (BitVec.ofNat 26 off) size value) act

/-- A 64-bit write of a 64-bit register. -/
def State.writeWide (s : State) (port : Nat) (x : RegRow) (i : Nat) (value : Word) : State :=
  s.regGate port x i (x.at i) 8 value fun s =>
    match s.wideAction port x value with
    | some t => t
    | none => s.regStore port x i value (2 ^ 64 - 1)

/-- A write of one half of a 64-bit register. -/
def State.writeHalf (s : State) (port : Nat) (x : RegRow) (i : Nat) (upper : Bool) (v : BitVec 32) : State :=
  let off := x.at i + 4 * b2n upper
  let w := v.setWidth 64
  s.regGate port x i off 4 w fun s =>
    if !upper then s.regStore port x i w (2 ^ 32 - 1)
    else
      let whole := s.reg (if staged (x.at i) then stageOff port (x.at i) else x.at i)
      let value := (w <<< 32) ||| (whole &&& 0xFFFFFFFF)
      match s.wideAction port x value with
      | some t => t
      | none => s.regStore port x i value (2 ^ 64 - 2 ^ 32)

/-! ## Command registers -/

/-- A reserved OP of a command register: nothing runs. While the register is busy the write counts as one too early (R383). -/
def State.reservedOp (s : State) (port off : Nat) (owner : Option Nat) (v : BitVec 32) (busy : State → Bool := fun _ => false) : State :=
  s.setupWrite port off owner false (heldWrite port off (v.setWidth 64)) fun s => s.setupError port off (if busy s then 4 else 2)

/-- A command of the Keeper's whose TENANT names a partition that the port does not control (R341). -/
def State.kprForeign (s : State) (p : Port) (v : BitVec 32) : State :=
  s.kprCommand p.toNat false (kprHeld p.toNat v.toNat) fun s => (s, St.notOwner, false)

/-- KPR_CMD. Whether the images of FW_STAGE are genuine is what their signatures say. -/
def State.kprWrite (s : State) (p : Port) (v : BitVec 32) : State :=
  let t := BitVec.ofNat 4 (fld v 8 4)
  let own := s.controls p.toNat t.toNat
  let o := match fld v 0 8 with
    | 1 => if own then execSeal p s else .next (s.kprForeign p v)
    | 2 => execAnchor p t s
    | 3 => execSwitch p t (bit v 12) s
    | 4 =>
      let pair := s.stagedPair p.toNat
      execFwStage p (Config.genuine s.nvm.rootDigest pair.1) (Config.genuine s.nvm.rootDigest pair.2) s
    | 5 => if own then execCommitSvn p s else .next (s.kprForeign p v)
    | _ => .next (s.reservedOp p.toNat R.kprCmd none v fun s => s.keeper.cmd.isSome)
  s.after o

def State.pwrWrite (s : State) (p : Port) (v : BitVec 32) : State :=
  match fld v 0 2 with
  | 1 => s.after (execDark p s)
  | 2 => s.after (execPwrWake p s)
  | 3 => s.after (execCold p s)
  | _ => s.pwrCommand p.toNat 0 fun s => s.setupError p.toNat R.pwrCmd 2

def State.rasWrite (s : State) (p : Port) (v : BitVec 32) : State :=
  match fld v 0 2 with
  | 1 => s.after (execJobReset p s)
  | 2 => s.after (execFog p s)
  | _ => s.reservedOp p.toNat R.rasCmd (some 0) v

def State.ringWrite (s : State) (p : Port) (v : BitVec 32) : State :=
  let r := BitVec.ofNat 12 (fld v 0 12)
  match fld v 12 4 with
  | 1 => s.after (execRingCreate p r s)
  | 2 => s.after (execRingDestroy p r s)
  | 3 => s.after (execRingStop p r s)
  | 4 => s.after (execRingResume p r s)
  | 5 => s.after (execRingRead p r s)
  | _ => s.reservedOp p.toNat R.hstRctxCmd none v fun s => s.ringCmd.isSome

def State.tableWrite (s : State) (p : Port) (v : BitVec 32) : State :=
  let t := BitVec.ofNat 12 (fld v 0 12)
  match fld v 12 4 with
  | 1 => s.after (execDefine p t s)
  | 2 => s.after (execRetire p t s)
  | 3 => s.after (execTableRead p t s)
  | _ => s.reservedOp p.toNat R.embTctxCmd none v fun s => s.tabCmd.isSome

def State.portWrite (s : State) (p : Port) (v : BitVec 32) : State :=
  let q := BitVec.ofNat 5 (fld v 0 5)
  match fld v 5 2 with
  | 1 => s.after (execPortReset p q s)
  | 2 => s.after (execPortRetrain p q s)
  | _ => s.reservedOp p.toNat R.smfPortCmd (some 0) v

def State.bookCmdWrite (s : State) (p : Port) (v : BitVec 32) : State :=
  let b := BitVec.ofNat 2 (fld v 0 2)
  match fld v 2 2 with
  | 1 => s.after (execBookLoad p b s)
  | 2 => s.after (execBookUnload p b s)
  | _ => s.reservedOp p.toNat R.rotBookCmd (some 0) v

/-- TIER_CTRL: ENABLE never clears again. -/
def State.tierWrite (s : State) (p : Port) (v : BitVec 32) : State :=
  if bit v 0 then s.after (execTierEnable p (bit v 1) s)
  else
    s.setupWrite p.toNat R.tierCtrl (some 0) false (heldWrite p.toNat R.tierCtrl (v.setWidth 64)) fun s =>
      s.setRegBit R.tierCtrl 1 (bit v 1)

/-- Registers whose write is a command. -/
def State.commandWrite (s : State) (p : Port) (x : RegRow) (i : Nat) (v : BitVec 32) : Option State :=
  if x.off = R.kprCmd then some (s.kprWrite p v)
  else if x.off = R.kprMbxTxLen then some (s.after (execMailboxSend p v s))
  else if x.off = R.kprMbxRxAck then some (s.after (execMailboxRxAck p v s))
  else if x.off = R.pwrCmd then some (s.pwrWrite p v)
  else if x.off = R.rasCmd then some (s.rasWrite p v)
  else if x.off = R.rasAck then some (s.after (execRasAck p v s))
  else if x.off = R.rasInject then some (s.after (execRasInject p v s))
  else if x.off = R.hstRctxCmd then some (s.ringWrite p v)
  else if x.off = R.embTctxCmd then some (s.tableWrite p v)
  else if x.off = R.rotCtrl then
    some (s.after (if bit v 0 then execRotRunSet p (bit v 1) (bit v 2) s else execRotRunClear p (bit v 1) (bit v 2) s))
  else if x.off = R.rotBookCmd then some (s.bookCmdWrite p v)
  else if x.off = R.attAbftInject then some (s.after (execAttAbftInject p v s))
  else if x.off = R.tierCtrl then some (s.tierWrite p v)
  else if x.off = R.smfPortCmd then some (s.portWrite p v)
  else if x.off = R.glsRegionCtrl 0 then
    let r := BitVec.ofNat 6 i
    some (s.after (if bit v 0 then execRegionValidSet p r v s else execRegionValidClear p r v s))
  else none

/-! ## Accesses (R29, R30) -/

/-- A 32-bit write of the set-up space. -/
def State.write32 (s : State) (p : Port) (off : Nat) (v : BitVec 32) : State :=
  match findReg off with
  | none => s
  | some (x, i) =>
    if x.width = 64 then s.writeHalf p.toNat x i (off != x.at i) v
    else
      match s.commandWrite p x i v with
      | some t => t
      | none => s.regGate p.toNat x i off 4 (v.setWidth 64) fun s => s.regStore p.toNat x i (v.setWidth 64) (2 ^ 32 - 1)

/-- A 32-bit write of a doorbell page: other places than the two doorbells are read-only or reserved (R37). -/
def State.write32Door (s : State) (p : Nat) (off : Nat) (v : BitVec 32) : State :=
  let r := BitVec.ofNat 12 (off / 4096)
  if !s.hostThere p || (s.port p).link != .up then s
  else if off % 4096 = 0 then s.after (execDbSqTail r v s)
  else if off % 4096 = 4 then s.after (execDbCqHead r v s)
  else s

/-- A 32-bit write of the port's MSI-X table; a vector whose mask is lifted sends what it holds pending (R49). -/
def State.write32Msix (s : State) (p : Nat) (off : Nat) (v : BitVec 32) : State :=
  let n := off / 16
  if !s.hostThere p || (s.port p).link != .up then s
  else
    (s.updPort p fun x => x.setVector n (setFld (x.vector n) (off % 16 * 8) 32 v.toNat)).sendPending p n

/-- One 32-bit access of BAR0; what lies above the MSI-X table is read-only or reserved. -/
def State.barWrite32 (s : State) (p : Port) (off : Nat) (v : BitVec 32) : State :=
  if off < 0x1000000 then s.write32 p off v
  else if off < 0x2000000 then s.write32Door p.toNat (off - 0x1000000) v
  else if off < 0x2008000 then s.write32Msix p.toNat (off - 0x2000000) v
  else s

/-- A write of BAR0: naturally aligned, of 32 or 64 bits; any other is ignored and recorded. -/
def State.barWrite (s : State) (p : Port) (off size : Nat) (value : Word) : State :=
  let lo := BitVec.ofNat 32 (fld value 0 32)
  let hi := BitVec.ofNat 32 (fld value 32 32)
  if size = 4 ∧ off % 4 = 0 then s.barWrite32 p off lo
  else if size = 8 ∧ off % 8 = 0 then
    match findReg off with
    | some (x, i) => if x.width = 64 then s.writeWide p.toNat x i value else (s.barWrite32 p off lo).barWrite32 p (off + 4) hi
    | none => (s.barWrite32 p off lo).barWrite32 p (off + 4) hi
  else
    s.setupWrite p.toNat off none true (.setup p (BitVec.ofNat 26 off) size value) fun s => s.setupError p.toNat off 1

/-! ## The command -/

def execSetupRegisterWrite (port : Port) (off : BitVec 26) (size : Nat) (value : Word) (s : State) :
    Host.Outcome State Fault Refusal := .next (s.barWrite port off.toNat size value)

end Sys2Proof.Machine
end

