-- ==== Sys2Proof/Machine/Wake.lean ====
section
/-! DEFINITION. The end of a wake: what waited for it is served (R366, R370, R380, R400). -/

namespace Sys2Proof.Machine

/-- Serve a request that waited, now that the device is ON. -/
def State.serve (s : State) : Held → State
  | .setup port off size value => s.after (execSetupRegisterWrite port off size value s)
  | .fwStage port keeper core => s.after (execFwStage port keeper core s)
  | .doorbell cqHead ring value => s.after (if cqHead then execDbCqHead ring value s else execDbSqTail ring value s)
  | .cxl port w =>
    s.after (if w.write then execCxlMemWrite port w.hpa w.data w.tag s else execCxlMemRead port w.hpa w.copy w.tag s)
  | .config port req => s.after (execHostConfigRequest port req s)
  | .req via op r => s.message (.req via op r) fun s => s.recvReq via.toNat op r
  | .snp via op r => s.message (.snp via op r) fun s => s.recvSnp via.toNat op r
  | .rsp via op r => s.message (.rsp via op r) fun s => s.recvRsp via.toNat op r
  | .mg via src tag body => s.after (execMg via src tag body s)
  | .ptwrite from_ off bytes => s.after (execPtwriteBroadcast from_ off bytes s)
  | .inval from_ tenant all addr len root => s.after (execInvalForward from_ tenant all addr len root s)
  | .confirm ring dev => s.after (execInvalConfirm ring dev s)
  | .member op => s.after (execMemberOperation op s)
  | .memberAck session dev => s.after (execMemberAck session dev s)
  | .pull from_ session epoch what => s.after (execPull from_ session epoch what s)
  | .pullAnswer session answer => s.after (execPullResponse session answer s)
  | .claim session epoch peer peerId peerMask => s.after (execClaim session epoch peer peerId peerMask s)
  | .grant peer peerId epoch mask info => s.after (execHandoffGrant peer peerId epoch mask info s)
  | .commit session epoch peer => s.after (execCommit session epoch peer s)
  | .commitAck peer peerId => s.after (execCommitAck peer peerId s)
  | .lease session lease => s.after (execLeaseResolve session lease s)
  | .release session epoch => s.after (execRelease session epoch 0 s)
  | .claimRefused peer peerId stale => s.after (execClaimRefused peer peerId ⟨0, stale⟩ s)
  | .leaseAnswer peer peerId lease => s.after (execLeaseReadAnswer peer peerId lease s)
  | .memberTimeout session dev => s.after (execSessionMemberTimeout session dev s)
  | .pullTimeout session => s.after (execPullTimeout session s)
  | .commitTimeout peer peerId => s.after (execCommitTimeout peer peerId s)
  | .leaseTimeout peer peerId => s.after (execLeaseReadTimeout peer peerId s)
  | .handoffTimer handle => s.after (execHandoffTimerExpiry handle s)
  | .releaseWait handle => s.after (execReleaseWaitExpiry handle s)

/-- Set-up writes take effect before any other request that waited. -/
def Held.first : Held → Bool
  | .setup _ _ _ _ => true
  | .fwStage _ _ _ => true
  | _ => false

/-- Does a request come from a host port? -/
def Held.ofPort (p : Nat) : Held → Bool
  | .cxl port _ => port.toNat == p
  | .config port _ => port.toNat == p
  | _ => false

/-- The reset of a port whose PERSTn_N fell during the sleep; what its host had asked gets no answer. -/
def State.lateReset (s : State) (l : List Held) (p : Nat) : State :=
  let s := s.each (l.filter (Held.ofPort p)) fun s h => match h with
    | .cxl _ w => s.cxlGo p w true
    | _ => s
  (s.updPort p fun x => { x with link := .reset }).hostReset p

/-- The last step of a wake: links are back, and what waited is served. -/
def State.woken (s : State) : State :=
  if s.pwr.state ≠ .waking then s
  else
    let l := s.pwr.waiting
    let fog := s.pwr.fogAfterWake
    let s := s.updPwr fun p => { p with state := .on, waiting := [], fogAfterWake := false }
    let s := s.each ((List.range 4).filter fun p => (s.port p).l1) fun s p => s.updPort p fun x => { x with l1 := false }
    let s := s.each ((List.range 18).filter fun p => (s.link p).state == .idle) fun s p =>
      (s.updLink p fun x => { x with state := .active }).pumpPort p
    let s := s.each (l.filter Held.first) State.serve
    let rest := l.filter fun h => !h.first
    let reset := (List.range 4).filter fun p => (s.port p).perst && (s.port p).link != .reset
    let s := s.each reset fun s p => s.lateReset rest p
    let s := s.each (rest.filter fun h => !(reset.any fun p => h.ofPort p)) State.serve
    if fog then s.fogEnter s.ras.fogCls s.ras.fogUnit else s

def execWakeComplete (s : State) : Host.Outcome State Fault Refusal := .next s.woken

end Sys2Proof.Machine
end

