-- ==== Sys2Proof/Machine/Dispatch.lean ====
section
/-! DEFINITION. Which meaning each command has. -/

namespace Sys2Proof.Machine

def exec (i : Instr) (s : State) : Host.Outcome State Fault Refusal :=
  match i with
  -- set-up space and rings
  | .setupRegisterWrite port off size value => Sys2Proof.Machine.execSetupRegisterWrite port off size value s
  | .ringCreate port ring => Sys2Proof.Machine.execRingCreate port ring s
  | .ringDestroy port ring => Sys2Proof.Machine.execRingDestroy port ring s
  | .ringStop port ring => Sys2Proof.Machine.execRingStop port ring s
  | .ringResume port ring => Sys2Proof.Machine.execRingResume port ring s
  | .ringRead port ring => Sys2Proof.Machine.execRingRead port ring s
  | .ringCommandComplete => Sys2Proof.Machine.execRingCommandComplete s
  | .dbSqTail ring value => Sys2Proof.Machine.execDbSqTail ring value s
  | .dbCqHead ring value => Sys2Proof.Machine.execDbCqHead ring value s
  | .descriptorFetch ring => Sys2Proof.Machine.execDescriptorFetch ring s
  | .descriptorFetched ring descs fault => Sys2Proof.Machine.execDescriptorFetched ring descs fault s
  | .descriptorPrecheckComplete ring pos => Sys2Proof.Machine.execDescriptorPrecheckComplete ring pos s
  | .completionRecordWriteFault ring => Sys2Proof.Machine.execCompletionRecordWriteFault ring s
  | .coalesceTimerExpiry ring => Sys2Proof.Machine.execCoalesceTimerExpiry ring s
  | .msixUnmask port vector => Sys2Proof.Machine.execMsixUnmask port vector s
  | .msixEnable port => Sys2Proof.Machine.execMsixEnable port s
  -- DMA
  | .dmaCopy ring pos => Sys2Proof.Machine.execDmaCopy ring pos s
  | .dmaFill ring pos => Sys2Proof.Machine.execDmaFill ring pos s
  | .dmaNop ring pos => Sys2Proof.Machine.execDmaNop ring pos s
  | .dmaDescriptorComplete ring src bad => Sys2Proof.Machine.execDmaDescriptorComplete ring src bad s
  | .dmaTransferFailure ring why written src => Sys2Proof.Machine.execDmaTransferFailure ring why written src s
  | .pcieCompletionTimeout ring pos => Sys2Proof.Machine.execPcieCompletionTimeout ring pos s
  -- the rotation
  | .rotationStart => Sys2Proof.Machine.execRotationStart s
  | .bindPhase => Sys2Proof.Machine.execBindPhase s
  | .launchPhase => Sys2Proof.Machine.execLaunchPhase s
  | .clauseWindowStart v => Sys2Proof.Machine.execClauseWindowStart v s
  | .clauseWindowEnd v waited bound exceeded overran => Sys2Proof.Machine.execClauseWindowEnd v waited bound exceeded overran s
  | .closePhase load overran => Sys2Proof.Machine.execClosePhase load overran s
  | .guardPhase => Sys2Proof.Machine.execGuardPhase s
  | .rotChangeAt port value => Sys2Proof.Machine.execRotChangeAt port value s
  | .bookLoad port book => Sys2Proof.Machine.execBookLoad port book s
  | .bookUnload port book => Sys2Proof.Machine.execBookUnload port book s
  | .bookLoadComplete => Sys2Proof.Machine.execBookLoadComplete s
  | .rotRunSet port root standby => Sys2Proof.Machine.execRotRunSet port root standby s
  | .rotRunClear port root standby => Sys2Proof.Machine.execRotRunClear port root standby s
  | .beaconReceived p number period root hops err => Sys2Proof.Machine.execBeaconReceived p number period root hops err s
  | .beaconMissed => Sys2Proof.Machine.execBeaconMissed s
  | .holdoverExpiry => Sys2Proof.Machine.execHoldoverExpiry s
  | .standbyRootTakeover => Sys2Proof.Machine.execStandbyRootTakeover s
  | .firstBeaconWaitExpiry => Sys2Proof.Machine.execFirstBeaconWaitExpiry s
  -- sessions
  | .sessCreate ring pos => Sys2Proof.Machine.execSessCreate ring pos s
  | .append ring pos rows => Sys2Proof.Machine.execAppend ring pos rows s
  | .publish ring pos => Sys2Proof.Machine.execPublish ring pos s
  | .fork ring pos => Sys2Proof.Machine.execFork ring pos s
  | .sessOpen ring pos => Sys2Proof.Machine.execSessOpen ring pos s
  | .discard ring pos => Sys2Proof.Machine.execDiscard ring pos s
  | .offer ring pos => Sys2Proof.Machine.execOffer ring pos s
  | .accept ring pos => Sys2Proof.Machine.execAccept ring pos s
  | .sessQuery ring pos => Sys2Proof.Machine.execSessQuery ring pos s
  | .wake ring pos => Sys2Proof.Machine.execWake ring pos s
  | .memberOperation op => Sys2Proof.Machine.execMemberOperation op s
  | .memberAck session dev => Sys2Proof.Machine.execMemberAck session dev s
  | .sessionMemberTimeout session dev => Sys2Proof.Machine.execSessionMemberTimeout session dev s
  | .pull from_ session epoch what => Sys2Proof.Machine.execPull from_ session epoch what s
  | .pullResponse session answer => Sys2Proof.Machine.execPullResponse session answer s
  | .pullTimeout session => Sys2Proof.Machine.execPullTimeout session s
  | .claim session epoch peer peerId peerMask => Sys2Proof.Machine.execClaim session epoch peer peerId peerMask s
  | .handoffGrant peer peerId epoch mask info => Sys2Proof.Machine.execHandoffGrant peer peerId epoch mask info s
  | .commit session epoch peer => Sys2Proof.Machine.execCommit session epoch peer s
  | .commitAck peer peerId => Sys2Proof.Machine.execCommitAck peer peerId s
  | .commitTimeout peer peerId => Sys2Proof.Machine.execCommitTimeout peer peerId s
  | .leaseReadTimeout peer peerId => Sys2Proof.Machine.execLeaseReadTimeout peer peerId s
  | .leaseResolve session lease => Sys2Proof.Machine.execLeaseResolve session lease s
  | .release session epoch peer => Sys2Proof.Machine.execRelease session epoch peer s
  | .handoffTimerExpiry handle => Sys2Proof.Machine.execHandoffTimerExpiry handle s
  | .releaseWaitExpiry handle => Sys2Proof.Machine.execReleaseWaitExpiry handle s
  | .sessionIdleExpiry handle => Sys2Proof.Machine.execSessionIdleExpiry handle s
  | .reclamationProgress => Sys2Proof.Machine.execReclamationProgress s
  -- attention
  | .attnQuery ring pos block => Sys2Proof.Machine.execAttnQuery ring pos block s
  | .attAbftInject port value => Sys2Proof.Machine.execAttAbftInject port value s
  -- embedding
  | .define port table => Sys2Proof.Machine.execDefine port table s
  | .retire port table => Sys2Proof.Machine.execRetire port table s
  | .tableRead port table => Sys2Proof.Machine.execTableRead port table s
  | .tableZeroingComplete => Sys2Proof.Machine.execTableZeroingComplete s
  | .lookup ring pos idx off => Sys2Proof.Machine.execLookup ring pos idx off s
  | .lookahead ring pos idx => Sys2Proof.Machine.execLookahead ring pos idx s
  | .grad ring pos idx gsrc => Sys2Proof.Machine.execGrad ring pos idx gsrc s
  | .close ring pos => Sys2Proof.Machine.execClose ring pos s
  | .abandon ring pos => Sys2Proof.Machine.execAbandon ring pos s
  | .reversalComplete ring pos readOk => Sys2Proof.Machine.execReversalComplete ring pos readOk s
  | .closeInstallComplete table => Sys2Proof.Machine.execCloseInstallComplete table s
  -- scalar integer instructions
  | .nop v f => Sys2Proof.Machine.execNop v f s
  | .add v f => Sys2Proof.Machine.execAdd v f s
  | .sub v f => Sys2Proof.Machine.execSub v f s
  | .and v f => Sys2Proof.Machine.execAnd v f s
  | .or v f => Sys2Proof.Machine.execOr v f s
  | .xor v f => Sys2Proof.Machine.execXor v f s
  | .shl v f => Sys2Proof.Machine.execShl v f s
  | .shr v f => Sys2Proof.Machine.execShr v f s
  | .sra v f => Sys2Proof.Machine.execSra v f s
  | .mul v f => Sys2Proof.Machine.execMul v f s
  | .mulh v f => Sys2Proof.Machine.execMulh v f s
  | .min v f => Sys2Proof.Machine.execMin v f s
  | .max v f => Sys2Proof.Machine.execMax v f s
  | .slt v f => Sys2Proof.Machine.execSlt v f s
  | .sltu v f => Sys2Proof.Machine.execSltu v f s
  | .li v f => Sys2Proof.Machine.execLi v f s
  | .lih v f => Sys2Proof.Machine.execLih v f s
  | .addImm v f => Sys2Proof.Machine.execAddImm v f s
  | .subImm v f => Sys2Proof.Machine.execSubImm v f s
  | .andImm v f => Sys2Proof.Machine.execAndImm v f s
  | .orImm v f => Sys2Proof.Machine.execOrImm v f s
  | .xorImm v f => Sys2Proof.Machine.execXorImm v f s
  | .shlImm v f => Sys2Proof.Machine.execShlImm v f s
  | .shrImm v f => Sys2Proof.Machine.execShrImm v f s
  | .sraImm v f => Sys2Proof.Machine.execSraImm v f s
  | .mulImm v f => Sys2Proof.Machine.execMulImm v f s
  | .mulhImm v f => Sys2Proof.Machine.execMulhImm v f s
  | .minImm v f => Sys2Proof.Machine.execMinImm v f s
  | .maxImm v f => Sys2Proof.Machine.execMaxImm v f s
  | .sltImm v f => Sys2Proof.Machine.execSltImm v f s
  | .sltuImm v f => Sys2Proof.Machine.execSltuImm v f s
  -- scalar fp32 and control
  | .fadd v f => Sys2Proof.Machine.execFadd v f s
  | .fsub v f => Sys2Proof.Machine.execFsub v f s
  | .fmul v f => Sys2Proof.Machine.execFmul v f s
  | .ffma v f => Sys2Proof.Machine.execFfma v f s
  | .fdiv v f => Sys2Proof.Machine.execFdiv v f s
  | .fsqrt v f => Sys2Proof.Machine.execFsqrt v f s
  | .fmin v f => Sys2Proof.Machine.execFmin v f s
  | .fmax v f => Sys2Proof.Machine.execFmax v f s
  | .fcvti v f => Sys2Proof.Machine.execFcvti v f s
  | .icvtf v f => Sys2Proof.Machine.execIcvtf v f s
  | .beq v f => Sys2Proof.Machine.execBeq v f s
  | .bne v f => Sys2Proof.Machine.execBne v f s
  | .blt v f => Sys2Proof.Machine.execBlt v f s
  | .bge v f => Sys2Proof.Machine.execBge v f s
  | .jmp v f => Sys2Proof.Machine.execJmp v f s
  | .halt v f => Sys2Proof.Machine.execHalt v f s
  -- vector
  | .vadd v f => Sys2Proof.Machine.execVadd v f s
  | .vsub v f => Sys2Proof.Machine.execVsub v f s
  | .vmul v f => Sys2Proof.Machine.execVmul v f s
  | .vfma v f => Sys2Proof.Machine.execVfma v f s
  | .vmin v f => Sys2Proof.Machine.execVmin v f s
  | .vmax v f => Sys2Proof.Machine.execVmax v f s
  | .vand v f => Sys2Proof.Machine.execVand v f s
  | .vor v f => Sys2Proof.Machine.execVor v f s
  | .vxor v f => Sys2Proof.Machine.execVxor v f s
  | .vsel v f => Sys2Proof.Machine.execVsel v f s
  | .vbcast v f => Sys2Proof.Machine.execVbcast v f s
  | .vredsum v f => Sys2Proof.Machine.execVredsum v f s
  | .vredmax v f => Sys2Proof.Machine.execVredmax v f s
  | .vperm v f => Sys2Proof.Machine.execVperm v f s
  | .vcvt v f => Sys2Proof.Machine.execVcvt v f s
  | .vexp2 v f => Sys2Proof.Machine.execVexp2 v f s
  | .vdiv v f => Sys2Proof.Machine.execVdiv v f s
  | .vsqrt v f => Sys2Proof.Machine.execVsqrt v f s
  | .vcmp v f => Sys2Proof.Machine.execVcmp v f s
  -- array
  | .amm v f => Sys2Proof.Machine.execAmm v f s
  | .ammComplete core checks => Sys2Proof.Machine.execAmmComplete core checks s
  | .azero v f => Sys2Proof.Machine.execAzero v f s
  | .astore v f => Sys2Proof.Machine.execAstore v f s
  | .aload v f => Sys2Proof.Machine.execAload v f s
  -- scratchpad and streams
  | .lds v f => Sys2Proof.Machine.execLds v f s
  | .sts v f => Sys2Proof.Machine.execSts v f s
  | .vlds v f => Sys2Proof.Machine.execVlds v f s
  | .vsts v f => Sys2Proof.Machine.execVsts v f s
  | .stream v f => Sys2Proof.Machine.execStream v f s
  | .swait v f => Sys2Proof.Machine.execSwait v f s
  | .streamTileBegin v token => Sys2Proof.Machine.execStreamTileBegin v token s
  | .streamComplete v token how exceeded hops measured bound => Sys2Proof.Machine.execStreamComplete v token how exceeded hops measured bound s
  -- pool accesses
  | .ld v f => Sys2Proof.Machine.execLd v f s
  | .st v f => Sys2Proof.Machine.execSt v f s
  | .vld v f => Sys2Proof.Machine.execVld v f s
  | .vst v f => Sys2Proof.Machine.execVst v f s
  | .ldv v f => Sys2Proof.Machine.execLdv v f s
  | .vldv v f => Sys2Proof.Machine.execVldv v f s
  | .linv v f => Sys2Proof.Machine.execLinv v f s
  | .aadd v f => Sys2Proof.Machine.execAadd v f s
  | .aswp v f => Sys2Proof.Machine.execAswp v f s
  | .acas v f => Sys2Proof.Machine.execAcas v f s
  | .amin v f => Sys2Proof.Machine.execAmin v f s
  | .amax v f => Sys2Proof.Machine.execAmax v f s
  | .alda v f => Sys2Proof.Machine.execAlda v f s
  | .astr v f => Sys2Proof.Machine.execAstr v f s
  | .fence v f => Sys2Proof.Machine.execFence v f s
  | .poolAccessComplete v slot measured bound => Sys2Proof.Machine.execPoolAccessComplete v slot measured bound s
  -- tiers
  | .tierEnable port promote => Sys2Proof.Machine.execTierEnable port promote s
  | .tierReady => Sys2Proof.Machine.execTierReady s
  | .nvmeCommandComplete drive granule how => Sys2Proof.Machine.execNvmeCommandComplete drive granule how s
  | .nvmeCommandTimeout drive => Sys2Proof.Machine.execNvmeCommandTimeout drive s
  | .driveResetTimeout drive => Sys2Proof.Machine.execDriveResetTimeout drive s
  | .fillComplete granule => Sys2Proof.Machine.execFillComplete granule s
  | .frameWaitTimeout granule => Sys2Proof.Machine.execFrameWaitTimeout granule s
  | .ageExamination => Sys2Proof.Machine.execAgeExamination s
  | .copyPassComplete granule => Sys2Proof.Machine.execCopyPassComplete granule s
  | .writebackStart granule => Sys2Proof.Machine.execWritebackStart granule s
  | .patrolScrubStep line corrected uncorrectable => Sys2Proof.Machine.execPatrolScrubStep line corrected uncorrectable s
  -- translation
  | .ptwrite ring pos src => Sys2Proof.Machine.execPtwrite ring pos src s
  | .inval ring pos => Sys2Proof.Machine.execInval ring pos s
  | .setroot ring pos => Sys2Proof.Machine.execSetroot ring pos s
  | .ptwriteBroadcast from_ off bytes => Sys2Proof.Machine.execPtwriteBroadcast from_ off bytes s
  | .invalForward from_ tenant all addr len root => Sys2Proof.Machine.execInvalForward from_ tenant all addr len root s
  | .invalConfirm ring dev => Sys2Proof.Machine.execInvalConfirm ring dev s
  | .invalConfirmTimeout ring => Sys2Proof.Machine.execInvalConfirmTimeout ring s
  | .walkEntryRead walk => Sys2Proof.Machine.execWalkEntryRead walk s
  -- weight regions
  | .regionValidSet port region value => Sys2Proof.Machine.execRegionValidSet port region value s
  | .regionValidClear port region value => Sys2Proof.Machine.execRegionValidClear port region value s
  | .regionMeasured region => Sys2Proof.Machine.execRegionMeasured region s
  | .weightBlockExpanded region block => Sys2Proof.Machine.execWeightBlockExpanded region block s
  -- Sprinoucel links
  | .flitReceived p flit correctable => Sys2Proof.Machine.execFlitReceived p flit correctable s
  | .replayTimerExpiry p => Sys2Proof.Machine.execReplayTimerExpiry p s
  | .signalDetect p => Sys2Proof.Machine.execSignalDetect p s
  | .trainComplete p delay => Sys2Proof.Machine.execTrainComplete p delay s
  | .trainTimeout p => Sys2Proof.Machine.execTrainTimeout p s
  | .trainRetryTimer p => Sys2Proof.Machine.execTrainRetryTimer p s
  | .keyExchangeComplete p level => Sys2Proof.Machine.execKeyExchangeComplete p level s
  | .keyExchangeTimeout p => Sys2Proof.Machine.execKeyExchangeTimeout p s
  | .retrainTimeout p => Sys2Proof.Machine.execRetrainTimeout p s
  | .signalLost p => Sys2Proof.Machine.execSignalLost p s
  | .portReset port p => Sys2Proof.Machine.execPortReset port p s
  | .portRetrain port p => Sys2Proof.Machine.execPortRetrain port p s
  -- coherence and messages
  | .rdS via r => Sys2Proof.Machine.execRdS via r s
  | .rdX via r => Sys2Proof.Machine.execRdX via r s
  | .upg via r => Sys2Proof.Machine.execUpg via r s
  | .rdNc via r => Sys2Proof.Machine.execRdNc via r s
  | .wrC via r => Sys2Proof.Machine.execWrC via r s
  | .wrCm via r => Sys2Proof.Machine.execWrCm via r s
  | .wrNs via r => Sys2Proof.Machine.execWrNs via r s
  | .atAdd via r => Sys2Proof.Machine.execAtAdd via r s
  | .atSwp via r => Sys2Proof.Machine.execAtSwp via r s
  | .atCas via r => Sys2Proof.Machine.execAtCas via r s
  | .atMin via r => Sys2Proof.Machine.execAtMin via r s
  | .atMax via r => Sys2Proof.Machine.execAtMax via r s
  | .evict via r => Sys2Proof.Machine.execEvict via r s
  | .snInv via r => Sys2Proof.Machine.execSnInv via r s
  | .snFwdS via r => Sys2Proof.Machine.execSnFwdS via r s
  | .snFwdX via r => Sys2Proof.Machine.execSnFwdX via r s
  | .snRecall via r => Sys2Proof.Machine.execSnRecall via r s
  | .snRecallX via r => Sys2Proof.Machine.execSnRecallX via r s
  | .data via r => Sys2Proof.Machine.execData via r s
  | .cmp via r => Sys2Proof.Machine.execCmp via r s
  | .snAck via r => Sys2Proof.Machine.execSnAck via r s
  | .snData via r => Sys2Proof.Machine.execSnData via r s
  | .wbPull via r => Sys2Proof.Machine.execWbPull via r s
  | .wbData via r => Sys2Proof.Machine.execWbData via r s
  | .atData via r => Sys2Proof.Machine.execAtData via r s
  | .mg via src tag body => Sys2Proof.Machine.execMg via src tag body s
  | .snoopTimeout line dev gallery => Sys2Proof.Machine.execSnoopTimeout line dev gallery s
  | .victimBufferTimeout gallery line => Sys2Proof.Machine.execVictimBufferTimeout gallery line s
  | .remoteRequestTimeout tag => Sys2Proof.Machine.execRemoteRequestTimeout tag s
  | .tagQuarantineExpiry tag => Sys2Proof.Machine.execTagQuarantineExpiry tag s
  -- pool sharing
  | .mark ring pos => Sys2Proof.Machine.execMark ring pos s
  | .unmark ring pos => Sys2Proof.Machine.execUnmark ring pos s
  | .grant ring pos => Sys2Proof.Machine.execGrant ring pos s
  | .revoke ring pos => Sys2Proof.Machine.execRevoke ring pos s
  | .poolQuery ring pos => Sys2Proof.Machine.execPoolQuery ring pos s
  | .setmode ring pos => Sys2Proof.Machine.execSetmode ring pos s
  | .setmodeDrained port => Sys2Proof.Machine.execSetmodeDrained port s
  | .revokeTimerExpiry ring pos => Sys2Proof.Machine.execRevokeTimerExpiry ring pos s
  | .directorySweepComplete ring pos => Sys2Proof.Machine.execDirectorySweepComplete ring pos s
  | .cxlMemRead port hpa copy tag => Sys2Proof.Machine.execCxlMemRead port hpa copy tag s
  | .cxlMemWrite port hpa data tag => Sys2Proof.Machine.execCxlMemWrite port hpa data tag s
  | .tokenAdmit port => Sys2Proof.Machine.execTokenAdmit port s
  | .throttleHoldExpiry port => Sys2Proof.Machine.execThrottleHoldExpiry port s
  | .birsp port line dirty data => Sys2Proof.Machine.execBirsp port line dirty data s
  | .backInvalidateTimeout port line => Sys2Proof.Machine.execBackInvalidateTimeout port line s
  | .hdmDecoderCommit port decoder base size ways bi commit => Sys2Proof.Machine.execHdmDecoderCommit port decoder base size ways bi commit s
  | .hostConfigRequest port req => Sys2Proof.Machine.execHostConfigRequest port req s
  -- the Keeper
  | .sealKeeper port => Sys2Proof.Machine.execSeal port s
  | .anchor port t => Sys2Proof.Machine.execAnchor port t s
  | .switch port t erase => Sys2Proof.Machine.execSwitch port t erase s
  | .switchComplete t => Sys2Proof.Machine.execSwitchComplete t s
  | .fwStage port keeper core => Sys2Proof.Machine.execFwStage port keeper core s
  | .commitSvn port => Sys2Proof.Machine.execCommitSvn port s
  | .kprCommandComplete => Sys2Proof.Machine.execKprCommandComplete s
  | .mailboxSend port len => Sys2Proof.Machine.execMailboxSend port len s
  | .mailboxRxAck port value => Sys2Proof.Machine.execMailboxRxAck port value s
  | .getVersion binding body => Sys2Proof.Machine.execGetVersion binding body s
  | .getCapabilities binding body => Sys2Proof.Machine.execGetCapabilities binding body s
  | .negotiateAlgorithms binding body common => Sys2Proof.Machine.execNegotiateAlgorithms binding body common s
  | .getDigests binding body => Sys2Proof.Machine.execGetDigests binding body s
  | .getCertificate binding slot body => Sys2Proof.Machine.execGetCertificate binding slot body s
  | .challenge binding slot body => Sys2Proof.Machine.execChallenge binding slot body s
  | .getMeasurements binding session index signed body => Sys2Proof.Machine.execGetMeasurements binding session index signed body s
  | .keyExchange binding body => Sys2Proof.Machine.execKeyExchange binding body s
  | .finish session mutually rootDigest verified => Sys2Proof.Machine.execFinish session mutually rootDigest verified s
  | .heartbeat session => Sys2Proof.Machine.execHeartbeat session s
  | .keyUpdate session body => Sys2Proof.Machine.execKeyUpdate session body s
  | .endSession session => Sys2Proof.Machine.execEndSession session s
  | .chunkSend binding handle seq last body => Sys2Proof.Machine.execChunkSend binding handle seq last body s
  | .chunkGet binding handle seq => Sys2Proof.Machine.execChunkGet binding handle seq s
  | .keyInstall session payload => Sys2Proof.Machine.execKeyInstall session payload s
  | .keyDestroy session payload => Sys2Proof.Machine.execKeyDestroy session payload s
  | .setEndpointId binding eid => Sys2Proof.Machine.execSetEndpointId binding eid s
  | .getEndpointId binding => Sys2Proof.Machine.execGetEndpointId binding s
  | .getMctpVersionSupport binding msgType => Sys2Proof.Machine.execGetMctpVersionSupport binding msgType s
  | .getMessageTypeSupport binding => Sys2Proof.Machine.execGetMessageTypeSupport binding s
  | .unsupportedMctpCommand binding command => Sys2Proof.Machine.execUnsupportedMctpCommand binding command s
  | .pldmRequest binding sensor body => Sys2Proof.Machine.execPldmRequest binding sensor body s
  | .keeperReconciliation differ failed => Sys2Proof.Machine.execKeeperReconciliation differ failed s
  | .fenceTimeout cls unit => Sys2Proof.Machine.execFenceTimeout cls unit s
  | .proxyTimeout => Sys2Proof.Machine.execProxyTimeout s
  -- errors
  | .jobReset port => Sys2Proof.Machine.execJobReset port s
  | .jobResetComplete => Sys2Proof.Machine.execJobResetComplete s
  | .fog port => Sys2Proof.Machine.execFog port s
  | .fogEntryComplete => Sys2Proof.Machine.execFogEntryComplete s
  | .rasAck port seq => Sys2Proof.Machine.execRasAck port seq s
  | .rasInject port value => Sys2Proof.Machine.execRasInject port value s
  | .rasLogBaseWrite port value => Sys2Proof.Machine.execRasLogBaseWrite port value s
  | .relief ring pos => Sys2Proof.Machine.execRelief ring pos s
  -- power, clocks, reset and pins
  | .dark port => Sys2Proof.Machine.execDark port s
  | .darkEntryComplete => Sys2Proof.Machine.execDarkEntryComplete s
  | .pwrWake port => Sys2Proof.Machine.execPwrWake port s
  | .wakeComplete => Sys2Proof.Machine.execWakeComplete s
  | .cold port => Sys2Proof.Machine.execCold port s
  | .resetNAssert => Sys2Proof.Machine.execResetNAssert s
  | .resetNRelease b => Sys2Proof.Machine.execResetNRelease b s
  | .powerOn b => Sys2Proof.Machine.execPowerOn b s
  | .vinLockout => Sys2Proof.Machine.execVinLockout s
  | .vinMargin inside => Sys2Proof.Machine.execVinMargin inside s
  | .sensorSample x => Sys2Proof.Machine.execSensorSample x s
  | .throttleClearExpiry => Sys2Proof.Machine.execThrottleClearExpiry s
  | .refclkSysLost => Sys2Proof.Machine.execRefclkSysLost s
  | .refclkSysRestored b => Sys2Proof.Machine.execRefclkSysRestored b s
  | .refclkFabLost => Sys2Proof.Machine.execRefclkFabLost s
  | .perstAssert port => Sys2Proof.Machine.execPerstAssert port s
  | .perstDeassert port => Sys2Proof.Machine.execPerstDeassert port s
  | .hostLinkDown port => Sys2Proof.Machine.execHostLinkDown port s
  | .flashExtRelease b => Sys2Proof.Machine.execFlashExtRelease b s
  | .tapBypass => Sys2Proof.Machine.execTapBypass s
  | .tapIdcode => Sys2Proof.Machine.execTapIdcode s
  | .tapSamplePreload => Sys2Proof.Machine.execTapSamplePreload s
  | .tapExtest cells => Sys2Proof.Machine.execTapExtest cells s
  | .trstAssert => Sys2Proof.Machine.execTrstAssert s
  | .hostL1Exit port => Sys2Proof.Machine.execHostL1Exit port s
  | .idleLinkMessage p => Sys2Proof.Machine.execIdleLinkMessage p s
  | .hostLinkTrained port => Sys2Proof.Machine.execHostLinkTrained port s
  | .codewordAlignmentLost p => Sys2Proof.Machine.execCodewordAlignmentLost p s
  | .nvmeControllerReady drive => Sys2Proof.Machine.execNvmeControllerReady drive s
  | .nvmeControllerResetTimeout drive => Sys2Proof.Machine.execNvmeControllerResetTimeout drive s
  | .nvmePerstPulseEnd drive => Sys2Proof.Machine.execNvmePerstPulseEnd drive s
  | .claimRefused peer peerId why => Sys2Proof.Machine.execClaimRefused peer peerId why s
  | .leaseReadAnswer peer peerId lease => Sys2Proof.Machine.execLeaseReadAnswer peer peerId lease s

end Sys2Proof.Machine
end

