-- ==== Sys2Proof/Machine/Tick.lean ====
section
/-! DEFINITION. One nanosecond in which no command arrives (log entry 3): the clock, the token buckets (R312), the management
queue (R298), the load (R48), and what waits inside the device. -/

namespace Sys2Proof.Machine

/-- The bucket of a port holds at most POOL_BURST KiB and fills at POOL_RATE GB/s, a byte a nanosecond for each GB/s. -/
def State.fillBucket (s : State) (p : Nat) : State :=
  let top := (s.reg (R.poolBurst p)).toNat % 65536 * 1024
  let rate := (s.reg (R.poolRate p)).toNat % 512
  s.updPort p fun x => { x with tokens := min top (x.tokens + rate) }

/-- The oldest management message is consumed and answered. -/
def State.takeMg (s : State) : State :=
  match s.mgQueue with
  | [] => s
  | (src, tag, _) :: rest =>
    let s := { s with mgQueue := rest }
    match s.exitPort (epDev src) (epLocal src) with
    | some p => s.sendOn p (.mgStatus (BitVec.ofNat 5 p) src tag St.done)
    | none => s

/-- Every ring's records that were written are visible by now (R49; log entry 186). -/
def State.showRecords (s : State) : State :=
  s.each ((s.rings.filter fun e => e.2.fresh != []).map Prod.fst) State.ringShown

/-- The points of the last 64 µs, and the last one before. -/
def recentPoints (now : Nat) : List (Nat × Nat × Nat) → List (Nat × Nat × Nat)
  | [] => []
  | p :: t => if p.1 + 64000 ≤ now then [p] else p :: recentPoints now t

/-- Cores with a voice that runs a clause. -/
def State.coresRunning (s : State) : Nat :=
  (((s.voices.filter fun e => e.2.loaded && e.2.running).map fun e => coreOf e.1).eraseDups).length

/-- The nanosecond counts in the load (R48). -/
def State.tallyLoad (s : State) : State :=
  let p := (s.memTxns, s.tagsUsed)
  let points := if (s.use.points.head?.map Prod.snd) = some p then s.use.points else (s.time, p) :: s.use.points
  { s with use := { s.use with points := recentPoints s.time points, busy := s.use.busy + s.coresRunning } }

/-- What waits inside the device for a tag, a line, an answer or room goes on where it can, and acknowledgements and credits are
returned. -/
def State.goOn (s : State) : State :=
  let s := (s.pumpMg s.mgWaits.length).missesGo.pullsGoOn.runNet
  let s := if s.tierOn then s.fillsGoOn.risesGoOn else s
  let s := s.gradsGo.reliefsGo.runNet.itemsEnd
  s.idleFlits

/-- A nanosecond passes. -/
def State.tick (s : State) : State :=
  (({ s with time := s.time + 1 } : State).each (List.range 4) State.fillBucket).takeMg.showRecords.tallyLoad.goOn

end Sys2Proof.Machine
end

