-- ==== Sys2Proof/Safety.lean ====
section
/-! DEFINITION. What counts as a safe run, what a command may touch, and which forms of the state every step keeps: the words
the statements are made of. -/

namespace Sys2Proof.Machine

/-- A step that goes on. -/
def goesOn (o : Host.Outcome State Fault Refusal) : Prop := ∃ s, o = .next s

/-- A machine is safe in a state when its next step goes on. -/
def State.safe (s : State) : Prop := goesOn (step s)

/-- The pieces of the state, one name for each field. -/
inductive Field where
  | pending | out | free | variant | time | latch | rwk | regs
  | ports | rings | ringCmd | ringLast | rot | sessions | leaves | frames
  | sesOps | offers | accepts | pulls | heldPulls | discarded | reclaims | abftArm
  | tables | tabCmd | tabLast | steps | grads | installs | poisonSteps | voices
  | pads | carries | amms | gcache | abuf | victims | pool | poison
  | lineKey | granules | backed | preparing | ready | drives | stripe | ddr
  | tlb | walkCache | walks | bcasts | blocks | links | tags | dir
  | dirSeq | txns | homeWaits | net | marks | mgQueue | drains | modeSwitches
  | keeper | nvm | ras | pwr | use | engineQ | came | heldOps
  | receiving | sesCache | mgWaits | missed
deriving DecidableEq, Repr

/-- Two states agree on a piece. -/
def Field.same (s t : State) : Field → Prop
  | .pending => s.pending = t.pending
  | .out => s.out = t.out
  | .free => s.free = t.free
  | .variant => s.variant = t.variant
  | .time => s.time = t.time
  | .latch => s.latch = t.latch
  | .rwk => s.rwk = t.rwk
  | .regs => s.regs = t.regs
  | .ports => s.ports = t.ports
  | .rings => s.rings = t.rings
  | .ringCmd => s.ringCmd = t.ringCmd
  | .ringLast => s.ringLast = t.ringLast
  | .rot => s.rot = t.rot
  | .sessions => s.sessions = t.sessions
  | .leaves => s.leaves = t.leaves
  | .frames => s.frames = t.frames
  | .sesOps => s.sesOps = t.sesOps
  | .offers => s.offers = t.offers
  | .accepts => s.accepts = t.accepts
  | .pulls => s.pulls = t.pulls
  | .heldPulls => s.heldPulls = t.heldPulls
  | .discarded => s.discarded = t.discarded
  | .reclaims => s.reclaims = t.reclaims
  | .abftArm => s.abftArm = t.abftArm
  | .tables => s.tables = t.tables
  | .tabCmd => s.tabCmd = t.tabCmd
  | .tabLast => s.tabLast = t.tabLast
  | .steps => s.steps = t.steps
  | .grads => s.grads = t.grads
  | .installs => s.installs = t.installs
  | .poisonSteps => s.poisonSteps = t.poisonSteps
  | .voices => s.voices = t.voices
  | .pads => s.pads = t.pads
  | .carries => s.carries = t.carries
  | .amms => s.amms = t.amms
  | .gcache => s.gcache = t.gcache
  | .abuf => s.abuf = t.abuf
  | .victims => s.victims = t.victims
  | .pool => s.pool = t.pool
  | .poison => s.poison = t.poison
  | .lineKey => s.lineKey = t.lineKey
  | .granules => s.granules = t.granules
  | .backed => s.backed = t.backed
  | .preparing => s.preparing = t.preparing
  | .ready => s.ready = t.ready
  | .drives => s.drives = t.drives
  | .stripe => s.stripe = t.stripe
  | .ddr => s.ddr = t.ddr
  | .tlb => s.tlb = t.tlb
  | .walkCache => s.walkCache = t.walkCache
  | .walks => s.walks = t.walks
  | .bcasts => s.bcasts = t.bcasts
  | .blocks => s.blocks = t.blocks
  | .links => s.links = t.links
  | .tags => s.tags = t.tags
  | .dir => s.dir = t.dir
  | .dirSeq => s.dirSeq = t.dirSeq
  | .txns => s.txns = t.txns
  | .homeWaits => s.homeWaits = t.homeWaits
  | .net => s.net = t.net
  | .marks => s.marks = t.marks
  | .mgQueue => s.mgQueue = t.mgQueue
  | .drains => s.drains = t.drains
  | .modeSwitches => s.modeSwitches = t.modeSwitches
  | .keeper => s.keeper = t.keeper
  | .nvm => s.nvm = t.nvm
  | .ras => s.ras = t.ras
  | .pwr => s.pwr = t.pwr
  | .use => s.use = t.use
  | .engineQ => s.engineQ = t.engineQ
  | .came => s.came = t.came
  | .heldOps => s.heldOps = t.heldOps
  | .receiving => s.receiving = t.receiving
  | .sesCache => s.sesCache = t.sesCache
  | .mgWaits => s.mgWaits = t.mgWaits
  | .missed => s.missed = t.missed

/-- The frame of a command: every piece of the state but the listed ones is as it was. -/
def KeepsBut (l : List Field) (s t : State) : Prop := ∀ f : Field, f ∉ l → f.same s t

/-- Nothing waits inside the device for a tag, an answer, a line, a frame or a way out (log entry 3); management messages aside. -/
def State.atRest (s : State) : Prop :=
  s.net = [] ∧ s.engineQ = [] ∧ s.mgWaits = [] ∧ s.missed = [] ∧ s.heldPulls = [] ∧ s.rot.items = [] ∧ s.ras.reliefs = [] ∧
    (∀ e ∈ s.rings, e.2.fresh = []) ∧ (∀ e ∈ s.granules, e.2.fill = none ∧ e.2.rise = false) ∧
    ∀ e ∈ s.links, e.2.state = .active → e.2.ackDue = false ∧ e.2.owed = []

/-- A host port whose set-up writes are served (R28, R370, R379): power on, the port there and its link up, the Keeper booted, and
no Fog mode. -/
def State.openTo (s : State) (port : Nat) : Prop :=
  s.pwr.state = .on ∧ s.hostThere port = true ∧ (s.port port).link = .up ∧ s.keeper.bootFail = false ∧ s.ras.fog = false

/-- A voice that runs and may issue an instruction (R78, R79, R350): its core and gallery are not fenced, and none of the registers
the instruction names awaits a split-phase result. -/
def State.issuing (s : State) (v : Nat) (f : Fields) : Prop :=
  (s.voice v).loaded = true ∧ (s.voice v).running = true ∧ s.voiceFenced v = false ∧
    (s.voice v).waits [f.d.toNat, f.a.toNat, f.b.toNat, f.c.toNat] [f.d.toNat, f.a.toNat, f.b.toNat, f.c.toNat] = false

/-- The next word of a voice lies in its code segment and its opcode is defined (R185). -/
def State.hasNext (s : State) (v : Nat) : Prop := (s.voice v).fetchFault ((s.voice v).pc + 8) = 0

/-- The voice after an instruction that writes x register d. -/
def Voice.wroteX (x : Voice) (d : BitVec 5) (w : Word) : Voice := { x.setX d.toNat w with pc := x.pc + 8 }

/-- The voice after an instruction that writes v register d. -/
def Voice.wroteV (x : Voice) (d : BitVec 5) (w : BitVec 2048) : Voice := { x.setV d.toNat w with pc := x.pc + 8 }

/-- The pool's contents are in their one canonical form: offsets rising, no byte listed that equals what an unlisted one reads
as. -/
def State.poolWf (s : State) : Bool := twf zeroByte s.pool

end Sys2Proof.Machine
end

