-- ==== Sys2Proof/Certificates/Slice0/Obligations.lean ====
section
/-! DEFINITION. The statements about the machine, one definition each, by family of commands. A statement in several parts has
a definition `Claims.<name>` for each part. -/

open Sys2Proof Sys2Proof.Machine

/-! ## Voices: scalar instructions (R182, R183, R408) -/

/-- R183, R408: the scalar integer instructions of two registers. Where the voice may issue and its code goes on, each writes its
result of x[A] and x[B] to x[D] (x[0] discards it) and the voice goes on with the next instruction; nothing else of the machine
changes. -/
def Claims.ScalarRegisterInstructions : Prop :=
  ∀ (s : State) (v : VoiceId) (f : Fields), s.issuing v.toNat f → s.hasNext v.toNat →
    let x := s.voice v.toNat
    let a := x.xr f.a.toNat
    let b := x.xr f.b.toNat
    let wrote (w : Word) : Host.Outcome State Fault Refusal := .next (s.setVoice v.toNat (x.wroteX f.d w))
    exec (.nop v f) s = .next (s.setVoice v.toNat { x with pc := x.pc + 8 }) ∧
    exec (.add v f) s = wrote (a + b) ∧
    exec (.sub v f) s = wrote (a - b) ∧
    exec (.and v f) s = wrote (a &&& b) ∧
    exec (.or v f) s = wrote (a ||| b) ∧
    exec (.xor v f) s = wrote (a ^^^ b) ∧
    exec (.shl v f) s = wrote (a <<< (b.toNat % 64)) ∧
    exec (.shr v f) s = wrote (a >>> (b.toNat % 64)) ∧
    exec (.sra v f) s = wrote (a.sshiftRight (b.toNat % 64)) ∧
    exec (.mul v f) s = wrote (BitVec.ofNat 64 (a.toNat * b.toNat)) ∧
    exec (.mulh v f) s = wrote (BitVec.ofInt 64 (a.toInt * b.toInt / 2 ^ 64)) ∧
    exec (.min v f) s = wrote (if a.toInt < b.toInt then a else b) ∧
    exec (.max v f) s = wrote (if a.toInt < b.toInt then b else a) ∧
    exec (.slt v f) s = wrote (if a.toInt < b.toInt then 1 else 0) ∧
    exec (.sltu v f) s = wrote (if a.toNat < b.toNat then 1 else 0)

/-- R182, R183, R408: the scalar integer instructions of a register and an immediate, IMM sign-extended from 32 bits; LI sets x[D]
to it, and LIH sets bits [63:32] of x[D] to IMM and keeps bits [31:0]. -/
def Claims.ScalarImmediateInstructions : Prop :=
  ∀ (s : State) (v : VoiceId) (f : Fields), s.issuing v.toNat f → s.hasNext v.toNat →
    let x := s.voice v.toNat
    let a := x.xr f.a.toNat
    let i : Word := BitVec.ofInt 64 f.imm.toInt
    let wrote (w : Word) : Host.Outcome State Fault Refusal := .next (s.setVoice v.toNat (x.wroteX f.d w))
    exec (.li v f) s = wrote i ∧
    exec (.lih v f) s = wrote (BitVec.ofNat 64 (f.imm.toNat * 2 ^ 32 + (x.xr f.d.toNat).toNat % 2 ^ 32)) ∧
    exec (.addImm v f) s = wrote (a + i) ∧
    exec (.subImm v f) s = wrote (a - i) ∧
    exec (.andImm v f) s = wrote (a &&& i) ∧
    exec (.orImm v f) s = wrote (a ||| i) ∧
    exec (.xorImm v f) s = wrote (a ^^^ i) ∧
    exec (.shlImm v f) s = wrote (a <<< (i.toNat % 64)) ∧
    exec (.shrImm v f) s = wrote (a >>> (i.toNat % 64)) ∧
    exec (.sraImm v f) s = wrote (a.sshiftRight (i.toNat % 64)) ∧
    exec (.mulImm v f) s = wrote (BitVec.ofNat 64 (a.toNat * i.toNat)) ∧
    exec (.mulhImm v f) s = wrote (BitVec.ofInt 64 (a.toInt * i.toInt / 2 ^ 64)) ∧
    exec (.minImm v f) s = wrote (if a.toInt < i.toInt then a else i) ∧
    exec (.maxImm v f) s = wrote (if a.toInt < i.toInt then i else a) ∧
    exec (.sltImm v f) s = wrote (if a.toInt < i.toInt then 1 else 0) ∧
    exec (.sltuImm v f) s = wrote (if a.toNat < i.toNat then 1 else 0)

/-- R180, R183, R408: the scalar fp32 instructions write the fp32 result of the low halves of their registers to x[D]; FCVTI
writes an integer, rounded as MOD says, and faults the voice with reason 2 on a reserved MOD. Bits [63:32] of an fp32 result are
free (log entry 36). -/
def Claims.ScalarFloatInstructions : Prop :=
  ∀ (s : State) (v : VoiceId) (f : Fields), s.issuing v.toNat f → s.hasNext v.toNat →
    let x := s.voice v.toNat
    let lo (r : BitVec 5) : Nat := (x.xr r.toNat).toNat % 2 ^ 32
    let wrote (n : Nat) : Host.Outcome State Fault Refusal := .next (s.setVoice v.toNat (x.wroteX f.d (fpWord n)))
    exec (.fadd v f) s = wrote (Flt.fp32.result [lo f.a, lo f.b] ((Flt.fp32.val (lo f.a)).add (Flt.fp32.val (lo f.b)))) ∧
    exec (.fsub v f) s = wrote (Flt.fp32.result [lo f.a, lo f.b] ((Flt.fp32.val (lo f.a)).sub (Flt.fp32.val (lo f.b)))) ∧
    exec (.fmul v f) s = wrote (Flt.fp32.result [lo f.a, lo f.b] ((Flt.fp32.val (lo f.a)).mul (Flt.fp32.val (lo f.b)))) ∧
    exec (.ffma v f) s = wrote (Flt.fp32.result [lo f.a, lo f.b, lo f.c]
      (((Flt.fp32.val (lo f.a)).mul (Flt.fp32.val (lo f.b))).add (Flt.fp32.val (lo f.c)))) ∧
    exec (.fdiv v f) s = wrote (Flt.fp32.opDiv (lo f.a) (lo f.b)) ∧
    exec (.fsqrt v f) s = wrote (Flt.fp32.opSqrt (lo f.a)) ∧
    exec (.fmin v f) s = wrote (Flt.fp32.opMin (lo f.a) (lo f.b)) ∧
    exec (.fmax v f) s = wrote (Flt.fp32.opMax (lo f.a) (lo f.b)) ∧
    exec (.icvtf v f) s = wrote (Flt.fp32.round (Fval.ofInt (x.xr f.a.toNat).toInt)) ∧
    (f.mod.toNat < 4 → exec (.fcvti v f) s =
      .next (s.setVoice v.toNat (x.wroteX f.d (BitVec.ofInt 64 ((Flt.fp32.val (lo f.a)).toIntSat f.mod.toNat 64))))) ∧
    (4 ≤ f.mod.toNat → exec (.fcvti v f) s = .next (s.voiceFault v.toNat 2))

/-- R180, R182, R183, R408: The scalar instructions of a voice, of every form: registers, immediates and fp32. -/
def Obligations.ScalarInstructions : Prop :=
  Claims.ScalarRegisterInstructions ∧ Claims.ScalarImmediateInstructions ∧ Claims.ScalarFloatInstructions


/-- R182, R185, R186, R408: a branch whose relation holds, and JMP, move the voice IMM words on; a branch whose relation does not hold
goes to the next instruction; HALT stops the voice. A target outside the code segment faults the voice with reason 7, and one whose word
has a reserved opcode with reason 2, whether a branch or the instruction before it leads there. -/
def Claims.ControlInstructions : Prop :=
  ∀ (s : State) (v : VoiceId) (f : Fields), s.issuing v.toNat f →
    let x := s.voice v.toNat
    let a := x.xr f.a.toNat
    let b := x.xr f.b.toNat
    let goes (c : Instr) (target : Int) : Prop :=
      let inside : Prop := 0 ≤ target ∧ target + 8 ≤ x.code.length
      let word : Word := BitVec.ofNat 64 (leNat ((x.code.drop target.toNat).take 8))
      (inside → (decodeCore v word).isSome = true → exec c s = .next (s.setVoice v.toNat { x with pc := target.toNat })) ∧
        (¬inside → exec c s = .next (s.voiceFault v.toNat 7)) ∧
        (inside → decodeCore v word = none → exec c s = .next (s.voiceFault v.toNat 2))
    let branch (c : Instr) (taken : Prop) : Prop := (taken → goes c (x.pc + 8 * f.imm.toInt)) ∧ (¬taken → goes c (x.pc + 8))
    branch (.beq v f) (a = b) ∧
    branch (.bne v f) (a ≠ b) ∧
    branch (.blt v f) (a.toInt < b.toInt) ∧
    branch (.bge v f) (b.toInt ≤ a.toInt) ∧
    branch (.jmp v f) True ∧
    goes (.nop v f) (x.pc + 8) ∧
    exec (.halt v f) s = .next (s.setVoice v.toNat { x with running := false })

/-- R185, R186: what a voice fault does. The voice stops with its reason in its fault field, its registers and pc stay, no other
voice changes, and only the pieces named may change: counters, the error record with what it sends, and the clause's item. -/
def Claims.VoiceFaultStops : Prop :=
  ∀ (s : State) (v reason addr : Nat), (s.voice v).loaded = true →
    let t := s.voiceFault v reason addr
    t.voice v = { s.voice v with running := false, fault := BitVec.ofNat 8 reason } ∧
      (∀ u, u ≠ v → t.voice u = s.voice u) ∧
      KeepsBut [.voices, .regs, .ras, .out, .ports, .rot, .pool, .poison, .lineKey, .granules] s t


/-! ## Voices: vector instructions (R180, R183, R408) -/

/-- R183, R408: the lane-wise vector instructions. With a lane format of R183 (MOD 0 to 5) each writes to v[D] its result of each
lane of v[A], v[B] (and v[C] for VFMA): a float format's correctly rounded result (VFMA with one rounding, VMIN and VMAX the smaller
and larger value), an integer format's result modulo the lane; VAND, VOR and VXOR act on the bits. The voice goes on, and nothing
else of the machine changes. -/
def Claims.VectorLaneInstructions : Prop :=
  ∀ (s : State) (v : VoiceId) (f : Fields), s.issuing v.toNat f → s.hasNext v.toNat → f.mod.toNat ≤ 5 →
    let x := s.voice v.toNat
    let m := f.mod.toNat
    let w := laneW m
    let a := x.vr f.a.toNat
    let b := x.vr f.b.toNat
    let c := x.vr f.c.toNat
    let flt (g : Flt → Nat → Nat → Nat) (i : Nat → Nat → Nat) (p q : Nat) : Nat :=
      match laneFlt m with
      | some h => g h p q
      | none => i p q
    let wrote (r : BitVec 2048) : Host.Outcome State Fault Refusal := .next (s.setVoice v.toNat (x.wroteV f.d r))
    let each (op : Nat → Nat → Nat) : Host.Outcome State Fault Refusal :=
      wrote (packLanes w (List.zipWith op (lanes w a) (lanes w b)))
    exec (.vadd v f) s = each (flt (fun h p q => h.result [p, q] ((h.val p).add (h.val q))) fun p q => p + q) ∧
    exec (.vsub v f) s = each (flt (fun h p q => h.result [p, q] ((h.val p).sub (h.val q))) fun p q => p + (2 ^ w - q)) ∧
    exec (.vmul v f) s = each (flt (fun h p q => h.result [p, q] ((h.val p).mul (h.val q))) fun p q => p * q) ∧
    exec (.vmin v f) s = each (flt (fun h p q => h.round ((h.val p).min (h.val q))) fun p q => if sInt w p < sInt w q then p else q) ∧
    exec (.vmax v f) s = each (flt (fun h p q => h.round ((h.val p).max (h.val q))) fun p q => if sInt w p < sInt w q then q else p) ∧
    exec (.vfma v f) s = wrote (packLanes w (List.zipWith (fun pq r => flt
        (fun h p q => h.result [p, q, r] (((h.val p).mul (h.val q)).add (h.val r))) (fun p q => p * q + r) pq.1 pq.2)
      (List.zip (lanes w a) (lanes w b)) (lanes w c))) ∧
    exec (.vand v f) s = wrote (a &&& b) ∧
    exec (.vor v f) s = wrote (a ||| b) ∧
    exec (.vxor v f) s = wrote (a ^^^ b)

/-- R183, R408: the vector instructions that choose, spread, reduce or apply a function. With a lane format of R183 each
writes v[D] and the voice goes on. VSEL takes each lane from v[A] or v[B], VBCAST writes one value to every lane, VREDSUM and VREDMAX
write the pairwise-tree reduction of R147 to lane 0, VPERM picks lanes of v[A], VDIV and VSQRT are correctly rounded and VEXP2 is the
function of R146 in fp32. Which lanes are chosen, the lanes beside a reduction, the results of integer
VDIV, VSQRT, VEXP2 and of VCMP are free values (log entry 37). -/
def Claims.VectorRearrangingInstructions : Prop :=
  ∀ (s : State) (v : VoiceId) (f : Fields), s.issuing v.toNat f → s.hasNext v.toNat → f.mod.toNat ≤ 5 →
    let x := s.voice v.toNat
    let m := f.mod.toNat
    let w := laneW m
    let la := lanes w (x.vr f.a.toNat)
    let lb := lanes w (x.vr f.b.toNat)
    let lc := lanes w (x.vr f.c.toNat)
    let wrote (l : List Nat) : Host.Outcome State Fault Refusal := .next (s.setVoice v.toNat (x.wroteV f.d (packLanes w l)))
    exec (.vsel v f) s = wrote (List.zipWith (fun p c => if Config.selLane m c then p.1 else p.2) (List.zip la lb) lc) ∧
    (∃ e, e < 2 ^ w ∧ (e = fld (x.xr f.a.toNat) 0 w ∨ la[0]? = some e) ∧ exec (.vbcast v f) s = wrote (List.replicate (2048 / w) e)) ∧
    (∃ rest, exec (.vredsum v f) s = wrote ((pairTree (fun p q => laneAdd m p q % 2 ^ w) 8 la).headD 0 :: rest)) ∧
    (∃ rest, exec (.vredmax v f) s = wrote ((pairTree (fun p q => laneMax m p q % 2 ^ w) 8 la).headD 0 :: rest)) ∧
    (∃ pick : Nat → Nat, (∀ i, pick i < 2048 / w) ∧ exec (.vperm v f) s = wrote (lb.map fun i => la.getD (pick i) 0)) ∧
    (m = 0 → ∃ nan : Nat → Nat, exec (.vexp2 v f) s = wrote (la.map fun p => if Flt.fp32.val p = .nan then nan p else exp2Bits (Flt.fp32.val p))) ∧
    (∃ r, exec (.vexp2 v f) s = .next (s.setVoice v.toNat (x.wroteV f.d r))) ∧
    (∀ h, laneFlt m = some h → exec (.vdiv v f) s = wrote (List.zipWith h.opDiv la lb) ∧
      exec (.vsqrt v f) s = wrote (la.map h.opSqrt)) ∧
    (∃ r, exec (.vdiv v f) s = .next (s.setVoice v.toNat (x.wroteV f.d r))) ∧
    (∃ r, exec (.vsqrt v f) s = .next (s.setVoice v.toNat (x.wroteV f.d r))) ∧
    (∃ r, exec (.vcmp v f) s = .next (s.setVoice v.toNat (x.wroteV f.d r)))

/-- R142, R183: VCVT converts lane i of v[A] in format MOD to lane i of v[D] in the format of IMM[3:0], for as many lanes as both
formats hold; int4 codes by the group rule of R142. The lanes past the converted ones are free values (log entry 37). A format
number above 9 in either place is reserved: the voice faults with reason 2. -/
def Claims.VectorConversion : Prop :=
  ∀ (s : State) (v : VoiceId) (f : Fields), s.issuing v.toNat f →
    let m := f.mod.toNat
    let d := fld f.imm 0 4
    let x := s.voice v.toNat
    let l := (lanes (laneW m) (x.vr f.a.toNat)).take (2048 / max (laneW m) (laneW d))
    let got := if d = 8 then cvtInt4 m 16 l else l.map (cvtLane m d)
    (m ≤ 9 → d ≤ 9 → s.hasNext v.toNat →
      ∃ rest, exec (.vcvt v f) s = .next (s.setVoice v.toNat (x.wroteV f.d (packLanes (laneW d) (got ++ rest))))) ∧
    (9 < m ∨ 9 < d → exec (.vcvt v f) s = .next (s.voiceFault v.toNat 2))

/-- R183, R185: a vector instruction whose MOD is a lane format R183 reserves faults its voice with reason 2. -/
def Claims.ReservedLaneFormatFaults : Prop :=
  ∀ (s : State) (v : VoiceId) (f : Fields), s.issuing v.toNat f → 5 < f.mod.toNat →
    ∀ c ∈ [Instr.vadd v f, .vsub v f, .vmul v f, .vfma v f, .vmin v f, .vmax v f, .vand v f, .vor v f, .vxor v f, .vsel v f,
      .vbcast v f, .vredsum v f, .vredmax v f, .vperm v f, .vexp2 v f, .vdiv v f, .vsqrt v f, .vcmp v f],
      exec c s = .next (s.voiceFault v.toNat 2)

/-- R182, R183, R185, R186, R408: Branches, HALT, and what a voice fault does. -/
def Obligations.ControlAndVoiceFaults : Prop :=
  Claims.ControlInstructions ∧ Claims.VoiceFaultStops ∧ Claims.ReservedLaneFormatFaults


/-- The lanes of a register packed from a list are that list's, each modulo the lane: what the vector statements' results read as. -/
def Claims.PackedLanesReadBack : Prop :=
  ∀ (w : Nat) (l : List Nat), w ∈ [4, 8, 16, 32] → l.length = 2048 / w → lanes w (packLanes w l) = l.map (· % 2 ^ w)

/-- R142, R183, R408: The vector instructions of a voice. -/
def Obligations.VectorInstructions : Prop :=
  Claims.VectorLaneInstructions ∧ Claims.VectorRearrangingInstructions ∧ Claims.VectorConversion ∧ Claims.PackedLanesReadBack


/-! ## Voices: scratchpad and matrix array (R144, R152, R180 to R187) -/

/-- R182, R183, R185, R187: scratchpad accesses at x[A] + IMM. LDS and STS move 2^MOD[1:0] bytes, VLDS and VSTS 256; a loaded value is
zero-extended, a store writes exactly its bytes, and the voice goes on; nothing else of the machine changes. A misaligned address
faults the voice with reason 8, else one that leaves the 768 KiB of the scratchpad with reason 7. -/
def Claims.ScratchpadAccesses : Prop :=
  ∀ (s : State) (v : VoiceId) (f : Fields), s.issuing v.toNat f →
    let x := s.voice v.toNat
    let c := coreOf v.toNat
    let a := (x.xr f.a.toNat + sext32 f.imm).toNat
    let n := 2 ^ (f.mod.toNat % 4)
    let goesOn : State := s.setVoice v.toNat { x with pc := x.pc + 8 }
    (s.hasNext v.toNat → a % n = 0 → a + n ≤ 0xC0000 →
      exec (.lds v f) s = .next (s.setVoice v.toNat (x.wroteX f.d (BitVec.ofNat 64 (leNat (s.padRead c a n))))) ∧
      exec (.sts v f) s = .next (goesOn.padWrite c a (leBytes n (x.xr f.b.toNat).toNat))) ∧
    (s.hasNext v.toNat → a % 64 = 0 → a + 256 ≤ 0xC0000 →
      exec (.vlds v f) s = .next (s.setVoice v.toNat (x.wroteV f.d (BitVec.ofNat 2048 (leNat (s.padRead c a 256))))) ∧
      exec (.vsts v f) s = .next (goesOn.padWrite c a (leBytes 256 (x.vr f.b.toNat).toNat))) ∧
    (a % n ≠ 0 → exec (.lds v f) s = .next (s.voiceFault v.toNat 8) ∧ exec (.sts v f) s = .next (s.voiceFault v.toNat 8)) ∧
    (a % n = 0 → 0xC0000 < a + n →
      exec (.lds v f) s = .next (s.voiceFault v.toNat 7) ∧ exec (.sts v f) s = .next (s.voiceFault v.toNat 7)) ∧
    (a % 64 ≠ 0 → exec (.vlds v f) s = .next (s.voiceFault v.toNat 8) ∧ exec (.vsts v f) s = .next (s.voiceFault v.toNat 8)) ∧
    (a % 64 = 0 → 0xC0000 < a + 256 →
      exec (.vlds v f) s = .next (s.voiceFault v.toNat 7) ∧ exec (.vsts v f) s = .next (s.voiceFault v.toNat 7))

/-- A scratchpad holds what was last written to it, byte for byte; every byte outside the written ones, and every other core's
scratchpad, reads as before. -/
def Obligations.ScratchpadHoldsWhatWasWritten : Prop :=
  ∀ (s : State) (c a : Nat) (bs : List Byte), a + bs.length ≤ 2 ^ 20 →
    (s.padWrite c a bs).padRead c a bs.length = bs ∧
    (∀ i, i < 2 ^ 20 → (i < a ∨ a + bs.length ≤ i) → (s.padWrite c a bs).padRead c i 1 = s.padRead c i 1) ∧
    (∀ d i, d ≠ c → i < 2 ^ 20 → (s.padWrite c a bs).padRead d i 1 = s.padRead d i 1) ∧
    KeepsBut [.pads] s (s.padWrite c a bs)

/-- R180, R183, R184, R187: AMM reads its rows of A and columns of B from the scratchpad as it issues. Every element (r, c) of the
rows it names in tile T becomes the old element plus the product of row r and column c, one exact sum rounded once; every other
element stays; the AMM joins its core's queue to be checked, and the voice goes on. A reserved MOD faults the voice with reason 2,
else operands that leave the scratchpad with reason 7. When operands are read is the model's choice. -/
def Obligations.MatrixMultiplyAccumulates : Prop :=
  ∀ (s : State) (v : VoiceId) (f : Fields), s.issuing v.toNat f →
    let x := s.voice v.toNat
    let c := coreOf v.toNat
    let m := f.mod.toNat
    let rows := fld f.imm 0 5 + 1
    let n := ammRow m
    let a := (x.xr f.a.toNat).toNat
    let b := (x.xr f.b.toNat).toNat
    let tile := bit f.d 0
    let inPad : Prop := a + n * rows ≤ 0xC0000 ∧ b + n * 32 ≤ 0xC0000
    (m ≤ 7 → inPad → s.hasNext v.toNat → ∃ t, exec (.amm v f) s = .next t ∧
      (∀ r j, r < rows → j < 32 → (t.voice v.toNat).acc tile r j =
        ammStep m (x.acc tile r j) (s.padRead c (a + n * r) n) (s.padRead c (b + n * j) n)) ∧
      (∀ r j, rows ≤ r → r < 32 → j < 32 → (t.voice v.toNat).acc tile r j = x.acc tile r j) ∧
      (∀ r j, r < 32 → j < 32 → (t.voice v.toNat).acc (!tile) r j = x.acc (!tile) r j) ∧
      (t.voice v.toNat).pc = x.pc + 8 ∧ (t.voice v.toNat).x = x.x ∧ (t.voice v.toNat).v = x.v ∧
      (∃ checked : Bool, tget (fun _ => []) t.amms c = tget (fun _ => []) s.amms c ++
        [{ own := x.slot, tenant := x.tenant, stale := false, voice := v, tile, mod := f.mod, rows, a, b, checked }] ∧
        (checked = true ↔ m = 4 ∨ m = 6 ∨ ∃ r, r < rows ∧ ∀ j, j < 32 →
          (Flt.fp32.val ((t.voice v.toNat).acc tile r j).toNat).isNum = true)) ∧
      (∀ u, u ≠ v.toNat → t.voice u = s.voice u) ∧ KeepsBut [.voices, .amms] s t) ∧
    (7 < m → exec (.amm v f) s = .next (s.voiceFault v.toNat 2)) ∧
    (m ≤ 7 → ¬inPad → exec (.amm v f) s = .next (s.voiceFault v.toNat 7))

/-- R183, R184: the tile moves, once the voice has no unchecked AMM: AZERO zeroes tile T and keeps the other, ALOAD fills tile T from
4,096 bytes of scratchpad and ASTORE writes it there, element (r, c) as the little-endian word at 4 × (32 × r + c) (the layout is the
model's choice, log entry 38); the voice goes on. -/
def Claims.TileMoves : Prop :=
  ∀ (s : State) (v : VoiceId) (f : Fields), s.issuing v.toNat f → s.hasNext v.toNat → s.ammBusy v.toNat = false →
    let x := s.voice v.toNat
    let c := coreOf v.toNat
    let a := (x.xr f.a.toNat).toNat
    let tile := bit f.d 0
    (∃ t, exec (.azero v f) s = .next t ∧ (t.voice v.toNat).pc = x.pc + 8 ∧ KeepsBut [.voices] s t ∧
      ∀ r j, r < 32 → j < 32 → (t.voice v.toNat).acc tile r j = 0 ∧ (t.voice v.toNat).acc (!tile) r j = x.acc (!tile) r j) ∧
    (a + 4096 ≤ 0xC0000 →
      (∃ t, exec (.aload v f) s = .next t ∧ (t.voice v.toNat).pc = x.pc + 8 ∧ KeepsBut [.voices] s t ∧
        ∀ r j, r < 32 → j < 32 →
          (t.voice v.toNat).acc tile r j = BitVec.ofNat 32 (leNat (s.padRead c (a + 4 * (32 * r + j)) 4)) ∧
          (t.voice v.toNat).acc (!tile) r j = x.acc (!tile) r j) ∧
      exec (.astore v f) s = .next ((s.setVoice v.toNat { x with pc := x.pc + 8 }).padWrite c a
        ((List.range 1024).flatMap fun i => leBytes 4 (x.acc tile (i / 32) (i % 32)).toNat))) ∧
    (0xC0000 < a + 4096 → exec (.aload v f) s = .next (s.voiceFault v.toNat 7) ∧
      exec (.astore v f) s = .next (s.voiceFault v.toNat 7))

/-- R150, R152, R153, R156: the oldest AMM of a core leaves its queue when it completes. Where its checks pass and no injection is armed,
or all its rows are left out of them, nothing else happens. Where they fail, or an injection is armed (which is then spent), an error is
recorded, the gallery's count rises and the AMM's item is refused with ABFT_FAIL. Writing ATT_ABFT_INJECT with bit 0 set arms the core it names. -/
def Claims.ArrayChecks : Prop :=
  (∀ (s : State) (core : BitVec 9) (checks : Bool) (q : Amm) (rest : List Amm), tget (fun _ => []) s.amms core.toNat = q :: rest →
    let armed := tget (fun _ => false) s.abftArm core.toNat
    ∃ t, exec (.ammComplete core checks) s = .next t ∧ tget (fun _ => []) t.amms core.toNat = rest ∧
      (q.checked = false ∨ (checks = true ∧ armed = false) → KeepsBut [.amms] s t) ∧
      (q.checked = true → checks = false ∨ armed = true → tget (fun _ => false) t.abftArm core.toNat = false ∧
        (q.stale = false → (t.voice q.voice.toNat).running = false) ∧
        (∀ i, s.item q.own = some i → i.fault = none → (t.item q.own).map Item.fault = some (some (Cpl.why St.abftFail core.toNat))) ∧
        KeepsBut [.amms, .abftArm, .voices, .rot, .regs, .ras, .out, .ports, .pool, .poison, .lineKey, .granules] s t)) ∧
  (∀ (s : State) (port : Port) (value : BitVec 32), s.openTo port.toNat → s.controls port.toNat 0 = true →
    ∃ t, exec (.attAbftInject port value) s = .next t ∧ KeepsBut [.abftArm] s t ∧
      ∀ c, tget (fun _ => false) t.abftArm c =
        if bit value 0 = true ∧ c = fld value 1 9 then true else tget (fun _ => false) s.abftArm c)

/-- R150, R152, R153, R156, R182, R183, R184, R185, R187: Accesses to the scratchpad, moves of tiles, and the array's checks. -/
def Obligations.ScratchpadMovesAndArrayChecks : Prop :=
  Claims.ScratchpadAccesses ∧ Claims.TileMoves ∧ Claims.ArrayChecks


/-! ## Voices: streams (R81, R187, R243, R244, R409) -/

/-- R243, R244: STREAM reads its stride descriptor from the scratchpad at x[A]. A sound descriptor starts a stream whose token, the
voice's next, is written to x[D]; the voice goes on, and beside it only walks for the pages of tile 0 start, those that cannot start yet
being kept to be requested. A descriptor that leaves
the scratchpad faults the voice with reason 7; a reserved field or a value out of range with reason 2; a misaligned one with reason 8;
a range outside the scratchpad with reason 7. -/
def Claims.StreamStarts : Prop :=
  ∀ (s : State) (v : VoiceId) (f : Fields), s.issuing v.toNat f →
    let x := s.voice v.toNat
    let a := (x.xr f.a.toNat).toNat
    let d := bytesLine (s.padRead (coreOf v.toNat) a 64)
    let stream : Strm := { own := x.slot, sentence := x.sentence, seq := s.streamSeq (galleryOf v.toNat), begun := false, want := []
                           tenant := x.tenant, stale := false, token := x.nextToken, desc := d, tiles := 0, done := none }
    (a + 64 ≤ 0xC0000 → sdBad d = false → sdUneven d = false → sdRange d = false → s.hasNext v.toNat →
      x.stream x.nextToken = none →
      ∃ t, ∃ later : List Nat, exec (.stream v f) s = .next t ∧ KeepsBut [.voices, .walks] s t ∧
        (∀ u, u ≠ v.toNat → t.voice u = s.voice u) ∧ (∀ p ∈ later, p ∈ tilePages d 0) ∧
        t.voice v.toNat = ({ x with streams := x.streams ++ [{ stream with want := later }]
                                    nextToken := x.nextToken + 1 } : Voice).wroteX f.d x.nextToken) ∧
    (0xC0000 < a + 64 → exec (.stream v f) s = .next (s.voiceFault v.toNat 7)) ∧
    (a + 64 ≤ 0xC0000 → sdBad d = true → exec (.stream v f) s = .next (s.voiceFault v.toNat 2)) ∧
    (a + 64 ≤ 0xC0000 → sdBad d = false → sdUneven d = true → exec (.stream v f) s = .next (s.voiceFault v.toNat 8)) ∧
    (a + 64 ≤ 0xC0000 → sdBad d = false → sdUneven d = false → sdRange d = true →
      exec (.stream v f) s = .next (s.voiceFault v.toNat 7))

/-- R187, R244, R409: SWAIT. A stream that has completed leaves the voice and the voice goes on; one in progress makes the voice wait,
nothing changing; one that met a translation fault faults the voice with reason 6; one refused or poisoned halts the voice and gives
its item that status. A token of no stream is passed over, which the model chooses. -/
def Claims.StreamWait : Prop :=
  ∀ (s : State) (v : VoiceId) (f : Fields), s.issuing v.toNat f → s.hasNext v.toNat →
    let x := s.voice v.toNat
    let tok := x.xr f.a.toNat
    (x.stream tok = none → exec (.swait v f) s = .next (s.setVoice v.toNat { x with pc := x.pc + 8 })) ∧
    ∀ st, x.stream tok = some st →
      (st.done = some .ok → exec (.swait v f) s = .next (s.setVoice v.toNat
        { x with streams := x.streams.filter (fun t => t.token != tok), pc := x.pc + 8 })) ∧
      (st.done = none → exec (.swait v f) s = .next s) ∧
      (st.done = some .refused8 ∨ st.done = some .refused9 → exec (.swait v f) s = .next (s.voiceFault v.toNat 6)) ∧
      (∀ e ∈ [AccessEnd.keyMismatch, .extentRevoked, .timeout, .poisoned, .noFrame], st.done = some e →
        exec (.swait v f) s = .next (s.voiceRefused v.toNat (Cpl.of (endStatus e))))

/-- R81, R226, R243, R244: a stream that begins asks for the pages of the tiles after the first, within LOOKAHEAD, and for the granules
the first needs, and nothing else changes. When the next tile begins, or the last completes, the one in transfer, whose lines are all
there, moves from the pool to the scratchpad; a stream whose last tile has moved, and before which its gallery has none, is done. A stream
that fails is marked with how it ended. -/
def Claims.StreamTiles : Prop :=
  ∀ (s : State) (v : VoiceId) (tok : Word) (st : Strm), (s.voice v.toNat).stream tok = some st → st.done = none →
    let g := galleryOf v.toNat
    let a := sdAddr st.desc st.tiles
    let n := sdTile st.desc
    let starts (u : State) (i : Nat) : State :=
      let ahead := ((List.range (sdAhead st.desc)).map (i + 1 + ·)).filter (· < sdCount st.desc)
      ((u.updStream v.toNat tok fun t => { t with begun := true }).prefetch v.toNat tok (ahead.flatMap (tilePages st.desc))).tileDemand
        g st.tenant st.desc i
    let moved (u : State) (bs : List PByte) : State :=
      ((((u.readUse g st.tenant.toNat a n bs.length).dropCame (· == (st.eng v.toNat).who)).padWrite (coreOf v.toNat)
        (sdLocal st.desc + st.tiles * n) (bs.map Prod.fst)).updStream v.toNat tok fun t => { t with tiles := st.tiles + 1 })
    let there (u : State) (bs : List PByte) : Prop :=
      sdOut st.desc = false ∧ sdCacheOnly st.desc = false ∧ u.tileServed g st.tenant.toNat a n = true ∧
        u.tileNeeds v.toNat st st.tiles = [] ∧ u.gather (st.eng v.toNat) (pieces n) a n = (bs, none) ∧ bs.any Prod.snd = false
    (st.begun = false → exec (.streamTileBegin v tok) s = .next (starts s 0).runNet.itemsEnd ∧
      KeepsBut [.voices, .walks, .granules, .drives, .out] s (starts s 0)) ∧
    (st.begun = true → st.tiles + 1 < sdCount st.desc → ∀ bs, there (s.tileDemand g st.tenant st.desc st.tiles) bs →
      exec (.streamTileBegin v tok) s =
        .next (starts (moved (s.tileDemand g st.tenant st.desc st.tiles) bs) (st.tiles + 1)).runNet.itemsEnd) ∧
    (∀ hops m b, sdCount st.desc = st.tiles + 1 → s.rot.overran = true ∨ s.streamFirst v.toNat st = true →
      let u := (s.tileDemand g st.tenant st.desc st.tiles).tileDemand g st.tenant st.desc st.tiles
      ∀ bs, there u bs → (moved u bs).streamSends v.toNat tok = false →
        exec (.streamComplete v tok .ok false hops m b) s =
          .next ((moved u bs).updStream v.toNat tok fun t => { t with done := some .ok }).runNet.itemsEnd) ∧
    (∀ how hops m b, how ≠ .ok → ∃ u : State, exec (.streamComplete v tok how false hops m b) s = .next (State.itemsEnd u.runNet) ∧
      (u.voice v.toNat).stream tok = some { st with done := some how })

/-- R81, R187, R226, R243, R244, R409: STREAM, its tiles, and the wait for it. -/
def Obligations.StreamsRun : Prop :=
  Claims.StreamStarts ∧ Claims.StreamWait ∧ Claims.StreamTiles


/-! ## Voices: pool accesses (R79, R182 to R200, R409) -/

/-- R79, R182, R183, R185: loads and stores of the pool at x[A] + IMM: LD, ST and LDV move 2^MOD[1:0] bytes, VLD, VST and VLDV 256.
With fewer than four accesses outstanding, none of them an ordered atomic, an aligned one joins the voice's outstanding accesses with
its operand under a slot none of them has, the voice goes on, and the access is translated. A fifth waits until the access that is the
oldest as it comes has returned, and any access for an ordered atomic. A misaligned one faults the voice with reason 8. -/
def Claims.PoolLoadsAndStoresIssue : Prop :=
  ∀ (s : State) (v : VoiceId) (f : Fields), s.issuing v.toNat f →
    let x := s.voice v.toNat
    let dva := x.xr f.a.toNat + sext32 f.imm
    let n := 2 ^ (f.mod.toNat % 4)
    let issued (c : Instr) (a : Access) : Prop := ∃ i : BitVec 2, (∀ b ∈ x.out, b.slot ≠ i) ∧
      exec c s = .next ((s.setVoice v.toNat
        { x with out := x.out ++ [{ a with slot := i, own := x.slot, sentence := x.sentence, tenant := x.tenant }]
                 pc := x.pc + 8 }).translateAccess v.toNat i).runNet
    let scalar (k : AccKind) : Access :=
      { Access.blank k f dva n with data := BitVec.ofNat 2048 ((x.xr f.b.toNat).toNat % 2 ^ (8 * n)) }
    let vector (k : AccKind) : Access := { Access.blank k f dva 256 with data := x.vr f.b.toNat }
    let free : Prop := x.stall = none ∧ x.out.any Access.ord = false
    (s.hasNext v.toNat → x.out.length < 4 → free →
      (dva.toNat % n = 0 → issued (.ld v f) (scalar .ld) ∧ issued (.st v f) (scalar .st) ∧ issued (.ldv v f) (scalar .ldv)) ∧
      (dva.toNat % 256 = 0 → issued (.vld v f) (vector .vld) ∧ issued (.vst v f) (vector .vst) ∧ issued (.vldv v f) (vector .vldv))) ∧
    (∀ c k, (c, k) ∈ [(Instr.ld v f, n), (.st v f, n), (.ldv v f, n), (.vld v f, 256), (.vst v f, 256), (.vldv v f, 256)] →
      dva.toNat % k = 0 →
        (4 ≤ x.out.length → free → exec c s = .next (s.setVoice v.toNat { x with stall := x.out.head?.map Access.slot })) ∧
        (¬free → exec c s = .next s)) ∧
    (dva.toNat % n ≠ 0 → ∀ c ∈ [Instr.ld v f, .st v f, .ldv v f], exec c s = .next (s.voiceFault v.toNat 8)) ∧
    (dva.toNat % 256 ≠ 0 → ∀ c ∈ [Instr.vld v f, .vst v f, .vldv v f], exec c s = .next (s.voiceFault v.toNat 8))

/-- R79, R193, R195, R198: atomics act on 4 or 8 bytes (IMM[0]) at x[A], LINV on the range of x[B] bytes from x[A]. Each joins the
voice's outstanding accesses, with the operands truncated to the width, the voice goes on, and the access is translated; an atomic with
its ordering bit MOD[3] waits until none is outstanding. A reserved scope faults with reason 2, then a misaligned atomic with reason 8; a
LINV range that is empty, over 64 KiB or across a 64 KiB boundary with reason 7. -/
def Claims.AtomicsIssue : Prop :=
  ∀ (s : State) (v : VoiceId) (f : Fields), s.issuing v.toNat f →
    let x := s.voice v.toNat
    let a := x.xr f.a.toNat
    let b := x.xr f.b.toNat
    let n := if bit f.imm 0 then 8 else 4
    let issued (c : Instr) (a : Access) : Prop := ∃ i : BitVec 2, (∀ b ∈ x.out, b.slot ≠ i) ∧
      exec c s = .next ((s.setVoice v.toNat
        { x with out := x.out ++ [{ a with slot := i, own := x.slot, sentence := x.sentence, tenant := x.tenant }]
                 pc := x.pc + 8 }).translateAccess v.toNat i).runNet
    let atomic (k : AccKind) : Access := { Access.blank k f a n with
      data := BitVec.ofNat 2048 (b.toNat % 2 ^ (8 * n)), cmp := BitVec.ofNat 64 ((x.xr f.c.toNat).toNat % 2 ^ (8 * n)) }
    let atomics := [(Instr.aadd v f, AccKind.aadd), (.aswp v f, .aswp), (.acas v f, .acas), (.amin v f, .amin), (.amax v f, .amax),
      (.alda v f, .alda), (.astr v f, .astr)]
    let oneSpan : Prop := 1 ≤ b.toNat ∧ b.toNat ≤ 65536 ∧ a.toNat / 65536 = (a.toNat + b.toNat - 1) / 65536
    let free : Prop := x.stall = none ∧ x.out.any Access.ord = false
    (s.hasNext v.toNat → x.out.length < 4 → free → bit f.mod 3 = false → f.mod.toNat % 8 ≤ 4 →
      a.toNat % n = 0 → ∀ e ∈ atomics, issued e.1 (atomic e.2)) ∧
    (s.hasNext v.toNat → x.out = [] → x.stall = none → bit f.mod 3 = true → f.mod.toNat % 8 ≤ 4 → a.toNat % n = 0 →
      ∀ e ∈ atomics, issued e.1 (atomic e.2)) ∧
    (x.out ≠ [] → bit f.mod 3 = true → f.mod.toNat % 8 ≤ 4 → a.toNat % n = 0 → ∀ e ∈ atomics, exec e.1 s = .next s) ∧
    (4 < f.mod.toNat % 8 → ∀ e ∈ atomics, exec e.1 s = .next (s.voiceFault v.toNat 2)) ∧
    (f.mod.toNat % 8 ≤ 4 → a.toNat % n ≠ 0 → ∀ e ∈ atomics, exec e.1 s = .next (s.voiceFault v.toNat 8)) ∧
    (s.hasNext v.toNat → x.out.length < 4 → free → oneSpan →
      issued (.linv v f) (Access.blank .linv f a b.toNat)) ∧
    (¬oneSpan → exec (.linv v f) s = .next (s.voiceFault v.toNat 7))

/-- R195, R196: FENCE with an acquire waits for the voice's outstanding reads, with a release or both for every outstanding access;
what it waits for left, the voice goes on. One with a release at device or rack scope has its gallery's atomic buffer written back, and
the voice goes on only once the buffer is empty.
A reserved scope or kind faults the voice with reason 2. -/
def Claims.FenceOrders : Prop :=
  ∀ (s : State) (v : VoiceId) (f : Fields), s.issuing v.toNat f →
    let x := s.voice v.toNat
    let scope := f.mod.toNat % 8
    let kind := f.imm.toNat % 4
    let goes : State := s.setVoice v.toNat { x with pc := x.pc + 8 }
    let reads := x.out.any fun a => a.kind.toX || a.kind.toV
    (s.hasNext v.toNat → scope ≤ 4 → kind = 1 → reads = false → exec (.fence v f) s = .next goes) ∧
    (s.hasNext v.toNat → scope < 3 → 1 < kind → x.out = [] → exec (.fence v f) s = .next goes) ∧
    (scope ≤ 4 → kind = 1 → reads = true → exec (.fence v f) s = .next s) ∧
    (scope ≤ 4 → 1 < kind → x.out ≠ [] → exec (.fence v f) s = .next s) ∧
    (3 ≤ scope → scope ≤ 4 → 1 < kind → x.out = [] →
      let u := (s.abufFlush (galleryOf v.toNat)).runNet
      exec (.fence v f) s = .next (if u.abufEmpty (galleryOf v.toNat) then u.advance v.toNat else u)) ∧
    (4 < scope ∨ kind = 0 → exec (.fence v f) s = .next (s.voiceFault v.toNat 2))

/-- R79, R182, R183, R185, R193, R195, R196, R198: Loads, stores, atomics and fences of the pool, as a voice issues them. -/
def Obligations.PoolAccessesIssue : Prop :=
  Claims.PoolLoadsAndStoresIssue ∧ Claims.AtomicsIssue ∧ Claims.FenceOrders


/-- R79, R84, R193, R196, R198, R199, R409: an access that is translated, whose lines are there and that nothing holds back, neither an
access before it, nor an atomic buffer to be written back or without room, completes: a poisoned one is refused; a store writes its bytes
into its gallery's lines; an atomic acts on its line; a load or an atomic that returns gives the bytes to its register while the voice
still runs it; then it leaves the voice, and what waited in the gallery goes on. A LINV completes once its gallery neither holds nor
awaits any of its lines. -/
def Claims.PoolAccessCompletes : Prop :=
  ∀ (s : State) (v : VoiceId) (slot : BitVec 2) (a : Access), s.access v.toNat slot = some a → s.net = [] → s.engineQ = [] →
    a.ready = true → (s.voice v.toNat).blocked a = false → s.fenced 2 (galleryOf v.toNat) = false →
    s.releases (galleryOf v.toNat) a = false → (a.lines.all fun l => s.lineReady (galleryOf v.toNat) a l) = true →
    (a.kind.atomic = true → a.outer = false → (a.lines.all fun l => s.abufRoom (galleryOf v.toNat) l) = true) →
    ∀ measured bound : BitVec 32, measured.toNat ≤ bound.toNat →
      let g := galleryOf v.toNat
      let seen := s.seen g a
      let volatile := a.kind = .ldv ∨ a.kind = .vldv
      let ends : Prop := exec (.poolAccessComplete v slot measured bound) s =
        .next (State.itemsEnd (((s.perform v.toNat a).pumpGallery g).runNet))
      (a.kind ≠ .linv → ends) ∧
      (a.kind = .linv → a.tgt = true → ends) ∧
      (a.kind = .linv → s.perform v.toNat a = (s.count R.corLinvTotal).dropAccess v.toNat a.slot) ∧
      (a.kind = .linv → a.tgt = false → (∀ l ∈ a.lines, (s.gline g l).state = .i ∧ s.victimLine g l = none ∧ s.requestFor g l = none) →
        ends) ∧
      (a.kind ≠ .linv → seen.2 = true → s.perform v.toNat a = (s.dropAccess v.toNat a.slot).refusedOf v.toNat a.own a.stale (Cpl.of St.poisoned)) ∧
      (seen.2 = false → a.tgt = false → (a.kind = .st ∨ a.kind = .vst) → s.perform v.toNat a =
        ((a.lines.foldl (fun s l => s.putLine g l (a.piece l).1 (a.piece l).2) s).dropAccess v.toNat a.slot)) ∧
      (seen.2 = false → a.tgt = false → a.kind.atomic = true → s.perform v.toNat a =
        (((s.doAtomic v.toNat a seen.1).result v.toNat a seen.1).dropAccess v.toNat a.slot)) ∧
      (a.kind ≠ .linv → seen.2 = false → a.tgt = true ∨ (a.kind.atomic = false ∧ a.kind ≠ .st ∧ a.kind ≠ .vst) →
        s.perform v.toNat a =
          (((if volatile then s.count R.corVolatileTotal else s).result v.toNat a seen.1).dropAccess v.toNat a.slot))

/-- R79, R198, R199: what a completing access leaves. A load's or atomic's bytes stand zero-extended in its x register (its v register
for a vector load), every other register as before, while a voice that was halted keeps all its registers; a line written by a gallery
holds the operand's bytes where the mask selects them and its old bytes elsewhere. -/
def Claims.AccessResults : Prop :=
  (∀ (s : State) (v w : Nat) (a : Access), (s.voice v).running = true → a.stale = false →
    (a.kind.toX = true → a.dst ≠ 0 → ((s.result v a w).voice v).xr a.dst.toNat = BitVec.ofNat 64 w) ∧
    (a.kind.toX = true → ∀ i, i ≠ a.dst.toNat → ((s.result v a w).voice v).xr i = (s.voice v).xr i) ∧
    (a.kind.toV = true → ((s.result v a w).voice v).vr a.dst.toNat = BitVec.ofNat 2048 w) ∧
    (a.kind.toV = true → ∀ i, i ≠ a.dst.toNat → ((s.result v a w).voice v).vr i = (s.voice v).vr i)) ∧
  (∀ (s : State) (v w : Nat) (a : Access), (s.voice v).running = false ∨ a.stale = true → s.result v a w = s) ∧
  (∀ (s : State) (g line : Nat) (d : Line) (mask : BitVec 64), s.aline g line = none →
    let t := s.putLine g line d mask
    (t.gline g line).state = .m ∧ KeepsBut [.gcache] s t ∧
      ∀ i < 64, fld (t.gline g line).data (8 * i) 8 = if bit mask i then fld d (8 * i) 8 else fld (s.gline g line).data (8 * i) 8)

/-- R79, R84, R193, R196, R198, R199, R409: The end of an access of a voice, and what it returns. -/
def Obligations.PoolAccessesComplete : Prop :=
  Claims.PoolAccessCompletes ∧ Claims.AccessResults


/-! ## Rings, doorbells and interrupts (R31 to R49) -/

/-- R33, R34, R383: the ring commands, through an open port while none is in progress. CREATE opens a DISABLED ring whose staged context
passes the checks, as ACTIVE with its indexes 0 and its pool storage held near and
translated by its front end; DESTROY closes a stopped ring, or one in ERROR with
nothing outstanding, whose acknowledged records have become visible, and gives its holds up; STOP ends fetching and lets the ring settle; RESUME makes a STOPPED ring ACTIVE; READ
copies the context to the port's staging. Each is then in progress with its result. -/
def Claims.RingCommandsRun : Prop :=
  ∀ (s : State) (port : Port) (ring : RingId), s.openTo port.toNat → s.ringCmd = none →
    let r := ring.toNat
    let x := s.ring r
    let began (t : State) (res : Byte) : Host.Outcome State Fault Refusal :=
      .next { t with ringCmd := some { port, ring, result := res } }
    let ctx := s.stagedCtx port.toNat
    let opened : Ring := { Ring.off with ctx, state := .active, held := s.ringGranules r { Ring.off with ctx } }
    let mine : Prop := x.state = .disabled ∨ s.controls port.toNat x.tenant = true
    (s.createResult port.toNat r (s.stagedCtx port.toNat) = St.done →
      exec (.ringCreate port ring) s = began (((s.setRing r opened).holdNear opened.held).ringXlat r opened) St.done) ∧
    (mine → x.state = .stopped ∨ (x.state = .error ∧ x.flights = []) →
      exec (.ringDestroy port ring) s = began (((s.ringShown r).setRing r Ring.off).unholdNear x.held) St.done) ∧
    (mine → x.state = .active →
      exec (.ringStop port ring) s = began ((s.setRing r { x with state := .stopping, fetching := 0 }).settle r) St.done) ∧
    (mine → x.state = .stopped → exec (.ringResume port ring) s = began (s.setRing r { x with state := .active }) St.done) ∧
    (mine → ∃ t, exec (.ringRead port ring) s = began t St.done ∧ KeepsBut [.regs] s t ∧
      ∀ i < 8, t.reg (stageOff port.toNat (R.hstRctxData i)) = BitVec.ofNat 64 (fld x.ctx (64 * i) 64))

/-- R33, R34, R239, R383: a ring command that fails changes nothing but its result: CREATE's first failing check, recording the translation
fault of its storage where that is what fails; NOT_OWNER where the ring
belongs to a partition the port does not control; BAD_DESCRIPTOR in a state it does not allow. While one is in progress another is
refused with set-up error 4. When it completes, its result and the ring's state become readable through its port. -/
def Claims.RingCommandsRefuseAndComplete : Prop :=
  (∀ (s : State) (port : Port) (ring : RingId), s.openTo port.toNat → s.ringCmd = none →
    let r := ring.toNat
    let x := s.ring r
    let began (res : Byte) : Host.Outcome State Fault Refusal := .next { s with ringCmd := some { port, ring, result := res } }
    let foreign : Prop := x.state ≠ .disabled ∧ s.controls port.toNat x.tenant = false
    let mine : Prop := x.state = .disabled ∨ s.controls port.toNat x.tenant = true
    (s.createResult port.toNat r (s.stagedCtx port.toNat) ≠ St.done →
      exec (.ringCreate port ring) s = match s.createFault port.toNat r (s.stagedCtx port.toNat) with
        | none => began (s.createResult port.toNat r (s.stagedCtx port.toNat))
        | some (dva, reason, level, write) => .next { s.xltFault (fld (s.stagedCtx port.toNat) 144 4) dva reason level write 0x3FF with
            ringCmd := some { port, ring, result := s.createResult port.toNat r (s.stagedCtx port.toNat) } }) ∧
    (∀ a, s.createFault port.toNat r (s.stagedCtx port.toNat) = some a →
      s.createResult port.toNat r (s.stagedCtx port.toNat) = St.badDescriptor) ∧
    (foreign → ∀ c ∈ [Instr.ringDestroy port ring, .ringStop port ring, .ringResume port ring, .ringRead port ring],
      exec c s = began St.notOwner) ∧
    (mine → x.state ≠ .stopped → (x.state ≠ .error ∨ x.flights ≠ []) → exec (.ringDestroy port ring) s = began St.badDescriptor) ∧
    (mine → x.state ≠ .active → exec (.ringStop port ring) s = began St.badDescriptor) ∧
    (mine → x.state ≠ .stopped → exec (.ringResume port ring) s = began St.badDescriptor)) ∧
  (∀ (s : State) (port : Port) (ring : RingId) (c0 : RingCmd), s.openTo port.toNat → s.ringCmd = some c0 →
    ∀ c ∈ [Instr.ringCreate port ring, .ringDestroy port ring, .ringStop port ring, .ringResume port ring, .ringRead port ring],
      exec c s = .next (s.setupError port.toNat R.hstRctxCmd 4)) ∧
  (∀ (s : State) (c : RingCmd), s.ringCmd = some c → ∃ t, exec .ringCommandComplete s = .next t ∧ KeepsBut [.ringCmd, .ringLast] s t ∧
    t.ringCmd = none ∧ tget (fun _ => 0) t.ringLast c.port.toNat =
      BitVec.ofNat 12 (c.result.toNat + (s.ring c.ring.toNat).state.code * 256) ∧
    ∀ p, p ≠ c.port.toNat → tget (fun _ => 0) t.ringLast p = tget (fun _ => 0) s.ringLast p)

/-- R33, R34, R239, R383: The ring commands of a host. -/
def Obligations.RingCommandsComplete : Prop :=
  Claims.RingCommandsRun ∧ Claims.RingCommandsRefuseAndComplete


/-- R37, R38: the doorbells of a device that is awake. A tail that advances by no more than the ring, and keeps no more than it in
flight, becomes SQ tail; any other puts the ring in ERROR with cause 1. A head that releases no more than what is visible becomes CQ
head; any other puts the ring in ERROR with cause 2. A ring in ERROR ignores tails and keeps its cause; a DISABLED one ignores both. -/
def Claims.DoorbellsMoveIndexes : Prop :=
  ∀ (s : State) (ring : RingId) (value : BitVec 32), s.pwr.state = .on →
    let r := ring.toNat
    let x := s.ring r
    let tailFits : Prop := (value - x.sqTail).toNat ≤ x.entries ∧ (value - x.sqHead).toNat ≤ x.entries
    let headFits : Prop := (value - x.cqHead).toNat ≤ (x.cqTail - x.cqHead).toNat
    (x.state ≠ .disabled → x.state ≠ .error → tailFits → exec (.dbSqTail ring value) s = .next (s.setRing r { x with sqTail := value })) ∧
    (x.state ≠ .disabled → x.state ≠ .error → ¬tailFits → exec (.dbSqTail ring value) s = .next ((s.ringError r 1).settle r)) ∧
    (x.state = .disabled ∨ x.state = .error → exec (.dbSqTail ring value) s = .next s) ∧
    (x.state ≠ .disabled → headFits → exec (.dbCqHead ring value) s = .next (s.setRing r { x with cqHead := value })) ∧
    (x.state ≠ .disabled → x.state ≠ .error → ¬headFits → exec (.dbCqHead ring value) s = .next ((s.ringError r 2).settle r)) ∧
    (x.state = .error → ¬headFits → exec (.dbCqHead ring value) s = .next s) ∧
    (x.state = .disabled → exec (.dbCqHead ring value) s = .next s)

/-- R45, R46: a fetch. While the device is on, an ACTIVE ring whose die and port are not fenced and that has a descriptor and a free
completion slot begins one of as many as both allow, at most 16: it is then being fetched, and where the ring lies in host memory the
bytes at SQ head are read, in two reads where they wrap. The descriptors that arrive, from the host or, once what others hold of the
storage has been asked for and has come, from the pool, join those in hand in order and SQ head moves past them; a fault of the storage
puts the ring in ERROR with cause 3. -/
def Claims.DescriptorsAreFetched : Prop :=
  ∀ (s : State) (ring : RingId),
    let r := ring.toNat
    let x := s.ring r
    let n := min 16 (min (x.sqTail - x.sqHead).toNat (x.entries - (x.sqHead - x.cqHead).toNat))
    (s.pwr.state = .on → x.state = .active → x.fetching = 0 → n ≠ 0 → s.fenced 8 (s.dieOf r) = false →
      (x.inPool = true → exec (.descriptorFetch ring) s = .next ((s.setRing r { x with fetching := n }).dropCame (· == .fetch ring))) ∧
      (x.inPool = false → s.fenced 7 x.hport = false → ∃ t, exec (.descriptorFetch ring) s = .next t ∧
        t.rings = (s.setRing r { x with fetching := n }).rings ∧ KeepsBut [.rings, .out] s t ∧
        let slot := x.sqHead.toNat % x.entries
        let p := BitVec.ofNat 2 x.hport
        t.out = s.out ++ (if n ≤ x.entries - slot then [.hostRead p (BitVec.ofNat 64 (x.sqBase + 64 * slot)) (64 * n)]
          else [.hostRead p (BitVec.ofNat 64 (x.sqBase + 64 * slot)) (64 * (x.entries - slot)),
            .hostRead p (BitVec.ofNat 64 x.sqBase) (64 * (n - (x.entries - slot)))]))) ∧
    (∀ descs, x.fetching ≠ 0 → x.state = .active →
      let arrived (u : State) (l : List Line) : State :=
        ((l.foldl (fun s d => s.arrive r d) (u.dropCame (· == .fetch ring))).updRing r fun y => { y with fetching := 0 }).settle r
      let failed (u : State) : State := (((u.dropCame (· == .fetch ring)).setRing r { x with fetching := 0 }).ringError r 3).settle r
      (x.inPool = false → exec (.descriptorFetched ring descs false) s = .next (arrived s (descs.take x.fetching))) ∧
      (x.inPool = true → s.fetchNeeds r x = [] → s.fetchFails r x = none →
        exec (.descriptorFetched ring descs false) s = .next (arrived (s.fetchXlat r x) (s.poolDescs r x))) ∧
      (x.inPool = true → s.fetchNeeds r x ≠ [] →
        exec (.descriptorFetched ring descs false) s = .next (s.ask (s.fetchEng r x) (s.fetchNeeds r x))) ∧
      (x.inPool = true → s.fetchNeeds r x = [] → s.fetchFails r x ≠ none →
        exec (.descriptorFetched ring descs false) s = .next (failed (s.fetchXlat r x))) ∧
      exec (.descriptorFetched ring descs true) s = .next (failed s)) ∧
    (∀ d, (s.arrive r d).ring r = { x with
      sqHead := x.sqHead + 1, fetching := x.fetching - 1
      flights := x.flights ++ [{ pos := x.sqHead, desc := d, stage := s.firstStage x d, seq := s.nextSeq, host := [], idx := [], off := []
                                 depths := [] }] })

/-- R40, R128, R136, R138, R171, R239, R241: the pre-check of a candidate that is being prepared, whose ranges its ring's front end
translates. A TREE query waits until its MASK section has come, and keeps the depths it gives; a query of a REMOTE session whose pages are
not all here asks for them. One that finds every page it needs and no fault in the ranges it names becomes a candidate; a range that does
not translate ends it BAD_DESCRIPTOR reason 6 at its field. -/
def Claims.DescriptorsArePrechecked : Prop :=
  ∀ (s : State) (ring : RingId) (pos : Pos) (f : Flight), s.flight ring.toNat pos.toNat = some f → f.stage = .preparing →
    let r := ring.toNat
    let k := (s.ring r).kind
    let ends (u : State) (g : Flight) : Prop :=
      let missing := u.attnMissing (attnQ f.desc) g.depth
      let spans := u.spanFault (u.frontCache r) (dTenant f.desc) (u.spansOf k f.desc)
      let used := State.spansXlat (u.frontCache r) (dTenant f.desc) (u.spansOf k f.desc) u
      (k = .attn → missing ≠ [] → exec (.descriptorPrecheckComplete ring pos) s =
        .next (missing.foldl (fun u p => u.askPage (sidHandle (attnQ f.desc).sid) (attnQ f.desc).layer p) u)) ∧
      ((k = .attn → missing = []) →
        (spans = none → exec (.descriptorPrecheckComplete ring pos) s = .next (used.setStage r pos.toNat .candidate)) ∧
        (∀ byte dva reason level write, spans = some (byte, dva, reason, level, write) →
          exec (.descriptorPrecheckComplete ring pos) s = .next
            ((used.xltFault (dTenant f.desc) dva reason level write 0x3FF).endFlight r pos.toNat (Cpl.bad byte 6))))
    (k ≠ .attn → ends s f) ∧
    (∀ u bs, k = .attn → s.readMask r f = .ok u bs →
      let depths := (List.range 16).map fun i => numAt bs (32 + i) 1
      ends (u.setFlight r pos.toNat fun f => { f with depths }) { f with depths }) ∧
    (∀ u, k = .attn → s.readMask r f = .waits u → exec (.descriptorPrecheckComplete ring pos) s = .next u.runNet) ∧
    (k = .attn → (attnQ f.desc).tree = false → s.readMask r f = .ok s [])

/-- R40, R45, R46, R128, R136, R138, R171, R239, R241: Descriptors on their way from a ring to their checks. -/
def Obligations.DescriptorsAreFetchedAndChecked : Prop :=
  Claims.DescriptorsAreFetched ∧ Claims.DescriptorsArePrechecked


/-- R38, R49, R58: a fault on the write of the last completion record, not acknowledged yet, drops it, so that it signals nothing, counts
it as dropped and puts the ring in ERROR with cause 3; the coalescing
time signals the ring's vector where records wait; lifting a vector's mask sends what it held pending, and so does enabling MSI-X on a
port whose link is up. -/
def Obligations.InterruptsAndRecordFaults : Prop :=
  (∀ (s : State) (ring : RingId), let r := ring.toNat
    let x := s.ring r
    ∀ place int, x.state ≠ .disabled → x.fresh.getLast? = some (place, int) → exec (.completionRecordWriteFault ring) s = .next
      (((s.setRing r { x with
        fresh := x.fresh.filter fun e => e.1 != place
        dropped := if x.dropped = 0xFFFF then 0xFFFF else x.dropped + 1 }).ringError r 3).settle r)) ∧
  (∀ (s : State) (ring : RingId), let x := s.ring ring.toNat
    x.coal = true → exec (.coalesceTimerExpiry ring) s = .next
      ((s.setRing ring.toNat { x with unsignalled := 0, coal := false }).msix x.hport x.vector)) ∧
  (∀ (s : State) (port : Port) (vector : BitVec 11), ∃ t, exec (.msixUnmask port vector) s = .next t ∧ KeepsBut [.ports, .out] s t ∧
    bit ((t.port port.toNat).vector vector.toNat) 96 = false ∧
    let pending := tget (fun _ => false) (s.port port.toNat).pba vector.toNat
    ((s.port port.toNat).msixOn = true → pending = true → t.out = s.out ++ [.msix port vector] ∧
      tget (fun _ => false) (t.port port.toNat).pba vector.toNat = false) ∧
    ((s.port port.toNat).msixOn = false ∨ pending = false → t.out = s.out ∧ (t.port port.toNat).pba = (s.port port.toNat).pba)) ∧
  (∀ (s : State) (port : Port), (s.port port.toNat).link = .up → ∃ t, exec (.msixEnable port) s = .next t ∧
    KeepsBut [.ports, .out] s t ∧ (t.port port.toNat).msixOn = true)

/-- R4, R29, R30, R382, R384 to R387: a write of a plain set-up register through an open port. A 32-bit register, or either whole or
half of a 64-bit one, takes the written bits where they may be written and keeps the rest; an access that is not naturally aligned, or
of another size, is ignored with set-up error 1. -/
def Claims.SetupRegisterWrites : Prop :=
  ∀ (s : State) (port : Port) (off : BitVec 26) (value : Word), s.openTo port.toNat →
    (∀ size, ¬((size = 4 ∧ off.toNat % 4 = 0) ∨ (size = 8 ∧ off.toNat % 8 = 0)) →
      exec (.setupRegisterWrite port off size value) s = .next (s.setupError port.toNat off.toNat 1)) ∧
    (∀ x i, off.toNat < 0x1000000 → findReg off.toNat = some (x, i) → x.width = 32 → off.toNat % 4 = 0 → off.toNat = x.at i →
      s.commandWrite port x i (BitVec.ofNat 32 (fld value 0 32)) = none →
      (∀ t, s.regOwner x i = some t → s.controls port.toNat t = true) →
      exec (.setupRegisterWrite port off 4 value) s =
        .next (s.regStore port.toNat x i (BitVec.ofNat 64 (fld value 0 32)) (2 ^ 32 - 1))) ∧
    (∀ x i, findReg off.toNat = some (x, i) → x.width = 64 → off.toNat % 8 = 0 → off.toNat = x.at i →
      s.wideAction port.toNat x value = none → (∀ t, s.regOwner x i = some t → s.controls port.toNat t = true) →
      exec (.setupRegisterWrite port off 8 value) s = .next (s.regStore port.toNat x i value (2 ^ 64 - 1))) ∧
    (∀ x i part, x.rwk = false → x.rw ≠ 0 → s.regAbsent x i = false → s.regLocked x i value = false → staged (x.at i) = false →
      s.absentBits x = 0 → x.reserved = [] → x.off ≠ R.sesCtrl → x.off ≠ R.sesArenaBase 0 → x.off ≠ R.sesArenaSize 0 →
        let m := BitVec.ofNat 64 (x.rw &&& part)
        s.regStore port.toNat x i value part = s.setReg (x.at i) ((s.reg (x.at i) &&& ~~~m) ||| (value &&& m)))

/-- R4, R29, R30, R37, R38, R382, R384 to R387: Doorbells, and writes of set-up registers. -/
def Obligations.DoorbellsAndSetupWrites : Prop :=
  Claims.DoorbellsMoveIndexes ∧ Claims.SetupRegisterWrites


/-! ## The pool and DMA (R50 to R56, R336, R342) -/

/-- R336, R342: pool memory. Bytes written read back; a byte outside the written ones reads as before; a line written whole loses its
poison and no other line gains or loses any. (A range of a book that is loading or loaded is not written, R69; a write to a granule
lost with its drive is log entry 33.) -/
def Obligations.PoolHoldsWhatWasWritten : Prop :=
  ∀ (s : State) (o : Nat) (bs : List Byte), s.inBook o bs.length = false →
    let t := s.poolWrite o bs
    t.poolRead o bs.length = bs ∧
    (∀ a, a < o ∨ o + bs.length ≤ a → t.poolByte a = s.poolByte a) ∧
    ((∀ g ∈ granulesOf o bs.length, s.lost g = false) →
      (∀ l, o ≤ 64 * l → 64 * l + 64 ≤ o + bs.length → tget (fun _ => false) t.poison l = false) ∧
      (∀ l, 64 * l < o ∨ o + bs.length < 64 * l + 64 → tget (fun _ => false) t.poison l = tget (fun _ => false) s.poison l)) ∧
    KeepsBut [.pool, .poison, .lineKey, .granules] s t

/-- Every operation that writes the pool keeps the one canonical form of its contents: rising offsets, no zero byte listed. -/
def Obligations.PoolFormIsKept : Prop :=
  State.reset.poolWf = true ∧
  ∀ s : State, s.poolWf = true →
    (∀ o bs, (s.poolWrite o bs).poolWf = true) ∧ (∀ o bs, (s.store o bs).poolWf = true) ∧ (∀ o n, (s.wipe o n).poolWf = true) ∧
      (∀ e, (s.record e).poolWf = true) ∧ (∀ e fuel dva bs, (State.scatter e fuel s dva bs).1.poolWf = true)

/-- R40, R51, R53, R54, R56, R263: a DMA descriptor starts when every earlier one of its ring has, and with FENCE once they have
completed. A COPY or FILL that passes the checks is in progress, with the DENSE granules it touches asked for; one that fails them ends
with the first failing check; a COPY of weights to a host ends BAD_DESCRIPTOR reason 6; a NOP ends DONE; a fenced one right after a
transfer that failed ends STOPPED. -/
def Claims.DmaDescriptorsStart : Prop :=
  ∀ (s : State) (ring : RingId) (pos : Pos) (f : Flight),
    let r := ring.toNat
    let p := pos.toNat
    let t := (s.ring r).tenant
    let stopped := dFence f.desc = true ∧ (s.ring r).failedAt = some (f.pos - 1)
    (∀ e ∈ [(Instr.dmaCopy ring pos, 1), (.dmaFill ring pos, 2)], s.dmaMay r p e.2 = some f →
      (stopped → exec e.1 s = .next (s.finish r p (Cpl.of St.stopped))) ∧
      (¬stopped → ∀ off why, s.dmaCheck f.desc = some (off, why) → exec e.1 s = .next (s.finish r p (Cpl.bad off why))) ∧
      (¬stopped → s.dmaCheck f.desc = none → s.dmaWeights (channelCache (s.ring r).channel) t f.desc = true → exec e.1 s = .next (s.dmaEnd r p (Cpl.bad 8 6) 0)) ∧
      (¬stopped → s.dmaCheck f.desc = none → s.dmaWeights (channelCache (s.ring r).channel) t f.desc = false →
        ∃ u, exec e.1 s = .next u ∧ u.rings = (s.setStage r p .running).rings ∧ KeepsBut [.rings, .granules, .drives, .out] s u)) ∧
    (s.dmaMay r p 3 = some f → exec (.dmaNop ring pos) s =
      .next (s.finish r p (Cpl.of (if dFence f.desc && (s.ring r).failedAt == some (f.pos - 1) then St.stopped else St.done))))

/-- R52, R55, R56, R226, R231, R239, R263: how the oldest transfer in progress on a ring ends. Once its granules are in DRAM, what its
source needs of others has come, and nothing it needs is fenced, all its bytes move: it ends DONE with the bytes written in RESULT0, or as
the refusal or the poison it met says; the bytes moved count for its channel. A source that has become weights ends it at once. A failure found
elsewhere ends it with the bytes written until then, a translation fault being recorded. That a transfer reads its source before it writes
is the model's choice (log entry 190). -/
def Claims.DmaTransfersEnd : Prop :=
  ∀ (s : State) (ring : RingId) (f : Flight), s.dmaOldest ring.toNat = some f →
    let r := ring.toNat
    let x := s.ring r
    let d := f.desc
    let granules := s.dmaGranules (channelCache x.channel) x.tenant d
    (∀ src bad, s.dmaFenced x.channel d = false → s.dmaWeights (channelCache x.channel) x.tenant d = false →
      (granules.all s.served = true → s.dmaNeeds r f.pos.toNat d = [] →
        (∀ s1 n, s.dmaMove r f.pos.toNat d src bad (dmaLen d) = (s1, n, none, false) →
          exec (.dmaDescriptorComplete ring src bad) s =
            .next (s1.finish r f.pos.toNat { Cpl.of St.done with result0 := BitVec.ofNat 64 n })) ∧
        (∀ s1 n w a e, s.dmaMove r f.pos.toNat d src bad (dmaLen d) = (s1, n, some (w, a, e), false) →
          exec (.dmaDescriptorComplete ring src bad) s =
            .next ((s1.noteRefusal x.tenant w 0x3FF a e).dmaEnd r f.pos.toNat (e.cpl (if w then 16 else 8)) n)) ∧
        (∀ s1 n, s.dmaMove r f.pos.toNat d src bad (dmaLen d) = (s1, n, none, true) →
          exec (.dmaDescriptorComplete ring src bad) s = .next ((if dmaIsFill d = false ∧ dmaSrcHost d = false then
            s1.poisonedRead (channelCache x.channel) x.tenant (dmaSrc d) (dmaLen d) else s1).dmaEnd r f.pos.toNat (Cpl.of St.poisoned) n))) ∧
      (granules.all s.served = true → s.dmaNeeds r f.pos.toNat d ≠ [] →
        exec (.dmaDescriptorComplete ring src bad) s = .next (s.ask (s.dmaEng r f.pos.toNat 8) (s.dmaNeeds r f.pos.toNat d))) ∧
      (granules.all s.served = false →
        exec (.dmaDescriptorComplete ring src bad) s = .next (granules.foldl (fun u g => u.demand g false none) s))) ∧
    (∀ src bad, s.dmaFenced x.channel d = false → s.dmaWeights (channelCache x.channel) x.tenant d = true →
      exec (.dmaDescriptorComplete ring src bad) s = .next (s.dmaEnd r f.pos.toNat (Cpl.bad 8 6) 0)) ∧
    (∀ why written src s1 n, why ≠ .hostTimeout ∨ (dmaIsFill d = false ∧ dmaSrcHost d = true) →
      let k := min written (dmaLen d)
      let u := if why = .translation then
          s.xltFault x.tenant ((if dmaDstHost d then dmaSrc d else dmaDst d) + k) 8 7 (!dmaDstHost d) 0x3FF
        else s
      u.dmaMove r f.pos.toNat d src [] k = (s1, n, none, false) →
      exec (.dmaTransferFailure ring why written src) s = .next (s1.dmaEnd r f.pos.toNat (dmaFailCpl d why) n)) ∧
    (∀ s1 k, dmaIsFill d = true → dmaSwap d = 0 → dmaDstHost d = false →
      State.scatter (s.dmaEng r f.pos.toNat 16) (pieces (dmaLen d)) s (dmaDst d) (fillBytes (dNum d 32 8) (dmaLen d)) = (s1, k, none) →
      s.dmaMove r f.pos.toNat d [] [] (dmaLen d) = (s1.count (R.dmaBytes x.channel) k, k, none, false))

/-- R27: a read of host memory that goes unanswered ends its descriptor TIMEOUT: at once where it has not started; a DMA transfer in
progress with a number of bytes written that nothing determines, at most its length (log entry 4). -/
def Claims.HostReadTimesOut : Prop :=
  ∀ (s : State) (ring : RingId) (pos : Pos) (f : Flight), s.flight ring.toNat pos.toNat = some f →
    readsHost (s.ring ring.toNat).kind f.desc = true →
    ((s.ring ring.toNat).kind ≠ .dma → f.stage = .queued ∨ f.stage = .preparing →
      exec (.pcieCompletionTimeout ring pos) s = .next (s.finish ring.toNat pos.toNat (Cpl.of St.timeout))) ∧
    ((s.ring ring.toNat).kind = .dma → f.stage = .running → ∃ n u src, n ≤ dmaLen f.desc ∧ KeepsBut [.free] s u ∧
      exec (.pcieCompletionTimeout ring pos) s = .next (u.dmaFinish ring.toNat f src [] n (Cpl.of St.timeout)))

/-- R27, R40, R51, R52, R53, R54, R55, R56, R226, R231, R239, R263: DMA descriptors from their start to their end. -/
def Obligations.DmaTransfersRun : Prop :=
  Claims.DmaDescriptorsStart ∧ Claims.DmaTransfersEnd ∧ Claims.HostReadTimesOut


/-! ## The rotation (R62 to R93, R181, R186) -/

/-- R62, R63, R64, R71, R84, R362: a rotation starts when the one before has ended, or from idle, while the device is on, runs, is not in Fog mode and is
aligned, in holdover or free. With no change due, no beacon to adopt and no throttle its number is one higher, late items leave their
slots, its sentence is the one the sequence selects, job halt takes effect, and the snapshot of candidates is taken; where RUN was cleared
the rotation halts instead. -/
def Obligations.RotationStarts : Prop :=
  ∀ s : State, s.pwr.state = .on → s.ras.fog = false → s.rot.phase = .idle ∨ s.rot.phase = .guard →
    let idle := s.updRot fun r => { r with phase := .idle }
    (s.rot.halting = false → bit (s.reg R.rotCtrl) 0 = true →
      s.rot.align = .aligned ∨ s.rot.align = .holdover ∨ s.rot.align = .free →
      s.rot.adopt = none → s.rot.rotations ≠ 0 → s.rot.pending = false → s.pwr.throttle.inForce = false → s.isRoot = false →
      let u := (idle.setReg R.rotNumber (s.rotNo + 1)).lateLeave
      let v : State := { u with
        rot := { u.rot with phase := .snapshot, rotations := s.rot.rotations + 1
                            sentence := u.selectSentence (s.rotNo + 1).toNat, overran := false, forced := [], parity := false }
        ras := { u.ras with haltNow := s.ras.jobHalt } }
      exec .rotationStart s = .next v.takeSnapshot.reliefsBegin ∧ v.reg R.rotNumber = s.rotNo + 1 ∧
        (∀ e ∈ u.rot.items, e.1 < 65536 → e.2.closing = true → e.2.late = none) ∧
        KeepsBut [.regs, .rot, .ras, .voices, .amms] s v) ∧
    (s.rot.halting = true → bit (s.reg R.rotCtrl) 0 = false → exec .rotationStart s =
      .next (({ s with rot := { s.rot with phase := .idle, halting := false, rooted := false, adopt := none } } : State).setAlign .halted 0)) ∧
    (s.rot.halting = false → bit (s.reg R.rotCtrl) 0 = false → exec .rotationStart s = .next idle)

/-- R71, R73 to R75, R87, R347: BIND_PHASE follows the snapshot. An empty rotation, or one in job halt, binds nothing. Otherwise the
candidates of the snapshot are bound one after another in class order, each ring's in its order: one whose checks pass and that a free slot fits becomes that slot's item, where
its data are resident, and else is DEFERRED; one whose check fails ends; a ring whose candidate finds no slot, or must wait, binds no more, and
a CLOSE that must wait is kept to hold LOOKUPs back in this rotation. -/
def Obligations.CandidatesBind : Prop :=
  ∀ s : State, s.rot.phase = .snapshot →
    let u : State := { s with rot := { s.rot with phase := .bind, closes := [] } }
    (s.rot.sentence = none ∨ s.ras.haltNow = true → exec .bindPhase s = .next u) ∧
    (s.rot.sentence ≠ none → s.ras.haltNow = false →
      exec .bindPhase s = .next ((u.bindOrder s.rot.snapshot).foldl (fun (q : State × List RingId) c =>
        if q.2.contains c.1 then q
        else ((q.1.bindOne c.1.toNat c.2.toNat).1, if (q.1.bindOne c.1.toNat c.2.toNat).2 then c.1 :: q.2 else q.2)) (u, [])).1) ∧
    ∀ (r pos : Nat) (f : Flight), s.flight r pos = some f → f.stage = .candidate →
      let k := (s.ring r).kind
      let it := s.newItem r pos k f
      (∀ c, s.bindCheck k f.desc = .ends c → s.bindOne r pos = (s.endFlight r pos c, false)) ∧
      (s.bindCheck k f.desc = .blocked → s.bindOne r pos =
        (if k = .embu ∧ (embQ k f.desc).close = true then
            let c := (BitVec.ofNat 12 r, BitVec.ofNat 32 pos)
            { s with rot := { s.rot with closes := if s.rot.closes.contains c then s.rot.closes else c :: s.rot.closes } }
          else s, true)) ∧
      (s.bindCheck k f.desc = .ok → s.findSlot k (s.ringClass r) f = none → s.bindOne r pos = (s, true)) ∧
      (∀ x, s.bindCheck k f.desc = .ok → s.findSlot k (s.ringClass r) f = some x →
        let locs := s.locations r k f
        ((∀ g ∈ locs, s.absence x.nearOnly g = none) → s.bindOne r pos =
          ((((locs.foldl (fun s g => s.pin x.nearOnly g) s).setItem x.index { it x with pins := locs }).setStage r pos .bound), false)) ∧
        (∀ g ∈ locs, s.absence x.nearOnly g ≠ none → s.bindOne r pos = (s.deferItem x.index (it x)
          (locs.filterMap fun g => (s.absence x.nearOnly g).map fun c => (g, c)), false)))

/-- R77, R181, R182: LAUNCH_PHASE launches the clauses of every item that runs in this sentence, and those of no item. A voice that is
launched stands at its clause's code with every register 0 but x1, the runs its item has made, x2, the rotation number modulo 2^32,
and x3, its slot; it is not running yet, and its command block lies at 0xBFE00 + 64 × (voice modulo 8) of its scratchpad. Its window's
start makes it run, once, unless its first word faults. -/
def Obligations.ClausesLaunch : Prop :=
  (∀ (s : State), s.rot.phase = .bind → s.rot.sentence = none →
    exec .launchPhase s = .next { s with rot := { s.rot with phase := .launch } }) ∧
  (∀ (s : State) (i : Nat), s.rot.phase = .bind → s.rot.sentence = some i → s.ras.resetBusy = false →
    let u : State := { s with rot := { s.rot with phase := .launch } }
    let w := u.rot.items.foldl (fun s e => if s.itemRuns i e.1 e.2 then s.launchItem i e.1 e.2 else s) u
    exec .launchPhase s = .next (((clausesOf (sentenceBytes w.activeBytes i)).filter fun c => c.slot == 0xFFFF).foldl
      (fun s c => s.launchClause i c none) w).runNet.gradsGo) ∧
  (∀ (s : State) (i : Nat) (c : Clause) (it : Item),
    let t := s.launchClause i c (some it)
    let x := t.voice c.voice
    x.loaded = true ∧ x.running = false ∧ x.pc = c.code ∧ x.slot = c.slot ∧ x.tenant = it.tenant ∧ x.start = c.start ∧
      x.stop = c.stop ∧ x.code = codeOf (sentenceBytes s.activeBytes i) ∧ x.sentence = i ∧ x.fault = 0 ∧
      x.xr 1 = BitVec.ofNat 64 it.runs ∧ x.xr 2 = BitVec.ofNat 64 (s.rotNo.toNat % 2 ^ 32) ∧ x.xr 3 = BitVec.ofNat 64 c.slot ∧
      (∀ r, r = 0 ∨ 3 < r → x.xr r = 0) ∧ (∀ r, x.vr r = 0) ∧ (∀ b r j, x.acc b r j = 0) ∧
      t.padRead (coreOf c.voice) (0xBFE00 + 64 * (c.voice % 8)) 64 = lineBytes (s.itemDesc it) ∧
      KeepsBut [.voices, .amms, .pads, .carries] s t) ∧
  (∀ (s : State) (v : VoiceId), let x := s.voice v.toNat
    s.rot.phase = .launch → x.loaded = true → x.start ≠ 0 →
      let u := s.setVoice v.toNat { x with running := true, start := 0 }
      (x.fetchFault x.pc = 0 → exec (.clauseWindowStart v) s = .next u) ∧
      (x.fetchFault x.pc ≠ 0 → exec (.clauseWindowStart v) s = .next (u.voiceFault v.toNat (x.fetchFault x.pc))))

/-- R84, R86, R88, R250, R351: at its window's end a clause that has halted is left alone; one that still runs is late: halted, counted, logged
with its cause (2 the rotation or its core off rated occupancy or a walk that an INVAL of this rotation forced, else 1 a bound exceeded, else 0) and its item's completion becomes LATE,
with the first late clause's voice and sentence and the weightiest cause. -/
def Claims.LateClauses : Prop :=
  ∀ (s : State) (v : VoiceId) (waited bound : BitVec 32) (exceeded overran : Bool),
    let x := s.voice v.toNat
    (x.loaded = false ∨ x.running = false → exec (.clauseWindowEnd v waited bound exceeded overran) s = .next s) ∧
    (x.loaded = true → x.running = true → ∃ t, exec (.clauseWindowEnd v waited bound exceeded overran) s = .next t ∧
      (t.voice v.toNat) = { x with running := false } ∧
      (∀ u, u ≠ v.toNat → t.voice u = s.voice u) ∧
      (∀ it, s.item x.slot = some it → it.late = none →
        let cause := if overran || s.rot.overran || s.voiceFenced v.toNat || x.forced then 2 else if exceeded then 1 else 0
        t.item x.slot = some { it with late := some (Cpl.why St.late (cause + v.toNat * 4 + x.sentence * 16384)) }) ∧
      KeepsBut [.voices, .rot, .regs, .ras, .pool, .poison, .lineKey, .granules] s t)

/-- R48, R64, R82, R86, R186: CLOSE_PHASE follows the windows: every clause still running is late, no voice is loaded any more, the
rotation's load is tallied, the atomic buffers are written back, an item that ran without fault or lateness has made one more run, and
every item that has made its runs, or met a fault or lateness, ends once nothing of its clauses is outstanding. In a rotation off rated
occupancy a late item's cause becomes 2. GUARD_PHASE follows it, and moves the next start by at most 10 ns towards the beacon's. -/
def Claims.RotationCloses : Prop :=
  (∀ (s : State) (near : BitVec 7), s.rot.phase = .launch → s.voices = [] → s.rot.overran = false →
    let u : State := ({ s with rot := { s.rot with phase := .close } } : State).tally near
    let w := ((List.range 32).foldl State.abufFlush u).runNet
    exec (.closePhase near false) s = .next (State.itemsEnd
      { w with rot := { w.rot with items := w.rot.items.map fun e => (e.1, e.2.closed) } })) ∧
  (∀ (s : State) (near : BitVec 7) (overran : Bool), s.rot.phase = .launch → ∃ x : State,
    (∀ v, (x.voice v).loaded = false) ∧ x.rot.phase = .close ∧ x.use.near = near ∧ x.use.busy = 0 ∧
    (x.rot.overran = true → ∀ e ∈ x.rot.items, e.2.closing = false → ∀ c, e.2.late = some c → fld c.detail 0 2 = 2) ∧
    let w := ((List.range 32).foldl State.abufFlush x).runNet
    exec (.closePhase near overran) s = .next (State.itemsEnd
      { w with rot := { w.rot with items := w.rot.items.map fun e => (e.1, e.2.closed) } })) ∧
  (∀ it : Item, it.closing = false →
    let ran := it.running = true ∧ it.fault = none ∧ it.late = none
    (ran → it.closed.runs = it.runs + 1) ∧ (¬ran → it.closed.runs = it.runs) ∧ it.closed.running = false ∧
      (it.closed.closing = true ↔ it.fault ≠ none ∨ it.late ≠ none ∨ (it.running = true ∧ it.need ≤ it.closed.runs))) ∧
  (∀ s : State, s.rot.phase = .close → exec .guardPhase s = .next { s with rot := { s.rot with
    phase := .guard, slew := if 10 < s.rot.slew then s.rot.slew - 10 else if s.rot.slew < -10 then s.rot.slew + 10 else 0 } })

/-- R48, R64, R82, R84, R86, R88, R186, R250, R351: The ends of windows, and of the rotation. -/
def Obligations.LateClausesAndClose : Prop :=
  Claims.LateClauses ∧ Claims.RotationCloses


/-- R63, R70: ROT_CHANGE_AT through an open port that controls partition 0. A number above the next rotation makes the change pending,
0 takes a pending one back, and any other number, or any write from the last rotation before a pending change until it has applied, is
refused with set-up error 5. -/
def Claims.ChangeAtWrites : Prop :=
  ∀ (s : State) (port : Port) (n : Word), s.openTo port.toNat → s.controls port.toNat 0 = true →
    let refused : Host.Outcome State Fault Refusal := .next (s.setupError port.toNat R.rotChangeAt 5)
    let locked := s.rot.pending = true ∧ (s.reg R.rotChangeAt).toNat ≤ s.rotNo.toNat + 1
    (locked → exec (.rotChangeAt port n) s = refused) ∧
    (¬locked → n = 0 → exec (.rotChangeAt port n) s = .next ((s.setReg R.rotChangeAt 0).updRot fun r => { r with pending := false })) ∧
    (¬locked → n ≠ 0 → n.toNat ≤ s.rotNo.toNat + 1 → exec (.rotChangeAt port n) s = refused) ∧
    (¬locked → s.rotNo.toNat + 1 < n.toNat →
      exec (.rotChangeAt port n) s = .next ((s.setReg R.rotChangeAt n).updRot fun r => { r with pending := true }))

/-- R65 to R70, R228: LOAD of an EMPTY or FAILED book begins, through an open port that controls partition 0, while no other loads: the book is LOADING with
the lowest reason among the checks its bytes fail. When it completes, a book with no reason is LOADED with its digest and the
measurement generation advances; any other is FAILED with its reason. UNLOAD empties a book that is neither active nor named by a
pending change. Any other of these is refused with set-up error 5. -/
def Claims.BooksLoadAndUnload : Prop :=
  (∀ (s : State) (port : Port) (n : BitVec 2), s.openTo port.toNat → s.controls port.toNat 0 = true →
    let b := s.book n.toNat
    let addr := (s.reg (R.rotBookAddr n.toNat)).toNat
    let data := s.bookBytes addr
    let refused : Host.Outcome State Fault Refusal := .next (s.setupError port.toNat R.rotBookCmd 5)
    let idle := s.rot.loading = none
    let inUse := s.rot.active = some n ∨ s.bookPending n.toNat = true
    (idle → b.state = .empty ∨ b.state = .failed →
      let bad := (linesOf addr data.length).find? s.poisoned
      let u := match bad with
        | some l => s.poisonError (64 * l) none
        | none => s
      let v := u.setBook n.toNat { state := .loading, reason := BitVec.ofNat 4 (bookReason data bad.isSome), addr, data, digest := 0 }
      exec (.bookLoad port n) s = .next { v with rot := { v.rot with loading := some n } }) ∧
    (¬idle → exec (.bookLoad port n) s = refused ∧ exec (.bookUnload port n) s = refused) ∧
    (idle → b.state ≠ .empty → b.state ≠ .failed → exec (.bookLoad port n) s = refused) ∧
    (idle → inUse → exec (.bookUnload port n) s = refused) ∧
    (idle → ¬inUse → b.state = .loaded → exec (.bookUnload port n) s = .next (s.setBook n.toNat Book.empty).advanceMgen) ∧
    (idle → ¬inUse → b.state ≠ .loaded → exec (.bookUnload port n) s = .next (s.setBook n.toNat Book.empty))) ∧
  (∀ (s : State) (n : BitVec 2), s.rot.loading = some n →
    let b := s.book n.toNat
    let u : State := { s with rot := { s.rot with loading := none } }
    (b.reason = 0 → exec .bookLoadComplete s =
      .next (u.setBook n.toNat { b with state := .loaded, digest := Config.sha384 b.data }).advanceMgen) ∧
    (b.reason ≠ 0 → exec .bookLoadComplete s = .next (u.setBook n.toNat { Book.empty with state := .failed, reason := b.reason })))

/-- R62, R90, R91: ROT_CTRL through an open port that controls partition 0. Setting RUN in HALTED forgets earlier beacons and makes a root ALIGNED at once,
while any other device waits for a beacon; clearing RUN halts an idle device at once and one that rotates at its rotation's end. -/
def Claims.RunSetAndCleared : Prop :=
  ∀ (s : State) (port : Port) (root standby : Bool), s.openTo port.toNat → s.controls port.toNat 0 = true →
    let ctrl := 2 * b2n root + 4 * b2n standby
    let roots (u : State) : State := if standby then u else u.updRot fun r => { r with rooted := false }
    (bit (s.reg R.rotCtrl) 0 = false → s.rot.halting = false →
      exec (.rotRunSet port root standby) s = .next (roots (s.setReg R.rotCtrl (BitVec.ofNat 64 (1 + ctrl)))).runBegins) ∧
    (bit (s.reg R.rotCtrl) 0 = true → s.rot.halting = false → exec (.rotRunSet port root standby) s = .next
      (if root then (roots (s.setReg R.rotCtrl (BitVec.ofNat 64 (1 + ctrl)))).setAlign .aligned 0
        else roots (s.setReg R.rotCtrl (BitVec.ofNat 64 (1 + ctrl))))) ∧
    (s.rot.halting = true → exec (.rotRunSet port root standby) s = .next (roots (s.setReg R.rotCtrl (BitVec.ofNat 64 (1 + ctrl))))) ∧
    (bit (s.reg R.rotCtrl) 0 = false →
      exec (.rotRunClear port root standby) s = .next (s.setReg R.rotCtrl (BitVec.ofNat 64 ctrl))) ∧
    (bit (s.reg R.rotCtrl) 0 = true → s.rot.phase = .idle →
      exec (.rotRunClear port root standby) s = .next (s.setReg R.rotCtrl (BitVec.ofNat 64 ctrl)).runEnds) ∧
    (bit (s.reg R.rotCtrl) 0 = true → s.rot.phase ≠ .idle → exec (.rotRunClear port root standby) s =
      .next ((s.setReg R.rotCtrl (BitVec.ofNat 64 ctrl)).updRot fun r => { r with halting := true }))

/-- R62, R63, R65 to R70, R70, R90, R91, R228: Changes, books, and RUN. -/
def Obligations.RotationIsControlled : Prop :=
  Claims.ChangeAtWrites ∧ Claims.BooksLoadAndUnload ∧ Claims.RunSetAndCleared


/-- R89 to R92: beacons and alignment. A beacon a device takes from its upstream port is forwarded one hop further, and sets the
alignment of one that runs by its number and phase error; one with more than 4 hops, on a port it does not take them from, or at a root, is
ignored; one of a second root is logged. Two missed
beacons turn ALIGNED into HOLDOVER, 20 ms of HOLDOVER and a fruitless first wait into FREE, and a standby root in either takes over,
ALIGNED. -/
def Obligations.BeaconsAlign : Prop :=
  (∀ (s : State) (p : SPort) (m : Word) (period : BitVec 9) (root : Dev) (hops : Byte) (e : Int), s.pwr.state = .on → s.ras.fog = false →
    s.sportThere p.toNat = true →
    (4 < hops.toNat → exec (.beaconReceived p m period root hops e) s = .next s) ∧
    (hops.toNat ≤ 4 → s.secondRoot p.toNat root = false → s.takesBeacon p.toNat = false →
      exec (.beaconReceived p m period root hops e) s = .next s) ∧
    (hops.toNat ≤ 4 → s.secondRoot p.toNat root = true → exec (.beaconReceived p m period root hops e) s =
      .next (s.lateLog { LateRec.plain 5 s.rot.align.code with measured := e.natAbs })) ∧
    (hops.toNat ≤ 4 → s.secondRoot p.toNat root = false → s.isRoot = true → exec (.beaconReceived p m period root hops e) s = .next s) ∧
    (hops.toNat ≤ 4 → s.secondRoot p.toNat root = false → s.takesBeacon p.toNat = true → s.isRoot = false → s.running = false →
      exec (.beaconReceived p m period root hops e) s =
        .next ((s.sendBeacon m period root (hops.toNat + 1)).updRot fun r => { r with
          lastBeacon := m, hops := BitVec.ofNat 3 hops.toNat
          up0 := if p.toNat = fld (s.reg R.rotBeaconCfg) 0 5 then some root else r.up0 })) ∧
    (hops.toNat ≤ 4 → s.secondRoot p.toNat root = false → s.takesBeacon p.toNat = true → s.isRoot = false → s.running = true →
      s.rot.halting = false → exec (.beaconReceived p m period root hops e) s =
        .next (((s.sendBeacon m period root (hops.toNat + 1)).updRot fun r => { r with
          lastBeacon := m, hops := BitVec.ofNat 3 hops.toNat, hadBeacon := true
          up0 := if p.toNat = fld (s.reg R.rotBeaconCfg) 0 5 then some root else r.up0 }).align m e))) ∧
  (∀ s : State, s.running = true → s.isRoot = false →
    (s.rot.align = .aligned → exec .beaconMissed s = .next ((s.updRot fun r => { r with up0 := none }).setAlign .holdover 0)) ∧
    (s.rot.align = .holdover → exec .holdoverExpiry s = .next (s.setAlign .free 0)) ∧
    (bit (s.reg R.rotCtrl) 2 = true → s.rot.align = .holdover ∨ s.rot.align = .free →
      exec .standbyRootTakeover s = .next ((s.updRot fun r => { r with rooted := true }).setAlign .aligned 0)) ∧
    (s.rot.align = .halted → s.rot.halting = false → s.rot.hadBeacon = false → s.ras.fog = false →
      exec .firstBeaconWaitExpiry s = .next (s.setAlign .free 0))) ∧
  (∀ (s : State) (a : Align) (n : Nat), (s.setAlign a n).rot.align = a ∧
    KeepsBut [.rot, .regs, .pool, .poison, .lineKey, .granules] s (s.setAlign a n))

/-! ## Sessions (R96 to R131) -/

/-- R96, R97, R99, R103, R108: CREATE gives the lowest FREE handle of this home within the partition's quota an entry with its map root,
LIVE, empty, with the generation the handle had, and completes DONE with its session ID; NO_SPACE where no handle or map unit is left. A
handle at its home is found by its generation and tenant, else refused NOT_OWNER, cause 0 or 5; elsewhere an entry held as FREE, of an
older generation or behind the version named is pulled. (SESSION of a CREATE that fails, and which generation is the older, are the
model's choice: log entries 199 and 29.) -/
def Claims.SessionsCreateAndLookUp : Prop :=
  (∀ (s : State) (ring : RingId) (pos : Pos) (f : Flight), s.startSess ring pos 1 = some f →
    let d := f.desc
    let e : Session := { Session.none with
      tenant := BitVec.ofNat 4 (dTenant d), layers := BitVec.ofNat 8 (fld d 288 8), hdim := BitVec.ofNat 2 (fld d 296 2)
      kvh := BitVec.ofNat 4 (fld d 298 4), kvfmt := BitVec.ofNat 4 (fld d 302 4) }
    (s.freeHandle (dTenant d) = none → exec (.sessCreate ring pos) s = .next (s.endSess ring pos St.noSpace 0 0xFFFFFFFF none)) ∧
    (∀ h, s.freeHandle (dTenant d) = some h → s.newEntry h e = none →
      exec (.sessCreate ring pos) s = .next (s.endSess ring pos St.noSpace 0 0xFFFFFFFF none)) ∧
    (∀ h t, s.freeHandle (dTenant d) = some h → s.newEntry h e = some t →
      exec (.sessCreate ring pos) s = .next (t.endSess ring pos St.done 0 (t.sidOf h) none) ∧
      (t.session h).state = .live ∧ (t.session h).gen = (s.session h).gen ∧ (t.session h).tenant = e.tenant ∧
      (t.session h).version = 0 ∧ (t.session h).pub = 0 ∧ (t.session h).counts = [] ∧ (t.session h).root = [] ∧
      ∀ i, i ≠ h → t.session i = s.session i)) ∧
  (∀ (s : State) (sid tenant : Nat) (version : Option Nat),
    let h := sidHandle sid
    let x := s.session h
    let named := x.state ≠ .free ∧ x.gen.toNat = sidGen sid
    (s.isHome h = true → named → x.tenant.toNat = tenant → s.lookSession sid tenant version = .ok h) ∧
    (s.isHome h = true → ¬named → s.lookSession sid tenant version = .bad St.notOwner 0) ∧
    (named → x.tenant.toNat ≠ tenant → s.lookSession sid tenant version = .bad St.notOwner 5) ∧
    (s.isHome h = false → x.state = .free → s.lookSession sid tenant version = .pull h) ∧
    (s.isHome h = false → x.state ≠ .free → x.gen.toNat ≠ sidGen sid → s.lookSession sid tenant version =
      if (sidGen sid + 4095 - x.gen.toNat) % 4095 < 2048 then .pull h else .bad St.notOwner 0) ∧
    (∀ v, s.isHome h = false → named → x.state ≠ .lost → x.tenant.toNat = tenant → x.version.toNat < v →
      s.lookSession sid tenant (some v) = .pull h) ∧
    (∀ v, s.isHome h = false → named → x.tenant.toNat = tenant → v ≤ x.version.toNat → s.lookSession sid tenant (some v) = .ok h))

/-- R98, R107, R112 to R115, R120, R121, R127: what the SESS commands do at the home with a session they found, that is not busy, once no
earlier descriptor of it waits; its entry is loaded into the session cache. A LOST session refuses all but DISCARD and QUERY. PUBLISH with
the session's version makes a new version of no fewer tokens; FORK and OPEN make a child, and DISCARD and OFFER act, on every member;
QUERY changes nothing but its record; each as its refusals allow. -/
def Claims.SessionCommands : Prop :=
  ∀ (s : State) (ring : RingId) (pos : Pos) (op : Nat) (f : Flight), s.startSess ring pos op = some f →
    let d := f.desc
    let sid := attnSession d
    let h := sidHandle sid
    let s0 := s.sesLoad h
    let u := s0.touchSession h
    let x := u.session h
    s.isHome h = true → (s.session h).gen.toNat = sidGen sid → (s.session h).tenant.toNat = dTenant d → (s.session h).state ≠ .free →
    s.sesBusy sid = false → s.sesBehind f = false →
      let live : Prop := (s.session h).state ≠ .lost
      let tokens := fld d 128 21
      KeepsBut [.sesCache, .regs, .free] s s0 ∧
      (∀ c ∈ [(Instr.publish ring pos, 3), (.fork ring pos, 4), (.sessOpen ring pos, 5), (.offer ring pos, 7), (.wake ring pos, 10)],
        op = c.2 → ¬live → tokens ≤ 1048576 → exec c.1 s = .next (s0.endSess ring pos St.lost 0 sid none)) ∧
      (op = 3 → live → tokens ≤ 1048576 →
        (x.view = true → exec (.publish ring pos) s = .next (u.endSess ring pos St.notOwner 2 sid none)) ∧
        (x.view = false → x.state = .handoff → exec (.publish ring pos) s = .next (u.endSess ring pos St.notOwner 3 sid none)) ∧
        (x.view = false → x.state ≠ .handoff → x.version.toNat ≠ dNum d 12 4 →
          exec (.publish ring pos) s = .next (u.endSess ring pos St.staleVersion 0 sid none)) ∧
        (x.view = false → x.state ≠ .handoff → x.version.toNat = dNum d 12 4 → tokens < x.pub.toNat →
          exec (.publish ring pos) s = .next (u.finish ring.toNat pos.toNat (Cpl.bad 16 7))) ∧
        (x.view = false → x.state ≠ .handoff → x.version.toNat = dNum d 12 4 → x.pub.toNat ≤ tokens →
          exec (.publish ring pos) s = .next ((u.setSession h { x with version := x.version + 1, pub := BitVec.ofNat 21 tokens }).endSess
            ring pos St.done 0 sid none))) ∧
      (op = 3 → 1048576 < tokens → exec (.publish ring pos) s = .next (s.finish ring.toNat pos.toNat (Cpl.bad 16 7))) ∧
      (∀ e ∈ [(Instr.fork ring pos, 4, MemberKind.fork), (.sessOpen ring pos, 5, .openView)], op = e.2.1 → live →
        (x.version.toNat ≠ dNum d 12 4 → exec e.1 s = .next (u.endSess ring pos St.staleVersion 0 sid none)) ∧
        (x.version.toNat = dNum d 12 4 → x.state = .handoff → exec e.1 s = .next (u.endSess ring pos St.notOwner 3 sid none)) ∧
        (x.version.toNat = dNum d 12 4 → x.state ≠ .handoff → u.freeHandle (dTenant d) = none →
          exec e.1 s = .next (u.endSess ring pos St.noSpace 0 sid none)) ∧
        (∀ c, x.version.toNat = dNum d 12 4 → x.state ≠ .handoff → u.freeHandle (dTenant d) = some c →
          exec e.1 s = .next (u.startMulti ring pos e.2.2 sid (u.sidOf c) x.version x.pub))) ∧
      (op = 6 →
        let y := s.session h
        let kept : Prop := y.state = .handoff ∧ (y.hphase = .offered ∨ y.hphase = .granted)
        (kept → exec (.discard ring pos) s = .next (s0.endSess ring pos St.notOwner 3 sid none)) ∧
        (¬kept → exec (.discard ring pos) s = .next (s0.startMulti ring pos .discard sid 0 0 0))) ∧
      (op = 7 → live → x.state ≠ .live → exec (.offer ring pos) s = .next (u.endSess ring pos St.notOwner 3 sid none)) ∧
      (op = 7 → x.state = .live → live →
        (x.epoch.toNat ≠ dNum d 32 4 → exec (.offer ring pos) s = .next (u.endSess ring pos St.staleVersion 2 sid none)) ∧
        (x.epoch.toNat = dNum d 32 4 → exec (.offer ring pos) s =
          .next ((u.setSession h { x with peer := BitVec.ofNat 6 (fld d 208 6) }).startMulti ring pos .offer sid 0 0 0))) ∧
      (op = 9 → exec (.sessQuery ring pos) s = .next (s0.endSess ring pos St.done 0 sid none)) ∧
      (op = 10 → live → exec (.wake ring pos) s =
        .next ((if x.state = .waking then u.wakeSession h else u).endSess ring pos St.done 0 sid none))

/-- R96, R97, R98, R99, R103, R107, R108, R112 to R115, R120, R121, R127: The commands of the session store. -/
def Obligations.SessionsAreCommanded : Prop :=
  Claims.SessionsCreateAndLookUp ∧ Claims.SessionCommands


/-- R107, R112, R113, R115, R120: APPEND of rows from a host, at the end of a layer the session owns at the version named, once no earlier
append of the ring and no earlier descriptor of the session waits: every position is appended, the layer's count becomes START + COUNT,
and the descriptor completes DONE; NO_SPACE, with nothing appended, where a page or map unit is missing; another version or another start
is STALE_VERSION. ACCEPT claims the session of the sending home. -/
def Obligations.AppendAndAccept : Prop :=
  (∀ (s : State) (ring : RingId) (pos : Pos) (f : Flight) (rows : List Byte), s.startSess ring pos 2 = some f →
    let d := f.desc
    let n := fld d 128 21
    let start := fld d 160 21
    let l := fld d 192 16
    let sid := attnSession d
    let h := sidHandle sid
    let s0 := s.sesLoad h
    let u := s0.touchSession h
    let x := u.session h
    (n = 0 ∨ 65536 < n ∨ 1048576 < start + n → exec (.append ring pos rows) s = .next (s.finish ring.toNat pos.toNat (Cpl.bad 16 7))) ∧
    (1 ≤ n → n ≤ 65536 → start + n ≤ 1048576 → s.layerBad sid l = false → fld d 384 2 = 1 → s.hostThere (fld d 386 2) = true →
    s0.lookSession sid (dTenant d) (some (dNum d 12 4)) = .ok h → (s.session h).state ≠ .lost → s.sesBusy sid = false →
    s.sesBehind f = false → s.appendBehind ring.toNat f = false →
      (∀ st c ly, u.appendRefusal h l start (dNum d 12 4) = some (st, c, ly) →
        exec (.append ring pos rows) s = .next (u.endSess ring pos st c sid ly)) ∧
      (u.appendRefusal h l start (dNum d 12 4) = none → start % 256 = 0 →
        let data := slice rows 0 (x.heads * 2 * n * x.row)
        let row (i hd kv : Nat) : List Byte := slice data (((2 * hd + kv) * n + i) * x.row) x.row
        (State.appendRows (.flight ring pos 40) h l row n 0 start u = none →
          exec (.append ring pos rows) s = .next (u.endSess ring pos St.noSpace 0 sid (some l))) ∧
        (∀ t, State.appendRows (.flight ring pos 40) h l row n 0 start u = some t → exec (.append ring pos rows) s =
          .next ((t.updSession h fun y => y.setCount l (start + n)).endSess ring pos St.done 0 sid (some l)))))) ∧
  (∀ (s : State) (ring : RingId) (pos : Pos) (f : Flight), s.startSess ring pos 8 = some f →
    let d := f.desc
    let peer := BitVec.ofNat 6 (fld d 208 6)
    let peerId := BitVec.ofNat 32 (dNum d 28 4)
    let epoch := BitVec.ofNat 32 (dNum d 32 4)
    let u := s.setStage ring.toNat pos.toNat .running
    exec (.accept ring pos) s = .next (State.sendMg { u with
      accepts := s.accepts ++ [{ ring, pos, tenant := BitVec.ofNat 4 (dTenant d), quiet := false, peer, peerId, epoch, handle := none
                                 phase := .claiming }] } (.claim peer peerId epoch s.setMask)))

/-- R97, R110, R118, R119, R121, R296, R298: an operation on every member. The home applies it and tells the others, and waits for those it
reaches; a member applies what its home tells it and acknowledges it, and one that lacks the entry pulls it first. When the last awaited one answers, the operation ends: DONE (an
OFFER enters OFFERED; a discarded session that came from another pool is released there), or, where one was missed or timed out, undone everywhere and TIMEOUT. A child starts LIVE at its parent's version
and length, sharing its pages; a discarded entry is FREE with the next generation. -/
def Claims.MemberOperations : Prop :=
  (∀ (s : State) (ring : RingId) (pos : Pos) (k : MemberKind) (sid child : Nat) (version : BitVec 32) (pub : BitVec 21) (t : State),
    s.applyMember k sid child version pub (BitVec.ofNat 6 s.devNo) = some t →
    let u := (t.setStage ring.toNat pos.toNat .running).tellOthers k sid child version pub
    let op : SesOp := { ring, pos, kind := k, session := BitVec.ofNat 32 sid, child := BitVec.ofNat 32 child, waiting := u.others
                        missed := false }
    let w : State := { u with sesOps := u.sesOps ++ [op] }
    (u.others ≠ 0 → (∀ d ∈ maskList u.others, u.reachable d = true) → s.startMulti ring pos k sid child version pub = w) ∧
    (u.others = 0 → s.startMulti ring pos k sid child version pub = w.endSesOp op)) ∧
  (∀ (s : State) (op : MemberOp), s.pwr.state = .on → s.ras.fog = false → s.mgQueue.length < 256 →
    let sid := op.session.toNat
    (∀ t, s.applyMember op.kind op.session.toNat op.child.toNat op.version op.pub op.home = some t →
      op.kind = .fork ∨ op.kind = .openView ∨ op.kind = .discard ∨ op.kind = .offer →
      exec (.memberOperation op) s = .next (t.sendMg (.memberAck op.home op.session))) ∧
    (∀ t, s.applyMember op.kind op.session.toNat op.child.toNat op.version op.pub op.home = some t →
      op.kind = .undoFork ∨ op.kind = .undoOpen ∨ op.kind = .undoDiscard ∨ op.kind = .undoOffer →
      exec (.memberOperation op) s = .next t) ∧
    (s.applyMember op.kind op.session.toNat op.child.toNat op.version op.pub op.home = none →
      (∀ h, s.lookSession sid (s.session (sidHandle sid)).tenant.toNat none = .pull h → op.kind = .fork ∨ op.kind = .openView ∨ op.kind = .offer →
        exec (.memberOperation op) s = .next { s.askEntry h sid with heldOps := s.heldOps ++ [op] }) ∧
      ((∀ h, s.lookSession sid (s.session (sidHandle sid)).tenant.toNat none ≠ .pull h) → exec (.memberOperation op) s = .next s))) ∧
  (∀ (s : State) (session : SessionId) (dev : Dev) (o : SesOp), s.pwr.state = .on → s.ras.fog = false →
    (s.sesOps.find? fun o => o.session.toNat == session.toNat && maskHas o.waiting dev.toNat) = some o →
    ∀ e ∈ [(Instr.memberAck session dev, false, s.mgAnswered (memberOut session dev)),
        (.sessionMemberTimeout session dev, true, s.mgLate (memberOut session dev))],
      let o' := { o with waiting := maskDrop o.waiting dev.toNat, missed := o.missed || e.2.1 }
      let u : State := { e.2.2 with sesOps := mapIf (· == o) (fun _ => o') s.sesOps }
      (o'.waiting ≠ 0 → exec e.1 s = .next u) ∧ (o'.waiting = 0 → exec e.1 s = .next (u.endSesOp o'))) ∧
  (∀ (s : State) (op : SesOp), op.missed = false →
    let u : State := { s with sesOps := dropIf (· == op) s.sesOps }
    (∀ old, op.kind = .discard → u.goneEntry op.session.toNat = some old →
      s.endSesOp op = (if old.remote then u.sendMg (.release old.peer old.peerId old.epoch) else u).endSess op.ring op.pos St.done 0
        op.session.toNat none) ∧
    (op.kind = .discard → u.goneEntry op.session.toNat = none →
      s.endSesOp op = u.endSess op.ring op.pos St.done 0 op.session.toNat none) ∧
    (op.kind = .fork ∨ op.kind = .openView → s.endSesOp op = u.endSess op.ring op.pos St.done 0 op.child.toNat none) ∧
    (op.kind = .offer → s.endSesOp op = u.enterOffered op)) ∧
  (∀ (s t : State) (op : SesOp), op.missed = true →
    let u : State := { s with sesOps := dropIf (· == op) s.sesOps }
    let sid := op.session.toNat
    u.applyMember (undoOf op.kind) sid op.child.toNat 0 0 0 = some t →
    let w := t.tellOthers (undoOf op.kind) sid op.child.toNat 0 0
    s.endSesOp op = w.endSess op.ring op.pos St.timeout 0 sid none) ∧
  (∀ (s t : State) (h child : Nat) (view : Bool) (version : BitVec 32) (pub : BitVec 21) (home : Dev),
    s.makeChild h child view version pub home = some t →
    let y := t.session (sidHandle child)
    y.gen.toNat = sidGen child % 4096 ∧ y.state = .live ∧ y.view = view ∧ y.tenant = (s.session h).tenant ∧ y.pub = pub ∧
      y.parentVersion = version ∧ y.version = (if view then version else 0) ∧
      (∀ l, l < (s.session h).nLayers → y.count l = pub.toNat)) ∧
  (∀ (s : State) (h : Nat), (s.session h).state ≠ .free →
    ((s.freeEntry h).session h) = { Session.none with gen := BitVec.ofNat 12 (((s.session h).gen.toNat + 1) % 4095) })

/-- R105, R111, R122, R128, R130: pulls. A member asks its home for an entry it lacks and is given what the home holds, or refused; the
answer fills the entry; a page that was asked for takes its place. A member that holds every page of a session that came from another
pool tells its home; once all do, the session is no longer REMOTE, and its home releases the sender. A refusal ends what waited NOT_OWNER,
a poisoned page POISONED; a pull that times out makes the session LOST and ends what waited LOST. -/
def Claims.SessionPulls : Prop :=
  ∀ (s : State) (sid : SessionId), s.pwr.state = .on → s.ras.fog = false →
    let id := sid.toNat
    let h := sidHandle id
    let x := s.session h
    (∀ dev epoch, s.mgQueue.length < 256 → maskHas s.setMask (dev : Dev).toNat = true →
      (x.state ≠ .free → x.gen.toNat = sidGen id → exec (.pull dev sid epoch .entry) s = .next (s.sendMg (.pullAnswer dev sid
        (.entry (BitVec.ofNat 32 (s.sidOf h)) x.info)))) ∧
      (x.state = .free ∨ x.gen.toNat ≠ sidGen id → exec (.pull dev sid epoch .entry) s = .next (s.sendMg (.pullAnswer dev sid .refused)))) ∧
    (∀ eid i t, s.pulls.contains (id, PullKind.entry) = true → x.state = .free →
      ({ s.mgAnswered (s.pullOut sid (some .entry)) with pulls := dropIf (· == (id, PullKind.entry)) s.pulls } : State).fillEntry h
        (sidGen (eid : SessionId).toNat) i = some t →
      let w := t.opsGoOn id
      exec (.pullResponse sid (.entry eid i)) s = .next (w.endNaming id fun d =>
        if dNum d 12 4 ≤ i.version.toNat ∨ (dOpcode d ≠ 2 ∧ dOpcode d ≠ 1) then none else some (w.sesCpl St.staleVersion 0 id none)) ∧
      (t.session h).gen.toNat = sidGen eid.toNat % 4096 ∧ (t.session h).state = (if i.lost then .lost else .live) ∧
      (t.session h).tenant = i.tenant ∧ (t.session h).version = i.version ∧ (t.session h).pub = i.pub ∧ (t.session h).epoch = i.epoch ∧
      (t.session h).remote = i.remote ∧ (t.session h).parent = i.parent) ∧
    (∀ l p fill bytes, s.pulls.contains (id, PullKind.page l p) = true → x.state ≠ .free → x.gen.toNat = sidGen id →
      let u : State := { s.mgAnswered (s.pullOut sid (some (.page l p))) with pulls := dropIf (· == (id, PullKind.page l p)) s.pulls }
      (∀ t, u.takePage h l.toNat p.toNat fill.toNat bytes = some t →
        exec (.pullResponse sid (.page l p fill bytes)) s = .next (t.pageCame h)) ∧
      (u.takePage h l.toNat p.toNat fill.toNat bytes = none → exec (.pullResponse sid (.page l p fill bytes)) s =
        .next (u.endNaming id fun _ => some (u.sesCpl St.noSpace 0 id none)))) ∧
    (x.remote = true → s.holdsAll x = true →
      (s.isHome h = true → s.stillReceiving (s.sidOf h) = 0 → s.pageCame h =
        ({ s.setSession h { x with remote := false } with receiving := dropIf (fun e => e.1 == s.sidOf h) s.receiving } : State).sendMg
          (.release x.peer x.peerId x.epoch)) ∧
      (s.isHome h = true → s.stillReceiving (s.sidOf h) ≠ 0 → s.pageCame h = s) ∧
      (s.isHome h = false → s.pageCame h =
        (s.setSession h { x with remote := false }).sendMg (.memberAck (BitVec.ofNat 6 (s.homeDev h)) (BitVec.ofNat 32 (s.sidOf h))))) ∧
    (x.remote = false ∨ s.holdsAll x = false → s.pageCame h = s) ∧
    (let u : State := { s.mgAnswered (s.pullOut sid none) with pulls := dropIf (fun e => e.1 == id) s.pulls };
      (x.remote = true → exec (.pullResponse sid .last) s = .next (u.pullsEnd h)) ∧
      (x.remote = false → exec (.pullResponse sid .last) s = .next u) ∧
      (s.pulls.any (fun e => e.1 == id) = true →
        let v : State := { u with heldOps := dropIf (fun o => o.session.toNat == id) s.heldOps }
        let w : State := { s.mgLate (s.pullOut sid none) with pulls := dropIf (fun e => e.1 == id) s.pulls }
        exec (.pullResponse sid .refused) s =
          .next (v.endNaming id fun _ => some (v.sesCpl St.notOwner (if x.remote then 4 else 0) id none)) ∧
        exec (.pullResponse sid .poisoned) s = .next (u.endNaming id fun _ => some (u.sesCpl St.poisoned 0 id none)) ∧
        exec (.pullTimeout sid) s = .next ((w.loseSession h).endNaming id fun _ => some ((w.loseSession h).sesCpl St.lost 0 id none))))

/-- R97, R105, R110, R111, R118, R119, R121, R122, R128, R130, R296, R298: What the members of a shard set do for its home. -/
def Obligations.MembersAndPulls : Prop :=
  Claims.MemberOperations ∧ Claims.SessionPulls


/-- R127, R128, R131: the handoff, as the sending home takes it. A CLAIM by the session's peer at its epoch is granted at the next one;
a COMMIT at the granted epoch commits it, starts the release wait, ends the OFFER DONE and is acknowledged; any other of these is
refused with the epoch held. RELEASE of the committed session frees it on every member; without one in time it is LOST. -/
def Claims.HandoffAtTheSender : Prop :=
  ∀ (s : State) (sid : SessionId) (epoch : BitVec 32) (peer : Dev), s.pwr.state = .on → s.ras.fog = false → s.mgQueue.length < 256 →
    let h := sidHandle sid.toNat
    let x := s.session h
    let named (p : HPhase) : Prop := x.gen.toNat = sidGen sid.toNat ∧ x.state = .handoff ∧ x.hphase = p ∧ x.epoch = epoch
    (∀ peerId mask, (named .offered ∧ x.peer = peer → exec (.claim sid epoch peer peerId mask) s =
        .next ((s.setSession h { x with epoch := epoch + 1, hphase := .granted, peerId, peerMask := mask }).sendMg
          (.grant peer sid (epoch + 1) s.setMask x.info))) ∧
      (¬(named .offered ∧ x.peer = peer) → exec (.claim sid epoch peer peerId mask) s = .next (s.sendMg (.claimRefused peer sid x.epoch (decide (x.state = .free ∨ x.gen.toNat ≠ sidGen sid.toNat)))))) ∧
    (named .granted →
      let ticks := fld (s.reg R.sesReleaseWait) 0 8 * 1000000000 / max 1 s.rotNs
      let u := s.setSession h { x with hphase := .committed, deadline := BitVec.ofNat 32 (s.rotNo.toNat + ticks) }
      let w := (s.offers.filter fun o => o.handle.toNat == h).foldl (fun s o => s.endSess o.ring o.pos St.done 0 sid.toNat none) u
      exec (.commit sid epoch peer) s =
        .next (({ w with offers := dropIf (fun o => o.handle.toNat == h) w.offers } : State).sendMg (.commitAck peer sid))) ∧
    (¬named .granted → exec (.commit sid epoch peer) s = .next (s.sendMg (.claimRefused peer sid x.epoch false))) ∧
    (named .committed → exec (.release sid epoch peer) s = .next ((s.freeEntry h).tellOthers .discard sid.toNat 0 0 0)) ∧
    (¬named .committed → exec (.release sid epoch peer) s = .next s)

/-- R108, R126, R127, R129, R130: the handoff, as the receiving home takes it. A grant at the next epoch, of a session of the ring's
tenant, by a set of this one's size and of the shape SES_ACCEPT_PROFILE gives, makes an entry with REMOTE set and commits; another tenant
is NOT_OWNER cause 5, another size or shape BAD_DESCRIPTOR. The commit's acknowledgement completes ACCEPT DONE, and the pages are to be
pulled on every member; a refusal completes it NOT_OWNER and frees the handle; unanswered, the lease is read, and it decides; when that
is unanswered too, the session is LOST. -/
def Claims.HandoffAtTheReceiver : Prop :=
  ∀ (s : State) (peer : Dev) (peerId : SessionId) (a : Accept), s.pwr.state = .on → s.ras.fog = false → s.acceptOf peer peerId = some a →
    let p := s.reg R.sesAcceptProfile
    let shaped (i : EntryInfo) : Prop := i.layers.toNat = fld p 0 8 ∧ i.hdim.toNat = fld p 8 2 ∧ i.kvh.toNat = fld p 10 4 ∧
      i.kvfmt.toNat = fld p 14 4
    let u := s.mgAnswered (claimOut peer peerId)
    let done (u : State) : State := match a.handle with
      | some h =>
        let w := u.endAccept a St.done 0
        ({ w with receiving := w.receiving ++ [(w.sidOf h.toNat, w.others)] } : State).pageCame h.toNat
      | none => u.endAccept a St.done 0
    (∀ mask i, a.phase = .claiming → i.tenant = a.tenant → popBelow mask 64 = s.setSize → shaped i → u.freeHandle a.tenant.toNat = none →
      exec (.handoffGrant peer peerId (a.epoch + 1) mask i) s = .next (u.endAccept a St.noSpace 0)) ∧
    (∀ mask i h t, a.phase = .claiming → i.tenant = a.tenant → popBelow mask 64 = s.setSize → shaped i →
      u.freeHandle a.tenant.toNat = some h → u.newEntry h (receivedEntry i a.tenant peer peerId (a.epoch + 1) mask) = some t →
      exec (.handoffGrant peer peerId (a.epoch + 1) mask i) s = .next (({ t with
        accepts := mapIf (· == a) (fun _ => { a with handle := some (BitVec.ofNat 20 h), phase := .committing }) t.accepts } : State).sendMg
          (.commit peer peerId (a.epoch + 1))) ∧
      (t.session h).state = .live ∧ (t.session h).remote = true ∧ (t.session h).tenant = a.tenant ∧ (t.session h).version = i.version ∧
      (t.session h).pub = i.pub ∧ (t.session h).peerId = peerId) ∧
    (∀ mask i, a.phase = .claiming → i.tenant = a.tenant → popBelow mask 64 ≠ s.setSize ∨ ¬shaped i → a.quiet = false →
      exec (.handoffGrant peer peerId (a.epoch + 1) mask i) s =
        .next (({ u with accepts := dropIf (· == a) u.accepts } : State).finish a.ring.toNat a.pos.toNat (Cpl.bad 28 7))) ∧
    (∀ mask i, a.phase = .claiming → i.tenant ≠ a.tenant →
      exec (.handoffGrant peer peerId (a.epoch + 1) mask i) s = .next (u.endAccept a St.notOwner 5)) ∧
    (a.phase = .committing ∨ a.phase = .readingLease →
      exec (.commitAck peer peerId) s = .next (done (s.mgAnswered (commitOut peer peerId)))) ∧
    (∀ epoch stale, exec (.claimRefused peer peerId ⟨epoch, stale⟩) s =
      .next ((s.mgAnswered fun o => claimOut peer peerId o || commitOut peer peerId o).failAccept a (if stale then 0 else 4))) ∧
    (a.phase = .committing →
      let w := s.mgLate (commitOut peer peerId)
      exec (.commitTimeout peer peerId) s = .next (({ w with
        accepts := mapIf (· == a) (fun (b : Accept) => { b with phase := .readingLease }) w.accepts } : State).sendMg (.leaseRead peer peerId))) ∧
    (a.phase = .readingLease →
      (∀ l : Lease, let moved := l.handoff = true ∧ l.phase = 3 ∧ l.epoch = a.epoch + 1 ∧ l.peer.toNat = s.devNo
        (moved → exec (.leaseReadAnswer peer peerId l) s = .next (done (s.mgAnswered (leaseOut peerId)))) ∧
        (¬moved → exec (.leaseReadAnswer peer peerId l) s = .next ((s.mgAnswered (leaseOut peerId)).failAccept a 4))) ∧
      (∀ h, a.handle = some h → exec (.leaseReadTimeout peer peerId) s =
        .next (((s.mgLate (leaseOut peerId)).loseSession h.toNat).endAccept a St.lost 0)))

/-- R108, R126, R127, R128, R129, R130, R131: Handoffs, at both ends. -/
def Obligations.HandoffsRun : Prop :=
  Claims.HandoffAtTheSender ∧ Claims.HandoffAtTheReceiver


/-- R121 to R124, R129, R131: the session timers. The handoff timer takes an offered or granted session back to LIVE at the next
epoch, counts and records it, and ends its OFFER TIMEOUT; the release wait makes a committed one LOST; a LIVE one untouched for the idle
time is IDLE; a member takes over what its home's lease says; reclamation takes back what a discarded entry held, once its discard can
no longer be undone, one step at a time. -/
def Obligations.SessionTimers : Prop :=
  (∀ (s : State) (handle : Handle), s.pwr.state = .on →
    let h := handle.toNat
    let x := s.session h
    (x.state = .handoff → x.hphase = .offered ∨ x.hphase = .granted → ∃ t, exec (.handoffTimerExpiry handle) s = .next t ∧
      (t.session h) = { x with state := .live, hphase := .none, epoch := x.epoch + 1 } ∧
      t.offers = dropIf (fun o => o.handle.toNat == h) s.offers ∧ (∀ i, i ≠ h → t.session i = s.session i)) ∧
    (x.state = .handoff → x.hphase = .committed → exec (.releaseWaitExpiry handle) s = .next (s.loseSession h)) ∧
    (x.state = .live → exec (.sessionIdleExpiry handle) s = .next (s.setSession h { x with state := .idle }))) ∧
  (∀ (s : State) (sid : SessionId) (l : Lease), s.pwr.state = .on → s.ras.fog = false → s.heldPulls = [] →
    let h := sidHandle sid.toNat
    let x := s.session h
    let u := s.mgAnswered (leaseOut sid)
    x.gen.toNat = sidGen sid.toNat → s.isHome h = false →
      (l.lost = true → exec (.leaseResolve sid l) s = .next (u.loseSession h)) ∧
      (l.lost = false → x.state = .handoff → exec (.leaseResolve sid l) s = .next (u.setSession h
        (if l.handoff then { x with epoch := l.epoch, hphase := .none, peer := l.peer }
          else { x with state := .live, hphase := .none, epoch := l.epoch })))) ∧
  (∀ (s : State) (h : Nat), (s.session h).state ≠ .free → (s.session h).state ≠ .lost →
    ((s.loseSession h).session h).state = .lost ∧ KeepsBut [.sessions, .regs, .ras, .out, .ports, .pool, .poison, .lineKey, .granules] s (s.loseSession h)) ∧
  (∀ (s : State) (g : Gone) (rest : List Gone), s.discarded = g :: rest →
    (∀ o ∈ s.sesOps, ¬(o.kind = .discard ∧ sidHandle o.session.toNat = g.handle)) → s.isHome g.handle = true ∨ g.at_ + 4000000 ≤ s.time →
    exec .reclamationProgress s = .next (({ s with discarded := rest } : State).reclaimEntry g.entry)) ∧
  (∀ (s : State) (r : Reclaim) (rest : List Reclaim), s.discarded = [] → s.reclaims = r :: rest →
    (∀ i < r.span, (s.granule (r.page + i)).pins = 0) → exec .reclamationProgress s = .next ((List.range r.span).foldl
      (fun s i => (s.setFrame (r.page + i) Frame.free).dropGranule (r.page + i)) { s with reclaims := rest }))

/-! ## Attention (R133 to R156) -/

/-- R72, R98, R105, R123, R133 to R136: a query's pre-check begins, while the session store is enabled: its session's entry is looked
at through the session cache. One that fails a check ends with it; one whose session must be pulled asks its home; any other is being
prepared and touches its session. -/
def Claims.AttentionQueriesStart : Prop :=
  ∀ (s : State) (ring : RingId) (pos : Pos) (block : List Byte) (f : Flight), bit (s.reg R.sesCtrl) 0 = true →
    s.mayStart ring.toNat pos.toNat .attn = some f →
    let a := attnQ f.desc
    let u := s.sesLoad (sidHandle a.sid)
    let check := u.attnCheck (dTenant f.desc) a
    (∀ c, check = .ends c → exec (.attnQuery ring pos block) s = .next (u.finish ring.toNat pos.toNat (u.attnCpl a c))) ∧
    (∀ h, check = .pull h → exec (.attnQuery ring pos block) s = .next (u.askEntry h a.sid)) ∧
    (check = .ok → exec (.attnQuery ring pos block) s = .next
      ((u.setFlight ring.toNat pos.toNat fun f => { f with stage := .preparing, host := block }).touchSession (sidHandle a.sid))) ∧
    (s.sesCache.contains (sidHandle a.sid) = true → u = s) ∧
    (s.sesCache.contains (sidHandle a.sid) = false → u.reg R.sesCacheMissTotal = s.reg R.sesCacheMissTotal + 1 ∨
      s.reg R.sesCacheMissTotal = -1)

/-- R112, R140 to R151, R154 to R156: what a query of a LIVE session commits at its last close, with its block and output in a host and no
rope, tree or append, once no cache, host or device holds lines it reads: its output over the stored rows goes out, its pages count as
read and touched, its session is touched, and it completes DONE with the pages read; where a page it reads is poisoned or fails its CRC it
is POISONED and nothing goes out. -/
def Claims.AttentionQueriesCommit : Prop :=
  ∀ (s : State) (slot : Nat) (it : Item) (f : Flight),
    let a := attnQ f.desc
    let h := sidHandle a.sid
    let x := s.session h
    let block := slice f.host 0 (a.blockLen x)
    let pages := a.pages fun i => i
    let lines := s.attnLines a x (fun i => i) it.rope
    let u := s.count R.attPageTotal pages.length
    a.append = false → a.rope = false → a.tree = false → a.srcHost = true → a.dstHost = true → it.written = false →
    s.sentFor it.ring.toNat it.pos.toNat = false →
      (lines ≠ [] → s.attnClose slot it f = .waits (s.itemAsk lines)) ∧
      (∀ t, lines = [] → u.pageFault x a.layer pages = some t → s.attnClose slot it f = .done t (Cpl.of St.poisoned) ∧ t.out = s.out) ∧
      (lines = [] → u.pageFault x a.layer pages = none → x.state = .live →
        let o := s.attnOutput a x block none
        ∃ t, s.attnClose slot it f = .done t (Cpl.why St.done pages.length) ∧
          t.out = s.out ++ (poisonRuns a.dst (o.1.map (·, false))).map (fun w =>
            .hostWrite (BitVec.ofNat 2 a.dstPort) (BitVec.ofNat 64 w.1) w.2.1 w.2.2) ∧
          t.regs = (((u.count R.attQueryTotal).count R.attAppendTotal 0).count R.attNanTotal o.2).regs ∧
          t.session h = { x with lastTouch := s.rotNo } ∧ (∀ k, k ≠ h → t.session k = s.session k) ∧
          (∀ n, t.frame n = if n ∈ pages.filterMap (s.pageOf x a.layer) then { s.frame n with touch := s.rotNo } else s.frame n) ∧
          KeepsBut [.out, .frames, .regs, .sessions] s t)

/-- R72, R98, R105, R112, R123, R133 to R136, R140 to R151, R154 to R156: Queries, from their pre-check to what they commit. -/
def Obligations.AttentionQueriesRun : Prop :=
  Claims.AttentionQueriesStart ∧ Claims.AttentionQueriesCommit


/-! ## Embedding tables (R157 to R178) -/

/-- R157, R158, R178: the table commands, through an open port that controls the partition, while no DEFINE is in progress. DEFINE of a
sound context naming an undefined table takes its frames and is in progress until they are zeroed and held, when the table is defined
with its counters 0 and the result DONE; RETIRE of a table nothing uses gives its frames back and forgets its step buffer; READ copies the context to the port's
staging. (The order of DEFINE's refusals is the model's choice, log entry 49.) -/
def Obligations.TableCommands : Prop :=
  (∀ (s : State) (port : Port) (table : TableId), s.openTo port.toNat → s.tabCmd = none →
    let p := port.toNat
    let n := table.toNat
    let c := s.stagedTable p
    let result (t : State) (r : Byte) : Host.Outcome State Fault Refusal := .next { t with tabLast := tput (fun _ => 0) t.tabLast p r }
    (tcBad c = true ∨ tcTable c ≠ n → exec (.define port table) s = result s St.badDescriptor) ∧
    (tcBad c = false → tcTable c = n → s.controls p (tcTenant c) = false → exec (.define port table) s = result s St.notOwner) ∧
    (tcBad c = false → tcTable c = n → s.controls p (tcTenant c) = true → s.table n = none →
      let k := tableFrameCount c
      (s.findRun (tcTenant c) k = none ∨ s.dramFails k = true → exec (.define port table) s = result s St.noSpace) ∧
      (∀ f, s.findRun (tcTenant c) k = some f → s.dramFails k = false →
        let u := (List.range k).foldl (fun s i => s.setFrame (f + i) { Frame.free with type := .table }) s
        exec (.define port table) s = .next { u with
          tabCmd := some (port, table, { ctx := c, step := tcStep c, base := 65536 * f, dropped := 0, clipped := 0, nonfinite := 0 }) })) ∧
    (s.table n = none → exec (.retire port table) s = result s St.badDescriptor) ∧
    (∀ x, s.table n = some x → s.controls p (tcTenant x.ctx) = false →
      exec (.retire port table) s = result s St.notOwner ∧ exec (.tableRead port table) s = result s St.notOwner) ∧
    (∀ x, s.table n = some x → s.controls p (tcTenant x.ctx) = true →
      (s.tableBusy n = true → exec (.retire port table) s = result s St.badDescriptor) ∧
      (s.tableBusy n = false → ∃ t, exec (.retire port table) s = .next t ∧ t.table n = none ∧
        (∀ e ∈ t.steps, e.table.toNat ≠ n) ∧ (∀ m, m ≠ n → t.table m = s.table m) ∧ tget (fun _ => 0) t.tabLast p = St.done) ∧
      ∃ t, exec (.tableRead port table) s = .next t ∧ KeepsBut [.regs, .tabLast] s t ∧
        ∀ i < 8, t.reg (stageOff p (R.embTctxData i)) = BitVec.ofNat 64 (x.readBack / 2 ^ (64 * i)))) ∧
  (∀ (s : State) (port : Port) (table : TableId) (x : Table), s.tabCmd = some (port, table, x) → ∃ t, exec .tableZeroingComplete s = .next t ∧
    t.tabCmd = none ∧ t.table table.toNat = some x ∧ (∀ m, m ≠ table.toNat → t.table m = s.table m) ∧
    tget (fun _ => 0) t.tabLast port.toNat = St.done ∧
    (∀ i < tableFrameCount x.ctx, (t.granule (x.base / 65536 + i)).dramHeld = true) ∧
    KeepsBut [.tabCmd, .tables, .tabLast, .granules, .pool, .poison, .lineKey, .out, .regs, .drives, .links, .tags, .net, .engineQ] s t)

/-- R161 to R163: the pre-check of a LOOKUP, LOOKAHEAD, GRAD, CLOSE or ABANDON begins: one that fails a check ends with it; any
other is being prepared, with the host's lists it brings. -/
def Claims.EmbeddingDescriptorsStart : Prop :=
  ∀ (s : State) (ring : RingId) (pos : Pos) (idx off : List (BitVec 32)) (gsrc : List Byte) (f : Flight) (k : RingKind) (op : Nat),
    s.mayStart ring.toNat pos.toNat k = some f → (embQ k f.desc).op = op →
    let a := embQ k f.desc
    let r := ring.toNat
    let p := pos.toNat
    let c := if k = .embl ∧ op = 1 then Instr.lookup ring pos idx off else if k = .embl ∧ op = 2 then .lookahead ring pos idx
      else if k = .embu ∧ op = 1 then .grad ring pos idx gsrc else if k = .embu ∧ op = 2 then .close ring pos else .abandon ring pos
    (k = .embl ∧ (op = 1 ∨ op = 2)) ∨ (k = .embu ∧ (op = 1 ∨ op = 2 ∨ op = 3)) →
    (∀ e, s.embCheck a f.desc = some e → exec c s = .next (s.finish r p e)) ∧
    (s.embCheck a f.desc = none → exec c s = .next
      (s.setFlight r p fun f => { f with
        stage := .preparing, host := if k = .embu ∧ op = 1 then gsrc else []
        idx := if op = 1 ∨ k = .embl then idx else [], off := if k = .embl ∧ op = 1 then off else [] }))

/-- R170 to R175: the step buffer and the close. A row's contributions add their integers to its entry, whose count saturates at
2^32 - 1, or make one while the buffer has room; the reversal of a GRAD takes off exactly what it added, waits for lines of its lists that
others hold, and where the lists cannot be read again discards the step; when the install unit has written every image the step is
closed: its entries are gone, the table's step is one higher, and the CLOSE completes. -/
def Claims.StepsAccumulateAndClose : Prop :=
  (∀ (s : State) (t : Nat) (x : Table) (step : BitVec 32) (row : Nat) (l : List (List Int × Bool)),
    let old := s.steps.find? fun e => e.is t step && e.row.toNat == row
    let sums (k : Nat) := (l.take k).foldl (fun a q => List.zipWith (· + ·) a q.1) (List.replicate (tcElems x.ctx) 0)
    let clips (k : Nat) := ((l.take k).filter Prod.snd).length + (l.length - k)
    (∀ e, old = some e →
      let k := min l.length (2 ^ 32 - 1 - e.cnt)
      s.addRow t x step row l = some (s.changeEntry t step row fun e =>
        { e with cnt := e.cnt + k, acc := List.zipWith (· + ·) e.acc (sums k), clips := e.clips + clips k }, k)) ∧
    (old = none → s.stepUsed + entryBytes x.ctx ≤ 8 * 2 ^ 30 →
      let k := min l.length (2 ^ 32 - 1)
      let e : StepEntry :=
        { table := BitVec.ofNat 12 t, tenant := BitVec.ofNat 4 (tcTenant x.ctx), step, row := BitVec.ofNat 32 row, cnt := k
          clips := clips k, acc := sums k, image := none }
      s.addRow t x step row l = some ({ s with steps := s.steps ++ [e] }, k)) ∧
    (old = none → 8 * 2 ^ 30 < s.stepUsed + entryBytes x.ctx → s.addRow t x step row l = none)) ∧
  (∀ (s : State) (ring : RingId) (pos : Pos) (g : GradSum) (x : Table) (f : Flight),
    (s.grads.find? fun g => g.is ring.toNat pos.toNat && g.ends.isSome) = some g → s.table g.table.toNat = some x →
    s.flight ring.toNat pos.toNat = some f →
    let forget (u : State) : State := { u with grads := dropIf (fun g => g.is ring.toNat pos.toNat) u.grads }
    let ended (u : State) : Host.Outcome State Fault Refusal := .next (u.finish ring.toNat pos.toNat (g.ends.getD (Cpl.of St.stopped)))
    let lost (u : State) : State :=
      let t : State := { u.discardStep g.table.toNat g.step with poisonSteps := (g.table, g.step) :: u.poisonSteps }
      State.record t { ErrRec.plain 4 8 (t.homeDie (x.base / 65536)) 14 with
        tenant := some (BitVec.ofNat 4 (tcTenant x.ctx)), addr := t.fpaOf x.base }
    let lists := s.gradRead ring.toNat (embQ .embu f.desc) x.ctx f
    (∀ u l n, lists = .ok u l n →
      exec (.reversalComplete ring pos true) s = ended (g.adds.foldl (fun s w =>
        let sums := rowSums (tcElems x.ctx) ((l.filter fun q => q.1 == w.1).map Prod.snd) w.2
        s.changeEntry g.table.toNat g.step w.1 fun e =>
          { e with cnt := e.cnt - w.2, acc := addInts e.acc (sums.1.map fun i => -i), clips := e.clips - sums.2 }) (forget u))) ∧
    (∀ u, lists = .waits u → exec (.reversalComplete ring pos true) s = .next u) ∧
    (∀ u c, lists = .ends u c → exec (.reversalComplete ring pos true) s = ended (lost (forget u))) ∧
    exec (.reversalComplete ring pos false) s = ended (lost (forget s))) ∧
  (∀ (s : State) (table : TableId) (i : Install) (x : Table), (s.installs.find? fun i => i.table.toNat == table.toNat) = some i →
    s.table table.toNat = some x → ∃ t : State, exec (.closeInstallComplete table) s = .next (State.finish t i.ring.toNat i.pos.toNat i.cpl) ∧
      t.table table.toNat = some { x with step := i.step + 1 } ∧ t.stepRows table.toNat i.step = [] ∧
      t.installs = s.installs.filter (fun j => j.table.toNat != table.toNat))

/-- R161 to R163, R170 to R175: Embedding descriptors, and the step buffer. -/
def Obligations.EmbeddingDescriptorsRun : Prop :=
  Claims.EmbeddingDescriptorsStart ∧ Claims.StepsAccumulateAndClose


/-! ## The storage tiers (R203 to R226, R400) -/

/-- R204, R209, R213, R214: TIER_CTRL through an open port that controls partition 0. While the device is not sealed it is refused with set-up
error 5. Set for the first time, ENABLE deallocates every drive in service and the tiers are being prepared; set already, only PROMOTE
is taken. When every drive in service is prepared the tiers are READY: the stripe is those drives, and the capacity is theirs in whole
GiB, or with none that of the near and far tiers. -/
def Claims.TiersBecomeReady : Prop :=
  (∀ (s : State) (port : Port) (promote : Bool), s.openTo port.toNat → s.controls port.toNat 0 = true →
    let u := s.setReg R.tierCtrl (BitVec.ofNat 64 (1 + 2 * b2n promote))
    (s.keeper.sealed = false → exec (.tierEnable port promote) s = .next (s.setupError port.toNat R.tierCtrl 5)) ∧
    (s.keeper.sealed = true → bit (s.reg R.tierCtrl) 0 = true → exec (.tierEnable port promote) s = .next u) ∧
    (s.keeper.sealed = true → bit (s.reg R.tierCtrl) 0 = false → exec (.tierEnable port promote) s = .next
      (s.drivesUp.foldl (fun s d => s.issueDrive d deallocCode) { u with preparing := true }))) ∧
  (∀ s : State, s.pwr.state = .on → s.ras.fog = false → s.preparing = true →
    (∀ d ∈ s.drivesUp, (s.drive d).prepared = 2) → ∃ t, exec .tierReady s = .next t ∧
    t.ready = true ∧ t.preparing = false ∧ t.stripe = s.drivesUp ∧ t.backed = (!s.drivesUp.isEmpty) ∧
    (s.drivesUp = [] → t.reg R.tierCapacity = BitVec.ofNat 64 (s.variant.nearBytes + (s.reg R.tierFarBytes).toNat - 32 * 2 ^ 30)) ∧
    (∀ g, s.drivesUp ≠ [] → (∀ d ∈ s.drivesUp, g ≤ (s.drive d).granules) → (∃ d ∈ s.drivesUp, (s.drive d).granules = g) →
      t.reg R.tierDenseBytes = BitVec.ofNat 64 (s.drivesUp.length * g * 65536) ∧
      t.reg R.tierCapacity = BitVec.ofNat 64 (s.drivesUp.length * g * 65536 / 2 ^ 30 * 2 ^ 30)) ∧
    (∀ o, o ≠ R.tierDenseBytes → o ≠ R.tierCapacity → t.reg o = s.reg o) ∧
    KeepsBut [.ready, .preparing, .stripe, .backed, .regs] s t)

/-- R211, R214, R215, R224, R356, R400: the end of a drive's command, on a device that is powered, and the drive's failures. A command without an
error leaves the drive's list, and what waits for a drive is sent; Deallocate is followed by the enabling of its cache, which prepares it; a
Write clears the bits of its run; the direct Read of a RELIEF is noted. A media error fails the drive, after the lines a Read could not return are poisoned. A command that times out
fails the drive while the tiers are being prepared; afterwards it is aborted and the controller reset, with PERST low where it does not
answer and high again when the pulse ends; while it is reset nothing completes; a controller that comes back is sent what it had not
answered again (that it is, the Abort's opcode and its naming the first command are the model's, log entry 205), and one that does not is
failed. -/
def Claims.DriveCommandsEnd : Prop :=
  ∀ (s : State) (drive : BitVec 3), let d := drive.toNat
    let x := s.drive d
    (∀ (granule : BitVec 48), x.cmds.contains granule.toNat = true → x.resetting = false → s.pwr.state ≠ .off → s.pwr.state ≠ .boot →
      let g := granule.toNat
      let u := (s.updDrive d fun x => { x with cmds := x.cmds.erase g }).drivesGoOn s
      (u.ras.fog = false → g ≠ deallocCode → g ≠ cacheCode → isWrite g = false → g < 2 ^ 47 →
        exec (.nvmeCommandComplete drive granule .ok) s = .next u) ∧
      (u.ras.fog = false → 2 ^ 47 ≤ g → exec (.nvmeCommandComplete drive granule .ok) s = .next { u with ras := { u.ras with
        reliefs := mapIf (fun (r : Relief) => r.started && !r.copied) (fun r => { r with read := (g - 2 ^ 47) :: r.read }) u.ras.reliefs } }) ∧
      (u.ras.fog = false → g = deallocCode → exec (.nvmeCommandComplete drive granule .ok) s =
        .next ((u.updDrive d fun x => { x with prepared := 1 }).issueDrive d cacheCode)) ∧
      (u.ras.fog = false → g = cacheCode → exec (.nvmeCommandComplete drive granule .ok) s =
        .next (u.updDrive d fun x => { x with prepared := 2 })) ∧
      (u.ras.fog = false → g ≠ deallocCode → g ≠ cacheCode → isWrite g = true → exec (.nvmeCommandComplete drive granule .ok) s =
        .next (u.writeDone (writeOf g).1 (writeOf g).2.1 (writeOf g).2.2)) ∧
      (u.ras.fog = true → exec (.nvmeCommandComplete drive granule .ok) s = .next u) ∧
      (∀ units : BitVec 16, g < 2 ^ 34 → (u.granule g).fill.isSome = true →
        exec (.nvmeCommandComplete drive granule (.mediaError units)) s = .next ((u.poisonUnits g units).failDrive d 9)) ∧
      (∀ units : BitVec 16, 2 ^ 47 ≤ g →
        exec (.nvmeCommandComplete drive granule (.mediaError units)) s = .next ((u.poisonUnits (g - 2 ^ 47) units).failDrive d 9)) ∧
      (∀ units : BitVec 16, g < 2 ^ 47 → 2 ^ 34 ≤ g ∨ (u.granule g).fill = none →
        exec (.nvmeCommandComplete drive granule (.mediaError units)) s = .next (u.failDrive d 9))) ∧
    (∀ granule how, x.resetting = true → exec (.nvmeCommandComplete drive granule how) s = .next s) ∧
    (∀ (c : Nat) (later : List Nat), x.state = .inService → x.cmds = c :: later →
      (s.preparing = true → exec (.nvmeCommandTimeout drive) s = .next (s.failDrive d 8)) ∧
      (s.preparing = false → exec (.nvmeCommandTimeout drive) s =
        .next (((s.driveCmd d 0x108 (s.driveOp c).2.1 (s.driveOp c).2.2).emit (.driveReset drive)).updDrive d
          fun x => { x with cmds := [], queued := c :: later ++ x.queued, resetting := true }))) ∧
    (x.resetting = true → exec (.driveResetTimeout drive) s = .next (s.failDrive d 8) ∧
      exec (.nvmeControllerResetTimeout drive) s = .next (s.updDrive d fun x => { x with perst := true })) ∧
    (x.state ≠ .absent → exec (.nvmePerstPulseEnd drive) s = .next (s.updDrive d fun x => { x with perst := false })) ∧
    (x.state = .inService → x.resetting = true → x.perst = false → exec (.nvmeControllerReady drive) s =
      .next ((s.updDrive d fun x => { x with resetting := false }).pumpDrive d)) ∧
    (∀ (c : Nat) (later : List Nat), x.queued = c :: later →
      (s.driveRoom d c = false → s.pumpDrive d = s) ∧
      (s.driveRoom d c = true → s.pumpDrive d =
        ((s.updDrive d fun x => { x with cmds := x.cmds ++ [c], queued := later }).driveCmd d (s.driveOp c).1 (s.driveOp c).2.1
          (s.driveOp c).2.2).pumpDrive d)) ∧
    (s.driveRoom d deallocCode = true ↔ x.resetting = false ∧ x.cmds.length < 64 * 256 ∧ s.memTxns ≤ 65536) ∧
    (∀ reason < 64, x.state = .inService → ∃ t, s.failDrive d reason = State.tierMoved (State.record t (ErrRec.plain 4 5 d 13)) ∧
      (t.drive d).state = .failed ∧ (t.drive d).reason.toNat = reason ∧ (t.drive d).cmds = [] ∧ (t.drive d).queued = [] ∧ (∀ e, e ≠ d → t.drive e = s.drive e) ∧
      KeepsBut [.drives, .granules, .regs] s t)

/-- R224: a Write of n units of granule g from unit u on. Each of its units that was not written to since leaves the dirty mask, and
all of them leave the units this pass has yet to write; when none is left of an eviction nothing holds, a clean granule becomes DENSE, and
another goes on to its next pass, or after four passes is abandoned until the next examination (how far a pass has gone is the model's
free value, log entry 23). -/
def Claims.WriteBackRunsPasses : Prop :=
  ∀ (s : State) (g u n : Nat) (m : Move), (s.granule g).move = some m → m.dst = .none →
    let x := s.granule g
    let run := x.evict &&& unitRun u n
    let left := x.evict &&& ~~~run
    let dirty := x.dirty &&& ~~~(run &&& ~~~m.marks)
    let w := (s.setGranule g { x with evict := left, dirty }).count R.tierWritebackTotal n
    (left ≠ 0 → s.writeDone g u n = w) ∧
    (left = 0 → run ≠ 0 → x.dramHeld = false → x.nearHeld = false →
      (dirty = 0 → s.writeDone g u n = (w.toDense g).tierMoved) ∧
      (dirty ≠ 0 → m.passes + 1 ≠ 4 → s.writeDone g u n = w.updGranule g fun x =>
        { x with move := some { m with passes := m.passes + 1, todo := 0xFFFF, copied := 0 } }) ∧
      (dirty ≠ 0 → m.passes + 1 = 4 →
        s.writeDone g u n = (w.updGranule g fun x => { x with move := none, due := true }).count R.tierAbandonTotal)) ∧
    (left = 0 → run ≠ 0 → x.dramHeld = true ∨ x.nearHeld = true → s.writeDone g u n = w.updGranule g fun x => { x with move := none })

/-- R204, R209, R211, R213, R214, R215, R224, R356, R400: The tiers' enabling, and the drives' commands. -/
def Obligations.TiersAndDrives : Prop :=
  Claims.TiersBecomeReady ∧ Claims.DriveCommandsEnd ∧ Claims.WriteBackRunsPasses


/-- R208, R216, R217, R219, R221, R224, R225, R342: the tier unit's own work, while the device is on and not in Fog mode. A fill that has
read its granule lands there, dirty only where it was written meanwhile; one that waits for a frame takes one that is free, and else is given up with a contained error, what waited
for it being answered; an examination demotes what is past its age; a copy switches tiers when a pass copied everything, runs another
pass, or is abandoned after four; write-back writes the dirty runs of a granule, or makes a clean one DENSE; and a scrub step records what it
finds in a line of the far tier. -/
def Obligations.TierUnitWorks : Prop :=
  ∀ s : State, s.pwr.state = .on → s.ras.fog = false →
    (∀ (granule : BitVec 34) (t : Tier), let g := granule.toNat
      let x := s.granule g
      x.fill = some t →
      (x.waits = false → s.reading g = false → exec (.fillComplete granule) s =
        let u := s.setGranule g { x with tier := t, fill := none, zeroing := false, fillUser := none }
        .next (if s.backed && !x.zeroing then u.count R.tierFillTotal else u).tierMoved) ∧
      (x.waits = true → exec (.fillComplete granule) s = .next s.fillsGoOn) ∧
      (x.waits = true → s.pickFrame t ≠ none → exec (.frameWaitTimeout granule) s = .next (s.fillFrame g t)) ∧
      (x.waits = true → s.pickFrame t = none → exec (.frameWaitTimeout granule) s =
        let v := (s.setGranule g { x with fill := none, waits := false, zeroing := false, fillUser := none, dirty := 0 }).record
          { ErrRec.plain 3 8 (s.homeDie g) 5 with status := St.noSpace, addr := s.fpaOf (65536 * g) }
        let w := match x.fillUser with
          | some (r, p) => v.refuseUser r.toNat p.toNat
          | none => v
        .next ((w.homeWaits.filter fun e => e.1 / 256 == g).foldl (fun s e => e.2.foldl State.refuseWait (s.setWaits e.1 [])) w
          ).runNet.itemsEnd)) ∧
    (let u := s.granules.foldl (fun s e => s.updGranule e.1 fun x => { x with due := false }) s
      let v := u.granules.foldl (fun s e => if s.aged e.1 (s.granule e.1) then s.demote e.1 else s) u
      let w := State.demoteOldest .near (v.waitingFor .near) v
      exec .ageExamination s = .next (State.demoteOldest .far (w.waitingFor .far) w).tierMoved) ∧
    (∀ (granule : BitVec 34) (m : Move), let g := granule.toNat
      let x := s.granule g
      x.move = some m → m.dst ≠ .none → x.nearHeld = false ∨ m.dst = .near →
      (m.marks = 0 → exec (.copyPassComplete granule) s =
        .next ((s.setGranule g { x with tier := m.dst, frame := m.frame, move := none }).count
          (if m.dst = .near then R.tierPromoteTotal else R.tierDemoteTotal)).tierMoved) ∧
      (m.marks ≠ 0 → m.passes + 1 = 4 → exec (.copyPassComplete granule) s =
        .next ((s.setGranule g { x with move := none, due := true }).count R.tierAbandonTotal).tierMoved) ∧
      (m.marks ≠ 0 → m.passes + 1 ≠ 4 → exec (.copyPassComplete granule) s =
        .next (s.setGranule g { x with move := some { m with marks := 0, passes := m.passes + 1, todo := m.marks, copied := 0 } }))) ∧
    (∀ (granule : BitVec 34) (m : Move) (d : Nat), let g := granule.toNat
      let x := s.granule g
      x.move = some m → m.dst = .none → x.evict = 0 → s.driveOf g = some d → (s.drive d).state = .inService → s.fenced 5 d = false →
      (∀ c ∈ (s.drive d).cmds ++ (s.drive d).queued, ¬(isWrite c = true ∧ (writeOf c).1 = g)) → s.stagingUsed (d / 4) < 64 →
      (x.dramHeld = true → exec (.writebackStart granule) s = .next (s.setGranule g { x with move := none })) ∧
      (x.dramHeld = false → x.dirty = 0 → exec (.writebackStart granule) s = .next (s.toDense g).tierMoved) ∧
      (x.dramHeld = false → x.dirty ≠ 0 → exec (.writebackStart granule) s =
        .next ((runsOf x.dirty).foldl (fun s r => s.issueDrive d (writeCode g r.1 r.2))
          (s.setGranule g { x with evict := x.dirty, move := some { m with marks := 0, todo := x.dirty, copied := 0 } })))) ∧
    (∀ (line : BitVec 44) (corrected : Bool), (s.granule (line.toNat / 1024)).tier = .far →
      let unit := s.storeUnit (64 * line.toNat)
      let rec_ (severity code : Nat) : ErrRec := { ErrRec.plain severity unit.1 unit.2 code with addr := s.fpaOf (64 * line.toNat) }
      exec (.patrolScrubStep line corrected true) s = .next ((s.setPoison line.toNat true).record (rec_ 3 2)) ∧
      exec (.patrolScrubStep line true false) s = .next (s.record (rec_ 2 1)) ∧
      exec (.patrolScrubStep line false false) s = .next s)

/-! ## Translation (R233 to R249) -/

/-- R246 to R251, R288: an XINV descriptor that may start. One that fails a check ends BAD_DESCRIPTOR with its offset and reason. PTWRITE
writes the bytes of its source, translated by its ring's front end, into the page-table area, here and on every other device of its mask;
it waits first for lines of its source that caches, hosts or other devices hold. INVAL drops what the tenant's translations hold of its
range, or of everything, and SETROOT drops everything and sets the root, here and there; each then waits for the confirmations, or
completes at once where it names this device alone and no access is left, XLT_TOKEN saturating. A PTWRITE that may not read its source, or
reads poison, writes nothing. -/
def Claims.XinvDescriptorsRun : Prop :=
  (∀ (s : State) (ring : RingId) (pos : Pos) (f : Flight), s.mayStart ring.toNat pos.toNat .xinv = some f →
    let r := ring.toNat
    let p := pos.toNat
    let d := f.desc
    let t := (s.ring r).tenant
    let n := dNum d 16 8
    let a := dNum d 8 8
    let off := dNum d 24 4
    let mask := s.bcastMask d
    let others := maskList (maskDrop mask s.devNo)
    let u := s.setStage r p .running
    let e := u.xinvEng r p
    let needs := u.needs e (pieces n) a n
    let got := u.gather e (pieces n) a n
    let read : State := u.readUse e.cache t a n got.1.length
    let write (u : State) (bs : List Byte) : Host.Outcome State Fault Refusal :=
      .next (((others.foldl (fun s d => s.sendMg (.ptwrite (BitVec.ofNat 6 d) (BitVec.ofNat 32 off) bs)) (u.putTables off bs)).await
        r p mask false []).runNet)
    let drops (all : Bool) (a n : Nat) (root : Option (BitVec 32)) : Host.Outcome State Fault Refusal :=
      let v := u.dropXlat (BitVec.ofNat 4 t) all a n
      let w := match root with
        | some o => v.putRoot (BitVec.ofNat 4 t).toNat o.toNat
        | none => v
      .next ((others.foldl (fun s d => s.sendMg (.inval (BitVec.ofNat 6 d) (BitVec.ofNat 4 t) all (BitVec.ofNat 64 a) (BitVec.ofNat 64 n)
        root)) w).await r p mask true (u.accessesIn (BitVec.ofNat 4 t) all a n))
    (∀ (o w : Nat), s.xinvCheck t d = some (o, w) →
      (dOpcode d = 1 → ∀ src, exec (.ptwrite ring pos src) s = .next ((s.finish r p (Cpl.bad o w)).runNet)) ∧
      (dOpcode d = 2 → exec (.inval ring pos) s = .next (s.finish r p (Cpl.bad o w))) ∧
      (dOpcode d = 3 → exec (.setroot ring pos) s = .next (s.finish r p (Cpl.bad o w)))) ∧
    (s.xinvCheck t d = none →
      (∀ src : List Byte, dOpcode d = 1 →
        (fld d 224 2 = 1 → exec (.ptwrite ring pos src) s = write u (slice src 0 n)) ∧
        (fld d 224 2 ≠ 1 → needs ≠ [] → exec (.ptwrite ring pos src) s = .next (((u.ask e needs).setStage r p .queued).runNet)) ∧
        (∀ dva why, fld d 224 2 ≠ 1 → needs = [] → got.2 = some (dva, why) →
          exec (.ptwrite ring pos src) s = .next (((read.noteRefusal t false 0x3FF dva why).finish r p (Refuse.cpl 8 why)).runNet)) ∧
        (fld d 224 2 ≠ 1 → needs = [] → got.2 = none → got.1.any Prod.snd = true →
          exec (.ptwrite ring pos src) s = .next (((read.poisonedRead e.cache t a n).finish r p (Cpl.of St.poisoned)).runNet)) ∧
        (fld d 224 2 ≠ 1 → needs = [] → got.2 = none → got.1.any Prod.snd = false →
          exec (.ptwrite ring pos src) s = write read (got.1.map Prod.fst))) ∧
      (dOpcode d = 2 → exec (.inval ring pos) s = drops (dFlag d 13) a n none) ∧
      (dOpcode d = 3 → exec (.setroot ring pos) s = drops true 0 0 (some (BitVec.ofNat 32 off))))) ∧
  (∀ (s : State) (t : Tenant) (all : Bool) (a n : Nat), let u := s.dropXlat t all a n
    (∀ e ∈ s.tlb, e ∈ u.tlb ∨ (e.tenant = t ∧ (all = true ∨ rangesMeet a n (e.page * 2 ^ e.bits) (2 ^ e.bits) = true))) ∧
    (∀ e ∈ u.tlb, e ∈ s.tlb ∧ (e.tenant = t → all = false ∧ rangesMeet a n (e.page * 2 ^ e.bits) (2 ^ e.bits) = false)) ∧
    (s.rot.phase = .idle → u.rot = s.rot) ∧
    (s.rot.phase ≠ .idle → ∀ e ∈ s.tlb, e ∉ u.tlb → e.cache < 32 → (e.cache, e.tenant, e.page, e.bits) ∈ u.rot.forced) ∧
    KeepsBut [.tlb, .walkCache, .walks, .rot] s u) ∧
  (∀ (s : State) (r p : Nat) (counts : Bool), s.bcasts = [] →
    let u := if counts then s.count R.xltToken else s
    s.await r p (maskAdd 0 s.devNo) counts [] = u.finish (BitVec.ofNat 12 r).toNat (BitVec.ofNat 32 p).toNat
      { Cpl.of St.done with result0 := u.reg R.xltToken, result1 := maskAdd 0 s.devNo })

/-- R235, R239 to R241, R247 to R249, R251: the other ends. A device forwarded a PTWRITE writes the same bytes at the same place and confirms; one
forwarded an INVAL or SETROOT drops and sets the same, and confirms once no access that went through what it dropped is left. A confirmation strikes its
device off those waited for, and after 2 ms those left count as missed. A walk's entry read goes one level down through a valid
pointer, and otherwise ends the walk: with the fault of a bad entry, with the leaf loaded into the gallery's cache and its waiting
accesses looked at again, or, where an invalidation overtook it, with the walk begun anew. What an
engine's cache does not hold, the engine's next use loads, with the mark key of that moment: it is translated so afterwards whatever
the key register takes. -/
def Claims.InvalidationsAndWalks : Prop :=
  (∀ s : State, s.pwr.state = .on → s.ras.fog = false → ∀ (dev : Dev) (off : BitVec 32) (bytes : List Byte) (tenant : Tenant)
      (all : Bool) (addr len : Word) (root : Option (BitVec 32)) (ring : RingId),
    let answered (u : State) : Host.Outcome State Fault Refusal := .next u.missesGo.runNet.itemsEnd
    (s.mgQueue.length < 256 → exec (.ptwriteBroadcast dev off bytes) s =
      answered ((s.poolWrite (ptArea + off.toNat) bytes).sendMg (.invalConfirm dev))) ∧
    (let v := s.dropXlat tenant all addr.toNat len.toNat;
      let w := match root with
        | some o => v.putRoot tenant.toNat o.toNat
        | none => v
      let b : Bcast := { ring := 0, pos := 0, quiet := false, sender := some dev, waiting := 0, confirmed := 0, missed := false
                         counts := true, accesses := s.accessesIn tenant all addr.toNat len.toNat }
      s.mgQueue.length < 256 → exec (.invalForward dev tenant all addr len root) s =
        answered (State.bcastsEnd { w with bcasts := w.bcasts ++ [b] })) ∧
    (let own (b : Bcast) : Bool := b.ring.toNat == ring.toNat && b.sender.isNone;
      let confirm (b : Bcast) : Bcast := if maskHas b.waiting dev.toNat then
        { b with waiting := maskDrop b.waiting dev.toNat, confirmed := maskAdd b.confirmed dev.toNat } else b
      let give (b : Bcast) : Bcast := if b.waiting = 0 then b else { b with waiting := 0, missed := true }
      let u := s.mgAnswered (tableOut dev)
      let late := (s.bcasts.filter own).flatMap fun b => maskList b.waiting
      let v := late.foldl (fun s d => s.mgLate (tableOut (BitVec.ofNat 6 d))) s
      exec (.invalConfirm ring dev) s = answered (State.bcastsEnd { u with bcasts := mapIf own confirm u.bcasts }) ∧
      exec (.invalConfirmTimeout ring) s = .next (State.bcastsEnd { v with bcasts := mapIf own give v.bcasts }))) ∧
  (∀ (s : State) (walk : BitVec 7) (w : Walk), lget s.walks walk.toNat = some w → s.fenced 8 (s.dieOfGallery w.gallery) = false →
    let k := walk.toNat
    let t := w.tenant.toNat
    let a := w.dva.toNat
    let e := s.ptEntry w.table a w.level
    let bad := entryFault (s.ptBase t) (s.ptSize t) w.level e
    let ended : State := { s with walks := ldel s.walks k }
    (bit e 0 = true → bad = none → isLeaf w.level e = false →
      let next := fld e 8 24 * 256
      let kept : WalkEntry :=
        { die := s.dieOfGallery w.gallery, tenant := w.tenant, level := w.level - 1, path := pathAbove a (w.level - 1), table := next }
      let u : State := if w.stale w.level then s else s.walkKeep kept
      exec (.walkEntryRead walk) s = .next { u with walks := lput s.walks k { w with level := w.level - 1, table := next } }) ∧
    (w.stale w.level = false →
      let u := ended.count R.xltWalkTotal
      (bit e 0 = false → exec (.walkEntryRead walk) s = .next ((u.walkFault w 1 w.level).translateAll).runNet) ∧
      (∀ r, bit e 0 = true → bad = some r →
        exec (.walkEntryRead walk) s = .next ((u.walkFault w r w.level).translateAll).runNet) ∧
      (bit e 0 = true → bad = none → isLeaf w.level e = true → exec (.walkEntryRead walk) s =
        .next ((((if w.prefetch && (u.tlbFind w.gallery w.tenant a).isNone then u.count R.xltPrefetchTotal else u).tlbLoad w.gallery w.tenant
          (s.leafXlat t a w.level e) a).translateAll).runNet))) ∧
    (w.stale w.level = true → bit e 0 = false ∨ bad ≠ none ∨ isLeaf w.level e = true →
      let u := ended.count R.xltRewalkTotal
      (∀ v, u.startWalk w.gallery w.tenant a w.prefetch = .ok v → exec (.walkEntryRead walk) s = .next v.runNet) ∧
      (∀ r l, u.startWalk w.gallery w.tenant a w.prefetch = .error (r, l) →
        exec (.walkEntryRead walk) s = .next ((u.walkFault w r l).translateAll).runNet))) ∧
  (∀ (s : State) (who t dva : Nat) (x : Xlat), t < 16 → s.tlbFind who (BitVec.ofNat 4 t) dva = none →
    s.translate who t dva false = .ok x →
      let u := s.xlatUse who t dva
      x.key = BitVec.ofNat 24 (fld (s.reg (R.xltKey (16 * t + fld x.leaf 4 4))) 0 24) ∧
      ∀ slot key, (u.setReg (R.xltKey slot) key).translate who t dva false = .ok x)

/-- R235, R239 to R241, R246 to R251, R247 to R249, R251, R288: XINV descriptors, their broadcasts, and walks. -/
def Obligations.TranslationIsKeptCoherent : Prop :=
  Claims.XinvDescriptorsRun ∧ Claims.InvalidationsAndWalks


/-! ## Weight regions (R250 to R267) -/

/-- R261, R266, R267, R325, R384: GLS_REGION_CTRL through an open port that controls the partition the region has and the one it is given. VALID set on a
region that is neither VALID nor PENDING makes it PENDING where nothing is wrong with it, and no cache keeps a line of it (log entry 207),
and else stores the reason; on one that is,
it changes nothing, and a change of TENANT or KEY is refused with set-up error 5. VALID cleared forgets its blocks and its measurement. When the
Keeper has measured a PENDING region it is VALID. A region stops or becomes VALID only as the measurement generation advances. -/
def Claims.WeightRegionsBecomeValid : Prop :=
  (∀ (s : State) (port : Port) (region : BitVec 6) (value : BitVec 32), s.openTo port.toNat →
    let r := region.toNat
    let t := fld value 1 4
    let k := fld value 5 4
    let held := s.regionValid r = true ∨ s.regionPending r = true
    let ctrl := R.glsRegionCtrl r
    s.controls port.toNat (s.regionTenant r) = true →
    (s.controls port.toNat t = false → exec (.regionValidSet port region value) s = .next (s.setupError port.toNat ctrl 6) ∧
      exec (.regionValidClear port region value) s = .next (s.setupError port.toNat ctrl 6)) ∧
    (s.controls port.toNat t = true →
      (held → t ≠ s.regionTenant r ∨ k ≠ s.regionKey r →
        exec (.regionValidSet port region value) s = .next (s.setupError port.toNat ctrl 5) ∧
        exec (.regionValidClear port region value) s = .next (s.setupError port.toNat ctrl 5)) ∧
      (held → t = s.regionTenant r → k = s.regionKey r → exec (.regionValidSet port region value) s = .next s) ∧
      (¬held → exec (.regionValidSet port region value) s =
        let res := s.regionResult r t k
        let u := s.setReg ctrl (BitVec.ofNat 64 (t * 2 + k * 32 + (if res = 0 then 512 else 0) + res * 1024))
        .next (if res = 0 then u.dropCached r else u)) ∧
      (¬held ∨ (t = s.regionTenant r ∧ k = s.regionKey r) → ∃ u : State, exec (.regionValidClear port region value) s = .next u ∧
        u.reg ctrl = BitVec.ofNat 64 (t * 2 + k * 32) ∧ u.regionValid r = false ∧ u.regionPending r = false ∧
        (∀ b ∈ u.blocks, b.region ≠ r) ∧ tget (fun _ => 0) u.keeper.measRegion r = 0 ∧
        u.reg R.kprMgen = s.reg R.kprMgen + (if s.regionValid r then 1 else 0) ∧ KeepsBut [.regs, .blocks, .keeper] s u))) ∧
  (∀ (s : State) (region : BitVec 6), let r := region.toNat
    (s.regionPending r = false → exec (.regionMeasured region) s = .next s) ∧
    (s.regionPending r = true → ∃ u : State, exec (.regionMeasured region) s = .next u ∧
      u.reg (R.glsRegionCtrl r) = BitVec.ofNat 64 (1 + s.regionTenant r * 2 + s.regionKey r * 32) ∧
      tget (fun _ => 0) u.keeper.measRegion r = Config.sha384 (s.regionBytes r) ∧
      u.reg R.kprMgen = s.reg R.kprMgen + 1 ∧ KeepsBut [.regs, .keeper] s u)) ∧
  (∀ (s : State) (r : Nat), let u := s.dropCached r
    let inside (k : Nat) : Prop := k % 2 ^ 50 / 2 ^ 44 = s.devNo ∧ s.regionBase r / 64 ≤ k % 2 ^ 44 ∧
      k % 2 ^ 44 < (s.regionBase r + s.regionSize r) / 64
    (∀ e ∈ u.gcache, ¬inside e.1) ∧ (∀ e ∈ u.victims, ¬inside e.1) ∧ (∀ e ∈ u.abuf, ¬inside e.1) ∧
    (∀ e ∈ s.gcache, ¬inside e.1 → e ∈ u.gcache) ∧ (∀ e ∈ s.victims, ¬inside e.1 → e ∈ u.victims) ∧
    (∀ e ∈ s.abuf, ¬inside e.1 → e ∈ u.abuf) ∧ KeepsBut [.gcache, .abuf, .victims, .dir] s u)

/-- R252, R260, R262, R264, R342: a block of a VALID region, outside Fog mode. One that expands counts as raw, coded with the lines it saves,
or zero, and its bytes are kept, which reads are then given without its store; one whose tag or code fails is counted and recorded with a contained error, and leaves the blocks kept as they
are; one that meets a poisoned line is recorded as its store's error. -/
def Claims.WeightBlocksExpand : Prop :=
  ∀ (s : State) (region : BitVec 6) (block : BitVec 32), let r := region.toNat
    let b := block.toNat
    s.regionValid r = true → 65536 * b < s.regionSize r → s.ras.fog = false →
    let h := (s.sealRecord r b).take 32
    let die := s.blockDie b
    (∀ bs, s.keptBlock r b = some bs → s.expandBlock r b = .ok bs) ∧ (s.keptBlock r b = none → s.expandBlock r b = s.readBlock r b) ∧
    (∀ bs, s.readBlock r b = .ok bs → ∃ u : State, exec (.weightBlockExpanded region block) s = .next u ∧
      u.blocks.getLast? = some { die, region := r, tenant := s.regionTenant r, block := b, bytes := bs } ∧ u.expandBlock r b = .ok bs ∧ (hdrMode h = 0 → u.regs = (s.count R.glsRawTotal).regs) ∧
      (hdrMode h = 1 → u.regs = ((s.count R.glsCodedTotal).count R.glsLinesSavedTotal (1024 - hdrLines h)).regs) ∧
      (hdrMode h ≠ 0 → hdrMode h ≠ 1 → u.regs = ((s.count R.glsZeroTotal).count R.glsLinesSavedTotal 1024).regs) ∧
      KeepsBut [.regs, .blocks] s u) ∧
    (∀ e : Nat → ErrRec, e = (fun code => { ErrRec.plain 3 8 die code with
        status := St.poisoned, tenant := some (BitVec.ofNat 4 (s.regionTenant r)), addr := s.fpaOf (s.regionBase r + 65536 * b) }) →
      (s.readBlock r b = .tagFail → exec (.weightBlockExpanded region block) s =
        .next ((((s.count R.glsTagFailTotal).setReg R.glsLastErr (BitVec.ofNat 64 r)).setReg R.glsLastErrBlock
          (BitVec.ofNat 64 b)).record (e 9))) ∧
      (s.readBlock r b = .decodeError → exec (.weightBlockExpanded region block) s =
        .next ((((s.count R.glsDecodeErrTotal).setReg R.glsLastErr (BitVec.ofNat 64 (r + 64))).setReg R.glsLastErrBlock
          (BitVec.ofNat 64 b)).record (e 11)))) ∧
    (∀ o, s.readBlock r b = .poisoned o → s.poisoned (o / 64) = true ∧ exec (.weightBlockExpanded region block) s =
      .next (s.poisonError o (some (BitVec.ofNat 4 (s.regionTenant r)))))

/-- R252, R260, R261, R262, R264, R266, R267, R325, R342, R384: Weight regions and their blocks. -/
def Obligations.WeightRegionsAndBlocks : Prop :=
  Claims.WeightRegionsBecomeValid ∧ Claims.WeightBlocksExpand


/-! ## Sprinoucel links (R268 to R278, R299) -/

/-- R272, R273, R275, R276, R296, R370: how a link moves between its states. With the device powered and sealed and the port there, a signal takes a DOWN link to TRAIN;
training that ends takes it to KEY with the delay measured, LONG above 20 ns; keys that are agreed take it to ACTIVE at the common level, with
its sequence numbers and credits afresh, or FAILED for reason 4 below the rack's level; a link that retrained resends what was not
acknowledged. Timeouts, a lost signal and a lost alignment take it down, to FAILED, or to RETRAIN, each for its own reason; 100 ms after a
training timeout it trains again. RESET takes a FAILED or DOWN link to DOWN and RETRAIN an ACTIVE one to RETRAIN. A message for an
idle link wakes the device. -/
def Claims.LinksChangeState : Prop :=
  (∀ (s : State) (p : SPort), let n := p.toNat
    let x := s.link n
    (s.pwr.state ≠ .off → s.pwr.state ≠ .boot → s.keeper.sealed = true → s.sportThere n = true → x.state = .down →
      (exec (.signalDetect p) s = .next
        { s.updLink n fun x => { x with state := .train } with pwr := { s.pwr with refFab := true } }) ∧
      (x.reason = 2 → exec (.trainRetryTimer p) s = .next (s.updLink n fun x => { x with state := .train }))) ∧
    (∀ delay : BitVec 11, let long : Bool := decide (20 < delay.toNat)
      (x.state = .train → exec (.trainComplete p delay) s = .next (s.updLink n fun x => { x with state := .key, delay, long })) ∧
      (x.state = .retrain → exec (.trainComplete p delay) s =
        .next (s.updLink n fun x => { x with retrainKey := true, delay, long }))) ∧
    (x.state = .train → exec (.trainTimeout p) s = .next (s.linkOut n .down 2)) ∧
    (∀ level : Byte, let low := level.toNat < s.rackLevel
      let up : SLink := { x with state := .active, level, txCount := 0, rxCount := 0, epoch := x.epoch + 1, retrainKey := false }
      (x.state = .key → low → exec (.keyExchangeComplete p level) s = .next (s.linkOut n .failed 4)) ∧
      (x.state = .key → ¬low → exec (.keyExchangeComplete p level) s = .next (s.setLink n { up with
        expSeq := 0, txSeq := 0, credits := [(0, 3584), (1, 1344), (2, 5376), (3, 448)], nonRot := [], owed := [], rx := [], rxRot := []
        reqSkip := 0, mgtSkip := 0 })) ∧
      (x.state = .retrain → x.retrainKey = true → low → exec (.keyExchangeComplete p level) s = .next (s.linkOut n .failed 4)) ∧
      (x.state = .retrain → x.retrainKey = true → ¬low → exec (.keyExchangeComplete p level) s =
        .next ((x.replay.foldl (fun s f => s.sendFlit n (setFld f 10 10 ((s.link n).expSeq - 1).toNat)) (s.setLink n up)).pumpPort n))) ∧
    (x.state = .key ∨ (x.state = .retrain ∧ x.retrainKey = true) → exec (.keyExchangeTimeout p) s = .next (s.linkOut n .failed 3)) ∧
    (x.state = .retrain → exec (.retrainTimeout p) s =
      .next ((s.updLink n fun y => { y with discards := y.discards + y.replay.length }).linkOut n .down 5)) ∧
    (x.state ≠ .disabled → exec (.signalLost p) s = .next (s.linkOut n .down 1)) ∧
    (x.state = .active → exec (.codewordAlignmentLost p) s = .next ((s.count R.smfCrcErrTotal).linkRetrain n)) ∧
    (x.state = .idle → exec (.idleLinkMessage p) s = .next (s.wakeTrigger 5)) ∧
    (x.state ≠ .idle → exec (.idleLinkMessage p) s = .next s) ∧
    (∀ port : Port, s.openTo port.toNat → s.controls port.toNat 0 = true →
      (x.state = .failed ∨ x.state = .down → exec (.portReset port p) s = .next (s.updLink n fun x => { x with state := .down })) ∧
      (x.state ≠ .failed → x.state ≠ .down → exec (.portReset port p) s = .next s) ∧
      (x.state = .active → exec (.portRetrain port p) s = .next (s.linkRetrain n)) ∧
      (x.state ≠ .active → exec (.portRetrain port p) s = .next s))) ∧
  (∀ (s : State) (n : Nat) (goes : LinkState) (reason : BitVec 4), let x := s.link n
    (s.linkOut n goes reason = (x.txq.foldl State.dropTx ((s.setLink n { x with
      state := goes, reason, retrainKey := false, nakSet := false, sameNak := 0, gotNaks := 0, ackDue := false, nakTimes := [], replay := []
      owed := [], rx := [], rxRot := [] }).updLink n fun x => { x with txq := [] })).missesGo.runNet.itemsEnd) ∧
    (s.linkRetrain n = (x.txq.foldl State.dropTx (((s.setLink n { x with
      state := .retrain, retrainKey := false, nakSet := false, sameNak := 0, gotNaks := 0, nakTimes := [] }).count R.smfRetrainTotal).updLink n
      fun x => { x with txq := [] })).missesGo.runNet.itemsEnd)) ∧
  (∀ (s : State) (p : SPort) (op : HomeOp) (r : Req), s.dropTx (.request p op r) = s.unreachable r)

/-- R269 to R273: a flit on an ACTIVE link of a powered device. One that cannot be corrected, fails its CRC or is out of order is
discarded and asked for once, again whenever the replay timer expires, and the fourth request for one flit retrains the link. One whose tag fails fails the link. Any other that carries
messages is consumed in order: it advances the sequence number, and takes what it acknowledges from the replay buffer; a NAK in it resends what is not acknowledged, and the fourth for one flit retrains the
link. -/
def Claims.FlitsAreReceived : Prop :=
  ∀ (s : State) (p : SPort) (flit : BitVec 2048) (correctable : Bool), let n := p.toNat
    let x := s.link n
    s.pwr.state ≠ .off → s.pwr.state ≠ .boot → x.state = .active →
    let u := s.setLink n { x with rxCount := x.rxCount + 1 }
    let idle := fld flit 34 28 = 0
    let control := bit flit 63 = true
    let intact := correctable = true ∧ fld flit 1984 64 = flitCrc flit
    let ordered := fld flit 0 10 = (if fld flit 34 28 == 0 then x.expSeq - 1 else x.expSeq).toNat
    (¬intact → exec (.flitReceived p flit correctable) s =
      .next (if x.nakSet then u.count R.smfCrcErrTotal else (u.count R.smfCrcErrTotal).sendNak n)) ∧
    (intact → ¬control → ¬ordered → exec (.flitReceived p flit correctable) s = .next (if x.nakSet then u else u.sendNak n)) ∧
    (intact → control ∨ ordered → Config.flitOpen n x.epoch x.rxCount flit = none → exec (.flitReceived p flit correctable) s =
      .next (((u.count R.smfTagfailTotal).record (ErrRec.plain 1 6 n 9)).linkOut n .failed 6)) ∧
    (∀ payload, intact → control → Config.flitOpen n x.epoch x.rxCount flit = some payload →
      exec (.flitReceived p flit correctable) s = .next u) ∧
    (∀ payload, intact → ¬control → ordered → Config.flitOpen n x.epoch x.rxCount flit = some payload → ∃ y : SLink,
      y.expSeq = (if fld flit 34 28 == 0 then x.expSeq else x.expSeq + 1) ∧ (¬idle → y.nakSet = false ∧ y.sameNak = 0) ∧
      y.state = .active ∧ y.txq = x.txq ∧ y.txSeq = x.txSeq ∧ (∃ k, y.replay = x.replay.drop k ∧
        y.gotNaks = (if k = 0 then x.gotNaks else 0) + (if bit flit 20 then 1 else 0)) ∧
      exec (.flitReceived p flit correctable) s = .next (if bit flit 20 = true ∧ 4 ≤ y.gotNaks then (u.setLink n y).linkRetrain n
        else (if bit flit 20 then (u.setLink n y).resend n else u.setLink n y).pumpPort n)) ∧
    (x.nakSet = true → exec (.replayTimerExpiry p) s = .next (s.sendNak n)) ∧
    (x.nakSet = false → exec (.replayTimerExpiry p) s = .next s) ∧
    (3 ≤ x.sameNak → ∃ t : State, s.sendNak n = t.linkRetrain n)

/-- R269 to R273, R272, R273, R275, R276, R296, R370: The links' states, and what they receive. -/
def Obligations.LinksRun : Prop :=
  Claims.LinksChangeState ∧ Claims.FlitsAreReceived


/-! ## Coherence and messages (R279 to R298) -/

/-- R279 to R281, R296, R298, R354: a message that arrives while the device is on. A message from an endpoint has the port's SRC. A request from one is answered KEY_MISMATCH or
BAD_DESCRIPTOR where its tenant or operation is not the port's to send; one for this device goes to its home, and any other on to its target. Snoops and responses
for this device reach its agents and its requesters, and others go on. Nothing goes on from an UP port to an UP port: it is discarded and
counted. A management message joins the queue, or is answered NO_SPACE while 256 wait. What one message leads to inside the device is
done before the next arrives. -/
def Obligations.MessagesReachTheirEnds : Prop :=
  (∀ (s : State) (via : SPort), s.pwr.state = .on →
    let p := via.toNat
    (∀ (r : Req) (c : Instr) (op : HomeOp), (c, op) ∈ [(Instr.rdS via r, HomeOp.rdS), (.rdX via r, .rdX), (.upg via r, .upg), (.rdNc via r, .rdNc),
        (.wrC via r, .wrC), (.wrCm via r, .wrCm), (.wrNs via r, .wrNs), (.atAdd via r, .atAdd), (.atSwp via r, .atSwp),
        (.atCas via r, .atCas), (.atMin via r, .atMin), (.atMax via r, .atMax), (.evict via r, .evict)] →
      exec c s = .next (s.recvReq p op r).missesGo.runNet.itemsEnd) ∧
    (∀ (r : Snp) (c : Instr) (op : SnoopOp), (c, op) ∈ [(Instr.snInv via r, SnoopOp.inv), (.snFwdS via r, .fwdS), (.snFwdX via r, .fwdX),
        (.snRecall via r, .recalls), (.snRecallX via r, .recallX)] →
      let q : Snp := { r with requester := s.srcOf p r.requester }
      (r.target.toNat = s.devNo → exec c s = .next (s.agentSnoop op q).missesGo.runNet.itemsEnd) ∧
      (r.target.toNat ≠ s.devNo → exec c s = .next (s.onward p r.target.toNat 0 fun s => s.sendSnp op q).missesGo.runNet.itemsEnd)) ∧
    (∀ (r : Rsp) (c : Instr) (op : BitVec 5), (c, op) ∈ [(Instr.data via r, 0x18), (.cmp via r, 0x19), (.snAck via r, 0x1A),
        (.snData via r, 0x1B), (.wbPull via r, 0x1C), (.wbData via r, 0x1D), (.atData via r, 0x1E)] →
      let d := epDev r.dst
      let l := epLocal r.dst
      (s.isOwn d l = true → exec c s = .next (s.ownRsp op r).missesGo.runNet.itemsEnd) ∧
      (s.isOwn d l = false → exec c s = .next (s.onward p d l fun s => s.routeRsp op r).missesGo.runNet.itemsEnd)) ∧
    (∀ (src : Endpoint) (tag : BitVec 15) (body : MgBody), s.ras.fog = false →
      (s.mgQueue.length < 256 → exec (.mg via src tag body) s =
        .next (({ s with mgQueue := s.mgQueue ++ [(s.srcOf p src, tag, body)] } : State).missesGo.runNet.itemsEnd)) ∧
      (256 ≤ s.mgQueue.length → exec (.mg via src tag body) s =
        .next (s.sendOn p (.mgStatus (BitVec.ofNat 5 p) (s.srcOf p src) tag St.noSpace)).missesGo.runNet.itemsEnd))) ∧
  (∀ (s : State) (p : Nat) (src : Endpoint),
    s.srcOf p src = if s.isEndpoint p then BitVec.ofNat 12 (s.devNo * 64 + p + 1) else src) ∧
  (∀ (s : State) (p : Nat) (op : HomeOp) (r : Req),
    let q : Req := { r with src := s.srcOf p r.src }
    let dest := reqDest q
    let barred := s.isEndpoint p = true ∧ bit (s.reg (R.smfPortTmask p)) q.tenant.toNat = false
    let unfit := s.isEndpoint p = true ∧ endpointMay op = false
    (barred → s.recvReq p op r = s.sendRsp Op.cmp (Rsp.plain q St.keyMismatch)) ∧
    (¬barred → unfit → s.recvReq p op r = s.sendRsp Op.cmp { Rsp.plain q St.badDescriptor with info := 2 }) ∧
    (¬barred → ¬unfit → s.isOwn dest.1 dest.2 = true → q.tgt = false → s.recvReq p op r = s.homeRequest op q none) ∧
    (¬barred → ¬unfit → s.isOwn dest.1 dest.2 = true → q.tgt = true →
      s.recvReq p op r = s.sendRsp Op.cmp { Rsp.plain q St.badDescriptor with info := 2 }) ∧
    (¬barred → ¬unfit → s.isOwn dest.1 dest.2 = false →
      s.recvReq p op r = s.onward p dest.1 dest.2 fun s => s.sendReq op q)) ∧
  (∀ (s : State) (via dev l p : Nat) (send : State → State), s.exitPort dev l = some p →
    (s.isUp via = true ∧ s.isUp p = true → s.onward via dev l send = s.count R.smfRouteErrTotal) ∧
    (¬(s.isUp via = true ∧ s.isUp p = true) → s.onward via dev l send = send s))

/-- R286 to R288, R291, R292, R303: the home's side, outside Fog mode. A request that fails a check is refused with its status, in R303's order, and a refused address with its reason; one that
passes, or is of the device's own functions on its reserved memory, opens a transaction, unless its line, its granule or its directory set
makes it wait. A transaction that awaits nothing more closes: a read of a line nobody holds gives E, of a shared line S
and an exclusive one M with the directory entry to match; a coherent write or atomic empties the entry and writes; a non-snooping write
leaves the directory alone; an EVICT by the owner empties the entry and any other is stale. -/
def Obligations.HomesServeRequests : Prop :=
  (∀ (s : State) (op : HomeOp) (r : Req), s.ras.fog = false →
    let o := r.addr.toNat % 2 ^ 50
    let last := 64 * (reqLines op r).getLastD 0
    let write := op.writes || op == .rdX || op == .upg || (op == .evict && bit r.nl 0)
    let first := s.homeRefuses o r.tenant.toNat r.key write (reqChecked r)
    let then_ := s.homeRefuses last r.tenant.toNat r.key write (reqChecked r)
    let own := reqChecked r = false ∧ inReserved o = true
    let refused (status : Byte) (reason : Nat) : State := s.sendRsp Op.cmp { Rsp.plain r status with info := BitVec.ofNat 64 reason }
    (own → s.homeRequest op r none = s.startReq { op, req := r, host := none }) ∧
    (¬own →
      (first = some .key → s.homeRequest op r none = (s.keyError o r.tenant).sendRsp Op.cmp { Rsp.plain r St.keyMismatch with info := 0 }) ∧
      (first = some .revoked → s.homeRequest op r none = refused St.extentRevoked 0) ∧
      (∀ st, first = some (.other st) → s.homeRequest op r none = refused st 0) ∧
      (∀ a b, first = some (.xlat a b) → s.homeRequest op r none = refused St.badDescriptor a) ∧
      (∀ a b, first = none → then_ = some (.xlat a b) → s.homeRequest op r none = refused St.badDescriptor a) ∧
      (∀ e, first = none → then_ = some e → (∀ a b, e ≠ .xlat a b) → s.homeRequest op r none = refused St.badDescriptor 8) ∧
      (first = none → then_ = none → s.homeRequest op r none = s.startReq { op, req := r, host := none }))) ∧
  (∀ (s : State) (k : Nat) (t : Txn), lget s.txns k = some t → t.awaiting = [] → t.hosts = [] →
    let u := (State.conclude { s with txns := ldel s.txns k } t).wakeBlocks k
    s.closeTxn k = if u.drains.any (fun d => d.covers false 0 (extentOf k)) then u.post .sweep else u) ∧
  (∀ (s : State) (t : Txn), t.poison = false → t.answered = false →
    let line := reqLine t.req
    let dev := epDev t.req.src
    let g := t.req.agent.toNat
    let d := s.dirEntry line
    let clear := t.lines.foldl (fun s l => s.putDir l Dir.none) s
    let sound := (s.homeData line).2 = false
    (t.op = .rdS → s.weightLine line = false → sound →
      (d.state = .i → s.conclude t = (s.putDir line (d.own .e dev g)).answerRead t 2) ∧
      (d.state = .s → t.forwarded = false → s.conclude t = (s.putDir line (d.add dev g)).answerRead t 1)) ∧
    (t.op = .rdX → t.forwarded = false → (sound → s.conclude t = (s.putDir line (d.own .m dev g)).answerRead t 3) ∧
      (¬sound → s.conclude t = clear.answerRead t 0)) ∧
    (t.op = .upg → t.forwarded = false →
      (t.sharer = true → s.conclude t = (s.putDir line (d.own .m dev g)).answer t Op.cmp St.done 0 []) ∧
      (t.sharer = false → sound → s.conclude t = (s.putDir line (d.own .m dev g)).answerRead t 3)) ∧
    (t.op = .wrC ∨ t.op = .wrCm → s.conclude t = (clear.homeWrite t).answer t Op.cmp St.done 0 []) ∧
    (t.op = .wrNs → s.conclude t = (s.homeWrite t).answer t Op.cmp St.done 0 []) ∧
    (t.op.atomic = true → s.conclude t = clear.homeAtomic t) ∧
    (t.op = .evict → d.owner = some (dev, g) → s.conclude t = (s.putDir line Dir.none).answer t Op.cmp St.done 0 []) ∧
    (t.op = .evict → d.owner ≠ some (dev, g) → s.conclude t = s.answer t Op.cmp St.done 0 [] true)) ∧
  (∀ (old x c : Nat) (wide : Bool), let n := if wide then 64 else 32
    atomicNew .atAdd wide false old x c = (old + x) % 2 ^ n ∧ atomicNew .atSwp wide false old x c = x % 2 ^ n ∧
    (old = c % 2 ^ n → atomicNew .atCas wide false old x c = x % 2 ^ n) ∧ (old ≠ c % 2 ^ n → atomicNew .atCas wide false old x c = old) ∧
    (old < 2 ^ n → atomicNew .atMin wide false old x c = min old (x % 2 ^ n) ∧ atomicNew .atMax wide false old x c = max old (x % 2 ^ n)))

/-- R288, R290, R291, R294: a snoop at the gallery it names, and its answer at the home. A gallery that holds the line gives it up, or
keeps it in S, as the snoop asks, and one whose request will bring it holds the owner's snoop, or keeps a line read no longer than it is
needed: SN_INV acknowledges, SN_FWD_S and SN_FWD_X send the line to the requester, SN_RECALL and
SN_RECALL_X to the home. One that holds it nowhere acknowledges. The home takes an answer it awaits off the transaction's list, with the line written
to memory where one came; an owner that has no line leaves it poisoned; any other answer is stray and counted. -/
def Obligations.AgentsAnswerSnoops : Prop :=
  (∀ (s : State) (op : SnoopOp) (r : Snp), let g := r.gallery.toNat
    let line := r.addr.toNat / 64
    let c := s.gline g line
    let keeps : State → State := fun u => u.setGline g line { c with state := .s }
    let drops : State → State := fun u => u.setGline g line CLine.none
    (c.state ≠ .i →
      (op = .inv → s.agentSnoop op r = drops (s.snoopAck r false)) ∧
      (op = .fwdS → c.state = .m → s.agentSnoop op r = keeps ((s.snoopData r c 1).snoopLine r c)) ∧
      (op = .fwdS → c.state ≠ .m → s.agentSnoop op r = keeps ((s.snoopData r c 1).snoopAck r true)) ∧
      (op = .fwdX → s.agentSnoop op r = drops ((s.snoopData r c 3).snoopAck r true)) ∧
      (op = .recalls → s.agentSnoop op r = keeps (s.snoopLine r c)) ∧
      (op = .recallX → s.agentSnoop op r = drops (s.snoopLine r c))) ∧
    (c.state = .i → s.victimLine g line = none → s.requestFor g line = none → s.agentSnoop op r = s.snoopAck r false) ∧
    (∀ v, c.state = .i → s.victimLine g line = some v → v.state = .i → s.agentSnoop op r = s.snoopAck r false) ∧
    (∀ t, c.state = .i → s.victimLine g line = none → s.requestFor g line = some t → r.owner = true → (s.tag t).held = none →
      s.agentSnoop op r = s.setTag t { s.tag t with held := some (op, r) }) ∧
    (∀ t, c.state = .i → s.victimLine g line = none → s.requestFor g line = some t → r.owner = false ∨ (s.tag t).held ≠ none →
      (op ≠ .inv → s.agentSnoop op r = s.snoopAck r false) ∧
      (∀ v slot l, op = .inv → (s.tag t).use = .access v slot l .rdS →
        s.agentSnoop op r = (s.setTag t { s.tag t with noInstall := true }).snoopAck r false))) ∧
  (∀ (s : State) (r : Rsp), let line := r.info.toNat % 2 ^ 50 / 64
    let dev := r.from_.toNat
    let g := r.agent.toNat
    (s.awaited dev g line = none → s.homeAck r = s.count R.smfStrayTotal ∧ s.homeSnData r = s.count R.smfStrayTotal) ∧
    (∀ k t, s.awaited dev g line = some (k, t) →
      (r.fwd = true → s.homeAck r = s.answered k dev g line fun t => { t with forwarded := true }) ∧
      (r.fwd = false → s.isOwner dev g line = true →
        s.homeAck r = ((s.setPoison line true).putDir line Dir.none).answered k dev g line fun t => { t with poison := true }) ∧
      (r.fwd = false → s.isOwner dev g line = false → s.homeAck r = s.answered k dev g line fun t => t) ∧
      s.homeSnData r = (s.takeLine line r).answered k dev g line fun t => { t with forwarded := t.op == .rdS }))

/-- R291, R294, R296: what happens 2 ms after a snoop, an EVICT or a request went out with no answer. A snoop of an owner poisons its line, and one of a
sharer takes it off the entry, with a job-fatal record; a victim is lost, with a job-fatal record; a request completes TIMEOUT: a
voice's access, a host's, an engine's, a message between devices; its tag is quarantined, and free again at the quarantine's end. -/
def Obligations.CoherenceTimersExpire : Prop :=
  (∀ (s : State) (line : BitVec 44) (dev : Dev) (gallery : Gallery),
    let l := line.toNat
    let d := dev.toNat
    let g := gallery.toNat
    (s.awaited d g l = none → exec (.snoopTimeout line dev gallery) s = .next s.runNet) ∧
    (∀ k t, s.awaited d g l = some (k, t) →
      let u := (s.count R.smfSnoopTimeoutTotal).record { ErrRec.plain 4 8 (s.homeDie (l / 1024)) 5 with
        status := St.timeout, tenant := some t.req.tenant, addr := s.fpaOf (64 * l) }
      (u.isOwner d g l = true → exec (.snoopTimeout line dev gallery) s =
        .next (((u.setPoison l true).putDir l Dir.none).answered k d g l fun t => { t with poison := true }).runNet) ∧
      (u.isOwner d g l = false → exec (.snoopTimeout line dev gallery) s =
        .next ((u.setDir l { u.dirEntry l with ptrs := (u.dirEntry l).ptrs.filter (· != (d, g)) }).answered k d g l
          fun t => t).runNet))) ∧
  (∀ (s : State) (tag : BitVec 15), let t := tag.toNat
    let q := s.tag t
    let u := (s.setTag t { ReqTag.free with use := .quarantined }).count R.smfTimeoutTotal
    let late (w : State) : Prop := exec (.remoteRequestTimeout tag) s = .next w.missesGo.runNet.itemsEnd
    (q.use = .free ∨ q.use = .quarantined → late s) ∧
    (q.use = .other → late u) ∧
    (∀ p h, q.use = .host p h → late (u.hostAnswer p.toNat h 0 true false)) ∧
    (∀ e, q.use = .engine e → (e.op.writes = true → late (u.engineWrote e St.timeout 8)) ∧
      (e.op.writes = false → late (u.engineRead e { Rsp.plain e.req St.timeout with tag := BitVec.ofNat 15 t }))) ∧
    (∀ o, q.use = .mg o → late { u with missed := s.missed ++ [o] }) ∧
    (∀ v slot l op, q.use = .access v slot l op → q.held = none →
      (∀ a, u.access v.toNat slot = some a → late ((u.endAccess v.toNat a St.timeout).pumpGallery (galleryOf v.toNat))) ∧
      (u.access v.toNat slot = none → late (u.pumpGallery (galleryOf v.toNat)))) ∧
    (∀ g l op a b c, q.use = .gone g l op a b c → q.held = none → late (u.pumpGallery g)) ∧
    (∀ g l, q.use = .evict g l → late ((State.record { u with victims := ldel u.victims (cacheKey g l) }
        { ErrRec.plain 4 2 g 5 with status := St.timeout, addr := 64 * l }).pumpGallery g)) ∧
    (q.use = .quarantined → exec (.tagQuarantineExpiry tag) s = .next (s.setTag t ReqTag.free)) ∧
    (q.use ≠ .quarantined → exec (.tagQuarantineExpiry tag) s = .next s)) ∧
  (∀ (s : State) (gallery : Gallery) (line : BitVec 50), let g := gallery.toNat
    let l := line.toNat
    ((s.tags.find? fun e => e.2.use == .evict g l) = none → exec (.victimBufferTimeout gallery line) s = .next s.runNet.itemsEnd) ∧
    (∀ e, (s.tags.find? fun e => e.2.use == .evict g l) = some e → s.tag e.1 = e.2 →
      let u := (s.setTag e.1 { ReqTag.free with use := .quarantined }).count R.smfTimeoutTotal
      exec (.victimBufferTimeout gallery line) s =
        .next ((State.record { u with victims := ldel u.victims (cacheKey g l) }
          { ErrRec.plain 4 2 g 5 with status := St.timeout, addr := 64 * l }).pumpGallery g).runNet.itemsEnd))

/-! ## Sharing the pool (R233, R302 to R319) -/

/-- R300, R302, R305 to R310, R318: a POOL descriptor that may start. One that a check ends completes so. MARK makes every extent it names the tenant's, with its key;
GRANT maps them into the port's entries; QUERY writes the bytes of the entries that are its partition's to a host or into the tenant's pool, with free values where another's stand
(R300; log entry 104); REVOKE makes the entries
DRAINING and UNMARK sets DRAIN, and each starts its drain; SETMODE of the mode the port is in is DONE, and any other begins the
switch. -/
def Claims.PoolDescriptorsRun : Prop :=
  ∀ (s : State) (ring : RingId) (pos : Pos) (f : Flight), s.mayStart ring.toNat pos.toNat .pool = some f →
    let r := ring.toNat
    let p := pos.toNat
    let x := s.ring r
    let d := f.desc
    let hp := poolPort d
    let n := poolCount d
    let t := BitVec.ofNat 4 x.tenant
    let passes := s.poolCheck x d = none
    let drain (revoke : Bool) (port first : Nat) : Drain :=
      { ring := BitVec.ofNat 12 r, pos := BitVec.ofNat 32 p, quiet := false, revoke, port := BitVec.ofNat 2 port, first, count := n
        normal := 0, poisoned := 0, sweeping := false }
    (∀ (e : Cpl) (c : Instr) (op : Nat), s.poolCheck x d = some e → (c, op) ∈ [(Instr.mark ring pos, 1), (.unmark ring pos, 2),
        (.grant ring pos, 3), (.revoke ring pos, 4), (.poolQuery ring pos, 5), (.setmode ring pos, 6)] → dOpcode d = op →
      exec c s = .next (s.finish r p e)) ∧
    (passes → dOpcode d = 1 → exec (.mark ring pos) s = .next (((poolMarkList d).foldl (fun s e =>
      s.setMark e { key := BitVec.ofNat 24 (fld d 160 24), tenant := t, valid := true, drain := false }) s).finish r p (Cpl.res St.done 0 0))) ∧
    (passes → dOpcode d = 2 →
      let u := (poolMarkList d).foldl (fun s e => s.setMark e { s.mark e with drain := true }) s
      let v := u.setStage r p .running
      exec (.unmark ring pos) s = .next (State.sweepStart { v with drains := v.drains ++ [drain false 0 (poolExtent d % 2 ^ 20)] }).runNet) ∧
    (passes → dOpcode d = 3 → exec (.grant ring pos) s = .next ((s.updPort hp fun q => (List.range n).foldl (fun q i =>
      q.setExtent (poolFirst d + i) { base := BitVec.ofNat 26 (poolExtent d + i), tenant := t, keysel := BitVec.ofNat 4 (fld d 152 4)
                                      state := 1, w := bit d 156 }) q).finish r p (Cpl.res St.done 0 0))) ∧
    (passes → dOpcode d = 4 →
      let u := s.updPort hp fun q => (poolMapList d).foldl (fun q e => q.setExtent e { q.extent e with state := 2 }) q
      let v := u.setStage r p .running
      exec (.revoke ring pos) s = .next (State.revokesEnd { v with drains := v.drains ++ [drain true hp (poolFirst d)] })) ∧
    (passes → dOpcode d = 5 →
      let shown (n : Nat) (own : Bool) (v : Nat) (i : Nat) (free : List Byte) : List Byte := if own then leBytes n v else slice free (n * i) n
      let items : List (Nat × Bool × Nat) :=
        if poolMarks d then (poolMarkList d).map fun e => (4, !((s.mark e).valid && (s.mark e).tenant.toNat != x.tenant), markNat (s.mark e))
        else (poolMapList d).map fun e => let m := (s.port hp).extent e
          (8, !(m.state != 0 && m.tenant.toNat != x.tenant), extentNat m)
      let size := if poolMarks d then 4 else 8
      let v := if items.any fun e => !e.2.1 then State.drawBytes (size * items.length) s else ([], s)
      let bs : List PByte := (items.zipIdx.map fun e => shown e.1.1 e.1.2.1 e.1.2.2 e.2 v.1).flatten.map (·, false)
      let e : Eng := Eng.func (v.2.frontCache r) x.tenant (.flight (BitVec.ofNat 12 r) (BitVec.ofNat 32 p) 24)
      let out := State.scatter e (pieces bs.length) v.2 (dNum d 24 8) bs
      (fld d 256 2 = 1 → exec (.poolQuery ring pos) s =
        .next ((v.2.hostWriteP (fld d 258 2) (dNum d 24 8) bs).finish r p (Cpl.res St.done n 0))) ∧
      (fld d 256 2 ≠ 1 → out.2.2 = none → exec (.poolQuery ring pos) s = .next (out.1.finish r p (Cpl.res St.done n 0))) ∧
      (∀ a w, fld d 256 2 ≠ 1 → out.2.2 = some (a, w) →
        exec (.poolQuery ring pos) s = .next ((out.1.noteRefusal x.tenant true 0x3FF a w).finish r p (Refuse.cpl 24 w)))) ∧
    (passes → dOpcode d = 6 →
      ((s.port hp).recalls = bit d 157 → exec (.setmode ring pos) s = .next (s.finish r p (Cpl.res St.done 0 0))) ∧
      ((s.port hp).recalls ≠ bit d 157 →
        let u := (s.setStage r p .running).updPort hp fun q => { q with switching := true }
        exec (.setmode ring pos) s = .next { u with modeSwitches := u.modeSwitches ++ [
          { ring := BitVec.ofNat 12 r, pos := BitVec.ofNat 32 p, quiet := false, port := BitVec.ofNat 2 hp, recalls := bit d 157
            drained := false, lines := 0, poisoned := 0 }] }))

/-- R307, R309, R316, R318: a drain ends with its entries cleared, its poisoned requests counted, and DONE with both counts. At its timer's expiry what is
still in flight is poisoned; an UNMARK's sweep recalls what is held, and ends once nothing is. Once its requests have drained, a port
enters recall mode with an empty directory, or stays where it may not (cause 4), or on its way to flush mode back-invalidates every
line on record. -/
def Claims.DrainsAndSwitchesEnd : Prop :=
  (∀ (s : State) (d : Drain), ∃ t : State, s.endDrain d = (if d.quiet then t
      else t.finish d.ring.toNat d.pos.toNat (Cpl.res St.done d.poisoned d.normal)) ∧
    (∀ e ∈ t.drains, ¬(e.ring = d.ring ∧ e.pos = d.pos)) ∧ t.regs = (s.count R.poolPoisonTotal d.poisoned).regs ∧
    (d.revoke = false → ∀ i < d.count, t.mark (d.first + i) = Mark.none) ∧
    (d.revoke = true → ∀ i < d.count, (t.port d.port.toNat).extent (d.first + i) = Extent.none) ∧
    KeepsBut [.drains, .marks, .ports, .regs] s t) ∧
  (∀ (s : State) (ring : RingId) (pos : Pos), let own (d : Drain) : Bool := d.ring.toNat == ring.toNat && d.pos.toNat == pos.toNat
    (s.drains.find? own = none → exec (.revokeTimerExpiry ring pos) s = .next s) ∧
    (∀ d, s.drains.find? own = some d → d.revoke = true →
      let l := (s.port d.port.toNat).inflight.filter fun q => !q.dead && d.covers true d.port.toNat q.entry
      exec (.revokeTimerExpiry ring pos) s =
        .next ((l.foldl (fun s q => s.poisonHost d.port.toNat q) s).revokesEnd).runNet) ∧
    (∀ d, s.drains.find? own = some d → d.revoke = false →
      let ks := (s.txns.filter fun e => reqChecked e.2.req && !e.2.answered && d.covers false 0 (extentOf e.1)).map Prod.fst
      let ws := (s.homeWaits.map Prod.snd).flatten.filter fun w => reqChecked w.req && d.covers false 0 (extentOf (reqLine w.req))
      exec (.revokeTimerExpiry ring pos) s =
        .next (ws.foldl State.poisonWait (ks.foldl State.poisonTxn s)).sweepStart.runNet) ∧
    (∀ d, s.sweepStart.runNet.drains.find? own = some d → d.revoke = false → d.sweeping = true →
      let u := s.sweepStart.runNet
      let v := ((u.dir.filter fun e => d.covers false 0 (extentOf e.1)).foldl (fun s e => s.recallLine e.1) u).runNet
      let clean := (v.dir.any fun e => d.covers false 0 (extentOf e.1)) = false ∧ (v.txns.any fun e => d.covers false 0 (extentOf e.1)) = false
      (clean → exec (.directorySweepComplete ring pos) s = .next (v.endDrain d).runNet) ∧
      (¬clean → exec (.directorySweepComplete ring pos) s = .next v))) ∧
  (∀ (s : State) (port : Port) (m : ModeSwitch), (s.modeSwitches.find? fun m => m.port.toNat == port.toNat) = some m →
    let p := port.toNat
    m.drained = false → (s.port p).inflight.all HostReq.dead = true →
    (m.recalls = true → s.recallOk p = true → exec (.setmodeDrained port) s =
      .next ((s.updPort p fun q => { q with hdir := [], hdirSeq := 0 }).modeEnd m true (Cpl.res St.done 0 0))) ∧
    (m.recalls = true → s.recallOk p = false → exec (.setmodeDrained port) s = .next (s.modeEnd m false (Cpl.why St.notOwner 4))) ∧
    (m.recalls = false →
      let u := s.updMode p fun n => { n with drained := true, lines := (s.port p).hdir.length }
      exec (.setmodeDrained port) s = .next (((s.port p).hdir.foldl (fun s e => s.sendBi p e.1 false) u).modeCheck p)))

/-- R300, R302, R305 to R310, R307, R309, R316, R318: POOL descriptors, drains and switches of mode. -/
def Obligations.PoolSharingRuns : Prop :=
  Claims.PoolDescriptorsRun ∧ Claims.DrainsAndSwitchesEnd


/-- R27, R233, R303, R312, R313, R316, R317, R376: a host's accesses, while the device is on and its link up. A CXL.mem request is
admitted where none waits before it, a tag is free, its port is not switching or fenced, and its bucket holds 64 bytes, which it takes, and its host then gets its credit back; any other
waits, and where it waits for tokens the port is throttled and every request counts that had not waited for them before. The oldest that waits is admitted when it may be. A request
outside every committed decoder and mapped, writable entry is refused; a Back-Invalidate's answer writes what the host had changed,
and one that never comes poisons a line the host held exclusive, with a job-fatal record. A decoder commits with the settings the
device supports and else reports its error; a configuration request is answered, with what R27 fixes of it (in PCIe's encodings, log entry 203) or a
free value, and with Retry Status while the device has no identity. -/
def Obligations.HostAccessesAreServed : Prop :=
  (∀ (s : State) (port : Port) (hpa : Word) (copy : BitVec 2) (data : Line) (tag : BitVec 16) (c : Instr) (w : HostWait),
    s.pwr.state = .on → s.hostThere port.toNat = true → (s.port port.toNat).link = .up →
    (c, w) ∈ [(Instr.cxlMemRead port hpa copy tag, { hpa, write := false, copy, data := 0, tag }),
      (.cxlMemWrite port hpa data tag, { hpa, write := true, copy := 0, data, tag })] →
    let p := port.toNat
    let q := s.port p
    let admitted (s : State) : State := let s := s.emit (.cxlCredit (BitVec.ofNat 2 p))
      if s.limited p then s.updPort p fun q => { q with tokens := q.tokens - 64 } else s
    (q.waiting = [] → s.canAdmit p = true → exec c s = .next ((admitted s).cxlGo p w).runNet) ∧
    (q.waiting ≠ [] ∨ s.canAdmit p = false →
      let u := s.updPort p fun q => { q with waiting := q.waiting ++ [w] }
      (q.switching = true ∨ s.fenced 7 p = true ∨ s.limited p = false ∨ 64 ≤ q.tokens → exec c s = .next u) ∧
      (q.switching = false → s.fenced 7 p = false → s.limited p = true → q.tokens < 64 → exec c s =
        .next ((u.updPort p fun q => { q with throttled := true, counted := q.waiting.length }).count (R.poolThrottleTotal p)
          (q.waiting.length + 1 - q.counted)))) ∧
    (∀ v rest, q.waiting = v :: rest →
      let u := s.updPort p fun q => { q with waiting := rest, counted := q.counted - 1 }
      (s.canAdmit p = true → exec (.tokenAdmit port) s = .next (((admitted u).cxlGo p v).runNet.tokenWait p)) ∧
      (s.canAdmit p = false → exec (.tokenAdmit port) s = .next (s.tokenWait p))) ∧
    (q.counted = 0 ∨ s.limited p = false →
      exec (.throttleHoldExpiry port) s = .next (s.updPort p fun q => { q with throttled := false }))) ∧
  (∀ (s : State) (p : Nat) (w : HostWait), s.cxlRoute p w = none → s.cxlGo p w =
    (s.count (R.poolRefusedTotal p)).emit (if w.write then .cxlDone (BitVec.ofNat 2 p) w.tag else .cxlData (BitVec.ofNat 2 p) w.tag 0 true)) ∧
  (∀ (s : State) (port : Port) (line : BitVec 44) (b : BackInv), let p := port.toNat
    let l := line.toNat
    ((s.port p).bis.find? fun b => b.line == l) = some b →
    (∀ data, exec (.birsp port line false data) s = .next (s.biOver p b b.keep)) ∧
    (∀ data, let u := if s.meetsRegion (64 * l) 64 then s else s.poolWrite (64 * l) (lineBytes data)
      exec (.birsp port line true data) s = .next ((if (s.txnOn l).isSome then u else u.recallLine l).biOver p b b.keep)) ∧
    (let u := (s.count R.poolBiTimeoutTotal).record { ErrRec.plain 4 7 p 5 with status := St.timeout, addr := s.fpaOf (64 * l) };
      let v := (u.setPoison l true).updMode p fun m => if m.drained then { m with poisoned := m.poisoned + 1 } else m
      exec (.backInvalidateTimeout port line) s = .next ((if b.exclusive then v else u).biOver p b false))) ∧
  (∀ (s : State) (port : Port), s.pwr.state = .on → s.hostThere port.toNat = true → (s.port port.toNat).link = .up →
    let p := port.toNat
    (∀ (decoder : BitVec 4) (base size : Word) (ways : BitVec 4) (bi commit : Bool),
      let ok := ways.toNat == 1 && base.toNat % 2 ^ 30 == 0 && size.toNat % 2 ^ 30 == 0 && decide (size.toNat ≤ 2 ^ 46)
      exec (.hdmDecoderCommit port decoder base size ways bi commit) s = .next (s.updPort p fun q => { q with
        decoders := tput (fun _ => Decoder.off) q.decoders decoder.toNat
          { base, size, committed := commit && ok, error := commit && !ok, bi } })) ∧
    (∀ on, exec (.hostConfigRequest port (.busMaster on)) s =
      .next ((s.updPort p fun q => { q with busMaster := on }).emit (.cfgDone port 0))) ∧
    (∀ item v, configFixed item = some v → exec (.hostConfigRequest port (.read item)) s = .next (s.emit (.cfgDone port v))) ∧
    (∀ off, exec (.hostConfigRequest port (.read (.reg off))) s =
      .next (State.emit { s with free := s.free + 1 } (.cfgDone port ((Config.freeWord s.free).setWidth 32)))) ∧
    configFixed .maxPayload = some 2 ∧ configFixed .maxReadRequest = some 5 ∧ configFixed .timeoutRanges = some 1 ∧
    configFixed .timeoutDisable = some 0 ∧ configFixed .unsupported = some 0) ∧
  (∀ (s : State) (port : Port) (req : CfgReq), s.pwr.state = .boot → s.hostThere port.toNat = true → (s.port port.toNat).link = .up →
    exec (.hostConfigRequest port req) s = .next (s.emit (.cfgRetry port)))

/-! ## The Keeper (R320 to R341, R388, R389) -/

/-- R322, R325, R329, R330, R337 to R341, R388, R389: KPR_CMD through an open port. A command while another runs is refused with set-up error 4. Otherwise it is in
progress with its result: NOT_OWNER where the port does not control the partition it concerns (for SEAL, FW_STAGE and COMMIT_SVN
partition 0: DEDUCED, see the log). SEAL, once, makes the device sealed and its TAP locked, measures the set-up and applies the enables;
ANCHOR sets the staged anchor of a partition with no keys that is not switching; SWITCH scrubs its partition; FW_STAGE writes the pair of
images in the pool at its arguments, where both pass, to the copy that did not boot (whether a signature verifies is the command's operand,
log entry 7); COMMIT_SVN raises the fuses to the running image's version, and never lowers them. A command
that waits for nothing completes with its result for its port. The mailbox takes a packet of 1 to 1,024 bytes while the last was read, and
gives its answer up when acknowledged. -/
def Claims.KeeperCommandsRun : Prop :=
  (∀ (s : State) (port : Port) (t : Tenant) (erase : Bool) (keeper core : Bool), s.openTo port.toNat →
    let p := port.toNat
    let n := t.toNat
    let takes (c : Instr) (u : State) (result : Byte) (waits : Bool) : Prop :=
      exec c s = .next { u with keeper := { u.keeper with cmd := some { port, result, waits } } }
    let idle := s.keeper.cmd = none
    let zero := s.controls p 0 = true
    let own := s.controls p n = true
    (¬idle → ∀ c ∈ [Instr.sealKeeper port, .anchor port t, .switch port t erase, .fwStage port keeper core, .commitSvn port],
      exec c s = .next (s.setupError p R.kprCmd 4)) ∧
    (idle → ¬zero → ∀ c ∈ [Instr.sealKeeper port, .fwStage port keeper core, .commitSvn port], takes c s St.notOwner false) ∧
    (idle → ¬own → ∀ c ∈ [Instr.anchor port t, .switch port t erase], takes c s St.notOwner false) ∧
    (idle → zero → s.keeper.sealed = true → takes (.sealKeeper port) s St.badDescriptor false) ∧
    (idle → zero → s.keeper.sealed = false →
      let u : State := { s with
        keeper := { s.keeper with sealed := true, tapLocked := true, measConfig := Config.sha384 s.configStream }
        pwr := { s.pwr with tap := s.pwr.tap.locked } }
      takes (.sealKeeper port) (u.applyEnables s).advanceMgen St.done false) ∧
    (idle → own → (s.part n).keys ≠ [] ∨ (s.part n).switching = true → takes (.anchor port t) s St.badDescriptor false) ∧
    (idle → own → (s.part n).keys = [] → (s.part n).switching = false →
      takes (.anchor port t) (s.updPart n fun x => { x with anchored := true, anchor := s.stagedAnchor p }).advanceMgen St.done false) ∧
    (idle → own → (s.part n).switching = true → takes (.switch port t erase) s St.badDescriptor false) ∧
    (idle → own → (s.part n).switching = false → takes (.switch port t erase) (s.scrub n erase) St.done true) ∧
    (idle → zero →
      let off := (s.reg (stageOff p (R.kprArg 0))).toNat
      let len := (s.reg (stageOff p (R.kprArg 1))).toNat
      let pair := pairOf (s.poolRead off (min len (16 * 2 ^ 20)))
      let k : Image := { genuine := keeper, bytes := pair.1 }
      let c : Image := { genuine := core, bytes := pair.2 }
      let sound := off % 4096 = 0 ∧ len ≤ 16 * 2 ^ 20 ∧ imageOk false k s.nvm.fuseSvn = true ∧ imageOk true c s.nvm.fuseSvn = true
      (¬sound → takes (.fwStage port keeper core) s St.badDescriptor false) ∧
      (sound → takes (.fwStage port keeper core) { s with
        nvm := if s.keeper.copyB then { s.nvm with keeperA := k, coreA := c } else { s.nvm with keeperB := k, coreB := c }
        keeper := { s.keeper with stagedSvn := svnOf k.bytes } } St.done false)) ∧
    (idle → zero → takes (.commitSvn port) { s with nvm := { s.nvm with
      fuseSvn := if s.nvm.fuseSvn.toNat < s.keeper.svn.toNat then s.keeper.svn else s.nvm.fuseSvn } } St.done false)) ∧
  (∀ (s : State) (c : KprCmd), s.keeper.cmd = some c →
    (c.waits = true → exec .kprCommandComplete s = .next s) ∧
    (c.waits = false → exec .kprCommandComplete s = .next (State.vectorH0 { s with keeper := { s.keeper with
      cmd := none, last := tput (fun _ => 0) s.keeper.last c.port.toNat c.result } } R.kprVector))) ∧
  (∀ (s : State) (port : Port) (len : BitVec 32), s.openTo port.toNat →
    let n := fld len 0 11
    (s.keeper.mbxBusy = true → exec (.mailboxSend port len) s = .next (s.setupError port.toNat R.kprMbxTxLen 5)) ∧
    (s.keeper.mbxBusy = false → n = 0 ∨ 1024 < n → exec (.mailboxSend port len) s = .next (s.setupError port.toNat R.kprMbxTxLen 2)) ∧
    (s.keeper.mbxBusy = false → 0 < n → n ≤ 1024 → exec (.mailboxSend port len) s =
      .next (State.setReg { s with keeper := { s.keeper with mbxBusy := true } } R.kprMbxTxLen (BitVec.ofNat 64 n))) ∧
    (bit len 0 = true → s.keeper.mbxRest = [] → exec (.mailboxRxAck port len) s =
      .next (State.setReg { s with keeper := { s.keeper with mbxFull := false } } R.kprMbxRxLen 0)) ∧
    (bit len 0 = true → s.keeper.mbxFull = true → s.keeper.mbxRest ≠ [] → ∃ t : State, exec (.mailboxRxAck port len) s = .next t ∧
      t.keeper.mbxFull = true ∧ t.keeper.mbxRest = s.keeper.mbxRest.drop 1024 ∧
      t.reg R.kprMbxRxLen = BitVec.ofNat 64 (min 1024 s.keeper.mbxRest.length + 2 ^ 31)) ∧
    (bit len 0 = false → exec (.mailboxRxAck port len) s = .next s))

/-- R338 to R340: what a switch scrubs and how it ends. No line of the partition keeps its data in a gallery's cache, its victim buffer or its
atomic buffer. When the switch completes the partition has no model key, counts one more switch, and with ERASE has a fresh key and no
anchor; the measurement generation advances for each key destroyed, each region no longer VALID and the switch; the command that began it waits no longer, and no other partition's record changes. -/
def Claims.SwitchesScrubAndEnd : Prop :=
  (∀ (s : State) (t : Tenant), let u := s.scrubCaches t
    (∀ e ∈ u.abuf, e.2.tenant ≠ t) ∧ (∀ e ∈ u.victims, e.2.tenant = t → e.2.data = 0) ∧
    (∀ g l, (u.gline g l).tenant = t → (u.gline g l).data = 0)) ∧
  (∀ (s : State) (t : Tenant), (s.part t.toNat).switching = true → ∃ u : State, exec (.switchComplete t) s = .next u ∧
    (u.part t.toNat).keys = [] ∧ (u.part t.toNat).switching = false ∧
    (u.part t.toNat).switches.toNat = min (2 ^ 32 - 1) ((s.part t.toNat).switches.toNat + 1) ∧
    ((s.part t.toNat).erase = true → (u.part t.toNat).anchored = false ∧ (u.part t.toNat).anchor = 0 ∧
      (u.part t.toNat).keyGen = (s.part t.toNat).keyGen + 1) ∧
    ((s.part t.toNat).erase = false → (u.part t.toNat).anchored = (s.part t.toNat).anchored ∧
      (u.part t.toNat).anchor = (s.part t.toNat).anchor ∧ (u.part t.toNat).keyGen = (s.part t.toNat).keyGen) ∧
    (∀ v, v ≠ t.toNat → u.part v = s.part v) ∧
    (s.ras.resetWaits = false → u.reg R.kprMgen = s.reg R.kprMgen + BitVec.ofNat 64 (1 + (s.part t.toNat).keys.length +
      ((s.boundRegions t.toNat none).filter s.regionValid).length)) ∧ (∀ c, u.keeper.cmd = some c → c.waits = false))

/-- R322, R325, R329, R330, R337 to R341, R338 to R340, R388, R389: The Keeper's commands, and the partition switch. -/
def Obligations.KeeperCommandsAndSwitches : Prop :=
  Claims.KeeperCommandsRun ∧ Claims.SwitchesScrubAndEnd


/-- R327, R341: management messages over a binding that is up. An endpoint ID other than 0 and 0xFF is taken and reported; the
supported message types are 0, 1, 5 and 6; an unknown type has completion code 0x80 and an unknown command code 5. A PLDM request is
answered with the sensor's register, where it has one. (The bodies' form is the model's choice, log entry 20.) -/
def Claims.ManagementMessagesAreAnswered : Prop :=
  ∀ (s : State) (binding : BitVec 3), let b := binding.toNat
    s.bindingUp b = true →
    (∀ eid : Byte,
      (eid = 0 ∨ eid = 0xFF → exec (.setEndpointId binding eid) s = .next (s.say b [0, 1, 2])) ∧
      (eid ≠ 0 → eid ≠ 0xFF → exec (.setEndpointId binding eid) s = .next (State.say { s with
        keeper := { s.keeper with eids := tput (fun _ => 0) s.keeper.eids b eid } } b [0, 1, 0, 0, eid, 0]))) ∧
    exec (.getEndpointId binding) s = .next (s.say b [0, 2, 0, s.eid b, 0, 0]) ∧
    exec (.getMessageTypeSupport binding) s = .next (s.say b [0, 5, 0, 4, 0, 1, 5, 6]) ∧
    (∀ msgType : Byte,
      (msgType ∈ ([0, 1, 5, 6, 0xFF] : List Byte) → exec (.getMctpVersionSupport binding msgType) s =
        .next (s.say b ([0, 4, 0] ++ Config.pldmBody [4, msgType] []))) ∧
      (msgType ∉ ([0, 1, 5, 6, 0xFF] : List Byte) → exec (.getMctpVersionSupport binding msgType) s = .next (s.say b [0, 4, 0x80]))) ∧
    (∀ command : Byte, command ∉ ([1, 2, 4, 5] : List Byte) →
      exec (.unsupportedMctpCommand binding command) s = .next (s.say b [0, command, 5])) ∧
    (∀ (sensor : BitVec 16) (body : List Byte), exec (.pldmRequest binding sensor body) s =
      .next (s.say b (0x01 :: Config.pldmBody body (match sensorReg sensor.toNat with
        | some off => leBytes 4 (s.reg off).toNat
        | none => [])))) ∧
    (b = mailboxBinding → ∀ bytes, (s.say b bytes).keeper.mbxFull = true ∧ (s.say b bytes).keeper.mbxBusy = false) ∧
    (b ≠ mailboxBinding → ∀ bytes, s.say b bytes = s.emit (.mctp binding bytes))

/-- R324, R326, R328: SPDM requests over a binding that is up. Each is answered once the connection has come as far as it needs, and else
with the error for an unexpected request; GET_VERSION starts the connection afresh, capabilities and algorithms carry it on; only slot 0
holds certificates, the chain in flash; CHALLENGE, KEY_EXCHANGE and signed measurements are signed with the identity key; KEY_EXCHANGE opens the lowest of four sessions; FINISH that verifies makes it finished, with the requester's root
where it was mutual, and one that does not ends it; END_SESSION ends it. A measurement with the report counts it, and a signed one of index 0xF0 within a
session notes its time and generation. Large messages go in chunks. (Error codes and bodies are the model's choice, log entry 20.) -/
def Claims.SpdmRequestsAreAnswered : Prop :=
  (∀ (s : State) (binding : BitVec 3) (body : List Byte), let b := binding.toNat
    let n := s.conn b
    let unexpected : Host.Outcome State Fault Refusal := .next (s.spdmFail b 4)
    s.bindingUp b = true →
    exec (.getVersion binding body) s = .next ((((s.setConn b 1).setChunkIn b []).setChunkOut b []).spdmSay b 5 (Config.spdmBody 0x84 body [])) ∧
    (n < 1 → exec (.getCapabilities binding body) s = unexpected) ∧
    (1 ≤ n → exec (.getCapabilities binding body) s = .next ((s.setConn b (max 2 n)).spdmSay b 5 (Config.spdmBody 0xE1 body []))) ∧
    (n < 2 → ∀ common, exec (.negotiateAlgorithms binding body common) s = unexpected) ∧
    (2 ≤ n → exec (.negotiateAlgorithms binding body true) s = .next ((s.setConn b 3).spdmSay b 5 (Config.spdmBody 0xE3 body [])) ∧
      exec (.negotiateAlgorithms binding body false) s = .next (s.spdmFail b 1)) ∧
    (n < 3 → ∀ (slot handle : Byte) (seq : BitVec 16) (last : Bool), ∀ c ∈ [Instr.getDigests binding body, .getCertificate binding slot body,
        .challenge binding slot body, .keyExchange binding body, .chunkSend binding handle seq last body,
        .chunkGet binding handle seq], exec c s = unexpected) ∧
    (3 ≤ n → exec (.getDigests binding body) s = .next (s.spdmSay b 5 (Config.spdmBody 0x81 body s.nvm.chain)) ∧
      exec (.getCertificate binding 0 body) s = .next (s.spdmSay b 5 (Config.spdmBody 0x82 body s.nvm.chain)) ∧
      exec (.challenge binding 0 body) s = .next (s.spdmSay b 5 (Config.spdmSigned s.identity 0x83 body s.nvm.chain)) ∧
      (∀ slot : Byte, slot ≠ 0 → exec (.getCertificate binding slot body) s = .next (s.spdmFail b 1) ∧
        exec (.challenge binding slot body) s = .next (s.spdmFail b 1)) ∧
      (∀ i < 4, s.spdm i = none → (∀ j < i, s.spdm j ≠ none) → exec (.keyExchange binding body) s =
        .next ((s.setSpdm i { binding := b, finished := false, mutually := false, root := 0, report := none }).spdmSay b 5
          (Config.spdmSigned s.identity 0xE4 body [BitVec.ofNat 8 i]))) ∧
      ((∀ i < 4, s.spdm i ≠ none) → exec (.keyExchange binding body) s = .next (s.spdmFail b 0x0A)) ∧
      (∀ (handle : Byte) (seq : BitVec 16) (last : Bool), exec (.chunkSend binding handle seq last body) s =
        .next ((s.setChunkIn b (if last then [] else (if seq.toNat = 0 then [] else tget (fun _ => []) s.keeper.chunkIn b) ++ body)).spdmSay
          b 5 (Config.spdmBody 0x85 [BitVec.ofNat 8 handle.toNat, BitVec.ofNat 8 seq.toNat] []))) ∧
      (∀ (handle : Byte) (seq : BitVec 16), let whole := tget (fun _ => []) s.keeper.chunkOut b
        let k := seq.toNat
        (whole.length ≤ 1024 * k → exec (.chunkGet binding handle seq) s = .next (s.spdmFail b 1)) ∧
        (1024 * k < whole.length → exec (.chunkGet binding handle seq) s =
          .next ((if whole.length ≤ 1024 * (k + 1) then s.setChunkOut b [] else s).say b (5 :: Config.spdmBody 0x86
            [BitVec.ofNat 8 handle.toNat, BitVec.ofNat 8 k] (slice whole (1024 * k) (min 1024 (whole.length - 1024 * k)))))))) ∧
    (3 ≤ n → ∀ (index : Byte) (signed : Bool), s.measurement index.toNat = none →
      exec (.getMeasurements binding none index signed body) s = .next (s.say b [5, 0x13, 0x7F, 1, 0])) ∧
    (3 ≤ n → ∀ (index : Byte) (signed : Bool) (content : List Byte), s.measurement index.toNat = some (content, false) →
      let request := BitVec.ofNat 8 index.toNat :: (if signed then 1 else 0) :: body
      exec (.getMeasurements binding none index signed body) s = .next (s.spdmSay b 5
        (if signed then Config.spdmSigned s.identity 0xE0 request content else Config.spdmBody 0xE0 request content)))) ∧
  (∀ (s : State) (session : BitVec 2) (x : Spdm), let i := session.toNat
    s.spdm i = some x → s.bindingUp x.binding = true →
    (∀ (mutually : Bool) (root : BitVec 384),
      (x.finished = false → exec (.finish session mutually root true) s =
        .next ((s.setSpdm i { x with finished := true, mutually, root := if mutually then root else 0 }).spdmSay x.binding 6
          (Config.spdmBody 0xE5 [] []))) ∧
      (x.finished = false → exec (.finish session mutually root false) s = .next ((s.dropSpdm i).say x.binding [6, 0x13, 0x7F, 6, 0]))) ∧
    (x.finished = true → ∀ body : List Byte,
      exec (.heartbeat session) s = .next (s.spdmSay x.binding 6 (Config.spdmBody 0xE8 [] [])) ∧
      exec (.keyUpdate session body) s = .next (s.spdmSay x.binding 6 (Config.spdmBody 0xE9 body [])) ∧
      exec (.endSession session) s = .next ((s.spdmSay x.binding 6 (Config.spdmBody 0xEC [] [])).dropSpdm i) ∧
      (∀ (binding : BitVec 3) (index : Byte) (signed : Bool), index = 0xF0 ∨ index = 0xFF →
        ∃ t : State, exec (.getMeasurements binding (some session) index signed body) s = .next t ∧
        t.keeper.reports = s.keeper.reports + 1 ∧
        (signed = true → index = 0xF0 → t.spdm i = some { x with report := some (s.time, s.reg R.kprMgen) }) ∧
        (signed = false ∨ index = 0xFF → t.spdm i = some x))) ∧
    (x.finished = false → ∀ body : List Byte, ∀ c ∈ [Instr.heartbeat session, .keyUpdate session body, .endSession session],
      exec c s = .next (s.say x.binding [6, 0x13, 0x7F, 4, 0])))

/-- R324, R326, R327, R328, R341: What the Keeper answers. -/
def Obligations.KeeperAnswers : Prop :=
  Claims.ManagementMessagesAreAnswered ∧ Claims.SpdmRequestsAreAnswered


/-- R331, R332: model keys, in a finished session over a binding that is up. The status of KEY_INSTALL is the first of BAD_DESCRIPTOR, FOG, STOPPED,
NOT_OWNER and STALE_VERSION that applies, and else DONE, when the slot holds the key and the measurement generation advances. KEY_DESTROY of a partition's owner erases the
slot's key, no region it opened stays VALID, and the measurement generation advances for each. Either is answered with its status, and changes no other slot. -/
def Obligations.ModelKeysInstallAndErase : Prop :=
  ∀ (s : State) (session : BitVec 2) (payload : List Byte) (x : Spdm), s.spdm session.toNat = some x → x.finished = true →
    s.bindingUp x.binding = true →
    let t := keyTenant payload
    let k := keySlot payload
    let bad := keyBad 1 40 payload = true ∨ (s.part t).key k ≠ none
    let fog := s.ras.fog = true
    let stopped := (s.part t).switching = true
    let owner := s.keyOwner x t = true
    let fresh := s.freshReport x = true
    let key : ModelKey := { key := BitVec.ofNat 256 (numAt payload 8 32), pfx := BitVec.ofNat 32 (numAt payload 4 4) }
    let installs (u : State) (st : Byte) : Prop := exec (.keyInstall session payload) s =
      .next (u.spdmSay x.binding 6 (Config.spdmBody 0xFE [1, st] []))
    (bad → installs s St.badDescriptor) ∧ (¬bad → fog → installs s St.fog) ∧ (¬bad → ¬fog → stopped → installs s St.stopped) ∧
    (¬bad → ¬fog → ¬stopped → ¬owner → installs s St.notOwner) ∧
    (¬bad → ¬fog → ¬stopped → owner → ¬fresh → installs s St.staleVersion) ∧
    (¬bad → ¬fog → ¬stopped → owner → fresh → installs (s.updPart t fun y => { y with keys := lput y.keys k key }).advanceMgen St.done) ∧
    (keyBad 2 4 payload = true → exec (.keyDestroy session payload) s =
      .next (s.spdmSay x.binding 6 (Config.spdmBody 0xFE [2, St.badDescriptor] []))) ∧
    (keyBad 2 4 payload = false → ¬owner → exec (.keyDestroy session payload) s =
      .next (s.spdmSay x.binding 6 (Config.spdmBody 0xFE [2, St.notOwner] []))) ∧
    (keyBad 2 4 payload = false → owner → ∃ u : State, exec (.keyDestroy session payload) s =
        .next (u.spdmSay x.binding 6 (Config.spdmBody 0xFE [2, St.done] [])) ∧ (u.part t).key k = none ∧
      (∀ j, j ≠ k → (u.part t).key j = (s.part t).key j) ∧ (∀ v, v ≠ t → u.part v = s.part v) ∧
      (∀ r < 64, u.regionValid r = true → u.regionTenant r = t → u.regionKey r ≠ k) ∧
      u.reg R.kprMgen = s.reg R.kprMgen + BitVec.ofNat 64 (((s.boundRegions t (some k)).filter s.regionValid).length +
        (if ((s.part t).key k).isSome then 1 else 0)) ∧ KeepsBut [.regs, .blocks, .keeper] s u)

/-! ## Errors, resets and fences (R342 to R359) -/

/-- R343, R346, R348, R349, R359: an error takes the next SEQ and leaves its record; below contained severity nothing becomes pending. One of contained
severity or above becomes pending where none is, else promotes a pending one that is not above it, to device-fatal where either is and
else to job-fatal, else joins a queue of up to 8; a job-fatal one, or one that promotes to job-fatal, starts job halt. RAS_ACK through an open port that controls partition 0, with the pending SEQ, makes the oldest
queued error pending, and with any other is set-up error 9. RAS_INJECT records an injected error of severity 2 to 4 in a class from 1 to 9, and any other is set-up error 2. The
log's base takes the records held on die. -/
def Obligations.ErrorsPendAndQueue : Prop :=
  (∀ (s : State) (e : ErrRec), let t := s.recordOne e
    t.ras.seq = s.ras.seq + 1 ∧ KeepsBut [.out, .regs, .ports, .pool, .poison, .lineKey, .granules, .ras] s t ∧
    (e.severity < 3 → t.ras.pending = s.ras.pending ∧ t.ras.queue = s.ras.queue ∧ t.ras.jobHalt = s.ras.jobHalt) ∧
    (e.severity = 4 → t.ras.jobHalt = true) ∧ (e.severity = 5 → t.ras.jobHalt = s.ras.jobHalt) ∧
    (3 ≤ e.severity → s.ras.pending = none →
      t.ras.pending = some { seq := s.ras.seq, severity := e.severity } ∧ t.ras.queue = s.ras.queue) ∧
    (∀ p, 3 ≤ e.severity → s.ras.pending = some p → p.severity ≤ e.severity → (e.severity < 5 → t.ras.jobHalt = true) ∧ t.ras.queue = s.ras.queue ∧
      t.ras.pending = some { seq := p.seq, severity := if e.severity = 5 ∨ p.severity = 5 then 5 else 4 }) ∧
    (∀ p, 3 ≤ e.severity → s.ras.pending = some p → e.severity < p.severity → t.ras.pending = some p ∧
      t.ras.queue = if s.ras.queue.length < 8 then s.ras.queue ++ [{ seq := s.ras.seq, severity := e.severity }] else s.ras.queue)) ∧
  (∀ (s : State) (port : Port), s.openTo port.toNat → s.controls port.toNat 0 = true →
    let p := port.toNat
    (∀ seq, (∀ e, s.ras.pending = some e → e.seq ≠ seq) → exec (.rasAck port seq) s = .next (s.setupError p R.rasAck 9)) ∧
    (∀ e, s.ras.pending = some e → s.ras.queue = [] →
      exec (.rasAck port e.seq) s = .next { s with ras := { s.ras with pending := none } }) ∧
    (∀ e f rest, s.ras.pending = some e → s.ras.queue = f :: rest → exec (.rasAck port e.seq) s =
      .next (State.vectorH0 { s with ras := { s.ras with pending := some f, queue := rest } } R.rasVector)) ∧
    (∀ value : BitVec 32, let cls := fld value 0 8
      let sev := fld value 24 3
      let sound := 2 ≤ sev ∧ sev ≤ 4 ∧ 1 ≤ cls ∧ cls ≤ 9
      (sound → exec (.rasInject port value) s =
        .next (s.record { ErrRec.plain sev cls (fld value 8 16) (if sev = 2 then 1 else 2) with injected := true })) ∧
      (¬sound → exec (.rasInject port value) s = .next (s.setupError p R.rasInject 2))) ∧
    (∀ value : Word, let u := s.setReg R.rasLogBase (BitVec.ofNat 64 (value.toNat / 4096 * 4096))
      exec (.rasLogBaseWrite port value) s =
        .next (s.ras.buffer.foldl State.logRecord { u with ras := { u.ras with baseWritten := true, buffer := [] } })))

/-- R340, R353 to R355: RAS_CMD through an open port that controls partition 0. JOB_RESET while one is busy is set-up error 4; otherwise it is
busy, and begins at once unless a partition switches. It completes once no ring has anything in progress: every error is acknowledged, job halt ends,
buffers, translations and the step buffer are empty, every fence has seen a reset, and the rotation stops. FOG stops the rotation and
every clause, drops what is in progress, and ends every descriptor with FOG; when its entry is complete its advisory record is written and it is no longer entering. -/
def Obligations.JobResetAndFogRun : Prop :=
  (∀ (s : State) (port : Port), s.openTo port.toNat → s.controls port.toNat 0 = true →
    let waits := (List.range 16).any fun t => (s.part t).switching
    let u : State := { s with ras := { s.ras with resetBusy := true, resetDone := false, resetWaits := waits } }
    (s.ras.resetBusy = true → exec (.jobReset port) s = .next (s.setupError port.toNat R.rasCmd 4)) ∧
    (s.ras.resetBusy = false → waits = true → exec (.jobReset port) s = .next u) ∧
    (s.ras.resetBusy = false → waits = false → exec (.jobReset port) s = .next u.resetBegin) ∧
    (let v : State := { s with ras := { s.ras with fog := true, fogEntering := true, fogCls := 7, fogUnit := port.toNat } }
      let w := ((v.rotationStops.haltVoices fun _ => true).dropItems fun _ => true).dropOperations
      exec (.fog port) s = .next (w.openRings.foldl (fun s r => s.endAll r (Cpl.of St.fog)) w))) ∧
  (∀ s : State, s.ras.resetBusy = true → s.ras.resetWaits = false →
    let u := s.stopRings.openRings.foldl State.settle s.stopRings
    (u.anyBusy = true → exec .jobResetComplete s = .next u) ∧
    (u.anyBusy = false → ∃ t : State, exec .jobResetComplete s = .next t ∧
      t.ras.pending = none ∧ t.ras.queue = [] ∧ t.ras.jobHalt = false ∧ t.ras.haltNow = false ∧ t.ras.resetBusy = false ∧
      t.ras.resetDone = true ∧ (∀ f ∈ t.ras.fences, f.afterReset = true) ∧ t.abuf = [] ∧ t.pads = [] ∧ t.carries = [] ∧
      t.amms = [] ∧ t.tlb = [] ∧ t.walkCache = [] ∧ t.steps = [] ∧ (∀ w ∈ t.walks, w.2.drops = [(0, 2 ^ 57)]) ∧
      t.rot.phase = .idle ∧ t.rot.snapshot = [] ∧ t.rot.sentence = none ∧ bit (t.reg R.rotCtrl) 0 = false)) ∧
  (∀ s : State, s.ras.fog = true → s.ras.fogEntering = true →
    let u := (s.settleAccesses |> (fun s => (List.range 32).foldl State.abufFlush s)).runNet.purge
    let v : State := { u with
      voices := [], pads := [], carries := [], amms := [], gcache := [], abuf := [], tlb := [], walkCache := [], walks := []
      tags := tmap (fun _ => ReqTag.free) (fun _ t => t.orphan) u.tags }
    let w := (v.granules.foldl (fun s e => s.setGranule e.1 (s.granule e.1).still) v).repostWaits.runNet
    let x := w.record (ErrRec.plain 1 w.ras.fogCls w.ras.fogUnit 16)
    exec .fogEntryComplete s = .next { x with ras := { x.ras with fogEntering := false } })

/-- R350 to R352, R356: the Keeper's comparison, while it is booted, adopts the failed units, deals with each fence, and fences each unit that differs, is there and is
not fenced yet, with its advisory record and its event. A fence that still differs 2 ms on is recorded as job-fatal, and stays until a job
reset. A proxy on IO1 that does not answer fences every unit of IO1. A RELIEF that is refused ends so; any other waits for its
rotation. -/
def Obligations.UnitsAreFenced : Prop :=
  (∀ (s : State) (differ failed : List (BitVec 4 × BitVec 16)), s.keeper.booted = true →
    let d := unitsOf differ
    let u : State := { s with ras := { s.ras with failed := unitsOf failed } }
    exec (.keeperReconciliation differ failed) s =
      .next (d.foldl (fun s x => s.fenceUnit x.1 x.2) (u.ras.fences.foldl (fun s f => s.compareFenced d f) u))) ∧
  (∀ (s : State) (cls unit : Nat),
    (s.fenced cls unit = true ∨ s.unitExists cls unit = false ∨ s.unitLost cls unit = true → s.fenceUnit cls unit = s) ∧
    (s.fenced cls unit = false → s.unitExists cls unit = true → s.unitLost cls unit = false → ∃ t : State,
      s.fenceUnit cls unit = t ∧ t.fenced cls unit = true ∧ t.ras.seq = s.ras.seq + 1 ∧ t.out.getLast? = some (.pldmEvent s.ras.seq) ∧
      KeepsBut [.out, .regs, .ports, .pool, .poison, .lineKey, .granules, .ras] s t)) ∧
  (∀ (s : State) (f : FenceSt) (differ : List (Nat × Nat)),
    let lifted : State := { s with ras := { s.ras with fences := dropIf (fun g => g.cls == f.cls && g.unit == f.unit) s.ras.fences } }
    (differ.contains (f.cls, f.unit) = true → f.afterReset = false → s.compareFenced differ f = s) ∧
    (differ.contains (f.cls, f.unit) = true → f.afterReset = true → s.compareFenced differ f = lifted.unitGone f.cls f.unit) ∧
    (differ.contains (f.cls, f.unit) = false → f.late = true → f.afterReset = false → s.compareFenced differ f = s) ∧
    (differ.contains (f.cls, f.unit) = false → f.late = false ∨ f.afterReset = true →
      s.compareFenced differ f = lifted.fenceLifted f.cls f.unit)) ∧
  (∀ (s : State) (cls : BitVec 4) (unit : BitVec 16) (f : FenceSt), let c := cls.toNat
    let n := unit.toNat
    (s.ras.fences.find? fun f => f.cls == c && f.unit == n) = some f →
    (f.late = true ∨ f.afterReset = true → exec (.fenceTimeout cls unit) s = .next s) ∧
    (f.late = false → f.afterReset = false →
      let u : State := { s with ras := { s.ras with
        fences := mapIf (fun g => g.cls == c && g.unit == n) (fun g => { g with late := true }) s.ras.fences } }
      let v := u.record { ErrRec.plain 4 c n 7 with status := St.timeout }
      let w := (v.homeWaits.foldl (fun s e => (e.2.partition (s.waitNeeds c n)).1.foldl State.timeWait
        (s.setWaits e.1 (e.2.partition (s.waitNeeds c n)).2)) v).timeTransfers c n
      exec (.fenceTimeout cls unit) s = .next (State.itemsEnd (State.runNet (
        if c = 7 then (w.port n).waiting.foldl (fun s q => s.timeHost n q) (w.updPort n fun p => { p with waiting := [], counted := 0 })
        else if c = 6 then ((w.link n).txq.foldl State.dropTx (w.updLink n fun x => { x with txq := [] })).missesGo.runNet.itemsEnd
        else if c = 5 then (w.granules.filter fun e => e.2.fill.isSome && e.2.waits && w.driveOf e.1 == some n).foldl
          (fun s e => s.timeFill e.1) w
        else if c = 2 then (w.voices.filter fun e => galleryOf e.1 == n).foldl
          (fun s e => e.2.out.foldl (fun s a => s.endAccess e.1 a St.timeout) s) w
        else w))))) ∧
  (∀ s : State, s.keeper.booted = true → 2 ≤ s.variant.ioDies →
    let units : List (Nat × Nat) := [(3, 4), (3, 5), (3, 6), (3, 7), (4, 8), (4, 9), (4, 10), (4, 11), (4, 12), (4, 13), (4, 14), (4, 15),
      (5, 4), (5, 5), (5, 6), (5, 7), (6, 9), (6, 10), (6, 11), (6, 12), (6, 13), (6, 14), (6, 15), (6, 16), (6, 17), (7, 2), (7, 3), (8, 1)]
    exec .proxyTimeout s = .next (units.foldl (fun s u => s.fenceUnit u.1 u.2) s)) ∧
  (∀ (s : State) (ring : RingId) (pos : Pos) (f : Flight), s.mayStart ring.toNat pos.toNat .mgmt = some f →
    let d := f.desc
    (∀ c, s.reliefCheck d = some c → exec (.relief ring pos) s = .next (s.finish ring.toNat pos.toNat c)) ∧
    (s.reliefCheck d = none →
      let u := s.setStage ring.toNat pos.toNat .running
      exec (.relief ring pos) s = .next { u with ras := { u.ras with reliefs := u.ras.reliefs ++ [
        { ring := BitVec.ofNat 12 ring.toNat, pos := BitVec.ofNat 32 pos.toNat, first := rlFirst d, count := rlCount d
          target := BitVec.ofNat 6 (rlTarget d), at_ := BitVec.ofNat 64 (rlAt d), metadata := dFlag d 12, started := false
          copied := false, late := false, quiet := false, bytes := 0, poisoned := 0, read := [] }] } }) ∧
    (dTenant d ≠ 0 → s.reliefCheck d = some (Cpl.why St.notOwner 2)) ∧
    (dTenant d = 0 → rlFirst d < s.capacity / 2 ^ 30 → rlFirst d + rlCount d ≤ s.capacity / 2 ^ 30 → rlCount d ≠ 0 →
      rlTarget d ≠ s.devNo → s.reachable (rlTarget d) = true → s.reliefCheck d = none))

/-! ## Power, clocks and pins (R360 to R380, R398 to R403) -/

/-- R366 to R370, R375, R378: PWR_CMD through an open port. From one that does not control partition 0 it is set-up error 6 with RESULT
NOT_OWNER. DARK is BAD_DESCRIPTOR where something still runs, and else begins the entry, with a Flush to every drive in service; once nothing is in flight
the device is dark, its links idle and its host links in L1. WAKE is DONE on a device that is on, and COLD is a cold reset. A host that
leaves L1 wakes a dark or entering device with cause 4. The end of a wake brings the links back and serves what waited, set-up writes first. -/
def Obligations.DarkIsEnteredAndLeft : Prop :=
  (∀ (s : State) (port : Port), s.openTo port.toNat →
    let p := port.toNat
    (s.controls p 0 = false → ∀ c ∈ [Instr.dark port, .pwrWake port, .cold port], exec c s =
      .next ((s.setupError p R.pwrCmd 6).updPwr fun w => { w with result := St.notOwner })) ∧
    (s.controls p 0 = true → s.mayDark = false → exec (.dark port) s = .next (s.updPwr fun w => { w with result := St.badDescriptor })) ∧
    (s.controls p 0 = true → s.mayDark = true → exec (.dark port) s =
      .next (s.drivesUp.foldl (fun s d => s.issueDrive d flushCode)
        (s.updPwr fun w => { w with result := St.done, state := .entering }))) ∧
    (s.controls p 0 = true → exec (.pwrWake port) s = .next (s.updPwr fun w => { w with result := St.done })) ∧
    (s.controls p 0 = true → exec (.cold port) s = .next (s.coldKeep .boot))) ∧
  (∀ s : State, (s.mayDark = true ↔ s.pwr.state = .on ∧ s.rot.align = .halted ∧ s.rot.items = [] ∧ s.ras.fog = false ∧
    (∀ t < 16, (s.part t).switching = false) ∧ s.ras.resetBusy = false ∧ (∀ r ∈ s.ras.reliefs, r.started = true ∧ r.copied = true ∧ s.reliefWaits r = false) ∧ s.drains = [] ∧
    s.modeSwitches = [] ∧ s.rot.loading = none ∧ s.tabCmd = none)) ∧
  (∀ s : State, s.pwr.state = .entering →
    (s.quietNow = false → exec .darkEntryComplete s = .next s) ∧
    (s.quietNow = true → ∃ t : State, exec .darkEntryComplete s = .next t ∧ t.pwr = { s.pwr with state := .dark } ∧
      (∀ n < 18, (s.link n).state = .active → (t.link n).state = .idle) ∧ (∀ n, (s.link n).state ≠ .active → t.link n = s.link n) ∧
      (∀ n < 4, (s.port n).link = .up → (t.port n).l1 = true) ∧
      t.regs = (s.count R.pwrDarkTotal).regs ∧ KeepsBut [.links, .ports, .regs, .pwr] s t)) ∧
  (∀ (s : State) (port : Port), s.hostThere port.toNat = true → (s.port port.toNat).link = .up →
    let u := s.updPort port.toNat fun x => { x with l1 := false }
    (s.pwr.state = .dark ∨ s.pwr.state = .entering → exec (.hostL1Exit port) s =
      .next { u with pwr := { u.pwr with state := .waking, wakeCause := 4 } }) ∧
    (s.pwr.state ≠ .dark → s.pwr.state ≠ .entering → exec (.hostL1Exit port) s = .next u)) ∧
  (∀ s : State, s.pwr.state = .waking →
    let l := s.pwr.waiting
    let a := s.updPwr fun w => { w with state := .on, waiting := [], fogAfterWake := false }
    let b := ((List.range 4).filter fun p => (a.port p).l1).foldl (fun s p => s.updPort p fun x => { x with l1 := false }) a
    let c := ((List.range 18).filter fun p => (b.link p).state == .idle).foldl
      (fun s p => (s.updLink p fun x => { x with state := .active }).pumpPort p) b
    let d := (l.filter Held.first).foldl State.serve c
    let rest := l.filter fun h => !h.first
    let reset := (List.range 4).filter fun p => (d.port p).perst && (d.port p).link != .reset
    let e := reset.foldl (fun s p => s.lateReset rest p) d
    let f := (rest.filter fun h => !(reset.any fun p => h.ofPort p)).foldl State.serve e
    exec .wakeComplete s = .next (if s.pwr.fogAfterWake then f.fogEnter f.ras.fogCls f.ras.fogUnit else f))

/-- R366, R367, R370, R383: a PWR_CMD write, through a port that is there. From one that does not control partition 0 it has no effect but a set-up error of cause 6
and RESULT NOT_OWNER, whether the device is on or asleep. DARK from one that does completes BAD_DESCRIPTOR, the device staying on, unless
every condition of R367 holds, and then it is accepted. While the device goes Dark or wakes RESULT is BUSY: a write is ignored with set-up
error 4, though one from a port that controls partition 0 is a wake trigger. -/
def Obligations.PowerCommandsObeyTheirConditions : Prop :=
  ∀ (s : State) (port : Port), s.hostThere port.toNat = true → (s.port port.toNat).link = .up →
    let p := port.toNat
    let conditions := s.rot.align = .halted ∧ s.rot.items = [] ∧ s.ras.fog = false ∧ (∀ t < 16, (s.part t).switching = false) ∧
      s.ras.resetBusy = false ∧ (∀ r ∈ s.ras.reliefs, r.started = true ∧ r.copied = true ∧ s.reliefWaits r = false) ∧ s.drains = [] ∧ s.modeSwitches = [] ∧
      s.rot.loading = none ∧ s.tabCmd = none
    (s.controls p 0 = false → (s.pwr.state = .on ∧ s.keeper.bootFail = false) ∨ s.asleep = true →
      ∀ c ∈ [Instr.dark port, .pwrWake port, .cold port], ∃ t : State, exec c s = .next t ∧
        t = (s.setupError p R.pwrCmd 6).updPwr (fun w => { w with result := St.notOwner }) ∧ t.pwr = { s.pwr with result := St.notOwner } ∧
        (t.reg R.glbSetupErrInfo).toNat = 6 + 16 * p ∧ KeepsBut [.out, .regs, .ports, .pool, .poison, .lineKey, .granules, .ras, .pwr] s t) ∧
    (s.controls p 0 = true → s.pwr.state = .on → s.keeper.bootFail = false → ¬conditions →
      exec (.dark port) s = .next (s.updPwr fun w => { w with result := St.badDescriptor })) ∧
    (s.controls p 0 = true → s.pwr.state = .entering ∨ s.pwr.state = .waking → ∀ c ∈ [Instr.dark port, .pwrWake port, .cold port],
      exec c s = .next ((s.wakeTrigger 2).setupError p R.pwrCmd 4)) ∧
    (s.controls p 0 = true → s.pwr.state = .on → s.keeper.bootFail = false → conditions → ∃ t : State, exec (.dark port) s = .next t ∧
      t.pwr = { s.pwr with result := St.done, state := .entering })

/-- R361 to R363, R402: throttles and sensors. The margin band's edge sets its trigger; a trigger that appears begins a throttle, counted once, and with
a temperature among the triggers recorded once; it ends when no trigger has held. A sample, while the device is powered and booted, stores its readings, warns of each sensor
that has newly reached its warning threshold, sets the triggers, and takes a critical reading for a device-fatal error with Fog; at a shutdown temperature
THERM_TRIP_N falls and power is removed. -/
def Obligations.ThrottlesFollowSensors : Prop :=
  (∀ (s : State) (inside : Bool), s.pwr.state ≠ .off → exec (.vinMargin inside) s =
    .next (s.updPwr fun p => { p with vinMargin := inside, throttle := { p.throttle with margin := inside } }).throttleCheck) ∧
  (∀ s : State, let t := s.pwr.throttle
    (t.triggered = true ↔ t.power = true ∨ t.thermal ≠ [] ∨ t.margin = true) ∧
    (t.triggered = false → s.throttleCheck = s ∧ exec .throttleClearExpiry s = .next (s.updPwr fun p => { p with
      throttle := { p.throttle with inForce := false, wasPower := false, wasThermal := false } })) ∧
    (t.triggered = true → exec .throttleClearExpiry s = .next s ∧ s.throttleCheck.pwr.throttle.inForce = true ∧
      (t.inForce = true → t.thermal = [] ∨ t.wasThermal = true → s.throttleCheck.regs = s.regs ∧ s.throttleCheck.ras = s.ras) ∧
      (t.inForce = false → t.thermal = [] → s.throttleCheck.regs = (s.count R.pwrThrottleTotal).regs ∧
        s.throttleCheck.ras = s.ras) ∧
      KeepsBut [.out, .regs, .ports, .pool, .poison, .lineKey, .granules, .ras, .rot, .pwr] s s.throttleCheck)) ∧
  (∀ (s : State) (x : Sample), s.pwr.state ≠ .off → s.keeper.booted = true →
    let l := s.sensors x
    let t := ((((s.storeSample x).warnings l).triggers l x).throttleCheck).criticals l
    ((∃ q ∈ l, q.shutdown ≤ q.temp) → exec (.sensorSample x) s = .next ((t.emit .thermTrip).coldKeep .off)) ∧
    ((∀ q ∈ l, q.temp < q.shutdown) → exec (.sensorSample x) s = .next t)) ∧
  (∀ (s : State) (x : Sample), let l := s.sensors x
    (∀ q ∈ l, (s.storeSample x).reg q.reg = BitVec.ofNat 64 q.value.toNat) ∧ (s.storeSample x).reg R.pwrVin = x.vin.setWidth 64 ∧
    (s.storeSample x).reg R.pwrInput = x.watts.setWidth 64 ∧
    let u := (s.triggers l x).pwr.throttle
    ((u.power = true ↔ (fld (s.reg R.pwrCap) 0 11 ≠ 0 ∧ fld (s.reg R.pwrCap) 0 11 < x.watts.toNat) ∨ 1350 < x.watts.toNat) ∧
      (∀ q ∈ l, q.throttle ≤ q.temp → q.code ∈ u.thermal)))

/-- R212, R322, R323, R366, R372, R375, R376, R401: cold resets and bring-up. RESET_N low, a lost system clock and the lockout of the input lose everything but the fuses, the
flash and what the pins hold. A device that waits to boot does so when RESET_N, its clock, its power and its flash are there; the Keeper takes the first
copy whose images are accepted at no lower version than the fuses, and with none it stops in boot failure; else memory and drives come up
and the device is on; a drive that fails a condition of R212 is refused for it. -/
def Obligations.ColdResetsAndBoots : Prop :=
  (∀ (s : State) (st : Power), let t := s.coldKeep st
    t.nvm = s.nvm ∧ t.variant = s.variant ∧ t.pending = s.pending ∧ t.out = s.out ∧ t.free = s.free ∧
    t.pwr.state = st ∧ t.pwr.resetN = s.pwr.resetN ∧ t.pwr.refSys = s.pwr.refSys ∧ t.pwr.flashExtN = s.pwr.flashExtN ∧
    (∀ p < 4, (t.port p).perst = (s.port p).perst ∧ (t.port p).link = .reset) ∧
    KeepsBut [.pending, .out, .free, .ports, .pwr] (State.cold s.variant s.nvm) t) ∧
  (∀ s : State, exec .vinLockout s = .next (s.coldKeep .off) ∧
    (s.pwr.state ≠ .off → exec .resetNAssert s = .next (State.coldKeep { s with pwr := { s.pwr with resetN := false } } .boot) ∧
      exec .refclkSysLost s = .next (State.coldKeep { s with pwr := { s.pwr with refSys := false } } .boot)) ∧
    (s.pwr.state = .off → exec .resetNAssert s = .next { s with pwr := { s.pwr with resetN := false } } ∧
      exec .refclkSysLost s = .next { s with pwr := { s.pwr with refSys := false } })) ∧
  (∀ (s : State) (b : BringUp), s.awaitsBoot = true → b.flashHeld = false →
    (s.pwr.refSys = true → s.pwr.resetN = true → exec (.powerOn b) s = .next (s.bringUp b false)) ∧
    (s.pwr.state ≠ .off → s.pwr.refSys = true → exec (.resetNRelease b) s =
      .next (State.bringUp { s with pwr := { s.pwr with resetN := true } } b false)) ∧
    (s.pwr.state ≠ .off → s.pwr.resetN = true → exec (.refclkSysRestored b) s =
      .next (State.bringUp { s with pwr := { s.pwr with refSys := true } } b false)) ∧
    (s.pwr.state ≠ .off → s.pwr.refSys = true → s.pwr.resetN = true → s.pwr.flashExtN = false → exec (.flashExtRelease b) s =
      .next (State.bringUp { s with pwr := { s.pwr with flashExtN := true } } b true))) ∧
  (∀ (s : State) (b : BringUp), s.awaitsBoot = true → s.pwr.refSys = true → s.pwr.resetN = true → b.flashHeld = true →
    exec (.powerOn b) s = .next { s with pwr := { s.pwr with state := .boot, flashExtN := false } }) ∧
  (∀ s : State, let n := s.nvm
    let a := imageOk false n.keeperA n.fuseSvn = true
    let b := imageOk false n.keeperB n.fuseSvn = true
    let k := s.bootKeeper.keeper
    (a → (k.booted = true ↔ imageOk true n.coreA n.fuseSvn = true) ∧ k.copyB = false ∧ k.svn = svnOf n.keeperA.bytes) ∧
    (¬a → b → (k.booted = true ↔ imageOk true n.coreB n.fuseSvn = true) ∧ k.copyB = true ∧ k.svn = svnOf n.keeperB.bytes) ∧
    (¬a → ¬b → k.booted = false) ∧ k.bootFail = !k.booted ∧ KeepsBut [.keeper] s s.bootKeeper) ∧
  (∀ (s : State) (b : BringUp) (rewritten : Bool),
    let u := State.bootKeeper { s with nvm := s.nvm.found b rewritten, pwr := { s.pwr with state := .boot } }
    let v := State.portsTrain { u with pwr := { u.pwr with sysReady := true } }
    (u.keeper.bootFail = true → s.bringUp b rewritten = v) ∧
    (u.keeper.bootFail = false → ∃ t : State, s.bringUp b rewritten = t ∧ t.pwr = { v.pwr with state := .on } ∧
      (∀ d < 8, v.nvmeThere d = true → ∀ x, b.nvme[d]? = some x → (t.drive d).reason = driveRefusal x ∧
        ((t.drive d).state = .inService ↔ driveRefusal x = 0)) ∧
      KeepsBut [.out, .ddr, .regs, .drives, .pwr] v t)) ∧
  (∀ (core : Bool) (x : Image) (fuses : Byte), imageOk core x fuses = true ↔ x.genuine = true ∧
    numAt x.bytes 0 4 = (if core then 0x3146435A else 0x31464B5A) ∧ numAt x.bytes 8 4 % 64 = 0 ∧
    x.bytes.length = 112 + numAt x.bytes 8 4 + 96 ∧ fuses.toNat ≤ numAt x.bytes 4 1 ∧ numAt x.bytes 4 1 ≤ 64)

/-- R319, R372 to R374, R376, R400, R403: the other pins. A host port's reset, or its link lost, ends what its host had in flight; the port trains again
when PERST rises or at once, and is up when trained. While the device sleeps PERST counts as a wake trigger. A lost fabric clock takes every link that is
not disabled down with reason 1. The TAP answers while RESET_N is high: BYPASS, IDCODE with 0x10980567, and until the seal SAMPLE and
EXTEST; TRST_N resets it. -/
def Obligations.PinsAndLinksFollow : Prop :=
  (∀ (s : State) (port : Port), s.hostThere port.toNat = true →
    let p := port.toNat
    let low := s.updPort p fun x => { x with perst := true }
    let high := s.updPort p fun x => { x with perst := false }
    (s.pwr.state = .on ∨ s.pwr.state = .boot → (s.port p).link ≠ .reset → exec (.perstAssert port) s =
      .next ((low.updPort p fun x => { x with link := .reset }).hostReset p)) ∧
    (s.pwr.state = .on ∨ s.pwr.state = .boot → (s.port p).link = .reset → exec (.perstAssert port) s = .next low) ∧
    (s.asleep = true → exec (.perstAssert port) s = .next (low.wakeTrigger 4)) ∧
    (s.pwr.sysReady = true → s.keeper.bootFail = false ∨ p = 0 → (s.port p).link = .reset → exec (.perstDeassert port) s =
      .next (high.updPort p fun x => { x with link := .training })) ∧
    ((s.port p).link ≠ .reset → exec (.perstDeassert port) s = .next high) ∧
    ((s.port p).link = .up → exec (.hostLinkDown port) s =
      .next ((s.updPort p fun x => { x with link := .training }).hostReset p)) ∧
    ((s.port p).link = .training → s.pwr.sysReady = true →
      exec (.hostLinkTrained port) s = .next (s.updPort p fun x => { x with link := .up }))) ∧
  (∀ s : State, let u := s.updPwr fun p => { p with refFab := false }
    exec .refclkFabLost s = .next (((List.range 18).filter fun p => (s.link p).state != .disabled).foldl
      (fun s p => s.linkOut p .down 1) u)) ∧
  (∀ (s : State) (cells : Word), exec .trstAssert s = .next (s.updPwr fun p => { p with tap := .reset }) ∧
    (s.pwr.state ≠ .off → s.pwr.resetN = true →
      exec .tapBypass s = .next (s.updPwr fun p => { p with tap := .bypass }) ∧
      exec .tapIdcode s = .next ((s.updPwr fun p => { p with tap := .idcode }).emit (.tdo 0x10980567)) ∧
      (s.keeper.tapLocked = false → exec .tapSamplePreload s = .next (s.updPwr fun p => { p with tap := .sample }) ∧
        exec (.tapExtest cells) s = .next (s.updPwr fun p => { p with tap := .extest, cells })) ∧
      (s.keeper.tapLocked = true → exec .tapSamplePreload s = .next (s.updPwr fun p => { p with tap := .bypass }) ∧
        exec (.tapExtest cells) s = .next (s.updPwr fun p => { p with tap := .bypass }))) ∧
    (s.pwr.state = .off ∨ s.pwr.resetN = false → ∀ c ∈ [Instr.tapBypass, .tapIdcode, .tapSamplePreload, .tapExtest cells],
      exec c s = .next s))

/-! ## The machine as a whole -/

/-- Log entries 1 and 16: with a command at the front of the queue, a step runs that command on the state with the queue's rest. -/
def Claims.StepRunsTheFrontCommand : Prop :=
  ∀ (s : State) (c : Instr) (rest : List Instr), step { s with pending := c :: rest } = exec c { s with pending := rest }

/-- Log entry 3, R48, R298, R312: with no command waiting a nanosecond passes: the clock is one higher, and the bucket of each host port
gains its rate up to its burst. Where nothing waits inside the device, what happened in the nanosecond is counted for the load, and
nothing else changes; but the oldest management message, where one waits, is consumed and answered DONE by the port that leads to its
sender, where one does. -/
def Claims.IdleStepsPassTime : Prop :=
  ∀ s : State, s.pending = [] →
    let u := (List.range 4).foldl State.fillBucket { s with time := s.time + 1 }
    (∀ p < 4, (u.port p).tokens = min ((s.reg (R.poolBurst p)).toNat % 65536 * 1024) ((s.port p).tokens + (s.reg (R.poolRate p)).toNat % 512)) ∧
    KeepsBut [.time, .ports] s u ∧
    (∃ t : State, step s = .next t ∧ t.time = s.time + 1) ∧
    (s.atRest → s.mgQueue = [] → ∃ t : State, step s = .next t ∧ t = { u with use := t.use } ∧
      t.use.busy = s.use.busy + s.coresRunning ∧ (t.use.points.head?.map Prod.snd) = some (s.memTxns, s.tagsUsed) ∧
      t.use.near = s.use.near ∧ t.use.done = s.use.done) ∧
    (∀ src tag body rest, s.atRest → s.mgQueue = (src, tag, body) :: rest →
      let w : State := { u with mgQueue := rest }
      (∀ p, w.exitPort (epDev src) (epLocal src) = some p →
        step s = .next (w.sendOn p (.mgStatus (BitVec.ofNat 5 p) src tag St.done)).tallyLoad) ∧
      (w.exitPort (epDev src) (epLocal src) = none → step s = .next w.tallyLoad))

/-- R48, R298, R312: What a step does, with a command waiting and with none. -/
def Obligations.StepsRunCommands : Prop :=
  Claims.StepRunsTheFrontCommand ∧ Claims.IdleStepsPassTime


/-- R8, R301, R314, R375, R376, R388: what reset leaves. Nothing runs and nothing is held: no command, ring, session, table, item or mark, the
pool in its canonical form; rings are DISABLED and books EMPTY, host ports are in flush mode with PERST low, the Keeper has neither booted nor sealed, and partition 0 is controlled through every fitted
host port. The registers with a reset value have it. -/
def Obligations.ResetLeavesNothingRunning : Prop :=
  let s := State.reset
  s.pending = [] ∧ s.poolWf = true ∧ s.sessions = [] ∧ s.tables = [] ∧ s.rot.items = [] ∧ s.marks = [] ∧ s.voices = [] ∧
  (∀ r, (s.ring r).state = .disabled) ∧ (∀ n, (s.book n).state = .empty) ∧ s.ras.fog = false ∧ s.ras.pending = none ∧
  s.rot.align = .halted ∧ (∀ p, (s.port p).recalls = false ∧ (s.port p).perst = true) ∧ s.keeper.booted = false ∧
  s.keeper.sealed = false ∧ (∀ p < 4, s.controls p 0 = true) ∧ s.ready = false ∧ s.pwr.state = .boot ∧
  s.reg R.rasWinCfg = 0xA0010 ∧ s.reg R.rotPeriod = 16 ∧ s.reg R.rotBookNext = 4 ∧ s.reg R.sesIdleTime = 200 ∧ s.reg R.sesDenseTime = 2000 ∧
  s.reg R.sesHandoffTime = 50 ∧ s.reg R.sesReleaseWait = 10 ∧ s.reg R.tierNearAge = 200 ∧ s.reg R.tierFarAge = 2000 ∧
  s.reg R.tierNvmeTimeout = 1000 ∧ s.reg R.poolRevokeTime = 2 ∧ s.reg (R.poolBurst 3) = 1024 ∧ s.rwkReg R.smfLevelRack = 0x12 ∧
  s.reg R.rotNumber = 0 ∧ s.reg R.kprMgen = 0

/-- R182, R183: words of clause code, written out from the table of instructions, are the instructions they stand for, and a reserved opcode is
none. -/
def Obligations.ClauseWordsDecode : Prop :=
  ∀ v : VoiceId, let f : Fields := { d := 1, a := 2, b := 3, c := 0, mod := 0, imm := 0 }
    decodeCore v 0x0000000000000000 = some (.nop v { f with d := 0, a := 0, b := 0 }) ∧
    decodeCore v 0x00000000000C4101 = some (.add v f) ∧
    decodeCore v 0xFFFFFFFF00004111 = some (.addImm v { f with b := 0, imm := 0xFFFFFFFF }) ∧
    decodeCore v 0x00000000000C4122 = some (.fmul v f) ∧
    decodeCore v 0x00000005000C4032 = some (.blt v { f with d := 0, imm := 5 }) ∧
    decodeCore v 0x00000000200C4142 = some (.vmul v { f with mod := 2 }) ∧
    decodeCore v 0x00000000020C4180 = some (.amm v { f with c := 4 }) ∧
    decodeCore v 0x00000010000041A0 = some (.lds v { f with b := 0, imm := 0x10 }) ∧
    decodeCore v 0x00000000000C41C8 = some (.aadd v f) ∧
    decodeCore v 0x000000000000001F = none ∧ decodeCore v 0x00000000000000FF = none

/-- R182, R183: every core instruction of a voice, with every operand at every value its fields admit, decodes from its own word; and a word that
decodes is the word of what it decodes to. -/
def Obligations.ClauseWordsRoundTrip : Prop :=
  (∀ (i : Instr) (op : BitVec 8) (v : VoiceId) (f : Fields), coreParts i = some (op, v, f) →
    encodeCore i = some (coreWord op f) ∧ decodeCore v (coreWord op f) = some i) ∧
  (∀ (v : VoiceId) (w : Word) (i : Instr), decodeCore v w = some i → encodeCore i = some w)

/-- R321, R322, R375: every step leaves the device the device it is. The queue loses exactly its first command, the variant, the fused
lifecycle, secret, serial number and root digest stay, and so does the certificate chain of the flash but at a boot, the fuses' security version never falls, and no free value is drawn twice (the counter never
falls; log entry 4). -/
def Obligations.StepsKeepTheDevice : Prop :=
  ∀ s t : State, step s = .next t →
    t.pending = s.pending.tail ∧ t.variant = s.variant ∧ t.nvm.secret = s.nvm.secret ∧ t.nvm.lifecycle = s.nvm.lifecycle ∧
    (s.awaitsBoot = false → t.nvm.chain = s.nvm.chain) ∧ t.nvm.serial = s.nvm.serial ∧
    t.nvm.rootDigest = s.nvm.rootDigest ∧ s.nvm.fuseSvn.toNat ≤ t.nvm.fuseSvn.toNat ∧ s.free ≤ t.free

/-- R322, R330: a Keeper that runs is never older than the fuses: every step keeps that, whatever it runs, and it holds at reset. -/
def Obligations.RunningFirmwareIsNotRolledBack : Prop :=
  let inv (s : State) : Prop := s.keeper.booted = true → s.nvm.fuseSvn.toNat ≤ s.keeper.svn.toNat
  inv State.reset ∧ ∀ s t : State, inv s → step s = .next t → inv t

/-- R16: the seal. Once a device is sealed no command changes an RWK register while it stays sealed, and none but a cold reset, or a
write, sample or wake that may bring one, opens it or unlocks its TAP. A 32-bit write of an RWK register of a sealed device is ignored and recorded
as a set-up error, of cause 3 where no other rule refuses it first; and a 64-bit access is its two halves, one after the other, so that a half takes effect
before a seal only where it comes before it. -/
def Obligations.SealHoldsUntilColdReset : Prop :=
  (∀ (c : Instr) (s t : State), exec c s = .next t → s.keeper.sealed = true →
    ((∀ port, c ≠ .cold port) ∧ c ≠ .resetNAssert ∧ c ≠ .vinLockout ∧ c ≠ .refclkSysLost ∧ (∀ x, c ≠ .sensorSample x) ∧
      (∀ port off size value, c ≠ .setupRegisterWrite port off size value) ∧ c ≠ .wakeComplete) →
    t.keeper.sealed = true ∧ (s.keeper.tapLocked = true → t.keeper.tapLocked = true)) ∧
  (∀ (c : Instr) (s t : State), exec c s = .next t → s.keeper.sealed = true → t.keeper.sealed = true → t.rwk = s.rwk) ∧
  (∀ (s : State) (port : Port) (off : BitVec 26) (value : Word) (x : RegRow) (i : Nat), s.pwr.state = .on → s.hostThere port.toNat = true →
    (s.port port.toNat).link = .up → s.keeper.bootFail = false → s.keeper.sealed = true → off.toNat % 4 = 0 →
    findReg off.toNat = some (x, i) → x.rwk = true → s.regAbsent x i = false →
    (∃ k, exec (.setupRegisterWrite port off 4 value) s = .next (s.setupError port.toNat off.toNat k)) ∧
    (s.ras.fog = false → s.controls port.toNat 0 = true →
      exec (.setupRegisterWrite port off 4 value) s = .next (s.setupError port.toNat off.toNat 3))) ∧
  (∀ (s : State) (port : Port) (off : BitVec 26) (value : Word), off.toNat % 8 = 0 → (∀ x i, findReg off.toNat = some (x, i) → x.width = 32) →
    ∃ t : State, exec (.setupRegisterWrite port off 4 value) s = .next t ∧
      exec (.setupRegisterWrite port off 8 value) s = exec (.setupRegisterWrite port (off + 4) 4 (value >>> 32)) t)

/-- R330: a tenant's anchor. ANCHOR from a port that controls the partition sets it from what the port staged, and completes BAD_DESCRIPTOR
while the partition holds a model key or is SWITCHING, changing none. No command clears an anchor but the end of a switch with ERASE, on a
device whose Keeper stays booted (a cold reset loses it with the rest); and no install changes a partition's keys unless the session's root
is that anchor. -/
def Obligations.AnchorsLastUntilErased : Prop :=
  (∀ (s : State) (port : Port) (t : Tenant), s.openTo port.toNat → s.keeper.cmd = none → s.controls port.toNat t.toNat = true →
    let n := t.toNat
    let ends (u : State) (st : Byte) : State := { u with keeper := { u.keeper with cmd := some { port, result := st, waits := false } } }
    ((s.part n).keys = [] → (s.part n).switching = false → ∃ u : State, exec (.anchor port t) s = .next (ends u St.done) ∧
      (u.part n).anchored = true ∧ (u.part n).anchor = s.stagedAnchor port.toNat ∧ (∀ m, m ≠ n → u.part m = s.part m)) ∧
    ((s.part n).keys ≠ [] ∨ (s.part n).switching = true → exec (.anchor port t) s = .next (ends s St.badDescriptor))) ∧
  (∀ (c : Instr) (s u : State) (n : Nat), exec c s = .next u → s.keeper.booted = true → u.keeper.booted = true →
    (s.part n).anchored = true → (u.part n).anchored = false →
    ∃ t : Tenant, t.toNat = n ∧ c = .switchComplete t ∧ (s.part n).switching = true ∧ (s.part n).erase = true) ∧
  (∀ (s t : State) (n : Nat), t = s.coldKeep .boot → (t.part n).anchored = false) ∧
  (∀ (s u : State) (session : BitVec 2) (payload : List Byte) (n : Nat), exec (.keyInstall session payload) s = .next u →
    (u.part n).keys ≠ (s.part n).keys →
    ∃ x : Spdm, s.spdm session.toNat = some x ∧ x.mutually = true ∧ (s.part n).anchored = true ∧ x.root = (s.part n).anchor)
end

