-- ==== Sys2Proof/Laws/Touch.lean ====
section
/-! SUPPORT. What an operation may touch, said as a set of pieces of the state written as the bits of a number: how such facts
compose, and one lemma for each record update of the model. -/

namespace Sys2Proof.Machine

/-- The place of a piece of the state in a set of pieces. -/
def Field.idx : Field → Nat
  | .pending => 0 | .out => 1 | .free => 2 | .variant => 3 | .time => 4 | .latch => 5
  | .rwk => 6 | .regs => 7 | .ports => 8 | .rings => 9 | .ringCmd => 10 | .ringLast => 11
  | .rot => 12 | .sessions => 13 | .leaves => 14 | .frames => 15 | .sesOps => 16 | .offers => 17
  | .accepts => 18 | .pulls => 19 | .heldPulls => 20 | .discarded => 21 | .reclaims => 22 | .abftArm => 23
  | .tables => 24 | .tabCmd => 25 | .tabLast => 26 | .steps => 27 | .grads => 28 | .installs => 29
  | .poisonSteps => 30 | .voices => 31 | .pads => 32 | .carries => 33 | .amms => 34 | .gcache => 35
  | .abuf => 36 | .victims => 37 | .pool => 38 | .poison => 39 | .lineKey => 40 | .granules => 41
  | .backed => 42 | .preparing => 43 | .ready => 44 | .drives => 45 | .stripe => 46 | .ddr => 47
  | .tlb => 48 | .walkCache => 49 | .walks => 50 | .bcasts => 51 | .blocks => 52 | .links => 53
  | .tags => 54 | .dir => 55 | .dirSeq => 56 | .txns => 57 | .homeWaits => 58 | .net => 59
  | .marks => 60 | .mgQueue => 61 | .drains => 62 | .modeSwitches => 63 | .keeper => 64 | .nvm => 65
  | .ras => 66 | .pwr => 67 | .use => 68 | .engineQ => 69 | .came => 70 | .heldOps => 71
  | .receiving => 72 | .sesCache => 73 | .mgWaits => 74 | .missed => 75

/-- The piece at a place. -/
def Field.ofIdx (n : Nat) : Field :=
  [.pending, .out, .free, .variant, .time, .latch, .rwk, .regs, .ports, .rings,
   .ringCmd, .ringLast, .rot, .sessions, .leaves, .frames, .sesOps, .offers, .accepts, .pulls,
   .heldPulls, .discarded, .reclaims, .abftArm, .tables, .tabCmd, .tabLast, .steps, .grads, .installs,
   .poisonSteps, .voices, .pads, .carries, .amms, .gcache, .abuf, .victims, .pool, .poison,
   .lineKey, .granules, .backed, .preparing, .ready, .drives, .stripe, .ddr, .tlb, .walkCache,
   .walks, .bcasts, .blocks, .links, .tags, .dir, .dirSeq, .txns, .homeWaits, .net,
   .marks, .mgQueue, .drains, .modeSwitches, .keeper, .nvm, .ras, .pwr, .use, .engineQ,
   .came, .heldOps, .receiving, .sesCache, .mgWaits, .missed].getD n .pending

theorem Field.ofIdx_idx (f : Field) : Field.ofIdx f.idx = f := by cases f <;> exact Eq.refl _

/-- The set of the pieces of a list. -/
def Field.bits : List Field → Nat
  | [] => 0
  | f :: l => 2 ^ f.idx ||| Field.bits l

theorem Field.bits_of_not_mem {f : Field} {l : List Field} (h : f ∉ l) : (Field.bits l).testBit f.idx = false := by
  induction l with
  | nil => exact Nat.zero_testBit _
  | cons g l ih =>
    simp only [List.mem_cons, not_or] at h
    rw [Field.bits, Nat.testBit_or, ih h.2, Bool.or_false, Nat.testBit_two_pow]
    refine decide_eq_false fun e => h.1 ?_
    rw [← Field.ofIdx_idx f, ← Field.ofIdx_idx g, e]

/-- Every piece whose bit is clear in `m` is the same in `t` as in `s`. -/
def Touches (m : Nat) (s t : State) : Prop := ∀ f : Field, m.testBit f.idx = false → f.same s t

@[simp] theorem Touches.rfl {m : Nat} {s : State} : Touches m s s := fun f _ => by cases f <;> exact Eq.refl _

theorem Touches.trans {m : Nat} {s t u : State} (h : Touches m s t) (h' : Touches m t u) : Touches m s u :=
  fun f hf => by
    have a := h f hf
    have b := h' f hf
    cases f <;> exact Eq.trans a b

theorem Touches.symm {m : Nat} {s t : State} (h : Touches m s t) : Touches m t s :=
  fun f hf => by
    have a := h f hf
    cases f <;> exact Eq.symm a

theorem Touches.mono {a m : Nat} {s t : State} (hm : a &&& m = a) (h : Touches a s t) : Touches m s t :=
  fun f hf => h f (by rw [← hm, Nat.testBit_and, hf, Bool.and_false])

/-- An operation that touches no more than `m` allows may be taken off the end of a chain. -/
theorem Touches.peel {a m : Nat} {s t u : State} (hm : a &&& m = a) (h : Touches a t u) : Touches m s u ↔ Touches m s t :=
  ⟨fun x => x.trans (h.mono hm).symm, fun x => x.trans (h.mono hm)⟩

theorem Touches.sub {a b m : Nat} (h : a &&& b = a) (hb : b &&& m = b) : a &&& m = a := by
  rw [← h, Nat.and_assoc, hb]

/-- The statement form: every piece outside a list is the same, from a set whose every piece is listed. -/
theorem Touches.keepsBut {m : Nat} {s t : State} {l : List Field} (h : Touches m s t)
    (hl : ∀ f : Field, f ∉ l → m.testBit f.idx = false) : KeepsBut l s t := fun f hf => h f (hl f hf)

/-- The same with the list's own bits, which a numeral stands for. -/
theorem Touches.keeps {m : Nat} {s t : State} (l : List Field) (h : Touches m s t) (hm : m &&& Field.bits l = m) : KeepsBut l s t :=
  h.keepsBut fun f hf => by rw [← hm, Nat.testBit_and, Field.bits_of_not_mem hf, Bool.and_false]

theorem Touches.ite {m : Nat} {s t u : State} {c : Prop} [Decidable c] (ht : c → Touches m s t) (hu : ¬c → Touches m s u) :
    Touches m s (if c then t else u) := by
  split
  · exact ht ‹_›
  · exact hu ‹_›

@[simp] theorem Touches.each {α : Type} {m : Nat} {s t : State} {l : List α} {f : State → α → State}
    (hf : ∀ u a, Touches m u (f u a)) : Touches m s (t.each l f) ↔ Touches m s t := by
  refine ⟨fun h => ?_, fun h => ?_⟩
  · have k : ∀ (l : List α) (t : State), Touches m t (l.foldl f t) := by
      intro l
      induction l with
      | nil => exact fun t => Touches.rfl
      | cons a l ih => exact fun t => (hf t a).trans (ih _)
    exact h.trans (k l t).symm
  · have k : ∀ (l : List α) (t : State), Touches m t (l.foldl f t) := by
      intro l
      induction l with
      | nil => exact fun t => Touches.rfl
      | cons a l ih => exact fun t => (hf t a).trans (ih _)
    exact h.trans (k l t)

@[simp] theorem Touches.ite_iff {m : Nat} {s t u : State} {c : Prop} [Decidable c] :
    Touches m s (if c then t else u) ↔ (c → Touches m s t) ∧ (¬c → Touches m s u) := by
  split <;> simp [*]

@[simp] theorem Touches.foldl {α : Type} {m : Nat} {s t : State} {l : List α} {f : State → α → State}
    (hf : ∀ u a, Touches m u (f u a)) : Touches m s (l.foldl f t) ↔ Touches m s t := Touches.each hf

@[simp] theorem Touches.foldl_fst {α β : Type} {m : Nat} {s : State} {q : State × β} {l : List α} {f : State × β → α → State × β}
    (hf : ∀ q a, Touches m q.1 (f q a).1) : Touches m s (l.foldl f q).1 ↔ Touches m s q.1 := by
  have k : ∀ (l : List α) (q : State × β), Touches m q.1 (l.foldl f q).1 := by
    intro l
    induction l with
    | nil => exact fun q => Touches.rfl
    | cons a l ih => exact fun q => (hf q a).trans (ih _)
  exact ⟨fun h => h.trans (k l q).symm, fun h => h.trans (k l q)⟩

@[simp] theorem Touches.ite_fst {β : Type} {m : Nat} {s : State} {p q : State × β} {c : Prop} [Decidable c] :
    Touches m s (if c then p else q).1 ↔ (c → Touches m s p.1) ∧ (¬c → Touches m s q.1) := by
  split <;> simp [*]

theorem Touches.fst {β : Type} {m : Nat} {s u : State} {p : State × β} {b : β} (h : p = (u, b)) :
    Touches m s u ↔ Touches m s p.1 := by rw [h]

/-- What a meaning may touch, whatever it answers. -/
def TouchesO (m : Nat) (s : State) (o : Host.Outcome State Fault Refusal) : Prop := ∀ t, o = .next t → Touches m s t

@[simp] theorem touchesO_next {m : Nat} {s t : State} : TouchesO m s (.next t) ↔ Touches m s t :=
  ⟨fun h => h t (Eq.refl _), fun h u e => by cases e; exact h⟩

@[simp] theorem touches_set_pending {m : Nat} {s t : State} (hm : 1 &&& m = 1) :
    Touches m s { t with pending := x0 } ↔ Touches m s t :=
  Touches.peel hm fun f hf => by cases f <;> first | exact Eq.refl _ | exact absurd hf (by decide)

@[simp] theorem touches_set_out {m : Nat} {s t : State} (hm : 2 &&& m = 2) :
    Touches m s { t with out := x0 } ↔ Touches m s t :=
  Touches.peel hm fun f hf => by cases f <;> first | exact Eq.refl _ | exact absurd hf (by decide)

@[simp] theorem touches_set_free {m : Nat} {s t : State} (hm : 4 &&& m = 4) :
    Touches m s { t with free := x0 } ↔ Touches m s t :=
  Touches.peel hm fun f hf => by cases f <;> first | exact Eq.refl _ | exact absurd hf (by decide)

@[simp] theorem touches_set_time {m : Nat} {s t : State} (hm : 16 &&& m = 16) :
    Touches m s { t with time := x0 } ↔ Touches m s t :=
  Touches.peel hm fun f hf => by cases f <;> first | exact Eq.refl _ | exact absurd hf (by decide)

@[simp] theorem touches_set_latch {m : Nat} {s t : State} (hm : 32 &&& m = 32) :
    Touches m s { t with latch := x0 } ↔ Touches m s t :=
  Touches.peel hm fun f hf => by cases f <;> first | exact Eq.refl _ | exact absurd hf (by decide)

@[simp] theorem touches_set_rwk {m : Nat} {s t : State} (hm : 64 &&& m = 64) :
    Touches m s { t with rwk := x0 } ↔ Touches m s t :=
  Touches.peel hm fun f hf => by cases f <;> first | exact Eq.refl _ | exact absurd hf (by decide)

@[simp] theorem touches_set_regs {m : Nat} {s t : State} (hm : 128 &&& m = 128) :
    Touches m s { t with regs := x0 } ↔ Touches m s t :=
  Touches.peel hm fun f hf => by cases f <;> first | exact Eq.refl _ | exact absurd hf (by decide)

@[simp] theorem touches_set_ports {m : Nat} {s t : State} (hm : 256 &&& m = 256) :
    Touches m s { t with ports := x0 } ↔ Touches m s t :=
  Touches.peel hm fun f hf => by cases f <;> first | exact Eq.refl _ | exact absurd hf (by decide)

@[simp] theorem touches_set_rings {m : Nat} {s t : State} (hm : 512 &&& m = 512) :
    Touches m s { t with rings := x0 } ↔ Touches m s t :=
  Touches.peel hm fun f hf => by cases f <;> first | exact Eq.refl _ | exact absurd hf (by decide)

@[simp] theorem touches_set_ringCmd {m : Nat} {s t : State} (hm : 1024 &&& m = 1024) :
    Touches m s { t with ringCmd := x0 } ↔ Touches m s t :=
  Touches.peel hm fun f hf => by cases f <;> first | exact Eq.refl _ | exact absurd hf (by decide)

@[simp] theorem touches_set_rot {m : Nat} {s t : State} (hm : 4096 &&& m = 4096) :
    Touches m s { t with rot := x0 } ↔ Touches m s t :=
  Touches.peel hm fun f hf => by cases f <;> first | exact Eq.refl _ | exact absurd hf (by decide)

@[simp] theorem touches_set_sessions {m : Nat} {s t : State} (hm : 8192 &&& m = 8192) :
    Touches m s { t with sessions := x0 } ↔ Touches m s t :=
  Touches.peel hm fun f hf => by cases f <;> first | exact Eq.refl _ | exact absurd hf (by decide)

@[simp] theorem touches_set_leaves {m : Nat} {s t : State} (hm : 16384 &&& m = 16384) :
    Touches m s { t with leaves := x0 } ↔ Touches m s t :=
  Touches.peel hm fun f hf => by cases f <;> first | exact Eq.refl _ | exact absurd hf (by decide)

@[simp] theorem touches_set_frames {m : Nat} {s t : State} (hm : 32768 &&& m = 32768) :
    Touches m s { t with frames := x0 } ↔ Touches m s t :=
  Touches.peel hm fun f hf => by cases f <;> first | exact Eq.refl _ | exact absurd hf (by decide)

@[simp] theorem touches_set_sesOps {m : Nat} {s t : State} (hm : 65536 &&& m = 65536) :
    Touches m s { t with sesOps := x0 } ↔ Touches m s t :=
  Touches.peel hm fun f hf => by cases f <;> first | exact Eq.refl _ | exact absurd hf (by decide)

@[simp] theorem touches_set_offers {m : Nat} {s t : State} (hm : 131072 &&& m = 131072) :
    Touches m s { t with offers := x0 } ↔ Touches m s t :=
  Touches.peel hm fun f hf => by cases f <;> first | exact Eq.refl _ | exact absurd hf (by decide)

@[simp] theorem touches_set_accepts {m : Nat} {s t : State} (hm : 262144 &&& m = 262144) :
    Touches m s { t with accepts := x0 } ↔ Touches m s t :=
  Touches.peel hm fun f hf => by cases f <;> first | exact Eq.refl _ | exact absurd hf (by decide)

@[simp] theorem touches_set_pulls {m : Nat} {s t : State} (hm : 524288 &&& m = 524288) :
    Touches m s { t with pulls := x0 } ↔ Touches m s t :=
  Touches.peel hm fun f hf => by cases f <;> first | exact Eq.refl _ | exact absurd hf (by decide)

@[simp] theorem touches_set_heldPulls {m : Nat} {s t : State} (hm : 1048576 &&& m = 1048576) :
    Touches m s { t with heldPulls := x0 } ↔ Touches m s t :=
  Touches.peel hm fun f hf => by cases f <;> first | exact Eq.refl _ | exact absurd hf (by decide)

@[simp] theorem touches_set_discarded {m : Nat} {s t : State} (hm : 2097152 &&& m = 2097152) :
    Touches m s { t with discarded := x0 } ↔ Touches m s t :=
  Touches.peel hm fun f hf => by cases f <;> first | exact Eq.refl _ | exact absurd hf (by decide)

@[simp] theorem touches_set_reclaims {m : Nat} {s t : State} (hm : 4194304 &&& m = 4194304) :
    Touches m s { t with reclaims := x0 } ↔ Touches m s t :=
  Touches.peel hm fun f hf => by cases f <;> first | exact Eq.refl _ | exact absurd hf (by decide)

@[simp] theorem touches_set_abftArm {m : Nat} {s t : State} (hm : 8388608 &&& m = 8388608) :
    Touches m s { t with abftArm := x0 } ↔ Touches m s t :=
  Touches.peel hm fun f hf => by cases f <;> first | exact Eq.refl _ | exact absurd hf (by decide)

@[simp] theorem touches_set_tables {m : Nat} {s t : State} (hm : 16777216 &&& m = 16777216) :
    Touches m s { t with tables := x0 } ↔ Touches m s t :=
  Touches.peel hm fun f hf => by cases f <;> first | exact Eq.refl _ | exact absurd hf (by decide)

@[simp] theorem touches_set_tabCmd {m : Nat} {s t : State} (hm : 33554432 &&& m = 33554432) :
    Touches m s { t with tabCmd := x0 } ↔ Touches m s t :=
  Touches.peel hm fun f hf => by cases f <;> first | exact Eq.refl _ | exact absurd hf (by decide)

@[simp] theorem touches_set_tabLast {m : Nat} {s t : State} (hm : 67108864 &&& m = 67108864) :
    Touches m s { t with tabLast := x0 } ↔ Touches m s t :=
  Touches.peel hm fun f hf => by cases f <;> first | exact Eq.refl _ | exact absurd hf (by decide)

@[simp] theorem touches_set_steps {m : Nat} {s t : State} (hm : 134217728 &&& m = 134217728) :
    Touches m s { t with steps := x0 } ↔ Touches m s t :=
  Touches.peel hm fun f hf => by cases f <;> first | exact Eq.refl _ | exact absurd hf (by decide)

@[simp] theorem touches_set_grads {m : Nat} {s t : State} (hm : 268435456 &&& m = 268435456) :
    Touches m s { t with grads := x0 } ↔ Touches m s t :=
  Touches.peel hm fun f hf => by cases f <;> first | exact Eq.refl _ | exact absurd hf (by decide)

@[simp] theorem touches_set_installs {m : Nat} {s t : State} (hm : 536870912 &&& m = 536870912) :
    Touches m s { t with installs := x0 } ↔ Touches m s t :=
  Touches.peel hm fun f hf => by cases f <;> first | exact Eq.refl _ | exact absurd hf (by decide)

@[simp] theorem touches_set_poisonSteps {m : Nat} {s t : State} (hm : 1073741824 &&& m = 1073741824) :
    Touches m s { t with poisonSteps := x0 } ↔ Touches m s t :=
  Touches.peel hm fun f hf => by cases f <;> first | exact Eq.refl _ | exact absurd hf (by decide)

@[simp] theorem touches_set_voices {m : Nat} {s t : State} (hm : 2147483648 &&& m = 2147483648) :
    Touches m s { t with voices := x0 } ↔ Touches m s t :=
  Touches.peel hm fun f hf => by cases f <;> first | exact Eq.refl _ | exact absurd hf (by decide)

@[simp] theorem touches_set_pads {m : Nat} {s t : State} (hm : 4294967296 &&& m = 4294967296) :
    Touches m s { t with pads := x0 } ↔ Touches m s t :=
  Touches.peel hm fun f hf => by cases f <;> first | exact Eq.refl _ | exact absurd hf (by decide)

@[simp] theorem touches_set_carries {m : Nat} {s t : State} (hm : 8589934592 &&& m = 8589934592) :
    Touches m s { t with carries := x0 } ↔ Touches m s t :=
  Touches.peel hm fun f hf => by cases f <;> first | exact Eq.refl _ | exact absurd hf (by decide)

@[simp] theorem touches_set_amms {m : Nat} {s t : State} (hm : 17179869184 &&& m = 17179869184) :
    Touches m s { t with amms := x0 } ↔ Touches m s t :=
  Touches.peel hm fun f hf => by cases f <;> first | exact Eq.refl _ | exact absurd hf (by decide)

@[simp] theorem touches_set_gcache {m : Nat} {s t : State} (hm : 34359738368 &&& m = 34359738368) :
    Touches m s { t with gcache := x0 } ↔ Touches m s t :=
  Touches.peel hm fun f hf => by cases f <;> first | exact Eq.refl _ | exact absurd hf (by decide)

@[simp] theorem touches_set_abuf {m : Nat} {s t : State} (hm : 68719476736 &&& m = 68719476736) :
    Touches m s { t with abuf := x0 } ↔ Touches m s t :=
  Touches.peel hm fun f hf => by cases f <;> first | exact Eq.refl _ | exact absurd hf (by decide)

@[simp] theorem touches_set_victims {m : Nat} {s t : State} (hm : 137438953472 &&& m = 137438953472) :
    Touches m s { t with victims := x0 } ↔ Touches m s t :=
  Touches.peel hm fun f hf => by cases f <;> first | exact Eq.refl _ | exact absurd hf (by decide)

@[simp] theorem touches_set_pool {m : Nat} {s t : State} (hm : 274877906944 &&& m = 274877906944) :
    Touches m s { t with pool := x0 } ↔ Touches m s t :=
  Touches.peel hm fun f hf => by cases f <;> first | exact Eq.refl _ | exact absurd hf (by decide)

@[simp] theorem touches_set_poison {m : Nat} {s t : State} (hm : 549755813888 &&& m = 549755813888) :
    Touches m s { t with poison := x0 } ↔ Touches m s t :=
  Touches.peel hm fun f hf => by cases f <;> first | exact Eq.refl _ | exact absurd hf (by decide)

@[simp] theorem touches_set_lineKey {m : Nat} {s t : State} (hm : 1099511627776 &&& m = 1099511627776) :
    Touches m s { t with lineKey := x0 } ↔ Touches m s t :=
  Touches.peel hm fun f hf => by cases f <;> first | exact Eq.refl _ | exact absurd hf (by decide)

@[simp] theorem touches_set_granules {m : Nat} {s t : State} (hm : 2199023255552 &&& m = 2199023255552) :
    Touches m s { t with granules := x0 } ↔ Touches m s t :=
  Touches.peel hm fun f hf => by cases f <;> first | exact Eq.refl _ | exact absurd hf (by decide)

@[simp] theorem touches_set_preparing {m : Nat} {s t : State} (hm : 8796093022208 &&& m = 8796093022208) :
    Touches m s { t with preparing := x0 } ↔ Touches m s t :=
  Touches.peel hm fun f hf => by cases f <;> first | exact Eq.refl _ | exact absurd hf (by decide)

@[simp] theorem touches_set_drives {m : Nat} {s t : State} (hm : 35184372088832 &&& m = 35184372088832) :
    Touches m s { t with drives := x0 } ↔ Touches m s t :=
  Touches.peel hm fun f hf => by cases f <;> first | exact Eq.refl _ | exact absurd hf (by decide)

@[simp] theorem touches_set_ddr {m : Nat} {s t : State} (hm : 140737488355328 &&& m = 140737488355328) :
    Touches m s { t with ddr := x0 } ↔ Touches m s t :=
  Touches.peel hm fun f hf => by cases f <;> first | exact Eq.refl _ | exact absurd hf (by decide)

@[simp] theorem touches_set_tlb {m : Nat} {s t : State} (hm : 281474976710656 &&& m = 281474976710656) :
    Touches m s { t with tlb := x0 } ↔ Touches m s t :=
  Touches.peel hm fun f hf => by cases f <;> first | exact Eq.refl _ | exact absurd hf (by decide)

@[simp] theorem touches_set_walkCache {m : Nat} {s t : State} (hm : 562949953421312 &&& m = 562949953421312) :
    Touches m s { t with walkCache := x0 } ↔ Touches m s t :=
  Touches.peel hm fun f hf => by cases f <;> first | exact Eq.refl _ | exact absurd hf (by decide)

@[simp] theorem touches_set_walks {m : Nat} {s t : State} (hm : 1125899906842624 &&& m = 1125899906842624) :
    Touches m s { t with walks := x0 } ↔ Touches m s t :=
  Touches.peel hm fun f hf => by cases f <;> first | exact Eq.refl _ | exact absurd hf (by decide)

@[simp] theorem touches_set_bcasts {m : Nat} {s t : State} (hm : 2251799813685248 &&& m = 2251799813685248) :
    Touches m s { t with bcasts := x0 } ↔ Touches m s t :=
  Touches.peel hm fun f hf => by cases f <;> first | exact Eq.refl _ | exact absurd hf (by decide)

@[simp] theorem touches_set_blocks {m : Nat} {s t : State} (hm : 4503599627370496 &&& m = 4503599627370496) :
    Touches m s { t with blocks := x0 } ↔ Touches m s t :=
  Touches.peel hm fun f hf => by cases f <;> first | exact Eq.refl _ | exact absurd hf (by decide)

@[simp] theorem touches_set_links {m : Nat} {s t : State} (hm : 9007199254740992 &&& m = 9007199254740992) :
    Touches m s { t with links := x0 } ↔ Touches m s t :=
  Touches.peel hm fun f hf => by cases f <;> first | exact Eq.refl _ | exact absurd hf (by decide)

@[simp] theorem touches_set_tags {m : Nat} {s t : State} (hm : 18014398509481984 &&& m = 18014398509481984) :
    Touches m s { t with tags := x0 } ↔ Touches m s t :=
  Touches.peel hm fun f hf => by cases f <;> first | exact Eq.refl _ | exact absurd hf (by decide)

@[simp] theorem touches_set_dir {m : Nat} {s t : State} (hm : 36028797018963968 &&& m = 36028797018963968) :
    Touches m s { t with dir := x0 } ↔ Touches m s t :=
  Touches.peel hm fun f hf => by cases f <;> first | exact Eq.refl _ | exact absurd hf (by decide)

@[simp] theorem touches_set_dirSeq {m : Nat} {s t : State} (hm : 72057594037927936 &&& m = 72057594037927936) :
    Touches m s { t with dirSeq := x0 } ↔ Touches m s t :=
  Touches.peel hm fun f hf => by cases f <;> first | exact Eq.refl _ | exact absurd hf (by decide)

@[simp] theorem touches_set_txns {m : Nat} {s t : State} (hm : 144115188075855872 &&& m = 144115188075855872) :
    Touches m s { t with txns := x0 } ↔ Touches m s t :=
  Touches.peel hm fun f hf => by cases f <;> first | exact Eq.refl _ | exact absurd hf (by decide)

@[simp] theorem touches_set_homeWaits {m : Nat} {s t : State} (hm : 288230376151711744 &&& m = 288230376151711744) :
    Touches m s { t with homeWaits := x0 } ↔ Touches m s t :=
  Touches.peel hm fun f hf => by cases f <;> first | exact Eq.refl _ | exact absurd hf (by decide)

@[simp] theorem touches_set_net {m : Nat} {s t : State} (hm : 576460752303423488 &&& m = 576460752303423488) :
    Touches m s { t with net := x0 } ↔ Touches m s t :=
  Touches.peel hm fun f hf => by cases f <;> first | exact Eq.refl _ | exact absurd hf (by decide)

@[simp] theorem touches_set_marks {m : Nat} {s t : State} (hm : 1152921504606846976 &&& m = 1152921504606846976) :
    Touches m s { t with marks := x0 } ↔ Touches m s t :=
  Touches.peel hm fun f hf => by cases f <;> first | exact Eq.refl _ | exact absurd hf (by decide)

@[simp] theorem touches_set_mgQueue {m : Nat} {s t : State} (hm : 2305843009213693952 &&& m = 2305843009213693952) :
    Touches m s { t with mgQueue := x0 } ↔ Touches m s t :=
  Touches.peel hm fun f hf => by cases f <;> first | exact Eq.refl _ | exact absurd hf (by decide)

@[simp] theorem touches_set_drains {m : Nat} {s t : State} (hm : 4611686018427387904 &&& m = 4611686018427387904) :
    Touches m s { t with drains := x0 } ↔ Touches m s t :=
  Touches.peel hm fun f hf => by cases f <;> first | exact Eq.refl _ | exact absurd hf (by decide)

@[simp] theorem touches_set_modeSwitches {m : Nat} {s t : State} (hm : 9223372036854775808 &&& m = 9223372036854775808) :
    Touches m s { t with modeSwitches := x0 } ↔ Touches m s t :=
  Touches.peel hm fun f hf => by cases f <;> first | exact Eq.refl _ | exact absurd hf (by decide)

@[simp] theorem touches_set_keeper {m : Nat} {s t : State} (hm : 18446744073709551616 &&& m = 18446744073709551616) :
    Touches m s { t with keeper := x0 } ↔ Touches m s t :=
  Touches.peel hm fun f hf => by cases f <;> first | exact Eq.refl _ | exact absurd hf (by decide)

@[simp] theorem touches_set_nvm {m : Nat} {s t : State} (hm : 36893488147419103232 &&& m = 36893488147419103232) :
    Touches m s { t with nvm := x0 } ↔ Touches m s t :=
  Touches.peel hm fun f hf => by cases f <;> first | exact Eq.refl _ | exact absurd hf (by decide)

@[simp] theorem touches_set_ras {m : Nat} {s t : State} (hm : 73786976294838206464 &&& m = 73786976294838206464) :
    Touches m s { t with ras := x0 } ↔ Touches m s t :=
  Touches.peel hm fun f hf => by cases f <;> first | exact Eq.refl _ | exact absurd hf (by decide)

@[simp] theorem touches_set_pwr {m : Nat} {s t : State} (hm : 147573952589676412928 &&& m = 147573952589676412928) :
    Touches m s { t with pwr := x0 } ↔ Touches m s t :=
  Touches.peel hm fun f hf => by cases f <;> first | exact Eq.refl _ | exact absurd hf (by decide)

@[simp] theorem touches_set_use {m : Nat} {s t : State} (hm : 295147905179352825856 &&& m = 295147905179352825856) :
    Touches m s { t with use := x0 } ↔ Touches m s t :=
  Touches.peel hm fun f hf => by cases f <;> first | exact Eq.refl _ | exact absurd hf (by decide)

@[simp] theorem touches_set_engineQ {m : Nat} {s t : State} (hm : 590295810358705651712 &&& m = 590295810358705651712) :
    Touches m s { t with engineQ := x0 } ↔ Touches m s t :=
  Touches.peel hm fun f hf => by cases f <;> first | exact Eq.refl _ | exact absurd hf (by decide)

@[simp] theorem touches_set_came {m : Nat} {s t : State} (hm : 1180591620717411303424 &&& m = 1180591620717411303424) :
    Touches m s { t with came := x0 } ↔ Touches m s t :=
  Touches.peel hm fun f hf => by cases f <;> first | exact Eq.refl _ | exact absurd hf (by decide)

@[simp] theorem touches_set_heldOps {m : Nat} {s t : State} (hm : 2361183241434822606848 &&& m = 2361183241434822606848) :
    Touches m s { t with heldOps := x0 } ↔ Touches m s t :=
  Touches.peel hm fun f hf => by cases f <;> first | exact Eq.refl _ | exact absurd hf (by decide)

@[simp] theorem touches_set_receiving {m : Nat} {s t : State} (hm : 4722366482869645213696 &&& m = 4722366482869645213696) :
    Touches m s { t with receiving := x0 } ↔ Touches m s t :=
  Touches.peel hm fun f hf => by cases f <;> first | exact Eq.refl _ | exact absurd hf (by decide)

@[simp] theorem touches_set_sesCache {m : Nat} {s t : State} (hm : 9444732965739290427392 &&& m = 9444732965739290427392) :
    Touches m s { t with sesCache := x0 } ↔ Touches m s t :=
  Touches.peel hm fun f hf => by cases f <;> first | exact Eq.refl _ | exact absurd hf (by decide)

@[simp] theorem touches_set_mgWaits {m : Nat} {s t : State} (hm : 18889465931478580854784 &&& m = 18889465931478580854784) :
    Touches m s { t with mgWaits := x0 } ↔ Touches m s t :=
  Touches.peel hm fun f hf => by cases f <;> first | exact Eq.refl _ | exact absurd hf (by decide)

@[simp] theorem touches_set_missed {m : Nat} {s t : State} (hm : 37778931862957161709568 &&& m = 37778931862957161709568) :
    Touches m s { t with missed := x0 } ↔ Touches m s t :=
  Touches.peel hm fun f hf => by cases f <;> first | exact Eq.refl _ | exact absurd hf (by decide)

@[simp] theorem touches_set_free_tlb {m : Nat} {s t : State} (hm : 281474976710660 &&& m = 281474976710660) :
    Touches m s { t with free := x0, tlb := x1 } ↔ Touches m s t :=
  Touches.peel hm fun f hf => by cases f <;> first | exact Eq.refl _ | exact absurd hf (by decide)

@[simp] theorem touches_set_free_walkCache {m : Nat} {s t : State} (hm : 562949953421316 &&& m = 562949953421316) :
    Touches m s { t with free := x0, walkCache := x1 } ↔ Touches m s t :=
  Touches.peel hm fun f hf => by cases f <;> first | exact Eq.refl _ | exact absurd hf (by decide)

@[simp] theorem touches_set_ports_pwr {m : Nat} {s t : State} (hm : 147573952589676413184 &&& m = 147573952589676413184) :
    Touches m s { t with ports := x0, pwr := x1 } ↔ Touches m s t :=
  Touches.peel hm fun f hf => by cases f <;> first | exact Eq.refl _ | exact absurd hf (by decide)

@[simp] theorem touches_set_ringCmd_ringLast {m : Nat} {s t : State} (hm : 3072 &&& m = 3072) :
    Touches m s { t with ringCmd := x0, ringLast := x1 } ↔ Touches m s t :=
  Touches.peel hm fun f hf => by cases f <;> first | exact Eq.refl _ | exact absurd hf (by decide)

@[simp] theorem touches_set_offers_accepts {m : Nat} {s t : State} (hm : 393216 &&& m = 393216) :
    Touches m s { t with offers := x0, accepts := x1 } ↔ Touches m s t :=
  Touches.peel hm fun f hf => by cases f <;> first | exact Eq.refl _ | exact absurd hf (by decide)

@[simp] theorem touches_set_pulls_heldOps {m : Nat} {s t : State} (hm : 2361183241434823131136 &&& m = 2361183241434823131136) :
    Touches m s { t with pulls := x0, heldOps := x1 } ↔ Touches m s t :=
  Touches.peel hm fun f hf => by cases f <;> first | exact Eq.refl _ | exact absurd hf (by decide)

@[simp] theorem touches_set_abftArm_amms {m : Nat} {s t : State} (hm : 17188257792 &&& m = 17188257792) :
    Touches m s { t with abftArm := x0, amms := x1 } ↔ Touches m s t :=
  Touches.peel hm fun f hf => by cases f <;> first | exact Eq.refl _ | exact absurd hf (by decide)

@[simp] theorem touches_set_steps_poisonSteps {m : Nat} {s t : State} (hm : 1207959552 &&& m = 1207959552) :
    Touches m s { t with steps := x0, poisonSteps := x1 } ↔ Touches m s t :=
  Touches.peel hm fun f hf => by cases f <;> first | exact Eq.refl _ | exact absurd hf (by decide)

@[simp] theorem touches_set_keeper_nvm {m : Nat} {s t : State} (hm : 55340232221128654848 &&& m = 55340232221128654848) :
    Touches m s { t with keeper := x0, nvm := x1 } ↔ Touches m s t :=
  Touches.peel hm fun f hf => by cases f <;> first | exact Eq.refl _ | exact absurd hf (by decide)

@[simp] theorem touches_set_keeper_pwr {m : Nat} {s t : State} (hm : 166020696663385964544 &&& m = 166020696663385964544) :
    Touches m s { t with keeper := x0, pwr := x1 } ↔ Touches m s t :=
  Touches.peel hm fun f hf => by cases f <;> first | exact Eq.refl _ | exact absurd hf (by decide)

@[simp] theorem touches_set_nvm_pwr {m : Nat} {s t : State} (hm : 184467440737095516160 &&& m = 184467440737095516160) :
    Touches m s { t with nvm := x0, pwr := x1 } ↔ Touches m s t :=
  Touches.peel hm fun f hf => by cases f <;> first | exact Eq.refl _ | exact absurd hf (by decide)

@[simp] theorem touches_set_ras_pwr {m : Nat} {s t : State} (hm : 221360928884514619392 &&& m = 221360928884514619392) :
    Touches m s { t with ras := x0, pwr := x1 } ↔ Touches m s t :=
  Touches.peel hm fun f hf => by cases f <;> first | exact Eq.refl _ | exact absurd hf (by decide)

@[simp] theorem touches_set_pads_carries_amms {m : Nat} {s t : State} (hm : 30064771072 &&& m = 30064771072) :
    Touches m s { t with pads := x0, carries := x1, amms := x2 } ↔ Touches m s t :=
  Touches.peel hm fun f hf => by cases f <;> first | exact Eq.refl _ | exact absurd hf (by decide)

@[simp] theorem touches_set_gcache_abuf_victims {m : Nat} {s t : State} (hm : 240518168576 &&& m = 240518168576) :
    Touches m s { t with gcache := x0, abuf := x1, victims := x2 } ↔ Touches m s t :=
  Touches.peel hm fun f hf => by cases f <;> first | exact Eq.refl _ | exact absurd hf (by decide)

@[simp] theorem touches_set_pool_poison_lineKey {m : Nat} {s t : State} (hm : 1924145348608 &&& m = 1924145348608) :
    Touches m s { t with pool := x0, poison := x1, lineKey := x2 } ↔ Touches m s t :=
  Touches.peel hm fun f hf => by cases f <;> first | exact Eq.refl _ | exact absurd hf (by decide)

@[simp] theorem touches_set_preparing_ready_stripe {m : Nat} {s t : State} (hm : 96757023244288 &&& m = 96757023244288) :
    Touches m s { t with preparing := x0, ready := x1, stripe := x2 } ↔ Touches m s t :=
  Touches.peel hm fun f hf => by cases f <;> first | exact Eq.refl _ | exact absurd hf (by decide)

@[simp] theorem touches_set_tlb_walkCache_walks {m : Nat} {s t : State} (hm : 1970324836974592 &&& m = 1970324836974592) :
    Touches m s { t with tlb := x0, walkCache := x1, walks := x2 } ↔ Touches m s t :=
  Touches.peel hm fun f hf => by cases f <;> first | exact Eq.refl _ | exact absurd hf (by decide)

@[simp] theorem touches_set_tags_engineQ_came {m : Nat} {s t : State} (hm : 1770905445474626437120 &&& m = 1770905445474626437120) :
    Touches m s { t with tags := x0, engineQ := x1, came := x2 } ↔ Touches m s t :=
  Touches.peel hm fun f hf => by cases f <;> first | exact Eq.refl _ | exact absurd hf (by decide)

@[simp] theorem touches_set_gcache_abuf_victims_dir {m : Nat} {s t : State} (hm : 36029037537132544 &&& m = 36029037537132544) :
    Touches m s { t with gcache := x0, abuf := x1, victims := x2, dir := x3 } ↔ Touches m s t :=
  Touches.peel hm fun f hf => by cases f <;> first | exact Eq.refl _ | exact absurd hf (by decide)

@[simp] theorem touches_set_backed_preparing_ready_stripe {m : Nat} {s t : State} (hm : 101155069755392 &&& m = 101155069755392) :
    Touches m s { t with backed := x0, preparing := x1, ready := x2, stripe := x3 } ↔ Touches m s t :=
  Touches.peel hm fun f hf => by cases f <;> first | exact Eq.refl _ | exact absurd hf (by decide)

@[simp] theorem touches_set_offers_accepts_bcasts_drains_modeSwitches {m : Nat} {s t : State} (hm : 13837309855096242176 &&& m = 13837309855096242176) :
    Touches m s { t with offers := x0, accepts := x1, bcasts := x2, drains := x3, modeSwitches := x4 } ↔ Touches m s t :=
  Touches.peel hm fun f hf => by cases f <;> first | exact Eq.refl _ | exact absurd hf (by decide)

@[simp] theorem touches_set_sesOps_offers_accepts_grads_bcasts_drains_modeSwitches {m : Nat} {s t : State} (hm : 13837309855364743168 &&& m = 13837309855364743168) :
    Touches m s { t with sesOps := x0, offers := x1, accepts := x2, grads := x3, bcasts := x4, drains := x5, modeSwitches := x6 } ↔ Touches m s t :=
  Touches.peel hm fun f hf => by cases f <;> first | exact Eq.refl _ | exact absurd hf (by decide)

@[simp] theorem touches_set_steps_pads_carries_amms_abuf_tlb_walkCache_walks_ras {m : Nat} {s t : State} (hm : 73788946718593646592 &&& m = 73788946718593646592) :
    Touches m s { t with steps := x0, pads := x1, carries := x2, amms := x3, abuf := x4, tlb := x5, walkCache := x6, walks := x7, ras := x8 } ↔ Touches m s t :=
  Touches.peel hm fun f hf => by cases f <;> first | exact Eq.refl _ | exact absurd hf (by decide)

@[simp] theorem touches_set_voices_pads_carries_amms_gcache_abuf_tlb_walkCache_walks_tags {m : Nat} {s t : State} (hm : 19984858637926400 &&& m = 19984858637926400) :
    Touches m s { t with voices := x0, pads := x1, carries := x2, amms := x3, gcache := x4, abuf := x5, tlb := x6, walkCache := x7, walks := x8, tags := x9 } ↔ Touches m s t :=
  Touches.peel hm fun f hf => by cases f <;> first | exact Eq.refl _ | exact absurd hf (by decide)

end Sys2Proof.Machine
end

