-- ==== Sys2Proof/Laws/Ops.lean ====
section
/-! SUPPORT. What each operation of Machine/Ops.lean may touch. -/

namespace Sys2Proof.Machine

variable {m : Nat} {s t : State}

@[simp] theorem touches_setRing (hm : 512 &&& m = 512) : Touches m s (State.setRing t a1 a2) ↔ Touches m s t :=
  Touches.peel hm (by simp [State.setRing])

@[simp] theorem touches_updRing (hm : 512 &&& m = 512) : Touches m s (State.updRing t a1 a2) ↔ Touches m s t :=
  Touches.peel hm (by simp [State.updRing])

@[simp] theorem touches_updPort (hm : 256 &&& m = 256) : Touches m s (State.updPort t a1 a2) ↔ Touches m s t :=
  Touches.peel hm (by simp [State.updPort])

@[simp] theorem touches_setSession (hm : 8192 &&& m = 8192) : Touches m s (State.setSession t a1 a2) ↔ Touches m s t :=
  Touches.peel hm (by simp [State.setSession])

@[simp] theorem touches_updSession (hm : 8192 &&& m = 8192) : Touches m s (State.updSession t a1 a2) ↔ Touches m s t :=
  Touches.peel hm (by simp [State.updSession])

@[simp] theorem touches_setLeaf (hm : 16384 &&& m = 16384) : Touches m s (State.setLeaf t a1 a2) ↔ Touches m s t :=
  Touches.peel hm (by simp [State.setLeaf])

@[simp] theorem touches_setFrame (hm : 32768 &&& m = 32768) : Touches m s (State.setFrame t a1 a2) ↔ Touches m s t :=
  Touches.peel hm (by simp [State.setFrame])

@[simp] theorem touches_updFrame (hm : 32768 &&& m = 32768) : Touches m s (State.updFrame t a1 a2) ↔ Touches m s t :=
  Touches.peel hm (by simp [State.updFrame])

@[simp] theorem touches_setTable (hm : 16777216 &&& m = 16777216) : Touches m s (State.setTable t a1 a2) ↔ Touches m s t :=
  Touches.peel hm (by simp [State.setTable])

@[simp] theorem touches_setVoice (hm : 2147483648 &&& m = 2147483648) : Touches m s (State.setVoice t a1 a2) ↔ Touches m s t :=
  Touches.peel hm (by simp [State.setVoice])

@[simp] theorem touches_updVoice (hm : 2147483648 &&& m = 2147483648) : Touches m s (State.updVoice t a1 a2) ↔ Touches m s t :=
  Touches.peel hm (by simp [State.updVoice])

@[simp] theorem touches_setGranule (hm : 2199023255552 &&& m = 2199023255552) : Touches m s (State.setGranule t a1 a2) ↔ Touches m s t :=
  Touches.peel hm (by simp [State.setGranule])

@[simp] theorem touches_updGranule (hm : 2199023255552 &&& m = 2199023255552) : Touches m s (State.updGranule t a1 a2) ↔ Touches m s t :=
  Touches.peel hm (by simp [State.updGranule])

@[simp] theorem touches_updDrive (hm : 35184372088832 &&& m = 35184372088832) : Touches m s (State.updDrive t a1 a2) ↔ Touches m s t :=
  Touches.peel hm (by simp [State.updDrive])

@[simp] theorem touches_setDdr (hm : 140737488355328 &&& m = 140737488355328) : Touches m s (State.setDdr t a1 a2) ↔ Touches m s t :=
  Touches.peel hm (by simp [State.setDdr])

@[simp] theorem touches_setLink (hm : 9007199254740992 &&& m = 9007199254740992) : Touches m s (State.setLink t a1 a2) ↔ Touches m s t :=
  Touches.peel hm (by simp [State.setLink])

@[simp] theorem touches_updLink (hm : 9007199254740992 &&& m = 9007199254740992) : Touches m s (State.updLink t a1 a2) ↔ Touches m s t :=
  Touches.peel hm (by simp [State.updLink])

@[simp] theorem touches_setTag (hm : 18014398509481984 &&& m = 18014398509481984) : Touches m s (State.setTag t a1 a2) ↔ Touches m s t :=
  Touches.peel hm (by simp [State.setTag])

@[simp] theorem touches_setDir (hm : 36028797018963968 &&& m = 36028797018963968) : Touches m s (State.setDir t a1 a2) ↔ Touches m s t :=
  Touches.peel hm (by simp [State.setDir])

@[simp] theorem touches_setMark (hm : 1152921504606846976 &&& m = 1152921504606846976) : Touches m s (State.setMark t a1 a2) ↔ Touches m s t :=
  Touches.peel hm (by simp [State.setMark])

@[simp] theorem touches_updPart (hm : 18446744073709551616 &&& m = 18446744073709551616) : Touches m s (State.updPart t a1 a2) ↔ Touches m s t :=
  Touches.peel hm (by simp [State.updPart])

@[simp] theorem touches_setBook (hm : 4096 &&& m = 4096) : Touches m s (State.setBook t a1 a2) ↔ Touches m s t :=
  Touches.peel hm (by simp [State.setBook])

@[simp] theorem touches_emit (hm : 2 &&& m = 2) : Touches m s (State.emit t a1) ↔ Touches m s t :=
  Touches.peel hm (by simp [State.emit])

@[simp] theorem touches_each {act : State → α → State} (hm : 0 &&& m = 0)
    (hact : ∀ u x0, Touches m u (act u x0)) : Touches m s (State.each t a1 act) ↔ Touches m s t := by
  have hact' : ∀ {s u x0}, Touches m s (act u x0) ↔ Touches m s u := Touches.peel (Nat.and_self m) (hact _ _)
  have k : ∀ L, L &&& 0 = L → L &&& m = L := fun L h => Touches.sub h hm
  simp [State.each, k, hact']

@[simp] theorem touches_draw (hm : 4 &&& m = 4) : Touches m s (State.draw t).2 ↔ Touches m s t :=
  Touches.peel hm (by simp [State.draw])

@[simp] theorem touches_drawBytes (hm : 4 &&& m = 4) : Touches m s (State.drawBytes a1 t).2 ↔ Touches m s t :=
  Touches.peel hm (by 
    induction a1 generalizing t with
    | zero => simp [State.drawBytes]
    | succ n ih =>
      have ih' : ∀ {s t}, Touches 4 s (State.drawBytes n t).2 ↔ Touches 4 s t := Touches.peel (by decide) ih
      simp [State.drawBytes, ih'])

@[simp] theorem touches_setRwk (hm : 64 &&& m = 64) : Touches m s (State.setRwk t a1 a2) ↔ Touches m s t :=
  Touches.peel hm (by simp [State.setRwk])

@[simp] theorem touches_setReg (hm : 128 &&& m = 128) : Touches m s (State.setReg t a1 a2) ↔ Touches m s t :=
  Touches.peel hm (by simp [State.setReg])

@[simp] theorem touches_setRegFld (hm : 128 &&& m = 128) : Touches m s (State.setRegFld t a1 a2 a3 a4) ↔ Touches m s t :=
  Touches.peel hm (by simp [State.setRegFld])

@[simp] theorem touches_setRegBit (hm : 128 &&& m = 128) : Touches m s (State.setRegBit t a1 a2 a3) ↔ Touches m s t :=
  Touches.peel hm (by simp [State.setRegBit])

@[simp] theorem touches_count (hm : 128 &&& m = 128) : Touches m s (State.count t a1 a2) ↔ Touches m s t :=
  Touches.peel hm (by simp [State.count])

@[simp] theorem touches_count32 (hm : 128 &&& m = 128) : Touches m s (State.count32 t a1 a2) ↔ Touches m s t :=
  Touches.peel hm (by simp [State.count32])

@[simp] theorem touches_msix (hm : 258 &&& m = 258) : Touches m s (State.msix t a1 a2) ↔ Touches m s t :=
  Touches.peel hm (by simp [State.msix])

@[simp] theorem touches_vectorH0 (hm : 258 &&& m = 258) : Touches m s (State.vectorH0 t a1) ↔ Touches m s t :=
  Touches.peel hm (by simp [State.vectorH0])

@[simp] theorem touches_setPoison (hm : 549755813888 &&& m = 549755813888) : Touches m s (State.setPoison t a1 a2) ↔ Touches m s t :=
  Touches.peel hm (by simp [State.setPoison])

@[simp] theorem touches_putByte (hm : 274877906944 &&& m = 274877906944) : Touches m s (State.putByte t a1 a2) ↔ Touches m s t :=
  Touches.peel hm (by simp [State.putByte])

@[simp] theorem touches_putBytes (hm : 274877906944 &&& m = 274877906944) : Touches m s (State.putBytes t a1 a2) ↔ Touches m s t :=
  Touches.peel hm (by 
    induction a2 generalizing a1 t with
    | nil => simp [State.putBytes]
    | cons b l ih =>
      exact (touches_putByte (s := t) (by decide)).2 Touches.rfl |>.trans (ih (t := t.putByte a1 b) (a1 := a1 + 1)))

@[simp] theorem touches_rekey (hm : 1374389534720 &&& m = 1374389534720) : Touches m s (State.rekey t a1) ↔ Touches m s t :=
  Touches.peel hm (by simp [State.rekey])

@[simp] theorem touches_store (hm : 1924145348608 &&& m = 1924145348608) : Touches m s (State.store t a1 a2) ↔ Touches m s t :=
  Touches.peel hm (by simp [State.store])

@[simp] theorem touches_wipe (hm : 1924145348608 &&& m = 1924145348608) : Touches m s (State.wipe t a1 a2) ↔ Touches m s t :=
  Touches.peel hm (by simp [State.wipe])

@[simp] theorem touches_touchGranule (hm : 2199023255552 &&& m = 2199023255552) : Touches m s (State.touchGranule t a1) ↔ Touches m s t :=
  Touches.peel hm (by simp [State.touchGranule])

@[simp] theorem touches_placeWrite (hm : 2748779069440 &&& m = 2748779069440) : Touches m s (State.placeWrite t a1 a2 a3) ↔ Touches m s t :=
  Touches.peel hm (by unfold State.placeWrite; (repeat' (first | split | dsimp only)) <;> simp)

@[simp] theorem touches_poolWrite (hm : 4123168604160 &&& m = 4123168604160) : Touches m s (State.poolWrite t a1 a2) ↔ Touches m s t :=
  Touches.peel hm (by simp [State.poolWrite])

@[simp] theorem touches_logRecord (hm : 73786980418006810752 &&& m = 73786980418006810752) : Touches m s (State.logRecord t a1) ↔ Touches m s t :=
  Touches.peel hm (by simp [State.logRecord])

@[simp] theorem touches_recordOne (hm : 73786980418006811010 &&& m = 73786980418006811010) : Touches m s (State.recordOne t a1) ↔ Touches m s t :=
  Touches.peel hm (by unfold State.recordOne; simp only [Touches.ite_iff]; simp; split <;> simp)

@[simp] theorem touches_window (hm : 73786980418006811010 &&& m = 73786980418006811010) : Touches m s (State.window t a1) ↔ Touches m s t :=
  Touches.peel hm (by unfold State.window; (repeat' split) <;> simp)

@[simp] theorem touches_record (hm : 73786980418006811010 &&& m = 73786980418006811010) : Touches m s (State.record t a1) ↔ Touches m s t :=
  Touches.peel hm (by simp [State.record])

@[simp] theorem touches_setupError (hm : 73786980418006811010 &&& m = 73786980418006811010) : Touches m s (State.setupError t a1 a2 a3) ↔ Touches m s t :=
  Touches.peel hm (by simp [State.setupError])

@[simp] theorem touches_selfLateEvent (hm : 73786976294838206464 &&& m = 73786976294838206464) : Touches m s (State.selfLateEvent t) ↔ Touches m s t :=
  Touches.peel hm (by simp [State.selfLateEvent])

end Sys2Proof.Machine
end

