-- ==== Sys2Proof/Laws/Wire.lean ====
section
/-! SUPPORT. What each operation of Machine/Wire.lean may touch. -/

namespace Sys2Proof.Machine

variable {m : Nat} {s t : State}

@[simp] theorem touches_sendFlit (hm : 9007199254740994 &&& m = 9007199254740994) : Touches m s (State.sendFlit t a1 a2) ↔ Touches m s t :=
  Touches.peel hm (by simp [State.sendFlit])

@[simp] theorem touches_sendIdle (hm : 9007199254740994 &&& m = 9007199254740994) : Touches m s (State.sendIdle t a1 a2) ↔ Touches m s t :=
  Touches.peel hm (by simp [State.sendIdle])

@[simp] theorem touches_sendChunks (hm : 9007199254740994 &&& m = 9007199254740994) : Touches m s (State.sendChunks t a1 a2) ↔ Touches m s t :=
  Touches.peel hm (by simp [State.sendChunks])

@[simp] theorem touches_sendAll (hm : 9007199254740994 &&& m = 9007199254740994) : Touches m s (State.sendAll a1 a2 a3 t) ↔ Touches m s t :=
  Touches.peel hm (by
    induction a2 generalizing a1 a3 t with
    | zero => simp [State.sendAll]
    | succ n ih =>
      have ih' : ∀ {s t a1 a3}, Touches 9007199254740994 s (State.sendAll a1 n a3 t) ↔ Touches 9007199254740994 s t := Touches.peel (by decide) ih
      unfold State.sendAll; (repeat' (first | split | dsimp only)) <;> simp [ih'])

@[simp] theorem touches_pumpPort (hm : 9007199254740994 &&& m = 9007199254740994) : Touches m s (State.pumpPort t a1) ↔ Touches m s t :=
  Touches.peel hm (by simp [State.pumpPort])

@[simp] theorem touches_sendOn (hm : 9007199254740994 &&& m = 9007199254740994) : Touches m s (State.sendOn t a1 a2) ↔ Touches m s t :=
  Touches.peel hm (by simp [State.sendOn])

@[simp] theorem touches_sendControl (hm : 9007199254740994 &&& m = 9007199254740994) : Touches m s (State.sendControl t a1 a2 a3 a4 a5) ↔ Touches m s t :=
  Touches.peel hm (by simp [State.sendControl])

end Sys2Proof.Machine
end

