-- ==== Sys2Proof/Laws/Route.lean ====
section
/-! SUPPORT. What each operation of Machine/Route.lean may touch. -/

namespace Sys2Proof.Machine

variable {m : Nat} {s t : State}

@[simp] theorem touches_post (hm : 576460752303423488 &&& m = 576460752303423488) : Touches m s (State.post t a1) ↔ Touches m s t :=
  Touches.peel hm (by simp [State.post])

@[simp] theorem touches_routeRsp (hm : 585467951558164482 &&& m = 585467951558164482) : Touches m s (State.routeRsp t a1 a2) ↔ Touches m s t :=
  Touches.peel hm (by unfold State.routeRsp; (repeat' (first | split | dsimp only)) <;> simp)

@[simp] theorem touches_sendRsp (hm : 585467951558164482 &&& m = 585467951558164482) : Touches m s (State.sendRsp t a1 a2) ↔ Touches m s t :=
  Touches.peel hm (by simp [State.sendRsp])

@[simp] theorem touches_sendSnp (hm : 585467951558164482 &&& m = 585467951558164482) : Touches m s (State.sendSnp t a1 a2) ↔ Touches m s t :=
  Touches.peel hm (by unfold State.sendSnp; (repeat' (first | split | dsimp only)) <;> simp)

@[simp] theorem touches_unreachable (hm : 585467951558164610 &&& m = 585467951558164610) : Touches m s (State.unreachable t a1) ↔ Touches m s t :=
  Touches.peel hm (by simp [State.unreachable])

@[simp] theorem touches_sendReq (hm : 585467951558164610 &&& m = 585467951558164610) : Touches m s (State.sendReq t a1 a2) ↔ Touches m s t :=
  Touches.peel hm (by unfold State.sendReq; (repeat' (first | split | dsimp only)) <;> simp)

@[simp] theorem touches_takeTag (hm : 18014398509481984 &&& m = 18014398509481984) : Touches m s (State.takeTag t a1 a2) ↔ Touches m s t :=
  Touches.peel hm (by simp [State.takeTag])

@[simp] theorem touches_sendEngine (hm : 603482350067646594 &&& m = 603482350067646594) : Touches m s (State.sendEngine t a1 a2) ↔ Touches m s t :=
  Touches.peel hm (by simp [State.sendEngine])

@[simp] theorem touches_engineReq (hm : 590899292708773298306 &&& m = 590899292708773298306) : Touches m s (State.engineReq t a1) ↔ Touches m s t :=
  Touches.peel hm (by unfold State.engineReq; (repeat' (first | split | dsimp only)) <;> simp)

@[simp] theorem touches_pumpEngines (hm : 590899292708773298306 &&& m = 590899292708773298306) : Touches m s (State.pumpEngines a1 t) ↔ Touches m s t :=
  Touches.peel hm (by
    induction a1 generalizing t with
    | zero => simp [State.pumpEngines]
    | succ n ih =>
      have ih' : ∀ {s t }, Touches 590899292708773298306 s (State.pumpEngines n t) ↔ Touches 590899292708773298306 s t := Touches.peel (by decide) ih
      unfold State.pumpEngines; (repeat' (first | split | dsimp only)) <;> simp [ih'])

@[simp] theorem touches_pumpEngineQ (hm : 590899292708773298306 &&& m = 590899292708773298306) : Touches m s (State.pumpEngineQ t) ↔ Touches m s t :=
  Touches.peel hm (by simp [State.pumpEngineQ])

@[simp] theorem touches_dropEngines (hm : 1770905445474626437120 &&& m = 1770905445474626437120) : Touches m s (State.dropEngines t a1) ↔ Touches m s t :=
  Touches.peel hm (by simp [State.dropEngines])

@[simp] theorem touches_mgOut (hm : 9007199254740998 &&& m = 9007199254740998) : Touches m s (State.mgOut t a1 a2 a3) ↔ Touches m s t :=
  Touches.peel hm (by simp [State.mgOut])

@[simp] theorem touches_sendMg (hm : 56668424816033506787334 &&& m = 56668424816033506787334) : Touches m s (State.sendMg t a1) ↔ Touches m s t :=
  Touches.peel hm (by unfold State.sendMg; dsimp only; (repeat' split) <;> simp)

@[simp] theorem touches_pumpMg (hm : 56668424816033506787334 &&& m = 56668424816033506787334) : Touches m s (State.pumpMg a1 t) ↔ Touches m s t :=
  Touches.peel hm (by
    induction a1 generalizing t with
    | zero => simp [State.pumpMg]
    | succ n ih =>
      have ih' : ∀ {s t }, Touches 56668424816033506787334 s (State.pumpMg n t) ↔ Touches 56668424816033506787334 s t := Touches.peel (by decide) ih
      unfold State.pumpMg; (repeat' (first | split | dsimp only)) <;> (try simp [ih']) <;> exact fun f hf => by cases f <;> first | exact Eq.refl _ | exact absurd hf (by decide))

@[simp] theorem touches_mgAnswered (hm : 18889483945877090336768 &&& m = 18889483945877090336768) : Touches m s (State.mgAnswered t a1) ↔ Touches m s t :=
  Touches.peel hm (by unfold State.mgAnswered; (repeat' (first | split | dsimp only)) <;> simp)

@[simp] theorem touches_mgLate (hm : 18889483945877090336896 &&& m = 18889483945877090336896) : Touches m s (State.mgLate t a1) ↔ Touches m s t :=
  Touches.peel hm (by unfold State.mgLate; (repeat' (first | split | dsimp only)) <;> simp)

@[simp] theorem touches_mgServe {act : State → State} (hm : 9007199254740998 &&& m = 9007199254740998)
    (hact : ∀ u, Touches m u (act u)) : Touches m s (State.mgServe t a1 act) ↔ Touches m s t := by
  have hact' : ∀ {s u}, Touches m s (act u) ↔ Touches m s u := Touches.peel (Nat.and_self m) (hact _)
  have k : ∀ L, L &&& 9007199254740998 = L → L &&& m = L := fun L h => Touches.sub h hm
  simp only [State.mgServe, State.draw, State.post]; (repeat' (first | split | dsimp only)) <;> simp [k, hact']

@[simp] theorem touches_dropCame (hm : 1180591620717411303424 &&& m = 1180591620717411303424) : Touches m s (State.dropCame t a1) ↔ Touches m s t :=
  Touches.peel hm (by simp [State.dropCame])

end Sys2Proof.Machine
end

