-- ==== Sys2Proof/Laws/Place.lean ====
section
/-! SUPPORT. What each operation of Machine/Place.lean may touch. -/

namespace Sys2Proof.Machine

variable {m : Nat} {s t : State}

@[simp] theorem touches_driveCmd (hm : 2 &&& m = 2) : Touches m s (State.driveCmd t a1 a2 a3 a4) ↔ Touches m s t :=
  Touches.peel hm (by simp [State.driveCmd])

@[simp] theorem touches_pumpDriveN (hm : 35184372088834 &&& m = 35184372088834) : Touches m s (State.pumpDriveN a1 a2 t) ↔ Touches m s t :=
  Touches.peel hm (by
    induction a2 generalizing a1 t with
    | zero => simp [State.pumpDriveN]
    | succ n ih =>
      have ih' : ∀ {s t a1}, Touches 35184372088834 s (State.pumpDriveN a1 n t) ↔ Touches 35184372088834 s t := Touches.peel (by decide) ih
      unfold State.pumpDriveN; (repeat' (first | split | dsimp only)) <;> simp [ih'])

@[simp] theorem touches_pumpDrive (hm : 35184372088834 &&& m = 35184372088834) : Touches m s (State.pumpDrive t a1) ↔ Touches m s t :=
  Touches.peel hm (by simp [State.pumpDrive])

@[simp] theorem touches_issueDrive (hm : 35184372088834 &&& m = 35184372088834) : Touches m s (State.issueDrive t a1 a2) ↔ Touches m s t :=
  Touches.peel hm (by simp [State.issueDrive])

@[simp] theorem touches_toDense (hm : 2199023255552 &&& m = 2199023255552) : Touches m s (State.toDense t a1) ↔ Touches m s t :=
  Touches.peel hm (by simp [State.toDense])

@[simp] theorem touches_demote (hm : 2199023255552 &&& m = 2199023255552) : Touches m s (State.demote t a1) ↔ Touches m s t :=
  Touches.peel hm (by unfold State.demote; (repeat' (first | split | dsimp only)) <;> simp)

@[simp] theorem touches_demoteOldest (hm : 2199023255552 &&& m = 2199023255552) : Touches m s (State.demoteOldest a1 a2 t) ↔ Touches m s t :=
  Touches.peel hm (by 
    induction a2 generalizing t with
    | zero => simp [State.demoteOldest]
    | succ n ih =>
      have ih' : ∀ {s t}, Touches 2199023255552 s (State.demoteOldest a1 n t) ↔ Touches 2199023255552 s t := Touches.peel (by decide) ih
      unfold State.demoteOldest; split <;> simp [ih'])

@[simp] theorem touches_pressure (hm : 2199023255552 &&& m = 2199023255552) : Touches m s (State.pressure t a1) ↔ Touches m s t :=
  Touches.peel hm (by simp [State.pressure])

@[simp] theorem touches_fillFrame (hm : 37383395344386 &&& m = 37383395344386) : Touches m s (State.fillFrame t a1 a2) ↔ Touches m s t :=
  Touches.peel hm (by unfold State.fillFrame; (repeat' (first | split | dsimp only)) <;> simp)

@[simp] theorem touches_startFill (hm : 37383395344386 &&& m = 37383395344386) : Touches m s (State.startFill t a1 a2 a3) ↔ Touches m s t :=
  Touches.peel hm (by simp [State.startFill])

@[simp] theorem touches_fillsGoOn (hm : 37383395344386 &&& m = 37383395344386) : Touches m s (State.fillsGoOn t) ↔ Touches m s t :=
  Touches.peel hm (by 
    unfold State.fillsGoOn
    rw [Touches.each]
    · simp
    · intro u e; dsimp only; (repeat' split) <;> simp)

@[simp] theorem touches_demand (hm : 37383395344386 &&& m = 37383395344386) : Touches m s (State.demand t a1 a2 a3) ↔ Touches m s t :=
  Touches.peel hm (by simp [State.demand])

@[simp] theorem touches_raiseTo (hm : 2199023255552 &&& m = 2199023255552) : Touches m s (State.raiseTo t a1 a2) ↔ Touches m s t :=
  Touches.peel hm (by unfold State.raiseTo; (repeat' (first | split | dsimp only)) <;> simp)

@[simp] theorem touches_raise (hm : 2199023255552 &&& m = 2199023255552) : Touches m s (State.raise t a1) ↔ Touches m s t :=
  Touches.peel hm (by simp [State.raise])

@[simp] theorem touches_promote (hm : 37383395344386 &&& m = 37383395344386) : Touches m s (State.promote t a1 a2) ↔ Touches m s t :=
  Touches.peel hm (by unfold State.promote; (repeat' (first | split | dsimp only)) <;> simp)

@[simp] theorem touches_risesGoOn (hm : 37383395344386 &&& m = 37383395344386) : Touches m s (State.risesGoOn t) ↔ Touches m s t :=
  Touches.peel hm (by simp [State.risesGoOn])

@[simp] theorem touches_zeroGranule (hm : 39307540692994 &&& m = 39307540692994) : Touches m s (State.zeroGranule t a1) ↔ Touches m s t :=
  Touches.peel hm (by unfold State.zeroGranule; (repeat' (first | split | dsimp only)) <;> simp)

@[simp] theorem touches_dropGranule (hm : 39307540693122 &&& m = 39307540693122) : Touches m s (State.dropGranule t a1) ↔ Touches m s t :=
  Touches.peel hm (by unfold State.dropGranule; (repeat' (first | split | dsimp only)) <;> simp)

@[simp] theorem touches_holdDram (hm : 2199023255552 &&& m = 2199023255552) : Touches m s (State.holdDram t a1) ↔ Touches m s t :=
  Touches.peel hm (by simp [State.holdDram])

@[simp] theorem touches_pin (hm : 2199023255552 &&& m = 2199023255552) : Touches m s (State.pin t a1 a2) ↔ Touches m s t :=
  Touches.peel hm (by simp [State.pin])

@[simp] theorem touches_unpin (hm : 2199023255552 &&& m = 2199023255552) : Touches m s (State.unpin t a1) ↔ Touches m s t :=
  Touches.peel hm (by simp [State.unpin])

@[simp] theorem touches_poisonError (hm : 73786980418006811010 &&& m = 73786980418006811010) : Touches m s (State.poisonError t a1 a2) ↔ Touches m s t :=
  Touches.peel hm (by simp [State.poisonError])

end Sys2Proof.Machine
end

