-- ==== Sys2Proof/Laws/Operands.lean ====
section
/-! SUPPORT. What each operation of Machine/Operands.lean may touch. -/

namespace Sys2Proof.Machine

variable {m : Nat} {s t : State}

@[simp] theorem touches_tlbUse (hm : 281474976710656 &&& m = 281474976710656) : Touches m s (State.tlbUse t a1) ↔ Touches m s t :=
  Touches.peel hm (by simp [State.tlbUse])

@[simp] theorem touches_tlbRoom (hm : 281474976710660 &&& m = 281474976710660) : Touches m s (State.tlbRoom t a1) ↔ Touches m s t :=
  Touches.peel hm (by simp only [State.tlbRoom, State.draw]; (repeat' split) <;> simp)

@[simp] theorem touches_tlbLoad (hm : 281474976710660 &&& m = 281474976710660) : Touches m s (State.tlbLoad t a1 a2 a3 a4) ↔ Touches m s t :=
  Touches.peel hm (by simp [State.tlbLoad])

@[simp] theorem touches_walkKeep (hm : 562949953421316 &&& m = 562949953421316) : Touches m s (State.walkKeep t a1) ↔ Touches m s t :=
  Touches.peel hm (by simp only [State.walkKeep, State.draw]; (repeat' split) <;> simp)

@[simp] theorem touches_walkLoad (hm : 844424930131972 &&& m = 844424930131972) : Touches m s (State.walkLoad a1 a2 a3 a4 a5 t) ↔ Touches m s t :=
  Touches.peel hm (by
    induction a4 generalizing t a5 with
    | zero => unfold State.walkLoad; dsimp only; (repeat' split) <;> simp
    | succ n ih =>
      have ih' : ∀ {s t a}, Touches 844424930131972 s (State.walkLoad a1 a2 a3 n a t) ↔ Touches 844424930131972 s t := Touches.peel (by decide) ih
      unfold State.walkLoad; dsimp only; (repeat' split) <;> simp [ih'])

@[simp] theorem touches_xlatUse (hm : 844424930132100 &&& m = 844424930132100) : Touches m s (State.xlatUse t a1 a2 a3) ↔ Touches m s t :=
  Touches.peel hm (by unfold State.xlatUse; (repeat' split) <;> simp)

@[simp] theorem touches_xlatRange (hm : 844424930132100 &&& m = 844424930132100) : Touches m s (State.xlatRange a1 a2 a3 t a4 a5) ↔ Touches m s t :=
  Touches.peel hm (by
    induction a3 generalizing t a4 a5 with
    | zero => simp [State.xlatRange]
    | succ n ih =>
      have ih' : ∀ {s t a b}, Touches 844424930132100 s (State.xlatRange a1 a2 n t a b) ↔ Touches 844424930132100 s t := Touches.peel (by decide) ih
      unfold State.xlatRange; (repeat' split) <;> simp [ih'])

@[simp] theorem touches_xlatRead (hm : 844424930132100 &&& m = 844424930132100) : Touches m s (State.xlatRead t a1 a2 a3 a4 a5) ↔ Touches m s t :=
  Touches.peel hm (by simp [State.xlatRead])

@[simp] theorem touches_keepBlock (hm : 4503599627370496 &&& m = 4503599627370496) : Touches m s (State.keepBlock t a1 a2 a3) ↔ Touches m s t :=
  Touches.peel hm (by simp [State.keepBlock])

@[simp] theorem touches_blockError (hm : 73786980418006811010 &&& m = 73786980418006811010) : Touches m s (State.blockError t a1 a2 a3) ↔ Touches m s t :=
  Touches.peel hm (by simp [State.blockError])

@[simp] theorem touches_blockExpanded (hm : 73791484017634181506 &&& m = 73791484017634181506) : Touches m s (State.blockExpanded t a1 a2) ↔ Touches m s t :=
  Touches.peel hm (by unfold State.blockExpanded; (repeat' (first | split | dsimp only)) <;> simp)

@[simp] theorem touches_blockUse (hm : 73791484017634181506 &&& m = 73791484017634181506) : Touches m s (State.blockUse t a1) ↔ Touches m s t :=
  Touches.peel hm (by unfold State.blockUse; (repeat' (first | split | dsimp only)) <;> simp)

@[simp] theorem touches_touchPiece (hm : 73791484017634181506 &&& m = 73791484017634181506) : Touches m s (State.touchPiece t a1 a2 a3) ↔ Touches m s t :=
  Touches.peel hm (by unfold State.touchPiece; (repeat' (first | split | dsimp only)) <;> simp)

@[simp] theorem touches_readUse (hm : 73792328442564313478 &&& m = 73792328442564313478) : Touches m s (State.readUse t a1 a2 a3 a4 a5) ↔ Touches m s t :=
  Touches.peel hm (by simp [State.readUse])

@[simp] theorem touches_xltFault (hm : 128 &&& m = 128) : Touches m s (State.xltFault t a1 a2 a3 a4 a5 a6) ↔ Touches m s t :=
  Touches.peel hm (by simp [State.xltFault])

@[simp] theorem touches_hostWriteP (hm : 2 &&& m = 2) : Touches m s (State.hostWriteP t a1 a2 a3) ↔ Touches m s t :=
  Touches.peel hm (by simp [State.hostWriteP])

@[simp] theorem touches_sendBlock (hm : 590899292708773298306 &&& m = 590899292708773298306) : Touches m s (State.sendBlock t a1 a2 a3 a4 a5 a6) ↔ Touches m s t :=
  Touches.peel hm (by simp [State.sendBlock])

@[simp] theorem touches_poolWriteP (hm : 4123168604160 &&& m = 4123168604160) : Touches m s (State.poolWriteP t a1 a2) ↔ Touches m s t :=
  Touches.peel hm (by simp [State.poolWriteP])

@[simp] theorem touches_putLocal (hm : 590899296831941902466 &&& m = 590899296831941902466) : Touches m s (State.putLocal t a1 a2 a3 a4 a5) ↔ Touches m s t :=
  Touches.peel hm (by simp [State.putLocal])

@[simp] theorem touches_putFunc (hm : 590899296831941902466 &&& m = 590899296831941902466) : Touches m s (State.putFunc t a1 a2 a3) ↔ Touches m s t :=
  Touches.peel hm (by simp [State.putFunc])

@[simp] theorem touches_putRemote (hm : 590899292708773298306 &&& m = 590899292708773298306) : Touches m s (State.putRemote t a1 a2 a3 a4 a5 a6) ↔ Touches m s t :=
  Touches.peel hm (by simp [State.putRemote])

@[simp] theorem touches_ask (hm : 590899330092168642690 &&& m = 590899330092168642690) : Touches m s (State.ask t a1 a2) ↔ Touches m s t :=
  Touches.peel hm (by
    unfold State.ask
    rw [Touches.each]
    · simp
    · intro u a; (repeat' (first | split | dsimp only)) <;> simp)

@[simp] theorem touches_askLocal (hm : 590899330092168642690 &&& m = 590899330092168642690) : Touches m s (State.askLocal t a1 a2) ↔ Touches m s t :=
  Touches.peel hm (by simp [State.askLocal])

@[simp] theorem touches_scatter (hm : 590900141256872034438 &&& m = 590900141256872034438) : Touches m s (State.scatter a1 a2 t a3 a4).1 ↔ Touches m s t :=
  Touches.peel hm (by
    induction a2 generalizing a1 t a3 a4 with
    | zero => simp [State.scatter]
    | succ n ih =>
      have ih' : ∀ {s t a1 a3 a4}, Touches 590900141256872034438 s (State.scatter a1 n t a3 a4).1 ↔ Touches 590900141256872034438 s t := Touches.peel (by decide) ih
      unfold State.scatter; (repeat' (first | split | dsimp only)) <;> simp [ih'])

@[simp] theorem touches_noteRefusal (hm : 128 &&& m = 128) : Touches m s (State.noteRefusal t a1 a2 a3 a4 a5) ↔ Touches m s t :=
  Touches.peel hm (by unfold State.noteRefusal; (repeat' split) <;> simp)

@[simp] theorem touches_poisonedRead (hm : 73786980418006811010 &&& m = 73786980418006811010) : Touches m s (State.poisonedRead t a1 a2 a3 a4) ↔ Touches m s t :=
  Touches.peel hm (by unfold State.poisonedRead; (repeat' (first | split | dsimp only)) <;> simp)

end Sys2Proof.Machine
end

