-- ==== Sys2Proof/Laws/Records.lean ====
section
/-! SUPPORT. What each operation of Machine/Records.lean may touch. -/

namespace Sys2Proof.Machine

variable {m : Nat} {s t : State}

@[simp] theorem touches_ringError (hm : 73786980418006811522 &&& m = 73786980418006811522) : Touches m s (State.ringError t a1 a2) ↔ Touches m s t :=
  Touches.peel hm (by simp [State.ringError])

@[simp] theorem touches_ringSignal (hm : 770 &&& m = 770) : Touches m s (State.ringSignal t a1) ↔ Touches m s t :=
  Touches.peel hm (by simp [State.ringSignal])

@[simp] theorem touches_ringVisible (hm : 770 &&& m = 770) : Touches m s (State.ringVisible t a1 a2) ↔ Touches m s t :=
  Touches.peel hm (by simp [State.ringVisible])

@[simp] theorem touches_ringShown (hm : 770 &&& m = 770) : Touches m s (State.ringShown t a1) ↔ Touches m s t :=
  Touches.peel hm (by simp [State.ringShown])

@[simp] theorem touches_dropRecord (hm : 73786980418006811522 &&& m = 73786980418006811522) : Touches m s (State.dropRecord t a1 a2) ↔ Touches m s t :=
  Touches.peel hm (by simp [State.dropRecord])

@[simp] theorem touches_deliver (hm : 664687117551710241670 &&& m = 664687117551710241670) : Touches m s (State.deliver t a1 a2 a3) ↔ Touches m s t :=
  Touches.peel hm (by unfold State.deliver; (repeat' (first | split | dsimp only)) <;> simp)

@[simp] theorem touches_flushEnded (hm : 664687117551710241670 &&& m = 664687117551710241670) : Touches m s (State.flushEnded a1 a2 t) ↔ Touches m s t :=
  Touches.peel hm (by 
    induction a2 generalizing t with
    | zero => simp [State.flushEnded]
    | succ n ih =>
      have ih' : ∀ {s t}, Touches 664687117551710241670 s (State.flushEnded a1 n t) ↔ Touches 664687117551710241670 s t := Touches.peel (by decide) ih
      unfold State.flushEnded; try dsimp only; (repeat' split) <;> simp [ih'])

@[simp] theorem touches_settle (hm : 664687117551710241670 &&& m = 664687117551710241670) : Touches m s (State.settle t a1) ↔ Touches m s t :=
  Touches.peel hm (by simp [State.settle])

@[simp] theorem touches_setFlight (hm : 512 &&& m = 512) : Touches m s (State.setFlight t a1 a2 a3) ↔ Touches m s t :=
  Touches.peel hm (by simp [State.setFlight])

@[simp] theorem touches_setStage (hm : 512 &&& m = 512) : Touches m s (State.setStage t a1 a2 a3) ↔ Touches m s t :=
  Touches.peel hm (by simp [State.setStage])

@[simp] theorem touches_endStage (hm : 1180591620717411303936 &&& m = 1180591620717411303936) : Touches m s (State.endStage t a1 a2 a3) ↔ Touches m s t :=
  Touches.peel hm (by simp [State.endStage])

@[simp] theorem touches_finish (hm : 1845278738269121545094 &&& m = 1845278738269121545094) : Touches m s (State.finish t a1 a2 a3) ↔ Touches m s t :=
  Touches.peel hm (by simp [State.finish])

@[simp] theorem touches_landed (hm : 664687117551710241670 &&& m = 664687117551710241670) : Touches m s (State.landed t a1 a2) ↔ Touches m s t :=
  Touches.peel hm (by simp [State.landed])

end Sys2Proof.Machine
end

