-- ==== Sys2Proof/Laws/SessBase.lean ====
section
/-! SUPPORT. What each operation of Machine/SessBase.lean may touch. -/

namespace Sys2Proof.Machine

variable {m : Nat} {s t : State}

@[simp] theorem touches_recrc (hm : 32768 &&& m = 32768) : Touches m s (State.recrc t a1 a2) ↔ Touches m s t :=
  Touches.peel hm (by simp [State.recrc])

@[simp] theorem touches_crcError (hm : 73786980418006811010 &&& m = 73786980418006811010) : Touches m s (State.crcError t a1 a2) ↔ Touches m s t :=
  Touches.peel hm (by simp [State.crcError])

@[simp] theorem touches_writePage (hm : 590899296831941935234 &&& m = 590899296831941935234) : Touches m s (State.writePage t a1 a2 a3 a4) ↔ Touches m s t :=
  Touches.peel hm (by simp [State.writePage])

@[simp] theorem touches_zeroFrame (hm : 590899332016313991298 &&& m = 590899332016313991298) : Touches m s (State.zeroFrame t a1) ↔ Touches m s t :=
  Touches.peel hm (by simp [State.zeroFrame])

theorem touches_allocPage {u : State} (h : State.allocPage t a1 a2 a3 = some (u, x)) (hm : 590899332016314024066 &&& m = 590899332016314024066) : Touches m s u ↔ Touches m s t := by
  refine Touches.peel hm ?_
  unfold State.allocPage at h; split at h
  · cases h
  · cases h; simp

@[simp] theorem touches_setUnit (hm : 32768 &&& m = 32768) : Touches m s (State.setUnit t a1 a2) ↔ Touches m s t :=
  Touches.peel hm (by simp [State.setUnit])

theorem touches_allocUnits {u : State} (h : State.allocUnits t a1 a2 = some (u, x)) (hm : 590899332016314024066 &&& m = 590899332016314024066) : Touches m s u ↔ Touches m s t := by
  refine Touches.peel hm ?_
  unfold State.allocUnits at h; dsimp only at h; (repeat' split at h) <;> cases h <;> simp

@[simp] theorem touches_setLeafCount (hm : 49152 &&& m = 49152) : Touches m s (State.setLeafCount t a1 a2) ↔ Touches m s t :=
  Touches.peel hm (by simp [State.setLeafCount])

@[simp] theorem touches_dropPageRef (hm : 4227072 &&& m = 4227072) : Touches m s (State.dropPageRef t a1) ↔ Touches m s t :=
  Touches.peel hm (by simp [State.dropPageRef])

@[simp] theorem touches_addPageRef (hm : 32768 &&& m = 32768) : Touches m s (State.addPageRef t a1) ↔ Touches m s t :=
  Touches.peel hm (by simp [State.addPageRef])

@[simp] theorem touches_reclaimEntry (hm : 4243456 &&& m = 4243456) : Touches m s (State.reclaimEntry t a1) ↔ Touches m s t :=
  Touches.peel hm (by 
    unfold State.reclaimEntry; try dsimp only
    rw [Touches.each]
    · simp
    · intro u e; split <;> simp)

@[simp] theorem touches_loseSession (hm : 73786980418006819202 &&& m = 73786980418006819202) : Touches m s (State.loseSession t a1) ↔ Touches m s t :=
  Touches.peel hm (by simp [State.loseSession])

@[simp] theorem touches_endItemsOf (hm : 4096 &&& m = 4096) : Touches m s (State.endItemsOf t a1 a2 a3) ↔ Touches m s t :=
  Touches.peel hm (by simp [State.endItemsOf])

@[simp] theorem touches_freeEntry (hm : 4722366482869647847424 &&& m = 4722366482869647847424) : Touches m s (State.freeEntry t a1) ↔ Touches m s t :=
  Touches.peel hm (by unfold State.freeEntry; (repeat' (first | split | dsimp only)) <;> (try simp) <;> exact fun f hf => by cases f <;> first | exact Eq.refl _ | exact absurd hf (by decide))

@[simp] theorem touches_sesLoad (hm : 9444732965739290427524 &&& m = 9444732965739290427524) : Touches m s (State.sesLoad t a1) ↔ Touches m s t :=
  Touches.peel hm (by unfold State.sesLoad; (repeat' (first | split | dsimp only)) <;> simp)

@[simp] theorem touches_wakeCheck (hm : 8192 &&& m = 8192) : Touches m s (State.wakeCheck t a1) ↔ Touches m s t :=
  Touches.peel hm (by simp [State.wakeCheck])

@[simp] theorem touches_wakeSession (hm : 37383395352578 &&& m = 37383395352578) : Touches m s (State.wakeSession t a1) ↔ Touches m s t :=
  Touches.peel hm (by 
    unfold State.wakeSession; try dsimp only
    rw [touches_wakeCheck (by decide), Touches.each]
    · simp
    · intro u e; simp)

@[simp] theorem touches_touchSession (hm : 56668424853416902139910 &&& m = 56668424853416902139910) : Touches m s (State.touchSession t a1) ↔ Touches m s t :=
  Touches.peel hm (by simp [State.touchSession])

@[simp] theorem touches_wakeChecks (hm : 8192 &&& m = 8192) : Touches m s (State.wakeChecks t) ↔ Touches m s t :=
  Touches.peel hm (by simp [State.wakeChecks])

@[simp] theorem touches_copyRows (hm : 590899296831941935234 &&& m = 590899296831941935234) : Touches m s (State.copyRows t a1 a2 a3 a4 a5) ↔ Touches m s t :=
  Touches.peel hm (by
    unfold State.copyRows
    rw [Touches.each]
    · simp
    · intro u a; (repeat' (first | split | dsimp only)) <;> simp)

theorem touches_ownLeaf {u : State} (h : State.ownLeaf t a1 a2 a3 = some (u, x)) (hm : 590899332016314048642 &&& m = 590899332016314048642) : Touches m s u ↔ Touches m s t := by
  refine Touches.peel hm ?_
  unfold State.ownLeaf at h; dsimp only at h; (repeat' split at h)
  all_goals first | cases h; done | (cases h; simp; done) | (cases h; simp; exact (touches_allocUnits (by assumption) (by decide)).2 Touches.rfl)

theorem touches_appendPage {u : State} (h : State.appendPage t a1 a2 a3 a4 = some (u, x)) (hm : 590899332016318242946 &&& m = 590899332016318242946) : Touches m s u ↔ Touches m s t := by
  refine Touches.peel hm ?_
  unfold State.appendPage at h
  dsimp only at h
  split at h
  · split at h
    · cases h; simp
    · split at h
      · cases h
      · rename_i hl
        split at h
        · cases h
        · rename_i hp
          have h1 := (touches_allocPage (m := 590899332016318242946) (s := t) hp (by decide)).2 ((touches_ownLeaf hl (by decide)).2 Touches.rfl)
          cases h; split <;> (simp; exact h1)
  · split at h
    · cases h
    · rename_i hl
      split at h
      · cases h
      · rename_i hp
        have h1 := (touches_allocPage (m := 590899332016318242946) (s := t) hp (by decide)).2 ((touches_ownLeaf hl (by decide)).2 Touches.rfl)
        cases h; simp; exact h1

theorem touches_appendOne {u : State} (h : State.appendOne t a1 a2 a3 a4 a5 = some u) (hm : 590899332016318242946 &&& m = 590899332016318242946) : Touches m s u ↔ Touches m s t := by
  refine Touches.peel hm ?_
  unfold State.appendOne at h; split at h
  · cases h
  · cases h
    rw [touches_updFrame (by decide), Touches.each]
    · exact (touches_appendPage (by assumption) (by decide)).2 Touches.rfl
    · intro u e; simp

theorem touches_appendRows {u : State} (h : State.appendRows a1 a2 a3 a4 a5 a6 a7 t = some u) (hm : 590899332016318242946 &&& m = 590899332016318242946) : Touches m s u ↔ Touches m s t := by
  refine Touches.peel hm ?_
  clear hm
  induction a5 generalizing a6 a7 t with
  | zero => cases h; simp
  | succ n ih =>
    unfold State.appendRows at h; split at h
    · cases h
    · exact ((touches_appendOne (by assumption) (by decide)).2 Touches.rfl).trans (ih h)

end Sys2Proof.Machine
end

