-- ==== Sys2Proof/Laws/Guard.lean ====
section
/-! SUPPORT. What each operation of Machine/Guard.lean may touch. -/

namespace Sys2Proof.Machine

variable {m : Nat} {s t : State}

@[simp] theorem touches_wakeTrigger (hm : 147573952589676412928 &&& m = 147573952589676412928) : Touches m s (State.wakeTrigger t a1) ↔ Touches m s t :=
  Touches.peel hm (by simp [State.wakeTrigger])

@[simp] theorem touches_whenAwake {act : State → State} (hm : 147573952589676412928 &&& m = 147573952589676412928) (hf : ∀ u, Touches m u (act u)) :
    Touches m s (State.whenAwake t a1 a2 act) ↔ Touches m s t := by
  have k : ∀ L, L &&& 147573952589676412928 = L → L &&& m = L := fun L h => Touches.sub h hm
  have hf' : ∀ {s u}, Touches m s (act u) ↔ Touches m s u := fun {s u} => Touches.peel (Nat.and_self m) (hf u)
  exact Touches.peel (Nat.and_self m) (by simp [State.whenAwake, k, hf'])

@[simp] theorem touches_whenServed {act : State → State} (hm : 147573952589676412928 &&& m = 147573952589676412928) (hf : ∀ u, Touches m u (act u)) :
    Touches m s (State.whenServed t a1 act) ↔ Touches m s t := by
  have k : ∀ L, L &&& 147573952589676412928 = L → L &&& m = L := fun L h => Touches.sub h hm
  have hf' : ∀ {s u}, Touches m s (act u) ↔ Touches m s u := fun {s u} => Touches.peel (Nat.and_self m) (hf u)
  exact Touches.peel (Nat.and_self m) (by simp [State.whenServed, k, hf'])

@[simp] theorem touches_setupWrite_go {act : State → State} (hm : 73786980418006811010 &&& m = 73786980418006811010) (hf : ∀ u, Touches m u (act u)) :
    Touches m s (State.setupWrite.go a1 a2 a3 a4 act t) ↔ Touches m s t := by
  have k : ∀ L, L &&& 73786980418006811010 = L → L &&& m = L := fun L h => Touches.sub h hm
  have hf' : ∀ {s u}, Touches m s (act u) ↔ Touches m s u := fun {s u} => Touches.peel (Nat.and_self m) (hf u)
  exact Touches.peel (Nat.and_self m) (by unfold State.setupWrite.go; (repeat' split) <;> simp [k, hf'])

@[simp] theorem touches_setupWrite {act : State → State} (hm : 221360933007683223938 &&& m = 221360933007683223938) (hf : ∀ u, Touches m u (act u)) :
    Touches m s (State.setupWrite t a1 a2 a3 a4 a5 act) ↔ Touches m s t := by
  have k : ∀ L, L &&& 221360933007683223938 = L → L &&& m = L := fun L h => Touches.sub h hm
  have hf' : ∀ {s u}, Touches m s (act u) ↔ Touches m s u := fun {s u} => Touches.peel (Nat.and_self m) (hf u)
  exact Touches.peel (Nat.and_self m) (by 
    have hg : ∀ {s u}, Touches m s (State.setupWrite.go a1 a2 a3 a4 act u) ↔ Touches m s u :=
      touches_setupWrite_go (k _ (by decide)) hf
    unfold State.setupWrite; split <;> simp [k, hg])

end Sys2Proof.Machine
end

