-- ==== Sys2Proof/Laws/Ring.lean ====
section
/-! SUPPORT. What each operation of Machine/Ring.lean may touch. -/

namespace Sys2Proof.Machine

variable {m : Nat} {s t : State}

@[simp] theorem touches_holdNear (hm : 37383395344386 &&& m = 37383395344386) : Touches m s (State.holdNear t a1) ↔ Touches m s t :=
  Touches.peel hm (by simp [State.holdNear])

@[simp] theorem touches_unholdNear (hm : 2199023255552 &&& m = 2199023255552) : Touches m s (State.unholdNear t a1) ↔ Touches m s t :=
  Touches.peel hm (by simp [State.unholdNear])

@[simp] theorem touches_ringCommand {act : State → State × Byte} (hm : 221360933007683224962 &&& m = 221360933007683224962)
    (hf : ∀ u, Touches m u (act u).1) : Touches m s (State.ringCommand t a1 a2 a3 act) ↔ Touches m s t := by
  have k : ∀ L, L &&& 221360933007683224962 = L → L &&& m = L := fun L h => Touches.sub h hm
  have hf' : ∀ {s u}, Touches m s (act u).1 ↔ Touches m s u := fun {s u} => Touches.peel (Nat.and_self m) (hf u)
  unfold State.ringCommand
  refine touches_setupWrite (k _ (by decide)) fun u => ?_
  split
  · simp [k]
  · simp [k, hf']

@[simp] theorem touches_ringXlat (hm : 844424930132100 &&& m = 844424930132100) : Touches m s (State.ringXlat t a1 a2) ↔ Touches m s t :=
  Touches.peel hm (by simp [State.ringXlat])

@[simp] theorem touches_doCreate (hm : 881808325476998 &&& m = 881808325476998) : Touches m s (State.doCreate t a1 a2).1 ↔ Touches m s t :=
  Touches.peel hm (by unfold State.doCreate; (repeat' (first | split | dsimp only)) <;> simp)

@[simp] theorem touches_doDestroy (hm : 2199023256322 &&& m = 2199023256322) : Touches m s (State.doDestroy t a1 a2).1 ↔ Touches m s t :=
  Touches.peel hm (by unfold State.doDestroy; (repeat' (first | split | dsimp only)) <;> simp)

@[simp] theorem touches_doStop (hm : 664687117551710241670 &&& m = 664687117551710241670) : Touches m s (State.doStop t a1 a2).1 ↔ Touches m s t :=
  Touches.peel hm (by unfold State.doStop; (repeat' (first | split | dsimp only)) <;> simp)

@[simp] theorem touches_doResume (hm : 512 &&& m = 512) : Touches m s (State.doResume t a1 a2).1 ↔ Touches m s t :=
  Touches.peel hm (by unfold State.doResume; (repeat' (first | split | dsimp only)) <;> simp)

@[simp] theorem touches_doRead (hm : 128 &&& m = 128) : Touches m s (State.doRead t a1 a2).1 ↔ Touches m s t :=
  Touches.peel hm (by unfold State.doRead; (repeat' split) <;> simp)

@[simp] theorem touches_ringCmdDone (hm : 3072 &&& m = 3072) : Touches m s (State.ringCmdDone t) ↔ Touches m s t :=
  Touches.peel hm (by unfold State.ringCmdDone; (repeat' split) <;> simp)

@[simp] theorem touches_sqTailWrite (hm : 664687117551710241670 &&& m = 664687117551710241670) : Touches m s (State.sqTailWrite t a1 a2) ↔ Touches m s t :=
  Touches.peel hm (by simp [State.sqTailWrite])

@[simp] theorem touches_cqHeadWrite (hm : 664687117551710241670 &&& m = 664687117551710241670) : Touches m s (State.cqHeadWrite t a1 a2) ↔ Touches m s t :=
  Touches.peel hm (by simp [State.cqHeadWrite])

@[simp] theorem touches_fetchBegin (hm : 1180591620717411303938 &&& m = 1180591620717411303938) : Touches m s (State.fetchBegin t a1) ↔ Touches m s t :=
  Touches.peel hm (by simp [State.fetchBegin])

@[simp] theorem touches_touchTable (hm : 2199023255552 &&& m = 2199023255552) : Touches m s (State.touchTable t a1) ↔ Touches m s t :=
  Touches.peel hm (by simp [State.touchTable])

@[simp] theorem touches_touchNamed (hm : 56668424853416902139910 &&& m = 56668424853416902139910) : Touches m s (State.touchNamed t a1 a2 a3) ↔ Touches m s t :=
  Touches.peel hm (by unfold State.touchNamed; (repeat' (first | split | dsimp only)) <;> simp)

@[simp] theorem touches_arrive (hm : 56668424853416902140422 &&& m = 56668424853416902140422) : Touches m s (State.arrive t a1 a2) ↔ Touches m s t :=
  Touches.peel hm (by simp [State.arrive])

@[simp] theorem touches_fetchXlat (hm : 844424930132100 &&& m = 844424930132100) : Touches m s (State.fetchXlat t a1 a2) ↔ Touches m s t :=
  Touches.peel hm (by unfold State.fetchXlat; (repeat' (first | split | dsimp only)) <;> simp)

@[simp] theorem touches_fetched (hm : 58513676567889236206470 &&& m = 58513676567889236206470) : Touches m s (State.fetched t a1 a2 a3) ↔ Touches m s t :=
  Touches.peel hm (by simp [State.fetched])

@[simp] theorem touches_recordFault (hm : 664687117551710241670 &&& m = 664687117551710241670) : Touches m s (State.recordFault t a1) ↔ Touches m s t :=
  Touches.peel hm (by unfold State.recordFault; (repeat' (first | split | dsimp only)) <;> simp)

@[simp] theorem touches_coalExpired (hm : 770 &&& m = 770) : Touches m s (State.coalExpired t a1) ↔ Touches m s t :=
  Touches.peel hm (by simp [State.coalExpired])

@[simp] theorem touches_sendPending (hm : 258 &&& m = 258) : Touches m s (State.sendPending t a1 a2) ↔ Touches m s t :=
  Touches.peel hm (by simp [State.sendPending])

@[simp] theorem touches_unmask (hm : 258 &&& m = 258) : Touches m s (State.unmask t a1 a2) ↔ Touches m s t :=
  Touches.peel hm (by simp [State.unmask])

@[simp] theorem touches_enableMsix (hm : 258 &&& m = 258) : Touches m s (State.enableMsix t a1) ↔ Touches m s t :=
  Touches.peel hm (by simp [State.enableMsix])

theorem touches_execRingCreate : TouchesO 221361812616985446278 t (execRingCreate a1 a2 t) := by
  simp [execRingCreate]

theorem touches_execRingDestroy : TouchesO 221360933007683225474 t (execRingDestroy a1 a2 t) := by
  simp [execRingDestroy]

theorem touches_execRingStop : TouchesO 812261070141386655622 t (execRingStop a1 a2 t) := by
  simp [execRingStop]

theorem touches_execRingResume : TouchesO 221360933007683225474 t (execRingResume a1 a2 t) := by
  simp [execRingResume]

theorem touches_execRingRead : TouchesO 221360933007683224962 t (execRingRead a1 a2 t) := by
  simp [execRingRead]

theorem touches_execRingCommandComplete : TouchesO 3072 t (execRingCommandComplete t) := by
  simp [execRingCommandComplete]

theorem touches_execDbSqTail : TouchesO 812261070141386654598 t (execDbSqTail a1 a2 t) := by
  simp [execDbSqTail]

theorem touches_execDbCqHead : TouchesO 812261070141386654598 t (execDbCqHead a1 a2 t) := by
  simp [execDbCqHead]

theorem touches_execDescriptorFetch : TouchesO 1180591620717411303938 t (execDescriptorFetch a1 t) := by
  simp [execDescriptorFetch]

theorem touches_execDescriptorFetched : TouchesO 58513676567889236206470 t (execDescriptorFetched a1 a2 a3 t) := by
  simp [execDescriptorFetched]

theorem touches_execCompletionRecordWriteFault : TouchesO 664687117551710241670 t (execCompletionRecordWriteFault a1 t) := by
  simp [execCompletionRecordWriteFault]

theorem touches_execCoalesceTimerExpiry : TouchesO 770 t (execCoalesceTimerExpiry a1 t) := by
  simp [execCoalesceTimerExpiry]

theorem touches_execMsixUnmask : TouchesO 258 t (execMsixUnmask a1 a2 t) := by
  simp [execMsixUnmask]

theorem touches_execMsixEnable : TouchesO 258 t (execMsixEnable a1 t) := by
  simp [execMsixEnable]

end Sys2Proof.Machine
end

