-- ==== Sys2Proof/Laws/Dma.lean ====
section
/-! SUPPORT. What each operation of Machine/Dma.lean may touch. -/

namespace Sys2Proof.Machine

variable {m : Nat} {s t : State}

@[simp] theorem touches_dmaMove (hm : 664691621151337611654 &&& m = 664691621151337611654) : Touches m s (State.dmaMove t a1 a2 a3 a4 a5 a6).1 ↔ Touches m s t :=
  Touches.peel hm (by unfold State.dmaMove; (repeat' (first | split | dsimp only)) <;> simp)

@[simp] theorem touches_dmaEnd (hm : 1845278738269121545094 &&& m = 1845278738269121545094) : Touches m s (State.dmaEnd t a1 a2 a3 a4) ↔ Touches m s t :=
  Touches.peel hm (by simp [State.dmaEnd])

@[simp] theorem touches_dmaFinish (hm : 1845283241868748915590 &&& m = 1845283241868748915590) : Touches m s (State.dmaFinish t a1 a2 a3 a4 a5 a6) ↔ Touches m s t :=
  Touches.peel hm (by unfold State.dmaFinish; dsimp only; (repeat' split) <;> simp)

@[simp] theorem touches_dmaCut (hm : 1845283241868748915590 &&& m = 1845283241868748915590) : Touches m s (State.dmaCut t a1 a2 a3) ↔ Touches m s t :=
  Touches.peel hm (by simp [State.dmaCut])

@[simp] theorem touches_dmaStart (hm : 1845278773453493633926 &&& m = 1845278773453493633926) : Touches m s (State.dmaStart t a1 a2 a3) ↔ Touches m s t :=
  Touches.peel hm (by unfold State.dmaStart; (repeat' split) <;> simp)

@[simp] theorem touches_dmaNop (hm : 1845278738269121545094 &&& m = 1845278738269121545094) : Touches m s (State.dmaNop t a1 a2) ↔ Touches m s t :=
  Touches.peel hm (by unfold State.dmaNop; (repeat' split) <;> simp)

@[simp] theorem touches_dmaComplete (hm : 1845283277053121004422 &&& m = 1845283277053121004422) : Touches m s (State.dmaComplete t a1 a2 a3) ↔ Touches m s t :=
  Touches.peel hm (by unfold State.dmaComplete; (repeat' split) <;> simp)

@[simp] theorem touches_dmaXltFault (hm : 128 &&& m = 128) : Touches m s (State.dmaXltFault t a1 a2 a3) ↔ Touches m s t :=
  Touches.peel hm (by simp [State.dmaXltFault])

@[simp] theorem touches_dmaFails (hm : 1845283241868748915590 &&& m = 1845283241868748915590) : Touches m s (State.dmaFails t a1 a2 a3 a4) ↔ Touches m s t :=
  Touches.peel hm (by unfold State.dmaFails; (repeat' split) <;> simp)

@[simp] theorem touches_hostTimeout (hm : 1845283241868748915590 &&& m = 1845283241868748915590) : Touches m s (State.hostTimeout t a1 a2) ↔ Touches m s t :=
  Touches.peel hm (by unfold State.hostTimeout; (repeat' split) <;> simp)

theorem touches_execDmaCopy : TouchesO 1845278773453493633926 t (execDmaCopy a1 a2 t) := by
  simp [execDmaCopy]

theorem touches_execDmaFill : TouchesO 1845278773453493633926 t (execDmaFill a1 a2 t) := by
  simp [execDmaFill]

theorem touches_execDmaNop : TouchesO 1845278738269121545094 t (execDmaNop a1 a2 t) := by
  simp [execDmaNop]

theorem touches_execDmaDescriptorComplete : TouchesO 1845283277053121004422 t (execDmaDescriptorComplete a1 a2 a3 t) := by
  simp [execDmaDescriptorComplete]

theorem touches_execDmaTransferFailure : TouchesO 1845283241868748915590 t (execDmaTransferFailure a1 a2 a3 a4 t) := by
  simp [execDmaTransferFailure]

theorem touches_execPcieCompletionTimeout : TouchesO 1845283241868748915590 t (execPcieCompletionTimeout a1 a2 t) := by
  simp [execPcieCompletionTimeout]

end Sys2Proof.Machine
end

