-- ==== Sys2Proof/Laws/Voice.lean ====
section
/-! SUPPORT. What each operation of Machine/Voice.lean may touch. -/

namespace Sys2Proof.Machine

variable {m : Nat} {s t : State}

@[simp] theorem touches_setItem (hm : 4096 &&& m = 4096) : Touches m s (State.setItem t a1 a2) ↔ Touches m s t :=
  Touches.peel hm (by simp [State.setItem])

@[simp] theorem touches_updItem (hm : 4096 &&& m = 4096) : Touches m s (State.updItem t a1 a2) ↔ Touches m s t :=
  Touches.peel hm (by unfold State.updItem; (repeat' split) <;> simp)

@[simp] theorem touches_reown (hm : 19327352832 &&& m = 19327352832) : Touches m s (State.reown t a1 a2) ↔ Touches m s t :=
  Touches.peel hm (by simp [State.reown])

@[simp] theorem touches_disown (hm : 19327352832 &&& m = 19327352832) : Touches m s (State.disown t a1) ↔ Touches m s t :=
  Touches.peel hm (by simp [State.disown])

@[simp] theorem touches_dropItem (hm : 19327356928 &&& m = 19327356928) : Touches m s (State.dropItem t a1) ↔ Touches m s t :=
  Touches.peel hm (by simp [State.dropItem])

@[simp] theorem touches_itemFault (hm : 4096 &&& m = 4096) : Touches m s (State.itemFault t a1 a2) ↔ Touches m s t :=
  Touches.peel hm (by simp [State.itemFault])

@[simp] theorem touches_haltVoice (hm : 2147483648 &&& m = 2147483648) : Touches m s (State.haltVoice t a1) ↔ Touches m s t :=
  Touches.peel hm (by simp [State.haltVoice])

@[simp] theorem touches_faultOf (hm : 73786980420154298754 &&& m = 73786980420154298754) : Touches m s (State.faultOf t a1 a2 a3 a4 a5 a6) ↔ Touches m s t :=
  Touches.peel hm (by simp [State.faultOf])

@[simp] theorem touches_voiceFault (hm : 73786980420154298754 &&& m = 73786980420154298754) : Touches m s (State.voiceFault t a1 a2 a3) ↔ Touches m s t :=
  Touches.peel hm (by simp [State.voiceFault])

@[simp] theorem touches_refusedOf (hm : 2147487744 &&& m = 2147487744) : Touches m s (State.refusedOf t a1 a2 a3 a4) ↔ Touches m s t :=
  Touches.peel hm (by simp [State.refusedOf])

@[simp] theorem touches_voiceRefused (hm : 2147487744 &&& m = 2147487744) : Touches m s (State.voiceRefused t a1 a2) ↔ Touches m s t :=
  Touches.peel hm (by simp [State.voiceRefused])

@[simp] theorem touches_updStream (hm : 2147483648 &&& m = 2147483648) : Touches m s (State.updStream t a1 a2 a3) ↔ Touches m s t :=
  Touches.peel hm (by simp [State.updStream])

@[simp] theorem touches_streamFailed (hm : 2147487744 &&& m = 2147487744) : Touches m s (State.streamFailed t a1 a2) ↔ Touches m s t :=
  Touches.peel hm (by unfold State.streamFailed; (repeat' split) <;> simp)

@[simp] theorem touches_streamStops (hm : 2147487744 &&& m = 2147487744) : Touches m s (State.streamStops t a1 a2 a3) ↔ Touches m s t :=
  Touches.peel hm (by simp [State.streamStops])

@[simp] theorem touches_goto (hm : 73786980420154298754 &&& m = 73786980420154298754) : Touches m s (State.goto t a1 a2) ↔ Touches m s t :=
  Touches.peel hm (by simp [State.goto])

@[simp] theorem touches_advance (hm : 73786980420154298754 &&& m = 73786980420154298754) : Touches m s (State.advance t a1) ↔ Touches m s t :=
  Touches.peel hm (by simp [State.advance])

@[simp] theorem touches_issue {act : State → Voice → State} (hm : 0 &&& m = 0) (hf : ∀ u x1, Touches m u (act u x1)) :
    Touches m s (State.issue t a1 a2 a3 act) ↔ Touches m s t := by
  have k : ∀ L, L &&& 0 = L → L &&& m = L := fun L h => Touches.sub h hm
  have hf' : ∀ {s u} x1, Touches m s (act u x1) ↔ Touches m s u := fun {s u} x1 => Touches.peel (Nat.and_self m) (hf u x1)
  exact Touches.peel (Nat.and_self m) (by simp [State.issue, k, hf'])

@[simp] theorem touches_writeX (hm : 73786980420154298754 &&& m = 73786980420154298754) : Touches m s (State.writeX t a1 a2 a3) ↔ Touches m s t :=
  Touches.peel hm (by simp [State.writeX])

@[simp] theorem touches_writeV (hm : 73786980420154298754 &&& m = 73786980420154298754) : Touches m s (State.writeV t a1 a2 a3) ↔ Touches m s t :=
  Touches.peel hm (by simp [State.writeV])

end Sys2Proof.Machine
end

