-- ==== Sys2Proof/Laws/LateLog.lean ====
section
/-! SUPPORT. What each operation of Machine/LateLog.lean may touch. -/

namespace Sys2Proof.Machine

variable {m : Nat} {s t : State}

@[simp] theorem touches_lateLog (hm : 4123168604288 &&& m = 4123168604288) : Touches m s (State.lateLog t a1) ↔ Touches m s t :=
  Touches.peel hm (by simp [State.lateLog])

@[simp] theorem touches_boundExceeded (hm : 73786980418006810752 &&& m = 73786980418006810752) : Touches m s (State.boundExceeded t a1 a2 a3 a4 a5 a6 a7) ↔ Touches m s t :=
  Touches.peel hm (by simp [State.boundExceeded])

@[simp] theorem touches_setAlign (hm : 4123168608384 &&& m = 4123168608384) : Touches m s (State.setAlign t a1 a2) ↔ Touches m s t :=
  Touches.peel hm (by simp [State.setAlign])

end Sys2Proof.Machine
end

