-- ==== Sys2Proof/Laws/Drain.lean ====
section
/-! SUPPORT. What each operation of Machine/Drain.lean may touch. -/

namespace Sys2Proof.Machine

variable {m : Nat} {s t : State}

@[simp] theorem touches_sendBi (hm : 386 &&& m = 386) : Touches m s (State.sendBi t a1 a2 a3) ↔ Touches m s t :=
  Touches.peel hm (by unfold State.sendBi; (repeat' (first | split | dsimp only)) <;> simp)

@[simp] theorem touches_recordLineFor (hm : 256 &&& m = 256) : Touches m s (State.recordLineFor t a1 a2 a3) ↔ Touches m s t :=
  Touches.peel hm (by unfold State.recordLineFor; (repeat' (first | split | dsimp only)) <;> simp)

@[simp] theorem touches_drainCount (hm : 4611686018427387904 &&& m = 4611686018427387904) : Touches m s (State.drainCount t a1 a2 a3 a4) ↔ Touches m s t :=
  Touches.peel hm (by simp [State.drainCount])

@[simp] theorem touches_endDrain (hm : 1851043345792155779974 &&& m = 1851043345792155779974) : Touches m s (State.endDrain t a1) ↔ Touches m s t :=
  Touches.peel hm (by simp [State.endDrain])

@[simp] theorem touches_revokesEnd (hm : 1851043345792155779974 &&& m = 1851043345792155779974) : Touches m s (State.revokesEnd t) ↔ Touches m s t :=
  Touches.peel hm (by 
    unfold State.revokesEnd
    rw [Touches.each]
    · simp
    · intro u e; split <;> simp)

@[simp] theorem touches_updRelief (hm : 73786976294838206464 &&& m = 73786976294838206464) : Touches m s (State.updRelief t a1 a2 a3) ↔ Touches m s t :=
  Touches.peel hm (by simp [State.updRelief])

@[simp] theorem touches_reliefEnd (hm : 1845278738269121545094 &&& m = 1845278738269121545094) : Touches m s (State.reliefEnd t a1 a2) ↔ Touches m s t :=
  Touches.peel hm (by unfold State.reliefEnd; (repeat' (first | split | dsimp only)) <;> simp)

@[simp] theorem touches_dropHostReq (hm : 256 &&& m = 256) : Touches m s (State.dropHostReq t a1 a2) ↔ Touches m s t :=
  Touches.peel hm (by simp [State.dropHostReq])

@[simp] theorem touches_hostAnswer (hm : 1851043345792155779974 &&& m = 1851043345792155779974) : Touches m s (State.hostAnswer t a1 a2 a3 a4 a5 a6) ↔ Touches m s t :=
  Touches.peel hm (by unfold State.hostAnswer; (repeat' split) <;> simp)

end Sys2Proof.Machine
end

