-- ==== Sys2Proof/Laws/Home.lean ====
section
/-! SUPPORT. What each operation of Machine/Home.lean may touch. -/

namespace Sys2Proof.Machine

variable {m : Nat} {s t : State}

@[simp] theorem touches_putDir (hm : 108086391056891904 &&& m = 108086391056891904) : Touches m s (State.putDir t a1 a2) ↔ Touches m s t :=
  Touches.peel hm (by simp [State.putDir])

@[simp] theorem touches_useDir (hm : 108086391056891904 &&& m = 108086391056891904) : Touches m s (State.useDir t a1) ↔ Touches m s t :=
  Touches.peel hm (by simp [State.useDir])

@[simp] theorem touches_setWaits (hm : 288230376151711744 &&& m = 288230376151711744) : Touches m s (State.setWaits t a1 a2) ↔ Touches m s t :=
  Touches.peel hm (by simp [State.setWaits])

@[simp] theorem touches_enqueue (hm : 288230376151711744 &&& m = 288230376151711744) : Touches m s (State.enqueue t a1) ↔ Touches m s t :=
  Touches.peel hm (by simp [State.enqueue])

@[simp] theorem touches_updTxn (hm : 144115188075855872 &&& m = 144115188075855872) : Touches m s (State.updTxn t a1 a2) ↔ Touches m s t :=
  Touches.peel hm (by unfold State.updTxn; (repeat' split) <;> simp)

@[simp] theorem touches_answer (hm : 1851043345792155779974 &&& m = 1851043345792155779974) : Touches m s (State.answer t a1 a2 a3 a4 a5 a6) ↔ Touches m s t :=
  Touches.peel hm (by
    induction a4 generalizing t a1 a2 a3 a5 a6 with
    | zero => unfold State.answer; (repeat' (first | split | dsimp only)) <;> simp
    | succ n ih =>
      have ih' : ∀ {s t a1 a2 a3 a5 a6}, Touches 1851043345792155779974 s (State.answer t a1 a2 a3 n a5 a6) ↔ Touches 1851043345792155779974 s t := Touches.peel (by decide) ih
      unfold State.answer; (repeat' (first | split | dsimp only)) <;> simp [ih'])

@[simp] theorem touches_drainClosed (hm : 4611686018427387904 &&& m = 4611686018427387904) : Touches m s (State.drainClosed t a1) ↔ Touches m s t :=
  Touches.peel hm (by simp [State.drainClosed])

@[simp] theorem touches_answerRead (hm : 1851047849391783150470 &&& m = 1851047849391783150470) : Touches m s (State.answerRead t a1 a2) ↔ Touches m s t :=
  Touches.peel hm (by unfold State.answerRead; (repeat' (first | split | dsimp only)) <;> simp)

@[simp] theorem touches_homeAtomic (hm : 1851043345792155779974 &&& m = 1851043345792155779974) : Touches m s (State.homeAtomic t a1) ↔ Touches m s t :=
  Touches.peel hm (by simp [State.homeAtomic])

@[simp] theorem touches_maskedWrite (hm : 4123168604160 &&& m = 4123168604160) : Touches m s (State.maskedWrite t a1 a2 a3) ↔ Touches m s t :=
  Touches.peel hm (by simp [State.maskedWrite])

@[simp] theorem touches_poisonLines (hm : 549755813888 &&& m = 549755813888) : Touches m s (State.poisonLines t a1) ↔ Touches m s t :=
  Touches.peel hm (by simp [State.poisonLines])

@[simp] theorem touches_homeWrite (hm : 4123168636928 &&& m = 4123168636928) : Touches m s (State.homeWrite t a1) ↔ Touches m s t :=
  Touches.peel hm (by simp [State.homeWrite])

@[simp] theorem touches_conclude_lost (hm : 1851043345792155779974 &&& m = 1851043345792155779974) : Touches m s (State.conclude.lost a1 t) ↔ Touches m s t :=
  Touches.peel hm (by simp [State.conclude.lost])

@[simp] theorem touches_conclude_shared (hm : 108086391056891904 &&& m = 108086391056891904) : Touches m s (State.conclude.shared a1 t) ↔ Touches m s t :=
  Touches.peel hm (by simp [State.conclude.shared])

@[simp] theorem touches_conclude_write {act : State → State} (hm : 1851043345792155812742 &&& m = 1851043345792155812742) (hf : ∀ u, Touches m u (act u)) :
    Touches m s (State.conclude.write a1 t act) ↔ Touches m s t := by
  have k : ∀ L, L &&& 1851043345792155812742 = L → L &&& m = L := fun L h => Touches.sub h hm
  have hf' : ∀ {s u}, Touches m s (act u) ↔ Touches m s u := fun {s u} => Touches.peel (Nat.and_self m) (hf u)
  exact Touches.peel (Nat.and_self m) (by simp [State.conclude.write, k, hf'])

@[simp] theorem touches_conclude (hm : 1851155935782840075142 &&& m = 1851155935782840075142) : Touches m s (State.conclude t a1) ↔ Touches m s t :=
  Touches.peel hm (by 
    unfold State.conclude; try dsimp only; split
    all_goals first
      | (simp; done)
      | exact (touches_conclude_write (by decide) fun u => by simp).2 Touches.rfl
      | ((repeat' split) <;> simp))

@[simp] theorem touches_wakeBlocks (hm : 576460752303423488 &&& m = 576460752303423488) : Touches m s (State.wakeBlocks t a1) ↔ Touches m s t :=
  Touches.peel hm (by simp [State.wakeBlocks])

@[simp] theorem touches_closeTxn (hm : 1851300050970915931014 &&& m = 1851300050970915931014) : Touches m s (State.closeTxn t a1) ↔ Touches m s t :=
  Touches.peel hm (by unfold State.closeTxn; (repeat' split) <;> simp)

@[simp] theorem touches_openTxn (hm : 1851300050970915931014 &&& m = 1851300050970915931014) : Touches m s (State.openTxn t a1 a2 a3) ↔ Touches m s t :=
  Touches.peel hm (by simp [State.openTxn])

@[simp] theorem touches_recallLine (hm : 1851300050970915931014 &&& m = 1851300050970915931014) : Touches m s (State.recallLine t a1) ↔ Touches m s t :=
  Touches.peel hm (by simp [State.recallLine])

@[simp] theorem touches_recallRead (hm : 1851300050970915931014 &&& m = 1851300050970915931014) : Touches m s (State.recallRead t a1) ↔ Touches m s t :=
  Touches.peel hm (by simp [State.recallRead])

@[simp] theorem touches_sweepStart (hm : 1851300050970915931014 &&& m = 1851300050970915931014) : Touches m s (State.sweepStart t) ↔ Touches m s t :=
  Touches.peel hm (by 
    unfold State.sweepStart
    rw [Touches.each]
    · simp
    · intro u e; simp)

@[simp] theorem touches_startReq (hm : 1851588316531439731590 &&& m = 1851588316531439731590) : Touches m s (State.startReq t a1) ↔ Touches m s t :=
  Touches.peel hm (by unfold State.startReq; (repeat' (first | split | dsimp only)) <;> simp)

@[simp] theorem touches_retryBlock (hm : 1851588316531439731590 &&& m = 1851588316531439731590) : Touches m s (State.retryBlock t a1) ↔ Touches m s t :=
  Touches.peel hm (by simp [State.retryBlock])

@[simp] theorem touches_refuse (hm : 1851043345792155779974 &&& m = 1851043345792155779974) : Touches m s (State.refuse t a1 a2 a3 a4) ↔ Touches m s t :=
  Touches.peel hm (by unfold State.refuse; (repeat' split) <;> simp)

@[simp] theorem touches_keyError (hm : 73786980418006811010 &&& m = 73786980418006811010) : Touches m s (State.keyError t a1 a2) ↔ Touches m s t :=
  Touches.peel hm (by simp [State.keyError])

@[simp] theorem touches_homeRequest (hm : 1851588316531439731590 &&& m = 1851588316531439731590) : Touches m s (State.homeRequest t a1 a2 a3) ↔ Touches m s t :=
  Touches.peel hm (by unfold State.homeRequest; (repeat' (first | split | dsimp only)) <;> simp)

@[simp] theorem touches_answered (hm : 1851300050970915931014 &&& m = 1851300050970915931014) : Touches m s (State.answered t a1 a2 a3 a4 a5) ↔ Touches m s t :=
  Touches.peel hm (by simp [State.answered])

@[simp] theorem touches_ownerLost (hm : 108086940812705792 &&& m = 108086940812705792) : Touches m s (State.ownerLost t a1) ↔ Touches m s t :=
  Touches.peel hm (by simp [State.ownerLost])

@[simp] theorem touches_homeAck (hm : 1851300050970915931014 &&& m = 1851300050970915931014) : Touches m s (State.homeAck t a1) ↔ Touches m s t :=
  Touches.peel hm (by unfold State.homeAck; (repeat' (first | split | dsimp only)) <;> simp)

@[simp] theorem touches_takeLine (hm : 4123168604160 &&& m = 4123168604160) : Touches m s (State.takeLine t a1 a2) ↔ Touches m s t :=
  Touches.peel hm (by simp [State.takeLine])

@[simp] theorem touches_homeSnData (hm : 1851300050970915931014 &&& m = 1851300050970915931014) : Touches m s (State.homeSnData t a1) ↔ Touches m s t :=
  Touches.peel hm (by unfold State.homeSnData; (repeat' (first | split | dsimp only)) <;> simp)

@[simp] theorem touches_homeWbData (hm : 1851300050970915931014 &&& m = 1851300050970915931014) : Touches m s (State.homeWbData t a1) ↔ Touches m s t :=
  Touches.peel hm (by unfold State.homeWbData; (repeat' split) <;> simp)

@[simp] theorem touches_snoopLate (hm : 1851300050970915931014 &&& m = 1851300050970915931014) : Touches m s (State.snoopLate t a1 a2 a3) ↔ Touches m s t :=
  Touches.peel hm (by unfold State.snoopLate; (repeat' split) <;> simp)

end Sys2Proof.Machine
end

