-- ==== Sys2Proof/Laws/Tlb.lean ====
section
/-! SUPPORT. What each operation of Machine/Tlb.lean may touch. -/

namespace Sys2Proof.Machine

variable {m : Nat} {s t : State}

theorem touches_startWalk {u : State} (h : t.startWalk a1 a2 a3 a4 = .ok u) (hm : 1125899906842624 &&& m = 1125899906842624) : Touches m s u ↔ Touches m s t := by
  refine Touches.peel hm ?_
  unfold State.startWalk at h; dsimp only at h
  (repeat' split at h) <;> cases h <;> simp

@[simp] theorem touches_wantPages (hm : 1125902054326272 &&& m = 1125902054326272) : Touches m s (State.wantPages t a1 a2) ↔ Touches m s t :=
  Touches.peel hm (by
    unfold State.wantPages; dsimp only
    rw [touches_updVoice (by decide), Touches.foldl_fst]
    · simp
    · intro q a; split
      · simp
      · split
        · simp
        · split
          · exact (touches_startWalk (by assumption) (by decide)).2 Touches.rfl
          · simp)

@[simp] theorem touches_pumpStreams (hm : 1125902054326272 &&& m = 1125902054326272) : Touches m s (State.pumpStreams t) ↔ Touches m s t :=
  Touches.peel hm (by
    unfold State.pumpStreams
    rw [Touches.each]
    · simp
    · intro u a; (repeat' (first | split | dsimp only)) <;> simp)

@[simp] theorem touches_bcastDone (hm : 58513676532704864109446 &&& m = 58513676532704864109446) : Touches m s (State.bcastDone t a1) ↔ Touches m s t :=
  Touches.peel hm (by unfold State.bcastDone; (repeat' split) <;> simp)

@[simp] theorem touches_bcastsEnd (hm : 58513678784504677794694 &&& m = 58513678784504677794694) : Touches m s (State.bcastsEnd t) ↔ Touches m s t :=
  Touches.peel hm (by simp [State.bcastsEnd])

@[simp] theorem touches_updBcast (hm : 58513678784504677794694 &&& m = 58513678784504677794694) : Touches m s (State.updBcast t a1 a2) ↔ Touches m s t :=
  Touches.peel hm (by simp [State.updBcast])

@[simp] theorem touches_bcastMiss (hm : 58513678784504677794694 &&& m = 58513678784504677794694) : Touches m s (State.bcastMiss t a1) ↔ Touches m s t :=
  Touches.peel hm (by unfold State.bcastMiss; (repeat' (first | split | dsimp only)) <;> simp)

@[simp] theorem touches_confirmed (hm : 58513678784504677794694 &&& m = 58513678784504677794694) : Touches m s (State.confirmed t a1 a2) ↔ Touches m s t :=
  Touches.peel hm (by simp [State.confirmed])

@[simp] theorem touches_confirmTimeout (hm : 58513678784504677794694 &&& m = 58513678784504677794694) : Touches m s (State.confirmTimeout t a1) ↔ Touches m s t :=
  Touches.peel hm (by simp [State.confirmTimeout])

@[simp] theorem touches_accessGone (hm : 58513678784504677794694 &&& m = 58513678784504677794694) : Touches m s (State.accessGone t a1 a2) ↔ Touches m s t :=
  Touches.peel hm (by simp [State.accessGone])

end Sys2Proof.Machine
end

