-- ==== Sys2Proof/Laws/Agent.lean ====
section
/-! SUPPORT. What each operation of Machine/Agent.lean may touch. -/

namespace Sys2Proof.Machine

variable {m : Nat} {s t : State}

@[simp] theorem touches_setGline (hm : 34359738368 &&& m = 34359738368) : Touches m s (State.setGline t a1 a2 a3) ↔ Touches m s t :=
  Touches.peel hm (by simp [State.setGline])

@[simp] theorem touches_giveUp (hm : 603482521866338434 &&& m = 603482521866338434) : Touches m s (State.giveUp t a1 a2) ↔ Touches m s t :=
  Touches.peel hm (by unfold State.giveUp; (repeat' (first | split | dsimp only)) <;> simp)

@[simp] theorem touches_evictLine (hm : 603482521866338434 &&& m = 603482521866338434) : Touches m s (State.evictLine t a1 a2) ↔ Touches m s t :=
  Touches.peel hm (by simp [State.evictLine])

@[simp] theorem touches_makeWay (hm : 603482521866338438 &&& m = 603482521866338438) : Touches m s (State.makeWay t a1 a2) ↔ Touches m s t :=
  Touches.peel hm (by unfold State.makeWay; dsimp only; (repeat' split) <;> simp)

@[simp] theorem touches_abufWriteBack (hm : 590899292811852513410 &&& m = 590899292811852513410) : Touches m s (State.abufWriteBack t a1 a2) ↔ Touches m s t :=
  Touches.peel hm (by unfold State.abufWriteBack; (repeat' split) <;> simp)

@[simp] theorem touches_abufWritten (hm : 590899292811852513410 &&& m = 590899292811852513410) : Touches m s (State.abufWritten t a1 a2) ↔ Touches m s t :=
  Touches.peel hm (by unfold State.abufWritten; (repeat' (first | split | dsimp only)) <;> simp)

@[simp] theorem touches_abufFlush (hm : 590899292811852513410 &&& m = 590899292811852513410) : Touches m s (State.abufFlush t a1) ↔ Touches m s t :=
  Touches.peel hm (by simp [State.abufFlush])

@[simp] theorem touches_abufMakeRoom (hm : 590899292811852513414 &&& m = 590899292811852513414) : Touches m s (State.abufMakeRoom t a1 a2) ↔ Touches m s t :=
  Touches.peel hm (by unfold State.abufMakeRoom; dsimp only; (repeat' split) <;> simp)

@[simp] theorem touches_abufEnter (hm : 68719476736 &&& m = 68719476736) : Touches m s (State.abufEnter t a1 a2 a3) ↔ Touches m s t :=
  Touches.peel hm (by simp [State.abufEnter])

@[simp] theorem touches_snoopData (hm : 585467951558164482 &&& m = 585467951558164482) : Touches m s (State.snoopData t a1 a2 a3) ↔ Touches m s t :=
  Touches.peel hm (by simp [State.snoopData])

@[simp] theorem touches_snoopAck (hm : 585467951558164482 &&& m = 585467951558164482) : Touches m s (State.snoopAck t a1 a2) ↔ Touches m s t :=
  Touches.peel hm (by simp [State.snoopAck])

@[simp] theorem touches_snoopLine (hm : 585467951558164482 &&& m = 585467951558164482) : Touches m s (State.snoopLine t a1 a2) ↔ Touches m s t :=
  Touches.peel hm (by simp [State.snoopLine])

@[simp] theorem touches_applySnoop (hm : 585467951558164482 &&& m = 585467951558164482) : Touches m s (State.applySnoop t a1 a2 a3).1 ↔ Touches m s t :=
  Touches.peel hm (by unfold State.applySnoop; (repeat' split) <;> simp)

@[simp] theorem touches_agentSnoop (hm : 603482521866338306 &&& m = 603482521866338306) : Touches m s (State.agentSnoop t a1 a2) ↔ Touches m s t :=
  Touches.peel hm (by unfold State.agentSnoop; (repeat' (first | split | dsimp only)) <;> simp)

end Sys2Proof.Machine
end

