-- ==== Sys2Proof/Laws/Float.lean ====
section
/-! SUPPORT. What each operation of Machine/Float.lean may touch. -/

namespace Sys2Proof.Machine

variable {m : Nat} {s t : State}

@[simp] theorem touches_fpu2 (hm : 73786980420154298754 &&& m = 73786980420154298754) : Touches m s (State.fpu2 t a1 a2 a3) ↔ Touches m s t :=
  Touches.peel hm (by simp [State.fpu2])

@[simp] theorem touches_fcvti (hm : 73786980420154298754 &&& m = 73786980420154298754) : Touches m s (State.fcvti t a1 a2) ↔ Touches m s t :=
  Touches.peel hm (by simp [State.fcvti])

theorem touches_execFadd : TouchesO 73786980420154298754 t (execFadd a1 a2 t) := by
  simp [execFadd]

theorem touches_execFsub : TouchesO 73786980420154298754 t (execFsub a1 a2 t) := by
  simp [execFsub]

theorem touches_execFmul : TouchesO 73786980420154298754 t (execFmul a1 a2 t) := by
  simp [execFmul]

theorem touches_execFfma : TouchesO 73786980420154298754 t (execFfma a1 a2 t) := by
  simp [execFfma]

theorem touches_execFdiv : TouchesO 73786980420154298754 t (execFdiv a1 a2 t) := by
  simp [execFdiv]

theorem touches_execFsqrt : TouchesO 73786980420154298754 t (execFsqrt a1 a2 t) := by
  simp [execFsqrt]

theorem touches_execFmin : TouchesO 73786980420154298754 t (execFmin a1 a2 t) := by
  simp [execFmin]

theorem touches_execFmax : TouchesO 73786980420154298754 t (execFmax a1 a2 t) := by
  simp [execFmax]

theorem touches_execFcvti : TouchesO 73786980420154298754 t (execFcvti a1 a2 t) := by
  simp [execFcvti]

theorem touches_execIcvtf : TouchesO 73786980420154298754 t (execIcvtf a1 a2 t) := by
  simp [execIcvtf]

end Sys2Proof.Machine
end

