-- ==== Sys2Proof/Laws/Vector.lean ====
section
/-! SUPPORT. What each operation of Machine/Vector.lean may touch. -/

namespace Sys2Proof.Machine

variable {m : Nat} {s t : State}

@[simp] theorem touches_vec2 (hm : 73786980420154298754 &&& m = 73786980420154298754) : Touches m s (State.vec2 t a1 a2 a3) ↔ Touches m s t :=
  Touches.peel hm (by simp [State.vec2])

@[simp] theorem touches_vec3 (hm : 73786980420154298754 &&& m = 73786980420154298754) : Touches m s (State.vec3 t a1 a2 a3) ↔ Touches m s t :=
  Touches.peel hm (by simp [State.vec3])

@[simp] theorem touches_vecBits (hm : 73786980420154298754 &&& m = 73786980420154298754) : Touches m s (State.vecBits t a1 a2 a3) ↔ Touches m s t :=
  Touches.peel hm (by simp [State.vecBits])

@[simp] theorem touches_vecReduce (hm : 73786980420154298754 &&& m = 73786980420154298754) : Touches m s (State.vecReduce t a1 a2 a3 a4) ↔ Touches m s t :=
  Touches.peel hm (by simp [State.vecReduce])

@[simp] theorem touches_vecSelect (hm : 73786980420154298754 &&& m = 73786980420154298754) : Touches m s (State.vecSelect t a1 a2) ↔ Touches m s t :=
  Touches.peel hm (by simp [State.vecSelect])

@[simp] theorem touches_vecPermute (hm : 73786980420154298754 &&& m = 73786980420154298754) : Touches m s (State.vecPermute t a1 a2) ↔ Touches m s t :=
  Touches.peel hm (by simp [State.vecPermute])

@[simp] theorem touches_vecBroadcast (hm : 73786980420154298754 &&& m = 73786980420154298754) : Touches m s (State.vecBroadcast t a1 a2) ↔ Touches m s t :=
  Touches.peel hm (by simp [State.vecBroadcast])

@[simp] theorem touches_vecConvert (hm : 73786980420154298754 &&& m = 73786980420154298754) : Touches m s (State.vecConvert t a1 a2) ↔ Touches m s t :=
  Touches.peel hm (by simp [State.vecConvert])

@[simp] theorem touches_vecFloat1 (hm : 73786980420154298754 &&& m = 73786980420154298754) : Touches m s (State.vecFloat1 t a1 a2 a3 a4) ↔ Touches m s t :=
  Touches.peel hm (by unfold State.vecFloat1; (repeat' (first | split | dsimp only)) <;> simp)

@[simp] theorem touches_vecDivide (hm : 73786980420154298754 &&& m = 73786980420154298754) : Touches m s (State.vecDivide t a1 a2) ↔ Touches m s t :=
  Touches.peel hm (by unfold State.vecDivide; (repeat' (first | split | dsimp only)) <;> simp)

@[simp] theorem touches_vecCompare (hm : 73786980420154298754 &&& m = 73786980420154298754) : Touches m s (State.vecCompare t a1 a2) ↔ Touches m s t :=
  Touches.peel hm (by simp [State.vecCompare])

theorem touches_execVadd : TouchesO 73786980420154298754 t (execVadd a1 a2 t) := by
  simp [execVadd]

theorem touches_execVsub : TouchesO 73786980420154298754 t (execVsub a1 a2 t) := by
  simp [execVsub]

theorem touches_execVmul : TouchesO 73786980420154298754 t (execVmul a1 a2 t) := by
  simp [execVmul]

theorem touches_execVfma : TouchesO 73786980420154298754 t (execVfma a1 a2 t) := by
  simp [execVfma]

theorem touches_execVmin : TouchesO 73786980420154298754 t (execVmin a1 a2 t) := by
  simp [execVmin]

theorem touches_execVmax : TouchesO 73786980420154298754 t (execVmax a1 a2 t) := by
  simp [execVmax]

theorem touches_execVand : TouchesO 73786980420154298754 t (execVand a1 a2 t) := by
  simp [execVand]

theorem touches_execVor : TouchesO 73786980420154298754 t (execVor a1 a2 t) := by
  simp [execVor]

theorem touches_execVxor : TouchesO 73786980420154298754 t (execVxor a1 a2 t) := by
  simp [execVxor]

theorem touches_execVsel : TouchesO 73786980420154298754 t (execVsel a1 a2 t) := by
  simp [execVsel]

theorem touches_execVbcast : TouchesO 73786980420154298754 t (execVbcast a1 a2 t) := by
  simp [execVbcast]

theorem touches_execVredsum : TouchesO 73786980420154298754 t (execVredsum a1 a2 t) := by
  simp [execVredsum]

theorem touches_execVredmax : TouchesO 73786980420154298754 t (execVredmax a1 a2 t) := by
  simp [execVredmax]

theorem touches_execVperm : TouchesO 73786980420154298754 t (execVperm a1 a2 t) := by
  simp [execVperm]

theorem touches_execVcvt : TouchesO 73786980420154298754 t (execVcvt a1 a2 t) := by
  simp [execVcvt]

theorem touches_execVexp2 : TouchesO 73786980420154298754 t (execVexp2 a1 a2 t) := by
  simp [execVexp2]

theorem touches_execVdiv : TouchesO 73786980420154298754 t (execVdiv a1 a2 t) := by
  simp [execVdiv]

theorem touches_execVsqrt : TouchesO 73786980420154298754 t (execVsqrt a1 a2 t) := by
  simp [execVsqrt]

theorem touches_execVcmp : TouchesO 73786980420154298754 t (execVcmp a1 a2 t) := by
  simp [execVcmp]

end Sys2Proof.Machine
end

