-- ==== Sys2Proof/Laws/Array.lean ====
section
/-! SUPPORT. What each operation of Machine/Array.lean may touch. -/

namespace Sys2Proof.Machine

variable {m : Nat} {s t : State}

@[simp] theorem touches_padWrite (hm : 4294967296 &&& m = 4294967296) : Touches m s (State.padWrite t a1 a2 a3) ↔ Touches m s t :=
  Touches.peel hm (by 
    induction a3 generalizing a2 t with
    | nil => simp [State.padWrite]
    | cons b l ih =>
      have ih' : ∀ {s t a}, Touches 4294967296 s (State.padWrite t a1 a l) ↔ Touches 4294967296 s t := Touches.peel (by decide) ih
      simp [State.padWrite, ih'])

@[simp] theorem touches_lds (hm : 73786980420154298754 &&& m = 73786980420154298754) : Touches m s (State.lds t a1 a2) ↔ Touches m s t :=
  Touches.peel hm (by 
    unfold State.lds; 
    refine (touches_issue (by decide) fun u x => ?_).2 Touches.rfl
    (repeat' (first | split | dsimp only)) <;> simp)

@[simp] theorem touches_sts (hm : 73786980424449266050 &&& m = 73786980424449266050) : Touches m s (State.sts t a1 a2) ↔ Touches m s t :=
  Touches.peel hm (by 
    unfold State.sts; 
    refine (touches_issue (by decide) fun u x => ?_).2 Touches.rfl
    (repeat' (first | split | dsimp only)) <;> simp)

@[simp] theorem touches_vlds (hm : 73786980420154298754 &&& m = 73786980420154298754) : Touches m s (State.vlds t a1 a2) ↔ Touches m s t :=
  Touches.peel hm (by 
    unfold State.vlds; 
    refine (touches_issue (by decide) fun u x => ?_).2 Touches.rfl
    (repeat' (first | split | dsimp only)) <;> simp)

@[simp] theorem touches_vsts (hm : 73786980424449266050 &&& m = 73786980424449266050) : Touches m s (State.vsts t a1 a2) ↔ Touches m s t :=
  Touches.peel hm (by 
    unfold State.vsts; 
    refine (touches_issue (by decide) fun u x => ?_).2 Touches.rfl
    (repeat' (first | split | dsimp only)) <;> simp)

@[simp] theorem touches_amm (hm : 73786980437334167938 &&& m = 73786980437334167938) : Touches m s (State.amm t a1 a2) ↔ Touches m s t :=
  Touches.peel hm (by simp [State.amm])

@[simp] theorem touches_ammDone (hm : 73786980437342556546 &&& m = 73786980437342556546) : Touches m s (State.ammDone t a1 a2) ↔ Touches m s t :=
  Touches.peel hm (by 
    unfold State.ammDone; split
    · simp
    · simp only [Touches.ite_iff]
      refine ⟨fun _ => by simp, fun _ => ?_⟩
      rw [touches_refusedOf (by decide), touches_record (by decide)]
      simp only [Touches.ite_iff]
      refine ⟨fun _ => ?_, fun _ => ?_⟩ <;> simp)

@[simp] theorem touches_aload (hm : 73786980420154298754 &&& m = 73786980420154298754) : Touches m s (State.aload t a1 a2) ↔ Touches m s t :=
  Touches.peel hm (by simp [State.aload])

@[simp] theorem touches_astore (hm : 73786980424449266050 &&& m = 73786980424449266050) : Touches m s (State.astore t a1 a2) ↔ Touches m s t :=
  Touches.peel hm (by simp [State.astore])

@[simp] theorem touches_azero (hm : 73786980420154298754 &&& m = 73786980420154298754) : Touches m s (State.azero t a1 a2) ↔ Touches m s t :=
  Touches.peel hm (by simp [State.azero])

@[simp] theorem touches_abftInject (hm : 8388608 &&& m = 8388608) : Touches m s (State.abftInject t a1) ↔ Touches m s t :=
  Touches.peel hm (by simp [State.abftInject])

theorem touches_execLds : TouchesO 73786980420154298754 t (execLds a1 a2 t) := by
  simp [execLds]

theorem touches_execSts : TouchesO 73786980424449266050 t (execSts a1 a2 t) := by
  simp [execSts]

theorem touches_execVlds : TouchesO 73786980420154298754 t (execVlds a1 a2 t) := by
  simp [execVlds]

theorem touches_execVsts : TouchesO 73786980424449266050 t (execVsts a1 a2 t) := by
  simp [execVsts]

theorem touches_execAmm : TouchesO 73786980437334167938 t (execAmm a1 a2 t) := by
  simp [execAmm]

theorem touches_execAzero : TouchesO 73786980420154298754 t (execAzero a1 a2 t) := by
  simp [execAzero]

theorem touches_execAstore : TouchesO 73786980424449266050 t (execAstore a1 a2 t) := by
  simp [execAstore]

theorem touches_execAload : TouchesO 73786980420154298754 t (execAload a1 a2 t) := by
  simp [execAload]

theorem touches_execAmmComplete : TouchesO 73786980437342556546 t (execAmmComplete a1 a2 t) := by
  simp [execAmmComplete]

theorem touches_execAttAbftInject : TouchesO 221360933007691612546 t (execAttAbftInject a1 a2 t) := by
  simp [execAttAbftInject]

end Sys2Proof.Machine
end

