-- ==== Sys2Proof/Laws/Access.lean ====
section
/-! SUPPORT. What each operation of Machine/Access.lean may touch. -/

namespace Sys2Proof.Machine

variable {m : Nat} {s t : State}

@[simp] theorem touches_updAccess (hm : 2147483648 &&& m = 2147483648) : Touches m s (State.updAccess t a1 a2 a3) ↔ Touches m s t :=
  Touches.peel hm (by simp [State.updAccess])

@[simp] theorem touches_askLine (hm : 590899292949291466886 &&& m = 590899292949291466886) : Touches m s (State.askLine t a1 a2 a3) ↔ Touches m s t :=
  Touches.peel hm (by unfold State.askLine; (repeat' (first | split | dsimp only)) <;> simp)

@[simp] theorem touches_pump (hm : 590899292949291466886 &&& m = 590899292949291466886) : Touches m s (State.pump t a1 a2) ↔ Touches m s t :=
  Touches.peel hm (by unfold State.pump; (repeat' split) <;> simp)

@[simp] theorem touches_pumpGallery (hm : 590899292949291466886 &&& m = 590899292949291466886) : Touches m s (State.pumpGallery t a1) ↔ Touches m s t :=
  Touches.peel hm (by 
    unfold State.pumpGallery; try dsimp only
    rw [Touches.each]
    · simp
    · intro u e
      rw [Touches.each]
      · simp
      · intro u e
        simp)

@[simp] theorem touches_dropAccess (hm : 58513678784506825278342 &&& m = 58513678784506825278342) : Touches m s (State.dropAccess t a1 a2 a3) ↔ Touches m s t :=
  Touches.peel hm (by simp [State.dropAccess])

@[simp] theorem touches_accessFault (hm : 58513678784506825282438 &&& m = 58513678784506825282438) : Touches m s (State.accessFault t a1 a2 a3 a4 a5) ↔ Touches m s t :=
  Touches.peel hm (by simp [State.accessFault])

@[simp] theorem touches_translateAccess (hm : 58513679910647250293638 &&& m = 58513679910647250293638) : Touches m s (State.translateAccess t a1 a2) ↔ Touches m s t :=
  Touches.peel hm (by
    unfold State.translateAccess; split
    · simp
    · simp only [Touches.ite_iff]
      refine ⟨fun _ => by simp, fun _ => ?_⟩
      split
      · split <;> simp
      · rw [Touches.ite_iff]
        refine ⟨fun _ => by simp, fun _ => ?_⟩
        split
        · simp
        · exact (touches_startWalk (by assumption) (by decide)).2 (by simp))

@[simp] theorem touches_translateGallery (hm : 58513679910647250293638 &&& m = 58513679910647250293638) : Touches m s (State.translateGallery t a1) ↔ Touches m s t :=
  Touches.peel hm (by 
    unfold State.translateGallery; try dsimp only
    rw [Touches.each]
    · simp
    · intro u e
      rw [Touches.each]
      · simp
      · intro u e
        simp)

@[simp] theorem touches_endAccess (hm : 58513678784506825282438 &&& m = 58513678784506825282438) : Touches m s (State.endAccess t a1 a2 a3 a4) ↔ Touches m s t :=
  Touches.peel hm (by simp [State.endAccess])

@[simp] theorem touches_serveLoads (hm : 2147483648 &&& m = 2147483648) : Touches m s (State.serveLoads t a1 a2 a3 a4) ↔ Touches m s t :=
  Touches.peel hm (by simp [State.serveLoads])

@[simp] theorem touches_refuseWeights (hm : 58513678784506825282438 &&& m = 58513678784506825282438) : Touches m s (State.refuseWeights t a1 a2) ↔ Touches m s t :=
  Touches.peel hm (by simp [State.refuseWeights])

@[simp] theorem touches_accessRsp (hm : 58513678784747343451014 &&& m = 58513678784747343451014) : Touches m s (State.accessRsp t a1 a2 a3 a4 a5 a6 a7 a8) ↔ Touches m s t :=
  Touches.peel hm (by unfold State.accessRsp; (repeat' (first | split | dsimp only)) <;> simp)

@[simp] theorem touches_goneRsp (hm : 590899292951438950534 &&& m = 590899292951438950534) : Touches m s (State.goneRsp t a1 a2 a3 a4 a5 a6 a7 a8 a9) ↔ Touches m s t :=
  Touches.peel hm (by unfold State.goneRsp; (repeat' split) <;> simp)

@[simp] theorem touches_engineRead (hm : 1771490913426184601730 &&& m = 1771490913426184601730) : Touches m s (State.engineRead t a1 a2) ↔ Touches m s t :=
  Touches.peel hm (by simp [State.engineRead])

@[simp] theorem touches_flightUnwritten (hm : 4736 &&& m = 4736) : Touches m s (State.flightUnwritten t a1 a2 a3 a4 a5) ↔ Touches m s t :=
  Touches.peel hm (by unfold State.flightUnwritten; (repeat' (first | split | dsimp only)) <;> simp)

@[simp] theorem touches_engineWrote (hm : 1845278738511787201414 &&& m = 1845278738511787201414) : Touches m s (State.engineWrote t a1 a2 a3) ↔ Touches m s t :=
  Touches.peel hm (by unfold State.engineWrote; (repeat' (first | split | dsimp only)) <;> simp)

@[simp] theorem touches_engineEnd (hm : 1845278738511787201414 &&& m = 1845278738511787201414) : Touches m s (State.engineEnd t a1 a2 a3) ↔ Touches m s t :=
  Touches.peel hm (by simp [State.engineEnd])

@[simp] theorem touches_ownRsp (hm : 58519700097449137836934 &&& m = 58519700097449137836934) : Touches m s (State.ownRsp t a1 a2) ↔ Touches m s t :=
  Touches.peel hm (by unfold State.ownRsp; (repeat' (first | split | dsimp only)) <;> simp)

@[simp] theorem touches_deliverMsg (hm : 58519988363009661637510 &&& m = 58519988363009661637510) : Touches m s (State.deliverMsg t a1) ↔ Touches m s t :=
  Touches.peel hm (by unfold State.deliverMsg; (repeat' split) <;> simp)

@[simp] theorem touches_settleNet (hm : 58519988363009661637510 &&& m = 58519988363009661637510) : Touches m s (State.settleNet a1 t) ↔ Touches m s t :=
  Touches.peel hm (by 
    induction a1 generalizing t with
    | zero => simp [State.settleNet]
    | succ n ih =>
      have ih' : ∀ {s t}, Touches 58519988363009661637510 s (State.settleNet n t) ↔ Touches 58519988363009661637510 s t := Touches.peel (by decide) ih
      unfold State.settleNet; split <;> simp [ih'])

@[simp] theorem touches_runNet (hm : 58519988363009661637510 &&& m = 58519988363009661637510) : Touches m s (State.runNet t) ↔ Touches m s t :=
  Touches.peel hm (by simp [State.runNet])

@[simp] theorem touches_issueAccess (hm : 58519989488909568480134 &&& m = 58519989488909568480134) : Touches m s (State.issueAccess t a1 a2) ↔ Touches m s t :=
  Touches.peel hm (by unfold State.issueAccess; (repeat' (first | split | dsimp only)) <;> simp)

@[simp] theorem touches_scalarAccess (hm : 58519989488909568480134 &&& m = 58519989488909568480134) : Touches m s (State.scalarAccess t a1 a2 a3 a4) ↔ Touches m s t :=
  Touches.peel hm (by simp [State.scalarAccess])

@[simp] theorem touches_vectorAccess (hm : 58519989488909568480134 &&& m = 58519989488909568480134) : Touches m s (State.vectorAccess t a1 a2 a3 a4) ↔ Touches m s t :=
  Touches.peel hm (by simp [State.vectorAccess])

@[simp] theorem touches_linv (hm : 58519989488909568480134 &&& m = 58519989488909568480134) : Touches m s (State.linv t a1 a2) ↔ Touches m s t :=
  Touches.peel hm (by simp [State.linv])

@[simp] theorem touches_atomic (hm : 58519989488909568480134 &&& m = 58519989488909568480134) : Touches m s (State.atomic t a1 a2 a3 a4) ↔ Touches m s t :=
  Touches.peel hm (by simp [State.atomic])

@[simp] theorem touches_fence (hm : 58519988363009661637510 &&& m = 58519988363009661637510) : Touches m s (State.fence t a1 a2) ↔ Touches m s t :=
  Touches.peel hm (by simp [State.fence])

@[simp] theorem touches_putLine (hm : 103079215104 &&& m = 103079215104) : Touches m s (State.putLine t a1 a2 a3 a4) ↔ Touches m s t :=
  Touches.peel hm (by unfold State.putLine; (repeat' split) <;> simp)

@[simp] theorem touches_doAtomic (hm : 103079215104 &&& m = 103079215104) : Touches m s (State.doAtomic t a1 a2 a3) ↔ Touches m s t :=
  Touches.peel hm (by simp [State.doAtomic])

@[simp] theorem touches_result (hm : 2147483648 &&& m = 2147483648) : Touches m s (State.result t a1 a2 a3) ↔ Touches m s t :=
  Touches.peel hm (by simp [State.result])

@[simp] theorem touches_perform (hm : 58513678784609904497542 &&& m = 58513678784609904497542) : Touches m s (State.perform t a1 a2) ↔ Touches m s t :=
  Touches.peel hm (by simp [State.perform])

@[simp] theorem touches_accessComplete (hm : 58519988363009661637510 &&& m = 58519988363009661637510) : Touches m s (State.accessComplete t a1 a2 a3 a4) ↔ Touches m s t :=
  Touches.peel hm (by unfold State.accessComplete; (repeat' (first | split | dsimp only)) <;> simp)

theorem touches_execLd : TouchesO 58519989488909568480134 t (execLd a1 a2 t) := by
  simp [execLd]

theorem touches_execSt : TouchesO 58519989488909568480134 t (execSt a1 a2 t) := by
  simp [execSt]

theorem touches_execVld : TouchesO 58519989488909568480134 t (execVld a1 a2 t) := by
  simp [execVld]

theorem touches_execVst : TouchesO 58519989488909568480134 t (execVst a1 a2 t) := by
  simp [execVst]

theorem touches_execLdv : TouchesO 58519989488909568480134 t (execLdv a1 a2 t) := by
  simp [execLdv]

theorem touches_execVldv : TouchesO 58519989488909568480134 t (execVldv a1 a2 t) := by
  simp [execVldv]

theorem touches_execLinv : TouchesO 58519989488909568480134 t (execLinv a1 a2 t) := by
  simp [execLinv]

theorem touches_execAadd : TouchesO 58519989488909568480134 t (execAadd a1 a2 t) := by
  simp [execAadd]

theorem touches_execAswp : TouchesO 58519989488909568480134 t (execAswp a1 a2 t) := by
  simp [execAswp]

theorem touches_execAcas : TouchesO 58519989488909568480134 t (execAcas a1 a2 t) := by
  simp [execAcas]

theorem touches_execAmin : TouchesO 58519989488909568480134 t (execAmin a1 a2 t) := by
  simp [execAmin]

theorem touches_execAmax : TouchesO 58519989488909568480134 t (execAmax a1 a2 t) := by
  simp [execAmax]

theorem touches_execAlda : TouchesO 58519989488909568480134 t (execAlda a1 a2 t) := by
  simp [execAlda]

theorem touches_execAstr : TouchesO 58519989488909568480134 t (execAstr a1 a2 t) := by
  simp [execAstr]

theorem touches_execFence : TouchesO 58519988363009661637510 t (execFence a1 a2 t) := by
  simp [execFence]

end Sys2Proof.Machine
end

