-- ==== Sys2Proof/Laws/Gloss.lean ====
section
/-! SUPPORT. What each operation of Machine/Gloss.lean may touch. -/

namespace Sys2Proof.Machine

variable {m : Nat} {s t : State}

@[simp] theorem touches_regionWrite {act : State → State} (hm : 221360933007683223938 &&& m = 221360933007683223938) (hf : ∀ u, Touches m u (act u)) :
    Touches m s (State.regionWrite t a1 a2 a3 act) ↔ Touches m s t := by
  have k : ∀ L, L &&& 221360933007683223938 = L → L &&& m = L := fun L h => Touches.sub h hm
  have hf' : ∀ {s u}, Touches m s (act u) ↔ Touches m s u := fun {s u} => Touches.peel (Nat.and_self m) (hf u)
  exact Touches.peel (Nat.and_self m) (by 
    unfold State.regionWrite; 
    refine (touches_setupWrite (k _ (by decide)) fun u => ?_).2 Touches.rfl
    split <;> simp [k, hf'])

@[simp] theorem touches_dropCached (hm : 36029037537132544 &&& m = 36029037537132544) : Touches m s (State.dropCached t a1) ↔ Touches m s t :=
  Touches.peel hm (by simp [State.dropCached])

@[simp] theorem touches_regionSet (hm : 73823009455543943554 &&& m = 73823009455543943554) : Touches m s (State.regionSet t a1 a2 a3) ↔ Touches m s t :=
  Touches.peel hm (by simp [State.regionSet])

@[simp] theorem touches_dropBlocks (hm : 4503599627370496 &&& m = 4503599627370496) : Touches m s (State.dropBlocks t a1) ↔ Touches m s t :=
  Touches.peel hm (by simp [State.dropBlocks])

@[simp] theorem touches_advanceMgen (hm : 128 &&& m = 128) : Touches m s (State.advanceMgen t) ↔ Touches m s t :=
  Touches.peel hm (by simp [State.advanceMgen])

@[simp] theorem touches_regionClear (hm : 18451247673336922240 &&& m = 18451247673336922240) : Touches m s (State.regionClear t a1 a2 a3) ↔ Touches m s t :=
  Touches.peel hm (by simp [State.regionClear])

@[simp] theorem touches_regionReady (hm : 18446744073709551744 &&& m = 18446744073709551744) : Touches m s (State.regionReady t a1) ↔ Touches m s t :=
  Touches.peel hm (by simp [State.regionReady])

theorem touches_execRegionValidSet : TouchesO 221396962045220356482 t (execRegionValidSet a1 a2 a3 t) := by
  simp [execRegionValidSet]

theorem touches_execRegionValidClear : TouchesO 239812180681020146050 t (execRegionValidClear a1 a2 a3 t) := by
  simp [execRegionValidClear]

theorem touches_execRegionMeasured : TouchesO 18446744073709551744 t (execRegionMeasured a1 t) := by
  simp [execRegionMeasured]

theorem touches_execWeightBlockExpanded : TouchesO 73791484017634181506 t (execWeightBlockExpanded a1 a2 t) := by
  simp [execWeightBlockExpanded]

end Sys2Proof.Machine
end

