-- ==== Sys2Proof/Laws/Sentence.lean ====
section
/-! SUPPORT. What each operation of Machine/Sentence.lean may touch. -/

namespace Sys2Proof.Machine

variable {m : Nat} {s t : State}

@[simp] theorem touches_bookStart (hm : 73786980418006815106 &&& m = 73786980418006815106) : Touches m s (State.bookStart t a1) ↔ Touches m s t :=
  Touches.peel hm (by unfold State.bookStart; (repeat' (first | split | dsimp only)) <;> simp)

@[simp] theorem touches_bookDone (hm : 4224 &&& m = 4224) : Touches m s (State.bookDone t) ↔ Touches m s t :=
  Touches.peel hm (by unfold State.bookDone; (repeat' split) <;> simp)

@[simp] theorem touches_bookCommand (hm : 73786980418006815106 &&& m = 73786980418006815106) : Touches m s (State.bookCommand t a1 a2 a3) ↔ Touches m s t :=
  Touches.peel hm (by unfold State.bookCommand; (repeat' split) <;> simp)

@[simp] theorem touches_bookWrite (hm : 221360933007683228034 &&& m = 221360933007683228034) : Touches m s (State.bookWrite t a1 a2 a3) ↔ Touches m s t :=
  Touches.peel hm (by simp [State.bookWrite])

theorem touches_execBookLoad : TouchesO 221360933007683228034 t (execBookLoad a1 a2 t) := by
  simp [execBookLoad]

theorem touches_execBookUnload : TouchesO 221360933007683228034 t (execBookUnload a1 a2 t) := by
  simp [execBookUnload]

theorem touches_execBookLoadComplete : TouchesO 4224 t (execBookLoadComplete t) := by
  simp [execBookLoadComplete]

end Sys2Proof.Machine
end

