-- ==== Sys2Proof/Laws/Session.lean ====
section
/-! SUPPORT. What each operation of Machine/Session.lean may touch. -/

namespace Sys2Proof.Machine

variable {m : Nat} {s t : State}

@[simp] theorem touches_askEntry (hm : 61390791298903154634758 &&& m = 61390791298903154634758) : Touches m s (State.askEntry t a1 a2) ↔ Touches m s t :=
  Touches.peel hm (by simp [State.askEntry])

@[simp] theorem touches_shareRoot (hm : 49152 &&& m = 49152) : Touches m s (State.shareRoot t a1).1 ↔ Touches m s t :=
  Touches.peel hm (by simp [State.shareRoot])

theorem touches_makeChild {u : State} (h : State.makeChild t a1 a2 a3 a4 a5 a6 = some u) (hm : 590899332016314048642 &&& m = 590899332016314048642) : Touches m s u ↔ Touches m s t := by
  refine Touches.peel hm ?_
  unfold State.makeChild at h; dsimp only at h; split at h
  · cases h
  · cases h; simp; exact (touches_allocUnits (by assumption) (by decide)).2 Touches.rfl

theorem touches_applyMember {u : State} (h : State.applyMember t a1 a2 a3 a4 a5 a6 = some u) (hm : 5313265814885961887874 &&& m = 5313265814885961887874) : Touches m s u ↔ Touches m s t := by
  refine Touches.peel hm ?_
  unfold State.applyMember at h; dsimp only at h; (repeat' split at h)
  all_goals first
    | cases h; done
    | exact (touches_makeChild h (by decide)).2 Touches.rfl
    | (cases h; simp; done)

@[simp] theorem touches_tellMembers (hm : 56668424816033506787334 &&& m = 56668424816033506787334) : Touches m s (State.tellMembers t a1 a2) ↔ Touches m s t :=
  Touches.peel hm (by simp [State.tellMembers])

@[simp] theorem touches_tellOthers (hm : 56668424816033506787334 &&& m = 56668424816033506787334) : Touches m s (State.tellOthers t a1 a2 a3 a4 a5) ↔ Touches m s t :=
  Touches.peel hm (by simp [State.tellOthers])

@[simp] theorem touches_enterOffered (hm : 139264 &&& m = 139264) : Touches m s (State.enterOffered t a1) ↔ Touches m s t :=
  Touches.peel hm (by simp [State.enterOffered])

@[simp] theorem touches_releaseGone (hm : 56668424816033506787334 &&& m = 56668424816033506787334) : Touches m s (State.releaseGone t a1) ↔ Touches m s t :=
  Touches.peel hm (by unfold State.releaseGone; (repeat' split) <;> simp)

@[simp] theorem touches_endSesOp (hm : 63236043050758884291462 &&& m = 63236043050758884291462) : Touches m s (State.endSesOp t a1) ↔ Touches m s t :=
  Touches.peel hm (by 
    unfold State.endSesOp; try dsimp only; (repeat' split)
    all_goals first
      | (simp; done)
      | (simp; exact (touches_applyMember (by assumption) (by decide)).2 (by simp)))

@[simp] theorem touches_memberAnswered (hm : 63236043050758884291462 &&& m = 63236043050758884291462) : Touches m s (State.memberAnswered t a1 a2 a3) ↔ Touches m s t :=
  Touches.peel hm (by unfold State.memberAnswered; (repeat' split) <;> simp)

@[simp] theorem touches_startMulti (hm : 63236043050758884291462 &&& m = 63236043050758884291462) : Touches m s (State.startMulti t a1 a2 a3 a4 a5 a6 a7) ↔ Touches m s t :=
  Touches.peel hm (by 
    unfold State.startMulti; try dsimp only; (repeat' split)
    all_goals first
      | (simp; done)
      | (simp; exact (touches_applyMember (by assumption) (by decide)).2 (by simp)))

@[simp] theorem touches_endSess (hm : 1845278738269121545094 &&& m = 1845278738269121545094) : Touches m s (State.endSess t a1 a2 a3 a4 a5 a6) ↔ Touches m s t :=
  Touches.peel hm (by simp [State.endSess])

@[simp] theorem touches_withSession {act : State → Nat → State} (hm : 72680775981313802384262 &&& m = 72680775981313802384262) (hf : ∀ u x1, Touches m u (act u x1)) :
    Touches m s (State.withSession t a1 a2 a3 a4 a5 a6 act) ↔ Touches m s t := by
  have k : ∀ L, L &&& 72680775981313802384262 = L → L &&& m = L := fun L h => Touches.sub h hm
  have hf' : ∀ {s u} x1, Touches m s (act u x1) ↔ Touches m s u := fun {s u} x1 => Touches.peel (Nat.and_self m) (hf u x1)
  exact Touches.peel (Nat.and_self m) (by unfold State.withSession; (repeat' (first | split | dsimp only)) <;> simp [k, hf'])

theorem touches_newEntry {u : State} (h : State.newEntry t a1 a2 = some u) (hm : 590899332016314032258 &&& m = 590899332016314032258) : Touches m s u ↔ Touches m s t := by
  refine Touches.peel hm ?_
  unfold State.newEntry at h; split at h
  · cases h
  · cases h; simp; exact (touches_allocUnits (by assumption) (by decide)).2 Touches.rfl

@[simp] theorem touches_sesCreate (hm : 1845278773453493674886 &&& m = 1845278773453493674886) : Touches m s (State.sesCreate t a1 a2) ↔ Touches m s t :=
  Touches.peel hm (by 
    unfold State.sesCreate; try dsimp only; (repeat' split)
    all_goals first
      | (simp; done)
      | (simp; exact (touches_newEntry (by assumption) (by decide)).2 (by simp)))

@[simp] theorem touches_askPage (hm : 56668424816033507311622 &&& m = 56668424816033507311622) : Touches m s (State.askPage t a1 a2 a3) ↔ Touches m s t :=
  Touches.peel hm (by simp [State.askPage])

@[simp] theorem touches_sesAppend (hm : 72680780520097806087046 &&& m = 72680780520097806087046) : Touches m s (State.sesAppend t a1 a2 a3) ↔ Touches m s t :=
  Touches.peel hm (by 
    unfold State.sesAppend; dsimp only; split
    · simp
    · simp only [Touches.ite_iff]
      refine ⟨fun _ => by simp, fun _ => ⟨fun _ => by simp, fun _ => ⟨fun _ => by simp, fun _ => ?_⟩⟩⟩
      refine (touches_withSession (by decide) fun u x => ?_).2 Touches.rfl
      try dsimp only
      (repeat' split)
      all_goals first
        | (simp; done)
        | (simp; exact (touches_appendRows (by assumption) (by decide)).2 (by simp)))

@[simp] theorem touches_sesPublish (hm : 72680776016498174473094 &&& m = 72680776016498174473094) : Touches m s (State.sesPublish t a1 a2) ↔ Touches m s t :=
  Touches.peel hm (by unfold State.sesPublish; (repeat' split) <;> simp)

@[simp] theorem touches_sesChild (hm : 72680776016498174718854 &&& m = 72680776016498174718854) : Touches m s (State.sesChild t a1 a2 a3 a4) ↔ Touches m s t :=
  Touches.peel hm (by 
    unfold State.sesChild; split
    · simp
    · refine (touches_withSession (by decide) fun u x => ?_).2 Touches.rfl
      try dsimp only; (repeat' split) <;> simp)

@[simp] theorem touches_sesDiscard (hm : 72680776016498174718854 &&& m = 72680776016498174718854) : Touches m s (State.sesDiscard t a1 a2) ↔ Touches m s t :=
  Touches.peel hm (by unfold State.sesDiscard; (repeat' split) <;> simp)

@[simp] theorem touches_sesOffer (hm : 72680776016498174718854 &&& m = 72680776016498174718854) : Touches m s (State.sesOffer t a1 a2) ↔ Touches m s t :=
  Touches.peel hm (by unfold State.sesOffer; (repeat' split) <;> simp)

@[simp] theorem touches_sesAccept (hm : 56668424816033507049990 &&& m = 56668424816033507049990) : Touches m s (State.sesAccept t a1 a2) ↔ Touches m s t :=
  Touches.peel hm (by unfold State.sesAccept; (repeat' split) <;> simp)

@[simp] theorem touches_sesQueryOp (hm : 72680775981313802384262 &&& m = 72680775981313802384262) : Touches m s (State.sesQueryOp t a1 a2) ↔ Touches m s t :=
  Touches.peel hm (by unfold State.sesQueryOp; (repeat' split) <;> simp)

@[simp] theorem touches_sesWake (hm : 72680776016498174473094 &&& m = 72680776016498174473094) : Touches m s (State.sesWake t a1 a2) ↔ Touches m s t :=
  Touches.peel hm (by unfold State.sesWake; (repeat' split) <;> simp)

@[simp] theorem touches_memberOp (hm : 64342846850756527059078 &&& m = 64342846850756527059078) : Touches m s (State.memberOp t a1) ↔ Touches m s t :=
  Touches.peel hm (by
    unfold State.memberOp; dsimp only; split
    · split
      · split <;> simp
      · simp
    · split
      · exact (touches_applyMember (by assumption) (by decide)).2 Touches.rfl
      · simp; exact (touches_applyMember (by assumption) (by decide)).2 Touches.rfl)

@[simp] theorem touches_endNaming (hm : 1845278738269121545094 &&& m = 1845278738269121545094) : Touches m s (State.endNaming t a1 a2) ↔ Touches m s t :=
  Touches.peel hm (by 
    unfold State.endNaming
    rw [Touches.each]
    · simp
    · intro u e
      refine Touches.ite (fun _ => ?_) fun _ => by simp
      rw [Touches.each]
      · simp
      · intro u e; (repeat' split) <;> simp)

@[simp] theorem touches_servePage (hm : 56742211831635885728134 &&& m = 56742211831635885728134) : Touches m s (State.servePage t a1 a2 a3 a4) ↔ Touches m s t :=
  Touches.peel hm (by unfold State.servePage; (repeat' (first | split | dsimp only)) <;> simp)

@[simp] theorem touches_servePageWhenCalm (hm : 57333084102746895851910 &&& m = 57333084102746895851910) : Touches m s (State.servePageWhenCalm t a1 a2 a3 a4 a5) ↔ Touches m s t :=
  Touches.peel hm (by unfold State.servePageWhenCalm; (repeat' (first | split | dsimp only)) <;> simp)

@[simp] theorem touches_serveLeased (hm : 57333084102746895851910 &&& m = 57333084102746895851910) : Touches m s (State.serveLeased t a1 a2 a3 a4 a5) ↔ Touches m s t :=
  Touches.peel hm (by unfold State.serveLeased; (repeat' split) <;> simp)

@[simp] theorem touches_pullAsked (hm : 57333084102746895851910 &&& m = 57333084102746895851910) : Touches m s (State.pullAsked t a1 a2 a3 a4) ↔ Touches m s t :=
  Touches.peel hm (by simp [State.pullAsked])

@[simp] theorem touches_pullsGoOn (hm : 57333084102746895851910 &&& m = 57333084102746895851910) : Touches m s (State.pullsGoOn t) ↔ Touches m s t :=
  Touches.peel hm (by
    unfold State.pullsGoOn
    rw [Touches.each]
    · simp
    · intro u a; (repeat' (first | split | dsimp only)) <;> simp)

theorem touches_takePage {u : State} (h : State.takePage t a1 a2 a3 a4 a5 = some u) (hm : 590899332016314048642 &&& m = 590899332016314048642) : Touches m s u ↔ Touches m s t := by
  refine Touches.peel hm ?_
  unfold State.takePage at h; dsimp only at h; split at h
  · cases h
  · split at h
    · cases h
    · cases h; simp
      exact (touches_allocPage (by assumption) (by decide)).2 ((touches_ownLeaf (by assumption) (by decide)).2 Touches.rfl)

@[simp] theorem touches_pullsEnd (hm : 61390791298903152009222 &&& m = 61390791298903152009222) : Touches m s (State.pullsEnd t a1) ↔ Touches m s t :=
  Touches.peel hm (by unfold State.pullsEnd; dsimp only; split <;> simp)

@[simp] theorem touches_pageCame (hm : 61390791298903152009222 &&& m = 61390791298903152009222) : Touches m s (State.pageCame t a1) ↔ Touches m s t :=
  Touches.peel hm (by unfold State.pageCame; dsimp only; split <;> simp)

@[simp] theorem touches_memberHolds (hm : 61390791298903152009222 &&& m = 61390791298903152009222) : Touches m s (State.memberHolds t a1 a2) ↔ Touches m s t :=
  Touches.peel hm (by simp [State.memberHolds])

@[simp] theorem touches_memberAcked (hm : 63236043050758884291462 &&& m = 63236043050758884291462) : Touches m s (State.memberAcked t a1 a2) ↔ Touches m s t :=
  Touches.peel hm (by simp [State.memberAcked])

theorem touches_fillEntry {u : State} (h : State.fillEntry t a1 a2 a3 = some u) (hm : 664686308311152238978 &&& m = 664686308311152238978) : Touches m s u ↔ Touches m s t := by
  refine Touches.peel hm ?_
  unfold State.fillEntry at h; dsimp only at h
  obtain ⟨v, hv, rfl⟩ := Option.map_eq_some_iff.1 h
  split
  · simp; exact (touches_newEntry hv (by decide)).2 (by simp)
  · simp; exact (touches_newEntry hv (by decide)).2 (by simp)

@[simp] theorem touches_opsGoOn (hm : 64342846850756527059078 &&& m = 64342846850756527059078) : Touches m s (State.opsGoOn t a1) ↔ Touches m s t :=
  Touches.peel hm (by simp [State.opsGoOn])

@[simp] theorem touches_pullAnswered (hm : 65597226292193706701702 &&& m = 65597226292193706701702) : Touches m s (State.pullAnswered t a1 a2) ↔ Touches m s t :=
  Touches.peel hm (by
    unfold State.pullAnswered; dsimp only; split
    · refine Touches.ite (fun _ => by simp) fun _ => ?_
      rw [touches_endNaming (by decide), touches_opsGoOn (by decide)]
      split
      · split
        · exact (touches_fillEntry (by assumption) (by decide)).2 (by simp)
        · simp
      · simp
    · refine Touches.ite (fun _ => by simp) fun _ => ?_
      split
      · simp; exact (touches_takePage (by assumption) (by decide)).2 (by simp)
      · simp
    · (repeat' split) <;> simp
    · (repeat' split) <;> simp
    · (repeat' split) <;> simp)

@[simp] theorem touches_pullExpired (hm : 1845278738269122077574 &&& m = 1845278738269122077574) : Touches m s (State.pullExpired t a1) ↔ Touches m s t :=
  Touches.peel hm (by simp [State.pullExpired])

@[simp] theorem touches_claimed (hm : 56668424816033506795526 &&& m = 56668424816033506795526) : Touches m s (State.claimed t a1 a2 a3 a4 a5) ↔ Touches m s t :=
  Touches.peel hm (by simp [State.claimed])

@[simp] theorem touches_endAccept (hm : 1845278738269121807238 &&& m = 1845278738269121807238) : Touches m s (State.endAccept t a1 a2 a3) ↔ Touches m s t :=
  Touches.peel hm (by unfold State.endAccept; (repeat' split) <;> simp)

@[simp] theorem touches_acceptDone (hm : 63236043015574509593478 &&& m = 63236043015574509593478) : Touches m s (State.acceptDone t a1) ↔ Touches m s t :=
  Touches.peel hm (by unfold State.acceptDone; split <;> simp)

@[simp] theorem touches_failAccept (hm : 6567645221138769654662 &&& m = 6567645221138769654662) : Touches m s (State.failAccept t a1 a2) ↔ Touches m s t :=
  Touches.peel hm (by unfold State.failAccept; (repeat' split) <;> simp)

@[simp] theorem touches_granted (hm : 58513676567889236501382 &&& m = 58513676567889236501382) : Touches m s (State.granted t a1 a2 a3 a4 a5) ↔ Touches m s t :=
  Touches.peel hm (by 
    unfold State.granted; try dsimp only; (repeat' split)
    all_goals first
      | (simp; done)
      | (simp; exact (touches_newEntry (by assumption) (by decide)).2 (by simp)))

@[simp] theorem touches_committedAt (hm : 58513676532704864248710 &&& m = 58513676532704864248710) : Touches m s (State.committedAt t a1 a2 a3) ↔ Touches m s t :=
  Touches.peel hm (by simp [State.committedAt])

@[simp] theorem touches_commitAcked (hm : 63236043015574509593478 &&& m = 63236043015574509593478) : Touches m s (State.commitAcked t a1 a2) ↔ Touches m s t :=
  Touches.peel hm (by unfold State.commitAcked; (repeat' split) <;> simp)

@[simp] theorem touches_commitExpired (hm : 56668424816033507049478 &&& m = 56668424816033507049478) : Touches m s (State.commitExpired t a1 a2) ↔ Touches m s t :=
  Touches.peel hm (by unfold State.commitExpired; (repeat' split) <;> simp)

@[simp] theorem touches_leaseAnswered (hm : 63236043015574512219014 &&& m = 63236043015574512219014) : Touches m s (State.leaseAnswered t a1 a2 a3) ↔ Touches m s t :=
  Touches.peel hm (by unfold State.leaseAnswered; (repeat' split) <;> simp)

@[simp] theorem touches_leaseExpired (hm : 1845278738269121815430 &&& m = 1845278738269121815430) : Touches m s (State.leaseExpired t a1 a2) ↔ Touches m s t :=
  Touches.peel hm (by unfold State.leaseExpired; (repeat' split) <;> simp)

@[simp] theorem touches_claimRefusedAt (hm : 6567645221138769654662 &&& m = 6567645221138769654662) : Touches m s (State.claimRefusedAt t a1 a2 a3) ↔ Touches m s t :=
  Touches.peel hm (by unfold State.claimRefusedAt; (repeat' split) <;> simp)

@[simp] theorem touches_leaseRead (hm : 57333084102746895851910 &&& m = 57333084102746895851910) : Touches m s (State.leaseRead t a1 a2) ↔ Touches m s t :=
  Touches.peel hm (by simp [State.leaseRead])

@[simp] theorem touches_leaseLost (hm : 56668424816033507835910 &&& m = 56668424816033507835910) : Touches m s (State.leaseLost t a1) ↔ Touches m s t :=
  Touches.peel hm (by simp [State.leaseLost])

@[simp] theorem touches_released (hm : 61390791298903154634758 &&& m = 61390791298903154634758) : Touches m s (State.released t a1 a2) ↔ Touches m s t :=
  Touches.peel hm (by simp [State.released])

@[simp] theorem touches_handoffExpired (hm : 1845278738269121684358 &&& m = 1845278738269121684358) : Touches m s (State.handoffExpired t a1) ↔ Touches m s t :=
  Touches.peel hm (by simp [State.handoffExpired])

@[simp] theorem touches_releaseExpired (hm : 73786980418006819202 &&& m = 73786980418006819202) : Touches m s (State.releaseExpired t a1) ↔ Touches m s t :=
  Touches.peel hm (by simp [State.releaseExpired])

@[simp] theorem touches_sessionIdle (hm : 8192 &&& m = 8192) : Touches m s (State.sessionIdle t a1) ↔ Touches m s t :=
  Touches.peel hm (by simp [State.sessionIdle])

@[simp] theorem touches_reclaimStep (hm : 39307547033730 &&& m = 39307547033730) : Touches m s (State.reclaimStep t) ↔ Touches m s t :=
  Touches.peel hm (by unfold State.reclaimStep; (repeat' split) <;> simp)

@[simp] theorem touches_sessionMiss (hm : 63236043050758885602182 &&& m = 63236043050758885602182) : Touches m s (State.sessionMiss t a1) ↔ Touches m s t :=
  Touches.peel hm (by unfold State.sessionMiss; (repeat' (first | split | dsimp only)) <;> simp)

theorem touches_execSessCreate : TouchesO 1845278773453493674886 t (execSessCreate a1 a2 t) := by
  simp [execSessCreate]

theorem touches_execAppend : TouchesO 72680780520097806087046 t (execAppend a1 a2 a3 t) := by
  simp [execAppend]

theorem touches_execPublish : TouchesO 72680776016498174473094 t (execPublish a1 a2 t) := by
  simp [execPublish]

theorem touches_execFork : TouchesO 72680776016498174718854 t (execFork a1 a2 t) := by
  simp [execFork]

theorem touches_execSessOpen : TouchesO 72680776016498174718854 t (execSessOpen a1 a2 t) := by
  simp [execSessOpen]

theorem touches_execDiscard : TouchesO 72680776016498174718854 t (execDiscard a1 a2 t) := by
  simp [execDiscard]

theorem touches_execOffer : TouchesO 72680776016498174718854 t (execOffer a1 a2 t) := by
  simp [execOffer]

theorem touches_execAccept : TouchesO 56668424816033507049990 t (execAccept a1 a2 t) := by
  simp [execAccept]

theorem touches_execSessQuery : TouchesO 72680775981313802384262 t (execSessQuery a1 a2 t) := by
  simp [execSessQuery]

theorem touches_execWake : TouchesO 72680776016498174473094 t (execWake a1 a2 t) := by
  simp [execWake]

theorem touches_execMemberOperation : TouchesO 64490420803346203472006 t (execMemberOperation a1 t) := by
  intro u h; cases h
  rw [touches_whenServed (by decide) fun u => by simp]; simp

theorem touches_execMemberAck : TouchesO 63383617003348560704390 t (execMemberAck a1 a2 t) := by
  simp [execMemberAck]

theorem touches_execSessionMemberTimeout : TouchesO 63383617003348560704390 t (execSessionMemberTimeout a1 a2 t) := by
  simp [execSessionMemberTimeout]

theorem touches_execPull : TouchesO 57480658055336572264838 t (execPull a1 a2 a3 a4 t) := by
  intro u h; cases h
  rw [touches_whenServed (by decide) fun u => by simp]; simp

theorem touches_execPullResponse : TouchesO 65744800244783383114630 t (execPullResponse a1 a2 t) := by
  simp [execPullResponse]

theorem touches_execPullTimeout : TouchesO 20882318622337379345286 t (execPullTimeout a1 t) := by
  simp [execPullTimeout]

theorem touches_execClaim : TouchesO 56815998768623183208454 t (execClaim a1 a2 a3 a4 a5 t) := by
  intro u h; cases h
  rw [touches_whenServed (by decide) fun u => by simp]; simp

theorem touches_execHandoffGrant : TouchesO 58661250520478912914310 t (execHandoffGrant a1 a2 a3 a4 a5 t) := by
  simp [execHandoffGrant]

theorem touches_execCommit : TouchesO 58661250485294540661638 t (execCommit a1 a2 a3 t) := by
  intro u h; cases h
  rw [touches_whenServed (by decide) fun u => by simp]; simp

theorem touches_execCommitAck : TouchesO 63383616968164186006406 t (execCommitAck a1 a2 t) := by
  simp [execCommitAck]

theorem touches_execCommitTimeout : TouchesO 56815998768623183462534 t (execCommitTimeout a1 a2 t) := by
  simp [execCommitTimeout]

theorem touches_execLeaseReadTimeout : TouchesO 20882318622337379083142 t (execLeaseReadTimeout a1 a2 t) := by
  simp [execLeaseReadTimeout]

theorem touches_execLeaseResolve : TouchesO 57480658055336572264838 t (execLeaseResolve a1 a2 t) := by
  simp [execLeaseResolve]

theorem touches_execRelease : TouchesO 61538365251492831047686 t (execRelease a1 a2 a3 t) := by
  intro u h; cases h
  rw [touches_whenServed (by decide) fun u => by simp]; simp

theorem touches_execHandoffTimerExpiry : TouchesO 1992852690858798097286 t (execHandoffTimerExpiry a1 t) := by
  simp [execHandoffTimerExpiry]

theorem touches_execReleaseWaitExpiry : TouchesO 221360933007683232130 t (execReleaseWaitExpiry a1 t) := by
  simp [execReleaseWaitExpiry]

theorem touches_execSessionIdleExpiry : TouchesO 8192 t (execSessionIdleExpiry a1 t) := by
  simp [execSessionIdleExpiry]

theorem touches_execReclamationProgress : TouchesO 39307547033730 t (execReclamationProgress t) := by
  simp [execReclamationProgress]

theorem touches_execClaimRefused : TouchesO 25604685105207026922374 t (execClaimRefused a1 a2 a3 t) := by
  simp [execClaimRefused]

theorem touches_execLeaseReadAnswer : TouchesO 63383616968164188631942 t (execLeaseReadAnswer a1 a2 a3 t) := by
  simp [execLeaseReadAnswer]

end Sys2Proof.Machine
end

