-- ==== Sys2Proof/Laws/Attention.lean ====
section
/-! SUPPORT. What each operation of Machine/Attention.lean may touch. -/

namespace Sys2Proof.Machine

variable {m : Nat} {s t : State}

@[simp] theorem touches_attnStart (hm : 72680776016498174473094 &&& m = 72680776016498174473094) : Touches m s (State.attnStart t a1 a2 a3) ↔ Touches m s t :=
  Touches.peel hm (by unfold State.attnStart; (repeat' (first | split | dsimp only)) <;> simp)

/-- The state a read of an item leaves. -/
def Got.state : Got → State
  | .ok s _ => s
  | .ends s _ => s
  | .waits s => s

/-- The state the last close of an item leaves. -/
def Closed.state : Closed → State
  | .done s _ => s
  | .installs s => s
  | .waits s => s

@[simp] theorem Got.state_ok (a2) : (Got.ok t a2).state = t := rfl
@[simp] theorem Got.state_ends (a2) : (Got.ends t a2).state = t := rfl
@[simp] theorem Got.state_waits : (Got.waits t).state = t := rfl
@[simp] theorem Closed.state_done (a2) : (Closed.done t a2).state = t := rfl
@[simp] theorem Closed.state_installs : (Closed.installs t).state = t := rfl
@[simp] theorem Closed.state_waits : (Closed.waits t).state = t := rfl

/-- A read that answers `g` leaves the state of `g`. -/
theorem Touches.got {g g' : Got} (h : g = g') : Touches m s g'.state ↔ Touches m s g.state := by rw [h]

theorem Touches.ite_closed {p q : Closed} {c : Prop} [Decidable c] :
    Touches m s (if c then p else q).state ↔ (c → Touches m s p.state) ∧ (¬c → Touches m s q.state) := by
  split <;> simp [*]

theorem Touches.closed {g g' : Closed} (h : g = g') : Touches m s g'.state ↔ Touches m s g.state := by rw [h]

@[simp] theorem touches_itemRead (hm : 664691656335709700486 &&& m = 664691656335709700486) : Touches m s (t.itemRead a1 a2 a3 a4 a5 a6 a7).state ↔ Touches m s t :=
  Touches.peel hm (by unfold State.itemRead; (repeat' (first | split | dsimp only)) <;> simp)

@[simp] theorem touches_itemWrite (hm : 590900141256872034438 &&& m = 590900141256872034438) : Touches m s (State.itemWrite t a1 a2 a3 a4 a5 a6 a7).1 ↔ Touches m s t :=
  Touches.peel hm (by unfold State.itemWrite; (repeat' (first | split | dsimp only)) <;> simp)

@[simp] theorem touches_itemAsk (hm : 590899330092168642690 &&& m = 590899330092168642690) : Touches m s (State.itemAsk t a1) ↔ Touches m s t :=
  Touches.peel hm (by simp [State.itemAsk])

@[simp] theorem touches_spoilPiece (hm : 590899296831941902466 &&& m = 590899296831941902466) : Touches m s (State.spoilPiece t a1 a2 a3) ↔ Touches m s t :=
  Touches.peel hm (by unfold State.spoilPiece; (repeat' (first | split | dsimp only)) <;> simp)

@[simp] theorem touches_spoil (hm : 590899296831941902470 &&& m = 590899296831941902470) : Touches m s (State.spoil a1 a2 t a3 a4) ↔ Touches m s t :=
  Touches.peel hm (by
    induction a2 generalizing a1 t a3 a4 with
    | zero => simp [State.spoil]
    | succ n ih =>
      have ih' : ∀ {s t a1 a3 a4}, Touches 590899296831941902470 s (State.spoil a1 n t a3 a4) ↔ Touches 590899296831941902470 s t := Touches.peel (by decide) ih
      unfold State.spoil; (repeat' (first | split | dsimp only)) <;> simp [ih'])

@[simp] theorem touches_spoilOutput (hm : 590899296831941902470 &&& m = 590899296831941902470) : Touches m s (State.spoilOutput t a1 a2) ↔ Touches m s t :=
  Touches.peel hm (by simp [State.spoilOutput])

theorem touches_pageFault {u : State} (h : State.pageFault t a1 a2 a3 = some u) (hm : 73786980418006811010 &&& m = 73786980418006811010) : Touches m s u ↔ Touches m s t := by
  refine Touches.peel hm ?_
  obtain ⟨f, -, hf⟩ := List.exists_of_findSome?_eq_some h
  split at hf
  · cases hf; simp
  · obtain ⟨c, -, rfl⟩ := Option.map_eq_some_iff.1 hf; simp

@[simp] theorem touches_touchPages (hm : 32768 &&& m = 32768) : Touches m s (State.touchPages t a1 a2 a3) ↔ Touches m s t :=
  Touches.peel hm (by simp [State.touchPages])

theorem touches_attnCommit {act : State → Option State} (hm : 56668424853416902172806 &&& m = 56668424853416902172806)
    (hact : ∀ u v, act u = some v → Touches m u v) : Touches m s (State.attnCommit t a1 a2 a3 a4 act).1 ↔ Touches m s t := by
  have k : ∀ L, L &&& 56668424853416902172806 = L → L &&& m = L := fun L h => Touches.sub h hm
  refine Touches.peel (Nat.and_self m) ?_
  unfold State.attnCommit; split
  · exact Touches.rfl
  · rename_i h; simpa [k] using hact _ _ h

theorem touches_outputThen {act : State → Closed} (hm : 590900141256872038534 &&& m = 590900141256872038534)
    (hact : ∀ u, Touches m u (act u).state) : Touches m s (State.outputThen t a1 a2 a3 a4 a5 a6 a7 act).state ↔ Touches m s t := by
  have k : ∀ L, L &&& 590900141256872038534 = L → L &&& m = L := fun L h => Touches.sub h hm
  refine Touches.peel (Nat.and_self m) ?_
  unfold State.outputThen; dsimp only; split
  · split
    · exact Touches.rfl
    · exact hact _
  · split
    · rename_i h; exact (Touches.fst h).2 (by simp [k])
    · rename_i h
      have h0 : Touches m t _ := (Touches.fst h).2 (by simp [k])
      split
      · simpa [k] using h0
      · exact h0.trans (hact _)

theorem touches_attnAppend {u : State} (h : State.attnAppend t a1 a2 a3 a4 a5 = some u) (hm : 590899332016318242946 &&& m = 590899332016318242946) :
    Touches m s u ↔ Touches m s t := by
  refine Touches.peel hm ?_
  unfold State.attnAppend at h; dsimp only at h; split at h
  · obtain ⟨v, hv, rfl⟩ := Option.map_eq_some_iff.1 h
    simpa using (touches_appendRows hv (by decide)).2 Touches.rfl
  · cases h; exact Touches.rfl

@[simp] theorem touches_attnClose (hm : 57333089450771456520582 &&& m = 57333089450771456520582) : Touches m s (State.attnClose t a1 a2 a3).state ↔ Touches m s t :=
  Touches.peel hm (by
    unfold State.attnClose; dsimp only; split
    · rename_i h; exact (Touches.got h).2 (by simp)
    · rename_i h; exact (Touches.got h).2 (by simp)
    · rename_i u0 _ h0
      have h0 : Touches 57333089450771456520582 t u0 := (Touches.got h0).2 (by simp)
      split
      · exact h0
      · refine Touches.ite_closed.2 ⟨fun _ => by simpa using h0, fun _ => ?_⟩
        have h1 : ∀ n, Touches 57333089450771456520582 t (if a2.written then u0 else u0.count R.attPageTotal n) := fun n => by
          split <;> simpa using h0
        split
        · rename_i h; exact (touches_pageFault h (by decide)).2 (h1 _)
        · refine Touches.ite_closed.2 ⟨fun _ => (touches_poisonError (by decide)).2 (h1 _), fun _ => ?_⟩
          split
          · exact h1 _
          · refine (touches_outputThen (by decide) fun u => ?_).2 (h1 _)
            exact (touches_attnCommit (by decide) fun v w hw => (touches_attnAppend hw (by decide)).2 Touches.rfl).2 Touches.rfl)

theorem touches_execAttnQuery : TouchesO 72680776016498174473094 t (execAttnQuery a1 a2 a3 t) := by
  simp [execAttnQuery]

end Sys2Proof.Machine
end

