-- ==== Sys2Proof/Laws/Stream.lean ====
section
/-! SUPPORT. What each operation of Machine/Stream.lean may touch. -/

namespace Sys2Proof.Machine

variable {m : Nat} {s t : State}

@[simp] theorem touches_prefetch (hm : 1125902054326272 &&& m = 1125902054326272) : Touches m s (State.prefetch t a1 a2 a3) ↔ Touches m s t :=
  Touches.peel hm (by unfold State.prefetch; (repeat' (first | split | dsimp only)) <;> simp)

@[simp] theorem touches_streamIssue (hm : 73788106320061141378 &&& m = 73788106320061141378) : Touches m s (State.streamIssue t a1 a2) ↔ Touches m s t :=
  Touches.peel hm (by 
    unfold State.streamIssue
    refine (touches_issue (by decide) fun u x => ?_).2 Touches.rfl
    dsimp only; split
    · simp
    · (repeat' split) <;> simp)

@[simp] theorem touches_streamCache (hm : 711568912923230342 &&& m = 711568912923230342) : Touches m s (State.streamCache t a1 a2 a3 a4 a5) ↔ Touches m s t :=
  Touches.peel hm (by simp [State.streamCache])

@[simp] theorem touches_tileDemand (hm : 37383395344386 &&& m = 37383395344386) : Touches m s (State.tileDemand t a1 a2 a3 a4) ↔ Touches m s t :=
  Touches.peel hm (by simp [State.tileDemand])

/-- The state in which the move of a tile ends. -/
def TileEnd.state : TileEnd → State
  | .moved s => s
  | .refused s _ => s
  | .poison s => s

theorem touches_moveTile : Touches 1845391328435899466118 t (t.moveTile a1 a2 a3).state := by
  unfold State.moveTile; dsimp only; split
  · split <;> simp [TileEnd.state]
  · split
    · simp [TileEnd.state]
    · split
      · simp [TileEnd.state]
      · split
        · simp only [TileEnd.state]
          rw [Touches.each]
          · simp
          · intro u k; (repeat' split) <;> simp
        · simp [TileEnd.state]

@[simp] theorem touches_tryTile (hm : 1845391363622419042694 &&& m = 1845391363622419042694) : Touches m s (State.tryTile t a1 a2 a3).1 ↔ Touches m s t :=
  Touches.peel hm (by
    unfold State.tryTile; dsimp only; split
    · simp
    · split
      · simp
      · have k : ∀ u, Touches 1845391363622419042694 u (u.moveTile a1 a2 a3).state := fun u => Touches.mono (by decide) touches_moveTile
        have h := (k (t.tileDemand (galleryOf a1) a2.tenant a2.desc a3))
        have h0 : Touches 1845391363622419042694 t (t.tileDemand (galleryOf a1) a2.tenant a2.desc a3) := by simp
        have h := h0.trans h
        split <;> (rename_i e; rw [e] at h; simp; exact h))

@[simp] theorem touches_moveTiles (hm : 1845391363622419042694 &&& m = 1845391363622419042694) : Touches m s (State.moveTiles a1 a2 a3 t a4) ↔ Touches m s t :=
  Touches.peel hm (by
    induction a3 generalizing t a4 with
    | zero => simp [State.moveTiles]
    | succ n ih =>
      have ih' : ∀ {s t a4}, Touches 1845391363622419042694 s (State.moveTiles a1 a2 n t a4) ↔ Touches 1845391363622419042694 s t := Touches.peel (by decide) ih
      simp only [State.moveTiles]; split <;> simp [ih'])

@[simp] theorem touches_tileStart (hm : 1163285449670658 &&& m = 1163285449670658) : Touches m s (State.tileStart t a1 a2 a3) ↔ Touches m s t :=
  Touches.peel hm (by simp [State.tileStart])

@[simp] theorem touches_tileBegin (hm : 1845392489522325885318 &&& m = 1845392489522325885318) : Touches m s (State.tileBegin t a1 a2) ↔ Touches m s t :=
  Touches.peel hm (by unfold State.tileBegin; dsimp only; (repeat' split) <;> simp)

@[simp] theorem touches_streamRefused (hm : 128 &&& m = 128) : Touches m s (State.streamRefused t a1 a2 a3) ↔ Touches m s t :=
  Touches.peel hm (by unfold State.streamRefused; (repeat' (first | split | dsimp only)) <;> simp)

@[simp] theorem touches_streamEnd (hm : 1845391363622419042694 &&& m = 1845391363622419042694) : Touches m s (State.streamEnd t a1 a2 a3 a4 a5 a6 a7) ↔ Touches m s t :=
  Touches.peel hm (by unfold State.streamEnd; (repeat' split) <;> simp)

@[simp] theorem touches_swait (hm : 73786980420154298754 &&& m = 73786980420154298754) : Touches m s (State.swait t a1 a2) ↔ Touches m s t :=
  Touches.peel hm (by 
    unfold State.swait
    refine (touches_issue (by decide) fun u x => ?_).2 Touches.rfl
    (repeat' split) <;> simp)

theorem touches_execStream : TouchesO 73788106320061141378 t (execStream a1 a2 t) := by
  simp [execStream]

theorem touches_execSwait : TouchesO 73786980420154298754 t (execSwait a1 a2 t) := by
  simp [execSwait]

end Sys2Proof.Machine
end

