-- ==== Sys2Proof/Laws/Embedding.lean ====
section
/-! SUPPORT. What each operation of Machine/Embedding.lean may touch. -/

namespace Sys2Proof.Machine

variable {m : Nat} {s t : State}

@[simp] theorem touches_tableResult (hm : 67108864 &&& m = 67108864) : Touches m s (State.tableResult t a1 a2) ↔ Touches m s t :=
  Touches.peel hm (by simp [State.tableResult])

@[simp] theorem touches_tableCommand {act : State → State} (hm : 221360933007683223938 &&& m = 221360933007683223938) (hf : ∀ u, Touches m u (act u)) :
    Touches m s (State.tableCommand t a1 a2 a3 act) ↔ Touches m s t := by
  have k : ∀ L, L &&& 221360933007683223938 = L → L &&& m = L := fun L h => Touches.sub h hm
  have hf' : ∀ {s u}, Touches m s (act u) ↔ Touches m s u := fun {s u} => Touches.peel (Nat.and_self m) (hf u)
  exact Touches.peel (Nat.and_self m) (by 
    unfold State.tableCommand; 
    refine (touches_setupWrite (k _ (by decide)) fun u => ?_).2 Touches.rfl
    split <;> simp [k, hf'])

@[simp] theorem touches_tableDefine (hm : 100696064 &&& m = 100696064) : Touches m s (State.tableDefine t a1 a2) ↔ Touches m s t :=
  Touches.peel hm (by unfold State.tableDefine; simp; (repeat' split) <;> simp)

@[simp] theorem touches_tableZeroed (hm : 590899332016431431810 &&& m = 590899332016431431810) : Touches m s (State.tableZeroed t) ↔ Touches m s t :=
  Touches.peel hm (by unfold State.tableZeroed; (repeat' split) <;> simp)

@[simp] theorem touches_embStart (hm : 1845278738269121545094 &&& m = 1845278738269121545094) : Touches m s (State.embStart t a1 a2 a3 a4 a5 a6 a7) ↔ Touches m s t :=
  Touches.peel hm (by unfold State.embStart; (repeat' (first | split | dsimp only)) <;> simp)

@[simp] theorem touches_discardStep (hm : 134217728 &&& m = 134217728) : Touches m s (State.discardStep t a1 a2) ↔ Touches m s t :=
  Touches.peel hm (by simp [State.discardStep])

@[simp] theorem touches_readIdx (hm : 664691656335709700486 &&& m = 664691656335709700486) : Touches m s (State.readIdx t a1 a2 a3).state ↔ Touches m s t :=
  Touches.peel hm (by simp [State.readIdx])

@[simp] theorem touches_rowPoison (hm : 73786980418006811010 &&& m = 73786980418006811010) : Touches m s (State.rowPoison t a1 a2) ↔ Touches m s t :=
  Touches.peel hm (by unfold State.rowPoison; (repeat' split) <;> simp)

@[simp] theorem touches_readRows (hm : 73786980418006811010 &&& m = 73786980418006811010) : Touches m s (State.readRows a1 a2 t).1 ↔ Touches m s t :=
  Touches.peel hm (by 
    induction a2 generalizing t with
    | nil => simp [State.readRows]
    | cons r l ih =>
      have ih' : ∀ {s t}, Touches 73786980418006811010 s (State.readRows a1 l t).1 ↔ Touches 73786980418006811010 s t := Touches.peel (by decide) ih
      unfold State.readRows; dsimp only; split <;> simp [ih'])

@[simp] theorem touches_countDrops (hm : 16777344 &&& m = 16777344) : Touches m s (State.countDrops t a1 a2) ↔ Touches m s t :=
  Touches.peel hm (by unfold State.countDrops; (repeat' (first | split | dsimp only)) <;> simp)

@[simp] theorem touches_lookupCommit (hm : 16777344 &&& m = 16777344) : Touches m s (State.lookupCommit t a1 a2 a3).1 ↔ Touches m s t :=
  Touches.peel hm (by simp [State.lookupCommit])

@[simp] theorem touches_readOff (hm : 664691656335709700486 &&& m = 664691656335709700486) : Touches m s (State.readOff t a1 a2 a3).state ↔ Touches m s t :=
  Touches.peel hm (by unfold State.readOff; (repeat' (first | split | dsimp only)) <;> simp)

@[simp] theorem touches_lookupClose (hm : 664691656335726481798 &&& m = 664691656335726481798) : Touches m s (State.lookupClose t a1 a2 a3 a4 a5).state ↔ Touches m s t :=
  Touches.peel hm (by
    unfold State.lookupClose; dsimp only; split
    · rename_i h; exact (Touches.got h).2 (by simp)
    · rename_i h; exact (Touches.got h).2 (by simp)
    · rename_i h
      have h1 := fun M hM => (Touches.got (m := M) h).2 ((touches_readIdx hM).2 Touches.rfl)
      split
      · rename_i h; exact (Touches.got h).2 (by simpa using h1 _ (by decide))
      · rename_i h; exact (Touches.got h).2 (by simpa using h1 _ (by decide))
      · rename_i h
        have h2 := fun M hM hM' => (Touches.got (m := M) h).2 ((touches_readOff hM).2 (h1 M hM'))
        refine Touches.ite_closed.2 ⟨fun _ => h2 _ (by decide) (by decide), fun _ => Touches.ite_closed.2 ⟨fun _ => ?_, fun _ => ?_⟩⟩
        · simpa using h2 _ (by decide) (by decide)
        · refine Touches.ite_closed.2 ⟨fun _ => ?_, fun _ => (touches_outputThen (by decide) fun u => ?_).2 ?_⟩
          · simpa using h2 _ (by decide) (by decide)
          · simp
          · simpa using h2 _ (by decide) (by decide))

/-- The state a read of a GRAD's lists leaves. -/
def GradGot.state : GradGot → State
  | .ok s _ _ => s
  | .ends s _ => s
  | .waits s => s

@[simp] theorem GradGot.state_ok (a2 a3) : (GradGot.ok t a2 a3).state = t := rfl
@[simp] theorem GradGot.state_ends (a2) : (GradGot.ends t a2).state = t := rfl
@[simp] theorem GradGot.state_waits : (GradGot.waits t).state = t := rfl

theorem Touches.gradGot {g g' : GradGot} (h : g = g') : Touches m s g'.state ↔ Touches m s g.state := by rw [h]

@[simp] theorem touches_warm (hm : 711568912923230342 &&& m = 711568912923230342) : Touches m s (State.warm t a1 a2 a3) ↔ Touches m s t :=
  Touches.peel hm (by simp [State.warm])

@[simp] theorem touches_lookaheadClose (hm : 664799742898582061446 &&& m = 664799742898582061446) : Touches m s (State.lookaheadClose t a1 a2 a3 a4).state ↔ Touches m s t :=
  Touches.peel hm (by
    unfold State.lookaheadClose; dsimp only; split
    · rename_i h; exact (Touches.got h).2 (by simp)
    · rename_i h; exact (Touches.got h).2 (by simp)
    · rename_i h
      have h1 := fun M hM => (Touches.got (m := M) h).2 ((touches_readIdx hM).2 Touches.rfl)
      refine Touches.ite_closed.2 ⟨fun _ => by simpa using h1 664799742898582061446 (by decide), fun _ => ?_⟩
      rw [Closed.state_done, touches_countDrops (by decide), Touches.each fun u a => by simp, Touches.each fun u a => by simp]
      exact h1 664799742898582061446 (by decide))

@[simp] theorem touches_gradRead (hm : 664691656335709700486 &&& m = 664691656335709700486) : Touches m s (State.gradRead t a1 a2 a3 a4).state ↔ Touches m s t :=
  Touches.peel hm (by
    unfold State.gradRead; split
    · rename_i h; exact (Touches.got h).2 (by simp)
    · rename_i h; exact (Touches.got h).2 (by simp)
    · rename_i h
      have h1 := fun M hM => (Touches.got (m := M) h).2 ((touches_readIdx hM).2 Touches.rfl)
      split <;> (rename_i h; exact (Touches.got h).2 (by simpa using h1 _ (by decide))))

@[simp] theorem touches_changeEntry (hm : 134217728 &&& m = 134217728) : Touches m s (State.changeEntry t a1 a2 a3 a4) ↔ Touches m s t :=
  Touches.peel hm (by simp [State.changeEntry])

theorem touches_addRow {u : State} (h : State.addRow t a1 a2 a3 a4 a5 = some (u, x)) (hm : 134217728 &&& m = 134217728) : Touches m s u ↔ Touches m s t := by
  refine Touches.peel hm ?_
  unfold State.addRow at h; dsimp only at h; (repeat' split at h)
  all_goals first | cases h; done | (cases h; simp)

@[simp] theorem touches_addRows (hm : 134217728 &&& m = 134217728) : Touches m s (State.addRows a1 a2 a3 a4 a5 t).1 ↔ Touches m s t :=
  Touches.peel hm (by 
    induction a5 generalizing t with
    | nil => simp [State.addRows]
    | cons r l ih =>
      have ih' : ∀ {s t}, Touches 134217728 s (State.addRows a1 a2 a3 a4 l t).1 ↔ Touches 134217728 s t := Touches.peel (by decide) ih
      unfold State.addRows; split
      · simp
      · simp [ih']; exact (touches_addRow (by assumption) (by decide)).2 Touches.rfl)

@[simp] theorem touches_gradEnter (hm : 402653184 &&& m = 402653184) : Touches m s (State.gradEnter t a1 a2 a3 a4 a5 a6).1 ↔ Touches m s t :=
  Touches.peel hm (by simp [State.gradEnter])

@[simp] theorem touches_gradAdd (hm : 664691656336112353670 &&& m = 664691656336112353670) : Touches m s (State.gradAdd t a1 a2).state ↔ Touches m s t :=
  Touches.peel hm (by
    unfold State.gradAdd; dsimp only; split
    · simp
    · split
      · simp
      · split <;> rename_i h
        · exact (Touches.gradGot h).2 (by simp)
        · exact (Touches.gradGot h).2 (by simp)
        · have h1 := fun M hM => (Touches.gradGot (m := M) h).2 ((touches_gradRead hM).2 Touches.rfl)
          split <;> simpa using h1 _ (by decide))

@[simp] theorem touches_gradBegin (hm : 664691656336112357766 &&& m = 664691656336112357766) : Touches m s (State.gradBegin t a1 a2) ↔ Touches m s t :=
  Touches.peel hm (by
    unfold State.gradBegin; split
    · simp
    · split <;> rename_i h
      all_goals
        have h1 := fun M hM => (Touches.got (m := M) h).2 ((touches_gradAdd hM).2 Touches.rfl)
        simpa using h1 _ (by decide))

@[simp] theorem touches_gradCounts (hm : 285212800 &&& m = 285212800) : Touches m s (State.gradCounts t a1 a2).1 ↔ Touches m s t :=
  Touches.peel hm (by unfold State.gradCounts; (repeat' (first | split | dsimp only)) <;> simp)

@[simp] theorem touches_gradClose (hm : 664691656336129130886 &&& m = 664691656336129130886) : Touches m s (State.gradClose t a1 a2).state ↔ Touches m s t :=
  Touches.peel hm (by
    unfold State.gradClose; split <;> rename_i h
    all_goals
      have h1 := fun M hM => (Touches.got (m := M) h).2 ((touches_gradAdd hM).2 Touches.rfl)
      simpa using h1 _ (by decide))

@[simp] theorem touches_dropGrad (hm : 268435456 &&& m = 268435456) : Touches m s (State.dropGrad t a1 a2) ↔ Touches m s t :=
  Touches.peel hm (by simp [State.dropGrad])

@[simp] theorem touches_itemRecord (hm : 1845278738269389980550 &&& m = 1845278738269389980550) : Touches m s (State.itemRecord t a1 a2 a3) ↔ Touches m s t :=
  Touches.peel hm (by unfold State.itemRecord; (repeat' split) <;> simp)

@[simp] theorem touches_reversed (hm : 1845283277054597399430 &&& m = 1845283277054597399430) : Touches m s (State.reversed t a1 a2 a3) ↔ Touches m s t :=
  Touches.peel hm (by
    unfold State.reversed; dsimp only; split
    · simp
    · split
      · split
        · simp
        · split <;> rename_i h
          all_goals
            have h1 := fun M hM => (Touches.gradGot (m := M) h).2 ((touches_gradRead hM).2 Touches.rfl)
            simpa using h1 1845283277054597399430 (by decide)
      · simp)

@[simp] theorem touches_buildImages (hm : 73786980418006811010 &&& m = 73786980418006811010) : Touches m s (State.buildImages a1 a2 a3 a4 t).1 ↔ Touches m s t :=
  Touches.peel hm (by 
    induction a4 generalizing t with
    | nil => simp [State.buildImages]
    | cons r l ih =>
      have ih' : ∀ {s t}, Touches 73786980418006811010 s (State.buildImages a1 a2 a3 l t).1 ↔ Touches 73786980418006811010 s t := Touches.peel (by decide) ih
      unfold State.buildImages; dsimp only; split <;> simp [ih'])

@[simp] theorem touches_closeBuild (hm : 664686308312913805698 &&& m = 664686308312913805698) : Touches m s (State.closeBuild t a1 a2 a3 a4 a5).state ↔ Touches m s t :=
  Touches.peel hm (by unfold State.closeBuild; dsimp only; (repeat' split) <;> simp)

@[simp] theorem touches_installed (hm : 1845278738269809410950 &&& m = 1845278738269809410950) : Touches m s (State.installed t a1) ↔ Touches m s t :=
  Touches.peel hm (by unfold State.installed; (repeat' (first | split | dsimp only)) <;> simp)

@[simp] theorem touches_embClose (hm : 664799742900595331462 &&& m = 664799742900595331462) : Touches m s (State.embClose t a1 a2 a3).state ↔ Touches m s t :=
  Touches.peel hm (by unfold State.embClose; (repeat' (first | split | dsimp only)) <;> simp)

@[simp] theorem touches_tableRetire (hm : 39308832571522 &&& m = 39308832571522) : Touches m s (State.tableRetire t a1 a2) ↔ Touches m s t :=
  Touches.peel hm (by unfold State.tableRetire; (repeat' split) <;> simp)

@[simp] theorem touches_tableReadCmd (hm : 67108992 &&& m = 67108992) : Touches m s (State.tableReadCmd t a1 a2) ↔ Touches m s t :=
  Touches.peel hm (by unfold State.tableReadCmd; (repeat' split) <;> simp)

theorem touches_execDefine : TouchesO 221360933007783920002 t (execDefine a1 a2 t) := by
  simp [execDefine]

theorem touches_execRetire : TouchesO 221360968193347191170 t (execRetire a1 a2 t) := by
  simp [execRetire]

theorem touches_execTableRead : TouchesO 221360933007750332802 t (execTableRead a1 a2 t) := by
  simp [execTableRead]

theorem touches_execTableZeroingComplete : TouchesO 590899332016431431810 t (execTableZeroingComplete t) := by
  simp [execTableZeroingComplete]

theorem touches_execLookup : TouchesO 1845278738269121545094 t (execLookup a1 a2 a3 a4 t) := by
  simp [execLookup]

theorem touches_execLookahead : TouchesO 1845278738269121545094 t (execLookahead a1 a2 a3 t) := by
  simp [execLookahead]

theorem touches_execGrad : TouchesO 1845278738269121545094 t (execGrad a1 a2 a3 a4 t) := by
  simp [execGrad]

theorem touches_execClose : TouchesO 1845278738269121545094 t (execClose a1 a2 t) := by
  simp [execClose]

theorem touches_execAbandon : TouchesO 1845278738269121545094 t (execAbandon a1 a2 t) := by
  simp [execAbandon]

theorem touches_execReversalComplete : TouchesO 1845283277054597399430 t (execReversalComplete a1 a2 a3 t) := by
  simp [execReversalComplete]

theorem touches_execCloseInstallComplete : TouchesO 1845278738269809410950 t (execCloseInstallComplete a1 t) := by
  simp [execCloseInstallComplete]

end Sys2Proof.Machine
end

