-- ==== Sys2Proof/Laws/Relief.lean ====
section
/-! SUPPORT. What each operation of Machine/Relief.lean may touch. -/

namespace Sys2Proof.Machine

variable {m : Nat} {s t : State}

@[simp] theorem touches_reliefStart (hm : 1845278738269121545094 &&& m = 1845278738269121545094) : Touches m s (State.reliefStart t a1 a2) ↔ Touches m s t :=
  Touches.peel hm (by unfold State.reliefStart; (repeat' split) <;> simp)

@[simp] theorem touches_reliefCopy (hm : 58513676532704864109446 &&& m = 58513676532704864109446) : Touches m s (State.reliefCopy t a1) ↔ Touches m s t :=
  Touches.peel hm (by unfold State.reliefCopy; (repeat' (first | split | dsimp only)) <;> simp)

@[simp] theorem touches_reliefRead (hm : 35184372088834 &&& m = 35184372088834) : Touches m s (State.reliefRead t a1) ↔ Touches m s t :=
  Touches.peel hm (by unfold State.reliefRead; (repeat' split) <;> simp)

@[simp] theorem touches_reliefsGo (hm : 58513676567889236198278 &&& m = 58513676567889236198278) : Touches m s (State.reliefsGo t) ↔ Touches m s t :=
  Touches.peel hm (by
    unfold State.reliefsGo
    rw [Touches.each]
    · simp
    · intro u a; (repeat' (first | split | dsimp only)) <;> simp)

@[simp] theorem touches_reliefsBegin (hm : 58519988363009661637510 &&& m = 58519988363009661637510) : Touches m s (State.reliefsBegin t) ↔ Touches m s t :=
  Touches.peel hm (by simp [State.reliefsBegin])

theorem touches_execRelief : TouchesO 1845278738269121545094 t (execRelief a1 a2 t) := by
  simp [execRelief]

end Sys2Proof.Machine
end

