-- ==== Sys2Proof/Laws/Align.lean ====
section
/-! SUPPORT. What each operation of Machine/Align.lean may touch. -/

namespace Sys2Proof.Machine

variable {m : Nat} {s t : State}

@[simp] theorem touches_updRot (hm : 4096 &&& m = 4096) : Touches m s (State.updRot t a1) ↔ Touches m s t :=
  Touches.peel hm (by simp [State.updRot])

@[simp] theorem touches_changeAt (hm : 73786980418006815106 &&& m = 73786980418006815106) : Touches m s (State.changeAt t a1 a2) ↔ Touches m s t :=
  Touches.peel hm (by simp [State.changeAt])

@[simp] theorem touches_runBegins (hm : 4123168608384 &&& m = 4123168608384) : Touches m s (State.runBegins t) ↔ Touches m s t :=
  Touches.peel hm (by simp [State.runBegins])

@[simp] theorem touches_runEnds (hm : 4123168608384 &&& m = 4123168608384) : Touches m s (State.runEnds t) ↔ Touches m s t :=
  Touches.peel hm (by simp [State.runEnds])

@[simp] theorem touches_runSet (hm : 4123168608384 &&& m = 4123168608384) : Touches m s (State.runSet t a1 a2) ↔ Touches m s t :=
  Touches.peel hm (by simp [State.runSet])

@[simp] theorem touches_runClear (hm : 4123168608384 &&& m = 4123168608384) : Touches m s (State.runClear t a1 a2) ↔ Touches m s t :=
  Touches.peel hm (by simp [State.runClear])

@[simp] theorem touches_ctrlWrite {act : State → State} (hm : 221360933007683223938 &&& m = 221360933007683223938) (hf : ∀ u, Touches m u (act u)) :
    Touches m s (State.ctrlWrite t a1 a2 act) ↔ Touches m s t := by
  have k : ∀ L, L &&& 221360933007683223938 = L → L &&& m = L := fun L h => Touches.sub h hm
  have hf' : ∀ {s u}, Touches m s (act u) ↔ Touches m s u := fun {s u} => Touches.peel (Nat.and_self m) (hf u)
  exact Touches.peel (Nat.and_self m) (by simp [State.ctrlWrite, k, hf'])

@[simp] theorem touches_sendBeacon (hm : 9007199254740994 &&& m = 9007199254740994) : Touches m s (State.sendBeacon t a1 a2 a3 a4) ↔ Touches m s t :=
  Touches.peel hm (by simp [State.sendBeacon])

@[simp] theorem touches_align (hm : 4123168608384 &&& m = 4123168608384) : Touches m s (State.align t a1 a2) ↔ Touches m s t :=
  Touches.peel hm (by unfold State.align; (repeat' split) <;> simp)

@[simp] theorem touches_beacon (hm : 9011322423349378 &&& m = 9011322423349378) : Touches m s (State.beacon t a1 a2 a3 a4 a5 a6) ↔ Touches m s t :=
  Touches.peel hm (by simp [State.beacon])

@[simp] theorem touches_beaconMissed (hm : 4123168608384 &&& m = 4123168608384) : Touches m s (State.beaconMissed t) ↔ Touches m s t :=
  Touches.peel hm (by simp [State.beaconMissed])

@[simp] theorem touches_holdoverEnds (hm : 4123168608384 &&& m = 4123168608384) : Touches m s (State.holdoverEnds t) ↔ Touches m s t :=
  Touches.peel hm (by simp [State.holdoverEnds])

@[simp] theorem touches_takeOver (hm : 4123168608384 &&& m = 4123168608384) : Touches m s (State.takeOver t) ↔ Touches m s t :=
  Touches.peel hm (by simp [State.takeOver])

@[simp] theorem touches_firstWaitEnds (hm : 4123168608384 &&& m = 4123168608384) : Touches m s (State.firstWaitEnds t) ↔ Touches m s t :=
  Touches.peel hm (by simp [State.firstWaitEnds])

theorem touches_execRotChangeAt : TouchesO 221360933007683228034 t (execRotChangeAt a1 a2 t) := by
  simp [execRotChangeAt]

theorem touches_execRotRunSet : TouchesO 221360933007683228034 t (execRotRunSet a1 a2 a3 t) := by
  simp [execRotRunSet]

theorem touches_execRotRunClear : TouchesO 221360933007683228034 t (execRotRunClear a1 a2 a3 t) := by
  simp [execRotRunClear]

theorem touches_execBeaconReceived : TouchesO 9011322423349378 t (execBeaconReceived a1 a2 a3 a4 a5 a6 t) := by
  simp [execBeaconReceived]

theorem touches_execBeaconMissed : TouchesO 4123168608384 t (execBeaconMissed t) := by
  simp [execBeaconMissed]

theorem touches_execHoldoverExpiry : TouchesO 4123168608384 t (execHoldoverExpiry t) := by
  simp [execHoldoverExpiry]

theorem touches_execStandbyRootTakeover : TouchesO 4123168608384 t (execStandbyRootTakeover t) := by
  simp [execStandbyRootTakeover]

theorem touches_execFirstBeaconWaitExpiry : TouchesO 4123168608384 t (execFirstBeaconWaitExpiry t) := by
  simp [execFirstBeaconWaitExpiry]

end Sys2Proof.Machine
end

