-- ==== Sys2Proof/Laws/Rotation.lean ====
section
/-! SUPPORT. What each operation of Machine/Rotation.lean may touch. -/

namespace Sys2Proof.Machine

variable {m : Nat} {s t : State}

@[simp] theorem touches_spansXlat (hm : 844424930132100 &&& m = 844424930132100) : Touches m s (State.spansXlat a1 a2 a3 t) ↔ Touches m s t :=
  Touches.peel hm (by
    induction a3 generalizing t with
    | nil => simp [State.spansXlat]
    | cons p l ih =>
      have ih' : ∀ {s t}, Touches 844424930132100 s (State.spansXlat a1 a2 l t) ↔ Touches 844424930132100 s t := Touches.peel (by decide) ih
      unfold State.spansXlat; split <;> simp [ih'])

@[simp] theorem touches_endFlight (hm : 1845278738269121545094 &&& m = 1845278738269121545094) : Touches m s (State.endFlight t a1 a2 a3) ↔ Touches m s t :=
  Touches.peel hm (by unfold State.endFlight; (repeat' split) <;> simp)

@[simp] theorem touches_precheckSpans (hm : 58513676532704864633734 &&& m = 58513676532704864633734) : Touches m s (State.precheckSpans t a1 a2) ↔ Touches m s t :=
  Touches.peel hm (by unfold State.precheckSpans; (repeat' (first | split | dsimp only)) <;> simp)

@[simp] theorem touches_readMask (hm : 664691656335709700486 &&& m = 664691656335709700486) : Touches m s (State.readMask t a1 a2).state ↔ Touches m s t :=
  Touches.peel hm (by unfold State.readMask; (repeat' (first | split | dsimp only)) <;> simp)

@[simp] theorem touches_precheck (hm : 58519988363009662161798 &&& m = 58519988363009662161798) : Touches m s (State.precheck t a1 a2) ↔ Touches m s t :=
  Touches.peel hm (by
    unfold State.precheck; split
    · simp
    · split
      · simp
      · split
        · simp
        · split <;> rename_i h
          · have h1 := fun M hM => (Touches.got (m := M) h).2 ((touches_readMask hM).2 Touches.rfl)
            simpa using h1 58519988363009662161798 (by decide)
          · simp
          · have h1 := fun M hM => (Touches.got (m := M) h).2 ((touches_readMask hM).2 Touches.rfl)
            simpa using h1 58519988363009662161798 (by decide))

@[simp] theorem touches_freeSlot (hm : 2218350612480 &&& m = 2218350612480) : Touches m s (State.freeSlot t a1 a2) ↔ Touches m s t :=
  Touches.peel hm (by simp [State.freeSlot])

@[simp] theorem touches_countPages (hm : 132 &&& m = 132) : Touches m s (State.countPages t a1) ↔ Touches m s t :=
  Touches.peel hm (by unfold State.countPages; dsimp only; (repeat' split) <;> simp)

@[simp] theorem touches_stopItem (hm : 1845278738288717337478 &&& m = 1845278738288717337478) : Touches m s (State.stopItem t a1 a2) ↔ Touches m s t :=
  Touches.peel hm (by unfold State.stopItem; (repeat' split) <;> simp)

@[simp] theorem touches_commitItem (hm : 58513789158073080804230 &&& m = 58513789158073080804230) : Touches m s (State.commitItem t a1 a2) ↔ Touches m s t :=
  Touches.peel hm (by
    unfold State.commitItem; split
    · simp
    · rename_i f _
      have h0 : Touches 58513789158073080804230 t (if a2.kind = .attn then t.attnClose a1 a2 f else t.embClose a1 a2 f).state :=
        Touches.ite_closed.2 ⟨fun _ => by simp, fun _ => by simp⟩
      split <;> (rename_i h; rw [h] at h0; simpa using h0))

@[simp] theorem touches_endItem (hm : 58513789158073080804230 &&& m = 58513789158073080804230) : Touches m s (State.endItem t a1) ↔ Touches m s t :=
  Touches.peel hm (by unfold State.endItem; (repeat' split) <;> simp)

@[simp] theorem touches_lateLeave (hm : 19327356928 &&& m = 19327356928) : Touches m s (State.lateLeave t) ↔ Touches m s t :=
  Touches.peel hm (by simp [State.lateLeave])

@[simp] theorem touches_itemsTry (hm : 58513789158073080804230 &&& m = 58513789158073080804230) : Touches m s (State.itemsTry t) ↔ Touches m s t :=
  Touches.peel hm (by simp [State.itemsTry])

@[simp] theorem touches_itemsEnd (hm : 58519988363028875768710 &&& m = 58519988363028875768710) : Touches m s (State.itemsEnd t) ↔ Touches m s t :=
  Touches.peel hm (by simp [State.itemsEnd])

@[simp] theorem touches_applyChange (hm : 1845278738288717337478 &&& m = 1845278738288717337478) : Touches m s (State.applyChange t a1) ↔ Touches m s t :=
  Touches.peel hm (by simp [State.applyChange])

@[simp] theorem touches_takeSnapshot (hm : 1845278738269121549190 &&& m = 1845278738269121549190) : Touches m s (State.takeSnapshot t) ↔ Touches m s t :=
  Touches.peel hm (by simp [State.takeSnapshot])

@[simp] theorem touches_startRotation (hm : 58519988363027109942150 &&& m = 58519988363027109942150) : Touches m s (State.startRotation t) ↔ Touches m s t :=
  Touches.peel hm (by simp [State.startRotation])

@[simp] theorem touches_rotationStart (hm : 58519988363027109942150 &&& m = 58519988363027109942150) : Touches m s (State.rotationStart t) ↔ Touches m s t :=
  Touches.peel hm (by simp [State.rotationStart])

@[simp] theorem touches_bring (hm : 37383395344386 &&& m = 37383395344386) : Touches m s (State.bring t a1 a2) ↔ Touches m s t :=
  Touches.peel hm (by simp [State.bring])

@[simp] theorem touches_deferItem (hm : 1845278773472820990854 &&& m = 1845278773472820990854) : Touches m s (State.deferItem t a1 a2 a3) ↔ Touches m s t :=
  Touches.peel hm (by simp [State.deferItem])

@[simp] theorem touches_bindSlot (hm : 1845278773472820990854 &&& m = 1845278773472820990854) : Touches m s (State.bindSlot t a1 a2 a3 a4 a5) ↔ Touches m s t :=
  Touches.peel hm (by simp [State.bindSlot])

@[simp] theorem touches_bindOne (hm : 1845278773472820990854 &&& m = 1845278773472820990854) : Touches m s (State.bindOne t a1 a2).1 ↔ Touches m s t :=
  Touches.peel hm (by unfold State.bindOne; (repeat' (first | split | dsimp only)) <;> simp)

@[simp] theorem touches_bindPhase (hm : 1845278773472820990854 &&& m = 1845278773472820990854) : Touches m s (State.bindPhase t) ↔ Touches m s t :=
  Touches.peel hm (by 
    have hf : ∀ (l : List (RingId × Pos)) (q : State × List RingId), Touches 1845278773472820990854 q.1 (l.foldl (fun (q : State × List RingId) c =>
        if q.2.contains c.1 then q
        else
          let (s, stuck) := q.1.bindOne c.1.toNat c.2.toNat
          (s, if stuck then c.1 :: q.2 else q.2)) q).1 := by
      intro l
      induction l with
      | nil => intro q; simp
      | cons c l ih =>
        intro q
        refine Touches.trans ?_ (ih _)
        dsimp only; split <;> simp
    unfold State.bindPhase; dsimp only; (repeat' split)
    · simp
    · simp
    · exact (show Touches 1845278773472820990854 t _ by simp).trans (hf _ _))

@[simp] theorem touches_launchClause (hm : 32212254720 &&& m = 32212254720) : Touches m s (State.launchClause t a1 a2 a3) ↔ Touches m s t :=
  Touches.peel hm (by simp [State.launchClause])

@[simp] theorem touches_gradsGo (hm : 664691656336112357766 &&& m = 664691656336112357766) : Touches m s (State.gradsGo t) ↔ Touches m s t :=
  Touches.peel hm (by simp [State.gradsGo])

@[simp] theorem touches_launchItem (hm : 664691656368324612486 &&& m = 664691656368324612486) : Touches m s (State.launchItem t a1 a2 a3) ↔ Touches m s t :=
  Touches.peel hm (by simp [State.launchItem])

@[simp] theorem touches_launchPhase (hm : 58519988363040129061766 &&& m = 58519988363040129061766) : Touches m s (State.launchPhase t) ↔ Touches m s t :=
  Touches.peel hm (by unfold State.launchPhase; (repeat' (first | split | dsimp only)) <;> simp)

@[simp] theorem touches_windowStart (hm : 73786980420154298754 &&& m = 73786980420154298754) : Touches m s (State.windowStart t a1) ↔ Touches m s t :=
  Touches.peel hm (by simp [State.windowStart])

@[simp] theorem touches_itemLate (hm : 4096 &&& m = 4096) : Touches m s (State.itemLate t a1 a2 a3 a4) ↔ Touches m s t :=
  Touches.peel hm (by simp [State.itemLate])

@[simp] theorem touches_windowEnd (hm : 73786980420154298496 &&& m = 73786980420154298496) : Touches m s (State.windowEnd t a1 a2 a3 a4 a5) ↔ Touches m s t :=
  Touches.peel hm (by simp [State.windowEnd])

@[simp] theorem touches_tally (hm : 295147905179352825856 &&& m = 295147905179352825856) : Touches m s (State.tally t a1) ↔ Touches m s t :=
  Touches.peel hm (by simp [State.tally])

@[simp] theorem touches_closePhase (hm : 58815136268208228594566 &&& m = 58815136268208228594566) : Touches m s (State.closePhase t a1 a2) ↔ Touches m s t :=
  Touches.peel hm (by simp [State.closePhase])

@[simp] theorem touches_guardPhase (hm : 4096 &&& m = 4096) : Touches m s (State.guardPhase t) ↔ Touches m s t :=
  Touches.peel hm (by simp [State.guardPhase])

theorem touches_execDescriptorPrecheckComplete : TouchesO 58519988363009662161798 t (execDescriptorPrecheckComplete a1 a2 t) := by
  simp [execDescriptorPrecheckComplete]

theorem touches_execRotationStart : TouchesO 58519988363027109942150 t (execRotationStart t) := by
  simp [execRotationStart]

theorem touches_execBindPhase : TouchesO 1845278773472820990854 t (execBindPhase t) := by
  simp [execBindPhase]

theorem touches_execLaunchPhase : TouchesO 58519988363040129061766 t (execLaunchPhase t) := by
  simp [execLaunchPhase]

theorem touches_execClauseWindowStart : TouchesO 73786980420154298754 t (execClauseWindowStart a1 t) := by
  simp [execClauseWindowStart]

theorem touches_execClauseWindowEnd : TouchesO 73786980420154298496 t (execClauseWindowEnd a1 a2 a3 a4 a5 t) := by
  simp [execClauseWindowEnd]

theorem touches_execClosePhase : TouchesO 58815136268208228594566 t (execClosePhase a1 a2 t) := by
  simp [execClosePhase]

theorem touches_execGuardPhase : TouchesO 4096 t (execGuardPhase t) := by
  simp [execGuardPhase]

theorem touches_execPoolAccessComplete : TouchesO 58519988363028875768710 t (execPoolAccessComplete a1 a2 a3 a4 t) := by
  simp [execPoolAccessComplete]

theorem touches_execStreamTileBegin : TouchesO 58519989488933077578630 t (execStreamTileBegin a1 a2 t) := by
  simp [execStreamTileBegin]

theorem touches_execStreamComplete : TouchesO 58519988363033170736006 t (execStreamComplete a1 a2 a3 a4 a5 a6 a7 t) := by
  simp [execStreamComplete]

end Sys2Proof.Machine
end

