-- ==== Sys2Proof/Laws/Fabric.lean ====
section
/-! SUPPORT. What each operation of Machine/Fabric.lean may touch. -/

namespace Sys2Proof.Machine

variable {m : Nat} {s t : State}

@[simp] theorem touches_onward {act : State → State} (hm : 128 &&& m = 128) (hf : ∀ u, Touches m u (act u)) :
    Touches m s (State.onward t a1 a2 a3 act) ↔ Touches m s t := by
  have k : ∀ L, L &&& 128 = L → L &&& m = L := fun L h => Touches.sub h hm
  have hf' : ∀ {s u}, Touches m s (act u) ↔ Touches m s u := fun {s u} => Touches.peel (Nat.and_self m) (hf u)
  exact Touches.peel (Nat.and_self m) (by unfold State.onward; (repeat' split) <;> simp [k, hf'])

@[simp] theorem touches_recvReq (hm : 1851588316531439731590 &&& m = 1851588316531439731590) : Touches m s (State.recvReq t a1 a2 a3) ↔ Touches m s t :=
  Touches.peel hm (by simp [State.recvReq])

@[simp] theorem touches_recvSnp (hm : 603482521866338434 &&& m = 603482521866338434) : Touches m s (State.recvSnp t a1 a2 a3) ↔ Touches m s t :=
  Touches.peel hm (by simp [State.recvSnp])

@[simp] theorem touches_recvRsp (hm : 58519700097449137836934 &&& m = 58519700097449137836934) : Touches m s (State.recvRsp t a1 a2 a3) ↔ Touches m s t :=
  Touches.peel hm (by simp [State.recvRsp])

@[simp] theorem touches_missesGo (hm : 63236045302558699287430 &&& m = 63236045302558699287430) : Touches m s (State.missesGo t) ↔ Touches m s t :=
  Touches.peel hm (by
    unfold State.missesGo
    rw [Touches.each]
    · simp
    · intro u a; (repeat' (first | split | dsimp only)) <;> simp)

@[simp] theorem touches_message {act : State → State} (hm : 63389928798488201524102 &&& m = 63389928798488201524102) (hf : ∀ u, Touches m u (act u)) :
    Touches m s (State.message t a1 act) ↔ Touches m s t := by
  have k : ∀ L, L &&& 63389928798488201524102 = L → L &&& m = L := fun L h => Touches.sub h hm
  have hf' : ∀ {s u}, Touches m s (act u) ↔ Touches m s u := fun {s u} => Touches.peel (Nat.and_self m) (hf u)
  exact Touches.peel (Nat.and_self m) (by 
    unfold State.message; 
    refine (touches_whenAwake (k _ (by decide)) fun u => ?_).2 Touches.rfl
    split <;> simp [k, hf'])

@[simp] theorem touches_tagTimeout (hm : 58519443392270377685894 &&& m = 58519443392270377685894) : Touches m s (State.tagTimeout t a1) ↔ Touches m s t :=
  Touches.peel hm (by unfold State.tagTimeout; (repeat' (first | split | dsimp only)) <;> simp)

@[simp] theorem touches_victimTimeout (hm : 58519443392270377685894 &&& m = 58519443392270377685894) : Touches m s (State.victimTimeout t a1 a2) ↔ Touches m s t :=
  Touches.peel hm (by unfold State.victimTimeout; (repeat' split) <;> simp)

@[simp] theorem touches_quarantineEnd (hm : 18014398509481984 &&& m = 18014398509481984) : Touches m s (State.quarantineEnd t a1) ↔ Touches m s t :=
  Touches.peel hm (by simp [State.quarantineEnd])

@[simp] theorem touches_mgArrive (hm : 2314850208468434946 &&& m = 2314850208468434946) : Touches m s (State.mgArrive t a1 a2 a3 a4) ↔ Touches m s t :=
  Touches.peel hm (by simp [State.mgArrive])

theorem touches_execRdS : TouchesO 63389928798488201524102 t (execRdS a1 a2 t) := by
  simp [execRdS]

theorem touches_execRdX : TouchesO 63389928798488201524102 t (execRdX a1 a2 t) := by
  simp [execRdX]

theorem touches_execUpg : TouchesO 63389928798488201524102 t (execUpg a1 a2 t) := by
  simp [execUpg]

theorem touches_execRdNc : TouchesO 63389928798488201524102 t (execRdNc a1 a2 t) := by
  simp [execRdNc]

theorem touches_execWrC : TouchesO 63389928798488201524102 t (execWrC a1 a2 t) := by
  simp [execWrC]

theorem touches_execWrCm : TouchesO 63389928798488201524102 t (execWrCm a1 a2 t) := by
  simp [execWrCm]

theorem touches_execWrNs : TouchesO 63389928798488201524102 t (execWrNs a1 a2 t) := by
  simp [execWrNs]

theorem touches_execAtAdd : TouchesO 63389928798488201524102 t (execAtAdd a1 a2 t) := by
  simp [execAtAdd]

theorem touches_execAtSwp : TouchesO 63389928798488201524102 t (execAtSwp a1 a2 t) := by
  simp [execAtSwp]

theorem touches_execAtCas : TouchesO 63389928798488201524102 t (execAtCas a1 a2 t) := by
  simp [execAtCas]

theorem touches_execAtMin : TouchesO 63389928798488201524102 t (execAtMin a1 a2 t) := by
  simp [execAtMin]

theorem touches_execAtMax : TouchesO 63389928798488201524102 t (execAtMax a1 a2 t) := by
  simp [execAtMax]

theorem touches_execEvict : TouchesO 63389928798488201524102 t (execEvict a1 a2 t) := by
  simp [execEvict]

theorem touches_execSnInv : TouchesO 63389928798488201524102 t (execSnInv a1 a2 t) := by
  simp [execSnInv]

theorem touches_execSnFwdS : TouchesO 63389928798488201524102 t (execSnFwdS a1 a2 t) := by
  simp [execSnFwdS]

theorem touches_execSnFwdX : TouchesO 63389928798488201524102 t (execSnFwdX a1 a2 t) := by
  simp [execSnFwdX]

theorem touches_execSnRecall : TouchesO 63389928798488201524102 t (execSnRecall a1 a2 t) := by
  simp [execSnRecall]

theorem touches_execSnRecallX : TouchesO 63389928798488201524102 t (execSnRecallX a1 a2 t) := by
  simp [execSnRecallX]

theorem touches_execData : TouchesO 63389928798488201524102 t (execData a1 a2 t) := by
  simp [execData]

theorem touches_execCmp : TouchesO 63389928798488201524102 t (execCmp a1 a2 t) := by
  simp [execCmp]

theorem touches_execSnAck : TouchesO 63389928798488201524102 t (execSnAck a1 a2 t) := by
  simp [execSnAck]

theorem touches_execSnData : TouchesO 63389928798488201524102 t (execSnData a1 a2 t) := by
  simp [execSnData]

theorem touches_execWbPull : TouchesO 63389928798488201524102 t (execWbPull a1 a2 t) := by
  simp [execWbPull]

theorem touches_execWbData : TouchesO 63389928798488201524102 t (execWbData a1 a2 t) := by
  simp [execWbData]

theorem touches_execAtData : TouchesO 63389928798488201524102 t (execAtData a1 a2 t) := by
  simp [execAtData]

theorem touches_execMg : TouchesO 63392234641497415218054 t (execMg a1 a2 a3 a4 t) := by
  simp [execMg]

theorem touches_execSnoopTimeout : TouchesO 58519988363009661637510 t (execSnoopTimeout a1 a2 a3 t) := by
  simp [execSnoopTimeout]

theorem touches_execVictimBufferTimeout : TouchesO 58519988363028875768710 t (execVictimBufferTimeout a1 a2 t) := by
  simp [execVictimBufferTimeout]

theorem touches_execRemoteRequestTimeout : TouchesO 63242354845898525111174 t (execRemoteRequestTimeout a1 t) := by
  simp [execRemoteRequestTimeout]

theorem touches_execTagQuarantineExpiry : TouchesO 18014398509481984 t (execTagQuarantineExpiry a1 t) := by
  simp [execTagQuarantineExpiry]

end Sys2Proof.Machine
end

