-- ==== Sys2Proof/Laws/Tier.lean ====
section
/-! SUPPORT. What each operation of Machine/Tier.lean may touch. -/

namespace Sys2Proof.Machine

variable {m : Nat} {s t : State}

@[simp] theorem touches_tierEnable (hm : 73787024398471922050 &&& m = 73787024398471922050) : Touches m s (State.tierEnable t a1 a2) ↔ Touches m s t :=
  Touches.peel hm (by simp [State.tierEnable])

@[simp] theorem touches_tierReady (hm : 101155069755520 &&& m = 101155069755520) : Touches m s (State.tierReady t) ↔ Touches m s t :=
  Touches.peel hm (by simp [State.tierReady])

@[simp] theorem touches_retryAll (hm : 576460752303423488 &&& m = 576460752303423488) : Touches m s (State.retryAll t) ↔ Touches m s t :=
  Touches.peel hm (by simp [State.retryAll])

@[simp] theorem touches_tierMoved (hm : 58519988363028875768710 &&& m = 58519988363028875768710) : Touches m s (State.tierMoved t) ↔ Touches m s t :=
  Touches.peel hm (by simp [State.tierMoved])

@[simp] theorem touches_failDrive (hm : 58519988363028875768710 &&& m = 58519988363028875768710) : Touches m s (State.failDrive t a1 a2) ↔ Touches m s t :=
  Touches.peel hm (by simp [State.failDrive])

@[simp] theorem touches_writeDone (hm : 58519988363028875768710 &&& m = 58519988363028875768710) : Touches m s (State.writeDone t a1 a2 a3) ↔ Touches m s t :=
  Touches.peel hm (by unfold State.writeDone; (repeat' (first | split | dsimp only)) <;> simp)

@[simp] theorem touches_directRead (hm : 73786976294838206464 &&& m = 73786976294838206464) : Touches m s (State.directRead t a1) ↔ Touches m s t :=
  Touches.peel hm (by simp [State.directRead])

@[simp] theorem touches_driveOk (hm : 58519988363028875768710 &&& m = 58519988363028875768710) : Touches m s (State.driveOk t a1 a2) ↔ Touches m s t :=
  Touches.peel hm (by simp [State.driveOk])

@[simp] theorem touches_poisonUnits (hm : 549755814016 &&& m = 549755814016) : Touches m s (State.poisonUnits t a1 a2) ↔ Touches m s t :=
  Touches.peel hm (by simp [State.poisonUnits])

@[simp] theorem touches_drivesGoOn {w : State} (hm : 58519988363009661637510 &&& m = 58519988363009661637510) : Touches m s (State.drivesGoOn t w) ↔ Touches m s t :=
  Touches.peel hm (by simp [State.drivesGoOn])

@[simp] theorem touches_driveDone (hm : 58519988363028875768710 &&& m = 58519988363028875768710) : Touches m s (State.driveDone t a1 a2 a3) ↔ Touches m s t :=
  Touches.peel hm (by unfold State.driveDone; (repeat' (first | split | dsimp only)) <;> simp)

@[simp] theorem touches_driveTimeout (hm : 58519988363028875768710 &&& m = 58519988363028875768710) : Touches m s (State.driveTimeout t a1) ↔ Touches m s t :=
  Touches.peel hm (by unfold State.driveTimeout; (repeat' (first | split | dsimp only)) <;> simp)

@[simp] theorem touches_driveBack (hm : 35184372088834 &&& m = 35184372088834) : Touches m s (State.driveBack t a1) ↔ Touches m s t :=
  Touches.peel hm (by simp [State.driveBack])

@[simp] theorem touches_driveLost (hm : 58519988363028875768710 &&& m = 58519988363028875768710) : Touches m s (State.driveLost t a1) ↔ Touches m s t :=
  Touches.peel hm (by simp [State.driveLost])

@[simp] theorem touches_perstLow (hm : 35184372088832 &&& m = 35184372088832) : Touches m s (State.perstLow t a1) ↔ Touches m s t :=
  Touches.peel hm (by simp [State.perstLow])

@[simp] theorem touches_perstHigh (hm : 35184372088832 &&& m = 35184372088832) : Touches m s (State.perstHigh t a1) ↔ Touches m s t :=
  Touches.peel hm (by simp [State.perstHigh])

@[simp] theorem touches_fillDone (hm : 58519988363028875768710 &&& m = 58519988363028875768710) : Touches m s (State.fillDone t a1) ↔ Touches m s t :=
  Touches.peel hm (by unfold State.fillDone; (repeat' (first | split | dsimp only)) <;> simp)

@[simp] theorem touches_refuseWait (hm : 1851043345792155779974 &&& m = 1851043345792155779974) : Touches m s (State.refuseWait t a1) ↔ Touches m s t :=
  Touches.peel hm (by simp [State.refuseWait])

@[simp] theorem touches_refuseUser (hm : 1845283241868748915590 &&& m = 1845283241868748915590) : Touches m s (State.refuseUser t a1 a2) ↔ Touches m s t :=
  Touches.peel hm (by unfold State.refuseUser; (repeat' split) <;> simp)

@[simp] theorem touches_frameWait (hm : 58519988363028875768710 &&& m = 58519988363028875768710) : Touches m s (State.frameWait t a1) ↔ Touches m s t :=
  Touches.peel hm (by 
    unfold State.frameWait; dsimp only; split
    · simp
    · refine Touches.ite (fun _ => by simp) fun _ => Touches.ite (fun _ => by simp) fun _ => ?_
      rw [touches_itemsEnd (by decide), touches_runNet (by decide), Touches.each]
      · split <;> simp
      · intro u e; rw [Touches.each] <;> simp)

@[simp] theorem touches_ageExamination (hm : 58519988363028875768710 &&& m = 58519988363028875768710) : Touches m s (State.ageExamination t) ↔ Touches m s t :=
  Touches.peel hm (by simp [State.ageExamination])

@[simp] theorem touches_copyPass (hm : 58519988363028875768710 &&& m = 58519988363028875768710) : Touches m s (State.copyPass t a1) ↔ Touches m s t :=
  Touches.peel hm (by unfold State.copyPass; (repeat' (first | split | dsimp only)) <;> simp)

@[simp] theorem touches_writebackStart (hm : 58519988363028875768710 &&& m = 58519988363028875768710) : Touches m s (State.writebackStart t a1) ↔ Touches m s t :=
  Touches.peel hm (by unfold State.writebackStart; (repeat' (first | split | dsimp only)) <;> simp)

@[simp] theorem touches_patrol (hm : 73786980418006811010 &&& m = 73786980418006811010) : Touches m s (State.patrol t a1 a2 a3) ↔ Touches m s t :=
  Touches.peel hm (by simp [State.patrol])

theorem touches_execTierEnable : TouchesO 221360976988148334978 t (execTierEnable a1 a2 t) := by
  simp [execTierEnable]

theorem touches_execTierReady : TouchesO 101155069755520 t (execTierReady t) := by
  simp [execTierReady]

theorem touches_execNvmeCommandComplete : TouchesO 58519988363028875768710 t (execNvmeCommandComplete a1 a2 a3 t) := by
  simp [execNvmeCommandComplete]

theorem touches_execNvmeCommandTimeout : TouchesO 58519988363028875768710 t (execNvmeCommandTimeout a1 t) := by
  simp [execNvmeCommandTimeout]

theorem touches_execDriveResetTimeout : TouchesO 58519988363028875768710 t (execDriveResetTimeout a1 t) := by
  simp [execDriveResetTimeout]

theorem touches_execNvmeControllerReady : TouchesO 35184372088834 t (execNvmeControllerReady a1 t) := by
  simp [execNvmeControllerReady]

theorem touches_execNvmeControllerResetTimeout : TouchesO 35184372088832 t (execNvmeControllerResetTimeout a1 t) := by
  simp [execNvmeControllerResetTimeout]

theorem touches_execNvmePerstPulseEnd : TouchesO 35184372088832 t (execNvmePerstPulseEnd a1 t) := by
  simp [execNvmePerstPulseEnd]

theorem touches_execFillComplete : TouchesO 58519988363028875768710 t (execFillComplete a1 t) := by
  simp [execFillComplete]

theorem touches_execFrameWaitTimeout : TouchesO 58519988363028875768710 t (execFrameWaitTimeout a1 t) := by
  simp [execFrameWaitTimeout]

theorem touches_execAgeExamination : TouchesO 58519988363028875768710 t (execAgeExamination t) := by
  simp [execAgeExamination]

theorem touches_execCopyPassComplete : TouchesO 58519988363028875768710 t (execCopyPassComplete a1 t) := by
  simp [execCopyPassComplete]

theorem touches_execWritebackStart : TouchesO 58519988363028875768710 t (execWritebackStart a1 t) := by
  simp [execWritebackStart]

theorem touches_execPatrolScrubStep : TouchesO 73786980418006811010 t (execPatrolScrubStep a1 a2 a3 t) := by
  simp [execPatrolScrubStep]

end Sys2Proof.Machine
end

