-- ==== Sys2Proof/Laws/Link.lean ====
section
/-! SUPPORT. What each operation of Machine/Link.lean may touch. -/

namespace Sys2Proof.Machine

variable {m : Nat} {s t : State}

@[simp] theorem touches_dropTx (hm : 37779535345307229356162 &&& m = 37779535345307229356162) : Touches m s (State.dropTx t a1) ↔ Touches m s t :=
  Touches.peel hm (by unfold State.dropTx; (repeat' split) <;> simp)

@[simp] theorem touches_dropQueue (hm : 63242354845898525111174 &&& m = 63242354845898525111174) : Touches m s (State.dropQueue t a1) ↔ Touches m s t :=
  Touches.peel hm (by simp [State.dropQueue])

@[simp] theorem touches_linkOut (hm : 63242354845898525111174 &&& m = 63242354845898525111174) : Touches m s (State.linkOut t a1 a2 a3) ↔ Touches m s t :=
  Touches.peel hm (by simp [State.linkOut])

@[simp] theorem touches_linkRetrain (hm : 63242354845898525111174 &&& m = 63242354845898525111174) : Touches m s (State.linkRetrain t a1) ↔ Touches m s t :=
  Touches.peel hm (by simp [State.linkRetrain])

@[simp] theorem touches_signal (hm : 147582959788931153920 &&& m = 147582959788931153920) : Touches m s (State.signal t a1) ↔ Touches m s t :=
  Touches.peel hm (by simp [State.signal])

@[simp] theorem touches_trained (hm : 9007199254740992 &&& m = 9007199254740992) : Touches m s (State.trained t a1 a2) ↔ Touches m s t :=
  Touches.peel hm (by unfold State.trained; (repeat' split) <;> simp)

@[simp] theorem touches_trainTimeout (hm : 63242354845898525111174 &&& m = 63242354845898525111174) : Touches m s (State.trainTimeout t a1) ↔ Touches m s t :=
  Touches.peel hm (by simp [State.trainTimeout])

@[simp] theorem touches_trainRetry (hm : 9007199254740992 &&& m = 9007199254740992) : Touches m s (State.trainRetry t a1) ↔ Touches m s t :=
  Touches.peel hm (by simp [State.trainRetry])

@[simp] theorem touches_resend (hm : 9007199254740994 &&& m = 9007199254740994) : Touches m s (State.resend t a1) ↔ Touches m s t :=
  Touches.peel hm (by simp [State.resend])

@[simp] theorem touches_keyed (hm : 63242354845898525111174 &&& m = 63242354845898525111174) : Touches m s (State.keyed t a1 a2) ↔ Touches m s t :=
  Touches.peel hm (by unfold State.keyed; (repeat' (first | split | dsimp only)) <;> simp)

@[simp] theorem touches_keyTimeout (hm : 63242354845898525111174 &&& m = 63242354845898525111174) : Touches m s (State.keyTimeout t a1) ↔ Touches m s t :=
  Touches.peel hm (by simp [State.keyTimeout])

@[simp] theorem touches_retrainTimeout (hm : 63242354845898525111174 &&& m = 63242354845898525111174) : Touches m s (State.retrainTimeout t a1) ↔ Touches m s t :=
  Touches.peel hm (by simp [State.retrainTimeout])

@[simp] theorem touches_signalLost (hm : 63242354845898525111174 &&& m = 63242354845898525111174) : Touches m s (State.signalLost t a1) ↔ Touches m s t :=
  Touches.peel hm (by simp [State.signalLost])

@[simp] theorem touches_alignmentLost (hm : 63242354845898525111174 &&& m = 63242354845898525111174) : Touches m s (State.alignmentLost t a1) ↔ Touches m s t :=
  Touches.peel hm (by simp [State.alignmentLost])

@[simp] theorem touches_sendNak (hm : 63242354845898525111174 &&& m = 63242354845898525111174) : Touches m s (State.sendNak t a1) ↔ Touches m s t :=
  Touches.peel hm (by simp [State.sendNak])

@[simp] theorem touches_rejectFlit (hm : 63242354845898525111174 &&& m = 63242354845898525111174) : Touches m s (State.rejectFlit t a1) ↔ Touches m s t :=
  Touches.peel hm (by simp [State.rejectFlit])

@[simp] theorem touches_tagFailed (hm : 63242354845898525111174 &&& m = 63242354845898525111174) : Touches m s (State.tagFailed t a1) ↔ Touches m s t :=
  Touches.peel hm (by simp [State.tagFailed])

@[simp] theorem touches_takeFlit (hm : 63242354845898525111174 &&& m = 63242354845898525111174) : Touches m s (State.takeFlit t a1 a2 a3 a4) ↔ Touches m s t :=
  Touches.peel hm (by simp [State.takeFlit])

@[simp] theorem touches_flit (hm : 63242354845898525111174 &&& m = 63242354845898525111174) : Touches m s (State.flit t a1 a2 a3) ↔ Touches m s t :=
  Touches.peel hm (by unfold State.flit; (repeat' (first | split | dsimp only)) <;> simp)

@[simp] theorem touches_replayTimer (hm : 63242354845898525111174 &&& m = 63242354845898525111174) : Touches m s (State.replayTimer t a1) ↔ Touches m s t :=
  Touches.peel hm (by simp [State.replayTimer])

@[simp] theorem touches_idleFlits (hm : 9007199254740994 &&& m = 9007199254740994) : Touches m s (State.idleFlits t) ↔ Touches m s t :=
  Touches.peel hm (by simp [State.idleFlits])

@[simp] theorem touches_portReset (hm : 9007199254740992 &&& m = 9007199254740992) : Touches m s (State.portReset t a1) ↔ Touches m s t :=
  Touches.peel hm (by simp [State.portReset])

@[simp] theorem touches_portRetrain (hm : 63242354845898525111174 &&& m = 63242354845898525111174) : Touches m s (State.portRetrain t a1) ↔ Touches m s t :=
  Touches.peel hm (by simp [State.portRetrain])

@[simp] theorem touches_portCmd {act : State → State} (hm : 221360933007683223938 &&& m = 221360933007683223938) (hf : ∀ u, Touches m u (act u)) :
    Touches m s (State.portCmd t a1 a2 act) ↔ Touches m s t := by
  have k : ∀ L, L &&& 221360933007683223938 = L → L &&& m = L := fun L h => Touches.sub h hm
  have hf' : ∀ {s u}, Touches m s (act u) ↔ Touches m s u := fun {s u} => Touches.peel (Nat.and_self m) (hf u)
  exact Touches.peel (Nat.and_self m) (by simp [State.portCmd, k, hf'])

theorem touches_execFlitReceived : TouchesO 63242354845898525111174 t (execFlitReceived a1 a2 a3 t) := by
  simp [execFlitReceived]

theorem touches_execReplayTimerExpiry : TouchesO 63242354845898525111174 t (execReplayTimerExpiry a1 t) := by
  simp [execReplayTimerExpiry]

theorem touches_execSignalDetect : TouchesO 147582959788931153920 t (execSignalDetect a1 t) := by
  simp [execSignalDetect]

theorem touches_execTrainComplete : TouchesO 9007199254740992 t (execTrainComplete a1 a2 t) := by
  simp [execTrainComplete]

theorem touches_execTrainTimeout : TouchesO 63242354845898525111174 t (execTrainTimeout a1 t) := by
  simp [execTrainTimeout]

theorem touches_execTrainRetryTimer : TouchesO 9007199254740992 t (execTrainRetryTimer a1 t) := by
  simp [execTrainRetryTimer]

theorem touches_execKeyExchangeComplete : TouchesO 63242354845898525111174 t (execKeyExchangeComplete a1 a2 t) := by
  simp [execKeyExchangeComplete]

theorem touches_execKeyExchangeTimeout : TouchesO 63242354845898525111174 t (execKeyExchangeTimeout a1 t) := by
  simp [execKeyExchangeTimeout]

theorem touches_execRetrainTimeout : TouchesO 63242354845898525111174 t (execRetrainTimeout a1 t) := by
  simp [execRetrainTimeout]

theorem touches_execSignalLost : TouchesO 63242354845898525111174 t (execSignalLost a1 t) := by
  simp [execSignalLost]

theorem touches_execCodewordAlignmentLost : TouchesO 63242354845898525111174 t (execCodewordAlignmentLost a1 t) := by
  simp [execCodewordAlignmentLost]

theorem touches_execPortReset : TouchesO 221369940206937964930 t (execPortReset a1 a2 t) := by
  simp [execPortReset]

theorem touches_execPortRetrain : TouchesO 63389928798488201524102 t (execPortRetrain a1 a2 t) := by
  simp [execPortRetrain]

theorem touches_execIdleLinkMessage : TouchesO 147573952589676412928 t (execIdleLinkMessage a1 t) := by
  simp [execIdleLinkMessage]

end Sys2Proof.Machine
end

