-- ==== Sys2Proof/Laws/PoolShare.lean ====
section
/-! SUPPORT. What each operation of Machine/PoolShare.lean may touch. -/

namespace Sys2Proof.Machine

variable {m : Nat} {s t : State}

@[simp] theorem touches_poolOp {act : State → Ring → Line → State} (hm : 1845278738269121545094 &&& m = 1845278738269121545094) (hf : ∀ u x1 x2, Touches m u (act u x1 x2)) :
    Touches m s (State.poolOp t a1 a2 a3 act) ↔ Touches m s t := by
  have k : ∀ L, L &&& 1845278738269121545094 = L → L &&& m = L := fun L h => Touches.sub h hm
  have hf' : ∀ {s u} x1 x2, Touches m s (act u x1 x2) ↔ Touches m s u := fun {s u} x1 x2 => Touches.peel (Nat.and_self m) (hf u x1 x2)
  exact Touches.peel (Nat.and_self m) (by unfold State.poolOp; (repeat' split) <;> simp [k, hf'])

@[simp] theorem touches_poolMark (hm : 1846431659773728392070 &&& m = 1846431659773728392070) : Touches m s (State.poolMark t a1 a2) ↔ Touches m s t :=
  Touches.peel hm (by 
    unfold State.poolMark
    refine (touches_poolOp (by decide) fun u x d => ?_).2 Touches.rfl
    simp)

@[simp] theorem touches_poolGrant (hm : 1845278738269121545094 &&& m = 1845278738269121545094) : Touches m s (State.poolGrant t a1 a2) ↔ Touches m s t :=
  Touches.peel hm (by simp [State.poolGrant])

@[simp] theorem touches_queryBytes (hm : 4 &&& m = 4) : Touches m s (State.queryBytes t a1 a2).2 ↔ Touches m s t :=
  Touches.peel hm (by unfold State.queryBytes; (repeat' (first | split | dsimp only)) <;> simp)

@[simp] theorem touches_poolQuery (hm : 1845278738269121545094 &&& m = 1845278738269121545094) : Touches m s (State.poolQuery t a1 a2) ↔ Touches m s t :=
  Touches.peel hm (by 
    unfold State.poolQuery
    refine (touches_poolOp (by decide) fun u x d => ?_).2 Touches.rfl
    dsimp only; split
    · simp
    · split
      · simp; exact (Touches.fst (by assumption)).2 (by simp)
      · simp; exact (Touches.fst (by assumption)).2 (by simp))

@[simp] theorem touches_beginDrain (hm : 4611686018427388416 &&& m = 4611686018427388416) : Touches m s (State.beginDrain t a1 a2 a3 a4 a5 a6) ↔ Touches m s t :=
  Touches.peel hm (by simp [State.beginDrain])

@[simp] theorem touches_poolRevoke (hm : 1851043345792155779974 &&& m = 1851043345792155779974) : Touches m s (State.poolRevoke t a1 a2) ↔ Touches m s t :=
  Touches.peel hm (by simp [State.poolRevoke])

@[simp] theorem touches_poolUnmark (hm : 58519988363009661637510 &&& m = 58519988363009661637510) : Touches m s (State.poolUnmark t a1 a2) ↔ Touches m s t :=
  Touches.peel hm (by 
    unfold State.poolUnmark
    refine (touches_poolOp (by decide) fun u x d => ?_).2 Touches.rfl
    simp)

@[simp] theorem touches_dropWait (hm : 288230376151711744 &&& m = 288230376151711744) : Touches m s (State.dropWait t a1) ↔ Touches m s t :=
  Touches.peel hm (by simp [State.dropWait])

@[simp] theorem touches_poisonLocal (hm : 5044032132410769408 &&& m = 5044032132410769408) : Touches m s (State.poisonLocal t a1 a2) ↔ Touches m s t :=
  Touches.peel hm (by unfold State.poisonLocal; (repeat' (first | split | dsimp only)) <;> simp)

@[simp] theorem touches_poisonRemote (hm : 590899292708773298306 &&& m = 590899292708773298306) : Touches m s (State.poisonRemote t a1 a2) ↔ Touches m s t :=
  Touches.peel hm (by unfold State.poisonRemote; (repeat' (first | split | dsimp only)) <;> simp)

@[simp] theorem touches_poisonHost (hm : 1851475691356383347590 &&& m = 1851475691356383347590) : Touches m s (State.poisonHost t a1 a2) ↔ Touches m s t :=
  Touches.peel hm (by unfold State.poisonHost; (repeat' (first | split | dsimp only)) <;> simp)

@[simp] theorem touches_poisonTxn (hm : 1851187460980231635846 &&& m = 1851187460980231635846) : Touches m s (State.poisonTxn t a1) ↔ Touches m s t :=
  Touches.peel hm (by unfold State.poisonTxn; (repeat' split) <;> simp)

@[simp] theorem touches_poisonWait (hm : 1851331576168307491718 &&& m = 1851331576168307491718) : Touches m s (State.poisonWait t a1) ↔ Touches m s t :=
  Touches.peel hm (by unfold State.poisonWait; (repeat' split) <;> simp)

@[simp] theorem touches_revokeExpired (hm : 58519988363009661637510 &&& m = 58519988363009661637510) : Touches m s (State.revokeExpired t a1 a2) ↔ Touches m s t :=
  Touches.peel hm (by unfold State.revokeExpired; (repeat' split) <;> simp)

@[simp] theorem touches_sweepDone (hm : 58519988363009661637510 &&& m = 58519988363009661637510) : Touches m s (State.sweepDone t a1 a2) ↔ Touches m s t :=
  Touches.peel hm (by unfold State.sweepDone; (repeat' (first | split | dsimp only)) <;> simp)

@[simp] theorem touches_cxlRefuse (hm : 130 &&& m = 130) : Touches m s (State.cxlRefuse t a1 a2) ↔ Touches m s t :=
  Touches.peel hm (by simp [State.cxlRefuse])

@[simp] theorem touches_cxlGo (hm : 1851588316531439731590 &&& m = 1851588316531439731590) : Touches m s (State.cxlGo t a1 a2 a3) ↔ Touches m s t :=
  Touches.peel hm (by unfold State.cxlGo; (repeat' (first | split | dsimp only)) <;> simp)

@[simp] theorem touches_admitReq (hm : 1851588316531439731590 &&& m = 1851588316531439731590) : Touches m s (State.admitReq t a1 a2) ↔ Touches m s t :=
  Touches.peel hm (by simp [State.admitReq])

@[simp] theorem touches_tokenWait (hm : 384 &&& m = 384) : Touches m s (State.tokenWait t a1) ↔ Touches m s t :=
  Touches.peel hm (by simp [State.tokenWait])

@[simp] theorem touches_cxlArrive (hm : 58519988363009661637510 &&& m = 58519988363009661637510) : Touches m s (State.cxlArrive t a1 a2) ↔ Touches m s t :=
  Touches.peel hm (by simp [State.cxlArrive])

@[simp] theorem touches_admitNext (hm : 58519988363009661637510 &&& m = 58519988363009661637510) : Touches m s (State.admitNext t a1) ↔ Touches m s t :=
  Touches.peel hm (by unfold State.admitNext; (repeat' (first | split | dsimp only)) <;> simp)

@[simp] theorem touches_resume (hm : 58519988363009661637510 &&& m = 58519988363009661637510) : Touches m s (State.resume t a1) ↔ Touches m s t :=
  Touches.peel hm (by simp [State.resume])

@[simp] theorem touches_throttleOver (hm : 256 &&& m = 256) : Touches m s (State.throttleOver t a1) ↔ Touches m s t :=
  Touches.peel hm (by simp [State.throttleOver])

@[simp] theorem touches_poolSetmode (hm : 1854502110305976320902 &&& m = 1854502110305976320902) : Touches m s (State.poolSetmode t a1 a2) ↔ Touches m s t :=
  Touches.peel hm (by simp [State.poolSetmode])

@[simp] theorem touches_updMode (hm : 9223372036854775808 &&& m = 9223372036854775808) : Touches m s (State.updMode t a1 a2) ↔ Touches m s t :=
  Touches.peel hm (by simp [State.updMode])

@[simp] theorem touches_modeEnd (hm : 58529211735046516413318 &&& m = 58529211735046516413318) : Touches m s (State.modeEnd t a1 a2 a3) ↔ Touches m s t :=
  Touches.peel hm (by simp [State.modeEnd])

@[simp] theorem touches_modeCheck (hm : 58529211735046516413318 &&& m = 58529211735046516413318) : Touches m s (State.modeCheck t a1) ↔ Touches m s t :=
  Touches.peel hm (by unfold State.modeCheck; (repeat' split) <;> simp)

@[simp] theorem touches_modeDrained (hm : 58529211735046516413318 &&& m = 58529211735046516413318) : Touches m s (State.modeDrained t a1) ↔ Touches m s t :=
  Touches.peel hm (by unfold State.modeDrained; (repeat' split) <;> simp)

@[simp] theorem touches_biOver (hm : 58529211735046516413318 &&& m = 58529211735046516413318) : Touches m s (State.biOver t a1 a2 a3) ↔ Touches m s t :=
  Touches.peel hm (by simp [State.biOver])

@[simp] theorem touches_biAnswer (hm : 58529211735046516413318 &&& m = 58529211735046516413318) : Touches m s (State.biAnswer t a1 a2 a3 a4) ↔ Touches m s t :=
  Touches.peel hm (by unfold State.biAnswer; (repeat' split) <;> simp)

@[simp] theorem touches_biLate (hm : 58529211735046516413318 &&& m = 58529211735046516413318) : Touches m s (State.biLate t a1 a2) ↔ Touches m s t :=
  Touches.peel hm (by unfold State.biLate; (repeat' split) <;> simp)

@[simp] theorem touches_decoderCommit (hm : 256 &&& m = 256) : Touches m s (State.decoderCommit t a1 a2 a3 a4 a5 a6 a7) ↔ Touches m s t :=
  Touches.peel hm (by simp [State.decoderCommit])

@[simp] theorem touches_configRequest (hm : 262 &&& m = 262) : Touches m s (State.configRequest t a1 a2) ↔ Touches m s t :=
  Touches.peel hm (by unfold State.configRequest; simp; (repeat' split) <;> simp)

theorem touches_execMark : TouchesO 1846431659773728392070 t (execMark a1 a2 t) := by
  simp [execMark]

theorem touches_execUnmark : TouchesO 58519988363009661637510 t (execUnmark a1 a2 t) := by
  simp [execUnmark]

theorem touches_execGrant : TouchesO 1845278738269121545094 t (execGrant a1 a2 t) := by
  simp [execGrant]

theorem touches_execRevoke : TouchesO 1851043345792155779974 t (execRevoke a1 a2 t) := by
  simp [execRevoke]

theorem touches_execPoolQuery : TouchesO 1845278738269121545094 t (execPoolQuery a1 a2 t) := by
  simp [execPoolQuery]

theorem touches_execSetmode : TouchesO 1854502110305976320902 t (execSetmode a1 a2 t) := by
  simp [execSetmode]

theorem touches_execSetmodeDrained : TouchesO 58529211735046516413318 t (execSetmodeDrained a1 t) := by
  simp [execSetmodeDrained]

theorem touches_execRevokeTimerExpiry : TouchesO 58519988363009661637510 t (execRevokeTimerExpiry a1 a2 t) := by
  simp [execRevokeTimerExpiry]

theorem touches_execDirectorySweepComplete : TouchesO 58519988363009661637510 t (execDirectorySweepComplete a1 a2 t) := by
  simp [execDirectorySweepComplete]

theorem touches_execCxlMemRead : TouchesO 58667562315599338050438 t (execCxlMemRead a1 a2 a3 a4 t) := by
  simp [execCxlMemRead]

theorem touches_execCxlMemWrite : TouchesO 58667562315599338050438 t (execCxlMemWrite a1 a2 a3 a4 t) := by
  simp [execCxlMemWrite]

theorem touches_execTokenAdmit : TouchesO 58519988363009661637510 t (execTokenAdmit a1 t) := by
  simp [execTokenAdmit]

theorem touches_execThrottleHoldExpiry : TouchesO 256 t (execThrottleHoldExpiry a1 t) := by
  simp [execThrottleHoldExpiry]

theorem touches_execBirsp : TouchesO 58529211735046516413318 t (execBirsp a1 a2 a3 a4 t) := by
  simp [execBirsp]

theorem touches_execBackInvalidateTimeout : TouchesO 58529211735046516413318 t (execBackInvalidateTimeout a1 a2 t) := by
  simp [execBackInvalidateTimeout]

theorem touches_execHdmDecoderCommit : TouchesO 256 t (execHdmDecoderCommit a1 a2 a3 a4 a5 a6 a7 t) := by
  simp [execHdmDecoderCommit]

theorem touches_execHostConfigRequest : TouchesO 147573952589676413190 t (execHostConfigRequest a1 a2 t) := by
  simp [execHostConfigRequest]

end Sys2Proof.Machine
end

