-- ==== Sys2Proof/Laws/Boot.lean ====
section
/-! SUPPORT. What each operation of Machine/Boot.lean may touch. -/

namespace Sys2Proof.Machine

variable {m : Nat} {s t : State}

@[simp] theorem touches_coldKeep (hm : 75557863725914323419135 &&& m = 75557863725914323419135) : Touches m s (State.coldKeep t a1) ↔ Touches m s t :=
  Touches.peel hm (by exact fun f hf => by cases f <;> first | exact Eq.refl _ | exact absurd hf (by decide))

@[simp] theorem touches_bootKeeper (hm : 18446744073709551616 &&& m = 18446744073709551616) : Touches m s (State.bootKeeper t) ↔ Touches m s t :=
  Touches.peel hm (by simp [State.bootKeeper])

@[simp] theorem touches_ddrSettle (hm : 140737488355456 &&& m = 140737488355456) : Touches m s (State.ddrSettle t) ↔ Touches m s t :=
  Touches.peel hm (by simp [State.ddrSettle])

@[simp] theorem touches_ddrTrain (hm : 140737488355456 &&& m = 140737488355456) : Touches m s (State.ddrTrain t a1) ↔ Touches m s t :=
  Touches.peel hm (by 
    unfold State.ddrTrain
    rw [touches_ddrSettle (by decide), Touches.each]
    · simp
    · intro u d; split <;> simp)

@[simp] theorem touches_driveAdmin (hm : 2 &&& m = 2) : Touches m s (State.driveAdmin t a1 a2) ↔ Touches m s t :=
  Touches.peel hm (by simp [State.driveAdmin])

@[simp] theorem touches_drivesQualify (hm : 35184372088834 &&& m = 35184372088834) : Touches m s (State.drivesQualify t a1) ↔ Touches m s t :=
  Touches.peel hm (by 
    unfold State.drivesQualify
    rw [Touches.each]
    · simp
    · intro u d; split <;> simp)

@[simp] theorem touches_portsTrain (hm : 256 &&& m = 256) : Touches m s (State.portsTrain t) ↔ Touches m s t :=
  Touches.peel hm (by simp [State.portsTrain])

@[simp] theorem touches_bringUp (hm : 202914360732665512322 &&& m = 202914360732665512322) : Touches m s (State.bringUp t a1 a2) ↔ Touches m s t :=
  Touches.peel hm (by simp [State.bringUp])

@[simp] theorem touches_tryBoot (hm : 202914360732665512322 &&& m = 202914360732665512322) : Touches m s (State.tryBoot t a1) ↔ Touches m s t :=
  Touches.peel hm (by simp [State.tryBoot])

@[simp] theorem touches_resetLow (hm : 75557863725914323419135 &&& m = 75557863725914323419135) : Touches m s (State.resetLow t) ↔ Touches m s t :=
  Touches.peel hm (by simp [State.resetLow])

@[simp] theorem touches_resetHigh (hm : 202914360732665512322 &&& m = 202914360732665512322) : Touches m s (State.resetHigh t a1) ↔ Touches m s t :=
  Touches.peel hm (by simp [State.resetHigh])

@[simp] theorem touches_powered (hm : 202914360732665512322 &&& m = 202914360732665512322) : Touches m s (State.powered t a1) ↔ Touches m s t :=
  Touches.peel hm (by simp [State.powered])

@[simp] theorem touches_sysLost (hm : 75557863725914323419135 &&& m = 75557863725914323419135) : Touches m s (State.sysLost t) ↔ Touches m s t :=
  Touches.peel hm (by simp [State.sysLost])

@[simp] theorem touches_sysBack (hm : 202914360732665512322 &&& m = 202914360732665512322) : Touches m s (State.sysBack t a1) ↔ Touches m s t :=
  Touches.peel hm (by simp [State.sysBack])

@[simp] theorem touches_flashFree (hm : 202914360732665512322 &&& m = 202914360732665512322) : Touches m s (State.flashFree t a1) ↔ Touches m s t :=
  Touches.peel hm (by simp [State.flashFree])

@[simp] theorem touches_cutTransfers (hm : 1845283241868748915590 &&& m = 1845283241868748915590) : Touches m s (State.cutTransfers t a1) ↔ Touches m s t :=
  Touches.peel hm (by 
    unfold State.cutTransfers
    rw [Touches.each]
    · simp
    · intro u r
      refine Touches.ite (fun _ => by simp) fun _ => ?_
      rw [Touches.each] <;> simp)

@[simp] theorem touches_portRingsFail (hm : 664687117551710241670 &&& m = 664687117551710241670) : Touches m s (State.portRingsFail t a1) ↔ Touches m s t :=
  Touches.peel hm (by simp [State.portRingsFail])

@[simp] theorem touches_hostReset (hm : 58529211735065730544518 &&& m = 58529211735065730544518) : Touches m s (State.hostReset t a1) ↔ Touches m s t :=
  Touches.peel hm (by simp [State.hostReset])

@[simp] theorem touches_perstFalls (hm : 58676785687655406957446 &&& m = 58676785687655406957446) : Touches m s (State.perstFalls t a1) ↔ Touches m s t :=
  Touches.peel hm (by simp [State.perstFalls])

@[simp] theorem touches_perstRises (hm : 256 &&& m = 256) : Touches m s (State.perstRises t a1) ↔ Touches m s t :=
  Touches.peel hm (by simp [State.perstRises])

@[simp] theorem touches_hostDown (hm : 58529211735065730544518 &&& m = 58529211735065730544518) : Touches m s (State.hostDown t a1) ↔ Touches m s t :=
  Touches.peel hm (by simp [State.hostDown])

@[simp] theorem touches_hostUp (hm : 256 &&& m = 256) : Touches m s (State.hostUp t a1) ↔ Touches m s t :=
  Touches.peel hm (by simp [State.hostUp])

theorem touches_execResetNAssert : TouchesO 75557863725914323419135 t (execResetNAssert t) := by
  simp [execResetNAssert]

theorem touches_execResetNRelease : TouchesO 202914360732665512322 t (execResetNRelease a1 t) := by
  simp [execResetNRelease]

theorem touches_execPowerOn : TouchesO 202914360732665512322 t (execPowerOn a1 t) := by
  simp [execPowerOn]

theorem touches_execVinLockout : TouchesO 75557863725914323419135 t (execVinLockout t) := by
  simp [execVinLockout]

theorem touches_execRefclkSysLost : TouchesO 75557863725914323419135 t (execRefclkSysLost t) := by
  simp [execRefclkSysLost]

theorem touches_execRefclkSysRestored : TouchesO 202914360732665512322 t (execRefclkSysRestored a1 t) := by
  simp [execRefclkSysRestored]

theorem touches_execFlashExtRelease : TouchesO 202914360732665512322 t (execFlashExtRelease a1 t) := by
  simp [execFlashExtRelease]

theorem touches_execPerstAssert : TouchesO 58676785687655406957446 t (execPerstAssert a1 t) := by
  simp [execPerstAssert]

theorem touches_execPerstDeassert : TouchesO 256 t (execPerstDeassert a1 t) := by
  simp [execPerstDeassert]

theorem touches_execHostLinkDown : TouchesO 58529211735065730544518 t (execHostLinkDown a1 t) := by
  simp [execHostLinkDown]

theorem touches_execHostLinkTrained : TouchesO 256 t (execHostLinkTrained a1 t) := by
  simp [execHostLinkTrained]

end Sys2Proof.Machine
end

