-- ==== Sys2Proof/Laws/Xlt.lean ====
section
/-! SUPPORT. What each operation of Machine/Xlt.lean may touch. -/

namespace Sys2Proof.Machine

variable {m : Nat} {s t : State}

@[simp] theorem touches_await (hm : 58513678784504677794694 &&& m = 58513678784504677794694) : Touches m s (State.await t a1 a2 a3 a4 a5) ↔ Touches m s t :=
  Touches.peel hm (by simp [State.await])

@[simp] theorem touches_dropXlat (hm : 1970324836978688 &&& m = 1970324836978688) : Touches m s (State.dropXlat t a1 a2 a3 a4) ↔ Touches m s t :=
  Touches.peel hm (by unfold State.dropXlat; (repeat' (first | split | dsimp only)) <;> (try simp) <;> exact fun f hf => by cases f <;> first | exact Eq.refl _ | exact absurd hf (by decide))

@[simp] theorem touches_putRoot (hm : 128 &&& m = 128) : Touches m s (State.putRoot t a1 a2) ↔ Touches m s t :=
  Touches.peel hm (by simp [State.putRoot])

@[simp] theorem touches_putTables (hm : 4123168604160 &&& m = 4123168604160) : Touches m s (State.putTables t a1 a2) ↔ Touches m s t :=
  Touches.peel hm (by simp [State.putTables])

@[simp] theorem touches_xinv {act : State → Flight → State} (hm : 1845278738269121545094 &&& m = 1845278738269121545094) (hf : ∀ u x1, Touches m u (act u x1)) :
    Touches m s (State.xinv t a1 a2 a3 act) ↔ Touches m s t := by
  have k : ∀ L, L &&& 1845278738269121545094 = L → L &&& m = L := fun L h => Touches.sub h hm
  have hf' : ∀ {s u} x1, Touches m s (act u x1) ↔ Touches m s u := fun {s u} x1 => Touches.peel (Nat.and_self m) (hf u x1)
  exact Touches.peel (Nat.and_self m) (by unfold State.xinv; (repeat' split) <;> simp [k, hf'])

@[simp] theorem touches_ptwrite (hm : 58513683323288677254022 &&& m = 58513683323288677254022) : Touches m s (State.ptwrite t a1 a2 a3) ↔ Touches m s t :=
  Touches.peel hm (by 
    unfold State.ptwrite
    refine (touches_xinv (by decide) fun u f => ?_).2 Touches.rfl
    dsimp only; split
    · simp
    · (repeat' split) <;> simp)

@[simp] theorem touches_invalidate (hm : 58513679910404584641414 &&& m = 58513679910404584641414) : Touches m s (State.invalidate t a1 a2 a3 a4 a5 a6 a7) ↔ Touches m s t :=
  Touches.peel hm (by unfold State.invalidate; (repeat' split) <;> simp)

@[simp] theorem touches_inval (hm : 58513679910404584641414 &&& m = 58513679910404584641414) : Touches m s (State.inval t a1 a2) ↔ Touches m s t :=
  Touches.peel hm (by simp [State.inval])

@[simp] theorem touches_setroot (hm : 58513679910404584641414 &&& m = 58513679910404584641414) : Touches m s (State.setroot t a1 a2) ↔ Touches m s t :=
  Touches.peel hm (by simp [State.setroot])

@[simp] theorem touches_invalForwarded (hm : 58513679910404584641414 &&& m = 58513679910404584641414) : Touches m s (State.invalForwarded t a1 a2 a3 a4 a5 a6) ↔ Touches m s t :=
  Touches.peel hm (by unfold State.invalForwarded; (repeat' split) <;> simp)

@[simp] theorem touches_walkFault (hm : 58513678784506825282438 &&& m = 58513678784506825282438) : Touches m s (State.walkFault t a1 a2 a3) ↔ Touches m s t :=
  Touches.peel hm (by 
    unfold State.walkFault
    rw [Touches.each]
    · simp
    · intro u e; rw [Touches.each] <;> simp)

@[simp] theorem touches_translateAll (hm : 58513679910647250293638 &&& m = 58513679910647250293638) : Touches m s (State.translateAll t) ↔ Touches m s t :=
  Touches.peel hm (by simp [State.translateAll])

@[simp] theorem touches_walkRead (hm : 58519989488909568480134 &&& m = 58519989488909568480134) : Touches m s (State.walkRead t a1) ↔ Touches m s t :=
  Touches.peel hm (by 
    unfold State.walkRead; split
    · simp
    · refine Touches.ite (fun _ => by simp) fun _ => ?_
      dsimp only
      refine Touches.ite (fun _ => ?_) fun _ => Touches.ite (fun _ => ?_) fun _ => ?_
      · split <;> simp
      · split
        · simp; exact (touches_startWalk (by assumption) (by decide)).2 (by simp)
        · simp
      · split <;> simp)

theorem touches_execPtwrite : TouchesO 58519988363009661637510 t (execPtwrite a1 a2 a3 t) := by
  simp [execPtwrite]

theorem touches_execInval : TouchesO 58513679910404584641414 t (execInval a1 a2 t) := by
  simp [execInval]

theorem touches_execSetroot : TouchesO 58513679910404584641414 t (execSetroot a1 a2 t) := by
  simp [execSetroot]

theorem touches_execPtwriteBroadcast : TouchesO 63389928798488201524102 t (execPtwriteBroadcast a1 a2 a3 t) := by
  unfold execPtwriteBroadcast; rw [touchesO_next, touches_message (by decide) fun u => by
    rw [touches_mgServe (by decide) fun v => by simp]; simp]
  simp

theorem touches_execInvalForward : TouchesO 63389929924388108366726 t (execInvalForward a1 a2 a3 a4 a5 a6 t) := by
  unfold execInvalForward; rw [touchesO_next, touches_message (by decide) fun u => by
    rw [touches_mgServe (by decide) fun v => by simp]; simp]
  simp

theorem touches_execInvalConfirm : TouchesO 63389928798488201524102 t (execInvalConfirm a1 a2 t) := by
  simp [execInvalConfirm]

theorem touches_execInvalConfirmTimeout : TouchesO 58513678784504677794694 t (execInvalConfirmTimeout a1 t) := by
  simp [execInvalConfirmTimeout]

theorem touches_execWalkEntryRead : TouchesO 58519989488909568480134 t (execWalkEntryRead a1 t) := by
  simp [execWalkEntryRead]

end Sys2Proof.Machine
end

