-- ==== Sys2Proof/Laws/Scrub.lean ====
section
/-! SUPPORT. What each operation of Machine/Scrub.lean may touch. -/

namespace Sys2Proof.Machine

variable {m : Nat} {s t : State}

@[simp] theorem touches_forgetUser (hm : 2199023255552 &&& m = 2199023255552) : Touches m s (State.forgetUser t a1) ↔ Touches m s t :=
  Touches.peel hm (by simp [State.forgetUser])

@[simp] theorem touches_endAll (hm : 1845283241868748915590 &&& m = 1845283241868748915590) : Touches m s (State.endAll t a1 a2) ↔ Touches m s t :=
  Touches.peel hm (by simp [State.endAll])

@[simp] theorem touches_detach (hm : 13837309855096242176 &&& m = 13837309855096242176) : Touches m s (State.detach t a1) ↔ Touches m s t :=
  Touches.peel hm (by simp [State.detach])

@[simp] theorem touches_undoOps (hm : 61981663609321704517766 &&& m = 61981663609321704517766) : Touches m s (State.undoOps t a1) ↔ Touches m s t :=
  Touches.peel hm (by 
    unfold State.undoOps
    rw [Touches.each]
    · simp
    · intro u o; dsimp only; split
      · simp; exact (touches_applyMember (by assumption) (by decide)).2 (by simp)
      · simp)

@[simp] theorem touches_haltVoices (hm : 19327352832 &&& m = 19327352832) : Touches m s (State.haltVoices t a1) ↔ Touches m s t :=
  Touches.peel hm (by simp [State.haltVoices])

@[simp] theorem touches_clearCore (hm : 32212254720 &&& m = 32212254720) : Touches m s (State.clearCore t a1) ↔ Touches m s t :=
  Touches.peel hm (by simp [State.clearCore])

@[simp] theorem touches_settleAccesses (hm : 58519988363009661637510 &&& m = 58519988363009661637510) : Touches m s (State.settleAccesses t) ↔ Touches m s t :=
  Touches.peel hm (by 
    unfold State.settleAccesses
    rw [Touches.each]
    · simp
    · intro u e; rw [Touches.each] <;> simp)

@[simp] theorem touches_purge (hm : 58519988363009661637510 &&& m = 58519988363009661637510) : Touches m s (State.purge t) ↔ Touches m s t :=
  Touches.peel hm (by simp [State.purge])

@[simp] theorem touches_haltEngines (hm : 1770905445474626437120 &&& m = 1770905445474626437120) : Touches m s (State.haltEngines t a1) ↔ Touches m s t :=
  Touches.peel hm (by simp [State.haltEngines])

@[simp] theorem touches_stopInstall (hm : 590899296832478773382 &&& m = 590899296832478773382) : Touches m s (State.stopInstall t a1) ↔ Touches m s t :=
  Touches.peel hm (by unfold State.stopInstall; (repeat' (first | split | dsimp only)) <;> simp)

@[simp] theorem touches_dropItems (hm : 2218350612480 &&& m = 2218350612480) : Touches m s (State.dropItems t a1) ↔ Touches m s t :=
  Touches.peel hm (by simp [State.dropItems])

end Sys2Proof.Machine
end

