-- ==== Sys2Proof/Laws/Ras.lean ====
section
/-! SUPPORT. What each operation of Machine/Ras.lean may touch. -/

namespace Sys2Proof.Machine

variable {m : Nat} {s t : State}

@[simp] theorem touches_ack (hm : 73786980418006811010 &&& m = 73786980418006811010) : Touches m s (State.ack t a1 a2) ↔ Touches m s t :=
  Touches.peel hm (by unfold State.ack; (repeat' split) <;> simp)

@[simp] theorem touches_inject (hm : 73786980418006811010 &&& m = 73786980418006811010) : Touches m s (State.inject t a1 a2) ↔ Touches m s t :=
  Touches.peel hm (by simp [State.inject])

@[simp] theorem touches_logBase (hm : 73786980418006810752 &&& m = 73786980418006810752) : Touches m s (State.logBase t a1) ↔ Touches m s t :=
  Touches.peel hm (by simp [State.logBase])

@[simp] theorem touches_releaseReliefs (hm : 73786976294838206464 &&& m = 73786976294838206464) : Touches m s (State.releaseReliefs t a1) ↔ Touches m s t :=
  Touches.peel hm (by simp [State.releaseReliefs])

@[simp] theorem touches_rotationStops (hm : 4123168608384 &&& m = 4123168608384) : Touches m s (State.rotationStops t) ↔ Touches m s t :=
  Touches.peel hm (by simp [State.rotationStops])

@[simp] theorem touches_dropOperations (hm : 678523582982681723270 &&& m = 678523582982681723270) : Touches m s (State.dropOperations t) ↔ Touches m s t :=
  Touches.peel hm (by simp [State.dropOperations])

@[simp] theorem touches_fogEnter (hm : 2006694504333654299526 &&& m = 2006694504333654299526) : Touches m s (State.fogEnter t a1 a2) ↔ Touches m s t :=
  Touches.peel hm (by simp [State.fogEnter])

@[simp] theorem touches_repostWaits (hm : 864691128455135232 &&& m = 864691128455135232) : Touches m s (State.repostWaits t) ↔ Touches m s t :=
  Touches.peel hm (by 
    unfold State.repostWaits
    rw [Touches.each]
    · simp
    · intro u e; rw [Touches.each] <;> simp)

@[simp] theorem touches_fogEntered (hm : 58519989488939633251206 &&& m = 58519989488939633251206) : Touches m s (State.fogEntered t) ↔ Touches m s t :=
  Touches.peel hm (by simp [State.fogEntered])

@[simp] theorem touches_stopEmbedding (hm : 1845278738269926851462 &&& m = 1845278738269926851462) : Touches m s (State.stopEmbedding t) ↔ Touches m s t :=
  Touches.peel hm (by 
    unfold State.stopEmbedding; dsimp only
    rw [Touches.each]
    · rw [Touches.each] <;> simp
    · intro u i; split <;> simp)

@[simp] theorem touches_stopSessions (hm : 63236043050758884553606 &&& m = 63236043050758884553606) : Touches m s (State.stopSessions t) ↔ Touches m s t :=
  Touches.peel hm (by simp [State.stopSessions])

@[simp] theorem touches_stopReliefs (hm : 1845278738269121545094 &&& m = 1845278738269121545094) : Touches m s (State.stopReliefs t) ↔ Touches m s t :=
  Touches.peel hm (by simp [State.stopReliefs])

@[simp] theorem touches_stopRings (hm : 512 &&& m = 512) : Touches m s (State.stopRings t) ↔ Touches m s t :=
  Touches.peel hm (by simp [State.stopRings])

@[simp] theorem touches_resetBegin (hm : 63236047554378644583302 &&& m = 63236047554378644583302) : Touches m s (State.resetBegin t) ↔ Touches m s t :=
  Touches.peel hm (by 
    unfold State.resetBegin; dsimp only
    rw [Touches.each fun u r => by simp, touches_haltVoices (by decide), touches_stopReliefs (by decide), touches_stopSessions (by decide),
      touches_stopEmbedding (by decide), Touches.each]
    · simp
    · intro u r
      refine Touches.ite (fun _ => by simp) fun _ => ?_
      rw [Touches.each] <;> simp)

@[simp] theorem touches_jobReset (hm : 63236047554378644583302 &&& m = 63236047554378644583302) : Touches m s (State.jobReset t a1) ↔ Touches m s t :=
  Touches.peel hm (by simp [State.jobReset])

@[simp] theorem touches_resetEnds (hm : 58519989488939767468934 &&& m = 58519989488939767468934) : Touches m s (State.resetEnds t) ↔ Touches m s t :=
  Touches.peel hm (by simp [State.resetEnds])

@[simp] theorem touches_fenceBit (hm : 128 &&& m = 128) : Touches m s (State.fenceBit t a1 a2 a3) ↔ Touches m s t :=
  Touches.peel hm (by unfold State.fenceBit; (repeat' split) <;> simp)

@[simp] theorem touches_fenceUnit (hm : 73786980418006811010 &&& m = 73786980418006811010) : Touches m s (State.fenceUnit t a1 a2) ↔ Touches m s t :=
  Touches.peel hm (by simp [State.fenceUnit])

@[simp] theorem touches_fenceLifted (hm : 58519988363028875768710 &&& m = 58519988363028875768710) : Touches m s (State.fenceLifted t a1 a2) ↔ Touches m s t :=
  Touches.peel hm (by simp [State.fenceLifted])

@[simp] theorem touches_unitGone (hm : 63399152170525056299910 &&& m = 63399152170525056299910) : Touches m s (State.unitGone t a1 a2) ↔ Touches m s t :=
  Touches.peel hm (by simp [State.unitGone])

@[simp] theorem touches_compareFenced (hm : 63399152170525056299910 &&& m = 63399152170525056299910) : Touches m s (State.compareFenced t a1 a2) ↔ Touches m s t :=
  Touches.peel hm (by simp [State.compareFenced])

@[simp] theorem touches_reconcile (hm : 63399152170525056299910 &&& m = 63399152170525056299910) : Touches m s (State.reconcile t a1 a2) ↔ Touches m s t :=
  Touches.peel hm (by simp [State.reconcile])

@[simp] theorem touches_proxyLost (hm : 73786980418006811010 &&& m = 73786980418006811010) : Touches m s (State.proxyLost t) ↔ Touches m s t :=
  Touches.peel hm (by simp [State.proxyLost])

@[simp] theorem touches_timeWait (hm : 1851043345792155779974 &&& m = 1851043345792155779974) : Touches m s (State.timeWait t a1) ↔ Touches m s t :=
  Touches.peel hm (by simp [State.timeWait])

@[simp] theorem touches_timeHost (hm : 2 &&& m = 2) : Touches m s (State.timeHost t a1 a2) ↔ Touches m s t :=
  Touches.peel hm (by simp [State.timeHost])

@[simp] theorem touches_timeTransfers (hm : 1845283241868748915590 &&& m = 1845283241868748915590) : Touches m s (State.timeTransfers t a1 a2) ↔ Touches m s t :=
  Touches.peel hm (by 
    unfold State.timeTransfers
    rw [Touches.each]
    · simp
    · intro u r; dsimp only
      refine Touches.ite (fun _ => by simp) fun _ => ?_
      rw [Touches.each] <;> simp)

@[simp] theorem touches_timeFill (hm : 1851336079767934862214 &&& m = 1851336079767934862214) : Touches m s (State.timeFill t a1) ↔ Touches m s t :=
  Touches.peel hm (by 
    unfold State.timeFill; dsimp only
    rw [Touches.each]
    · split
      · simp
      · split <;> simp
    · intro u e; rw [Touches.each] <;> simp)

@[simp] theorem touches_fenceLate (hm : 63242354845898525111174 &&& m = 63242354845898525111174) : Touches m s (State.fenceLate t a1 a2) ↔ Touches m s t :=
  Touches.peel hm (by 
    unfold State.fenceLate; split
    · simp
    · refine Touches.ite (fun _ => by simp) fun _ => ?_
      dsimp only
      have h4 : ∀ u : State, Touches 63242354845898525111174 t u → Touches 63242354845898525111174 t (State.each u u.homeWaits fun s e =>
          State.each (s.setWaits e.1 (e.2.partition (s.waitNeeds a1 a2)).2) (e.2.partition (s.waitNeeds a1 a2)).1 State.timeWait) := by
        intro u hu
        rw [Touches.each]
        · exact hu
        · intro u e; rw [Touches.each] <;> simp
      have h8 : ∀ u : State, Touches 63242354845898525111174 t u → Touches 63242354845898525111174 t (if a1 = 2 then
          State.each u (u.voices.filter fun e => galleryOf e.1 == a2) fun s e =>
            State.each s e.2.out fun s a => s.endAccess e.1 a St.timeout else u) := by
        intro u hu
        refine Touches.ite (fun _ => ?_) fun _ => hu
        rw [Touches.each]
        · exact hu
        · intro u e; rw [Touches.each] <;> simp
      have hi : ∀ (c : Prop) [Decidable c] (u w : State), Touches 63242354845898525111174 t u → (c → Touches 63242354845898525111174 u w) →
          Touches 63242354845898525111174 t (if c then w else u) := by
        intro c _ u w hu hw
        exact Touches.ite (fun h => hu.trans (hw h)) fun _ => hu
      rw [touches_itemsEnd (by decide), touches_runNet (by decide)]
      refine h8 _ (hi _ _ _ (hi _ _ _ (hi _ _ _ ?_ fun _ => ?_) fun _ => ?_) fun _ => ?_)
      · rw [touches_timeTransfers (by decide)]
        exact h4 _ (by simp)
      · simp
      · simp
      · simp)

theorem touches_execKeeperReconciliation : TouchesO 63399152170525056299910 t (execKeeperReconciliation a1 a2 t) := by
  simp [execKeeperReconciliation]

theorem touches_execFenceTimeout : TouchesO 63242354845898525111174 t (execFenceTimeout a1 a2 t) := by
  simp [execFenceTimeout]

theorem touches_execProxyTimeout : TouchesO 73786980418006811010 t (execProxyTimeout t) := by
  simp [execProxyTimeout]

@[simp] theorem touches_rasCmd {act : State → State} (hm : 221360933007683223938 &&& m = 221360933007683223938) (hf : ∀ u, Touches m u (act u)) :
    Touches m s (State.rasCmd t a1 a2 act) ↔ Touches m s t := by
  have k : ∀ L, L &&& 221360933007683223938 = L → L &&& m = L := fun L h => Touches.sub h hm
  have hf' : ∀ {s u}, Touches m s (act u) ↔ Touches m s u := fun {s u} => Touches.peel (Nat.and_self m) (hf u)
  exact Touches.peel (Nat.and_self m) (by simp [State.rasCmd, k, hf'])

theorem touches_execJobReset : TouchesO 63383621506968320996230 t (execJobReset a1 t) := by
  simp [execJobReset]

theorem touches_execJobResetComplete : TouchesO 58519989488939767468934 t (execJobResetComplete t) := by
  simp [execJobResetComplete]

theorem touches_execFog : TouchesO 2006694504333654299526 t (execFog a1 t) := by
  simp [execFog]

theorem touches_execFogEntryComplete : TouchesO 58519989488939633251206 t (execFogEntryComplete t) := by
  simp [execFogEntryComplete]

theorem touches_execRasAck : TouchesO 221360933007683223938 t (execRasAck a1 a2 t) := by
  simp [execRasAck]

theorem touches_execRasInject : TouchesO 221360933007683223938 t (execRasInject a1 a2 t) := by
  simp [execRasInject]

theorem touches_execRasLogBaseWrite : TouchesO 221360933007683223938 t (execRasLogBaseWrite a1 a2 t) := by
  simp [execRasLogBaseWrite]

end Sys2Proof.Machine
end

