-- ==== Sys2Proof/Laws/Keeper.lean ====
section
/-! SUPPORT. What each operation of Machine/Keeper.lean may touch. -/

namespace Sys2Proof.Machine

variable {m : Nat} {s t : State}

@[simp] theorem touches_kprCommand {act : State → State × Byte × Bool} (hm : 239807677081392775554 &&& m = 239807677081392775554)
    (hf : ∀ u, Touches m u (act u).1) : Touches m s (State.kprCommand t a1 a2 a3 act) ↔ Touches m s t := by
  have k : ∀ L, L &&& 239807677081392775554 = L → L &&& m = L := fun L h => Touches.sub h hm
  have hf' : ∀ {s u}, Touches m s (act u).1 ↔ Touches m s u := fun {s u} => Touches.peel (Nat.and_self m) (hf u)
  unfold State.kprCommand
  refine touches_setupWrite (k _ (by decide)) fun u => ?_
  (repeat' split)
  · simp
  · simp [k]
  · simp [k]; exact (Touches.fst (by assumption)).2 (hf u)

@[simp] theorem touches_kprDone (hm : 18446744073709551874 &&& m = 18446744073709551874) : Touches m s (State.kprDone t) ↔ Touches m s t :=
  Touches.peel hm (by unfold State.kprDone; (repeat' split) <;> simp)

@[simp] theorem touches_applyEnables (hm : 58529211875803218899846 &&& m = 58529211875803218899846) : Touches m s (State.applyEnables t a1) ↔ Touches m s t :=
  Touches.peel hm (by simp [State.applyEnables])

@[simp] theorem touches_sealKeeper (hm : 58695232572466604864390 &&& m = 58695232572466604864390) : Touches m s (State.sealKeeper t a1).1 ↔ Touches m s t :=
  Touches.peel hm (by unfold State.sealKeeper; simp only [Touches.ite_fst]; simp)

@[simp] theorem touches_setAnchor (hm : 18446744073709551744 &&& m = 18446744073709551744) : Touches m s (State.setAnchor t a1 a2).1 ↔ Touches m s t :=
  Touches.peel hm (by unfold State.setAnchor; (repeat' split) <;> simp)

@[simp] theorem touches_stageFirmware (hm : 55340232221128654848 &&& m = 55340232221128654848) : Touches m s (State.stageFirmware t a1 a2 a3).1 ↔ Touches m s t :=
  Touches.peel hm (by unfold State.stageFirmware; (repeat' (first | split | dsimp only)) <;> simp)

@[simp] theorem touches_commit (hm : 36893488147419103232 &&& m = 36893488147419103232) : Touches m s (State.commit t a1).1 ↔ Touches m s t :=
  Touches.peel hm (by unfold State.commit; (repeat' split) <;> simp)

@[simp] theorem touches_mapNet (hm : 576460752303423488 &&& m = 576460752303423488) : Touches m s (State.mapNet t a1) ↔ Touches m s t :=
  Touches.peel hm (by simp [State.mapNet])

@[simp] theorem touches_emptyWrites (hm : 720575940379279360 &&& m = 720575940379279360) : Touches m s (State.emptyWrites t a1) ↔ Touches m s t :=
  Touches.peel hm (by simp [State.emptyWrites])

@[simp] theorem touches_dropWrites (hm : 1851475691356383347590 &&& m = 1851475691356383347590) : Touches m s (State.dropWrites t a1) ↔ Touches m s t :=
  Touches.peel hm (by 
    unfold State.dropWrites
    rw [Touches.each]
    · simp
    · intro u e; dsimp only; rw [Touches.each] <;> simp)

@[simp] theorem touches_dropAccesses (hm : 58513678784506825278342 &&& m = 58513678784506825278342) : Touches m s (State.dropAccesses t a1) ↔ Touches m s t :=
  Touches.peel hm (by 
    unfold State.dropAccesses
    rw [Touches.each]
    · simp
    · intro u e; rw [Touches.each] <;> simp)

@[simp] theorem touches_scrubCaches (hm : 58519988363009661637510 &&& m = 58519988363009661637510) : Touches m s (State.scrubCaches t a1) ↔ Touches m s t :=
  Touches.peel hm (by simp [State.scrubCaches])

@[simp] theorem touches_scrubCores (hm : 1845278738301602239366 &&& m = 1845278738301602239366) : Touches m s (State.scrubCores t a1) ↔ Touches m s t :=
  Touches.peel hm (by simp [State.scrubCores])

@[simp] theorem touches_scrub (hm : 63270026087921880134534 &&& m = 63270026087921880134534) : Touches m s (State.scrub t a1 a2) ↔ Touches m s t :=
  Touches.peel hm (by simp [State.scrub])

@[simp] theorem touches_switchPart (hm : 63270026087921880134534 &&& m = 63270026087921880134534) : Touches m s (State.switchPart t a1 a2 a3).1 ↔ Touches m s t :=
  Touches.peel hm (by unfold State.switchPart; (repeat' split) <;> simp)

@[simp] theorem touches_switchEnds (hm : 63254495424352260977542 &&& m = 63254495424352260977542) : Touches m s (State.switchEnds t a1) ↔ Touches m s t :=
  Touches.peel hm (by simp [State.switchEnds])

@[simp] theorem touches_mailboxSend (hm : 92233724491716362626 &&& m = 92233724491716362626) : Touches m s (State.mailboxSend t a1 a2) ↔ Touches m s t :=
  Touches.peel hm (by simp [State.mailboxSend])

@[simp] theorem touches_mailboxLoad (hm : 18446744073709552002 &&& m = 18446744073709552002) : Touches m s (State.mailboxLoad t a1) ↔ Touches m s t :=
  Touches.peel hm (by simp [State.mailboxLoad])

@[simp] theorem touches_mailboxAck (hm : 18446744073709552002 &&& m = 18446744073709552002) : Touches m s (State.mailboxAck t a1) ↔ Touches m s t :=
  Touches.peel hm (by simp [State.mailboxAck])

theorem touches_execSeal : TouchesO 58695232572466604864390 t (execSeal a1 t) := by
  simp [execSeal]

theorem touches_execAnchor : TouchesO 239807677081392775554 t (execAnchor a1 a2 t) := by
  simp [execAnchor]

theorem touches_execSwitch : TouchesO 63417600040511556547462 t (execSwitch a1 a2 a3 t) := by
  simp [execSwitch]

theorem touches_execSwitchComplete : TouchesO 63254495424352260977542 t (execSwitchComplete a1 t) := by
  simp [execSwitchComplete]

theorem touches_execFwStage : TouchesO 276701165228811878786 t (execFwStage a1 a2 a3 t) := by
  simp [execFwStage]

theorem touches_execCommitSvn : TouchesO 276701165228811878786 t (execCommitSvn a1 t) := by
  simp [execCommitSvn]

theorem touches_execKprCommandComplete : TouchesO 18446744073709551874 t (execKprCommandComplete t) := by
  simp [execKprCommandComplete]

theorem touches_execMailboxSend : TouchesO 239807677081392775554 t (execMailboxSend a1 a2 t) := by
  simp [execMailboxSend]

theorem touches_execMailboxRxAck : TouchesO 239807677081392775554 t (execMailboxRxAck a1 a2 t) := by
  simp [execMailboxRxAck]

end Sys2Proof.Machine
end

