-- ==== Sys2Proof/Laws/State.lean ====
section
/-! SUPPORT. The state's named updates, field by field: what each leaves as it was (all but one field), by rfl. -/

namespace Sys2Proof.Machine

variable (s : State)

/-! setRing changes rings. -/

@[simp] theorem State.setRing_pending (r : Nat) (x : Ring) : (s.setRing r x).pending = s.pending := rfl
@[simp] theorem State.setRing_out (r : Nat) (x : Ring) : (s.setRing r x).out = s.out := rfl
@[simp] theorem State.setRing_free (r : Nat) (x : Ring) : (s.setRing r x).free = s.free := rfl
@[simp] theorem State.setRing_variant (r : Nat) (x : Ring) : (s.setRing r x).variant = s.variant := rfl
@[simp] theorem State.setRing_time (r : Nat) (x : Ring) : (s.setRing r x).time = s.time := rfl
@[simp] theorem State.setRing_latch (r : Nat) (x : Ring) : (s.setRing r x).latch = s.latch := rfl
@[simp] theorem State.setRing_rwk (r : Nat) (x : Ring) : (s.setRing r x).rwk = s.rwk := rfl
@[simp] theorem State.setRing_regs (r : Nat) (x : Ring) : (s.setRing r x).regs = s.regs := rfl
@[simp] theorem State.setRing_ports (r : Nat) (x : Ring) : (s.setRing r x).ports = s.ports := rfl
@[simp] theorem State.setRing_ringCmd (r : Nat) (x : Ring) : (s.setRing r x).ringCmd = s.ringCmd := rfl
@[simp] theorem State.setRing_ringLast (r : Nat) (x : Ring) : (s.setRing r x).ringLast = s.ringLast := rfl
@[simp] theorem State.setRing_rot (r : Nat) (x : Ring) : (s.setRing r x).rot = s.rot := rfl
@[simp] theorem State.setRing_sessions (r : Nat) (x : Ring) : (s.setRing r x).sessions = s.sessions := rfl
@[simp] theorem State.setRing_leaves (r : Nat) (x : Ring) : (s.setRing r x).leaves = s.leaves := rfl
@[simp] theorem State.setRing_frames (r : Nat) (x : Ring) : (s.setRing r x).frames = s.frames := rfl
@[simp] theorem State.setRing_sesOps (r : Nat) (x : Ring) : (s.setRing r x).sesOps = s.sesOps := rfl
@[simp] theorem State.setRing_offers (r : Nat) (x : Ring) : (s.setRing r x).offers = s.offers := rfl
@[simp] theorem State.setRing_accepts (r : Nat) (x : Ring) : (s.setRing r x).accepts = s.accepts := rfl
@[simp] theorem State.setRing_pulls (r : Nat) (x : Ring) : (s.setRing r x).pulls = s.pulls := rfl
@[simp] theorem State.setRing_heldPulls (r : Nat) (x : Ring) : (s.setRing r x).heldPulls = s.heldPulls := rfl
@[simp] theorem State.setRing_discarded (r : Nat) (x : Ring) : (s.setRing r x).discarded = s.discarded := rfl
@[simp] theorem State.setRing_reclaims (r : Nat) (x : Ring) : (s.setRing r x).reclaims = s.reclaims := rfl
@[simp] theorem State.setRing_abftArm (r : Nat) (x : Ring) : (s.setRing r x).abftArm = s.abftArm := rfl
@[simp] theorem State.setRing_tables (r : Nat) (x : Ring) : (s.setRing r x).tables = s.tables := rfl
@[simp] theorem State.setRing_tabCmd (r : Nat) (x : Ring) : (s.setRing r x).tabCmd = s.tabCmd := rfl
@[simp] theorem State.setRing_tabLast (r : Nat) (x : Ring) : (s.setRing r x).tabLast = s.tabLast := rfl
@[simp] theorem State.setRing_steps (r : Nat) (x : Ring) : (s.setRing r x).steps = s.steps := rfl
@[simp] theorem State.setRing_grads (r : Nat) (x : Ring) : (s.setRing r x).grads = s.grads := rfl
@[simp] theorem State.setRing_installs (r : Nat) (x : Ring) : (s.setRing r x).installs = s.installs := rfl
@[simp] theorem State.setRing_poisonSteps (r : Nat) (x : Ring) : (s.setRing r x).poisonSteps = s.poisonSteps := rfl
@[simp] theorem State.setRing_voices (r : Nat) (x : Ring) : (s.setRing r x).voices = s.voices := rfl
@[simp] theorem State.setRing_pads (r : Nat) (x : Ring) : (s.setRing r x).pads = s.pads := rfl
@[simp] theorem State.setRing_carries (r : Nat) (x : Ring) : (s.setRing r x).carries = s.carries := rfl
@[simp] theorem State.setRing_amms (r : Nat) (x : Ring) : (s.setRing r x).amms = s.amms := rfl
@[simp] theorem State.setRing_gcache (r : Nat) (x : Ring) : (s.setRing r x).gcache = s.gcache := rfl
@[simp] theorem State.setRing_abuf (r : Nat) (x : Ring) : (s.setRing r x).abuf = s.abuf := rfl
@[simp] theorem State.setRing_victims (r : Nat) (x : Ring) : (s.setRing r x).victims = s.victims := rfl
@[simp] theorem State.setRing_pool (r : Nat) (x : Ring) : (s.setRing r x).pool = s.pool := rfl
@[simp] theorem State.setRing_poison (r : Nat) (x : Ring) : (s.setRing r x).poison = s.poison := rfl
@[simp] theorem State.setRing_lineKey (r : Nat) (x : Ring) : (s.setRing r x).lineKey = s.lineKey := rfl
@[simp] theorem State.setRing_granules (r : Nat) (x : Ring) : (s.setRing r x).granules = s.granules := rfl
@[simp] theorem State.setRing_backed (r : Nat) (x : Ring) : (s.setRing r x).backed = s.backed := rfl
@[simp] theorem State.setRing_preparing (r : Nat) (x : Ring) : (s.setRing r x).preparing = s.preparing := rfl
@[simp] theorem State.setRing_ready (r : Nat) (x : Ring) : (s.setRing r x).ready = s.ready := rfl
@[simp] theorem State.setRing_drives (r : Nat) (x : Ring) : (s.setRing r x).drives = s.drives := rfl
@[simp] theorem State.setRing_stripe (r : Nat) (x : Ring) : (s.setRing r x).stripe = s.stripe := rfl
@[simp] theorem State.setRing_ddr (r : Nat) (x : Ring) : (s.setRing r x).ddr = s.ddr := rfl
@[simp] theorem State.setRing_tlb (r : Nat) (x : Ring) : (s.setRing r x).tlb = s.tlb := rfl
@[simp] theorem State.setRing_walkCache (r : Nat) (x : Ring) : (s.setRing r x).walkCache = s.walkCache := rfl
@[simp] theorem State.setRing_walks (r : Nat) (x : Ring) : (s.setRing r x).walks = s.walks := rfl
@[simp] theorem State.setRing_bcasts (r : Nat) (x : Ring) : (s.setRing r x).bcasts = s.bcasts := rfl
@[simp] theorem State.setRing_blocks (r : Nat) (x : Ring) : (s.setRing r x).blocks = s.blocks := rfl
@[simp] theorem State.setRing_links (r : Nat) (x : Ring) : (s.setRing r x).links = s.links := rfl
@[simp] theorem State.setRing_tags (r : Nat) (x : Ring) : (s.setRing r x).tags = s.tags := rfl
@[simp] theorem State.setRing_dir (r : Nat) (x : Ring) : (s.setRing r x).dir = s.dir := rfl
@[simp] theorem State.setRing_dirSeq (r : Nat) (x : Ring) : (s.setRing r x).dirSeq = s.dirSeq := rfl
@[simp] theorem State.setRing_txns (r : Nat) (x : Ring) : (s.setRing r x).txns = s.txns := rfl
@[simp] theorem State.setRing_homeWaits (r : Nat) (x : Ring) : (s.setRing r x).homeWaits = s.homeWaits := rfl
@[simp] theorem State.setRing_net (r : Nat) (x : Ring) : (s.setRing r x).net = s.net := rfl
@[simp] theorem State.setRing_marks (r : Nat) (x : Ring) : (s.setRing r x).marks = s.marks := rfl
@[simp] theorem State.setRing_mgQueue (r : Nat) (x : Ring) : (s.setRing r x).mgQueue = s.mgQueue := rfl
@[simp] theorem State.setRing_drains (r : Nat) (x : Ring) : (s.setRing r x).drains = s.drains := rfl
@[simp] theorem State.setRing_modeSwitches (r : Nat) (x : Ring) : (s.setRing r x).modeSwitches = s.modeSwitches := rfl
@[simp] theorem State.setRing_keeper (r : Nat) (x : Ring) : (s.setRing r x).keeper = s.keeper := rfl
@[simp] theorem State.setRing_nvm (r : Nat) (x : Ring) : (s.setRing r x).nvm = s.nvm := rfl
@[simp] theorem State.setRing_ras (r : Nat) (x : Ring) : (s.setRing r x).ras = s.ras := rfl
@[simp] theorem State.setRing_pwr (r : Nat) (x : Ring) : (s.setRing r x).pwr = s.pwr := rfl
@[simp] theorem State.setRing_use (r : Nat) (x : Ring) : (s.setRing r x).use = s.use := rfl
@[simp] theorem State.setRing_engineQ (r : Nat) (x : Ring) : (s.setRing r x).engineQ = s.engineQ := rfl
@[simp] theorem State.setRing_came (r : Nat) (x : Ring) : (s.setRing r x).came = s.came := rfl
@[simp] theorem State.setRing_heldOps (r : Nat) (x : Ring) : (s.setRing r x).heldOps = s.heldOps := rfl
@[simp] theorem State.setRing_receiving (r : Nat) (x : Ring) : (s.setRing r x).receiving = s.receiving := rfl
@[simp] theorem State.setRing_sesCache (r : Nat) (x : Ring) : (s.setRing r x).sesCache = s.sesCache := rfl
@[simp] theorem State.setRing_mgWaits (r : Nat) (x : Ring) : (s.setRing r x).mgWaits = s.mgWaits := rfl
@[simp] theorem State.setRing_missed (r : Nat) (x : Ring) : (s.setRing r x).missed = s.missed := rfl

/-! updRing changes rings. -/

@[simp] theorem State.updRing_pending (r : Nat) (f : Ring → Ring) : (s.updRing r f).pending = s.pending := rfl
@[simp] theorem State.updRing_out (r : Nat) (f : Ring → Ring) : (s.updRing r f).out = s.out := rfl
@[simp] theorem State.updRing_free (r : Nat) (f : Ring → Ring) : (s.updRing r f).free = s.free := rfl
@[simp] theorem State.updRing_variant (r : Nat) (f : Ring → Ring) : (s.updRing r f).variant = s.variant := rfl
@[simp] theorem State.updRing_time (r : Nat) (f : Ring → Ring) : (s.updRing r f).time = s.time := rfl
@[simp] theorem State.updRing_latch (r : Nat) (f : Ring → Ring) : (s.updRing r f).latch = s.latch := rfl
@[simp] theorem State.updRing_rwk (r : Nat) (f : Ring → Ring) : (s.updRing r f).rwk = s.rwk := rfl
@[simp] theorem State.updRing_regs (r : Nat) (f : Ring → Ring) : (s.updRing r f).regs = s.regs := rfl
@[simp] theorem State.updRing_ports (r : Nat) (f : Ring → Ring) : (s.updRing r f).ports = s.ports := rfl
@[simp] theorem State.updRing_ringCmd (r : Nat) (f : Ring → Ring) : (s.updRing r f).ringCmd = s.ringCmd := rfl
@[simp] theorem State.updRing_ringLast (r : Nat) (f : Ring → Ring) : (s.updRing r f).ringLast = s.ringLast := rfl
@[simp] theorem State.updRing_rot (r : Nat) (f : Ring → Ring) : (s.updRing r f).rot = s.rot := rfl
@[simp] theorem State.updRing_sessions (r : Nat) (f : Ring → Ring) : (s.updRing r f).sessions = s.sessions := rfl
@[simp] theorem State.updRing_leaves (r : Nat) (f : Ring → Ring) : (s.updRing r f).leaves = s.leaves := rfl
@[simp] theorem State.updRing_frames (r : Nat) (f : Ring → Ring) : (s.updRing r f).frames = s.frames := rfl
@[simp] theorem State.updRing_sesOps (r : Nat) (f : Ring → Ring) : (s.updRing r f).sesOps = s.sesOps := rfl
@[simp] theorem State.updRing_offers (r : Nat) (f : Ring → Ring) : (s.updRing r f).offers = s.offers := rfl
@[simp] theorem State.updRing_accepts (r : Nat) (f : Ring → Ring) : (s.updRing r f).accepts = s.accepts := rfl
@[simp] theorem State.updRing_pulls (r : Nat) (f : Ring → Ring) : (s.updRing r f).pulls = s.pulls := rfl
@[simp] theorem State.updRing_heldPulls (r : Nat) (f : Ring → Ring) : (s.updRing r f).heldPulls = s.heldPulls := rfl
@[simp] theorem State.updRing_discarded (r : Nat) (f : Ring → Ring) : (s.updRing r f).discarded = s.discarded := rfl
@[simp] theorem State.updRing_reclaims (r : Nat) (f : Ring → Ring) : (s.updRing r f).reclaims = s.reclaims := rfl
@[simp] theorem State.updRing_abftArm (r : Nat) (f : Ring → Ring) : (s.updRing r f).abftArm = s.abftArm := rfl
@[simp] theorem State.updRing_tables (r : Nat) (f : Ring → Ring) : (s.updRing r f).tables = s.tables := rfl
@[simp] theorem State.updRing_tabCmd (r : Nat) (f : Ring → Ring) : (s.updRing r f).tabCmd = s.tabCmd := rfl
@[simp] theorem State.updRing_tabLast (r : Nat) (f : Ring → Ring) : (s.updRing r f).tabLast = s.tabLast := rfl
@[simp] theorem State.updRing_steps (r : Nat) (f : Ring → Ring) : (s.updRing r f).steps = s.steps := rfl
@[simp] theorem State.updRing_grads (r : Nat) (f : Ring → Ring) : (s.updRing r f).grads = s.grads := rfl
@[simp] theorem State.updRing_installs (r : Nat) (f : Ring → Ring) : (s.updRing r f).installs = s.installs := rfl
@[simp] theorem State.updRing_poisonSteps (r : Nat) (f : Ring → Ring) : (s.updRing r f).poisonSteps = s.poisonSteps := rfl
@[simp] theorem State.updRing_voices (r : Nat) (f : Ring → Ring) : (s.updRing r f).voices = s.voices := rfl
@[simp] theorem State.updRing_pads (r : Nat) (f : Ring → Ring) : (s.updRing r f).pads = s.pads := rfl
@[simp] theorem State.updRing_carries (r : Nat) (f : Ring → Ring) : (s.updRing r f).carries = s.carries := rfl
@[simp] theorem State.updRing_amms (r : Nat) (f : Ring → Ring) : (s.updRing r f).amms = s.amms := rfl
@[simp] theorem State.updRing_gcache (r : Nat) (f : Ring → Ring) : (s.updRing r f).gcache = s.gcache := rfl
@[simp] theorem State.updRing_abuf (r : Nat) (f : Ring → Ring) : (s.updRing r f).abuf = s.abuf := rfl
@[simp] theorem State.updRing_victims (r : Nat) (f : Ring → Ring) : (s.updRing r f).victims = s.victims := rfl
@[simp] theorem State.updRing_pool (r : Nat) (f : Ring → Ring) : (s.updRing r f).pool = s.pool := rfl
@[simp] theorem State.updRing_poison (r : Nat) (f : Ring → Ring) : (s.updRing r f).poison = s.poison := rfl
@[simp] theorem State.updRing_lineKey (r : Nat) (f : Ring → Ring) : (s.updRing r f).lineKey = s.lineKey := rfl
@[simp] theorem State.updRing_granules (r : Nat) (f : Ring → Ring) : (s.updRing r f).granules = s.granules := rfl
@[simp] theorem State.updRing_backed (r : Nat) (f : Ring → Ring) : (s.updRing r f).backed = s.backed := rfl
@[simp] theorem State.updRing_preparing (r : Nat) (f : Ring → Ring) : (s.updRing r f).preparing = s.preparing := rfl
@[simp] theorem State.updRing_ready (r : Nat) (f : Ring → Ring) : (s.updRing r f).ready = s.ready := rfl
@[simp] theorem State.updRing_drives (r : Nat) (f : Ring → Ring) : (s.updRing r f).drives = s.drives := rfl
@[simp] theorem State.updRing_stripe (r : Nat) (f : Ring → Ring) : (s.updRing r f).stripe = s.stripe := rfl
@[simp] theorem State.updRing_ddr (r : Nat) (f : Ring → Ring) : (s.updRing r f).ddr = s.ddr := rfl
@[simp] theorem State.updRing_tlb (r : Nat) (f : Ring → Ring) : (s.updRing r f).tlb = s.tlb := rfl
@[simp] theorem State.updRing_walkCache (r : Nat) (f : Ring → Ring) : (s.updRing r f).walkCache = s.walkCache := rfl
@[simp] theorem State.updRing_walks (r : Nat) (f : Ring → Ring) : (s.updRing r f).walks = s.walks := rfl
@[simp] theorem State.updRing_bcasts (r : Nat) (f : Ring → Ring) : (s.updRing r f).bcasts = s.bcasts := rfl
@[simp] theorem State.updRing_blocks (r : Nat) (f : Ring → Ring) : (s.updRing r f).blocks = s.blocks := rfl
@[simp] theorem State.updRing_links (r : Nat) (f : Ring → Ring) : (s.updRing r f).links = s.links := rfl
@[simp] theorem State.updRing_tags (r : Nat) (f : Ring → Ring) : (s.updRing r f).tags = s.tags := rfl
@[simp] theorem State.updRing_dir (r : Nat) (f : Ring → Ring) : (s.updRing r f).dir = s.dir := rfl
@[simp] theorem State.updRing_dirSeq (r : Nat) (f : Ring → Ring) : (s.updRing r f).dirSeq = s.dirSeq := rfl
@[simp] theorem State.updRing_txns (r : Nat) (f : Ring → Ring) : (s.updRing r f).txns = s.txns := rfl
@[simp] theorem State.updRing_homeWaits (r : Nat) (f : Ring → Ring) : (s.updRing r f).homeWaits = s.homeWaits := rfl
@[simp] theorem State.updRing_net (r : Nat) (f : Ring → Ring) : (s.updRing r f).net = s.net := rfl
@[simp] theorem State.updRing_marks (r : Nat) (f : Ring → Ring) : (s.updRing r f).marks = s.marks := rfl
@[simp] theorem State.updRing_mgQueue (r : Nat) (f : Ring → Ring) : (s.updRing r f).mgQueue = s.mgQueue := rfl
@[simp] theorem State.updRing_drains (r : Nat) (f : Ring → Ring) : (s.updRing r f).drains = s.drains := rfl
@[simp] theorem State.updRing_modeSwitches (r : Nat) (f : Ring → Ring) : (s.updRing r f).modeSwitches = s.modeSwitches := rfl
@[simp] theorem State.updRing_keeper (r : Nat) (f : Ring → Ring) : (s.updRing r f).keeper = s.keeper := rfl
@[simp] theorem State.updRing_nvm (r : Nat) (f : Ring → Ring) : (s.updRing r f).nvm = s.nvm := rfl
@[simp] theorem State.updRing_ras (r : Nat) (f : Ring → Ring) : (s.updRing r f).ras = s.ras := rfl
@[simp] theorem State.updRing_pwr (r : Nat) (f : Ring → Ring) : (s.updRing r f).pwr = s.pwr := rfl
@[simp] theorem State.updRing_use (r : Nat) (f : Ring → Ring) : (s.updRing r f).use = s.use := rfl
@[simp] theorem State.updRing_engineQ (r : Nat) (f : Ring → Ring) : (s.updRing r f).engineQ = s.engineQ := rfl
@[simp] theorem State.updRing_came (r : Nat) (f : Ring → Ring) : (s.updRing r f).came = s.came := rfl
@[simp] theorem State.updRing_heldOps (r : Nat) (f : Ring → Ring) : (s.updRing r f).heldOps = s.heldOps := rfl
@[simp] theorem State.updRing_receiving (r : Nat) (f : Ring → Ring) : (s.updRing r f).receiving = s.receiving := rfl
@[simp] theorem State.updRing_sesCache (r : Nat) (f : Ring → Ring) : (s.updRing r f).sesCache = s.sesCache := rfl
@[simp] theorem State.updRing_mgWaits (r : Nat) (f : Ring → Ring) : (s.updRing r f).mgWaits = s.mgWaits := rfl
@[simp] theorem State.updRing_missed (r : Nat) (f : Ring → Ring) : (s.updRing r f).missed = s.missed := rfl

/-! updPort changes ports. -/

@[simp] theorem State.updPort_pending (p : Nat) (f : HostPort → HostPort) : (s.updPort p f).pending = s.pending := rfl
@[simp] theorem State.updPort_out (p : Nat) (f : HostPort → HostPort) : (s.updPort p f).out = s.out := rfl
@[simp] theorem State.updPort_free (p : Nat) (f : HostPort → HostPort) : (s.updPort p f).free = s.free := rfl
@[simp] theorem State.updPort_variant (p : Nat) (f : HostPort → HostPort) : (s.updPort p f).variant = s.variant := rfl
@[simp] theorem State.updPort_time (p : Nat) (f : HostPort → HostPort) : (s.updPort p f).time = s.time := rfl
@[simp] theorem State.updPort_latch (p : Nat) (f : HostPort → HostPort) : (s.updPort p f).latch = s.latch := rfl
@[simp] theorem State.updPort_rwk (p : Nat) (f : HostPort → HostPort) : (s.updPort p f).rwk = s.rwk := rfl
@[simp] theorem State.updPort_regs (p : Nat) (f : HostPort → HostPort) : (s.updPort p f).regs = s.regs := rfl
@[simp] theorem State.updPort_rings (p : Nat) (f : HostPort → HostPort) : (s.updPort p f).rings = s.rings := rfl
@[simp] theorem State.updPort_ringCmd (p : Nat) (f : HostPort → HostPort) : (s.updPort p f).ringCmd = s.ringCmd := rfl
@[simp] theorem State.updPort_ringLast (p : Nat) (f : HostPort → HostPort) : (s.updPort p f).ringLast = s.ringLast := rfl
@[simp] theorem State.updPort_rot (p : Nat) (f : HostPort → HostPort) : (s.updPort p f).rot = s.rot := rfl
@[simp] theorem State.updPort_sessions (p : Nat) (f : HostPort → HostPort) : (s.updPort p f).sessions = s.sessions := rfl
@[simp] theorem State.updPort_leaves (p : Nat) (f : HostPort → HostPort) : (s.updPort p f).leaves = s.leaves := rfl
@[simp] theorem State.updPort_frames (p : Nat) (f : HostPort → HostPort) : (s.updPort p f).frames = s.frames := rfl
@[simp] theorem State.updPort_sesOps (p : Nat) (f : HostPort → HostPort) : (s.updPort p f).sesOps = s.sesOps := rfl
@[simp] theorem State.updPort_offers (p : Nat) (f : HostPort → HostPort) : (s.updPort p f).offers = s.offers := rfl
@[simp] theorem State.updPort_accepts (p : Nat) (f : HostPort → HostPort) : (s.updPort p f).accepts = s.accepts := rfl
@[simp] theorem State.updPort_pulls (p : Nat) (f : HostPort → HostPort) : (s.updPort p f).pulls = s.pulls := rfl
@[simp] theorem State.updPort_heldPulls (p : Nat) (f : HostPort → HostPort) : (s.updPort p f).heldPulls = s.heldPulls := rfl
@[simp] theorem State.updPort_discarded (p : Nat) (f : HostPort → HostPort) : (s.updPort p f).discarded = s.discarded := rfl
@[simp] theorem State.updPort_reclaims (p : Nat) (f : HostPort → HostPort) : (s.updPort p f).reclaims = s.reclaims := rfl
@[simp] theorem State.updPort_abftArm (p : Nat) (f : HostPort → HostPort) : (s.updPort p f).abftArm = s.abftArm := rfl
@[simp] theorem State.updPort_tables (p : Nat) (f : HostPort → HostPort) : (s.updPort p f).tables = s.tables := rfl
@[simp] theorem State.updPort_tabCmd (p : Nat) (f : HostPort → HostPort) : (s.updPort p f).tabCmd = s.tabCmd := rfl
@[simp] theorem State.updPort_tabLast (p : Nat) (f : HostPort → HostPort) : (s.updPort p f).tabLast = s.tabLast := rfl
@[simp] theorem State.updPort_steps (p : Nat) (f : HostPort → HostPort) : (s.updPort p f).steps = s.steps := rfl
@[simp] theorem State.updPort_grads (p : Nat) (f : HostPort → HostPort) : (s.updPort p f).grads = s.grads := rfl
@[simp] theorem State.updPort_installs (p : Nat) (f : HostPort → HostPort) : (s.updPort p f).installs = s.installs := rfl
@[simp] theorem State.updPort_poisonSteps (p : Nat) (f : HostPort → HostPort) : (s.updPort p f).poisonSteps = s.poisonSteps := rfl
@[simp] theorem State.updPort_voices (p : Nat) (f : HostPort → HostPort) : (s.updPort p f).voices = s.voices := rfl
@[simp] theorem State.updPort_pads (p : Nat) (f : HostPort → HostPort) : (s.updPort p f).pads = s.pads := rfl
@[simp] theorem State.updPort_carries (p : Nat) (f : HostPort → HostPort) : (s.updPort p f).carries = s.carries := rfl
@[simp] theorem State.updPort_amms (p : Nat) (f : HostPort → HostPort) : (s.updPort p f).amms = s.amms := rfl
@[simp] theorem State.updPort_gcache (p : Nat) (f : HostPort → HostPort) : (s.updPort p f).gcache = s.gcache := rfl
@[simp] theorem State.updPort_abuf (p : Nat) (f : HostPort → HostPort) : (s.updPort p f).abuf = s.abuf := rfl
@[simp] theorem State.updPort_victims (p : Nat) (f : HostPort → HostPort) : (s.updPort p f).victims = s.victims := rfl
@[simp] theorem State.updPort_pool (p : Nat) (f : HostPort → HostPort) : (s.updPort p f).pool = s.pool := rfl
@[simp] theorem State.updPort_poison (p : Nat) (f : HostPort → HostPort) : (s.updPort p f).poison = s.poison := rfl
@[simp] theorem State.updPort_lineKey (p : Nat) (f : HostPort → HostPort) : (s.updPort p f).lineKey = s.lineKey := rfl
@[simp] theorem State.updPort_granules (p : Nat) (f : HostPort → HostPort) : (s.updPort p f).granules = s.granules := rfl
@[simp] theorem State.updPort_backed (p : Nat) (f : HostPort → HostPort) : (s.updPort p f).backed = s.backed := rfl
@[simp] theorem State.updPort_preparing (p : Nat) (f : HostPort → HostPort) : (s.updPort p f).preparing = s.preparing := rfl
@[simp] theorem State.updPort_ready (p : Nat) (f : HostPort → HostPort) : (s.updPort p f).ready = s.ready := rfl
@[simp] theorem State.updPort_drives (p : Nat) (f : HostPort → HostPort) : (s.updPort p f).drives = s.drives := rfl
@[simp] theorem State.updPort_stripe (p : Nat) (f : HostPort → HostPort) : (s.updPort p f).stripe = s.stripe := rfl
@[simp] theorem State.updPort_ddr (p : Nat) (f : HostPort → HostPort) : (s.updPort p f).ddr = s.ddr := rfl
@[simp] theorem State.updPort_tlb (p : Nat) (f : HostPort → HostPort) : (s.updPort p f).tlb = s.tlb := rfl
@[simp] theorem State.updPort_walkCache (p : Nat) (f : HostPort → HostPort) : (s.updPort p f).walkCache = s.walkCache := rfl
@[simp] theorem State.updPort_walks (p : Nat) (f : HostPort → HostPort) : (s.updPort p f).walks = s.walks := rfl
@[simp] theorem State.updPort_bcasts (p : Nat) (f : HostPort → HostPort) : (s.updPort p f).bcasts = s.bcasts := rfl
@[simp] theorem State.updPort_blocks (p : Nat) (f : HostPort → HostPort) : (s.updPort p f).blocks = s.blocks := rfl
@[simp] theorem State.updPort_links (p : Nat) (f : HostPort → HostPort) : (s.updPort p f).links = s.links := rfl
@[simp] theorem State.updPort_tags (p : Nat) (f : HostPort → HostPort) : (s.updPort p f).tags = s.tags := rfl
@[simp] theorem State.updPort_dir (p : Nat) (f : HostPort → HostPort) : (s.updPort p f).dir = s.dir := rfl
@[simp] theorem State.updPort_dirSeq (p : Nat) (f : HostPort → HostPort) : (s.updPort p f).dirSeq = s.dirSeq := rfl
@[simp] theorem State.updPort_txns (p : Nat) (f : HostPort → HostPort) : (s.updPort p f).txns = s.txns := rfl
@[simp] theorem State.updPort_homeWaits (p : Nat) (f : HostPort → HostPort) : (s.updPort p f).homeWaits = s.homeWaits := rfl
@[simp] theorem State.updPort_net (p : Nat) (f : HostPort → HostPort) : (s.updPort p f).net = s.net := rfl
@[simp] theorem State.updPort_marks (p : Nat) (f : HostPort → HostPort) : (s.updPort p f).marks = s.marks := rfl
@[simp] theorem State.updPort_mgQueue (p : Nat) (f : HostPort → HostPort) : (s.updPort p f).mgQueue = s.mgQueue := rfl
@[simp] theorem State.updPort_drains (p : Nat) (f : HostPort → HostPort) : (s.updPort p f).drains = s.drains := rfl
@[simp] theorem State.updPort_modeSwitches (p : Nat) (f : HostPort → HostPort) : (s.updPort p f).modeSwitches = s.modeSwitches := rfl
@[simp] theorem State.updPort_keeper (p : Nat) (f : HostPort → HostPort) : (s.updPort p f).keeper = s.keeper := rfl
@[simp] theorem State.updPort_nvm (p : Nat) (f : HostPort → HostPort) : (s.updPort p f).nvm = s.nvm := rfl
@[simp] theorem State.updPort_ras (p : Nat) (f : HostPort → HostPort) : (s.updPort p f).ras = s.ras := rfl
@[simp] theorem State.updPort_pwr (p : Nat) (f : HostPort → HostPort) : (s.updPort p f).pwr = s.pwr := rfl
@[simp] theorem State.updPort_use (p : Nat) (f : HostPort → HostPort) : (s.updPort p f).use = s.use := rfl
@[simp] theorem State.updPort_engineQ (p : Nat) (f : HostPort → HostPort) : (s.updPort p f).engineQ = s.engineQ := rfl
@[simp] theorem State.updPort_came (p : Nat) (f : HostPort → HostPort) : (s.updPort p f).came = s.came := rfl
@[simp] theorem State.updPort_heldOps (p : Nat) (f : HostPort → HostPort) : (s.updPort p f).heldOps = s.heldOps := rfl
@[simp] theorem State.updPort_receiving (p : Nat) (f : HostPort → HostPort) : (s.updPort p f).receiving = s.receiving := rfl
@[simp] theorem State.updPort_sesCache (p : Nat) (f : HostPort → HostPort) : (s.updPort p f).sesCache = s.sesCache := rfl
@[simp] theorem State.updPort_mgWaits (p : Nat) (f : HostPort → HostPort) : (s.updPort p f).mgWaits = s.mgWaits := rfl
@[simp] theorem State.updPort_missed (p : Nat) (f : HostPort → HostPort) : (s.updPort p f).missed = s.missed := rfl

/-! setSession changes sessions. -/

@[simp] theorem State.setSession_pending (h : Nat) (x : Session) : (s.setSession h x).pending = s.pending := rfl
@[simp] theorem State.setSession_out (h : Nat) (x : Session) : (s.setSession h x).out = s.out := rfl
@[simp] theorem State.setSession_free (h : Nat) (x : Session) : (s.setSession h x).free = s.free := rfl
@[simp] theorem State.setSession_variant (h : Nat) (x : Session) : (s.setSession h x).variant = s.variant := rfl
@[simp] theorem State.setSession_time (h : Nat) (x : Session) : (s.setSession h x).time = s.time := rfl
@[simp] theorem State.setSession_latch (h : Nat) (x : Session) : (s.setSession h x).latch = s.latch := rfl
@[simp] theorem State.setSession_rwk (h : Nat) (x : Session) : (s.setSession h x).rwk = s.rwk := rfl
@[simp] theorem State.setSession_regs (h : Nat) (x : Session) : (s.setSession h x).regs = s.regs := rfl
@[simp] theorem State.setSession_ports (h : Nat) (x : Session) : (s.setSession h x).ports = s.ports := rfl
@[simp] theorem State.setSession_rings (h : Nat) (x : Session) : (s.setSession h x).rings = s.rings := rfl
@[simp] theorem State.setSession_ringCmd (h : Nat) (x : Session) : (s.setSession h x).ringCmd = s.ringCmd := rfl
@[simp] theorem State.setSession_ringLast (h : Nat) (x : Session) : (s.setSession h x).ringLast = s.ringLast := rfl
@[simp] theorem State.setSession_rot (h : Nat) (x : Session) : (s.setSession h x).rot = s.rot := rfl
@[simp] theorem State.setSession_leaves (h : Nat) (x : Session) : (s.setSession h x).leaves = s.leaves := rfl
@[simp] theorem State.setSession_frames (h : Nat) (x : Session) : (s.setSession h x).frames = s.frames := rfl
@[simp] theorem State.setSession_sesOps (h : Nat) (x : Session) : (s.setSession h x).sesOps = s.sesOps := rfl
@[simp] theorem State.setSession_offers (h : Nat) (x : Session) : (s.setSession h x).offers = s.offers := rfl
@[simp] theorem State.setSession_accepts (h : Nat) (x : Session) : (s.setSession h x).accepts = s.accepts := rfl
@[simp] theorem State.setSession_pulls (h : Nat) (x : Session) : (s.setSession h x).pulls = s.pulls := rfl
@[simp] theorem State.setSession_heldPulls (h : Nat) (x : Session) : (s.setSession h x).heldPulls = s.heldPulls := rfl
@[simp] theorem State.setSession_discarded (h : Nat) (x : Session) : (s.setSession h x).discarded = s.discarded := rfl
@[simp] theorem State.setSession_reclaims (h : Nat) (x : Session) : (s.setSession h x).reclaims = s.reclaims := rfl
@[simp] theorem State.setSession_abftArm (h : Nat) (x : Session) : (s.setSession h x).abftArm = s.abftArm := rfl
@[simp] theorem State.setSession_tables (h : Nat) (x : Session) : (s.setSession h x).tables = s.tables := rfl
@[simp] theorem State.setSession_tabCmd (h : Nat) (x : Session) : (s.setSession h x).tabCmd = s.tabCmd := rfl
@[simp] theorem State.setSession_tabLast (h : Nat) (x : Session) : (s.setSession h x).tabLast = s.tabLast := rfl
@[simp] theorem State.setSession_steps (h : Nat) (x : Session) : (s.setSession h x).steps = s.steps := rfl
@[simp] theorem State.setSession_grads (h : Nat) (x : Session) : (s.setSession h x).grads = s.grads := rfl
@[simp] theorem State.setSession_installs (h : Nat) (x : Session) : (s.setSession h x).installs = s.installs := rfl
@[simp] theorem State.setSession_poisonSteps (h : Nat) (x : Session) : (s.setSession h x).poisonSteps = s.poisonSteps := rfl
@[simp] theorem State.setSession_voices (h : Nat) (x : Session) : (s.setSession h x).voices = s.voices := rfl
@[simp] theorem State.setSession_pads (h : Nat) (x : Session) : (s.setSession h x).pads = s.pads := rfl
@[simp] theorem State.setSession_carries (h : Nat) (x : Session) : (s.setSession h x).carries = s.carries := rfl
@[simp] theorem State.setSession_amms (h : Nat) (x : Session) : (s.setSession h x).amms = s.amms := rfl
@[simp] theorem State.setSession_gcache (h : Nat) (x : Session) : (s.setSession h x).gcache = s.gcache := rfl
@[simp] theorem State.setSession_abuf (h : Nat) (x : Session) : (s.setSession h x).abuf = s.abuf := rfl
@[simp] theorem State.setSession_victims (h : Nat) (x : Session) : (s.setSession h x).victims = s.victims := rfl
@[simp] theorem State.setSession_pool (h : Nat) (x : Session) : (s.setSession h x).pool = s.pool := rfl
@[simp] theorem State.setSession_poison (h : Nat) (x : Session) : (s.setSession h x).poison = s.poison := rfl
@[simp] theorem State.setSession_lineKey (h : Nat) (x : Session) : (s.setSession h x).lineKey = s.lineKey := rfl
@[simp] theorem State.setSession_granules (h : Nat) (x : Session) : (s.setSession h x).granules = s.granules := rfl
@[simp] theorem State.setSession_backed (h : Nat) (x : Session) : (s.setSession h x).backed = s.backed := rfl
@[simp] theorem State.setSession_preparing (h : Nat) (x : Session) : (s.setSession h x).preparing = s.preparing := rfl
@[simp] theorem State.setSession_ready (h : Nat) (x : Session) : (s.setSession h x).ready = s.ready := rfl
@[simp] theorem State.setSession_drives (h : Nat) (x : Session) : (s.setSession h x).drives = s.drives := rfl
@[simp] theorem State.setSession_stripe (h : Nat) (x : Session) : (s.setSession h x).stripe = s.stripe := rfl
@[simp] theorem State.setSession_ddr (h : Nat) (x : Session) : (s.setSession h x).ddr = s.ddr := rfl
@[simp] theorem State.setSession_tlb (h : Nat) (x : Session) : (s.setSession h x).tlb = s.tlb := rfl
@[simp] theorem State.setSession_walkCache (h : Nat) (x : Session) : (s.setSession h x).walkCache = s.walkCache := rfl
@[simp] theorem State.setSession_walks (h : Nat) (x : Session) : (s.setSession h x).walks = s.walks := rfl
@[simp] theorem State.setSession_bcasts (h : Nat) (x : Session) : (s.setSession h x).bcasts = s.bcasts := rfl
@[simp] theorem State.setSession_blocks (h : Nat) (x : Session) : (s.setSession h x).blocks = s.blocks := rfl
@[simp] theorem State.setSession_links (h : Nat) (x : Session) : (s.setSession h x).links = s.links := rfl
@[simp] theorem State.setSession_tags (h : Nat) (x : Session) : (s.setSession h x).tags = s.tags := rfl
@[simp] theorem State.setSession_dir (h : Nat) (x : Session) : (s.setSession h x).dir = s.dir := rfl
@[simp] theorem State.setSession_dirSeq (h : Nat) (x : Session) : (s.setSession h x).dirSeq = s.dirSeq := rfl
@[simp] theorem State.setSession_txns (h : Nat) (x : Session) : (s.setSession h x).txns = s.txns := rfl
@[simp] theorem State.setSession_homeWaits (h : Nat) (x : Session) : (s.setSession h x).homeWaits = s.homeWaits := rfl
@[simp] theorem State.setSession_net (h : Nat) (x : Session) : (s.setSession h x).net = s.net := rfl
@[simp] theorem State.setSession_marks (h : Nat) (x : Session) : (s.setSession h x).marks = s.marks := rfl
@[simp] theorem State.setSession_mgQueue (h : Nat) (x : Session) : (s.setSession h x).mgQueue = s.mgQueue := rfl
@[simp] theorem State.setSession_drains (h : Nat) (x : Session) : (s.setSession h x).drains = s.drains := rfl
@[simp] theorem State.setSession_modeSwitches (h : Nat) (x : Session) : (s.setSession h x).modeSwitches = s.modeSwitches := rfl
@[simp] theorem State.setSession_keeper (h : Nat) (x : Session) : (s.setSession h x).keeper = s.keeper := rfl
@[simp] theorem State.setSession_nvm (h : Nat) (x : Session) : (s.setSession h x).nvm = s.nvm := rfl
@[simp] theorem State.setSession_ras (h : Nat) (x : Session) : (s.setSession h x).ras = s.ras := rfl
@[simp] theorem State.setSession_pwr (h : Nat) (x : Session) : (s.setSession h x).pwr = s.pwr := rfl
@[simp] theorem State.setSession_use (h : Nat) (x : Session) : (s.setSession h x).use = s.use := rfl
@[simp] theorem State.setSession_engineQ (h : Nat) (x : Session) : (s.setSession h x).engineQ = s.engineQ := rfl
@[simp] theorem State.setSession_came (h : Nat) (x : Session) : (s.setSession h x).came = s.came := rfl
@[simp] theorem State.setSession_heldOps (h : Nat) (x : Session) : (s.setSession h x).heldOps = s.heldOps := rfl
@[simp] theorem State.setSession_receiving (h : Nat) (x : Session) : (s.setSession h x).receiving = s.receiving := rfl
@[simp] theorem State.setSession_sesCache (h : Nat) (x : Session) : (s.setSession h x).sesCache = s.sesCache := rfl
@[simp] theorem State.setSession_mgWaits (h : Nat) (x : Session) : (s.setSession h x).mgWaits = s.mgWaits := rfl
@[simp] theorem State.setSession_missed (h : Nat) (x : Session) : (s.setSession h x).missed = s.missed := rfl

/-! updSession changes sessions. -/

@[simp] theorem State.updSession_pending (h : Nat) (f : Session → Session) : (s.updSession h f).pending = s.pending := rfl
@[simp] theorem State.updSession_out (h : Nat) (f : Session → Session) : (s.updSession h f).out = s.out := rfl
@[simp] theorem State.updSession_free (h : Nat) (f : Session → Session) : (s.updSession h f).free = s.free := rfl
@[simp] theorem State.updSession_variant (h : Nat) (f : Session → Session) : (s.updSession h f).variant = s.variant := rfl
@[simp] theorem State.updSession_time (h : Nat) (f : Session → Session) : (s.updSession h f).time = s.time := rfl
@[simp] theorem State.updSession_latch (h : Nat) (f : Session → Session) : (s.updSession h f).latch = s.latch := rfl
@[simp] theorem State.updSession_rwk (h : Nat) (f : Session → Session) : (s.updSession h f).rwk = s.rwk := rfl
@[simp] theorem State.updSession_regs (h : Nat) (f : Session → Session) : (s.updSession h f).regs = s.regs := rfl
@[simp] theorem State.updSession_ports (h : Nat) (f : Session → Session) : (s.updSession h f).ports = s.ports := rfl
@[simp] theorem State.updSession_rings (h : Nat) (f : Session → Session) : (s.updSession h f).rings = s.rings := rfl
@[simp] theorem State.updSession_ringCmd (h : Nat) (f : Session → Session) : (s.updSession h f).ringCmd = s.ringCmd := rfl
@[simp] theorem State.updSession_ringLast (h : Nat) (f : Session → Session) : (s.updSession h f).ringLast = s.ringLast := rfl
@[simp] theorem State.updSession_rot (h : Nat) (f : Session → Session) : (s.updSession h f).rot = s.rot := rfl
@[simp] theorem State.updSession_leaves (h : Nat) (f : Session → Session) : (s.updSession h f).leaves = s.leaves := rfl
@[simp] theorem State.updSession_frames (h : Nat) (f : Session → Session) : (s.updSession h f).frames = s.frames := rfl
@[simp] theorem State.updSession_sesOps (h : Nat) (f : Session → Session) : (s.updSession h f).sesOps = s.sesOps := rfl
@[simp] theorem State.updSession_offers (h : Nat) (f : Session → Session) : (s.updSession h f).offers = s.offers := rfl
@[simp] theorem State.updSession_accepts (h : Nat) (f : Session → Session) : (s.updSession h f).accepts = s.accepts := rfl
@[simp] theorem State.updSession_pulls (h : Nat) (f : Session → Session) : (s.updSession h f).pulls = s.pulls := rfl
@[simp] theorem State.updSession_heldPulls (h : Nat) (f : Session → Session) : (s.updSession h f).heldPulls = s.heldPulls := rfl
@[simp] theorem State.updSession_discarded (h : Nat) (f : Session → Session) : (s.updSession h f).discarded = s.discarded := rfl
@[simp] theorem State.updSession_reclaims (h : Nat) (f : Session → Session) : (s.updSession h f).reclaims = s.reclaims := rfl
@[simp] theorem State.updSession_abftArm (h : Nat) (f : Session → Session) : (s.updSession h f).abftArm = s.abftArm := rfl
@[simp] theorem State.updSession_tables (h : Nat) (f : Session → Session) : (s.updSession h f).tables = s.tables := rfl
@[simp] theorem State.updSession_tabCmd (h : Nat) (f : Session → Session) : (s.updSession h f).tabCmd = s.tabCmd := rfl
@[simp] theorem State.updSession_tabLast (h : Nat) (f : Session → Session) : (s.updSession h f).tabLast = s.tabLast := rfl
@[simp] theorem State.updSession_steps (h : Nat) (f : Session → Session) : (s.updSession h f).steps = s.steps := rfl
@[simp] theorem State.updSession_grads (h : Nat) (f : Session → Session) : (s.updSession h f).grads = s.grads := rfl
@[simp] theorem State.updSession_installs (h : Nat) (f : Session → Session) : (s.updSession h f).installs = s.installs := rfl
@[simp] theorem State.updSession_poisonSteps (h : Nat) (f : Session → Session) : (s.updSession h f).poisonSteps = s.poisonSteps := rfl
@[simp] theorem State.updSession_voices (h : Nat) (f : Session → Session) : (s.updSession h f).voices = s.voices := rfl
@[simp] theorem State.updSession_pads (h : Nat) (f : Session → Session) : (s.updSession h f).pads = s.pads := rfl
@[simp] theorem State.updSession_carries (h : Nat) (f : Session → Session) : (s.updSession h f).carries = s.carries := rfl
@[simp] theorem State.updSession_amms (h : Nat) (f : Session → Session) : (s.updSession h f).amms = s.amms := rfl
@[simp] theorem State.updSession_gcache (h : Nat) (f : Session → Session) : (s.updSession h f).gcache = s.gcache := rfl
@[simp] theorem State.updSession_abuf (h : Nat) (f : Session → Session) : (s.updSession h f).abuf = s.abuf := rfl
@[simp] theorem State.updSession_victims (h : Nat) (f : Session → Session) : (s.updSession h f).victims = s.victims := rfl
@[simp] theorem State.updSession_pool (h : Nat) (f : Session → Session) : (s.updSession h f).pool = s.pool := rfl
@[simp] theorem State.updSession_poison (h : Nat) (f : Session → Session) : (s.updSession h f).poison = s.poison := rfl
@[simp] theorem State.updSession_lineKey (h : Nat) (f : Session → Session) : (s.updSession h f).lineKey = s.lineKey := rfl
@[simp] theorem State.updSession_granules (h : Nat) (f : Session → Session) : (s.updSession h f).granules = s.granules := rfl
@[simp] theorem State.updSession_backed (h : Nat) (f : Session → Session) : (s.updSession h f).backed = s.backed := rfl
@[simp] theorem State.updSession_preparing (h : Nat) (f : Session → Session) : (s.updSession h f).preparing = s.preparing := rfl
@[simp] theorem State.updSession_ready (h : Nat) (f : Session → Session) : (s.updSession h f).ready = s.ready := rfl
@[simp] theorem State.updSession_drives (h : Nat) (f : Session → Session) : (s.updSession h f).drives = s.drives := rfl
@[simp] theorem State.updSession_stripe (h : Nat) (f : Session → Session) : (s.updSession h f).stripe = s.stripe := rfl
@[simp] theorem State.updSession_ddr (h : Nat) (f : Session → Session) : (s.updSession h f).ddr = s.ddr := rfl
@[simp] theorem State.updSession_tlb (h : Nat) (f : Session → Session) : (s.updSession h f).tlb = s.tlb := rfl
@[simp] theorem State.updSession_walkCache (h : Nat) (f : Session → Session) : (s.updSession h f).walkCache = s.walkCache := rfl
@[simp] theorem State.updSession_walks (h : Nat) (f : Session → Session) : (s.updSession h f).walks = s.walks := rfl
@[simp] theorem State.updSession_bcasts (h : Nat) (f : Session → Session) : (s.updSession h f).bcasts = s.bcasts := rfl
@[simp] theorem State.updSession_blocks (h : Nat) (f : Session → Session) : (s.updSession h f).blocks = s.blocks := rfl
@[simp] theorem State.updSession_links (h : Nat) (f : Session → Session) : (s.updSession h f).links = s.links := rfl
@[simp] theorem State.updSession_tags (h : Nat) (f : Session → Session) : (s.updSession h f).tags = s.tags := rfl
@[simp] theorem State.updSession_dir (h : Nat) (f : Session → Session) : (s.updSession h f).dir = s.dir := rfl
@[simp] theorem State.updSession_dirSeq (h : Nat) (f : Session → Session) : (s.updSession h f).dirSeq = s.dirSeq := rfl
@[simp] theorem State.updSession_txns (h : Nat) (f : Session → Session) : (s.updSession h f).txns = s.txns := rfl
@[simp] theorem State.updSession_homeWaits (h : Nat) (f : Session → Session) : (s.updSession h f).homeWaits = s.homeWaits := rfl
@[simp] theorem State.updSession_net (h : Nat) (f : Session → Session) : (s.updSession h f).net = s.net := rfl
@[simp] theorem State.updSession_marks (h : Nat) (f : Session → Session) : (s.updSession h f).marks = s.marks := rfl
@[simp] theorem State.updSession_mgQueue (h : Nat) (f : Session → Session) : (s.updSession h f).mgQueue = s.mgQueue := rfl
@[simp] theorem State.updSession_drains (h : Nat) (f : Session → Session) : (s.updSession h f).drains = s.drains := rfl
@[simp] theorem State.updSession_modeSwitches (h : Nat) (f : Session → Session) : (s.updSession h f).modeSwitches = s.modeSwitches := rfl
@[simp] theorem State.updSession_keeper (h : Nat) (f : Session → Session) : (s.updSession h f).keeper = s.keeper := rfl
@[simp] theorem State.updSession_nvm (h : Nat) (f : Session → Session) : (s.updSession h f).nvm = s.nvm := rfl
@[simp] theorem State.updSession_ras (h : Nat) (f : Session → Session) : (s.updSession h f).ras = s.ras := rfl
@[simp] theorem State.updSession_pwr (h : Nat) (f : Session → Session) : (s.updSession h f).pwr = s.pwr := rfl
@[simp] theorem State.updSession_use (h : Nat) (f : Session → Session) : (s.updSession h f).use = s.use := rfl
@[simp] theorem State.updSession_engineQ (h : Nat) (f : Session → Session) : (s.updSession h f).engineQ = s.engineQ := rfl
@[simp] theorem State.updSession_came (h : Nat) (f : Session → Session) : (s.updSession h f).came = s.came := rfl
@[simp] theorem State.updSession_heldOps (h : Nat) (f : Session → Session) : (s.updSession h f).heldOps = s.heldOps := rfl
@[simp] theorem State.updSession_receiving (h : Nat) (f : Session → Session) : (s.updSession h f).receiving = s.receiving := rfl
@[simp] theorem State.updSession_sesCache (h : Nat) (f : Session → Session) : (s.updSession h f).sesCache = s.sesCache := rfl
@[simp] theorem State.updSession_mgWaits (h : Nat) (f : Session → Session) : (s.updSession h f).mgWaits = s.mgWaits := rfl
@[simp] theorem State.updSession_missed (h : Nat) (f : Session → Session) : (s.updSession h f).missed = s.missed := rfl

/-! setLeaf changes leaves. -/

@[simp] theorem State.setLeaf_pending (u : Nat) (x : Leaf) : (s.setLeaf u x).pending = s.pending := rfl
@[simp] theorem State.setLeaf_out (u : Nat) (x : Leaf) : (s.setLeaf u x).out = s.out := rfl
@[simp] theorem State.setLeaf_free (u : Nat) (x : Leaf) : (s.setLeaf u x).free = s.free := rfl
@[simp] theorem State.setLeaf_variant (u : Nat) (x : Leaf) : (s.setLeaf u x).variant = s.variant := rfl
@[simp] theorem State.setLeaf_time (u : Nat) (x : Leaf) : (s.setLeaf u x).time = s.time := rfl
@[simp] theorem State.setLeaf_latch (u : Nat) (x : Leaf) : (s.setLeaf u x).latch = s.latch := rfl
@[simp] theorem State.setLeaf_rwk (u : Nat) (x : Leaf) : (s.setLeaf u x).rwk = s.rwk := rfl
@[simp] theorem State.setLeaf_regs (u : Nat) (x : Leaf) : (s.setLeaf u x).regs = s.regs := rfl
@[simp] theorem State.setLeaf_ports (u : Nat) (x : Leaf) : (s.setLeaf u x).ports = s.ports := rfl
@[simp] theorem State.setLeaf_rings (u : Nat) (x : Leaf) : (s.setLeaf u x).rings = s.rings := rfl
@[simp] theorem State.setLeaf_ringCmd (u : Nat) (x : Leaf) : (s.setLeaf u x).ringCmd = s.ringCmd := rfl
@[simp] theorem State.setLeaf_ringLast (u : Nat) (x : Leaf) : (s.setLeaf u x).ringLast = s.ringLast := rfl
@[simp] theorem State.setLeaf_rot (u : Nat) (x : Leaf) : (s.setLeaf u x).rot = s.rot := rfl
@[simp] theorem State.setLeaf_sessions (u : Nat) (x : Leaf) : (s.setLeaf u x).sessions = s.sessions := rfl
@[simp] theorem State.setLeaf_frames (u : Nat) (x : Leaf) : (s.setLeaf u x).frames = s.frames := rfl
@[simp] theorem State.setLeaf_sesOps (u : Nat) (x : Leaf) : (s.setLeaf u x).sesOps = s.sesOps := rfl
@[simp] theorem State.setLeaf_offers (u : Nat) (x : Leaf) : (s.setLeaf u x).offers = s.offers := rfl
@[simp] theorem State.setLeaf_accepts (u : Nat) (x : Leaf) : (s.setLeaf u x).accepts = s.accepts := rfl
@[simp] theorem State.setLeaf_pulls (u : Nat) (x : Leaf) : (s.setLeaf u x).pulls = s.pulls := rfl
@[simp] theorem State.setLeaf_heldPulls (u : Nat) (x : Leaf) : (s.setLeaf u x).heldPulls = s.heldPulls := rfl
@[simp] theorem State.setLeaf_discarded (u : Nat) (x : Leaf) : (s.setLeaf u x).discarded = s.discarded := rfl
@[simp] theorem State.setLeaf_reclaims (u : Nat) (x : Leaf) : (s.setLeaf u x).reclaims = s.reclaims := rfl
@[simp] theorem State.setLeaf_abftArm (u : Nat) (x : Leaf) : (s.setLeaf u x).abftArm = s.abftArm := rfl
@[simp] theorem State.setLeaf_tables (u : Nat) (x : Leaf) : (s.setLeaf u x).tables = s.tables := rfl
@[simp] theorem State.setLeaf_tabCmd (u : Nat) (x : Leaf) : (s.setLeaf u x).tabCmd = s.tabCmd := rfl
@[simp] theorem State.setLeaf_tabLast (u : Nat) (x : Leaf) : (s.setLeaf u x).tabLast = s.tabLast := rfl
@[simp] theorem State.setLeaf_steps (u : Nat) (x : Leaf) : (s.setLeaf u x).steps = s.steps := rfl
@[simp] theorem State.setLeaf_grads (u : Nat) (x : Leaf) : (s.setLeaf u x).grads = s.grads := rfl
@[simp] theorem State.setLeaf_installs (u : Nat) (x : Leaf) : (s.setLeaf u x).installs = s.installs := rfl
@[simp] theorem State.setLeaf_poisonSteps (u : Nat) (x : Leaf) : (s.setLeaf u x).poisonSteps = s.poisonSteps := rfl
@[simp] theorem State.setLeaf_voices (u : Nat) (x : Leaf) : (s.setLeaf u x).voices = s.voices := rfl
@[simp] theorem State.setLeaf_pads (u : Nat) (x : Leaf) : (s.setLeaf u x).pads = s.pads := rfl
@[simp] theorem State.setLeaf_carries (u : Nat) (x : Leaf) : (s.setLeaf u x).carries = s.carries := rfl
@[simp] theorem State.setLeaf_amms (u : Nat) (x : Leaf) : (s.setLeaf u x).amms = s.amms := rfl
@[simp] theorem State.setLeaf_gcache (u : Nat) (x : Leaf) : (s.setLeaf u x).gcache = s.gcache := rfl
@[simp] theorem State.setLeaf_abuf (u : Nat) (x : Leaf) : (s.setLeaf u x).abuf = s.abuf := rfl
@[simp] theorem State.setLeaf_victims (u : Nat) (x : Leaf) : (s.setLeaf u x).victims = s.victims := rfl
@[simp] theorem State.setLeaf_pool (u : Nat) (x : Leaf) : (s.setLeaf u x).pool = s.pool := rfl
@[simp] theorem State.setLeaf_poison (u : Nat) (x : Leaf) : (s.setLeaf u x).poison = s.poison := rfl
@[simp] theorem State.setLeaf_lineKey (u : Nat) (x : Leaf) : (s.setLeaf u x).lineKey = s.lineKey := rfl
@[simp] theorem State.setLeaf_granules (u : Nat) (x : Leaf) : (s.setLeaf u x).granules = s.granules := rfl
@[simp] theorem State.setLeaf_backed (u : Nat) (x : Leaf) : (s.setLeaf u x).backed = s.backed := rfl
@[simp] theorem State.setLeaf_preparing (u : Nat) (x : Leaf) : (s.setLeaf u x).preparing = s.preparing := rfl
@[simp] theorem State.setLeaf_ready (u : Nat) (x : Leaf) : (s.setLeaf u x).ready = s.ready := rfl
@[simp] theorem State.setLeaf_drives (u : Nat) (x : Leaf) : (s.setLeaf u x).drives = s.drives := rfl
@[simp] theorem State.setLeaf_stripe (u : Nat) (x : Leaf) : (s.setLeaf u x).stripe = s.stripe := rfl
@[simp] theorem State.setLeaf_ddr (u : Nat) (x : Leaf) : (s.setLeaf u x).ddr = s.ddr := rfl
@[simp] theorem State.setLeaf_tlb (u : Nat) (x : Leaf) : (s.setLeaf u x).tlb = s.tlb := rfl
@[simp] theorem State.setLeaf_walkCache (u : Nat) (x : Leaf) : (s.setLeaf u x).walkCache = s.walkCache := rfl
@[simp] theorem State.setLeaf_walks (u : Nat) (x : Leaf) : (s.setLeaf u x).walks = s.walks := rfl
@[simp] theorem State.setLeaf_bcasts (u : Nat) (x : Leaf) : (s.setLeaf u x).bcasts = s.bcasts := rfl
@[simp] theorem State.setLeaf_blocks (u : Nat) (x : Leaf) : (s.setLeaf u x).blocks = s.blocks := rfl
@[simp] theorem State.setLeaf_links (u : Nat) (x : Leaf) : (s.setLeaf u x).links = s.links := rfl
@[simp] theorem State.setLeaf_tags (u : Nat) (x : Leaf) : (s.setLeaf u x).tags = s.tags := rfl
@[simp] theorem State.setLeaf_dir (u : Nat) (x : Leaf) : (s.setLeaf u x).dir = s.dir := rfl
@[simp] theorem State.setLeaf_dirSeq (u : Nat) (x : Leaf) : (s.setLeaf u x).dirSeq = s.dirSeq := rfl
@[simp] theorem State.setLeaf_txns (u : Nat) (x : Leaf) : (s.setLeaf u x).txns = s.txns := rfl
@[simp] theorem State.setLeaf_homeWaits (u : Nat) (x : Leaf) : (s.setLeaf u x).homeWaits = s.homeWaits := rfl
@[simp] theorem State.setLeaf_net (u : Nat) (x : Leaf) : (s.setLeaf u x).net = s.net := rfl
@[simp] theorem State.setLeaf_marks (u : Nat) (x : Leaf) : (s.setLeaf u x).marks = s.marks := rfl
@[simp] theorem State.setLeaf_mgQueue (u : Nat) (x : Leaf) : (s.setLeaf u x).mgQueue = s.mgQueue := rfl
@[simp] theorem State.setLeaf_drains (u : Nat) (x : Leaf) : (s.setLeaf u x).drains = s.drains := rfl
@[simp] theorem State.setLeaf_modeSwitches (u : Nat) (x : Leaf) : (s.setLeaf u x).modeSwitches = s.modeSwitches := rfl
@[simp] theorem State.setLeaf_keeper (u : Nat) (x : Leaf) : (s.setLeaf u x).keeper = s.keeper := rfl
@[simp] theorem State.setLeaf_nvm (u : Nat) (x : Leaf) : (s.setLeaf u x).nvm = s.nvm := rfl
@[simp] theorem State.setLeaf_ras (u : Nat) (x : Leaf) : (s.setLeaf u x).ras = s.ras := rfl
@[simp] theorem State.setLeaf_pwr (u : Nat) (x : Leaf) : (s.setLeaf u x).pwr = s.pwr := rfl
@[simp] theorem State.setLeaf_use (u : Nat) (x : Leaf) : (s.setLeaf u x).use = s.use := rfl
@[simp] theorem State.setLeaf_engineQ (u : Nat) (x : Leaf) : (s.setLeaf u x).engineQ = s.engineQ := rfl
@[simp] theorem State.setLeaf_came (u : Nat) (x : Leaf) : (s.setLeaf u x).came = s.came := rfl
@[simp] theorem State.setLeaf_heldOps (u : Nat) (x : Leaf) : (s.setLeaf u x).heldOps = s.heldOps := rfl
@[simp] theorem State.setLeaf_receiving (u : Nat) (x : Leaf) : (s.setLeaf u x).receiving = s.receiving := rfl
@[simp] theorem State.setLeaf_sesCache (u : Nat) (x : Leaf) : (s.setLeaf u x).sesCache = s.sesCache := rfl
@[simp] theorem State.setLeaf_mgWaits (u : Nat) (x : Leaf) : (s.setLeaf u x).mgWaits = s.mgWaits := rfl
@[simp] theorem State.setLeaf_missed (u : Nat) (x : Leaf) : (s.setLeaf u x).missed = s.missed := rfl

/-! setFrame changes frames. -/

@[simp] theorem State.setFrame_pending (i : Nat) (x : Frame) : (s.setFrame i x).pending = s.pending := rfl
@[simp] theorem State.setFrame_out (i : Nat) (x : Frame) : (s.setFrame i x).out = s.out := rfl
@[simp] theorem State.setFrame_free (i : Nat) (x : Frame) : (s.setFrame i x).free = s.free := rfl
@[simp] theorem State.setFrame_variant (i : Nat) (x : Frame) : (s.setFrame i x).variant = s.variant := rfl
@[simp] theorem State.setFrame_time (i : Nat) (x : Frame) : (s.setFrame i x).time = s.time := rfl
@[simp] theorem State.setFrame_latch (i : Nat) (x : Frame) : (s.setFrame i x).latch = s.latch := rfl
@[simp] theorem State.setFrame_rwk (i : Nat) (x : Frame) : (s.setFrame i x).rwk = s.rwk := rfl
@[simp] theorem State.setFrame_regs (i : Nat) (x : Frame) : (s.setFrame i x).regs = s.regs := rfl
@[simp] theorem State.setFrame_ports (i : Nat) (x : Frame) : (s.setFrame i x).ports = s.ports := rfl
@[simp] theorem State.setFrame_rings (i : Nat) (x : Frame) : (s.setFrame i x).rings = s.rings := rfl
@[simp] theorem State.setFrame_ringCmd (i : Nat) (x : Frame) : (s.setFrame i x).ringCmd = s.ringCmd := rfl
@[simp] theorem State.setFrame_ringLast (i : Nat) (x : Frame) : (s.setFrame i x).ringLast = s.ringLast := rfl
@[simp] theorem State.setFrame_rot (i : Nat) (x : Frame) : (s.setFrame i x).rot = s.rot := rfl
@[simp] theorem State.setFrame_sessions (i : Nat) (x : Frame) : (s.setFrame i x).sessions = s.sessions := rfl
@[simp] theorem State.setFrame_leaves (i : Nat) (x : Frame) : (s.setFrame i x).leaves = s.leaves := rfl
@[simp] theorem State.setFrame_sesOps (i : Nat) (x : Frame) : (s.setFrame i x).sesOps = s.sesOps := rfl
@[simp] theorem State.setFrame_offers (i : Nat) (x : Frame) : (s.setFrame i x).offers = s.offers := rfl
@[simp] theorem State.setFrame_accepts (i : Nat) (x : Frame) : (s.setFrame i x).accepts = s.accepts := rfl
@[simp] theorem State.setFrame_pulls (i : Nat) (x : Frame) : (s.setFrame i x).pulls = s.pulls := rfl
@[simp] theorem State.setFrame_heldPulls (i : Nat) (x : Frame) : (s.setFrame i x).heldPulls = s.heldPulls := rfl
@[simp] theorem State.setFrame_discarded (i : Nat) (x : Frame) : (s.setFrame i x).discarded = s.discarded := rfl
@[simp] theorem State.setFrame_reclaims (i : Nat) (x : Frame) : (s.setFrame i x).reclaims = s.reclaims := rfl
@[simp] theorem State.setFrame_abftArm (i : Nat) (x : Frame) : (s.setFrame i x).abftArm = s.abftArm := rfl
@[simp] theorem State.setFrame_tables (i : Nat) (x : Frame) : (s.setFrame i x).tables = s.tables := rfl
@[simp] theorem State.setFrame_tabCmd (i : Nat) (x : Frame) : (s.setFrame i x).tabCmd = s.tabCmd := rfl
@[simp] theorem State.setFrame_tabLast (i : Nat) (x : Frame) : (s.setFrame i x).tabLast = s.tabLast := rfl
@[simp] theorem State.setFrame_steps (i : Nat) (x : Frame) : (s.setFrame i x).steps = s.steps := rfl
@[simp] theorem State.setFrame_grads (i : Nat) (x : Frame) : (s.setFrame i x).grads = s.grads := rfl
@[simp] theorem State.setFrame_installs (i : Nat) (x : Frame) : (s.setFrame i x).installs = s.installs := rfl
@[simp] theorem State.setFrame_poisonSteps (i : Nat) (x : Frame) : (s.setFrame i x).poisonSteps = s.poisonSteps := rfl
@[simp] theorem State.setFrame_voices (i : Nat) (x : Frame) : (s.setFrame i x).voices = s.voices := rfl
@[simp] theorem State.setFrame_pads (i : Nat) (x : Frame) : (s.setFrame i x).pads = s.pads := rfl
@[simp] theorem State.setFrame_carries (i : Nat) (x : Frame) : (s.setFrame i x).carries = s.carries := rfl
@[simp] theorem State.setFrame_amms (i : Nat) (x : Frame) : (s.setFrame i x).amms = s.amms := rfl
@[simp] theorem State.setFrame_gcache (i : Nat) (x : Frame) : (s.setFrame i x).gcache = s.gcache := rfl
@[simp] theorem State.setFrame_abuf (i : Nat) (x : Frame) : (s.setFrame i x).abuf = s.abuf := rfl
@[simp] theorem State.setFrame_victims (i : Nat) (x : Frame) : (s.setFrame i x).victims = s.victims := rfl
@[simp] theorem State.setFrame_pool (i : Nat) (x : Frame) : (s.setFrame i x).pool = s.pool := rfl
@[simp] theorem State.setFrame_poison (i : Nat) (x : Frame) : (s.setFrame i x).poison = s.poison := rfl
@[simp] theorem State.setFrame_lineKey (i : Nat) (x : Frame) : (s.setFrame i x).lineKey = s.lineKey := rfl
@[simp] theorem State.setFrame_granules (i : Nat) (x : Frame) : (s.setFrame i x).granules = s.granules := rfl
@[simp] theorem State.setFrame_backed (i : Nat) (x : Frame) : (s.setFrame i x).backed = s.backed := rfl
@[simp] theorem State.setFrame_preparing (i : Nat) (x : Frame) : (s.setFrame i x).preparing = s.preparing := rfl
@[simp] theorem State.setFrame_ready (i : Nat) (x : Frame) : (s.setFrame i x).ready = s.ready := rfl
@[simp] theorem State.setFrame_drives (i : Nat) (x : Frame) : (s.setFrame i x).drives = s.drives := rfl
@[simp] theorem State.setFrame_stripe (i : Nat) (x : Frame) : (s.setFrame i x).stripe = s.stripe := rfl
@[simp] theorem State.setFrame_ddr (i : Nat) (x : Frame) : (s.setFrame i x).ddr = s.ddr := rfl
@[simp] theorem State.setFrame_tlb (i : Nat) (x : Frame) : (s.setFrame i x).tlb = s.tlb := rfl
@[simp] theorem State.setFrame_walkCache (i : Nat) (x : Frame) : (s.setFrame i x).walkCache = s.walkCache := rfl
@[simp] theorem State.setFrame_walks (i : Nat) (x : Frame) : (s.setFrame i x).walks = s.walks := rfl
@[simp] theorem State.setFrame_bcasts (i : Nat) (x : Frame) : (s.setFrame i x).bcasts = s.bcasts := rfl
@[simp] theorem State.setFrame_blocks (i : Nat) (x : Frame) : (s.setFrame i x).blocks = s.blocks := rfl
@[simp] theorem State.setFrame_links (i : Nat) (x : Frame) : (s.setFrame i x).links = s.links := rfl
@[simp] theorem State.setFrame_tags (i : Nat) (x : Frame) : (s.setFrame i x).tags = s.tags := rfl
@[simp] theorem State.setFrame_dir (i : Nat) (x : Frame) : (s.setFrame i x).dir = s.dir := rfl
@[simp] theorem State.setFrame_dirSeq (i : Nat) (x : Frame) : (s.setFrame i x).dirSeq = s.dirSeq := rfl
@[simp] theorem State.setFrame_txns (i : Nat) (x : Frame) : (s.setFrame i x).txns = s.txns := rfl
@[simp] theorem State.setFrame_homeWaits (i : Nat) (x : Frame) : (s.setFrame i x).homeWaits = s.homeWaits := rfl
@[simp] theorem State.setFrame_net (i : Nat) (x : Frame) : (s.setFrame i x).net = s.net := rfl
@[simp] theorem State.setFrame_marks (i : Nat) (x : Frame) : (s.setFrame i x).marks = s.marks := rfl
@[simp] theorem State.setFrame_mgQueue (i : Nat) (x : Frame) : (s.setFrame i x).mgQueue = s.mgQueue := rfl
@[simp] theorem State.setFrame_drains (i : Nat) (x : Frame) : (s.setFrame i x).drains = s.drains := rfl
@[simp] theorem State.setFrame_modeSwitches (i : Nat) (x : Frame) : (s.setFrame i x).modeSwitches = s.modeSwitches := rfl
@[simp] theorem State.setFrame_keeper (i : Nat) (x : Frame) : (s.setFrame i x).keeper = s.keeper := rfl
@[simp] theorem State.setFrame_nvm (i : Nat) (x : Frame) : (s.setFrame i x).nvm = s.nvm := rfl
@[simp] theorem State.setFrame_ras (i : Nat) (x : Frame) : (s.setFrame i x).ras = s.ras := rfl
@[simp] theorem State.setFrame_pwr (i : Nat) (x : Frame) : (s.setFrame i x).pwr = s.pwr := rfl
@[simp] theorem State.setFrame_use (i : Nat) (x : Frame) : (s.setFrame i x).use = s.use := rfl
@[simp] theorem State.setFrame_engineQ (i : Nat) (x : Frame) : (s.setFrame i x).engineQ = s.engineQ := rfl
@[simp] theorem State.setFrame_came (i : Nat) (x : Frame) : (s.setFrame i x).came = s.came := rfl
@[simp] theorem State.setFrame_heldOps (i : Nat) (x : Frame) : (s.setFrame i x).heldOps = s.heldOps := rfl
@[simp] theorem State.setFrame_receiving (i : Nat) (x : Frame) : (s.setFrame i x).receiving = s.receiving := rfl
@[simp] theorem State.setFrame_sesCache (i : Nat) (x : Frame) : (s.setFrame i x).sesCache = s.sesCache := rfl
@[simp] theorem State.setFrame_mgWaits (i : Nat) (x : Frame) : (s.setFrame i x).mgWaits = s.mgWaits := rfl
@[simp] theorem State.setFrame_missed (i : Nat) (x : Frame) : (s.setFrame i x).missed = s.missed := rfl

/-! updFrame changes frames. -/

@[simp] theorem State.updFrame_pending (i : Nat) (f : Frame → Frame) : (s.updFrame i f).pending = s.pending := rfl
@[simp] theorem State.updFrame_out (i : Nat) (f : Frame → Frame) : (s.updFrame i f).out = s.out := rfl
@[simp] theorem State.updFrame_free (i : Nat) (f : Frame → Frame) : (s.updFrame i f).free = s.free := rfl
@[simp] theorem State.updFrame_variant (i : Nat) (f : Frame → Frame) : (s.updFrame i f).variant = s.variant := rfl
@[simp] theorem State.updFrame_time (i : Nat) (f : Frame → Frame) : (s.updFrame i f).time = s.time := rfl
@[simp] theorem State.updFrame_latch (i : Nat) (f : Frame → Frame) : (s.updFrame i f).latch = s.latch := rfl
@[simp] theorem State.updFrame_rwk (i : Nat) (f : Frame → Frame) : (s.updFrame i f).rwk = s.rwk := rfl
@[simp] theorem State.updFrame_regs (i : Nat) (f : Frame → Frame) : (s.updFrame i f).regs = s.regs := rfl
@[simp] theorem State.updFrame_ports (i : Nat) (f : Frame → Frame) : (s.updFrame i f).ports = s.ports := rfl
@[simp] theorem State.updFrame_rings (i : Nat) (f : Frame → Frame) : (s.updFrame i f).rings = s.rings := rfl
@[simp] theorem State.updFrame_ringCmd (i : Nat) (f : Frame → Frame) : (s.updFrame i f).ringCmd = s.ringCmd := rfl
@[simp] theorem State.updFrame_ringLast (i : Nat) (f : Frame → Frame) : (s.updFrame i f).ringLast = s.ringLast := rfl
@[simp] theorem State.updFrame_rot (i : Nat) (f : Frame → Frame) : (s.updFrame i f).rot = s.rot := rfl
@[simp] theorem State.updFrame_sessions (i : Nat) (f : Frame → Frame) : (s.updFrame i f).sessions = s.sessions := rfl
@[simp] theorem State.updFrame_leaves (i : Nat) (f : Frame → Frame) : (s.updFrame i f).leaves = s.leaves := rfl
@[simp] theorem State.updFrame_sesOps (i : Nat) (f : Frame → Frame) : (s.updFrame i f).sesOps = s.sesOps := rfl
@[simp] theorem State.updFrame_offers (i : Nat) (f : Frame → Frame) : (s.updFrame i f).offers = s.offers := rfl
@[simp] theorem State.updFrame_accepts (i : Nat) (f : Frame → Frame) : (s.updFrame i f).accepts = s.accepts := rfl
@[simp] theorem State.updFrame_pulls (i : Nat) (f : Frame → Frame) : (s.updFrame i f).pulls = s.pulls := rfl
@[simp] theorem State.updFrame_heldPulls (i : Nat) (f : Frame → Frame) : (s.updFrame i f).heldPulls = s.heldPulls := rfl
@[simp] theorem State.updFrame_discarded (i : Nat) (f : Frame → Frame) : (s.updFrame i f).discarded = s.discarded := rfl
@[simp] theorem State.updFrame_reclaims (i : Nat) (f : Frame → Frame) : (s.updFrame i f).reclaims = s.reclaims := rfl
@[simp] theorem State.updFrame_abftArm (i : Nat) (f : Frame → Frame) : (s.updFrame i f).abftArm = s.abftArm := rfl
@[simp] theorem State.updFrame_tables (i : Nat) (f : Frame → Frame) : (s.updFrame i f).tables = s.tables := rfl
@[simp] theorem State.updFrame_tabCmd (i : Nat) (f : Frame → Frame) : (s.updFrame i f).tabCmd = s.tabCmd := rfl
@[simp] theorem State.updFrame_tabLast (i : Nat) (f : Frame → Frame) : (s.updFrame i f).tabLast = s.tabLast := rfl
@[simp] theorem State.updFrame_steps (i : Nat) (f : Frame → Frame) : (s.updFrame i f).steps = s.steps := rfl
@[simp] theorem State.updFrame_grads (i : Nat) (f : Frame → Frame) : (s.updFrame i f).grads = s.grads := rfl
@[simp] theorem State.updFrame_installs (i : Nat) (f : Frame → Frame) : (s.updFrame i f).installs = s.installs := rfl
@[simp] theorem State.updFrame_poisonSteps (i : Nat) (f : Frame → Frame) : (s.updFrame i f).poisonSteps = s.poisonSteps := rfl
@[simp] theorem State.updFrame_voices (i : Nat) (f : Frame → Frame) : (s.updFrame i f).voices = s.voices := rfl
@[simp] theorem State.updFrame_pads (i : Nat) (f : Frame → Frame) : (s.updFrame i f).pads = s.pads := rfl
@[simp] theorem State.updFrame_carries (i : Nat) (f : Frame → Frame) : (s.updFrame i f).carries = s.carries := rfl
@[simp] theorem State.updFrame_amms (i : Nat) (f : Frame → Frame) : (s.updFrame i f).amms = s.amms := rfl
@[simp] theorem State.updFrame_gcache (i : Nat) (f : Frame → Frame) : (s.updFrame i f).gcache = s.gcache := rfl
@[simp] theorem State.updFrame_abuf (i : Nat) (f : Frame → Frame) : (s.updFrame i f).abuf = s.abuf := rfl
@[simp] theorem State.updFrame_victims (i : Nat) (f : Frame → Frame) : (s.updFrame i f).victims = s.victims := rfl
@[simp] theorem State.updFrame_pool (i : Nat) (f : Frame → Frame) : (s.updFrame i f).pool = s.pool := rfl
@[simp] theorem State.updFrame_poison (i : Nat) (f : Frame → Frame) : (s.updFrame i f).poison = s.poison := rfl
@[simp] theorem State.updFrame_lineKey (i : Nat) (f : Frame → Frame) : (s.updFrame i f).lineKey = s.lineKey := rfl
@[simp] theorem State.updFrame_granules (i : Nat) (f : Frame → Frame) : (s.updFrame i f).granules = s.granules := rfl
@[simp] theorem State.updFrame_backed (i : Nat) (f : Frame → Frame) : (s.updFrame i f).backed = s.backed := rfl
@[simp] theorem State.updFrame_preparing (i : Nat) (f : Frame → Frame) : (s.updFrame i f).preparing = s.preparing := rfl
@[simp] theorem State.updFrame_ready (i : Nat) (f : Frame → Frame) : (s.updFrame i f).ready = s.ready := rfl
@[simp] theorem State.updFrame_drives (i : Nat) (f : Frame → Frame) : (s.updFrame i f).drives = s.drives := rfl
@[simp] theorem State.updFrame_stripe (i : Nat) (f : Frame → Frame) : (s.updFrame i f).stripe = s.stripe := rfl
@[simp] theorem State.updFrame_ddr (i : Nat) (f : Frame → Frame) : (s.updFrame i f).ddr = s.ddr := rfl
@[simp] theorem State.updFrame_tlb (i : Nat) (f : Frame → Frame) : (s.updFrame i f).tlb = s.tlb := rfl
@[simp] theorem State.updFrame_walkCache (i : Nat) (f : Frame → Frame) : (s.updFrame i f).walkCache = s.walkCache := rfl
@[simp] theorem State.updFrame_walks (i : Nat) (f : Frame → Frame) : (s.updFrame i f).walks = s.walks := rfl
@[simp] theorem State.updFrame_bcasts (i : Nat) (f : Frame → Frame) : (s.updFrame i f).bcasts = s.bcasts := rfl
@[simp] theorem State.updFrame_blocks (i : Nat) (f : Frame → Frame) : (s.updFrame i f).blocks = s.blocks := rfl
@[simp] theorem State.updFrame_links (i : Nat) (f : Frame → Frame) : (s.updFrame i f).links = s.links := rfl
@[simp] theorem State.updFrame_tags (i : Nat) (f : Frame → Frame) : (s.updFrame i f).tags = s.tags := rfl
@[simp] theorem State.updFrame_dir (i : Nat) (f : Frame → Frame) : (s.updFrame i f).dir = s.dir := rfl
@[simp] theorem State.updFrame_dirSeq (i : Nat) (f : Frame → Frame) : (s.updFrame i f).dirSeq = s.dirSeq := rfl
@[simp] theorem State.updFrame_txns (i : Nat) (f : Frame → Frame) : (s.updFrame i f).txns = s.txns := rfl
@[simp] theorem State.updFrame_homeWaits (i : Nat) (f : Frame → Frame) : (s.updFrame i f).homeWaits = s.homeWaits := rfl
@[simp] theorem State.updFrame_net (i : Nat) (f : Frame → Frame) : (s.updFrame i f).net = s.net := rfl
@[simp] theorem State.updFrame_marks (i : Nat) (f : Frame → Frame) : (s.updFrame i f).marks = s.marks := rfl
@[simp] theorem State.updFrame_mgQueue (i : Nat) (f : Frame → Frame) : (s.updFrame i f).mgQueue = s.mgQueue := rfl
@[simp] theorem State.updFrame_drains (i : Nat) (f : Frame → Frame) : (s.updFrame i f).drains = s.drains := rfl
@[simp] theorem State.updFrame_modeSwitches (i : Nat) (f : Frame → Frame) : (s.updFrame i f).modeSwitches = s.modeSwitches := rfl
@[simp] theorem State.updFrame_keeper (i : Nat) (f : Frame → Frame) : (s.updFrame i f).keeper = s.keeper := rfl
@[simp] theorem State.updFrame_nvm (i : Nat) (f : Frame → Frame) : (s.updFrame i f).nvm = s.nvm := rfl
@[simp] theorem State.updFrame_ras (i : Nat) (f : Frame → Frame) : (s.updFrame i f).ras = s.ras := rfl
@[simp] theorem State.updFrame_pwr (i : Nat) (f : Frame → Frame) : (s.updFrame i f).pwr = s.pwr := rfl
@[simp] theorem State.updFrame_use (i : Nat) (f : Frame → Frame) : (s.updFrame i f).use = s.use := rfl
@[simp] theorem State.updFrame_engineQ (i : Nat) (f : Frame → Frame) : (s.updFrame i f).engineQ = s.engineQ := rfl
@[simp] theorem State.updFrame_came (i : Nat) (f : Frame → Frame) : (s.updFrame i f).came = s.came := rfl
@[simp] theorem State.updFrame_heldOps (i : Nat) (f : Frame → Frame) : (s.updFrame i f).heldOps = s.heldOps := rfl
@[simp] theorem State.updFrame_receiving (i : Nat) (f : Frame → Frame) : (s.updFrame i f).receiving = s.receiving := rfl
@[simp] theorem State.updFrame_sesCache (i : Nat) (f : Frame → Frame) : (s.updFrame i f).sesCache = s.sesCache := rfl
@[simp] theorem State.updFrame_mgWaits (i : Nat) (f : Frame → Frame) : (s.updFrame i f).mgWaits = s.mgWaits := rfl
@[simp] theorem State.updFrame_missed (i : Nat) (f : Frame → Frame) : (s.updFrame i f).missed = s.missed := rfl

/-! setTable changes tables. -/

@[simp] theorem State.setTable_pending (i : Nat) (x : Option Table) : (s.setTable i x).pending = s.pending := rfl
@[simp] theorem State.setTable_out (i : Nat) (x : Option Table) : (s.setTable i x).out = s.out := rfl
@[simp] theorem State.setTable_free (i : Nat) (x : Option Table) : (s.setTable i x).free = s.free := rfl
@[simp] theorem State.setTable_variant (i : Nat) (x : Option Table) : (s.setTable i x).variant = s.variant := rfl
@[simp] theorem State.setTable_time (i : Nat) (x : Option Table) : (s.setTable i x).time = s.time := rfl
@[simp] theorem State.setTable_latch (i : Nat) (x : Option Table) : (s.setTable i x).latch = s.latch := rfl
@[simp] theorem State.setTable_rwk (i : Nat) (x : Option Table) : (s.setTable i x).rwk = s.rwk := rfl
@[simp] theorem State.setTable_regs (i : Nat) (x : Option Table) : (s.setTable i x).regs = s.regs := rfl
@[simp] theorem State.setTable_ports (i : Nat) (x : Option Table) : (s.setTable i x).ports = s.ports := rfl
@[simp] theorem State.setTable_rings (i : Nat) (x : Option Table) : (s.setTable i x).rings = s.rings := rfl
@[simp] theorem State.setTable_ringCmd (i : Nat) (x : Option Table) : (s.setTable i x).ringCmd = s.ringCmd := rfl
@[simp] theorem State.setTable_ringLast (i : Nat) (x : Option Table) : (s.setTable i x).ringLast = s.ringLast := rfl
@[simp] theorem State.setTable_rot (i : Nat) (x : Option Table) : (s.setTable i x).rot = s.rot := rfl
@[simp] theorem State.setTable_sessions (i : Nat) (x : Option Table) : (s.setTable i x).sessions = s.sessions := rfl
@[simp] theorem State.setTable_leaves (i : Nat) (x : Option Table) : (s.setTable i x).leaves = s.leaves := rfl
@[simp] theorem State.setTable_frames (i : Nat) (x : Option Table) : (s.setTable i x).frames = s.frames := rfl
@[simp] theorem State.setTable_sesOps (i : Nat) (x : Option Table) : (s.setTable i x).sesOps = s.sesOps := rfl
@[simp] theorem State.setTable_offers (i : Nat) (x : Option Table) : (s.setTable i x).offers = s.offers := rfl
@[simp] theorem State.setTable_accepts (i : Nat) (x : Option Table) : (s.setTable i x).accepts = s.accepts := rfl
@[simp] theorem State.setTable_pulls (i : Nat) (x : Option Table) : (s.setTable i x).pulls = s.pulls := rfl
@[simp] theorem State.setTable_heldPulls (i : Nat) (x : Option Table) : (s.setTable i x).heldPulls = s.heldPulls := rfl
@[simp] theorem State.setTable_discarded (i : Nat) (x : Option Table) : (s.setTable i x).discarded = s.discarded := rfl
@[simp] theorem State.setTable_reclaims (i : Nat) (x : Option Table) : (s.setTable i x).reclaims = s.reclaims := rfl
@[simp] theorem State.setTable_abftArm (i : Nat) (x : Option Table) : (s.setTable i x).abftArm = s.abftArm := rfl
@[simp] theorem State.setTable_tabCmd (i : Nat) (x : Option Table) : (s.setTable i x).tabCmd = s.tabCmd := rfl
@[simp] theorem State.setTable_tabLast (i : Nat) (x : Option Table) : (s.setTable i x).tabLast = s.tabLast := rfl
@[simp] theorem State.setTable_steps (i : Nat) (x : Option Table) : (s.setTable i x).steps = s.steps := rfl
@[simp] theorem State.setTable_grads (i : Nat) (x : Option Table) : (s.setTable i x).grads = s.grads := rfl
@[simp] theorem State.setTable_installs (i : Nat) (x : Option Table) : (s.setTable i x).installs = s.installs := rfl
@[simp] theorem State.setTable_poisonSteps (i : Nat) (x : Option Table) : (s.setTable i x).poisonSteps = s.poisonSteps := rfl
@[simp] theorem State.setTable_voices (i : Nat) (x : Option Table) : (s.setTable i x).voices = s.voices := rfl
@[simp] theorem State.setTable_pads (i : Nat) (x : Option Table) : (s.setTable i x).pads = s.pads := rfl
@[simp] theorem State.setTable_carries (i : Nat) (x : Option Table) : (s.setTable i x).carries = s.carries := rfl
@[simp] theorem State.setTable_amms (i : Nat) (x : Option Table) : (s.setTable i x).amms = s.amms := rfl
@[simp] theorem State.setTable_gcache (i : Nat) (x : Option Table) : (s.setTable i x).gcache = s.gcache := rfl
@[simp] theorem State.setTable_abuf (i : Nat) (x : Option Table) : (s.setTable i x).abuf = s.abuf := rfl
@[simp] theorem State.setTable_victims (i : Nat) (x : Option Table) : (s.setTable i x).victims = s.victims := rfl
@[simp] theorem State.setTable_pool (i : Nat) (x : Option Table) : (s.setTable i x).pool = s.pool := rfl
@[simp] theorem State.setTable_poison (i : Nat) (x : Option Table) : (s.setTable i x).poison = s.poison := rfl
@[simp] theorem State.setTable_lineKey (i : Nat) (x : Option Table) : (s.setTable i x).lineKey = s.lineKey := rfl
@[simp] theorem State.setTable_granules (i : Nat) (x : Option Table) : (s.setTable i x).granules = s.granules := rfl
@[simp] theorem State.setTable_backed (i : Nat) (x : Option Table) : (s.setTable i x).backed = s.backed := rfl
@[simp] theorem State.setTable_preparing (i : Nat) (x : Option Table) : (s.setTable i x).preparing = s.preparing := rfl
@[simp] theorem State.setTable_ready (i : Nat) (x : Option Table) : (s.setTable i x).ready = s.ready := rfl
@[simp] theorem State.setTable_drives (i : Nat) (x : Option Table) : (s.setTable i x).drives = s.drives := rfl
@[simp] theorem State.setTable_stripe (i : Nat) (x : Option Table) : (s.setTable i x).stripe = s.stripe := rfl
@[simp] theorem State.setTable_ddr (i : Nat) (x : Option Table) : (s.setTable i x).ddr = s.ddr := rfl
@[simp] theorem State.setTable_tlb (i : Nat) (x : Option Table) : (s.setTable i x).tlb = s.tlb := rfl
@[simp] theorem State.setTable_walkCache (i : Nat) (x : Option Table) : (s.setTable i x).walkCache = s.walkCache := rfl
@[simp] theorem State.setTable_walks (i : Nat) (x : Option Table) : (s.setTable i x).walks = s.walks := rfl
@[simp] theorem State.setTable_bcasts (i : Nat) (x : Option Table) : (s.setTable i x).bcasts = s.bcasts := rfl
@[simp] theorem State.setTable_blocks (i : Nat) (x : Option Table) : (s.setTable i x).blocks = s.blocks := rfl
@[simp] theorem State.setTable_links (i : Nat) (x : Option Table) : (s.setTable i x).links = s.links := rfl
@[simp] theorem State.setTable_tags (i : Nat) (x : Option Table) : (s.setTable i x).tags = s.tags := rfl
@[simp] theorem State.setTable_dir (i : Nat) (x : Option Table) : (s.setTable i x).dir = s.dir := rfl
@[simp] theorem State.setTable_dirSeq (i : Nat) (x : Option Table) : (s.setTable i x).dirSeq = s.dirSeq := rfl
@[simp] theorem State.setTable_txns (i : Nat) (x : Option Table) : (s.setTable i x).txns = s.txns := rfl
@[simp] theorem State.setTable_homeWaits (i : Nat) (x : Option Table) : (s.setTable i x).homeWaits = s.homeWaits := rfl
@[simp] theorem State.setTable_net (i : Nat) (x : Option Table) : (s.setTable i x).net = s.net := rfl
@[simp] theorem State.setTable_marks (i : Nat) (x : Option Table) : (s.setTable i x).marks = s.marks := rfl
@[simp] theorem State.setTable_mgQueue (i : Nat) (x : Option Table) : (s.setTable i x).mgQueue = s.mgQueue := rfl
@[simp] theorem State.setTable_drains (i : Nat) (x : Option Table) : (s.setTable i x).drains = s.drains := rfl
@[simp] theorem State.setTable_modeSwitches (i : Nat) (x : Option Table) : (s.setTable i x).modeSwitches = s.modeSwitches := rfl
@[simp] theorem State.setTable_keeper (i : Nat) (x : Option Table) : (s.setTable i x).keeper = s.keeper := rfl
@[simp] theorem State.setTable_nvm (i : Nat) (x : Option Table) : (s.setTable i x).nvm = s.nvm := rfl
@[simp] theorem State.setTable_ras (i : Nat) (x : Option Table) : (s.setTable i x).ras = s.ras := rfl
@[simp] theorem State.setTable_pwr (i : Nat) (x : Option Table) : (s.setTable i x).pwr = s.pwr := rfl
@[simp] theorem State.setTable_use (i : Nat) (x : Option Table) : (s.setTable i x).use = s.use := rfl
@[simp] theorem State.setTable_engineQ (i : Nat) (x : Option Table) : (s.setTable i x).engineQ = s.engineQ := rfl
@[simp] theorem State.setTable_came (i : Nat) (x : Option Table) : (s.setTable i x).came = s.came := rfl
@[simp] theorem State.setTable_heldOps (i : Nat) (x : Option Table) : (s.setTable i x).heldOps = s.heldOps := rfl
@[simp] theorem State.setTable_receiving (i : Nat) (x : Option Table) : (s.setTable i x).receiving = s.receiving := rfl
@[simp] theorem State.setTable_sesCache (i : Nat) (x : Option Table) : (s.setTable i x).sesCache = s.sesCache := rfl
@[simp] theorem State.setTable_mgWaits (i : Nat) (x : Option Table) : (s.setTable i x).mgWaits = s.mgWaits := rfl
@[simp] theorem State.setTable_missed (i : Nat) (x : Option Table) : (s.setTable i x).missed = s.missed := rfl

/-! setVoice changes voices. -/

@[simp] theorem State.setVoice_pending (v : Nat) (x : Voice) : (s.setVoice v x).pending = s.pending := rfl
@[simp] theorem State.setVoice_out (v : Nat) (x : Voice) : (s.setVoice v x).out = s.out := rfl
@[simp] theorem State.setVoice_free (v : Nat) (x : Voice) : (s.setVoice v x).free = s.free := rfl
@[simp] theorem State.setVoice_variant (v : Nat) (x : Voice) : (s.setVoice v x).variant = s.variant := rfl
@[simp] theorem State.setVoice_time (v : Nat) (x : Voice) : (s.setVoice v x).time = s.time := rfl
@[simp] theorem State.setVoice_latch (v : Nat) (x : Voice) : (s.setVoice v x).latch = s.latch := rfl
@[simp] theorem State.setVoice_rwk (v : Nat) (x : Voice) : (s.setVoice v x).rwk = s.rwk := rfl
@[simp] theorem State.setVoice_regs (v : Nat) (x : Voice) : (s.setVoice v x).regs = s.regs := rfl
@[simp] theorem State.setVoice_ports (v : Nat) (x : Voice) : (s.setVoice v x).ports = s.ports := rfl
@[simp] theorem State.setVoice_rings (v : Nat) (x : Voice) : (s.setVoice v x).rings = s.rings := rfl
@[simp] theorem State.setVoice_ringCmd (v : Nat) (x : Voice) : (s.setVoice v x).ringCmd = s.ringCmd := rfl
@[simp] theorem State.setVoice_ringLast (v : Nat) (x : Voice) : (s.setVoice v x).ringLast = s.ringLast := rfl
@[simp] theorem State.setVoice_rot (v : Nat) (x : Voice) : (s.setVoice v x).rot = s.rot := rfl
@[simp] theorem State.setVoice_sessions (v : Nat) (x : Voice) : (s.setVoice v x).sessions = s.sessions := rfl
@[simp] theorem State.setVoice_leaves (v : Nat) (x : Voice) : (s.setVoice v x).leaves = s.leaves := rfl
@[simp] theorem State.setVoice_frames (v : Nat) (x : Voice) : (s.setVoice v x).frames = s.frames := rfl
@[simp] theorem State.setVoice_sesOps (v : Nat) (x : Voice) : (s.setVoice v x).sesOps = s.sesOps := rfl
@[simp] theorem State.setVoice_offers (v : Nat) (x : Voice) : (s.setVoice v x).offers = s.offers := rfl
@[simp] theorem State.setVoice_accepts (v : Nat) (x : Voice) : (s.setVoice v x).accepts = s.accepts := rfl
@[simp] theorem State.setVoice_pulls (v : Nat) (x : Voice) : (s.setVoice v x).pulls = s.pulls := rfl
@[simp] theorem State.setVoice_heldPulls (v : Nat) (x : Voice) : (s.setVoice v x).heldPulls = s.heldPulls := rfl
@[simp] theorem State.setVoice_discarded (v : Nat) (x : Voice) : (s.setVoice v x).discarded = s.discarded := rfl
@[simp] theorem State.setVoice_reclaims (v : Nat) (x : Voice) : (s.setVoice v x).reclaims = s.reclaims := rfl
@[simp] theorem State.setVoice_abftArm (v : Nat) (x : Voice) : (s.setVoice v x).abftArm = s.abftArm := rfl
@[simp] theorem State.setVoice_tables (v : Nat) (x : Voice) : (s.setVoice v x).tables = s.tables := rfl
@[simp] theorem State.setVoice_tabCmd (v : Nat) (x : Voice) : (s.setVoice v x).tabCmd = s.tabCmd := rfl
@[simp] theorem State.setVoice_tabLast (v : Nat) (x : Voice) : (s.setVoice v x).tabLast = s.tabLast := rfl
@[simp] theorem State.setVoice_steps (v : Nat) (x : Voice) : (s.setVoice v x).steps = s.steps := rfl
@[simp] theorem State.setVoice_grads (v : Nat) (x : Voice) : (s.setVoice v x).grads = s.grads := rfl
@[simp] theorem State.setVoice_installs (v : Nat) (x : Voice) : (s.setVoice v x).installs = s.installs := rfl
@[simp] theorem State.setVoice_poisonSteps (v : Nat) (x : Voice) : (s.setVoice v x).poisonSteps = s.poisonSteps := rfl
@[simp] theorem State.setVoice_pads (v : Nat) (x : Voice) : (s.setVoice v x).pads = s.pads := rfl
@[simp] theorem State.setVoice_carries (v : Nat) (x : Voice) : (s.setVoice v x).carries = s.carries := rfl
@[simp] theorem State.setVoice_amms (v : Nat) (x : Voice) : (s.setVoice v x).amms = s.amms := rfl
@[simp] theorem State.setVoice_gcache (v : Nat) (x : Voice) : (s.setVoice v x).gcache = s.gcache := rfl
@[simp] theorem State.setVoice_abuf (v : Nat) (x : Voice) : (s.setVoice v x).abuf = s.abuf := rfl
@[simp] theorem State.setVoice_victims (v : Nat) (x : Voice) : (s.setVoice v x).victims = s.victims := rfl
@[simp] theorem State.setVoice_pool (v : Nat) (x : Voice) : (s.setVoice v x).pool = s.pool := rfl
@[simp] theorem State.setVoice_poison (v : Nat) (x : Voice) : (s.setVoice v x).poison = s.poison := rfl
@[simp] theorem State.setVoice_lineKey (v : Nat) (x : Voice) : (s.setVoice v x).lineKey = s.lineKey := rfl
@[simp] theorem State.setVoice_granules (v : Nat) (x : Voice) : (s.setVoice v x).granules = s.granules := rfl
@[simp] theorem State.setVoice_backed (v : Nat) (x : Voice) : (s.setVoice v x).backed = s.backed := rfl
@[simp] theorem State.setVoice_preparing (v : Nat) (x : Voice) : (s.setVoice v x).preparing = s.preparing := rfl
@[simp] theorem State.setVoice_ready (v : Nat) (x : Voice) : (s.setVoice v x).ready = s.ready := rfl
@[simp] theorem State.setVoice_drives (v : Nat) (x : Voice) : (s.setVoice v x).drives = s.drives := rfl
@[simp] theorem State.setVoice_stripe (v : Nat) (x : Voice) : (s.setVoice v x).stripe = s.stripe := rfl
@[simp] theorem State.setVoice_ddr (v : Nat) (x : Voice) : (s.setVoice v x).ddr = s.ddr := rfl
@[simp] theorem State.setVoice_tlb (v : Nat) (x : Voice) : (s.setVoice v x).tlb = s.tlb := rfl
@[simp] theorem State.setVoice_walkCache (v : Nat) (x : Voice) : (s.setVoice v x).walkCache = s.walkCache := rfl
@[simp] theorem State.setVoice_walks (v : Nat) (x : Voice) : (s.setVoice v x).walks = s.walks := rfl
@[simp] theorem State.setVoice_bcasts (v : Nat) (x : Voice) : (s.setVoice v x).bcasts = s.bcasts := rfl
@[simp] theorem State.setVoice_blocks (v : Nat) (x : Voice) : (s.setVoice v x).blocks = s.blocks := rfl
@[simp] theorem State.setVoice_links (v : Nat) (x : Voice) : (s.setVoice v x).links = s.links := rfl
@[simp] theorem State.setVoice_tags (v : Nat) (x : Voice) : (s.setVoice v x).tags = s.tags := rfl
@[simp] theorem State.setVoice_dir (v : Nat) (x : Voice) : (s.setVoice v x).dir = s.dir := rfl
@[simp] theorem State.setVoice_dirSeq (v : Nat) (x : Voice) : (s.setVoice v x).dirSeq = s.dirSeq := rfl
@[simp] theorem State.setVoice_txns (v : Nat) (x : Voice) : (s.setVoice v x).txns = s.txns := rfl
@[simp] theorem State.setVoice_homeWaits (v : Nat) (x : Voice) : (s.setVoice v x).homeWaits = s.homeWaits := rfl
@[simp] theorem State.setVoice_net (v : Nat) (x : Voice) : (s.setVoice v x).net = s.net := rfl
@[simp] theorem State.setVoice_marks (v : Nat) (x : Voice) : (s.setVoice v x).marks = s.marks := rfl
@[simp] theorem State.setVoice_mgQueue (v : Nat) (x : Voice) : (s.setVoice v x).mgQueue = s.mgQueue := rfl
@[simp] theorem State.setVoice_drains (v : Nat) (x : Voice) : (s.setVoice v x).drains = s.drains := rfl
@[simp] theorem State.setVoice_modeSwitches (v : Nat) (x : Voice) : (s.setVoice v x).modeSwitches = s.modeSwitches := rfl
@[simp] theorem State.setVoice_keeper (v : Nat) (x : Voice) : (s.setVoice v x).keeper = s.keeper := rfl
@[simp] theorem State.setVoice_nvm (v : Nat) (x : Voice) : (s.setVoice v x).nvm = s.nvm := rfl
@[simp] theorem State.setVoice_ras (v : Nat) (x : Voice) : (s.setVoice v x).ras = s.ras := rfl
@[simp] theorem State.setVoice_pwr (v : Nat) (x : Voice) : (s.setVoice v x).pwr = s.pwr := rfl
@[simp] theorem State.setVoice_use (v : Nat) (x : Voice) : (s.setVoice v x).use = s.use := rfl
@[simp] theorem State.setVoice_engineQ (v : Nat) (x : Voice) : (s.setVoice v x).engineQ = s.engineQ := rfl
@[simp] theorem State.setVoice_came (v : Nat) (x : Voice) : (s.setVoice v x).came = s.came := rfl
@[simp] theorem State.setVoice_heldOps (v : Nat) (x : Voice) : (s.setVoice v x).heldOps = s.heldOps := rfl
@[simp] theorem State.setVoice_receiving (v : Nat) (x : Voice) : (s.setVoice v x).receiving = s.receiving := rfl
@[simp] theorem State.setVoice_sesCache (v : Nat) (x : Voice) : (s.setVoice v x).sesCache = s.sesCache := rfl
@[simp] theorem State.setVoice_mgWaits (v : Nat) (x : Voice) : (s.setVoice v x).mgWaits = s.mgWaits := rfl
@[simp] theorem State.setVoice_missed (v : Nat) (x : Voice) : (s.setVoice v x).missed = s.missed := rfl

/-! updVoice changes voices. -/

@[simp] theorem State.updVoice_pending (v : Nat) (f : Voice → Voice) : (s.updVoice v f).pending = s.pending := rfl
@[simp] theorem State.updVoice_out (v : Nat) (f : Voice → Voice) : (s.updVoice v f).out = s.out := rfl
@[simp] theorem State.updVoice_free (v : Nat) (f : Voice → Voice) : (s.updVoice v f).free = s.free := rfl
@[simp] theorem State.updVoice_variant (v : Nat) (f : Voice → Voice) : (s.updVoice v f).variant = s.variant := rfl
@[simp] theorem State.updVoice_time (v : Nat) (f : Voice → Voice) : (s.updVoice v f).time = s.time := rfl
@[simp] theorem State.updVoice_latch (v : Nat) (f : Voice → Voice) : (s.updVoice v f).latch = s.latch := rfl
@[simp] theorem State.updVoice_rwk (v : Nat) (f : Voice → Voice) : (s.updVoice v f).rwk = s.rwk := rfl
@[simp] theorem State.updVoice_regs (v : Nat) (f : Voice → Voice) : (s.updVoice v f).regs = s.regs := rfl
@[simp] theorem State.updVoice_ports (v : Nat) (f : Voice → Voice) : (s.updVoice v f).ports = s.ports := rfl
@[simp] theorem State.updVoice_rings (v : Nat) (f : Voice → Voice) : (s.updVoice v f).rings = s.rings := rfl
@[simp] theorem State.updVoice_ringCmd (v : Nat) (f : Voice → Voice) : (s.updVoice v f).ringCmd = s.ringCmd := rfl
@[simp] theorem State.updVoice_ringLast (v : Nat) (f : Voice → Voice) : (s.updVoice v f).ringLast = s.ringLast := rfl
@[simp] theorem State.updVoice_rot (v : Nat) (f : Voice → Voice) : (s.updVoice v f).rot = s.rot := rfl
@[simp] theorem State.updVoice_sessions (v : Nat) (f : Voice → Voice) : (s.updVoice v f).sessions = s.sessions := rfl
@[simp] theorem State.updVoice_leaves (v : Nat) (f : Voice → Voice) : (s.updVoice v f).leaves = s.leaves := rfl
@[simp] theorem State.updVoice_frames (v : Nat) (f : Voice → Voice) : (s.updVoice v f).frames = s.frames := rfl
@[simp] theorem State.updVoice_sesOps (v : Nat) (f : Voice → Voice) : (s.updVoice v f).sesOps = s.sesOps := rfl
@[simp] theorem State.updVoice_offers (v : Nat) (f : Voice → Voice) : (s.updVoice v f).offers = s.offers := rfl
@[simp] theorem State.updVoice_accepts (v : Nat) (f : Voice → Voice) : (s.updVoice v f).accepts = s.accepts := rfl
@[simp] theorem State.updVoice_pulls (v : Nat) (f : Voice → Voice) : (s.updVoice v f).pulls = s.pulls := rfl
@[simp] theorem State.updVoice_heldPulls (v : Nat) (f : Voice → Voice) : (s.updVoice v f).heldPulls = s.heldPulls := rfl
@[simp] theorem State.updVoice_discarded (v : Nat) (f : Voice → Voice) : (s.updVoice v f).discarded = s.discarded := rfl
@[simp] theorem State.updVoice_reclaims (v : Nat) (f : Voice → Voice) : (s.updVoice v f).reclaims = s.reclaims := rfl
@[simp] theorem State.updVoice_abftArm (v : Nat) (f : Voice → Voice) : (s.updVoice v f).abftArm = s.abftArm := rfl
@[simp] theorem State.updVoice_tables (v : Nat) (f : Voice → Voice) : (s.updVoice v f).tables = s.tables := rfl
@[simp] theorem State.updVoice_tabCmd (v : Nat) (f : Voice → Voice) : (s.updVoice v f).tabCmd = s.tabCmd := rfl
@[simp] theorem State.updVoice_tabLast (v : Nat) (f : Voice → Voice) : (s.updVoice v f).tabLast = s.tabLast := rfl
@[simp] theorem State.updVoice_steps (v : Nat) (f : Voice → Voice) : (s.updVoice v f).steps = s.steps := rfl
@[simp] theorem State.updVoice_grads (v : Nat) (f : Voice → Voice) : (s.updVoice v f).grads = s.grads := rfl
@[simp] theorem State.updVoice_installs (v : Nat) (f : Voice → Voice) : (s.updVoice v f).installs = s.installs := rfl
@[simp] theorem State.updVoice_poisonSteps (v : Nat) (f : Voice → Voice) : (s.updVoice v f).poisonSteps = s.poisonSteps := rfl
@[simp] theorem State.updVoice_pads (v : Nat) (f : Voice → Voice) : (s.updVoice v f).pads = s.pads := rfl
@[simp] theorem State.updVoice_carries (v : Nat) (f : Voice → Voice) : (s.updVoice v f).carries = s.carries := rfl
@[simp] theorem State.updVoice_amms (v : Nat) (f : Voice → Voice) : (s.updVoice v f).amms = s.amms := rfl
@[simp] theorem State.updVoice_gcache (v : Nat) (f : Voice → Voice) : (s.updVoice v f).gcache = s.gcache := rfl
@[simp] theorem State.updVoice_abuf (v : Nat) (f : Voice → Voice) : (s.updVoice v f).abuf = s.abuf := rfl
@[simp] theorem State.updVoice_victims (v : Nat) (f : Voice → Voice) : (s.updVoice v f).victims = s.victims := rfl
@[simp] theorem State.updVoice_pool (v : Nat) (f : Voice → Voice) : (s.updVoice v f).pool = s.pool := rfl
@[simp] theorem State.updVoice_poison (v : Nat) (f : Voice → Voice) : (s.updVoice v f).poison = s.poison := rfl
@[simp] theorem State.updVoice_lineKey (v : Nat) (f : Voice → Voice) : (s.updVoice v f).lineKey = s.lineKey := rfl
@[simp] theorem State.updVoice_granules (v : Nat) (f : Voice → Voice) : (s.updVoice v f).granules = s.granules := rfl
@[simp] theorem State.updVoice_backed (v : Nat) (f : Voice → Voice) : (s.updVoice v f).backed = s.backed := rfl
@[simp] theorem State.updVoice_preparing (v : Nat) (f : Voice → Voice) : (s.updVoice v f).preparing = s.preparing := rfl
@[simp] theorem State.updVoice_ready (v : Nat) (f : Voice → Voice) : (s.updVoice v f).ready = s.ready := rfl
@[simp] theorem State.updVoice_drives (v : Nat) (f : Voice → Voice) : (s.updVoice v f).drives = s.drives := rfl
@[simp] theorem State.updVoice_stripe (v : Nat) (f : Voice → Voice) : (s.updVoice v f).stripe = s.stripe := rfl
@[simp] theorem State.updVoice_ddr (v : Nat) (f : Voice → Voice) : (s.updVoice v f).ddr = s.ddr := rfl
@[simp] theorem State.updVoice_tlb (v : Nat) (f : Voice → Voice) : (s.updVoice v f).tlb = s.tlb := rfl
@[simp] theorem State.updVoice_walkCache (v : Nat) (f : Voice → Voice) : (s.updVoice v f).walkCache = s.walkCache := rfl
@[simp] theorem State.updVoice_walks (v : Nat) (f : Voice → Voice) : (s.updVoice v f).walks = s.walks := rfl
@[simp] theorem State.updVoice_bcasts (v : Nat) (f : Voice → Voice) : (s.updVoice v f).bcasts = s.bcasts := rfl
@[simp] theorem State.updVoice_blocks (v : Nat) (f : Voice → Voice) : (s.updVoice v f).blocks = s.blocks := rfl
@[simp] theorem State.updVoice_links (v : Nat) (f : Voice → Voice) : (s.updVoice v f).links = s.links := rfl
@[simp] theorem State.updVoice_tags (v : Nat) (f : Voice → Voice) : (s.updVoice v f).tags = s.tags := rfl
@[simp] theorem State.updVoice_dir (v : Nat) (f : Voice → Voice) : (s.updVoice v f).dir = s.dir := rfl
@[simp] theorem State.updVoice_dirSeq (v : Nat) (f : Voice → Voice) : (s.updVoice v f).dirSeq = s.dirSeq := rfl
@[simp] theorem State.updVoice_txns (v : Nat) (f : Voice → Voice) : (s.updVoice v f).txns = s.txns := rfl
@[simp] theorem State.updVoice_homeWaits (v : Nat) (f : Voice → Voice) : (s.updVoice v f).homeWaits = s.homeWaits := rfl
@[simp] theorem State.updVoice_net (v : Nat) (f : Voice → Voice) : (s.updVoice v f).net = s.net := rfl
@[simp] theorem State.updVoice_marks (v : Nat) (f : Voice → Voice) : (s.updVoice v f).marks = s.marks := rfl
@[simp] theorem State.updVoice_mgQueue (v : Nat) (f : Voice → Voice) : (s.updVoice v f).mgQueue = s.mgQueue := rfl
@[simp] theorem State.updVoice_drains (v : Nat) (f : Voice → Voice) : (s.updVoice v f).drains = s.drains := rfl
@[simp] theorem State.updVoice_modeSwitches (v : Nat) (f : Voice → Voice) : (s.updVoice v f).modeSwitches = s.modeSwitches := rfl
@[simp] theorem State.updVoice_keeper (v : Nat) (f : Voice → Voice) : (s.updVoice v f).keeper = s.keeper := rfl
@[simp] theorem State.updVoice_nvm (v : Nat) (f : Voice → Voice) : (s.updVoice v f).nvm = s.nvm := rfl
@[simp] theorem State.updVoice_ras (v : Nat) (f : Voice → Voice) : (s.updVoice v f).ras = s.ras := rfl
@[simp] theorem State.updVoice_pwr (v : Nat) (f : Voice → Voice) : (s.updVoice v f).pwr = s.pwr := rfl
@[simp] theorem State.updVoice_use (v : Nat) (f : Voice → Voice) : (s.updVoice v f).use = s.use := rfl
@[simp] theorem State.updVoice_engineQ (v : Nat) (f : Voice → Voice) : (s.updVoice v f).engineQ = s.engineQ := rfl
@[simp] theorem State.updVoice_came (v : Nat) (f : Voice → Voice) : (s.updVoice v f).came = s.came := rfl
@[simp] theorem State.updVoice_heldOps (v : Nat) (f : Voice → Voice) : (s.updVoice v f).heldOps = s.heldOps := rfl
@[simp] theorem State.updVoice_receiving (v : Nat) (f : Voice → Voice) : (s.updVoice v f).receiving = s.receiving := rfl
@[simp] theorem State.updVoice_sesCache (v : Nat) (f : Voice → Voice) : (s.updVoice v f).sesCache = s.sesCache := rfl
@[simp] theorem State.updVoice_mgWaits (v : Nat) (f : Voice → Voice) : (s.updVoice v f).mgWaits = s.mgWaits := rfl
@[simp] theorem State.updVoice_missed (v : Nat) (f : Voice → Voice) : (s.updVoice v f).missed = s.missed := rfl

/-! setGranule changes granules. -/

@[simp] theorem State.setGranule_pending (g : Nat) (x : Granule) : (s.setGranule g x).pending = s.pending := rfl
@[simp] theorem State.setGranule_out (g : Nat) (x : Granule) : (s.setGranule g x).out = s.out := rfl
@[simp] theorem State.setGranule_free (g : Nat) (x : Granule) : (s.setGranule g x).free = s.free := rfl
@[simp] theorem State.setGranule_variant (g : Nat) (x : Granule) : (s.setGranule g x).variant = s.variant := rfl
@[simp] theorem State.setGranule_time (g : Nat) (x : Granule) : (s.setGranule g x).time = s.time := rfl
@[simp] theorem State.setGranule_latch (g : Nat) (x : Granule) : (s.setGranule g x).latch = s.latch := rfl
@[simp] theorem State.setGranule_rwk (g : Nat) (x : Granule) : (s.setGranule g x).rwk = s.rwk := rfl
@[simp] theorem State.setGranule_regs (g : Nat) (x : Granule) : (s.setGranule g x).regs = s.regs := rfl
@[simp] theorem State.setGranule_ports (g : Nat) (x : Granule) : (s.setGranule g x).ports = s.ports := rfl
@[simp] theorem State.setGranule_rings (g : Nat) (x : Granule) : (s.setGranule g x).rings = s.rings := rfl
@[simp] theorem State.setGranule_ringCmd (g : Nat) (x : Granule) : (s.setGranule g x).ringCmd = s.ringCmd := rfl
@[simp] theorem State.setGranule_ringLast (g : Nat) (x : Granule) : (s.setGranule g x).ringLast = s.ringLast := rfl
@[simp] theorem State.setGranule_rot (g : Nat) (x : Granule) : (s.setGranule g x).rot = s.rot := rfl
@[simp] theorem State.setGranule_sessions (g : Nat) (x : Granule) : (s.setGranule g x).sessions = s.sessions := rfl
@[simp] theorem State.setGranule_leaves (g : Nat) (x : Granule) : (s.setGranule g x).leaves = s.leaves := rfl
@[simp] theorem State.setGranule_frames (g : Nat) (x : Granule) : (s.setGranule g x).frames = s.frames := rfl
@[simp] theorem State.setGranule_sesOps (g : Nat) (x : Granule) : (s.setGranule g x).sesOps = s.sesOps := rfl
@[simp] theorem State.setGranule_offers (g : Nat) (x : Granule) : (s.setGranule g x).offers = s.offers := rfl
@[simp] theorem State.setGranule_accepts (g : Nat) (x : Granule) : (s.setGranule g x).accepts = s.accepts := rfl
@[simp] theorem State.setGranule_pulls (g : Nat) (x : Granule) : (s.setGranule g x).pulls = s.pulls := rfl
@[simp] theorem State.setGranule_heldPulls (g : Nat) (x : Granule) : (s.setGranule g x).heldPulls = s.heldPulls := rfl
@[simp] theorem State.setGranule_discarded (g : Nat) (x : Granule) : (s.setGranule g x).discarded = s.discarded := rfl
@[simp] theorem State.setGranule_reclaims (g : Nat) (x : Granule) : (s.setGranule g x).reclaims = s.reclaims := rfl
@[simp] theorem State.setGranule_abftArm (g : Nat) (x : Granule) : (s.setGranule g x).abftArm = s.abftArm := rfl
@[simp] theorem State.setGranule_tables (g : Nat) (x : Granule) : (s.setGranule g x).tables = s.tables := rfl
@[simp] theorem State.setGranule_tabCmd (g : Nat) (x : Granule) : (s.setGranule g x).tabCmd = s.tabCmd := rfl
@[simp] theorem State.setGranule_tabLast (g : Nat) (x : Granule) : (s.setGranule g x).tabLast = s.tabLast := rfl
@[simp] theorem State.setGranule_steps (g : Nat) (x : Granule) : (s.setGranule g x).steps = s.steps := rfl
@[simp] theorem State.setGranule_grads (g : Nat) (x : Granule) : (s.setGranule g x).grads = s.grads := rfl
@[simp] theorem State.setGranule_installs (g : Nat) (x : Granule) : (s.setGranule g x).installs = s.installs := rfl
@[simp] theorem State.setGranule_poisonSteps (g : Nat) (x : Granule) : (s.setGranule g x).poisonSteps = s.poisonSteps := rfl
@[simp] theorem State.setGranule_voices (g : Nat) (x : Granule) : (s.setGranule g x).voices = s.voices := rfl
@[simp] theorem State.setGranule_pads (g : Nat) (x : Granule) : (s.setGranule g x).pads = s.pads := rfl
@[simp] theorem State.setGranule_carries (g : Nat) (x : Granule) : (s.setGranule g x).carries = s.carries := rfl
@[simp] theorem State.setGranule_amms (g : Nat) (x : Granule) : (s.setGranule g x).amms = s.amms := rfl
@[simp] theorem State.setGranule_gcache (g : Nat) (x : Granule) : (s.setGranule g x).gcache = s.gcache := rfl
@[simp] theorem State.setGranule_abuf (g : Nat) (x : Granule) : (s.setGranule g x).abuf = s.abuf := rfl
@[simp] theorem State.setGranule_victims (g : Nat) (x : Granule) : (s.setGranule g x).victims = s.victims := rfl
@[simp] theorem State.setGranule_pool (g : Nat) (x : Granule) : (s.setGranule g x).pool = s.pool := rfl
@[simp] theorem State.setGranule_poison (g : Nat) (x : Granule) : (s.setGranule g x).poison = s.poison := rfl
@[simp] theorem State.setGranule_lineKey (g : Nat) (x : Granule) : (s.setGranule g x).lineKey = s.lineKey := rfl
@[simp] theorem State.setGranule_backed (g : Nat) (x : Granule) : (s.setGranule g x).backed = s.backed := rfl
@[simp] theorem State.setGranule_preparing (g : Nat) (x : Granule) : (s.setGranule g x).preparing = s.preparing := rfl
@[simp] theorem State.setGranule_ready (g : Nat) (x : Granule) : (s.setGranule g x).ready = s.ready := rfl
@[simp] theorem State.setGranule_drives (g : Nat) (x : Granule) : (s.setGranule g x).drives = s.drives := rfl
@[simp] theorem State.setGranule_stripe (g : Nat) (x : Granule) : (s.setGranule g x).stripe = s.stripe := rfl
@[simp] theorem State.setGranule_ddr (g : Nat) (x : Granule) : (s.setGranule g x).ddr = s.ddr := rfl
@[simp] theorem State.setGranule_tlb (g : Nat) (x : Granule) : (s.setGranule g x).tlb = s.tlb := rfl
@[simp] theorem State.setGranule_walkCache (g : Nat) (x : Granule) : (s.setGranule g x).walkCache = s.walkCache := rfl
@[simp] theorem State.setGranule_walks (g : Nat) (x : Granule) : (s.setGranule g x).walks = s.walks := rfl
@[simp] theorem State.setGranule_bcasts (g : Nat) (x : Granule) : (s.setGranule g x).bcasts = s.bcasts := rfl
@[simp] theorem State.setGranule_blocks (g : Nat) (x : Granule) : (s.setGranule g x).blocks = s.blocks := rfl
@[simp] theorem State.setGranule_links (g : Nat) (x : Granule) : (s.setGranule g x).links = s.links := rfl
@[simp] theorem State.setGranule_tags (g : Nat) (x : Granule) : (s.setGranule g x).tags = s.tags := rfl
@[simp] theorem State.setGranule_dir (g : Nat) (x : Granule) : (s.setGranule g x).dir = s.dir := rfl
@[simp] theorem State.setGranule_dirSeq (g : Nat) (x : Granule) : (s.setGranule g x).dirSeq = s.dirSeq := rfl
@[simp] theorem State.setGranule_txns (g : Nat) (x : Granule) : (s.setGranule g x).txns = s.txns := rfl
@[simp] theorem State.setGranule_homeWaits (g : Nat) (x : Granule) : (s.setGranule g x).homeWaits = s.homeWaits := rfl
@[simp] theorem State.setGranule_net (g : Nat) (x : Granule) : (s.setGranule g x).net = s.net := rfl
@[simp] theorem State.setGranule_marks (g : Nat) (x : Granule) : (s.setGranule g x).marks = s.marks := rfl
@[simp] theorem State.setGranule_mgQueue (g : Nat) (x : Granule) : (s.setGranule g x).mgQueue = s.mgQueue := rfl
@[simp] theorem State.setGranule_drains (g : Nat) (x : Granule) : (s.setGranule g x).drains = s.drains := rfl
@[simp] theorem State.setGranule_modeSwitches (g : Nat) (x : Granule) : (s.setGranule g x).modeSwitches = s.modeSwitches := rfl
@[simp] theorem State.setGranule_keeper (g : Nat) (x : Granule) : (s.setGranule g x).keeper = s.keeper := rfl
@[simp] theorem State.setGranule_nvm (g : Nat) (x : Granule) : (s.setGranule g x).nvm = s.nvm := rfl
@[simp] theorem State.setGranule_ras (g : Nat) (x : Granule) : (s.setGranule g x).ras = s.ras := rfl
@[simp] theorem State.setGranule_pwr (g : Nat) (x : Granule) : (s.setGranule g x).pwr = s.pwr := rfl
@[simp] theorem State.setGranule_use (g : Nat) (x : Granule) : (s.setGranule g x).use = s.use := rfl
@[simp] theorem State.setGranule_engineQ (g : Nat) (x : Granule) : (s.setGranule g x).engineQ = s.engineQ := rfl
@[simp] theorem State.setGranule_came (g : Nat) (x : Granule) : (s.setGranule g x).came = s.came := rfl
@[simp] theorem State.setGranule_heldOps (g : Nat) (x : Granule) : (s.setGranule g x).heldOps = s.heldOps := rfl
@[simp] theorem State.setGranule_receiving (g : Nat) (x : Granule) : (s.setGranule g x).receiving = s.receiving := rfl
@[simp] theorem State.setGranule_sesCache (g : Nat) (x : Granule) : (s.setGranule g x).sesCache = s.sesCache := rfl
@[simp] theorem State.setGranule_mgWaits (g : Nat) (x : Granule) : (s.setGranule g x).mgWaits = s.mgWaits := rfl
@[simp] theorem State.setGranule_missed (g : Nat) (x : Granule) : (s.setGranule g x).missed = s.missed := rfl

/-! updGranule changes granules. -/

@[simp] theorem State.updGranule_pending (g : Nat) (f : Granule → Granule) : (s.updGranule g f).pending = s.pending := rfl
@[simp] theorem State.updGranule_out (g : Nat) (f : Granule → Granule) : (s.updGranule g f).out = s.out := rfl
@[simp] theorem State.updGranule_free (g : Nat) (f : Granule → Granule) : (s.updGranule g f).free = s.free := rfl
@[simp] theorem State.updGranule_variant (g : Nat) (f : Granule → Granule) : (s.updGranule g f).variant = s.variant := rfl
@[simp] theorem State.updGranule_time (g : Nat) (f : Granule → Granule) : (s.updGranule g f).time = s.time := rfl
@[simp] theorem State.updGranule_latch (g : Nat) (f : Granule → Granule) : (s.updGranule g f).latch = s.latch := rfl
@[simp] theorem State.updGranule_rwk (g : Nat) (f : Granule → Granule) : (s.updGranule g f).rwk = s.rwk := rfl
@[simp] theorem State.updGranule_regs (g : Nat) (f : Granule → Granule) : (s.updGranule g f).regs = s.regs := rfl
@[simp] theorem State.updGranule_ports (g : Nat) (f : Granule → Granule) : (s.updGranule g f).ports = s.ports := rfl
@[simp] theorem State.updGranule_rings (g : Nat) (f : Granule → Granule) : (s.updGranule g f).rings = s.rings := rfl
@[simp] theorem State.updGranule_ringCmd (g : Nat) (f : Granule → Granule) : (s.updGranule g f).ringCmd = s.ringCmd := rfl
@[simp] theorem State.updGranule_ringLast (g : Nat) (f : Granule → Granule) : (s.updGranule g f).ringLast = s.ringLast := rfl
@[simp] theorem State.updGranule_rot (g : Nat) (f : Granule → Granule) : (s.updGranule g f).rot = s.rot := rfl
@[simp] theorem State.updGranule_sessions (g : Nat) (f : Granule → Granule) : (s.updGranule g f).sessions = s.sessions := rfl
@[simp] theorem State.updGranule_leaves (g : Nat) (f : Granule → Granule) : (s.updGranule g f).leaves = s.leaves := rfl
@[simp] theorem State.updGranule_frames (g : Nat) (f : Granule → Granule) : (s.updGranule g f).frames = s.frames := rfl
@[simp] theorem State.updGranule_sesOps (g : Nat) (f : Granule → Granule) : (s.updGranule g f).sesOps = s.sesOps := rfl
@[simp] theorem State.updGranule_offers (g : Nat) (f : Granule → Granule) : (s.updGranule g f).offers = s.offers := rfl
@[simp] theorem State.updGranule_accepts (g : Nat) (f : Granule → Granule) : (s.updGranule g f).accepts = s.accepts := rfl
@[simp] theorem State.updGranule_pulls (g : Nat) (f : Granule → Granule) : (s.updGranule g f).pulls = s.pulls := rfl
@[simp] theorem State.updGranule_heldPulls (g : Nat) (f : Granule → Granule) : (s.updGranule g f).heldPulls = s.heldPulls := rfl
@[simp] theorem State.updGranule_discarded (g : Nat) (f : Granule → Granule) : (s.updGranule g f).discarded = s.discarded := rfl
@[simp] theorem State.updGranule_reclaims (g : Nat) (f : Granule → Granule) : (s.updGranule g f).reclaims = s.reclaims := rfl
@[simp] theorem State.updGranule_abftArm (g : Nat) (f : Granule → Granule) : (s.updGranule g f).abftArm = s.abftArm := rfl
@[simp] theorem State.updGranule_tables (g : Nat) (f : Granule → Granule) : (s.updGranule g f).tables = s.tables := rfl
@[simp] theorem State.updGranule_tabCmd (g : Nat) (f : Granule → Granule) : (s.updGranule g f).tabCmd = s.tabCmd := rfl
@[simp] theorem State.updGranule_tabLast (g : Nat) (f : Granule → Granule) : (s.updGranule g f).tabLast = s.tabLast := rfl
@[simp] theorem State.updGranule_steps (g : Nat) (f : Granule → Granule) : (s.updGranule g f).steps = s.steps := rfl
@[simp] theorem State.updGranule_grads (g : Nat) (f : Granule → Granule) : (s.updGranule g f).grads = s.grads := rfl
@[simp] theorem State.updGranule_installs (g : Nat) (f : Granule → Granule) : (s.updGranule g f).installs = s.installs := rfl
@[simp] theorem State.updGranule_poisonSteps (g : Nat) (f : Granule → Granule) : (s.updGranule g f).poisonSteps = s.poisonSteps := rfl
@[simp] theorem State.updGranule_voices (g : Nat) (f : Granule → Granule) : (s.updGranule g f).voices = s.voices := rfl
@[simp] theorem State.updGranule_pads (g : Nat) (f : Granule → Granule) : (s.updGranule g f).pads = s.pads := rfl
@[simp] theorem State.updGranule_carries (g : Nat) (f : Granule → Granule) : (s.updGranule g f).carries = s.carries := rfl
@[simp] theorem State.updGranule_amms (g : Nat) (f : Granule → Granule) : (s.updGranule g f).amms = s.amms := rfl
@[simp] theorem State.updGranule_gcache (g : Nat) (f : Granule → Granule) : (s.updGranule g f).gcache = s.gcache := rfl
@[simp] theorem State.updGranule_abuf (g : Nat) (f : Granule → Granule) : (s.updGranule g f).abuf = s.abuf := rfl
@[simp] theorem State.updGranule_victims (g : Nat) (f : Granule → Granule) : (s.updGranule g f).victims = s.victims := rfl
@[simp] theorem State.updGranule_pool (g : Nat) (f : Granule → Granule) : (s.updGranule g f).pool = s.pool := rfl
@[simp] theorem State.updGranule_poison (g : Nat) (f : Granule → Granule) : (s.updGranule g f).poison = s.poison := rfl
@[simp] theorem State.updGranule_lineKey (g : Nat) (f : Granule → Granule) : (s.updGranule g f).lineKey = s.lineKey := rfl
@[simp] theorem State.updGranule_backed (g : Nat) (f : Granule → Granule) : (s.updGranule g f).backed = s.backed := rfl
@[simp] theorem State.updGranule_preparing (g : Nat) (f : Granule → Granule) : (s.updGranule g f).preparing = s.preparing := rfl
@[simp] theorem State.updGranule_ready (g : Nat) (f : Granule → Granule) : (s.updGranule g f).ready = s.ready := rfl
@[simp] theorem State.updGranule_drives (g : Nat) (f : Granule → Granule) : (s.updGranule g f).drives = s.drives := rfl
@[simp] theorem State.updGranule_stripe (g : Nat) (f : Granule → Granule) : (s.updGranule g f).stripe = s.stripe := rfl
@[simp] theorem State.updGranule_ddr (g : Nat) (f : Granule → Granule) : (s.updGranule g f).ddr = s.ddr := rfl
@[simp] theorem State.updGranule_tlb (g : Nat) (f : Granule → Granule) : (s.updGranule g f).tlb = s.tlb := rfl
@[simp] theorem State.updGranule_walkCache (g : Nat) (f : Granule → Granule) : (s.updGranule g f).walkCache = s.walkCache := rfl
@[simp] theorem State.updGranule_walks (g : Nat) (f : Granule → Granule) : (s.updGranule g f).walks = s.walks := rfl
@[simp] theorem State.updGranule_bcasts (g : Nat) (f : Granule → Granule) : (s.updGranule g f).bcasts = s.bcasts := rfl
@[simp] theorem State.updGranule_blocks (g : Nat) (f : Granule → Granule) : (s.updGranule g f).blocks = s.blocks := rfl
@[simp] theorem State.updGranule_links (g : Nat) (f : Granule → Granule) : (s.updGranule g f).links = s.links := rfl
@[simp] theorem State.updGranule_tags (g : Nat) (f : Granule → Granule) : (s.updGranule g f).tags = s.tags := rfl
@[simp] theorem State.updGranule_dir (g : Nat) (f : Granule → Granule) : (s.updGranule g f).dir = s.dir := rfl
@[simp] theorem State.updGranule_dirSeq (g : Nat) (f : Granule → Granule) : (s.updGranule g f).dirSeq = s.dirSeq := rfl
@[simp] theorem State.updGranule_txns (g : Nat) (f : Granule → Granule) : (s.updGranule g f).txns = s.txns := rfl
@[simp] theorem State.updGranule_homeWaits (g : Nat) (f : Granule → Granule) : (s.updGranule g f).homeWaits = s.homeWaits := rfl
@[simp] theorem State.updGranule_net (g : Nat) (f : Granule → Granule) : (s.updGranule g f).net = s.net := rfl
@[simp] theorem State.updGranule_marks (g : Nat) (f : Granule → Granule) : (s.updGranule g f).marks = s.marks := rfl
@[simp] theorem State.updGranule_mgQueue (g : Nat) (f : Granule → Granule) : (s.updGranule g f).mgQueue = s.mgQueue := rfl
@[simp] theorem State.updGranule_drains (g : Nat) (f : Granule → Granule) : (s.updGranule g f).drains = s.drains := rfl
@[simp] theorem State.updGranule_modeSwitches (g : Nat) (f : Granule → Granule) : (s.updGranule g f).modeSwitches = s.modeSwitches := rfl
@[simp] theorem State.updGranule_keeper (g : Nat) (f : Granule → Granule) : (s.updGranule g f).keeper = s.keeper := rfl
@[simp] theorem State.updGranule_nvm (g : Nat) (f : Granule → Granule) : (s.updGranule g f).nvm = s.nvm := rfl
@[simp] theorem State.updGranule_ras (g : Nat) (f : Granule → Granule) : (s.updGranule g f).ras = s.ras := rfl
@[simp] theorem State.updGranule_pwr (g : Nat) (f : Granule → Granule) : (s.updGranule g f).pwr = s.pwr := rfl
@[simp] theorem State.updGranule_use (g : Nat) (f : Granule → Granule) : (s.updGranule g f).use = s.use := rfl
@[simp] theorem State.updGranule_engineQ (g : Nat) (f : Granule → Granule) : (s.updGranule g f).engineQ = s.engineQ := rfl
@[simp] theorem State.updGranule_came (g : Nat) (f : Granule → Granule) : (s.updGranule g f).came = s.came := rfl
@[simp] theorem State.updGranule_heldOps (g : Nat) (f : Granule → Granule) : (s.updGranule g f).heldOps = s.heldOps := rfl
@[simp] theorem State.updGranule_receiving (g : Nat) (f : Granule → Granule) : (s.updGranule g f).receiving = s.receiving := rfl
@[simp] theorem State.updGranule_sesCache (g : Nat) (f : Granule → Granule) : (s.updGranule g f).sesCache = s.sesCache := rfl
@[simp] theorem State.updGranule_mgWaits (g : Nat) (f : Granule → Granule) : (s.updGranule g f).mgWaits = s.mgWaits := rfl
@[simp] theorem State.updGranule_missed (g : Nat) (f : Granule → Granule) : (s.updGranule g f).missed = s.missed := rfl

/-! updDrive changes drives. -/

@[simp] theorem State.updDrive_pending (d : Nat) (f : Drive → Drive) : (s.updDrive d f).pending = s.pending := rfl
@[simp] theorem State.updDrive_out (d : Nat) (f : Drive → Drive) : (s.updDrive d f).out = s.out := rfl
@[simp] theorem State.updDrive_free (d : Nat) (f : Drive → Drive) : (s.updDrive d f).free = s.free := rfl
@[simp] theorem State.updDrive_variant (d : Nat) (f : Drive → Drive) : (s.updDrive d f).variant = s.variant := rfl
@[simp] theorem State.updDrive_time (d : Nat) (f : Drive → Drive) : (s.updDrive d f).time = s.time := rfl
@[simp] theorem State.updDrive_latch (d : Nat) (f : Drive → Drive) : (s.updDrive d f).latch = s.latch := rfl
@[simp] theorem State.updDrive_rwk (d : Nat) (f : Drive → Drive) : (s.updDrive d f).rwk = s.rwk := rfl
@[simp] theorem State.updDrive_regs (d : Nat) (f : Drive → Drive) : (s.updDrive d f).regs = s.regs := rfl
@[simp] theorem State.updDrive_ports (d : Nat) (f : Drive → Drive) : (s.updDrive d f).ports = s.ports := rfl
@[simp] theorem State.updDrive_rings (d : Nat) (f : Drive → Drive) : (s.updDrive d f).rings = s.rings := rfl
@[simp] theorem State.updDrive_ringCmd (d : Nat) (f : Drive → Drive) : (s.updDrive d f).ringCmd = s.ringCmd := rfl
@[simp] theorem State.updDrive_ringLast (d : Nat) (f : Drive → Drive) : (s.updDrive d f).ringLast = s.ringLast := rfl
@[simp] theorem State.updDrive_rot (d : Nat) (f : Drive → Drive) : (s.updDrive d f).rot = s.rot := rfl
@[simp] theorem State.updDrive_sessions (d : Nat) (f : Drive → Drive) : (s.updDrive d f).sessions = s.sessions := rfl
@[simp] theorem State.updDrive_leaves (d : Nat) (f : Drive → Drive) : (s.updDrive d f).leaves = s.leaves := rfl
@[simp] theorem State.updDrive_frames (d : Nat) (f : Drive → Drive) : (s.updDrive d f).frames = s.frames := rfl
@[simp] theorem State.updDrive_sesOps (d : Nat) (f : Drive → Drive) : (s.updDrive d f).sesOps = s.sesOps := rfl
@[simp] theorem State.updDrive_offers (d : Nat) (f : Drive → Drive) : (s.updDrive d f).offers = s.offers := rfl
@[simp] theorem State.updDrive_accepts (d : Nat) (f : Drive → Drive) : (s.updDrive d f).accepts = s.accepts := rfl
@[simp] theorem State.updDrive_pulls (d : Nat) (f : Drive → Drive) : (s.updDrive d f).pulls = s.pulls := rfl
@[simp] theorem State.updDrive_heldPulls (d : Nat) (f : Drive → Drive) : (s.updDrive d f).heldPulls = s.heldPulls := rfl
@[simp] theorem State.updDrive_discarded (d : Nat) (f : Drive → Drive) : (s.updDrive d f).discarded = s.discarded := rfl
@[simp] theorem State.updDrive_reclaims (d : Nat) (f : Drive → Drive) : (s.updDrive d f).reclaims = s.reclaims := rfl
@[simp] theorem State.updDrive_abftArm (d : Nat) (f : Drive → Drive) : (s.updDrive d f).abftArm = s.abftArm := rfl
@[simp] theorem State.updDrive_tables (d : Nat) (f : Drive → Drive) : (s.updDrive d f).tables = s.tables := rfl
@[simp] theorem State.updDrive_tabCmd (d : Nat) (f : Drive → Drive) : (s.updDrive d f).tabCmd = s.tabCmd := rfl
@[simp] theorem State.updDrive_tabLast (d : Nat) (f : Drive → Drive) : (s.updDrive d f).tabLast = s.tabLast := rfl
@[simp] theorem State.updDrive_steps (d : Nat) (f : Drive → Drive) : (s.updDrive d f).steps = s.steps := rfl
@[simp] theorem State.updDrive_grads (d : Nat) (f : Drive → Drive) : (s.updDrive d f).grads = s.grads := rfl
@[simp] theorem State.updDrive_installs (d : Nat) (f : Drive → Drive) : (s.updDrive d f).installs = s.installs := rfl
@[simp] theorem State.updDrive_poisonSteps (d : Nat) (f : Drive → Drive) : (s.updDrive d f).poisonSteps = s.poisonSteps := rfl
@[simp] theorem State.updDrive_voices (d : Nat) (f : Drive → Drive) : (s.updDrive d f).voices = s.voices := rfl
@[simp] theorem State.updDrive_pads (d : Nat) (f : Drive → Drive) : (s.updDrive d f).pads = s.pads := rfl
@[simp] theorem State.updDrive_carries (d : Nat) (f : Drive → Drive) : (s.updDrive d f).carries = s.carries := rfl
@[simp] theorem State.updDrive_amms (d : Nat) (f : Drive → Drive) : (s.updDrive d f).amms = s.amms := rfl
@[simp] theorem State.updDrive_gcache (d : Nat) (f : Drive → Drive) : (s.updDrive d f).gcache = s.gcache := rfl
@[simp] theorem State.updDrive_abuf (d : Nat) (f : Drive → Drive) : (s.updDrive d f).abuf = s.abuf := rfl
@[simp] theorem State.updDrive_victims (d : Nat) (f : Drive → Drive) : (s.updDrive d f).victims = s.victims := rfl
@[simp] theorem State.updDrive_pool (d : Nat) (f : Drive → Drive) : (s.updDrive d f).pool = s.pool := rfl
@[simp] theorem State.updDrive_poison (d : Nat) (f : Drive → Drive) : (s.updDrive d f).poison = s.poison := rfl
@[simp] theorem State.updDrive_lineKey (d : Nat) (f : Drive → Drive) : (s.updDrive d f).lineKey = s.lineKey := rfl
@[simp] theorem State.updDrive_granules (d : Nat) (f : Drive → Drive) : (s.updDrive d f).granules = s.granules := rfl
@[simp] theorem State.updDrive_backed (d : Nat) (f : Drive → Drive) : (s.updDrive d f).backed = s.backed := rfl
@[simp] theorem State.updDrive_preparing (d : Nat) (f : Drive → Drive) : (s.updDrive d f).preparing = s.preparing := rfl
@[simp] theorem State.updDrive_ready (d : Nat) (f : Drive → Drive) : (s.updDrive d f).ready = s.ready := rfl
@[simp] theorem State.updDrive_stripe (d : Nat) (f : Drive → Drive) : (s.updDrive d f).stripe = s.stripe := rfl
@[simp] theorem State.updDrive_ddr (d : Nat) (f : Drive → Drive) : (s.updDrive d f).ddr = s.ddr := rfl
@[simp] theorem State.updDrive_tlb (d : Nat) (f : Drive → Drive) : (s.updDrive d f).tlb = s.tlb := rfl
@[simp] theorem State.updDrive_walkCache (d : Nat) (f : Drive → Drive) : (s.updDrive d f).walkCache = s.walkCache := rfl
@[simp] theorem State.updDrive_walks (d : Nat) (f : Drive → Drive) : (s.updDrive d f).walks = s.walks := rfl
@[simp] theorem State.updDrive_bcasts (d : Nat) (f : Drive → Drive) : (s.updDrive d f).bcasts = s.bcasts := rfl
@[simp] theorem State.updDrive_blocks (d : Nat) (f : Drive → Drive) : (s.updDrive d f).blocks = s.blocks := rfl
@[simp] theorem State.updDrive_links (d : Nat) (f : Drive → Drive) : (s.updDrive d f).links = s.links := rfl
@[simp] theorem State.updDrive_tags (d : Nat) (f : Drive → Drive) : (s.updDrive d f).tags = s.tags := rfl
@[simp] theorem State.updDrive_dir (d : Nat) (f : Drive → Drive) : (s.updDrive d f).dir = s.dir := rfl
@[simp] theorem State.updDrive_dirSeq (d : Nat) (f : Drive → Drive) : (s.updDrive d f).dirSeq = s.dirSeq := rfl
@[simp] theorem State.updDrive_txns (d : Nat) (f : Drive → Drive) : (s.updDrive d f).txns = s.txns := rfl
@[simp] theorem State.updDrive_homeWaits (d : Nat) (f : Drive → Drive) : (s.updDrive d f).homeWaits = s.homeWaits := rfl
@[simp] theorem State.updDrive_net (d : Nat) (f : Drive → Drive) : (s.updDrive d f).net = s.net := rfl
@[simp] theorem State.updDrive_marks (d : Nat) (f : Drive → Drive) : (s.updDrive d f).marks = s.marks := rfl
@[simp] theorem State.updDrive_mgQueue (d : Nat) (f : Drive → Drive) : (s.updDrive d f).mgQueue = s.mgQueue := rfl
@[simp] theorem State.updDrive_drains (d : Nat) (f : Drive → Drive) : (s.updDrive d f).drains = s.drains := rfl
@[simp] theorem State.updDrive_modeSwitches (d : Nat) (f : Drive → Drive) : (s.updDrive d f).modeSwitches = s.modeSwitches := rfl
@[simp] theorem State.updDrive_keeper (d : Nat) (f : Drive → Drive) : (s.updDrive d f).keeper = s.keeper := rfl
@[simp] theorem State.updDrive_nvm (d : Nat) (f : Drive → Drive) : (s.updDrive d f).nvm = s.nvm := rfl
@[simp] theorem State.updDrive_ras (d : Nat) (f : Drive → Drive) : (s.updDrive d f).ras = s.ras := rfl
@[simp] theorem State.updDrive_pwr (d : Nat) (f : Drive → Drive) : (s.updDrive d f).pwr = s.pwr := rfl
@[simp] theorem State.updDrive_use (d : Nat) (f : Drive → Drive) : (s.updDrive d f).use = s.use := rfl
@[simp] theorem State.updDrive_engineQ (d : Nat) (f : Drive → Drive) : (s.updDrive d f).engineQ = s.engineQ := rfl
@[simp] theorem State.updDrive_came (d : Nat) (f : Drive → Drive) : (s.updDrive d f).came = s.came := rfl
@[simp] theorem State.updDrive_heldOps (d : Nat) (f : Drive → Drive) : (s.updDrive d f).heldOps = s.heldOps := rfl
@[simp] theorem State.updDrive_receiving (d : Nat) (f : Drive → Drive) : (s.updDrive d f).receiving = s.receiving := rfl
@[simp] theorem State.updDrive_sesCache (d : Nat) (f : Drive → Drive) : (s.updDrive d f).sesCache = s.sesCache := rfl
@[simp] theorem State.updDrive_mgWaits (d : Nat) (f : Drive → Drive) : (s.updDrive d f).mgWaits = s.mgWaits := rfl
@[simp] theorem State.updDrive_missed (d : Nat) (f : Drive → Drive) : (s.updDrive d f).missed = s.missed := rfl

/-! setDdr changes ddr. -/

@[simp] theorem State.setDdr_pending (d : Nat) (x : Ddr) : (s.setDdr d x).pending = s.pending := rfl
@[simp] theorem State.setDdr_out (d : Nat) (x : Ddr) : (s.setDdr d x).out = s.out := rfl
@[simp] theorem State.setDdr_free (d : Nat) (x : Ddr) : (s.setDdr d x).free = s.free := rfl
@[simp] theorem State.setDdr_variant (d : Nat) (x : Ddr) : (s.setDdr d x).variant = s.variant := rfl
@[simp] theorem State.setDdr_time (d : Nat) (x : Ddr) : (s.setDdr d x).time = s.time := rfl
@[simp] theorem State.setDdr_latch (d : Nat) (x : Ddr) : (s.setDdr d x).latch = s.latch := rfl
@[simp] theorem State.setDdr_rwk (d : Nat) (x : Ddr) : (s.setDdr d x).rwk = s.rwk := rfl
@[simp] theorem State.setDdr_regs (d : Nat) (x : Ddr) : (s.setDdr d x).regs = s.regs := rfl
@[simp] theorem State.setDdr_ports (d : Nat) (x : Ddr) : (s.setDdr d x).ports = s.ports := rfl
@[simp] theorem State.setDdr_rings (d : Nat) (x : Ddr) : (s.setDdr d x).rings = s.rings := rfl
@[simp] theorem State.setDdr_ringCmd (d : Nat) (x : Ddr) : (s.setDdr d x).ringCmd = s.ringCmd := rfl
@[simp] theorem State.setDdr_ringLast (d : Nat) (x : Ddr) : (s.setDdr d x).ringLast = s.ringLast := rfl
@[simp] theorem State.setDdr_rot (d : Nat) (x : Ddr) : (s.setDdr d x).rot = s.rot := rfl
@[simp] theorem State.setDdr_sessions (d : Nat) (x : Ddr) : (s.setDdr d x).sessions = s.sessions := rfl
@[simp] theorem State.setDdr_leaves (d : Nat) (x : Ddr) : (s.setDdr d x).leaves = s.leaves := rfl
@[simp] theorem State.setDdr_frames (d : Nat) (x : Ddr) : (s.setDdr d x).frames = s.frames := rfl
@[simp] theorem State.setDdr_sesOps (d : Nat) (x : Ddr) : (s.setDdr d x).sesOps = s.sesOps := rfl
@[simp] theorem State.setDdr_offers (d : Nat) (x : Ddr) : (s.setDdr d x).offers = s.offers := rfl
@[simp] theorem State.setDdr_accepts (d : Nat) (x : Ddr) : (s.setDdr d x).accepts = s.accepts := rfl
@[simp] theorem State.setDdr_pulls (d : Nat) (x : Ddr) : (s.setDdr d x).pulls = s.pulls := rfl
@[simp] theorem State.setDdr_heldPulls (d : Nat) (x : Ddr) : (s.setDdr d x).heldPulls = s.heldPulls := rfl
@[simp] theorem State.setDdr_discarded (d : Nat) (x : Ddr) : (s.setDdr d x).discarded = s.discarded := rfl
@[simp] theorem State.setDdr_reclaims (d : Nat) (x : Ddr) : (s.setDdr d x).reclaims = s.reclaims := rfl
@[simp] theorem State.setDdr_abftArm (d : Nat) (x : Ddr) : (s.setDdr d x).abftArm = s.abftArm := rfl
@[simp] theorem State.setDdr_tables (d : Nat) (x : Ddr) : (s.setDdr d x).tables = s.tables := rfl
@[simp] theorem State.setDdr_tabCmd (d : Nat) (x : Ddr) : (s.setDdr d x).tabCmd = s.tabCmd := rfl
@[simp] theorem State.setDdr_tabLast (d : Nat) (x : Ddr) : (s.setDdr d x).tabLast = s.tabLast := rfl
@[simp] theorem State.setDdr_steps (d : Nat) (x : Ddr) : (s.setDdr d x).steps = s.steps := rfl
@[simp] theorem State.setDdr_grads (d : Nat) (x : Ddr) : (s.setDdr d x).grads = s.grads := rfl
@[simp] theorem State.setDdr_installs (d : Nat) (x : Ddr) : (s.setDdr d x).installs = s.installs := rfl
@[simp] theorem State.setDdr_poisonSteps (d : Nat) (x : Ddr) : (s.setDdr d x).poisonSteps = s.poisonSteps := rfl
@[simp] theorem State.setDdr_voices (d : Nat) (x : Ddr) : (s.setDdr d x).voices = s.voices := rfl
@[simp] theorem State.setDdr_pads (d : Nat) (x : Ddr) : (s.setDdr d x).pads = s.pads := rfl
@[simp] theorem State.setDdr_carries (d : Nat) (x : Ddr) : (s.setDdr d x).carries = s.carries := rfl
@[simp] theorem State.setDdr_amms (d : Nat) (x : Ddr) : (s.setDdr d x).amms = s.amms := rfl
@[simp] theorem State.setDdr_gcache (d : Nat) (x : Ddr) : (s.setDdr d x).gcache = s.gcache := rfl
@[simp] theorem State.setDdr_abuf (d : Nat) (x : Ddr) : (s.setDdr d x).abuf = s.abuf := rfl
@[simp] theorem State.setDdr_victims (d : Nat) (x : Ddr) : (s.setDdr d x).victims = s.victims := rfl
@[simp] theorem State.setDdr_pool (d : Nat) (x : Ddr) : (s.setDdr d x).pool = s.pool := rfl
@[simp] theorem State.setDdr_poison (d : Nat) (x : Ddr) : (s.setDdr d x).poison = s.poison := rfl
@[simp] theorem State.setDdr_lineKey (d : Nat) (x : Ddr) : (s.setDdr d x).lineKey = s.lineKey := rfl
@[simp] theorem State.setDdr_granules (d : Nat) (x : Ddr) : (s.setDdr d x).granules = s.granules := rfl
@[simp] theorem State.setDdr_backed (d : Nat) (x : Ddr) : (s.setDdr d x).backed = s.backed := rfl
@[simp] theorem State.setDdr_preparing (d : Nat) (x : Ddr) : (s.setDdr d x).preparing = s.preparing := rfl
@[simp] theorem State.setDdr_ready (d : Nat) (x : Ddr) : (s.setDdr d x).ready = s.ready := rfl
@[simp] theorem State.setDdr_drives (d : Nat) (x : Ddr) : (s.setDdr d x).drives = s.drives := rfl
@[simp] theorem State.setDdr_stripe (d : Nat) (x : Ddr) : (s.setDdr d x).stripe = s.stripe := rfl
@[simp] theorem State.setDdr_tlb (d : Nat) (x : Ddr) : (s.setDdr d x).tlb = s.tlb := rfl
@[simp] theorem State.setDdr_walkCache (d : Nat) (x : Ddr) : (s.setDdr d x).walkCache = s.walkCache := rfl
@[simp] theorem State.setDdr_walks (d : Nat) (x : Ddr) : (s.setDdr d x).walks = s.walks := rfl
@[simp] theorem State.setDdr_bcasts (d : Nat) (x : Ddr) : (s.setDdr d x).bcasts = s.bcasts := rfl
@[simp] theorem State.setDdr_blocks (d : Nat) (x : Ddr) : (s.setDdr d x).blocks = s.blocks := rfl
@[simp] theorem State.setDdr_links (d : Nat) (x : Ddr) : (s.setDdr d x).links = s.links := rfl
@[simp] theorem State.setDdr_tags (d : Nat) (x : Ddr) : (s.setDdr d x).tags = s.tags := rfl
@[simp] theorem State.setDdr_dir (d : Nat) (x : Ddr) : (s.setDdr d x).dir = s.dir := rfl
@[simp] theorem State.setDdr_dirSeq (d : Nat) (x : Ddr) : (s.setDdr d x).dirSeq = s.dirSeq := rfl
@[simp] theorem State.setDdr_txns (d : Nat) (x : Ddr) : (s.setDdr d x).txns = s.txns := rfl
@[simp] theorem State.setDdr_homeWaits (d : Nat) (x : Ddr) : (s.setDdr d x).homeWaits = s.homeWaits := rfl
@[simp] theorem State.setDdr_net (d : Nat) (x : Ddr) : (s.setDdr d x).net = s.net := rfl
@[simp] theorem State.setDdr_marks (d : Nat) (x : Ddr) : (s.setDdr d x).marks = s.marks := rfl
@[simp] theorem State.setDdr_mgQueue (d : Nat) (x : Ddr) : (s.setDdr d x).mgQueue = s.mgQueue := rfl
@[simp] theorem State.setDdr_drains (d : Nat) (x : Ddr) : (s.setDdr d x).drains = s.drains := rfl
@[simp] theorem State.setDdr_modeSwitches (d : Nat) (x : Ddr) : (s.setDdr d x).modeSwitches = s.modeSwitches := rfl
@[simp] theorem State.setDdr_keeper (d : Nat) (x : Ddr) : (s.setDdr d x).keeper = s.keeper := rfl
@[simp] theorem State.setDdr_nvm (d : Nat) (x : Ddr) : (s.setDdr d x).nvm = s.nvm := rfl
@[simp] theorem State.setDdr_ras (d : Nat) (x : Ddr) : (s.setDdr d x).ras = s.ras := rfl
@[simp] theorem State.setDdr_pwr (d : Nat) (x : Ddr) : (s.setDdr d x).pwr = s.pwr := rfl
@[simp] theorem State.setDdr_use (d : Nat) (x : Ddr) : (s.setDdr d x).use = s.use := rfl
@[simp] theorem State.setDdr_engineQ (d : Nat) (x : Ddr) : (s.setDdr d x).engineQ = s.engineQ := rfl
@[simp] theorem State.setDdr_came (d : Nat) (x : Ddr) : (s.setDdr d x).came = s.came := rfl
@[simp] theorem State.setDdr_heldOps (d : Nat) (x : Ddr) : (s.setDdr d x).heldOps = s.heldOps := rfl
@[simp] theorem State.setDdr_receiving (d : Nat) (x : Ddr) : (s.setDdr d x).receiving = s.receiving := rfl
@[simp] theorem State.setDdr_sesCache (d : Nat) (x : Ddr) : (s.setDdr d x).sesCache = s.sesCache := rfl
@[simp] theorem State.setDdr_mgWaits (d : Nat) (x : Ddr) : (s.setDdr d x).mgWaits = s.mgWaits := rfl
@[simp] theorem State.setDdr_missed (d : Nat) (x : Ddr) : (s.setDdr d x).missed = s.missed := rfl

/-! setLink changes links. -/

@[simp] theorem State.setLink_pending (p : Nat) (x : SLink) : (s.setLink p x).pending = s.pending := rfl
@[simp] theorem State.setLink_out (p : Nat) (x : SLink) : (s.setLink p x).out = s.out := rfl
@[simp] theorem State.setLink_free (p : Nat) (x : SLink) : (s.setLink p x).free = s.free := rfl
@[simp] theorem State.setLink_variant (p : Nat) (x : SLink) : (s.setLink p x).variant = s.variant := rfl
@[simp] theorem State.setLink_time (p : Nat) (x : SLink) : (s.setLink p x).time = s.time := rfl
@[simp] theorem State.setLink_latch (p : Nat) (x : SLink) : (s.setLink p x).latch = s.latch := rfl
@[simp] theorem State.setLink_rwk (p : Nat) (x : SLink) : (s.setLink p x).rwk = s.rwk := rfl
@[simp] theorem State.setLink_regs (p : Nat) (x : SLink) : (s.setLink p x).regs = s.regs := rfl
@[simp] theorem State.setLink_ports (p : Nat) (x : SLink) : (s.setLink p x).ports = s.ports := rfl
@[simp] theorem State.setLink_rings (p : Nat) (x : SLink) : (s.setLink p x).rings = s.rings := rfl
@[simp] theorem State.setLink_ringCmd (p : Nat) (x : SLink) : (s.setLink p x).ringCmd = s.ringCmd := rfl
@[simp] theorem State.setLink_ringLast (p : Nat) (x : SLink) : (s.setLink p x).ringLast = s.ringLast := rfl
@[simp] theorem State.setLink_rot (p : Nat) (x : SLink) : (s.setLink p x).rot = s.rot := rfl
@[simp] theorem State.setLink_sessions (p : Nat) (x : SLink) : (s.setLink p x).sessions = s.sessions := rfl
@[simp] theorem State.setLink_leaves (p : Nat) (x : SLink) : (s.setLink p x).leaves = s.leaves := rfl
@[simp] theorem State.setLink_frames (p : Nat) (x : SLink) : (s.setLink p x).frames = s.frames := rfl
@[simp] theorem State.setLink_sesOps (p : Nat) (x : SLink) : (s.setLink p x).sesOps = s.sesOps := rfl
@[simp] theorem State.setLink_offers (p : Nat) (x : SLink) : (s.setLink p x).offers = s.offers := rfl
@[simp] theorem State.setLink_accepts (p : Nat) (x : SLink) : (s.setLink p x).accepts = s.accepts := rfl
@[simp] theorem State.setLink_pulls (p : Nat) (x : SLink) : (s.setLink p x).pulls = s.pulls := rfl
@[simp] theorem State.setLink_heldPulls (p : Nat) (x : SLink) : (s.setLink p x).heldPulls = s.heldPulls := rfl
@[simp] theorem State.setLink_discarded (p : Nat) (x : SLink) : (s.setLink p x).discarded = s.discarded := rfl
@[simp] theorem State.setLink_reclaims (p : Nat) (x : SLink) : (s.setLink p x).reclaims = s.reclaims := rfl
@[simp] theorem State.setLink_abftArm (p : Nat) (x : SLink) : (s.setLink p x).abftArm = s.abftArm := rfl
@[simp] theorem State.setLink_tables (p : Nat) (x : SLink) : (s.setLink p x).tables = s.tables := rfl
@[simp] theorem State.setLink_tabCmd (p : Nat) (x : SLink) : (s.setLink p x).tabCmd = s.tabCmd := rfl
@[simp] theorem State.setLink_tabLast (p : Nat) (x : SLink) : (s.setLink p x).tabLast = s.tabLast := rfl
@[simp] theorem State.setLink_steps (p : Nat) (x : SLink) : (s.setLink p x).steps = s.steps := rfl
@[simp] theorem State.setLink_grads (p : Nat) (x : SLink) : (s.setLink p x).grads = s.grads := rfl
@[simp] theorem State.setLink_installs (p : Nat) (x : SLink) : (s.setLink p x).installs = s.installs := rfl
@[simp] theorem State.setLink_poisonSteps (p : Nat) (x : SLink) : (s.setLink p x).poisonSteps = s.poisonSteps := rfl
@[simp] theorem State.setLink_voices (p : Nat) (x : SLink) : (s.setLink p x).voices = s.voices := rfl
@[simp] theorem State.setLink_pads (p : Nat) (x : SLink) : (s.setLink p x).pads = s.pads := rfl
@[simp] theorem State.setLink_carries (p : Nat) (x : SLink) : (s.setLink p x).carries = s.carries := rfl
@[simp] theorem State.setLink_amms (p : Nat) (x : SLink) : (s.setLink p x).amms = s.amms := rfl
@[simp] theorem State.setLink_gcache (p : Nat) (x : SLink) : (s.setLink p x).gcache = s.gcache := rfl
@[simp] theorem State.setLink_abuf (p : Nat) (x : SLink) : (s.setLink p x).abuf = s.abuf := rfl
@[simp] theorem State.setLink_victims (p : Nat) (x : SLink) : (s.setLink p x).victims = s.victims := rfl
@[simp] theorem State.setLink_pool (p : Nat) (x : SLink) : (s.setLink p x).pool = s.pool := rfl
@[simp] theorem State.setLink_poison (p : Nat) (x : SLink) : (s.setLink p x).poison = s.poison := rfl
@[simp] theorem State.setLink_lineKey (p : Nat) (x : SLink) : (s.setLink p x).lineKey = s.lineKey := rfl
@[simp] theorem State.setLink_granules (p : Nat) (x : SLink) : (s.setLink p x).granules = s.granules := rfl
@[simp] theorem State.setLink_backed (p : Nat) (x : SLink) : (s.setLink p x).backed = s.backed := rfl
@[simp] theorem State.setLink_preparing (p : Nat) (x : SLink) : (s.setLink p x).preparing = s.preparing := rfl
@[simp] theorem State.setLink_ready (p : Nat) (x : SLink) : (s.setLink p x).ready = s.ready := rfl
@[simp] theorem State.setLink_drives (p : Nat) (x : SLink) : (s.setLink p x).drives = s.drives := rfl
@[simp] theorem State.setLink_stripe (p : Nat) (x : SLink) : (s.setLink p x).stripe = s.stripe := rfl
@[simp] theorem State.setLink_ddr (p : Nat) (x : SLink) : (s.setLink p x).ddr = s.ddr := rfl
@[simp] theorem State.setLink_tlb (p : Nat) (x : SLink) : (s.setLink p x).tlb = s.tlb := rfl
@[simp] theorem State.setLink_walkCache (p : Nat) (x : SLink) : (s.setLink p x).walkCache = s.walkCache := rfl
@[simp] theorem State.setLink_walks (p : Nat) (x : SLink) : (s.setLink p x).walks = s.walks := rfl
@[simp] theorem State.setLink_bcasts (p : Nat) (x : SLink) : (s.setLink p x).bcasts = s.bcasts := rfl
@[simp] theorem State.setLink_blocks (p : Nat) (x : SLink) : (s.setLink p x).blocks = s.blocks := rfl
@[simp] theorem State.setLink_tags (p : Nat) (x : SLink) : (s.setLink p x).tags = s.tags := rfl
@[simp] theorem State.setLink_dir (p : Nat) (x : SLink) : (s.setLink p x).dir = s.dir := rfl
@[simp] theorem State.setLink_dirSeq (p : Nat) (x : SLink) : (s.setLink p x).dirSeq = s.dirSeq := rfl
@[simp] theorem State.setLink_txns (p : Nat) (x : SLink) : (s.setLink p x).txns = s.txns := rfl
@[simp] theorem State.setLink_homeWaits (p : Nat) (x : SLink) : (s.setLink p x).homeWaits = s.homeWaits := rfl
@[simp] theorem State.setLink_net (p : Nat) (x : SLink) : (s.setLink p x).net = s.net := rfl
@[simp] theorem State.setLink_marks (p : Nat) (x : SLink) : (s.setLink p x).marks = s.marks := rfl
@[simp] theorem State.setLink_mgQueue (p : Nat) (x : SLink) : (s.setLink p x).mgQueue = s.mgQueue := rfl
@[simp] theorem State.setLink_drains (p : Nat) (x : SLink) : (s.setLink p x).drains = s.drains := rfl
@[simp] theorem State.setLink_modeSwitches (p : Nat) (x : SLink) : (s.setLink p x).modeSwitches = s.modeSwitches := rfl
@[simp] theorem State.setLink_keeper (p : Nat) (x : SLink) : (s.setLink p x).keeper = s.keeper := rfl
@[simp] theorem State.setLink_nvm (p : Nat) (x : SLink) : (s.setLink p x).nvm = s.nvm := rfl
@[simp] theorem State.setLink_ras (p : Nat) (x : SLink) : (s.setLink p x).ras = s.ras := rfl
@[simp] theorem State.setLink_pwr (p : Nat) (x : SLink) : (s.setLink p x).pwr = s.pwr := rfl
@[simp] theorem State.setLink_use (p : Nat) (x : SLink) : (s.setLink p x).use = s.use := rfl
@[simp] theorem State.setLink_engineQ (p : Nat) (x : SLink) : (s.setLink p x).engineQ = s.engineQ := rfl
@[simp] theorem State.setLink_came (p : Nat) (x : SLink) : (s.setLink p x).came = s.came := rfl
@[simp] theorem State.setLink_heldOps (p : Nat) (x : SLink) : (s.setLink p x).heldOps = s.heldOps := rfl
@[simp] theorem State.setLink_receiving (p : Nat) (x : SLink) : (s.setLink p x).receiving = s.receiving := rfl
@[simp] theorem State.setLink_sesCache (p : Nat) (x : SLink) : (s.setLink p x).sesCache = s.sesCache := rfl
@[simp] theorem State.setLink_mgWaits (p : Nat) (x : SLink) : (s.setLink p x).mgWaits = s.mgWaits := rfl
@[simp] theorem State.setLink_missed (p : Nat) (x : SLink) : (s.setLink p x).missed = s.missed := rfl

/-! updLink changes links. -/

@[simp] theorem State.updLink_pending (p : Nat) (f : SLink → SLink) : (s.updLink p f).pending = s.pending := rfl
@[simp] theorem State.updLink_out (p : Nat) (f : SLink → SLink) : (s.updLink p f).out = s.out := rfl
@[simp] theorem State.updLink_free (p : Nat) (f : SLink → SLink) : (s.updLink p f).free = s.free := rfl
@[simp] theorem State.updLink_variant (p : Nat) (f : SLink → SLink) : (s.updLink p f).variant = s.variant := rfl
@[simp] theorem State.updLink_time (p : Nat) (f : SLink → SLink) : (s.updLink p f).time = s.time := rfl
@[simp] theorem State.updLink_latch (p : Nat) (f : SLink → SLink) : (s.updLink p f).latch = s.latch := rfl
@[simp] theorem State.updLink_rwk (p : Nat) (f : SLink → SLink) : (s.updLink p f).rwk = s.rwk := rfl
@[simp] theorem State.updLink_regs (p : Nat) (f : SLink → SLink) : (s.updLink p f).regs = s.regs := rfl
@[simp] theorem State.updLink_ports (p : Nat) (f : SLink → SLink) : (s.updLink p f).ports = s.ports := rfl
@[simp] theorem State.updLink_rings (p : Nat) (f : SLink → SLink) : (s.updLink p f).rings = s.rings := rfl
@[simp] theorem State.updLink_ringCmd (p : Nat) (f : SLink → SLink) : (s.updLink p f).ringCmd = s.ringCmd := rfl
@[simp] theorem State.updLink_ringLast (p : Nat) (f : SLink → SLink) : (s.updLink p f).ringLast = s.ringLast := rfl
@[simp] theorem State.updLink_rot (p : Nat) (f : SLink → SLink) : (s.updLink p f).rot = s.rot := rfl
@[simp] theorem State.updLink_sessions (p : Nat) (f : SLink → SLink) : (s.updLink p f).sessions = s.sessions := rfl
@[simp] theorem State.updLink_leaves (p : Nat) (f : SLink → SLink) : (s.updLink p f).leaves = s.leaves := rfl
@[simp] theorem State.updLink_frames (p : Nat) (f : SLink → SLink) : (s.updLink p f).frames = s.frames := rfl
@[simp] theorem State.updLink_sesOps (p : Nat) (f : SLink → SLink) : (s.updLink p f).sesOps = s.sesOps := rfl
@[simp] theorem State.updLink_offers (p : Nat) (f : SLink → SLink) : (s.updLink p f).offers = s.offers := rfl
@[simp] theorem State.updLink_accepts (p : Nat) (f : SLink → SLink) : (s.updLink p f).accepts = s.accepts := rfl
@[simp] theorem State.updLink_pulls (p : Nat) (f : SLink → SLink) : (s.updLink p f).pulls = s.pulls := rfl
@[simp] theorem State.updLink_heldPulls (p : Nat) (f : SLink → SLink) : (s.updLink p f).heldPulls = s.heldPulls := rfl
@[simp] theorem State.updLink_discarded (p : Nat) (f : SLink → SLink) : (s.updLink p f).discarded = s.discarded := rfl
@[simp] theorem State.updLink_reclaims (p : Nat) (f : SLink → SLink) : (s.updLink p f).reclaims = s.reclaims := rfl
@[simp] theorem State.updLink_abftArm (p : Nat) (f : SLink → SLink) : (s.updLink p f).abftArm = s.abftArm := rfl
@[simp] theorem State.updLink_tables (p : Nat) (f : SLink → SLink) : (s.updLink p f).tables = s.tables := rfl
@[simp] theorem State.updLink_tabCmd (p : Nat) (f : SLink → SLink) : (s.updLink p f).tabCmd = s.tabCmd := rfl
@[simp] theorem State.updLink_tabLast (p : Nat) (f : SLink → SLink) : (s.updLink p f).tabLast = s.tabLast := rfl
@[simp] theorem State.updLink_steps (p : Nat) (f : SLink → SLink) : (s.updLink p f).steps = s.steps := rfl
@[simp] theorem State.updLink_grads (p : Nat) (f : SLink → SLink) : (s.updLink p f).grads = s.grads := rfl
@[simp] theorem State.updLink_installs (p : Nat) (f : SLink → SLink) : (s.updLink p f).installs = s.installs := rfl
@[simp] theorem State.updLink_poisonSteps (p : Nat) (f : SLink → SLink) : (s.updLink p f).poisonSteps = s.poisonSteps := rfl
@[simp] theorem State.updLink_voices (p : Nat) (f : SLink → SLink) : (s.updLink p f).voices = s.voices := rfl
@[simp] theorem State.updLink_pads (p : Nat) (f : SLink → SLink) : (s.updLink p f).pads = s.pads := rfl
@[simp] theorem State.updLink_carries (p : Nat) (f : SLink → SLink) : (s.updLink p f).carries = s.carries := rfl
@[simp] theorem State.updLink_amms (p : Nat) (f : SLink → SLink) : (s.updLink p f).amms = s.amms := rfl
@[simp] theorem State.updLink_gcache (p : Nat) (f : SLink → SLink) : (s.updLink p f).gcache = s.gcache := rfl
@[simp] theorem State.updLink_abuf (p : Nat) (f : SLink → SLink) : (s.updLink p f).abuf = s.abuf := rfl
@[simp] theorem State.updLink_victims (p : Nat) (f : SLink → SLink) : (s.updLink p f).victims = s.victims := rfl
@[simp] theorem State.updLink_pool (p : Nat) (f : SLink → SLink) : (s.updLink p f).pool = s.pool := rfl
@[simp] theorem State.updLink_poison (p : Nat) (f : SLink → SLink) : (s.updLink p f).poison = s.poison := rfl
@[simp] theorem State.updLink_lineKey (p : Nat) (f : SLink → SLink) : (s.updLink p f).lineKey = s.lineKey := rfl
@[simp] theorem State.updLink_granules (p : Nat) (f : SLink → SLink) : (s.updLink p f).granules = s.granules := rfl
@[simp] theorem State.updLink_backed (p : Nat) (f : SLink → SLink) : (s.updLink p f).backed = s.backed := rfl
@[simp] theorem State.updLink_preparing (p : Nat) (f : SLink → SLink) : (s.updLink p f).preparing = s.preparing := rfl
@[simp] theorem State.updLink_ready (p : Nat) (f : SLink → SLink) : (s.updLink p f).ready = s.ready := rfl
@[simp] theorem State.updLink_drives (p : Nat) (f : SLink → SLink) : (s.updLink p f).drives = s.drives := rfl
@[simp] theorem State.updLink_stripe (p : Nat) (f : SLink → SLink) : (s.updLink p f).stripe = s.stripe := rfl
@[simp] theorem State.updLink_ddr (p : Nat) (f : SLink → SLink) : (s.updLink p f).ddr = s.ddr := rfl
@[simp] theorem State.updLink_tlb (p : Nat) (f : SLink → SLink) : (s.updLink p f).tlb = s.tlb := rfl
@[simp] theorem State.updLink_walkCache (p : Nat) (f : SLink → SLink) : (s.updLink p f).walkCache = s.walkCache := rfl
@[simp] theorem State.updLink_walks (p : Nat) (f : SLink → SLink) : (s.updLink p f).walks = s.walks := rfl
@[simp] theorem State.updLink_bcasts (p : Nat) (f : SLink → SLink) : (s.updLink p f).bcasts = s.bcasts := rfl
@[simp] theorem State.updLink_blocks (p : Nat) (f : SLink → SLink) : (s.updLink p f).blocks = s.blocks := rfl
@[simp] theorem State.updLink_tags (p : Nat) (f : SLink → SLink) : (s.updLink p f).tags = s.tags := rfl
@[simp] theorem State.updLink_dir (p : Nat) (f : SLink → SLink) : (s.updLink p f).dir = s.dir := rfl
@[simp] theorem State.updLink_dirSeq (p : Nat) (f : SLink → SLink) : (s.updLink p f).dirSeq = s.dirSeq := rfl
@[simp] theorem State.updLink_txns (p : Nat) (f : SLink → SLink) : (s.updLink p f).txns = s.txns := rfl
@[simp] theorem State.updLink_homeWaits (p : Nat) (f : SLink → SLink) : (s.updLink p f).homeWaits = s.homeWaits := rfl
@[simp] theorem State.updLink_net (p : Nat) (f : SLink → SLink) : (s.updLink p f).net = s.net := rfl
@[simp] theorem State.updLink_marks (p : Nat) (f : SLink → SLink) : (s.updLink p f).marks = s.marks := rfl
@[simp] theorem State.updLink_mgQueue (p : Nat) (f : SLink → SLink) : (s.updLink p f).mgQueue = s.mgQueue := rfl
@[simp] theorem State.updLink_drains (p : Nat) (f : SLink → SLink) : (s.updLink p f).drains = s.drains := rfl
@[simp] theorem State.updLink_modeSwitches (p : Nat) (f : SLink → SLink) : (s.updLink p f).modeSwitches = s.modeSwitches := rfl
@[simp] theorem State.updLink_keeper (p : Nat) (f : SLink → SLink) : (s.updLink p f).keeper = s.keeper := rfl
@[simp] theorem State.updLink_nvm (p : Nat) (f : SLink → SLink) : (s.updLink p f).nvm = s.nvm := rfl
@[simp] theorem State.updLink_ras (p : Nat) (f : SLink → SLink) : (s.updLink p f).ras = s.ras := rfl
@[simp] theorem State.updLink_pwr (p : Nat) (f : SLink → SLink) : (s.updLink p f).pwr = s.pwr := rfl
@[simp] theorem State.updLink_use (p : Nat) (f : SLink → SLink) : (s.updLink p f).use = s.use := rfl
@[simp] theorem State.updLink_engineQ (p : Nat) (f : SLink → SLink) : (s.updLink p f).engineQ = s.engineQ := rfl
@[simp] theorem State.updLink_came (p : Nat) (f : SLink → SLink) : (s.updLink p f).came = s.came := rfl
@[simp] theorem State.updLink_heldOps (p : Nat) (f : SLink → SLink) : (s.updLink p f).heldOps = s.heldOps := rfl
@[simp] theorem State.updLink_receiving (p : Nat) (f : SLink → SLink) : (s.updLink p f).receiving = s.receiving := rfl
@[simp] theorem State.updLink_sesCache (p : Nat) (f : SLink → SLink) : (s.updLink p f).sesCache = s.sesCache := rfl
@[simp] theorem State.updLink_mgWaits (p : Nat) (f : SLink → SLink) : (s.updLink p f).mgWaits = s.mgWaits := rfl
@[simp] theorem State.updLink_missed (p : Nat) (f : SLink → SLink) : (s.updLink p f).missed = s.missed := rfl

/-! setTag changes tags. -/

@[simp] theorem State.setTag_pending (i : Nat) (x : ReqTag) : (s.setTag i x).pending = s.pending := rfl
@[simp] theorem State.setTag_out (i : Nat) (x : ReqTag) : (s.setTag i x).out = s.out := rfl
@[simp] theorem State.setTag_free (i : Nat) (x : ReqTag) : (s.setTag i x).free = s.free := rfl
@[simp] theorem State.setTag_variant (i : Nat) (x : ReqTag) : (s.setTag i x).variant = s.variant := rfl
@[simp] theorem State.setTag_time (i : Nat) (x : ReqTag) : (s.setTag i x).time = s.time := rfl
@[simp] theorem State.setTag_latch (i : Nat) (x : ReqTag) : (s.setTag i x).latch = s.latch := rfl
@[simp] theorem State.setTag_rwk (i : Nat) (x : ReqTag) : (s.setTag i x).rwk = s.rwk := rfl
@[simp] theorem State.setTag_regs (i : Nat) (x : ReqTag) : (s.setTag i x).regs = s.regs := rfl
@[simp] theorem State.setTag_ports (i : Nat) (x : ReqTag) : (s.setTag i x).ports = s.ports := rfl
@[simp] theorem State.setTag_rings (i : Nat) (x : ReqTag) : (s.setTag i x).rings = s.rings := rfl
@[simp] theorem State.setTag_ringCmd (i : Nat) (x : ReqTag) : (s.setTag i x).ringCmd = s.ringCmd := rfl
@[simp] theorem State.setTag_ringLast (i : Nat) (x : ReqTag) : (s.setTag i x).ringLast = s.ringLast := rfl
@[simp] theorem State.setTag_rot (i : Nat) (x : ReqTag) : (s.setTag i x).rot = s.rot := rfl
@[simp] theorem State.setTag_sessions (i : Nat) (x : ReqTag) : (s.setTag i x).sessions = s.sessions := rfl
@[simp] theorem State.setTag_leaves (i : Nat) (x : ReqTag) : (s.setTag i x).leaves = s.leaves := rfl
@[simp] theorem State.setTag_frames (i : Nat) (x : ReqTag) : (s.setTag i x).frames = s.frames := rfl
@[simp] theorem State.setTag_sesOps (i : Nat) (x : ReqTag) : (s.setTag i x).sesOps = s.sesOps := rfl
@[simp] theorem State.setTag_offers (i : Nat) (x : ReqTag) : (s.setTag i x).offers = s.offers := rfl
@[simp] theorem State.setTag_accepts (i : Nat) (x : ReqTag) : (s.setTag i x).accepts = s.accepts := rfl
@[simp] theorem State.setTag_pulls (i : Nat) (x : ReqTag) : (s.setTag i x).pulls = s.pulls := rfl
@[simp] theorem State.setTag_heldPulls (i : Nat) (x : ReqTag) : (s.setTag i x).heldPulls = s.heldPulls := rfl
@[simp] theorem State.setTag_discarded (i : Nat) (x : ReqTag) : (s.setTag i x).discarded = s.discarded := rfl
@[simp] theorem State.setTag_reclaims (i : Nat) (x : ReqTag) : (s.setTag i x).reclaims = s.reclaims := rfl
@[simp] theorem State.setTag_abftArm (i : Nat) (x : ReqTag) : (s.setTag i x).abftArm = s.abftArm := rfl
@[simp] theorem State.setTag_tables (i : Nat) (x : ReqTag) : (s.setTag i x).tables = s.tables := rfl
@[simp] theorem State.setTag_tabCmd (i : Nat) (x : ReqTag) : (s.setTag i x).tabCmd = s.tabCmd := rfl
@[simp] theorem State.setTag_tabLast (i : Nat) (x : ReqTag) : (s.setTag i x).tabLast = s.tabLast := rfl
@[simp] theorem State.setTag_steps (i : Nat) (x : ReqTag) : (s.setTag i x).steps = s.steps := rfl
@[simp] theorem State.setTag_grads (i : Nat) (x : ReqTag) : (s.setTag i x).grads = s.grads := rfl
@[simp] theorem State.setTag_installs (i : Nat) (x : ReqTag) : (s.setTag i x).installs = s.installs := rfl
@[simp] theorem State.setTag_poisonSteps (i : Nat) (x : ReqTag) : (s.setTag i x).poisonSteps = s.poisonSteps := rfl
@[simp] theorem State.setTag_voices (i : Nat) (x : ReqTag) : (s.setTag i x).voices = s.voices := rfl
@[simp] theorem State.setTag_pads (i : Nat) (x : ReqTag) : (s.setTag i x).pads = s.pads := rfl
@[simp] theorem State.setTag_carries (i : Nat) (x : ReqTag) : (s.setTag i x).carries = s.carries := rfl
@[simp] theorem State.setTag_amms (i : Nat) (x : ReqTag) : (s.setTag i x).amms = s.amms := rfl
@[simp] theorem State.setTag_gcache (i : Nat) (x : ReqTag) : (s.setTag i x).gcache = s.gcache := rfl
@[simp] theorem State.setTag_abuf (i : Nat) (x : ReqTag) : (s.setTag i x).abuf = s.abuf := rfl
@[simp] theorem State.setTag_victims (i : Nat) (x : ReqTag) : (s.setTag i x).victims = s.victims := rfl
@[simp] theorem State.setTag_pool (i : Nat) (x : ReqTag) : (s.setTag i x).pool = s.pool := rfl
@[simp] theorem State.setTag_poison (i : Nat) (x : ReqTag) : (s.setTag i x).poison = s.poison := rfl
@[simp] theorem State.setTag_lineKey (i : Nat) (x : ReqTag) : (s.setTag i x).lineKey = s.lineKey := rfl
@[simp] theorem State.setTag_granules (i : Nat) (x : ReqTag) : (s.setTag i x).granules = s.granules := rfl
@[simp] theorem State.setTag_backed (i : Nat) (x : ReqTag) : (s.setTag i x).backed = s.backed := rfl
@[simp] theorem State.setTag_preparing (i : Nat) (x : ReqTag) : (s.setTag i x).preparing = s.preparing := rfl
@[simp] theorem State.setTag_ready (i : Nat) (x : ReqTag) : (s.setTag i x).ready = s.ready := rfl
@[simp] theorem State.setTag_drives (i : Nat) (x : ReqTag) : (s.setTag i x).drives = s.drives := rfl
@[simp] theorem State.setTag_stripe (i : Nat) (x : ReqTag) : (s.setTag i x).stripe = s.stripe := rfl
@[simp] theorem State.setTag_ddr (i : Nat) (x : ReqTag) : (s.setTag i x).ddr = s.ddr := rfl
@[simp] theorem State.setTag_tlb (i : Nat) (x : ReqTag) : (s.setTag i x).tlb = s.tlb := rfl
@[simp] theorem State.setTag_walkCache (i : Nat) (x : ReqTag) : (s.setTag i x).walkCache = s.walkCache := rfl
@[simp] theorem State.setTag_walks (i : Nat) (x : ReqTag) : (s.setTag i x).walks = s.walks := rfl
@[simp] theorem State.setTag_bcasts (i : Nat) (x : ReqTag) : (s.setTag i x).bcasts = s.bcasts := rfl
@[simp] theorem State.setTag_blocks (i : Nat) (x : ReqTag) : (s.setTag i x).blocks = s.blocks := rfl
@[simp] theorem State.setTag_links (i : Nat) (x : ReqTag) : (s.setTag i x).links = s.links := rfl
@[simp] theorem State.setTag_dir (i : Nat) (x : ReqTag) : (s.setTag i x).dir = s.dir := rfl
@[simp] theorem State.setTag_dirSeq (i : Nat) (x : ReqTag) : (s.setTag i x).dirSeq = s.dirSeq := rfl
@[simp] theorem State.setTag_txns (i : Nat) (x : ReqTag) : (s.setTag i x).txns = s.txns := rfl
@[simp] theorem State.setTag_homeWaits (i : Nat) (x : ReqTag) : (s.setTag i x).homeWaits = s.homeWaits := rfl
@[simp] theorem State.setTag_net (i : Nat) (x : ReqTag) : (s.setTag i x).net = s.net := rfl
@[simp] theorem State.setTag_marks (i : Nat) (x : ReqTag) : (s.setTag i x).marks = s.marks := rfl
@[simp] theorem State.setTag_mgQueue (i : Nat) (x : ReqTag) : (s.setTag i x).mgQueue = s.mgQueue := rfl
@[simp] theorem State.setTag_drains (i : Nat) (x : ReqTag) : (s.setTag i x).drains = s.drains := rfl
@[simp] theorem State.setTag_modeSwitches (i : Nat) (x : ReqTag) : (s.setTag i x).modeSwitches = s.modeSwitches := rfl
@[simp] theorem State.setTag_keeper (i : Nat) (x : ReqTag) : (s.setTag i x).keeper = s.keeper := rfl
@[simp] theorem State.setTag_nvm (i : Nat) (x : ReqTag) : (s.setTag i x).nvm = s.nvm := rfl
@[simp] theorem State.setTag_ras (i : Nat) (x : ReqTag) : (s.setTag i x).ras = s.ras := rfl
@[simp] theorem State.setTag_pwr (i : Nat) (x : ReqTag) : (s.setTag i x).pwr = s.pwr := rfl
@[simp] theorem State.setTag_use (i : Nat) (x : ReqTag) : (s.setTag i x).use = s.use := rfl
@[simp] theorem State.setTag_engineQ (i : Nat) (x : ReqTag) : (s.setTag i x).engineQ = s.engineQ := rfl
@[simp] theorem State.setTag_came (i : Nat) (x : ReqTag) : (s.setTag i x).came = s.came := rfl
@[simp] theorem State.setTag_heldOps (i : Nat) (x : ReqTag) : (s.setTag i x).heldOps = s.heldOps := rfl
@[simp] theorem State.setTag_receiving (i : Nat) (x : ReqTag) : (s.setTag i x).receiving = s.receiving := rfl
@[simp] theorem State.setTag_sesCache (i : Nat) (x : ReqTag) : (s.setTag i x).sesCache = s.sesCache := rfl
@[simp] theorem State.setTag_mgWaits (i : Nat) (x : ReqTag) : (s.setTag i x).mgWaits = s.mgWaits := rfl
@[simp] theorem State.setTag_missed (i : Nat) (x : ReqTag) : (s.setTag i x).missed = s.missed := rfl

/-! setDir changes dir. -/

@[simp] theorem State.setDir_pending (l : Nat) (x : Dir) : (s.setDir l x).pending = s.pending := rfl
@[simp] theorem State.setDir_out (l : Nat) (x : Dir) : (s.setDir l x).out = s.out := rfl
@[simp] theorem State.setDir_free (l : Nat) (x : Dir) : (s.setDir l x).free = s.free := rfl
@[simp] theorem State.setDir_variant (l : Nat) (x : Dir) : (s.setDir l x).variant = s.variant := rfl
@[simp] theorem State.setDir_time (l : Nat) (x : Dir) : (s.setDir l x).time = s.time := rfl
@[simp] theorem State.setDir_latch (l : Nat) (x : Dir) : (s.setDir l x).latch = s.latch := rfl
@[simp] theorem State.setDir_rwk (l : Nat) (x : Dir) : (s.setDir l x).rwk = s.rwk := rfl
@[simp] theorem State.setDir_regs (l : Nat) (x : Dir) : (s.setDir l x).regs = s.regs := rfl
@[simp] theorem State.setDir_ports (l : Nat) (x : Dir) : (s.setDir l x).ports = s.ports := rfl
@[simp] theorem State.setDir_rings (l : Nat) (x : Dir) : (s.setDir l x).rings = s.rings := rfl
@[simp] theorem State.setDir_ringCmd (l : Nat) (x : Dir) : (s.setDir l x).ringCmd = s.ringCmd := rfl
@[simp] theorem State.setDir_ringLast (l : Nat) (x : Dir) : (s.setDir l x).ringLast = s.ringLast := rfl
@[simp] theorem State.setDir_rot (l : Nat) (x : Dir) : (s.setDir l x).rot = s.rot := rfl
@[simp] theorem State.setDir_sessions (l : Nat) (x : Dir) : (s.setDir l x).sessions = s.sessions := rfl
@[simp] theorem State.setDir_leaves (l : Nat) (x : Dir) : (s.setDir l x).leaves = s.leaves := rfl
@[simp] theorem State.setDir_frames (l : Nat) (x : Dir) : (s.setDir l x).frames = s.frames := rfl
@[simp] theorem State.setDir_sesOps (l : Nat) (x : Dir) : (s.setDir l x).sesOps = s.sesOps := rfl
@[simp] theorem State.setDir_offers (l : Nat) (x : Dir) : (s.setDir l x).offers = s.offers := rfl
@[simp] theorem State.setDir_accepts (l : Nat) (x : Dir) : (s.setDir l x).accepts = s.accepts := rfl
@[simp] theorem State.setDir_pulls (l : Nat) (x : Dir) : (s.setDir l x).pulls = s.pulls := rfl
@[simp] theorem State.setDir_heldPulls (l : Nat) (x : Dir) : (s.setDir l x).heldPulls = s.heldPulls := rfl
@[simp] theorem State.setDir_discarded (l : Nat) (x : Dir) : (s.setDir l x).discarded = s.discarded := rfl
@[simp] theorem State.setDir_reclaims (l : Nat) (x : Dir) : (s.setDir l x).reclaims = s.reclaims := rfl
@[simp] theorem State.setDir_abftArm (l : Nat) (x : Dir) : (s.setDir l x).abftArm = s.abftArm := rfl
@[simp] theorem State.setDir_tables (l : Nat) (x : Dir) : (s.setDir l x).tables = s.tables := rfl
@[simp] theorem State.setDir_tabCmd (l : Nat) (x : Dir) : (s.setDir l x).tabCmd = s.tabCmd := rfl
@[simp] theorem State.setDir_tabLast (l : Nat) (x : Dir) : (s.setDir l x).tabLast = s.tabLast := rfl
@[simp] theorem State.setDir_steps (l : Nat) (x : Dir) : (s.setDir l x).steps = s.steps := rfl
@[simp] theorem State.setDir_grads (l : Nat) (x : Dir) : (s.setDir l x).grads = s.grads := rfl
@[simp] theorem State.setDir_installs (l : Nat) (x : Dir) : (s.setDir l x).installs = s.installs := rfl
@[simp] theorem State.setDir_poisonSteps (l : Nat) (x : Dir) : (s.setDir l x).poisonSteps = s.poisonSteps := rfl
@[simp] theorem State.setDir_voices (l : Nat) (x : Dir) : (s.setDir l x).voices = s.voices := rfl
@[simp] theorem State.setDir_pads (l : Nat) (x : Dir) : (s.setDir l x).pads = s.pads := rfl
@[simp] theorem State.setDir_carries (l : Nat) (x : Dir) : (s.setDir l x).carries = s.carries := rfl
@[simp] theorem State.setDir_amms (l : Nat) (x : Dir) : (s.setDir l x).amms = s.amms := rfl
@[simp] theorem State.setDir_gcache (l : Nat) (x : Dir) : (s.setDir l x).gcache = s.gcache := rfl
@[simp] theorem State.setDir_abuf (l : Nat) (x : Dir) : (s.setDir l x).abuf = s.abuf := rfl
@[simp] theorem State.setDir_victims (l : Nat) (x : Dir) : (s.setDir l x).victims = s.victims := rfl
@[simp] theorem State.setDir_pool (l : Nat) (x : Dir) : (s.setDir l x).pool = s.pool := rfl
@[simp] theorem State.setDir_poison (l : Nat) (x : Dir) : (s.setDir l x).poison = s.poison := rfl
@[simp] theorem State.setDir_lineKey (l : Nat) (x : Dir) : (s.setDir l x).lineKey = s.lineKey := rfl
@[simp] theorem State.setDir_granules (l : Nat) (x : Dir) : (s.setDir l x).granules = s.granules := rfl
@[simp] theorem State.setDir_backed (l : Nat) (x : Dir) : (s.setDir l x).backed = s.backed := rfl
@[simp] theorem State.setDir_preparing (l : Nat) (x : Dir) : (s.setDir l x).preparing = s.preparing := rfl
@[simp] theorem State.setDir_ready (l : Nat) (x : Dir) : (s.setDir l x).ready = s.ready := rfl
@[simp] theorem State.setDir_drives (l : Nat) (x : Dir) : (s.setDir l x).drives = s.drives := rfl
@[simp] theorem State.setDir_stripe (l : Nat) (x : Dir) : (s.setDir l x).stripe = s.stripe := rfl
@[simp] theorem State.setDir_ddr (l : Nat) (x : Dir) : (s.setDir l x).ddr = s.ddr := rfl
@[simp] theorem State.setDir_tlb (l : Nat) (x : Dir) : (s.setDir l x).tlb = s.tlb := rfl
@[simp] theorem State.setDir_walkCache (l : Nat) (x : Dir) : (s.setDir l x).walkCache = s.walkCache := rfl
@[simp] theorem State.setDir_walks (l : Nat) (x : Dir) : (s.setDir l x).walks = s.walks := rfl
@[simp] theorem State.setDir_bcasts (l : Nat) (x : Dir) : (s.setDir l x).bcasts = s.bcasts := rfl
@[simp] theorem State.setDir_blocks (l : Nat) (x : Dir) : (s.setDir l x).blocks = s.blocks := rfl
@[simp] theorem State.setDir_links (l : Nat) (x : Dir) : (s.setDir l x).links = s.links := rfl
@[simp] theorem State.setDir_tags (l : Nat) (x : Dir) : (s.setDir l x).tags = s.tags := rfl
@[simp] theorem State.setDir_dirSeq (l : Nat) (x : Dir) : (s.setDir l x).dirSeq = s.dirSeq := rfl
@[simp] theorem State.setDir_txns (l : Nat) (x : Dir) : (s.setDir l x).txns = s.txns := rfl
@[simp] theorem State.setDir_homeWaits (l : Nat) (x : Dir) : (s.setDir l x).homeWaits = s.homeWaits := rfl
@[simp] theorem State.setDir_net (l : Nat) (x : Dir) : (s.setDir l x).net = s.net := rfl
@[simp] theorem State.setDir_marks (l : Nat) (x : Dir) : (s.setDir l x).marks = s.marks := rfl
@[simp] theorem State.setDir_mgQueue (l : Nat) (x : Dir) : (s.setDir l x).mgQueue = s.mgQueue := rfl
@[simp] theorem State.setDir_drains (l : Nat) (x : Dir) : (s.setDir l x).drains = s.drains := rfl
@[simp] theorem State.setDir_modeSwitches (l : Nat) (x : Dir) : (s.setDir l x).modeSwitches = s.modeSwitches := rfl
@[simp] theorem State.setDir_keeper (l : Nat) (x : Dir) : (s.setDir l x).keeper = s.keeper := rfl
@[simp] theorem State.setDir_nvm (l : Nat) (x : Dir) : (s.setDir l x).nvm = s.nvm := rfl
@[simp] theorem State.setDir_ras (l : Nat) (x : Dir) : (s.setDir l x).ras = s.ras := rfl
@[simp] theorem State.setDir_pwr (l : Nat) (x : Dir) : (s.setDir l x).pwr = s.pwr := rfl
@[simp] theorem State.setDir_use (l : Nat) (x : Dir) : (s.setDir l x).use = s.use := rfl
@[simp] theorem State.setDir_engineQ (l : Nat) (x : Dir) : (s.setDir l x).engineQ = s.engineQ := rfl
@[simp] theorem State.setDir_came (l : Nat) (x : Dir) : (s.setDir l x).came = s.came := rfl
@[simp] theorem State.setDir_heldOps (l : Nat) (x : Dir) : (s.setDir l x).heldOps = s.heldOps := rfl
@[simp] theorem State.setDir_receiving (l : Nat) (x : Dir) : (s.setDir l x).receiving = s.receiving := rfl
@[simp] theorem State.setDir_sesCache (l : Nat) (x : Dir) : (s.setDir l x).sesCache = s.sesCache := rfl
@[simp] theorem State.setDir_mgWaits (l : Nat) (x : Dir) : (s.setDir l x).mgWaits = s.mgWaits := rfl
@[simp] theorem State.setDir_missed (l : Nat) (x : Dir) : (s.setDir l x).missed = s.missed := rfl

/-! setMark changes marks. -/

@[simp] theorem State.setMark_pending (i : Nat) (x : Mark) : (s.setMark i x).pending = s.pending := rfl
@[simp] theorem State.setMark_out (i : Nat) (x : Mark) : (s.setMark i x).out = s.out := rfl
@[simp] theorem State.setMark_free (i : Nat) (x : Mark) : (s.setMark i x).free = s.free := rfl
@[simp] theorem State.setMark_variant (i : Nat) (x : Mark) : (s.setMark i x).variant = s.variant := rfl
@[simp] theorem State.setMark_time (i : Nat) (x : Mark) : (s.setMark i x).time = s.time := rfl
@[simp] theorem State.setMark_latch (i : Nat) (x : Mark) : (s.setMark i x).latch = s.latch := rfl
@[simp] theorem State.setMark_rwk (i : Nat) (x : Mark) : (s.setMark i x).rwk = s.rwk := rfl
@[simp] theorem State.setMark_regs (i : Nat) (x : Mark) : (s.setMark i x).regs = s.regs := rfl
@[simp] theorem State.setMark_ports (i : Nat) (x : Mark) : (s.setMark i x).ports = s.ports := rfl
@[simp] theorem State.setMark_rings (i : Nat) (x : Mark) : (s.setMark i x).rings = s.rings := rfl
@[simp] theorem State.setMark_ringCmd (i : Nat) (x : Mark) : (s.setMark i x).ringCmd = s.ringCmd := rfl
@[simp] theorem State.setMark_ringLast (i : Nat) (x : Mark) : (s.setMark i x).ringLast = s.ringLast := rfl
@[simp] theorem State.setMark_rot (i : Nat) (x : Mark) : (s.setMark i x).rot = s.rot := rfl
@[simp] theorem State.setMark_sessions (i : Nat) (x : Mark) : (s.setMark i x).sessions = s.sessions := rfl
@[simp] theorem State.setMark_leaves (i : Nat) (x : Mark) : (s.setMark i x).leaves = s.leaves := rfl
@[simp] theorem State.setMark_frames (i : Nat) (x : Mark) : (s.setMark i x).frames = s.frames := rfl
@[simp] theorem State.setMark_sesOps (i : Nat) (x : Mark) : (s.setMark i x).sesOps = s.sesOps := rfl
@[simp] theorem State.setMark_offers (i : Nat) (x : Mark) : (s.setMark i x).offers = s.offers := rfl
@[simp] theorem State.setMark_accepts (i : Nat) (x : Mark) : (s.setMark i x).accepts = s.accepts := rfl
@[simp] theorem State.setMark_pulls (i : Nat) (x : Mark) : (s.setMark i x).pulls = s.pulls := rfl
@[simp] theorem State.setMark_heldPulls (i : Nat) (x : Mark) : (s.setMark i x).heldPulls = s.heldPulls := rfl
@[simp] theorem State.setMark_discarded (i : Nat) (x : Mark) : (s.setMark i x).discarded = s.discarded := rfl
@[simp] theorem State.setMark_reclaims (i : Nat) (x : Mark) : (s.setMark i x).reclaims = s.reclaims := rfl
@[simp] theorem State.setMark_abftArm (i : Nat) (x : Mark) : (s.setMark i x).abftArm = s.abftArm := rfl
@[simp] theorem State.setMark_tables (i : Nat) (x : Mark) : (s.setMark i x).tables = s.tables := rfl
@[simp] theorem State.setMark_tabCmd (i : Nat) (x : Mark) : (s.setMark i x).tabCmd = s.tabCmd := rfl
@[simp] theorem State.setMark_tabLast (i : Nat) (x : Mark) : (s.setMark i x).tabLast = s.tabLast := rfl
@[simp] theorem State.setMark_steps (i : Nat) (x : Mark) : (s.setMark i x).steps = s.steps := rfl
@[simp] theorem State.setMark_grads (i : Nat) (x : Mark) : (s.setMark i x).grads = s.grads := rfl
@[simp] theorem State.setMark_installs (i : Nat) (x : Mark) : (s.setMark i x).installs = s.installs := rfl
@[simp] theorem State.setMark_poisonSteps (i : Nat) (x : Mark) : (s.setMark i x).poisonSteps = s.poisonSteps := rfl
@[simp] theorem State.setMark_voices (i : Nat) (x : Mark) : (s.setMark i x).voices = s.voices := rfl
@[simp] theorem State.setMark_pads (i : Nat) (x : Mark) : (s.setMark i x).pads = s.pads := rfl
@[simp] theorem State.setMark_carries (i : Nat) (x : Mark) : (s.setMark i x).carries = s.carries := rfl
@[simp] theorem State.setMark_amms (i : Nat) (x : Mark) : (s.setMark i x).amms = s.amms := rfl
@[simp] theorem State.setMark_gcache (i : Nat) (x : Mark) : (s.setMark i x).gcache = s.gcache := rfl
@[simp] theorem State.setMark_abuf (i : Nat) (x : Mark) : (s.setMark i x).abuf = s.abuf := rfl
@[simp] theorem State.setMark_victims (i : Nat) (x : Mark) : (s.setMark i x).victims = s.victims := rfl
@[simp] theorem State.setMark_pool (i : Nat) (x : Mark) : (s.setMark i x).pool = s.pool := rfl
@[simp] theorem State.setMark_poison (i : Nat) (x : Mark) : (s.setMark i x).poison = s.poison := rfl
@[simp] theorem State.setMark_lineKey (i : Nat) (x : Mark) : (s.setMark i x).lineKey = s.lineKey := rfl
@[simp] theorem State.setMark_granules (i : Nat) (x : Mark) : (s.setMark i x).granules = s.granules := rfl
@[simp] theorem State.setMark_backed (i : Nat) (x : Mark) : (s.setMark i x).backed = s.backed := rfl
@[simp] theorem State.setMark_preparing (i : Nat) (x : Mark) : (s.setMark i x).preparing = s.preparing := rfl
@[simp] theorem State.setMark_ready (i : Nat) (x : Mark) : (s.setMark i x).ready = s.ready := rfl
@[simp] theorem State.setMark_drives (i : Nat) (x : Mark) : (s.setMark i x).drives = s.drives := rfl
@[simp] theorem State.setMark_stripe (i : Nat) (x : Mark) : (s.setMark i x).stripe = s.stripe := rfl
@[simp] theorem State.setMark_ddr (i : Nat) (x : Mark) : (s.setMark i x).ddr = s.ddr := rfl
@[simp] theorem State.setMark_tlb (i : Nat) (x : Mark) : (s.setMark i x).tlb = s.tlb := rfl
@[simp] theorem State.setMark_walkCache (i : Nat) (x : Mark) : (s.setMark i x).walkCache = s.walkCache := rfl
@[simp] theorem State.setMark_walks (i : Nat) (x : Mark) : (s.setMark i x).walks = s.walks := rfl
@[simp] theorem State.setMark_bcasts (i : Nat) (x : Mark) : (s.setMark i x).bcasts = s.bcasts := rfl
@[simp] theorem State.setMark_blocks (i : Nat) (x : Mark) : (s.setMark i x).blocks = s.blocks := rfl
@[simp] theorem State.setMark_links (i : Nat) (x : Mark) : (s.setMark i x).links = s.links := rfl
@[simp] theorem State.setMark_tags (i : Nat) (x : Mark) : (s.setMark i x).tags = s.tags := rfl
@[simp] theorem State.setMark_dir (i : Nat) (x : Mark) : (s.setMark i x).dir = s.dir := rfl
@[simp] theorem State.setMark_dirSeq (i : Nat) (x : Mark) : (s.setMark i x).dirSeq = s.dirSeq := rfl
@[simp] theorem State.setMark_txns (i : Nat) (x : Mark) : (s.setMark i x).txns = s.txns := rfl
@[simp] theorem State.setMark_homeWaits (i : Nat) (x : Mark) : (s.setMark i x).homeWaits = s.homeWaits := rfl
@[simp] theorem State.setMark_net (i : Nat) (x : Mark) : (s.setMark i x).net = s.net := rfl
@[simp] theorem State.setMark_mgQueue (i : Nat) (x : Mark) : (s.setMark i x).mgQueue = s.mgQueue := rfl
@[simp] theorem State.setMark_drains (i : Nat) (x : Mark) : (s.setMark i x).drains = s.drains := rfl
@[simp] theorem State.setMark_modeSwitches (i : Nat) (x : Mark) : (s.setMark i x).modeSwitches = s.modeSwitches := rfl
@[simp] theorem State.setMark_keeper (i : Nat) (x : Mark) : (s.setMark i x).keeper = s.keeper := rfl
@[simp] theorem State.setMark_nvm (i : Nat) (x : Mark) : (s.setMark i x).nvm = s.nvm := rfl
@[simp] theorem State.setMark_ras (i : Nat) (x : Mark) : (s.setMark i x).ras = s.ras := rfl
@[simp] theorem State.setMark_pwr (i : Nat) (x : Mark) : (s.setMark i x).pwr = s.pwr := rfl
@[simp] theorem State.setMark_use (i : Nat) (x : Mark) : (s.setMark i x).use = s.use := rfl
@[simp] theorem State.setMark_engineQ (i : Nat) (x : Mark) : (s.setMark i x).engineQ = s.engineQ := rfl
@[simp] theorem State.setMark_came (i : Nat) (x : Mark) : (s.setMark i x).came = s.came := rfl
@[simp] theorem State.setMark_heldOps (i : Nat) (x : Mark) : (s.setMark i x).heldOps = s.heldOps := rfl
@[simp] theorem State.setMark_receiving (i : Nat) (x : Mark) : (s.setMark i x).receiving = s.receiving := rfl
@[simp] theorem State.setMark_sesCache (i : Nat) (x : Mark) : (s.setMark i x).sesCache = s.sesCache := rfl
@[simp] theorem State.setMark_mgWaits (i : Nat) (x : Mark) : (s.setMark i x).mgWaits = s.mgWaits := rfl
@[simp] theorem State.setMark_missed (i : Nat) (x : Mark) : (s.setMark i x).missed = s.missed := rfl

/-! updPart changes keeper. -/

@[simp] theorem State.updPart_pending (i : Nat) (f : Part → Part) : (s.updPart i f).pending = s.pending := rfl
@[simp] theorem State.updPart_out (i : Nat) (f : Part → Part) : (s.updPart i f).out = s.out := rfl
@[simp] theorem State.updPart_free (i : Nat) (f : Part → Part) : (s.updPart i f).free = s.free := rfl
@[simp] theorem State.updPart_variant (i : Nat) (f : Part → Part) : (s.updPart i f).variant = s.variant := rfl
@[simp] theorem State.updPart_time (i : Nat) (f : Part → Part) : (s.updPart i f).time = s.time := rfl
@[simp] theorem State.updPart_latch (i : Nat) (f : Part → Part) : (s.updPart i f).latch = s.latch := rfl
@[simp] theorem State.updPart_rwk (i : Nat) (f : Part → Part) : (s.updPart i f).rwk = s.rwk := rfl
@[simp] theorem State.updPart_regs (i : Nat) (f : Part → Part) : (s.updPart i f).regs = s.regs := rfl
@[simp] theorem State.updPart_ports (i : Nat) (f : Part → Part) : (s.updPart i f).ports = s.ports := rfl
@[simp] theorem State.updPart_rings (i : Nat) (f : Part → Part) : (s.updPart i f).rings = s.rings := rfl
@[simp] theorem State.updPart_ringCmd (i : Nat) (f : Part → Part) : (s.updPart i f).ringCmd = s.ringCmd := rfl
@[simp] theorem State.updPart_ringLast (i : Nat) (f : Part → Part) : (s.updPart i f).ringLast = s.ringLast := rfl
@[simp] theorem State.updPart_rot (i : Nat) (f : Part → Part) : (s.updPart i f).rot = s.rot := rfl
@[simp] theorem State.updPart_sessions (i : Nat) (f : Part → Part) : (s.updPart i f).sessions = s.sessions := rfl
@[simp] theorem State.updPart_leaves (i : Nat) (f : Part → Part) : (s.updPart i f).leaves = s.leaves := rfl
@[simp] theorem State.updPart_frames (i : Nat) (f : Part → Part) : (s.updPart i f).frames = s.frames := rfl
@[simp] theorem State.updPart_sesOps (i : Nat) (f : Part → Part) : (s.updPart i f).sesOps = s.sesOps := rfl
@[simp] theorem State.updPart_offers (i : Nat) (f : Part → Part) : (s.updPart i f).offers = s.offers := rfl
@[simp] theorem State.updPart_accepts (i : Nat) (f : Part → Part) : (s.updPart i f).accepts = s.accepts := rfl
@[simp] theorem State.updPart_pulls (i : Nat) (f : Part → Part) : (s.updPart i f).pulls = s.pulls := rfl
@[simp] theorem State.updPart_heldPulls (i : Nat) (f : Part → Part) : (s.updPart i f).heldPulls = s.heldPulls := rfl
@[simp] theorem State.updPart_discarded (i : Nat) (f : Part → Part) : (s.updPart i f).discarded = s.discarded := rfl
@[simp] theorem State.updPart_reclaims (i : Nat) (f : Part → Part) : (s.updPart i f).reclaims = s.reclaims := rfl
@[simp] theorem State.updPart_abftArm (i : Nat) (f : Part → Part) : (s.updPart i f).abftArm = s.abftArm := rfl
@[simp] theorem State.updPart_tables (i : Nat) (f : Part → Part) : (s.updPart i f).tables = s.tables := rfl
@[simp] theorem State.updPart_tabCmd (i : Nat) (f : Part → Part) : (s.updPart i f).tabCmd = s.tabCmd := rfl
@[simp] theorem State.updPart_tabLast (i : Nat) (f : Part → Part) : (s.updPart i f).tabLast = s.tabLast := rfl
@[simp] theorem State.updPart_steps (i : Nat) (f : Part → Part) : (s.updPart i f).steps = s.steps := rfl
@[simp] theorem State.updPart_grads (i : Nat) (f : Part → Part) : (s.updPart i f).grads = s.grads := rfl
@[simp] theorem State.updPart_installs (i : Nat) (f : Part → Part) : (s.updPart i f).installs = s.installs := rfl
@[simp] theorem State.updPart_poisonSteps (i : Nat) (f : Part → Part) : (s.updPart i f).poisonSteps = s.poisonSteps := rfl
@[simp] theorem State.updPart_voices (i : Nat) (f : Part → Part) : (s.updPart i f).voices = s.voices := rfl
@[simp] theorem State.updPart_pads (i : Nat) (f : Part → Part) : (s.updPart i f).pads = s.pads := rfl
@[simp] theorem State.updPart_carries (i : Nat) (f : Part → Part) : (s.updPart i f).carries = s.carries := rfl
@[simp] theorem State.updPart_amms (i : Nat) (f : Part → Part) : (s.updPart i f).amms = s.amms := rfl
@[simp] theorem State.updPart_gcache (i : Nat) (f : Part → Part) : (s.updPart i f).gcache = s.gcache := rfl
@[simp] theorem State.updPart_abuf (i : Nat) (f : Part → Part) : (s.updPart i f).abuf = s.abuf := rfl
@[simp] theorem State.updPart_victims (i : Nat) (f : Part → Part) : (s.updPart i f).victims = s.victims := rfl
@[simp] theorem State.updPart_pool (i : Nat) (f : Part → Part) : (s.updPart i f).pool = s.pool := rfl
@[simp] theorem State.updPart_poison (i : Nat) (f : Part → Part) : (s.updPart i f).poison = s.poison := rfl
@[simp] theorem State.updPart_lineKey (i : Nat) (f : Part → Part) : (s.updPart i f).lineKey = s.lineKey := rfl
@[simp] theorem State.updPart_granules (i : Nat) (f : Part → Part) : (s.updPart i f).granules = s.granules := rfl
@[simp] theorem State.updPart_backed (i : Nat) (f : Part → Part) : (s.updPart i f).backed = s.backed := rfl
@[simp] theorem State.updPart_preparing (i : Nat) (f : Part → Part) : (s.updPart i f).preparing = s.preparing := rfl
@[simp] theorem State.updPart_ready (i : Nat) (f : Part → Part) : (s.updPart i f).ready = s.ready := rfl
@[simp] theorem State.updPart_drives (i : Nat) (f : Part → Part) : (s.updPart i f).drives = s.drives := rfl
@[simp] theorem State.updPart_stripe (i : Nat) (f : Part → Part) : (s.updPart i f).stripe = s.stripe := rfl
@[simp] theorem State.updPart_ddr (i : Nat) (f : Part → Part) : (s.updPart i f).ddr = s.ddr := rfl
@[simp] theorem State.updPart_tlb (i : Nat) (f : Part → Part) : (s.updPart i f).tlb = s.tlb := rfl
@[simp] theorem State.updPart_walkCache (i : Nat) (f : Part → Part) : (s.updPart i f).walkCache = s.walkCache := rfl
@[simp] theorem State.updPart_walks (i : Nat) (f : Part → Part) : (s.updPart i f).walks = s.walks := rfl
@[simp] theorem State.updPart_bcasts (i : Nat) (f : Part → Part) : (s.updPart i f).bcasts = s.bcasts := rfl
@[simp] theorem State.updPart_blocks (i : Nat) (f : Part → Part) : (s.updPart i f).blocks = s.blocks := rfl
@[simp] theorem State.updPart_links (i : Nat) (f : Part → Part) : (s.updPart i f).links = s.links := rfl
@[simp] theorem State.updPart_tags (i : Nat) (f : Part → Part) : (s.updPart i f).tags = s.tags := rfl
@[simp] theorem State.updPart_dir (i : Nat) (f : Part → Part) : (s.updPart i f).dir = s.dir := rfl
@[simp] theorem State.updPart_dirSeq (i : Nat) (f : Part → Part) : (s.updPart i f).dirSeq = s.dirSeq := rfl
@[simp] theorem State.updPart_txns (i : Nat) (f : Part → Part) : (s.updPart i f).txns = s.txns := rfl
@[simp] theorem State.updPart_homeWaits (i : Nat) (f : Part → Part) : (s.updPart i f).homeWaits = s.homeWaits := rfl
@[simp] theorem State.updPart_net (i : Nat) (f : Part → Part) : (s.updPart i f).net = s.net := rfl
@[simp] theorem State.updPart_marks (i : Nat) (f : Part → Part) : (s.updPart i f).marks = s.marks := rfl
@[simp] theorem State.updPart_mgQueue (i : Nat) (f : Part → Part) : (s.updPart i f).mgQueue = s.mgQueue := rfl
@[simp] theorem State.updPart_drains (i : Nat) (f : Part → Part) : (s.updPart i f).drains = s.drains := rfl
@[simp] theorem State.updPart_modeSwitches (i : Nat) (f : Part → Part) : (s.updPart i f).modeSwitches = s.modeSwitches := rfl
@[simp] theorem State.updPart_nvm (i : Nat) (f : Part → Part) : (s.updPart i f).nvm = s.nvm := rfl
@[simp] theorem State.updPart_ras (i : Nat) (f : Part → Part) : (s.updPart i f).ras = s.ras := rfl
@[simp] theorem State.updPart_pwr (i : Nat) (f : Part → Part) : (s.updPart i f).pwr = s.pwr := rfl
@[simp] theorem State.updPart_use (i : Nat) (f : Part → Part) : (s.updPart i f).use = s.use := rfl
@[simp] theorem State.updPart_engineQ (i : Nat) (f : Part → Part) : (s.updPart i f).engineQ = s.engineQ := rfl
@[simp] theorem State.updPart_came (i : Nat) (f : Part → Part) : (s.updPart i f).came = s.came := rfl
@[simp] theorem State.updPart_heldOps (i : Nat) (f : Part → Part) : (s.updPart i f).heldOps = s.heldOps := rfl
@[simp] theorem State.updPart_receiving (i : Nat) (f : Part → Part) : (s.updPart i f).receiving = s.receiving := rfl
@[simp] theorem State.updPart_sesCache (i : Nat) (f : Part → Part) : (s.updPart i f).sesCache = s.sesCache := rfl
@[simp] theorem State.updPart_mgWaits (i : Nat) (f : Part → Part) : (s.updPart i f).mgWaits = s.mgWaits := rfl
@[simp] theorem State.updPart_missed (i : Nat) (f : Part → Part) : (s.updPart i f).missed = s.missed := rfl

/-! setBook changes rot. -/

@[simp] theorem State.setBook_pending (b : Nat) (x : Book) : (s.setBook b x).pending = s.pending := rfl
@[simp] theorem State.setBook_out (b : Nat) (x : Book) : (s.setBook b x).out = s.out := rfl
@[simp] theorem State.setBook_free (b : Nat) (x : Book) : (s.setBook b x).free = s.free := rfl
@[simp] theorem State.setBook_variant (b : Nat) (x : Book) : (s.setBook b x).variant = s.variant := rfl
@[simp] theorem State.setBook_time (b : Nat) (x : Book) : (s.setBook b x).time = s.time := rfl
@[simp] theorem State.setBook_latch (b : Nat) (x : Book) : (s.setBook b x).latch = s.latch := rfl
@[simp] theorem State.setBook_rwk (b : Nat) (x : Book) : (s.setBook b x).rwk = s.rwk := rfl
@[simp] theorem State.setBook_regs (b : Nat) (x : Book) : (s.setBook b x).regs = s.regs := rfl
@[simp] theorem State.setBook_ports (b : Nat) (x : Book) : (s.setBook b x).ports = s.ports := rfl
@[simp] theorem State.setBook_rings (b : Nat) (x : Book) : (s.setBook b x).rings = s.rings := rfl
@[simp] theorem State.setBook_ringCmd (b : Nat) (x : Book) : (s.setBook b x).ringCmd = s.ringCmd := rfl
@[simp] theorem State.setBook_ringLast (b : Nat) (x : Book) : (s.setBook b x).ringLast = s.ringLast := rfl
@[simp] theorem State.setBook_sessions (b : Nat) (x : Book) : (s.setBook b x).sessions = s.sessions := rfl
@[simp] theorem State.setBook_leaves (b : Nat) (x : Book) : (s.setBook b x).leaves = s.leaves := rfl
@[simp] theorem State.setBook_frames (b : Nat) (x : Book) : (s.setBook b x).frames = s.frames := rfl
@[simp] theorem State.setBook_sesOps (b : Nat) (x : Book) : (s.setBook b x).sesOps = s.sesOps := rfl
@[simp] theorem State.setBook_offers (b : Nat) (x : Book) : (s.setBook b x).offers = s.offers := rfl
@[simp] theorem State.setBook_accepts (b : Nat) (x : Book) : (s.setBook b x).accepts = s.accepts := rfl
@[simp] theorem State.setBook_pulls (b : Nat) (x : Book) : (s.setBook b x).pulls = s.pulls := rfl
@[simp] theorem State.setBook_heldPulls (b : Nat) (x : Book) : (s.setBook b x).heldPulls = s.heldPulls := rfl
@[simp] theorem State.setBook_discarded (b : Nat) (x : Book) : (s.setBook b x).discarded = s.discarded := rfl
@[simp] theorem State.setBook_reclaims (b : Nat) (x : Book) : (s.setBook b x).reclaims = s.reclaims := rfl
@[simp] theorem State.setBook_abftArm (b : Nat) (x : Book) : (s.setBook b x).abftArm = s.abftArm := rfl
@[simp] theorem State.setBook_tables (b : Nat) (x : Book) : (s.setBook b x).tables = s.tables := rfl
@[simp] theorem State.setBook_tabCmd (b : Nat) (x : Book) : (s.setBook b x).tabCmd = s.tabCmd := rfl
@[simp] theorem State.setBook_tabLast (b : Nat) (x : Book) : (s.setBook b x).tabLast = s.tabLast := rfl
@[simp] theorem State.setBook_steps (b : Nat) (x : Book) : (s.setBook b x).steps = s.steps := rfl
@[simp] theorem State.setBook_grads (b : Nat) (x : Book) : (s.setBook b x).grads = s.grads := rfl
@[simp] theorem State.setBook_installs (b : Nat) (x : Book) : (s.setBook b x).installs = s.installs := rfl
@[simp] theorem State.setBook_poisonSteps (b : Nat) (x : Book) : (s.setBook b x).poisonSteps = s.poisonSteps := rfl
@[simp] theorem State.setBook_voices (b : Nat) (x : Book) : (s.setBook b x).voices = s.voices := rfl
@[simp] theorem State.setBook_pads (b : Nat) (x : Book) : (s.setBook b x).pads = s.pads := rfl
@[simp] theorem State.setBook_carries (b : Nat) (x : Book) : (s.setBook b x).carries = s.carries := rfl
@[simp] theorem State.setBook_amms (b : Nat) (x : Book) : (s.setBook b x).amms = s.amms := rfl
@[simp] theorem State.setBook_gcache (b : Nat) (x : Book) : (s.setBook b x).gcache = s.gcache := rfl
@[simp] theorem State.setBook_abuf (b : Nat) (x : Book) : (s.setBook b x).abuf = s.abuf := rfl
@[simp] theorem State.setBook_victims (b : Nat) (x : Book) : (s.setBook b x).victims = s.victims := rfl
@[simp] theorem State.setBook_pool (b : Nat) (x : Book) : (s.setBook b x).pool = s.pool := rfl
@[simp] theorem State.setBook_poison (b : Nat) (x : Book) : (s.setBook b x).poison = s.poison := rfl
@[simp] theorem State.setBook_lineKey (b : Nat) (x : Book) : (s.setBook b x).lineKey = s.lineKey := rfl
@[simp] theorem State.setBook_granules (b : Nat) (x : Book) : (s.setBook b x).granules = s.granules := rfl
@[simp] theorem State.setBook_backed (b : Nat) (x : Book) : (s.setBook b x).backed = s.backed := rfl
@[simp] theorem State.setBook_preparing (b : Nat) (x : Book) : (s.setBook b x).preparing = s.preparing := rfl
@[simp] theorem State.setBook_ready (b : Nat) (x : Book) : (s.setBook b x).ready = s.ready := rfl
@[simp] theorem State.setBook_drives (b : Nat) (x : Book) : (s.setBook b x).drives = s.drives := rfl
@[simp] theorem State.setBook_stripe (b : Nat) (x : Book) : (s.setBook b x).stripe = s.stripe := rfl
@[simp] theorem State.setBook_ddr (b : Nat) (x : Book) : (s.setBook b x).ddr = s.ddr := rfl
@[simp] theorem State.setBook_tlb (b : Nat) (x : Book) : (s.setBook b x).tlb = s.tlb := rfl
@[simp] theorem State.setBook_walkCache (b : Nat) (x : Book) : (s.setBook b x).walkCache = s.walkCache := rfl
@[simp] theorem State.setBook_walks (b : Nat) (x : Book) : (s.setBook b x).walks = s.walks := rfl
@[simp] theorem State.setBook_bcasts (b : Nat) (x : Book) : (s.setBook b x).bcasts = s.bcasts := rfl
@[simp] theorem State.setBook_blocks (b : Nat) (x : Book) : (s.setBook b x).blocks = s.blocks := rfl
@[simp] theorem State.setBook_links (b : Nat) (x : Book) : (s.setBook b x).links = s.links := rfl
@[simp] theorem State.setBook_tags (b : Nat) (x : Book) : (s.setBook b x).tags = s.tags := rfl
@[simp] theorem State.setBook_dir (b : Nat) (x : Book) : (s.setBook b x).dir = s.dir := rfl
@[simp] theorem State.setBook_dirSeq (b : Nat) (x : Book) : (s.setBook b x).dirSeq = s.dirSeq := rfl
@[simp] theorem State.setBook_txns (b : Nat) (x : Book) : (s.setBook b x).txns = s.txns := rfl
@[simp] theorem State.setBook_homeWaits (b : Nat) (x : Book) : (s.setBook b x).homeWaits = s.homeWaits := rfl
@[simp] theorem State.setBook_net (b : Nat) (x : Book) : (s.setBook b x).net = s.net := rfl
@[simp] theorem State.setBook_marks (b : Nat) (x : Book) : (s.setBook b x).marks = s.marks := rfl
@[simp] theorem State.setBook_mgQueue (b : Nat) (x : Book) : (s.setBook b x).mgQueue = s.mgQueue := rfl
@[simp] theorem State.setBook_drains (b : Nat) (x : Book) : (s.setBook b x).drains = s.drains := rfl
@[simp] theorem State.setBook_modeSwitches (b : Nat) (x : Book) : (s.setBook b x).modeSwitches = s.modeSwitches := rfl
@[simp] theorem State.setBook_keeper (b : Nat) (x : Book) : (s.setBook b x).keeper = s.keeper := rfl
@[simp] theorem State.setBook_nvm (b : Nat) (x : Book) : (s.setBook b x).nvm = s.nvm := rfl
@[simp] theorem State.setBook_ras (b : Nat) (x : Book) : (s.setBook b x).ras = s.ras := rfl
@[simp] theorem State.setBook_pwr (b : Nat) (x : Book) : (s.setBook b x).pwr = s.pwr := rfl
@[simp] theorem State.setBook_use (b : Nat) (x : Book) : (s.setBook b x).use = s.use := rfl
@[simp] theorem State.setBook_engineQ (b : Nat) (x : Book) : (s.setBook b x).engineQ = s.engineQ := rfl
@[simp] theorem State.setBook_came (b : Nat) (x : Book) : (s.setBook b x).came = s.came := rfl
@[simp] theorem State.setBook_heldOps (b : Nat) (x : Book) : (s.setBook b x).heldOps = s.heldOps := rfl
@[simp] theorem State.setBook_receiving (b : Nat) (x : Book) : (s.setBook b x).receiving = s.receiving := rfl
@[simp] theorem State.setBook_sesCache (b : Nat) (x : Book) : (s.setBook b x).sesCache = s.sesCache := rfl
@[simp] theorem State.setBook_mgWaits (b : Nat) (x : Book) : (s.setBook b x).mgWaits = s.mgWaits := rfl
@[simp] theorem State.setBook_missed (b : Nat) (x : Book) : (s.setBook b x).missed = s.missed := rfl

/-! emit changes out. -/

@[simp] theorem State.emit_pending (o : Out) : (s.emit o).pending = s.pending := rfl
@[simp] theorem State.emit_free (o : Out) : (s.emit o).free = s.free := rfl
@[simp] theorem State.emit_variant (o : Out) : (s.emit o).variant = s.variant := rfl
@[simp] theorem State.emit_time (o : Out) : (s.emit o).time = s.time := rfl
@[simp] theorem State.emit_latch (o : Out) : (s.emit o).latch = s.latch := rfl
@[simp] theorem State.emit_rwk (o : Out) : (s.emit o).rwk = s.rwk := rfl
@[simp] theorem State.emit_regs (o : Out) : (s.emit o).regs = s.regs := rfl
@[simp] theorem State.emit_ports (o : Out) : (s.emit o).ports = s.ports := rfl
@[simp] theorem State.emit_rings (o : Out) : (s.emit o).rings = s.rings := rfl
@[simp] theorem State.emit_ringCmd (o : Out) : (s.emit o).ringCmd = s.ringCmd := rfl
@[simp] theorem State.emit_ringLast (o : Out) : (s.emit o).ringLast = s.ringLast := rfl
@[simp] theorem State.emit_rot (o : Out) : (s.emit o).rot = s.rot := rfl
@[simp] theorem State.emit_sessions (o : Out) : (s.emit o).sessions = s.sessions := rfl
@[simp] theorem State.emit_leaves (o : Out) : (s.emit o).leaves = s.leaves := rfl
@[simp] theorem State.emit_frames (o : Out) : (s.emit o).frames = s.frames := rfl
@[simp] theorem State.emit_sesOps (o : Out) : (s.emit o).sesOps = s.sesOps := rfl
@[simp] theorem State.emit_offers (o : Out) : (s.emit o).offers = s.offers := rfl
@[simp] theorem State.emit_accepts (o : Out) : (s.emit o).accepts = s.accepts := rfl
@[simp] theorem State.emit_pulls (o : Out) : (s.emit o).pulls = s.pulls := rfl
@[simp] theorem State.emit_heldPulls (o : Out) : (s.emit o).heldPulls = s.heldPulls := rfl
@[simp] theorem State.emit_discarded (o : Out) : (s.emit o).discarded = s.discarded := rfl
@[simp] theorem State.emit_reclaims (o : Out) : (s.emit o).reclaims = s.reclaims := rfl
@[simp] theorem State.emit_abftArm (o : Out) : (s.emit o).abftArm = s.abftArm := rfl
@[simp] theorem State.emit_tables (o : Out) : (s.emit o).tables = s.tables := rfl
@[simp] theorem State.emit_tabCmd (o : Out) : (s.emit o).tabCmd = s.tabCmd := rfl
@[simp] theorem State.emit_tabLast (o : Out) : (s.emit o).tabLast = s.tabLast := rfl
@[simp] theorem State.emit_steps (o : Out) : (s.emit o).steps = s.steps := rfl
@[simp] theorem State.emit_grads (o : Out) : (s.emit o).grads = s.grads := rfl
@[simp] theorem State.emit_installs (o : Out) : (s.emit o).installs = s.installs := rfl
@[simp] theorem State.emit_poisonSteps (o : Out) : (s.emit o).poisonSteps = s.poisonSteps := rfl
@[simp] theorem State.emit_voices (o : Out) : (s.emit o).voices = s.voices := rfl
@[simp] theorem State.emit_pads (o : Out) : (s.emit o).pads = s.pads := rfl
@[simp] theorem State.emit_carries (o : Out) : (s.emit o).carries = s.carries := rfl
@[simp] theorem State.emit_amms (o : Out) : (s.emit o).amms = s.amms := rfl
@[simp] theorem State.emit_gcache (o : Out) : (s.emit o).gcache = s.gcache := rfl
@[simp] theorem State.emit_abuf (o : Out) : (s.emit o).abuf = s.abuf := rfl
@[simp] theorem State.emit_victims (o : Out) : (s.emit o).victims = s.victims := rfl
@[simp] theorem State.emit_pool (o : Out) : (s.emit o).pool = s.pool := rfl
@[simp] theorem State.emit_poison (o : Out) : (s.emit o).poison = s.poison := rfl
@[simp] theorem State.emit_lineKey (o : Out) : (s.emit o).lineKey = s.lineKey := rfl
@[simp] theorem State.emit_granules (o : Out) : (s.emit o).granules = s.granules := rfl
@[simp] theorem State.emit_backed (o : Out) : (s.emit o).backed = s.backed := rfl
@[simp] theorem State.emit_preparing (o : Out) : (s.emit o).preparing = s.preparing := rfl
@[simp] theorem State.emit_ready (o : Out) : (s.emit o).ready = s.ready := rfl
@[simp] theorem State.emit_drives (o : Out) : (s.emit o).drives = s.drives := rfl
@[simp] theorem State.emit_stripe (o : Out) : (s.emit o).stripe = s.stripe := rfl
@[simp] theorem State.emit_ddr (o : Out) : (s.emit o).ddr = s.ddr := rfl
@[simp] theorem State.emit_tlb (o : Out) : (s.emit o).tlb = s.tlb := rfl
@[simp] theorem State.emit_walkCache (o : Out) : (s.emit o).walkCache = s.walkCache := rfl
@[simp] theorem State.emit_walks (o : Out) : (s.emit o).walks = s.walks := rfl
@[simp] theorem State.emit_bcasts (o : Out) : (s.emit o).bcasts = s.bcasts := rfl
@[simp] theorem State.emit_blocks (o : Out) : (s.emit o).blocks = s.blocks := rfl
@[simp] theorem State.emit_links (o : Out) : (s.emit o).links = s.links := rfl
@[simp] theorem State.emit_tags (o : Out) : (s.emit o).tags = s.tags := rfl
@[simp] theorem State.emit_dir (o : Out) : (s.emit o).dir = s.dir := rfl
@[simp] theorem State.emit_dirSeq (o : Out) : (s.emit o).dirSeq = s.dirSeq := rfl
@[simp] theorem State.emit_txns (o : Out) : (s.emit o).txns = s.txns := rfl
@[simp] theorem State.emit_homeWaits (o : Out) : (s.emit o).homeWaits = s.homeWaits := rfl
@[simp] theorem State.emit_net (o : Out) : (s.emit o).net = s.net := rfl
@[simp] theorem State.emit_marks (o : Out) : (s.emit o).marks = s.marks := rfl
@[simp] theorem State.emit_mgQueue (o : Out) : (s.emit o).mgQueue = s.mgQueue := rfl
@[simp] theorem State.emit_drains (o : Out) : (s.emit o).drains = s.drains := rfl
@[simp] theorem State.emit_modeSwitches (o : Out) : (s.emit o).modeSwitches = s.modeSwitches := rfl
@[simp] theorem State.emit_keeper (o : Out) : (s.emit o).keeper = s.keeper := rfl
@[simp] theorem State.emit_nvm (o : Out) : (s.emit o).nvm = s.nvm := rfl
@[simp] theorem State.emit_ras (o : Out) : (s.emit o).ras = s.ras := rfl
@[simp] theorem State.emit_pwr (o : Out) : (s.emit o).pwr = s.pwr := rfl
@[simp] theorem State.emit_use (o : Out) : (s.emit o).use = s.use := rfl
@[simp] theorem State.emit_engineQ (o : Out) : (s.emit o).engineQ = s.engineQ := rfl
@[simp] theorem State.emit_came (o : Out) : (s.emit o).came = s.came := rfl
@[simp] theorem State.emit_heldOps (o : Out) : (s.emit o).heldOps = s.heldOps := rfl
@[simp] theorem State.emit_receiving (o : Out) : (s.emit o).receiving = s.receiving := rfl
@[simp] theorem State.emit_sesCache (o : Out) : (s.emit o).sesCache = s.sesCache := rfl
@[simp] theorem State.emit_mgWaits (o : Out) : (s.emit o).mgWaits = s.mgWaits := rfl
@[simp] theorem State.emit_missed (o : Out) : (s.emit o).missed = s.missed := rfl

/-! setRwk changes rwk. -/

@[simp] theorem State.setRwk_pending (o : Nat) (w : BitVec 32) : (s.setRwk o w).pending = s.pending := rfl
@[simp] theorem State.setRwk_out (o : Nat) (w : BitVec 32) : (s.setRwk o w).out = s.out := rfl
@[simp] theorem State.setRwk_free (o : Nat) (w : BitVec 32) : (s.setRwk o w).free = s.free := rfl
@[simp] theorem State.setRwk_variant (o : Nat) (w : BitVec 32) : (s.setRwk o w).variant = s.variant := rfl
@[simp] theorem State.setRwk_time (o : Nat) (w : BitVec 32) : (s.setRwk o w).time = s.time := rfl
@[simp] theorem State.setRwk_latch (o : Nat) (w : BitVec 32) : (s.setRwk o w).latch = s.latch := rfl
@[simp] theorem State.setRwk_regs (o : Nat) (w : BitVec 32) : (s.setRwk o w).regs = s.regs := rfl
@[simp] theorem State.setRwk_ports (o : Nat) (w : BitVec 32) : (s.setRwk o w).ports = s.ports := rfl
@[simp] theorem State.setRwk_rings (o : Nat) (w : BitVec 32) : (s.setRwk o w).rings = s.rings := rfl
@[simp] theorem State.setRwk_ringCmd (o : Nat) (w : BitVec 32) : (s.setRwk o w).ringCmd = s.ringCmd := rfl
@[simp] theorem State.setRwk_ringLast (o : Nat) (w : BitVec 32) : (s.setRwk o w).ringLast = s.ringLast := rfl
@[simp] theorem State.setRwk_rot (o : Nat) (w : BitVec 32) : (s.setRwk o w).rot = s.rot := rfl
@[simp] theorem State.setRwk_sessions (o : Nat) (w : BitVec 32) : (s.setRwk o w).sessions = s.sessions := rfl
@[simp] theorem State.setRwk_leaves (o : Nat) (w : BitVec 32) : (s.setRwk o w).leaves = s.leaves := rfl
@[simp] theorem State.setRwk_frames (o : Nat) (w : BitVec 32) : (s.setRwk o w).frames = s.frames := rfl
@[simp] theorem State.setRwk_sesOps (o : Nat) (w : BitVec 32) : (s.setRwk o w).sesOps = s.sesOps := rfl
@[simp] theorem State.setRwk_offers (o : Nat) (w : BitVec 32) : (s.setRwk o w).offers = s.offers := rfl
@[simp] theorem State.setRwk_accepts (o : Nat) (w : BitVec 32) : (s.setRwk o w).accepts = s.accepts := rfl
@[simp] theorem State.setRwk_pulls (o : Nat) (w : BitVec 32) : (s.setRwk o w).pulls = s.pulls := rfl
@[simp] theorem State.setRwk_heldPulls (o : Nat) (w : BitVec 32) : (s.setRwk o w).heldPulls = s.heldPulls := rfl
@[simp] theorem State.setRwk_discarded (o : Nat) (w : BitVec 32) : (s.setRwk o w).discarded = s.discarded := rfl
@[simp] theorem State.setRwk_reclaims (o : Nat) (w : BitVec 32) : (s.setRwk o w).reclaims = s.reclaims := rfl
@[simp] theorem State.setRwk_abftArm (o : Nat) (w : BitVec 32) : (s.setRwk o w).abftArm = s.abftArm := rfl
@[simp] theorem State.setRwk_tables (o : Nat) (w : BitVec 32) : (s.setRwk o w).tables = s.tables := rfl
@[simp] theorem State.setRwk_tabCmd (o : Nat) (w : BitVec 32) : (s.setRwk o w).tabCmd = s.tabCmd := rfl
@[simp] theorem State.setRwk_tabLast (o : Nat) (w : BitVec 32) : (s.setRwk o w).tabLast = s.tabLast := rfl
@[simp] theorem State.setRwk_steps (o : Nat) (w : BitVec 32) : (s.setRwk o w).steps = s.steps := rfl
@[simp] theorem State.setRwk_grads (o : Nat) (w : BitVec 32) : (s.setRwk o w).grads = s.grads := rfl
@[simp] theorem State.setRwk_installs (o : Nat) (w : BitVec 32) : (s.setRwk o w).installs = s.installs := rfl
@[simp] theorem State.setRwk_poisonSteps (o : Nat) (w : BitVec 32) : (s.setRwk o w).poisonSteps = s.poisonSteps := rfl
@[simp] theorem State.setRwk_voices (o : Nat) (w : BitVec 32) : (s.setRwk o w).voices = s.voices := rfl
@[simp] theorem State.setRwk_pads (o : Nat) (w : BitVec 32) : (s.setRwk o w).pads = s.pads := rfl
@[simp] theorem State.setRwk_carries (o : Nat) (w : BitVec 32) : (s.setRwk o w).carries = s.carries := rfl
@[simp] theorem State.setRwk_amms (o : Nat) (w : BitVec 32) : (s.setRwk o w).amms = s.amms := rfl
@[simp] theorem State.setRwk_gcache (o : Nat) (w : BitVec 32) : (s.setRwk o w).gcache = s.gcache := rfl
@[simp] theorem State.setRwk_abuf (o : Nat) (w : BitVec 32) : (s.setRwk o w).abuf = s.abuf := rfl
@[simp] theorem State.setRwk_victims (o : Nat) (w : BitVec 32) : (s.setRwk o w).victims = s.victims := rfl
@[simp] theorem State.setRwk_pool (o : Nat) (w : BitVec 32) : (s.setRwk o w).pool = s.pool := rfl
@[simp] theorem State.setRwk_poison (o : Nat) (w : BitVec 32) : (s.setRwk o w).poison = s.poison := rfl
@[simp] theorem State.setRwk_lineKey (o : Nat) (w : BitVec 32) : (s.setRwk o w).lineKey = s.lineKey := rfl
@[simp] theorem State.setRwk_granules (o : Nat) (w : BitVec 32) : (s.setRwk o w).granules = s.granules := rfl
@[simp] theorem State.setRwk_backed (o : Nat) (w : BitVec 32) : (s.setRwk o w).backed = s.backed := rfl
@[simp] theorem State.setRwk_preparing (o : Nat) (w : BitVec 32) : (s.setRwk o w).preparing = s.preparing := rfl
@[simp] theorem State.setRwk_ready (o : Nat) (w : BitVec 32) : (s.setRwk o w).ready = s.ready := rfl
@[simp] theorem State.setRwk_drives (o : Nat) (w : BitVec 32) : (s.setRwk o w).drives = s.drives := rfl
@[simp] theorem State.setRwk_stripe (o : Nat) (w : BitVec 32) : (s.setRwk o w).stripe = s.stripe := rfl
@[simp] theorem State.setRwk_ddr (o : Nat) (w : BitVec 32) : (s.setRwk o w).ddr = s.ddr := rfl
@[simp] theorem State.setRwk_tlb (o : Nat) (w : BitVec 32) : (s.setRwk o w).tlb = s.tlb := rfl
@[simp] theorem State.setRwk_walkCache (o : Nat) (w : BitVec 32) : (s.setRwk o w).walkCache = s.walkCache := rfl
@[simp] theorem State.setRwk_walks (o : Nat) (w : BitVec 32) : (s.setRwk o w).walks = s.walks := rfl
@[simp] theorem State.setRwk_bcasts (o : Nat) (w : BitVec 32) : (s.setRwk o w).bcasts = s.bcasts := rfl
@[simp] theorem State.setRwk_blocks (o : Nat) (w : BitVec 32) : (s.setRwk o w).blocks = s.blocks := rfl
@[simp] theorem State.setRwk_links (o : Nat) (w : BitVec 32) : (s.setRwk o w).links = s.links := rfl
@[simp] theorem State.setRwk_tags (o : Nat) (w : BitVec 32) : (s.setRwk o w).tags = s.tags := rfl
@[simp] theorem State.setRwk_dir (o : Nat) (w : BitVec 32) : (s.setRwk o w).dir = s.dir := rfl
@[simp] theorem State.setRwk_dirSeq (o : Nat) (w : BitVec 32) : (s.setRwk o w).dirSeq = s.dirSeq := rfl
@[simp] theorem State.setRwk_txns (o : Nat) (w : BitVec 32) : (s.setRwk o w).txns = s.txns := rfl
@[simp] theorem State.setRwk_homeWaits (o : Nat) (w : BitVec 32) : (s.setRwk o w).homeWaits = s.homeWaits := rfl
@[simp] theorem State.setRwk_net (o : Nat) (w : BitVec 32) : (s.setRwk o w).net = s.net := rfl
@[simp] theorem State.setRwk_marks (o : Nat) (w : BitVec 32) : (s.setRwk o w).marks = s.marks := rfl
@[simp] theorem State.setRwk_mgQueue (o : Nat) (w : BitVec 32) : (s.setRwk o w).mgQueue = s.mgQueue := rfl
@[simp] theorem State.setRwk_drains (o : Nat) (w : BitVec 32) : (s.setRwk o w).drains = s.drains := rfl
@[simp] theorem State.setRwk_modeSwitches (o : Nat) (w : BitVec 32) : (s.setRwk o w).modeSwitches = s.modeSwitches := rfl
@[simp] theorem State.setRwk_keeper (o : Nat) (w : BitVec 32) : (s.setRwk o w).keeper = s.keeper := rfl
@[simp] theorem State.setRwk_nvm (o : Nat) (w : BitVec 32) : (s.setRwk o w).nvm = s.nvm := rfl
@[simp] theorem State.setRwk_ras (o : Nat) (w : BitVec 32) : (s.setRwk o w).ras = s.ras := rfl
@[simp] theorem State.setRwk_pwr (o : Nat) (w : BitVec 32) : (s.setRwk o w).pwr = s.pwr := rfl
@[simp] theorem State.setRwk_use (o : Nat) (w : BitVec 32) : (s.setRwk o w).use = s.use := rfl
@[simp] theorem State.setRwk_engineQ (o : Nat) (w : BitVec 32) : (s.setRwk o w).engineQ = s.engineQ := rfl
@[simp] theorem State.setRwk_came (o : Nat) (w : BitVec 32) : (s.setRwk o w).came = s.came := rfl
@[simp] theorem State.setRwk_heldOps (o : Nat) (w : BitVec 32) : (s.setRwk o w).heldOps = s.heldOps := rfl
@[simp] theorem State.setRwk_receiving (o : Nat) (w : BitVec 32) : (s.setRwk o w).receiving = s.receiving := rfl
@[simp] theorem State.setRwk_sesCache (o : Nat) (w : BitVec 32) : (s.setRwk o w).sesCache = s.sesCache := rfl
@[simp] theorem State.setRwk_mgWaits (o : Nat) (w : BitVec 32) : (s.setRwk o w).mgWaits = s.mgWaits := rfl
@[simp] theorem State.setRwk_missed (o : Nat) (w : BitVec 32) : (s.setRwk o w).missed = s.missed := rfl

/-! setReg changes regs. -/

@[simp] theorem State.setReg_pending (o : Nat) (w : Word) : (s.setReg o w).pending = s.pending := rfl
@[simp] theorem State.setReg_out (o : Nat) (w : Word) : (s.setReg o w).out = s.out := rfl
@[simp] theorem State.setReg_free (o : Nat) (w : Word) : (s.setReg o w).free = s.free := rfl
@[simp] theorem State.setReg_variant (o : Nat) (w : Word) : (s.setReg o w).variant = s.variant := rfl
@[simp] theorem State.setReg_time (o : Nat) (w : Word) : (s.setReg o w).time = s.time := rfl
@[simp] theorem State.setReg_latch (o : Nat) (w : Word) : (s.setReg o w).latch = s.latch := rfl
@[simp] theorem State.setReg_rwk (o : Nat) (w : Word) : (s.setReg o w).rwk = s.rwk := rfl
@[simp] theorem State.setReg_ports (o : Nat) (w : Word) : (s.setReg o w).ports = s.ports := rfl
@[simp] theorem State.setReg_rings (o : Nat) (w : Word) : (s.setReg o w).rings = s.rings := rfl
@[simp] theorem State.setReg_ringCmd (o : Nat) (w : Word) : (s.setReg o w).ringCmd = s.ringCmd := rfl
@[simp] theorem State.setReg_ringLast (o : Nat) (w : Word) : (s.setReg o w).ringLast = s.ringLast := rfl
@[simp] theorem State.setReg_rot (o : Nat) (w : Word) : (s.setReg o w).rot = s.rot := rfl
@[simp] theorem State.setReg_sessions (o : Nat) (w : Word) : (s.setReg o w).sessions = s.sessions := rfl
@[simp] theorem State.setReg_leaves (o : Nat) (w : Word) : (s.setReg o w).leaves = s.leaves := rfl
@[simp] theorem State.setReg_frames (o : Nat) (w : Word) : (s.setReg o w).frames = s.frames := rfl
@[simp] theorem State.setReg_sesOps (o : Nat) (w : Word) : (s.setReg o w).sesOps = s.sesOps := rfl
@[simp] theorem State.setReg_offers (o : Nat) (w : Word) : (s.setReg o w).offers = s.offers := rfl
@[simp] theorem State.setReg_accepts (o : Nat) (w : Word) : (s.setReg o w).accepts = s.accepts := rfl
@[simp] theorem State.setReg_pulls (o : Nat) (w : Word) : (s.setReg o w).pulls = s.pulls := rfl
@[simp] theorem State.setReg_heldPulls (o : Nat) (w : Word) : (s.setReg o w).heldPulls = s.heldPulls := rfl
@[simp] theorem State.setReg_discarded (o : Nat) (w : Word) : (s.setReg o w).discarded = s.discarded := rfl
@[simp] theorem State.setReg_reclaims (o : Nat) (w : Word) : (s.setReg o w).reclaims = s.reclaims := rfl
@[simp] theorem State.setReg_abftArm (o : Nat) (w : Word) : (s.setReg o w).abftArm = s.abftArm := rfl
@[simp] theorem State.setReg_tables (o : Nat) (w : Word) : (s.setReg o w).tables = s.tables := rfl
@[simp] theorem State.setReg_tabCmd (o : Nat) (w : Word) : (s.setReg o w).tabCmd = s.tabCmd := rfl
@[simp] theorem State.setReg_tabLast (o : Nat) (w : Word) : (s.setReg o w).tabLast = s.tabLast := rfl
@[simp] theorem State.setReg_steps (o : Nat) (w : Word) : (s.setReg o w).steps = s.steps := rfl
@[simp] theorem State.setReg_grads (o : Nat) (w : Word) : (s.setReg o w).grads = s.grads := rfl
@[simp] theorem State.setReg_installs (o : Nat) (w : Word) : (s.setReg o w).installs = s.installs := rfl
@[simp] theorem State.setReg_poisonSteps (o : Nat) (w : Word) : (s.setReg o w).poisonSteps = s.poisonSteps := rfl
@[simp] theorem State.setReg_voices (o : Nat) (w : Word) : (s.setReg o w).voices = s.voices := rfl
@[simp] theorem State.setReg_pads (o : Nat) (w : Word) : (s.setReg o w).pads = s.pads := rfl
@[simp] theorem State.setReg_carries (o : Nat) (w : Word) : (s.setReg o w).carries = s.carries := rfl
@[simp] theorem State.setReg_amms (o : Nat) (w : Word) : (s.setReg o w).amms = s.amms := rfl
@[simp] theorem State.setReg_gcache (o : Nat) (w : Word) : (s.setReg o w).gcache = s.gcache := rfl
@[simp] theorem State.setReg_abuf (o : Nat) (w : Word) : (s.setReg o w).abuf = s.abuf := rfl
@[simp] theorem State.setReg_victims (o : Nat) (w : Word) : (s.setReg o w).victims = s.victims := rfl
@[simp] theorem State.setReg_pool (o : Nat) (w : Word) : (s.setReg o w).pool = s.pool := rfl
@[simp] theorem State.setReg_poison (o : Nat) (w : Word) : (s.setReg o w).poison = s.poison := rfl
@[simp] theorem State.setReg_lineKey (o : Nat) (w : Word) : (s.setReg o w).lineKey = s.lineKey := rfl
@[simp] theorem State.setReg_granules (o : Nat) (w : Word) : (s.setReg o w).granules = s.granules := rfl
@[simp] theorem State.setReg_backed (o : Nat) (w : Word) : (s.setReg o w).backed = s.backed := rfl
@[simp] theorem State.setReg_preparing (o : Nat) (w : Word) : (s.setReg o w).preparing = s.preparing := rfl
@[simp] theorem State.setReg_ready (o : Nat) (w : Word) : (s.setReg o w).ready = s.ready := rfl
@[simp] theorem State.setReg_drives (o : Nat) (w : Word) : (s.setReg o w).drives = s.drives := rfl
@[simp] theorem State.setReg_stripe (o : Nat) (w : Word) : (s.setReg o w).stripe = s.stripe := rfl
@[simp] theorem State.setReg_ddr (o : Nat) (w : Word) : (s.setReg o w).ddr = s.ddr := rfl
@[simp] theorem State.setReg_tlb (o : Nat) (w : Word) : (s.setReg o w).tlb = s.tlb := rfl
@[simp] theorem State.setReg_walkCache (o : Nat) (w : Word) : (s.setReg o w).walkCache = s.walkCache := rfl
@[simp] theorem State.setReg_walks (o : Nat) (w : Word) : (s.setReg o w).walks = s.walks := rfl
@[simp] theorem State.setReg_bcasts (o : Nat) (w : Word) : (s.setReg o w).bcasts = s.bcasts := rfl
@[simp] theorem State.setReg_blocks (o : Nat) (w : Word) : (s.setReg o w).blocks = s.blocks := rfl
@[simp] theorem State.setReg_links (o : Nat) (w : Word) : (s.setReg o w).links = s.links := rfl
@[simp] theorem State.setReg_tags (o : Nat) (w : Word) : (s.setReg o w).tags = s.tags := rfl
@[simp] theorem State.setReg_dir (o : Nat) (w : Word) : (s.setReg o w).dir = s.dir := rfl
@[simp] theorem State.setReg_dirSeq (o : Nat) (w : Word) : (s.setReg o w).dirSeq = s.dirSeq := rfl
@[simp] theorem State.setReg_txns (o : Nat) (w : Word) : (s.setReg o w).txns = s.txns := rfl
@[simp] theorem State.setReg_homeWaits (o : Nat) (w : Word) : (s.setReg o w).homeWaits = s.homeWaits := rfl
@[simp] theorem State.setReg_net (o : Nat) (w : Word) : (s.setReg o w).net = s.net := rfl
@[simp] theorem State.setReg_marks (o : Nat) (w : Word) : (s.setReg o w).marks = s.marks := rfl
@[simp] theorem State.setReg_mgQueue (o : Nat) (w : Word) : (s.setReg o w).mgQueue = s.mgQueue := rfl
@[simp] theorem State.setReg_drains (o : Nat) (w : Word) : (s.setReg o w).drains = s.drains := rfl
@[simp] theorem State.setReg_modeSwitches (o : Nat) (w : Word) : (s.setReg o w).modeSwitches = s.modeSwitches := rfl
@[simp] theorem State.setReg_keeper (o : Nat) (w : Word) : (s.setReg o w).keeper = s.keeper := rfl
@[simp] theorem State.setReg_nvm (o : Nat) (w : Word) : (s.setReg o w).nvm = s.nvm := rfl
@[simp] theorem State.setReg_ras (o : Nat) (w : Word) : (s.setReg o w).ras = s.ras := rfl
@[simp] theorem State.setReg_pwr (o : Nat) (w : Word) : (s.setReg o w).pwr = s.pwr := rfl
@[simp] theorem State.setReg_use (o : Nat) (w : Word) : (s.setReg o w).use = s.use := rfl
@[simp] theorem State.setReg_engineQ (o : Nat) (w : Word) : (s.setReg o w).engineQ = s.engineQ := rfl
@[simp] theorem State.setReg_came (o : Nat) (w : Word) : (s.setReg o w).came = s.came := rfl
@[simp] theorem State.setReg_heldOps (o : Nat) (w : Word) : (s.setReg o w).heldOps = s.heldOps := rfl
@[simp] theorem State.setReg_receiving (o : Nat) (w : Word) : (s.setReg o w).receiving = s.receiving := rfl
@[simp] theorem State.setReg_sesCache (o : Nat) (w : Word) : (s.setReg o w).sesCache = s.sesCache := rfl
@[simp] theorem State.setReg_mgWaits (o : Nat) (w : Word) : (s.setReg o w).mgWaits = s.mgWaits := rfl
@[simp] theorem State.setReg_missed (o : Nat) (w : Word) : (s.setReg o w).missed = s.missed := rfl

/-! count changes regs. -/

@[simp] theorem State.count_pending (o n : Nat) : (s.count o n).pending = s.pending := rfl
@[simp] theorem State.count_out (o n : Nat) : (s.count o n).out = s.out := rfl
@[simp] theorem State.count_free (o n : Nat) : (s.count o n).free = s.free := rfl
@[simp] theorem State.count_variant (o n : Nat) : (s.count o n).variant = s.variant := rfl
@[simp] theorem State.count_time (o n : Nat) : (s.count o n).time = s.time := rfl
@[simp] theorem State.count_latch (o n : Nat) : (s.count o n).latch = s.latch := rfl
@[simp] theorem State.count_rwk (o n : Nat) : (s.count o n).rwk = s.rwk := rfl
@[simp] theorem State.count_ports (o n : Nat) : (s.count o n).ports = s.ports := rfl
@[simp] theorem State.count_rings (o n : Nat) : (s.count o n).rings = s.rings := rfl
@[simp] theorem State.count_ringCmd (o n : Nat) : (s.count o n).ringCmd = s.ringCmd := rfl
@[simp] theorem State.count_ringLast (o n : Nat) : (s.count o n).ringLast = s.ringLast := rfl
@[simp] theorem State.count_rot (o n : Nat) : (s.count o n).rot = s.rot := rfl
@[simp] theorem State.count_sessions (o n : Nat) : (s.count o n).sessions = s.sessions := rfl
@[simp] theorem State.count_leaves (o n : Nat) : (s.count o n).leaves = s.leaves := rfl
@[simp] theorem State.count_frames (o n : Nat) : (s.count o n).frames = s.frames := rfl
@[simp] theorem State.count_sesOps (o n : Nat) : (s.count o n).sesOps = s.sesOps := rfl
@[simp] theorem State.count_offers (o n : Nat) : (s.count o n).offers = s.offers := rfl
@[simp] theorem State.count_accepts (o n : Nat) : (s.count o n).accepts = s.accepts := rfl
@[simp] theorem State.count_pulls (o n : Nat) : (s.count o n).pulls = s.pulls := rfl
@[simp] theorem State.count_heldPulls (o n : Nat) : (s.count o n).heldPulls = s.heldPulls := rfl
@[simp] theorem State.count_discarded (o n : Nat) : (s.count o n).discarded = s.discarded := rfl
@[simp] theorem State.count_reclaims (o n : Nat) : (s.count o n).reclaims = s.reclaims := rfl
@[simp] theorem State.count_abftArm (o n : Nat) : (s.count o n).abftArm = s.abftArm := rfl
@[simp] theorem State.count_tables (o n : Nat) : (s.count o n).tables = s.tables := rfl
@[simp] theorem State.count_tabCmd (o n : Nat) : (s.count o n).tabCmd = s.tabCmd := rfl
@[simp] theorem State.count_tabLast (o n : Nat) : (s.count o n).tabLast = s.tabLast := rfl
@[simp] theorem State.count_steps (o n : Nat) : (s.count o n).steps = s.steps := rfl
@[simp] theorem State.count_grads (o n : Nat) : (s.count o n).grads = s.grads := rfl
@[simp] theorem State.count_installs (o n : Nat) : (s.count o n).installs = s.installs := rfl
@[simp] theorem State.count_poisonSteps (o n : Nat) : (s.count o n).poisonSteps = s.poisonSteps := rfl
@[simp] theorem State.count_voices (o n : Nat) : (s.count o n).voices = s.voices := rfl
@[simp] theorem State.count_pads (o n : Nat) : (s.count o n).pads = s.pads := rfl
@[simp] theorem State.count_carries (o n : Nat) : (s.count o n).carries = s.carries := rfl
@[simp] theorem State.count_amms (o n : Nat) : (s.count o n).amms = s.amms := rfl
@[simp] theorem State.count_gcache (o n : Nat) : (s.count o n).gcache = s.gcache := rfl
@[simp] theorem State.count_abuf (o n : Nat) : (s.count o n).abuf = s.abuf := rfl
@[simp] theorem State.count_victims (o n : Nat) : (s.count o n).victims = s.victims := rfl
@[simp] theorem State.count_pool (o n : Nat) : (s.count o n).pool = s.pool := rfl
@[simp] theorem State.count_poison (o n : Nat) : (s.count o n).poison = s.poison := rfl
@[simp] theorem State.count_lineKey (o n : Nat) : (s.count o n).lineKey = s.lineKey := rfl
@[simp] theorem State.count_granules (o n : Nat) : (s.count o n).granules = s.granules := rfl
@[simp] theorem State.count_backed (o n : Nat) : (s.count o n).backed = s.backed := rfl
@[simp] theorem State.count_preparing (o n : Nat) : (s.count o n).preparing = s.preparing := rfl
@[simp] theorem State.count_ready (o n : Nat) : (s.count o n).ready = s.ready := rfl
@[simp] theorem State.count_drives (o n : Nat) : (s.count o n).drives = s.drives := rfl
@[simp] theorem State.count_stripe (o n : Nat) : (s.count o n).stripe = s.stripe := rfl
@[simp] theorem State.count_ddr (o n : Nat) : (s.count o n).ddr = s.ddr := rfl
@[simp] theorem State.count_tlb (o n : Nat) : (s.count o n).tlb = s.tlb := rfl
@[simp] theorem State.count_walkCache (o n : Nat) : (s.count o n).walkCache = s.walkCache := rfl
@[simp] theorem State.count_walks (o n : Nat) : (s.count o n).walks = s.walks := rfl
@[simp] theorem State.count_bcasts (o n : Nat) : (s.count o n).bcasts = s.bcasts := rfl
@[simp] theorem State.count_blocks (o n : Nat) : (s.count o n).blocks = s.blocks := rfl
@[simp] theorem State.count_links (o n : Nat) : (s.count o n).links = s.links := rfl
@[simp] theorem State.count_tags (o n : Nat) : (s.count o n).tags = s.tags := rfl
@[simp] theorem State.count_dir (o n : Nat) : (s.count o n).dir = s.dir := rfl
@[simp] theorem State.count_dirSeq (o n : Nat) : (s.count o n).dirSeq = s.dirSeq := rfl
@[simp] theorem State.count_txns (o n : Nat) : (s.count o n).txns = s.txns := rfl
@[simp] theorem State.count_homeWaits (o n : Nat) : (s.count o n).homeWaits = s.homeWaits := rfl
@[simp] theorem State.count_net (o n : Nat) : (s.count o n).net = s.net := rfl
@[simp] theorem State.count_marks (o n : Nat) : (s.count o n).marks = s.marks := rfl
@[simp] theorem State.count_mgQueue (o n : Nat) : (s.count o n).mgQueue = s.mgQueue := rfl
@[simp] theorem State.count_drains (o n : Nat) : (s.count o n).drains = s.drains := rfl
@[simp] theorem State.count_modeSwitches (o n : Nat) : (s.count o n).modeSwitches = s.modeSwitches := rfl
@[simp] theorem State.count_keeper (o n : Nat) : (s.count o n).keeper = s.keeper := rfl
@[simp] theorem State.count_nvm (o n : Nat) : (s.count o n).nvm = s.nvm := rfl
@[simp] theorem State.count_ras (o n : Nat) : (s.count o n).ras = s.ras := rfl
@[simp] theorem State.count_pwr (o n : Nat) : (s.count o n).pwr = s.pwr := rfl
@[simp] theorem State.count_use (o n : Nat) : (s.count o n).use = s.use := rfl
@[simp] theorem State.count_engineQ (o n : Nat) : (s.count o n).engineQ = s.engineQ := rfl
@[simp] theorem State.count_came (o n : Nat) : (s.count o n).came = s.came := rfl
@[simp] theorem State.count_heldOps (o n : Nat) : (s.count o n).heldOps = s.heldOps := rfl
@[simp] theorem State.count_receiving (o n : Nat) : (s.count o n).receiving = s.receiving := rfl
@[simp] theorem State.count_sesCache (o n : Nat) : (s.count o n).sesCache = s.sesCache := rfl
@[simp] theorem State.count_mgWaits (o n : Nat) : (s.count o n).mgWaits = s.mgWaits := rfl
@[simp] theorem State.count_missed (o n : Nat) : (s.count o n).missed = s.missed := rfl

/-! count32 changes regs. -/

@[simp] theorem State.count32_pending (o n : Nat) : (s.count32 o n).pending = s.pending := rfl
@[simp] theorem State.count32_out (o n : Nat) : (s.count32 o n).out = s.out := rfl
@[simp] theorem State.count32_free (o n : Nat) : (s.count32 o n).free = s.free := rfl
@[simp] theorem State.count32_variant (o n : Nat) : (s.count32 o n).variant = s.variant := rfl
@[simp] theorem State.count32_time (o n : Nat) : (s.count32 o n).time = s.time := rfl
@[simp] theorem State.count32_latch (o n : Nat) : (s.count32 o n).latch = s.latch := rfl
@[simp] theorem State.count32_rwk (o n : Nat) : (s.count32 o n).rwk = s.rwk := rfl
@[simp] theorem State.count32_ports (o n : Nat) : (s.count32 o n).ports = s.ports := rfl
@[simp] theorem State.count32_rings (o n : Nat) : (s.count32 o n).rings = s.rings := rfl
@[simp] theorem State.count32_ringCmd (o n : Nat) : (s.count32 o n).ringCmd = s.ringCmd := rfl
@[simp] theorem State.count32_ringLast (o n : Nat) : (s.count32 o n).ringLast = s.ringLast := rfl
@[simp] theorem State.count32_rot (o n : Nat) : (s.count32 o n).rot = s.rot := rfl
@[simp] theorem State.count32_sessions (o n : Nat) : (s.count32 o n).sessions = s.sessions := rfl
@[simp] theorem State.count32_leaves (o n : Nat) : (s.count32 o n).leaves = s.leaves := rfl
@[simp] theorem State.count32_frames (o n : Nat) : (s.count32 o n).frames = s.frames := rfl
@[simp] theorem State.count32_sesOps (o n : Nat) : (s.count32 o n).sesOps = s.sesOps := rfl
@[simp] theorem State.count32_offers (o n : Nat) : (s.count32 o n).offers = s.offers := rfl
@[simp] theorem State.count32_accepts (o n : Nat) : (s.count32 o n).accepts = s.accepts := rfl
@[simp] theorem State.count32_pulls (o n : Nat) : (s.count32 o n).pulls = s.pulls := rfl
@[simp] theorem State.count32_heldPulls (o n : Nat) : (s.count32 o n).heldPulls = s.heldPulls := rfl
@[simp] theorem State.count32_discarded (o n : Nat) : (s.count32 o n).discarded = s.discarded := rfl
@[simp] theorem State.count32_reclaims (o n : Nat) : (s.count32 o n).reclaims = s.reclaims := rfl
@[simp] theorem State.count32_abftArm (o n : Nat) : (s.count32 o n).abftArm = s.abftArm := rfl
@[simp] theorem State.count32_tables (o n : Nat) : (s.count32 o n).tables = s.tables := rfl
@[simp] theorem State.count32_tabCmd (o n : Nat) : (s.count32 o n).tabCmd = s.tabCmd := rfl
@[simp] theorem State.count32_tabLast (o n : Nat) : (s.count32 o n).tabLast = s.tabLast := rfl
@[simp] theorem State.count32_steps (o n : Nat) : (s.count32 o n).steps = s.steps := rfl
@[simp] theorem State.count32_grads (o n : Nat) : (s.count32 o n).grads = s.grads := rfl
@[simp] theorem State.count32_installs (o n : Nat) : (s.count32 o n).installs = s.installs := rfl
@[simp] theorem State.count32_poisonSteps (o n : Nat) : (s.count32 o n).poisonSteps = s.poisonSteps := rfl
@[simp] theorem State.count32_voices (o n : Nat) : (s.count32 o n).voices = s.voices := rfl
@[simp] theorem State.count32_pads (o n : Nat) : (s.count32 o n).pads = s.pads := rfl
@[simp] theorem State.count32_carries (o n : Nat) : (s.count32 o n).carries = s.carries := rfl
@[simp] theorem State.count32_amms (o n : Nat) : (s.count32 o n).amms = s.amms := rfl
@[simp] theorem State.count32_gcache (o n : Nat) : (s.count32 o n).gcache = s.gcache := rfl
@[simp] theorem State.count32_abuf (o n : Nat) : (s.count32 o n).abuf = s.abuf := rfl
@[simp] theorem State.count32_victims (o n : Nat) : (s.count32 o n).victims = s.victims := rfl
@[simp] theorem State.count32_pool (o n : Nat) : (s.count32 o n).pool = s.pool := rfl
@[simp] theorem State.count32_poison (o n : Nat) : (s.count32 o n).poison = s.poison := rfl
@[simp] theorem State.count32_lineKey (o n : Nat) : (s.count32 o n).lineKey = s.lineKey := rfl
@[simp] theorem State.count32_granules (o n : Nat) : (s.count32 o n).granules = s.granules := rfl
@[simp] theorem State.count32_backed (o n : Nat) : (s.count32 o n).backed = s.backed := rfl
@[simp] theorem State.count32_preparing (o n : Nat) : (s.count32 o n).preparing = s.preparing := rfl
@[simp] theorem State.count32_ready (o n : Nat) : (s.count32 o n).ready = s.ready := rfl
@[simp] theorem State.count32_drives (o n : Nat) : (s.count32 o n).drives = s.drives := rfl
@[simp] theorem State.count32_stripe (o n : Nat) : (s.count32 o n).stripe = s.stripe := rfl
@[simp] theorem State.count32_ddr (o n : Nat) : (s.count32 o n).ddr = s.ddr := rfl
@[simp] theorem State.count32_tlb (o n : Nat) : (s.count32 o n).tlb = s.tlb := rfl
@[simp] theorem State.count32_walkCache (o n : Nat) : (s.count32 o n).walkCache = s.walkCache := rfl
@[simp] theorem State.count32_walks (o n : Nat) : (s.count32 o n).walks = s.walks := rfl
@[simp] theorem State.count32_bcasts (o n : Nat) : (s.count32 o n).bcasts = s.bcasts := rfl
@[simp] theorem State.count32_blocks (o n : Nat) : (s.count32 o n).blocks = s.blocks := rfl
@[simp] theorem State.count32_links (o n : Nat) : (s.count32 o n).links = s.links := rfl
@[simp] theorem State.count32_tags (o n : Nat) : (s.count32 o n).tags = s.tags := rfl
@[simp] theorem State.count32_dir (o n : Nat) : (s.count32 o n).dir = s.dir := rfl
@[simp] theorem State.count32_dirSeq (o n : Nat) : (s.count32 o n).dirSeq = s.dirSeq := rfl
@[simp] theorem State.count32_txns (o n : Nat) : (s.count32 o n).txns = s.txns := rfl
@[simp] theorem State.count32_homeWaits (o n : Nat) : (s.count32 o n).homeWaits = s.homeWaits := rfl
@[simp] theorem State.count32_net (o n : Nat) : (s.count32 o n).net = s.net := rfl
@[simp] theorem State.count32_marks (o n : Nat) : (s.count32 o n).marks = s.marks := rfl
@[simp] theorem State.count32_mgQueue (o n : Nat) : (s.count32 o n).mgQueue = s.mgQueue := rfl
@[simp] theorem State.count32_drains (o n : Nat) : (s.count32 o n).drains = s.drains := rfl
@[simp] theorem State.count32_modeSwitches (o n : Nat) : (s.count32 o n).modeSwitches = s.modeSwitches := rfl
@[simp] theorem State.count32_keeper (o n : Nat) : (s.count32 o n).keeper = s.keeper := rfl
@[simp] theorem State.count32_nvm (o n : Nat) : (s.count32 o n).nvm = s.nvm := rfl
@[simp] theorem State.count32_ras (o n : Nat) : (s.count32 o n).ras = s.ras := rfl
@[simp] theorem State.count32_pwr (o n : Nat) : (s.count32 o n).pwr = s.pwr := rfl
@[simp] theorem State.count32_use (o n : Nat) : (s.count32 o n).use = s.use := rfl
@[simp] theorem State.count32_engineQ (o n : Nat) : (s.count32 o n).engineQ = s.engineQ := rfl
@[simp] theorem State.count32_came (o n : Nat) : (s.count32 o n).came = s.came := rfl
@[simp] theorem State.count32_heldOps (o n : Nat) : (s.count32 o n).heldOps = s.heldOps := rfl
@[simp] theorem State.count32_receiving (o n : Nat) : (s.count32 o n).receiving = s.receiving := rfl
@[simp] theorem State.count32_sesCache (o n : Nat) : (s.count32 o n).sesCache = s.sesCache := rfl
@[simp] theorem State.count32_mgWaits (o n : Nat) : (s.count32 o n).mgWaits = s.mgWaits := rfl
@[simp] theorem State.count32_missed (o n : Nat) : (s.count32 o n).missed = s.missed := rfl

/-! setRegFld changes regs. -/

@[simp] theorem State.setRegFld_pending (o lo n v : Nat) : (s.setRegFld o lo n v).pending = s.pending := rfl
@[simp] theorem State.setRegFld_out (o lo n v : Nat) : (s.setRegFld o lo n v).out = s.out := rfl
@[simp] theorem State.setRegFld_free (o lo n v : Nat) : (s.setRegFld o lo n v).free = s.free := rfl
@[simp] theorem State.setRegFld_variant (o lo n v : Nat) : (s.setRegFld o lo n v).variant = s.variant := rfl
@[simp] theorem State.setRegFld_time (o lo n v : Nat) : (s.setRegFld o lo n v).time = s.time := rfl
@[simp] theorem State.setRegFld_latch (o lo n v : Nat) : (s.setRegFld o lo n v).latch = s.latch := rfl
@[simp] theorem State.setRegFld_rwk (o lo n v : Nat) : (s.setRegFld o lo n v).rwk = s.rwk := rfl
@[simp] theorem State.setRegFld_ports (o lo n v : Nat) : (s.setRegFld o lo n v).ports = s.ports := rfl
@[simp] theorem State.setRegFld_rings (o lo n v : Nat) : (s.setRegFld o lo n v).rings = s.rings := rfl
@[simp] theorem State.setRegFld_ringCmd (o lo n v : Nat) : (s.setRegFld o lo n v).ringCmd = s.ringCmd := rfl
@[simp] theorem State.setRegFld_ringLast (o lo n v : Nat) : (s.setRegFld o lo n v).ringLast = s.ringLast := rfl
@[simp] theorem State.setRegFld_rot (o lo n v : Nat) : (s.setRegFld o lo n v).rot = s.rot := rfl
@[simp] theorem State.setRegFld_sessions (o lo n v : Nat) : (s.setRegFld o lo n v).sessions = s.sessions := rfl
@[simp] theorem State.setRegFld_leaves (o lo n v : Nat) : (s.setRegFld o lo n v).leaves = s.leaves := rfl
@[simp] theorem State.setRegFld_frames (o lo n v : Nat) : (s.setRegFld o lo n v).frames = s.frames := rfl
@[simp] theorem State.setRegFld_sesOps (o lo n v : Nat) : (s.setRegFld o lo n v).sesOps = s.sesOps := rfl
@[simp] theorem State.setRegFld_offers (o lo n v : Nat) : (s.setRegFld o lo n v).offers = s.offers := rfl
@[simp] theorem State.setRegFld_accepts (o lo n v : Nat) : (s.setRegFld o lo n v).accepts = s.accepts := rfl
@[simp] theorem State.setRegFld_pulls (o lo n v : Nat) : (s.setRegFld o lo n v).pulls = s.pulls := rfl
@[simp] theorem State.setRegFld_heldPulls (o lo n v : Nat) : (s.setRegFld o lo n v).heldPulls = s.heldPulls := rfl
@[simp] theorem State.setRegFld_discarded (o lo n v : Nat) : (s.setRegFld o lo n v).discarded = s.discarded := rfl
@[simp] theorem State.setRegFld_reclaims (o lo n v : Nat) : (s.setRegFld o lo n v).reclaims = s.reclaims := rfl
@[simp] theorem State.setRegFld_abftArm (o lo n v : Nat) : (s.setRegFld o lo n v).abftArm = s.abftArm := rfl
@[simp] theorem State.setRegFld_tables (o lo n v : Nat) : (s.setRegFld o lo n v).tables = s.tables := rfl
@[simp] theorem State.setRegFld_tabCmd (o lo n v : Nat) : (s.setRegFld o lo n v).tabCmd = s.tabCmd := rfl
@[simp] theorem State.setRegFld_tabLast (o lo n v : Nat) : (s.setRegFld o lo n v).tabLast = s.tabLast := rfl
@[simp] theorem State.setRegFld_steps (o lo n v : Nat) : (s.setRegFld o lo n v).steps = s.steps := rfl
@[simp] theorem State.setRegFld_grads (o lo n v : Nat) : (s.setRegFld o lo n v).grads = s.grads := rfl
@[simp] theorem State.setRegFld_installs (o lo n v : Nat) : (s.setRegFld o lo n v).installs = s.installs := rfl
@[simp] theorem State.setRegFld_poisonSteps (o lo n v : Nat) : (s.setRegFld o lo n v).poisonSteps = s.poisonSteps := rfl
@[simp] theorem State.setRegFld_voices (o lo n v : Nat) : (s.setRegFld o lo n v).voices = s.voices := rfl
@[simp] theorem State.setRegFld_pads (o lo n v : Nat) : (s.setRegFld o lo n v).pads = s.pads := rfl
@[simp] theorem State.setRegFld_carries (o lo n v : Nat) : (s.setRegFld o lo n v).carries = s.carries := rfl
@[simp] theorem State.setRegFld_amms (o lo n v : Nat) : (s.setRegFld o lo n v).amms = s.amms := rfl
@[simp] theorem State.setRegFld_gcache (o lo n v : Nat) : (s.setRegFld o lo n v).gcache = s.gcache := rfl
@[simp] theorem State.setRegFld_abuf (o lo n v : Nat) : (s.setRegFld o lo n v).abuf = s.abuf := rfl
@[simp] theorem State.setRegFld_victims (o lo n v : Nat) : (s.setRegFld o lo n v).victims = s.victims := rfl
@[simp] theorem State.setRegFld_pool (o lo n v : Nat) : (s.setRegFld o lo n v).pool = s.pool := rfl
@[simp] theorem State.setRegFld_poison (o lo n v : Nat) : (s.setRegFld o lo n v).poison = s.poison := rfl
@[simp] theorem State.setRegFld_lineKey (o lo n v : Nat) : (s.setRegFld o lo n v).lineKey = s.lineKey := rfl
@[simp] theorem State.setRegFld_granules (o lo n v : Nat) : (s.setRegFld o lo n v).granules = s.granules := rfl
@[simp] theorem State.setRegFld_backed (o lo n v : Nat) : (s.setRegFld o lo n v).backed = s.backed := rfl
@[simp] theorem State.setRegFld_preparing (o lo n v : Nat) : (s.setRegFld o lo n v).preparing = s.preparing := rfl
@[simp] theorem State.setRegFld_ready (o lo n v : Nat) : (s.setRegFld o lo n v).ready = s.ready := rfl
@[simp] theorem State.setRegFld_drives (o lo n v : Nat) : (s.setRegFld o lo n v).drives = s.drives := rfl
@[simp] theorem State.setRegFld_stripe (o lo n v : Nat) : (s.setRegFld o lo n v).stripe = s.stripe := rfl
@[simp] theorem State.setRegFld_ddr (o lo n v : Nat) : (s.setRegFld o lo n v).ddr = s.ddr := rfl
@[simp] theorem State.setRegFld_tlb (o lo n v : Nat) : (s.setRegFld o lo n v).tlb = s.tlb := rfl
@[simp] theorem State.setRegFld_walkCache (o lo n v : Nat) : (s.setRegFld o lo n v).walkCache = s.walkCache := rfl
@[simp] theorem State.setRegFld_walks (o lo n v : Nat) : (s.setRegFld o lo n v).walks = s.walks := rfl
@[simp] theorem State.setRegFld_bcasts (o lo n v : Nat) : (s.setRegFld o lo n v).bcasts = s.bcasts := rfl
@[simp] theorem State.setRegFld_blocks (o lo n v : Nat) : (s.setRegFld o lo n v).blocks = s.blocks := rfl
@[simp] theorem State.setRegFld_links (o lo n v : Nat) : (s.setRegFld o lo n v).links = s.links := rfl
@[simp] theorem State.setRegFld_tags (o lo n v : Nat) : (s.setRegFld o lo n v).tags = s.tags := rfl
@[simp] theorem State.setRegFld_dir (o lo n v : Nat) : (s.setRegFld o lo n v).dir = s.dir := rfl
@[simp] theorem State.setRegFld_dirSeq (o lo n v : Nat) : (s.setRegFld o lo n v).dirSeq = s.dirSeq := rfl
@[simp] theorem State.setRegFld_txns (o lo n v : Nat) : (s.setRegFld o lo n v).txns = s.txns := rfl
@[simp] theorem State.setRegFld_homeWaits (o lo n v : Nat) : (s.setRegFld o lo n v).homeWaits = s.homeWaits := rfl
@[simp] theorem State.setRegFld_net (o lo n v : Nat) : (s.setRegFld o lo n v).net = s.net := rfl
@[simp] theorem State.setRegFld_marks (o lo n v : Nat) : (s.setRegFld o lo n v).marks = s.marks := rfl
@[simp] theorem State.setRegFld_mgQueue (o lo n v : Nat) : (s.setRegFld o lo n v).mgQueue = s.mgQueue := rfl
@[simp] theorem State.setRegFld_drains (o lo n v : Nat) : (s.setRegFld o lo n v).drains = s.drains := rfl
@[simp] theorem State.setRegFld_modeSwitches (o lo n v : Nat) : (s.setRegFld o lo n v).modeSwitches = s.modeSwitches := rfl
@[simp] theorem State.setRegFld_keeper (o lo n v : Nat) : (s.setRegFld o lo n v).keeper = s.keeper := rfl
@[simp] theorem State.setRegFld_nvm (o lo n v : Nat) : (s.setRegFld o lo n v).nvm = s.nvm := rfl
@[simp] theorem State.setRegFld_ras (o lo n v : Nat) : (s.setRegFld o lo n v).ras = s.ras := rfl
@[simp] theorem State.setRegFld_pwr (o lo n v : Nat) : (s.setRegFld o lo n v).pwr = s.pwr := rfl
@[simp] theorem State.setRegFld_use (o lo n v : Nat) : (s.setRegFld o lo n v).use = s.use := rfl
@[simp] theorem State.setRegFld_engineQ (o lo n v : Nat) : (s.setRegFld o lo n v).engineQ = s.engineQ := rfl
@[simp] theorem State.setRegFld_came (o lo n v : Nat) : (s.setRegFld o lo n v).came = s.came := rfl
@[simp] theorem State.setRegFld_heldOps (o lo n v : Nat) : (s.setRegFld o lo n v).heldOps = s.heldOps := rfl
@[simp] theorem State.setRegFld_receiving (o lo n v : Nat) : (s.setRegFld o lo n v).receiving = s.receiving := rfl
@[simp] theorem State.setRegFld_sesCache (o lo n v : Nat) : (s.setRegFld o lo n v).sesCache = s.sesCache := rfl
@[simp] theorem State.setRegFld_mgWaits (o lo n v : Nat) : (s.setRegFld o lo n v).mgWaits = s.mgWaits := rfl
@[simp] theorem State.setRegFld_missed (o lo n v : Nat) : (s.setRegFld o lo n v).missed = s.missed := rfl

/-! setRegBit changes regs. -/

@[simp] theorem State.setRegBit_pending (o i : Nat) (b : Bool) : (s.setRegBit o i b).pending = s.pending := rfl
@[simp] theorem State.setRegBit_out (o i : Nat) (b : Bool) : (s.setRegBit o i b).out = s.out := rfl
@[simp] theorem State.setRegBit_free (o i : Nat) (b : Bool) : (s.setRegBit o i b).free = s.free := rfl
@[simp] theorem State.setRegBit_variant (o i : Nat) (b : Bool) : (s.setRegBit o i b).variant = s.variant := rfl
@[simp] theorem State.setRegBit_time (o i : Nat) (b : Bool) : (s.setRegBit o i b).time = s.time := rfl
@[simp] theorem State.setRegBit_latch (o i : Nat) (b : Bool) : (s.setRegBit o i b).latch = s.latch := rfl
@[simp] theorem State.setRegBit_rwk (o i : Nat) (b : Bool) : (s.setRegBit o i b).rwk = s.rwk := rfl
@[simp] theorem State.setRegBit_ports (o i : Nat) (b : Bool) : (s.setRegBit o i b).ports = s.ports := rfl
@[simp] theorem State.setRegBit_rings (o i : Nat) (b : Bool) : (s.setRegBit o i b).rings = s.rings := rfl
@[simp] theorem State.setRegBit_ringCmd (o i : Nat) (b : Bool) : (s.setRegBit o i b).ringCmd = s.ringCmd := rfl
@[simp] theorem State.setRegBit_ringLast (o i : Nat) (b : Bool) : (s.setRegBit o i b).ringLast = s.ringLast := rfl
@[simp] theorem State.setRegBit_rot (o i : Nat) (b : Bool) : (s.setRegBit o i b).rot = s.rot := rfl
@[simp] theorem State.setRegBit_sessions (o i : Nat) (b : Bool) : (s.setRegBit o i b).sessions = s.sessions := rfl
@[simp] theorem State.setRegBit_leaves (o i : Nat) (b : Bool) : (s.setRegBit o i b).leaves = s.leaves := rfl
@[simp] theorem State.setRegBit_frames (o i : Nat) (b : Bool) : (s.setRegBit o i b).frames = s.frames := rfl
@[simp] theorem State.setRegBit_sesOps (o i : Nat) (b : Bool) : (s.setRegBit o i b).sesOps = s.sesOps := rfl
@[simp] theorem State.setRegBit_offers (o i : Nat) (b : Bool) : (s.setRegBit o i b).offers = s.offers := rfl
@[simp] theorem State.setRegBit_accepts (o i : Nat) (b : Bool) : (s.setRegBit o i b).accepts = s.accepts := rfl
@[simp] theorem State.setRegBit_pulls (o i : Nat) (b : Bool) : (s.setRegBit o i b).pulls = s.pulls := rfl
@[simp] theorem State.setRegBit_heldPulls (o i : Nat) (b : Bool) : (s.setRegBit o i b).heldPulls = s.heldPulls := rfl
@[simp] theorem State.setRegBit_discarded (o i : Nat) (b : Bool) : (s.setRegBit o i b).discarded = s.discarded := rfl
@[simp] theorem State.setRegBit_reclaims (o i : Nat) (b : Bool) : (s.setRegBit o i b).reclaims = s.reclaims := rfl
@[simp] theorem State.setRegBit_abftArm (o i : Nat) (b : Bool) : (s.setRegBit o i b).abftArm = s.abftArm := rfl
@[simp] theorem State.setRegBit_tables (o i : Nat) (b : Bool) : (s.setRegBit o i b).tables = s.tables := rfl
@[simp] theorem State.setRegBit_tabCmd (o i : Nat) (b : Bool) : (s.setRegBit o i b).tabCmd = s.tabCmd := rfl
@[simp] theorem State.setRegBit_tabLast (o i : Nat) (b : Bool) : (s.setRegBit o i b).tabLast = s.tabLast := rfl
@[simp] theorem State.setRegBit_steps (o i : Nat) (b : Bool) : (s.setRegBit o i b).steps = s.steps := rfl
@[simp] theorem State.setRegBit_grads (o i : Nat) (b : Bool) : (s.setRegBit o i b).grads = s.grads := rfl
@[simp] theorem State.setRegBit_installs (o i : Nat) (b : Bool) : (s.setRegBit o i b).installs = s.installs := rfl
@[simp] theorem State.setRegBit_poisonSteps (o i : Nat) (b : Bool) : (s.setRegBit o i b).poisonSteps = s.poisonSteps := rfl
@[simp] theorem State.setRegBit_voices (o i : Nat) (b : Bool) : (s.setRegBit o i b).voices = s.voices := rfl
@[simp] theorem State.setRegBit_pads (o i : Nat) (b : Bool) : (s.setRegBit o i b).pads = s.pads := rfl
@[simp] theorem State.setRegBit_carries (o i : Nat) (b : Bool) : (s.setRegBit o i b).carries = s.carries := rfl
@[simp] theorem State.setRegBit_amms (o i : Nat) (b : Bool) : (s.setRegBit o i b).amms = s.amms := rfl
@[simp] theorem State.setRegBit_gcache (o i : Nat) (b : Bool) : (s.setRegBit o i b).gcache = s.gcache := rfl
@[simp] theorem State.setRegBit_abuf (o i : Nat) (b : Bool) : (s.setRegBit o i b).abuf = s.abuf := rfl
@[simp] theorem State.setRegBit_victims (o i : Nat) (b : Bool) : (s.setRegBit o i b).victims = s.victims := rfl
@[simp] theorem State.setRegBit_pool (o i : Nat) (b : Bool) : (s.setRegBit o i b).pool = s.pool := rfl
@[simp] theorem State.setRegBit_poison (o i : Nat) (b : Bool) : (s.setRegBit o i b).poison = s.poison := rfl
@[simp] theorem State.setRegBit_lineKey (o i : Nat) (b : Bool) : (s.setRegBit o i b).lineKey = s.lineKey := rfl
@[simp] theorem State.setRegBit_granules (o i : Nat) (b : Bool) : (s.setRegBit o i b).granules = s.granules := rfl
@[simp] theorem State.setRegBit_backed (o i : Nat) (b : Bool) : (s.setRegBit o i b).backed = s.backed := rfl
@[simp] theorem State.setRegBit_preparing (o i : Nat) (b : Bool) : (s.setRegBit o i b).preparing = s.preparing := rfl
@[simp] theorem State.setRegBit_ready (o i : Nat) (b : Bool) : (s.setRegBit o i b).ready = s.ready := rfl
@[simp] theorem State.setRegBit_drives (o i : Nat) (b : Bool) : (s.setRegBit o i b).drives = s.drives := rfl
@[simp] theorem State.setRegBit_stripe (o i : Nat) (b : Bool) : (s.setRegBit o i b).stripe = s.stripe := rfl
@[simp] theorem State.setRegBit_ddr (o i : Nat) (b : Bool) : (s.setRegBit o i b).ddr = s.ddr := rfl
@[simp] theorem State.setRegBit_tlb (o i : Nat) (b : Bool) : (s.setRegBit o i b).tlb = s.tlb := rfl
@[simp] theorem State.setRegBit_walkCache (o i : Nat) (b : Bool) : (s.setRegBit o i b).walkCache = s.walkCache := rfl
@[simp] theorem State.setRegBit_walks (o i : Nat) (b : Bool) : (s.setRegBit o i b).walks = s.walks := rfl
@[simp] theorem State.setRegBit_bcasts (o i : Nat) (b : Bool) : (s.setRegBit o i b).bcasts = s.bcasts := rfl
@[simp] theorem State.setRegBit_blocks (o i : Nat) (b : Bool) : (s.setRegBit o i b).blocks = s.blocks := rfl
@[simp] theorem State.setRegBit_links (o i : Nat) (b : Bool) : (s.setRegBit o i b).links = s.links := rfl
@[simp] theorem State.setRegBit_tags (o i : Nat) (b : Bool) : (s.setRegBit o i b).tags = s.tags := rfl
@[simp] theorem State.setRegBit_dir (o i : Nat) (b : Bool) : (s.setRegBit o i b).dir = s.dir := rfl
@[simp] theorem State.setRegBit_dirSeq (o i : Nat) (b : Bool) : (s.setRegBit o i b).dirSeq = s.dirSeq := rfl
@[simp] theorem State.setRegBit_txns (o i : Nat) (b : Bool) : (s.setRegBit o i b).txns = s.txns := rfl
@[simp] theorem State.setRegBit_homeWaits (o i : Nat) (b : Bool) : (s.setRegBit o i b).homeWaits = s.homeWaits := rfl
@[simp] theorem State.setRegBit_net (o i : Nat) (b : Bool) : (s.setRegBit o i b).net = s.net := rfl
@[simp] theorem State.setRegBit_marks (o i : Nat) (b : Bool) : (s.setRegBit o i b).marks = s.marks := rfl
@[simp] theorem State.setRegBit_mgQueue (o i : Nat) (b : Bool) : (s.setRegBit o i b).mgQueue = s.mgQueue := rfl
@[simp] theorem State.setRegBit_drains (o i : Nat) (b : Bool) : (s.setRegBit o i b).drains = s.drains := rfl
@[simp] theorem State.setRegBit_modeSwitches (o i : Nat) (b : Bool) : (s.setRegBit o i b).modeSwitches = s.modeSwitches := rfl
@[simp] theorem State.setRegBit_keeper (o i : Nat) (b : Bool) : (s.setRegBit o i b).keeper = s.keeper := rfl
@[simp] theorem State.setRegBit_nvm (o i : Nat) (b : Bool) : (s.setRegBit o i b).nvm = s.nvm := rfl
@[simp] theorem State.setRegBit_ras (o i : Nat) (b : Bool) : (s.setRegBit o i b).ras = s.ras := rfl
@[simp] theorem State.setRegBit_pwr (o i : Nat) (b : Bool) : (s.setRegBit o i b).pwr = s.pwr := rfl
@[simp] theorem State.setRegBit_use (o i : Nat) (b : Bool) : (s.setRegBit o i b).use = s.use := rfl
@[simp] theorem State.setRegBit_engineQ (o i : Nat) (b : Bool) : (s.setRegBit o i b).engineQ = s.engineQ := rfl
@[simp] theorem State.setRegBit_came (o i : Nat) (b : Bool) : (s.setRegBit o i b).came = s.came := rfl
@[simp] theorem State.setRegBit_heldOps (o i : Nat) (b : Bool) : (s.setRegBit o i b).heldOps = s.heldOps := rfl
@[simp] theorem State.setRegBit_receiving (o i : Nat) (b : Bool) : (s.setRegBit o i b).receiving = s.receiving := rfl
@[simp] theorem State.setRegBit_sesCache (o i : Nat) (b : Bool) : (s.setRegBit o i b).sesCache = s.sesCache := rfl
@[simp] theorem State.setRegBit_mgWaits (o i : Nat) (b : Bool) : (s.setRegBit o i b).mgWaits = s.mgWaits := rfl
@[simp] theorem State.setRegBit_missed (o i : Nat) (b : Bool) : (s.setRegBit o i b).missed = s.missed := rfl

/-! putByte changes pool. -/

@[simp] theorem State.putByte_pending (o : Nat) (b : Byte) : (s.putByte o b).pending = s.pending := rfl
@[simp] theorem State.putByte_out (o : Nat) (b : Byte) : (s.putByte o b).out = s.out := rfl
@[simp] theorem State.putByte_free (o : Nat) (b : Byte) : (s.putByte o b).free = s.free := rfl
@[simp] theorem State.putByte_variant (o : Nat) (b : Byte) : (s.putByte o b).variant = s.variant := rfl
@[simp] theorem State.putByte_time (o : Nat) (b : Byte) : (s.putByte o b).time = s.time := rfl
@[simp] theorem State.putByte_latch (o : Nat) (b : Byte) : (s.putByte o b).latch = s.latch := rfl
@[simp] theorem State.putByte_rwk (o : Nat) (b : Byte) : (s.putByte o b).rwk = s.rwk := rfl
@[simp] theorem State.putByte_regs (o : Nat) (b : Byte) : (s.putByte o b).regs = s.regs := rfl
@[simp] theorem State.putByte_ports (o : Nat) (b : Byte) : (s.putByte o b).ports = s.ports := rfl
@[simp] theorem State.putByte_rings (o : Nat) (b : Byte) : (s.putByte o b).rings = s.rings := rfl
@[simp] theorem State.putByte_ringCmd (o : Nat) (b : Byte) : (s.putByte o b).ringCmd = s.ringCmd := rfl
@[simp] theorem State.putByte_ringLast (o : Nat) (b : Byte) : (s.putByte o b).ringLast = s.ringLast := rfl
@[simp] theorem State.putByte_rot (o : Nat) (b : Byte) : (s.putByte o b).rot = s.rot := rfl
@[simp] theorem State.putByte_sessions (o : Nat) (b : Byte) : (s.putByte o b).sessions = s.sessions := rfl
@[simp] theorem State.putByte_leaves (o : Nat) (b : Byte) : (s.putByte o b).leaves = s.leaves := rfl
@[simp] theorem State.putByte_frames (o : Nat) (b : Byte) : (s.putByte o b).frames = s.frames := rfl
@[simp] theorem State.putByte_sesOps (o : Nat) (b : Byte) : (s.putByte o b).sesOps = s.sesOps := rfl
@[simp] theorem State.putByte_offers (o : Nat) (b : Byte) : (s.putByte o b).offers = s.offers := rfl
@[simp] theorem State.putByte_accepts (o : Nat) (b : Byte) : (s.putByte o b).accepts = s.accepts := rfl
@[simp] theorem State.putByte_pulls (o : Nat) (b : Byte) : (s.putByte o b).pulls = s.pulls := rfl
@[simp] theorem State.putByte_heldPulls (o : Nat) (b : Byte) : (s.putByte o b).heldPulls = s.heldPulls := rfl
@[simp] theorem State.putByte_discarded (o : Nat) (b : Byte) : (s.putByte o b).discarded = s.discarded := rfl
@[simp] theorem State.putByte_reclaims (o : Nat) (b : Byte) : (s.putByte o b).reclaims = s.reclaims := rfl
@[simp] theorem State.putByte_abftArm (o : Nat) (b : Byte) : (s.putByte o b).abftArm = s.abftArm := rfl
@[simp] theorem State.putByte_tables (o : Nat) (b : Byte) : (s.putByte o b).tables = s.tables := rfl
@[simp] theorem State.putByte_tabCmd (o : Nat) (b : Byte) : (s.putByte o b).tabCmd = s.tabCmd := rfl
@[simp] theorem State.putByte_tabLast (o : Nat) (b : Byte) : (s.putByte o b).tabLast = s.tabLast := rfl
@[simp] theorem State.putByte_steps (o : Nat) (b : Byte) : (s.putByte o b).steps = s.steps := rfl
@[simp] theorem State.putByte_grads (o : Nat) (b : Byte) : (s.putByte o b).grads = s.grads := rfl
@[simp] theorem State.putByte_installs (o : Nat) (b : Byte) : (s.putByte o b).installs = s.installs := rfl
@[simp] theorem State.putByte_poisonSteps (o : Nat) (b : Byte) : (s.putByte o b).poisonSteps = s.poisonSteps := rfl
@[simp] theorem State.putByte_voices (o : Nat) (b : Byte) : (s.putByte o b).voices = s.voices := rfl
@[simp] theorem State.putByte_pads (o : Nat) (b : Byte) : (s.putByte o b).pads = s.pads := rfl
@[simp] theorem State.putByte_carries (o : Nat) (b : Byte) : (s.putByte o b).carries = s.carries := rfl
@[simp] theorem State.putByte_amms (o : Nat) (b : Byte) : (s.putByte o b).amms = s.amms := rfl
@[simp] theorem State.putByte_gcache (o : Nat) (b : Byte) : (s.putByte o b).gcache = s.gcache := rfl
@[simp] theorem State.putByte_abuf (o : Nat) (b : Byte) : (s.putByte o b).abuf = s.abuf := rfl
@[simp] theorem State.putByte_victims (o : Nat) (b : Byte) : (s.putByte o b).victims = s.victims := rfl
@[simp] theorem State.putByte_poison (o : Nat) (b : Byte) : (s.putByte o b).poison = s.poison := rfl
@[simp] theorem State.putByte_lineKey (o : Nat) (b : Byte) : (s.putByte o b).lineKey = s.lineKey := rfl
@[simp] theorem State.putByte_granules (o : Nat) (b : Byte) : (s.putByte o b).granules = s.granules := rfl
@[simp] theorem State.putByte_backed (o : Nat) (b : Byte) : (s.putByte o b).backed = s.backed := rfl
@[simp] theorem State.putByte_preparing (o : Nat) (b : Byte) : (s.putByte o b).preparing = s.preparing := rfl
@[simp] theorem State.putByte_ready (o : Nat) (b : Byte) : (s.putByte o b).ready = s.ready := rfl
@[simp] theorem State.putByte_drives (o : Nat) (b : Byte) : (s.putByte o b).drives = s.drives := rfl
@[simp] theorem State.putByte_stripe (o : Nat) (b : Byte) : (s.putByte o b).stripe = s.stripe := rfl
@[simp] theorem State.putByte_ddr (o : Nat) (b : Byte) : (s.putByte o b).ddr = s.ddr := rfl
@[simp] theorem State.putByte_tlb (o : Nat) (b : Byte) : (s.putByte o b).tlb = s.tlb := rfl
@[simp] theorem State.putByte_walkCache (o : Nat) (b : Byte) : (s.putByte o b).walkCache = s.walkCache := rfl
@[simp] theorem State.putByte_walks (o : Nat) (b : Byte) : (s.putByte o b).walks = s.walks := rfl
@[simp] theorem State.putByte_bcasts (o : Nat) (b : Byte) : (s.putByte o b).bcasts = s.bcasts := rfl
@[simp] theorem State.putByte_blocks (o : Nat) (b : Byte) : (s.putByte o b).blocks = s.blocks := rfl
@[simp] theorem State.putByte_links (o : Nat) (b : Byte) : (s.putByte o b).links = s.links := rfl
@[simp] theorem State.putByte_tags (o : Nat) (b : Byte) : (s.putByte o b).tags = s.tags := rfl
@[simp] theorem State.putByte_dir (o : Nat) (b : Byte) : (s.putByte o b).dir = s.dir := rfl
@[simp] theorem State.putByte_dirSeq (o : Nat) (b : Byte) : (s.putByte o b).dirSeq = s.dirSeq := rfl
@[simp] theorem State.putByte_txns (o : Nat) (b : Byte) : (s.putByte o b).txns = s.txns := rfl
@[simp] theorem State.putByte_homeWaits (o : Nat) (b : Byte) : (s.putByte o b).homeWaits = s.homeWaits := rfl
@[simp] theorem State.putByte_net (o : Nat) (b : Byte) : (s.putByte o b).net = s.net := rfl
@[simp] theorem State.putByte_marks (o : Nat) (b : Byte) : (s.putByte o b).marks = s.marks := rfl
@[simp] theorem State.putByte_mgQueue (o : Nat) (b : Byte) : (s.putByte o b).mgQueue = s.mgQueue := rfl
@[simp] theorem State.putByte_drains (o : Nat) (b : Byte) : (s.putByte o b).drains = s.drains := rfl
@[simp] theorem State.putByte_modeSwitches (o : Nat) (b : Byte) : (s.putByte o b).modeSwitches = s.modeSwitches := rfl
@[simp] theorem State.putByte_keeper (o : Nat) (b : Byte) : (s.putByte o b).keeper = s.keeper := rfl
@[simp] theorem State.putByte_nvm (o : Nat) (b : Byte) : (s.putByte o b).nvm = s.nvm := rfl
@[simp] theorem State.putByte_ras (o : Nat) (b : Byte) : (s.putByte o b).ras = s.ras := rfl
@[simp] theorem State.putByte_pwr (o : Nat) (b : Byte) : (s.putByte o b).pwr = s.pwr := rfl
@[simp] theorem State.putByte_use (o : Nat) (b : Byte) : (s.putByte o b).use = s.use := rfl
@[simp] theorem State.putByte_engineQ (o : Nat) (b : Byte) : (s.putByte o b).engineQ = s.engineQ := rfl
@[simp] theorem State.putByte_came (o : Nat) (b : Byte) : (s.putByte o b).came = s.came := rfl
@[simp] theorem State.putByte_heldOps (o : Nat) (b : Byte) : (s.putByte o b).heldOps = s.heldOps := rfl
@[simp] theorem State.putByte_receiving (o : Nat) (b : Byte) : (s.putByte o b).receiving = s.receiving := rfl
@[simp] theorem State.putByte_sesCache (o : Nat) (b : Byte) : (s.putByte o b).sesCache = s.sesCache := rfl
@[simp] theorem State.putByte_mgWaits (o : Nat) (b : Byte) : (s.putByte o b).mgWaits = s.mgWaits := rfl
@[simp] theorem State.putByte_missed (o : Nat) (b : Byte) : (s.putByte o b).missed = s.missed := rfl

/-! setPoison changes poison. -/

@[simp] theorem State.setPoison_pending (l : Nat) (b : Bool) : (s.setPoison l b).pending = s.pending := rfl
@[simp] theorem State.setPoison_out (l : Nat) (b : Bool) : (s.setPoison l b).out = s.out := rfl
@[simp] theorem State.setPoison_free (l : Nat) (b : Bool) : (s.setPoison l b).free = s.free := rfl
@[simp] theorem State.setPoison_variant (l : Nat) (b : Bool) : (s.setPoison l b).variant = s.variant := rfl
@[simp] theorem State.setPoison_time (l : Nat) (b : Bool) : (s.setPoison l b).time = s.time := rfl
@[simp] theorem State.setPoison_latch (l : Nat) (b : Bool) : (s.setPoison l b).latch = s.latch := rfl
@[simp] theorem State.setPoison_rwk (l : Nat) (b : Bool) : (s.setPoison l b).rwk = s.rwk := rfl
@[simp] theorem State.setPoison_regs (l : Nat) (b : Bool) : (s.setPoison l b).regs = s.regs := rfl
@[simp] theorem State.setPoison_ports (l : Nat) (b : Bool) : (s.setPoison l b).ports = s.ports := rfl
@[simp] theorem State.setPoison_rings (l : Nat) (b : Bool) : (s.setPoison l b).rings = s.rings := rfl
@[simp] theorem State.setPoison_ringCmd (l : Nat) (b : Bool) : (s.setPoison l b).ringCmd = s.ringCmd := rfl
@[simp] theorem State.setPoison_ringLast (l : Nat) (b : Bool) : (s.setPoison l b).ringLast = s.ringLast := rfl
@[simp] theorem State.setPoison_rot (l : Nat) (b : Bool) : (s.setPoison l b).rot = s.rot := rfl
@[simp] theorem State.setPoison_sessions (l : Nat) (b : Bool) : (s.setPoison l b).sessions = s.sessions := rfl
@[simp] theorem State.setPoison_leaves (l : Nat) (b : Bool) : (s.setPoison l b).leaves = s.leaves := rfl
@[simp] theorem State.setPoison_frames (l : Nat) (b : Bool) : (s.setPoison l b).frames = s.frames := rfl
@[simp] theorem State.setPoison_sesOps (l : Nat) (b : Bool) : (s.setPoison l b).sesOps = s.sesOps := rfl
@[simp] theorem State.setPoison_offers (l : Nat) (b : Bool) : (s.setPoison l b).offers = s.offers := rfl
@[simp] theorem State.setPoison_accepts (l : Nat) (b : Bool) : (s.setPoison l b).accepts = s.accepts := rfl
@[simp] theorem State.setPoison_pulls (l : Nat) (b : Bool) : (s.setPoison l b).pulls = s.pulls := rfl
@[simp] theorem State.setPoison_heldPulls (l : Nat) (b : Bool) : (s.setPoison l b).heldPulls = s.heldPulls := rfl
@[simp] theorem State.setPoison_discarded (l : Nat) (b : Bool) : (s.setPoison l b).discarded = s.discarded := rfl
@[simp] theorem State.setPoison_reclaims (l : Nat) (b : Bool) : (s.setPoison l b).reclaims = s.reclaims := rfl
@[simp] theorem State.setPoison_abftArm (l : Nat) (b : Bool) : (s.setPoison l b).abftArm = s.abftArm := rfl
@[simp] theorem State.setPoison_tables (l : Nat) (b : Bool) : (s.setPoison l b).tables = s.tables := rfl
@[simp] theorem State.setPoison_tabCmd (l : Nat) (b : Bool) : (s.setPoison l b).tabCmd = s.tabCmd := rfl
@[simp] theorem State.setPoison_tabLast (l : Nat) (b : Bool) : (s.setPoison l b).tabLast = s.tabLast := rfl
@[simp] theorem State.setPoison_steps (l : Nat) (b : Bool) : (s.setPoison l b).steps = s.steps := rfl
@[simp] theorem State.setPoison_grads (l : Nat) (b : Bool) : (s.setPoison l b).grads = s.grads := rfl
@[simp] theorem State.setPoison_installs (l : Nat) (b : Bool) : (s.setPoison l b).installs = s.installs := rfl
@[simp] theorem State.setPoison_poisonSteps (l : Nat) (b : Bool) : (s.setPoison l b).poisonSteps = s.poisonSteps := rfl
@[simp] theorem State.setPoison_voices (l : Nat) (b : Bool) : (s.setPoison l b).voices = s.voices := rfl
@[simp] theorem State.setPoison_pads (l : Nat) (b : Bool) : (s.setPoison l b).pads = s.pads := rfl
@[simp] theorem State.setPoison_carries (l : Nat) (b : Bool) : (s.setPoison l b).carries = s.carries := rfl
@[simp] theorem State.setPoison_amms (l : Nat) (b : Bool) : (s.setPoison l b).amms = s.amms := rfl
@[simp] theorem State.setPoison_gcache (l : Nat) (b : Bool) : (s.setPoison l b).gcache = s.gcache := rfl
@[simp] theorem State.setPoison_abuf (l : Nat) (b : Bool) : (s.setPoison l b).abuf = s.abuf := rfl
@[simp] theorem State.setPoison_victims (l : Nat) (b : Bool) : (s.setPoison l b).victims = s.victims := rfl
@[simp] theorem State.setPoison_pool (l : Nat) (b : Bool) : (s.setPoison l b).pool = s.pool := rfl
@[simp] theorem State.setPoison_lineKey (l : Nat) (b : Bool) : (s.setPoison l b).lineKey = s.lineKey := rfl
@[simp] theorem State.setPoison_granules (l : Nat) (b : Bool) : (s.setPoison l b).granules = s.granules := rfl
@[simp] theorem State.setPoison_backed (l : Nat) (b : Bool) : (s.setPoison l b).backed = s.backed := rfl
@[simp] theorem State.setPoison_preparing (l : Nat) (b : Bool) : (s.setPoison l b).preparing = s.preparing := rfl
@[simp] theorem State.setPoison_ready (l : Nat) (b : Bool) : (s.setPoison l b).ready = s.ready := rfl
@[simp] theorem State.setPoison_drives (l : Nat) (b : Bool) : (s.setPoison l b).drives = s.drives := rfl
@[simp] theorem State.setPoison_stripe (l : Nat) (b : Bool) : (s.setPoison l b).stripe = s.stripe := rfl
@[simp] theorem State.setPoison_ddr (l : Nat) (b : Bool) : (s.setPoison l b).ddr = s.ddr := rfl
@[simp] theorem State.setPoison_tlb (l : Nat) (b : Bool) : (s.setPoison l b).tlb = s.tlb := rfl
@[simp] theorem State.setPoison_walkCache (l : Nat) (b : Bool) : (s.setPoison l b).walkCache = s.walkCache := rfl
@[simp] theorem State.setPoison_walks (l : Nat) (b : Bool) : (s.setPoison l b).walks = s.walks := rfl
@[simp] theorem State.setPoison_bcasts (l : Nat) (b : Bool) : (s.setPoison l b).bcasts = s.bcasts := rfl
@[simp] theorem State.setPoison_blocks (l : Nat) (b : Bool) : (s.setPoison l b).blocks = s.blocks := rfl
@[simp] theorem State.setPoison_links (l : Nat) (b : Bool) : (s.setPoison l b).links = s.links := rfl
@[simp] theorem State.setPoison_tags (l : Nat) (b : Bool) : (s.setPoison l b).tags = s.tags := rfl
@[simp] theorem State.setPoison_dir (l : Nat) (b : Bool) : (s.setPoison l b).dir = s.dir := rfl
@[simp] theorem State.setPoison_dirSeq (l : Nat) (b : Bool) : (s.setPoison l b).dirSeq = s.dirSeq := rfl
@[simp] theorem State.setPoison_txns (l : Nat) (b : Bool) : (s.setPoison l b).txns = s.txns := rfl
@[simp] theorem State.setPoison_homeWaits (l : Nat) (b : Bool) : (s.setPoison l b).homeWaits = s.homeWaits := rfl
@[simp] theorem State.setPoison_net (l : Nat) (b : Bool) : (s.setPoison l b).net = s.net := rfl
@[simp] theorem State.setPoison_marks (l : Nat) (b : Bool) : (s.setPoison l b).marks = s.marks := rfl
@[simp] theorem State.setPoison_mgQueue (l : Nat) (b : Bool) : (s.setPoison l b).mgQueue = s.mgQueue := rfl
@[simp] theorem State.setPoison_drains (l : Nat) (b : Bool) : (s.setPoison l b).drains = s.drains := rfl
@[simp] theorem State.setPoison_modeSwitches (l : Nat) (b : Bool) : (s.setPoison l b).modeSwitches = s.modeSwitches := rfl
@[simp] theorem State.setPoison_keeper (l : Nat) (b : Bool) : (s.setPoison l b).keeper = s.keeper := rfl
@[simp] theorem State.setPoison_nvm (l : Nat) (b : Bool) : (s.setPoison l b).nvm = s.nvm := rfl
@[simp] theorem State.setPoison_ras (l : Nat) (b : Bool) : (s.setPoison l b).ras = s.ras := rfl
@[simp] theorem State.setPoison_pwr (l : Nat) (b : Bool) : (s.setPoison l b).pwr = s.pwr := rfl
@[simp] theorem State.setPoison_use (l : Nat) (b : Bool) : (s.setPoison l b).use = s.use := rfl
@[simp] theorem State.setPoison_engineQ (l : Nat) (b : Bool) : (s.setPoison l b).engineQ = s.engineQ := rfl
@[simp] theorem State.setPoison_came (l : Nat) (b : Bool) : (s.setPoison l b).came = s.came := rfl
@[simp] theorem State.setPoison_heldOps (l : Nat) (b : Bool) : (s.setPoison l b).heldOps = s.heldOps := rfl
@[simp] theorem State.setPoison_receiving (l : Nat) (b : Bool) : (s.setPoison l b).receiving = s.receiving := rfl
@[simp] theorem State.setPoison_sesCache (l : Nat) (b : Bool) : (s.setPoison l b).sesCache = s.sesCache := rfl
@[simp] theorem State.setPoison_mgWaits (l : Nat) (b : Bool) : (s.setPoison l b).mgWaits = s.mgWaits := rfl
@[simp] theorem State.setPoison_missed (l : Nat) (b : Bool) : (s.setPoison l b).missed = s.missed := rfl

/-! updRot changes rot. -/

@[simp] theorem State.updRot_pending (f : Rot → Rot) : (s.updRot f).pending = s.pending := rfl
@[simp] theorem State.updRot_out (f : Rot → Rot) : (s.updRot f).out = s.out := rfl
@[simp] theorem State.updRot_free (f : Rot → Rot) : (s.updRot f).free = s.free := rfl
@[simp] theorem State.updRot_variant (f : Rot → Rot) : (s.updRot f).variant = s.variant := rfl
@[simp] theorem State.updRot_time (f : Rot → Rot) : (s.updRot f).time = s.time := rfl
@[simp] theorem State.updRot_latch (f : Rot → Rot) : (s.updRot f).latch = s.latch := rfl
@[simp] theorem State.updRot_rwk (f : Rot → Rot) : (s.updRot f).rwk = s.rwk := rfl
@[simp] theorem State.updRot_regs (f : Rot → Rot) : (s.updRot f).regs = s.regs := rfl
@[simp] theorem State.updRot_ports (f : Rot → Rot) : (s.updRot f).ports = s.ports := rfl
@[simp] theorem State.updRot_rings (f : Rot → Rot) : (s.updRot f).rings = s.rings := rfl
@[simp] theorem State.updRot_ringCmd (f : Rot → Rot) : (s.updRot f).ringCmd = s.ringCmd := rfl
@[simp] theorem State.updRot_ringLast (f : Rot → Rot) : (s.updRot f).ringLast = s.ringLast := rfl
@[simp] theorem State.updRot_sessions (f : Rot → Rot) : (s.updRot f).sessions = s.sessions := rfl
@[simp] theorem State.updRot_leaves (f : Rot → Rot) : (s.updRot f).leaves = s.leaves := rfl
@[simp] theorem State.updRot_frames (f : Rot → Rot) : (s.updRot f).frames = s.frames := rfl
@[simp] theorem State.updRot_sesOps (f : Rot → Rot) : (s.updRot f).sesOps = s.sesOps := rfl
@[simp] theorem State.updRot_offers (f : Rot → Rot) : (s.updRot f).offers = s.offers := rfl
@[simp] theorem State.updRot_accepts (f : Rot → Rot) : (s.updRot f).accepts = s.accepts := rfl
@[simp] theorem State.updRot_pulls (f : Rot → Rot) : (s.updRot f).pulls = s.pulls := rfl
@[simp] theorem State.updRot_heldPulls (f : Rot → Rot) : (s.updRot f).heldPulls = s.heldPulls := rfl
@[simp] theorem State.updRot_discarded (f : Rot → Rot) : (s.updRot f).discarded = s.discarded := rfl
@[simp] theorem State.updRot_reclaims (f : Rot → Rot) : (s.updRot f).reclaims = s.reclaims := rfl
@[simp] theorem State.updRot_abftArm (f : Rot → Rot) : (s.updRot f).abftArm = s.abftArm := rfl
@[simp] theorem State.updRot_tables (f : Rot → Rot) : (s.updRot f).tables = s.tables := rfl
@[simp] theorem State.updRot_tabCmd (f : Rot → Rot) : (s.updRot f).tabCmd = s.tabCmd := rfl
@[simp] theorem State.updRot_tabLast (f : Rot → Rot) : (s.updRot f).tabLast = s.tabLast := rfl
@[simp] theorem State.updRot_steps (f : Rot → Rot) : (s.updRot f).steps = s.steps := rfl
@[simp] theorem State.updRot_grads (f : Rot → Rot) : (s.updRot f).grads = s.grads := rfl
@[simp] theorem State.updRot_installs (f : Rot → Rot) : (s.updRot f).installs = s.installs := rfl
@[simp] theorem State.updRot_poisonSteps (f : Rot → Rot) : (s.updRot f).poisonSteps = s.poisonSteps := rfl
@[simp] theorem State.updRot_voices (f : Rot → Rot) : (s.updRot f).voices = s.voices := rfl
@[simp] theorem State.updRot_pads (f : Rot → Rot) : (s.updRot f).pads = s.pads := rfl
@[simp] theorem State.updRot_carries (f : Rot → Rot) : (s.updRot f).carries = s.carries := rfl
@[simp] theorem State.updRot_amms (f : Rot → Rot) : (s.updRot f).amms = s.amms := rfl
@[simp] theorem State.updRot_gcache (f : Rot → Rot) : (s.updRot f).gcache = s.gcache := rfl
@[simp] theorem State.updRot_abuf (f : Rot → Rot) : (s.updRot f).abuf = s.abuf := rfl
@[simp] theorem State.updRot_victims (f : Rot → Rot) : (s.updRot f).victims = s.victims := rfl
@[simp] theorem State.updRot_pool (f : Rot → Rot) : (s.updRot f).pool = s.pool := rfl
@[simp] theorem State.updRot_poison (f : Rot → Rot) : (s.updRot f).poison = s.poison := rfl
@[simp] theorem State.updRot_lineKey (f : Rot → Rot) : (s.updRot f).lineKey = s.lineKey := rfl
@[simp] theorem State.updRot_granules (f : Rot → Rot) : (s.updRot f).granules = s.granules := rfl
@[simp] theorem State.updRot_backed (f : Rot → Rot) : (s.updRot f).backed = s.backed := rfl
@[simp] theorem State.updRot_preparing (f : Rot → Rot) : (s.updRot f).preparing = s.preparing := rfl
@[simp] theorem State.updRot_ready (f : Rot → Rot) : (s.updRot f).ready = s.ready := rfl
@[simp] theorem State.updRot_drives (f : Rot → Rot) : (s.updRot f).drives = s.drives := rfl
@[simp] theorem State.updRot_stripe (f : Rot → Rot) : (s.updRot f).stripe = s.stripe := rfl
@[simp] theorem State.updRot_ddr (f : Rot → Rot) : (s.updRot f).ddr = s.ddr := rfl
@[simp] theorem State.updRot_tlb (f : Rot → Rot) : (s.updRot f).tlb = s.tlb := rfl
@[simp] theorem State.updRot_walkCache (f : Rot → Rot) : (s.updRot f).walkCache = s.walkCache := rfl
@[simp] theorem State.updRot_walks (f : Rot → Rot) : (s.updRot f).walks = s.walks := rfl
@[simp] theorem State.updRot_bcasts (f : Rot → Rot) : (s.updRot f).bcasts = s.bcasts := rfl
@[simp] theorem State.updRot_blocks (f : Rot → Rot) : (s.updRot f).blocks = s.blocks := rfl
@[simp] theorem State.updRot_links (f : Rot → Rot) : (s.updRot f).links = s.links := rfl
@[simp] theorem State.updRot_tags (f : Rot → Rot) : (s.updRot f).tags = s.tags := rfl
@[simp] theorem State.updRot_dir (f : Rot → Rot) : (s.updRot f).dir = s.dir := rfl
@[simp] theorem State.updRot_dirSeq (f : Rot → Rot) : (s.updRot f).dirSeq = s.dirSeq := rfl
@[simp] theorem State.updRot_txns (f : Rot → Rot) : (s.updRot f).txns = s.txns := rfl
@[simp] theorem State.updRot_homeWaits (f : Rot → Rot) : (s.updRot f).homeWaits = s.homeWaits := rfl
@[simp] theorem State.updRot_net (f : Rot → Rot) : (s.updRot f).net = s.net := rfl
@[simp] theorem State.updRot_marks (f : Rot → Rot) : (s.updRot f).marks = s.marks := rfl
@[simp] theorem State.updRot_mgQueue (f : Rot → Rot) : (s.updRot f).mgQueue = s.mgQueue := rfl
@[simp] theorem State.updRot_drains (f : Rot → Rot) : (s.updRot f).drains = s.drains := rfl
@[simp] theorem State.updRot_modeSwitches (f : Rot → Rot) : (s.updRot f).modeSwitches = s.modeSwitches := rfl
@[simp] theorem State.updRot_keeper (f : Rot → Rot) : (s.updRot f).keeper = s.keeper := rfl
@[simp] theorem State.updRot_nvm (f : Rot → Rot) : (s.updRot f).nvm = s.nvm := rfl
@[simp] theorem State.updRot_ras (f : Rot → Rot) : (s.updRot f).ras = s.ras := rfl
@[simp] theorem State.updRot_pwr (f : Rot → Rot) : (s.updRot f).pwr = s.pwr := rfl
@[simp] theorem State.updRot_use (f : Rot → Rot) : (s.updRot f).use = s.use := rfl
@[simp] theorem State.updRot_engineQ (f : Rot → Rot) : (s.updRot f).engineQ = s.engineQ := rfl
@[simp] theorem State.updRot_came (f : Rot → Rot) : (s.updRot f).came = s.came := rfl
@[simp] theorem State.updRot_heldOps (f : Rot → Rot) : (s.updRot f).heldOps = s.heldOps := rfl
@[simp] theorem State.updRot_receiving (f : Rot → Rot) : (s.updRot f).receiving = s.receiving := rfl
@[simp] theorem State.updRot_sesCache (f : Rot → Rot) : (s.updRot f).sesCache = s.sesCache := rfl
@[simp] theorem State.updRot_mgWaits (f : Rot → Rot) : (s.updRot f).mgWaits = s.mgWaits := rfl
@[simp] theorem State.updRot_missed (f : Rot → Rot) : (s.updRot f).missed = s.missed := rfl

/-! updPwr changes pwr. -/

@[simp] theorem State.updPwr_pending (f : Pwr → Pwr) : (s.updPwr f).pending = s.pending := rfl
@[simp] theorem State.updPwr_out (f : Pwr → Pwr) : (s.updPwr f).out = s.out := rfl
@[simp] theorem State.updPwr_free (f : Pwr → Pwr) : (s.updPwr f).free = s.free := rfl
@[simp] theorem State.updPwr_variant (f : Pwr → Pwr) : (s.updPwr f).variant = s.variant := rfl
@[simp] theorem State.updPwr_time (f : Pwr → Pwr) : (s.updPwr f).time = s.time := rfl
@[simp] theorem State.updPwr_latch (f : Pwr → Pwr) : (s.updPwr f).latch = s.latch := rfl
@[simp] theorem State.updPwr_rwk (f : Pwr → Pwr) : (s.updPwr f).rwk = s.rwk := rfl
@[simp] theorem State.updPwr_regs (f : Pwr → Pwr) : (s.updPwr f).regs = s.regs := rfl
@[simp] theorem State.updPwr_ports (f : Pwr → Pwr) : (s.updPwr f).ports = s.ports := rfl
@[simp] theorem State.updPwr_rings (f : Pwr → Pwr) : (s.updPwr f).rings = s.rings := rfl
@[simp] theorem State.updPwr_ringCmd (f : Pwr → Pwr) : (s.updPwr f).ringCmd = s.ringCmd := rfl
@[simp] theorem State.updPwr_ringLast (f : Pwr → Pwr) : (s.updPwr f).ringLast = s.ringLast := rfl
@[simp] theorem State.updPwr_rot (f : Pwr → Pwr) : (s.updPwr f).rot = s.rot := rfl
@[simp] theorem State.updPwr_sessions (f : Pwr → Pwr) : (s.updPwr f).sessions = s.sessions := rfl
@[simp] theorem State.updPwr_leaves (f : Pwr → Pwr) : (s.updPwr f).leaves = s.leaves := rfl
@[simp] theorem State.updPwr_frames (f : Pwr → Pwr) : (s.updPwr f).frames = s.frames := rfl
@[simp] theorem State.updPwr_sesOps (f : Pwr → Pwr) : (s.updPwr f).sesOps = s.sesOps := rfl
@[simp] theorem State.updPwr_offers (f : Pwr → Pwr) : (s.updPwr f).offers = s.offers := rfl
@[simp] theorem State.updPwr_accepts (f : Pwr → Pwr) : (s.updPwr f).accepts = s.accepts := rfl
@[simp] theorem State.updPwr_pulls (f : Pwr → Pwr) : (s.updPwr f).pulls = s.pulls := rfl
@[simp] theorem State.updPwr_heldPulls (f : Pwr → Pwr) : (s.updPwr f).heldPulls = s.heldPulls := rfl
@[simp] theorem State.updPwr_discarded (f : Pwr → Pwr) : (s.updPwr f).discarded = s.discarded := rfl
@[simp] theorem State.updPwr_reclaims (f : Pwr → Pwr) : (s.updPwr f).reclaims = s.reclaims := rfl
@[simp] theorem State.updPwr_abftArm (f : Pwr → Pwr) : (s.updPwr f).abftArm = s.abftArm := rfl
@[simp] theorem State.updPwr_tables (f : Pwr → Pwr) : (s.updPwr f).tables = s.tables := rfl
@[simp] theorem State.updPwr_tabCmd (f : Pwr → Pwr) : (s.updPwr f).tabCmd = s.tabCmd := rfl
@[simp] theorem State.updPwr_tabLast (f : Pwr → Pwr) : (s.updPwr f).tabLast = s.tabLast := rfl
@[simp] theorem State.updPwr_steps (f : Pwr → Pwr) : (s.updPwr f).steps = s.steps := rfl
@[simp] theorem State.updPwr_grads (f : Pwr → Pwr) : (s.updPwr f).grads = s.grads := rfl
@[simp] theorem State.updPwr_installs (f : Pwr → Pwr) : (s.updPwr f).installs = s.installs := rfl
@[simp] theorem State.updPwr_poisonSteps (f : Pwr → Pwr) : (s.updPwr f).poisonSteps = s.poisonSteps := rfl
@[simp] theorem State.updPwr_voices (f : Pwr → Pwr) : (s.updPwr f).voices = s.voices := rfl
@[simp] theorem State.updPwr_pads (f : Pwr → Pwr) : (s.updPwr f).pads = s.pads := rfl
@[simp] theorem State.updPwr_carries (f : Pwr → Pwr) : (s.updPwr f).carries = s.carries := rfl
@[simp] theorem State.updPwr_amms (f : Pwr → Pwr) : (s.updPwr f).amms = s.amms := rfl
@[simp] theorem State.updPwr_gcache (f : Pwr → Pwr) : (s.updPwr f).gcache = s.gcache := rfl
@[simp] theorem State.updPwr_abuf (f : Pwr → Pwr) : (s.updPwr f).abuf = s.abuf := rfl
@[simp] theorem State.updPwr_victims (f : Pwr → Pwr) : (s.updPwr f).victims = s.victims := rfl
@[simp] theorem State.updPwr_pool (f : Pwr → Pwr) : (s.updPwr f).pool = s.pool := rfl
@[simp] theorem State.updPwr_poison (f : Pwr → Pwr) : (s.updPwr f).poison = s.poison := rfl
@[simp] theorem State.updPwr_lineKey (f : Pwr → Pwr) : (s.updPwr f).lineKey = s.lineKey := rfl
@[simp] theorem State.updPwr_granules (f : Pwr → Pwr) : (s.updPwr f).granules = s.granules := rfl
@[simp] theorem State.updPwr_backed (f : Pwr → Pwr) : (s.updPwr f).backed = s.backed := rfl
@[simp] theorem State.updPwr_preparing (f : Pwr → Pwr) : (s.updPwr f).preparing = s.preparing := rfl
@[simp] theorem State.updPwr_ready (f : Pwr → Pwr) : (s.updPwr f).ready = s.ready := rfl
@[simp] theorem State.updPwr_drives (f : Pwr → Pwr) : (s.updPwr f).drives = s.drives := rfl
@[simp] theorem State.updPwr_stripe (f : Pwr → Pwr) : (s.updPwr f).stripe = s.stripe := rfl
@[simp] theorem State.updPwr_ddr (f : Pwr → Pwr) : (s.updPwr f).ddr = s.ddr := rfl
@[simp] theorem State.updPwr_tlb (f : Pwr → Pwr) : (s.updPwr f).tlb = s.tlb := rfl
@[simp] theorem State.updPwr_walkCache (f : Pwr → Pwr) : (s.updPwr f).walkCache = s.walkCache := rfl
@[simp] theorem State.updPwr_walks (f : Pwr → Pwr) : (s.updPwr f).walks = s.walks := rfl
@[simp] theorem State.updPwr_bcasts (f : Pwr → Pwr) : (s.updPwr f).bcasts = s.bcasts := rfl
@[simp] theorem State.updPwr_blocks (f : Pwr → Pwr) : (s.updPwr f).blocks = s.blocks := rfl
@[simp] theorem State.updPwr_links (f : Pwr → Pwr) : (s.updPwr f).links = s.links := rfl
@[simp] theorem State.updPwr_tags (f : Pwr → Pwr) : (s.updPwr f).tags = s.tags := rfl
@[simp] theorem State.updPwr_dir (f : Pwr → Pwr) : (s.updPwr f).dir = s.dir := rfl
@[simp] theorem State.updPwr_dirSeq (f : Pwr → Pwr) : (s.updPwr f).dirSeq = s.dirSeq := rfl
@[simp] theorem State.updPwr_txns (f : Pwr → Pwr) : (s.updPwr f).txns = s.txns := rfl
@[simp] theorem State.updPwr_homeWaits (f : Pwr → Pwr) : (s.updPwr f).homeWaits = s.homeWaits := rfl
@[simp] theorem State.updPwr_net (f : Pwr → Pwr) : (s.updPwr f).net = s.net := rfl
@[simp] theorem State.updPwr_marks (f : Pwr → Pwr) : (s.updPwr f).marks = s.marks := rfl
@[simp] theorem State.updPwr_mgQueue (f : Pwr → Pwr) : (s.updPwr f).mgQueue = s.mgQueue := rfl
@[simp] theorem State.updPwr_drains (f : Pwr → Pwr) : (s.updPwr f).drains = s.drains := rfl
@[simp] theorem State.updPwr_modeSwitches (f : Pwr → Pwr) : (s.updPwr f).modeSwitches = s.modeSwitches := rfl
@[simp] theorem State.updPwr_keeper (f : Pwr → Pwr) : (s.updPwr f).keeper = s.keeper := rfl
@[simp] theorem State.updPwr_nvm (f : Pwr → Pwr) : (s.updPwr f).nvm = s.nvm := rfl
@[simp] theorem State.updPwr_ras (f : Pwr → Pwr) : (s.updPwr f).ras = s.ras := rfl
@[simp] theorem State.updPwr_use (f : Pwr → Pwr) : (s.updPwr f).use = s.use := rfl
@[simp] theorem State.updPwr_engineQ (f : Pwr → Pwr) : (s.updPwr f).engineQ = s.engineQ := rfl
@[simp] theorem State.updPwr_came (f : Pwr → Pwr) : (s.updPwr f).came = s.came := rfl
@[simp] theorem State.updPwr_heldOps (f : Pwr → Pwr) : (s.updPwr f).heldOps = s.heldOps := rfl
@[simp] theorem State.updPwr_receiving (f : Pwr → Pwr) : (s.updPwr f).receiving = s.receiving := rfl
@[simp] theorem State.updPwr_sesCache (f : Pwr → Pwr) : (s.updPwr f).sesCache = s.sesCache := rfl
@[simp] theorem State.updPwr_mgWaits (f : Pwr → Pwr) : (s.updPwr f).mgWaits = s.mgWaits := rfl
@[simp] theorem State.updPwr_missed (f : Pwr → Pwr) : (s.updPwr f).missed = s.missed := rfl

/-! What the accessors read after an update of another field. -/

@[simp] theorem State.port_setRing (r : Nat) (x : Ring) (k : Nat) : (s.setRing r x).port k = s.port k := rfl
@[simp] theorem State.session_setRing (r : Nat) (x : Ring) (k : Nat) : (s.setRing r x).session k = s.session k := rfl
@[simp] theorem State.leaf_setRing (r : Nat) (x : Ring) (k : Nat) : (s.setRing r x).leaf k = s.leaf k := rfl
@[simp] theorem State.frame_setRing (r : Nat) (x : Ring) (k : Nat) : (s.setRing r x).frame k = s.frame k := rfl
@[simp] theorem State.table_setRing (r : Nat) (x : Ring) (k : Nat) : (s.setRing r x).table k = s.table k := rfl
@[simp] theorem State.voice_setRing (r : Nat) (x : Ring) (k : Nat) : (s.setRing r x).voice k = s.voice k := rfl
@[simp] theorem State.granule_setRing (r : Nat) (x : Ring) (k : Nat) : (s.setRing r x).granule k = s.granule k := rfl
@[simp] theorem State.drive_setRing (r : Nat) (x : Ring) (k : Nat) : (s.setRing r x).drive k = s.drive k := rfl
@[simp] theorem State.ddrCh_setRing (r : Nat) (x : Ring) (k : Nat) : (s.setRing r x).ddrCh k = s.ddrCh k := rfl
@[simp] theorem State.link_setRing (r : Nat) (x : Ring) (k : Nat) : (s.setRing r x).link k = s.link k := rfl
@[simp] theorem State.tag_setRing (r : Nat) (x : Ring) (k : Nat) : (s.setRing r x).tag k = s.tag k := rfl
@[simp] theorem State.dirEntry_setRing (r : Nat) (x : Ring) (k : Nat) : (s.setRing r x).dirEntry k = s.dirEntry k := rfl
@[simp] theorem State.mark_setRing (r : Nat) (x : Ring) (k : Nat) : (s.setRing r x).mark k = s.mark k := rfl
@[simp] theorem State.part_setRing (r : Nat) (x : Ring) (k : Nat) : (s.setRing r x).part k = s.part k := rfl
@[simp] theorem State.book_setRing (r : Nat) (x : Ring) (k : Nat) : (s.setRing r x).book k = s.book k := rfl
@[simp] theorem State.carry_setRing (r : Nat) (x : Ring) (k : Nat) : (s.setRing r x).carry k = s.carry k := rfl
@[simp] theorem State.reg_setRing (r : Nat) (x : Ring) (k : Nat) : (s.setRing r x).reg k = s.reg k := rfl
@[simp] theorem State.port_updRing (r : Nat) (f : Ring → Ring) (k : Nat) : (s.updRing r f).port k = s.port k := rfl
@[simp] theorem State.session_updRing (r : Nat) (f : Ring → Ring) (k : Nat) : (s.updRing r f).session k = s.session k := rfl
@[simp] theorem State.leaf_updRing (r : Nat) (f : Ring → Ring) (k : Nat) : (s.updRing r f).leaf k = s.leaf k := rfl
@[simp] theorem State.frame_updRing (r : Nat) (f : Ring → Ring) (k : Nat) : (s.updRing r f).frame k = s.frame k := rfl
@[simp] theorem State.table_updRing (r : Nat) (f : Ring → Ring) (k : Nat) : (s.updRing r f).table k = s.table k := rfl
@[simp] theorem State.voice_updRing (r : Nat) (f : Ring → Ring) (k : Nat) : (s.updRing r f).voice k = s.voice k := rfl
@[simp] theorem State.granule_updRing (r : Nat) (f : Ring → Ring) (k : Nat) : (s.updRing r f).granule k = s.granule k := rfl
@[simp] theorem State.drive_updRing (r : Nat) (f : Ring → Ring) (k : Nat) : (s.updRing r f).drive k = s.drive k := rfl
@[simp] theorem State.ddrCh_updRing (r : Nat) (f : Ring → Ring) (k : Nat) : (s.updRing r f).ddrCh k = s.ddrCh k := rfl
@[simp] theorem State.link_updRing (r : Nat) (f : Ring → Ring) (k : Nat) : (s.updRing r f).link k = s.link k := rfl
@[simp] theorem State.tag_updRing (r : Nat) (f : Ring → Ring) (k : Nat) : (s.updRing r f).tag k = s.tag k := rfl
@[simp] theorem State.dirEntry_updRing (r : Nat) (f : Ring → Ring) (k : Nat) : (s.updRing r f).dirEntry k = s.dirEntry k := rfl
@[simp] theorem State.mark_updRing (r : Nat) (f : Ring → Ring) (k : Nat) : (s.updRing r f).mark k = s.mark k := rfl
@[simp] theorem State.part_updRing (r : Nat) (f : Ring → Ring) (k : Nat) : (s.updRing r f).part k = s.part k := rfl
@[simp] theorem State.book_updRing (r : Nat) (f : Ring → Ring) (k : Nat) : (s.updRing r f).book k = s.book k := rfl
@[simp] theorem State.carry_updRing (r : Nat) (f : Ring → Ring) (k : Nat) : (s.updRing r f).carry k = s.carry k := rfl
@[simp] theorem State.reg_updRing (r : Nat) (f : Ring → Ring) (k : Nat) : (s.updRing r f).reg k = s.reg k := rfl
@[simp] theorem State.ring_updPort (p : Nat) (f : HostPort → HostPort) (k : Nat) : (s.updPort p f).ring k = s.ring k := rfl
@[simp] theorem State.session_updPort (p : Nat) (f : HostPort → HostPort) (k : Nat) : (s.updPort p f).session k = s.session k := rfl
@[simp] theorem State.leaf_updPort (p : Nat) (f : HostPort → HostPort) (k : Nat) : (s.updPort p f).leaf k = s.leaf k := rfl
@[simp] theorem State.frame_updPort (p : Nat) (f : HostPort → HostPort) (k : Nat) : (s.updPort p f).frame k = s.frame k := rfl
@[simp] theorem State.table_updPort (p : Nat) (f : HostPort → HostPort) (k : Nat) : (s.updPort p f).table k = s.table k := rfl
@[simp] theorem State.voice_updPort (p : Nat) (f : HostPort → HostPort) (k : Nat) : (s.updPort p f).voice k = s.voice k := rfl
@[simp] theorem State.granule_updPort (p : Nat) (f : HostPort → HostPort) (k : Nat) : (s.updPort p f).granule k = s.granule k := rfl
@[simp] theorem State.drive_updPort (p : Nat) (f : HostPort → HostPort) (k : Nat) : (s.updPort p f).drive k = s.drive k := rfl
@[simp] theorem State.ddrCh_updPort (p : Nat) (f : HostPort → HostPort) (k : Nat) : (s.updPort p f).ddrCh k = s.ddrCh k := rfl
@[simp] theorem State.link_updPort (p : Nat) (f : HostPort → HostPort) (k : Nat) : (s.updPort p f).link k = s.link k := rfl
@[simp] theorem State.tag_updPort (p : Nat) (f : HostPort → HostPort) (k : Nat) : (s.updPort p f).tag k = s.tag k := rfl
@[simp] theorem State.dirEntry_updPort (p : Nat) (f : HostPort → HostPort) (k : Nat) : (s.updPort p f).dirEntry k = s.dirEntry k := rfl
@[simp] theorem State.mark_updPort (p : Nat) (f : HostPort → HostPort) (k : Nat) : (s.updPort p f).mark k = s.mark k := rfl
@[simp] theorem State.part_updPort (p : Nat) (f : HostPort → HostPort) (k : Nat) : (s.updPort p f).part k = s.part k := rfl
@[simp] theorem State.book_updPort (p : Nat) (f : HostPort → HostPort) (k : Nat) : (s.updPort p f).book k = s.book k := rfl
@[simp] theorem State.carry_updPort (p : Nat) (f : HostPort → HostPort) (k : Nat) : (s.updPort p f).carry k = s.carry k := rfl
@[simp] theorem State.reg_updPort (p : Nat) (f : HostPort → HostPort) (k : Nat) : (s.updPort p f).reg k = s.reg k := rfl
@[simp] theorem State.ring_setSession (h : Nat) (x : Session) (k : Nat) : (s.setSession h x).ring k = s.ring k := rfl
@[simp] theorem State.port_setSession (h : Nat) (x : Session) (k : Nat) : (s.setSession h x).port k = s.port k := rfl
@[simp] theorem State.leaf_setSession (h : Nat) (x : Session) (k : Nat) : (s.setSession h x).leaf k = s.leaf k := rfl
@[simp] theorem State.frame_setSession (h : Nat) (x : Session) (k : Nat) : (s.setSession h x).frame k = s.frame k := rfl
@[simp] theorem State.table_setSession (h : Nat) (x : Session) (k : Nat) : (s.setSession h x).table k = s.table k := rfl
@[simp] theorem State.voice_setSession (h : Nat) (x : Session) (k : Nat) : (s.setSession h x).voice k = s.voice k := rfl
@[simp] theorem State.granule_setSession (h : Nat) (x : Session) (k : Nat) : (s.setSession h x).granule k = s.granule k := rfl
@[simp] theorem State.drive_setSession (h : Nat) (x : Session) (k : Nat) : (s.setSession h x).drive k = s.drive k := rfl
@[simp] theorem State.ddrCh_setSession (h : Nat) (x : Session) (k : Nat) : (s.setSession h x).ddrCh k = s.ddrCh k := rfl
@[simp] theorem State.link_setSession (h : Nat) (x : Session) (k : Nat) : (s.setSession h x).link k = s.link k := rfl
@[simp] theorem State.tag_setSession (h : Nat) (x : Session) (k : Nat) : (s.setSession h x).tag k = s.tag k := rfl
@[simp] theorem State.dirEntry_setSession (h : Nat) (x : Session) (k : Nat) : (s.setSession h x).dirEntry k = s.dirEntry k := rfl
@[simp] theorem State.mark_setSession (h : Nat) (x : Session) (k : Nat) : (s.setSession h x).mark k = s.mark k := rfl
@[simp] theorem State.part_setSession (h : Nat) (x : Session) (k : Nat) : (s.setSession h x).part k = s.part k := rfl
@[simp] theorem State.book_setSession (h : Nat) (x : Session) (k : Nat) : (s.setSession h x).book k = s.book k := rfl
@[simp] theorem State.carry_setSession (h : Nat) (x : Session) (k : Nat) : (s.setSession h x).carry k = s.carry k := rfl
@[simp] theorem State.reg_setSession (h : Nat) (x : Session) (k : Nat) : (s.setSession h x).reg k = s.reg k := rfl
@[simp] theorem State.ring_updSession (h : Nat) (f : Session → Session) (k : Nat) : (s.updSession h f).ring k = s.ring k := rfl
@[simp] theorem State.port_updSession (h : Nat) (f : Session → Session) (k : Nat) : (s.updSession h f).port k = s.port k := rfl
@[simp] theorem State.leaf_updSession (h : Nat) (f : Session → Session) (k : Nat) : (s.updSession h f).leaf k = s.leaf k := rfl
@[simp] theorem State.frame_updSession (h : Nat) (f : Session → Session) (k : Nat) : (s.updSession h f).frame k = s.frame k := rfl
@[simp] theorem State.table_updSession (h : Nat) (f : Session → Session) (k : Nat) : (s.updSession h f).table k = s.table k := rfl
@[simp] theorem State.voice_updSession (h : Nat) (f : Session → Session) (k : Nat) : (s.updSession h f).voice k = s.voice k := rfl
@[simp] theorem State.granule_updSession (h : Nat) (f : Session → Session) (k : Nat) : (s.updSession h f).granule k = s.granule k := rfl
@[simp] theorem State.drive_updSession (h : Nat) (f : Session → Session) (k : Nat) : (s.updSession h f).drive k = s.drive k := rfl
@[simp] theorem State.ddrCh_updSession (h : Nat) (f : Session → Session) (k : Nat) : (s.updSession h f).ddrCh k = s.ddrCh k := rfl
@[simp] theorem State.link_updSession (h : Nat) (f : Session → Session) (k : Nat) : (s.updSession h f).link k = s.link k := rfl
@[simp] theorem State.tag_updSession (h : Nat) (f : Session → Session) (k : Nat) : (s.updSession h f).tag k = s.tag k := rfl
@[simp] theorem State.dirEntry_updSession (h : Nat) (f : Session → Session) (k : Nat) : (s.updSession h f).dirEntry k = s.dirEntry k := rfl
@[simp] theorem State.mark_updSession (h : Nat) (f : Session → Session) (k : Nat) : (s.updSession h f).mark k = s.mark k := rfl
@[simp] theorem State.part_updSession (h : Nat) (f : Session → Session) (k : Nat) : (s.updSession h f).part k = s.part k := rfl
@[simp] theorem State.book_updSession (h : Nat) (f : Session → Session) (k : Nat) : (s.updSession h f).book k = s.book k := rfl
@[simp] theorem State.carry_updSession (h : Nat) (f : Session → Session) (k : Nat) : (s.updSession h f).carry k = s.carry k := rfl
@[simp] theorem State.reg_updSession (h : Nat) (f : Session → Session) (k : Nat) : (s.updSession h f).reg k = s.reg k := rfl
@[simp] theorem State.ring_setLeaf (u : Nat) (x : Leaf) (k : Nat) : (s.setLeaf u x).ring k = s.ring k := rfl
@[simp] theorem State.port_setLeaf (u : Nat) (x : Leaf) (k : Nat) : (s.setLeaf u x).port k = s.port k := rfl
@[simp] theorem State.session_setLeaf (u : Nat) (x : Leaf) (k : Nat) : (s.setLeaf u x).session k = s.session k := rfl
@[simp] theorem State.frame_setLeaf (u : Nat) (x : Leaf) (k : Nat) : (s.setLeaf u x).frame k = s.frame k := rfl
@[simp] theorem State.table_setLeaf (u : Nat) (x : Leaf) (k : Nat) : (s.setLeaf u x).table k = s.table k := rfl
@[simp] theorem State.voice_setLeaf (u : Nat) (x : Leaf) (k : Nat) : (s.setLeaf u x).voice k = s.voice k := rfl
@[simp] theorem State.granule_setLeaf (u : Nat) (x : Leaf) (k : Nat) : (s.setLeaf u x).granule k = s.granule k := rfl
@[simp] theorem State.drive_setLeaf (u : Nat) (x : Leaf) (k : Nat) : (s.setLeaf u x).drive k = s.drive k := rfl
@[simp] theorem State.ddrCh_setLeaf (u : Nat) (x : Leaf) (k : Nat) : (s.setLeaf u x).ddrCh k = s.ddrCh k := rfl
@[simp] theorem State.link_setLeaf (u : Nat) (x : Leaf) (k : Nat) : (s.setLeaf u x).link k = s.link k := rfl
@[simp] theorem State.tag_setLeaf (u : Nat) (x : Leaf) (k : Nat) : (s.setLeaf u x).tag k = s.tag k := rfl
@[simp] theorem State.dirEntry_setLeaf (u : Nat) (x : Leaf) (k : Nat) : (s.setLeaf u x).dirEntry k = s.dirEntry k := rfl
@[simp] theorem State.mark_setLeaf (u : Nat) (x : Leaf) (k : Nat) : (s.setLeaf u x).mark k = s.mark k := rfl
@[simp] theorem State.part_setLeaf (u : Nat) (x : Leaf) (k : Nat) : (s.setLeaf u x).part k = s.part k := rfl
@[simp] theorem State.book_setLeaf (u : Nat) (x : Leaf) (k : Nat) : (s.setLeaf u x).book k = s.book k := rfl
@[simp] theorem State.carry_setLeaf (u : Nat) (x : Leaf) (k : Nat) : (s.setLeaf u x).carry k = s.carry k := rfl
@[simp] theorem State.reg_setLeaf (u : Nat) (x : Leaf) (k : Nat) : (s.setLeaf u x).reg k = s.reg k := rfl
@[simp] theorem State.ring_setFrame (i : Nat) (x : Frame) (k : Nat) : (s.setFrame i x).ring k = s.ring k := rfl
@[simp] theorem State.port_setFrame (i : Nat) (x : Frame) (k : Nat) : (s.setFrame i x).port k = s.port k := rfl
@[simp] theorem State.session_setFrame (i : Nat) (x : Frame) (k : Nat) : (s.setFrame i x).session k = s.session k := rfl
@[simp] theorem State.leaf_setFrame (i : Nat) (x : Frame) (k : Nat) : (s.setFrame i x).leaf k = s.leaf k := rfl
@[simp] theorem State.table_setFrame (i : Nat) (x : Frame) (k : Nat) : (s.setFrame i x).table k = s.table k := rfl
@[simp] theorem State.voice_setFrame (i : Nat) (x : Frame) (k : Nat) : (s.setFrame i x).voice k = s.voice k := rfl
@[simp] theorem State.granule_setFrame (i : Nat) (x : Frame) (k : Nat) : (s.setFrame i x).granule k = s.granule k := rfl
@[simp] theorem State.drive_setFrame (i : Nat) (x : Frame) (k : Nat) : (s.setFrame i x).drive k = s.drive k := rfl
@[simp] theorem State.ddrCh_setFrame (i : Nat) (x : Frame) (k : Nat) : (s.setFrame i x).ddrCh k = s.ddrCh k := rfl
@[simp] theorem State.link_setFrame (i : Nat) (x : Frame) (k : Nat) : (s.setFrame i x).link k = s.link k := rfl
@[simp] theorem State.tag_setFrame (i : Nat) (x : Frame) (k : Nat) : (s.setFrame i x).tag k = s.tag k := rfl
@[simp] theorem State.dirEntry_setFrame (i : Nat) (x : Frame) (k : Nat) : (s.setFrame i x).dirEntry k = s.dirEntry k := rfl
@[simp] theorem State.mark_setFrame (i : Nat) (x : Frame) (k : Nat) : (s.setFrame i x).mark k = s.mark k := rfl
@[simp] theorem State.part_setFrame (i : Nat) (x : Frame) (k : Nat) : (s.setFrame i x).part k = s.part k := rfl
@[simp] theorem State.book_setFrame (i : Nat) (x : Frame) (k : Nat) : (s.setFrame i x).book k = s.book k := rfl
@[simp] theorem State.carry_setFrame (i : Nat) (x : Frame) (k : Nat) : (s.setFrame i x).carry k = s.carry k := rfl
@[simp] theorem State.reg_setFrame (i : Nat) (x : Frame) (k : Nat) : (s.setFrame i x).reg k = s.reg k := rfl
@[simp] theorem State.ring_updFrame (i : Nat) (f : Frame → Frame) (k : Nat) : (s.updFrame i f).ring k = s.ring k := rfl
@[simp] theorem State.port_updFrame (i : Nat) (f : Frame → Frame) (k : Nat) : (s.updFrame i f).port k = s.port k := rfl
@[simp] theorem State.session_updFrame (i : Nat) (f : Frame → Frame) (k : Nat) : (s.updFrame i f).session k = s.session k := rfl
@[simp] theorem State.leaf_updFrame (i : Nat) (f : Frame → Frame) (k : Nat) : (s.updFrame i f).leaf k = s.leaf k := rfl
@[simp] theorem State.table_updFrame (i : Nat) (f : Frame → Frame) (k : Nat) : (s.updFrame i f).table k = s.table k := rfl
@[simp] theorem State.voice_updFrame (i : Nat) (f : Frame → Frame) (k : Nat) : (s.updFrame i f).voice k = s.voice k := rfl
@[simp] theorem State.granule_updFrame (i : Nat) (f : Frame → Frame) (k : Nat) : (s.updFrame i f).granule k = s.granule k := rfl
@[simp] theorem State.drive_updFrame (i : Nat) (f : Frame → Frame) (k : Nat) : (s.updFrame i f).drive k = s.drive k := rfl
@[simp] theorem State.ddrCh_updFrame (i : Nat) (f : Frame → Frame) (k : Nat) : (s.updFrame i f).ddrCh k = s.ddrCh k := rfl
@[simp] theorem State.link_updFrame (i : Nat) (f : Frame → Frame) (k : Nat) : (s.updFrame i f).link k = s.link k := rfl
@[simp] theorem State.tag_updFrame (i : Nat) (f : Frame → Frame) (k : Nat) : (s.updFrame i f).tag k = s.tag k := rfl
@[simp] theorem State.dirEntry_updFrame (i : Nat) (f : Frame → Frame) (k : Nat) : (s.updFrame i f).dirEntry k = s.dirEntry k := rfl
@[simp] theorem State.mark_updFrame (i : Nat) (f : Frame → Frame) (k : Nat) : (s.updFrame i f).mark k = s.mark k := rfl
@[simp] theorem State.part_updFrame (i : Nat) (f : Frame → Frame) (k : Nat) : (s.updFrame i f).part k = s.part k := rfl
@[simp] theorem State.book_updFrame (i : Nat) (f : Frame → Frame) (k : Nat) : (s.updFrame i f).book k = s.book k := rfl
@[simp] theorem State.carry_updFrame (i : Nat) (f : Frame → Frame) (k : Nat) : (s.updFrame i f).carry k = s.carry k := rfl
@[simp] theorem State.reg_updFrame (i : Nat) (f : Frame → Frame) (k : Nat) : (s.updFrame i f).reg k = s.reg k := rfl
@[simp] theorem State.ring_setTable (i : Nat) (x : Option Table) (k : Nat) : (s.setTable i x).ring k = s.ring k := rfl
@[simp] theorem State.port_setTable (i : Nat) (x : Option Table) (k : Nat) : (s.setTable i x).port k = s.port k := rfl
@[simp] theorem State.session_setTable (i : Nat) (x : Option Table) (k : Nat) : (s.setTable i x).session k = s.session k := rfl
@[simp] theorem State.leaf_setTable (i : Nat) (x : Option Table) (k : Nat) : (s.setTable i x).leaf k = s.leaf k := rfl
@[simp] theorem State.frame_setTable (i : Nat) (x : Option Table) (k : Nat) : (s.setTable i x).frame k = s.frame k := rfl
@[simp] theorem State.voice_setTable (i : Nat) (x : Option Table) (k : Nat) : (s.setTable i x).voice k = s.voice k := rfl
@[simp] theorem State.granule_setTable (i : Nat) (x : Option Table) (k : Nat) : (s.setTable i x).granule k = s.granule k := rfl
@[simp] theorem State.drive_setTable (i : Nat) (x : Option Table) (k : Nat) : (s.setTable i x).drive k = s.drive k := rfl
@[simp] theorem State.ddrCh_setTable (i : Nat) (x : Option Table) (k : Nat) : (s.setTable i x).ddrCh k = s.ddrCh k := rfl
@[simp] theorem State.link_setTable (i : Nat) (x : Option Table) (k : Nat) : (s.setTable i x).link k = s.link k := rfl
@[simp] theorem State.tag_setTable (i : Nat) (x : Option Table) (k : Nat) : (s.setTable i x).tag k = s.tag k := rfl
@[simp] theorem State.dirEntry_setTable (i : Nat) (x : Option Table) (k : Nat) : (s.setTable i x).dirEntry k = s.dirEntry k := rfl
@[simp] theorem State.mark_setTable (i : Nat) (x : Option Table) (k : Nat) : (s.setTable i x).mark k = s.mark k := rfl
@[simp] theorem State.part_setTable (i : Nat) (x : Option Table) (k : Nat) : (s.setTable i x).part k = s.part k := rfl
@[simp] theorem State.book_setTable (i : Nat) (x : Option Table) (k : Nat) : (s.setTable i x).book k = s.book k := rfl
@[simp] theorem State.carry_setTable (i : Nat) (x : Option Table) (k : Nat) : (s.setTable i x).carry k = s.carry k := rfl
@[simp] theorem State.reg_setTable (i : Nat) (x : Option Table) (k : Nat) : (s.setTable i x).reg k = s.reg k := rfl
@[simp] theorem State.ring_setVoice (v : Nat) (x : Voice) (k : Nat) : (s.setVoice v x).ring k = s.ring k := rfl
@[simp] theorem State.port_setVoice (v : Nat) (x : Voice) (k : Nat) : (s.setVoice v x).port k = s.port k := rfl
@[simp] theorem State.session_setVoice (v : Nat) (x : Voice) (k : Nat) : (s.setVoice v x).session k = s.session k := rfl
@[simp] theorem State.leaf_setVoice (v : Nat) (x : Voice) (k : Nat) : (s.setVoice v x).leaf k = s.leaf k := rfl
@[simp] theorem State.frame_setVoice (v : Nat) (x : Voice) (k : Nat) : (s.setVoice v x).frame k = s.frame k := rfl
@[simp] theorem State.table_setVoice (v : Nat) (x : Voice) (k : Nat) : (s.setVoice v x).table k = s.table k := rfl
@[simp] theorem State.granule_setVoice (v : Nat) (x : Voice) (k : Nat) : (s.setVoice v x).granule k = s.granule k := rfl
@[simp] theorem State.drive_setVoice (v : Nat) (x : Voice) (k : Nat) : (s.setVoice v x).drive k = s.drive k := rfl
@[simp] theorem State.ddrCh_setVoice (v : Nat) (x : Voice) (k : Nat) : (s.setVoice v x).ddrCh k = s.ddrCh k := rfl
@[simp] theorem State.link_setVoice (v : Nat) (x : Voice) (k : Nat) : (s.setVoice v x).link k = s.link k := rfl
@[simp] theorem State.tag_setVoice (v : Nat) (x : Voice) (k : Nat) : (s.setVoice v x).tag k = s.tag k := rfl
@[simp] theorem State.dirEntry_setVoice (v : Nat) (x : Voice) (k : Nat) : (s.setVoice v x).dirEntry k = s.dirEntry k := rfl
@[simp] theorem State.mark_setVoice (v : Nat) (x : Voice) (k : Nat) : (s.setVoice v x).mark k = s.mark k := rfl
@[simp] theorem State.part_setVoice (v : Nat) (x : Voice) (k : Nat) : (s.setVoice v x).part k = s.part k := rfl
@[simp] theorem State.book_setVoice (v : Nat) (x : Voice) (k : Nat) : (s.setVoice v x).book k = s.book k := rfl
@[simp] theorem State.carry_setVoice (v : Nat) (x : Voice) (k : Nat) : (s.setVoice v x).carry k = s.carry k := rfl
@[simp] theorem State.reg_setVoice (v : Nat) (x : Voice) (k : Nat) : (s.setVoice v x).reg k = s.reg k := rfl
@[simp] theorem State.ring_updVoice (v : Nat) (f : Voice → Voice) (k : Nat) : (s.updVoice v f).ring k = s.ring k := rfl
@[simp] theorem State.port_updVoice (v : Nat) (f : Voice → Voice) (k : Nat) : (s.updVoice v f).port k = s.port k := rfl
@[simp] theorem State.session_updVoice (v : Nat) (f : Voice → Voice) (k : Nat) : (s.updVoice v f).session k = s.session k := rfl
@[simp] theorem State.leaf_updVoice (v : Nat) (f : Voice → Voice) (k : Nat) : (s.updVoice v f).leaf k = s.leaf k := rfl
@[simp] theorem State.frame_updVoice (v : Nat) (f : Voice → Voice) (k : Nat) : (s.updVoice v f).frame k = s.frame k := rfl
@[simp] theorem State.table_updVoice (v : Nat) (f : Voice → Voice) (k : Nat) : (s.updVoice v f).table k = s.table k := rfl
@[simp] theorem State.granule_updVoice (v : Nat) (f : Voice → Voice) (k : Nat) : (s.updVoice v f).granule k = s.granule k := rfl
@[simp] theorem State.drive_updVoice (v : Nat) (f : Voice → Voice) (k : Nat) : (s.updVoice v f).drive k = s.drive k := rfl
@[simp] theorem State.ddrCh_updVoice (v : Nat) (f : Voice → Voice) (k : Nat) : (s.updVoice v f).ddrCh k = s.ddrCh k := rfl
@[simp] theorem State.link_updVoice (v : Nat) (f : Voice → Voice) (k : Nat) : (s.updVoice v f).link k = s.link k := rfl
@[simp] theorem State.tag_updVoice (v : Nat) (f : Voice → Voice) (k : Nat) : (s.updVoice v f).tag k = s.tag k := rfl
@[simp] theorem State.dirEntry_updVoice (v : Nat) (f : Voice → Voice) (k : Nat) : (s.updVoice v f).dirEntry k = s.dirEntry k := rfl
@[simp] theorem State.mark_updVoice (v : Nat) (f : Voice → Voice) (k : Nat) : (s.updVoice v f).mark k = s.mark k := rfl
@[simp] theorem State.part_updVoice (v : Nat) (f : Voice → Voice) (k : Nat) : (s.updVoice v f).part k = s.part k := rfl
@[simp] theorem State.book_updVoice (v : Nat) (f : Voice → Voice) (k : Nat) : (s.updVoice v f).book k = s.book k := rfl
@[simp] theorem State.carry_updVoice (v : Nat) (f : Voice → Voice) (k : Nat) : (s.updVoice v f).carry k = s.carry k := rfl
@[simp] theorem State.reg_updVoice (v : Nat) (f : Voice → Voice) (k : Nat) : (s.updVoice v f).reg k = s.reg k := rfl
@[simp] theorem State.ring_setGranule (g : Nat) (x : Granule) (k : Nat) : (s.setGranule g x).ring k = s.ring k := rfl
@[simp] theorem State.port_setGranule (g : Nat) (x : Granule) (k : Nat) : (s.setGranule g x).port k = s.port k := rfl
@[simp] theorem State.session_setGranule (g : Nat) (x : Granule) (k : Nat) : (s.setGranule g x).session k = s.session k := rfl
@[simp] theorem State.leaf_setGranule (g : Nat) (x : Granule) (k : Nat) : (s.setGranule g x).leaf k = s.leaf k := rfl
@[simp] theorem State.frame_setGranule (g : Nat) (x : Granule) (k : Nat) : (s.setGranule g x).frame k = s.frame k := rfl
@[simp] theorem State.table_setGranule (g : Nat) (x : Granule) (k : Nat) : (s.setGranule g x).table k = s.table k := rfl
@[simp] theorem State.voice_setGranule (g : Nat) (x : Granule) (k : Nat) : (s.setGranule g x).voice k = s.voice k := rfl
@[simp] theorem State.drive_setGranule (g : Nat) (x : Granule) (k : Nat) : (s.setGranule g x).drive k = s.drive k := rfl
@[simp] theorem State.ddrCh_setGranule (g : Nat) (x : Granule) (k : Nat) : (s.setGranule g x).ddrCh k = s.ddrCh k := rfl
@[simp] theorem State.link_setGranule (g : Nat) (x : Granule) (k : Nat) : (s.setGranule g x).link k = s.link k := rfl
@[simp] theorem State.tag_setGranule (g : Nat) (x : Granule) (k : Nat) : (s.setGranule g x).tag k = s.tag k := rfl
@[simp] theorem State.dirEntry_setGranule (g : Nat) (x : Granule) (k : Nat) : (s.setGranule g x).dirEntry k = s.dirEntry k := rfl
@[simp] theorem State.mark_setGranule (g : Nat) (x : Granule) (k : Nat) : (s.setGranule g x).mark k = s.mark k := rfl
@[simp] theorem State.part_setGranule (g : Nat) (x : Granule) (k : Nat) : (s.setGranule g x).part k = s.part k := rfl
@[simp] theorem State.book_setGranule (g : Nat) (x : Granule) (k : Nat) : (s.setGranule g x).book k = s.book k := rfl
@[simp] theorem State.carry_setGranule (g : Nat) (x : Granule) (k : Nat) : (s.setGranule g x).carry k = s.carry k := rfl
@[simp] theorem State.reg_setGranule (g : Nat) (x : Granule) (k : Nat) : (s.setGranule g x).reg k = s.reg k := rfl
@[simp] theorem State.ring_updGranule (g : Nat) (f : Granule → Granule) (k : Nat) : (s.updGranule g f).ring k = s.ring k := rfl
@[simp] theorem State.port_updGranule (g : Nat) (f : Granule → Granule) (k : Nat) : (s.updGranule g f).port k = s.port k := rfl
@[simp] theorem State.session_updGranule (g : Nat) (f : Granule → Granule) (k : Nat) : (s.updGranule g f).session k = s.session k := rfl
@[simp] theorem State.leaf_updGranule (g : Nat) (f : Granule → Granule) (k : Nat) : (s.updGranule g f).leaf k = s.leaf k := rfl
@[simp] theorem State.frame_updGranule (g : Nat) (f : Granule → Granule) (k : Nat) : (s.updGranule g f).frame k = s.frame k := rfl
@[simp] theorem State.table_updGranule (g : Nat) (f : Granule → Granule) (k : Nat) : (s.updGranule g f).table k = s.table k := rfl
@[simp] theorem State.voice_updGranule (g : Nat) (f : Granule → Granule) (k : Nat) : (s.updGranule g f).voice k = s.voice k := rfl
@[simp] theorem State.drive_updGranule (g : Nat) (f : Granule → Granule) (k : Nat) : (s.updGranule g f).drive k = s.drive k := rfl
@[simp] theorem State.ddrCh_updGranule (g : Nat) (f : Granule → Granule) (k : Nat) : (s.updGranule g f).ddrCh k = s.ddrCh k := rfl
@[simp] theorem State.link_updGranule (g : Nat) (f : Granule → Granule) (k : Nat) : (s.updGranule g f).link k = s.link k := rfl
@[simp] theorem State.tag_updGranule (g : Nat) (f : Granule → Granule) (k : Nat) : (s.updGranule g f).tag k = s.tag k := rfl
@[simp] theorem State.dirEntry_updGranule (g : Nat) (f : Granule → Granule) (k : Nat) : (s.updGranule g f).dirEntry k = s.dirEntry k := rfl
@[simp] theorem State.mark_updGranule (g : Nat) (f : Granule → Granule) (k : Nat) : (s.updGranule g f).mark k = s.mark k := rfl
@[simp] theorem State.part_updGranule (g : Nat) (f : Granule → Granule) (k : Nat) : (s.updGranule g f).part k = s.part k := rfl
@[simp] theorem State.book_updGranule (g : Nat) (f : Granule → Granule) (k : Nat) : (s.updGranule g f).book k = s.book k := rfl
@[simp] theorem State.carry_updGranule (g : Nat) (f : Granule → Granule) (k : Nat) : (s.updGranule g f).carry k = s.carry k := rfl
@[simp] theorem State.reg_updGranule (g : Nat) (f : Granule → Granule) (k : Nat) : (s.updGranule g f).reg k = s.reg k := rfl
@[simp] theorem State.ring_updDrive (d : Nat) (f : Drive → Drive) (k : Nat) : (s.updDrive d f).ring k = s.ring k := rfl
@[simp] theorem State.port_updDrive (d : Nat) (f : Drive → Drive) (k : Nat) : (s.updDrive d f).port k = s.port k := rfl
@[simp] theorem State.session_updDrive (d : Nat) (f : Drive → Drive) (k : Nat) : (s.updDrive d f).session k = s.session k := rfl
@[simp] theorem State.leaf_updDrive (d : Nat) (f : Drive → Drive) (k : Nat) : (s.updDrive d f).leaf k = s.leaf k := rfl
@[simp] theorem State.frame_updDrive (d : Nat) (f : Drive → Drive) (k : Nat) : (s.updDrive d f).frame k = s.frame k := rfl
@[simp] theorem State.table_updDrive (d : Nat) (f : Drive → Drive) (k : Nat) : (s.updDrive d f).table k = s.table k := rfl
@[simp] theorem State.voice_updDrive (d : Nat) (f : Drive → Drive) (k : Nat) : (s.updDrive d f).voice k = s.voice k := rfl
@[simp] theorem State.granule_updDrive (d : Nat) (f : Drive → Drive) (k : Nat) : (s.updDrive d f).granule k = s.granule k := rfl
@[simp] theorem State.ddrCh_updDrive (d : Nat) (f : Drive → Drive) (k : Nat) : (s.updDrive d f).ddrCh k = s.ddrCh k := rfl
@[simp] theorem State.link_updDrive (d : Nat) (f : Drive → Drive) (k : Nat) : (s.updDrive d f).link k = s.link k := rfl
@[simp] theorem State.tag_updDrive (d : Nat) (f : Drive → Drive) (k : Nat) : (s.updDrive d f).tag k = s.tag k := rfl
@[simp] theorem State.dirEntry_updDrive (d : Nat) (f : Drive → Drive) (k : Nat) : (s.updDrive d f).dirEntry k = s.dirEntry k := rfl
@[simp] theorem State.mark_updDrive (d : Nat) (f : Drive → Drive) (k : Nat) : (s.updDrive d f).mark k = s.mark k := rfl
@[simp] theorem State.part_updDrive (d : Nat) (f : Drive → Drive) (k : Nat) : (s.updDrive d f).part k = s.part k := rfl
@[simp] theorem State.book_updDrive (d : Nat) (f : Drive → Drive) (k : Nat) : (s.updDrive d f).book k = s.book k := rfl
@[simp] theorem State.carry_updDrive (d : Nat) (f : Drive → Drive) (k : Nat) : (s.updDrive d f).carry k = s.carry k := rfl
@[simp] theorem State.reg_updDrive (d : Nat) (f : Drive → Drive) (k : Nat) : (s.updDrive d f).reg k = s.reg k := rfl
@[simp] theorem State.ring_setDdr (d : Nat) (x : Ddr) (k : Nat) : (s.setDdr d x).ring k = s.ring k := rfl
@[simp] theorem State.port_setDdr (d : Nat) (x : Ddr) (k : Nat) : (s.setDdr d x).port k = s.port k := rfl
@[simp] theorem State.session_setDdr (d : Nat) (x : Ddr) (k : Nat) : (s.setDdr d x).session k = s.session k := rfl
@[simp] theorem State.leaf_setDdr (d : Nat) (x : Ddr) (k : Nat) : (s.setDdr d x).leaf k = s.leaf k := rfl
@[simp] theorem State.frame_setDdr (d : Nat) (x : Ddr) (k : Nat) : (s.setDdr d x).frame k = s.frame k := rfl
@[simp] theorem State.table_setDdr (d : Nat) (x : Ddr) (k : Nat) : (s.setDdr d x).table k = s.table k := rfl
@[simp] theorem State.voice_setDdr (d : Nat) (x : Ddr) (k : Nat) : (s.setDdr d x).voice k = s.voice k := rfl
@[simp] theorem State.granule_setDdr (d : Nat) (x : Ddr) (k : Nat) : (s.setDdr d x).granule k = s.granule k := rfl
@[simp] theorem State.drive_setDdr (d : Nat) (x : Ddr) (k : Nat) : (s.setDdr d x).drive k = s.drive k := rfl
@[simp] theorem State.link_setDdr (d : Nat) (x : Ddr) (k : Nat) : (s.setDdr d x).link k = s.link k := rfl
@[simp] theorem State.tag_setDdr (d : Nat) (x : Ddr) (k : Nat) : (s.setDdr d x).tag k = s.tag k := rfl
@[simp] theorem State.dirEntry_setDdr (d : Nat) (x : Ddr) (k : Nat) : (s.setDdr d x).dirEntry k = s.dirEntry k := rfl
@[simp] theorem State.mark_setDdr (d : Nat) (x : Ddr) (k : Nat) : (s.setDdr d x).mark k = s.mark k := rfl
@[simp] theorem State.part_setDdr (d : Nat) (x : Ddr) (k : Nat) : (s.setDdr d x).part k = s.part k := rfl
@[simp] theorem State.book_setDdr (d : Nat) (x : Ddr) (k : Nat) : (s.setDdr d x).book k = s.book k := rfl
@[simp] theorem State.carry_setDdr (d : Nat) (x : Ddr) (k : Nat) : (s.setDdr d x).carry k = s.carry k := rfl
@[simp] theorem State.reg_setDdr (d : Nat) (x : Ddr) (k : Nat) : (s.setDdr d x).reg k = s.reg k := rfl
@[simp] theorem State.ring_setLink (p : Nat) (x : SLink) (k : Nat) : (s.setLink p x).ring k = s.ring k := rfl
@[simp] theorem State.port_setLink (p : Nat) (x : SLink) (k : Nat) : (s.setLink p x).port k = s.port k := rfl
@[simp] theorem State.session_setLink (p : Nat) (x : SLink) (k : Nat) : (s.setLink p x).session k = s.session k := rfl
@[simp] theorem State.leaf_setLink (p : Nat) (x : SLink) (k : Nat) : (s.setLink p x).leaf k = s.leaf k := rfl
@[simp] theorem State.frame_setLink (p : Nat) (x : SLink) (k : Nat) : (s.setLink p x).frame k = s.frame k := rfl
@[simp] theorem State.table_setLink (p : Nat) (x : SLink) (k : Nat) : (s.setLink p x).table k = s.table k := rfl
@[simp] theorem State.voice_setLink (p : Nat) (x : SLink) (k : Nat) : (s.setLink p x).voice k = s.voice k := rfl
@[simp] theorem State.granule_setLink (p : Nat) (x : SLink) (k : Nat) : (s.setLink p x).granule k = s.granule k := rfl
@[simp] theorem State.drive_setLink (p : Nat) (x : SLink) (k : Nat) : (s.setLink p x).drive k = s.drive k := rfl
@[simp] theorem State.ddrCh_setLink (p : Nat) (x : SLink) (k : Nat) : (s.setLink p x).ddrCh k = s.ddrCh k := rfl
@[simp] theorem State.tag_setLink (p : Nat) (x : SLink) (k : Nat) : (s.setLink p x).tag k = s.tag k := rfl
@[simp] theorem State.dirEntry_setLink (p : Nat) (x : SLink) (k : Nat) : (s.setLink p x).dirEntry k = s.dirEntry k := rfl
@[simp] theorem State.mark_setLink (p : Nat) (x : SLink) (k : Nat) : (s.setLink p x).mark k = s.mark k := rfl
@[simp] theorem State.part_setLink (p : Nat) (x : SLink) (k : Nat) : (s.setLink p x).part k = s.part k := rfl
@[simp] theorem State.book_setLink (p : Nat) (x : SLink) (k : Nat) : (s.setLink p x).book k = s.book k := rfl
@[simp] theorem State.carry_setLink (p : Nat) (x : SLink) (k : Nat) : (s.setLink p x).carry k = s.carry k := rfl
@[simp] theorem State.reg_setLink (p : Nat) (x : SLink) (k : Nat) : (s.setLink p x).reg k = s.reg k := rfl
@[simp] theorem State.ring_updLink (p : Nat) (f : SLink → SLink) (k : Nat) : (s.updLink p f).ring k = s.ring k := rfl
@[simp] theorem State.port_updLink (p : Nat) (f : SLink → SLink) (k : Nat) : (s.updLink p f).port k = s.port k := rfl
@[simp] theorem State.session_updLink (p : Nat) (f : SLink → SLink) (k : Nat) : (s.updLink p f).session k = s.session k := rfl
@[simp] theorem State.leaf_updLink (p : Nat) (f : SLink → SLink) (k : Nat) : (s.updLink p f).leaf k = s.leaf k := rfl
@[simp] theorem State.frame_updLink (p : Nat) (f : SLink → SLink) (k : Nat) : (s.updLink p f).frame k = s.frame k := rfl
@[simp] theorem State.table_updLink (p : Nat) (f : SLink → SLink) (k : Nat) : (s.updLink p f).table k = s.table k := rfl
@[simp] theorem State.voice_updLink (p : Nat) (f : SLink → SLink) (k : Nat) : (s.updLink p f).voice k = s.voice k := rfl
@[simp] theorem State.granule_updLink (p : Nat) (f : SLink → SLink) (k : Nat) : (s.updLink p f).granule k = s.granule k := rfl
@[simp] theorem State.drive_updLink (p : Nat) (f : SLink → SLink) (k : Nat) : (s.updLink p f).drive k = s.drive k := rfl
@[simp] theorem State.ddrCh_updLink (p : Nat) (f : SLink → SLink) (k : Nat) : (s.updLink p f).ddrCh k = s.ddrCh k := rfl
@[simp] theorem State.tag_updLink (p : Nat) (f : SLink → SLink) (k : Nat) : (s.updLink p f).tag k = s.tag k := rfl
@[simp] theorem State.dirEntry_updLink (p : Nat) (f : SLink → SLink) (k : Nat) : (s.updLink p f).dirEntry k = s.dirEntry k := rfl
@[simp] theorem State.mark_updLink (p : Nat) (f : SLink → SLink) (k : Nat) : (s.updLink p f).mark k = s.mark k := rfl
@[simp] theorem State.part_updLink (p : Nat) (f : SLink → SLink) (k : Nat) : (s.updLink p f).part k = s.part k := rfl
@[simp] theorem State.book_updLink (p : Nat) (f : SLink → SLink) (k : Nat) : (s.updLink p f).book k = s.book k := rfl
@[simp] theorem State.carry_updLink (p : Nat) (f : SLink → SLink) (k : Nat) : (s.updLink p f).carry k = s.carry k := rfl
@[simp] theorem State.reg_updLink (p : Nat) (f : SLink → SLink) (k : Nat) : (s.updLink p f).reg k = s.reg k := rfl
@[simp] theorem State.ring_setTag (i : Nat) (x : ReqTag) (k : Nat) : (s.setTag i x).ring k = s.ring k := rfl
@[simp] theorem State.port_setTag (i : Nat) (x : ReqTag) (k : Nat) : (s.setTag i x).port k = s.port k := rfl
@[simp] theorem State.session_setTag (i : Nat) (x : ReqTag) (k : Nat) : (s.setTag i x).session k = s.session k := rfl
@[simp] theorem State.leaf_setTag (i : Nat) (x : ReqTag) (k : Nat) : (s.setTag i x).leaf k = s.leaf k := rfl
@[simp] theorem State.frame_setTag (i : Nat) (x : ReqTag) (k : Nat) : (s.setTag i x).frame k = s.frame k := rfl
@[simp] theorem State.table_setTag (i : Nat) (x : ReqTag) (k : Nat) : (s.setTag i x).table k = s.table k := rfl
@[simp] theorem State.voice_setTag (i : Nat) (x : ReqTag) (k : Nat) : (s.setTag i x).voice k = s.voice k := rfl
@[simp] theorem State.granule_setTag (i : Nat) (x : ReqTag) (k : Nat) : (s.setTag i x).granule k = s.granule k := rfl
@[simp] theorem State.drive_setTag (i : Nat) (x : ReqTag) (k : Nat) : (s.setTag i x).drive k = s.drive k := rfl
@[simp] theorem State.ddrCh_setTag (i : Nat) (x : ReqTag) (k : Nat) : (s.setTag i x).ddrCh k = s.ddrCh k := rfl
@[simp] theorem State.link_setTag (i : Nat) (x : ReqTag) (k : Nat) : (s.setTag i x).link k = s.link k := rfl
@[simp] theorem State.dirEntry_setTag (i : Nat) (x : ReqTag) (k : Nat) : (s.setTag i x).dirEntry k = s.dirEntry k := rfl
@[simp] theorem State.mark_setTag (i : Nat) (x : ReqTag) (k : Nat) : (s.setTag i x).mark k = s.mark k := rfl
@[simp] theorem State.part_setTag (i : Nat) (x : ReqTag) (k : Nat) : (s.setTag i x).part k = s.part k := rfl
@[simp] theorem State.book_setTag (i : Nat) (x : ReqTag) (k : Nat) : (s.setTag i x).book k = s.book k := rfl
@[simp] theorem State.carry_setTag (i : Nat) (x : ReqTag) (k : Nat) : (s.setTag i x).carry k = s.carry k := rfl
@[simp] theorem State.reg_setTag (i : Nat) (x : ReqTag) (k : Nat) : (s.setTag i x).reg k = s.reg k := rfl
@[simp] theorem State.ring_setDir (l : Nat) (x : Dir) (k : Nat) : (s.setDir l x).ring k = s.ring k := rfl
@[simp] theorem State.port_setDir (l : Nat) (x : Dir) (k : Nat) : (s.setDir l x).port k = s.port k := rfl
@[simp] theorem State.session_setDir (l : Nat) (x : Dir) (k : Nat) : (s.setDir l x).session k = s.session k := rfl
@[simp] theorem State.leaf_setDir (l : Nat) (x : Dir) (k : Nat) : (s.setDir l x).leaf k = s.leaf k := rfl
@[simp] theorem State.frame_setDir (l : Nat) (x : Dir) (k : Nat) : (s.setDir l x).frame k = s.frame k := rfl
@[simp] theorem State.table_setDir (l : Nat) (x : Dir) (k : Nat) : (s.setDir l x).table k = s.table k := rfl
@[simp] theorem State.voice_setDir (l : Nat) (x : Dir) (k : Nat) : (s.setDir l x).voice k = s.voice k := rfl
@[simp] theorem State.granule_setDir (l : Nat) (x : Dir) (k : Nat) : (s.setDir l x).granule k = s.granule k := rfl
@[simp] theorem State.drive_setDir (l : Nat) (x : Dir) (k : Nat) : (s.setDir l x).drive k = s.drive k := rfl
@[simp] theorem State.ddrCh_setDir (l : Nat) (x : Dir) (k : Nat) : (s.setDir l x).ddrCh k = s.ddrCh k := rfl
@[simp] theorem State.link_setDir (l : Nat) (x : Dir) (k : Nat) : (s.setDir l x).link k = s.link k := rfl
@[simp] theorem State.tag_setDir (l : Nat) (x : Dir) (k : Nat) : (s.setDir l x).tag k = s.tag k := rfl
@[simp] theorem State.mark_setDir (l : Nat) (x : Dir) (k : Nat) : (s.setDir l x).mark k = s.mark k := rfl
@[simp] theorem State.part_setDir (l : Nat) (x : Dir) (k : Nat) : (s.setDir l x).part k = s.part k := rfl
@[simp] theorem State.book_setDir (l : Nat) (x : Dir) (k : Nat) : (s.setDir l x).book k = s.book k := rfl
@[simp] theorem State.carry_setDir (l : Nat) (x : Dir) (k : Nat) : (s.setDir l x).carry k = s.carry k := rfl
@[simp] theorem State.reg_setDir (l : Nat) (x : Dir) (k : Nat) : (s.setDir l x).reg k = s.reg k := rfl
@[simp] theorem State.ring_setMark (i : Nat) (x : Mark) (k : Nat) : (s.setMark i x).ring k = s.ring k := rfl
@[simp] theorem State.port_setMark (i : Nat) (x : Mark) (k : Nat) : (s.setMark i x).port k = s.port k := rfl
@[simp] theorem State.session_setMark (i : Nat) (x : Mark) (k : Nat) : (s.setMark i x).session k = s.session k := rfl
@[simp] theorem State.leaf_setMark (i : Nat) (x : Mark) (k : Nat) : (s.setMark i x).leaf k = s.leaf k := rfl
@[simp] theorem State.frame_setMark (i : Nat) (x : Mark) (k : Nat) : (s.setMark i x).frame k = s.frame k := rfl
@[simp] theorem State.table_setMark (i : Nat) (x : Mark) (k : Nat) : (s.setMark i x).table k = s.table k := rfl
@[simp] theorem State.voice_setMark (i : Nat) (x : Mark) (k : Nat) : (s.setMark i x).voice k = s.voice k := rfl
@[simp] theorem State.granule_setMark (i : Nat) (x : Mark) (k : Nat) : (s.setMark i x).granule k = s.granule k := rfl
@[simp] theorem State.drive_setMark (i : Nat) (x : Mark) (k : Nat) : (s.setMark i x).drive k = s.drive k := rfl
@[simp] theorem State.ddrCh_setMark (i : Nat) (x : Mark) (k : Nat) : (s.setMark i x).ddrCh k = s.ddrCh k := rfl
@[simp] theorem State.link_setMark (i : Nat) (x : Mark) (k : Nat) : (s.setMark i x).link k = s.link k := rfl
@[simp] theorem State.tag_setMark (i : Nat) (x : Mark) (k : Nat) : (s.setMark i x).tag k = s.tag k := rfl
@[simp] theorem State.dirEntry_setMark (i : Nat) (x : Mark) (k : Nat) : (s.setMark i x).dirEntry k = s.dirEntry k := rfl
@[simp] theorem State.part_setMark (i : Nat) (x : Mark) (k : Nat) : (s.setMark i x).part k = s.part k := rfl
@[simp] theorem State.book_setMark (i : Nat) (x : Mark) (k : Nat) : (s.setMark i x).book k = s.book k := rfl
@[simp] theorem State.carry_setMark (i : Nat) (x : Mark) (k : Nat) : (s.setMark i x).carry k = s.carry k := rfl
@[simp] theorem State.reg_setMark (i : Nat) (x : Mark) (k : Nat) : (s.setMark i x).reg k = s.reg k := rfl
@[simp] theorem State.ring_updPart (i : Nat) (f : Part → Part) (k : Nat) : (s.updPart i f).ring k = s.ring k := rfl
@[simp] theorem State.port_updPart (i : Nat) (f : Part → Part) (k : Nat) : (s.updPart i f).port k = s.port k := rfl
@[simp] theorem State.session_updPart (i : Nat) (f : Part → Part) (k : Nat) : (s.updPart i f).session k = s.session k := rfl
@[simp] theorem State.leaf_updPart (i : Nat) (f : Part → Part) (k : Nat) : (s.updPart i f).leaf k = s.leaf k := rfl
@[simp] theorem State.frame_updPart (i : Nat) (f : Part → Part) (k : Nat) : (s.updPart i f).frame k = s.frame k := rfl
@[simp] theorem State.table_updPart (i : Nat) (f : Part → Part) (k : Nat) : (s.updPart i f).table k = s.table k := rfl
@[simp] theorem State.voice_updPart (i : Nat) (f : Part → Part) (k : Nat) : (s.updPart i f).voice k = s.voice k := rfl
@[simp] theorem State.granule_updPart (i : Nat) (f : Part → Part) (k : Nat) : (s.updPart i f).granule k = s.granule k := rfl
@[simp] theorem State.drive_updPart (i : Nat) (f : Part → Part) (k : Nat) : (s.updPart i f).drive k = s.drive k := rfl
@[simp] theorem State.ddrCh_updPart (i : Nat) (f : Part → Part) (k : Nat) : (s.updPart i f).ddrCh k = s.ddrCh k := rfl
@[simp] theorem State.link_updPart (i : Nat) (f : Part → Part) (k : Nat) : (s.updPart i f).link k = s.link k := rfl
@[simp] theorem State.tag_updPart (i : Nat) (f : Part → Part) (k : Nat) : (s.updPart i f).tag k = s.tag k := rfl
@[simp] theorem State.dirEntry_updPart (i : Nat) (f : Part → Part) (k : Nat) : (s.updPart i f).dirEntry k = s.dirEntry k := rfl
@[simp] theorem State.mark_updPart (i : Nat) (f : Part → Part) (k : Nat) : (s.updPart i f).mark k = s.mark k := rfl
@[simp] theorem State.book_updPart (i : Nat) (f : Part → Part) (k : Nat) : (s.updPart i f).book k = s.book k := rfl
@[simp] theorem State.carry_updPart (i : Nat) (f : Part → Part) (k : Nat) : (s.updPart i f).carry k = s.carry k := rfl
@[simp] theorem State.reg_updPart (i : Nat) (f : Part → Part) (k : Nat) : (s.updPart i f).reg k = s.reg k := rfl
@[simp] theorem State.ring_setBook (b : Nat) (x : Book) (k : Nat) : (s.setBook b x).ring k = s.ring k := rfl
@[simp] theorem State.port_setBook (b : Nat) (x : Book) (k : Nat) : (s.setBook b x).port k = s.port k := rfl
@[simp] theorem State.session_setBook (b : Nat) (x : Book) (k : Nat) : (s.setBook b x).session k = s.session k := rfl
@[simp] theorem State.leaf_setBook (b : Nat) (x : Book) (k : Nat) : (s.setBook b x).leaf k = s.leaf k := rfl
@[simp] theorem State.frame_setBook (b : Nat) (x : Book) (k : Nat) : (s.setBook b x).frame k = s.frame k := rfl
@[simp] theorem State.table_setBook (b : Nat) (x : Book) (k : Nat) : (s.setBook b x).table k = s.table k := rfl
@[simp] theorem State.voice_setBook (b : Nat) (x : Book) (k : Nat) : (s.setBook b x).voice k = s.voice k := rfl
@[simp] theorem State.granule_setBook (b : Nat) (x : Book) (k : Nat) : (s.setBook b x).granule k = s.granule k := rfl
@[simp] theorem State.drive_setBook (b : Nat) (x : Book) (k : Nat) : (s.setBook b x).drive k = s.drive k := rfl
@[simp] theorem State.ddrCh_setBook (b : Nat) (x : Book) (k : Nat) : (s.setBook b x).ddrCh k = s.ddrCh k := rfl
@[simp] theorem State.link_setBook (b : Nat) (x : Book) (k : Nat) : (s.setBook b x).link k = s.link k := rfl
@[simp] theorem State.tag_setBook (b : Nat) (x : Book) (k : Nat) : (s.setBook b x).tag k = s.tag k := rfl
@[simp] theorem State.dirEntry_setBook (b : Nat) (x : Book) (k : Nat) : (s.setBook b x).dirEntry k = s.dirEntry k := rfl
@[simp] theorem State.mark_setBook (b : Nat) (x : Book) (k : Nat) : (s.setBook b x).mark k = s.mark k := rfl
@[simp] theorem State.part_setBook (b : Nat) (x : Book) (k : Nat) : (s.setBook b x).part k = s.part k := rfl
@[simp] theorem State.carry_setBook (b : Nat) (x : Book) (k : Nat) : (s.setBook b x).carry k = s.carry k := rfl
@[simp] theorem State.reg_setBook (b : Nat) (x : Book) (k : Nat) : (s.setBook b x).reg k = s.reg k := rfl
@[simp] theorem State.ring_emit (o : Out) (k : Nat) : (s.emit o).ring k = s.ring k := rfl
@[simp] theorem State.port_emit (o : Out) (k : Nat) : (s.emit o).port k = s.port k := rfl
@[simp] theorem State.session_emit (o : Out) (k : Nat) : (s.emit o).session k = s.session k := rfl
@[simp] theorem State.leaf_emit (o : Out) (k : Nat) : (s.emit o).leaf k = s.leaf k := rfl
@[simp] theorem State.frame_emit (o : Out) (k : Nat) : (s.emit o).frame k = s.frame k := rfl
@[simp] theorem State.table_emit (o : Out) (k : Nat) : (s.emit o).table k = s.table k := rfl
@[simp] theorem State.voice_emit (o : Out) (k : Nat) : (s.emit o).voice k = s.voice k := rfl
@[simp] theorem State.granule_emit (o : Out) (k : Nat) : (s.emit o).granule k = s.granule k := rfl
@[simp] theorem State.drive_emit (o : Out) (k : Nat) : (s.emit o).drive k = s.drive k := rfl
@[simp] theorem State.ddrCh_emit (o : Out) (k : Nat) : (s.emit o).ddrCh k = s.ddrCh k := rfl
@[simp] theorem State.link_emit (o : Out) (k : Nat) : (s.emit o).link k = s.link k := rfl
@[simp] theorem State.tag_emit (o : Out) (k : Nat) : (s.emit o).tag k = s.tag k := rfl
@[simp] theorem State.dirEntry_emit (o : Out) (k : Nat) : (s.emit o).dirEntry k = s.dirEntry k := rfl
@[simp] theorem State.mark_emit (o : Out) (k : Nat) : (s.emit o).mark k = s.mark k := rfl
@[simp] theorem State.part_emit (o : Out) (k : Nat) : (s.emit o).part k = s.part k := rfl
@[simp] theorem State.book_emit (o : Out) (k : Nat) : (s.emit o).book k = s.book k := rfl
@[simp] theorem State.carry_emit (o : Out) (k : Nat) : (s.emit o).carry k = s.carry k := rfl
@[simp] theorem State.reg_emit (o : Out) (k : Nat) : (s.emit o).reg k = s.reg k := rfl
@[simp] theorem State.ring_setRwk (o : Nat) (w : BitVec 32) (k : Nat) : (s.setRwk o w).ring k = s.ring k := rfl
@[simp] theorem State.port_setRwk (o : Nat) (w : BitVec 32) (k : Nat) : (s.setRwk o w).port k = s.port k := rfl
@[simp] theorem State.session_setRwk (o : Nat) (w : BitVec 32) (k : Nat) : (s.setRwk o w).session k = s.session k := rfl
@[simp] theorem State.leaf_setRwk (o : Nat) (w : BitVec 32) (k : Nat) : (s.setRwk o w).leaf k = s.leaf k := rfl
@[simp] theorem State.frame_setRwk (o : Nat) (w : BitVec 32) (k : Nat) : (s.setRwk o w).frame k = s.frame k := rfl
@[simp] theorem State.table_setRwk (o : Nat) (w : BitVec 32) (k : Nat) : (s.setRwk o w).table k = s.table k := rfl
@[simp] theorem State.voice_setRwk (o : Nat) (w : BitVec 32) (k : Nat) : (s.setRwk o w).voice k = s.voice k := rfl
@[simp] theorem State.granule_setRwk (o : Nat) (w : BitVec 32) (k : Nat) : (s.setRwk o w).granule k = s.granule k := rfl
@[simp] theorem State.drive_setRwk (o : Nat) (w : BitVec 32) (k : Nat) : (s.setRwk o w).drive k = s.drive k := rfl
@[simp] theorem State.ddrCh_setRwk (o : Nat) (w : BitVec 32) (k : Nat) : (s.setRwk o w).ddrCh k = s.ddrCh k := rfl
@[simp] theorem State.link_setRwk (o : Nat) (w : BitVec 32) (k : Nat) : (s.setRwk o w).link k = s.link k := rfl
@[simp] theorem State.tag_setRwk (o : Nat) (w : BitVec 32) (k : Nat) : (s.setRwk o w).tag k = s.tag k := rfl
@[simp] theorem State.dirEntry_setRwk (o : Nat) (w : BitVec 32) (k : Nat) : (s.setRwk o w).dirEntry k = s.dirEntry k := rfl
@[simp] theorem State.mark_setRwk (o : Nat) (w : BitVec 32) (k : Nat) : (s.setRwk o w).mark k = s.mark k := rfl
@[simp] theorem State.part_setRwk (o : Nat) (w : BitVec 32) (k : Nat) : (s.setRwk o w).part k = s.part k := rfl
@[simp] theorem State.book_setRwk (o : Nat) (w : BitVec 32) (k : Nat) : (s.setRwk o w).book k = s.book k := rfl
@[simp] theorem State.carry_setRwk (o : Nat) (w : BitVec 32) (k : Nat) : (s.setRwk o w).carry k = s.carry k := rfl
@[simp] theorem State.reg_setRwk (o : Nat) (w : BitVec 32) (k : Nat) : (s.setRwk o w).reg k = s.reg k := rfl
@[simp] theorem State.ring_setReg (o : Nat) (w : Word) (k : Nat) : (s.setReg o w).ring k = s.ring k := rfl
@[simp] theorem State.port_setReg (o : Nat) (w : Word) (k : Nat) : (s.setReg o w).port k = s.port k := rfl
@[simp] theorem State.session_setReg (o : Nat) (w : Word) (k : Nat) : (s.setReg o w).session k = s.session k := rfl
@[simp] theorem State.leaf_setReg (o : Nat) (w : Word) (k : Nat) : (s.setReg o w).leaf k = s.leaf k := rfl
@[simp] theorem State.frame_setReg (o : Nat) (w : Word) (k : Nat) : (s.setReg o w).frame k = s.frame k := rfl
@[simp] theorem State.table_setReg (o : Nat) (w : Word) (k : Nat) : (s.setReg o w).table k = s.table k := rfl
@[simp] theorem State.voice_setReg (o : Nat) (w : Word) (k : Nat) : (s.setReg o w).voice k = s.voice k := rfl
@[simp] theorem State.granule_setReg (o : Nat) (w : Word) (k : Nat) : (s.setReg o w).granule k = s.granule k := rfl
@[simp] theorem State.drive_setReg (o : Nat) (w : Word) (k : Nat) : (s.setReg o w).drive k = s.drive k := rfl
@[simp] theorem State.ddrCh_setReg (o : Nat) (w : Word) (k : Nat) : (s.setReg o w).ddrCh k = s.ddrCh k := rfl
@[simp] theorem State.link_setReg (o : Nat) (w : Word) (k : Nat) : (s.setReg o w).link k = s.link k := rfl
@[simp] theorem State.tag_setReg (o : Nat) (w : Word) (k : Nat) : (s.setReg o w).tag k = s.tag k := rfl
@[simp] theorem State.dirEntry_setReg (o : Nat) (w : Word) (k : Nat) : (s.setReg o w).dirEntry k = s.dirEntry k := rfl
@[simp] theorem State.mark_setReg (o : Nat) (w : Word) (k : Nat) : (s.setReg o w).mark k = s.mark k := rfl
@[simp] theorem State.part_setReg (o : Nat) (w : Word) (k : Nat) : (s.setReg o w).part k = s.part k := rfl
@[simp] theorem State.book_setReg (o : Nat) (w : Word) (k : Nat) : (s.setReg o w).book k = s.book k := rfl
@[simp] theorem State.carry_setReg (o : Nat) (w : Word) (k : Nat) : (s.setReg o w).carry k = s.carry k := rfl
@[simp] theorem State.ring_count (o n : Nat) (k : Nat) : (s.count o n).ring k = s.ring k := rfl
@[simp] theorem State.port_count (o n : Nat) (k : Nat) : (s.count o n).port k = s.port k := rfl
@[simp] theorem State.session_count (o n : Nat) (k : Nat) : (s.count o n).session k = s.session k := rfl
@[simp] theorem State.leaf_count (o n : Nat) (k : Nat) : (s.count o n).leaf k = s.leaf k := rfl
@[simp] theorem State.frame_count (o n : Nat) (k : Nat) : (s.count o n).frame k = s.frame k := rfl
@[simp] theorem State.table_count (o n : Nat) (k : Nat) : (s.count o n).table k = s.table k := rfl
@[simp] theorem State.voice_count (o n : Nat) (k : Nat) : (s.count o n).voice k = s.voice k := rfl
@[simp] theorem State.granule_count (o n : Nat) (k : Nat) : (s.count o n).granule k = s.granule k := rfl
@[simp] theorem State.drive_count (o n : Nat) (k : Nat) : (s.count o n).drive k = s.drive k := rfl
@[simp] theorem State.ddrCh_count (o n : Nat) (k : Nat) : (s.count o n).ddrCh k = s.ddrCh k := rfl
@[simp] theorem State.link_count (o n : Nat) (k : Nat) : (s.count o n).link k = s.link k := rfl
@[simp] theorem State.tag_count (o n : Nat) (k : Nat) : (s.count o n).tag k = s.tag k := rfl
@[simp] theorem State.dirEntry_count (o n : Nat) (k : Nat) : (s.count o n).dirEntry k = s.dirEntry k := rfl
@[simp] theorem State.mark_count (o n : Nat) (k : Nat) : (s.count o n).mark k = s.mark k := rfl
@[simp] theorem State.part_count (o n : Nat) (k : Nat) : (s.count o n).part k = s.part k := rfl
@[simp] theorem State.book_count (o n : Nat) (k : Nat) : (s.count o n).book k = s.book k := rfl
@[simp] theorem State.carry_count (o n : Nat) (k : Nat) : (s.count o n).carry k = s.carry k := rfl
@[simp] theorem State.ring_count32 (o n : Nat) (k : Nat) : (s.count32 o n).ring k = s.ring k := rfl
@[simp] theorem State.port_count32 (o n : Nat) (k : Nat) : (s.count32 o n).port k = s.port k := rfl
@[simp] theorem State.session_count32 (o n : Nat) (k : Nat) : (s.count32 o n).session k = s.session k := rfl
@[simp] theorem State.leaf_count32 (o n : Nat) (k : Nat) : (s.count32 o n).leaf k = s.leaf k := rfl
@[simp] theorem State.frame_count32 (o n : Nat) (k : Nat) : (s.count32 o n).frame k = s.frame k := rfl
@[simp] theorem State.table_count32 (o n : Nat) (k : Nat) : (s.count32 o n).table k = s.table k := rfl
@[simp] theorem State.voice_count32 (o n : Nat) (k : Nat) : (s.count32 o n).voice k = s.voice k := rfl
@[simp] theorem State.granule_count32 (o n : Nat) (k : Nat) : (s.count32 o n).granule k = s.granule k := rfl
@[simp] theorem State.drive_count32 (o n : Nat) (k : Nat) : (s.count32 o n).drive k = s.drive k := rfl
@[simp] theorem State.ddrCh_count32 (o n : Nat) (k : Nat) : (s.count32 o n).ddrCh k = s.ddrCh k := rfl
@[simp] theorem State.link_count32 (o n : Nat) (k : Nat) : (s.count32 o n).link k = s.link k := rfl
@[simp] theorem State.tag_count32 (o n : Nat) (k : Nat) : (s.count32 o n).tag k = s.tag k := rfl
@[simp] theorem State.dirEntry_count32 (o n : Nat) (k : Nat) : (s.count32 o n).dirEntry k = s.dirEntry k := rfl
@[simp] theorem State.mark_count32 (o n : Nat) (k : Nat) : (s.count32 o n).mark k = s.mark k := rfl
@[simp] theorem State.part_count32 (o n : Nat) (k : Nat) : (s.count32 o n).part k = s.part k := rfl
@[simp] theorem State.book_count32 (o n : Nat) (k : Nat) : (s.count32 o n).book k = s.book k := rfl
@[simp] theorem State.carry_count32 (o n : Nat) (k : Nat) : (s.count32 o n).carry k = s.carry k := rfl
@[simp] theorem State.ring_setRegFld (o lo n v : Nat) (k : Nat) : (s.setRegFld o lo n v).ring k = s.ring k := rfl
@[simp] theorem State.port_setRegFld (o lo n v : Nat) (k : Nat) : (s.setRegFld o lo n v).port k = s.port k := rfl
@[simp] theorem State.session_setRegFld (o lo n v : Nat) (k : Nat) : (s.setRegFld o lo n v).session k = s.session k := rfl
@[simp] theorem State.leaf_setRegFld (o lo n v : Nat) (k : Nat) : (s.setRegFld o lo n v).leaf k = s.leaf k := rfl
@[simp] theorem State.frame_setRegFld (o lo n v : Nat) (k : Nat) : (s.setRegFld o lo n v).frame k = s.frame k := rfl
@[simp] theorem State.table_setRegFld (o lo n v : Nat) (k : Nat) : (s.setRegFld o lo n v).table k = s.table k := rfl
@[simp] theorem State.voice_setRegFld (o lo n v : Nat) (k : Nat) : (s.setRegFld o lo n v).voice k = s.voice k := rfl
@[simp] theorem State.granule_setRegFld (o lo n v : Nat) (k : Nat) : (s.setRegFld o lo n v).granule k = s.granule k := rfl
@[simp] theorem State.drive_setRegFld (o lo n v : Nat) (k : Nat) : (s.setRegFld o lo n v).drive k = s.drive k := rfl
@[simp] theorem State.ddrCh_setRegFld (o lo n v : Nat) (k : Nat) : (s.setRegFld o lo n v).ddrCh k = s.ddrCh k := rfl
@[simp] theorem State.link_setRegFld (o lo n v : Nat) (k : Nat) : (s.setRegFld o lo n v).link k = s.link k := rfl
@[simp] theorem State.tag_setRegFld (o lo n v : Nat) (k : Nat) : (s.setRegFld o lo n v).tag k = s.tag k := rfl
@[simp] theorem State.dirEntry_setRegFld (o lo n v : Nat) (k : Nat) : (s.setRegFld o lo n v).dirEntry k = s.dirEntry k := rfl
@[simp] theorem State.mark_setRegFld (o lo n v : Nat) (k : Nat) : (s.setRegFld o lo n v).mark k = s.mark k := rfl
@[simp] theorem State.part_setRegFld (o lo n v : Nat) (k : Nat) : (s.setRegFld o lo n v).part k = s.part k := rfl
@[simp] theorem State.book_setRegFld (o lo n v : Nat) (k : Nat) : (s.setRegFld o lo n v).book k = s.book k := rfl
@[simp] theorem State.carry_setRegFld (o lo n v : Nat) (k : Nat) : (s.setRegFld o lo n v).carry k = s.carry k := rfl
@[simp] theorem State.ring_setRegBit (o i : Nat) (b : Bool) (k : Nat) : (s.setRegBit o i b).ring k = s.ring k := rfl
@[simp] theorem State.port_setRegBit (o i : Nat) (b : Bool) (k : Nat) : (s.setRegBit o i b).port k = s.port k := rfl
@[simp] theorem State.session_setRegBit (o i : Nat) (b : Bool) (k : Nat) : (s.setRegBit o i b).session k = s.session k := rfl
@[simp] theorem State.leaf_setRegBit (o i : Nat) (b : Bool) (k : Nat) : (s.setRegBit o i b).leaf k = s.leaf k := rfl
@[simp] theorem State.frame_setRegBit (o i : Nat) (b : Bool) (k : Nat) : (s.setRegBit o i b).frame k = s.frame k := rfl
@[simp] theorem State.table_setRegBit (o i : Nat) (b : Bool) (k : Nat) : (s.setRegBit o i b).table k = s.table k := rfl
@[simp] theorem State.voice_setRegBit (o i : Nat) (b : Bool) (k : Nat) : (s.setRegBit o i b).voice k = s.voice k := rfl
@[simp] theorem State.granule_setRegBit (o i : Nat) (b : Bool) (k : Nat) : (s.setRegBit o i b).granule k = s.granule k := rfl
@[simp] theorem State.drive_setRegBit (o i : Nat) (b : Bool) (k : Nat) : (s.setRegBit o i b).drive k = s.drive k := rfl
@[simp] theorem State.ddrCh_setRegBit (o i : Nat) (b : Bool) (k : Nat) : (s.setRegBit o i b).ddrCh k = s.ddrCh k := rfl
@[simp] theorem State.link_setRegBit (o i : Nat) (b : Bool) (k : Nat) : (s.setRegBit o i b).link k = s.link k := rfl
@[simp] theorem State.tag_setRegBit (o i : Nat) (b : Bool) (k : Nat) : (s.setRegBit o i b).tag k = s.tag k := rfl
@[simp] theorem State.dirEntry_setRegBit (o i : Nat) (b : Bool) (k : Nat) : (s.setRegBit o i b).dirEntry k = s.dirEntry k := rfl
@[simp] theorem State.mark_setRegBit (o i : Nat) (b : Bool) (k : Nat) : (s.setRegBit o i b).mark k = s.mark k := rfl
@[simp] theorem State.part_setRegBit (o i : Nat) (b : Bool) (k : Nat) : (s.setRegBit o i b).part k = s.part k := rfl
@[simp] theorem State.book_setRegBit (o i : Nat) (b : Bool) (k : Nat) : (s.setRegBit o i b).book k = s.book k := rfl
@[simp] theorem State.carry_setRegBit (o i : Nat) (b : Bool) (k : Nat) : (s.setRegBit o i b).carry k = s.carry k := rfl
@[simp] theorem State.ring_putByte (o : Nat) (b : Byte) (k : Nat) : (s.putByte o b).ring k = s.ring k := rfl
@[simp] theorem State.port_putByte (o : Nat) (b : Byte) (k : Nat) : (s.putByte o b).port k = s.port k := rfl
@[simp] theorem State.session_putByte (o : Nat) (b : Byte) (k : Nat) : (s.putByte o b).session k = s.session k := rfl
@[simp] theorem State.leaf_putByte (o : Nat) (b : Byte) (k : Nat) : (s.putByte o b).leaf k = s.leaf k := rfl
@[simp] theorem State.frame_putByte (o : Nat) (b : Byte) (k : Nat) : (s.putByte o b).frame k = s.frame k := rfl
@[simp] theorem State.table_putByte (o : Nat) (b : Byte) (k : Nat) : (s.putByte o b).table k = s.table k := rfl
@[simp] theorem State.voice_putByte (o : Nat) (b : Byte) (k : Nat) : (s.putByte o b).voice k = s.voice k := rfl
@[simp] theorem State.granule_putByte (o : Nat) (b : Byte) (k : Nat) : (s.putByte o b).granule k = s.granule k := rfl
@[simp] theorem State.drive_putByte (o : Nat) (b : Byte) (k : Nat) : (s.putByte o b).drive k = s.drive k := rfl
@[simp] theorem State.ddrCh_putByte (o : Nat) (b : Byte) (k : Nat) : (s.putByte o b).ddrCh k = s.ddrCh k := rfl
@[simp] theorem State.link_putByte (o : Nat) (b : Byte) (k : Nat) : (s.putByte o b).link k = s.link k := rfl
@[simp] theorem State.tag_putByte (o : Nat) (b : Byte) (k : Nat) : (s.putByte o b).tag k = s.tag k := rfl
@[simp] theorem State.dirEntry_putByte (o : Nat) (b : Byte) (k : Nat) : (s.putByte o b).dirEntry k = s.dirEntry k := rfl
@[simp] theorem State.mark_putByte (o : Nat) (b : Byte) (k : Nat) : (s.putByte o b).mark k = s.mark k := rfl
@[simp] theorem State.part_putByte (o : Nat) (b : Byte) (k : Nat) : (s.putByte o b).part k = s.part k := rfl
@[simp] theorem State.book_putByte (o : Nat) (b : Byte) (k : Nat) : (s.putByte o b).book k = s.book k := rfl
@[simp] theorem State.carry_putByte (o : Nat) (b : Byte) (k : Nat) : (s.putByte o b).carry k = s.carry k := rfl
@[simp] theorem State.reg_putByte (o : Nat) (b : Byte) (k : Nat) : (s.putByte o b).reg k = s.reg k := rfl
@[simp] theorem State.ring_setPoison (l : Nat) (b : Bool) (k : Nat) : (s.setPoison l b).ring k = s.ring k := rfl
@[simp] theorem State.port_setPoison (l : Nat) (b : Bool) (k : Nat) : (s.setPoison l b).port k = s.port k := rfl
@[simp] theorem State.session_setPoison (l : Nat) (b : Bool) (k : Nat) : (s.setPoison l b).session k = s.session k := rfl
@[simp] theorem State.leaf_setPoison (l : Nat) (b : Bool) (k : Nat) : (s.setPoison l b).leaf k = s.leaf k := rfl
@[simp] theorem State.frame_setPoison (l : Nat) (b : Bool) (k : Nat) : (s.setPoison l b).frame k = s.frame k := rfl
@[simp] theorem State.table_setPoison (l : Nat) (b : Bool) (k : Nat) : (s.setPoison l b).table k = s.table k := rfl
@[simp] theorem State.voice_setPoison (l : Nat) (b : Bool) (k : Nat) : (s.setPoison l b).voice k = s.voice k := rfl
@[simp] theorem State.granule_setPoison (l : Nat) (b : Bool) (k : Nat) : (s.setPoison l b).granule k = s.granule k := rfl
@[simp] theorem State.drive_setPoison (l : Nat) (b : Bool) (k : Nat) : (s.setPoison l b).drive k = s.drive k := rfl
@[simp] theorem State.ddrCh_setPoison (l : Nat) (b : Bool) (k : Nat) : (s.setPoison l b).ddrCh k = s.ddrCh k := rfl
@[simp] theorem State.link_setPoison (l : Nat) (b : Bool) (k : Nat) : (s.setPoison l b).link k = s.link k := rfl
@[simp] theorem State.tag_setPoison (l : Nat) (b : Bool) (k : Nat) : (s.setPoison l b).tag k = s.tag k := rfl
@[simp] theorem State.dirEntry_setPoison (l : Nat) (b : Bool) (k : Nat) : (s.setPoison l b).dirEntry k = s.dirEntry k := rfl
@[simp] theorem State.mark_setPoison (l : Nat) (b : Bool) (k : Nat) : (s.setPoison l b).mark k = s.mark k := rfl
@[simp] theorem State.part_setPoison (l : Nat) (b : Bool) (k : Nat) : (s.setPoison l b).part k = s.part k := rfl
@[simp] theorem State.book_setPoison (l : Nat) (b : Bool) (k : Nat) : (s.setPoison l b).book k = s.book k := rfl
@[simp] theorem State.carry_setPoison (l : Nat) (b : Bool) (k : Nat) : (s.setPoison l b).carry k = s.carry k := rfl
@[simp] theorem State.reg_setPoison (l : Nat) (b : Bool) (k : Nat) : (s.setPoison l b).reg k = s.reg k := rfl
@[simp] theorem State.ring_updRot (f : Rot → Rot) (k : Nat) : (s.updRot f).ring k = s.ring k := rfl
@[simp] theorem State.port_updRot (f : Rot → Rot) (k : Nat) : (s.updRot f).port k = s.port k := rfl
@[simp] theorem State.session_updRot (f : Rot → Rot) (k : Nat) : (s.updRot f).session k = s.session k := rfl
@[simp] theorem State.leaf_updRot (f : Rot → Rot) (k : Nat) : (s.updRot f).leaf k = s.leaf k := rfl
@[simp] theorem State.frame_updRot (f : Rot → Rot) (k : Nat) : (s.updRot f).frame k = s.frame k := rfl
@[simp] theorem State.table_updRot (f : Rot → Rot) (k : Nat) : (s.updRot f).table k = s.table k := rfl
@[simp] theorem State.voice_updRot (f : Rot → Rot) (k : Nat) : (s.updRot f).voice k = s.voice k := rfl
@[simp] theorem State.granule_updRot (f : Rot → Rot) (k : Nat) : (s.updRot f).granule k = s.granule k := rfl
@[simp] theorem State.drive_updRot (f : Rot → Rot) (k : Nat) : (s.updRot f).drive k = s.drive k := rfl
@[simp] theorem State.ddrCh_updRot (f : Rot → Rot) (k : Nat) : (s.updRot f).ddrCh k = s.ddrCh k := rfl
@[simp] theorem State.link_updRot (f : Rot → Rot) (k : Nat) : (s.updRot f).link k = s.link k := rfl
@[simp] theorem State.tag_updRot (f : Rot → Rot) (k : Nat) : (s.updRot f).tag k = s.tag k := rfl
@[simp] theorem State.dirEntry_updRot (f : Rot → Rot) (k : Nat) : (s.updRot f).dirEntry k = s.dirEntry k := rfl
@[simp] theorem State.mark_updRot (f : Rot → Rot) (k : Nat) : (s.updRot f).mark k = s.mark k := rfl
@[simp] theorem State.part_updRot (f : Rot → Rot) (k : Nat) : (s.updRot f).part k = s.part k := rfl
@[simp] theorem State.carry_updRot (f : Rot → Rot) (k : Nat) : (s.updRot f).carry k = s.carry k := rfl
@[simp] theorem State.reg_updRot (f : Rot → Rot) (k : Nat) : (s.updRot f).reg k = s.reg k := rfl
@[simp] theorem State.ring_updPwr (f : Pwr → Pwr) (k : Nat) : (s.updPwr f).ring k = s.ring k := rfl
@[simp] theorem State.port_updPwr (f : Pwr → Pwr) (k : Nat) : (s.updPwr f).port k = s.port k := rfl
@[simp] theorem State.session_updPwr (f : Pwr → Pwr) (k : Nat) : (s.updPwr f).session k = s.session k := rfl
@[simp] theorem State.leaf_updPwr (f : Pwr → Pwr) (k : Nat) : (s.updPwr f).leaf k = s.leaf k := rfl
@[simp] theorem State.frame_updPwr (f : Pwr → Pwr) (k : Nat) : (s.updPwr f).frame k = s.frame k := rfl
@[simp] theorem State.table_updPwr (f : Pwr → Pwr) (k : Nat) : (s.updPwr f).table k = s.table k := rfl
@[simp] theorem State.voice_updPwr (f : Pwr → Pwr) (k : Nat) : (s.updPwr f).voice k = s.voice k := rfl
@[simp] theorem State.granule_updPwr (f : Pwr → Pwr) (k : Nat) : (s.updPwr f).granule k = s.granule k := rfl
@[simp] theorem State.drive_updPwr (f : Pwr → Pwr) (k : Nat) : (s.updPwr f).drive k = s.drive k := rfl
@[simp] theorem State.ddrCh_updPwr (f : Pwr → Pwr) (k : Nat) : (s.updPwr f).ddrCh k = s.ddrCh k := rfl
@[simp] theorem State.link_updPwr (f : Pwr → Pwr) (k : Nat) : (s.updPwr f).link k = s.link k := rfl
@[simp] theorem State.tag_updPwr (f : Pwr → Pwr) (k : Nat) : (s.updPwr f).tag k = s.tag k := rfl
@[simp] theorem State.dirEntry_updPwr (f : Pwr → Pwr) (k : Nat) : (s.updPwr f).dirEntry k = s.dirEntry k := rfl
@[simp] theorem State.mark_updPwr (f : Pwr → Pwr) (k : Nat) : (s.updPwr f).mark k = s.mark k := rfl
@[simp] theorem State.part_updPwr (f : Pwr → Pwr) (k : Nat) : (s.updPwr f).part k = s.part k := rfl
@[simp] theorem State.book_updPwr (f : Pwr → Pwr) (k : Nat) : (s.updPwr f).book k = s.book k := rfl
@[simp] theorem State.carry_updPwr (f : Pwr → Pwr) (k : Nat) : (s.updPwr f).carry k = s.carry k := rfl
@[simp] theorem State.reg_updPwr (f : Pwr → Pwr) (k : Nat) : (s.updPwr f).reg k = s.reg k := rfl

end Sys2Proof.Machine
end

