-- ==== Sys2Proof/Laws/Tables.lean ====
section
/-! SUPPORT. Sparse tables: what an update reads as, and that every update keeps the canonical form. -/

namespace Sys2Proof.Machine

variable {α : Type}

/-! ## Tables without a default -/

@[simp] theorem lget_lput_same {t : Tbl α} {k : Nat} {v : α} : lget (lput t k v) k = some v := by
  induction t with
  | nil => simp [lput, lget]
  | cons e t ih =>
    obtain ⟨a, w⟩ := e
    unfold lput
    split
    · rename_i hl; simp [lget, Nat.ne_of_lt hl, ih]
    · split <;> simp [lget]

theorem lget_lput_other {t : Tbl α} {k j : Nat} {v : α} (h : j ≠ k) : lget (lput t k v) j = lget t j := by
  have hk : k ≠ j := fun e => h e.symm
  induction t with
  | nil => simp [lput, lget, hk]
  | cons e t ih =>
    obtain ⟨a, w⟩ := e
    unfold lput
    split
    · by_cases hj : a = j <;> simp [lget, hj, ih]
    · split
      · rename_i he; subst he; simp [lget, hk]
      · simp [lget, hk]

theorem ldel_cons_same {t : Tbl α} {k : Nat} {w : α} : ldel ((k, w) :: t) k = ldel t k := by
  simp [ldel]

theorem ldel_cons_other {t : Tbl α} {a k : Nat} {w : α} (h : a ≠ k) : ldel ((a, w) :: t) k = (a, w) :: ldel t k := by
  simp [ldel, h]

@[simp] theorem lget_ldel_same {t : Tbl α} {k : Nat} : lget (ldel t k) k = none := by
  induction t with
  | nil => rfl
  | cons e t ih =>
    obtain ⟨a, w⟩ := e
    by_cases h : a = k
    · subst h; rw [ldel_cons_same]; exact ih
    · rw [ldel_cons_other h]; simp [lget, h, ih]

theorem lget_ldel_other {t : Tbl α} {k j : Nat} (h : j ≠ k) : lget (ldel t k) j = lget t j := by
  induction t with
  | nil => rfl
  | cons e t ih =>
    obtain ⟨a, w⟩ := e
    by_cases ha : a = k
    · subst ha; rw [ldel_cons_same, ih]; simp [lget, Ne.symm h]
    · rw [ldel_cons_other ha]; by_cases hj : a = j <;> simp [lget, hj, ih]

/-- An entry written twice is written once. -/
theorem lput_lput {t : Tbl α} {k : Nat} {a b : α} : lput (lput t k a) k b = lput t k b := by
  induction t with
  | nil => simp [lput]
  | cons e t ih =>
    obtain ⟨c, w⟩ := e
    by_cases h1 : c < k
    · simp [lput, h1, ih]
    · by_cases h2 : c = k
      · subst h2; simp [lput]
      · simp [lput, h1, h2]

theorem ldel_lput {t : Tbl α} {k : Nat} {a : α} : ldel (lput t k a) k = ldel t k := by
  induction t with
  | nil => simp [lput, ldel]
  | cons e t ih =>
    obtain ⟨c, w⟩ := e
    by_cases h1 : c < k
    · simp [lput, h1, ldel_cons_other (Nat.ne_of_lt h1), ih]
    · by_cases h2 : c = k
      · subst h2; simp [lput, ldel_cons_same]
      · simp [lput, h1, h2, ldel_cons_same]

/-! ## Tables with a default -/

section Default

variable (d : Nat → α)

theorem tget_eq_lget (t : Tbl α) (k : Nat) : tget d t k = (lget t k).getD (d k) := by
  induction t with
  | nil => rfl
  | cons e t ih =>
    obtain ⟨a, w⟩ := e
    by_cases h : a = k <;> simp [tget, lget, h, ih]

theorem tAbove_of_lt {lo hi : Nat} {t : Tbl α} (h : tAbove hi t = true) (hl : lo ≤ hi) : tAbove lo t = true := by
  cases t with
  | nil => rfl
  | cons e t => simp only [tAbove, decide_eq_true_eq] at *; omega

variable [DecidableEq α]

/-- What is stored reads back. -/
@[simp] theorem tget_tput_same {t : Tbl α} {k : Nat} {v : α} : tget d (tput d t k v) k = v := by
  unfold tput; split
  · rename_i h; rw [tget_eq_lget, lget_ldel_same, h]; rfl
  · rw [tget_eq_lget, lget_lput_same]; rfl

/-- Every other index reads as before. -/
theorem tget_tput_other {t : Tbl α} {k j : Nat} {v : α} (h : j ≠ k) : tget d (tput d t k v) j = tget d t j := by
  unfold tput; split
  · rw [tget_eq_lget, tget_eq_lget, lget_ldel_other h]
  · rw [tget_eq_lget, tget_eq_lget, lget_lput_other h]

/-- An entry that is not the default, written again, is as if written once. -/
theorem tput_tput {t : Tbl α} {k : Nat} {a b : α} (h : a ≠ d k) : tput d (tput d t k a) k b = tput d t k b := by
  unfold tput; rw [if_neg h]; split
  · exact ldel_lput
  · exact lput_lput

theorem tAbove_filter {lo : Nat} {t : Tbl α} {p : Nat × α → Bool} (hw : twf d t = true) (h : tAbove lo t = true) :
    tAbove lo (t.filter p) = true := by
  induction t generalizing lo with
  | nil => rfl
  | cons e t ih =>
    obtain ⟨a, w⟩ := e
    simp only [twf, Bool.and_eq_true] at hw
    simp only [tAbove, decide_eq_true_eq] at h
    rw [List.filter_cons]
    split
    · simpa [tAbove] using h
    · exact ih hw.2 (tAbove_of_lt hw.1.1 (by omega))

/-- Leaving entries out keeps the canonical form. -/
theorem twf_filter {t : Tbl α} {p : Nat × α → Bool} (hw : twf d t = true) : twf d (t.filter p) = true := by
  induction t with
  | nil => rfl
  | cons e t ih =>
    obtain ⟨a, w⟩ := e
    simp only [twf, Bool.and_eq_true, decide_eq_true_eq] at hw
    rw [List.filter_cons]
    split
    · simp only [twf, Bool.and_eq_true, decide_eq_true_eq]
      exact ⟨⟨tAbove_filter d hw.2 hw.1.1, hw.1.2⟩, ih hw.2⟩
    · exact ih hw.2

theorem twf_tclear {t : Tbl α} {lo n : Nat} (hw : twf d t = true) : twf d (tclear lo n t) = true := twf_filter d hw

omit [DecidableEq α] in
theorem tAbove_lput {lo k : Nat} {t : Tbl α} {v : α} (h : tAbove lo t = true) (hk : lo < k) : tAbove lo (lput t k v) = true := by
  cases t with
  | nil => simpa [lput, tAbove] using hk
  | cons e t =>
    obtain ⟨a, w⟩ := e
    simp only [tAbove, decide_eq_true_eq] at h
    unfold lput
    split
    · simpa [tAbove] using h
    · split <;> simpa [tAbove] using hk

theorem twf_lput {t : Tbl α} {k : Nat} {v : α} (hv : v ≠ d k) (hw : twf d t = true) : twf d (lput t k v) = true := by
  induction t with
  | nil => simpa [lput, twf, tAbove] using hv
  | cons e t ih =>
    obtain ⟨a, w⟩ := e
    have hw' := hw
    simp only [twf, Bool.and_eq_true, decide_eq_true_eq] at hw
    unfold lput
    split
    · simp only [twf, Bool.and_eq_true, decide_eq_true_eq]
      exact ⟨⟨tAbove_lput hw.1.1 ‹_›, hw.1.2⟩, ih hw.2⟩
    · split
      · rename_i he; subst he
        simp only [twf, Bool.and_eq_true, decide_eq_true_eq]
        exact ⟨⟨hw.1.1, hv⟩, hw.2⟩
      · have : tAbove k ((a, w) :: t) = true := by simp only [tAbove, decide_eq_true_eq]; omega
        simp only [twf, Bool.and_eq_true, decide_eq_true_eq] at hw' ⊢
        exact ⟨⟨this, hv⟩, hw'⟩

/-- An update keeps the canonical form. -/
theorem twf_tput {t : Tbl α} {k : Nat} {v : α} (hw : twf d t = true) : twf d (tput d t k v) = true := by
  unfold tput; split
  · exact twf_filter d hw
  · exact twf_lput d ‹_› hw

end Default

end Sys2Proof.Machine
end

