-- ==== Sys2Proof/Laws/Memory.lean ====
section
/-! SUPPORT. The pool's memory: its canonical form is kept by every operation that writes it and holds at reset, a byte written
is the byte read, and every other byte stays. -/

namespace Sys2Proof.Machine

variable {s t : State}

theorem poolWf_reset : State.reset.poolWf = true := rfl

/-- What leaves the pool's bytes alone keeps their form. -/
theorem Touches.pool_eq {m : Nat} (h : Touches m s t) (hm : m.testBit 38 = false) : t.pool = s.pool := (h .pool hm).symm

theorem Touches.poolWf {m : Nat} (h : Touches m s t) (hm : m.testBit 38 = false) (hs : s.poolWf = true) : t.poolWf = true := by
  rw [State.poolWf, h.pool_eq hm]; exact hs

theorem poolWf_putByte (o : Nat) (b : Byte) (h : s.poolWf = true) : (s.putByte o b).poolWf = true := twf_tput zeroByte h

theorem poolWf_putBytes {bs : List Byte} (o : Nat) (h : s.poolWf = true) : (s.putBytes o bs).poolWf = true := by
  induction bs generalizing s o with
  | nil => exact h
  | cons b l ih => exact ih (o + 1) (poolWf_putByte o b h)

theorem poolWf_each {α : Type} {l : List α} {f : State → α → State} (hf : ∀ u a, u.poolWf = true → (f u a).poolWf = true)
    (h : s.poolWf = true) : (s.each l f).poolWf = true := by
  unfold State.each
  induction l generalizing s with
  | nil => exact h
  | cons a l ih => exact ih (hf s a h)

theorem poolWf_rekey (line : Nat) (h : s.poolWf = true) : (s.rekey line).poolWf = true := by
  have k : ∀ (u : State) x, ({ u with lineKey := x } : State).poolWf = u.poolWf := fun _ _ => rfl
  unfold State.rekey; extract_lets o w u
  rw [k]
  by_cases c : s.keyOf line = w
  · simpa only [u, if_pos c] using h
  · simpa only [u, if_neg c] using poolWf_putBytes o h

theorem poolWf_store (o : Nat) (bs : List Byte) (h : s.poolWf = true) : (s.store o bs).poolWf = true := by
  unfold State.store
  refine poolWf_each (fun u l hu => ?_) (poolWf_putBytes o (poolWf_each (fun u l hu => poolWf_rekey l hu) h))
  split
  · exact hu
  · exact hu

theorem poolWf_wipe (o n : Nat) (h : s.poolWf = true) : (s.wipe o n).poolWf = true := twf_tclear zeroByte h

theorem poolWf_placeWrite (o n g : Nat) (h : s.poolWf = true) : (s.placeWrite o n g).poolWf = true :=
  ((touches_placeWrite (s := s) (m := 2748779069440) (by decide)).2 Touches.rfl).poolWf (by decide) h

theorem poolWf_poolWrite (o : Nat) (bs : List Byte) (h : s.poolWf = true) : (s.poolWrite o bs).poolWf = true := by
  unfold State.poolWrite; split
  · exact h
  · exact poolWf_store o bs (poolWf_each (s := s) (fun u g hu => poolWf_placeWrite o bs.length g hu) h)

/-! ## Reads after writes -/

theorem rawByte_putByte_same (o : Nat) (b : Byte) : (s.putByte o b).rawByte o = b := tget_tput_same zeroByte

theorem rawByte_putByte_other {o p : Nat} (b : Byte) (h : p ≠ o) : (s.putByte o b).rawByte p = s.rawByte p :=
  tget_tput_other zeroByte h

/-- Bytes outside the written ones stay. -/
theorem rawByte_putBytes_other {bs : List Byte} {o p : Nat} (h : p < o ∨ o + bs.length ≤ p) :
    (s.putBytes o bs).rawByte p = s.rawByte p := by
  induction bs generalizing s o with
  | nil => rfl
  | cons b l ih =>
    simp only [List.length_cons] at h
    rw [State.putBytes, ih (by omega), rawByte_putByte_other b (by omega)]

/-- The bytes written read back. -/
theorem rawByte_putBytes_same {bs : List Byte} {o i : Nat} (h : i < bs.length) :
    (s.putBytes o bs).rawByte (o + i) = bs[i] := by
  induction bs generalizing s o i with
  | nil => exact absurd h (Nat.not_lt_zero i)
  | cons b l ih =>
    cases i with
    | zero => rw [State.putBytes, rawByte_putBytes_other (by omega)]; exact rawByte_putByte_same o b
    | succ i =>
      have := ih (s := s.putByte o b) (o := o + 1) (i := i) (by simpa using h)
      simpa [State.putBytes, Nat.add_comm, Nat.add_left_comm, Nat.add_assoc] using this

end Sys2Proof.Machine
end

