-- ==== Sys2Proof/Laws/Spdm.lean ====
section
/-! SUPPORT. What each operation of Machine/Spdm.lean may touch. -/

namespace Sys2Proof.Machine

variable {m : Nat} {s t : State}

@[simp] theorem touches_say (hm : 18446744073709552002 &&& m = 18446744073709552002) : Touches m s (State.say t a1 a2) ↔ Touches m s t :=
  Touches.peel hm (by simp [State.say])

@[simp] theorem touches_asked {act : State → State} (hm : 0 &&& m = 0) (hf : ∀ u, Touches m u (act u)) :
    Touches m s (State.asked? t a1 act) ↔ Touches m s t := by
  have k : ∀ L, L &&& 0 = L → L &&& m = L := fun L h => Touches.sub h hm
  have hf' : ∀ {s u}, Touches m s (act u) ↔ Touches m s u := fun {s u} => Touches.peel (Nat.and_self m) (hf u)
  exact Touches.peel (Nat.and_self m) (by simp [State.asked?, k, hf'])

@[simp] theorem touches_control (hm : 18446744073709552002 &&& m = 18446744073709552002) : Touches m s (State.control t a1 a2 a3 a4) ↔ Touches m s t :=
  Touches.peel hm (by simp [State.control])

@[simp] theorem touches_setEid (hm : 18446744073709552002 &&& m = 18446744073709552002) : Touches m s (State.setEid t a1 a2) ↔ Touches m s t :=
  Touches.peel hm (by simp [State.setEid])

@[simp] theorem touches_getEid (hm : 18446744073709552002 &&& m = 18446744073709552002) : Touches m s (State.getEid t a1) ↔ Touches m s t :=
  Touches.peel hm (by simp [State.getEid])

@[simp] theorem touches_mctpVersion (hm : 18446744073709552002 &&& m = 18446744073709552002) : Touches m s (State.mctpVersion t a1 a2) ↔ Touches m s t :=
  Touches.peel hm (by simp [State.mctpVersion])

@[simp] theorem touches_mctpTypesAnswer (hm : 18446744073709552002 &&& m = 18446744073709552002) : Touches m s (State.mctpTypesAnswer t a1) ↔ Touches m s t :=
  Touches.peel hm (by simp [State.mctpTypesAnswer])

@[simp] theorem touches_unsupported (hm : 18446744073709552002 &&& m = 18446744073709552002) : Touches m s (State.unsupported t a1 a2) ↔ Touches m s t :=
  Touches.peel hm (by simp [State.unsupported])

@[simp] theorem touches_setConn (hm : 18446744073709551616 &&& m = 18446744073709551616) : Touches m s (State.setConn t a1 a2) ↔ Touches m s t :=
  Touches.peel hm (by simp [State.setConn])

@[simp] theorem touches_setChunkOut (hm : 18446744073709551616 &&& m = 18446744073709551616) : Touches m s (State.setChunkOut t a1 a2) ↔ Touches m s t :=
  Touches.peel hm (by simp [State.setChunkOut])

@[simp] theorem touches_setChunkIn (hm : 18446744073709551616 &&& m = 18446744073709551616) : Touches m s (State.setChunkIn t a1 a2) ↔ Touches m s t :=
  Touches.peel hm (by simp [State.setChunkIn])

@[simp] theorem touches_spdmFail (hm : 18446744073709552002 &&& m = 18446744073709552002) : Touches m s (State.spdmFail t a1 a2) ↔ Touches m s t :=
  Touches.peel hm (by simp [State.spdmFail])

@[simp] theorem touches_spdmSay (hm : 18446744073709552002 &&& m = 18446744073709552002) : Touches m s (State.spdmSay t a1 a2 a3) ↔ Touches m s t :=
  Touches.peel hm (by simp [State.spdmSay])

@[simp] theorem touches_spdmRequest {act : State → State} (hm : 18446744073709552002 &&& m = 18446744073709552002) (hf : ∀ u, Touches m u (act u)) :
    Touches m s (State.spdmRequest t a1 a2 a3 a4 a5 act) ↔ Touches m s t := by
  have k : ∀ L, L &&& 18446744073709552002 = L → L &&& m = L := fun L h => Touches.sub h hm
  have hf' : ∀ {s u}, Touches m s (act u) ↔ Touches m s u := fun {s u} => Touches.peel (Nat.and_self m) (hf u)
  exact Touches.peel (Nat.and_self m) (by 
    unfold State.spdmRequest
    refine (touches_asked (k _ (by decide)) fun u => ?_).2 Touches.rfl
    split <;> simp [k, hf'])

@[simp] theorem touches_spdmVersion (hm : 18446744073709552002 &&& m = 18446744073709552002) : Touches m s (State.spdmVersion t a1 a2) ↔ Touches m s t :=
  Touches.peel hm (by simp [State.spdmVersion])

@[simp] theorem touches_spdmCapabilities (hm : 18446744073709552002 &&& m = 18446744073709552002) : Touches m s (State.spdmCapabilities t a1 a2) ↔ Touches m s t :=
  Touches.peel hm (by simp [State.spdmCapabilities])

@[simp] theorem touches_spdmAlgorithms (hm : 18446744073709552002 &&& m = 18446744073709552002) : Touches m s (State.spdmAlgorithms t a1 a2 a3) ↔ Touches m s t :=
  Touches.peel hm (by simp [State.spdmAlgorithms])

@[simp] theorem touches_spdmSlot (hm : 18446744073709552002 &&& m = 18446744073709552002) : Touches m s (State.spdmSlot t a1 a2 a3 a4) ↔ Touches m s t :=
  Touches.peel hm (by simp [State.spdmSlot])

@[simp] theorem touches_challenge (hm : 18446744073709552002 &&& m = 18446744073709552002) : Touches m s (State.challenge t a1 a2 a3) ↔ Touches m s t :=
  Touches.peel hm (by simp [State.challenge])

@[simp] theorem touches_setSpdm (hm : 18446744073709551616 &&& m = 18446744073709551616) : Touches m s (State.setSpdm t a1 a2) ↔ Touches m s t :=
  Touches.peel hm (by simp [State.setSpdm])

@[simp] theorem touches_dropSpdm (hm : 18446744073709551616 &&& m = 18446744073709551616) : Touches m s (State.dropSpdm t a1) ↔ Touches m s t :=
  Touches.peel hm (by simp [State.dropSpdm])

@[simp] theorem touches_inSession {act : State → Spdm → State} (hm : 18446744073709552002 &&& m = 18446744073709552002) (hf : ∀ u x1, Touches m u (act u x1)) :
    Touches m s (State.inSession t a1 act) ↔ Touches m s t := by
  have k : ∀ L, L &&& 18446744073709552002 = L → L &&& m = L := fun L h => Touches.sub h hm
  have hf' : ∀ {s u} x1, Touches m s (act u x1) ↔ Touches m s u := fun {s u} x1 => Touches.peel (Nat.and_self m) (hf u x1)
  exact Touches.peel (Nat.and_self m) (by 
    unfold State.inSession; split
    · simp
    · refine (touches_asked (k _ (by decide)) fun u => ?_).2 Touches.rfl
      split <;> simp [k, hf'])

@[simp] theorem touches_keyExchange (hm : 18446744073709552002 &&& m = 18446744073709552002) : Touches m s (State.keyExchange t a1 a2) ↔ Touches m s t :=
  Touches.peel hm (by 
    unfold State.keyExchange
    refine (touches_asked (by decide) fun u => ?_).2 Touches.rfl
    (repeat' split) <;> simp)

@[simp] theorem touches_finishSession (hm : 18446744073709552002 &&& m = 18446744073709552002) : Touches m s (State.finishSession t a1 a2 a3 a4) ↔ Touches m s t :=
  Touches.peel hm (by unfold State.finishSession; (repeat' split) <;> simp)

@[simp] theorem touches_sessionSay (hm : 18446744073709552002 &&& m = 18446744073709552002) : Touches m s (State.sessionSay t a1 a2 a3 a4) ↔ Touches m s t :=
  Touches.peel hm (by simp [State.sessionSay])

@[simp] theorem touches_getMeasurements (hm : 18446744073709552002 &&& m = 18446744073709552002) : Touches m s (State.getMeasurements t a1 a2 a3 a4 a5) ↔ Touches m s t :=
  Touches.peel hm (by 
    unfold State.getMeasurements; dsimp only; split
    · refine (touches_inSession (by decide) fun u x => ?_).2 Touches.rfl
      (repeat' split) <;> simp
    · refine (touches_asked (by decide) fun u => ?_).2 Touches.rfl
      split
      · simp
      · (repeat' split) <;> simp)

@[simp] theorem touches_chunkIn (hm : 18446744073709552002 &&& m = 18446744073709552002) : Touches m s (State.chunkIn t a1 a2 a3 a4 a5) ↔ Touches m s t :=
  Touches.peel hm (by simp [State.chunkIn])

@[simp] theorem touches_chunkGet (hm : 18446744073709552002 &&& m = 18446744073709552002) : Touches m s (State.chunkGet t a1 a2 a3) ↔ Touches m s t :=
  Touches.peel hm (by simp [State.chunkGet])

@[simp] theorem touches_putKey (hm : 18446744073709551744 &&& m = 18446744073709551744) : Touches m s (State.putKey t a1 a2 a3) ↔ Touches m s t :=
  Touches.peel hm (by simp [State.putKey])

@[simp] theorem touches_keyInstall (hm : 18446744073709552002 &&& m = 18446744073709552002) : Touches m s (State.keyInstall t a1 a2) ↔ Touches m s t :=
  Touches.peel hm (by simp [State.keyInstall])

@[simp] theorem touches_eraseKey (hm : 18451247673336922240 &&& m = 18451247673336922240) : Touches m s (State.eraseKey t a1 a2) ↔ Touches m s t :=
  Touches.peel hm (by simp [State.eraseKey])

@[simp] theorem touches_keyDestroy (hm : 18451247673336922498 &&& m = 18451247673336922498) : Touches m s (State.keyDestroy t a1 a2) ↔ Touches m s t :=
  Touches.peel hm (by simp [State.keyDestroy])

@[simp] theorem touches_pldm (hm : 18446744073709552002 &&& m = 18446744073709552002) : Touches m s (State.pldm t a1 a2 a3) ↔ Touches m s t :=
  Touches.peel hm (by simp [State.pldm])

theorem touches_execGetVersion : TouchesO 18446744073709552002 t (execGetVersion a1 a2 t) := by
  simp [execGetVersion]

theorem touches_execGetCapabilities : TouchesO 18446744073709552002 t (execGetCapabilities a1 a2 t) := by
  simp [execGetCapabilities]

theorem touches_execNegotiateAlgorithms : TouchesO 18446744073709552002 t (execNegotiateAlgorithms a1 a2 a3 t) := by
  simp [execNegotiateAlgorithms]

theorem touches_execGetDigests : TouchesO 18446744073709552002 t (execGetDigests a1 a2 t) := by
  simp [execGetDigests]

theorem touches_execGetCertificate : TouchesO 18446744073709552002 t (execGetCertificate a1 a2 a3 t) := by
  simp [execGetCertificate]

theorem touches_execChallenge : TouchesO 18446744073709552002 t (execChallenge a1 a2 a3 t) := by
  simp [execChallenge]

theorem touches_execGetMeasurements : TouchesO 18446744073709552002 t (execGetMeasurements a1 a2 a3 a4 a5 t) := by
  simp [execGetMeasurements]

theorem touches_execKeyExchange : TouchesO 18446744073709552002 t (execKeyExchange a1 a2 t) := by
  simp [execKeyExchange]

theorem touches_execFinish : TouchesO 18446744073709552002 t (execFinish a1 a2 a3 a4 t) := by
  simp [execFinish]

theorem touches_execHeartbeat : TouchesO 18446744073709552002 t (execHeartbeat a1 t) := by
  simp [execHeartbeat]

theorem touches_execKeyUpdate : TouchesO 18446744073709552002 t (execKeyUpdate a1 a2 t) := by
  simp [execKeyUpdate]

theorem touches_execEndSession : TouchesO 18446744073709552002 t (execEndSession a1 t) := by
  simp [execEndSession]

theorem touches_execChunkSend : TouchesO 18446744073709552002 t (execChunkSend a1 a2 a3 a4 a5 t) := by
  simp [execChunkSend]

theorem touches_execChunkGet : TouchesO 18446744073709552002 t (execChunkGet a1 a2 a3 t) := by
  simp [execChunkGet]

theorem touches_execKeyInstall : TouchesO 18446744073709552002 t (execKeyInstall a1 a2 t) := by
  simp [execKeyInstall]

theorem touches_execKeyDestroy : TouchesO 18451247673336922498 t (execKeyDestroy a1 a2 t) := by
  simp [execKeyDestroy]

theorem touches_execSetEndpointId : TouchesO 18446744073709552002 t (execSetEndpointId a1 a2 t) := by
  simp [execSetEndpointId]

theorem touches_execGetEndpointId : TouchesO 18446744073709552002 t (execGetEndpointId a1 t) := by
  simp [execGetEndpointId]

theorem touches_execGetMctpVersionSupport : TouchesO 18446744073709552002 t (execGetMctpVersionSupport a1 a2 t) := by
  simp [execGetMctpVersionSupport]

theorem touches_execGetMessageTypeSupport : TouchesO 18446744073709552002 t (execGetMessageTypeSupport a1 t) := by
  simp [execGetMessageTypeSupport]

theorem touches_execUnsupportedMctpCommand : TouchesO 18446744073709552002 t (execUnsupportedMctpCommand a1 a2 t) := by
  simp [execUnsupportedMctpCommand]

theorem touches_execPldmRequest : TouchesO 18446744073709552002 t (execPldmRequest a1 a2 a3 t) := by
  simp [execPldmRequest]

end Sys2Proof.Machine
end

