-- ==== Sys2Proof/Laws/Power.lean ====
section
/-! SUPPORT. What each operation of Machine/Power.lean may touch. -/

namespace Sys2Proof.Machine

variable {m : Nat} {s t : State}

@[simp] theorem touches_updPwr (hm : 147573952589676412928 &&& m = 147573952589676412928) : Touches m s (State.updPwr t a1) ↔ Touches m s t :=
  Touches.peel hm (by simp [State.updPwr])

@[simp] theorem touches_pwrResult (hm : 147573952589676412928 &&& m = 147573952589676412928) : Touches m s (State.pwrResult t a1) ↔ Touches m s t :=
  Touches.peel hm (by simp [State.pwrResult])

@[simp] theorem touches_pwrForeign (hm : 221360933007683223938 &&& m = 221360933007683223938) : Touches m s (State.pwrForeign t a1) ↔ Touches m s t :=
  Touches.peel hm (by simp [State.pwrForeign])

@[simp] theorem touches_pwrCommand {act : State → State} (hm : 221360933007683223938 &&& m = 221360933007683223938) (hf : ∀ u, Touches m u (act u)) :
    Touches m s (State.pwrCommand t a1 a2 act) ↔ Touches m s t := by
  have k : ∀ L, L &&& 221360933007683223938 = L → L &&& m = L := fun L h => Touches.sub h hm
  have hf' : ∀ {s u}, Touches m s (act u) ↔ Touches m s u := fun {s u} => Touches.peel (Nat.and_self m) (hf u)
  exact Touches.peel (Nat.and_self m) (by 
    unfold State.pwrCommand; dsimp only
    refine Touches.ite (fun _ => by simp [k]) fun _ => Touches.ite (fun _ => by simp [k]) fun _ => ?_
    refine (touches_setupWrite (k _ (by decide)) fun u => ?_).2 Touches.rfl
    split <;> simp [k, hf'])

@[simp] theorem touches_dark (hm : 147573987774048501762 &&& m = 147573987774048501762) : Touches m s (State.dark t) ↔ Touches m s t :=
  Touches.peel hm (by simp [State.dark])

@[simp] theorem touches_darkEntered (hm : 147582959788931154304 &&& m = 147582959788931154304) : Touches m s (State.darkEntered t) ↔ Touches m s t :=
  Touches.peel hm (by simp [State.darkEntered])

@[simp] theorem touches_l1Exit (hm : 147573952589676413184 &&& m = 147573952589676413184) : Touches m s (State.l1Exit t a1) ↔ Touches m s t :=
  Touches.peel hm (by simp [State.l1Exit])

@[simp] theorem touches_throttleCheck (hm : 221360933007683228034 &&& m = 221360933007683228034) : Touches m s (State.throttleCheck t) ↔ Touches m s t :=
  Touches.peel hm (by unfold State.throttleCheck; (repeat' (first | split | dsimp only)) <;> simp)

@[simp] theorem touches_throttleEnds (hm : 147573952589676412928 &&& m = 147573952589676412928) : Touches m s (State.throttleEnds t) ↔ Touches m s t :=
  Touches.peel hm (by simp [State.throttleEnds])

@[simp] theorem touches_margin (hm : 221360933007683228034 &&& m = 221360933007683228034) : Touches m s (State.margin t a1) ↔ Touches m s t :=
  Touches.peel hm (by simp [State.margin])

@[simp] theorem touches_storeSample (hm : 128 &&& m = 128) : Touches m s (State.storeSample t a1) ↔ Touches m s t :=
  Touches.peel hm (by simp [State.storeSample])

@[simp] theorem touches_warn (hm : 147573952589676412928 &&& m = 147573952589676412928) : Touches m s (State.warn t a1) ↔ Touches m s t :=
  Touches.peel hm (by simp [State.warn])

@[simp] theorem touches_warnings (hm : 221360933007683223938 &&& m = 221360933007683223938) : Touches m s (State.warnings t a1) ↔ Touches m s t :=
  Touches.peel hm (by simp [State.warnings])

@[simp] theorem touches_triggers (hm : 147573952589676412928 &&& m = 147573952589676412928) : Touches m s (State.triggers t a1 a2) ↔ Touches m s t :=
  Touches.peel hm (by simp [State.triggers])

@[simp] theorem touches_criticals (hm : 2006694504333654299526 &&& m = 2006694504333654299526) : Touches m s (State.criticals t a1) ↔ Touches m s t :=
  Touches.peel hm (by simp [State.criticals])

@[simp] theorem touches_sample (hm : 75557863725914323419135 &&& m = 75557863725914323419135) : Touches m s (State.sample t a1) ↔ Touches m s t :=
  Touches.peel hm (by simp [State.sample])

@[simp] theorem touches_fabLost (hm : 63389928798488201524102 &&& m = 63389928798488201524102) : Touches m s (State.fabLost t) ↔ Touches m s t :=
  Touches.peel hm (by simp [State.fabLost])

@[simp] theorem touches_tapSelect (hm : 147573952589676412928 &&& m = 147573952589676412928) : Touches m s (State.tapSelect t a1) ↔ Touches m s t :=
  Touches.peel hm (by simp [State.tapSelect])

@[simp] theorem touches_tapId (hm : 147573952589676412930 &&& m = 147573952589676412930) : Touches m s (State.tapId t) ↔ Touches m s t :=
  Touches.peel hm (by simp [State.tapId])

@[simp] theorem touches_extest (hm : 147573952589676412928 &&& m = 147573952589676412928) : Touches m s (State.extest t a1) ↔ Touches m s t :=
  Touches.peel hm (by simp [State.extest])

theorem touches_execDark : TouchesO 221360968192055312770 t (execDark a1 t) := by
  simp [execDark]

theorem touches_execDarkEntryComplete : TouchesO 147582959788931154304 t (execDarkEntryComplete t) := by
  simp [execDarkEntryComplete]

theorem touches_execPwrWake : TouchesO 221360933007683223938 t (execPwrWake a1 t) := by
  simp [execPwrWake]

theorem touches_execCold : TouchesO 75557863725914323419135 t (execCold a1 t) := by
  simp [execCold]

theorem touches_execVinMargin : TouchesO 221360933007683228034 t (execVinMargin a1 t) := by
  simp [execVinMargin]

theorem touches_execSensorSample : TouchesO 75557863725914323419135 t (execSensorSample a1 t) := by
  simp [execSensorSample]

theorem touches_execThrottleClearExpiry : TouchesO 147573952589676412928 t (execThrottleClearExpiry t) := by
  simp [execThrottleClearExpiry]

theorem touches_execRefclkFabLost : TouchesO 63389928798488201524102 t (execRefclkFabLost t) := by
  simp [execRefclkFabLost]

theorem touches_execTapBypass : TouchesO 147573952589676412928 t (execTapBypass t) := by
  simp [execTapBypass]

theorem touches_execTapIdcode : TouchesO 147573952589676412930 t (execTapIdcode t) := by
  simp [execTapIdcode]

theorem touches_execTapSamplePreload : TouchesO 147573952589676412928 t (execTapSamplePreload t) := by
  simp [execTapSamplePreload]

theorem touches_execTapExtest : TouchesO 147573952589676412928 t (execTapExtest a1 t) := by
  simp [execTapExtest]

theorem touches_execTrstAssert : TouchesO 147573952589676412928 t (execTrstAssert t) := by
  simp [execTrstAssert]

theorem touches_execHostL1Exit : TouchesO 147573952589676413184 t (execHostL1Exit a1 t) := by
  simp [execHostL1Exit]

end Sys2Proof.Machine
end

