-- ==== Sys2Proof/Laws/Scalar.lean ====
section
/-! SUPPORT. What each operation of Machine/Scalar.lean may touch. -/

namespace Sys2Proof.Machine

variable {m : Nat} {s t : State}

@[simp] theorem touches_aluReg (hm : 73786980420154298754 &&& m = 73786980420154298754) : Touches m s (State.aluReg t a1 a2 a3) ↔ Touches m s t :=
  Touches.peel hm (by simp [State.aluReg])

@[simp] theorem touches_aluImm (hm : 73786980420154298754 &&& m = 73786980420154298754) : Touches m s (State.aluImm t a1 a2 a3) ↔ Touches m s t :=
  Touches.peel hm (by simp [State.aluImm])

@[simp] theorem touches_branch (hm : 73786980420154298754 &&& m = 73786980420154298754) : Touches m s (State.branch t a1 a2 a3) ↔ Touches m s t :=
  Touches.peel hm (by simp [State.branch])

@[simp] theorem touches_jump (hm : 73786980420154298754 &&& m = 73786980420154298754) : Touches m s (State.jump t a1 a2) ↔ Touches m s t :=
  Touches.peel hm (by simp [State.jump])

theorem touches_execNop : TouchesO 73786980420154298754 t (execNop a1 a2 t) := by
  simp [execNop]

theorem touches_execAdd : TouchesO 73786980420154298754 t (execAdd a1 a2 t) := by
  simp [execAdd]

theorem touches_execSub : TouchesO 73786980420154298754 t (execSub a1 a2 t) := by
  simp [execSub]

theorem touches_execAnd : TouchesO 73786980420154298754 t (execAnd a1 a2 t) := by
  simp [execAnd]

theorem touches_execOr : TouchesO 73786980420154298754 t (execOr a1 a2 t) := by
  simp [execOr]

theorem touches_execXor : TouchesO 73786980420154298754 t (execXor a1 a2 t) := by
  simp [execXor]

theorem touches_execShl : TouchesO 73786980420154298754 t (execShl a1 a2 t) := by
  simp [execShl]

theorem touches_execShr : TouchesO 73786980420154298754 t (execShr a1 a2 t) := by
  simp [execShr]

theorem touches_execSra : TouchesO 73786980420154298754 t (execSra a1 a2 t) := by
  simp [execSra]

theorem touches_execMul : TouchesO 73786980420154298754 t (execMul a1 a2 t) := by
  simp [execMul]

theorem touches_execMulh : TouchesO 73786980420154298754 t (execMulh a1 a2 t) := by
  simp [execMulh]

theorem touches_execMin : TouchesO 73786980420154298754 t (execMin a1 a2 t) := by
  simp [execMin]

theorem touches_execMax : TouchesO 73786980420154298754 t (execMax a1 a2 t) := by
  simp [execMax]

theorem touches_execSlt : TouchesO 73786980420154298754 t (execSlt a1 a2 t) := by
  simp [execSlt]

theorem touches_execSltu : TouchesO 73786980420154298754 t (execSltu a1 a2 t) := by
  simp [execSltu]

theorem touches_execLi : TouchesO 73786980420154298754 t (execLi a1 a2 t) := by
  simp [execLi]

theorem touches_execLih : TouchesO 73786980420154298754 t (execLih a1 a2 t) := by
  simp [execLih]

theorem touches_execAddImm : TouchesO 73786980420154298754 t (execAddImm a1 a2 t) := by
  simp [execAddImm]

theorem touches_execSubImm : TouchesO 73786980420154298754 t (execSubImm a1 a2 t) := by
  simp [execSubImm]

theorem touches_execAndImm : TouchesO 73786980420154298754 t (execAndImm a1 a2 t) := by
  simp [execAndImm]

theorem touches_execOrImm : TouchesO 73786980420154298754 t (execOrImm a1 a2 t) := by
  simp [execOrImm]

theorem touches_execXorImm : TouchesO 73786980420154298754 t (execXorImm a1 a2 t) := by
  simp [execXorImm]

theorem touches_execShlImm : TouchesO 73786980420154298754 t (execShlImm a1 a2 t) := by
  simp [execShlImm]

theorem touches_execShrImm : TouchesO 73786980420154298754 t (execShrImm a1 a2 t) := by
  simp [execShrImm]

theorem touches_execSraImm : TouchesO 73786980420154298754 t (execSraImm a1 a2 t) := by
  simp [execSraImm]

theorem touches_execMulImm : TouchesO 73786980420154298754 t (execMulImm a1 a2 t) := by
  simp [execMulImm]

theorem touches_execMulhImm : TouchesO 73786980420154298754 t (execMulhImm a1 a2 t) := by
  simp [execMulhImm]

theorem touches_execMinImm : TouchesO 73786980420154298754 t (execMinImm a1 a2 t) := by
  simp [execMinImm]

theorem touches_execMaxImm : TouchesO 73786980420154298754 t (execMaxImm a1 a2 t) := by
  simp [execMaxImm]

theorem touches_execSltImm : TouchesO 73786980420154298754 t (execSltImm a1 a2 t) := by
  simp [execSltImm]

theorem touches_execSltuImm : TouchesO 73786980420154298754 t (execSltuImm a1 a2 t) := by
  simp [execSltuImm]

theorem touches_execBeq : TouchesO 73786980420154298754 t (execBeq a1 a2 t) := by
  simp [execBeq]

theorem touches_execBne : TouchesO 73786980420154298754 t (execBne a1 a2 t) := by
  simp [execBne]

theorem touches_execBlt : TouchesO 73786980420154298754 t (execBlt a1 a2 t) := by
  simp [execBlt]

theorem touches_execBge : TouchesO 73786980420154298754 t (execBge a1 a2 t) := by
  simp [execBge]

theorem touches_execJmp : TouchesO 73786980420154298754 t (execJmp a1 a2 t) := by
  simp [execJmp]

theorem touches_execHalt : TouchesO 2147483648 t (execHalt a1 a2 t) := by
  simp [execHalt]

end Sys2Proof.Machine
end

