-- ==== Sys2Proof/Laws/Setup.lean ====
section
/-! SUPPORT. What each operation of Machine/Setup.lean may touch. -/

namespace Sys2Proof.Machine

variable {m : Nat} {s t : State}

theorem touches_after {o : Host.Outcome State Fault Refusal} (h : TouchesO m t o) : Touches m t (t.after o) := by
  unfold State.after; split
  · exact h _ (Eq.refl _)
  · exact Touches.rfl

@[simp] theorem touches_holdTable (hm : 37383395377154 &&& m = 37383395377154) : Touches m s (State.holdTable t a1) ↔ Touches m s t :=
  Touches.peel hm (by simp [State.holdTable])

@[simp] theorem touches_dropTable (hm : 2199023288320 &&& m = 2199023288320) : Touches m s (State.dropTable t a1) ↔ Touches m s t :=
  Touches.peel hm (by
    unfold State.dropTable
    refine (Touches.each fun u g => ?_).mpr Touches.rfl
    dsimp only
    split <;> simp)

@[simp] theorem touches_regStored (hm : 37383395377154 &&& m = 37383395377154) : Touches m s (State.regStored t a1 a2 a3) ↔ Touches m s t :=
  Touches.peel hm (by simp [State.regStored])

@[simp] theorem touches_regStore (hm : 73787015602378932674 &&& m = 73787015602378932674) : Touches m s (State.regStore t a1 a2 a3 a4 a5) ↔ Touches m s t :=
  Touches.peel hm (by unfold State.regStore; simp)

theorem touches_wideAction {u : State} (h : State.wideAction t a1 a2 a3 = some u) (hm : 73786980418006815106 &&& m = 73786980418006815106) : Touches m s u ↔ Touches m s t := by
  refine Touches.peel hm ?_
  unfold State.wideAction at h; (repeat' split at h) <;> cases h <;> simp

@[simp] theorem touches_regGate {act : State → State} (hm : 221360933007683223938 &&& m = 221360933007683223938) (hf : ∀ u, Touches m u (act u)) :
    Touches m s (State.regGate t a1 a2 a3 a4 a5 a6 act) ↔ Touches m s t := by
  have k : ∀ L, L &&& 221360933007683223938 = L → L &&& m = L := fun L h => Touches.sub h hm
  have hf' : ∀ {s u}, Touches m s (act u) ↔ Touches m s u := fun {s u} => Touches.peel (Nat.and_self m) (hf u)
  exact Touches.peel (Nat.and_self m) (by simp [State.regGate, k, hf'])

@[simp] theorem touches_writeWide (hm : 221360968192055349698 &&& m = 221360968192055349698) : Touches m s (State.writeWide t a1 a2 a3 a4) ↔ Touches m s t :=
  Touches.peel hm (by 
    unfold State.writeWide
    refine (touches_regGate (by decide) fun u => ?_).2 Touches.rfl
    split
    · exact (touches_wideAction (by assumption) (by decide)).2 Touches.rfl
    · simp)

@[simp] theorem touches_writeHalf (hm : 221360968192055349698 &&& m = 221360968192055349698) : Touches m s (State.writeHalf t a1 a2 a3 a4 a5) ↔ Touches m s t :=
  Touches.peel hm (by 
    unfold State.writeHalf; dsimp only
    refine (touches_regGate (by decide) fun u => ?_).2 Touches.rfl
    split
    · simp
    · split
      · exact (touches_wideAction (by assumption) (by decide)).2 Touches.rfl
      · simp)

@[simp] theorem touches_reservedOp (hm : 221360933007683223938 &&& m = 221360933007683223938) : Touches m s (State.reservedOp t a1 a2 a3 a4 a5) ↔ Touches m s t :=
  Touches.peel hm (by simp [State.reservedOp])

@[simp] theorem touches_kprForeign (hm : 239807677081392775554 &&& m = 239807677081392775554) : Touches m s (State.kprForeign t a1 a2) ↔ Touches m s t :=
  Touches.peel hm (by simp [State.kprForeign])

@[simp] theorem touches_kprWrite (hm : 63454493669396464006022 &&& m = 63454493669396464006022) : Touches m s (State.kprWrite t a1 a2) ↔ Touches m s t :=
  Touches.peel hm (by 
    unfold State.kprWrite
    refine touches_after ?_
    have j : ∀ {o} {a : Nat}, a &&& 63454493669396464006022 = a → TouchesO a t o → TouchesO 63454493669396464006022 t o := fun hm h u e => (h u e).mono hm
    have f : TouchesO 63454493669396464006022 t (.next (State.kprForeign t a1 a2)) := by simp
    split
    · split
      · exact j (by decide) touches_execSeal
      · exact f
    · exact j (by decide) touches_execAnchor
    · exact j (by decide) touches_execSwitch
    · exact j (by decide) touches_execFwStage
    · split
      · exact j (by decide) touches_execCommitSvn
      · exact f
    · simp)

@[simp] theorem touches_pwrWrite (hm : 75557863725914323419135 &&& m = 75557863725914323419135) : Touches m s (State.pwrWrite t a1 a2) ↔ Touches m s t :=
  Touches.peel hm (by 
    have k : ∀ {o} {a : Nat}, a &&& 75557863725914323419135 = a → TouchesO a t o → Touches 75557863725914323419135 t (t.after o) := fun hm h => (touches_after h).mono hm
    unfold State.pwrWrite; split
    · exact k (by decide) touches_execDark
    · exact k (by decide) touches_execPwrWake
    · exact k (by decide) touches_execCold
    · simp)

@[simp] theorem touches_rasWrite (hm : 63397458816823416845190 &&& m = 63397458816823416845190) : Touches m s (State.rasWrite t a1 a2) ↔ Touches m s t :=
  Touches.peel hm (by 
    have k : ∀ {o} {a : Nat}, a &&& 63397458816823416845190 = a → TouchesO a t o → Touches 63397458816823416845190 t (t.after o) := fun hm h => (touches_after h).mono hm
    unfold State.rasWrite; split
    · exact k (by decide) touches_execJobReset
    · exact k (by decide) touches_execFog
    · simp)

@[simp] theorem touches_ringWrite (hm : 812261105325758744454 &&& m = 812261105325758744454) : Touches m s (State.ringWrite t a1 a2) ↔ Touches m s t :=
  Touches.peel hm (by 
    have k : ∀ {o} {a : Nat}, a &&& 812261105325758744454 = a → TouchesO a t o → Touches 812261105325758744454 t (t.after o) := fun hm h => (touches_after h).mono hm
    unfold State.ringWrite; dsimp only; split
    · exact k (by decide) touches_execRingCreate
    · exact k (by decide) touches_execRingDestroy
    · exact k (by decide) touches_execRingStop
    · exact k (by decide) touches_execRingResume
    · exact k (by decide) touches_execRingRead
    · simp)

@[simp] theorem touches_tableWrite (hm : 221360968193380745602 &&& m = 221360968193380745602) : Touches m s (State.tableWrite t a1 a2) ↔ Touches m s t :=
  Touches.peel hm (by 
    have k : ∀ {o} {a : Nat}, a &&& 221360968193380745602 = a → TouchesO a t o → Touches 221360968193380745602 t (t.after o) := fun hm h => (touches_after h).mono hm
    unfold State.tableWrite; dsimp only; split
    · exact k (by decide) touches_execDefine
    · exact k (by decide) touches_execRetire
    · exact k (by decide) touches_execTableRead
    · simp)

@[simp] theorem touches_portWrite (hm : 63389928798488201524102 &&& m = 63389928798488201524102) : Touches m s (State.portWrite t a1 a2) ↔ Touches m s t :=
  Touches.peel hm (by 
    have k : ∀ {o} {a : Nat}, a &&& 63389928798488201524102 = a → TouchesO a t o → Touches 63389928798488201524102 t (t.after o) := fun hm h => (touches_after h).mono hm
    unfold State.portWrite; dsimp only; split
    · exact k (by decide) touches_execPortReset
    · exact k (by decide) touches_execPortRetrain
    · simp)

@[simp] theorem touches_bookCmdWrite (hm : 221360933007683228034 &&& m = 221360933007683228034) : Touches m s (State.bookCmdWrite t a1 a2) ↔ Touches m s t :=
  Touches.peel hm (by 
    have k : ∀ {o} {a : Nat}, a &&& 221360933007683228034 = a → TouchesO a t o → Touches 221360933007683228034 t (t.after o) := fun hm h => (touches_after h).mono hm
    unfold State.bookCmdWrite; dsimp only; split
    · exact k (by decide) touches_execBookLoad
    · exact k (by decide) touches_execBookUnload
    · simp)

@[simp] theorem touches_tierWrite (hm : 221360976988148334978 &&& m = 221360976988148334978) : Touches m s (State.tierWrite t a1 a2) ↔ Touches m s t :=
  Touches.peel hm (by 
    have k : ∀ {o} {a : Nat}, a &&& 221360976988148334978 = a → TouchesO a t o → Touches 221360976988148334978 t (t.after o) := fun hm h => (touches_after h).mono hm
    unfold State.tierWrite; split
    · exact k (by decide) touches_execTierEnable
    · simp)

theorem touches_commandWrite {u : State} (h : State.commandWrite t a1 a2 a3 a4 = some u) (hm : 75557863725914323419135 &&& m = 75557863725914323419135) : Touches m s u ↔ Touches m s t := by
  refine Touches.peel hm ?_
  unfold State.commandWrite at h
  have k : ∀ {o} {a : Nat}, a &&& 75557863725914323419135 = a → TouchesO a t o → Touches 75557863725914323419135 t (t.after o) := fun hm h => (touches_after h).mono hm
  by_cases c : a2.off = R.kprCmd
  · rw [if_pos c] at h; cases h
    simp
  rw [if_neg c] at h; clear c
  by_cases c : a2.off = R.kprMbxTxLen
  · rw [if_pos c] at h; cases h
    exact k (by decide) touches_execMailboxSend
  rw [if_neg c] at h; clear c
  by_cases c : a2.off = R.kprMbxRxAck
  · rw [if_pos c] at h; cases h
    exact k (by decide) touches_execMailboxRxAck
  rw [if_neg c] at h; clear c
  by_cases c : a2.off = R.pwrCmd
  · rw [if_pos c] at h; cases h
    simp
  rw [if_neg c] at h; clear c
  by_cases c : a2.off = R.rasCmd
  · rw [if_pos c] at h; cases h
    simp
  rw [if_neg c] at h; clear c
  by_cases c : a2.off = R.rasAck
  · rw [if_pos c] at h; cases h
    exact k (by decide) touches_execRasAck
  rw [if_neg c] at h; clear c
  by_cases c : a2.off = R.rasInject
  · rw [if_pos c] at h; cases h
    exact k (by decide) touches_execRasInject
  rw [if_neg c] at h; clear c
  by_cases c : a2.off = R.hstRctxCmd
  · rw [if_pos c] at h; cases h
    simp
  rw [if_neg c] at h; clear c
  by_cases c : a2.off = R.embTctxCmd
  · rw [if_pos c] at h; cases h
    simp
  rw [if_neg c] at h; clear c
  by_cases c : a2.off = R.rotCtrl
  · rw [if_pos c] at h; cases h
    split
    · exact k (by decide) touches_execRotRunSet
    · exact k (by decide) touches_execRotRunClear
  rw [if_neg c] at h; clear c
  by_cases c : a2.off = R.rotBookCmd
  · rw [if_pos c] at h; cases h
    simp
  rw [if_neg c] at h; clear c
  by_cases c : a2.off = R.attAbftInject
  · rw [if_pos c] at h; cases h
    exact k (by decide) touches_execAttAbftInject
  rw [if_neg c] at h; clear c
  by_cases c : a2.off = R.tierCtrl
  · rw [if_pos c] at h; cases h
    simp
  rw [if_neg c] at h; clear c
  by_cases c : a2.off = R.smfPortCmd
  · rw [if_pos c] at h; cases h
    simp
  rw [if_neg c] at h; clear c
  by_cases c : a2.off = R.glsRegionCtrl 0
  · rw [if_pos c] at h; cases h
    split
    · exact k (by decide) touches_execRegionValidSet
    · exact k (by decide) touches_execRegionValidClear
  rw [if_neg c] at h; clear c
  cases h

@[simp] theorem touches_write32 (hm : 75557863725914323419135 &&& m = 75557863725914323419135) : Touches m s (State.write32 t a1 a2 a3) ↔ Touches m s t :=
  Touches.peel hm (by 
    unfold State.write32; split
    · simp
    · split
      · simp
      · split
        · exact (touches_commandWrite (by assumption) (by decide)).2 Touches.rfl
        · refine (touches_regGate (by decide) fun u => ?_).2 Touches.rfl
          simp)

@[simp] theorem touches_write32Door (hm : 812261070141386654598 &&& m = 812261070141386654598) : Touches m s (State.write32Door t a1 a2 a3) ↔ Touches m s t :=
  Touches.peel hm (by 
    have k : ∀ {o} {a : Nat}, a &&& 812261070141386654598 = a → TouchesO a t o → Touches 812261070141386654598 t (t.after o) := fun hm h => (touches_after h).mono hm
    unfold State.write32Door; dsimp only; split
    · simp
    · split
      · exact k (by decide) touches_execDbSqTail
      · split
        · exact k (by decide) touches_execDbCqHead
        · simp)

@[simp] theorem touches_write32Msix (hm : 258 &&& m = 258) : Touches m s (State.write32Msix t a1 a2 a3) ↔ Touches m s t :=
  Touches.peel hm (by simp [State.write32Msix])

@[simp] theorem touches_barWrite32 (hm : 75557863725914323419135 &&& m = 75557863725914323419135) : Touches m s (State.barWrite32 t a1 a2 a3) ↔ Touches m s t :=
  Touches.peel hm (by simp [State.barWrite32])

@[simp] theorem touches_barWrite (hm : 75557863725914323419135 &&& m = 75557863725914323419135) : Touches m s (State.barWrite t a1 a2 a3 a4) ↔ Touches m s t :=
  Touches.peel hm (by unfold State.barWrite; (repeat' split) <;> simp)

theorem touches_execSetupRegisterWrite : TouchesO 75557863725914323419135 t (execSetupRegisterWrite a1 a2 a3 a4 t) := by
  simp [execSetupRegisterWrite]

end Sys2Proof.Machine
end

