-- ==== Sys2Proof/Laws/Shared.lean ====
section
/-! SUPPORT. The gates commands go through, opened: what each comes to when nothing holds the command back. -/

namespace Sys2Proof.Machine

variable {s : State}

theorem whenAwake_on {cause : Nat} {c : Held} {act : State → State} (h : s.pwr.state = .on) :
    s.whenAwake cause c act = act s := by
  simp [State.whenAwake, State.asleep, h]

theorem whenServed_on {c : Held} {act : State → State} (h : s.pwr.state = .on) (hf : s.ras.fog = false) :
    s.whenServed c act = act s := by
  simp [State.whenServed, whenAwake_on h, hf]

/-- A set-up write through an open port meets its register's own rule (R384). -/
theorem setupWrite_open {port off : Nat} {owner : Option Nat} {f : Bool} {c : Held} {act : State → State} (h : s.openTo port)
    (ho : ∀ t, owner = some t → s.controls port t = true) : s.setupWrite port off owner f c act = act s := by
  obtain ⟨h1, h2, h3, h4, h5⟩ := h
  have hg : State.setupWrite.go port off owner f act s = act s := by
    unfold State.setupWrite.go
    simp only [h1, h2, h3, h4, h5, State.idValid]
    cases owner with
    | none => simp
    | some t => simp [ho t rfl]
  unfold State.setupWrite; split
  · exact hg
  · rw [whenAwake_on h1]; exact hg

theorem waits_mono {x : Voice} {xs vs ys ws : List Nat} (hx : ∀ r ∈ xs, r ∈ ys) (hv : ∀ r ∈ vs, r ∈ ws)
    (h : x.waits ys ws = false) : x.waits xs vs = false := by
  unfold Voice.waits at *
  rw [List.any_eq_false] at *
  intro a ha hc
  refine h a ha ?_
  simp only [Bool.and_eq_true, Bool.or_eq_true, List.contains_iff_mem] at *
  exact ⟨hc.1, hc.2.imp (fun k => ⟨k.1, hx _ k.2⟩) fun k => ⟨k.1, hv _ k.2⟩⟩

/-- A voice that may issue runs the instruction's own rule. -/
theorem issue_issuing {v : Nat} {f : Fields} {xs vs : List (BitVec 5)} {act : State → Voice → State} (h : s.issuing v f)
    (hx : ∀ r ∈ xs, r ∈ [f.d, f.a, f.b, f.c]) (hv : ∀ r ∈ vs, r ∈ [f.d, f.a, f.b, f.c]) :
    s.issue v xs vs act = act s (s.voice v) := by
  obtain ⟨h1, h2, h3, h4⟩ := h
  have k : ∀ l : List (BitVec 5), (∀ r ∈ l, r ∈ [f.d, f.a, f.b, f.c]) → ∀ r ∈ l.map BitVec.toNat,
      r ∈ [f.d.toNat, f.a.toNat, f.b.toNat, f.c.toNat] := by
    intro l hl r hr
    obtain ⟨q, hq, rfl⟩ := List.mem_map.1 hr
    simpa using List.mem_map_of_mem (f := BitVec.toNat) (hl q hq)
  have := waits_mono (k xs hx) (k vs hv) h4
  simp [State.issue, h1, h2, h3, this]

/-- The next instruction in order, where the code segment goes on. -/
theorem advance_hasNext {v : Nat} (h : (s.voice v).fetchFault ((s.voice v).pc + 8) = 0) :
    s.advance v = s.updVoice v fun x => { x with pc := x.pc + 8 } := by
  unfold State.advance State.goto
  dsimp only
  rw [if_neg (by rw [h]; decide)]
  have e : ((((s.voice v).pc : Int) + 8).toNat) = (s.voice v).pc + 8 := by omega
  simp [State.updVoice, e]

/-! ## Voices: one write after another -/

@[simp] theorem voice_setVoice {v : Nat} {x : Voice} : (s.setVoice v x).voice v = x := tget_tput_same fun _ => Voice.off

theorem setVoice_setVoice {v : Nat} {x y : Voice} (h : x.loaded = true) : (s.setVoice v x).setVoice v y = s.setVoice v y := by
  unfold State.setVoice
  dsimp only
  rw [tput_tput (fun _ => Voice.off) fun e => by rw [e] at h; cases h]

@[simp] theorem Voice.setX_loaded (x : Voice) (i : Nat) (w : Word) : (x.setX i w).loaded = x.loaded := by
  unfold Voice.setX; split <;> rfl

@[simp] theorem Voice.setX_pc (x : Voice) (i : Nat) (w : Word) : (x.setX i w).pc = x.pc := by unfold Voice.setX; split <;> rfl

@[simp] theorem Voice.setX_fetchFault (x : Voice) (i : Nat) (w : Word) (pc : Int) : (x.setX i w).fetchFault pc = x.fetchFault pc := by
  unfold Voice.setX; split <;> rfl

theorem advance_set {v : Nat} (h : s.hasNext v) :
    s.advance v = s.setVoice v { s.voice v with pc := (s.voice v).pc + 8 } := advance_hasNext h

/-- A voice that has just been changed goes on. -/
theorem advance_setVoice {v : Nat} {x : Voice} (hl : x.loaded = true) (h : x.fetchFault (x.pc + 8) = 0) :
    (s.setVoice v x).advance v = s.setVoice v { x with pc := x.pc + 8 } := by
  rw [advance_hasNext (by rw [voice_setVoice]; exact h), State.updVoice, voice_setVoice, setVoice_setVoice hl]

theorem writeX_hasNext {v : Nat} {d : BitVec 5} {w : Word} (hl : (s.voice v).loaded = true) (h : s.hasNext v) :
    s.writeX v d w = s.setVoice v ((s.voice v).wroteX d w) := by
  unfold State.writeX State.updVoice
  rw [advance_setVoice (by simpa using hl) (by simpa [State.hasNext] using h)]
  simp [Voice.wroteX]

theorem writeV_hasNext {v : Nat} {d : BitVec 5} {w : BitVec 2048} (hl : (s.voice v).loaded = true) (h : s.hasNext v) :
    s.writeV v d w = s.setVoice v ((s.voice v).wroteV d w) := by
  unfold State.writeV State.updVoice
  rw [advance_setVoice (x := (s.voice v).setV d.toNat w) hl h]
  rfl

end Sys2Proof.Machine
end

