-- ==== Sys2Proof/Laws/Tick.lean ====
section
/-! SUPPORT. What each operation of Machine/Tick.lean may touch. -/

namespace Sys2Proof.Machine

variable {m : Nat} {s t : State}

@[simp] theorem touches_fillBucket (hm : 256 &&& m = 256) : Touches m s (State.fillBucket t a1) ↔ Touches m s t :=
  Touches.peel hm (by simp [State.fillBucket])

@[simp] theorem touches_takeMg (hm : 2314850208468434946 &&& m = 2314850208468434946) : Touches m s (State.takeMg t) ↔ Touches m s t :=
  Touches.peel hm (by unfold State.takeMg; (repeat' (first | split | dsimp only)) <;> simp)

@[simp] theorem touches_showRecords (hm : 770 &&& m = 770) : Touches m s (State.showRecords t) ↔ Touches m s t :=
  Touches.peel hm (by simp [State.showRecords])

@[simp] theorem touches_tallyLoad (hm : 295147905179352825856 &&& m = 295147905179352825856) : Touches m s (State.tallyLoad t) ↔ Touches m s t :=
  Touches.peel hm (by simp [State.tallyLoad])

@[simp] theorem touches_goOn (hm : 63242354845898525111174 &&& m = 63242354845898525111174) : Touches m s (State.goOn t) ↔ Touches m s t :=
  Touches.peel hm (by simp [State.goOn])

@[simp] theorem touches_tick (hm : 63539808594087091630998 &&& m = 63539808594087091630998) : Touches m s (State.tick t) ↔ Touches m s t :=
  Touches.peel hm (by simp [State.tick])

end Sys2Proof.Machine
end

