-- ==== Sys2Proof/Laws/Wake.lean ====
section
/-! SUPPORT. What each operation of Machine/Wake.lean may touch. -/

namespace Sys2Proof.Machine

variable {m : Nat} {s t : State}

@[simp] theorem touches_serve (hm : 75557863725914323419135 &&& m = 75557863725914323419135) : Touches m s (State.serve t a1) ↔ Touches m s t :=
  Touches.peel hm (by 
    have k : ∀ {o} {a : Nat}, a &&& 75557863725914323419135 = a → TouchesO a t o → Touches 75557863725914323419135 t (t.after o) := fun hm h => (touches_after h).mono hm
    cases a1 <;> unfold State.serve <;> dsimp only
    · exact k (by decide) touches_execSetupRegisterWrite
    · exact k (by decide) touches_execFwStage
    · split
      · exact k (by decide) touches_execDbCqHead
      · exact k (by decide) touches_execDbSqTail
    · split
      · exact k (by decide) touches_execCxlMemWrite
      · exact k (by decide) touches_execCxlMemRead
    · exact k (by decide) touches_execHostConfigRequest
    · exact (touches_message (by decide) fun u => by simp).2 Touches.rfl
    · exact (touches_message (by decide) fun u => by simp).2 Touches.rfl
    · exact (touches_message (by decide) fun u => by simp).2 Touches.rfl
    · exact k (by decide) touches_execMg
    · exact k (by decide) touches_execPtwriteBroadcast
    · exact k (by decide) touches_execInvalForward
    · exact k (by decide) touches_execInvalConfirm
    · exact k (by decide) touches_execMemberOperation
    · exact k (by decide) touches_execMemberAck
    · exact k (by decide) touches_execPull
    · exact k (by decide) touches_execPullResponse
    · exact k (by decide) touches_execClaim
    · exact k (by decide) touches_execHandoffGrant
    · exact k (by decide) touches_execCommit
    · exact k (by decide) touches_execCommitAck
    · exact k (by decide) touches_execLeaseResolve
    · exact k (by decide) touches_execRelease
    · exact k (by decide) touches_execClaimRefused
    · exact k (by decide) touches_execLeaseReadAnswer
    · exact k (by decide) touches_execSessionMemberTimeout
    · exact k (by decide) touches_execPullTimeout
    · exact k (by decide) touches_execCommitTimeout
    · exact k (by decide) touches_execLeaseReadTimeout
    · exact k (by decide) touches_execHandoffTimerExpiry
    · exact k (by decide) touches_execReleaseWaitExpiry)

@[simp] theorem touches_lateReset (hm : 58529211735065730544518 &&& m = 58529211735065730544518) : Touches m s (State.lateReset t a1 a2) ↔ Touches m s t :=
  Touches.peel hm (by 
    unfold State.lateReset; dsimp only
    rw [touches_hostReset (by decide), touches_updPort (by decide), Touches.each]
    · simp
    · intro u e; split <;> simp)

@[simp] theorem touches_woken (hm : 75557863725914323419135 &&& m = 75557863725914323419135) : Touches m s (State.woken t) ↔ Touches m s t :=
  Touches.peel hm (by simp [State.woken])

theorem touches_execWakeComplete : TouchesO 75557863725914323419135 t (execWakeComplete t) := by
  simp [execWakeComplete]

end Sys2Proof.Machine
end

