-- ==== Sys2Proof/Machine/View.lean ====
section
/-! DEFINITION. What reads of BAR0 return (R4, R28, R30, R37, R380 to R386, R390 to R392, and each block's register table). No command
of the opcode table is a read; statements about a register's value use these. -/

namespace Sys2Proof.Machine

/-! ## Blocks GLB, KPR, PWR, RAS -/

/-- Bit positions from `lo` for the units of a list. -/
def unitMaskAt (lo n : Nat) (p : Nat → Bool) : Nat := (List.range n).foldl (fun m u => if p u then m + 2 ^ (lo + u) else m) 0

/-- GLB_FITTED0 (R391). -/
def fitted0 (v : Variant) : Nat :=
  15 + unitMaskAt 4 2 (fun u => decide (u < v.ioDies)) + unitMaskAt 6 8 v.stack
    + unitMaskAt 14 16 (fun u => decide (u < v.ddrChannels)) + unitMaskAt 30 8 (fun u => decide (u < v.nvmePorts))
    + unitMaskAt 38 4 fun u => decide (u < v.hostPorts)

/-- Is a unit enabled in its RWK register? GLB_ENABLED follows those registers before the seal too (R391). -/
def State.enabledIn (s : State) (en u : Nat) : Bool := bit (s.rwkReg en) u

/-- GLB_ENABLED0: the units in service. -/
def State.enabled0 (s : State) : Nat :=
  15 + unitMaskAt 4 2 (fun u => decide (u < s.variant.ioDies) && !s.unitLost 8 u) + unitMaskAt 6 8 (fun u => s.variant.stack u && !s.unitLost 3 u)
    + unitMaskAt 14 16 (fun u => s.ddrThere u && s.enabledIn R.tierDdrEn u && (s.ddrCh u).info == 1)
    + unitMaskAt 30 8 (fun u => s.nvmeThere u && s.enabledIn R.tierNvmeEn u && (s.drive u).state == .inService)
    + unitMaskAt 38 4 (fun u => s.hostThere u && s.enabledIn R.glbHportEn u)

/-- GLB_ENABLED1. -/
def State.enabled1 (s : State) : Nat := unitMaskAt 0 18 fun u => s.sportThere u && s.enabledIn R.smfPortEn u

def State.kprStatus (s : State) (port : Nat) : Nat :=
  let k := s.keeper
  b2n k.booted + 2 * b2n k.bootFail + 4 * b2n k.sealed + 8 * b2n k.copyB + 16 * b2n k.tapLocked + 32 * b2n k.cmd.isSome
    + (tget (fun _ => 0) k.last port).toNat * 256

def State.partState (s : State) (t : Nat) : Nat :=
  let x := s.part t
  b2n x.switching + 2 * b2n x.anchored + x.keyMask * 65536

def Power.code : Power → Nat
  | .on => 0
  | .entering => 1
  | .dark => 2
  | .waking => 3
  | .boot => 4
  | .off => 4

/-- THERM_N is driven low while a thermal throttle is in force (R398). -/
def State.thermLow (s : State) : Bool := s.pwr.throttle.inForce && s.pwr.throttle.wasThermal

def State.pwrStatus (s : State) : Nat :=
  let t := s.pwr.throttle
  s.pwr.state.code + 8 * b2n t.inForce + 16 * b2n (t.inForce && t.wasPower) + 32 * b2n s.pwr.vinMargin
    + 64 * b2n (s.pwr.state == .entering || s.pwr.state == .waking) + s.pwr.result.toNat * 256

/-- PWR_DOMAIN: the domains whose logic is powered (R364, R365). Fog mode powers the galleries down, Dark them and the stack PHYs. -/
def State.domains (s : State) : Nat :=
  let up := s.idValid
  let awake := up && s.pwr.state != .dark
  let io := s.pwr.sysReady
  (if awake && (!s.ras.fog || s.ras.fogEntering) then 2 ^ 32 - 1 else 0) + 2 ^ 32 * b2n io
    + 2 ^ 33 * b2n (io && !s.keeper.bootFail) + 2 ^ 34 * b2n awake + 2 ^ 35

def State.rasStatus (s : State) : Nat :=
  b2n s.ras.jobHalt + 2 * b2n s.ras.fog + 4 * b2n s.ras.resetBusy + 8 * b2n s.ras.resetDone

def State.rasPending (s : State) : Nat :=
  (match s.ras.pending with
    | some p => p.severity
    | none => 0) + 8 * s.ras.queue.length

/-- Events of the device's own lateness in the last RAS_WIN_TIME. -/
def State.selfLateCount (s : State) : Nat :=
  let span := fld (s.reg R.rasWinCfg) 16 10 * 1000000000
  (s.ras.selfLate.filter fun t => decide (s.time - t ≤ span)).length

/-! ## Blocks HST, ROT, SES, EMB, TIER, XLT, SMF, POOL -/

def State.ringStatus (s : State) (port : Nat) : Nat :=
  b2n s.ringCmd.isSome + (tget (fun _ => 0) s.ringLast port).toNat * 256

def State.rotStatus (s : State) : Nat :=
  let r := s.rot
  r.align.code + 8 * b2n r.mismatch + 16 * b2n r.pending + 32 * b2n r.behind + r.hops.toNat * 256

def State.sessionsIn (s : State) (l : List SesState) : Nat := (s.sessions.filter fun e => l.contains e.2.state).length

def State.tierStatus (s : State) : Nat :=
  b2n s.ready + 2 * b2n (s.ready && s.backed) + 4 * b2n ((List.range 8).any fun d => (s.drive d).state == .failed)

def DriveState.code : DriveState → Nat
  | .absent => 0
  | .inService => 1
  | .refused => 2
  | .failed => 3

def State.driveInfo (s : State) (d : Nat) : Nat :=
  let x := s.drive d
  x.state.code + x.reason.toNat * 4 + x.granules * 65536

def State.ddrInfo (s : State) (d : Nat) : Nat := (s.ddrCh d).pop.toNat + (s.ddrCh d).info.toNat * 64

def LinkState.code : LinkState → Nat
  | .disabled => 0
  | .down => 1
  | .train => 2
  | .key => 3
  | .active => 4
  | .retrain => 5
  | .idle => 6
  | .failed => 7

/-- SMF_PORT_STATUS: a disabled port reads reason 7. -/
def State.portStatus (s : State) (p : Nat) : Nat :=
  let x := s.link p
  x.state.code + x.level.toNat * 16 + (if x.state = .disabled then 7 else x.reason.toNat) * 4096 + b2n x.long * 65536
    + x.delay.toNat * 2 ^ 17

def State.poolLoad (s : State) : Nat := s.loadPercent + sectorOf s.loads false * 256

def State.modeOf (s : State) (p : Nat) : Nat := b2n (s.port p).recalls + 2 * b2n (s.port p).switching

/-- Frames still to be reclaimed (R121, R132): those whose reclamation has begun, and those it will find in entries given up. -/
def State.reclaimPending (s : State) : Nat :=
  (s.each s.discarded fun s g => s.reclaimEntry g.entry).reclaims.foldl (fun n r => n + r.span) 0

/-! ## Registers -/

/-- What a register that other state determines reads as, none for one that is stored. -/
def State.computed (s : State) (port : Nat) (x : RegRow) (i : Nat) : Option Nat :=
  if x.off < 0x400000 then
    if x.off = R.glbOrder then some s.variant.code
    else if x.off = R.glbStatus then some (b2n s.idValid + 2 * b2n s.keeper.sealed)
    else if x.off = R.glbSerial0 then some (s.nvm.serial.toNat % 2 ^ 64)
    else if x.off = R.glbSerial1 then some (s.nvm.serial.toNat / 2 ^ 64)
    else if x.off = R.glbFitted0 then some (fitted0 s.variant)
    else if x.off = R.glbFitted1 then some (2 ^ s.variant.fabricPorts - 1)
    else if x.off = R.glbEnabled0 then some s.enabled0
    else if x.off = R.glbEnabled1 then some s.enabled1
    else if x.off = R.glbTimestamp then some s.time
    else if x.off = R.kprStatus then some (s.kprStatus port)
    else if x.off = R.kprSvn then some (s.nvm.fuseSvn.toNat + s.keeper.svn.toNat * 256 + s.keeper.stagedSvn.toNat * 65536)
    else if x.off = R.kprPartState 0 then some (s.partState i)
    else if x.off = R.kprPartSwitches 0 then some (s.part i).switches.toNat
    else if x.off = R.pwrStatus then some s.pwrStatus
    else if x.off = R.pwrWakeCause then some s.pwr.wakeCause.toNat
    else if x.off = R.pwrDomain then some s.domains
    else if x.off = R.rasStatus then some s.rasStatus
    else if x.off = R.rasPending then some s.rasPending
    else if x.off = R.rasPendingSeq then some (match s.ras.pending with
      | some p => p.seq.toNat
      | none => 0)
    else if x.off = R.rasSelfLate then some s.selfLateCount
    else none
  else if x.off = R.hstRctxStatus then some (s.ringStatus port)
  else if x.off = R.dmaChan 0 then some (s.dmaChan port i)
  else if x.off = R.rotStatus then some s.rotStatus
  else if x.off = R.rotBookStatus then some s.bookStatus
  else if x.off = R.sesTableBase then some reservedBase
  else if x.off = R.sesLiveCount then some (s.sessionsIn [.live, .waking, .handoff])
  else if x.off = R.sesIdleCount then some (s.sessionsIn [.idle])
  else if x.off = R.sesReclaimPending then some s.reclaimPending
  else if x.off = R.embTctxStatus then some (b2n s.tabCmd.isSome + (tget (fun _ => 0) s.tabLast port).toNat * 256)
  else if x.off = R.embStepbufBase then some stepArea
  else if x.off = R.embStepbufUsed then some s.stepUsed
  else if x.off = R.tierStatus then some s.tierStatus
  else if x.off = R.tierNearBytes then some s.variant.nearBytes
  else if x.off = R.tierNearFree then some (s.freeFrames .near)
  else if x.off = R.tierFarFree then some (s.freeFrames .far)
  else if x.off = R.tierDirty then some (s.granules.filter fun e => e.2.dirty != 0).length
  else if x.off = R.tierPinned then some (s.granules.filter fun e => e.2.pins != 0).length
  else if x.off = R.tierHeld then some (s.granules.filter fun e => e.2.nearHeld || e.2.dramHeld).length
  else if x.off = R.tierDdrInfo 0 then some (s.ddrInfo i)
  else if x.off = R.tierNvmeInfo 0 then some (s.driveInfo i)
  else if x.off = R.xltBcastMask then some (maskAdd (s.reg R.xltBcastMask) s.devNo).toNat
  else if x.off = R.smfPortStatus 0 then some (s.portStatus i)
  else if x.off = R.poolLoad then some s.poolLoad
  else if x.off = R.poolMarkBase then some Config.markBase.toNat
  else if x.off = R.poolPartPorts 0 then some ((s.rwkReg (x.at i)).toNat &&& unitMaskAt 0 4 s.hostThere)
  else if x.off = R.poolMode 0 then some (s.modeOf i)
  else if x.off = R.poolHdirUsed 0 then some (s.port i).hdir.length
  else none

/-- Is a register one of a fenced unit on IO1, of which only the configuration is known (R386)? -/
def State.regFenced (s : State) (x : RegRow) (i : Nat) : Bool :=
  match x.unit with
  | .none => false
  | .sport => decide (9 ≤ i) && s.fenced 6 i
  | .hport => decide (2 ≤ i) && s.fenced 7 i
  | .ddr => decide (8 ≤ i) && s.fenced 4 i
  | .nvme => decide (4 ≤ i) && s.fenced 5 i
  | .stack => decide (4 ≤ i) && s.fenced 3 i
  | .io => i == 1 && s.fenced 8 1

/-- A register as a port reads it while the device serves reads. -/
def State.regView (s : State) (port : Nat) (x : RegRow) (i : Nat) : Word :=
  let off := x.at i
  let own := match s.regOwner x i with
    | some t => x.own == .zero || s.controls port t
    | none => true
  if s.regAbsent x i || !own then 0
  else if x.rw == 0 && s.regFenced x i then 0
  else
    match s.computed port x i with
    | some n => BitVec.ofNat 64 n
    | none =>
      if x.rwk then (s.rwkReg off).setWidth 64
      else if staged off then s.reg (stageOff port off)
      else s.reg off

/-- What a register reads: before ID_VALID its reset value, 0 where it is set at boot or its unit is absent (R4); after a boot failure every block but KPR
reads 0 (R381). -/
def State.regRead (s : State) (port : Nat) (x : RegRow) (i : Nat) : Word :=
  if s.keeper.bootFail then (if x.off / 2 ^ 20 = 1 then s.regView port x i else 0)
  else if s.idValid then s.regView port x i
  else if s.regAbsent x i then 0
  else if x.rwk then (rwkReset s.variant (x.at i)).setWidth 64
  else BitVec.ofNat 64 x.reset

/-- A doorbell page (R37). -/
def State.doorRead (s : State) (off : Nat) : Nat :=
  let x := s.ring (off / 4096)
  if off % 4096 = 8 then x.sqHead.toNat
  else if off % 4096 = 12 then x.dbState
  else if off % 4096 = 16 then x.cqTail.toNat
  else 0

/-- The Pending Bit Array of a port. -/
def State.pbaRead (s : State) (port off : Nat) : Nat :=
  unitMaskAt 0 32 fun b => tget (fun _ => false) (s.port port).pba (8 * off + b)

/-- One 32-bit read of BAR0. A read of the lower half of a 64-bit register latches the upper half for the port (R382). -/
def State.barRead32 (s : State) (port off : Nat) : State × BitVec 32 :=
  if off < 0x1000000 then
    match findReg off with
    | none => (s, 0)
    | some (x, i) =>
      if off = x.at i then
        let w := s.regRead port x i
        let hold (s : State) : State :=
          { s with latch := tput (fun _ => 0) s.latch (stageOff port off) (BitVec.ofNat 32 (fld w 32 32)) }
        (if x.width = 64 then hold s else s, BitVec.ofNat 32 (fld w 0 32))
      else (s, tget (fun _ => 0) s.latch (stageOff port (x.at i)))
  else if off < 0x2000000 then (s, BitVec.ofNat 32 (s.doorRead (off - 0x1000000)))
  else if off < 0x2008000 then (s, BitVec.ofNat 32 (fld ((s.port port).vector ((off - 0x2000000) / 16)) (off % 16 * 8) 32))
  else if off < 0x2008100 then (s, BitVec.ofNat 32 (s.pbaRead port (off - 0x2008000)))
  else (s, 0)

/-- A read of BAR0: of 32 or 64 bits, naturally aligned; any other returns all ones (R30). -/
def State.barRead (s : State) (port off size : Nat) : State × Word :=
  if size = 4 ∧ off % 4 = 0 then
    let (s, v) := s.barRead32 port off
    (s, v.setWidth 64)
  else if size = 8 ∧ off % 8 = 0 then
    match findReg off with
    | some (x, i) =>
      if x.width = 64 then (s, s.regRead port x i)
      else
        let (s, lo) := s.barRead32 port off
        let (s, hi) := s.barRead32 port (off + 4)
        (s, hi.setWidth 64 <<< 32 ||| lo.setWidth 64)
    | none =>
      let (s, lo) := s.barRead32 port off
      let (s, hi) := s.barRead32 port (off + 4)
      (s, hi.setWidth 64 <<< 32 ||| lo.setWidth 64)
  else (s, 0xFFFFFFFFFFFFFFFF)

end Sys2Proof.Machine
end

