-- ==== Sys2Proof/WellFormed.lean ====
section
/-! DEFINITION. Which commands can reach the device at all: sizes and lengths that no field width of Instr says. A command
that is not well formed is never sent; the machine gives it a meaning all the same. -/

namespace Sys2Proof

/-- A set-up access is 4 or 8 bytes and aligned to its size (R13). -/
def setupSizeOk (off : BitVec 26) (size : Nat) : Bool := (size == 4 || size == 8) && off.toNat % size == 0

/-- A Sprinoucel port is P00 to P17 (R4). -/
def sportOk (p : SPort) : Bool := decide (p.toNat < 18)

/-- A request carries at most 4 lines (R281). -/
def Req.ok (r : Req) : Bool := decide (r.data.length ≤ 4)

/-- A response carries at most 4 lines (R282). -/
def Rsp.ok (r : Rsp) : Bool := decide (r.data.length ≤ 4)

/-- The bindings of MCTP: 0 the sideband, 1 to 4 the host ports, 5 the mailbox (R327, log entry 13). -/
def bindingOk (b : BitVec 3) : Bool := decide (b.toNat < 6)

/-- Well-formedness of a command. -/
def Instr.wf : Instr → Bool
  | .setupRegisterWrite _ off size _ => setupSizeOk off size
  | .descriptorFetched _ descs _ => decide (descs.length ≤ 16)
  | .beaconReceived p _ _ _ _ _ => sportOk p
  | .flitReceived p _ _ => sportOk p
  | .replayTimerExpiry p => sportOk p
  | .signalDetect p => sportOk p
  | .trainComplete p _ => sportOk p
  | .trainTimeout p => sportOk p
  | .trainRetryTimer p => sportOk p
  | .keyExchangeComplete p _ => sportOk p
  | .keyExchangeTimeout p => sportOk p
  | .retrainTimeout p => sportOk p
  | .signalLost p => sportOk p
  | .portReset _ p => sportOk p
  | .portRetrain _ p => sportOk p
  | .idleLinkMessage p => sportOk p
  | .codewordAlignmentLost p => sportOk p
  | .rdS p r => sportOk p && r.ok
  | .rdX p r => sportOk p && r.ok
  | .upg p r => sportOk p && r.ok
  | .rdNc p r => sportOk p && r.ok
  | .wrC p r => sportOk p && r.ok && r.data.length == r.nl.toNat + 1
  | .wrCm p r => sportOk p && r.ok && r.data.length == 1
  | .wrNs p r => sportOk p && r.ok && r.data.length == r.nl.toNat + 1
  | .atAdd p r => sportOk p && r.ok
  | .atSwp p r => sportOk p && r.ok
  | .atCas p r => sportOk p && r.ok
  | .atMin p r => sportOk p && r.ok
  | .atMax p r => sportOk p && r.ok
  | .evict p r => sportOk p && r.ok
  | .snInv p _ => sportOk p
  | .snFwdS p _ => sportOk p
  | .snFwdX p _ => sportOk p
  | .snRecall p _ => sportOk p
  | .snRecallX p _ => sportOk p
  | .data p r => sportOk p && r.ok
  | .cmp p r => sportOk p && r.ok
  | .snAck p r => sportOk p && r.ok
  | .snData p r => sportOk p && r.data.length == 1
  | .wbPull p r => sportOk p && r.ok
  | .wbData p r => sportOk p && r.data.length == 1
  | .atData p r => sportOk p && r.ok
  | .mg p _ _ _ => sportOk p
  | .getVersion b _ => bindingOk b
  | .getCapabilities b _ => bindingOk b
  | .negotiateAlgorithms b _ _ => bindingOk b
  | .getDigests b _ => bindingOk b
  | .getCertificate b _ _ => bindingOk b
  | .challenge b _ _ => bindingOk b
  | .getMeasurements b _ _ _ _ => bindingOk b
  | .keyExchange b _ => bindingOk b
  | .chunkSend b _ _ _ _ => bindingOk b
  | .chunkGet b _ _ => bindingOk b
  | .setEndpointId b _ => bindingOk b
  | .getEndpointId b => bindingOk b
  | .getMctpVersionSupport b _ => bindingOk b
  | .getMessageTypeSupport b => bindingOk b
  | .unsupportedMctpCommand b _ => bindingOk b
  | .pldmRequest b _ _ => bindingOk b
  | _ => true

end Sys2Proof
end

