-- ==== Sys2Proof/Tests/Slice0.lean ====
section
/-! SUPPORT. Tests: small states that meet the hypotheses of each statement, one theorem for each claim with a witness for each of
its clauses; commands that are not well formed; and words of clause code. -/

set_option Elab.async false

namespace Sys2Proof.Tests

open Sys2Proof.Machine

/-! ## States -/

/-- A device that is on, with the host link of port 0 up. -/
def on : State :=
  { State.reset with
    pwr := { Pwr.off with state := .on, sysReady := true }, keeper := { Keeper.off with booted := true }
    ports := [(0, { HostPort.off with link := .up, perst := false })] }

/-- The same, sealed. -/
def sealedOn : State := { on with keeper := { Keeper.off with booted := true, sealed := true, tapLocked := true } }

/-- Registers set to values. -/
def regsOf (s : State) (l : List (Nat × Word)) : State := l.foldl (fun s e => s.setReg e.1 e.2) s

/-- A voice that runs at the start of eight words of code. -/
def voice0 : Voice := { Voice.off with loaded := true, running := true, code := List.replicate 64 0 }

/-- The device with voice 0 as given. -/
def voiced (x : Voice) : State := { on with voices := [(0, x)] }

/-- Fields naming registers 1 to 3. -/
def f123 : Fields := { d := 1, a := 2, b := 3, c := 0, mod := 0, imm := 0 }

/-- A 64-byte value from (byte offset, value) pairs. -/
def line (l : List (Nat × Nat)) : Line := BitVec.ofNat 512 (l.foldl (fun a e => a + e.2 * 2 ^ (8 * e.1)) 0)

/-- The device with partition t's first GiB of addresses mapped, writable, to its pool's first GiB, all of it capacity. -/
def mapped (t : Nat) : State :=
  { regsOf on [(R.tierCapacity, 0x100000000), (R.xltPtBase t, 0), (R.xltPtSize t, 0x3000), (R.xltRoot t, 1)] with
    pool := [(ptArea, 1), (ptArea + 1, 0x10), (ptArea + 0x1000, 1), (ptArea + 0x1001, 0x20), (ptArea + 0x2000, 7)] }

theorem test_mapped_translates : (match (mapped 0).translate 96 0 0x1000 true with
    | .ok x => x.addr == 0x1000 && !x.tgt
    | .error _ => false) = true ∧ (mapped 0).poolWf = true := by decide +kernel

theorem test_reset_pool_form : State.reset.poolWf = true := by decide

/-! ## Voices -/

theorem witness_scalar_and_vector_instructions :
    (voiced voice0).issuing (0 : VoiceId).toNat f123 ∧ (voiced voice0).hasNext (0 : VoiceId).toNat ∧
    f123.mod.toNat ≤ 5 ∧ ({ f123 with mod := 3 } : Fields).mod.toNat < 4 ∧ 4 ≤ ({ f123 with mod := 4 } : Fields).mod.toNat ∧
    (voiced { voice0 with pc := 48 }).hasNext (0 : VoiceId).toNat ∧ laneFlt 0 = some Flt.fp32 := by
  simp only [State.issuing, State.hasNext]; decide +kernel

theorem witness_branches_and_faults :
    (voiced voice0).issuing (0 : VoiceId).toNat f123 ∧ (voiced voice0).hasNext (0 : VoiceId).toNat ∧
    voice0.xr 2 = voice0.xr 3 ∧ (0 : Int) ≤ voice0.pc + 8 * (7 : BitVec 32).toInt ∧ voice0.pc + 8 * (7 : BitVec 32).toInt + 8 ≤ voice0.code.length ∧
    ¬(voice0.pc + 8 * (8 : BitVec 32).toInt + 8 ≤ voice0.code.length) ∧ ¬(0 ≤ voice0.pc + 8 * (0xFFFFFFFF : BitVec 32).toInt) ∧
    ((voiced { voice0 with x := [(2, 1)] }).voice 0).xr 2 ≠ ((voiced { voice0 with x := [(2, 1)] }).voice 0).xr 3 ∧
    (decodeCore 0 (BitVec.ofNat 64 (leNat ((voice0.code.drop 56).take 8)))).isSome = true ∧
    decodeCore 0 (BitVec.ofNat 64 (leNat (((List.replicate 64 (0xFF : Byte)).drop 56).take 8))) = none ∧
    ((voiced voice0).voice 0).loaded = true ∧ 5 < ({ f123 with mod := 6 } : Fields).mod.toNat := by
  simp only [State.issuing, State.hasNext]; decide +kernel

theorem witness_vector_conversion :
    (voiced voice0).issuing (0 : VoiceId).toNat { f123 with mod := 9, imm := 9 } ∧
    ({ f123 with mod := 9 } : Fields).mod.toNat ≤ 9 ∧ fld (9 : BitVec 32) 0 4 ≤ 9 ∧ 9 < ({ f123 with mod := 10 } : Fields).mod.toNat ∧
    9 < fld (10 : BitVec 32) 0 4 := by
  simp only [State.issuing]; decide +kernel

theorem witness_packed_lanes : (∀ w ∈ [4, 8, 16, 32], (List.replicate (2048 / w) 1).length = 2048 / w) ∧ 4 ∈ [4, 8, 16, 32] := by decide +kernel

/-! ## Scratchpad, array and streams -/

/-- The scratchpad address an access forms from x2 and IMM. -/
def padAt (a : Word) (imm : BitVec 32) : Nat := ((voiced { voice0 with x := [(2, a)] }).voice 0 |>.xr 2 |> (· + sext32 imm)).toNat

theorem witness_scratchpad_accesses :
    (voiced { voice0 with x := [(2, 0xBFFFF)] }).issuing (0 : VoiceId).toNat f123 ∧
    padAt 0xBFFFF 0 % 2 ^ 0 = 0 ∧ padAt 0xBFFFF 0 + 2 ^ 0 ≤ 0xC0000 ∧
    padAt 0xBFFF8 0 % 2 ^ 3 = 0 ∧ padAt 0xBFFF8 0 + 2 ^ 3 ≤ 0xC0000 ∧
    padAt 0xC0000 0xFFFFFF00 % 64 = 0 ∧ padAt 0xC0000 0xFFFFFF00 + 256 ≤ 0xC0000 ∧
    padAt 0xBFFF8 1 % 2 ^ 1 ≠ 0 ∧ padAt 0xC0000 0 % 2 ^ 3 = 0 ∧ 0xC0000 < padAt 0xC0000 0 + 2 ^ 3 ∧
    padAt 0 32 % 64 ≠ 0 ∧ padAt 0xBFF40 0 % 64 = 0 ∧ 0xC0000 < padAt 0xBFF40 0 + 256 := by
  simp only [State.issuing]; decide +kernel

theorem witness_scratchpad_write : 0xFFFFF + [(1 : Byte)].length ≤ 2 ^ 20 ∧ (1 : Nat) < 2 ^ 20 ∧ (0xFFFFE < 0xFFFFF ∨ 0xFFFFF + 1 ≤ 0xFFFFE) ∧
    (1 : Nat) ≠ 0 := by decide

/-- A voice whose x2 and x3 name rows of A and columns of B that just fit the scratchpad. -/
def ammVoice (a b : Word) : State := voiced { voice0 with x := [(2, a), (3, b)] }

theorem witness_matrix_multiply :
    (ammVoice 0xBFFE0 0xBFC00).issuing (0 : VoiceId).toNat f123 ∧ (ammVoice 0 0).hasNext (0 : VoiceId).toNat ∧
    (((ammVoice 0xBFFE0 0xBFC00).voice 0).xr 2).toNat + ammRow 0 * 1 ≤ 0xC0000 ∧
    (((ammVoice 0xBFFE0 0xBFC00).voice 0).xr 3).toNat + ammRow 0 * 32 ≤ 0xC0000 ∧
    ¬((((ammVoice 0xBFFE0 0xBFC01).voice 0).xr 3).toNat + ammRow 0 * 32 ≤ 0xC0000) ∧
    ({ f123 with mod := 7 } : Fields).mod.toNat ≤ 7 ∧ 7 < ({ f123 with mod := 8 } : Fields).mod.toNat ∧ fld f123.imm 0 5 + 1 = 1 := by
  simp only [State.issuing, State.hasNext]; decide +kernel

theorem witness_tile_moves :
    (ammVoice 0xBF000 0).issuing (0 : VoiceId).toNat f123 ∧ (ammVoice 0xBF000 0).hasNext (0 : VoiceId).toNat ∧
    (ammVoice 0xBF000 0).ammBusy (0 : VoiceId).toNat = false ∧ (((ammVoice 0xBF000 0).voice 0).xr 2).toNat + 4096 ≤ 0xC0000 ∧
    0xC0000 < (((ammVoice 0xBF001 0).voice 0).xr 2).toNat + 4096 := by
  simp only [State.issuing, State.hasNext]; decide +kernel

/-- An AMM of voice 0. -/
def amm0 : Amm := { own := 3, tenant := 0, stale := false, voice := 0, tile := false, mod := 0, rows := 1, a := 0, b := 0, checked := true }

/-- An item of slot 3 that runs. -/
def item3 : Item :=
  { ring := 0, pos := 0, kind := .attn, tenant := 0, cls := 0, nearOnly := false, cap := 0, span := 1, runs := 0, need := 1,
    running := true, fault := none, late := none, pins := [], closing := false, rope := 0, outLen := 0, written := false }

/-- Voice 0 runs for the item of slot 3, with one AMM queued. -/
def arrayState (armed : Bool) : State :=
  { voiced { voice0 with slot := 3 } with
    amms := [(0, [amm0])], abftArm := if armed then [(0, true)] else [], rot := { Rot.off with items := [(3, item3)] } }

theorem witness_array_checks :
    tget (fun _ => []) (arrayState false).amms (0 : BitVec 9).toNat = [amm0] ∧
    tget (fun _ => false) (arrayState false).abftArm (0 : BitVec 9).toNat = false ∧
    tget (fun _ => false) (arrayState true).abftArm (0 : BitVec 9).toNat = true ∧ amm0.stale = false ∧
    (arrayState true).item amm0.own = some item3 ∧ item3.fault = none ∧ on.openTo (0 : Port).toNat ∧
    on.controls (0 : Port).toNat 0 = true := by
  simp only [State.openTo]; decide +kernel

/-- A stride descriptor: one tile of 64 bytes from BASE 0 to LOCAL. -/
def stride (local_ : Nat) : Line := line [(8, 64), (12, 1), (24, local_)]

/-- Voice 0 with a stride descriptor at address 0 of its scratchpad, and x2 as given. -/
def strideVoice (d : Line) (x2 : Word) : State := (voiced { voice0 with x := [(2, x2)] }).padWrite 0 0 (lineBytes d)

theorem witness_stream_starts :
    (strideVoice (stride 0xBFFC0) 0).issuing (0 : VoiceId).toNat f123 ∧ (strideVoice (stride 0xBFFC0) 0).hasNext (0 : VoiceId).toNat ∧
    bytesLine ((strideVoice (stride 0xBFFC0) 0).padRead 0 0 64) = stride 0xBFFC0 ∧
    (0xBFFC0 : Word).toNat + 64 ≤ 0xC0000 ∧ 0xC0000 < (0xBFFC1 : Word).toNat + 64 ∧
    sdBad (stride 0xBFFC0) = false ∧ sdUneven (stride 0xBFFC0) = false ∧ sdRange (stride 0xBFFC0) = false ∧
    sdBad (stride 0xBFFC0 ||| line [(29, 1)]) = true ∧
    sdBad (stride 0x20) = false ∧ sdUneven (stride 0x20) = true ∧
    sdBad (stride 0xC0000) = false ∧ sdUneven (stride 0xC0000) = false ∧ sdRange (stride 0xC0000) = true := by
  simp only [State.issuing, State.hasNext]; decide +kernel

/-- A stream of voice 0. -/
def stream0 (done : Option AccessEnd) : Strm :=
  { own := 3, sentence := 0, seq := 0, begun := false, want := [], tenant := 0, stale := false, token := 5, desc := stride 0, tiles := 0, done }

/-- Voice 0 with one stream, its token in x2, in a mapped pool. -/
def streamState (done : Option AccessEnd) : State :=
  { mapped 0 with
    voices := [(0, { voice0 with x := [(2, 5)], streams := [stream0 done] })]
    marks := [(0, { key := 0, tenant := 0, valid := true, drain := false })], granules := [(0, { (State.reset.granule 0) with tier := .near })] }

theorem witness_stream_wait :
    (streamState none).issuing (0 : VoiceId).toNat f123 ∧ (streamState none).hasNext (0 : VoiceId).toNat ∧
    ((streamState none).voice 0).stream (((streamState none).voice 0).xr 2) = some (stream0 none) ∧
    ((streamState (some .ok)).voice 0).stream 5 = some (stream0 (some .ok)) ∧
    ((streamState (some .refused8)).voice 0).stream 5 = some (stream0 (some .refused8)) ∧
    ((streamState (some .poisoned)).voice 0).stream 5 = some (stream0 (some .poisoned)) ∧
    AccessEnd.poisoned ∈ [AccessEnd.keyMismatch, .extentRevoked, .timeout, .poisoned, .noFrame] ∧
    ((streamState none).voice 0).stream 6 = none := by
  simp only [State.issuing, State.hasNext]; decide +kernel

/-- The same, of a stream as given. -/
def streaming (st : Strm) : State :=
  { streamState none with voices := [(0, { voice0 with x := [(2, 5)], streams := [st] })] }

theorem witness_stream_tiles :
    let once : Strm := { stream0 none with begun := true }
    let more : Strm := { once with desc := line [(8, 64), (12, 2)] }
    let there (st : Strm) (u : State) (bs : List PByte) : Prop :=
      sdOut st.desc = false ∧ sdCacheOnly st.desc = false ∧ u.tileServed 0 0 (sdAddr st.desc st.tiles) (sdTile st.desc) = true ∧
        u.tileNeeds 0 st st.tiles = [] ∧
        u.gather (st.eng 0) (pieces (sdTile st.desc)) (sdAddr st.desc st.tiles) (sdTile st.desc) = (bs, none) ∧ bs.any Prod.snd = false
    let bs : List PByte := List.replicate 64 (0, false)
    ((streaming (stream0 none)).voice (0 : VoiceId).toNat).stream 5 = some (stream0 none) ∧ (stream0 none).begun = false ∧
    ((streaming more).voice (0 : VoiceId).toNat).stream 5 = some more ∧ more.done = none ∧ more.begun = true ∧
    more.tiles + 1 < sdCount more.desc ∧ there more ((streaming more).tileDemand 0 0 more.desc 0) bs ∧
    sdCount once.desc = once.tiles + 1 ∧ (streaming once).streamFirst 0 once = true ∧
    there once (((streaming once).tileDemand 0 0 once.desc 0).tileDemand 0 0 once.desc 0) bs ∧
    (streaming once).streamSends 0 5 = false ∧ AccessEnd.timeout ≠ .ok := by decide +kernel

/-! ## Pool accesses -/

/-- An access of voice 0: LD of 8 bytes into x7. -/
def load7 : Access := Access.blank .ld { f123 with d := 7 } 0 8

theorem witness_pool_accesses_issue :
    let s := voiced { voice0 with x := [(2, 0x100)] }
    let full := voiced { voice0 with out := List.replicate 4 load7 }
    s.issuing (0 : VoiceId).toNat f123 ∧ s.hasNext (0 : VoiceId).toNat ∧ (s.voice 0).out.length < 4 ∧ (s.voice 0).stall = none ∧
    (s.voice 0).out.any Access.ord = false ∧ 4 ≤ (full.voice 0).out.length ∧ full.issuing (0 : VoiceId).toNat f123 ∧
    (full.voice 0).stall = none ∧ (full.voice 0).out.any Access.ord = false ∧
    ¬((voiced { voice0 with stall := some 1 }).voice 0).stall = none ∧
    (((s.voice 0).xr 2) + sext32 0).toNat % 256 = 0 ∧ (((s.voice 0).xr 2) + sext32 7).toNat % 2 ^ 0 = 0 ∧
    (((s.voice 0).xr 2) + sext32 1).toNat % 2 ^ 1 ≠ 0 ∧ (((s.voice 0).xr 2) + sext32 0x80).toNat % 256 ≠ 0 := by
  simp only [State.issuing, State.hasNext]; decide +kernel

theorem witness_atomics_issue :
    let s := voiced { voice0 with x := [(2, 0xFFF8), (3, 8)] }
    let busy := voiced { voice0 with out := [load7] }
    s.issuing (0 : VoiceId).toNat f123 ∧ s.hasNext (0 : VoiceId).toNat ∧ busy.issuing (0 : VoiceId).toNat f123 ∧ (s.voice 0).out = [] ∧
    (s.voice 0).stall = none ∧
    (busy.voice 0).out ≠ [] ∧ ((s.voice 0).xr 2).toNat % 8 = 0 ∧ ((s.voice 0).xr 2 + 2).toNat % 4 ≠ 0 ∧
    (bit (4 : BitVec 4) 3 = false ∧ (4 : BitVec 4).toNat % 8 ≤ 4) ∧ (bit (10 : BitVec 4) 3 = true ∧ (10 : BitVec 4).toNat % 8 < 3) ∧
    (bit (12 : BitVec 4) 3 = true ∧ 3 ≤ (12 : BitVec 4).toNat % 8 ∧ (12 : BitVec 4).toNat % 8 ≤ 4) ∧ 4 < (5 : BitVec 4).toNat % 8 ∧
    (1 ≤ ((s.voice 0).xr 3).toNat ∧ ((s.voice 0).xr 3).toNat ≤ 65536 ∧
      ((s.voice 0).xr 2).toNat / 65536 = (((s.voice 0).xr 2).toNat + ((s.voice 0).xr 3).toNat - 1) / 65536) ∧
    ¬(0xFFF8 / 65536 = (0xFFF8 + 9 - 1) / 65536) := by
  simp only [State.issuing, State.hasNext]; decide +kernel

theorem witness_fence_orders :
    let s := voiced voice0
    let reads := voiced { voice0 with out := [load7] }
    s.issuing (0 : VoiceId).toNat f123 ∧ reads.issuing (0 : VoiceId).toNat f123 ∧ s.hasNext (0 : VoiceId).toNat ∧
    (s.voice 0).out.any (fun a => a.kind.toX || a.kind.toV) = false ∧ (reads.voice 0).out.any (fun a => a.kind.toX || a.kind.toV) = true ∧
    (1 : BitVec 32).toNat % 4 = 1 ∧ 1 < (2 : BitVec 32).toNat % 4 ∧ (2 : BitVec 4).toNat % 8 < 3 ∧ (3 : BitVec 4).toNat % 8 = 3 ∧
    (4 : BitVec 4).toNat % 8 ≤ 4 ∧ 4 < (5 : BitVec 4).toNat % 8 ∧ (4 : BitVec 32).toNat % 4 = 0 ∧ (reads.voice 0).out ≠ [] ∧
    (s.voice 0).out = [] := by
  simp only [State.issuing, State.hasNext]; decide +kernel

/-- Voice 0 with one access of 8 bytes at its target, translated, and the line it needs held by its gallery in M. -/
def accessState (k : AccKind) (mine : Bool) (poison : Bool) : State × Access :=
  let a : Access := { load7 with kind := k, ready := true, got := if mine then [] else [(0, 0, poison)] }
  ({ voiced { voice0 with out := [a] } with
      gcache := if mine then [(cacheKey 0 0, { state := .m, tenant := 0, key := 0, data := 7 })] else [] }, a)

theorem witness_pool_access_completes :
    (∀ e ∈ [(AccKind.ld, true, false), (.st, true, false), (.aadd, true, false), (.ldv, false, false), (.ld, false, true)],
      let s := (accessState e.1 e.2.1 e.2.2).1
      let a := (accessState e.1 e.2.1 e.2.2).2
      s.access (0 : VoiceId).toNat 0 = some a ∧ s.net = [] ∧ s.engineQ = [] ∧ a.ready = true ∧ (s.voice 0).blocked a = false ∧
      s.releases (galleryOf 0) a = false ∧ (a.lines.all fun l => s.abufRoom (galleryOf 0) l) = true ∧
      s.fenced 2 (galleryOf 0) = false ∧ (a.lines.all fun l => s.lineReady (galleryOf 0) a l) = true ∧ a.kind ≠ .linv ∧
      (s.seen (galleryOf 0) a).2 = e.2.2 ∧ a.tgt = false) ∧
    (let s := (accessState .linv false false).1
      ∀ l ∈ (accessState .linv false false).2.lines, (s.gline 0 l).state = .i ∧ s.victimLine 0 l = none ∧ s.requestFor 0 l = none) ∧
    (5 : BitVec 32).toNat ≤ (5 : BitVec 32).toNat ∧ AccKind.aadd.atomic = true ∧ AccKind.ldv.atomic = false := by decide +kernel

theorem witness_access_results :
    ((voiced voice0).voice 0).running = true ∧ load7.stale = false ∧ load7.kind.toX = true ∧ load7.dst ≠ 0 ∧ (1 : Nat) ≠ load7.dst.toNat ∧
    AccKind.vld.toV = true ∧ ((voiced { voice0 with running := false }).voice 0).running = false ∧
    ({ load7 with stale := true } : Access).stale = true ∧ (voiced voice0).aline 0 0 = none ∧ (63 : Nat) < 64 := by decide +kernel

/-! ## Rings, doorbells and set-up writes -/

/-- A ring of a kind, ACTIVE, of 64 entries at host address 0x1000 of port 0, for partition 0. -/
def ring0 (kind : Nat) : Ring := { Ring.off with state := .active, ctx := line [(0, 0x1000), (8, 0x2000), (16, kind), (17, 1)] }

/-- A descriptor in hand. -/
def flight0 (d : Line) (st : Stage) : Flight := { pos := 0, desc := d, stage := st, seq := 0, host := [], idx := [], off := [], depths := [] }

/-- The device with one ring, ring 0. -/
def ringed (x : Ring) : State := { on with rings := [(0, x)] }

/-- A state with ring 0 of a kind holding one descriptor. -/
def withFlight (s : State) (kind : Nat) (d : Line) (st : Stage) : State :=
  { s with rings := [(0, { ring0 kind with sqTail := 1, sqHead := 1, flights := [flight0 d st] })] }

/-- Port 0 with a ring context staged. -/
def stagedRing (s : State) : State := regsOf s [(stageOff 0 (R.hstRctxData 0), 0x1000), (stageOff 0 (R.hstRctxData 1), 0x2000),
  (stageOff 0 (R.hstRctxData 2), 0x100)]

theorem witness_ring_commands :
    (stagedRing on).openTo (0 : Port).toNat ∧ on.ringCmd = none ∧
    (stagedRing on).createResult 0 0 ((stagedRing on).stagedCtx 0) = St.done ∧
    on.createResult 0 0 (on.stagedCtx 0) ≠ St.done ∧ on.createFault 0 0 (on.stagedCtx 0) = none ∧
    (let pool := regsOf (stagedRing on) [(stageOff 0 (R.hstRctxData 2), 0x100100)];
      pool.openTo 0 ∧ pool.ringCmd = none ∧
        pool.createFault 0 0 (pool.stagedCtx 0) = some (0x1000, 1, 4, false)) ∧
    (on.ring 0).state = .disabled ∧ on.controls 0 (ring0 0).tenant = true ∧ on.controls 0 1 = false ∧
    ((ringed { ring0 0 with state := .stopped }).ring 0).state = .stopped ∧
    ((ringed { ring0 0 with state := .error }).ring 0).flights = [] ∧ ((ringed (ring0 0)).ring 0).state = .active ∧
    ((ringed { ring0 0 with ctx := (ring0 0).ctx ||| line [(18, 1)] }).ring 0).tenant = 1 ∧ (7 : Nat) < 8 ∧
    ({ on with ringCmd := some { port := 0, ring := 0, result := 0 } } : State).ringCmd = some { port := 0, ring := 0, result := 0 } ∧
    ({ on with ringCmd := some { port := 0, ring := 0, result := 0 } } : State).openTo (0 : Port).toNat := by
  simp only [State.openTo]; decide +kernel

theorem witness_doorbells :
    on.pwr.state = .on ∧ ((ringed (ring0 0)).ring 0).state ≠ .disabled ∧ ((ringed (ring0 0)).ring 0).state ≠ .error ∧
    ((64 : BitVec 32) - (ring0 0).sqTail).toNat ≤ (ring0 0).entries ∧ ((64 : BitVec 32) - (ring0 0).sqHead).toNat ≤ (ring0 0).entries ∧
    ¬((65 : BitVec 32) - (ring0 0).sqTail).toNat ≤ (ring0 0).entries ∧
    ((2 : BitVec 32) - (0 : BitVec 32)).toNat ≤ ((2 : BitVec 32) - 0).toNat ∧ ¬((3 : BitVec 32) - (0 : BitVec 32)).toNat ≤ ((2 : BitVec 32) - 0).toNat ∧
    ((ringed { ring0 0 with state := .error }).ring 0).state = .error ∧ (on.ring 0).state = .disabled := by decide +kernel

theorem witness_descriptors_are_fetched :
    let s := ringed { ring0 0 with sqTail := 64 }
    let x := s.ring 0
    let pool := ringed { ring0 0 with sqTail := 1, ctx := (ring0 0).ctx ||| line [(18, 0x10)] }
    let busy := ringed { ring0 0 with sqTail := 1, fetching := 1 }
    s.pwr.state = .on ∧ x.state = .active ∧ x.fetching = 0 ∧
    min 16 (min (x.sqTail - x.sqHead).toNat (x.entries - (x.sqHead - x.cqHead).toNat)) = 16 ∧ s.fenced 8 (s.dieOf 0) = false ∧
    x.inPool = false ∧ s.fenced 7 x.hport = false ∧ (pool.ring 0).inPool = true ∧ (busy.ring 0).fetching ≠ 0 ∧
    (busy.ring 0).state = .active ∧ (busy.ring 0).inPool = false := by decide +kernel

/-- A LOOKUP-less descriptor of an EMBL ring: its table is not defined, so its pre-check translates nothing. -/
def prechecked (s : State) (d : Line) : State := withFlight s 1 d .preparing

/-- An attention query: opcode 1, session 0, scale 1, query block and output as given at byte 56. -/
def query (where_ : Nat) : Line := line [(0, 1), (32, 0x3F800000), (56, where_)]

theorem witness_descriptors_are_prechecked :
    let s := prechecked on (query 0x11)
    let t := prechecked on (query 0x10)
    s.flight 0 0 = some (flight0 (query 0x11) .preparing) ∧ (flight0 (query 0x11) .preparing).stage = .preparing ∧ (s.ring 0).kind = .attn ∧
    s.attnMissing (attnQ (query 0x11)) (flight0 (query 0x11) .preparing).depth = [] ∧ (attnQ (query 0x11)).tree = false ∧
    (attnQ (query 0x11 ||| line [(1, 0x40)])).tree = true ∧ s.spanFault 96 (dTenant (query 0x11)) (s.spansOf .attn (query 0x11)) = none ∧
    t.flight 0 0 = some (flight0 (query 0x10) .preparing) ∧ t.attnMissing (attnQ (query 0x10)) (flight0 (query 0x10) .preparing).depth = [] ∧
    t.spanFault 96 (dTenant (query 0x10)) (t.spansOf .attn (query 0x10)) = some (40, 0, 1, 4, false) := by decide +kernel

theorem witness_interrupts_and_record_faults :
    ((ringed { ring0 0 with fresh := [(0, true)] }).ring 0).state ≠ .disabled ∧
    ((ringed { ring0 0 with fresh := [(0, true)] }).ring 0).fresh.getLast? = some (0, true) ∧
    ((ringed { ring0 0 with coal := true }).ring 0).coal = true ∧
    (({ on with ports := [(0, { HostPort.off with msixOn := true, pba := [(5, true)] })] } : State).port 0).msixOn = true ∧
    tget (fun _ => false) (({ on with ports := [(0, { HostPort.off with msixOn := true, pba := [(5, true)] })] } : State).port 0).pba 5 = true ∧
    (on.port 0).msixOn = false ∧ (on.port (0 : Port).toNat).link = .up := by decide +kernel

/-- The conditions of a plain write of a register, by its offset. -/
def plainWrite (off width : Nat) (value : Word) : Bool :=
  match findReg off with
  | some (x, i) => x.width == width && off == x.at i && (on.commandWrite 0 x i (BitVec.ofNat 32 (fld value 0 32))).isNone
      && (on.wideAction 0 x value).isNone && x.rwk == false && x.rw != 0 && on.regAbsent x i == false && on.regLocked x i value == false
      && staged (x.at i) == false && on.absentBits x == 0 && x.reserved.isEmpty && x.off != R.sesCtrl && x.off != R.sesArenaBase 0
      && (match on.regOwner x i with
        | some t => on.controls 0 t
        | none => true)
  | none => false

theorem witness_setup_writes :
    on.openTo (0 : Port).toNat ∧ ¬((4 = 4 ∧ (2 : BitVec 26).toNat % 4 = 0) ∨ (4 = 8 ∧ (2 : BitVec 26).toNat % 8 = 0)) ∧
    plainWrite (R.xltKey 0) 32 100 = true ∧ R.xltKey 0 < 0x1000000 ∧ R.xltKey 0 % 4 = 0 ∧
    plainWrite (R.xltPtBase 0) 64 0x3000 = true ∧ R.xltPtBase 0 % 8 = 0 := by
  simp only [State.openTo]; decide +kernel

/-! ## The pool and DMA -/

theorem witness_pool_holds :
    on.inBook 64 [(1 : Byte)].length = false ∧ (∀ g ∈ granulesOf 64 1, on.lost g = false) ∧
    (64 : Nat) ≤ 64 * 1 ∧ 64 * 1 + 64 ≤ 64 + (List.replicate 64 (1 : Byte)).length ∧ 64 + 1 < 64 * 1 + 64 := by decide +kernel

/-- A FILL of 64 bytes with pattern 7 to DVA 0x1000. -/
def fill : Line := line [(0, 2), (16, 0x1000), (24, 64), (32, 7)]

/-- A COPY of 64 bytes from host port 0 to DVA 0x1000, and one from DVA 0x1000 to host port 0. -/
def fromHost : Line := line [(0, 1), (8, 0x5000), (16, 0x1000), (24, 64), (28, 1)]
def toHost : Line := line [(0, 1), (8, 0x1000), (16, 0x5000), (24, 64), (28, 4)]

/-- The mapped pool with its first extent marked as partition 0's, its first granule near. -/
def pool0 : State :=
  { mapped 0 with
    marks := [(0, { key := 0, tenant := 0, valid := true, drain := false })], granules := [(0, { Granule.none with tier := .near })] }

theorem witness_dma_starts :
    let s := withFlight pool0 0 fill .queued
    let h := withFlight pool0 0 toHost .queued
    let w : State := { regsOf pool0 [(R.glsRegionCtrl 0, 1), (R.glsRegionSize 0, 0x10000)] with
      rings := [(0, { ring0 0 with sqTail := 1, sqHead := 1, flights := [flight0 toHost .queued] })] }
    let bad := withFlight pool0 0 (line [(0, 2)]) .queued
    let fenced := withFlight pool0 0 (fill ||| line [(1, 2)]) .queued
    let after : State := { fenced with rings := [(0, { fenced.ring 0 with failedAt := some (-1) })] }
    s.dmaMay 0 0 2 = some (flight0 fill .queued) ∧ ¬(dFence fill = true ∧ (s.ring 0).failedAt = some (0 - 1)) ∧ s.dmaCheck fill = none ∧
    s.dmaWeights (channelCache (s.ring 0).channel) (s.ring 0).tenant fill = false ∧ h.dmaMay 0 0 1 = some (flight0 toHost .queued) ∧ h.dmaCheck toHost = none ∧
    h.dmaWeights (channelCache (h.ring 0).channel) (h.ring 0).tenant toHost = false ∧ w.dmaMay 0 0 1 = some (flight0 toHost .queued) ∧ w.dmaCheck toHost = none ∧
    w.dmaWeights (channelCache (w.ring 0).channel) (w.ring 0).tenant toHost = true ∧ bad.dmaMay 0 0 2 = some (flight0 (line [(0, 2)]) .queued) ∧
    bad.dmaCheck (line [(0, 2)]) = some (24, 7) ∧ after.dmaMay 0 0 2 = some (flight0 (fill ||| line [(1, 2)]) .queued) ∧
    (dFence (fill ||| line [(1, 2)]) = true ∧ (after.ring 0).failedAt = some ((0 : Pos) - 1)) ∧
    (withFlight pool0 0 (line [(0, 3)]) .queued).dmaMay 0 0 3 = some (flight0 (line [(0, 3)]) .queued) := by decide +kernel

theorem witness_dma_ends :
    let s := withFlight pool0 0 fill .running
    let u : State := { s with marks := [] }
    let moved := s.dmaMove 0 0 fill [] [] (dmaLen fill)
    let refused := u.dmaMove 0 0 fill [] [] (dmaLen fill)
    s.dmaOldest 0 = some (flight0 fill .running) ∧ s.dmaFenced (s.ring 0).channel fill = false ∧
    (s.dmaGranules (channelCache (s.ring 0).channel) (s.ring 0).tenant fill).all s.served = true ∧ s.dmaNeeds 0 0 fill = [] ∧
    s.dmaWeights (channelCache (s.ring 0).channel) (s.ring 0).tenant fill = false ∧ moved.2.1 = 64 ∧ moved.2.2 = (none, false) ∧
    (u.dmaGranules (channelCache (u.ring 0).channel) (u.ring 0).tenant fill).all u.served = true ∧ refused.2.1 = 0 ∧ refused.2.2 = (some (true, 0x1000, .key), false) ∧
    DmaFail.translation ≠ .hostTimeout ∧ (s.dmaMove 0 0 fill [] [] (min 8 (dmaLen fill))).2.1 = 8 ∧
    dmaIsFill fill = true ∧ dmaSwap fill = 0 ∧ dmaDstHost fill = false ∧
    (State.scatter (s.dmaEng 0 0 16) (pieces (dmaLen fill)) s (dmaDst fill) (fillBytes (dNum fill 32 8) (dmaLen fill))).2 = (64, none) := by
  decide +kernel

theorem witness_host_read_times_out :
    let s := withFlight pool0 0 fromHost .running
    let q := withFlight pool0 1 (query 0x11) .queued
    s.flight 0 0 = some (flight0 fromHost .running) ∧ readsHost (s.ring 0).kind fromHost = true ∧ (s.ring 0).kind = .dma ∧
    q.flight 0 0 = some (flight0 (query 0x11) .queued) ∧ readsHost (q.ring 0).kind (query 0x11) = true ∧ (q.ring 0).kind ≠ .dma := by
  decide +kernel

/-! ## The rotation -/

/-- A book of one sentence, with one clause of voice 0 and one slot, slot 3, for attention queries of partition 0. -/
def bookData : List Byte :=
  leBytes 384 (1 * 2 ^ 48 + 64 * 2 ^ 128 + 256 * 2 ^ 160
    + (1 * 2 ^ 16 + 1 * 2 ^ 32 + 64 * 2 ^ 64 + 128 * 2 ^ 96 + 192 * 2 ^ 128 + 64 * 2 ^ 160
      + (3 * 2 ^ 16 + 540 * 2 ^ 32 + 600 * 2 ^ 64) * 2 ^ 512
      + (3 + 1 * 2 ^ 16 + 1 * 2 ^ 32 + 1 * 2 ^ 64 + 0x7FFFF * 2 ^ 128) * 2 ^ 1024) * 2 ^ 512)

/-- The device with that book active and its sentence selected. -/
def rotating (p : Phase) : State :=
  { regsOf on [(R.rotCtrl, 1), (R.sesCtrl, 1)] with
    rot := { Rot.off with align := .aligned, phase := p, rotations := 1, active := some 0, sentence := some 0
                          books := [(0, { Book.empty with state := .loaded, data := bookData })] } }

theorem witness_rotation_starts :
    let s := rotating .guard
    s.pwr.state = .on ∧ s.ras.fog = false ∧ (s.rot.phase = .idle ∨ s.rot.phase = .guard) ∧ s.rot.halting = false ∧
    bit (s.reg R.rotCtrl) 0 = true ∧ (s.rot.align = .aligned ∨ s.rot.align = .holdover ∨ s.rot.align = .free) ∧ s.rot.adopt = none ∧
    s.rot.rotations ≠ 0 ∧ s.rot.pending = false ∧ s.pwr.throttle.inForce = false ∧ s.isRoot = false ∧
    bit (on.reg R.rotCtrl) 0 = false ∧ on.rot.phase = .idle ∧ on.rot.halting = false ∧
    ({ on with rot := { Rot.off with halting := true } } : State).rot.halting = true := by decide +kernel

/-- A session of partition 0 with one token in its one layer, whose page is granule 16. -/
def session0 : Session := { Session.none with state := .live, counts := [(0, 1)], root := [(0, 1)] }

/-- The rotating device with that session as handle 0, and a query of it that is a candidate. -/
def binding (t : Tier) (backed : Bool) : State :=
  { withFlight (rotating .snapshot) 1 (query 0x11) .candidate with
    sessions := [(0, session0)], leaves := [(1, { count := 1, pages := [(0, 16)] })], granules := [(16, { Granule.none with tier := t })]
    backed }

theorem witness_candidates_bind :
    let s := binding .near false
    let d := query 0x11
    let f := flight0 d .candidate
    let k := (s.ring 0).kind
    s.rot.phase = .snapshot ∧ s.rot.sentence ≠ none ∧ s.ras.haltNow = false ∧
    ({ on with rot := { Rot.off with phase := .snapshot } } : State).rot.sentence = none ∧
    s.flight 0 0 = some f ∧ f.stage = .candidate ∧ s.bindCheck k d = .ok ∧
    (s.findSlot k (s.ringClass 0) f).map Slot.index = some 3 ∧ s.locations 0 k f = [16] ∧ s.absence false 16 = none ∧
    (binding .none true).absence false 16 ≠ none ∧ (binding .none true).locations 0 k f = [16] ∧
    ((binding .none true).findSlot k 0 f).isSome = true ∧
    ({ s with sessions := [] } : State).bindCheck k d = .ends (Cpl.why St.notOwner 0) ∧
    s.findSlot k 1 f = none ∧ (regsOf s [(R.rotRclass 0, 1)]).bindCheck k d = .ok ∧
    (regsOf s [(R.rotRclass 0, 1)]).findSlot k ((regsOf s [(R.rotRclass 0, 1)]).ringClass 0) f = none := by decide +kernel

theorem witness_clauses_launch :
    let s : State := { rotating .launch with voices := [(0, { voice0 with running := false, start := 540 })] }
    s.rot.phase = .launch ∧ (s.voice 0).loaded = true ∧ (s.voice 0).start ≠ 0 ∧
    (s.voice 0).fetchFault (s.voice 0).pc = 0 ∧ ({ s.voice 0 with pc := 64 } : Voice).fetchFault 64 ≠ 0 ∧
    (rotating .bind).rot.phase = .bind ∧ (rotating .bind).rot.sentence = some 0 ∧ (rotating .bind).ras.resetBusy = false ∧
    ({ on with rot := { Rot.off with phase := .bind } } : State).rot.sentence = none ∧
    (0 : Nat) = 0 ∧ (3 : Nat) < 4 := by decide +kernel

theorem witness_late_clauses :
    (on.voice 0).loaded = false ∧ ((voiced voice0).voice 0).loaded = true ∧ ((voiced voice0).voice 0).running = true ∧
    (arrayState false).item ((arrayState false).voice 0).slot = some item3 ∧ item3.late = none := by decide +kernel

theorem witness_rotation_closes :
    (rotating .launch).rot.phase = .launch ∧ (rotating .launch).voices = [] ∧ (rotating .launch).rot.overran = false ∧
    item3.closing = false ∧ (item3.running = true ∧ item3.fault = none ∧ item3.late = none) ∧
    ¬(({ item3 with running := false } : Item).running = true) ∧ (rotating .close).rot.phase = .close := by decide +kernel

theorem witness_changes_and_run :
    let s := rotating .launch
    let locked : State := { s with rot := { s.rot with pending := true }, regs := (regsOf s [(R.rotChangeAt, 1)]).regs }
    on.openTo (0 : Port).toNat ∧ s.openTo (0 : Port).toNat ∧ on.controls (0 : Port).toNat 0 = true ∧ s.controls (0 : Port).toNat 0 = true ∧
    (locked.rot.pending = true ∧ (locked.reg R.rotChangeAt).toNat ≤ locked.rotNo.toNat + 1) ∧ locked.openTo (0 : Port).toNat ∧
    ¬(s.rot.pending = true ∧ (s.reg R.rotChangeAt).toNat ≤ s.rotNo.toNat + 1) ∧ (1 : Word) ≠ 0 ∧ (1 : Word).toNat ≤ s.rotNo.toNat + 1 ∧
    s.rotNo.toNat + 1 < (2 : Word).toNat ∧ bit (on.reg R.rotCtrl) 0 = false ∧ on.rot.halting = false ∧ bit (s.reg R.rotCtrl) 0 = true ∧
    s.rot.halting = false ∧ ({ s with rot := { s.rot with halting := true } } : State).rot.halting = true ∧
    s.rot.phase ≠ .idle ∧ ({ s with rot := { s.rot with phase := .idle } } : State).rot.phase = .idle := by
  simp only [State.openTo]; decide +kernel

theorem witness_books :
    let s := rotating .guard
    let loading : State := { s with rot := { s.rot with loading := some 1, books := [(1, { Book.empty with state := .loading, reason := 3 })] } }
    let clean : State := { s with rot := { s.rot with loading := some 1, books := [(1, { Book.empty with state := .loading })] } }
    s.rot.loading = none ∧ (s.book 1).state = .empty ∧ loading.rot.loading ≠ none ∧ loading.openTo (0 : Port).toNat ∧
    s.openTo (0 : Port).toNat ∧ (s.book 0).state ≠ .empty ∧ (s.book 0).state ≠ .failed ∧
    (s.rot.active = some 0 ∨ s.bookPending 0 = true) ∧ ¬(s.rot.active = some 1 ∨ s.bookPending 1 = true) ∧ (s.book 1).state ≠ .loaded ∧
    ({ s with rot := { s.rot with active := none } } : State).book 0 = s.book 0 ∧ (s.book 0).state = .loaded ∧
    ¬(({ s with rot := { s.rot with active := none } } : State).rot.active = some 0) ∧
    loading.rot.loading = some 1 ∧ (loading.book 1).reason ≠ 0 ∧ clean.rot.loading = some 1 ∧ (clean.book 1).reason = 0 := by
  simp only [State.openTo]; decide +kernel

theorem witness_beacons :
    let s := rotating .launch
    let far : State := { s with rot := { s.rot with align := .holdover } }
    s.pwr.state = .on ∧ s.ras.fog = false ∧ s.sportThere (0 : SPort).toNat = true ∧ 4 < (5 : Byte).toNat ∧ (4 : Byte).toNat ≤ 4 ∧
    s.secondRoot 0 0 = false ∧ s.takesBeacon (0 : SPort).toNat = true ∧ s.takesBeacon (3 : SPort).toNat = false ∧
    s.secondRoot 3 0 = false ∧ s.sportThere (3 : SPort).toNat = true ∧ s.isRoot = false ∧ s.running = true ∧ s.rot.halting = false ∧
    (let two : State := { regsOf s [(R.rotBeaconCfg, 0x420)] with rot := { s.rot with up0 := some 1 } };
      two.secondRoot (1 : SPort).toNat 2 = true ∧ two.secondRoot 1 1 = false) ∧
    (regsOf s [(R.rotCtrl, 3)]).isRoot = true ∧ (regsOf s [(R.rotCtrl, 3)]).secondRoot 0 0 = false ∧
    on.running = false ∧ on.isRoot = false ∧ on.takesBeacon (0 : SPort).toNat = true ∧
    s.rot.align = .aligned ∧ far.running = true ∧ far.isRoot = false ∧ far.rot.align = .holdover ∧
    bit ((regsOf far [(R.rotCtrl, 5)]).reg R.rotCtrl) 2 = true ∧ (regsOf far [(R.rotCtrl, 5)]).running = true ∧
    (regsOf far [(R.rotCtrl, 5)]).isRoot = false ∧
    ({ s with rot := { s.rot with align := .halted } } : State).rot.align = .halted ∧ s.rot.hadBeacon = false := by decide +kernel

/-! ## Sessions -/

/-- The rotating device with an arena of 16 frames for partition 0, which may hold `quota` sessions, and a SESS descriptor in hand. -/
def sessing (d : Line) (quota : Word) (x : Session) : State :=
  { regsOf (withFlight (rotating .launch) 2 d .queued) [(R.sesArenaBase 0, 0x100000), (R.sesArenaSize 0, 0x100000), (R.sesQuota 0, quota)] with
    sessions := if x.state = .free then [] else [(0, x)] }

/-- The same as member 0 of a shard set of devices 0 and 1, with an ACTIVE link to device 1. -/
def paired (s : State) : State :=
  { regsOf s [(R.sesSetMask, 3), (R.smfRoute 1, 32)] with links := [(0, { SLink.off with state := .active })] }

theorem witness_sessions_create_and_look_up :
    let d := line [(0, 1)]
    let e : Session := Session.none
    let full := sessing d 0 Session.none
    let good := sessing d 1 Session.none
    let bare := regsOf good [(R.sesArenaSize 0, 0)]
    full.startSess 0 0 1 = some (flight0 d .queued) ∧ full.freeHandle (dTenant d) = none ∧
    bare.startSess 0 0 1 = some (flight0 d .queued) ∧ bare.freeHandle (dTenant d) = some 0 ∧ (bare.newEntry 0 e).isNone = true ∧
    good.startSess 0 0 1 = some (flight0 d .queued) ∧ good.freeHandle (dTenant d) = some 0 ∧ (good.newEntry 0 e).isSome = true ∧ (1 : Nat) ≠ 0 := by
  decide +kernel

theorem witness_look_ups :
    let s := paired (sessing 0 1 session0)
    let away : State := { s with sessions := [(1, session0)] }
    s.isHome (sidHandle 0) = true ∧ ((s.session 0).state ≠ .free ∧ (s.session 0).gen.toNat = sidGen 0) ∧ (s.session 0).tenant.toNat = 0 ∧
    ¬((s.session 0).gen.toNat = sidGen (2 ^ 20)) ∧ (s.session 0).tenant.toNat ≠ 1 ∧ s.isHome (sidHandle 1) = false ∧
    (s.session (sidHandle 1)).state = .free ∧ away.isHome (sidHandle 1) = false ∧
    ((away.session 1).state ≠ .free ∧ (away.session 1).gen.toNat = sidGen 1) ∧ (away.session 1).state ≠ .lost ∧
    (away.session 1).version.toNat < 1 ∧ 0 ≤ (away.session 1).version.toNat := by decide +kernel

/-- What every clause about a SESS command asks of the session its descriptor names, and the operation. -/
def commanded (s : State) (d : Line) (op : Nat) : Bool :=
  let h := sidHandle (attnSession d)
  s.startSess 0 0 op == some (flight0 d .queued) && s.isHome h && (s.session h).gen.toNat == sidGen (attnSession d)
    && (s.session h).tenant.toNat == dTenant d && (s.session h).state != .free && !s.sesBusy (attnSession d)
    && !s.sesBehind (flight0 d .queued)

/-- The session the command then works on, after its touch. -/
def touched (s : State) : Session := ((s.sesLoad 0).touchSession 0).session 0

theorem witness_session_commands :
    let publish := line [(0, 3), (16, 1)]
    let p := sessing publish 4 session0
    let view := sessing publish 4 { session0 with view := true }
    let moving := sessing publish 4 { session0 with state := .handoff }
    let newer := sessing publish 4 { session0 with version := 1 }
    let longer := sessing publish 4 { session0 with pub := 2 }
    commanded p publish 3 = true ∧ (p.session 0).state ≠ .lost ∧ fld publish 128 21 ≤ 1048576 ∧ (touched p).view = false ∧
    (touched p).state ≠ .handoff ∧ (touched p).version.toNat = dNum publish 12 4 ∧ (touched p).pub.toNat ≤ fld publish 128 21 ∧
    commanded view publish 3 = true ∧ (touched view).view = true ∧ commanded moving publish 3 = true ∧ (touched moving).view = false ∧
    (touched moving).state = .handoff ∧ commanded newer publish 3 = true ∧ (touched newer).version.toNat ≠ dNum publish 12 4 ∧
    (touched newer).state ≠ .handoff ∧ commanded longer publish 3 = true ∧ fld publish 128 21 < (touched longer).pub.toNat ∧
    (touched longer).version.toNat = dNum publish 12 4 := by decide +kernel

theorem witness_session_children :
    let fork := line [(0, 4)]
    let f := sessing fork 4 session0
    let stale := sessing fork 4 { session0 with version := 1 }
    let moving := sessing fork 4 { session0 with state := .handoff }
    let full := sessing fork 1 session0
    let open_ := sessing (line [(0, 5)]) 4 session0
    commanded f fork 4 = true ∧ (f.session 0).state ≠ .lost ∧ (touched f).version.toNat = dNum fork 12 4 ∧ (touched f).state ≠ .handoff ∧
    ((f.sesLoad 0).touchSession 0).freeHandle (dTenant fork) = some 1 ∧ commanded stale fork 4 = true ∧ (touched stale).version.toNat ≠ dNum fork 12 4 ∧
    commanded moving fork 4 = true ∧ (touched moving).state = .handoff ∧ (touched moving).version.toNat = dNum fork 12 4 ∧
    commanded full fork 4 = true ∧ ((full.sesLoad 0).touchSession 0).freeHandle (dTenant fork) = none ∧
    commanded open_ (line [(0, 5)]) 5 = true := by decide +kernel

theorem witness_session_ends :
    let discard := line [(0, 6)]
    let offer := line [(0, 7)]
    let kept := sessing discard 4 { session0 with state := .handoff, hphase := .offered }
    let live := sessing discard 4 session0
    let o := sessing offer 4 session0
    let waking := sessing offer 4 { session0 with state := .waking }
    let epoch := sessing offer 4 { session0 with epoch := 1 }
    commanded kept discard 6 = true ∧ ((kept.session 0).state = .handoff ∧ ((kept.session 0).hphase = .offered ∨ (kept.session 0).hphase = .granted)) ∧
    commanded live discard 6 = true ∧ ¬((live.session 0).state = .handoff) ∧ commanded o offer 7 = true ∧ (o.session 0).state ≠ .lost ∧
    (touched o).state = .live ∧ (touched o).epoch.toNat = dNum offer 32 4 ∧ commanded waking offer 7 = true ∧
    (touched waking).state ≠ .live ∧ commanded epoch offer 7 = true ∧ (touched epoch).epoch.toNat ≠ dNum offer 32 4 ∧
    commanded (sessing (line [(0, 9)]) 4 session0) (line [(0, 9)]) 9 = true ∧
    commanded (sessing (line [(0, 10)]) 4 session0) (line [(0, 10)]) 10 = true := by decide +kernel

/-- An APPEND of one row of layer 0 from host port 0, starting at a position. -/
def append (start : Nat) : Line := line [(0, 2), (16, 1), (20, start), (48, 1)]

theorem witness_append_and_accept :
    let e : Session := { session0 with counts := [], root := [], kvfmt := 3 }
    let d := append 0
    let s := sessing d 4 e
    let u := (s.sesLoad 0).touchSession 0
    let x := u.session 0
    let bare := regsOf s [(R.sesArenaSize 0, 0)]
    let late := sessing d 4 session0
    let row (i hd kv : Nat) : List Byte := slice [] (((2 * hd + kv) * 1 + i) * x.row) x.row
    s.startSess 0 0 2 = some (flight0 d .queued) ∧ 1 ≤ fld d 128 21 ∧ fld d 128 21 ≤ 65536 ∧ fld d 160 21 + fld d 128 21 ≤ 1048576 ∧
    fld d 384 2 = 1 ∧ s.hostThere (fld d 386 2) = true ∧ s.sesBusy (attnSession d) = false ∧ s.layerBad (attnSession d) (fld d 192 16) = false ∧
    s.sesBehind (flight0 d .queued) = false ∧ s.appendBehind 0 (flight0 d .queued) = false ∧
    (s.sesLoad 0).lookSession (attnSession d) (dTenant d) (some (dNum d 12 4)) = .ok 0 ∧ (s.session 0).state ≠ .lost ∧
    u.appendRefusal 0 0 0 0 = none ∧ 0 % 256 = 0 ∧ (State.appendRows (.flight 0 0 40) 0 0 row 1 0 0 u).isSome = true ∧
    (State.appendRows (.flight 0 0 40) 0 0 row 1 0 0 ((bare.sesLoad 0).touchSession 0)).isNone = true ∧ ((bare.sesLoad 0).touchSession 0).appendRefusal 0 0 0 0 = none ∧
    ((late.sesLoad 0).touchSession 0).appendRefusal 0 0 0 0 = some (St.staleVersion, 1, some 0) ∧
    (late.sesLoad 0).lookSession (attnSession d) (dTenant d) (some (dNum d 12 4)) = .ok 0 ∧
    (sessing (line [(0, 8)]) 4 session0).startSess 0 0 8 = some (flight0 (line [(0, 8)]) .queued) := by decide +kernel

theorem witness_member_operations :
    let s := sessing (line [(0, 4)]) 4 session0
    let p := paired s
    let t := (s.applyMember .fork 0 1 0 0 0).getD s
    let q := (p.applyMember .fork 0 1 0 0 0).getD p
    let u := (q.setStage 0 0 .running).tellOthers .fork 0 1 0 0
    let op : SesOp := { ring := 0, pos := 0, kind := .fork, session := 0, child := 1, waiting := 2, missed := false }
    let w : State := { p with sesOps := [op] }
    let three : State := { p with sesOps := [{ op with waiting := 6 }] }
    (s.applyMember .fork 0 1 0 0 (BitVec.ofNat 6 s.devNo)).isSome = true ∧
    ((t.setStage 0 0 .running).tellOthers .fork 0 1 0 0).others = 0 ∧ (p.applyMember .fork 0 1 0 0 (BitVec.ofNat 6 p.devNo)).isSome = true ∧
    u.others ≠ 0 ∧ (∀ d ∈ maskList u.others, u.reachable d = true) ∧ s.pwr.state = .on ∧ s.ras.fog = false ∧ s.mgQueue.length < 256 ∧
    (s.applyMember .fork 5 6 0 0 0).isNone = true ∧ (w.sesOps.find? fun o => o.session.toNat == 0 && maskHas o.waiting (1 : Dev).toNat) = some op ∧
    maskDrop op.waiting 1 = 0 ∧ (three.sesOps.find? fun o => o.session.toNat == 0 && maskHas o.waiting 1) = some { op with waiting := 6 } ∧
    maskDrop (6 : Word) 1 ≠ 0 ∧ op.missed = false ∧
    (({ s with discarded := [{ handle := 0, entry := session0, at_ := 0 }] } : State).goneEntry 0) = some session0 ∧
    (s.applyMember (undoOf .fork) 0 1 0 0 0).isSome = true ∧ (s.makeChild 0 1 true 0 0 0).isSome = true ∧ (0 : Nat) < (s.session 0).nLayers ∧
    (s.session 0).state ≠ .free := by decide +kernel

theorem witness_session_pulls :
    let s := paired (sessing 0 4 session0)
    let asked : State := { s with pulls := [(0, .page 0 1)] }
    let remote : State := { s with sessions := [(0, { session0 with remote := true })] }
    let alone : State := { sessing 0 4 session0 with sessions := [(0, { session0 with remote := true })] }
    let full : State := { alone with sessions := [(0, { session0 with remote := true, pub := 1 })] }
    let bare := regsOf asked [(R.sesArenaSize 0, 0)]
    let e : State := { asked with pulls := [(2, .entry)] }
    let away : State := { s with sessions := [(1, { session0 with remote := true })] }
    s.pwr.state = .on ∧ s.ras.fog = false ∧ maskHas s.setMask (1 : Dev).toNat = true ∧ (s.session 0).state ≠ .free ∧
    (s.session 0).gen.toNat = sidGen 0 ∧ (s.session (sidHandle 2)).state = .free ∧ asked.pulls.contains (0, PullKind.page 0 1) = true ∧
    (remote.session 0).remote = true ∧ remote.isHome 0 = true ∧ (asked.takePage 0 0 1 0 []).isSome = true ∧
    (bare.takePage 0 0 1 0 []).isNone = true ∧ bare.pulls.contains (0, PullKind.page 0 1) = true ∧
    e.pulls.contains (2, PullKind.entry) = true ∧ (e.fillEntry (sidHandle 2) (sidGen 2) session0.info).isSome = true ∧
    alone.holdsAll (alone.session 0) = true ∧ alone.isHome 0 = true ∧ alone.stillReceiving (alone.sidOf 0) = 0 ∧ (alone.session 0).remote = true ∧
    ({ alone with receiving := [(alone.sidOf 0, 2)] } : State).stillReceiving (alone.sidOf 0) ≠ 0 ∧ away.isHome 1 = false ∧
    away.holdsAll (away.session 1) = true ∧ (away.session 1).remote = true ∧
    full.holdsAll (full.session 0) = false ∧ asked.pulls.any (fun e => e.1 == 0) = true := by decide +kernel

theorem witness_handoff_at_the_sender :
    let s (p : HPhase) : State := sessing 0 4 { session0 with state := .handoff, hphase := p, epoch := 7, peer := 2 }
    let named (s : State) (p : HPhase) : Bool := (s.session 0).gen.toNat == sidGen 0 && (s.session 0).state == .handoff
      && (s.session 0).hphase == p && (s.session 0).epoch == 7
    (s .offered).pwr.state = .on ∧ (s .offered).ras.fog = false ∧ named (s .offered) .offered = true ∧ ((s .offered).session 0).peer = 2 ∧
    ((s .offered).session 0).peer ≠ 3 ∧ named (s .granted) .granted = true ∧ named (s .offered) .granted = false ∧
    named (s .committed) .committed = true ∧ named (s .granted) .committed = false := by decide +kernel

/-- An ACCEPT in progress. -/
def accept0 (p : AcceptPhase) : Accept :=
  { ring := 0, pos := 0, tenant := 0, quiet := false, peer := 2, peerId := 9, epoch := 7, handle := some 1, phase := p }

theorem witness_handoff_at_the_receiver :
    let s (q : Word) (p : AcceptPhase) : State := { sessing 0 q session0 with accepts := [accept0 p] }
    let moved : Lease := { handoff := true, lost := false, phase := 3, epoch := 8, peer := 0 }
    let p := on.reg R.sesAcceptProfile
    let shape : EntryInfo := { session0.info with
      layers := BitVec.ofNat 8 (fld p 0 8), hdim := BitVec.ofNat 2 (fld p 8 2), kvh := BitVec.ofNat 4 (fld p 10 4)
      kvfmt := BitVec.ofNat 4 (fld p 14 4) }
    (s 4 .claiming).pwr.state = .on ∧ (s 4 .claiming).ras.fog = false ∧ (s 4 .claiming).acceptOf 2 9 = some (accept0 .claiming) ∧
    popBelow (4 : Word) 64 = (s 4 .claiming).setSize ∧ popBelow (12 : Word) 64 ≠ (s 4 .claiming).setSize ∧
    (s 4 .claiming).freeHandle 0 = some 1 ∧ (s 1 .claiming).freeHandle 0 = none ∧
    (s 4 .claiming).acceptable shape = true ∧ (s 4 .claiming).acceptable { shape with layers := 200 } = false ∧
    ((s 4 .claiming).newEntry 1 (receivedEntry shape 0 2 9 8 4)).isSome = true ∧
    (accept0 .claiming).quiet = false ∧ (s 4 .committing).acceptOf 2 9 = some (accept0 .committing) ∧
    (s 4 .readingLease).acceptOf 2 9 = some (accept0 .readingLease) ∧ (accept0 .readingLease).handle = some 1 ∧
    (moved.handoff = true ∧ moved.phase = 3 ∧ moved.epoch = (accept0 .readingLease).epoch + 1 ∧ moved.peer.toNat = (s 4 .readingLease).devNo) ∧
    ¬(({ moved with phase := 2 } : Lease).phase = 3) := by decide +kernel

theorem witness_session_timers :
    let s (x : Session) : State := sessing 0 4 x
    let away : State := { paired (s Session.none) with sessions := [(1, { session0 with state := .handoff })] }
    on.pwr.state = .on ∧ (s { session0 with state := .handoff, hphase := .granted }).pwr.state = .on ∧
    ((s { session0 with state := .handoff, hphase := .granted }).session 0).hphase = .granted ∧
    ((s { session0 with state := .handoff, hphase := .committed }).session 0).hphase = .committed ∧ ((s session0).session 0).state = .live ∧
    away.pwr.state = .on ∧ away.ras.fog = false ∧ away.heldPulls = [] ∧ (away.session 1).state = .handoff ∧
    (away.session 1).gen.toNat = sidGen 1 ∧ away.isHome 1 = false ∧ ((s session0).session 0).state ≠ .lost ∧
    ({ s session0 with discarded := [{ handle := 0, entry := session0, at_ := 0 }] } : State).discarded = { handle := 0, entry := session0, at_ := 0 } :: [] ∧
    (∀ o ∈ (s session0).sesOps, ¬(o.kind = .discard ∧ sidHandle o.session.toNat = 0)) ∧ (s session0).discarded = [] ∧
    ({ s session0 with reclaims := [{ page := 16, span := 2 }] } : State).reclaims = [{ page := 16, span := 2 }] ∧
    (∀ i < 2, ((s session0).granule (16 + i)).pins = 0) := by decide +kernel

/-! ## Queries and tables -/

theorem witness_attention_queries_start :
    let good : State := { withFlight (rotating .launch) 1 (query 0x11) .queued with sessions := [(0, session0)] }
    let away : State := { paired good with rings := [(0, { ring0 1 with sqHead := 1, flights := [flight0 (query 0x11 ||| line [(8, 1)]) .queued] })] }
    bit (good.reg R.sesCtrl) 0 = true ∧ good.mayStart 0 0 .attn = some (flight0 (query 0x11) .queued) ∧
    (good.sesLoad 0).attnCheck 0 (attnQ (query 0x11)) = .ok ∧
    (({ good with sessions := [] } : State).sesLoad 0).attnCheck 0 (attnQ (query 0x11)) = .ends (Cpl.why St.notOwner 0) ∧
    good.sesCache.contains 0 = false ∧ ({ good with sesCache := [0] } : State).sesCache.contains 0 = true ∧
    away.mayStart 0 0 .attn = some (flight0 (query 0x11 ||| line [(8, 1)]) .queued) ∧ bit (away.reg R.sesCtrl) 0 = true ∧
    (away.sesLoad 1).attnCheck 0 (attnQ (query 0x11 ||| line [(8, 1)])) = .pull 1 := by decide +kernel

theorem witness_attention_queries_commit :
    let a := attnQ (query 0x11)
    let s := binding .near false
    let empty : State := { s with sessions := [(0, { Session.none with state := .live })], leaves := [] }
    a.append = false ∧ a.rope = false ∧ a.tree = false ∧ a.srcHost = true ∧ a.dstHost = true ∧
    item3.written = false ∧ s.sentFor item3.ring.toNat item3.pos.toNat = false ∧ empty.attnLines a (empty.session 0) (fun i => i) 0 = [] ∧
    ((empty.count R.attPageTotal (a.pages fun i => i).length).pageFault (empty.session 0) a.layer (a.pages fun i => i)).isNone = true ∧
    (empty.session 0).state = .live ∧ s.attnLines a (s.session 0) (fun i => i) 0 = [] ∧
    ((State.count { s with poison := [(65536 * 16 / 64, true)] } R.attPageTotal (a.pages fun i => i).length).pageFault (s.session 0) a.layer
      (a.pages fun i => i)).isSome = true ∧
    State.attnLines { s with dir := [(65536 * 16 / 64, { Dir.none with state := .e, ptrs := [(0, 0)] })] } a (s.session 0)
      (fun i => i) 0 ≠ [] := by
  decide +kernel

/-- A table context for table 5 of partition 0: 16 elements a row, 4 rows. -/
def table5 : Line := line [(0, 5), (12, 4)]

/-- The device with an arena and that context staged by port 0. -/
def tableState (c : Line) : State :=
  regsOf on [(R.sesArenaBase 0, 0x100000), (R.sesArenaSize 0, 0x100000), (stageOff 0 (R.embTctxData 0), BitVec.ofNat 64 (fld c 0 64)),
    (stageOff 0 (R.embTctxData 1), BitVec.ofNat 64 (fld c 64 64)), (stageOff 0 (R.embTctxData 7), BitVec.ofNat 64 (fld c 448 64))]

/-- That table, defined. -/
def tab5 : Table := { ctx := table5, step := 0, base := 0x110000, dropped := 0, clipped := 0, nonfinite := 0 }

theorem witness_table_commands :
    let s := tableState table5
    let bad := tableState (table5 ||| line [(63, 1)])
    let other := tableState (table5 ||| line [(1, 0x10)])
    let defined : State := { s with tables := [(5, some tab5)] }
    let busy : State := { defined with installs := [{ ring := 0, pos := 0, table := 5, step := 0, cpl := Cpl.of St.done }] }
    let cmd : State := { s with tabCmd := some (0, 5, tab5) }
    s.openTo (0 : Port).toNat ∧ s.tabCmd = none ∧ bad.openTo (0 : Port).toNat ∧ tcBad (bad.stagedTable 0) = true ∧ tcBad (s.stagedTable 0) = false ∧
    tcTable (s.stagedTable 0) = 5 ∧ tcTable (s.stagedTable 0) ≠ 6 ∧ s.controls 0 (tcTenant (s.stagedTable 0)) = true ∧
    tcBad (other.stagedTable 0) = false ∧ tcTable (other.stagedTable 0) = 5 ∧ other.controls 0 (tcTenant (other.stagedTable 0)) = false ∧
    s.table 5 = none ∧ s.findRun 0 (tableFrameCount table5) = some 17 ∧ s.holdFails .near (tableFrameCount table5) = false ∧
    (regsOf s [(R.sesArenaSize 0, 0)]).findRun 0 (tableFrameCount table5) = none ∧ defined.table 5 = some tab5 ∧
    defined.openTo (0 : Port).toNat ∧ defined.controls 0 (tcTenant tab5.ctx) = true ∧ defined.tableBusy 5 = false ∧
    busy.tableBusy 5 = true ∧ cmd.tabCmd = some (0, 5, tab5) ∧ (0 : Nat) < tableFrameCount tab5.ctx := by
  simp only [State.openTo]; decide +kernel

/-- A CLOSE of table 5's step 0. -/
def closeTable : Line := line [(0, 2), (8, 5)]

theorem witness_embedding_descriptors_start :
    let s : State := { withFlight on 4 closeTable .queued with tables := [(5, some tab5)] }
    let none_ := withFlight on 4 closeTable .queued
    s.mayStart 0 0 .embu = some (flight0 closeTable .queued) ∧ (embQ .embu closeTable).op = 2 ∧
    ((RingKind.embu = .embl ∧ (2 = 1 ∨ 2 = 2)) ∨ (RingKind.embu = .embu ∧ (2 = 1 ∨ 2 = 2 ∨ 2 = 3))) ∧
    none_.mayStart 0 0 .embu = some (flight0 closeTable .queued) ∧ (none_.embCheck (embQ .embu closeTable) closeTable).isSome = true ∧
    (s.embCheck (embQ .embu closeTable) closeTable).isNone = true := by decide +kernel

/-- A GRAD's sums while it is being reversed. -/
def grad0 : GradSum :=
  { ring := 0, pos := 0, table := 5, step := 0, adds := [(0, 1)], accepted := 1, dropped := 0, clipped := 0, ends := some (Cpl.of St.stopped) }

theorem witness_steps_accumulate_and_close :
    let d := line [(0, 1), (8, 5), (12, 1), (48, 1)]
    let s : State := { withFlight on 4 d .running with tables := [(5, some tab5)], grads := [grad0] }
    let i : Install := { ring := 0, pos := 0, table := 5, step := 0, cpl := Cpl.of St.done }
    (s.steps.find? fun e => e.is 5 0 && e.row.toNat == 0) = none ∧ s.stepUsed + entryBytes tab5.ctx ≤ 8 * 2 ^ 30 ∧
    (s.grads.find? fun g => g.is 0 0 && g.ends.isSome) = some grad0 ∧ s.table (5 : TableId).toNat = some tab5 ∧
    s.flight 0 0 = some (flight0 d .running) ∧
    (match ({ s with grads := [] } : State).gradRead 0 (embQ .embu d) tab5.ctx (flight0 d .running) with
      | .ok .. => true
      | _ => false) = true ∧
    (({ s with installs := [i] } : State).installs.find? fun i => i.table.toNat == 5) = some i := by decide +kernel

/-! ## The storage tiers -/

/-- The sealed device with drives 0 and 1 in service, holding 16,384 granules each. -/
def drives2 : State :=
  { sealedOn with drives := [(0, { Drive.off with state := .inService, granules := 16384 }), (1, { Drive.off with state := .inService, granules := 16384 })] }

theorem witness_tiers_become_ready :
    let ready : State :=
      { drives2 with preparing := true, drives := drives2.drives.map fun e => (e.1, { e.2 with prepared := 2 }) }
    on.openTo (0 : Port).toNat ∧ on.controls (0 : Port).toNat 0 = true ∧ on.keeper.sealed = false ∧ drives2.openTo (0 : Port).toNat ∧
    drives2.controls (0 : Port).toNat 0 = true ∧ drives2.keeper.sealed = true ∧ bit (drives2.reg R.tierCtrl) 0 = false ∧
    bit ((regsOf drives2 [(R.tierCtrl, 1)]).reg R.tierCtrl) 0 = true ∧ (regsOf drives2 [(R.tierCtrl, 1)]).openTo (0 : Port).toNat ∧
    ready.pwr.state = .on ∧ ready.ras.fog = false ∧ ready.preparing = true ∧ (∀ d ∈ ready.drivesUp, (ready.drive d).prepared = 2) ∧
    ready.drivesUp ≠ [] ∧ (∀ d ∈ ready.drivesUp, 16384 ≤ (ready.drive d).granules) ∧ (∃ d ∈ ready.drivesUp, (ready.drive d).granules = 16384) ∧
    on.drivesUp = [] ∧ (∀ d ∈ on.drivesUp, (on.drive d).prepared = 2) ∧ R.tierCtrl ≠ R.tierDenseBytes ∧ R.tierCtrl ≠ R.tierCapacity := by
  simp only [State.openTo]; decide +kernel

/-- Drive 0 with a command outstanding. -/
def driveCmd0 (s : State) (code : Nat) : State := { s with drives := [(0, { Drive.off with state := .inService, cmds := [code], perst := false })] }

theorem witness_drive_commands_end :
    let s := driveCmd0 on 16
    let w := driveCmd0 on (writeCode 16 0 1)
    let direct := driveCmd0 on (directCode 16)
    let fog : State := { s with ras := { s.ras with fog := true } }
    let filling : State := { s with granules := [(16, { Granule.none with fill := some .near })] }
    let resetting : State := { s with drives := [(0, { s.drive 0 with resetting := true })] }
    let waiting : State := { s with drives := [(0, { s.drive 0 with cmds := [], queued := [16] })] }
    let lowered : State := { s with drives := [(0, { s.drive 0 with queued := [16], resetting := true })] }
    let ended (s : State) : State := (s.updDrive 0 fun x => { x with cmds := x.cmds.erase 16 }).drivesGoOn s
    (BitVec.ofNat 48 (directCode 16)).toNat = directCode 16 ∧ (direct.drive 0).cmds.contains (directCode 16) = true ∧
    ((direct.updDrive 0 fun x => { x with cmds := x.cmds.erase (directCode 16) }).drivesGoOn direct).ras.fog = false ∧
    (s.drive 0).cmds.contains (16 : BitVec 48).toNat = true ∧ s.pwr.state ≠ .off ∧ s.pwr.state ≠ .boot ∧ s.ras.fog = false ∧
    (16 : BitVec 48).toNat < 2 ^ 34 ∧ ((driveCmd0 on deallocCode).drive 0).cmds.contains deallocCode = true ∧
    (BitVec.ofNat 48 deallocCode).toNat = deallocCode ∧ (BitVec.ofNat 48 cacheCode).toNat = cacheCode ∧
    ((driveCmd0 on cacheCode).drive 0).cmds.contains cacheCode = true ∧ (w.drive 0).cmds.contains (writeCode 16 0 1) = true ∧
    isWrite (writeCode 16 0 1) = true ∧ fog.ras.fog = true ∧ (fog.drive 0).cmds.contains 16 = true ∧
    ((ended filling).granule 16).fill.isSome = true ∧ ((ended s).granule 16).fill = none ∧ (ended s).ras.fog = false ∧
    (ended fog).ras.fog = true ∧ (16 : Nat) ≠ deallocCode ∧ (16 : Nat) ≠ cacheCode ∧ isWrite 16 = false ∧ writeCode 16 0 1 ≠ deallocCode ∧
    writeCode 16 0 1 ≠ cacheCode ∧ (waiting.drive 0).queued = [16] ∧ waiting.driveRoom 0 16 = true ∧ (lowered.drive 0).queued = [16] ∧
    lowered.driveRoom 0 16 = false ∧ (s.drive 0).state = .inService ∧ (s.drive 0).cmds = [16] ∧
    s.preparing = false ∧ ({ s with preparing := true } : State).preparing = true ∧ (resetting.drive 0).resetting = true ∧
    (s.drive 0).state ≠ .absent ∧ (resetting.drive 0).state = .inService ∧ (resetting.drive 0).perst = false ∧ (63 : Nat) < 64 := by decide +kernel

/-- An eviction of granule 16 with its first two units dirty. -/
def evicting (evict dirty marks : BitVec 16) (passes : Nat) (held : Bool) : State :=
  { drives2 with
    backed := true, stripe := [0, 1]
    granules := [(16, { Granule.none with tier := .far, evict, dirty, dramHeld := held, move := some { dst := .none, frame := 0, marks, passes, todo := 0, copied := 0 } })] }

theorem witness_write_back :
    let run (s : State) : BitVec 16 := (s.granule 16).evict &&& unitRun 0 1
    let left (s : State) : BitVec 16 := (s.granule 16).evict &&& ~~~run s
    let dirty (s : State) (m : BitVec 16) : BitVec 16 := (s.granule 16).dirty &&& ~~~(run s &&& ~~~m)
    ((evicting 3 3 0 0 false).granule 16).move = some { dst := .none, frame := 0, marks := 0, passes := 0, todo := 0, copied := 0 } ∧
    left (evicting 3 3 0 0 false) ≠ 0 ∧ left (evicting 1 1 0 0 false) = 0 ∧ run (evicting 1 1 0 0 false) ≠ 0 ∧
    ((evicting 1 1 0 0 false).granule 16).dramHeld = false ∧ ((evicting 1 1 0 0 false).granule 16).nearHeld = false ∧
    dirty (evicting 1 1 0 0 false) 0 = 0 ∧ dirty (evicting 1 1 1 2 false) 1 ≠ 0 ∧ 2 + 1 ≠ 4 ∧ 3 + 1 = 4 ∧
    ((evicting 1 1 1 3 false).granule 16).move = some { dst := .none, frame := 0, marks := 1, passes := 3, todo := 0, copied := 0 } ∧
    ((evicting 1 1 0 0 true).granule 16).dramHeld = true ∧ left (evicting 1 1 0 0 true) = 0 ∧ run (evicting 1 1 0 0 true) ≠ 0 := by decide +kernel

theorem witness_tier_unit :
    let filling (waits : Bool) : State := { drives2 with granules := [(16, { Granule.none with fill := some .near, waits })] }
    let far : State := { filling true with granules := [(16, { Granule.none with fill := some .far, waits := true })] }
    let copying (marks : BitVec 16) (passes : Nat) : State := { drives2 with granules := [(16, { Granule.none with
      tier := .far, move := some { dst := .near, frame := 1, marks, passes, todo := 0, copied := 0 } })] }
    let w := evicting 0 1 0 0 false
    let clean := evicting 0 0 0 0 false
    drives2.pwr.state = .on ∧ drives2.ras.fog = false ∧ ((filling false).granule 16).fill = some .near ∧
    ((filling false).granule 16).waits = false ∧ (filling false).reading 16 = false ∧ ((filling true).granule 16).waits = true ∧
    (filling true).pickFrame .near = some 0 ∧ (far.granule 16).fill = some .far ∧ far.pickFrame .far = none ∧
    ((copying 0 0).granule 16).move = some { dst := .near, frame := 1, marks := 0, passes := 0, todo := 0, copied := 0 } ∧
    ((copying 1 3).granule 16).move = some { dst := .near, frame := 1, marks := 1, passes := 3, todo := 0, copied := 0 } ∧ (1 : BitVec 16) ≠ 0 ∧ 3 + 1 = 4 ∧
    2 + 1 ≠ 4 ∧ ((copying 0 0).granule 16).nearHeld = false ∧ Tier.near ≠ .none ∧
    (w.granule 16).move = some { dst := .none, frame := 0, marks := 0, passes := 0, todo := 0, copied := 0 } ∧ (w.granule 16).evict = 0 ∧ w.driveOf 16 = some 0 ∧
    (w.drive 0).state = .inService ∧ w.fenced 5 0 = false ∧ (∀ c ∈ (w.drive 0).cmds ++ (w.drive 0).queued, ¬(isWrite c = true ∧ (writeOf c).1 = 16)) ∧
    w.stagingUsed (0 / 4) < 64 ∧ (w.granule 16).dramHeld = false ∧ ((evicting 0 1 0 0 true).granule 16).dramHeld = true ∧
    (w.granule 16).dirty ≠ 0 ∧ (clean.granule 16).dirty = 0 ∧
    (w.granule ((16384 : BitVec 44).toNat / 1024)).tier = .far ∧ w.pwr.state = .on ∧ w.ras.fog = false := by decide +kernel

/-! ## Translation -/

/-- A mapped pool with an XINV descriptor in hand. -/
def xinv (d : Line) : State :=
  { withFlight (mapped 0) 5 d .queued with marks := [(0, { key := 0, tenant := 0, valid := true, drain := false })] }

/-- PTWRITE of 8 bytes to offset 0x2000 from host port 0, and from an address of the pool. -/
def ptwriteHost : Line := line [(0, 1), (16, 8), (24, 0x2000), (28, 1)]
def ptwritePool (a : Nat) : Line := line [(0, 1), (8, a), (16, 8), (24, 0x2000)]

theorem witness_xinv_descriptors :
    let bad := line [(0, 1), (16, 4)]
    let inval := line [(0, 2), (16, 65536)]
    let setroot := line [(0, 3), (24, 0x1000)]
    let poisoned : State := { xinv (ptwritePool 64) with poison := [(1, true)] }
    let read (s : State) (d : Line) : List PByte × Option (Nat × Refuse) :=
      (s.setStage 0 0 .running).gather ((s.setStage 0 0 .running).xinvEng 0 0) (pieces 8) (dNum d 8 8) 8
    let needs (s : State) (d : Line) : List Need :=
      (s.setStage 0 0 .running).needs ((s.setStage 0 0 .running).xinvEng 0 0) (pieces 8) (dNum d 8 8) 8
    let held : State := { xinv (ptwritePool 0) with dir := [(0, { Dir.none with state := .e, ptrs := [(0, 0)] })] }
    (xinv bad).mayStart 0 0 .xinv = some (flight0 bad .queued) ∧ (xinv bad).xinvCheck 0 bad = some (16, 7) ∧ dOpcode bad = 1 ∧
    (xinv ptwriteHost).mayStart 0 0 .xinv = some (flight0 ptwriteHost .queued) ∧ (xinv ptwriteHost).xinvCheck 0 ptwriteHost = none ∧
    dOpcode ptwriteHost = 1 ∧ fld ptwriteHost 224 2 = 1 ∧ (xinv (ptwritePool 0)).xinvCheck 0 (ptwritePool 0) = none ∧
    (xinv (ptwritePool 0)).mayStart 0 0 .xinv = some (flight0 (ptwritePool 0) .queued) ∧ fld (ptwritePool 0) 224 2 ≠ 1 ∧
    (read (xinv (ptwritePool 0)) (ptwritePool 0)).1 = (List.replicate 8 0).map (·, false) ∧ (read (xinv (ptwritePool 0)) (ptwritePool 0)).2 = none ∧
    (read poisoned (ptwritePool 64)).1.any Prod.snd = true ∧ (read poisoned (ptwritePool 64)).2 = none ∧
    poisoned.xinvCheck 0 (ptwritePool 64) = none ∧ poisoned.mayStart 0 0 .xinv = some (flight0 (ptwritePool 64) .queued) ∧
    (read (xinv (ptwritePool (2 ^ 31))) (ptwritePool (2 ^ 31))).2 = some (2 ^ 31, .xlat 1 2) ∧
    (xinv inval).mayStart 0 0 .xinv = some (flight0 inval .queued) ∧ (xinv inval).xinvCheck 0 inval = none ∧ dOpcode inval = 2 ∧
    (xinv setroot).mayStart 0 0 .xinv = some (flight0 setroot .queued) ∧ (xinv setroot).xinvCheck 0 setroot = none ∧ dOpcode setroot = 3 ∧
    needs (xinv (ptwritePool 0)) (ptwritePool 0) = [] ∧ needs held (ptwritePool 0) ≠ [] ∧ held.xinvCheck 0 (ptwritePool 0) = none ∧
    held.mayStart 0 0 .xinv = some (flight0 (ptwritePool 0) .queued) ∧ needs poisoned (ptwritePool 64) = [] ∧
    needs (xinv (ptwritePool (2 ^ 31))) (ptwritePool (2 ^ 31)) = [] ∧
    (xinv inval).bcasts = [] := by decide +kernel

/-- A walk of partition 0 for gallery 0 at a level of the mapped pool's tables. -/
def walking (level table : Nat) (stale : Bool) (dva : Word) : State :=
  { mapped 0 with walks := [(0, { gallery := 0, tenant := 0, dva, level, table, drops := if stale then [(0, 65536)] else [], prefetch := false })] }

theorem witness_invalidations_and_walks :
    let entry (s : State) (level table dva : Nat) : Word := s.ptEntry table dva level
    on.pwr.state = .on ∧ on.ras.fog = false ∧ (lget (walking 3 0x1000 false 0).walks (0 : BitVec 7).toNat).isSome = true ∧
    (walking 3 0x1000 false 0).fenced 8 ((walking 3 0x1000 false 0).dieOfGallery 0) = false ∧
    bit (entry (walking 3 0x1000 false 0) 3 0x1000 0) 0 = true ∧
    entryFault 0 0x3000 3 (entry (walking 3 0x1000 false 0) 3 0x1000 0) = none ∧
    isLeaf 3 (entry (walking 3 0x1000 false 0) 3 0x1000 0) = false ∧
    bit (entry (walking 2 0x2000 false 0) 2 0x2000 0) 0 = true ∧ entryFault 0 0x3000 2 (entry (walking 2 0x2000 false 0) 2 0x2000 0) = none ∧
    isLeaf 2 (entry (walking 2 0x2000 false 0) 2 0x2000 0) = true ∧
    Walk.stale ((lget (walking 2 0x2000 true 0).walks 0).getD { gallery := 0, tenant := 0, dva := 0, level := 0, table := 0, drops := [], prefetch := false }) 2 = true ∧
    bit (entry (walking 2 0x2000 false 0x40000000) 2 0x2000 0x40000000) 0 = false ∧
    bit (entry (walking 3 0x2000 false 0) 3 0x2000 0) 0 = true ∧
    entryFault 0 0x3000 3 (entry (walking 3 0x2000 false 0) 3 0x2000 0) = some 2 ∧
    (mapped 0).tlbFind 32 0 0x1000 = none ∧ (match (mapped 0).translate 32 0 0x1000 false with
      | .ok x => x.key == 0
      | .error _ => false) = true ∧
    (match ((walking 2 0x2000 true 0).count R.xltRewalkTotal).startWalk 0 0 0 false with
      | .ok _ => true
      | .error _ => false) = true ∧
    (match (regsOf (walking 2 0x2000 true 0) [(R.xltRoot 0, 0)]).startWalk 0 0 0 false with
      | .ok _ => false
      | .error e => e == (1, 4)) = true := by decide +kernel

/-! ## Weight regions -/

/-- The device with region 0 of partition 0, one block at pool offset 0, its seal records at 0x20000, the first beginning with `mode`, and
a key in slot 0. -/
def weights (ctrl : Word) (mode : Nat) (keyed : Bool) : State :=
  let s := regsOf on [(R.tierCapacity, 0x100000000), (R.glsRegionCtrl 0, ctrl), (R.glsRegionSize 0, 0x10000), (R.glsRegionSeal 0, 0x20000)]
  { s.poolWrite 0x20000 [BitVec.ofNat 8 mode] with
    keeper := { s.keeper with parts := if keyed then [(0, { Part.off with keys := [(0, { key := 0, pfx := 0 })] })] else [] } }

theorem witness_weight_regions :
    (weights 0 0 true).openTo (0 : Port).toNat ∧ (weights 1 0 true).openTo (0 : Port).toNat ∧
    (weights 0 0 true).controls 0 ((weights 0 0 true).regionTenant 0) = true ∧ (weights 1 0 true).controls 0 ((weights 1 0 true).regionTenant 0) = true ∧
    (weights 0 0 true).controls 0 (fld (2 : BitVec 32) 1 4) = false ∧ (weights 0 0 true).controls 0 (fld (1 : BitVec 32) 1 4) = true ∧
    (weights 1 0 true).regionValid 0 = true ∧ fld (0x21 : BitVec 32) 5 4 ≠ (weights 1 0 true).regionKey 0 ∧
    fld (1 : BitVec 32) 1 4 = (weights 1 0 true).regionTenant 0 ∧ fld (1 : BitVec 32) 5 4 = (weights 1 0 true).regionKey 0 ∧
    ¬((weights 0 0 true).regionValid 0 = true ∨ (weights 0 0 true).regionPending 0 = true) ∧
    (weights 0 0 true).regionPending 0 = false ∧ (weights 0x200 0 true).regionPending 0 = true := by
  simp only [State.openTo]; decide +kernel

theorem witness_weight_blocks :
    (weights 1 2 true).regionValid 0 = true ∧ 65536 * (0 : BitVec 32).toNat < (weights 1 2 true).regionSize 0 ∧ (weights 1 2 true).ras.fog = false ∧
    (weights 1 2 false).readBlock 0 0 = .tagFail ∧
    ({ weights 1 2 true with poison := [(0x800, true)] } : State).readBlock 0 0 = .poisoned 0x20000 ∧ (weights 1 2 false).regionValid 0 = true ∧
    (weights 1 2 true).keptBlock 0 0 = none ∧ ({ weights 1 2 true with blocks := [{ die := (weights 1 2 true).blockDie 0, region := 0, tenant := 0, block := 0, bytes := [7] }] } :
      State).keptBlock 0 0 = some [7] := by decide +kernel

/-- The tag is another standard's function (log entry 19): where it passes, a zero block expands and a block with a bad header does not. -/
theorem witness_weight_blocks_opened (p q : List Byte) :
    let h := ((weights 1 2 true).sealRecord 0 0).take 32
    let g := ((weights 1 0 true).sealRecord 0 0).take 32
    (Config.gcmOpen 0 0 h [] 0 = some p → (weights 1 2 true).readBlock 0 0 = .ok (List.replicate 65536 0)) ∧
    (Config.gcmOpen 0 0 g [] 0 = some q → (weights 1 0 true).readBlock 0 0 = .decodeError) := by
  have block : ∀ mode : Nat, mode ∈ [0, 2] → let s := weights 1 mode true
      let r := s.sealRecord 0 0
      ((s.part (s.regionTenant 0)).keys.find? fun k => k.1 == s.regionKey 0) = some (0, ModelKey.mk 0 0) ∧
      ¬(numAt r 32 4 ≠ (ModelKey.mk 0 0).pfx.toNat ∨ numAt r 36 8 ≠ 0 ∨ numAt r 60 4 ≠ 0) ∧ s.blockPoison 0 0 = none ∧
      s.poolRead (s.regionBase 0 + 65536 * 0) (64 * min 1024 (hdrLines (r.take 32))) = [] ∧
      BitVec.ofNat 96 (numAt r 32 12) = 0 ∧ BitVec.ofNat 128 (numAt r 44 16) = 0 := by decide +kernel
  intro h g
  refine ⟨fun hp => ?_, fun hq => ?_⟩
  · obtain ⟨b1, b2, b6, b3, b4, b5⟩ := block 2 (by decide)
    have ok : hdrOk h = true ∧ hdrMode h = 2 := by decide +kernel
    have e : expand h p = some (List.replicate 65536 0) := by simp only [expand, ok.1, ok.2]; rfl
    simp only [State.readBlock, b1, if_neg b2, b6, b3, b4, b5]
    rw [hp]; dsimp only; simp only [h] at e; rw [e]
  · obtain ⟨b1, b2, b6, b3, b4, b5⟩ := block 0 (by decide)
    have ok : hdrOk g = false := by decide +kernel
    have e : expand g q = none := by simp only [expand, ok]; rfl
    simp only [State.readBlock, b1, if_neg b2, b6, b3, b4, b5]
    rw [hq]; dsimp only; simp only [g] at e; rw [e]

/-! ## Links -/

/-- The device, sealed or not, with link 0 in a state. -/
def linked (base : State) (x : SLink) : State := { base with links := [(0, x)] }

theorem witness_links_change_state :
    let s (st : LinkState) : State := linked sealedOn { SLink.off with state := st }
    let low (st : LinkState) : State := { s st with links := [(0, { SLink.off with state := st, retrainKey := true })] }
    (s .down).pwr.state ≠ .off ∧ (s .down).pwr.state ≠ .boot ∧ (s .down).keeper.sealed = true ∧ (s .down).sportThere (0 : SPort).toNat = true ∧
    ((s .down).link 0).state = .down ∧ ((linked sealedOn { SLink.off with state := .down, reason := 2 }).link 0).reason = 2 ∧
    ((s .train).link 0).state = .train ∧ ((s .retrain).link 0).state = .retrain ∧ 20 < (21 : BitVec 11).toNat ∧
    ¬(20 < (20 : BitVec 11).toNat) ∧ ((s .key).link 0).state = .key ∧ (0x11 : Byte).toNat < (s .key).rackLevel ∧
    ¬((0x12 : Byte).toNat < (s .key).rackLevel) ∧ ((low .retrain).link 0).retrainKey = true ∧
    ((s .active).link 0).state = .active ∧ ((s .idle).link 0).state = .idle ∧ ((s .failed).link 0).state = .failed ∧
    ((s .active).link 0).state ≠ .disabled ∧ (s .active).openTo (0 : Port).toNat ∧ (s .active).controls (0 : Port).toNat 0 = true ∧
    (1 : Nat) ≠ 0 := by
  simp only [State.openTo]; decide +kernel

/-- Bytes above the ones asked for do not count. -/
theorem leBytes_add : ∀ (n p k : Nat), leBytes n (p + k * 256 ^ n) = leBytes n p
  | 0, _, _ => rfl
  | n + 1, p, k => by
    have e : p + k * 256 ^ (n + 1) = p + 256 * (k * 256 ^ n) := by rw [Nat.pow_succ]; ac_rfl
    have m : (p + k * 256 ^ (n + 1)) % 256 = p % 256 := by rw [e, Nat.add_mul_mod_self_left]
    have d : (p + k * 256 ^ (n + 1)) / 256 = p / 256 + k * 256 ^ n := by
      rw [e, Nat.add_mul_div_left _ _ (by decide)]
    simp only [leBytes, m, d, leBytes_add n]

/-- What a fold keeps at every step holds of its result. -/
theorem foldl_keeps {α β : Type} (P : β → Prop) (f : β → α → β) (h : ∀ b a, P b → P (f b a)) :
    ∀ (l : List α) (b : β), P b → P (l.foldl f b)
  | [], _, hb => hb
  | a :: l, b, hb => foldl_keeps P f h l (f b a) (h b a hb)

theorem crc64_lt (bs : List Byte) : crc64 bs < 2 ^ 64 := by
  unfold crc64
  refine foldl_keeps (· < 2 ^ 64) _ (fun c b hc => ?_) bs 0 (by decide)
  have hb : b.toNat * 2 ^ 56 < 2 ^ 64 := by have := b.isLt; omega
  refine foldl_keeps (· < 2 ^ 64) _ (fun c _ hc => ?_) _ _ (Nat.xor_lt_two_pow hc hb)
  split
  · exact Nat.xor_lt_two_pow (Nat.mod_lt _ (by decide)) (by decide)
  · omega

/-- A flit of 248 bytes `p` with its CRC. -/
def sum (p : Nat) : BitVec 2048 := BitVec.ofNat 2048 (p + crc64 (leBytes 248 p) * 2 ^ 1984)

theorem parts_toNat (a b p c : Nat) (h : p < 2 ^ a) (hc : c < 2 ^ b) : (BitVec.ofNat (a + b) (p + c * 2 ^ a)).toNat = p + c * 2 ^ a := by
  have t : (c + 1) * 2 ^ a ≤ 2 ^ b * 2 ^ a := Nat.mul_le_mul_right _ hc
  rw [BitVec.toNat_ofNat]
  refine Nat.mod_eq_of_lt ?_
  rw [Nat.succ_mul] at t
  rw [Nat.pow_add, Nat.mul_comm (2 ^ a)]
  omega

theorem sum_toNat (p : Nat) (h : p < 2 ^ 1984) : (sum p).toNat = p + crc64 (leBytes 248 p) * 2 ^ 1984 :=
  parts_toNat 1984 64 p _ h (crc64_lt _)

/-- Its CRC is intact. -/
theorem sum_intact (p : Nat) (h : p < 2 ^ 1984) : fld (sum p) 1984 64 = flitCrc (sum p) := by
  have e : (256 : Nat) ^ 248 = 2 ^ 1984 := by rw [show (256 : Nat) = 2 ^ 8 by rfl, ← Nat.pow_mul]
  have b : flitCrc (sum p) = crc64 (leBytes 248 p) := by
    rw [flitCrc, sum_toNat p h, ← e, leBytes_add]
  rw [b, fld, sum_toNat p h, Nat.add_mul_div_right _ _ (Nat.two_pow_pos _), Nat.div_eq_of_lt h, Nat.zero_add]
  exact Nat.mod_eq_of_lt (crc64_lt _)

/-- Its fields are those of `p`. -/
theorem sum_fld (p lo n : Nat) (h : p < 2 ^ 1984) (hl : lo + n ≤ 1984) : fld (sum p) lo n = p / 2 ^ lo % 2 ^ n := by
  obtain ⟨k, hk⟩ : ∃ k, 1984 = k + n + lo := ⟨1984 - (lo + n), by omega⟩
  have e : ∀ c, c * 2 ^ 1984 = c * 2 ^ k * 2 ^ n * 2 ^ lo := fun c => by rw [hk, Nat.pow_add, Nat.pow_add]; ac_rfl
  rw [fld, sum_toNat p h, e, Nat.add_mul_div_right _ _ (Nat.two_pow_pos lo), Nat.add_mul_mod_self_right]
theorem sum_bit (p i : Nat) (h : p < 2 ^ 1984) (hi : i + 1 ≤ 1984) : bit (sum p) i = (p / 2 ^ i % 2 == 1) := by
  have := sum_fld p i 1 h hi
  simpa [fld, bit] using congrArg (· == 1) this

/-- Whether its tag opens a flit is another standard's function (log entry 19); one of the last two cases holds of every flit. -/
theorem witness_flits_are_received :
    let s (nak : Bool) (same : Nat) : State := linked sealedOn { SLink.off with state := .active, nakSet := nak, sameNak := same }
    let seq (f : BitVec 2048) : Nat := (if fld f 34 28 == 0 then (SLink.off).expSeq - 1 else (SLink.off).expSeq).toNat
    ((s false 0).pwr.state ≠ .off ∧ (s false 0).pwr.state ≠ .boot ∧ ((s false 0).link 0).state = .active ∧
      ((s true 3).link 0).nakSet = true ∧ ((s false 0).link 0).nakSet = false ∧ 3 ≤ ((s true 3).link 0).sameNak) ∧
    (¬(false = true ∧ fld (sum 0) 1984 64 = flitCrc (sum 0))) ∧
    (∀ p : Nat, p = 0x3FF ∨ p = 2 ^ 34 ∨ p = 2 ^ 63 ∨ p = 5 + 2 ^ 34 → fld (sum p) 1984 64 = flitCrc (sum p)) ∧
    (bit (sum 0x3FF) 63 = false ∧ fld (sum 0x3FF) 34 28 = 0 ∧ fld (sum 0x3FF) 0 10 = seq (sum 0x3FF)) ∧
    (bit (sum (2 ^ 34)) 63 = false ∧ ¬fld (sum (2 ^ 34)) 34 28 = 0 ∧ fld (sum (2 ^ 34)) 0 10 = seq (sum (2 ^ 34))) ∧
    bit (sum (2 ^ 63)) 63 = true ∧
    (bit (sum (5 + 2 ^ 34)) 63 = false ∧ ¬(fld (sum (5 + 2 ^ 34)) 0 10 = seq (sum (5 + 2 ^ 34)))) := by
  have h : ∀ p : Nat, p = 0x3FF ∨ p = 2 ^ 34 ∨ p = 2 ^ 63 ∨ p = 5 + 2 ^ 34 → p < 2 ^ 1984 := fun p hp =>
    Nat.lt_of_lt_of_le (show p < 2 ^ 64 by omega) (Nat.pow_le_pow_right (by decide) (by decide))
  have f (p lo n : Nat) (hp : p = 0x3FF ∨ p = 2 ^ 34 ∨ p = 2 ^ 63 ∨ p = 5 + 2 ^ 34) (hl : lo + n ≤ 1984) := sum_fld p lo n (h p hp) hl
  have g (p : Nat) (hp : p = 0x3FF ∨ p = 2 ^ 34 ∨ p = 2 ^ 63 ∨ p = 5 + 2 ^ 34) := sum_bit p 63 (h p hp) (by decide)
  refine ⟨by decide +kernel, by simp, fun p hp => sum_intact p (h p hp), ?_⟩
  rw [g _ (by simp), f _ _ _ (by simp) (by decide), f _ _ _ (by simp) (by decide), g _ (by simp), f _ _ _ (by simp) (by decide),
    f _ _ _ (by simp) (by decide), g _ (by simp), g _ (by simp), f _ _ _ (by simp) (by decide)]
  simp only [f _ 34 28 (Or.inl rfl) (by decide), f _ 34 28 (Or.inr (Or.inl rfl)) (by decide),
    f _ 34 28 (Or.inr (Or.inr (Or.inr rfl))) (by decide)]
  decide +kernel

/-! ## Coherence -/

/-- A request of partition 0 for line 0, from this device's checked engines. -/
def req0 : Req :=
  { nl := 0, rot := false, src := 0, agent := 0, tenant := 0, tag := 0, tgt := false, key := 0, addr := 0, data := [0], mask := 0
    operand := 0, comparand := 0, poison := false }

/-- A response and a snoop for this device. -/
def rsp0 : Rsp :=
  { nl := 0, rot := false, dst := 0, tag := 0, stale := false, status := 0, sector := 0, overocc := false, grant := 0, fwd := false
    agent := 0, from_ := 0, info := 0, data := [0] }
def snp0 : Snp := { rot := false, requester := 0, agent := 0, tag := 0, target := 0, gallery := 0, owner := true, tenant := 0, addr := 0 }

/-- Port 3 made an endpoint's, and ports 0 and 1 UP ports of ACTIVE links. -/
def endpointed : State :=
  { on with
    rwk := tput (rwkReset on.variant) on.rwk (R.smfPortCfg 3) 1
    links := [(0, { SLink.off with state := .active }), (1, { SLink.off with state := .active }), (3, { SLink.off with state := .active })] }

theorem witness_messages :
    let s := endpointed
    let open_ := regsOf s [(R.smfPortTmask 3, 1)]
    let routed := regsOf s [(R.smfRoute 1, 33), (R.smfRoute 2, 35)]
    on.pwr.state = .on ∧ (Instr.rdS 0 req0, HomeOp.rdS) ∈ [(Instr.rdS 0 req0, HomeOp.rdS)] ∧ snp0.target.toNat = on.devNo ∧
    ({ snp0 with target := 1 } : Snp).target.toNat ≠ on.devNo ∧ on.isOwn (epDev rsp0.dst) (epLocal rsp0.dst) = true ∧
    on.isOwn (epDev 64) (epLocal 64) = false ∧ on.ras.fog = false ∧ on.mgQueue.length < 256 ∧
    256 ≤ ({ on with mgQueue := List.replicate 256 (0, 0, .other []) } : State).mgQueue.length ∧
    (s.isEndpoint 3 = true ∧ bit (s.reg (R.smfPortTmask 3)) req0.tenant.toNat = false) ∧
    (open_.isEndpoint 3 = true ∧ bit (open_.reg (R.smfPortTmask 3)) req0.tenant.toNat = true ∧ endpointMay .rdS = false ∧ endpointMay .rdNc = true) ∧
    s.isEndpoint 0 = false ∧ s.isOwn (reqDest req0).1 (reqDest req0).2 = true ∧ req0.tgt = false ∧
    s.isOwn (reqDest { req0 with tgt := true }).1 (reqDest { req0 with tgt := true }).2 = true ∧
    s.isOwn (reqDest { req0 with addr := 2 ^ 50 }).1 (reqDest { req0 with addr := 2 ^ 50 }).2 = false ∧
    routed.exitPort 1 63 = some 1 ∧ (routed.isUp 0 = true ∧ routed.isUp 1 = true) ∧ routed.exitPort 2 63 = some 3 ∧
    ¬(routed.isUp 0 = true ∧ routed.isUp 3 = true) := by decide +kernel

/-- A transaction of line 0 that awaits what is given. -/
def txn0 (op : HomeOp) (awaiting : List (Nat × Nat × Nat)) : Txn :=
  { op, req := req0, host := none, lines := [0], awaiting, hosts := [], sharer := false, forwarded := false, poison := false
    hostWait := false, answered := false }

theorem witness_homes_serve_requests :
    let s : State := pool0
    let refuses (s : State) (op : HomeOp) : Option Refuse :=
      s.homeRefuses (req0.addr.toNat % 2 ^ 50) req0.tenant.toNat req0.key (op.writes || op == .rdX || op == .upg || (op == .evict && bit req0.nl 0)) (reqChecked req0)
    let drained : State := { s with marks := [(0, { key := 0, tenant := 0, valid := true, drain := true })] }
    let t : State := { s with txns := [(0, txn0 .rdS [])] }
    let shared : State := { s with dir := [(0, { Dir.none with state := .s, ptrs := [(0, 1)] })] }
    let owned : State := { s with dir := [(0, { Dir.none with state := .e, ptrs := [(0, 0)] })] }
    let two (a : Nat) : Req := { req0 with nl := 1, data := [0, 0], addr := BitVec.ofNat 64 a }
    let at_ (s : State) (a : Nat) (i : Nat) : Option Refuse :=
      s.homeRefuses (if i = 0 then a else 64 * (reqLines .wrC (two a)).getLastD 0) 0 0 true true
    let edge := regsOf s [(R.tierCapacity, 0x40000000)]
    let sick : State := { s with poison := [(0, true)] }
    s.ras.fog = false ∧ reqChecked req0 = true ∧ (reqChecked { req0 with src := 63 } = false ∧ inReserved 0 = false ∧ inReserved reservedBase = true) ∧
    at_ s 0x3FFFFFC0 0 = none ∧ at_ s 0x3FFFFFC0 1 = some .key ∧ at_ edge 0x3FFFFFC0 0 = none ∧ at_ edge 0x3FFFFFC0 1 = some (.xlat 8 7) ∧
    (sick.homeData (reqLine req0)).2 = true ∧ refuses s .rdS = none ∧
    s.homeRefuses (64 * (reqLines .rdS req0).getLastD 0) req0.tenant.toNat req0.key false (reqChecked req0) = none ∧
    refuses { s with marks := [] } .rdS = some .key ∧ refuses drained .rdS = some .revoked ∧
    refuses (regsOf s [(R.tierCapacity, 0)]) .rdS = some (.xlat 8 7) ∧ lget t.txns 0 = some (txn0 .rdS []) ∧ (txn0 .rdS []).awaiting = [] ∧
    (txn0 .rdS []).hosts = [] ∧ (txn0 .rdS []).poison = false ∧ (txn0 .rdS []).answered = false ∧ s.weightLine (reqLine req0) = false ∧
    (s.homeData (reqLine req0)).2 = false ∧ (s.dirEntry 0).state = .i ∧ (shared.dirEntry 0).state = .s ∧ (txn0 .rdS []).forwarded = false ∧
    (txn0 .upg []).sharer = false ∧ ({ txn0 .upg [] with sharer := true } : Txn).sharer = true ∧ HomeOp.atAdd.atomic = true ∧
    (owned.dirEntry 0).owner = some (0, 0) ∧ (s.dirEntry 0).owner ≠ some (0, 0) ∧ (7 : Nat) = 7 % 2 ^ 32 ∧ (7 : Nat) ≠ 8 % 2 ^ 32 ∧
    2 ^ 32 - 1 < 2 ^ 32 := by decide +kernel

theorem witness_snoops :
    let held (st : CohState) : State := { on with gcache := [(cacheKey 0 0, { CLine.none with state := st })] }
    let victim : State := { on with victims := [(cacheKey 0 0, CLine.none)] }
    let asked : State := { on with tags := [(0, { ReqTag.free with use := .access 0 0 0 .rdS })] }
    let home (d : Dir) : State := { on with txns := [(0, txn0 .rdS [(0, 0, 0)])], dir := [(0, d)] }
    ((held .m).gline 0 0).state = .m ∧ ((held .s).gline 0 0).state ≠ .i ∧ ((held .s).gline 0 0).state ≠ .m ∧ (on.gline 0 0).state = .i ∧
    on.victimLine 0 0 = none ∧ on.requestFor 0 0 = none ∧ victim.victimLine 0 0 = some CLine.none ∧ CLine.none.state = .i ∧
    (victim.gline 0 0).state = .i ∧ asked.requestFor 0 0 = some 0 ∧ (asked.gline 0 0).state = .i ∧ asked.victimLine 0 0 = none ∧
    snp0.owner = true ∧ (asked.tag 0).held = none ∧ on.awaited 0 0 0 = none ∧
    ((home Dir.none).awaited 0 0 0).map Prod.fst = some 0 ∧ rsp0.fwd = false ∧ ({ rsp0 with fwd := true } : Rsp).fwd = true ∧
    (home Dir.none).isOwner 0 0 0 = false ∧ (home { Dir.none with state := .e, ptrs := [(0, 0)] }).isOwner 0 0 0 = true := by decide +kernel

/-- A request of an engine for nobody. -/
def eng0 (op : HomeOp) : EngReq := { who := .nobody, op, req := req0, dva := 0, bytes := 64 }

theorem witness_coherence_timers :
    let home (d : Dir) : State := { on with txns := [(0, txn0 .rdS [(0, 0, 0)])], dir := [(0, d)] }
    let recorded (s : State) : State := (s.count R.smfSnoopTimeoutTotal).record { ErrRec.plain 4 8 (s.homeDie 0) 5 with
      status := St.timeout, tenant := some 0, addr := s.fpaOf 0 }
    let tagged (u : TagUse) : State := { voiced { voice0 with out := [load7] } with tags := [(0, { ReqTag.free with use := u })] }
    on.awaited 0 0 0 = none ∧ ((home Dir.none).awaited 0 0 0).isSome = true ∧ (recorded (home Dir.none)).isOwner 0 0 0 = false ∧
    (recorded (home { Dir.none with state := .e, ptrs := [(0, 0)] })).isOwner 0 0 0 = true ∧ (on.tag 0).use = .free ∧
    ((tagged .quarantined).tag 0).use = .quarantined ∧ ((tagged .other).tag 0).use = .other ∧ ((tagged (.host 0 5)).tag 0).use = .host 0 5 ∧
    ((tagged (.engine (eng0 .rdNc))).tag 0).use = .engine (eng0 .rdNc) ∧ HomeOp.wrCm.writes = true ∧ HomeOp.rdNc.writes = false ∧
    ((tagged (.engine (eng0 .wrCm))).tag 0).use = .engine (eng0 .wrCm) ∧ ((tagged (.mg (.invalConfirm 1))).tag 0).use = .mg (.invalConfirm 1) ∧
    ((tagged (.gone 0 0 .rdS 0 0 false)).tag 0).use = .gone 0 0 .rdS 0 0 false ∧ ((tagged (.gone 0 0 .rdS 0 0 false)).tag 0).held = none ∧ ((tagged (.evict 0 0)).tag 0).use = .evict 0 0 ∧
    ((tagged (.access 0 0 0 .rdS)).tag 0).use = .access 0 0 0 .rdS ∧ ((tagged (.access 0 0 0 .rdS)).tag 0).held = none ∧
    ((((tagged (.access 0 0 0 .rdS)).setTag 0 { ReqTag.free with use := .quarantined }).count R.smfTimeoutTotal).access 0 0).isSome = true ∧
    (on.tags.find? fun e => e.2.use == .evict 0 0) = none ∧
    ((tagged (.evict 0 0)).tags.find? fun e => e.2.use == .evict 0 0) = some (0, { ReqTag.free with use := .evict 0 0 }) := by decide +kernel

/-! ## Sharing the pool -/

/-- A POOL descriptor at the head of ring 0. -/
def sharing (d : Line) : State := withFlight on 6 d .queued

/-- POOL descriptors of extent 0, decoder 0, entry 0 of port 0. -/
def poolDesc (op : Nat) (l : List (Nat × Nat)) : Line := line ([(0, op), (12, 1)] ++ l)

theorem witness_pool_descriptors :
    let withCap (s : State) : State := regsOf s [(R.tierCapacity, 0x100000000)]
    let marked (s : State) : State := { s with marks := [(0, { key := 0, tenant := 0, valid := true, drain := false })] }
    let ext (s : State) : State := { s with ports := [(0, { (s.port 0) with
      extents := [(0, { base := 0, tenant := 0, keysel := 0, state := 1, w := true })] })] }
    let starts (s : State) (d : Line) : Bool := s.mayStart 0 0 .pool == some (flight0 d .queued) && s.poolCheck (s.ring 0) d == none
    let toHost := poolDesc 5 [(32, 1)]
    let toPool := poolDesc 5 [(1, 0x10), (24, 64)]
    let toNowhere := poolDesc 5 [(1, 0x10), (24, 2 ^ 40)]
    let read (s : State) (d : Line) : State × Nat × Option (Nat × Refuse) :=
      State.scatter (Eng.func (s.frontCache 0) (s.ring 0).tenant (.flight 0 0 24)) (pieces 4) s (dNum d 24 8)
        ((leBytes 4 (markNat (s.mark 0))).map (·, false))
    let inPool : State := { pool0 with rings := (sharing toPool).rings }
    ((sharing (poolDesc 1 [])).mayStart 0 0 .pool = some (flight0 (poolDesc 1 []) .queued) ∧
      (sharing (poolDesc 1 [])).poolCheck ((sharing (poolDesc 1 [])).ring 0) (poolDesc 1 []) = some (Cpl.bad 8 7) ∧ dOpcode (poolDesc 1 []) = 1) ∧
    (starts (withCap (sharing (poolDesc 1 []))) (poolDesc 1 []) = true ∧ dOpcode (poolDesc 1 []) = 1) ∧
    (starts (marked (withCap (sharing (poolDesc 2 [])))) (poolDesc 2 []) = true ∧ dOpcode (poolDesc 2 []) = 2) ∧
    (starts (sharing (poolDesc 3 [])) (poolDesc 3 []) = true ∧ dOpcode (poolDesc 3 []) = 3) ∧
    (starts (ext (sharing (poolDesc 4 []))) (poolDesc 4 []) = true ∧ dOpcode (poolDesc 4 []) = 4) ∧
    (starts (sharing toHost) toHost = true ∧ dOpcode toHost = 5 ∧ fld toHost 256 2 = 1) ∧
    (starts (sharing toPool) toPool = true ∧ dOpcode toPool = 5 ∧ fld toPool 256 2 ≠ 1 ∧ poolMarks toPool = true ∧
      (read inPool toPool).2.2 = none) ∧
    (starts (sharing toNowhere) toNowhere = true ∧ fld toNowhere 256 2 ≠ 1 ∧ (read (sharing toNowhere) toNowhere).2.2.isSome = true) ∧
    (starts (sharing (poolDesc 6 [])) (poolDesc 6 []) = true ∧ dOpcode (poolDesc 6 []) = 6 ∧
      ((sharing (poolDesc 6 [])).port (poolPort (poolDesc 6 []))).recalls = bit (poolDesc 6 []) 157) ∧
    (starts (sharing (poolDesc 6 [(19, 0x20)])) (poolDesc 6 [(19, 0x20)]) = true ∧
      ((sharing (poolDesc 6 [(19, 0x20)])).port (poolPort (poolDesc 6 [(19, 0x20)]))).recalls ≠ bit (poolDesc 6 [(19, 0x20)]) 157) := by
  decide +kernel

/-- A drain of entry or extent 0, and a switch of port 0's mode. -/
def drain0 (revoke sweeping : Bool) : Drain :=
  { ring := 0, pos := 0, quiet := false, revoke, port := 0, first := 0, count := 1, normal := 0, poisoned := 0, sweeping }
def mode0 (recalls : Bool) : ModeSwitch :=
  { ring := 0, pos := 0, quiet := false, port := 0, recalls, drained := false, lines := 0, poisoned := 0 }

theorem witness_drains_and_switches_end :
    let s (d : List Drain) (m : List ModeSwitch) (dir : Tbl Dir) : State := { on with drains := d, modeSwitches := m, dir }
    let own (d : Drain) : Bool := d.ring.toNat == (0 : RingId).toNat && d.pos.toNat == (0 : Pos).toNat
    let swept (s : State) : State :=
      let u := s.sweepStart.runNet
      ((u.dir.filter fun e => (drain0 false true).covers false 0 (extentOf e.1)).foldl (fun s e => s.recallLine e.1) u).runNet
    let clean (v : State) : Bool := !(v.dir.any fun e => (drain0 false true).covers false 0 (extentOf e.1)) &&
      !(v.txns.any fun e => (drain0 false true).covers false 0 (extentOf e.1))
    let remote : Tbl Dir := [(0, { Dir.none with state := .s, ptrs := [(1, 1)] })]
    let uncapable : State := { s [] [mode0 true] [] with ports := [(0, { (on.port 0) with
      decoders := [(0, { Decoder.off with committed := true, bi := false })] })] }
    (0 : Nat) < (drain0 true false).count ∧ (drain0 true false).revoke = true ∧ (drain0 false false).revoke = false ∧
    ((s [] [] []).drains.find? own = none) ∧ ((s [drain0 true false] [] []).drains.find? own = some (drain0 true false)) ∧
    ((s [drain0 false false] [] []).drains.find? own = some (drain0 false false)) ∧
    ((s [drain0 false false] [] []).sweepStart.runNet.drains.find? own = some (drain0 false true)) ∧
    clean (swept (s [drain0 false false] [] [])) = true ∧
    ((s [drain0 false false] [] remote).sweepStart.runNet.drains.find? own = some (drain0 false true)) ∧
    clean (swept (s [drain0 false false] [] remote)) = false ∧
    ((s [] [mode0 true] []).modeSwitches.find? fun m => m.port.toNat == (0 : Port).toNat) = some (mode0 true) ∧
    (mode0 true).drained = false ∧ ((s [] [mode0 true] []).port 0).inflight = [] ∧ (s [] [mode0 true] []).recallOk 0 = true ∧
    uncapable.recallOk 0 = false ∧ (mode0 false).recalls = false := by decide +kernel

theorem witness_host_accesses :
    let w : HostWait := { hpa := 0, write := false, copy := 0, data := 0, tag := 0 }
    let limited : State := regsOf on [(R.poolRate 0, 1)]
    let poor : State := { limited with ports := [(0, { (on.port 0) with tokens := 63, waiting := [w] })] }
    let queued : State := { on with ports := [(0, { (on.port 0) with waiting := [w] })] }
    let switching : State := { on with ports := [(0, { (on.port 0) with switching := true })] }
    let b : BackInv := { line := 3, exclusive := true, keep := false }
    let bis : State := { on with ports := [(0, { (on.port 0) with bis := [b] })] }
    let boot : State := { State.reset with ports := [(0, { HostPort.off with link := .up })] }
    on.pwr.state = .on ∧ on.hostThere (0 : Port).toNat = true ∧ (on.port (0 : Port).toNat).link = .up ∧
    (on.port 0).waiting = [] ∧ on.canAdmit 0 = true ∧ limited.limited 0 = true ∧ limited.canAdmit 0 = true ∧
    (poor.port 0).waiting = [w] ∧ poor.canAdmit 0 = false ∧ (poor.port 0).switching = false ∧ poor.fenced 7 0 = false ∧ poor.limited 0 = true ∧
    (poor.port 0).tokens < 64 ∧ (on.port 0).counted = 0 ∧
    (queued.port 0).waiting = [w] ∧ queued.canAdmit 0 = true ∧ queued.limited 0 = false ∧ switching.canAdmit 0 = false ∧
    (switching.port 0).switching = true ∧ on.cxlRoute 0 w = none ∧
    ((bis.port (0 : Port).toNat).bis.find? fun b => b.line == (3 : BitVec 44).toNat) = some b ∧ b.exclusive = true ∧
    ({ b with exclusive := false } : BackInv).exclusive = false ∧
    configFixed .unsupported = some 0 ∧
    boot.pwr.state = .boot ∧ boot.hostThere 0 = true ∧ (boot.port 0).link = .up := by decide +kernel

/-! ## The Keeper -/

/-- The Keeper as given. -/
def kept (f : Keeper → Keeper) : State := { on with keeper := f on.keeper }

/-- A Keeper or core image of version 1 that passes: a header, no body and a signature (R322). -/
def image1 (core : Bool) : Image :=
  { genuine := true, bytes := leBytes 4 (if core then 0x3146435A else 0x31464B5A) ++ [1] ++ List.replicate 203 0 }

/-- The device with a pair of such images in its pool. -/
def imaged : State :=
  regsOf (on.poolWrite 0 ((image1 false).bytes ++ (image1 true).bytes)) [(stageOff 0 (R.kprArg 1), 416)]

theorem witness_keeper_commands :
    let cmd : KprCmd := { port := 0, result := 0, waits := false }
    let busy := kept fun k => { k with cmd := some cmd }
    let waits := kept fun k => { k with cmd := some { cmd with waits := true } }
    let one : State := { on with rwk := tput (rwkReset on.variant) on.rwk (R.poolPartPorts 0) 2 }
    let sealed := kept fun k => { k with sealed := true }
    let part (x : Part) : State := { kept id with keeper := { on.keeper with parts := [(0, x)] } }
    on.openTo (0 : Port).toNat ∧ busy.openTo (0 : Port).toNat ∧ busy.keeper.cmd = some cmd ∧ on.keeper.cmd = none ∧
    (one.openTo (0 : Port).toNat ∧ one.keeper.cmd = none ∧ one.controls 0 0 = false) ∧ on.controls 0 0 = true ∧
    (sealed.openTo (0 : Port).toNat ∧ sealed.keeper.sealed = true ∧ sealed.keeper.cmd = none ∧ sealed.controls 0 0 = true) ∧
    on.keeper.sealed = false ∧ (on.part 0).keys = [] ∧ (on.part 0).switching = false ∧
    ((part { on.part 0 with keys := [(0, { key := 0, pfx := 0 })] }).part 0).keys ≠ [] ∧
    ((part { on.part 0 with switching := true }).part 0).switching = true ∧ (part { on.part 0 with switching := true }).openTo (0 : Port).toNat ∧
    waits.keeper.cmd = some { cmd with waits := true } ∧
    (kept fun k => { k with mbxBusy := true }).keeper.mbxBusy = true ∧ (kept fun k => { k with mbxBusy := true }).openTo (0 : Port).toNat ∧
    on.keeper.mbxBusy = false ∧ fld (0 : BitVec 32) 0 11 = 0 ∧ 1024 < fld (1025 : BitVec 32) 0 11 ∧
    on.keeper.mbxRest = [] ∧ (kept fun k => { k with mbxFull := true, mbxRest := [1] }).keeper.mbxRest ≠ [] ∧
    (kept fun k => { k with mbxFull := true, mbxRest := [1] }).keeper.mbxFull = true ∧
    (kept fun k => { k with mbxFull := true, mbxRest := [1] }).openTo (0 : Port).toNat ∧
    (0 < fld (1024 : BitVec 32) 0 11 ∧ fld (1024 : BitVec 32) 0 11 ≤ 1024) ∧ bit (1 : BitVec 32) 0 = true ∧ bit (2 : BitVec 32) 0 = false := by
  simp only [State.openTo]; decide +kernel

theorem witness_images_are_staged :
    let off := regsOf on [(stageOff 0 (R.kprArg 0), 1)]
    let sound (s : State) (keeper core : Bool) : Bool :=
      let off := (s.reg (stageOff (0 : Port).toNat (R.kprArg 0))).toNat
      let len := (s.reg (stageOff (0 : Port).toNat (R.kprArg 1))).toNat
      let pair := pairOf (s.poolRead off (min len (16 * 2 ^ 20)))
      off % 4096 == 0 && decide (len ≤ 16 * 2 ^ 20) && imageOk false { genuine := keeper, bytes := pair.1 } s.nvm.fuseSvn
        && imageOk true { genuine := core, bytes := pair.2 } s.nvm.fuseSvn
    sound imaged true true = true ∧ imaged.openTo (0 : Port).toNat ∧ imaged.controls 0 0 = true ∧ imaged.keeper.cmd = none ∧
    sound imaged true false = false ∧ sound off true true = false ∧ off.openTo (0 : Port).toNat:= by
  simp only [State.openTo]; decide +kernel

theorem witness_switches_scrub_and_end :
    let s (erase : Bool) : State := { on with
      keeper := { on.keeper with cmd := some { port := 0, result := 0, waits := true }, parts := [(0, { on.part 0 with switching := true, erase })] } }
    ((s true).part (0 : Tenant).toNat).switching = true ∧ ((s true).part 0).erase = true ∧ ((s false).part (0 : Tenant).toNat).switching = true ∧
    ((s false).part 0).erase = false ∧ (1 : Nat) ≠ (0 : Tenant).toNat := by decide +kernel

/-! ## What the Keeper answers -/

/-- An SPDM session over the host binding of port 0. -/
def spdm0 : Spdm := { binding := 1, finished := true, mutually := true, root := 7, report := some (0, 0) }

/-- Connections at `n` over that binding, sessions and a large answer. -/
def spoken (n : Nat) (l : Tbl Spdm) (whole : List Byte) : State :=
  kept fun k => { k with conns := [(1, n)], sessions := l, chunkOut := [(1, whole)] }

theorem witness_keeper_answers :
    let mailbox := kept fun k => { k with mbxBusy := true }
    on.bindingUp 0 = true ∧ on.bindingUp 1 = true ∧ on.bindingUp 4 = false ∧ mailbox.bindingUp (5 : BitVec 3).toNat = true ∧
    (5 : BitVec 3).toNat = mailboxBinding ∧ (0 : BitVec 3).toNat ≠ mailboxBinding ∧ (9 : Byte) ≠ 0 ∧ (9 : Byte) ≠ 0xFF ∧
    (6 : Byte) ∈ ([0, 1, 5, 6, 0xFF] : List Byte) ∧ (2 : Byte) ∉ ([0, 1, 5, 6, 0xFF] : List Byte) ∧ (3 : Byte) ∉ ([1, 2, 4, 5] : List Byte) := by
  decide +kernel

theorem witness_spdm_requests :
    let full : Tbl Spdm := [(0, spdm0), (1, spdm0), (2, spdm0), (3, spdm0)]
    let whole : List Byte := List.replicate 1025 0
    (spoken 3 [] []).bindingUp (1 : BitVec 3).toNat = true ∧ (spoken 0 [] []).conn 1 < 1 ∧ 1 ≤ (spoken 1 [] []).conn 1 ∧
    (spoken 1 [] []).conn 1 < 2 ∧ 2 ≤ (spoken 2 [] []).conn 1 ∧ (spoken 2 [] []).conn 1 < 3 ∧ 3 ≤ (spoken 3 [] []).conn 1 ∧
    ((spoken 3 [(0, spdm0)] []).spdm 1 = none ∧ ∀ j < 1, (spoken 3 [(0, spdm0)] []).spdm j ≠ none) ∧
    (∀ i < 4, (spoken 3 full []).spdm i ≠ none) ∧ (tget (fun _ => []) (spoken 3 [] whole).keeper.chunkOut 1).length = 1025 ∧
    1024 * (1 : BitVec 16).toNat < 1025 ∧ 1025 ≤ 1024 * (2 : BitVec 16).toNat ∧ (spoken 3 [] []).measurement (9 : Byte).toNat = none ∧
    ((spoken 3 [] []).measurement (0 : Byte).toNat).map (·.2) = some false ∧
    (spoken 3 [(0, spdm0)] []).spdm (0 : BitVec 2).toNat = some spdm0 ∧ (spoken 3 [(0, spdm0)] []).bindingUp spdm0.binding = true ∧
    spdm0.finished = true ∧ ({ spdm0 with finished := false } : Spdm).finished = false := by decide +kernel

/-- A payload of KEY_INSTALL and of KEY_DESTROY for partition 0, slot 1. -/
def keyIn : List Byte := [1, 0x10, 0, 0] ++ List.replicate 36 5
def keyOut : List Byte := [2, 0x10, 0, 0]

theorem witness_model_keys :
    let s (f : Part → Part) : State := kept fun k => { k with
      sealed := true, sessions := [(0, spdm0)], parts := [(0, f { on.part 0 with anchored := true, anchor := 7 })] }
    let x := spdm0
    let stale : Spdm := { spdm0 with report := none }
    (s id).spdm (0 : BitVec 2).toNat = some x ∧ x.finished = true ∧ (s id).bindingUp x.binding = true ∧
    keyBad 1 40 keyOut = true ∧ keyBad 1 40 keyIn = false ∧ keyTenant keyIn = 0 ∧ keySlot keyIn = 1 ∧
    ((s fun p => { p with keys := [(1, { key := 0, pfx := 0 })] }).part 0).key 1 ≠ none ∧ ((s id).part 0).key 1 = none ∧
    (s id).ras.fog = false ∧ ({ s id with ras := { on.ras with fog := true } } : State).ras.fog = true ∧
    ((s id).part 0).switching = false ∧ ((s fun p => { p with switching := true }).part 0).switching = true ∧
    (s id).keyOwner x 0 = true ∧ (s fun p => { p with anchor := 8 }).keyOwner x 0 = false ∧
    (s id).freshReport x = true ∧ (s id).freshReport stale = false ∧ keyBad 2 4 keyIn = true ∧ keyBad 2 4 keyOut = false ∧
    keyTenant keyOut = 0 := by decide +kernel

/-! ## Errors, resets and fences -/

/-- Errors as given. -/
def erring (f : Ras → Ras) : State := { on with ras := f on.ras }

theorem witness_errors_pend_and_queue :
    let e : Err := { seq := 4, severity := 4 }
    let one := erring fun r => { r with pending := some e }
    let two := erring fun r => { r with pending := some e, queue := [{ seq := 5, severity := 3 }] }
    let value : BitVec 32 := 0x04000102
    (ErrRec.plain 2 1 0 0).severity < 3 ∧ (ErrRec.plain 4 1 0 0).severity = 4 ∧ (ErrRec.plain 5 1 0 0).severity = 5 ∧ 3 ≤ (ErrRec.plain 3 1 0 0).severity ∧ on.ras.pending = none ∧
    one.ras.pending = some e ∧ e.severity ≤ (ErrRec.plain 4 1 0 0).severity ∧ e.severity ≤ (ErrRec.plain 5 1 0 0).severity ∧ (ErrRec.plain 3 1 0 0).severity < e.severity ∧
    one.openTo (0 : Port).toNat ∧ one.controls (0 : Port).toNat 0 = true ∧ e.seq ≠ 5 ∧ one.ras.queue = [] ∧
    two.openTo (0 : Port).toNat ∧ two.controls (0 : Port).toNat 0 = true ∧ two.ras.pending = some e ∧ two.ras.queue = [{ seq := 5, severity := 3 }] ∧
    (2 ≤ fld value 24 3 ∧ fld value 24 3 ≤ 4 ∧ 1 ≤ fld value 0 8 ∧ fld value 0 8 ≤ 9) ∧
    ¬(2 ≤ fld (0x04000100 : BitVec 32) 24 3 ∧ 1 ≤ fld (0x04000100 : BitVec 32) 0 8) := by
  simp only [State.openTo]; decide +kernel

theorem witness_job_reset_and_fog :
    let busy := erring fun r => { r with resetBusy := true }
    let switching : State := { kept id with keeper := { on.keeper with parts := [(3, { on.part 3 with switching := true })] } }
    let running : State := { busy with rings := (withFlight on 6 (poolDesc 2 []) .running).rings }
    let ends (s : State) : State := s.stopRings.openRings.foldl State.settle s.stopRings
    on.openTo (0 : Port).toNat ∧ on.controls (0 : Port).toNat 0 = true ∧ busy.openTo (0 : Port).toNat ∧ busy.controls (0 : Port).toNat 0 = true ∧
    busy.ras.resetBusy = true ∧ busy.ras.resetWaits = false ∧ on.ras.resetBusy = false ∧
    ((List.range 16).any fun t => (on.part t).switching) = false ∧ ((List.range 16).any fun t => (switching.part t).switching) = true ∧
    switching.openTo (0 : Port).toNat ∧ switching.controls (0 : Port).toNat 0 = true ∧ switching.ras.resetBusy = false ∧
    (ends busy).anyBusy = false ∧ (ends running).anyBusy = true ∧
    (erring fun r => { r with fog := true, fogEntering := true }).ras.fog = true ∧
    (erring fun r => { r with fog := true, fogEntering := true }).ras.fogEntering = true := by
  simp only [State.openTo]; decide +kernel

/-- A fence of NVMe port 2. -/
def fence0 (late afterReset : Bool) : FenceSt := { cls := 5, unit := 2, late, afterReset }

theorem witness_units_are_fenced :
    let fenced (f : FenceSt) := erring fun r => { r with fences := [f] }
    let relief := line [(0, 1), (12, 1), (16, 1)]
    let large (s : State) : State := regsOf { s with links := [(0, { SLink.off with state := .active })] }
      [(R.tierCapacity, 0x100000000), (R.smfRoute 1, 32)]
    let s := large (withFlight on 7 relief .queued)
    let refused := withFlight on 7 (relief ||| line [(3, 1)]) .queued
    on.keeper.booted = true ∧ (fenced (fence0 false false)).fenced 5 2 = true ∧ on.unitExists 5 99 = false ∧
    (erring fun r => { r with absent := [(5, 2)] }).unitLost 5 2 = true ∧ on.fenced 5 2 = false ∧ on.unitExists 5 2 = true ∧ on.unitLost 5 2 = false ∧
    [(5, 2)].contains ((fence0 false false).cls, (fence0 false false).unit) = true ∧ ([] : List (Nat × Nat)).contains (5, 2) = false ∧
    (fence0 true true).afterReset = true ∧ (fence0 true false).late = true ∧ (fence0 true false).afterReset = false ∧
    ((fenced (fence0 false false)).ras.fences.find? fun f => f.cls == (5 : BitVec 4).toNat && f.unit == (2 : BitVec 16).toNat) =
      some (fence0 false false) ∧ 2 ≤ on.variant.ioDies ∧
    (s.mayStart 0 0 .mgmt = some (flight0 relief .queued) ∧ s.reliefCheck relief = none) ∧ dTenant relief = 0 ∧
    rlFirst relief < s.capacity / 2 ^ 30 ∧ rlFirst relief + rlCount relief ≤ s.capacity / 2 ^ 30 ∧ rlCount relief ≠ 0 ∧
    rlTarget relief ≠ s.devNo ∧ s.reachable (rlTarget relief) = true ∧
    refused.mayStart 0 0 .mgmt = some (flight0 (relief ||| line [(3, 1)]) .queued) ∧ dTenant (relief ||| line [(3, 1)]) ≠ 0 ∧
    refused.reliefCheck (relief ||| line [(3, 1)]) = some (Cpl.why St.notOwner 2) := by decide +kernel

/-! ## Power, clocks and pins -/

/-- The power and pins as given. -/
def powered (f : Pwr → Pwr) : State := { on with pwr := f on.pwr }

theorem witness_dark_is_entered_and_left :
    let one : State := { on with rwk := tput (rwkReset on.variant) on.rwk (R.poolPartPorts 0) 2 }
    let entering := powered fun p => { p with state := .entering }
    let busy : State := { entering with drives := [(0, { entering.drive 0 with cmds := [flushCode] })] }
    let dark := powered fun p => { p with state := .dark }
    let active : State := { entering with links := [(0, { SLink.off with state := .active })] }
    on.openTo (0 : Port).toNat ∧ one.openTo (0 : Port).toNat ∧ one.controls (0 : Port).toNat 0 = false ∧ on.controls (0 : Port).toNat 0 = true ∧
    on.mayDark = true ∧ (erring fun r => { r with reliefs := [⟨0, 0, 0, 1, 1, 0, false, false, false, false, false, 0, 0, []⟩] }).mayDark = false ∧
    (erring fun r => { r with reliefs := [⟨0, 0, 0, 1, 1, 0, false, false, false, false, false, 0, 0, []⟩] }).openTo (0 : Port).toNat ∧
    entering.pwr.state = .entering ∧ entering.quietNow = true ∧ busy.quietNow = false ∧ busy.pwr.state = .entering ∧
    (active.link 0).state = .active ∧ (entering.link 0).state ≠ .active ∧ (entering.port 0).link = .up ∧
    on.hostThere (0 : Port).toNat = true ∧ (dark.port (0 : Port).toNat).link = .up ∧ dark.pwr.state = .dark ∧ on.pwr.state ≠ .dark ∧
    on.pwr.state ≠ .entering ∧ (powered fun p => { p with state := .waking }).pwr.state = .waking := by
  simp only [State.openTo]; decide +kernel

theorem witness_power_commands :
    let one : State := { on with rwk := tput (rwkReset on.variant) on.rwk (R.poolPartPorts 0) 2 }
    let asleep := { one with pwr := { one.pwr with state := .dark } }
    let conditions (s : State) : Bool := s.rot.align == .halted && s.rot.items.isEmpty && !s.ras.fog &&
      ((List.range 16).all fun t => !(s.part t).switching) && !s.ras.resetBusy && (s.ras.reliefs.all fun r => r.started && r.copied && !s.reliefWaits r) &&
      s.drains.isEmpty && s.modeSwitches.isEmpty && s.rot.loading.isNone && s.tabCmd.isNone
    let ended := erring fun r => { r with reliefs := [⟨0, 0, 0, 1, 1, 0, false, true, true, false, false, 0, 0, []⟩] }
    let waits := erring fun r => { r with reliefs := [⟨0, 0, 0, 1, 1, 0, false, false, false, false, false, 0, 0, []⟩] }
    one.hostThere (0 : Port).toNat = true ∧ (one.port (0 : Port).toNat).link = .up ∧ one.controls 0 0 = false ∧ one.pwr.state = .on ∧
    one.keeper.bootFail = false ∧ asleep.asleep = true ∧ asleep.controls 0 0 = false ∧ (asleep.port 0).link = .up ∧ asleep.hostThere 0 = true ∧
    (powered fun p => { p with state := .entering }).controls 0 0 = true ∧ (powered fun p => { p with state := .entering }).hostThere 0 = true ∧
    ((powered fun p => { p with state := .entering }).port 0).link = .up ∧ (powered fun p => { p with state := .entering }).pwr.state = .entering ∧
    on.controls 0 0 = true ∧ conditions on = true ∧ conditions ended = true ∧ conditions waits = false ∧ waits.controls 0 0 = true := by
  decide +kernel

/-- A sample in which gallery 0 reads as given. -/
def sample (t : Byte) : Sample := { gallery := [t], io := [], stack := [], ddr := [], vin := 48000, iin := 0, watts := 100 }

theorem witness_throttles_follow_sensors :
    let hot := powered fun p => { p with throttle := { p.throttle with thermal := [5] } }
    let forced := powered fun p => { p with throttle := { p.throttle with thermal := [5], inForce := true, wasThermal := true } }
    let margin := powered fun p => { p with throttle := { p.throttle with margin := true } }
    on.pwr.state ≠ .off ∧ on.pwr.throttle.triggered = false ∧ hot.pwr.throttle.triggered = true ∧ forced.pwr.throttle.triggered = true ∧
    forced.pwr.throttle.inForce = true ∧ forced.pwr.throttle.wasThermal = true ∧ margin.pwr.throttle.triggered = true ∧
    margin.pwr.throttle.inForce = false ∧ margin.pwr.throttle.thermal = [] ∧ on.keeper.booted = true ∧
    ((on.sensors (sample 120)).any fun q => decide (q.shutdown ≤ q.temp)) = true ∧
    ((on.sensors (sample 119)).all fun q => decide (q.temp < q.shutdown)) = true ∧
    ((on.sensors (sample 110)).any fun q => decide (q.throttle ≤ q.temp)) = true := by decide +kernel

/-- A device that waits to boot with images of version 1 in flash: of copy A, of copy B, of neither. -/
def unbooted (a b : Bool) : State :=
  let v (good core : Bool) : Image := if good then image1 core else Image.none
  { State.reset with
    nvm := { State.reset.nvm with keeperA := v a false, coreA := v a true, keeperB := v b false, coreB := v b true }
    pwr := { State.reset.pwr with refSys := true, resetN := true } }

/-- What such a device finds. -/
def found0 (held good : Bool) : BringUp :=
  let v (core : Bool) : Image := if good then image1 core else Image.none
  { flashHeld := held, keeperA := v false, coreA := v true, keeperB := v false, coreB := v true, chain := [], ddr := [], nvme := [] }

theorem witness_cold_resets_and_boots :
    let off : State := { unbooted true true with pwr := { (unbooted true true).pwr with state := .off } }
    let waits : State := { unbooted true true with pwr := { (unbooted true true).pwr with flashExtN := false } }
    let boots (good : Bool) := State.bootKeeper { (unbooted false false) with
      nvm := (unbooted false false).nvm.found (found0 false good) false, pwr := { (unbooted false false).pwr with state := .boot } }
    on.pwr.state ≠ .off ∧ off.pwr.state = .off ∧ (unbooted true true).awaitsBoot = true ∧ (found0 false true).flashHeld = false ∧
    (found0 true true).flashHeld = true ∧ (unbooted true true).pwr.refSys = true ∧ (unbooted true true).pwr.resetN = true ∧
    (unbooted true true).pwr.state ≠ .off ∧ waits.pwr.flashExtN = false ∧ waits.awaitsBoot = true ∧ waits.pwr.refSys = true ∧ waits.pwr.resetN = true ∧
    imageOk false (unbooted true true).nvm.keeperA (unbooted true true).nvm.fuseSvn = true ∧
    imageOk false (unbooted false true).nvm.keeperA (unbooted false true).nvm.fuseSvn = false ∧
    imageOk false (unbooted false true).nvm.keeperB (unbooted false true).nvm.fuseSvn = true ∧
    imageOk false (unbooted false false).nvm.keeperB (unbooted false false).nvm.fuseSvn = false ∧
    (boots false).keeper.bootFail = true ∧ (boots true).keeper.bootFail = false := by decide +kernel

theorem witness_pins_and_links_follow :
    let linkOf (l : HostLink) (ready : Bool) : State := { powered (fun p => { p with sysReady := ready }) with ports := [(0, { on.port 0 with link := l })] }
    let dark := powered fun p => { p with state := .dark }
    on.hostThere (0 : Port).toNat = true ∧ on.pwr.state = .on ∧ (on.port 0).link ≠ .reset ∧ (linkOf .reset true).hostThere 0 = true ∧
    ((linkOf .reset true).port 0).link = .reset ∧ dark.asleep = true ∧ dark.hostThere 0 = true ∧ (linkOf .reset true).pwr.sysReady = true ∧
    (linkOf .reset true).keeper.bootFail = false ∧ (on.port 0).link = .up ∧ ((linkOf .training true).port 0).link = .training ∧
    (linkOf .training true).pwr.sysReady = true ∧ (linkOf .training true).hostThere 0 = true ∧
    (powered fun p => { p with resetN := true }).pwr.resetN = true ∧ on.pwr.state ≠ .off ∧
    on.keeper.tapLocked = false ∧ sealedOn.keeper.tapLocked = true ∧ (powered fun p => { p with resetN := false }).pwr.resetN = false := by
  decide +kernel

/-! ## The machine as a whole -/

/-- A clock's tick for a device with no command waiting, whether or not a management message waits with a way back. -/
theorem witness_idle_steps :
    let m : Endpoint × BitVec 15 × MgBody := (64, 0, .other [])
    let s : State := { regsOf endpointed [(R.smfRoute 1, 33)] with mgQueue := [m] }
    on.atRest ∧ s.atRest ∧ on.pending = [] ∧ on.mgQueue = [] ∧ s.pending = [] ∧ s.mgQueue = [m] ∧ s.exitPort (epDev 64) (epLocal 64) = some 1 ∧
    on.exitPort (epDev 64) (epLocal 64) = none := by
  simp only [State.atRest]; decide +kernel

/-- A step of a sealed device that answers a next state, which keeps the seal. -/
theorem witness_sealed_step :
    let s : State := { sealedOn with pending := [.trstAssert] }
    (match step s with
      | .next t => t.keeper.sealed && t.keeper.tapLocked && t.pending.isEmpty && decide (s.free ≤ t.free)
          && decide (t.keeper.booted = true → t.nvm.fuseSvn.toNat ≤ t.keeper.svn.toNat)
      | _ => false) = true ∧
    (∀ port, Instr.trstAssert ≠ .cold port) ∧ Instr.trstAssert ≠ .resetNAssert ∧ Instr.trstAssert ≠ .vinLockout ∧
    Instr.trstAssert ≠ .refclkSysLost ∧ (∀ x, Instr.trstAssert ≠ .sensorSample x) ∧
    (∀ port off size value, Instr.trstAssert ≠ .setupRegisterWrite port off size value) ∧ Instr.trstAssert ≠ .wakeComplete := by
  refine ⟨by decide +kernel, ?_, by decide, by decide, by decide, ?_, ?_, by decide⟩ <;> intros <;> simp

/-- A write of an RWK register of a sealed device, and of a 64-bit access that spans two 32-bit registers. -/
theorem witness_sealed_registers :
    sealedOn.pwr.state = .on ∧ sealedOn.hostThere (0 : Port).toNat = true ∧ (sealedOn.port (0 : Port).toNat).link = .up ∧
    sealedOn.keeper.bootFail = false ∧ sealedOn.keeper.sealed = true ∧ (0xB0003C : BitVec 26).toNat % 4 = 0 ∧
    ((findReg (0xB0003C : BitVec 26).toNat).map fun e => (e.1.rwk, sealedOn.regAbsent e.1 e.2)) = some (true, false) ∧
    sealedOn.ras.fog = false ∧ sealedOn.controls (0 : Port).toNat 0 = true ∧ (0xB00038 : BitVec 26).toNat % 8 = 0 ∧
    ((findReg (0xB00038 : BitVec 26).toNat).map fun e => e.1.width) = some 32 := by decide +kernel

/-- Anchors: one set, one that a switch with ERASE clears, and what an install needs that changes the keys. -/
theorem witness_anchors :
    let s (erase : Bool) : State := { on with
      pending := [.switchComplete 0]
      keeper := { on.keeper with parts := [(0, { on.part 0 with switching := true, erase, anchored := true, anchor := 7 })] } }
    let k : State := kept fun k => { k with
      sealed := true, sessions := [(0, spdm0)], parts := [(0, { on.part 0 with anchored := true, anchor := 7 })] }
    on.openTo (0 : Port).toNat ∧ on.keeper.cmd = none ∧ on.controls (0 : Port).toNat (0 : Tenant).toNat = true ∧ (on.part 0).keys = [] ∧
    (on.part 0).switching = false ∧ ((s true).part 0).switching = true ∧ (s true).keeper.booted = true ∧
    (match step (s true) with
      | .next u => u.keeper.booted && !(u.part 0).anchored
      | _ => false) = true ∧
    k.spdm 0 = some spdm0 ∧ keyBad 1 40 keyIn = false ∧ (k.part 0).key 1 = none ∧ k.keyOwner spdm0 0 = true ∧ k.freshReport spdm0 = true := by
  simp only [State.openTo]; decide +kernel

/-- A set-up write to a sealed device that leaves it sealed. -/
theorem witness_sealed_write :
    (match exec (.setupRegisterWrite 0 (BitVec.ofNat 26 R.rotPeriodNext) 4 32) sealedOn with
      | .next t => t.keeper.sealed && t.rwk == sealedOn.rwk && t.reg R.rotPeriodNext == 32
      | _ => false) = true := by decide +kernel

/-! ## Commands that are not well formed

One ill-formed command for each check of Instr.wf, which refuses it, and beside it a well-formed one. -/

theorem test_setup_sizes : (Instr.setupRegisterWrite 0 0x14 2 0).wf = false ∧ (Instr.setupRegisterWrite 0 0x14 8 0).wf = false ∧
    (Instr.setupRegisterWrite 0 0x14 4 0).wf = true ∧ (Instr.setupRegisterWrite 0 0x18 8 0).wf = true := by decide

theorem test_fetch_lengths : (Instr.descriptorFetched 0 (List.replicate 17 0) false).wf = false ∧
    (Instr.descriptorFetched 0 (List.replicate 16 0) false).wf = true := by decide

theorem test_ports : (Instr.signalDetect 18).wf = false ∧ (Instr.signalDetect 17).wf = true ∧ (Instr.portReset 0 18).wf = false ∧
    (Instr.snInv 18 snp0).wf = false ∧ (Instr.beaconReceived 18 0 0 0 0 0).wf = false ∧ (Instr.mg 18 0 0 (.other [])).wf = false ∧
    (Instr.mg 17 0 0 (.other [])).wf = true := by decide

theorem test_request_data : (Instr.atAdd 0 { req0 with data := [0, 0, 0, 0, 0] }).wf = false ∧ (Instr.wrC 0 { req0 with nl := 1 }).wf = false ∧
    (Instr.wrNs 0 { req0 with nl := 1 }).wf = false ∧ (Instr.wrCm 0 { req0 with data := [] }).wf = false ∧
    (Instr.wrC 0 { req0 with nl := 1, data := [0, 0] }).wf = true ∧ (Instr.wrCm 0 req0).wf = true ∧ (Instr.rdS 0 req0).wf = true := by decide

theorem test_response_data : (Instr.data 0 { rsp0 with data := [0, 0, 0, 0, 0] }).wf = false ∧ (Instr.snData 0 { rsp0 with data := [] }).wf = false ∧
    (Instr.wbData 0 { rsp0 with data := [] }).wf = false ∧ (Instr.data 0 rsp0).wf = true ∧ (Instr.snData 0 rsp0).wf = true := by decide

theorem test_bindings : (Instr.getEndpointId 6).wf = false ∧ (Instr.getVersion 7 []).wf = false ∧ (Instr.getEndpointId 5).wf = true := by decide

/-! ## Words of clause code

A word of each family of core instructions, written out from R182 and R183: the opcode in bits 7 to 0, D in bits 12 to 8, A in bits
17 to 13, B in bits 22 to 18, C in bits 27 to 23, MOD in bits 31 to 28 and IMM above. -/

def wordOf (imm mod c b a d op : Nat) : Word :=
  BitVec.ofNat 64 (op + d * 2 ^ 8 + a * 2 ^ 13 + b * 2 ^ 18 + c * 2 ^ 23 + mod * 2 ^ 28 + imm * 2 ^ 32)
def fieldsOf (imm mod c b a d : Nat) : Fields :=
  { d := BitVec.ofNat 5 d, a := BitVec.ofNat 5 a, b := BitVec.ofNat 5 b, c := BitVec.ofNat 5 c, mod := BitVec.ofNat 4 mod
    imm := BitVec.ofNat 32 imm }

theorem test_words_decode : (
    decodeCore 9 (wordOf 7 0 0 0 0 31 0x0F) == some (.li 9 (fieldsOf 7 0 0 0 0 31)) &&
    decodeCore 9 (wordOf 0 0 4 3 2 1 0x23) == some (.ffma 9 (fieldsOf 0 0 4 3 2 1)) &&
    decodeCore 9 (wordOf 0 0 0 0 0 0 0x3F) == some (.halt 9 (fieldsOf 0 0 0 0 0 0)) &&
    decodeCore 9 (wordOf 0 5 0 30 31 1 0x4D) == some (.vperm 9 (fieldsOf 0 5 0 30 31 1)) &&
    decodeCore 9 (wordOf 6 2 0 0 3 1 0x60) == some (.vcvt 9 (fieldsOf 6 2 0 0 3 1)) &&
    decodeCore 9 (wordOf 0 0 0 0 2 5 0x82) == some (.astore 9 (fieldsOf 0 0 0 0 2 5)) &&
    decodeCore 9 (wordOf 0 0 0 0 4 0 0xA5) == some (.swait 9 (fieldsOf 0 0 0 0 4 0)) &&
    decodeCore 9 (wordOf 64 3 0 0 4 2 0xC4) == some (.ldv 9 (fieldsOf 64 3 0 0 4 2)) &&
    decodeCore 9 (wordOf 3 4 0 0 0 0 0xE0) == some (.fence 9 (fieldsOf 3 4 0 0 0 0)) &&
    decodeCore 9 (wordOf 0 0 0 0 0 0 0x4E) == none && decodeCore 9 (wordOf 0 0 0 0 0 0 0xC7) == none) = true := by decide +kernel

/-! ## Values worked out by hand -/

/-- IEEE 754: 1 + 2 = 3, 2 × 3 = 6, 1 ÷ 3 rounded to nearest, √4 = 2, and 2^24 + 1 rounded to even. -/
theorem test_fp32 : Flt.fp32.opAdd 0x3F800000 0x40000000 = 0x40400000 ∧ Flt.fp32.opMul 0x40000000 0x40400000 = 0x40C00000 ∧
    Flt.fp32.opDiv 0x3F800000 0x40400000 = 0x3EAAAAAB ∧ Flt.fp32.opSqrt 0x40800000 = 0x40000000 ∧
    Flt.fp32.opAdd 0x4B800000 0x3F800000 = 0x4B800000 := by decide +kernel

/-- The check value of CRC-64 ECMA-182: the CRC of "123456789". -/
theorem test_crc : crc64 [0x31, 0x32, 0x33, 0x34, 0x35, 0x36, 0x37, 0x38, 0x39] = 0x6C40DF5F0B497347 := by decide +kernel

end Sys2Proof.Tests
end

section
/-! PROOF. What of the Keeper a tenant's anchor rests on, its custody, and which commands leave it as it is. -/

namespace Sys2Proof.Machine

variable {s t u : State}

/-- What of the Keeper an anchor rests on: the partitions' records, and whether the Keeper has booted. -/
def State.custody (s : State) : Tbl Part × Bool := (s.keeper.parts, s.keeper.booted)

theorem parts_of_custody (h : u.custody = s.custody) : u.keeper.parts = s.keeper.parts := congrArg Prod.fst h

theorem booted_of_custody (h : u.custody = s.custody) : u.keeper.booted = s.keeper.booted := congrArg Prod.snd h

theorem part_of_custody (h : u.custody = s.custody) (n : Nat) : u.part n = s.part n := by
  unfold State.part; rw [parts_of_custody h]

/-! ## What does not reach the Keeper -/

theorem keeper_of_touches {m : Nat} (h : Touches m s u) (hm : m.testBit 64 = false := by decide) : u.keeper = s.keeper :=
  (h .keeper hm).symm

theorem custody_of_keeper (h : u.keeper = s.keeper) : u.custody = s.custody := by unfold State.custody; rw [h]

theorem custody_of_touches {m : Nat} (h : Touches m s u) (hm : m.testBit 64 = false := by decide) : u.custody = s.custody :=
  custody_of_keeper (keeper_of_touches h hm)

/-- From a change of any pieces but the Keeper: the mask has every bit but that one. -/
theorem custody_of_others (h : Touches 75539416981840613867519 s u) : u.custody = s.custody := custody_of_touches h

theorem ite_custody {c : Prop} [Decidable c] (ht : t.custody = s.custody) (hu : u.custody = s.custody) :
    (if c then t else u).custody = s.custody := by
  split
  · exact ht
  · exact hu

/-- Does an outcome leave the Keeper as it was? -/
def KeeperSame (s : State) (o : Host.Outcome State Fault Refusal) : Prop := ∀ u, o = .next u → u.keeper = s.keeper

theorem keeperSame_of_touches {m : Nat} {o : Host.Outcome State Fault Refusal} (h : TouchesO m s o)
    (hm : m.testBit 64 = false := by decide) : KeeperSame s o := fun u hu => keeper_of_touches (h u hu) hm

/-- The commands that may change something of the Keeper: its own, resets and boots, and set-up writes, also those that waited for a
wake. -/
def reachesKeeper : Instr → Bool
  | .sealKeeper _ | .anchor _ _ | .switch _ _ _ | .switchComplete _ | .fwStage _ _ _ | .commitSvn _ | .kprCommandComplete
  | .mailboxSend _ _ | .mailboxRxAck _ _ => true
  | .getVersion _ _ | .getCapabilities _ _ | .negotiateAlgorithms _ _ _ | .getDigests _ _ | .getCertificate _ _ _
  | .challenge _ _ _ | .getMeasurements _ _ _ _ _ | .keyExchange _ _ | .finish _ _ _ _ | .heartbeat _ | .keyUpdate _ _
  | .endSession _ | .chunkSend _ _ _ _ _ | .chunkGet _ _ _ | .keyInstall _ _ | .keyDestroy _ _ | .setEndpointId _ _
  | .getEndpointId _ | .getMctpVersionSupport _ _ | .getMessageTypeSupport _ | .unsupportedMctpCommand _ _
  | .pldmRequest _ _ _ => true
  | .regionValidClear _ _ _ | .regionMeasured _ => true
  | .setupRegisterWrite _ _ _ _ | .wakeComplete => true
  | .cold _ | .resetNAssert | .vinLockout | .sensorSample _ | .refclkSysLost => true
  | .resetNRelease _ | .powerOn _ | .refclkSysRestored _ | .flashExtRelease _ => true
  | _ => false

/-- Every other command leaves the Keeper as it is. -/
theorem keeper_exec {c : Instr} (hc : reachesKeeper c = false) : KeeperSame s (exec c s) := by
  cases c with
  | ringCreate => exact keeperSame_of_touches touches_execRingCreate
  | ringDestroy => exact keeperSame_of_touches touches_execRingDestroy
  | ringStop => exact keeperSame_of_touches touches_execRingStop
  | ringResume => exact keeperSame_of_touches touches_execRingResume
  | ringRead => exact keeperSame_of_touches touches_execRingRead
  | ringCommandComplete => exact keeperSame_of_touches touches_execRingCommandComplete
  | dbSqTail => exact keeperSame_of_touches touches_execDbSqTail
  | dbCqHead => exact keeperSame_of_touches touches_execDbCqHead
  | descriptorFetch => exact keeperSame_of_touches touches_execDescriptorFetch
  | descriptorFetched => exact keeperSame_of_touches touches_execDescriptorFetched
  | descriptorPrecheckComplete => exact keeperSame_of_touches touches_execDescriptorPrecheckComplete
  | completionRecordWriteFault => exact keeperSame_of_touches touches_execCompletionRecordWriteFault
  | coalesceTimerExpiry => exact keeperSame_of_touches touches_execCoalesceTimerExpiry
  | msixUnmask => exact keeperSame_of_touches touches_execMsixUnmask
  | msixEnable => exact keeperSame_of_touches touches_execMsixEnable
  | dmaCopy => exact keeperSame_of_touches touches_execDmaCopy
  | dmaFill => exact keeperSame_of_touches touches_execDmaFill
  | dmaNop => exact keeperSame_of_touches touches_execDmaNop
  | dmaDescriptorComplete => exact keeperSame_of_touches touches_execDmaDescriptorComplete
  | dmaTransferFailure => exact keeperSame_of_touches touches_execDmaTransferFailure
  | pcieCompletionTimeout => exact keeperSame_of_touches touches_execPcieCompletionTimeout
  | rotationStart => exact keeperSame_of_touches touches_execRotationStart
  | bindPhase => exact keeperSame_of_touches touches_execBindPhase
  | launchPhase => exact keeperSame_of_touches touches_execLaunchPhase
  | clauseWindowStart => exact keeperSame_of_touches touches_execClauseWindowStart
  | clauseWindowEnd => exact keeperSame_of_touches touches_execClauseWindowEnd
  | closePhase => exact keeperSame_of_touches touches_execClosePhase
  | guardPhase => exact keeperSame_of_touches touches_execGuardPhase
  | rotChangeAt => exact keeperSame_of_touches touches_execRotChangeAt
  | bookLoad => exact keeperSame_of_touches touches_execBookLoad
  | bookUnload => exact keeperSame_of_touches touches_execBookUnload
  | bookLoadComplete => exact keeperSame_of_touches touches_execBookLoadComplete
  | rotRunSet => exact keeperSame_of_touches touches_execRotRunSet
  | rotRunClear => exact keeperSame_of_touches touches_execRotRunClear
  | beaconReceived => exact keeperSame_of_touches touches_execBeaconReceived
  | beaconMissed => exact keeperSame_of_touches touches_execBeaconMissed
  | holdoverExpiry => exact keeperSame_of_touches touches_execHoldoverExpiry
  | standbyRootTakeover => exact keeperSame_of_touches touches_execStandbyRootTakeover
  | firstBeaconWaitExpiry => exact keeperSame_of_touches touches_execFirstBeaconWaitExpiry
  | sessCreate => exact keeperSame_of_touches touches_execSessCreate
  | append => exact keeperSame_of_touches touches_execAppend
  | publish => exact keeperSame_of_touches touches_execPublish
  | fork => exact keeperSame_of_touches touches_execFork
  | sessOpen => exact keeperSame_of_touches touches_execSessOpen
  | discard => exact keeperSame_of_touches touches_execDiscard
  | offer => exact keeperSame_of_touches touches_execOffer
  | accept => exact keeperSame_of_touches touches_execAccept
  | sessQuery => exact keeperSame_of_touches touches_execSessQuery
  | wake => exact keeperSame_of_touches touches_execWake
  | memberOperation => exact keeperSame_of_touches touches_execMemberOperation
  | memberAck => exact keeperSame_of_touches touches_execMemberAck
  | sessionMemberTimeout => exact keeperSame_of_touches touches_execSessionMemberTimeout
  | pull => exact keeperSame_of_touches touches_execPull
  | pullResponse => exact keeperSame_of_touches touches_execPullResponse
  | pullTimeout => exact keeperSame_of_touches touches_execPullTimeout
  | claim => exact keeperSame_of_touches touches_execClaim
  | handoffGrant => exact keeperSame_of_touches touches_execHandoffGrant
  | commit => exact keeperSame_of_touches touches_execCommit
  | commitAck => exact keeperSame_of_touches touches_execCommitAck
  | commitTimeout => exact keeperSame_of_touches touches_execCommitTimeout
  | leaseReadTimeout => exact keeperSame_of_touches touches_execLeaseReadTimeout
  | leaseResolve => exact keeperSame_of_touches touches_execLeaseResolve
  | release => exact keeperSame_of_touches touches_execRelease
  | handoffTimerExpiry => exact keeperSame_of_touches touches_execHandoffTimerExpiry
  | releaseWaitExpiry => exact keeperSame_of_touches touches_execReleaseWaitExpiry
  | sessionIdleExpiry => exact keeperSame_of_touches touches_execSessionIdleExpiry
  | reclamationProgress => exact keeperSame_of_touches touches_execReclamationProgress
  | attnQuery => exact keeperSame_of_touches touches_execAttnQuery
  | attAbftInject => exact keeperSame_of_touches touches_execAttAbftInject
  | define => exact keeperSame_of_touches touches_execDefine
  | retire => exact keeperSame_of_touches touches_execRetire
  | tableRead => exact keeperSame_of_touches touches_execTableRead
  | tableZeroingComplete => exact keeperSame_of_touches touches_execTableZeroingComplete
  | lookup => exact keeperSame_of_touches touches_execLookup
  | lookahead => exact keeperSame_of_touches touches_execLookahead
  | grad => exact keeperSame_of_touches touches_execGrad
  | close => exact keeperSame_of_touches touches_execClose
  | abandon => exact keeperSame_of_touches touches_execAbandon
  | reversalComplete => exact keeperSame_of_touches touches_execReversalComplete
  | closeInstallComplete => exact keeperSame_of_touches touches_execCloseInstallComplete
  | nop v f => exact keeperSame_of_touches (touches_execNop (a2 := f))
  | add => exact keeperSame_of_touches touches_execAdd
  | sub => exact keeperSame_of_touches touches_execSub
  | and => exact keeperSame_of_touches touches_execAnd
  | or => exact keeperSame_of_touches touches_execOr
  | xor => exact keeperSame_of_touches touches_execXor
  | shl => exact keeperSame_of_touches touches_execShl
  | shr => exact keeperSame_of_touches touches_execShr
  | sra => exact keeperSame_of_touches touches_execSra
  | mul => exact keeperSame_of_touches touches_execMul
  | mulh => exact keeperSame_of_touches touches_execMulh
  | min => exact keeperSame_of_touches touches_execMin
  | max => exact keeperSame_of_touches touches_execMax
  | slt => exact keeperSame_of_touches touches_execSlt
  | sltu => exact keeperSame_of_touches touches_execSltu
  | li => exact keeperSame_of_touches touches_execLi
  | lih => exact keeperSame_of_touches touches_execLih
  | addImm => exact keeperSame_of_touches touches_execAddImm
  | subImm => exact keeperSame_of_touches touches_execSubImm
  | andImm => exact keeperSame_of_touches touches_execAndImm
  | orImm => exact keeperSame_of_touches touches_execOrImm
  | xorImm => exact keeperSame_of_touches touches_execXorImm
  | shlImm => exact keeperSame_of_touches touches_execShlImm
  | shrImm => exact keeperSame_of_touches touches_execShrImm
  | sraImm => exact keeperSame_of_touches touches_execSraImm
  | mulImm => exact keeperSame_of_touches touches_execMulImm
  | mulhImm => exact keeperSame_of_touches touches_execMulhImm
  | minImm => exact keeperSame_of_touches touches_execMinImm
  | maxImm => exact keeperSame_of_touches touches_execMaxImm
  | sltImm => exact keeperSame_of_touches touches_execSltImm
  | sltuImm => exact keeperSame_of_touches touches_execSltuImm
  | fadd => exact keeperSame_of_touches touches_execFadd
  | fsub => exact keeperSame_of_touches touches_execFsub
  | fmul => exact keeperSame_of_touches touches_execFmul
  | ffma => exact keeperSame_of_touches touches_execFfma
  | fdiv => exact keeperSame_of_touches touches_execFdiv
  | fsqrt => exact keeperSame_of_touches touches_execFsqrt
  | fmin => exact keeperSame_of_touches touches_execFmin
  | fmax => exact keeperSame_of_touches touches_execFmax
  | fcvti => exact keeperSame_of_touches touches_execFcvti
  | icvtf => exact keeperSame_of_touches touches_execIcvtf
  | beq => exact keeperSame_of_touches touches_execBeq
  | bne => exact keeperSame_of_touches touches_execBne
  | blt => exact keeperSame_of_touches touches_execBlt
  | bge => exact keeperSame_of_touches touches_execBge
  | jmp => exact keeperSame_of_touches touches_execJmp
  | halt v f => exact keeperSame_of_touches (touches_execHalt (a2 := f))
  | vadd => exact keeperSame_of_touches touches_execVadd
  | vsub => exact keeperSame_of_touches touches_execVsub
  | vmul => exact keeperSame_of_touches touches_execVmul
  | vfma => exact keeperSame_of_touches touches_execVfma
  | vmin => exact keeperSame_of_touches touches_execVmin
  | vmax => exact keeperSame_of_touches touches_execVmax
  | vand => exact keeperSame_of_touches touches_execVand
  | vor => exact keeperSame_of_touches touches_execVor
  | vxor => exact keeperSame_of_touches touches_execVxor
  | vsel => exact keeperSame_of_touches touches_execVsel
  | vbcast => exact keeperSame_of_touches touches_execVbcast
  | vredsum => exact keeperSame_of_touches touches_execVredsum
  | vredmax => exact keeperSame_of_touches touches_execVredmax
  | vperm => exact keeperSame_of_touches touches_execVperm
  | vcvt => exact keeperSame_of_touches touches_execVcvt
  | vexp2 => exact keeperSame_of_touches touches_execVexp2
  | vdiv => exact keeperSame_of_touches touches_execVdiv
  | vsqrt => exact keeperSame_of_touches touches_execVsqrt
  | vcmp => exact keeperSame_of_touches touches_execVcmp
  | amm => exact keeperSame_of_touches touches_execAmm
  | ammComplete => exact keeperSame_of_touches touches_execAmmComplete
  | azero => exact keeperSame_of_touches touches_execAzero
  | astore => exact keeperSame_of_touches touches_execAstore
  | aload => exact keeperSame_of_touches touches_execAload
  | lds => exact keeperSame_of_touches touches_execLds
  | sts => exact keeperSame_of_touches touches_execSts
  | vlds => exact keeperSame_of_touches touches_execVlds
  | vsts => exact keeperSame_of_touches touches_execVsts
  | stream => exact keeperSame_of_touches touches_execStream
  | swait => exact keeperSame_of_touches touches_execSwait
  | streamTileBegin => exact keeperSame_of_touches touches_execStreamTileBegin
  | streamComplete => exact keeperSame_of_touches touches_execStreamComplete
  | ld => exact keeperSame_of_touches touches_execLd
  | st => exact keeperSame_of_touches touches_execSt
  | vld => exact keeperSame_of_touches touches_execVld
  | vst => exact keeperSame_of_touches touches_execVst
  | ldv => exact keeperSame_of_touches touches_execLdv
  | vldv => exact keeperSame_of_touches touches_execVldv
  | linv => exact keeperSame_of_touches touches_execLinv
  | aadd => exact keeperSame_of_touches touches_execAadd
  | aswp => exact keeperSame_of_touches touches_execAswp
  | acas => exact keeperSame_of_touches touches_execAcas
  | amin => exact keeperSame_of_touches touches_execAmin
  | amax => exact keeperSame_of_touches touches_execAmax
  | alda => exact keeperSame_of_touches touches_execAlda
  | astr => exact keeperSame_of_touches touches_execAstr
  | fence => exact keeperSame_of_touches touches_execFence
  | poolAccessComplete => exact keeperSame_of_touches touches_execPoolAccessComplete
  | tierEnable => exact keeperSame_of_touches touches_execTierEnable
  | tierReady => exact keeperSame_of_touches touches_execTierReady
  | nvmeCommandComplete => exact keeperSame_of_touches touches_execNvmeCommandComplete
  | nvmeCommandTimeout => exact keeperSame_of_touches touches_execNvmeCommandTimeout
  | driveResetTimeout => exact keeperSame_of_touches touches_execDriveResetTimeout
  | fillComplete => exact keeperSame_of_touches touches_execFillComplete
  | frameWaitTimeout => exact keeperSame_of_touches touches_execFrameWaitTimeout
  | ageExamination => exact keeperSame_of_touches touches_execAgeExamination
  | copyPassComplete => exact keeperSame_of_touches touches_execCopyPassComplete
  | writebackStart => exact keeperSame_of_touches touches_execWritebackStart
  | patrolScrubStep => exact keeperSame_of_touches touches_execPatrolScrubStep
  | ptwrite => exact keeperSame_of_touches touches_execPtwrite
  | inval => exact keeperSame_of_touches touches_execInval
  | setroot => exact keeperSame_of_touches touches_execSetroot
  | ptwriteBroadcast => exact keeperSame_of_touches touches_execPtwriteBroadcast
  | invalForward => exact keeperSame_of_touches touches_execInvalForward
  | invalConfirm => exact keeperSame_of_touches touches_execInvalConfirm
  | invalConfirmTimeout => exact keeperSame_of_touches touches_execInvalConfirmTimeout
  | walkEntryRead => exact keeperSame_of_touches touches_execWalkEntryRead
  | regionValidSet => exact keeperSame_of_touches touches_execRegionValidSet
  | weightBlockExpanded => exact keeperSame_of_touches touches_execWeightBlockExpanded
  | flitReceived => exact keeperSame_of_touches touches_execFlitReceived
  | replayTimerExpiry => exact keeperSame_of_touches touches_execReplayTimerExpiry
  | signalDetect => exact keeperSame_of_touches touches_execSignalDetect
  | trainComplete => exact keeperSame_of_touches touches_execTrainComplete
  | trainTimeout => exact keeperSame_of_touches touches_execTrainTimeout
  | trainRetryTimer => exact keeperSame_of_touches touches_execTrainRetryTimer
  | keyExchangeComplete => exact keeperSame_of_touches touches_execKeyExchangeComplete
  | keyExchangeTimeout => exact keeperSame_of_touches touches_execKeyExchangeTimeout
  | retrainTimeout => exact keeperSame_of_touches touches_execRetrainTimeout
  | signalLost => exact keeperSame_of_touches touches_execSignalLost
  | portReset => exact keeperSame_of_touches touches_execPortReset
  | portRetrain => exact keeperSame_of_touches touches_execPortRetrain
  | rdS => exact keeperSame_of_touches touches_execRdS
  | rdX => exact keeperSame_of_touches touches_execRdX
  | upg => exact keeperSame_of_touches touches_execUpg
  | rdNc => exact keeperSame_of_touches touches_execRdNc
  | wrC => exact keeperSame_of_touches touches_execWrC
  | wrCm => exact keeperSame_of_touches touches_execWrCm
  | wrNs => exact keeperSame_of_touches touches_execWrNs
  | atAdd => exact keeperSame_of_touches touches_execAtAdd
  | atSwp => exact keeperSame_of_touches touches_execAtSwp
  | atCas => exact keeperSame_of_touches touches_execAtCas
  | atMin => exact keeperSame_of_touches touches_execAtMin
  | atMax => exact keeperSame_of_touches touches_execAtMax
  | evict => exact keeperSame_of_touches touches_execEvict
  | snInv => exact keeperSame_of_touches touches_execSnInv
  | snFwdS => exact keeperSame_of_touches touches_execSnFwdS
  | snFwdX => exact keeperSame_of_touches touches_execSnFwdX
  | snRecall => exact keeperSame_of_touches touches_execSnRecall
  | snRecallX => exact keeperSame_of_touches touches_execSnRecallX
  | data => exact keeperSame_of_touches touches_execData
  | cmp => exact keeperSame_of_touches touches_execCmp
  | snAck => exact keeperSame_of_touches touches_execSnAck
  | snData => exact keeperSame_of_touches touches_execSnData
  | wbPull => exact keeperSame_of_touches touches_execWbPull
  | wbData => exact keeperSame_of_touches touches_execWbData
  | atData => exact keeperSame_of_touches touches_execAtData
  | mg => exact keeperSame_of_touches touches_execMg
  | snoopTimeout => exact keeperSame_of_touches touches_execSnoopTimeout
  | victimBufferTimeout => exact keeperSame_of_touches touches_execVictimBufferTimeout
  | remoteRequestTimeout => exact keeperSame_of_touches touches_execRemoteRequestTimeout
  | tagQuarantineExpiry => exact keeperSame_of_touches touches_execTagQuarantineExpiry
  | mark => exact keeperSame_of_touches touches_execMark
  | unmark => exact keeperSame_of_touches touches_execUnmark
  | grant => exact keeperSame_of_touches touches_execGrant
  | revoke => exact keeperSame_of_touches touches_execRevoke
  | poolQuery => exact keeperSame_of_touches touches_execPoolQuery
  | setmode => exact keeperSame_of_touches touches_execSetmode
  | setmodeDrained => exact keeperSame_of_touches touches_execSetmodeDrained
  | revokeTimerExpiry => exact keeperSame_of_touches touches_execRevokeTimerExpiry
  | directorySweepComplete => exact keeperSame_of_touches touches_execDirectorySweepComplete
  | cxlMemRead => exact keeperSame_of_touches touches_execCxlMemRead
  | cxlMemWrite => exact keeperSame_of_touches touches_execCxlMemWrite
  | tokenAdmit => exact keeperSame_of_touches touches_execTokenAdmit
  | throttleHoldExpiry => exact keeperSame_of_touches touches_execThrottleHoldExpiry
  | birsp => exact keeperSame_of_touches touches_execBirsp
  | backInvalidateTimeout => exact keeperSame_of_touches touches_execBackInvalidateTimeout
  | hdmDecoderCommit => exact keeperSame_of_touches touches_execHdmDecoderCommit
  | hostConfigRequest => exact keeperSame_of_touches touches_execHostConfigRequest
  | keeperReconciliation => exact keeperSame_of_touches touches_execKeeperReconciliation
  | fenceTimeout => exact keeperSame_of_touches touches_execFenceTimeout
  | proxyTimeout => exact keeperSame_of_touches touches_execProxyTimeout
  | jobReset => exact keeperSame_of_touches touches_execJobReset
  | jobResetComplete => exact keeperSame_of_touches touches_execJobResetComplete
  | fog => exact keeperSame_of_touches touches_execFog
  | fogEntryComplete => exact keeperSame_of_touches touches_execFogEntryComplete
  | rasAck => exact keeperSame_of_touches touches_execRasAck
  | rasInject => exact keeperSame_of_touches touches_execRasInject
  | rasLogBaseWrite => exact keeperSame_of_touches touches_execRasLogBaseWrite
  | relief => exact keeperSame_of_touches touches_execRelief
  | dark => exact keeperSame_of_touches touches_execDark
  | darkEntryComplete => exact keeperSame_of_touches touches_execDarkEntryComplete
  | pwrWake => exact keeperSame_of_touches touches_execPwrWake
  | vinMargin => exact keeperSame_of_touches touches_execVinMargin
  | throttleClearExpiry => exact keeperSame_of_touches touches_execThrottleClearExpiry
  | refclkFabLost => exact keeperSame_of_touches touches_execRefclkFabLost
  | perstAssert => exact keeperSame_of_touches touches_execPerstAssert
  | perstDeassert => exact keeperSame_of_touches touches_execPerstDeassert
  | hostLinkDown => exact keeperSame_of_touches touches_execHostLinkDown
  | tapBypass => exact keeperSame_of_touches touches_execTapBypass
  | tapIdcode => exact keeperSame_of_touches touches_execTapIdcode
  | tapSamplePreload => exact keeperSame_of_touches touches_execTapSamplePreload
  | tapExtest => exact keeperSame_of_touches touches_execTapExtest
  | trstAssert => exact keeperSame_of_touches touches_execTrstAssert
  | hostL1Exit => exact keeperSame_of_touches touches_execHostL1Exit
  | idleLinkMessage => exact keeperSame_of_touches touches_execIdleLinkMessage
  | hostLinkTrained => exact keeperSame_of_touches touches_execHostLinkTrained
  | codewordAlignmentLost => exact keeperSame_of_touches touches_execCodewordAlignmentLost
  | nvmeControllerReady => exact keeperSame_of_touches touches_execNvmeControllerReady
  | nvmeControllerResetTimeout => exact keeperSame_of_touches touches_execNvmeControllerResetTimeout
  | nvmePerstPulseEnd => exact keeperSame_of_touches touches_execNvmePerstPulseEnd
  | claimRefused => exact keeperSame_of_touches touches_execClaimRefused
  | leaseReadAnswer => exact keeperSame_of_touches touches_execLeaseReadAnswer
  | _ => exact Bool.noConfusion hc

end Sys2Proof.Machine
end

section
/-! PROOF. The operations of the Keeper that leave the partitions' records and its boot as they are. -/

namespace Sys2Proof.Machine

variable {s t u : State}

theorem each_custody {α : Type} {l : List α} {f : State → α → State} (hf : ∀ u a, (f u a).custody = u.custody) :
    (s.each l f).custody = s.custody := by
  induction l generalizing s with
  | nil => rfl
  | cons a l ih => exact (ih (s := f s a)).trans (hf s a)

@[simp] theorem setReg_custody {o : Nat} {w : Word} : (s.setReg o w).custody = s.custody := rfl

@[simp] theorem emit_custody {o : Out} : (s.emit o).custody = s.custody := rfl

@[simp] theorem advanceMgen_custody : s.advanceMgen.custody = s.custody := rfl

@[simp] theorem vectorH0_custody {off : Nat} : (s.vectorH0 off).custody = s.custody := custody_of_others (by simp)

@[simp] theorem setupError_custody {port off cause : Nat} : (s.setupError port off cause).custody = s.custody :=
  custody_of_others (by simp)

/-! ## Regions (R325, R266) -/

@[simp] theorem regionClear_custody {r ten key : Nat} : (s.regionClear r ten key).custody = s.custody := by
  unfold State.regionClear
  dsimp only
  split <;> rfl

@[simp] theorem regionReady_custody {r : Nat} : (s.regionReady r).custody = s.custody := ite_custody rfl rfl

/-! ## Commands and the mailbox (R341) -/

@[simp] theorem kprDone_custody : s.kprDone.custody = s.custody := by
  unfold State.kprDone
  split
  · rfl
  · split
    · rfl
    · exact vectorH0_custody

@[simp] theorem applyEnables_custody {was : State} : (s.applyEnables was).custody = s.custody := custody_of_others (by simp)

theorem sealKeeper_custody {port : Nat} : (s.sealKeeper port).1.custody = s.custody := by
  unfold State.sealKeeper
  split
  · rfl
  · split
    · rfl
    · rw [advanceMgen_custody, applyEnables_custody]
      rfl

theorem stageFirmware_custody {port : Nat} {k c : Bool} : (s.stageFirmware port k c).1.custody = s.custody := by
  unfold State.stageFirmware
  dsimp only
  split
  · rfl
  · split <;> rfl

theorem commit_custody {port : Nat} : (s.commit port).1.custody = s.custody := by
  unfold State.commit
  split <;> rfl

@[simp] theorem mailboxSend_custody {port : Nat} {len : BitVec 32} : (s.mailboxSend port len).custody = s.custody :=
  ite_custody rfl (ite_custody setupError_custody (ite_custody setupError_custody rfl))

@[simp] theorem mailboxLoad_custody {bytes : List Byte} : (s.mailboxLoad bytes).custody = s.custody := by
  unfold State.mailboxLoad
  dsimp only
  rw [vectorH0_custody, setReg_custody, each_custody fun _ _ => setReg_custody]
  rfl

@[simp] theorem mailboxAck_custody {value : BitVec 32} : (s.mailboxAck value).custody = s.custody :=
  ite_custody rfl (ite_custody mailboxLoad_custody rfl)

/-! ## Messages (R327, R328) -/

@[simp] theorem say_custody {b : Nat} {bytes : List Byte} : (s.say b bytes).custody = s.custody := ite_custody mailboxLoad_custody emit_custody

theorem asked_custody {b : Nat} {act : State → State} (h : (act s).custody = s.custody) : (s.asked? b act).custody = s.custody :=
  ite_custody h rfl

@[simp] theorem control_custody {b command code : Nat} {data : List Byte} : (s.control b command code data).custody = s.custody :=
  say_custody

@[simp] theorem setConn_custody {b n : Nat} : (s.setConn b n).custody = s.custody := rfl

@[simp] theorem setChunkOut_custody {b : Nat} {l : List Byte} : (s.setChunkOut b l).custody = s.custody := rfl

@[simp] theorem setChunkIn_custody {b : Nat} {l : List Byte} : (s.setChunkIn b l).custody = s.custody := rfl

@[simp] theorem setSpdm_custody {i : Nat} {x : Spdm} : (s.setSpdm i x).custody = s.custody := rfl

@[simp] theorem dropSpdm_custody {i : Nat} : (s.dropSpdm i).custody = s.custody := rfl

@[simp] theorem spdmFail_custody {b code : Nat} : (s.spdmFail b code).custody = s.custody := say_custody

@[simp] theorem spdmSay_custody {b : Nat} {type : Byte} {body : List Byte} : (s.spdmSay b type body).custody = s.custody :=
  ite_custody (say_custody.trans setChunkOut_custody) say_custody

@[simp] theorem sessionSay_custody {x : Spdm} {code : Nat} {body content : List Byte} :
    (s.sessionSay x code body content).custody = s.custody := spdmSay_custody

theorem spdmRequest_custody {b code need : Nat} {body content : List Byte} {act : State → State}
    (h : (act s).custody = s.custody) : (s.spdmRequest b code need body content act).custody = s.custody :=
  asked_custody (ite_custody spdmFail_custody (spdmSay_custody.trans h))

theorem inSession_custody {i : Nat} {act : State → Spdm → State} (h : ∀ x, (act s x).custody = s.custody) :
    (s.inSession i act).custody = s.custody := by
  unfold State.inSession
  split
  · rfl
  · refine asked_custody ?_
    split
    · exact h _
    · exact say_custody

@[simp] theorem setEid_custody {b : Nat} {eid : Byte} : (s.setEid b eid).custody = s.custody :=
  ite_custody control_custody control_custody

@[simp] theorem mctpVersion_custody {b : Nat} {type : Byte} : (s.mctpVersion b type).custody = s.custody :=
  ite_custody control_custody control_custody

@[simp] theorem unsupported_custody {b : Nat} {command : Byte} : (s.unsupported b command).custody = s.custody :=
  ite_custody rfl control_custody

theorem spdmVersion_custody {b : Nat} {body : List Byte} : (s.spdmVersion b body).custody = s.custody :=
  spdmRequest_custody (by rw [setChunkOut_custody, setChunkIn_custody, setConn_custody])

theorem spdmCapabilities_custody {b : Nat} {body : List Byte} : (s.spdmCapabilities b body).custody = s.custody :=
  spdmRequest_custody setConn_custody

@[simp] theorem spdmAlgorithms_custody {b : Nat} {body : List Byte} {common : Bool} :
    (s.spdmAlgorithms b body common).custody = s.custody :=
  ite_custody (asked_custody spdmFail_custody) (spdmRequest_custody setConn_custody)

@[simp] theorem spdmSlot_custody {b code : Nat} {slot : Byte} {body : List Byte} : (s.spdmSlot b code slot body).custody = s.custody :=
  asked_custody (ite_custody spdmFail_custody (spdmRequest_custody rfl))

@[simp] theorem challenge_custody {b : Nat} {slot : Byte} {body : List Byte} : (s.challenge b slot body).custody = s.custody :=
  asked_custody (ite_custody spdmFail_custody (ite_custody spdmFail_custody spdmSay_custody))

@[simp] theorem keyExchange_custody {b : Nat} {body : List Byte} : (s.keyExchange b body).custody = s.custody := by
  refine asked_custody ?_
  (repeat' split) <;> simp

@[simp] theorem finishSession_custody {i : Nat} {mutually verified : Bool} {root : BitVec 384} :
    (s.finishSession i mutually root verified).custody = s.custody := by
  unfold State.finishSession
  split
  · rfl
  · refine asked_custody ?_
    (repeat' split) <;> simp

@[simp] theorem getMeasurements_custody {b index : Nat} {session : Option Nat} {signed : Bool} {body : List Byte} :
    (s.getMeasurements b session index signed body).custody = s.custody := by
  unfold State.getMeasurements
  dsimp only
  split
  · refine inSession_custody fun x => ?_
    (repeat' split) <;> simp <;> rfl
  · refine asked_custody ?_
    (repeat' split) <;> simp <;> rfl

@[simp] theorem chunkIn_custody {b handle seq : Nat} {last : Bool} {body : List Byte} :
    (s.chunkIn b handle seq last body).custody = s.custody :=
  asked_custody (ite_custody spdmFail_custody (spdmSay_custody.trans setChunkIn_custody))

@[simp] theorem chunkGet_custody {b handle seq : Nat} : (s.chunkGet b handle seq).custody = s.custody := by
  refine asked_custody ?_
  dsimp only
  (repeat' split) <;> simp

@[simp] theorem pldm_custody {b sensor : Nat} {body : List Byte} : (s.pldm b sensor body).custody = s.custody :=
  asked_custody say_custody

end Sys2Proof.Machine
end

section
/-! PROOF. Every command but the end of a switch keeps the anchors of a device whose Keeper stays booted (R330). -/

namespace Sys2Proof.Machine

variable {s t u : State}

/-- If the Keeper has booted afterwards then it had booted before, and no anchor is gone. That it had booted before is a conclusion here
and no hypothesis, so that the relation composes: a cold reset followed by a boot is not in it. -/
def KeepsAnchors (s u : State) : Prop :=
  u.keeper.booted = true → s.keeper.booted = true ∧ ∀ n, (s.part n).anchored = true → (u.part n).anchored = true

namespace KeepsAnchors

theorem refl (s : State) : KeepsAnchors s s := fun h => ⟨h, fun _ ha => ha⟩

theorem trans (h : KeepsAnchors s t) (h' : KeepsAnchors t u) : KeepsAnchors s u := fun hu => by
  obtain ⟨ht, htu⟩ := h' hu
  obtain ⟨hs, hst⟩ := h ht
  exact ⟨hs, fun n ha => htu n (hst n ha)⟩

theorem of_custody (h : u.custody = s.custody) : KeepsAnchors s u := fun hu =>
  ⟨booted_of_custody h ▸ hu, fun n ha => (part_of_custody h n).symm ▸ ha⟩

theorem of_touches {m : Nat} (h : Touches m s u) (hm : m.testBit 64 = false := by decide) : KeepsAnchors s u :=
  of_custody (custody_of_touches h hm)

theorem of_others (h : Touches 75539416981840613867519 s u) : KeepsAnchors s u := of_custody (custody_of_others h)

theorem of_not_booted (h : u.keeper.booted = false) : KeepsAnchors s u := fun hu => absurd hu (by simp [h])

theorem ite {c : Prop} [Decidable c] (ht : KeepsAnchors s t) (hu : KeepsAnchors s u) : KeepsAnchors s (if c then t else u) := by
  split
  · exact ht
  · exact hu

theorem each {α : Type} {l : List α} {f : State → α → State} (hf : ∀ u a, KeepsAnchors u (f u a)) :
    KeepsAnchors s (s.each l f) := by
  induction l generalizing s with
  | nil => exact refl s
  | cons a l ih => exact (hf s a).trans ih

end KeepsAnchors

/-- The same of an outcome: whatever state it answers. -/
def NextKeepsAnchors (s : State) (o : Host.Outcome State Fault Refusal) : Prop := ∀ u, o = .next u → KeepsAnchors s u

theorem nextKeepsAnchors_next : NextKeepsAnchors s (.next u) ↔ KeepsAnchors s u :=
  ⟨fun h => h u rfl, fun h v e => by cases e; exact h⟩

theorem NextKeepsAnchors.after {o : Host.Outcome State Fault Refusal} (h : NextKeepsAnchors s o) : KeepsAnchors s (s.after o) := by
  unfold State.after
  split
  · exact h _ rfl
  · exact .refl s

theorem keepsAnchors_after {m : Nat} {o : Host.Outcome State Fault Refusal} (h : TouchesO m s o)
    (hm : m.testBit 64 = false := by decide) : KeepsAnchors s (s.after o) := .of_touches (touches_after h) hm

/-! ## A partition's record -/

theorem part_updPart {p n : Nat} {f : Part → Part} : (s.updPart p f).part n = if n = p then f (s.part p) else s.part n := by
  unfold State.updPart State.part
  dsimp only
  split
  · subst n; rw [tget_tput_same]
  · rw [tget_tput_other _ ‹_›]

theorem updPart_keepsAnchors {p : Nat} {f : Part → Part} (hf : ∀ x, x.anchored = true → (f x).anchored = true) :
    KeepsAnchors s (s.updPart p f) := by
  refine fun hu => ⟨hu, fun n ha => ?_⟩
  rw [part_updPart]
  split
  · subst n; exact hf _ ha
  · exact ha

theorem updPart_advanceMgen_keepsAnchors {p : Nat} {f : Part → Part} (hf : ∀ x, x.anchored = true → (f x).anchored = true) :
    KeepsAnchors s (s.updPart p f).advanceMgen :=
  (updPart_keepsAnchors hf).trans (.of_custody advanceMgen_custody)

/-! ## The gates of a write -/

theorem setupWrite_keepsAnchors {port off : Nat} {owner : Option Nat} {fogOk : Bool} {held : Held} {act : State → State}
    (hf : ∀ u, KeepsAnchors u (act u)) : KeepsAnchors s (s.setupWrite port off owner fogOk held act) := by
  have hg : KeepsAnchors s (State.setupWrite.go port off owner fogOk act s) := by
    unfold State.setupWrite.go
    dsimp only
    split
    · exact .refl s
    split
    · exact .refl s
    split
    · split
      · exact hf s
      · exact .refl s
    split
    · exact .of_custody setupError_custody
    split
    · exact .of_custody setupError_custody
    split
    · split
      · exact hf s
      · exact .of_custody setupError_custody
    · exact hf s
  unfold State.setupWrite State.whenAwake
  split
  · exact hg
  split
  · exact .refl s
  split
  · exact .of_others (by simp)
  · exact hg

theorem kprCommand_keepsAnchors {port : Nat} {fwStage : Bool} {held : Held} {act : State → State × Byte × Bool}
    (hf : ∀ u, KeepsAnchors u (act u).1) : KeepsAnchors s (s.kprCommand port fwStage held act) := by
  refine setupWrite_keepsAnchors fun u => ?_
  split
  · exact .refl u
  split
  · exact .of_custody setupError_custody
  · exact (hf u).trans (.of_custody rfl)

theorem pwrCommand_keepsAnchors {port op : Nat} {act : State → State} (hf : ∀ u, KeepsAnchors u (act u)) :
    KeepsAnchors s (s.pwrCommand port op act) := by
  unfold State.pwrCommand
  dsimp only
  split
  · exact .of_others (by simp)
  split
  · exact .of_others (by simp)
  refine setupWrite_keepsAnchors fun u => ?_
  split
  · exact .of_others (by simp)
  · exact hf u

/-! ## The Keeper's commands (R330, R339) -/

theorem setAnchor_keepsAnchors {port p : Nat} : KeepsAnchors s (s.setAnchor port p).1 := by
  unfold State.setAnchor
  split
  · exact .refl s
  split
  · exact .refl s
  · exact updPart_advanceMgen_keepsAnchors fun _ _ => rfl

theorem scrub_keepsAnchors {p : Nat} {erase : Bool} : KeepsAnchors s (s.scrub p erase) := by
  have hp : KeepsAnchors s (s.updPart p fun x => { x with switching := true, erase }) := updPart_keepsAnchors fun _ ha => ha
  exact hp.trans (.of_others (by simp [State.scrub]))

theorem switchPart_keepsAnchors {port p : Nat} {erase : Bool} : KeepsAnchors s (s.switchPart port p erase).1 := by
  unfold State.switchPart
  split
  · exact .refl s
  split
  · exact .refl s
  · exact scrub_keepsAnchors

theorem execSeal_keepsAnchors {port : Port} : NextKeepsAnchors s (execSeal port s) :=
  nextKeepsAnchors_next.2 (kprCommand_keepsAnchors fun _ => .of_custody sealKeeper_custody)

theorem execAnchor_keepsAnchors {port : Port} {p : Tenant} : NextKeepsAnchors s (execAnchor port p s) :=
  nextKeepsAnchors_next.2 (kprCommand_keepsAnchors fun _ => setAnchor_keepsAnchors)

theorem execSwitch_keepsAnchors {port : Port} {p : Tenant} {erase : Bool} : NextKeepsAnchors s (execSwitch port p erase s) :=
  nextKeepsAnchors_next.2 (kprCommand_keepsAnchors fun _ => switchPart_keepsAnchors)

theorem execFwStage_keepsAnchors {port : Port} {keeper core : Bool} : NextKeepsAnchors s (execFwStage port keeper core s) :=
  nextKeepsAnchors_next.2 (kprCommand_keepsAnchors fun _ => .of_custody stageFirmware_custody)

theorem execCommitSvn_keepsAnchors {port : Port} : NextKeepsAnchors s (execCommitSvn port s) :=
  nextKeepsAnchors_next.2 (kprCommand_keepsAnchors fun _ => .of_custody commit_custody)

theorem execMailboxSend_keepsAnchors {port : Port} {len : BitVec 32} : NextKeepsAnchors s (execMailboxSend port len s) :=
  nextKeepsAnchors_next.2 (setupWrite_keepsAnchors fun _ => .of_custody mailboxSend_custody)

theorem execMailboxRxAck_keepsAnchors {port : Port} {value : BitVec 32} : NextKeepsAnchors s (execMailboxRxAck port value s) :=
  nextKeepsAnchors_next.2 (setupWrite_keepsAnchors fun _ => .of_custody mailboxAck_custody)

theorem execRegionValidClear_keepsAnchors {port : Port} {region : BitVec 6} {value : BitVec 32} :
    NextKeepsAnchors s (execRegionValidClear port region value s) := by
  refine nextKeepsAnchors_next.2 (setupWrite_keepsAnchors fun u => .of_custody ?_)
  split
  · exact setupError_custody
  dsimp only
  split
  · exact setupError_custody
  · exact regionClear_custody

/-! ## Model keys (R331, R332) -/

theorem putKey_keepsAnchors {p slot : Nat} {k : ModelKey} : KeepsAnchors s (s.putKey p slot k) :=
  updPart_advanceMgen_keepsAnchors fun _ ha => ha

theorem eraseKey_keepsAnchors {p slot : Nat} : KeepsAnchors s (s.eraseKey p slot) := by
  have hr : KeepsAnchors s (s.each (s.boundRegions p (some slot)) fun s r => s.regionClear r p slot) :=
    .of_custody (each_custody fun _ _ => regionClear_custody)
  exact hr.trans (.ite (updPart_advanceMgen_keepsAnchors fun _ ha => ha) (.refl _))

theorem inSession_keepsAnchors {i : Nat} {act : State → Spdm → State} (h : ∀ x, KeepsAnchors s (act s x)) :
    KeepsAnchors s (s.inSession i act) := by
  unfold State.inSession State.asked?
  split
  · exact .refl s
  split
  · split
    · exact h _
    · exact .of_custody say_custody
  · exact .refl s

theorem keyInstall_keepsAnchors {i : Nat} {p : List Byte} : KeepsAnchors s (s.keyInstall i p) :=
  inSession_keepsAnchors fun _ => .trans (.ite putKey_keepsAnchors (.refl s)) (.of_custody sessionSay_custody)

theorem keyDestroy_keepsAnchors {i : Nat} {p : List Byte} : KeepsAnchors s (s.keyDestroy i p) :=
  inSession_keepsAnchors fun _ => .trans (.ite eraseKey_keepsAnchors (.refl s)) (.of_custody sessionSay_custody)

/-! ## Cold resets (R375) -/

theorem coldKeep_keepsAnchors {st : Power} : KeepsAnchors s (s.coldKeep st) := .of_not_booted rfl

theorem resetLow_keepsAnchors : KeepsAnchors s s.resetLow :=
  .ite (.of_custody rfl) (.of_not_booted rfl)

theorem sysLost_keepsAnchors : KeepsAnchors s s.sysLost :=
  .ite (.of_custody rfl) (.of_not_booted rfl)

theorem sample_keepsAnchors {x : Sample} : KeepsAnchors s (s.sample x) := by
  unfold State.sample
  exact .ite (.refl s) (.ite (.of_not_booted rfl) (.of_others (by simp)))

theorem execCold_keepsAnchors {port : Port} : NextKeepsAnchors s (execCold port s) :=
  nextKeepsAnchors_next.2 (pwrCommand_keepsAnchors fun _ => coldKeep_keepsAnchors)

end Sys2Proof.Machine
end

section
/-! PROOF. Set-up writes, also those that waited for a wake, keep anchors whatever they reach (R330, R370, R383). -/

namespace Sys2Proof.Machine

variable {s t u : State}

/-! ## Command registers -/

theorem kprForeign_keepsAnchors {p : Port} {v : BitVec 32} : KeepsAnchors s (s.kprForeign p v) :=
  kprCommand_keepsAnchors fun u => .refl u

theorem kprWrite_keepsAnchors {p : Port} {v : BitVec 32} : KeepsAnchors s (s.kprWrite p v) := by
  have hforeign : NextKeepsAnchors s (.next (s.kprForeign p v)) := nextKeepsAnchors_next.2 kprForeign_keepsAnchors
  refine NextKeepsAnchors.after ?_
  dsimp only
  split
  · split
    · exact execSeal_keepsAnchors
    · exact hforeign
  · exact execAnchor_keepsAnchors
  · exact execSwitch_keepsAnchors
  · exact execFwStage_keepsAnchors
  · split
    · exact execCommitSvn_keepsAnchors
    · exact hforeign
  · exact nextKeepsAnchors_next.2 (.of_others (by simp))

theorem pwrWrite_keepsAnchors {p : Port} {v : BitVec 32} : KeepsAnchors s (s.pwrWrite p v) := by
  unfold State.pwrWrite
  split
  · exact keepsAnchors_after touches_execDark
  · exact keepsAnchors_after touches_execPwrWake
  · exact execCold_keepsAnchors.after
  · exact .of_others (by simp)

/-- One more command register of the chain that `State.commandWrite` tries in turn. -/
theorem keepsAnchors_some_ite {c : Prop} [Decidable c] {o : Option State} (ht : KeepsAnchors s t)
    (ho : o = some u → KeepsAnchors s u) (h : (if c then some t else o) = some u) : KeepsAnchors s u := by
  split at h
  · cases h; exact ht
  · exact ho h

theorem commandWrite_keepsAnchors {p : Port} {x : RegRow} {i : Nat} {v : BitVec 32} (h : s.commandWrite p x i v = some u) :
    KeepsAnchors s u := by
  have hrun : KeepsAnchors s (s.after (if bit v 0 then execRotRunSet p (bit v 1) (bit v 2) s
      else execRotRunClear p (bit v 1) (bit v 2) s)) := by
    split
    · exact keepsAnchors_after touches_execRotRunSet
    · exact keepsAnchors_after touches_execRotRunClear
  have hregion {r : BitVec 6} : KeepsAnchors s (s.after (if bit v 0 then execRegionValidSet p r v s
      else execRegionValidClear p r v s)) := by
    split
    · exact keepsAnchors_after touches_execRegionValidSet
    · exact execRegionValidClear_keepsAnchors.after
  refine keepsAnchors_some_ite kprWrite_keepsAnchors ?_ h
  refine keepsAnchors_some_ite execMailboxSend_keepsAnchors.after ?_
  refine keepsAnchors_some_ite execMailboxRxAck_keepsAnchors.after ?_
  refine keepsAnchors_some_ite pwrWrite_keepsAnchors ?_
  refine keepsAnchors_some_ite (t := s.rasWrite p v) (.of_others (by simp)) ?_
  refine keepsAnchors_some_ite (keepsAnchors_after touches_execRasAck) ?_
  refine keepsAnchors_some_ite (keepsAnchors_after touches_execRasInject) ?_
  refine keepsAnchors_some_ite (t := s.ringWrite p v) (.of_others (by simp)) ?_
  refine keepsAnchors_some_ite (t := s.tableWrite p v) (.of_others (by simp)) ?_
  refine keepsAnchors_some_ite hrun ?_
  refine keepsAnchors_some_ite (t := s.bookCmdWrite p v) (.of_others (by simp)) ?_
  refine keepsAnchors_some_ite (keepsAnchors_after touches_execAttAbftInject) ?_
  refine keepsAnchors_some_ite (t := s.tierWrite p v) (.of_others (by simp)) ?_
  refine keepsAnchors_some_ite (t := s.portWrite p v) (.of_others (by simp)) ?_
  exact keepsAnchors_some_ite hregion fun h => by cases h

/-! ## Accesses of BAR0 -/

theorem write32_keepsAnchors {p : Port} {off : Nat} {v : BitVec 32} : KeepsAnchors s (s.write32 p off v) := by
  unfold State.write32
  split
  · exact .refl s
  split
  · exact .of_others (by simp)
  split
  · exact commandWrite_keepsAnchors ‹_›
  · exact .of_others ((touches_regGate (by decide) fun u => by simp).2 Touches.rfl)

theorem barWrite32_keepsAnchors {p : Port} {off : Nat} {v : BitVec 32} : KeepsAnchors s (s.barWrite32 p off v) :=
  .ite write32_keepsAnchors (.of_others (by simp))

theorem barWrite_keepsAnchors {p : Port} {off size : Nat} {value : Word} : KeepsAnchors s (s.barWrite p off size value) := by
  have hhalves {lo hi : BitVec 32} : KeepsAnchors s ((s.barWrite32 p off lo).barWrite32 p (off + 4) hi) :=
    barWrite32_keepsAnchors.trans barWrite32_keepsAnchors
  unfold State.barWrite
  dsimp only
  split
  · exact barWrite32_keepsAnchors
  split
  · split
    · exact .ite (.of_others (by simp)) hhalves
    · exact hhalves
  · exact .of_others (by simp)

theorem execSetupRegisterWrite_keepsAnchors {p : Port} {off : BitVec 26} {size : Nat} {value : Word} :
    NextKeepsAnchors s (execSetupRegisterWrite p off size value s) := nextKeepsAnchors_next.2 barWrite_keepsAnchors

/-! ## The end of a wake (R370) -/

theorem serve_keepsAnchors {h : Held} : KeepsAnchors s (s.serve h) := by
  cases h with
  | setup => exact execSetupRegisterWrite_keepsAnchors.after
  | fwStage => exact execFwStage_keepsAnchors.after
  | doorbell =>
    unfold State.serve
    dsimp only
    split
    · exact keepsAnchors_after touches_execDbCqHead
    · exact keepsAnchors_after touches_execDbSqTail
  | cxl =>
    unfold State.serve
    dsimp only
    split
    · exact keepsAnchors_after touches_execCxlMemWrite
    · exact keepsAnchors_after touches_execCxlMemRead
  | config => exact keepsAnchors_after touches_execHostConfigRequest
  | req => exact .of_others ((touches_message (by decide) fun u => by simp).2 Touches.rfl)
  | snp => exact .of_others ((touches_message (by decide) fun u => by simp).2 Touches.rfl)
  | rsp => exact .of_others ((touches_message (by decide) fun u => by simp).2 Touches.rfl)
  | mg => exact keepsAnchors_after touches_execMg
  | ptwrite => exact keepsAnchors_after touches_execPtwriteBroadcast
  | inval => exact keepsAnchors_after touches_execInvalForward
  | confirm => exact keepsAnchors_after touches_execInvalConfirm
  | member => exact keepsAnchors_after touches_execMemberOperation
  | memberAck => exact keepsAnchors_after touches_execMemberAck
  | pull => exact keepsAnchors_after touches_execPull
  | pullAnswer => exact keepsAnchors_after touches_execPullResponse
  | claim => exact keepsAnchors_after touches_execClaim
  | grant => exact keepsAnchors_after touches_execHandoffGrant
  | commit => exact keepsAnchors_after touches_execCommit
  | commitAck => exact keepsAnchors_after touches_execCommitAck
  | lease => exact keepsAnchors_after touches_execLeaseResolve
  | release => exact keepsAnchors_after touches_execRelease
  | claimRefused => exact keepsAnchors_after touches_execClaimRefused
  | leaseAnswer => exact keepsAnchors_after touches_execLeaseReadAnswer
  | memberTimeout => exact keepsAnchors_after touches_execSessionMemberTimeout
  | pullTimeout => exact keepsAnchors_after touches_execPullTimeout
  | commitTimeout => exact keepsAnchors_after touches_execCommitTimeout
  | leaseTimeout => exact keepsAnchors_after touches_execLeaseReadTimeout
  | handoffTimer => exact keepsAnchors_after touches_execHandoffTimerExpiry
  | releaseWait => exact keepsAnchors_after touches_execReleaseWaitExpiry

/-- Links are raised first, then writes are served, ports reset, what is left served, and Fog mode entered: none loses an anchor. -/
theorem woken_keepsAnchors : KeepsAnchors s s.woken := by
  unfold State.woken
  dsimp only
  refine .ite (.refl s) (.trans ?_ (.ite (.of_others (by simp)) (.refl _)))
  refine .trans ?_ (.each fun _ _ => serve_keepsAnchors)
  refine .trans ?_ (.each fun _ _ => .of_others (by simp))
  refine .trans ?_ (.each fun _ _ => serve_keepsAnchors)
  exact .of_others (by simp)

end Sys2Proof.Machine
end

section
/-! PROOF. Boots, the end of a switch, ANCHOR and KEY_INSTALL, and from them the statement about anchors (R330). -/

namespace Sys2Proof.Machine

variable {s t u : State}

/-! ## Boots (R322, R376): a Keeper that has booted boots no more -/

theorem awaitsBoot_of_booted (h : s.keeper.booted = true) : s.awaitsBoot = false := by
  simp [State.awaitsBoot, h]

theorem tryBoot_of_booted {b : BringUp} (h : s.keeper.booted = true) : s.tryBoot b = s := by
  simp [State.tryBoot, awaitsBoot_of_booted h]

theorem tryBoot_custody {b : BringUp} (h : s.keeper.booted = true) : (s.tryBoot b).custody = s.custody := by
  rw [tryBoot_of_booted h]

theorem resetHigh_custody {b : BringUp} (h : s.keeper.booted = true) : (s.resetHigh b).custody = s.custody :=
  ite_custody rfl (tryBoot_custody h)

theorem powered_custody {b : BringUp} (h : s.keeper.booted = true) : (s.powered b).custody = s.custody :=
  ite_custody rfl (tryBoot_custody h)

theorem sysBack_custody {b : BringUp} (h : s.keeper.booted = true) : (s.sysBack b).custody = s.custody :=
  ite_custody rfl (tryBoot_custody h)

theorem flashFree_custody {b : BringUp} (h : s.keeper.booted = true) : (s.flashFree b).custody = s.custody := by
  unfold State.flashFree
  dsimp only
  rw [if_neg fun ⟨_, _, hwaits, _⟩ => absurd hwaits (by simp [State.awaitsBoot, h])]
  rfl

/-! ## The end of a switch (R339) -/

theorem part_updPart_of_custody {p n : Nat} {f : Part → Part} (h : u.custody = s.custody) :
    (u.updPart p f).part n = if n = p then f (s.part p) else s.part n := by
  rw [part_updPart, part_of_custody h, part_of_custody h]

/-- Of the partitions' records the end of a switch changes the one that was switching. -/
theorem part_switchEnds {p n : Nat} (h : (s.part p).switching = true) :
    (s.switchEnds p).part n = if n = p then (s.part p).switched else s.part n := by
  unfold State.switchEnds
  dsimp only
  rw [if_neg (by simp [h])]
  generalize hk : ((s.each (s.boundRegions p none) fun s r => s.regionClear r p (s.regionKey r)).each (s.part p).keys
    fun s _ => s.advanceMgen) = k
  have hks : k.custody = s.custody := by
    rw [← hk, each_custody fun _ _ => advanceMgen_custody, each_custody fun _ _ => regionClear_custody]
  generalize hx : (if (s.part p).erase = true then (k.putRoot p noRoot).dropXlat (BitVec.ofNat 4 p) true 0 0 else k) = x
  have hxs : x.custody = s.custody := by
    rw [← hx]
    exact ite_custody ((custody_of_others (by simp)).trans hks) hks
  refine (part_of_custody (ite_custody (custody_of_others (by simp)) rfl) n).trans ?_
  refine (part_of_custody (each_custody fun _ _ => custody_of_others (by simp)) n).trans ?_
  exact part_updPart_of_custody hxs

theorem switched_anchored {x : Part} (h : x.erase = false) : x.switched.anchored = x.anchored := by
  simp [Part.switched, h]

/-- The end of a switch loses no anchor but that of a partition that switches with ERASE. -/
theorem switchEnds_anchor_lost {p n : Nat} (ha : (s.part n).anchored = true) (hl : ((s.switchEnds p).part n).anchored = false) :
    p = n ∧ (s.part n).switching = true ∧ (s.part n).erase = true := by
  cases hsw : (s.part p).switching with
  | false =>
    have hsame : s.switchEnds p = s := by simp [State.switchEnds, hsw]
    rw [hsame, ha] at hl
    exact Bool.noConfusion hl
  | true =>
    rw [part_switchEnds hsw] at hl
    by_cases hn : n = p
    · subst hn
      rw [if_pos rfl] at hl
      cases he : (s.part n).erase with
      | false => rw [switched_anchored he, ha] at hl; exact Bool.noConfusion hl
      | true => exact ⟨rfl, hsw, rfl⟩
    · rw [if_neg hn, ha] at hl
      exact Bool.noConfusion hl

/-! ## Every command -/

theorem next_of_custody (h : u.custody = s.custody) : NextKeepsAnchors s (.next u) := nextKeepsAnchors_next.2 (.of_custody h)

/-- On a device whose Keeper has booted every command but the end of a switch keeps every anchor while the Keeper stays booted. -/
theorem exec_keepsAnchors {c : Instr} (hs : s.keeper.booted = true) (hc : ∀ p, c ≠ .switchComplete p) :
    NextKeepsAnchors s (exec c s) := by
  cases hr : reachesKeeper c with
  | false => exact fun u hu => .of_custody (custody_of_keeper (keeper_exec hr u hu))
  | true =>
    cases c with
    | switchComplete p => exact absurd rfl (hc p)
    | sealKeeper => exact execSeal_keepsAnchors
    | anchor => exact execAnchor_keepsAnchors
    | switch => exact execSwitch_keepsAnchors
    | fwStage => exact execFwStage_keepsAnchors
    | commitSvn => exact execCommitSvn_keepsAnchors
    | kprCommandComplete => exact next_of_custody kprDone_custody
    | mailboxSend => exact execMailboxSend_keepsAnchors
    | mailboxRxAck => exact execMailboxRxAck_keepsAnchors
    | getVersion => exact next_of_custody spdmVersion_custody
    | getCapabilities => exact next_of_custody spdmCapabilities_custody
    | negotiateAlgorithms => exact next_of_custody spdmAlgorithms_custody
    | getDigests => exact next_of_custody spdmSlot_custody
    | getCertificate => exact next_of_custody spdmSlot_custody
    | challenge => exact next_of_custody challenge_custody
    | getMeasurements => exact next_of_custody getMeasurements_custody
    | keyExchange => exact next_of_custody keyExchange_custody
    | finish => exact next_of_custody finishSession_custody
    | heartbeat => exact next_of_custody (inSession_custody fun _ => sessionSay_custody)
    | keyUpdate => exact next_of_custody (inSession_custody fun _ => sessionSay_custody)
    | endSession => exact next_of_custody (inSession_custody fun _ => dropSpdm_custody.trans sessionSay_custody)
    | chunkSend => exact next_of_custody chunkIn_custody
    | chunkGet => exact next_of_custody chunkGet_custody
    | keyInstall => exact nextKeepsAnchors_next.2 keyInstall_keepsAnchors
    | keyDestroy => exact nextKeepsAnchors_next.2 keyDestroy_keepsAnchors
    | setEndpointId => exact next_of_custody (asked_custody setEid_custody)
    | getEndpointId => exact next_of_custody (asked_custody control_custody)
    | getMctpVersionSupport => exact next_of_custody (asked_custody mctpVersion_custody)
    | getMessageTypeSupport => exact next_of_custody (asked_custody control_custody)
    | unsupportedMctpCommand => exact next_of_custody (asked_custody unsupported_custody)
    | pldmRequest => exact next_of_custody pldm_custody
    | regionValidClear => exact execRegionValidClear_keepsAnchors
    | regionMeasured => exact next_of_custody regionReady_custody
    | setupRegisterWrite => exact execSetupRegisterWrite_keepsAnchors
    | wakeComplete => exact nextKeepsAnchors_next.2 woken_keepsAnchors
    | cold => exact execCold_keepsAnchors
    | resetNAssert => exact nextKeepsAnchors_next.2 resetLow_keepsAnchors
    | vinLockout => exact nextKeepsAnchors_next.2 coldKeep_keepsAnchors
    | sensorSample => exact nextKeepsAnchors_next.2 sample_keepsAnchors
    | refclkSysLost => exact nextKeepsAnchors_next.2 sysLost_keepsAnchors
    | resetNRelease => exact next_of_custody (resetHigh_custody hs)
    | powerOn => exact next_of_custody (powered_custody hs)
    | refclkSysRestored => exact next_of_custody (sysBack_custody hs)
    | flashExtRelease => exact next_of_custody (flashFree_custody hs)
    | _ => exact Bool.noConfusion hr

/-- An anchor that a command clears, on a device whose Keeper stays booted, goes at the end of a switch with ERASE. -/
theorem exec_anchor_lost {c : Instr} {n : Nat} (he : exec c s = .next u) (hs : s.keeper.booted = true) (hu : u.keeper.booted = true)
    (ha : (s.part n).anchored = true) (hl : (u.part n).anchored = false) :
    ∃ p : Tenant, p.toNat = n ∧ c = .switchComplete p ∧ (s.part n).switching = true ∧ (s.part n).erase = true := by
  by_cases hc : ∃ p, c = .switchComplete p
  · obtain ⟨p, rfl⟩ := hc
    cases he
    obtain ⟨hp, hswitching, herase⟩ := switchEnds_anchor_lost ha hl
    exact ⟨p, hp, rfl, hswitching, herase⟩
  · obtain ⟨-, hkept⟩ := exec_keepsAnchors hs (fun p hp => hc ⟨p, hp⟩) u he hu
    rw [hkept n ha] at hl
    exact Bool.noConfusion hl

/-! ## ANCHOR (R330, R341) -/

/-- A Keeper command through an open port, with none in progress, runs and holds its result until it completes. -/
theorem kprCommand_open {port : Port} {fwStage : Bool} {held : Held} {act : State → State × Byte × Bool} {st : Byte} {waits : Bool}
    (ho : s.openTo port.toNat) (hc : s.keeper.cmd = none) (ha : act s = (u, st, waits)) :
    s.kprCommand port.toNat fwStage held act =
      { u with keeper := { u.keeper with cmd := some { port, result := st, waits } } } := by
  have hboot : s.keeper.bootFail = false := by
    obtain ⟨-, -, -, hboot, -⟩ := ho
    exact hboot
  unfold State.kprCommand
  rw [setupWrite_open ho (by simp)]
  simp [hboot, hc, ha]

theorem setAnchor_of_unkeyed {port p : Nat} (hc : s.controls port p = true) (hk : (s.part p).keys = [])
    (hw : (s.part p).switching = false) :
    s.setAnchor port p =
      ((s.updPart p fun x => { x with anchored := true, anchor := s.stagedAnchor port }).advanceMgen, St.done, false) := by
  simp [State.setAnchor, hc, hk, hw]

theorem setAnchor_of_busy {port p : Nat} (hc : s.controls port p = true)
    (hb : (s.part p).keys ≠ [] ∨ (s.part p).switching = true) : s.setAnchor port p = (s, St.badDescriptor, false) := by
  have hb' : (!(s.part p).keys.isEmpty) = true ∨ (s.part p).switching = true := hb.imp (by simp) id
  simp only [State.setAnchor, hc, if_pos hb']
  simp

/-! ## KEY_INSTALL (R331) -/

theorem keyOwner_of_installed {x : Spdm} {p : List Byte} (h : s.installStatus x p = St.done) : s.keyOwner x (keyTenant p) = true := by
  unfold State.installStatus at h
  dsimp only at h
  split at h
  · exact absurd h (by decide)
  split at h
  · exact absurd h (by decide)
  split at h
  · exact absurd h (by decide)
  split at h
  · exact absurd h (by decide)
  · rename_i howner
    simpa using howner

/-- An install that changes a partition's keys comes over a session authenticated with that partition's anchor. -/
theorem keyInstall_owner {i n : Nat} {p : List Byte} (h : ((s.keyInstall i p).part n).keys ≠ (s.part n).keys) :
    ∃ x : Spdm, s.spdm i = some x ∧ s.keyOwner x n = true := by
  unfold State.keyInstall State.inSession State.asked? at h
  split at h
  · exact absurd rfl h
  rename_i x hx
  split at h
  · split at h
    · rw [part_of_custody sessionSay_custody] at h
      split at h
      · rename_i hst
        refine ⟨x, hx, ?_⟩
        by_cases hn : n = keyTenant p
        · rw [hn]; exact keyOwner_of_installed hst
        · refine absurd ?_ h
          rw [State.putKey, part_of_custody advanceMgen_custody, part_updPart, if_neg hn]
      · exact absurd rfl h
    · rw [part_of_custody say_custody] at h
      exact absurd rfl h
  · exact absurd rfl h

theorem anchored_of_keyOwner {x : Spdm} {n : Nat} (h : s.keyOwner x n = true) :
    x.mutually = true ∧ (s.part n).anchored = true ∧ x.root = (s.part n).anchor := by
  simp only [State.keyOwner, Bool.and_eq_true, beq_iff_eq] at h
  obtain ⟨⟨⟨-, hmutually⟩, hanchored⟩, hroot⟩ := h
  exact ⟨hmutually, hanchored, hroot⟩

end Sys2Proof.Machine

open Sys2Proof Sys2Proof.Machine

/-- Settles O60: ANCHOR by its two outcomes at an open port, the loss of an anchor by a frame over every command, and the install by
its ownership check. -/
theorem anchorsLastUntilErased : Obligations.AnchorsLastUntilErased := by
  unfold Obligations.AnchorsLastUntilErased
  refine ⟨?_, fun c s u n he hs hu ha hl => exec_anchor_lost he hs hu ha hl, ?_, ?_⟩
  · intro s port t ho hidle hctl
    refine ⟨fun hkeys hswitching => ?_, fun hbusy => ?_⟩
    · refine ⟨(s.updPart t.toNat fun x => { x with anchored := true, anchor := s.stagedAnchor port.toNat }).advanceMgen,
        congrArg _ (kprCommand_open ho hidle (setAnchor_of_unkeyed hctl hkeys hswitching)), ?_, ?_, fun m hm => ?_⟩
      · rw [part_of_custody advanceMgen_custody, part_updPart, if_pos rfl]
      · rw [part_of_custody advanceMgen_custody, part_updPart, if_pos rfl]
      · rw [part_of_custody advanceMgen_custody, part_updPart, if_neg hm]
    · exact congrArg _ (kprCommand_open ho hidle (setAnchor_of_busy hctl hbusy))
  · rintro s t n rfl
    rfl
  · intro s u session payload n he hkeys
    cases he
    obtain ⟨x, hx, howner⟩ := keyInstall_owner hkeys
    exact ⟨x, hx, anchored_of_keyOwner howner⟩
end

section
/-! PROOF. Writes of PWR_CMD through a port that is there: by their conditions from the gate on (R366, R367, R383). -/

namespace Sys2Proof.Machine

variable {s t : State}

/-! ## The log leaves other registers as they are (R346, R387) -/

theorem reg_setReg_same {off : Nat} {w : Word} : (s.setReg off w).reg off = w := tget_tput_same regReset

theorem reg_setReg_other {off k : Nat} {w : Word} (h : k ≠ off) : (s.setReg off w).reg k = s.reg k := tget_tput_other regReset h

theorem reg_count_other {off n k : Nat} (h : k ≠ off) : (s.count off n).reg k = s.reg k := reg_setReg_other h

theorem reg_count32_other {off n k : Nat} (h : k ≠ off) : (s.count32 off n).reg k = s.reg k := reg_setReg_other h

theorem reg_of_touches {m : Nat} (h : Touches m s t) (k : Nat) (hm : m.testBit 7 = false := by decide) : t.reg k = s.reg k := by
  have hregs : s.regs = t.regs := h .regs hm
  unfold State.reg
  rw [hregs]

theorem reg_poolWrite {o k : Nat} {l : List Byte} : (s.poolWrite o l).reg k = s.reg k :=
  reg_of_touches ((touches_poolWrite (Nat.and_self _)).2 .rfl) k

/-- A line of the log writes no register but the log's own (R347). -/
theorem reg_logRecord_other {l : Line} {k : Nat} (hlost : k ≠ R.rasLogLost) (htail : k ≠ R.rasLogTail) :
    (s.logRecord l).reg k = s.reg k := by
  unfold State.logRecord
  split
  · split
    · exact reg_count32_other hlost
    · rfl
  · dsimp only
    split
    · exact reg_count32_other hlost
    · exact (reg_setReg_other htail).trans reg_poolWrite

/-- A corrected error is counted and logged, and is neither pending nor in a window (R345, R346). -/
theorem reg_record_corrected {e : ErrRec} {k : Nat} (he : e.severity = 1) (hsev : k ≠ R.rasSevTotal 0) (hlost : k ≠ R.rasLogLost)
    (htail : k ≠ R.rasLogTail) : (s.record e).reg k = s.reg k := by
  unfold State.record State.window
  rw [if_pos (by simp [he])]
  unfold State.recordOne
  dsimp only
  rw [if_pos (by simp [he]), reg_logRecord_other hlost htail, he]
  exact reg_count_other hsev

/-- GLB_SETUP_ERR_INFO holds the cause and the port of the error just met (R387). -/
theorem setupError_info {port off cause : Nat} : (s.setupError port off cause).reg R.glbSetupErrInfo =
    BitVec.ofNat 64 (cause % 16 + port % 4 * 16) := by
  unfold State.setupError
  dsimp only
  rw [reg_record_corrected rfl (by decide) (by decide) (by decide), reg_count_other (by decide), reg_setReg_same]

theorem setupError_pwr {port off cause : Nat} : (s.setupError port off cause).pwr = s.pwr :=
  (((touches_setupError (Nat.and_self _)).2 .rfl : Touches _ s _) .pwr (by decide)).symm

/-! ## The gate of PWR_CMD -/

/-- A write that Fog mode admits meets its register's own rule, where the device is on and booted and the port is there (R28, R379). -/
theorem setupWrite_fogAdmitted {port off : Nat} {held : Held} {act : State → State} (hon : s.pwr.state = .on)
    (hthere : s.hostThere port = true) (hup : (s.port port).link = .up) (hboot : s.keeper.bootFail = false) :
    s.setupWrite port off none true held act = act s := by
  have hgo : State.setupWrite.go port off none true act s = act s := by
    simp [State.setupWrite.go, State.idValid, hon, hthere, hup, hboot]
  unfold State.setupWrite
  rw [whenAwake_on hon, hgo, ite_self]

section Gate

variable {port op : Nat} {act : State → State} (hthere : s.hostThere port = true) (hup : (s.port port).link = .up)
include hthere hup

/-- On a device that is on, the port's control of partition 0 decides. -/
theorem pwrCommand_on (hon : s.pwr.state = .on) (hboot : s.keeper.bootFail = false) :
    s.pwrCommand port op act = if !s.controls port 0 then s.pwrForeign port else act s := by
  unfold State.pwrCommand
  dsimp only
  rw [if_neg (by simp [State.asleep, hon]), if_neg (by simp [hon]), setupWrite_fogAdmitted hon hthere hup hboot]

/-- A port that does not control partition 0 is refused, on or asleep, and wakes nothing. -/
theorem pwrCommand_foreign (hctl : s.controls port 0 = false)
    (hawake : (s.pwr.state = .on ∧ s.keeper.bootFail = false) ∨ s.asleep = true) : s.pwrCommand port op act = s.pwrForeign port := by
  rcases hawake with ⟨hon, hboot⟩ | hasleep
  · rw [pwrCommand_on hthere hup hon hboot, hctl]
    rfl
  · unfold State.pwrCommand
    dsimp only
    rw [if_pos (by simp [hasleep, hthere, hup, hctl])]

/-- From a port that controls partition 0, a device that goes Dark or wakes takes a write as BUSY (R366, R383). -/
theorem pwrCommand_busy (hctl : s.controls port 0 = true) (hbusy : s.pwr.state = .entering ∨ s.pwr.state = .waking) :
    s.pwrCommand port op act = (s.wakeTrigger 2).setupError port R.pwrCmd 4 := by
  unfold State.pwrCommand
  dsimp only
  rw [if_neg (by simp [hctl]), if_pos (by simp [hthere, hup, hbusy])]

end Gate

/-! ## What a foreign write leaves -/

theorem pwrForeign_pwr {port : Nat} : (s.pwrForeign port).pwr = { s.pwr with result := St.notOwner } := by
  unfold State.pwrForeign State.pwrResult State.updPwr
  rw [setupError_pwr]

theorem pwrForeign_info {port : Port} : ((s.pwrForeign port.toNat).reg R.glbSetupErrInfo).toNat = 6 + 16 * port.toNat := by
  have hinfo : (s.pwrForeign port.toNat).reg R.glbSetupErrInfo = BitVec.ofNat 64 (6 % 16 + port.toNat % 4 * 16) := setupError_info
  have hport : port.toNat < 4 := port.isLt
  rw [hinfo, BitVec.toNat_ofNat]
  omega

theorem pwrForeign_keepsBut {port : Nat} :
    KeepsBut [.out, .regs, .ports, .pool, .poison, .lineKey, .granules, .ras, .pwr] s (s.pwrForeign port) :=
  ((touches_pwrForeign (Nat.and_self _)).2 .rfl).keeps _ (by decide)

/-! ## DARK (R367, R368) -/

/-- The conditions of R367, one by one. -/
theorem mayDark_iff : s.mayDark = true ↔ s.pwr.state = .on ∧ s.rot.align = .halted ∧ s.rot.items = [] ∧ s.ras.fog = false ∧
    (∀ t < 16, (s.part t).switching = false) ∧ s.ras.resetBusy = false ∧
    (∀ r ∈ s.ras.reliefs, r.started = true ∧ r.copied = true ∧ s.reliefWaits r = false) ∧ s.drains = [] ∧ s.modeSwitches = [] ∧
    s.rot.loading = none ∧ s.tabCmd = none := by
  simp [State.mayDark, and_assoc]

theorem dark_refused (h : s.mayDark = false) : s.dark = s.pwrResult St.badDescriptor := by simp [State.dark, h]

/-- Of the power state an accepted DARK changes the result and the entry alone: the Flushes it sends do not reach it. -/
theorem dark_accepted_pwr (h : s.mayDark = true) : s.dark.pwr = { s.pwr with result := St.done, state := .entering } := by
  have hflush : Touches 35184372088834 ((s.pwrResult St.done).updPwr fun p => { p with state := .entering }) s.dark := by
    simp [State.dark, h]
  exact (hflush .pwr (by decide)).symm

end Sys2Proof.Machine

open Sys2Proof Sys2Proof.Machine

/-- Settles O49: each clause by what the gate of PWR_CMD comes to, and DARK by its conditions. -/
theorem powerCommandsObeyTheirConditions : Obligations.PowerCommandsObeyTheirConditions := by
  unfold Obligations.PowerCommandsObeyTheirConditions
  intro s port hthere hup
  refine ⟨fun hctl hawake c hc => ?_, fun hctl hon hboot hconditions => ?_, fun hctl hbusy c hc => ?_,
    fun hctl hon hboot hconditions => ?_⟩
  · have hexec : exec c s = .next (s.pwrForeign port.toNat) := by
      simp only [List.mem_cons, List.not_mem_nil, or_false] at hc
      rcases hc with rfl | rfl | rfl <;> exact congrArg _ (pwrCommand_foreign hthere hup hctl hawake)
    exact ⟨_, hexec, rfl, pwrForeign_pwr, pwrForeign_info, pwrForeign_keepsBut⟩
  · have hrefused : s.mayDark = false := by
      rw [← Bool.not_eq_true, mayDark_iff]
      exact fun ⟨_, h⟩ => hconditions h
    refine congrArg _ ((pwrCommand_on hthere hup hon hboot).trans ?_)
    rw [hctl]
    exact dark_refused hrefused
  · simp only [List.mem_cons, List.not_mem_nil, or_false] at hc
    rcases hc with rfl | rfl | rfl <;> exact congrArg _ (pwrCommand_busy hthere hup hctl hbusy)
  · refine ⟨s.dark, congrArg _ ((pwrCommand_on hthere hup hon hboot).trans ?_), dark_accepted_pwr (mayDark_iff.2 ⟨hon, hconditions⟩)⟩
    rw [hctl]
    rfl
end

section
/-! PROOF. Words of clause code: the fields of a word, and the instruction of an opcode, read back what was written (R182, R183). -/

namespace Sys2Proof.Machine

variable {i : Instr} {op : BitVec 8} {v : VoiceId} {f : Fields} {w : Word}

theorem coreOpcode_coreWord : coreOpcode (coreWord op f) = op := BitVec.extractLsb'_append_eq_right

/-- Each field is read past the ones below it. -/
theorem coreFields_coreWord : coreFields (coreWord op f) = f := by
  unfold coreFields coreWord
  congr 1
  · exact (BitVec.extractLsb'_append_eq_of_le (by decide)).trans BitVec.extractLsb'_append_eq_right
  · iterate 2 refine (BitVec.extractLsb'_append_eq_of_le (by decide)).trans ?_
    exact BitVec.extractLsb'_append_eq_right
  · iterate 3 refine (BitVec.extractLsb'_append_eq_of_le (by decide)).trans ?_
    exact BitVec.extractLsb'_append_eq_right
  · iterate 4 refine (BitVec.extractLsb'_append_eq_of_le (by decide)).trans ?_
    exact BitVec.extractLsb'_append_eq_right
  · iterate 5 refine (BitVec.extractLsb'_append_eq_of_le (by decide)).trans ?_
    exact BitVec.extractLsb'_append_eq_right
  · iterate 6 refine (BitVec.extractLsb'_append_eq_of_le (by decide)).trans ?_
    exact BitVec.extractLsb'_eq_self

/-- A word is the one of its own opcode and fields: neighbouring fields join until the whole word stands. -/
theorem coreWord_of_fields : coreWord (coreOpcode w) (coreFields w) = w := by
  unfold coreWord coreOpcode coreFields
  dsimp only
  simp only [BitVec.extractLsb'_append_extractLsb'_eq_extractLsb']
  exact BitVec.extractLsb'_eq_self

theorem coreInstr_of_coreParts (h : coreParts i = some (op, v, f)) : coreInstr op v f = some i := by
  unfold coreParts at h
  split at h <;> cases h <;> rfl

theorem coreParts_of_coreInstr (h : coreInstr op v f = some i) : coreParts i = some (op, v, f) := by
  unfold coreInstr at h
  split at h <;> cases h <;> rfl

theorem encodeCore_of_coreParts (h : coreParts i = some (op, v, f)) : encodeCore i = some (coreWord op f) := by
  simp [encodeCore, h]

theorem decodeCore_coreWord : decodeCore v (coreWord op f) = coreInstr op v f := by
  rw [decodeCore, coreOpcode_coreWord, coreFields_coreWord]

end Sys2Proof.Machine

open Sys2Proof Sys2Proof.Machine

/-- Settles O56: an instruction's word gives its fields back, a word is that of its fields, and the opcodes and the instructions name
each other. -/
theorem clauseWordsRoundTrip : Obligations.ClauseWordsRoundTrip := by
  unfold Obligations.ClauseWordsRoundTrip
  refine ⟨fun i op v f h => ⟨encodeCore_of_coreParts h, decodeCore_coreWord.trans (coreInstr_of_coreParts h)⟩, fun v w i h => ?_⟩
  have hparts : coreParts i = some (coreOpcode w, v, coreFields w) := coreParts_of_coreInstr h
  rw [encodeCore_of_coreParts hparts, coreWord_of_fields]

/-- Settles O55: each word's opcode and fields, computed. -/
theorem clauseWordsDecode : Obligations.ClauseWordsDecode := by
  unfold Obligations.ClauseWordsDecode
  exact fun v => ⟨rfl, rfl, rfl, rfl, rfl, rfl, rfl, rfl, rfl, rfl, rfl⟩
end

section
/-! PROOF. Scalar instructions: what each rule of issue comes to where the voice may issue and its code goes on (R183, R408). -/

namespace Sys2Proof.Machine

variable {s : State} {v : VoiceId} {f : Fields}

theorem next_congr {t u : State} (h : t = u) : (.next t : Host.Outcome State Fault Refusal) = .next u := congrArg _ h

theorem fld_zero {w n : Nat} (x : BitVec w) : fld x 0 n = x.toNat % 2 ^ n := by simp [fld]

theorem sext32_eq (i : BitVec 32) : sext32 i = BitVec.ofInt 64 i.toInt := rfl

theorem append_setWidth_eq (i : BitVec 32) (w : Word) :
    (i ++ w.setWidth 32 : Word) = BitVec.ofNat 64 (i.toNat * 2 ^ 32 + w.toNat % 2 ^ 32) := by
  have hi : i.toNat < 2 ^ 32 := i.isLt
  have hlow : w.toNat % 2 ^ 32 < 2 ^ 32 := Nat.mod_lt _ (by decide)
  apply BitVec.eq_of_toNat_eq
  rw [BitVec.toNat_append, BitVec.toNat_setWidth, BitVec.toNat_ofNat, ← Nat.shiftLeft_add_eq_or_of_lt hlow, Nat.shiftLeft_eq]
  omega

/-! ## The operations of R408 -/

theorem fld_shift (b : Word) : fld b 0 6 = b.toNat % 64 := fld_zero b

theorem aluShl_eq {a b : Word} : aluShl a b = a <<< (b.toNat % 64) := by rw [aluShl, fld_shift]

theorem aluShr_eq {a b : Word} : aluShr a b = a >>> (b.toNat % 64) := by rw [aluShr, fld_shift]

theorem aluSra_eq {a b : Word} : aluSra a b = a.sshiftRight (b.toNat % 64) := by rw [aluSra, fld_shift]

theorem aluMin_eq {a b : Word} : aluMin a b = if a.toInt < b.toInt then a else b := by simp [aluMin, BitVec.slt_eq_decide]

theorem aluMax_eq {a b : Word} : aluMax a b = if a.toInt < b.toInt then b else a := by simp [aluMax, BitVec.slt_eq_decide]

theorem aluSlt_eq {a b : Word} : aluSlt a b = if a.toInt < b.toInt then 1 else 0 := by simp [aluSlt, BitVec.slt_eq_decide]

theorem aluSltu_eq {a b : Word} : aluSltu a b = if a.toNat < b.toNat then 1 else 0 := by simp [aluSltu, BitVec.ult]

/-! ## Issue -/

section Issue

variable (hi : s.issuing v.toNat f) (hn : s.hasNext v.toNat)
include hi hn

/-- An instruction of x registers among its own whose rule writes one goes on with it written. -/
theorem issue_writeX {xs : List (BitVec 5)} {w : Voice → Word} (hx : ∀ r ∈ xs, r ∈ [f.d, f.a, f.b, f.c]) :
    (s.issue v.toNat xs [] fun s x => s.writeX v.toNat f.d (w x)) =
      s.setVoice v.toNat ((s.voice v.toNat).wroteX f.d (w (s.voice v.toNat))) :=
  (issue_issuing hi hx (by simp)).trans (writeX_hasNext hi.1 hn)

theorem aluReg_issuing {op : Word → Word → Word} : s.aluReg v.toNat f op = s.setVoice v.toNat
    ((s.voice v.toNat).wroteX f.d (op ((s.voice v.toNat).xr f.a.toNat) ((s.voice v.toNat).xr f.b.toNat))) :=
  issue_writeX hi hn (w := fun x => op (x.xr f.a.toNat) (x.xr f.b.toNat)) (by simp)

theorem aluImm_issuing {op : Word → Word → Word} : s.aluImm v.toNat f op = s.setVoice v.toNat
    ((s.voice v.toNat).wroteX f.d (op ((s.voice v.toNat).xr f.a.toNat) (sext32 f.imm))) :=
  issue_writeX hi hn (w := fun x => op (x.xr f.a.toNat) (sext32 f.imm)) (by simp)

theorem fpu2_issuing {op : Nat → Nat → Nat} : s.fpu2 v.toNat f op = s.setVoice v.toNat ((s.voice v.toNat).wroteX f.d
    (fpWord (op (lo32 ((s.voice v.toNat).xr f.a.toNat)) (lo32 ((s.voice v.toNat).xr f.b.toNat))))) :=
  issue_writeX hi hn (w := fun x => fpWord (op (lo32 (x.xr f.a.toNat)) (lo32 (x.xr f.b.toNat)))) (by simp)

end Issue

end Sys2Proof.Machine

open Sys2Proof Sys2Proof.Machine
theorem scalarRegisterInstructions : Claims.ScalarRegisterInstructions := by
  intro s v f hi hn x a b wrote
  have alu {op : Word → Word → Word} {w : Word} (h : op a b = w) : .next (s.aluReg v.toNat f op) = wrote w :=
    next_congr (h ▸ aluReg_issuing hi hn)
  refine ⟨next_congr ?_, alu rfl, alu rfl, alu rfl, alu rfl, alu rfl, alu aluShl_eq, alu aluShr_eq, alu aluSra_eq,
    alu BitVec.mul_def, alu rfl, alu aluMin_eq, alu aluMax_eq, alu aluSlt_eq, alu aluSltu_eq⟩
  · exact (issue_issuing hi (by simp) (by simp)).trans (advance_set hn)

theorem scalarImmediateInstructions : Claims.ScalarImmediateInstructions := by
  intro s v f hi hn x a i wrote
  have alu {op : Word → Word → Word} {w : Word} (h : op a i = w) : .next (s.aluImm v.toNat f op) = wrote w :=
    next_congr (h ▸ aluImm_issuing hi hn)
  refine ⟨next_congr ?_, next_congr ?_, alu rfl, alu rfl, alu rfl, alu rfl, alu rfl, alu aluShl_eq, alu aluShr_eq,
    alu aluSra_eq, alu BitVec.mul_def, alu rfl, alu aluMin_eq, alu aluMax_eq, alu aluSlt_eq, alu aluSltu_eq⟩
  · exact issue_writeX hi hn (w := fun _ => sext32 f.imm) (by simp)
  · rw [← append_setWidth_eq]
    exact issue_writeX hi hn (w := fun x => f.imm ++ (x.xr f.d.toNat).setWidth 32) (by simp)

theorem scalarFloatInstructions : Claims.ScalarFloatInstructions := by
  intro s v f hi hn x lo wrote
  have hlo (r : BitVec 5) : lo32 (x.xr r.toNat) = lo r := fld_zero _
  have fpu {op : Nat → Nat → Nat} : .next (s.fpu2 v.toNat f op) = wrote (op (lo f.a) (lo f.b)) := by
    rw [fpu2_issuing hi hn, hlo, hlo]
  refine ⟨fpu, fpu, fpu, next_congr ?_, fpu, next_congr ?_, fpu, fpu, next_congr ?_, fun hm => next_congr ?_, fun hm => next_congr ?_⟩
  · rw [← hlo, ← hlo, ← hlo]
    exact issue_writeX hi hn (w := fun x => fpWord (Flt.fp32.opFma (lo32 (x.xr f.a.toNat)) (lo32 (x.xr f.b.toNat))
      (lo32 (x.xr f.c.toNat)))) (by simp)
  · rw [← hlo]
    exact issue_writeX hi hn (w := fun x => fpWord (Flt.fp32.opSqrt (lo32 (x.xr f.a.toNat)))) (by simp)
  · exact issue_writeX hi hn (w := fun x => fpWord (Flt.fp32.round (Fval.ofInt (x.xr f.a.toNat).toInt))) (by simp)
  · rw [← hlo, State.fcvti, issue_issuing hi (by simp) (by simp), if_neg (by omega), writeX_hasNext hi.1 hn]
  · rw [State.fcvti, issue_issuing hi (by simp) (by simp), if_pos hm]

/-- Settles O1: each instruction is a register write at issue, of its operation read as R408 gives it. -/
theorem scalarInstructions : Obligations.ScalarInstructions :=
  ⟨scalarRegisterInstructions, scalarImmediateInstructions, scalarFloatInstructions⟩
end

section
/-! PROOF. Where control goes, and what a voice fault leaves (R182, R185, R186). -/

namespace Sys2Proof.Machine

variable {s : State} {v : VoiceId} {f : Fields}

/-! ## Fetching -/

theorem coreInstr_isSome_voice (op : BitVec 8) (v u : VoiceId) (f : Fields) : (coreInstr op v f).isSome = (coreInstr op u f).isSome := by
  unfold coreInstr
  split <;> rfl

theorem decodeCore_isNone_voice (v u : VoiceId) (w : Word) : (decodeCore v w).isNone = (decodeCore u w).isNone := by
  rw [← Option.not_isSome, ← Option.not_isSome]
  exact congrArg _ (coreInstr_isSome_voice _ v u _)

/-- Within a byte string a slice pads nothing. -/
theorem slice_inside {bs : List Byte} {i n : Nat} (h : i + n ≤ bs.length) : slice bs i n = (bs.drop i).take n := by
  have hlen : ((bs.drop i).take n).length = n := by simp; omega
  simp [slice, hlen]

/-- The word of a code segment at a place. -/
def Voice.wordAt (x : Voice) (pc : Nat) : Word := BitVec.ofNat 64 (leNat ((x.code.drop pc).take 8))

theorem fetchFault_outside {x : Voice} {pc : Int} (h : ¬(0 ≤ pc ∧ pc + 8 ≤ x.code.length)) : x.fetchFault pc = 7 := if_pos (by omega)

theorem fetchFault_inside {x : Voice} {pc : Int} (h : 0 ≤ pc ∧ pc + 8 ≤ x.code.length) (v : VoiceId) :
    x.fetchFault pc = if (decodeCore v (x.wordAt pc.toNat)).isNone then 2 else 0 := by
  unfold Voice.fetchFault
  rw [if_neg (by omega), numAt, slice_inside (by omega), decodeCore_isNone_voice 0 v]
  rfl

theorem goto_of_fault {v : Nat} {pc : Int} {r : Nat} (h : (s.voice v).fetchFault pc = r) (hr : r ≠ 0) : s.goto v pc = s.voiceFault v r := by
  simp [State.goto, h, hr]

theorem goto_of_fetched {v : Nat} {pc : Int} (h : (s.voice v).fetchFault pc = 0) :
    s.goto v pc = s.setVoice v { s.voice v with pc := pc.toNat } := by
  simp [State.goto, h, State.updVoice]

/-! ## A voice fault -/

theorem voice_setVoice_other {v u : Nat} {x : Voice} (h : u ≠ v) : (s.setVoice v x).voice u = s.voice u := tget_tput_other (fun _ => Voice.off) h

theorem voice_of_touches {m : Nat} {t : State} (h : Touches m s t) (v : Nat) (hm : m.testBit 31 = false := by decide) :
    t.voice v = s.voice v := by
  unfold State.voice
  rw [h .voices hm]

/-- Of the voices a voice fault changes the one, in its run flag and its fault field. -/
theorem voice_voiceFault {v reason addr u : Nat} : (s.voiceFault v reason addr).voice u =
    (s.setVoice v { s.voice v with running := false, fault := BitVec.ofNat 8 reason }).voice u := by
  have h : Touches 73786980418006815106 (s.setVoice v { s.voice v with running := false, fault := BitVec.ofNat 8 reason })
      (s.voiceFault v reason addr) := by simp [State.voiceFault, State.faultOf, State.updVoice]
  exact voice_of_touches h u

/-! ## The rules of vector instructions at issue -/

section Issue

variable (hi : s.issuing v.toNat f)
include hi

theorem vec2_issuing {op : Nat → Nat → Nat → Nat} : s.vec2 v.toNat f op =
    if 5 < f.mod.toNat then s.voiceFault v.toNat 2 else s.writeV v.toNat f.d (packLanes (laneW f.mod.toNat)
      (List.zipWith (op f.mod.toNat) (lanes (laneW f.mod.toNat) ((s.voice v.toNat).vr f.a.toNat))
        (lanes (laneW f.mod.toNat) ((s.voice v.toNat).vr f.b.toNat)))) :=
  issue_issuing hi (by simp) (by simp)

theorem vec3_issuing {op : Nat → Nat → Nat → Nat → Nat} : s.vec3 v.toNat f op =
    if 5 < f.mod.toNat then s.voiceFault v.toNat 2 else s.writeV v.toNat f.d (packLanes (laneW f.mod.toNat)
      (List.zipWith (fun p c => op f.mod.toNat p.1 p.2 c) (List.zip (lanes (laneW f.mod.toNat) ((s.voice v.toNat).vr f.a.toNat))
        (lanes (laneW f.mod.toNat) ((s.voice v.toNat).vr f.b.toNat))) (lanes (laneW f.mod.toNat) ((s.voice v.toNat).vr f.c.toNat)))) :=
  issue_issuing hi (by simp) (by simp)

theorem vecBits_issuing {op : BitVec 2048 → BitVec 2048 → BitVec 2048} : s.vecBits v.toNat f op =
    if 5 < f.mod.toNat then s.voiceFault v.toNat 2 else
      s.writeV v.toNat f.d (op ((s.voice v.toNat).vr f.a.toNat) ((s.voice v.toNat).vr f.b.toNat)) :=
  issue_issuing hi (by simp) (by simp)

/-- Every rule of the vector instructions but the conversion's begins with the check of MOD. -/
theorem issue_reserved {xs vs : List (BitVec 5)} {act : State → Voice → State} (hm : 5 < f.mod.toNat)
    (hx : ∀ r ∈ xs, r ∈ [f.d, f.a, f.b, f.c]) (hv : ∀ r ∈ vs, r ∈ [f.d, f.a, f.b, f.c]) :
    (s.issue v.toNat xs vs fun s x => if 5 < f.mod.toNat then s.voiceFault v.toNat 2 else act s x) = s.voiceFault v.toNat 2 :=
  (issue_issuing hi hx hv).trans (if_pos hm)

end Issue

end Sys2Proof.Machine

open Sys2Proof Sys2Proof.Machine

theorem controlInstructions : Claims.ControlInstructions := by
  intro s v f hi x a b goes branch
  have hgoes {c : Instr} {pc : Int} (h : exec c s = .next (s.goto v.toNat pc)) : goes c pc := by
    refine ⟨fun hin hd => ?_, fun hout => ?_, fun hin hd => ?_⟩
    · have hword : ¬(decodeCore v (x.wordAt pc.toNat)).isNone = true := by
        rw [← Option.not_isSome, show (decodeCore v (x.wordAt pc.toNat)).isSome = true from hd]
        decide
      rw [h, goto_of_fetched ((fetchFault_inside hin v).trans (if_neg hword))]
    · rw [h, goto_of_fault (fetchFault_outside hout) (by decide)]
    · have hword : (decodeCore v (x.wordAt pc.toNat)).isNone = true := Option.isNone_iff_eq_none.2 hd
      rw [h, goto_of_fault ((fetchFault_inside hin v).trans (if_pos hword)) (by decide)]
  have hbranch {c : Instr} {rel : Word → Word → Bool} {taken : Prop} (h : exec c s = .next (s.branch v.toNat f rel))
      (hr : rel a b = true ↔ taken) : branch c taken := by
    have hrun : exec c s = .next (if rel a b then s.goto v.toNat (x.pc + 8 * f.imm.toInt) else s.advance v.toNat) := by
      rw [h, State.branch, issue_issuing hi (by simp) (by simp)]
    refine ⟨fun ht => hgoes ?_, fun ht => hgoes ?_⟩
    · rw [hrun, if_pos (hr.2 ht)]
    · rw [hrun, if_neg fun hc => ht (hr.1 hc)]
      rfl
  refine ⟨hbranch rfl beq_iff_eq, hbranch rfl bne_iff_ne, hbranch rfl (by simp [BitVec.slt_eq_decide]),
    hbranch rfl (by simp [BitVec.slt_eq_decide]), ⟨fun _ => hgoes ?_, fun h => absurd trivial h⟩, hgoes ?_, ?_⟩
  · exact next_congr (issue_issuing hi (by simp) (by simp))
  · exact next_congr (issue_issuing hi (by simp) (by simp))
  · exact next_congr (issue_issuing hi (by simp) (by simp))

theorem voiceFaultStops : Claims.VoiceFaultStops := by
  intro s v reason addr _ t
  refine ⟨voice_voiceFault.trans voice_setVoice, fun u hu => voice_voiceFault.trans (voice_setVoice_other hu), ?_⟩
  exact ((touches_voiceFault (Nat.and_self _)).2 .rfl).keeps _ (by decide)

theorem reservedLaneFormatFaults : Claims.ReservedLaneFormatFaults := by
  intro s v f hi hm c hc
  have h2 {op : Nat → Nat → Nat → Nat} : s.vec2 v.toNat f op = s.voiceFault v.toNat 2 := (vec2_issuing hi).trans (if_pos hm)
  have h3 {op : Nat → Nat → Nat → Nat → Nat} : s.vec3 v.toNat f op = s.voiceFault v.toNat 2 := (vec3_issuing hi).trans (if_pos hm)
  have hbits {op : BitVec 2048 → BitVec 2048 → BitVec 2048} : s.vecBits v.toNat f op = s.voiceFault v.toNat 2 :=
    (vecBits_issuing hi).trans (if_pos hm)
  simp only [List.mem_cons, List.not_mem_nil, or_false] at hc
  rcases hc with rfl | rfl | rfl | rfl | rfl | rfl | rfl | rfl | rfl | rfl | rfl | rfl | rfl | rfl | rfl | rfl | rfl | rfl
  · exact next_congr h2
  · exact next_congr h2
  · exact next_congr h2
  · exact next_congr h3
  · exact next_congr h2
  · exact next_congr h2
  · exact next_congr hbits
  · exact next_congr hbits
  · exact next_congr hbits
  · exact next_congr h3
  · exact next_congr (issue_reserved hi hm (by simp) (by simp))
  · exact next_congr (issue_reserved hi hm (by simp) (by simp))
  · exact next_congr (issue_reserved hi hm (by simp) (by simp))
  · exact next_congr (issue_reserved hi hm (by simp) (by simp))
  · exact next_congr (issue_reserved hi hm (by simp) (by simp))
  · exact next_congr (issue_reserved hi hm (by simp) (by simp))
  · exact next_congr (issue_reserved hi hm (by simp) (by simp))
  · exact next_congr h2

/-- Settles O2: control by what its target fetches, a fault by its update of one voice, a reserved lane format at issue. -/
theorem controlAndVoiceFaults : Obligations.ControlAndVoiceFaults :=
  ⟨controlInstructions, voiceFaultStops, reservedLaneFormatFaults⟩
end

section
/-! PROOF. Vector instructions: lanes as packed, and the rules that write v[D] (R142, R183, R408). -/

namespace Sys2Proof.Machine

variable {s : State} {v : VoiceId} {f : Fields}

/-! ## Lanes of a packed register -/

theorem toNat_ofNat_of_lt {w n : Nat} (h : n < 2 ^ w) : (BitVec.ofNat w n).toNat = n := Nat.mod_eq_of_lt h

/-- The number a list of lanes packs to. -/
def packNat (w : Nat) (l : List Nat) : Nat := l.foldr (fun a acc => a % 2 ^ w + acc * 2 ^ w) 0

theorem packNat_cons {w a : Nat} {l : List Nat} : packNat w (a :: l) = a % 2 ^ w + packNat w l * 2 ^ w := rfl

theorem packNat_lt {w : Nat} {l : List Nat} : packNat w l < 2 ^ (w * l.length) := by
  induction l with
  | nil => exact Nat.one_pos
  | cons a l ih =>
    have ha : a % 2 ^ w < 2 ^ w := Nat.mod_lt _ (Nat.two_pow_pos w)
    calc packNat w (a :: l) < 2 ^ w + packNat w l * 2 ^ w := by rw [packNat_cons]; omega
      _ = (packNat w l + 1) * 2 ^ w := by rw [Nat.succ_mul, Nat.add_comm]
      _ ≤ 2 ^ (w * l.length) * 2 ^ w := Nat.mul_le_mul_right _ ih
      _ = 2 ^ (w * (a :: l).length) := by rw [← Nat.pow_add, List.length_cons, Nat.mul_succ]

/-- Lane i of a packed number is entry i, modulo the lane. -/
theorem packNat_lane {w i : Nat} {l : List Nat} (h : i < l.length) : packNat w l / 2 ^ (w * i) % 2 ^ w = l[i] % 2 ^ w := by
  have hw : 0 < 2 ^ w := Nat.two_pow_pos w
  induction l generalizing i with
  | nil => exact absurd h (Nat.not_lt_zero i)
  | cons a l ih =>
    cases i with
    | zero => simp [packNat_cons]
    | succ i =>
      have hshift : packNat w (a :: l) / 2 ^ w = packNat w l := by
        rw [packNat_cons, Nat.add_mul_div_right _ _ hw, Nat.div_eq_of_lt (Nat.mod_lt _ hw), Nat.zero_add]
      rw [Nat.mul_succ, Nat.add_comm, Nat.pow_add, ← Nat.div_div_eq_div_mul, hshift]
      exact ih (Nat.lt_of_succ_lt_succ h)

theorem lanes_packLanes {w : Nat} {l : List Nat} (hl : l.length = 2048 / w) (hw : w * (2048 / w) = 2048) :
    lanes w (packLanes w l) = l.map (· % 2 ^ w) := by
  have hlt : packNat w l < 2 ^ 2048 := by
    have h := packNat_lt (w := w) (l := l)
    rwa [hl, hw] at h
  have hnat : (packLanes w l).toNat = packNat w l := toNat_ofNat_of_lt hlt
  refine List.ext_getElem (by simp [lanes, hl]) fun i h _ => ?_
  have hi : i < l.length := by simpa [lanes, hl] using h
  simp [lanes, fld, hnat, packNat_lane hi]

section Issue

variable (hi : s.issuing v.toNat f)
include hi

theorem vecFloat1_of_some {code : Nat} {op : Nat → Option (Nat → Nat)} {g : Nat → Nat} (h : op f.mod.toNat = some g) :
    s.vecFloat1 v.toNat f code op = if 5 < f.mod.toNat then s.voiceFault v.toNat 2 else
      s.writeV v.toNat f.d (packLanes (laneW f.mod.toNat) ((lanes (laneW f.mod.toNat) ((s.voice v.toNat).vr f.a.toNat)).map g)) := by
  rw [State.vecFloat1, issue_issuing hi (by simp) (by simp)]
  dsimp only
  rw [h]

theorem vecFloat1_of_none {code : Nat} {op : Nat → Option (Nat → Nat)} (h : op f.mod.toNat = none) :
    s.vecFloat1 v.toNat f code op = if 5 < f.mod.toNat then s.voiceFault v.toNat 2 else
      s.writeV v.toNat f.d (freeLanes code f.mod.toNat [((s.voice v.toNat).vr f.a.toNat).toNat] (laneW f.mod.toNat)) := by
  rw [State.vecFloat1, issue_issuing hi (by simp) (by simp)]
  dsimp only
  rw [h]

theorem vecDivide_of_flt {g : Flt} (h : laneFlt f.mod.toNat = some g) :
    s.vecDivide v.toNat f = if 5 < f.mod.toNat then s.voiceFault v.toNat 2 else
      s.writeV v.toNat f.d (packLanes (laneW f.mod.toNat) (List.zipWith g.opDiv (lanes (laneW f.mod.toNat) ((s.voice v.toNat).vr f.a.toNat))
        (lanes (laneW f.mod.toNat) ((s.voice v.toNat).vr f.b.toNat)))) := by
  rw [State.vecDivide, issue_issuing hi (by simp) (by simp)]
  dsimp only
  rw [h]

theorem vecDivide_of_int (h : laneFlt f.mod.toNat = none) :
    s.vecDivide v.toNat f = if 5 < f.mod.toNat then s.voiceFault v.toNat 2 else
      s.writeV v.toNat f.d (freeLanes 0x62 f.mod.toNat [((s.voice v.toNat).vr f.a.toNat).toNat, ((s.voice v.toNat).vr f.b.toNat).toNat]
        (laneW f.mod.toNat)) := by
  rw [State.vecDivide, issue_issuing hi (by simp) (by simp)]
  dsimp only
  rw [h]

end Issue

theorem vexp2Op_fp32 {m : Nat} (h : m = 0) :
    vexp2Op m = some fun a => if Flt.fp32.val a = .nan then Flt.fp32.freeNan [a] else exp2Bits (Flt.fp32.val a) := by
  subst h
  refine congrArg some (funext fun a => ?_)
  split <;> simp_all

end Sys2Proof.Machine

open Sys2Proof Sys2Proof.Machine

theorem laneW_cases (m : Nat) : laneW m = 32 ∨ laneW m = 16 ∨ laneW m = 8 ∨ laneW m = 4 := by
  unfold laneW
  split <;> simp

theorem laneCount_pos (m : Nat) : 0 < 2048 / laneW m := by
  rcases laneW_cases m with h | h | h | h <;> rw [h] <;> decide

theorem lanes_zero {w : Nat} {x : BitVec 2048} (h : 0 < 2048 / w) : (lanes w x)[0]? = some (fld x 0 w) := by
  simp [lanes, h]

theorem vectorLaneInstructions : Claims.VectorLaneInstructions := by
  intro s v f hi hn hm x m w a b c flt wrote each
  have hgo {r : BitVec 2048} {t : State} (h : t = if 5 < m then s.voiceFault v.toNat 2 else s.writeV v.toNat f.d r) :
      (.next t : Host.Outcome State Fault Refusal) = wrote r :=
    next_congr (h.trans ((if_neg (Nat.not_lt.2 hm)).trans (writeV_hasNext hi.1 hn)))
  exact ⟨hgo (vec2_issuing hi), hgo (vec2_issuing hi), hgo (vec2_issuing hi), hgo (vec2_issuing hi), hgo (vec2_issuing hi),
    hgo (vec3_issuing hi), hgo (vecBits_issuing hi), hgo (vecBits_issuing hi), hgo (vecBits_issuing hi)⟩

theorem vectorRearrangingInstructions : Claims.VectorRearrangingInstructions := by
  intro s v f hi hn hm x m w la lb lc wrote
  have hgo {r : BitVec 2048} {t : State} (h : t = if 5 < m then s.voiceFault v.toNat 2 else s.writeV v.toNat f.d r) :
      (.next t : Host.Outcome State Fault Refusal) = .next (s.setVoice v.toNat (x.wroteV f.d r)) :=
    next_congr (h.trans ((if_neg (Nat.not_lt.2 hm)).trans (writeV_hasNext hi.1 hn)))
  have hissue {xs vs : List (BitVec 5)} {act : State → Voice → State} (hx : ∀ r ∈ xs, r ∈ [f.d, f.a, f.b, f.c])
      (hv : ∀ r ∈ vs, r ∈ [f.d, f.a, f.b, f.c]) : s.issue v.toNat xs vs act = act s x := issue_issuing hi hx hv
  have hfloat {code : Nat} {op : Nat → Option (Nat → Nat)} :
      ∃ r, (.next (s.vecFloat1 v.toNat f code op) : Host.Outcome State Fault Refusal) = .next (s.setVoice v.toNat (x.wroteV f.d r)) := by
    cases h : op m with
    | some g => exact ⟨_, hgo (vecFloat1_of_some hi h)⟩
    | none => exact ⟨_, hgo (vecFloat1_of_none hi h)⟩
  have hcount : 0 < 2048 / w := laneCount_pos m
  refine ⟨hgo (vec3_issuing hi), ⟨if Config.bcastX then fld (x.xr f.a.toNat) 0 w else fld (x.vr f.a.toNat) 0 w, ?_, ?_,
      hgo (hissue (by simp) (by simp))⟩, ⟨_, hgo (hissue (by simp) (by simp))⟩, ⟨_, hgo (hissue (by simp) (by simp))⟩,
    ⟨fun i => Config.permLane m i % (2048 / w), fun i => Nat.mod_lt _ hcount, hgo (hissue (by simp) (by simp))⟩,
    fun h0 => ⟨fun p => Flt.fp32.freeNan [p], hgo (vecFloat1_of_some hi (vexp2Op_fp32 h0))⟩, hfloat,
    fun h hh => ⟨hgo (vecDivide_of_flt hi hh), hgo (vecFloat1_of_some hi (congrArg (Option.map _) hh))⟩, ?_, hfloat,
    ⟨_, hgo (vec2_issuing hi)⟩⟩
  · split <;> exact Nat.mod_lt _ (Nat.two_pow_pos w)
  · split
    · exact .inl rfl
    · exact .inr (lanes_zero hcount)
  · cases h : laneFlt m with
    | some g => exact ⟨_, hgo (vecDivide_of_flt hi h)⟩
    | none => exact ⟨_, hgo (vecDivide_of_int hi h)⟩

theorem vectorConversion : Claims.VectorConversion := by
  intro s v f hi m d x l got
  have hrule : s.vecConvert v.toNat f = if 9 < m ∨ 9 < d then s.voiceFault v.toNat 2 else s.writeV v.toNat f.d (packLanes (laneW d)
      (got ++ (lanes (laneW d) (freeLanes 0x60 (16 * m + d) [(x.vr f.a.toNat).toNat] (laneW d))).drop got.length)) :=
    issue_issuing hi (by simp) (by simp)
  exact ⟨fun hm hd hn => ⟨_, next_congr (hrule.trans ((if_neg (by omega)).trans (writeV_hasNext hi.1 hn)))⟩, fun hbad => next_congr (hrule.trans (if_pos hbad))⟩

theorem packedLanesReadBack : Claims.PackedLanesReadBack := by
  intro w l hw hl
  refine lanes_packLanes hl ?_
  simp only [List.mem_cons, List.not_mem_nil, or_false] at hw
  rcases hw with rfl | rfl | rfl | rfl <;> rfl

/-- Settles O3: each instruction by its rule at issue, and the lanes of a packed register by induction on the list. -/
theorem vectorInstructions : Obligations.VectorInstructions :=
  ⟨vectorLaneInstructions, vectorRearrangingInstructions, vectorConversion, packedLanesReadBack⟩
end

section
/-! PROOF. Scratchpads: bytes read back as written, by core and address (R187). -/

namespace Sys2Proof.Machine

variable {s : State}

/-- A byte of a core's scratchpad. -/
def State.padByte (s : State) (c a : Nat) : Byte := tget (fun _ => 0) s.pads (padKey c a)

theorem padRead_eq {c a n : Nat} : s.padRead c a n = (List.range n).map fun i => s.padByte c (a + i) := rfl

theorem length_padRead {c a n : Nat} : (s.padRead c a n).length = n := by simp [padRead_eq]

theorem getElem_padRead {c a n i : Nat} (h : i < (s.padRead c a n).length) : (s.padRead c a n)[i] = s.padByte c (a + i) := by
  simp [padRead_eq]

theorem padRead_congr {t : State} (h : t.pads = s.pads) {c a n : Nat} : t.padRead c a n = s.padRead c a n := by
  unfold State.padRead
  rw [h]

/-- Two cores' addresses below 2^20 are two places. -/
theorem padKey_ne {c a d b : Nat} (ha : a < 2 ^ 20) (hb : b < 2 ^ 20) (h : d ≠ c ∨ b ≠ a) : padKey d b ≠ padKey c a := by
  unfold padKey
  omega

theorem padWrite_cons {c a : Nat} {b : Byte} {l : List Byte} : s.padWrite c a (b :: l) =
    ({ s with pads := tput (fun _ => 0) s.pads (padKey c a) b } : State).padWrite c (a + 1) l := rfl

/-- Bytes beside the written ones, and those of other cores, stay. -/
theorem padByte_padWrite_other {c a d i : Nat} {bs : List Byte} (ha : a + bs.length ≤ 2 ^ 20) (hi : i < 2 ^ 20)
    (h : d ≠ c ∨ i < a ∨ a + bs.length ≤ i) : (s.padWrite c a bs).padByte d i = s.padByte d i := by
  induction bs generalizing s a with
  | nil => rfl
  | cons b l ih =>
    simp only [List.length_cons] at ha h
    rw [padWrite_cons, ih (by omega) (by omega)]
    exact tget_tput_other _ (padKey_ne (by omega) hi (by omega))

theorem padByte_padWrite_same {c a i : Nat} {bs : List Byte} (ha : a + bs.length ≤ 2 ^ 20) (h : i < bs.length) :
    (s.padWrite c a bs).padByte c (a + i) = bs[i] := by
  induction bs generalizing s a i with
  | nil => exact absurd h (Nat.not_lt_zero i)
  | cons b l ih =>
    simp only [List.length_cons] at ha h
    rw [padWrite_cons]
    cases i with
    | zero =>
      rw [padByte_padWrite_other (by omega) (by omega) (by omega)]
      exact tget_tput_same _
    | succ i =>
      have hplace : a + (i + 1) = a + 1 + i := by omega
      rw [hplace, ih (by omega) (by omega)]
      rfl

theorem padRead_padWrite_same {c a : Nat} {bs : List Byte} (ha : a + bs.length ≤ 2 ^ 20) :
    (s.padWrite c a bs).padRead c a bs.length = bs :=
  List.ext_getElem length_padRead fun i h _ => by
    rw [getElem_padRead]
    exact padByte_padWrite_same ha (by simpa [length_padRead] using h)

theorem padRead_padWrite_other {c a d i : Nat} {bs : List Byte} (ha : a + bs.length ≤ 2 ^ 20) (hi : i < 2 ^ 20)
    (h : d ≠ c ∨ i < a ∨ a + bs.length ≤ i) : (s.padWrite c a bs).padRead d i 1 = s.padRead d i 1 :=
  List.ext_getElem (by simp [length_padRead]) fun j hj _ => by
    have hzero : j = 0 := by simpa [length_padRead] using hj
    subst hzero
    rw [getElem_padRead, getElem_padRead]
    exact padByte_padWrite_other ha hi h

end Sys2Proof.Machine

open Sys2Proof Sys2Proof.Machine

/-- Settles O4: byte by byte, since two cores' bytes are two places of one table. -/
theorem scratchpadHoldsWhatWasWritten : Obligations.ScratchpadHoldsWhatWasWritten := by
  unfold Obligations.ScratchpadHoldsWhatWasWritten
  refine fun s c a bs ha => ⟨padRead_padWrite_same ha, fun i hi h => padRead_padWrite_other ha hi (.inr h),
    fun d i hd hi => padRead_padWrite_other ha hi (.inl hd), ?_⟩
  exact ((touches_padWrite (Nat.and_self _)).2 .rfl).keeps _ (by decide)
end

section
/-! PROOF. Accumulator tiles: what a run of writes of elements leaves, and AMM's rows and columns (R183, R184, R187). -/

namespace Sys2Proof.Machine

variable {s : State} {x : Voice} {tile : Bool}

/-! ## Elements -/

/-- The place of an element among a voice's accumulators. -/
def accKey (tile : Bool) (row col : Nat) : Nat := 1024 * b2n tile + 32 * row + col

theorem acc_eq {row col : Nat} : x.acc tile row col = tget (fun _ => 0) x.t (accKey tile row col) := rfl

theorem accKey_inj {t u : Bool} {r c i j : Nat} (hr : r < 32) (hc : c < 32) (hi : i < 32) (hj : j < 32)
    (h : accKey t r c = accKey u i j) : t = u ∧ r = i ∧ c = j := by
  cases t <;> cases u <;> simp [accKey, b2n] at h ⊢ <;> omega

/-- A voice with other tiles. -/
def Voice.withTiles (x : Voice) (t : Tbl (BitVec 32)) : Voice := { x with t }

section Fold

variable {ι : Type} {key : ι → Nat} {val : ι → BitVec 32} {l : List ι}

/-- A run of writes of elements. -/
def Voice.putAccs (x : Voice) (l : List ι) (key : ι → Nat) (val : ι → BitVec 32) : Voice :=
  l.foldl (fun y i => { y with t := tput (fun _ => 0) y.t (key i) (val i) }) x

theorem putAccs_cons {i : ι} : x.putAccs (i :: l) key val =
    ({ x with t := tput (fun _ => 0) x.t (key i) (val i) } : Voice).putAccs l key val := rfl

theorem putAccs_withTiles : ∃ t, x.putAccs l key val = x.withTiles t := by
  induction l generalizing x with
  | nil => exact ⟨x.t, rfl⟩
  | cons i l ih =>
    obtain ⟨t, ht⟩ := ih (x := { x with t := tput (fun _ => 0) x.t (key i) (val i) })
    exact ⟨t, ht⟩

theorem putAccs_other {k : Nat} (h : ∀ i ∈ l, k ≠ key i) : tget (fun _ => 0) (x.putAccs l key val).t k = tget (fun _ => 0) x.t k := by
  induction l generalizing x with
  | nil => rfl
  | cons i l ih =>
    rw [putAccs_cons, ih fun j hj => h j (List.mem_cons_of_mem i hj)]
    exact tget_tput_other _ (h i List.mem_cons_self)

theorem putAccs_same {i : ι} (hi : i ∈ l) (hinj : ∀ j ∈ l, key j = key i → val j = val i) :
    tget (fun _ => 0) (x.putAccs l key val).t (key i) = val i := by
  induction l generalizing x i with
  | nil => cases hi
  | cons j l ih =>
    rw [putAccs_cons]
    by_cases hl : ∃ m ∈ l, key m = key i
    · obtain ⟨m, hm, hk⟩ := hl
      have hval : val m = val i := hinj m (List.mem_cons_of_mem j hm) hk
      rw [← hk, ← hval]
      exact ih hm fun n hn hnk => (hinj n (List.mem_cons_of_mem j hn) (hnk.trans hk)).trans hval.symm
    · have hij : i = j := by
        rcases List.mem_cons.1 hi with h | h
        · exact h
        · exact absurd ⟨i, h, rfl⟩ hl
      subst hij
      rw [putAccs_other fun m hm e => hl ⟨m, hm, e.symm⟩]
      exact tget_tput_same _

end Fold

/-! ## Rows of bytes -/

theorem length_chunksOf {n k : Nat} {l : List Byte} : (chunksOf n k l).length = k := by
  induction k generalizing l with
  | zero => rfl
  | succ k ih => simp [chunksOf, ih]

theorem getElem_chunksOf {n k i : Nat} {l : List Byte} (h : i < (chunksOf n k l).length) :
    (chunksOf n k l)[i] = (l.drop (n * i)).take n := by
  induction k generalizing l i with
  | zero => exact absurd h (Nat.not_lt_zero i)
  | succ k ih =>
    cases i with
    | zero => simp [chunksOf]
    | succ i =>
      simp only [chunksOf, List.getElem_cons_succ]
      rw [ih, List.drop_drop, Nat.mul_succ, Nat.add_comm]

theorem drop_take_padRead {c a n i m : Nat} (h : i + m ≤ n) : ((s.padRead c a n).drop i).take m = s.padRead c (a + i) m := by
  refine List.ext_getElem (by simp [length_padRead]; omega) fun j _ _ => ?_
  simp [getElem_padRead, Nat.add_assoc]

/-- Row i of the rows read from a scratchpad. -/
theorem getElem_chunksOf_padRead {c a n k i : Nat} (h : i < (chunksOf n k (s.padRead c a (n * k))).length) :
    (chunksOf n k (s.padRead c a (n * k)))[i] = s.padRead c (a + n * i) n := by
  have hi : i < k := by rwa [length_chunksOf] at h
  have hle : n * i + n ≤ n * k := by
    rw [← Nat.mul_succ]
    exact Nat.mul_le_mul_left n hi
  rw [getElem_chunksOf, drop_take_padRead hle]

/-! ## AMM -/

/-- One row of AMM: every element of the row from those before the row. -/
def ammRowOf (mod : Nat) (tile : Bool) (b : List (List Byte)) (x : Voice) (r : List Byte × Nat) : Voice :=
  x.putAccs b.zipIdx (fun c => accKey tile r.2 c.2) fun c => ammStep mod (x.acc tile r.2 c.2) r.1 c.1

theorem ammTile_eq {mod : Nat} {a b : List (List Byte)} : ammTile mod x tile a b = a.zipIdx.foldl (ammRowOf mod tile b) x := rfl

variable {mod : Nat} {a b : List (List Byte)} {r : List Byte × Nat}

theorem acc_ammRowOf_same {j : Nat} (hj : j < b.length) :
    (ammRowOf mod tile b x r).acc tile r.2 j = ammStep mod (x.acc tile r.2 j) r.1 b[j] := by
  have hmem : (b[j], j) ∈ b.zipIdx := by simp [List.mem_zipIdx_iff_getElem?, hj]
  refine putAccs_same (x := x) (key := fun c : List Byte × Nat => accKey tile r.2 c.2)
    (val := fun c => ammStep mod (x.acc tile r.2 c.2) r.1 c.1) hmem fun c hc hk => ?_
  obtain ⟨e, i⟩ := c
  have hcol : b[i]? = some e := by simpa [List.mem_zipIdx_iff_getElem?] using hc
  have hij : i = j := by
    simp only [accKey] at hk
    omega
  subst hij
  rw [List.getElem?_eq_getElem hj, Option.some.injEq] at hcol
  rw [hcol]

theorem acc_ammRowOf_other {t : Bool} {i j : Nat} (hb : b.length ≤ 32) (hr : r.2 < 32) (hi : i < 32) (hj : j < 32)
    (h : t ≠ tile ∨ i ≠ r.2) : (ammRowOf mod tile b x r).acc t i j = x.acc t i j := by
  refine putAccs_other fun c hc hk => ?_
  have hcol : c.2 < b.length := by simpa using (List.mem_zipIdx hc).2.1
  obtain ⟨ht, hrow, -⟩ := accKey_inj hi hj hr (by omega) hk
  exact h.elim (· ht) (· hrow)

theorem acc_ammRows {k i j : Nat} (hb : b.length = 32) (ha : k + a.length ≤ 32) (hi : i < 32) (hj : j < 32) (t : Bool) :
    ((a.zipIdx k).foldl (ammRowOf mod tile b) x).acc t i j =
      if h : t = tile ∧ k ≤ i ∧ i < k + a.length then ammStep mod (x.acc tile i j) (a[i - k]'(by omega)) b[j] else x.acc t i j := by
  induction a generalizing k x with
  | nil =>
    rw [dif_neg fun h => absurd h.2.2 (Nat.not_lt.2 (by simpa using h.2.1))]
    rfl
  | cons r a ih =>
    simp only [List.length_cons] at ha
    rw [List.zipIdx_cons, List.foldl_cons, ih (by omega)]
    by_cases hrow : t = tile ∧ i = k
    · obtain ⟨rfl, rfl⟩ := hrow
      rw [dif_neg (by omega), dif_pos ⟨rfl, by simp⟩, acc_ammRowOf_same (r := (r, i)) (by omega)]
      simp
    · have hkeep (u : Bool) (hu : u ≠ tile ∨ i ≠ k) : (ammRowOf mod tile b x (r, k)).acc u i j = x.acc u i j :=
        acc_ammRowOf_other (r := (r, k)) (by omega) (show k < 32 by omega) hi hj hu
      by_cases hin : t = tile ∧ k + 1 ≤ i ∧ i < k + 1 + a.length
      · have hidx : i - k = (i - (k + 1)) + 1 := by omega
        rw [dif_pos hin, dif_pos ⟨hin.1, by omega, by simp; omega⟩, hkeep tile (.inr (by omega))]
        simp [hidx]
      · have hout : ¬(t = tile ∧ k ≤ i ∧ i < k + (r :: a).length) := by
          rintro ⟨rfl, hlo, hhi⟩
          have hne : i ≠ k := fun e => hrow ⟨rfl, e⟩
          rw [List.length_cons] at hhi
          exact hin ⟨rfl, by omega, by omega⟩
        rw [dif_neg hin, dif_neg hout, hkeep t (Classical.not_and_iff_not_or_not.1 hrow)]

theorem acc_ammTile_inside {i j : Nat} (hb : b.length = 32) (ha : a.length ≤ 32) (hi : i < a.length) (hj : j < 32) :
    (ammTile mod x tile a b).acc tile i j = ammStep mod (x.acc tile i j) a[i] b[j] := by
  rw [ammTile_eq, acc_ammRows hb (by omega) (by omega) hj, dif_pos (by simpa using hi)]
  rfl

theorem acc_ammTile_outside {t : Bool} {i j : Nat} (hb : b.length = 32) (ha : a.length ≤ 32) (hi : i < 32) (hj : j < 32)
    (h : t ≠ tile ∨ a.length ≤ i) : (ammTile mod x tile a b).acc t i j = x.acc t i j := by
  rw [ammTile_eq, acc_ammRows hb (by omega) hi hj, dif_neg fun hin => h.elim (· hin.1) fun hlen => absurd hin.2.2 (by omega)]

theorem ammTile_withTiles : ∃ t, ammTile mod x tile a b = x.withTiles t := by
  rw [ammTile_eq]
  generalize a.zipIdx = l
  induction l generalizing x with
  | nil => exact ⟨x.t, rfl⟩
  | cons r l ih =>
    obtain ⟨t, ht⟩ := putAccs_withTiles (x := x) (l := b.zipIdx) (key := fun c => accKey tile r.2 c.2)
      (val := fun c => ammStep mod (x.acc tile r.2 c.2) r.1 c.1)
    obtain ⟨u, hu⟩ := ih (x := ammRowOf mod tile b x r)
    exact ⟨u, hu.trans (by rw [ammRowOf, ht]; rfl)⟩

@[simp] theorem withTiles_loaded {t : Tbl (BitVec 32)} : (x.withTiles t).loaded = x.loaded := rfl

@[simp] theorem withTiles_pc {t : Tbl (BitVec 32)} : (x.withTiles t).pc = x.pc := rfl

@[simp] theorem withTiles_x {t : Tbl (BitVec 32)} : (x.withTiles t).x = x.x := rfl

@[simp] theorem withTiles_v {t : Tbl (BitVec 32)} : (x.withTiles t).v = x.v := rfl

@[simp] theorem withTiles_fetchFault {t : Tbl (BitVec 32)} {pc : Int} : (x.withTiles t).fetchFault pc = x.fetchFault pc := rfl

/-! ## AMM at issue -/

/-- A voice with its sums, and its core's queue with the AMM at the end. -/
def State.ammQueued (s : State) (v : Nat) (y : Voice) (q : Amm) : State :=
  { s.setVoice v y with amms := tput (fun _ => []) s.amms (coreOf v) (tget (fun _ => []) s.amms (coreOf v) ++ [q]) }

/-- The state after an AMM that is accepted. -/
def State.ammIssued (s : State) (v : Nat) (y : Voice) (q : Amm) : State := (s.ammQueued v y q).setVoice v { y with pc := y.pc + 8 }

variable {v : Nat} {y : Voice} {q : Amm}

theorem voice_ammIssued_same : (s.ammIssued v y q).voice v = { y with pc := y.pc + 8 } := voice_setVoice

theorem voice_ammIssued_other {u : Nat} (h : u ≠ v) : (s.ammIssued v y q).voice u = s.voice u :=
  (voice_setVoice_other h).trans (voice_setVoice_other (s := s) h)

theorem amms_ammIssued : tget (fun _ => []) (s.ammIssued v y q).amms (coreOf v) = tget (fun _ => []) s.amms (coreOf v) ++ [q] :=
  tget_tput_same fun _ => []

theorem ammIssued_keepsBut : KeepsBut [.voices, .amms] s (s.ammIssued v y q) := by
  have hvoice : Touches 19327352832 s (s.setVoice v y) := by simp
  have h : Touches 19327352832 s (s.ammIssued v y q) := (touches_setVoice (by decide)).2 ((touches_set_amms (by decide)).2 hvoice)
  exact h.keeps _ (by decide)

theorem ammChecked_iff {mod rows : Nat} {t : Bool} : ammChecked mod rows t x = true ↔
    mod = 4 ∨ mod = 6 ∨ ∃ r, r < rows ∧ ∀ j, j < 32 → (Flt.fp32.val (x.acc t r j).toNat).isNum = true := by
  simp [ammChecked, ammInt, or_assoc]

theorem voice_ammQueued : (s.ammQueued v y q).voice v = y := voice_setVoice

theorem advance_ammQueued (h : y.fetchFault (y.pc + 8) = 0) : (s.ammQueued v y q).advance v = s.ammIssued v y q := by
  rw [advance_hasNext (by rw [voice_ammQueued]; exact h), State.updVoice, voice_ammQueued]
  rfl

/-- What AMM asks the array for: its rows, columns and sums. -/
def State.ammOf (s : State) (v : VoiceId) (f : Fields) : Voice :=
  let x := s.voice v.toNat
  let n := ammRow f.mod.toNat
  let rows := fld f.imm 0 5 + 1
  ammTile f.mod.toNat x (bit f.d 0) (chunksOf n rows (s.padRead (coreOf v.toNat) (x.xr f.a.toNat).toNat (n * rows)))
    (chunksOf n 32 (s.padRead (coreOf v.toNat) (x.xr f.b.toNat).toNat (n * 32)))

/-- The queue entry of an AMM. -/
def State.ammEntry (s : State) (v : VoiceId) (f : Fields) : Amm :=
  let x := s.voice v.toNat
  { own := x.slot, tenant := x.tenant, stale := false, voice := v, tile := bit f.d 0, mod := f.mod, rows := fld f.imm 0 5 + 1
    a := (x.xr f.a.toNat).toNat, b := (x.xr f.b.toNat).toNat
    checked := ammChecked f.mod.toNat (fld f.imm 0 5 + 1) (bit f.d 0) (s.ammOf v f) }

theorem ammOf_withTiles {v : VoiceId} {f : Fields} : ∃ t, s.ammOf v f = (s.voice v.toNat).withTiles t := ammTile_withTiles

/-- AMM's own rule, at issue. -/
theorem amm_issuing {v : VoiceId} {f : Fields} (hi : s.issuing v.toNat f) : s.amm v.toNat f =
    if 7 < f.mod.toNat then s.voiceFault v.toNat 2
    else if padTop < ((s.voice v.toNat).xr f.a.toNat).toNat + ammRow f.mod.toNat * (fld f.imm 0 5 + 1) - 1 ∨
      padTop < ((s.voice v.toNat).xr f.b.toNat).toNat + ammRow f.mod.toNat * 32 - 1 then s.voiceFault v.toNat 7
    else (s.ammQueued v.toNat (s.ammOf v f) (s.ammEntry v f)).advance v.toNat := by
  have hvoice : BitVec.ofNat 12 v.toNat = v := by simp
  rw [State.amm, issue_issuing hi (by simp) (by simp)]
  dsimp only
  rw [hvoice]
  rfl

theorem acc_withPc {t : Bool} {r j n : Nat} : ({ y with pc := n } : Voice).acc t r j = y.acc t r j := rfl

theorem fld_lt {w lo n : Nat} {x : BitVec w} : fld x lo n < 2 ^ n := Nat.mod_lt _ (Nat.two_pow_pos n)

theorem ammRow_pos {m : Nat} : 16 ≤ ammRow m := by
  unfold ammRow ammBits
  split
  · omega
  · split <;> omega

/-- Does a voice's AMM leave its scratchpad? -/
theorem ammInPad_iff {m a n : Nat} (hn : 0 < n) : padTop < a + ammRow m * n - 1 ↔ ¬a + ammRow m * n ≤ 0xC0000 := by
  have hpos : 0 < ammRow m * n := Nat.mul_pos (Nat.lt_of_lt_of_le (by decide) ammRow_pos) hn
  unfold padTop
  omega

end Sys2Proof.Machine

open Sys2Proof Sys2Proof.Machine

/-- Settles O5: the rule at issue, with the tile read element by element. -/
theorem matrixMultiplyAccumulates : Obligations.MatrixMultiplyAccumulates := by
  unfold Obligations.MatrixMultiplyAccumulates
  intro s v f hi x c m rows n a b tile inPad
  have hpad : (padTop < a + n * rows - 1 ∨ padTop < b + n * 32 - 1) ↔ ¬inPad := by
    rw [ammInPad_iff (Nat.succ_pos _), ammInPad_iff (by decide), ← Classical.not_and_iff_not_or_not]
  have hrule {t : State} (h : (if 7 < m then s.voiceFault v.toNat 2 else if padTop < a + n * rows - 1 ∨ padTop < b + n * 32 - 1 then
      s.voiceFault v.toNat 7 else (s.ammQueued v.toNat (s.ammOf v f) (s.ammEntry v f)).advance v.toNat) = t) : exec (.amm v f) s = .next t :=
    next_congr ((amm_issuing hi).trans h)
  refine ⟨fun hm hin hn => ?_, fun hm => hrule (if_pos hm),
    fun hm hout => hrule ((if_neg (Nat.not_lt.2 hm)).trans (if_pos (hpad.2 hout)))⟩
  obtain ⟨tiles, hy⟩ : ∃ t, s.ammOf v f = x.withTiles t := ammOf_withTiles
  have hfetch : (s.ammOf v f).fetchFault ((s.ammOf v f).pc + 8) = 0 := by
    rw [hy]
    exact hn
  have hvoice : (s.ammIssued v.toNat (s.ammOf v f) (s.ammEntry v f)).voice v.toNat = { s.ammOf v f with pc := (s.ammOf v f).pc + 8 } :=
    voice_ammIssued_same
  have hacc {t : Bool} {r j : Nat} : ((s.ammIssued v.toNat (s.ammOf v f) (s.ammEntry v f)).voice v.toNat).acc t r j =
      (s.ammOf v f).acc t r j := by
    rw [hvoice, acc_withPc]
  have hrows : rows ≤ 32 := fld_lt (x := f.imm) (lo := 0) (n := 5)
  have hlen : (chunksOf n rows (s.padRead c a (n * rows))).length = rows := length_chunksOf
  refine ⟨_, hrule ((if_neg (Nat.not_lt.2 hm)).trans ((if_neg fun h => hpad.1 h hin).trans (advance_ammQueued hfetch))),
    fun r j hr hj => ?_, fun r j hlo hr hj => ?_, fun r j hr hj => ?_, ?_, ?_, ?_,
    ⟨(s.ammEntry v f).checked, amms_ammIssued, ?_⟩, fun u hu => voice_ammIssued_other hu, ammIssued_keepsBut⟩
  · have hsum := acc_ammTile_inside (x := x) (tile := tile) (mod := m) (b := chunksOf n 32 (s.padRead c b (n * 32))) length_chunksOf
      (Nat.le_trans (Nat.le_of_eq hlen) hrows) (hlen.symm ▸ hr) hj
    rw [getElem_chunksOf_padRead, getElem_chunksOf_padRead] at hsum
    exact hacc.trans hsum
  · exact hacc.trans (acc_ammTile_outside length_chunksOf (Nat.le_trans (Nat.le_of_eq hlen) hrows) hr hj (.inr (Nat.le_trans (Nat.le_of_eq hlen) hlo)))
  · exact hacc.trans (acc_ammTile_outside length_chunksOf (Nat.le_trans (Nat.le_of_eq hlen) hrows) hr hj (.inl (by simp [tile])))
  · rw [hvoice, hy]
    rfl
  · rw [hvoice, hy]
    rfl
  · rw [hvoice, hy]
    rfl
  · simp only [hacc]
    exact ammChecked_iff
end

section
/-! PROOF. Scratchpad accesses, tile moves and the array's checks (R150, R152, R153, R156, R182 to R187). -/

namespace Sys2Proof.Machine

variable {s : State} {v : VoiceId} {f : Fields}

/-! ## The address of an access -/

theorem padFault_misaligned {a n align : Nat} (h : a % align ≠ 0) : padFault a n align = some 8 := if_pos h

theorem padFault_outside {a n align : Nat} (h : a % align = 0) (ho : 0xC0000 < a + n) : padFault a n align = some 7 := by
  unfold padFault padTop
  rw [if_neg (Classical.not_not.2 h), if_pos (by omega)]

theorem padFault_inside {a n align : Nat} (h : a % align = 0) (hi : a + n ≤ 0xC0000) : padFault a n align = none := by
  unfold padFault padTop
  rw [if_neg (Classical.not_not.2 h), if_neg (by omega)]

/-! ## A scratchpad written by a voice that goes on -/

theorem voice_padWrite {c a u : Nat} {bs : List Byte} : (s.padWrite c a bs).voice u = s.voice u :=
  voice_of_touches (((touches_padWrite (Nat.and_self _)).2 .rfl : Touches 4294967296 s _)) u

theorem setVoice_padWrite {c a u : Nat} {bs : List Byte} {x : Voice} :
    (s.padWrite c a bs).setVoice u x = (s.setVoice u x).padWrite c a bs := by
  induction bs generalizing s a with
  | nil => rfl
  | cons b l ih => exact ih

theorem advance_padWrite {c a u : Nat} {bs : List Byte} (hn : s.hasNext u) :
    (s.padWrite c a bs).advance u = (s.setVoice u { s.voice u with pc := (s.voice u).pc + 8 }).padWrite c a bs := by
  rw [advance_set (by rw [State.hasNext, voice_padWrite]; exact hn), voice_padWrite, setVoice_padWrite]

/-! ## The rules at issue -/

section Issue

variable (hi : s.issuing v.toNat f)
include hi

theorem lds_faults {r : Nat} (h : padFault (padAddr (s.voice v.toNat) f) (accWidth f) (accWidth f) = some r) :
    s.lds v.toNat f = s.voiceFault v.toNat r := by
  rw [State.lds, issue_issuing hi (by simp) (by simp)]
  dsimp only
  rw [h]

theorem lds_reads (hn : s.hasNext v.toNat) (h : padFault (padAddr (s.voice v.toNat) f) (accWidth f) (accWidth f) = none) :
    s.lds v.toNat f = s.setVoice v.toNat ((s.voice v.toNat).wroteX f.d
      (BitVec.ofNat 64 (leNat (s.padRead (coreOf v.toNat) (padAddr (s.voice v.toNat) f) (accWidth f))))) := by
  rw [State.lds, issue_issuing hi (by simp) (by simp)]
  dsimp only
  rw [h]
  exact writeX_hasNext hi.1 hn

theorem sts_faults {r : Nat} (h : padFault (padAddr (s.voice v.toNat) f) (accWidth f) (accWidth f) = some r) :
    s.sts v.toNat f = s.voiceFault v.toNat r := by
  rw [State.sts, issue_issuing hi (by simp) (by simp)]
  dsimp only
  rw [h]

theorem sts_writes (hn : s.hasNext v.toNat) (h : padFault (padAddr (s.voice v.toNat) f) (accWidth f) (accWidth f) = none) :
    s.sts v.toNat f = (s.setVoice v.toNat { s.voice v.toNat with pc := (s.voice v.toNat).pc + 8 }).padWrite (coreOf v.toNat)
      (padAddr (s.voice v.toNat) f) (leBytes (accWidth f) ((s.voice v.toNat).xr f.b.toNat).toNat) := by
  rw [State.sts, issue_issuing hi (by simp) (by simp)]
  dsimp only
  rw [h]
  exact advance_padWrite hn

theorem vlds_faults {r : Nat} (h : padFault (padAddr (s.voice v.toNat) f) 256 64 = some r) :
    s.vlds v.toNat f = s.voiceFault v.toNat r := by
  rw [State.vlds, issue_issuing hi (by simp) (by simp)]
  dsimp only
  rw [h]

theorem vlds_reads (hn : s.hasNext v.toNat) (h : padFault (padAddr (s.voice v.toNat) f) 256 64 = none) :
    s.vlds v.toNat f = s.setVoice v.toNat ((s.voice v.toNat).wroteV f.d
      (BitVec.ofNat 2048 (leNat (s.padRead (coreOf v.toNat) (padAddr (s.voice v.toNat) f) 256)))) := by
  rw [State.vlds, issue_issuing hi (by simp) (by simp)]
  dsimp only
  rw [h]
  exact writeV_hasNext hi.1 hn

theorem vsts_faults {r : Nat} (h : padFault (padAddr (s.voice v.toNat) f) 256 64 = some r) :
    s.vsts v.toNat f = s.voiceFault v.toNat r := by
  rw [State.vsts, issue_issuing hi (by simp) (by simp)]
  dsimp only
  rw [h]

theorem vsts_writes (hn : s.hasNext v.toNat) (h : padFault (padAddr (s.voice v.toNat) f) 256 64 = none) :
    s.vsts v.toNat f = (s.setVoice v.toNat { s.voice v.toNat with pc := (s.voice v.toNat).pc + 8 }).padWrite (coreOf v.toNat)
      (padAddr (s.voice v.toNat) f) (leBytes 256 ((s.voice v.toNat).vr f.b.toNat).toNat) := by
  rw [State.vsts, issue_issuing hi (by simp) (by simp)]
  dsimp only
  rw [h]
  exact advance_padWrite hn

end Issue

/-! ## Tiles -/

theorem lget_filter_key {α : Type} {t : Tbl α} {p : Nat → Bool} {k : Nat} :
    lget (t.filter fun e => p e.1) k = if p k then lget t k else none := by
  induction t with
  | nil => simp [lget]
  | cons e t ih =>
    obtain ⟨a, w⟩ := e
    by_cases ha : a = k
    · subst ha
      by_cases hp : p a <;> simp [hp, lget, ih]
    · by_cases hp : p a <;> simp [hp, lget, ha, ih]

theorem tget_tclear {α : Type} {d : Nat → α} {t : Tbl α} {lo n k : Nat} :
    tget d (tclear lo n t) k = if lo ≤ k ∧ k < lo + n then d k else tget d t k := by
  have hfilter := lget_filter_key (t := t) (p := fun a => decide (a < lo ∨ lo + n ≤ a)) (k := k)
  rw [tget_eq_lget, tget_eq_lget, tclear, hfilter]
  by_cases h : lo ≤ k ∧ k < lo + n
  · rw [if_pos h, if_neg (by simp; omega)]
    rfl
  · rw [if_neg h, if_pos (by simp; omega)]

/-- A voice with a tile cleared (AZERO). -/
def Voice.zeroTile (x : Voice) (tile : Bool) : Voice := x.withTiles (tclear (1024 * b2n tile) 1024 x.t)

theorem acc_zeroTile_same {x : Voice} {tile : Bool} {r j : Nat} (hr : r < 32) (hj : j < 32) : (x.zeroTile tile).acc tile r j = 0 :=
  tget_tclear.trans (if_pos (by omega))

theorem acc_zeroTile_other {x : Voice} {tile : Bool} {r j : Nat} (hr : r < 32) (hj : j < 32) :
    (x.zeroTile tile).acc (!tile) r j = x.acc (!tile) r j :=
  tget_tclear.trans (if_neg (by cases tile <;> simp [b2n] <;> omega))

/-- A voice with a tile filled from a list of bytes (ALOAD). -/
def Voice.fillTile (x : Voice) (tile : Bool) (bs : List Byte) : Voice :=
  x.putAccs (List.range 1024) (fun i => accKey tile (i / 32) (i % 32)) fun i => BitVec.ofNat 32 (numAt bs (4 * i) 4)

theorem acc_fillTile_same {x : Voice} {tile : Bool} {bs : List Byte} {r j : Nat} (hr : r < 32) (hj : j < 32) :
    (x.fillTile tile bs).acc tile r j = BitVec.ofNat 32 (numAt bs (4 * (32 * r + j)) 4) := by
  have hrow : (32 * r + j) / 32 = r := by omega
  have hcol : (32 * r + j) % 32 = j := by omega
  have hput := putAccs_same (x := x) (l := List.range 1024) (key := fun i => accKey tile (i / 32) (i % 32))
    (val := fun i => BitVec.ofNat 32 (numAt bs (4 * i) 4)) (i := 32 * r + j) (List.mem_range.2 (by omega)) fun i hin hk => by
      have hi := List.mem_range.1 hin
      obtain ⟨-, hri, hji⟩ := accKey_inj (by omega) (Nat.mod_lt _ (by decide)) (by omega) (Nat.mod_lt _ (by decide)) hk
      have hsame : i = 32 * r + j := by omega
      rw [hsame]
  rw [hrow, hcol] at hput
  exact hput

theorem acc_fillTile_other {x : Voice} {tile : Bool} {bs : List Byte} {r j : Nat} (hr : r < 32) (hj : j < 32) :
    (x.fillTile tile bs).acc (!tile) r j = x.acc (!tile) r j :=
  putAccs_other fun i hin hk => by
    have hi := List.mem_range.1 hin
    obtain ⟨ht, -, -⟩ := accKey_inj hr hj (by omega) (Nat.mod_lt _ (by decide)) hk
    cases tile <;> cases ht

theorem numAt_padRead {c a n i m : Nat} (h : i + m ≤ n) : numAt (s.padRead c a n) i m = leNat (s.padRead c (a + i) m) := by
  rw [numAt, slice_inside (by rwa [length_padRead]), drop_take_padRead h]

/-- A voice that runs on with other tiles. -/
theorem advance_withTiles {t : Tbl (BitVec 32)} (hl : (s.voice v.toNat).loaded = true) (hn : s.hasNext v.toNat) :
    (s.setVoice v.toNat ((s.voice v.toNat).withTiles t)).advance v.toNat =
      s.setVoice v.toNat { (s.voice v.toNat).withTiles t with pc := (s.voice v.toNat).pc + 8 } :=
  advance_setVoice hl hn

/-! ## The array's checks -/

theorem item_of_touches {m : Nat} {t : State} (h : Touches m s t) (n : Nat) (hm : m.testBit 12 = false := by decide) :
    t.item n = s.item n := by
  unfold State.item
  rw [h .rot hm]

theorem item_itemFault {n : Nat} {i : Item} {c : Cpl} (h : s.item n = some i) (hf : i.fault = none) :
    (s.itemFault n c).item n = some { i with fault := some c } := by
  unfold State.itemFault State.updItem
  rw [h]
  dsimp only
  rw [hf]
  exact lget_lput_same

/-- A refusal of a clause that still runs halts its voice. -/
theorem refusedOf_halts {n own : Nat} {c : Cpl} : ((s.refusedOf n own false c).voice n).running = false := by
  have h : Touches 4096 (s.haltVoice n) (s.refusedOf n own false c) := (touches_itemFault (by decide)).2 .rfl
  rw [voice_of_touches h, State.haltVoice, State.updVoice, voice_setVoice]

theorem item_refusedOf {n own : Nat} {stale : Bool} {c : Cpl} {i : Item} (h : s.item own = some i) (hf : i.fault = none) :
    (s.refusedOf n own stale c).item own = some { i with fault := some c } := by
  refine item_itemFault ?_ hf
  cases stale with
  | false => exact h
  | true => exact h

/-- The oldest AMM of a core leaves its queue. -/
def State.ammLeaves (s : State) (core : Nat) (rest : List Amm) : State := { s with amms := tput (fun _ => []) s.amms core rest }

theorem ammDone_passes {core : Nat} {checks : Bool} {q : Amm} {rest : List Amm} (hq : tget (fun _ => []) s.amms core = q :: rest)
    (h : q.checked = false ∨ (checks = true ∧ tget (fun _ => false) s.abftArm core = false)) :
    s.ammDone core checks = s.ammLeaves core rest := by
  unfold State.ammDone
  rw [hq]
  dsimp only
  rcases h with h | ⟨hc, ha⟩
  · rw [h]
    rfl
  · rw [hc, ha]
    exact ite_self _

/-- Where an AMM's checks fail, its injection is spent and its item refused; what is counted and recorded before touches none of the
array, the voices and the items. -/
theorem ammDone_fails {core : Nat} {checks : Bool} {q : Amm} {rest : List Amm} (hq : tget (fun _ => []) s.amms core = q :: rest)
    (h : q.checked = true) (ha : checks = false ∨ tget (fun _ => false) s.abftArm core = true) :
    ∃ u, Touches 73786980418006811010 { s.ammLeaves core rest with abftArm := tput (fun _ => false) s.abftArm core false } u ∧
      s.ammDone core checks = u.refusedOf q.voice.toNat q.own q.stale (Cpl.why St.abftFail core) := by
  have hfails : (checks && !tget (fun _ => false) s.abftArm core) = false := by rcases ha with ha | ha <;> simp [ha]
  unfold State.ammDone
  rw [hq]
  dsimp only
  rw [h, hfails]
  exact ⟨_, by simp [State.ammLeaves], rfl⟩

theorem abftInject_abftArm {w : BitVec 32} {c : Nat} : tget (fun _ => false) (s.abftInject w).abftArm c =
    if bit w 0 = true ∧ c = fld w 1 9 then true else tget (fun _ => false) s.abftArm c := by
  unfold State.abftInject
  by_cases hb : bit w 0 = true
  · rw [if_pos hb]
    by_cases hc : c = fld w 1 9
    · subst hc
      rw [if_pos ⟨hb, rfl⟩]
      exact tget_tput_same (t := s.abftArm) (k := fld w 1 9) (v := true) fun _ => false
    · rw [if_neg fun h => hc h.2]
      exact tget_tput_other (t := s.abftArm) (k := fld w 1 9) (v := true) (fun _ => false) hc
  · rw [if_neg hb, if_neg fun h => hb h.1]

end Sys2Proof.Machine

open Sys2Proof Sys2Proof.Machine

theorem scratchpadAccesses : Claims.ScratchpadAccesses := by
  intro s v f hi x c a n goesOn
  refine ⟨fun hn ha hin => ⟨next_congr (lds_reads hi hn (padFault_inside ha hin)), next_congr (sts_writes hi hn (padFault_inside ha hin))⟩,
    fun hn ha hin => ⟨next_congr (vlds_reads hi hn (padFault_inside ha hin)), next_congr (vsts_writes hi hn (padFault_inside ha hin))⟩,
    fun ha => ⟨next_congr (lds_faults hi (padFault_misaligned ha)), next_congr (sts_faults hi (padFault_misaligned ha))⟩,
    fun ha ho => ⟨next_congr (lds_faults hi (padFault_outside ha ho)), next_congr (sts_faults hi (padFault_outside ha ho))⟩,
    fun ha => ⟨next_congr (vlds_faults hi (padFault_misaligned ha)), next_congr (vsts_faults hi (padFault_misaligned ha))⟩,
    fun ha ho => ⟨next_congr (vlds_faults hi (padFault_outside ha ho)), next_congr (vsts_faults hi (padFault_outside ha ho))⟩⟩

theorem tileMoves : Claims.TileMoves := by
  intro s v f hi hn hbusy x c a tile
  have hkeeps {y : Voice} : KeepsBut [.voices] s (s.setVoice v.toNat y) :=
    ((touches_setVoice (Nat.and_self _)).2 .rfl).keeps _ (by decide)
  have hpad : padTop < a + 4095 ↔ 0xC0000 < a + 4096 := by
    unfold padTop
    omega
  have hfree {t : State} : (if s.ammBusy v.toNat then s else t) = t := by rw [hbusy]; rfl
  have hzero : s.azero v.toNat f = s.setVoice v.toNat { x.zeroTile tile with pc := x.pc + 8 } :=
    hfree.trans ((issue_issuing hi (by simp) (by simp)).trans (advance_withTiles hi.1 hn))
  obtain ⟨tiles, hfill⟩ : ∃ t, x.fillTile tile (s.padRead c a 4096) = x.withTiles t := putAccs_withTiles
  refine ⟨⟨_, next_congr hzero, by rw [voice_setVoice], hkeeps, fun r j hr hj => ?_⟩, fun hin => ⟨⟨s.setVoice v.toNat
    { x.fillTile tile (s.padRead c a 4096) with pc := x.pc + 8 }, next_congr ?_, by rw [voice_setVoice], hkeeps, fun r j hr hj => ?_⟩,
    next_congr ?_⟩, fun hout => ⟨next_congr ?_, next_congr ?_⟩⟩
  · rw [voice_setVoice, acc_withPc, acc_withPc]
    exact ⟨acc_zeroTile_same hr hj, acc_zeroTile_other hr hj⟩
  · refine hfree.trans ((issue_issuing hi (by simp) (by simp)).trans ((if_neg fun h => absurd (hpad.1 h) (Nat.not_lt.2 hin)).trans ?_))
    rw [hfill]
    exact (congrArg (fun y => (s.setVoice v.toNat y).advance v.toNat) hfill).trans (advance_withTiles hi.1 hn)
  · rw [voice_setVoice]
    refine ⟨?_, ?_⟩
    · rw [acc_withPc, acc_fillTile_same hr hj, numAt_padRead (by omega)]
    · rw [acc_withPc, acc_fillTile_other hr hj]
  · exact hfree.trans ((issue_issuing hi (by simp) (by simp)).trans ((if_neg fun h => absurd (hpad.1 h) (Nat.not_lt.2 hin)).trans (advance_padWrite hn)))
  · exact hfree.trans ((issue_issuing hi (by simp) (by simp)).trans (if_pos (hpad.2 hout)))
  · exact hfree.trans ((issue_issuing hi (by simp) (by simp)).trans (if_pos (hpad.2 hout)))

theorem arrayChecks : Claims.ArrayChecks := by
  refine ⟨fun s core checks q rest hq => ?_, fun s port value ho hctl => ⟨s.abftInject value, next_congr (setupWrite_open ho ?_), ?_, fun c =>
    abftInject_abftArm⟩⟩
  · intro armed
    have hleaves : tget (fun _ => []) (s.ammLeaves core.toNat rest).amms core.toNat = rest := tget_tput_same _
    have hkeeps : KeepsBut [.amms] s (s.ammLeaves core.toNat rest) :=
      (((touches_set_amms (Nat.and_self _)).2 .rfl : Touches 17179869184 s (s.ammLeaves core.toNat rest))).keeps _ (by decide)
    by_cases hpass : q.checked = false ∨ (checks = true ∧ armed = false)
    · refine ⟨_, next_congr (ammDone_passes hq hpass), hleaves, fun _ => hkeeps, fun hc ha => ?_⟩
      simp_all
    · have hc : q.checked = true := by simpa using (not_or.1 hpass).1
      have ha : checks = false ∨ armed = true := by
        have hno := Classical.not_and_iff_not_or_not.1 (not_or.1 hpass).2
        simpa using hno
      obtain ⟨u, hu, hdone⟩ := ammDone_fails hq hc ha
      have hrefuse : Touches 2147487744 u (s.ammDone core.toNat checks) := hdone ▸ (touches_refusedOf (Nat.and_self _)).2 .rfl
      refine ⟨s.ammDone core.toNat checks, rfl, ?_, fun h => absurd h hpass, fun _ _ => ⟨?_, fun hs => ?_, fun i hi hf => ?_, ?_⟩⟩
      · rw [← hrefuse .amms (by decide), ← hu .amms (by decide)]
        exact hleaves
      · rw [← hrefuse .abftArm (by decide), ← hu .abftArm (by decide)]
        exact tget_tput_same (t := s.abftArm) (k := core.toNat) (v := false) fun _ => false
      · rw [hdone, hs]
        exact refusedOf_halts
      · have hitem : u.item q.own = some i := (item_of_touches hu q.own).trans hi
        rw [hdone, item_refusedOf hitem hf]
        rfl
      · exact (((touches_ammDone (Nat.and_self _)).2 .rfl : Touches _ s _)).keeps _ (by decide)
  · rintro t ⟨⟩
    exact hctl
  · have h : Touches 8388608 s (s.abftInject value) := by simp [State.abftInject]
    exact h.keeps _ (by decide)

/-- Settles O6: each access and tile move by its rule at issue, and the checks by whether they pass. -/
theorem scratchpadMovesAndArrayChecks : Obligations.ScratchpadMovesAndArrayChecks := ⟨scratchpadAccesses, tileMoves, arrayChecks⟩
end

section
/-! PROOF. The pool: its one canonical form is kept by what writes it, and it holds what was written. -/

namespace Sys2Proof.Machine

variable {s t : State}

/-! ## The canonical form -/

theorem poolWf_logRecord (l : Line) (h : s.poolWf = true) : (s.logRecord l).poolWf = true := by
  have kcount {k : Nat} : (s.count32 k).poolWf = true := ((touches_count32 (Nat.and_self _)).2 (.rfl : Touches _ s s)).poolWf (by decide) h
  unfold State.logRecord
  dsimp only
  split
  · split
    · exact kcount
    · exact h
  · split
    · exact kcount
    · exact ((touches_setReg (Nat.and_self _)).2 .rfl).poolWf (by decide) (poolWf_poolWrite _ _ h)

theorem poolWf_ite {p : Prop} [Decidable p] {a b : State} (ha : a.poolWf = true) (hb : b.poolWf = true) :
    (if p then a else b).poolWf = true := by
  split
  · exact ha
  · exact hb

theorem poolWf_withRas (r : Ras) (h : s.poolWf = true) : ({ s with ras := r } : State).poolWf = true := h

/-- Beside the log, a record writes no memory. -/
theorem poolWf_recordOne (e : ErrRec) (h : s.poolWf = true) : (s.recordOne e).poolWf = true := by
  unfold State.recordOne
  extract_lets seq pend promoted lower queued overran ref line ras a b c d sev ras' f g
  have hb : b.poolWf = true := ((touches_count (Nat.and_self _)).2 (.rfl : Touches _ a a)).poolWf (by decide) (poolWf_withRas _ h)
  have hc : c.poolWf = true := poolWf_logRecord line hb
  have hd : d.poolWf = true := ((touches_emit (Nat.and_self _)).2 (.rfl : Touches _ c c)).poolWf (by decide) hc
  have hf : f.poolWf = true := poolWf_ite (poolWf_withRas _ hd) hd
  have hg : g.poolWf = true := poolWf_ite (((touches_count32 (Nat.and_self _)).2 .rfl).poolWf (by decide) hf) hf
  clear_value g c queued promoted pend
  split
  · exact hc
  · split
    · exact ((touches_vectorH0 (Nat.and_self _)).2 .rfl).poolWf (by decide) (poolWf_withRas _ hg)
    · exact poolWf_ite (poolWf_withRas _ hg) (poolWf_ite (poolWf_withRas _ hg) hg)

theorem poolWf_record (e : ErrRec) (h : s.poolWf = true) : (s.record e).poolWf = true := by
  have hone := poolWf_recordOne e h
  unfold State.record State.window
  generalize s.recordOne e = u at hone ⊢
  dsimp only
  split
  · exact hone
  · split
    · split
      · exact ((touches_setRegBit (Nat.and_self _)).2 .rfl).poolWf (by decide) (poolWf_recordOne _ (poolWf_withRas _ hone))
      · exact poolWf_recordOne _ (poolWf_withRas _ hone)
    · exact poolWf_withRas _ hone

theorem poolWf_poolWriteP (o : Nat) (bs : List PByte) (h : s.poolWf = true) : (s.poolWriteP o bs).poolWf = true := by
  refine poolWf_each (fun u l hu => ?_) (poolWf_poolWrite o (bs.map Prod.fst) h)
  split
  · exact hu
  · exact hu

theorem poolWf_putLocal (e : Eng) (key : BitVec 24) (o dva : Nat) (bs : List PByte) (h : s.poolWf = true) :
    (s.putLocal e key o dva bs).poolWf = true := by
  unfold State.putLocal
  split
  · exact poolWf_poolWriteP o bs h
  · refine poolWf_each (fun u b hu => ?_) h
    dsimp only
    split
    · exact poolWf_poolWriteP _ _ hu
    · exact ((touches_sendBlock (Nat.and_self _)).2 .rfl).poolWf (by decide) hu

theorem poolWf_xlatUse (c t dva : Nat) (h : s.poolWf = true) : (s.xlatUse c t dva).poolWf = true :=
  ((touches_xlatUse (Nat.and_self _)).2 (.rfl : Touches _ s s)).poolWf (by decide) h

/-- Piece by piece: each goes to this pool or to another device. -/
theorem poolWf_scatter (e : Eng) (fuel dva : Nat) (bs : List PByte) (h : s.poolWf = true) :
    (State.scatter e fuel s dva bs).1.poolWf = true := by
  induction fuel generalizing s dva bs with
  | zero => exact h
  | succ n ih =>
    have hx := poolWf_xlatUse e.cache e.tenant dva h
    unfold State.scatter
    split
    · exact h
    · dsimp only
      split
      · exact hx
      · split
        · exact ih _ _ (((touches_putRemote (Nat.and_self _)).2 .rfl).poolWf (by decide) hx)
        · split
          · exact poolWf_putLocal _ _ _ _ _ hx
          · exact ih _ _ (poolWf_putLocal _ _ _ _ _ hx)

end Sys2Proof.Machine

open Sys2Proof Sys2Proof.Machine

/-- Settles O15: each writes the pool through single bytes, tables that are cleared, or the error log. -/
theorem poolFormIsKept : Obligations.PoolFormIsKept :=
  ⟨poolWf_reset, fun _ h => ⟨fun o bs => poolWf_poolWrite o bs h, fun o bs => poolWf_store o bs h, fun o n => poolWf_wipe o n h,
    fun e => poolWf_record e h, fun e fuel dva bs => poolWf_scatter e fuel dva bs h⟩⟩
end

section
/-! PROOF. The pool holds what was last written to it, byte for byte, and a line written whole loses its poison. -/

namespace Sys2Proof.Machine

variable {s t : State}

/-! ## Placement -/

theorem granule_setGranule_same {g : Nat} {x : Granule} : (s.setGranule g x).granule g = x :=
  tget_tput_same (t := s.granules) fun _ => Granule.none

theorem granule_setGranule_other {g h : Nat} {x : Granule} (hne : h ≠ g) : (s.setGranule g x).granule h = s.granule h :=
  tget_tput_other (t := s.granules) (fun _ => Granule.none) hne

/-- A granule that is set is lost only where what it holds now lies on no frame and is not being filled. -/
theorem lost_setGranule {g h : Nat} {x : Granule} (hx : (x.tier == .none && x.fill.isNone) = true → s.lost g = true)
    (hl : s.lost g = false) (hh : s.lost h = false) : (s.setGranule g x).lost h = false := by
  by_cases hne : h = g
  · subst hne
    have hno : (x.tier == .none && x.fill.isNone) = false := by
      cases hb : (x.tier == .none && x.fill.isNone)
      · rfl
      · rw [hx hb] at hl
        exact absurd hl (by decide)
    unfold State.lost
    rw [granule_setGranule_same]
    cases ht : (x.tier == Tier.none)
    · simp
    · simp_all
  · unfold State.lost at hh ⊢
    rw [granule_setGranule_other hne]
    exact hh

theorem lost_of_unbacked {h : Nat} (hb : s.backed = false) : s.lost h = false := by
  unfold State.lost
  rw [hb]
  rfl

/-- Where its granule is not lost, a write's placement poisons nothing, and loses no granule. -/
theorem placeWrite_calm {o n g : Nat} (hl : s.lost g = false) :
    (s.placeWrite o n g).poison = s.poison ∧ ∀ h, s.lost h = false → (s.placeWrite o n g).lost h = false := by
  have hkeep {x : Granule} (hx : (x.tier == .none && x.fill.isNone) = true → s.lost g = true) :
      (s.setGranule g x).poison = s.poison ∧ ∀ h, s.lost h = false → (s.setGranule g x).lost h = false :=
    ⟨rfl, fun h hh => lost_setGranule hx hl hh⟩
  unfold State.placeWrite
  dsimp only
  split
  · exact ⟨rfl, fun h hh => hh⟩
  · rw [if_neg (by rw [hl]; decide)]
    split
    · split
      · exact hkeep (by simp)
      · rename_i hb
        have hfree {x : Granule} : (s.setGranule g x).poison = s.poison ∧
            ∀ h, s.lost h = false → (s.setGranule g x).lost h = false :=
          ⟨rfl, fun h _ => lost_of_unbacked (by simpa using hb)⟩
        split
        · exact hfree
        · split
          · exact hfree
          · exact hfree
    · rename_i ht
      exact hkeep (by simp [ht])

theorem placeWrites_calm {o n : Nat} {l : List Nat} (hl : ∀ g ∈ l, s.lost g = false) :
    (l.foldl (fun s g => s.placeWrite o n g) s).poison = s.poison := by
  induction l generalizing s with
  | nil => rfl
  | cons g l ih =>
    obtain ⟨hp, hk⟩ := placeWrite_calm (o := o) (n := n) (hl g (by simp))
    exact (ih fun h hh => hk h (hl h (by simp [hh]))).trans hp

/-! ## Keys -/

/-- The key a line is stored under is its owner's; nothing that writes the pool changes an owner. -/
theorem restKey_of_touches {m a : Nat} (h : Touches m s t) (hr : m.testBit 7 = false) (hm : m.testBit 60 = false)
    (hk : m.testBit 64 = false) : t.restKey a = s.restKey a := by
  have eregs : s.regs = t.regs := h .regs hr
  have emarks : s.marks = t.marks := h .marks hm
  have ekeeper : s.keeper = t.keeper := h .keeper hk
  unfold State.restKey State.owner State.part State.mark State.reg
  rw [eregs, emarks, ekeeper]

theorem restKey_putBytes {o a : Nat} {bs : List Byte} : (s.putBytes o bs).restKey a = s.restKey a :=
  restKey_of_touches ((touches_putBytes (Nat.and_self _)).2 .rfl) (by decide) (by decide) (by decide)

theorem restKey_rekey {l a : Nat} : (s.rekey l).restKey a = s.restKey a :=
  restKey_of_touches ((touches_rekey (Nat.and_self _)).2 .rfl) (by decide) (by decide) (by decide)

theorem restKey_pos {a : Nat} : s.restKey a ≠ 0 := by
  unfold State.restKey
  dsimp only
  omega

theorem keyOf_putBytes {o l : Nat} {bs : List Byte} : (s.putBytes o bs).keyOf l = s.keyOf l := by
  have h : s.lineKey = (s.putBytes o bs).lineKey :=
    ((touches_putBytes (Nat.and_self _)).2 (.rfl : Touches _ s s)) .lineKey (by decide)
  unfold State.keyOf
  rw [← h]

theorem rekey_eq {l : Nat} : ∃ u : State, s.rekey l = { u with lineKey := tput (fun _ => 0) u.lineKey l (s.restKey (64 * l)) } ∧
    u = if s.keyOf l = s.restKey (64 * l) then s else s.putBytes (64 * l) (s.poolRead (64 * l) 64) :=
  ⟨_, rfl, rfl⟩

theorem keyOf_rekey_same {l : Nat} : (s.rekey l).keyOf l = s.restKey (64 * l) := by
  obtain ⟨u, hu, -⟩ := rekey_eq (s := s) (l := l)
  rw [hu]
  exact tget_tput_same (t := u.lineKey) (v := s.restKey (64 * l)) fun _ => 0

theorem keyOf_rekey_other {l k : Nat} (h : k ≠ l) : (s.rekey l).keyOf k = s.keyOf k := by
  obtain ⟨u, hu, hv⟩ := rekey_eq (s := s) (l := l)
  have hkey : u.keyOf k = s.keyOf k := by
    rw [hv]
    split
    · rfl
    · exact keyOf_putBytes
  rw [hu]
  exact (tget_tput_other (t := u.lineKey) (v := s.restKey (64 * l)) (fun _ => 0) h).trans hkey

theorem rawByte_rekey {l a : Nat} : (s.rekey l).rawByte a =
    if a / 64 = l ∧ s.keyOf l ≠ s.restKey (64 * l) then s.poolByte a else s.rawByte a := by
  obtain ⟨u, hu, hv⟩ := rekey_eq (s := s) (l := l)
  have hraw : (s.rekey l).rawByte a = u.rawByte a := by rw [hu]; rfl
  rw [hraw, hv]
  by_cases hk : s.keyOf l = s.restKey (64 * l)
  · rw [if_pos hk, if_neg fun h => h.2 hk]
  · rw [if_neg hk]
    by_cases ha : a / 64 = l
    · obtain ⟨i, hi⟩ : ∃ i, a = 64 * l + i := ⟨a - 64 * l, by omega⟩
      have hlt : i < 64 := by omega
      rw [if_pos ⟨ha, hk⟩, hi, rawByte_putBytes_same (by simpa [State.poolRead] using hlt)]
      simp [State.poolRead]
    · rw [if_neg fun h => ha h.1, rawByte_putBytes_other (by simp [State.poolRead]; omega)]

/-- Bringing a line under its owner's key changes no byte that is read. -/
theorem poolByte_rekey {l a : Nat} : (s.rekey l).poolByte a = s.poolByte a := by
  unfold State.poolByte
  dsimp only
  rw [restKey_rekey, rawByte_rekey]
  by_cases ha : a / 64 = l
  · rw [ha, keyOf_rekey_same, if_neg restKey_pos, if_pos rfl]
    by_cases hk : s.keyOf l = s.restKey (64 * l)
    · rw [if_neg fun h => h.2 hk, if_neg (hk ▸ restKey_pos), if_pos hk]
    · rw [if_pos ⟨rfl, hk⟩]
      unfold State.poolByte
      dsimp only
      rw [ha]
  · rw [keyOf_rekey_other ha, if_neg fun h : a / 64 = l ∧ _ => ha h.1]

/-- A byte of a line that stands under its owner's key reads as it is stored. -/
theorem poolByte_of_keyed {a : Nat} (h : s.keyOf (a / 64) = s.restKey (64 * (a / 64))) : s.poolByte a = s.rawByte a := by
  unfold State.poolByte
  dsimp only
  rw [h, if_neg restKey_pos, if_pos rfl]

theorem rekeys_keep {ls : List Nat} : (∀ a, (s.each ls State.rekey).restKey a = s.restKey a) ∧
    (∀ a, (s.each ls State.rekey).poolByte a = s.poolByte a) ∧
    (∀ l, s.keyOf l = s.restKey (64 * l) ∨ l ∈ ls → (s.each ls State.rekey).keyOf l = s.restKey (64 * l)) := by
  induction ls generalizing s with
  | nil => exact ⟨fun _ => rfl, fun _ => rfl, fun l h => h.resolve_right (by simp)⟩
  | cons k ls ih =>
    obtain ⟨hrest, hbyte, hkey⟩ := ih (s := s.rekey k)
    refine ⟨fun a => (hrest a).trans restKey_rekey, fun a => (hbyte a).trans poolByte_rekey, fun l h => ?_⟩
    refine (hkey l ?_).trans restKey_rekey
    rw [restKey_rekey]
    by_cases hk : l = k
    · subst hk
      exact .inl keyOf_rekey_same
    · rw [keyOf_rekey_other hk]
      exact h.imp_right fun hm => (List.mem_cons.1 hm).resolve_left hk

/-! ## Bytes -/

theorem mem_linesOf {o n l : Nat} (hn : 0 < n) (h : o < 64 * l + 64) (h' : 64 * l < o + n) : l ∈ linesOf o n := by
  unfold linesOf
  rw [if_neg (by omega)]
  refine List.mem_map.2 ⟨l - o / 64, List.mem_range.2 ?_, ?_⟩
  · omega
  · omega

/-- Lifting poison leaves the bytes and the keys. -/
theorem poolByte_of_touches {m a : Nat} (h : Touches m s t) (hp : m.testBit 38 = false) (hl : m.testBit 40 = false)
    (hr : m.testBit 7 = false) (hm : m.testBit 60 = false) (hk : m.testBit 64 = false) : t.poolByte a = s.poolByte a := by
  have epool : s.pool = t.pool := h .pool hp
  have ekey : s.lineKey = t.lineKey := h .lineKey hl
  unfold State.poolByte State.keyOf State.rawByte
  rw [restKey_of_touches h hr hm hk, epool, ekey]

theorem lifts_touch {ls : List Nat} {p : Nat → Prop} [DecidablePred p] :
    Touches 549755813888 s (s.each ls fun s l => if p l then s.setPoison l false else s) := by
  simp

theorem poolByte_store_other {o a : Nat} {bs : List Byte} (h : a < o ∨ o + bs.length ≤ a) : (s.store o bs).poolByte a = s.poolByte a := by
  obtain ⟨hrest, hbyte, -⟩ := rekeys_keep (s := s) (ls := linesOf o bs.length)
  refine (poolByte_of_touches lifts_touch (by decide) (by decide) (by decide) (by decide) (by decide)).trans ((Eq.trans ?_ (hbyte a)))
  unfold State.poolByte
  rw [restKey_putBytes, keyOf_putBytes, rawByte_putBytes_other h]

theorem poolByte_store_same {o i : Nat} {bs : List Byte} (h : i < bs.length) : (s.store o bs).poolByte (o + i) = bs[i] := by
  obtain ⟨hrest, -, hkey⟩ := rekeys_keep (s := s) (ls := linesOf o bs.length)
  refine (poolByte_of_touches lifts_touch (by decide) (by decide) (by decide) (by decide) (by decide)).trans ?_
  rw [poolByte_of_keyed, rawByte_putBytes_same h]
  rw [keyOf_putBytes, restKey_putBytes, hrest]
  exact hkey _ (.inr (mem_linesOf (by omega) (by omega) (by omega)))

/-! ## Poison -/

/-- Where whole lines lose their poison one after another. -/
theorem poison_lifts {ls : List Nat} {p : Nat → Prop} [DecidablePred p] {l : Nat} :
    tget (fun _ => false) (s.each ls fun s l => if p l then s.setPoison l false else s).poison l =
      if l ∈ ls ∧ p l then false else tget (fun _ => false) s.poison l := by
  induction ls generalizing s with
  | nil => simp [State.each]
  | cons k ls ih =>
    refine (ih (s := if p k then s.setPoison k false else s)).trans ?_
    by_cases hk : l = k
    · subst hk
      by_cases hp : p l
      · have hset : tget (fun _ => false) (s.setPoison l false).poison l = false :=
          tget_tput_same (t := s.poison) (k := l) (v := false) fun _ => false
        simp [hp, hset]
      · simp [hp]
    · have hset : tget (fun _ => false) (s.setPoison k false).poison l = tget (fun _ => false) s.poison l :=
        tget_tput_other (t := s.poison) (k := k) (v := false) (fun _ => false) hk
      by_cases hp : p k
      · simp [hp, hk, hset]
      · simp [hp, hk]

theorem poison_store {o l : Nat} {bs : List Byte} : tget (fun _ => false) (s.store o bs).poison l =
    if o ≤ 64 * l ∧ 64 * l + 64 ≤ o + bs.length then false else tget (fun _ => false) s.poison l := by
  have hsame : ((s.each (linesOf o bs.length) State.rekey).putBytes o bs).poison = s.poison := by
    have h : Touches 1374389534720 s ((s.each (linesOf o bs.length) State.rekey).putBytes o bs) := by simp
    exact (h .poison (by decide)).symm
  refine (poison_lifts (p := fun l => o ≤ 64 * l ∧ 64 * l + 64 ≤ o + bs.length)).trans ?_
  rw [hsame]
  by_cases h : o ≤ 64 * l ∧ 64 * l + 64 ≤ o + bs.length
  · rw [if_pos h, if_pos ⟨mem_linesOf (by omega) (by omega) (by omega), h⟩]
  · rw [if_neg h, if_neg fun hm => h hm.2]

end Sys2Proof.Machine

open Sys2Proof Sys2Proof.Machine

/-- Settles O14: the lines written stand under their owner's key, and the placement before it writes nothing. -/
theorem poolHoldsWhatWasWritten : Obligations.PoolHoldsWhatWasWritten := by
  intro s o bs hbook t
  let u := (granulesOf o bs.length).foldl (fun s g => s.placeWrite o bs.length g) s
  have ht : t = u.store o bs := if_neg (by rw [hbook]; decide)
  have hplace : Touches 2748779069440 s u := by
    show Touches _ s ((granulesOf o bs.length).foldl _ s)
    simp
  have hbyte (a : Nat) : u.poolByte a = s.poolByte a :=
    poolByte_of_touches hplace (by decide) (by decide) (by decide) (by decide) (by decide)
  have hkeeps : KeepsBut [.pool, .poison, .lineKey, .granules] s t :=
    ((touches_poolWrite (Nat.and_self _)).2 .rfl : Touches _ s (s.poolWrite o bs)).keeps _ (by decide)
  rw [ht] at hkeeps ⊢
  refine ⟨?_, fun a ha => (poolByte_store_other ha).trans (hbyte a), fun hl => ⟨fun l h h' => ?_, fun l h => ?_⟩, hkeeps⟩
  · refine List.ext_getElem (by simp [State.poolRead]) fun i hi hj => ?_
    simp only [State.poolRead, List.getElem_map, List.getElem_range]
    exact poolByte_store_same hj
  · rw [poison_store, if_pos ⟨h, h'⟩]
  · have hcalm : u.poison = s.poison := placeWrites_calm hl
    rw [poison_store, if_neg (by omega), hcalm]
end

section
/-! PROOF. What makes a device the device it is, and what its Keeper runs: the operations of the Keeper that leave both as they are. -/

namespace Sys2Proof.Machine

variable {s t u : State}

/-- The fuses, and the certificate chain of the flash. -/
def Nvm.fused (n : Nvm) : Nvm :=
  { n with keeperA := Image.none, coreA := Image.none, keeperB := Image.none, coreB := Image.none }

/-- The queue, the variant, the fuses, the certificate chain, and what of the Keeper its boot decides. -/
def State.versions (s : State) : List Instr × Variant × Nvm × Bool × Byte :=
  (s.pending, s.variant, s.nvm.fused, s.keeper.booted, s.keeper.svn)

theorem versions_of_touches {m : Nat} (h : Touches m s u) (hq : m.testBit 0 = false := by decide) (hv : m.testBit 3 = false := by decide)
    (hk : m.testBit 64 = false := by decide) (hn : m.testBit 65 = false := by decide) : u.versions = s.versions := by
  have equeue : s.pending = u.pending := h .pending hq
  have evariant : s.variant = u.variant := h .variant hv
  have ekeeper : s.keeper = u.keeper := h .keeper hk
  have envm : s.nvm = u.nvm := h .nvm hn
  unfold State.versions
  rw [equeue, evariant, ekeeper, envm]

/-- From a change of any pieces but those: the mask has every other bit. -/
theorem versions_of_others (h : Touches 75502523493693194764278 s u) : u.versions = s.versions := versions_of_touches h

theorem ite_versions {c : Prop} [Decidable c] (ht : t.versions = s.versions) (hu : u.versions = s.versions) :
    (if c then t else u).versions = s.versions := by
  split
  · exact ht
  · exact hu

theorem each_versions {α : Type} {l : List α} {f : State → α → State} (hf : ∀ u a, (f u a).versions = u.versions) :
    (s.each l f).versions = s.versions := by
  induction l generalizing s with
  | nil => rfl
  | cons a l ih => exact (ih (s := f s a)).trans (hf s a)

@[simp] theorem setReg_versions {o : Nat} {w : Word} : (s.setReg o w).versions = s.versions := rfl

@[simp] theorem emit_versions {o : Out} : (s.emit o).versions = s.versions := rfl

@[simp] theorem advanceMgen_versions : s.advanceMgen.versions = s.versions := rfl

@[simp] theorem vectorH0_versions {off : Nat} : (s.vectorH0 off).versions = s.versions := versions_of_others (by simp)

@[simp] theorem setupError_versions {port off cause : Nat} : (s.setupError port off cause).versions = s.versions :=
  versions_of_others (by simp)

/-! ## Regions (R325, R266) -/

@[simp] theorem regionClear_versions {r ten key : Nat} : (s.regionClear r ten key).versions = s.versions := by
  unfold State.regionClear
  dsimp only
  split <;> rfl

@[simp] theorem regionReady_versions {r : Nat} : (s.regionReady r).versions = s.versions := ite_versions rfl rfl

/-! ## Commands and the mailbox (R341) -/

@[simp] theorem kprDone_versions : s.kprDone.versions = s.versions := by
  unfold State.kprDone
  split
  · rfl
  · split
    · rfl
    · exact vectorH0_versions

@[simp] theorem applyEnables_versions {was : State} : (s.applyEnables was).versions = s.versions := versions_of_others (by simp)

theorem sealKeeper_versions {port : Nat} : (s.sealKeeper port).1.versions = s.versions := by
  unfold State.sealKeeper
  split
  · rfl
  · split
    · rfl
    · rw [advanceMgen_versions, applyEnables_versions]
      rfl

theorem stageFirmware_versions {port : Nat} {k c : Bool} : (s.stageFirmware port k c).1.versions = s.versions := by
  unfold State.stageFirmware
  dsimp only
  split
  · rfl
  · split
    · rfl
    · dsimp only
      split
      · rfl
      · rfl

@[simp] theorem mailboxSend_versions {port : Nat} {len : BitVec 32} : (s.mailboxSend port len).versions = s.versions :=
  ite_versions rfl (ite_versions setupError_versions (ite_versions setupError_versions rfl))

@[simp] theorem mailboxLoad_versions {bytes : List Byte} : (s.mailboxLoad bytes).versions = s.versions := by
  unfold State.mailboxLoad
  dsimp only
  rw [vectorH0_versions, setReg_versions, each_versions fun _ _ => setReg_versions]
  rfl

@[simp] theorem mailboxAck_versions {value : BitVec 32} : (s.mailboxAck value).versions = s.versions :=
  ite_versions rfl (ite_versions mailboxLoad_versions rfl)

/-! ## Messages (R327, R328) -/

@[simp] theorem say_versions {b : Nat} {bytes : List Byte} : (s.say b bytes).versions = s.versions := ite_versions mailboxLoad_versions emit_versions

theorem asked_versions {b : Nat} {act : State → State} (h : (act s).versions = s.versions) : (s.asked? b act).versions = s.versions :=
  ite_versions h rfl

@[simp] theorem control_versions {b command code : Nat} {data : List Byte} : (s.control b command code data).versions = s.versions :=
  say_versions

@[simp] theorem setConn_versions {b n : Nat} : (s.setConn b n).versions = s.versions := rfl

@[simp] theorem setChunkOut_versions {b : Nat} {l : List Byte} : (s.setChunkOut b l).versions = s.versions := rfl

@[simp] theorem setChunkIn_versions {b : Nat} {l : List Byte} : (s.setChunkIn b l).versions = s.versions := rfl

@[simp] theorem setSpdm_versions {i : Nat} {x : Spdm} : (s.setSpdm i x).versions = s.versions := rfl

@[simp] theorem dropSpdm_versions {i : Nat} : (s.dropSpdm i).versions = s.versions := rfl

@[simp] theorem spdmFail_versions {b code : Nat} : (s.spdmFail b code).versions = s.versions := say_versions

@[simp] theorem spdmSay_versions {b : Nat} {type : Byte} {body : List Byte} : (s.spdmSay b type body).versions = s.versions :=
  ite_versions (say_versions.trans setChunkOut_versions) say_versions

@[simp] theorem sessionSay_versions {x : Spdm} {code : Nat} {body content : List Byte} :
    (s.sessionSay x code body content).versions = s.versions := spdmSay_versions

theorem spdmRequest_versions {b code need : Nat} {body content : List Byte} {act : State → State}
    (h : (act s).versions = s.versions) : (s.spdmRequest b code need body content act).versions = s.versions :=
  asked_versions (ite_versions spdmFail_versions (spdmSay_versions.trans h))

theorem inSession_versions {i : Nat} {act : State → Spdm → State} (h : ∀ x, (act s x).versions = s.versions) :
    (s.inSession i act).versions = s.versions := by
  unfold State.inSession
  split
  · rfl
  · refine asked_versions ?_
    split
    · exact h _
    · exact say_versions

@[simp] theorem setEid_versions {b : Nat} {eid : Byte} : (s.setEid b eid).versions = s.versions :=
  ite_versions control_versions control_versions

@[simp] theorem mctpVersion_versions {b : Nat} {type : Byte} : (s.mctpVersion b type).versions = s.versions :=
  ite_versions control_versions control_versions

@[simp] theorem unsupported_versions {b : Nat} {command : Byte} : (s.unsupported b command).versions = s.versions :=
  ite_versions rfl control_versions

theorem spdmVersion_versions {b : Nat} {body : List Byte} : (s.spdmVersion b body).versions = s.versions :=
  spdmRequest_versions (by rw [setChunkOut_versions, setChunkIn_versions, setConn_versions])

theorem spdmCapabilities_versions {b : Nat} {body : List Byte} : (s.spdmCapabilities b body).versions = s.versions :=
  spdmRequest_versions setConn_versions

@[simp] theorem spdmAlgorithms_versions {b : Nat} {body : List Byte} {common : Bool} :
    (s.spdmAlgorithms b body common).versions = s.versions :=
  ite_versions (asked_versions spdmFail_versions) (spdmRequest_versions setConn_versions)

@[simp] theorem spdmSlot_versions {b code : Nat} {slot : Byte} {body : List Byte} : (s.spdmSlot b code slot body).versions = s.versions :=
  asked_versions (ite_versions spdmFail_versions (spdmRequest_versions rfl))

@[simp] theorem challenge_versions {b : Nat} {slot : Byte} {body : List Byte} : (s.challenge b slot body).versions = s.versions :=
  asked_versions (ite_versions spdmFail_versions (ite_versions spdmFail_versions spdmSay_versions))

@[simp] theorem keyExchange_versions {b : Nat} {body : List Byte} : (s.keyExchange b body).versions = s.versions := by
  refine asked_versions ?_
  (repeat' split) <;> simp

@[simp] theorem finishSession_versions {i : Nat} {mutually verified : Bool} {root : BitVec 384} :
    (s.finishSession i mutually root verified).versions = s.versions := by
  unfold State.finishSession
  split
  · rfl
  · refine asked_versions ?_
    (repeat' split) <;> simp

@[simp] theorem getMeasurements_versions {b index : Nat} {session : Option Nat} {signed : Bool} {body : List Byte} :
    (s.getMeasurements b session index signed body).versions = s.versions := by
  unfold State.getMeasurements
  dsimp only
  split
  · refine inSession_versions fun x => ?_
    (repeat' split) <;> simp <;> rfl
  · refine asked_versions ?_
    (repeat' split) <;> simp <;> rfl

@[simp] theorem chunkIn_versions {b handle seq : Nat} {last : Bool} {body : List Byte} :
    (s.chunkIn b handle seq last body).versions = s.versions :=
  asked_versions (ite_versions spdmFail_versions (spdmSay_versions.trans setChunkIn_versions))

@[simp] theorem chunkGet_versions {b handle seq : Nat} : (s.chunkGet b handle seq).versions = s.versions := by
  refine asked_versions ?_
  dsimp only
  (repeat' split) <;> simp

@[simp] theorem pldm_versions {b sensor : Nat} {body : List Byte} : (s.pldm b sensor body).versions = s.versions :=
  asked_versions say_versions

end Sys2Proof.Machine
end

section
/-! PROOF. Every command keeps the device what it is, and its Keeper no older than its fuses (R321, R322, R375). -/

namespace Sys2Proof.Machine

variable {s t u : State} {c : Prop}

/-- A Keeper that runs is not older than the fuses (R322). -/
def State.current (s : State) : Prop := s.keeper.booted = true → s.nvm.fuseSvn.toNat ≤ s.keeper.svn.toNat

/-- One state comes after another of the same device, whose certificate chain is kept where `c` holds. -/
structure Ages (c : Prop) (s u : State) : Prop where
  queue : u.pending = s.pending
  variant : u.variant = s.variant
  lifecycle : u.nvm.lifecycle = s.nvm.lifecycle
  secret : u.nvm.secret = s.nvm.secret
  serial : u.nvm.serial = s.nvm.serial
  rootDigest : u.nvm.rootDigest = s.nvm.rootDigest
  chain : c → u.nvm.chain = s.nvm.chain
  fuses : s.nvm.fuseSvn.toNat ≤ u.nvm.fuseSvn.toNat
  current : s.current → u.current

namespace Ages

theorem refl : Ages c s s := ⟨rfl, rfl, rfl, rfl, rfl, rfl, fun _ => rfl, Nat.le_refl _, id⟩

theorem trans (h : Ages c s t) (h' : Ages c t u) : Ages c s u where
  queue := h'.queue.trans h.queue
  variant := h'.variant.trans h.variant
  lifecycle := h'.lifecycle.trans h.lifecycle
  secret := h'.secret.trans h.secret
  serial := h'.serial.trans h.serial
  rootDigest := h'.rootDigest.trans h.rootDigest
  chain hc := (h'.chain hc).trans (h.chain hc)
  fuses := Nat.le_trans h.fuses h'.fuses
  current := h'.current ∘ h.current

theorem of_versions (h : u.versions = s.versions) : Ages c s u := by
  simp only [State.versions, Nvm.fused, Prod.mk.injEq, Nvm.mk.injEq, true_and] at h
  obtain ⟨hqueue, hvariant, ⟨hlifecycle, hfuses, hroot, hsecret, hserial, hchain⟩, hbooted, hsvn⟩ := h
  refine ⟨hqueue, hvariant, hlifecycle, hsecret, hserial, hroot, fun _ => hchain, Nat.le_of_eq (congrArg _ hfuses.symm),
    fun hs hb => ?_⟩
  rw [hfuses, hsvn]
  exact hs (hbooted ▸ hb)

theorem of_others (h : Touches 75502523493693194764278 s u) : Ages c s u := of_versions (versions_of_others h)

theorem ite {p : Prop} [Decidable p] (ht : Ages c s t) (hu : Ages c s u) : Ages c s (if p then t else u) := by
  split
  · exact ht
  · exact hu

theorem each {α : Type} {l : List α} {f : State → α → State} (hf : ∀ u a, Ages c u (f u a)) : Ages c s (s.each l f) := by
  induction l generalizing s with
  | nil => exact refl
  | cons a l ih => exact (hf s a).trans ih

end Ages

/-- The same of an outcome: whatever state it answers. -/
def NextAges (c : Prop) (s : State) (o : Host.Outcome State Fault Refusal) : Prop := ∀ u, o = .next u → Ages c s u

theorem nextAges_next : NextAges c s (.next u) ↔ Ages c s u := ⟨fun h => h u rfl, fun h v e => by cases e; exact h⟩

theorem NextAges.after {o : Host.Outcome State Fault Refusal} (h : NextAges c s o) : Ages c s (s.after o) := by
  unfold State.after
  split
  · exact h _ rfl
  · exact .refl

theorem ages_after {m : Nat} {o : Host.Outcome State Fault Refusal} (h : TouchesO m s o) (hq : m.testBit 0 = false := by decide)
    (hv : m.testBit 3 = false := by decide) (hk : m.testBit 64 = false := by decide) (hn : m.testBit 65 = false := by decide) :
    Ages c s (s.after o) := .of_versions (versions_of_touches (touches_after h) hq hv hk hn)

/-! ## The gates of a write -/

theorem setupWrite_ages {port off : Nat} {owner : Option Nat} {fogOk : Bool} {held : Held} {act : State → State}
    (hf : ∀ u, Ages c u (act u)) : Ages c s (s.setupWrite port off owner fogOk held act) := by
  have herror {n : Nat} : Ages c s (s.setupError port off n) := .of_versions setupError_versions
  have hg : Ages c s (State.setupWrite.go port off owner fogOk act s) := by
    unfold State.setupWrite.go
    refine .ite .refl (.ite .refl (.ite (.ite (hf s) .refl) (.ite herror (.ite herror ?_))))
    split
    · exact .ite (hf s) herror
    · exact hf s
  exact .ite hg (.ite .refl (.ite (.of_others (by simp)) hg))

theorem kprCommand_ages {port : Nat} {fwStage : Bool} {held : Held} {act : State → State × Byte × Bool}
    (hf : ∀ u, Ages c u (act u).1) : Ages c s (s.kprCommand port fwStage held act) := by
  refine setupWrite_ages fun u => .ite .refl ?_
  split
  · exact .of_versions setupError_versions
  · exact (hf u).trans (.of_versions rfl)

theorem pwrCommand_ages {port op : Nat} {act : State → State} (hf : ∀ u, Ages c u (act u)) : Ages c s (s.pwrCommand port op act) :=
  .ite (.of_others (by simp)) (.ite (.of_others (by simp)) (setupWrite_ages fun u => .ite (.of_others (by simp)) (hf u)))

/-! ## The Keeper's commands (R322, R330, R339) -/

theorem updPart_ages {p : Nat} {f : Part → Part} : Ages c s (s.updPart p f) := .of_versions rfl

theorem setAnchor_ages {port p : Nat} : Ages c s (s.setAnchor port p).1 := by
  unfold State.setAnchor
  split
  · exact .refl
  split
  · exact .refl
  · exact updPart_ages.trans (.of_versions advanceMgen_versions)

theorem scrub_ages {p : Nat} {erase : Bool} : Ages c s (s.scrub p erase) :=
  (updPart_ages (p := p) (f := fun x => { x with switching := true, erase })).trans (.of_others (by simp [State.scrub]))

theorem switchPart_ages {port p : Nat} {erase : Bool} : Ages c s (s.switchPart port p erase).1 := by
  unfold State.switchPart
  split
  · exact .refl
  split
  · exact .refl
  · exact scrub_ages

/-- Blowing fuses up to what runs raises them, and not above it. -/
theorem commit_ages {port : Nat} : Ages c s (s.commit port).1 := by
  unfold State.commit
  split
  · exact .refl
  · refine ⟨rfl, rfl, rfl, rfl, rfl, rfl, fun _ => rfl, ?_, fun hs hb => ?_⟩
    · dsimp only
      split
      · exact Nat.le_of_lt ‹_›
      · exact Nat.le_refl _
    · dsimp only
      split
      · exact Nat.le_refl _
      · exact hs hb

theorem execSeal_ages {port : Port} : NextAges c s (execSeal port s) :=
  nextAges_next.2 (kprCommand_ages fun _ => .of_versions sealKeeper_versions)

theorem execAnchor_ages {port : Port} {p : Tenant} : NextAges c s (execAnchor port p s) :=
  nextAges_next.2 (kprCommand_ages fun _ => setAnchor_ages)

theorem execSwitch_ages {port : Port} {p : Tenant} {erase : Bool} : NextAges c s (execSwitch port p erase s) :=
  nextAges_next.2 (kprCommand_ages fun _ => switchPart_ages)

theorem execFwStage_ages {port : Port} {keeper core : Bool} : NextAges c s (execFwStage port keeper core s) :=
  nextAges_next.2 (kprCommand_ages fun _ => .of_versions stageFirmware_versions)

theorem execCommitSvn_ages {port : Port} : NextAges c s (execCommitSvn port s) :=
  nextAges_next.2 (kprCommand_ages fun _ => commit_ages)

theorem execMailboxSend_ages {port : Port} {len : BitVec 32} : NextAges c s (execMailboxSend port len s) :=
  nextAges_next.2 (setupWrite_ages fun _ => .of_versions mailboxSend_versions)

theorem execMailboxRxAck_ages {port : Port} {value : BitVec 32} : NextAges c s (execMailboxRxAck port value s) :=
  nextAges_next.2 (setupWrite_ages fun _ => .of_versions mailboxAck_versions)

theorem execRegionValidClear_ages {port : Port} {region : BitVec 6} {value : BitVec 32} :
    NextAges c s (execRegionValidClear port region value s) :=
  nextAges_next.2 (setupWrite_ages fun _ => .ite (.of_versions setupError_versions)
    (.ite (.of_versions setupError_versions) (.of_versions regionClear_versions)))

/-! ## Model keys and switches (R331, R332, R339) -/

theorem putKey_ages {p slot : Nat} {k : ModelKey} : Ages c s (s.putKey p slot k) := updPart_ages.trans (.of_versions advanceMgen_versions)

theorem regionsClear_ages {l : List Nat} {p : Nat} {key : State → Nat → Nat} :
    Ages c s (s.each l fun s r => s.regionClear r p (key s r)) := .each fun _ _ => .of_versions regionClear_versions

theorem eraseKey_ages {p slot : Nat} : Ages c s (s.eraseKey p slot) :=
  (regionsClear_ages (key := fun _ _ => slot)).trans (.ite (updPart_ages.trans (.of_versions advanceMgen_versions)) .refl)

theorem inSession_ages {i : Nat} {act : State → Spdm → State} (h : ∀ x, Ages c s (act s x)) : Ages c s (s.inSession i act) := by
  unfold State.inSession
  split
  · exact .refl
  · refine .ite ?_ .refl
    split
    · exact h _
    · exact .of_versions say_versions

theorem keyInstall_ages {i : Nat} {p : List Byte} : Ages c s (s.keyInstall i p) :=
  inSession_ages fun _ => .trans (.ite putKey_ages .refl) (.of_versions sessionSay_versions)

theorem keyDestroy_ages {i : Nat} {p : List Byte} : Ages c s (s.keyDestroy i p) :=
  inSession_ages fun _ => .trans (.ite eraseKey_ages .refl) (.of_versions sessionSay_versions)

theorem withCmd_ages {x : Option KprCmd} : Ages c s { s with keeper := { s.keeper with cmd := x } } := .of_versions rfl

theorem switchEnds_ages {p : Nat} : Ages c s (s.switchEnds p) := by
  refine .ite .refl (.trans ?_ (.ite (.of_others (by simp)) .refl))
  refine .trans (.trans ?_ withCmd_ages) (.each fun _ _ => .of_others (by simp))
  refine .trans ?_ (updPart_ages.trans (.of_versions advanceMgen_versions))
  exact .trans (.trans (regionsClear_ages (key := fun s r => s.regionKey r)) (.each fun _ _ => .of_versions advanceMgen_versions))
    (.ite (.of_others (by simp)) .refl)

/-! ## Cold resets (R375) -/

/-- After a cold reset the Keeper has not booted. -/
theorem coldKeep_ages {st : Power} : Ages c s (s.coldKeep st) :=
  ⟨rfl, rfl, rfl, rfl, rfl, rfl, fun _ => rfl, Nat.le_refl _, fun _ hb => absurd hb Bool.false_ne_true⟩

theorem withPwr_ages {x : Pwr} : Ages c s { s with pwr := x } := .of_versions rfl

theorem resetLow_ages : Ages c s s.resetLow := .ite withPwr_ages (withPwr_ages.trans coldKeep_ages)

theorem sysLost_ages : Ages c s s.sysLost := .ite withPwr_ages (withPwr_ages.trans coldKeep_ages)

theorem sample_ages {x : Sample} : Ages c s (s.sample x) := by
  have hread (l : List Sensor) : Ages c s (((((s.storeSample x).warnings l).triggers l x).throttleCheck.criticals l)) :=
    .of_others (by simp)
  exact .ite .refl (.ite (((hread (s.sensors x)).trans (.of_versions emit_versions)).trans coldKeep_ages) (hread (s.sensors x)))

theorem execCold_ages {port : Port} : NextAges c s (execCold port s) := nextAges_next.2 (pwrCommand_ages fun _ => coldKeep_ages)

end Sys2Proof.Machine
end

section
/-! PROOF. Set-up writes, also those that waited for a wake, keep the device what it is whatever they reach (R370, R383). -/

namespace Sys2Proof.Machine

variable {s t u : State} {c : Prop}

/-! ## Command registers -/

theorem kprForeign_ages {p : Port} {v : BitVec 32} : Ages c s (s.kprForeign p v) :=
  kprCommand_ages fun _ => .refl

theorem kprWrite_ages {p : Port} {v : BitVec 32} : Ages c s (s.kprWrite p v) := by
  have hforeign : NextAges c s (.next (s.kprForeign p v)) := nextAges_next.2 kprForeign_ages
  refine NextAges.after ?_
  dsimp only
  split
  · split
    · exact execSeal_ages
    · exact hforeign
  · exact execAnchor_ages
  · exact execSwitch_ages
  · exact execFwStage_ages
  · split
    · exact execCommitSvn_ages
    · exact hforeign
  · exact nextAges_next.2 (.of_others (by simp))

theorem pwrWrite_ages {p : Port} {v : BitVec 32} : Ages c s (s.pwrWrite p v) := by
  unfold State.pwrWrite
  split
  · exact ages_after touches_execDark
  · exact ages_after touches_execPwrWake
  · exact execCold_ages.after
  · exact .of_others (by simp)

/-- One more command register of the chain that `State.commandWrite` tries in turn. -/
theorem ages_some_ite {p : Prop} [Decidable p] {o : Option State} (ht : Ages c s t)
    (ho : o = some u → Ages c s u) (h : (if p then some t else o) = some u) : Ages c s u := by
  split at h
  · cases h; exact ht
  · exact ho h

theorem commandWrite_ages {p : Port} {x : RegRow} {i : Nat} {v : BitVec 32} (h : s.commandWrite p x i v = some u) :
    Ages c s u := by
  have hrun : Ages c s (s.after (if bit v 0 then execRotRunSet p (bit v 1) (bit v 2) s
      else execRotRunClear p (bit v 1) (bit v 2) s)) := by
    split
    · exact ages_after touches_execRotRunSet
    · exact ages_after touches_execRotRunClear
  have hregion {r : BitVec 6} : Ages c s (s.after (if bit v 0 then execRegionValidSet p r v s
      else execRegionValidClear p r v s)) := by
    split
    · exact ages_after touches_execRegionValidSet
    · exact execRegionValidClear_ages.after
  refine ages_some_ite kprWrite_ages ?_ h
  refine ages_some_ite execMailboxSend_ages.after ?_
  refine ages_some_ite execMailboxRxAck_ages.after ?_
  refine ages_some_ite pwrWrite_ages ?_
  refine ages_some_ite (t := s.rasWrite p v) (.of_others (by simp)) ?_
  refine ages_some_ite (ages_after touches_execRasAck) ?_
  refine ages_some_ite (ages_after touches_execRasInject) ?_
  refine ages_some_ite (t := s.ringWrite p v) (.of_others (by simp)) ?_
  refine ages_some_ite (t := s.tableWrite p v) (.of_others (by simp)) ?_
  refine ages_some_ite hrun ?_
  refine ages_some_ite (t := s.bookCmdWrite p v) (.of_others (by simp)) ?_
  refine ages_some_ite (ages_after touches_execAttAbftInject) ?_
  refine ages_some_ite (t := s.tierWrite p v) (.of_others (by simp)) ?_
  refine ages_some_ite (t := s.portWrite p v) (.of_others (by simp)) ?_
  exact ages_some_ite hregion fun h => by cases h

/-! ## Accesses of BAR0 -/

theorem write32_ages {p : Port} {off : Nat} {v : BitVec 32} : Ages c s (s.write32 p off v) := by
  unfold State.write32
  split
  · exact .refl
  split
  · exact .of_others (by simp)
  split
  · exact commandWrite_ages ‹_›
  · exact .of_others ((touches_regGate (by decide) fun u => by simp).2 Touches.rfl)

theorem barWrite32_ages {p : Port} {off : Nat} {v : BitVec 32} : Ages c s (s.barWrite32 p off v) :=
  .ite write32_ages (.of_others (by simp))

theorem barWrite_ages {p : Port} {off size : Nat} {value : Word} : Ages c s (s.barWrite p off size value) := by
  have hhalves {lo hi : BitVec 32} : Ages c s ((s.barWrite32 p off lo).barWrite32 p (off + 4) hi) :=
    barWrite32_ages.trans barWrite32_ages
  unfold State.barWrite
  dsimp only
  split
  · exact barWrite32_ages
  split
  · split
    · exact .ite (.of_others (by simp)) hhalves
    · exact hhalves
  · exact .of_others (by simp)

theorem execSetupRegisterWrite_ages {p : Port} {off : BitVec 26} {size : Nat} {value : Word} :
    NextAges c s (execSetupRegisterWrite p off size value s) := nextAges_next.2 barWrite_ages

/-! ## The end of a wake (R370) -/

theorem serve_ages {h : Held} : Ages c s (s.serve h) := by
  cases h with
  | setup => exact execSetupRegisterWrite_ages.after
  | fwStage => exact execFwStage_ages.after
  | doorbell =>
    unfold State.serve
    dsimp only
    split
    · exact ages_after touches_execDbCqHead
    · exact ages_after touches_execDbSqTail
  | cxl =>
    unfold State.serve
    dsimp only
    split
    · exact ages_after touches_execCxlMemWrite
    · exact ages_after touches_execCxlMemRead
  | config => exact ages_after touches_execHostConfigRequest
  | req => exact .of_others ((touches_message (by decide) fun u => by simp).2 Touches.rfl)
  | snp => exact .of_others ((touches_message (by decide) fun u => by simp).2 Touches.rfl)
  | rsp => exact .of_others ((touches_message (by decide) fun u => by simp).2 Touches.rfl)
  | mg => exact ages_after touches_execMg
  | ptwrite => exact ages_after touches_execPtwriteBroadcast
  | inval => exact ages_after touches_execInvalForward
  | confirm => exact ages_after touches_execInvalConfirm
  | member => exact ages_after touches_execMemberOperation
  | memberAck => exact ages_after touches_execMemberAck
  | pull => exact ages_after touches_execPull
  | pullAnswer => exact ages_after touches_execPullResponse
  | claim => exact ages_after touches_execClaim
  | grant => exact ages_after touches_execHandoffGrant
  | commit => exact ages_after touches_execCommit
  | commitAck => exact ages_after touches_execCommitAck
  | lease => exact ages_after touches_execLeaseResolve
  | release => exact ages_after touches_execRelease
  | claimRefused => exact ages_after touches_execClaimRefused
  | leaseAnswer => exact ages_after touches_execLeaseReadAnswer
  | memberTimeout => exact ages_after touches_execSessionMemberTimeout
  | pullTimeout => exact ages_after touches_execPullTimeout
  | commitTimeout => exact ages_after touches_execCommitTimeout
  | leaseTimeout => exact ages_after touches_execLeaseReadTimeout
  | handoffTimer => exact ages_after touches_execHandoffTimerExpiry
  | releaseWait => exact ages_after touches_execReleaseWaitExpiry

/-- Links are raised first, then writes are served, ports reset, what is left served, and Fog mode entered: none changes what the device is. -/
theorem woken_ages : Ages c s s.woken := by
  unfold State.woken
  dsimp only
  refine .ite (.refl) (.trans ?_ (.ite (.of_others (by simp)) (.refl)))
  refine .trans ?_ (.each fun _ _ => serve_ages)
  refine .trans ?_ (.each fun _ _ => .of_others (by simp))
  refine .trans ?_ (.each fun _ _ => serve_ages)
  exact .of_others (by simp)

end Sys2Proof.Machine
end

section
/-! PROOF. What boots leave, and that every step keeps the Keeper no older than the fuses (R322, R376). -/

namespace Sys2Proof.Machine

variable {s t u : State} {c : Prop}

/-! ## Boots (R322, R376) -/

/-- A Keeper starts from an image that is no older than the fuses, or does not start. -/
theorem bootKeeper_current : s.bootKeeper.current := by
  intro hb
  have hok {b : Bool} {x : Image} {v : Byte} (h : imageOk b x v = true) : v.toNat ≤ (svnOf x.bytes).toNat := by
    simp only [imageOk, Bool.and_eq_true, decide_eq_true_eq] at h
    exact h.2.1
  show s.nvm.fuseSvn.toNat ≤ (if _ then svnOf (if _ then _ else _ : Image).bytes else 0 : Byte).toNat
  obtain ⟨hs, -⟩ := Bool.and_eq_true_iff.1 (hb : (_ && _) = true)
  rw [if_pos hs]
  by_cases ha : imageOk false s.nvm.keeperA s.nvm.fuseSvn = true
  · rw [if_pos ha]
    exact hok ha
  · rw [if_neg ha]
    exact hok ((Bool.or_eq_true_iff.1 hs).resolve_left ha)

/-- The flash is read afresh as the Keeper boots. -/
theorem bringUp_ages {b : BringUp} {rewritten : Bool} (hc : ¬c) : Ages c s (s.bringUp b rewritten) := by
  have hfound : (s.nvm.found b rewritten).lifecycle = s.nvm.lifecycle ∧ (s.nvm.found b rewritten).secret = s.nvm.secret ∧
      (s.nvm.found b rewritten).serial = s.nvm.serial ∧ (s.nvm.found b rewritten).rootDigest = s.nvm.rootDigest ∧
      (s.nvm.found b rewritten).fuseSvn = s.nvm.fuseSvn := by
    unfold Nvm.found
    split
    · exact ⟨rfl, rfl, rfl, rfl, rfl⟩
    · exact ⟨rfl, rfl, rfl, rfl, rfl⟩
  obtain ⟨hlifecycle, hsecret, hserial, hroot, hfuses⟩ := hfound
  let found : State := { s with nvm := s.nvm.found b rewritten, pwr := { s.pwr with state := .boot } }
  have hboot : Ages c s found.bootKeeper :=
    ⟨rfl, rfl, hlifecycle, hsecret, hserial, hroot, fun h => absurd h hc, Nat.le_of_eq (congrArg _ hfuses.symm),
      fun _ => bootKeeper_current⟩
  have hready : Ages c s ({ found.bootKeeper with pwr := { found.bootKeeper.pwr with sysReady := true } } : State).portsTrain :=
    hboot.trans (withPwr_ages.trans (.of_others ((touches_portsTrain (by decide)).2 .rfl)))
  exact .ite hready (hready.trans ((Ages.of_others ((touches_drivesQualify (by decide)).2 ((touches_ddrTrain (by decide)).2 .rfl))).trans withPwr_ages))

theorem tryBoot_ages {b : BringUp} (hc : c → s.awaitsBoot = false) : Ages c s (s.tryBoot b) := by
  unfold State.tryBoot
  split
  · exact .refl
  · rename_i h
    refine .ite withPwr_ages (bringUp_ages fun hh => h ?_)
    exact .inl (by rw [hc hh]; rfl)

theorem resetHigh_ages {b : BringUp} (hc : c → s.awaitsBoot = false) : Ages c s (s.resetHigh b) :=
  .ite withPwr_ages (withPwr_ages.trans (tryBoot_ages hc))

theorem powered_ages {b : BringUp} (hc : c → s.awaitsBoot = false) : Ages c s (s.powered b) := .ite .refl (tryBoot_ages hc)

theorem sysBack_ages {b : BringUp} (hc : c → s.awaitsBoot = false) : Ages c s (s.sysBack b) :=
  .ite withPwr_ages (withPwr_ages.trans (tryBoot_ages hc))

theorem flashFree_ages {b : BringUp} (hc : c → s.awaitsBoot = false) : Ages c s (s.flashFree b) := by
  unfold State.flashFree
  dsimp only
  split
  · rename_i h
    obtain ⟨-, -, hwaits, -⟩ := h
    refine withPwr_ages.trans (bringUp_ages fun hh => ?_)
    exact absurd (hwaits.symm.trans (hc hh)) (by decide)
  · exact withPwr_ages

/-! ## The other commands -/

/-- Does an outcome leave the queue, the variant, the fuses and what boot decides as they were? -/
def VersionsSame (s : State) (o : Host.Outcome State Fault Refusal) : Prop := ∀ u, o = .next u → u.versions = s.versions

theorem versionsSame_of_touches {m : Nat} {o : Host.Outcome State Fault Refusal} (h : TouchesO m s o)
    (hq : m.testBit 0 = false := by decide) (hv : m.testBit 3 = false := by decide) (hk : m.testBit 64 = false := by decide)
    (hn : m.testBit 65 = false := by decide) : VersionsSame s o := fun u hu => versions_of_touches (h u hu) hq hv hk hn

theorem versions_exec {i : Instr} (hc : reachesKeeper i = false) : VersionsSame s (exec i s) := by
  cases i with
  | ringCreate => exact versionsSame_of_touches touches_execRingCreate
  | ringDestroy => exact versionsSame_of_touches touches_execRingDestroy
  | ringStop => exact versionsSame_of_touches touches_execRingStop
  | ringResume => exact versionsSame_of_touches touches_execRingResume
  | ringRead => exact versionsSame_of_touches touches_execRingRead
  | ringCommandComplete => exact versionsSame_of_touches touches_execRingCommandComplete
  | dbSqTail => exact versionsSame_of_touches touches_execDbSqTail
  | dbCqHead => exact versionsSame_of_touches touches_execDbCqHead
  | descriptorFetch => exact versionsSame_of_touches touches_execDescriptorFetch
  | descriptorFetched => exact versionsSame_of_touches touches_execDescriptorFetched
  | descriptorPrecheckComplete => exact versionsSame_of_touches touches_execDescriptorPrecheckComplete
  | completionRecordWriteFault => exact versionsSame_of_touches touches_execCompletionRecordWriteFault
  | coalesceTimerExpiry => exact versionsSame_of_touches touches_execCoalesceTimerExpiry
  | msixUnmask => exact versionsSame_of_touches touches_execMsixUnmask
  | msixEnable => exact versionsSame_of_touches touches_execMsixEnable
  | dmaCopy => exact versionsSame_of_touches touches_execDmaCopy
  | dmaFill => exact versionsSame_of_touches touches_execDmaFill
  | dmaNop => exact versionsSame_of_touches touches_execDmaNop
  | dmaDescriptorComplete => exact versionsSame_of_touches touches_execDmaDescriptorComplete
  | dmaTransferFailure => exact versionsSame_of_touches touches_execDmaTransferFailure
  | pcieCompletionTimeout => exact versionsSame_of_touches touches_execPcieCompletionTimeout
  | rotationStart => exact versionsSame_of_touches touches_execRotationStart
  | bindPhase => exact versionsSame_of_touches touches_execBindPhase
  | launchPhase => exact versionsSame_of_touches touches_execLaunchPhase
  | clauseWindowStart => exact versionsSame_of_touches touches_execClauseWindowStart
  | clauseWindowEnd => exact versionsSame_of_touches touches_execClauseWindowEnd
  | closePhase => exact versionsSame_of_touches touches_execClosePhase
  | guardPhase => exact versionsSame_of_touches touches_execGuardPhase
  | rotChangeAt => exact versionsSame_of_touches touches_execRotChangeAt
  | bookLoad => exact versionsSame_of_touches touches_execBookLoad
  | bookUnload => exact versionsSame_of_touches touches_execBookUnload
  | bookLoadComplete => exact versionsSame_of_touches touches_execBookLoadComplete
  | rotRunSet => exact versionsSame_of_touches touches_execRotRunSet
  | rotRunClear => exact versionsSame_of_touches touches_execRotRunClear
  | beaconReceived => exact versionsSame_of_touches touches_execBeaconReceived
  | beaconMissed => exact versionsSame_of_touches touches_execBeaconMissed
  | holdoverExpiry => exact versionsSame_of_touches touches_execHoldoverExpiry
  | standbyRootTakeover => exact versionsSame_of_touches touches_execStandbyRootTakeover
  | firstBeaconWaitExpiry => exact versionsSame_of_touches touches_execFirstBeaconWaitExpiry
  | sessCreate => exact versionsSame_of_touches touches_execSessCreate
  | append => exact versionsSame_of_touches touches_execAppend
  | publish => exact versionsSame_of_touches touches_execPublish
  | fork => exact versionsSame_of_touches touches_execFork
  | sessOpen => exact versionsSame_of_touches touches_execSessOpen
  | discard => exact versionsSame_of_touches touches_execDiscard
  | offer => exact versionsSame_of_touches touches_execOffer
  | accept => exact versionsSame_of_touches touches_execAccept
  | sessQuery => exact versionsSame_of_touches touches_execSessQuery
  | wake => exact versionsSame_of_touches touches_execWake
  | memberOperation => exact versionsSame_of_touches touches_execMemberOperation
  | memberAck => exact versionsSame_of_touches touches_execMemberAck
  | sessionMemberTimeout => exact versionsSame_of_touches touches_execSessionMemberTimeout
  | pull => exact versionsSame_of_touches touches_execPull
  | pullResponse => exact versionsSame_of_touches touches_execPullResponse
  | pullTimeout => exact versionsSame_of_touches touches_execPullTimeout
  | claim => exact versionsSame_of_touches touches_execClaim
  | handoffGrant => exact versionsSame_of_touches touches_execHandoffGrant
  | commit => exact versionsSame_of_touches touches_execCommit
  | commitAck => exact versionsSame_of_touches touches_execCommitAck
  | commitTimeout => exact versionsSame_of_touches touches_execCommitTimeout
  | leaseReadTimeout => exact versionsSame_of_touches touches_execLeaseReadTimeout
  | leaseResolve => exact versionsSame_of_touches touches_execLeaseResolve
  | release => exact versionsSame_of_touches touches_execRelease
  | handoffTimerExpiry => exact versionsSame_of_touches touches_execHandoffTimerExpiry
  | releaseWaitExpiry => exact versionsSame_of_touches touches_execReleaseWaitExpiry
  | sessionIdleExpiry => exact versionsSame_of_touches touches_execSessionIdleExpiry
  | reclamationProgress => exact versionsSame_of_touches touches_execReclamationProgress
  | attnQuery => exact versionsSame_of_touches touches_execAttnQuery
  | attAbftInject => exact versionsSame_of_touches touches_execAttAbftInject
  | define => exact versionsSame_of_touches touches_execDefine
  | retire => exact versionsSame_of_touches touches_execRetire
  | tableRead => exact versionsSame_of_touches touches_execTableRead
  | tableZeroingComplete => exact versionsSame_of_touches touches_execTableZeroingComplete
  | lookup => exact versionsSame_of_touches touches_execLookup
  | lookahead => exact versionsSame_of_touches touches_execLookahead
  | grad => exact versionsSame_of_touches touches_execGrad
  | close => exact versionsSame_of_touches touches_execClose
  | abandon => exact versionsSame_of_touches touches_execAbandon
  | reversalComplete => exact versionsSame_of_touches touches_execReversalComplete
  | closeInstallComplete => exact versionsSame_of_touches touches_execCloseInstallComplete
  | nop v f => exact versionsSame_of_touches (touches_execNop (a2 := f))
  | add => exact versionsSame_of_touches touches_execAdd
  | sub => exact versionsSame_of_touches touches_execSub
  | and => exact versionsSame_of_touches touches_execAnd
  | or => exact versionsSame_of_touches touches_execOr
  | xor => exact versionsSame_of_touches touches_execXor
  | shl => exact versionsSame_of_touches touches_execShl
  | shr => exact versionsSame_of_touches touches_execShr
  | sra => exact versionsSame_of_touches touches_execSra
  | mul => exact versionsSame_of_touches touches_execMul
  | mulh => exact versionsSame_of_touches touches_execMulh
  | min => exact versionsSame_of_touches touches_execMin
  | max => exact versionsSame_of_touches touches_execMax
  | slt => exact versionsSame_of_touches touches_execSlt
  | sltu => exact versionsSame_of_touches touches_execSltu
  | li => exact versionsSame_of_touches touches_execLi
  | lih => exact versionsSame_of_touches touches_execLih
  | addImm => exact versionsSame_of_touches touches_execAddImm
  | subImm => exact versionsSame_of_touches touches_execSubImm
  | andImm => exact versionsSame_of_touches touches_execAndImm
  | orImm => exact versionsSame_of_touches touches_execOrImm
  | xorImm => exact versionsSame_of_touches touches_execXorImm
  | shlImm => exact versionsSame_of_touches touches_execShlImm
  | shrImm => exact versionsSame_of_touches touches_execShrImm
  | sraImm => exact versionsSame_of_touches touches_execSraImm
  | mulImm => exact versionsSame_of_touches touches_execMulImm
  | mulhImm => exact versionsSame_of_touches touches_execMulhImm
  | minImm => exact versionsSame_of_touches touches_execMinImm
  | maxImm => exact versionsSame_of_touches touches_execMaxImm
  | sltImm => exact versionsSame_of_touches touches_execSltImm
  | sltuImm => exact versionsSame_of_touches touches_execSltuImm
  | fadd => exact versionsSame_of_touches touches_execFadd
  | fsub => exact versionsSame_of_touches touches_execFsub
  | fmul => exact versionsSame_of_touches touches_execFmul
  | ffma => exact versionsSame_of_touches touches_execFfma
  | fdiv => exact versionsSame_of_touches touches_execFdiv
  | fsqrt => exact versionsSame_of_touches touches_execFsqrt
  | fmin => exact versionsSame_of_touches touches_execFmin
  | fmax => exact versionsSame_of_touches touches_execFmax
  | fcvti => exact versionsSame_of_touches touches_execFcvti
  | icvtf => exact versionsSame_of_touches touches_execIcvtf
  | beq => exact versionsSame_of_touches touches_execBeq
  | bne => exact versionsSame_of_touches touches_execBne
  | blt => exact versionsSame_of_touches touches_execBlt
  | bge => exact versionsSame_of_touches touches_execBge
  | jmp => exact versionsSame_of_touches touches_execJmp
  | halt v f => exact versionsSame_of_touches (touches_execHalt (a2 := f))
  | vadd => exact versionsSame_of_touches touches_execVadd
  | vsub => exact versionsSame_of_touches touches_execVsub
  | vmul => exact versionsSame_of_touches touches_execVmul
  | vfma => exact versionsSame_of_touches touches_execVfma
  | vmin => exact versionsSame_of_touches touches_execVmin
  | vmax => exact versionsSame_of_touches touches_execVmax
  | vand => exact versionsSame_of_touches touches_execVand
  | vor => exact versionsSame_of_touches touches_execVor
  | vxor => exact versionsSame_of_touches touches_execVxor
  | vsel => exact versionsSame_of_touches touches_execVsel
  | vbcast => exact versionsSame_of_touches touches_execVbcast
  | vredsum => exact versionsSame_of_touches touches_execVredsum
  | vredmax => exact versionsSame_of_touches touches_execVredmax
  | vperm => exact versionsSame_of_touches touches_execVperm
  | vcvt => exact versionsSame_of_touches touches_execVcvt
  | vexp2 => exact versionsSame_of_touches touches_execVexp2
  | vdiv => exact versionsSame_of_touches touches_execVdiv
  | vsqrt => exact versionsSame_of_touches touches_execVsqrt
  | vcmp => exact versionsSame_of_touches touches_execVcmp
  | amm => exact versionsSame_of_touches touches_execAmm
  | ammComplete => exact versionsSame_of_touches touches_execAmmComplete
  | azero => exact versionsSame_of_touches touches_execAzero
  | astore => exact versionsSame_of_touches touches_execAstore
  | aload => exact versionsSame_of_touches touches_execAload
  | lds => exact versionsSame_of_touches touches_execLds
  | sts => exact versionsSame_of_touches touches_execSts
  | vlds => exact versionsSame_of_touches touches_execVlds
  | vsts => exact versionsSame_of_touches touches_execVsts
  | stream => exact versionsSame_of_touches touches_execStream
  | swait => exact versionsSame_of_touches touches_execSwait
  | streamTileBegin => exact versionsSame_of_touches touches_execStreamTileBegin
  | streamComplete => exact versionsSame_of_touches touches_execStreamComplete
  | ld => exact versionsSame_of_touches touches_execLd
  | st => exact versionsSame_of_touches touches_execSt
  | vld => exact versionsSame_of_touches touches_execVld
  | vst => exact versionsSame_of_touches touches_execVst
  | ldv => exact versionsSame_of_touches touches_execLdv
  | vldv => exact versionsSame_of_touches touches_execVldv
  | linv => exact versionsSame_of_touches touches_execLinv
  | aadd => exact versionsSame_of_touches touches_execAadd
  | aswp => exact versionsSame_of_touches touches_execAswp
  | acas => exact versionsSame_of_touches touches_execAcas
  | amin => exact versionsSame_of_touches touches_execAmin
  | amax => exact versionsSame_of_touches touches_execAmax
  | alda => exact versionsSame_of_touches touches_execAlda
  | astr => exact versionsSame_of_touches touches_execAstr
  | fence => exact versionsSame_of_touches touches_execFence
  | poolAccessComplete => exact versionsSame_of_touches touches_execPoolAccessComplete
  | tierEnable => exact versionsSame_of_touches touches_execTierEnable
  | tierReady => exact versionsSame_of_touches touches_execTierReady
  | nvmeCommandComplete => exact versionsSame_of_touches touches_execNvmeCommandComplete
  | nvmeCommandTimeout => exact versionsSame_of_touches touches_execNvmeCommandTimeout
  | driveResetTimeout => exact versionsSame_of_touches touches_execDriveResetTimeout
  | fillComplete => exact versionsSame_of_touches touches_execFillComplete
  | frameWaitTimeout => exact versionsSame_of_touches touches_execFrameWaitTimeout
  | ageExamination => exact versionsSame_of_touches touches_execAgeExamination
  | copyPassComplete => exact versionsSame_of_touches touches_execCopyPassComplete
  | writebackStart => exact versionsSame_of_touches touches_execWritebackStart
  | patrolScrubStep => exact versionsSame_of_touches touches_execPatrolScrubStep
  | ptwrite => exact versionsSame_of_touches touches_execPtwrite
  | inval => exact versionsSame_of_touches touches_execInval
  | setroot => exact versionsSame_of_touches touches_execSetroot
  | ptwriteBroadcast => exact versionsSame_of_touches touches_execPtwriteBroadcast
  | invalForward => exact versionsSame_of_touches touches_execInvalForward
  | invalConfirm => exact versionsSame_of_touches touches_execInvalConfirm
  | invalConfirmTimeout => exact versionsSame_of_touches touches_execInvalConfirmTimeout
  | walkEntryRead => exact versionsSame_of_touches touches_execWalkEntryRead
  | regionValidSet => exact versionsSame_of_touches touches_execRegionValidSet
  | weightBlockExpanded => exact versionsSame_of_touches touches_execWeightBlockExpanded
  | flitReceived => exact versionsSame_of_touches touches_execFlitReceived
  | replayTimerExpiry => exact versionsSame_of_touches touches_execReplayTimerExpiry
  | signalDetect => exact versionsSame_of_touches touches_execSignalDetect
  | trainComplete => exact versionsSame_of_touches touches_execTrainComplete
  | trainTimeout => exact versionsSame_of_touches touches_execTrainTimeout
  | trainRetryTimer => exact versionsSame_of_touches touches_execTrainRetryTimer
  | keyExchangeComplete => exact versionsSame_of_touches touches_execKeyExchangeComplete
  | keyExchangeTimeout => exact versionsSame_of_touches touches_execKeyExchangeTimeout
  | retrainTimeout => exact versionsSame_of_touches touches_execRetrainTimeout
  | signalLost => exact versionsSame_of_touches touches_execSignalLost
  | portReset => exact versionsSame_of_touches touches_execPortReset
  | portRetrain => exact versionsSame_of_touches touches_execPortRetrain
  | rdS => exact versionsSame_of_touches touches_execRdS
  | rdX => exact versionsSame_of_touches touches_execRdX
  | upg => exact versionsSame_of_touches touches_execUpg
  | rdNc => exact versionsSame_of_touches touches_execRdNc
  | wrC => exact versionsSame_of_touches touches_execWrC
  | wrCm => exact versionsSame_of_touches touches_execWrCm
  | wrNs => exact versionsSame_of_touches touches_execWrNs
  | atAdd => exact versionsSame_of_touches touches_execAtAdd
  | atSwp => exact versionsSame_of_touches touches_execAtSwp
  | atCas => exact versionsSame_of_touches touches_execAtCas
  | atMin => exact versionsSame_of_touches touches_execAtMin
  | atMax => exact versionsSame_of_touches touches_execAtMax
  | evict => exact versionsSame_of_touches touches_execEvict
  | snInv => exact versionsSame_of_touches touches_execSnInv
  | snFwdS => exact versionsSame_of_touches touches_execSnFwdS
  | snFwdX => exact versionsSame_of_touches touches_execSnFwdX
  | snRecall => exact versionsSame_of_touches touches_execSnRecall
  | snRecallX => exact versionsSame_of_touches touches_execSnRecallX
  | data => exact versionsSame_of_touches touches_execData
  | cmp => exact versionsSame_of_touches touches_execCmp
  | snAck => exact versionsSame_of_touches touches_execSnAck
  | snData => exact versionsSame_of_touches touches_execSnData
  | wbPull => exact versionsSame_of_touches touches_execWbPull
  | wbData => exact versionsSame_of_touches touches_execWbData
  | atData => exact versionsSame_of_touches touches_execAtData
  | mg => exact versionsSame_of_touches touches_execMg
  | snoopTimeout => exact versionsSame_of_touches touches_execSnoopTimeout
  | victimBufferTimeout => exact versionsSame_of_touches touches_execVictimBufferTimeout
  | remoteRequestTimeout => exact versionsSame_of_touches touches_execRemoteRequestTimeout
  | tagQuarantineExpiry => exact versionsSame_of_touches touches_execTagQuarantineExpiry
  | mark => exact versionsSame_of_touches touches_execMark
  | unmark => exact versionsSame_of_touches touches_execUnmark
  | grant => exact versionsSame_of_touches touches_execGrant
  | revoke => exact versionsSame_of_touches touches_execRevoke
  | poolQuery => exact versionsSame_of_touches touches_execPoolQuery
  | setmode => exact versionsSame_of_touches touches_execSetmode
  | setmodeDrained => exact versionsSame_of_touches touches_execSetmodeDrained
  | revokeTimerExpiry => exact versionsSame_of_touches touches_execRevokeTimerExpiry
  | directorySweepComplete => exact versionsSame_of_touches touches_execDirectorySweepComplete
  | cxlMemRead => exact versionsSame_of_touches touches_execCxlMemRead
  | cxlMemWrite => exact versionsSame_of_touches touches_execCxlMemWrite
  | tokenAdmit => exact versionsSame_of_touches touches_execTokenAdmit
  | throttleHoldExpiry => exact versionsSame_of_touches touches_execThrottleHoldExpiry
  | birsp => exact versionsSame_of_touches touches_execBirsp
  | backInvalidateTimeout => exact versionsSame_of_touches touches_execBackInvalidateTimeout
  | hdmDecoderCommit => exact versionsSame_of_touches touches_execHdmDecoderCommit
  | hostConfigRequest => exact versionsSame_of_touches touches_execHostConfigRequest
  | keeperReconciliation => exact versionsSame_of_touches touches_execKeeperReconciliation
  | fenceTimeout => exact versionsSame_of_touches touches_execFenceTimeout
  | proxyTimeout => exact versionsSame_of_touches touches_execProxyTimeout
  | jobReset => exact versionsSame_of_touches touches_execJobReset
  | jobResetComplete => exact versionsSame_of_touches touches_execJobResetComplete
  | fog => exact versionsSame_of_touches touches_execFog
  | fogEntryComplete => exact versionsSame_of_touches touches_execFogEntryComplete
  | rasAck => exact versionsSame_of_touches touches_execRasAck
  | rasInject => exact versionsSame_of_touches touches_execRasInject
  | rasLogBaseWrite => exact versionsSame_of_touches touches_execRasLogBaseWrite
  | relief => exact versionsSame_of_touches touches_execRelief
  | dark => exact versionsSame_of_touches touches_execDark
  | darkEntryComplete => exact versionsSame_of_touches touches_execDarkEntryComplete
  | pwrWake => exact versionsSame_of_touches touches_execPwrWake
  | vinMargin => exact versionsSame_of_touches touches_execVinMargin
  | throttleClearExpiry => exact versionsSame_of_touches touches_execThrottleClearExpiry
  | refclkFabLost => exact versionsSame_of_touches touches_execRefclkFabLost
  | perstAssert => exact versionsSame_of_touches touches_execPerstAssert
  | perstDeassert => exact versionsSame_of_touches touches_execPerstDeassert
  | hostLinkDown => exact versionsSame_of_touches touches_execHostLinkDown
  | tapBypass => exact versionsSame_of_touches touches_execTapBypass
  | tapIdcode => exact versionsSame_of_touches touches_execTapIdcode
  | tapSamplePreload => exact versionsSame_of_touches touches_execTapSamplePreload
  | tapExtest => exact versionsSame_of_touches touches_execTapExtest
  | trstAssert => exact versionsSame_of_touches touches_execTrstAssert
  | hostL1Exit => exact versionsSame_of_touches touches_execHostL1Exit
  | idleLinkMessage => exact versionsSame_of_touches touches_execIdleLinkMessage
  | hostLinkTrained => exact versionsSame_of_touches touches_execHostLinkTrained
  | codewordAlignmentLost => exact versionsSame_of_touches touches_execCodewordAlignmentLost
  | nvmeControllerReady => exact versionsSame_of_touches touches_execNvmeControllerReady
  | nvmeControllerResetTimeout => exact versionsSame_of_touches touches_execNvmeControllerResetTimeout
  | nvmePerstPulseEnd => exact versionsSame_of_touches touches_execNvmePerstPulseEnd
  | claimRefused => exact versionsSame_of_touches touches_execClaimRefused
  | leaseReadAnswer => exact versionsSame_of_touches touches_execLeaseReadAnswer
  | _ => exact Bool.noConfusion hc

/-! ## Every command -/

theorem nextAges_of_versions (h : u.versions = s.versions) : NextAges c s (.next u) := nextAges_next.2 (.of_versions h)

theorem exec_ages {i : Instr} (hc : c → s.awaitsBoot = false) : NextAges c s (exec i s) := by
  cases hr : reachesKeeper i with
  | false => exact fun u hu => .of_versions (versions_exec hr u hu)
  | true =>
    cases i with
    | switchComplete => exact nextAges_next.2 switchEnds_ages
    | sealKeeper => exact execSeal_ages
    | anchor => exact execAnchor_ages
    | switch => exact execSwitch_ages
    | fwStage => exact execFwStage_ages
    | commitSvn => exact execCommitSvn_ages
    | kprCommandComplete => exact nextAges_of_versions kprDone_versions
    | mailboxSend => exact execMailboxSend_ages
    | mailboxRxAck => exact execMailboxRxAck_ages
    | getVersion => exact nextAges_of_versions spdmVersion_versions
    | getCapabilities => exact nextAges_of_versions spdmCapabilities_versions
    | negotiateAlgorithms => exact nextAges_of_versions spdmAlgorithms_versions
    | getDigests => exact nextAges_of_versions spdmSlot_versions
    | getCertificate => exact nextAges_of_versions spdmSlot_versions
    | challenge => exact nextAges_of_versions challenge_versions
    | getMeasurements => exact nextAges_of_versions getMeasurements_versions
    | keyExchange => exact nextAges_of_versions keyExchange_versions
    | finish => exact nextAges_of_versions finishSession_versions
    | heartbeat => exact nextAges_of_versions (inSession_versions fun _ => sessionSay_versions)
    | keyUpdate => exact nextAges_of_versions (inSession_versions fun _ => sessionSay_versions)
    | endSession => exact nextAges_of_versions (inSession_versions fun _ => dropSpdm_versions.trans sessionSay_versions)
    | chunkSend => exact nextAges_of_versions chunkIn_versions
    | chunkGet => exact nextAges_of_versions chunkGet_versions
    | keyInstall => exact nextAges_next.2 keyInstall_ages
    | keyDestroy => exact nextAges_next.2 keyDestroy_ages
    | setEndpointId => exact nextAges_of_versions (asked_versions setEid_versions)
    | getEndpointId => exact nextAges_of_versions (asked_versions control_versions)
    | getMctpVersionSupport => exact nextAges_of_versions (asked_versions mctpVersion_versions)
    | getMessageTypeSupport => exact nextAges_of_versions (asked_versions control_versions)
    | unsupportedMctpCommand => exact nextAges_of_versions (asked_versions unsupported_versions)
    | pldmRequest => exact nextAges_of_versions pldm_versions
    | regionValidClear => exact execRegionValidClear_ages
    | regionMeasured => exact nextAges_of_versions regionReady_versions
    | setupRegisterWrite => exact execSetupRegisterWrite_ages
    | wakeComplete => exact nextAges_next.2 woken_ages
    | cold => exact execCold_ages
    | resetNAssert => exact nextAges_next.2 resetLow_ages
    | vinLockout => exact nextAges_next.2 coldKeep_ages
    | sensorSample => exact nextAges_next.2 sample_ages
    | refclkSysLost => exact nextAges_next.2 sysLost_ages
    | resetNRelease => exact nextAges_next.2 (resetHigh_ages hc)
    | powerOn => exact nextAges_next.2 (powered_ages hc)
    | refclkSysRestored => exact nextAges_next.2 (sysBack_ages hc)
    | flashExtRelease => exact nextAges_next.2 (flashFree_ages hc)
    | _ => exact Bool.noConfusion hr

/-! ## Every step -/

theorem tick_ages : Ages c s s.tick := .of_others (by simp [State.tick])

theorem withPending_self {l : List Instr} (h : s.pending = l) : ({ s with pending := l } : State) = s := by
  subst h
  rfl

/-- A step runs its command on the queue's rest, or lets time pass. -/
theorem step_ages (hc : c → s.awaitsBoot = false) (h : step s = .next t) : Ages c { s with pending := s.pending.tail } t := by
  unfold step at h
  split at h
  · rename_i hq
    rw [← Host.Outcome.next.inj h, withPending_self (by rw [hq]; rfl)]
    exact tick_ages
  · rename_i i rest hq
    rw [hq]
    have hwait : ({ s with pending := rest } : State).awaitsBoot = s.awaitsBoot := rfl
    exact exec_ages (fun hh => hwait.trans (hc hh)) t h

end Sys2Proof.Machine

open Sys2Proof Sys2Proof.Machine

/-- Settles O58: fuses are blown up to the version that runs, and a boot starts no image older than they are. -/
theorem runningFirmwareIsNotRolledBack : Obligations.RunningFirmwareIsNotRolledBack :=
  ⟨fun h => absurd h Bool.false_ne_true, fun _ _ hs h => (step_ages (c := False) False.elim h).current hs⟩
end

section
/-! PROOF. What reset leaves. -/

open Sys2Proof Sys2Proof.Machine

/-- Settles O54: the reset values of the registers are worked out, the rest reads off the tables, all empty. -/
theorem resetLeavesNothingRunning : Obligations.ResetLeavesNothingRunning := by
  have hports : ∀ p < 4, State.reset.controls p 0 = true := by decide
  have hregs : State.reset.reg R.rasWinCfg = 0xA0010 ∧ State.reset.reg R.rotPeriod = 16 ∧ State.reset.reg R.rotBookNext = 4 ∧
      State.reset.reg R.sesIdleTime = 200 ∧ State.reset.reg R.sesDenseTime = 2000 ∧ State.reset.reg R.sesHandoffTime = 50 ∧
      State.reset.reg R.sesReleaseWait = 10 ∧ State.reset.reg R.tierNearAge = 200 ∧ State.reset.reg R.tierFarAge = 2000 ∧
      State.reset.reg R.tierNvmeTimeout = 1000 ∧ State.reset.reg R.poolRevokeTime = 2 ∧ State.reset.reg (R.poolBurst 3) = 1024 ∧
      State.reset.rwkReg R.smfLevelRack = 0x12 ∧ State.reset.reg R.rotNumber = 0 ∧ State.reset.reg R.kprMgen = 0 := by decide
  exact ⟨rfl, rfl, rfl, rfl, rfl, rfl, rfl, fun _ => rfl, fun _ => rfl, rfl, rfl, rfl, fun _ => ⟨rfl, rfl⟩, rfl, rfl, hports, rfl, rfl,
    hregs⟩

end

section
/-! PROOF. What a step does: with nothing waiting inside the device, a nanosecond changes the clock, the buckets and the load. -/

namespace Sys2Proof.Machine

variable {s t u : State}

/-! ## Tables: what holds of every entry -/

theorem tget_of_all {α : Type} {d : Nat → α} {t : Tbl α} {P : α → Prop} (hd : ∀ k, P (d k)) (h : ∀ e ∈ t, P e.2) (k : Nat) :
    P (tget d t k) := by
  induction t with
  | nil => exact hd k
  | cons e t ih =>
    obtain ⟨a, v⟩ := e
    unfold tget
    split
    · exact h (a, v) (by simp)
    · exact ih fun e he => h e (by simp [he])

theorem mem_lput {α : Type} {t : Tbl α} {k : Nat} {v : α} {e : Nat × α} (h : e ∈ lput t k v) : e ∈ t ∨ e = (k, v) := by
  induction t with
  | nil => exact .inr (by simpa [lput] using h)
  | cons b t ih =>
    obtain ⟨a, w⟩ := b
    unfold lput at h
    split at h
    · rcases List.mem_cons.1 h with h | h
      · exact .inl (by simp [h])
      · exact (ih h).imp_left fun hm => by simp [hm]
    · split at h
      · rcases List.mem_cons.1 h with h | h
        · exact .inr h
        · exact .inl (by simp [h])
      · rcases List.mem_cons.1 h with h | h
        · exact .inr h
        · exact .inl h

theorem all_tput {α : Type} [DecidableEq α] {d : Nat → α} {t : Tbl α} {P : α → Prop} {k : Nat} {v : α} (h : ∀ e ∈ t, P e.2)
    (hv : P v) : ∀ e ∈ tput d t k v, P e.2 := by
  intro e he
  unfold tput at he
  split at he
  · exact h e (List.mem_filter.1 he).1
  · rcases mem_lput he with hm | rfl
    · exact h e hm
    · exact hv

/-! ## Links with nothing to return -/

/-- A link owes neither an acknowledgement nor credits, while it is ACTIVE. -/
def SLink.quiet (x : SLink) : Prop := x.state = .active → x.ackDue = false ∧ x.owed = []

def State.quiet (s : State) : Prop := ∀ e ∈ s.links, e.2.quiet

theorem quiet_off : SLink.off.quiet := fun h => by cases h

theorem quiet_link (h : s.quiet) (p : Nat) : (s.link p).quiet := tget_of_all (fun _ => quiet_off) h p

theorem quiet_setLink {p : Nat} {x : SLink} (h : s.quiet) (hx : x.quiet) : (s.setLink p x).quiet :=
  all_tput (d := fun _ => SLink.off) (t := s.links) (k := p) (v := x) h hx

theorem quiet_emit {o : Out} (h : s.quiet) : (s.emit o).quiet := h

theorem head_state {x : SLink} {seq : BitVec 10} {nak : Bool} : (x.head seq nak).2.state = x.state := by
  unfold SLink.head
  dsimp only
  split
  · rfl
  · rfl

theorem quiet_head {x : SLink} {seq : BitVec 10} {nak : Bool} (h : x.quiet) : (x.head seq nak).2.quiet := by
  intro ha
  rw [head_state] at ha
  obtain ⟨-, howed⟩ := h ha
  unfold SLink.head
  dsimp only
  rw [howed]
  exact ⟨rfl, rfl⟩

theorem quiet_sendFlit {p : Nat} {f : BitVec 2048} (h : s.quiet) : (s.sendFlit p f).quiet :=
  quiet_emit (quiet_setLink h (quiet_link h p))

theorem quiet_sendChunks {p : Nat} {l : List (Nat × BitVec 128)} (h : s.quiet) : (s.sendChunks p l).quiet :=
  quiet_sendFlit (quiet_setLink h (quiet_head (quiet_link h p)))

theorem quiet_sendAll {p n : Nat} {l : List (Nat × BitVec 128)} (h : s.quiet) : (State.sendAll p n l s).quiet := by
  induction n generalizing s l with
  | zero => exact h
  | succ n ih =>
    unfold State.sendAll
    split
    · exact h
    · exact ih (quiet_sendChunks h)

theorem quiet_takeAll {n : Nat} {x : SLink} {l : List (Nat × BitVec 128)} (h : x.quiet) : (SLink.takeAll n x l).1.quiet := by
  induction n generalizing x l with
  | zero => exact h
  | succ n ih =>
    unfold SLink.takeAll
    split
    · exact h
    · exact ih h

theorem quiet_pumpPort {p : Nat} (h : s.quiet) : (s.pumpPort p).quiet := by
  unfold State.pumpPort
  split
  · exact h
  · exact quiet_sendAll (quiet_setLink h (quiet_takeAll (quiet_link h p)))

theorem quiet_sendOn {p : Nat} {o : Out} (h : s.quiet) : (s.sendOn p o).quiet :=
  quiet_pumpPort (quiet_setLink (quiet_emit h) (quiet_link (quiet_emit (o := o) h) p))

/-! ## At rest -/

theorem atRest_of_touches {m : Nat} (h : Touches m s t) (hq : t.quiet) (hs : s.atRest) (hnet : m.testBit 59 = false := by decide)
    (heng : m.testBit 69 = false := by decide) (hmg : m.testBit 74 = false := by decide) (hmiss : m.testBit 75 = false := by decide)
    (hpull : m.testBit 20 = false := by decide) (hrot : m.testBit 12 = false := by decide) (hras : m.testBit 66 = false := by decide)
    (hring : m.testBit 9 = false := by decide) (hgran : m.testBit 41 = false := by decide) : t.atRest := by
  have enet : s.net = t.net := h .net hnet
  have eeng : s.engineQ = t.engineQ := h .engineQ heng
  have emg : s.mgWaits = t.mgWaits := h .mgWaits hmg
  have emiss : s.missed = t.missed := h .missed hmiss
  have epull : s.heldPulls = t.heldPulls := h .heldPulls hpull
  have erot : s.rot = t.rot := h .rot hrot
  have eras : s.ras = t.ras := h .ras hras
  have ering : s.rings = t.rings := h .rings hring
  have egran : s.granules = t.granules := h .granules hgran
  obtain ⟨h1, h2, h3, h4, h5, h6, h7, h8, h9, -⟩ := hs
  unfold State.atRest
  rw [← enet, ← eeng, ← emg, ← emiss, ← epull, ← erot, ← eras, ← ering, ← egran]
  exact ⟨h1, h2, h3, h4, h5, h6, h7, h8, h9, hq⟩

theorem quiet_of_atRest (h : s.atRest) : s.quiet := by
  obtain ⟨-, -, -, -, -, -, -, -, -, hlinks⟩ := h
  exact hlinks

theorem settleNet_empty {n : Nat} (hnet : s.net = []) (heng : s.engineQ = []) : State.settleNet n s = s := by
  have hnone : s.nextPacket = none := by simp [State.nextPacket, hnet]
  cases n with
  | zero => rfl
  | succ n =>
    unfold State.settleNet
    rw [hnone]
    simp [heng]

theorem withMissed_self {l : List Out} (h : s.missed = l) : ({ s with missed := l } : State) = s := by
  subst h
  rfl

theorem withHeldPulls_self {l : List HeldPull} (h : s.heldPulls = l) : ({ s with heldPulls := l } : State) = s := by
  subst h
  rfl

theorem each_keeps {α : Type} {l : List α} {f : State → α → State} (hf : ∀ a ∈ l, f s a = s) : s.each l f = s := by
  induction l with
  | nil => rfl
  | cons a l ih =>
    have ha : f s a = s := hf a (by simp)
    have hl : s.each l f = s := ih fun b hb => hf b (by simp [hb])
    exact (congrArg (fun u => State.each u l f) ha).trans hl

/-- Where nothing waits inside the device, nothing goes on. -/
theorem goOn_atRest (h : s.atRest) : s.goOn = s := by
  obtain ⟨hnet, heng, hmg, hmiss, hpull, hitems, hrel, -, hgran, hlinks⟩ := h
  have hrun : s.runNet = s := settleNet_empty hnet heng
  have hpump : State.pumpMg s.mgWaits.length s = s := by rw [hmg]; rfl
  have hmisses : s.missesGo = s := by
    unfold State.missesGo
    rw [hmiss]
    exact withMissed_self hmiss
  have hpulls : s.pullsGoOn = s := by
    unfold State.pullsGoOn
    rw [hpull]
    exact withHeldPulls_self hpull
  have hfills : s.fillsGoOn = s := by
    refine each_keeps fun e _ => ?_
    have hnone : (s.granule e.1).fill = none :=
      tget_of_all (P := fun x : Granule => x.fill = none) (fun _ => rfl) (fun e he => (hgran e he).1) e.1
    dsimp only
    rw [hnone]
  have hrises : s.risesGoOn = s := by
    refine each_keeps fun e he => ?_
    obtain ⟨hmem, hrise⟩ := List.mem_filter.1 he
    rw [(hgran e hmem).2] at hrise
    exact absurd hrise Bool.false_ne_true
  have hgrads : s.gradsGo = s := by
    unfold State.gradsGo
    rw [hitems]
    rfl
  have hreliefs : s.reliefsGo = s := by
    unfold State.reliefsGo
    rw [hrel]
    rfl
  have htry : s.itemsTry = s := by
    unfold State.itemsTry
    rw [hitems]
    rfl
  have hwait : s.itemsWait = false := by simp [State.itemsWait, hitems]
  have hidle : s.idleFlits = s := by
    refine each_keeps fun p hp => ?_
    obtain ⟨e, he, -⟩ := List.mem_map.1 hp
    obtain ⟨hmem, hdue⟩ := List.mem_filter.1 he
    have hactive : e.2.state = .active := by simpa using (Bool.and_eq_true_iff.1 hdue).1
    obtain ⟨hack, howed⟩ := hlinks e hmem hactive
    rw [hack, howed] at hdue
    simp at hdue
  unfold State.goOn State.itemsEnd
  simp only [hpump, hmisses, hpulls, hrun, hfills, hrises, ite_self, hgrads, hreliefs, htry, hwait, hidle, Bool.false_eq_true]

/-! ## A nanosecond -/

theorem port_updPort_same {p : Nat} {f : HostPort → HostPort} : (s.updPort p f).port p = f (s.port p) :=
  tget_tput_same (t := s.ports) fun _ => HostPort.off

theorem port_updPort_other {p q : Nat} {f : HostPort → HostPort} (h : q ≠ p) : (s.updPort p f).port q = s.port q :=
  tget_tput_other (t := s.ports) (fun _ => HostPort.off) h

theorem fillBucket_other {p q : Nat} (h : q ≠ p) : (s.fillBucket p).port q = s.port q := port_updPort_other h

theorem fillBucket_same {p : Nat} : ((s.fillBucket p).port p).tokens =
    min ((s.reg (R.poolBurst p)).toNat % 65536 * 1024) ((s.port p).tokens + (s.reg (R.poolRate p)).toNat % 512) :=
  congrArg HostPort.tokens (port_updPort_same (s := s))

/-- Each bucket is filled once. -/
theorem fillBuckets_tokens {l : List Nat} {p : Nat} (hl : l.Nodup) (hp : p ∈ l) : ((l.foldl State.fillBucket s).port p).tokens =
    min ((s.reg (R.poolBurst p)).toNat % 65536 * 1024) ((s.port p).tokens + (s.reg (R.poolRate p)).toNat % 512) := by
  have hrest {m : List Nat} {u : State} (hm : p ∉ m) : (m.foldl State.fillBucket u).port p = u.port p := by
    induction m generalizing u with
    | nil => rfl
    | cons q m ih =>
      obtain ⟨hq, hm⟩ := not_or.1 (fun h => hm (List.mem_cons.2 h))
      exact (ih hm).trans (fillBucket_other hq)
  induction l generalizing s with
  | nil => simp at hp
  | cons q l ih =>
    obtain ⟨hq, hl⟩ := List.nodup_cons.1 hl
    rcases List.mem_cons.1 hp with rfl | hp
    · rw [List.foldl_cons, hrest hq, fillBucket_same]
    · have hne : p ≠ q := fun h => hq (h ▸ hp)
      rw [List.foldl_cons, ih hl hp, fillBucket_other hne]
      rfl

theorem recentPoints_head {now : Nat} {p : Nat × Nat × Nat} {l : List (Nat × Nat × Nat)} :
    (recentPoints now (p :: l)).head? = some p := by
  unfold recentPoints
  split
  · rfl
  · rfl

/-- The load's newest point is the present one. -/
theorem tallyLoad_points : (s.tallyLoad.use.points.head?.map Prod.snd) = some (s.memTxns, s.tagsUsed) := by
  show ((recentPoints s.time (if _ then _ else _)).head?.map Prod.snd) = _
  split
  · rename_i h
    cases hp : s.use.points with
    | nil => rw [hp] at h; cases h
    | cons p l =>
      rw [hp] at h
      rw [recentPoints_head]
      exact h
  · rw [recentPoints_head]
    rfl

theorem tallyLoad_withUse : s.tallyLoad = { s with use := s.tallyLoad.use } := rfl

theorem showRecords_atRest (h : s.atRest) : s.showRecords = s := by
  obtain ⟨-, -, -, -, -, -, -, hfresh, -⟩ := h
  refine each_keeps fun r hr => ?_
  obtain ⟨e, he, -⟩ := List.mem_map.1 hr
  obtain ⟨hmem, hne⟩ := List.mem_filter.1 he
  rw [hfresh e hmem] at hne
  simp at hne

theorem tallyLoad_goOn_atRest (h : s.atRest) : s.showRecords.tallyLoad.goOn = s.tallyLoad := by
  have htally : Touches 295147905179352825856 s s.tallyLoad := (touches_tallyLoad (Nat.and_self _)).2 .rfl
  rw [showRecords_atRest h, goOn_atRest (atRest_of_touches htally (quiet_of_atRest h) h)]

/-- The clock moves and each bucket fills: a nanosecond begins. -/
def State.nanosecond (s : State) : State := (List.range 4).foldl State.fillBucket { s with time := s.time + 1 }

theorem nanosecond_touches : Touches 272 s s.nanosecond := by simp [State.nanosecond]

theorem nanosecond_atRest (h : s.atRest) : s.nanosecond.atRest := by
  have hlinks : s.links = s.nanosecond.links := nanosecond_touches .links (by decide)
  refine atRest_of_touches nanosecond_touches (fun e he => ?_) h
  exact quiet_of_atRest h e (hlinks ▸ he)

theorem step_idle (h : s.pending = []) : step s = .next s.nanosecond.takeMg.showRecords.tallyLoad.goOn := by
  unfold step
  rw [h]
  rfl

theorem takeMg_sends {src : Endpoint} {tag : BitVec 15} {body : MgBody} {rest : List (Endpoint × BitVec 15 × MgBody)} {p : Nat}
    (h : s.mgQueue = (src, tag, body) :: rest) (hp : ({ s with mgQueue := rest } : State).exitPort (epDev src) (epLocal src) = some p) :
    s.takeMg = ({ s with mgQueue := rest } : State).sendOn p (.mgStatus (BitVec.ofNat 5 p) src tag St.done) := by
  unfold State.takeMg
  rw [h]
  dsimp only
  rw [hp]

theorem takeMg_drops {src : Endpoint} {tag : BitVec 15} {body : MgBody} {rest : List (Endpoint × BitVec 15 × MgBody)}
    (h : s.mgQueue = (src, tag, body) :: rest) (hp : ({ s with mgQueue := rest } : State).exitPort (epDev src) (epLocal src) = none) :
    s.takeMg = { s with mgQueue := rest } := by
  unfold State.takeMg
  rw [h]
  dsimp only
  rw [hp]

theorem idleStepsPassTime : Claims.IdleStepsPassTime := by
  intro s hq u
  have hstep : step s = .next s.nanosecond.takeMg.showRecords.tallyLoad.goOn := step_idle hq
  have hu : u = s.nanosecond := rfl
  clear_value u
  subst hu
  have hkeeps := nanosecond_touches (s := s)
  have hmgq : s.mgQueue = s.nanosecond.mgQueue := hkeeps .mgQueue (by decide)
  refine ⟨fun p hp => ?_, hkeeps.keeps _ (by decide), ⟨_, hstep, ?_⟩, fun hrest hmg => ?_, fun src tag body rest hrest hmg => ?_⟩
  · exact fillBuckets_tokens (by decide) (List.mem_range.2 hp)
  · have htime : s.nanosecond.time = s.nanosecond.takeMg.showRecords.tallyLoad.goOn.time :=
      (by simp : Touches 75557863725914323419119 s.nanosecond s.nanosecond.takeMg.showRecords.tallyLoad.goOn) .time (by decide)
    have hclock : (s.nanosecond).time = s.time + 1 := by
      have hfill : Touches 256 { s with time := s.time + 1 } s.nanosecond := by simp [State.nanosecond]
      exact (hfill .time (by decide)).symm
    exact htime.symm.trans hclock
  · have hquiet : s.nanosecond.takeMg = s.nanosecond := by
      unfold State.takeMg
      rw [← hmgq, hmg]
    rw [hquiet, tallyLoad_goOn_atRest (nanosecond_atRest hrest)] at hstep
    refine ⟨_, hstep, tallyLoad_withUse, ?_, ?_, ?_, ?_⟩
    · show s.nanosecond.use.busy + s.nanosecond.coresRunning = _
      have huse : s.use = s.nanosecond.use := hkeeps .use (by decide)
      have hvoices : s.voices = s.nanosecond.voices := hkeeps .voices (by decide)
      unfold State.coresRunning
      rw [← huse, ← hvoices]
    · have hdrives : s.drives = s.nanosecond.drives := hkeeps .drives (by decide)
      have htags : s.tags = s.nanosecond.tags := hkeeps .tags (by decide)
      rw [tallyLoad_points]
      unfold State.memTxns State.tagsUsed
      rw [hdrives, htags]
    · have hnear : s.nanosecond.use.near = s.use.near := congrArg Usage.near (hkeeps .use (by decide)).symm
      exact hnear
    · have hdone : s.nanosecond.use.done = s.use.done := congrArg Usage.done (hkeeps .use (by decide)).symm
      exact hdone
  · intro w
    have hw : w.atRest := nanosecond_atRest hrest
    have hmsg : s.nanosecond.mgQueue = (src, tag, body) :: rest := hmgq.symm.trans hmg
    refine ⟨fun p hp => ?_, fun hp => ?_⟩
    · have hsend : (w.sendOn p (.mgStatus (BitVec.ofNat 5 p) src tag St.done)).atRest :=
        atRest_of_touches ((touches_sendOn (Nat.and_self _)).2 .rfl) (quiet_sendOn (quiet_of_atRest hw)) hw
      rw [hstep, takeMg_sends hmsg hp, tallyLoad_goOn_atRest hsend]
    · rw [hstep, takeMg_drops hmsg hp, tallyLoad_goOn_atRest hw]

end Sys2Proof.Machine

open Sys2Proof Sys2Proof.Machine

/-- Settles O53: what could go on in a nanosecond is listed in what is at rest, and nothing of it waits. -/
theorem stepsRunCommands : Obligations.StepsRunCommands := ⟨fun _ _ _ => rfl, idleStepsPassTime⟩

end

section
/-! PROOF. Model keys are installed and erased by their owner, and a key that goes takes its regions with it (R331, R332). -/

namespace Sys2Proof.Machine

variable {s t u : State}

theorem inSession_finished {i : Nat} {act : State → Spdm → State} {x : Spdm} (hx : s.spdm i = some x) (hf : x.finished = true)
    (hb : s.bindingUp x.binding = true) : s.inSession i act = act s x := by
  unfold State.inSession State.asked?
  rw [hx]
  dsimp only
  rw [if_pos hb, if_pos hf]

/-- KEY_INSTALL is answered with its status, and installs where that is DONE. -/
theorem keyInstall_finished {i : Nat} {p : List Byte} {x : Spdm} {st : Byte} (hx : s.spdm i = some x) (hf : x.finished = true)
    (hb : s.bindingUp x.binding = true) (hst : s.installStatus x p = st) : s.keyInstall i p =
      (if st = St.done then s.putKey (keyTenant p) (keySlot p)
        { key := BitVec.ofNat 256 (numAt p 8 32), pfx := BitVec.ofNat 32 (numAt p 4 4) } else s).sessionSay x 0xFE [1, st] [] := by
  subst hst
  exact inSession_finished hx hf hb

theorem keyDestroy_finished {i : Nat} {p : List Byte} {x : Spdm} {st : Byte} (hx : s.spdm i = some x) (hf : x.finished = true)
    (hb : s.bindingUp x.binding = true)
    (hst : (if keyBad 2 4 p then St.badDescriptor else if !s.keyOwner x (keyTenant p) then St.notOwner else St.done) = st) :
    s.keyDestroy i p = (if st = St.done then s.eraseKey (keyTenant p) (keySlot p) else s).sessionSay x 0xFE [2, st] [] := by
  subst hst
  exact inSession_finished hx hf hb

/-! ## Regions that stop being VALID -/

theorem glsRegionCtrl_inj {a b : Nat} (h : R.glsRegionCtrl a = R.glsRegionCtrl b) : a = b := by
  unfold R.glsRegionCtrl at h
  omega

theorem glsRegionCtrl_ne_kprMgen {r : Nat} : R.glsRegionCtrl r ≠ R.kprMgen := by
  unfold R.glsRegionCtrl R.kprMgen
  omega

/-- A region's register as its VALID bit is cleared, before the generation advances. -/
theorem regionClear_eq {r ten key : Nat} : ∃ x : State, x.regs = (s.setReg (R.glsRegionCtrl r) (BitVec.ofNat 64 (ten * 2 + key * 32))).regs ∧
    s.regionClear r ten key = if s.regionValid r then x.advanceMgen else x := by
  have hdrop : s.regs = (s.dropBlocks r).regs :=
    ((touches_dropBlocks (Nat.and_self _)).2 .rfl : Touches _ s (s.dropBlocks r)) .regs (by decide)
  refine ⟨_, ?_, rfl⟩
  show tput _ (s.dropBlocks r).regs _ _ = _
  rw [← hdrop]
  rfl

theorem reg_of_regs {o : Nat} (h : t.regs = s.regs) : t.reg o = s.reg o := by
  unfold State.reg
  rw [h]

theorem ctrl_regionClear {r ten key j : Nat} : (s.regionClear r ten key).reg (R.glsRegionCtrl j) =
    if j = r then BitVec.ofNat 64 (ten * 2 + key * 32) else s.reg (R.glsRegionCtrl j) := by
  obtain ⟨x, hx, he⟩ := regionClear_eq (s := s) (r := r) (ten := ten) (key := key)
  have hreg : (s.regionClear r ten key).reg (R.glsRegionCtrl j) = x.reg (R.glsRegionCtrl j) := by
    rw [he]
    split
    · exact reg_setReg_other glsRegionCtrl_ne_kprMgen
    · rfl
  rw [hreg, reg_of_regs hx]
  split
  · rename_i h
    rw [h, reg_setReg_same]
  · rename_i h
    exact reg_setReg_other fun hh => h (glsRegionCtrl_inj hh)

theorem mgen_regionClear {r ten key : Nat} : (s.regionClear r ten key).reg R.kprMgen =
    s.reg R.kprMgen + BitVec.ofNat 64 (if s.regionValid r then 1 else 0) := by
  obtain ⟨x, hx, he⟩ := regionClear_eq (s := s) (r := r) (ten := ten) (key := key)
  have hmgen : x.reg R.kprMgen = s.reg R.kprMgen := (reg_of_regs hx).trans (reg_setReg_other glsRegionCtrl_ne_kprMgen.symm)
  rw [he]
  split
  · exact reg_setReg_same.trans (by rw [hmgen]; rfl)
  · rw [hmgen]
    exact (BitVec.add_zero _).symm

theorem regionValid_regionClear {r ten key j : Nat} : (s.regionClear r ten key).regionValid j =
    if j = r then false else s.regionValid j := by
  unfold State.regionValid
  rw [ctrl_regionClear]
  split
  · have h : bit (BitVec.ofNat 64 (ten * 2 + key * 32)) 0 = false := by
      simp [bit]
      omega
    exact h
  · rfl

theorem ctrl_regionsClear {l : List Nat} {ten key j : Nat} (hj : j ∉ l) :
    (s.each l fun s r => s.regionClear r ten key).reg (R.glsRegionCtrl j) = s.reg (R.glsRegionCtrl j) := by
  induction l generalizing s with
  | nil => rfl
  | cons r l ih =>
    obtain ⟨hne, hl⟩ := not_or.1 (fun h => hj (List.mem_cons.2 h))
    exact (ih hl).trans (ctrl_regionClear.trans (if_neg hne))

theorem regionValid_regionsClear {l : List Nat} {ten key j : Nat} (hj : j ∈ l ∨ s.regionValid j = false) :
    (s.each l fun s r => s.regionClear r ten key).regionValid j = false := by
  induction l generalizing s with
  | nil => exact hj.resolve_left (by simp)
  | cons r l ih =>
    refine ih (s := s.regionClear r ten key) ?_
    rw [regionValid_regionClear]
    by_cases h : j = r
    · exact .inr (if_pos h)
    · rw [if_neg h]
      exact hj.imp_left fun hm => (List.mem_cons.1 hm).resolve_left h

/-- The generation advances once for each region that was VALID. -/
theorem mgen_regionsClear {l : List Nat} {ten : Nat} {key : State → Nat → Nat} (hl : l.Nodup) :
    (s.each l fun s r => s.regionClear r ten (key s r)).reg R.kprMgen = s.reg R.kprMgen + BitVec.ofNat 64 (l.filter s.regionValid).length := by
  induction l generalizing s with
  | nil => exact (BitVec.add_zero _).symm
  | cons r l ih =>
    obtain ⟨hr, hl⟩ := List.nodup_cons.1 hl
    have hsame : l.filter (s.regionClear r ten (key s r)).regionValid = l.filter s.regionValid :=
      List.filter_congr fun j hj => regionValid_regionClear.trans (if_neg fun h : j = r => hr (h ▸ hj))
    refine (ih hl).trans ?_
    rw [mgen_regionClear, hsame, BitVec.add_assoc, ← BitVec.ofNat_add]
    congr 2
    by_cases hv : s.regionValid r = true
    · rw [List.filter_cons_of_pos hv, if_pos hv, List.length_cons, Nat.add_comm]
    · rw [List.filter_cons_of_neg hv, if_neg hv, Nat.zero_add]

/-! ## Erasing a key -/

theorem boundRegions_nodup {ten : Nat} {k : Option Nat} : (s.boundRegions ten k).Nodup := List.nodup_range.filter _

/-- No region that a slot's key opened stays VALID once its regions are cleared. -/
theorem boundRegions_cleared {ten key r : Nat} (hr : r < 64)
    (hv : (s.each (s.boundRegions ten (some key)) fun s r => s.regionClear r ten key).regionValid r = true)
    (ht : (s.each (s.boundRegions ten (some key)) fun s r => s.regionClear r ten key).regionTenant r = ten) :
    (s.each (s.boundRegions ten (some key)) fun s r => s.regionClear r ten key).regionKey r ≠ key := by
  intro hk
  have hout : r ∉ s.boundRegions ten (some key) := fun hm => by
    rw [regionValid_regionsClear (.inl hm)] at hv
    exact Bool.false_ne_true hv
  have hctrl := ctrl_regionsClear (s := s) (ten := ten) (key := key) hout
  unfold State.regionValid at hv
  unfold State.regionTenant at ht
  unfold State.regionKey at hk
  rw [hctrl] at hv ht hk
  refine hout (List.mem_filter.2 ⟨List.mem_range.2 hr, ?_⟩)
  simp [State.regionValid, State.regionTenant, State.regionKey, hv, ht, hk]

theorem ldel_absent {α : Type} {t : Tbl α} {k : Nat} (h : lget t k = none) : ldel t k = t := by
  refine List.filter_eq_self.2 fun e he => ?_
  induction t with
  | nil => simp at he
  | cons b t ih =>
    obtain ⟨a, v⟩ := b
    unfold lget at h
    split at h
    · cases h
    · rename_i hne
      rcases List.mem_cons.1 he with rfl | hm
      · simpa using hne
      · exact ih h hm

/-- The regions of the slot stop first, then the key goes. -/
theorem eraseKey_eq {ten key : Nat} : ∃ x : State, x.custody = s.custody ∧
    (x = s.each (s.boundRegions ten (some key)) fun s r => s.regionClear r ten key) ∧
    s.eraseKey ten key = if ((s.part ten).key key).isSome then
      (x.updPart ten fun y => { y with keys := ldel y.keys key }).advanceMgen else x := by
  have hcust : (s.each (s.boundRegions ten (some key)) fun s r => s.regionClear r ten key).custody = s.custody :=
    each_custody fun _ _ => regionClear_custody
  refine ⟨_, hcust, rfl, ?_⟩
  unfold State.eraseKey
  dsimp only
  rw [part_of_custody hcust]

theorem eraseKey_part {ten key n : Nat} : (s.eraseKey ten key).part n =
    if n = ten then { s.part ten with keys := ldel (s.part ten).keys key } else s.part n := by
  obtain ⟨x, hcust, -, he⟩ := eraseKey_eq (s := s) (ten := ten) (key := key)
  rw [he]
  split
  · exact (part_of_custody advanceMgen_custody n).trans (part_updPart_of_custody hcust)
  · rename_i hnone
    rw [part_of_custody hcust]
    split
    · rename_i hn
      subst hn
      have habsent : ldel (s.part n).keys key = (s.part n).keys := ldel_absent (by simpa [Part.key] using hnone)
      rw [habsent]
    · rfl

theorem eraseKey_ctrl {ten key r : Nat} : (s.eraseKey ten key).reg (R.glsRegionCtrl r) =
    (s.each (s.boundRegions ten (some key)) fun s r => s.regionClear r ten key).reg (R.glsRegionCtrl r) := by
  obtain ⟨x, -, hx, he⟩ := eraseKey_eq (s := s) (ten := ten) (key := key)
  rw [he, ← hx]
  split
  · exact reg_setReg_other glsRegionCtrl_ne_kprMgen
  · rfl

theorem eraseKey_mgen {ten key : Nat} : (s.eraseKey ten key).reg R.kprMgen =
    s.reg R.kprMgen + BitVec.ofNat 64 (((s.boundRegions ten (some key)).filter s.regionValid).length +
      (if ((s.part ten).key key).isSome then 1 else 0)) := by
  obtain ⟨x, -, hx, he⟩ := eraseKey_eq (s := s) (ten := ten) (key := key)
  have hmgen : x.reg R.kprMgen = _ := hx ▸ mgen_regionsClear (key := fun _ _ => key) boundRegions_nodup
  rw [he, BitVec.ofNat_add, ← BitVec.add_assoc, ← hmgen]
  split
  · exact reg_setReg_same
  · exact (BitVec.add_zero _).symm

theorem eraseKey_regions {ten key r : Nat} (hr : r < 64) (hv : (s.eraseKey ten key).regionValid r = true)
    (ht : (s.eraseKey ten key).regionTenant r = ten) : (s.eraseKey ten key).regionKey r ≠ key := by
  unfold State.regionValid at hv
  unfold State.regionTenant at ht
  unfold State.regionKey
  rw [eraseKey_ctrl] at hv ht ⊢
  exact boundRegions_cleared hr hv ht

end Sys2Proof.Machine

open Sys2Proof Sys2Proof.Machine

/-- Settles O44: the status of either command is worked out first, and its effect follows it. -/
theorem modelKeysInstallAndErase : Obligations.ModelKeysInstallAndErase := by
  intro s session payload x hx hf hb t k bad fog stopped owner fresh key installs
  have hinstall {st : Byte} (hst : s.installStatus x payload = st) (hne : st ≠ St.done) : installs s st := by
    have he := keyInstall_finished hx hf hb hst
    rw [if_neg hne] at he
    exact next_congr he
  have hbad : bad → (keyBad 1 40 payload = true ∨ ((s.part (keyTenant payload)).key (keySlot payload)).isSome = true) :=
    Or.imp_right Option.isSome_iff_ne_none.2
  have hsound : ¬bad → ¬(keyBad 1 40 payload = true ∨ ((s.part (keyTenant payload)).key (keySlot payload)).isSome = true) :=
    mt (Or.imp_right Option.isSome_iff_ne_none.1)
  have hnot {b : Bool} (h : ¬b = true) : (!b) = true := by simpa using h
  have hyes {b : Bool} (h : b = true) : ¬(!b) = true := by simp [h]
  have hdestroy {st : Byte} (hst : (if keyBad 2 4 payload then St.badDescriptor else if !s.keyOwner x (keyTenant payload) then St.notOwner
      else St.done) = st) (hne : st ≠ St.done) : exec (.keyDestroy session payload) s =
      .next (s.spdmSay x.binding 6 (Config.spdmBody 0xFE [2, st] [])) := by
    have he := keyDestroy_finished hx hf hb hst
    rw [if_neg hne] at he
    exact next_congr he
  refine ⟨fun h => hinstall (if_pos (hbad h)) (by decide), fun h hg => hinstall ((if_neg (hsound h)).trans (if_pos hg)) (by decide),
    fun h hg hs => hinstall ((if_neg (hsound h)).trans ((if_neg hg).trans (if_pos hs))) (by decide),
    fun h hg hs ho => hinstall ((if_neg (hsound h)).trans ((if_neg hg).trans ((if_neg hs).trans (if_pos (hnot ho))))) (by decide),
    fun h hg hs ho hr => hinstall ((if_neg (hsound h)).trans ((if_neg hg).trans ((if_neg hs).trans ((if_neg (hyes ho)).trans
      (if_pos (hnot hr)))))) (by decide),
    fun h hg hs ho hr => ?_, fun h => hdestroy (if_pos h) (by decide),
    fun h ho => hdestroy ((if_neg (by rw [h]; decide)).trans (if_pos (hnot ho))) (by decide), fun h ho => ?_⟩
  · have he := keyInstall_finished hx hf hb ((if_neg (hsound h)).trans ((if_neg hg).trans ((if_neg hs).trans ((if_neg (hyes ho)).trans
      (if_neg (hyes hr))))))
    rw [if_pos rfl] at he
    exact next_congr he
  · have he := keyDestroy_finished hx hf hb ((if_neg (by rw [h]; decide)).trans (if_neg (hyes ho)))
    rw [if_pos rfl] at he
    refine ⟨s.eraseKey t k, next_congr he, ?_, fun j hj => ?_, fun v hv => ?_, fun r hr hv ht => eraseKey_regions hr hv ht, eraseKey_mgen,
      ((touches_eraseKey (Nat.and_self _)).2 .rfl : Touches _ s (s.eraseKey t k)).keeps _ (by decide)⟩
    · rw [eraseKey_part, if_pos rfl]
      exact lget_ldel_same
    · rw [eraseKey_part, if_pos rfl]
      exact lget_ldel_other hj
    · rw [eraseKey_part, if_neg hv]

end

section
/-! PROOF. Errors pend, are promoted or queued, and are acknowledged and injected (R343 to R349, R359). -/

namespace Sys2Proof.Machine

variable {s t u : State}

/-! ## What a record leaves of RAS -/

theorem ras_of_touches {m : Nat} (h : Touches m s t) (hm : m.testBit 66 = false := by decide) : t.ras = s.ras := (h .ras hm).symm

theorem ras_count32 {off n : Nat} : (s.count32 off n).ras = s.ras := rfl

/-- The log holds a record on die, in memory, or nowhere. -/
theorem ras_logRecord {l : Line} : ∃ held, (s.logRecord l).ras = { s.ras with buffer := held } := by
  unfold State.logRecord
  dsimp only
  split
  · split
    · exact ⟨_, rfl⟩
    · exact ⟨_, rfl⟩
  · split
    · exact ⟨_, rfl⟩
    · refine ⟨s.ras.buffer, ras_of_touches (m := 4123168604288) ?_⟩
      simp

/-- Is an error promoted, joined to the queue, or dropped, where one pends already (R348, R349)? -/
def Ras.promotes (r : Ras) (e : ErrRec) : Bool := match r.pending with
  | some p => decide (3 ≤ e.severity ∧ p.severity ≤ e.severity)
  | none => false

/-- RAS as job halt starts, where an error is job-fatal or is promoted to that. -/
def Ras.halted (r : Ras) (e : ErrRec) : Ras :=
  if (if r.promotes e ∧ e.severity < 5 then 4 else e.severity) = 4 then { r with jobHalt := true } else r

/-- What an error of contained severity or above makes pending. -/
def Ras.pends (r : Ras) (seq : BitVec 32) (e : ErrRec) : Ras :=
  match r.pending with
  | none => { r.halted e with pending := some { seq, severity := e.severity } }
  | some p =>
    if r.promotes e then { r.halted e with pending := some { p with severity := if e.severity = 5 ∨ p.severity = 5 then 5 else 4 } }
    else if r.queue.length < 8 then { r.halted e with queue := r.queue ++ [{ seq, severity := e.severity }] } else r.halted e

/-- RAS once an error has taken its SEQ and its record has gone to the log. -/
def Ras.logged (r : Ras) (held : List Line) : Ras := { r with seq := r.seq + 1, buffer := held }

theorem halted_queue {r : Ras} {e : ErrRec} : (r.halted e).queue = r.queue := by
  unfold Ras.halted
  by_cases h : (if r.promotes e ∧ e.severity < 5 then 4 else e.severity) = 4
  · rw [if_pos h]
  · rw [if_neg h]

theorem recordOne_ras (e : ErrRec) : ∃ held, (s.recordOne e).ras =
    if e.severity < 3 then s.ras.logged held else (s.ras.logged held).pends s.ras.seq e := by
  unfold State.recordOne
  extract_lets seq pend promoted lower queued overran ref line ras a b c d sev ras' f g
  obtain ⟨held, hlog⟩ : ∃ held, c.ras = { b.ras with buffer := held } := ras_logRecord
  have hc : c.ras = s.ras.logged held := hlog
  have hf : f.ras = if sev = 4 then { c.ras with jobHalt := true } else c.ras := by
    show State.ras (if sev = 4 then _ else _) = _
    split
    · rfl
    · rfl
  have hg : g.ras = f.ras := by
    show State.ras (if overran = true then _ else _) = _
    split
    · rfl
    · rfl
  refine ⟨held, ?_⟩
  by_cases hlow : e.severity < 3
  · rw [if_pos hlow, if_pos hlow]
    exact hc
  · have hsev : 3 ≤ e.severity := Nat.le_of_not_lt hlow
    have hpromoted : promoted = (s.ras.logged held).promotes e := rfl
    have hqueued {p : Err} (hp : pend = some p) : queued = (!promoted && decide (s.ras.queue.length < 8)) := by
      show (pend.isSome && _ && _ && _) = _
      rw [hp]
      simp [hsev]
    have hjob : g.ras = (s.ras.logged held).halted e := by
      rw [hg, hf, hc]
      rfl
    have hpend : (s.ras.logged held).pending = pend := rfl
    rw [if_neg hlow, if_neg hlow]
    unfold Ras.pends
    rw [hpend, ← hpromoted, ← hjob]
    clear_value g queued promoted pend
    have hvec {x : State} {off : Nat} : (x.vectorH0 off).ras = x.ras := ras_of_touches ((touches_vectorH0 (Nat.and_self _)).2 .rfl)
    cases pend with
    | none => exact hvec
    | some p =>
      dsimp only
      rw [hqueued rfl]
      cases promoted with
      | true => rfl
      | false =>
        rw [if_neg Bool.false_ne_true, if_neg Bool.false_ne_true]
        have hq : g.ras.queue = s.ras.queue := by rw [hjob, halted_queue]; rfl
        by_cases hlen : s.ras.queue.length < 8
        · have hlen' : (s.ras.logged held).queue.length < 8 := hlen
          rw [if_pos (by simpa using hlen), if_pos hlen']
          show ({ g.ras with queue := g.ras.queue ++ _ } : Ras) = _
          rw [hq]
          rfl
        · have hlen' : ¬(s.ras.logged held).queue.length < 8 := hlen
          rw [if_neg (by simpa using hlen), if_neg hlen']

/-! ## What pends, by severity -/

theorem pends_jobHalt {r : Ras} {seq : BitVec 32} {e : ErrRec} : (r.pends seq e).jobHalt = (r.halted e).jobHalt := by
  unfold Ras.pends
  split
  · rfl
  · split
    · rfl
    · split
      · rfl
      · rfl

theorem halted_seq {r : Ras} {e : ErrRec} : (r.halted e).seq = r.seq := by
  unfold Ras.halted
  by_cases h : (if r.promotes e ∧ e.severity < 5 then 4 else e.severity) = 4
  · rw [if_pos h]
  · rw [if_neg h]

theorem halted_pending {r : Ras} {e : ErrRec} : (r.halted e).pending = r.pending := by
  unfold Ras.halted
  by_cases h : (if r.promotes e ∧ e.severity < 5 then 4 else e.severity) = 4
  · rw [if_pos h]
  · rw [if_neg h]

theorem pends_seq {r : Ras} {seq : BitVec 32} {e : ErrRec} : (r.pends seq e).seq = r.seq := by
  refine Eq.trans ?_ (halted_seq (e := e))
  unfold Ras.pends
  split
  · rfl
  · split
    · rfl
    · split
      · rfl
      · rfl

theorem halted_of_fatal {r : Ras} {e : ErrRec} (h : e.severity = 4 ∨ (r.promotes e = true ∧ e.severity < 5)) :
    (r.halted e).jobHalt = true := by
  unfold Ras.halted
  rw [if_pos]
  by_cases hp : r.promotes e = true ∧ e.severity < 5
  · exact if_pos hp
  · exact (if_neg hp).trans (h.resolve_right hp)

theorem halted_of_deviceFatal {r : Ras} {e : ErrRec} (h : e.severity = 5) : (r.halted e).jobHalt = r.jobHalt := by
  unfold Ras.halted
  rw [if_neg]
  rw [h]
  simp

theorem pends_none {r : Ras} {seq : BitVec 32} {e : ErrRec} (h : r.pending = none) :
    (r.pends seq e).pending = some { seq, severity := e.severity } ∧ (r.pends seq e).queue = r.queue := by
  unfold Ras.pends
  rw [h]
  exact ⟨rfl, halted_queue⟩

theorem promotes_some {r : Ras} {e : ErrRec} {p : Err} (h : r.pending = some p) (hs : 3 ≤ e.severity) :
    r.promotes e = decide (p.severity ≤ e.severity) := by
  unfold Ras.promotes
  rw [h]
  simp [hs]

theorem pends_promoted {r : Ras} {seq : BitVec 32} {e : ErrRec} {p : Err} (h : r.pending = some p) (hp : r.promotes e = true) :
    (r.pends seq e).pending = some { p with severity := if e.severity = 5 ∨ p.severity = 5 then 5 else 4 } ∧
      (r.pends seq e).queue = r.queue := by
  unfold Ras.pends
  rw [h]
  dsimp only
  rw [if_pos hp]
  exact ⟨rfl, halted_queue⟩

theorem pends_queued {r : Ras} {seq : BitVec 32} {e : ErrRec} {p : Err} (h : r.pending = some p) (hp : r.promotes e = false) :
    (r.pends seq e).pending = some p ∧
      (r.pends seq e).queue = if r.queue.length < 8 then r.queue ++ [{ seq, severity := e.severity }] else r.queue := by
  unfold Ras.pends
  rw [h]
  dsimp only
  rw [if_neg (by rw [hp]; decide)]
  split
  · exact ⟨halted_pending.trans h, rfl⟩
  · exact ⟨halted_pending.trans h, halted_queue⟩

end Sys2Proof.Machine

open Sys2Proof Sys2Proof.Machine

theorem recordsPend (s : State) (e : ErrRec) : let t := s.recordOne e
    t.ras.seq = s.ras.seq + 1 ∧ KeepsBut [.out, .regs, .ports, .pool, .poison, .lineKey, .granules, .ras] s t ∧
    (e.severity < 3 → t.ras.pending = s.ras.pending ∧ t.ras.queue = s.ras.queue ∧ t.ras.jobHalt = s.ras.jobHalt) ∧
    (e.severity = 4 → t.ras.jobHalt = true) ∧ (e.severity = 5 → t.ras.jobHalt = s.ras.jobHalt) ∧
    (3 ≤ e.severity → s.ras.pending = none →
      t.ras.pending = some { seq := s.ras.seq, severity := e.severity } ∧ t.ras.queue = s.ras.queue) ∧
    (∀ p, 3 ≤ e.severity → s.ras.pending = some p → p.severity ≤ e.severity → (e.severity < 5 → t.ras.jobHalt = true) ∧ t.ras.queue = s.ras.queue ∧
      t.ras.pending = some { seq := p.seq, severity := if e.severity = 5 ∨ p.severity = 5 then 5 else 4 }) ∧
    (∀ p, 3 ≤ e.severity → s.ras.pending = some p → e.severity < p.severity → t.ras.pending = some p ∧
      t.ras.queue = if s.ras.queue.length < 8 then s.ras.queue ++ [{ seq := s.ras.seq, severity := e.severity }] else s.ras.queue) := by
  intro t
  have hkeeps : KeepsBut [.out, .regs, .ports, .pool, .poison, .lineKey, .granules, .ras] s t :=
    ((touches_recordOne (Nat.and_self _)).2 .rfl : Touches _ s (s.recordOne e)).keeps _ (by decide)
  obtain ⟨held, ht⟩ : ∃ held, t.ras = _ := recordOne_ras e
  generalize hr : s.ras.logged held = r at ht
  have hseq : r.seq = s.ras.seq + 1 := hr ▸ rfl
  have hpending : r.pending = s.ras.pending := hr ▸ rfl
  have hqueue : r.queue = s.ras.queue := hr ▸ rfl
  have hjob : r.jobHalt = s.ras.jobHalt := hr ▸ rfl
  have hhigh (h : 3 ≤ e.severity) : t.ras = r.pends s.ras.seq e := ht.trans (if_neg (Nat.not_lt.2 h))
  rw [← hpending, ← hqueue, ← hjob, ← hseq]
  refine ⟨?_, hkeeps, fun h => ?_, fun h => ?_, fun h => ?_, fun h hp => ?_, fun p h hp hle => ?_, fun p h hp hlt => ?_⟩
  · rw [ht]
    split
    · rfl
    · exact pends_seq
  · rw [ht, if_pos h]
    exact ⟨rfl, rfl, rfl⟩
  · rw [hhigh (by omega), pends_jobHalt]
    exact halted_of_fatal (.inl h)
  · rw [hhigh (by omega), pends_jobHalt]
    exact halted_of_deviceFatal h
  · rw [hhigh h]
    exact pends_none hp
  · have hpro : r.promotes e = true := (promotes_some hp h).trans (decide_eq_true hle)
    obtain ⟨hpend, hq⟩ := pends_promoted (seq := s.ras.seq) hp hpro
    rw [hhigh h, pends_jobHalt]
    exact ⟨fun h5 => halted_of_fatal (.inr ⟨hpro, h5⟩), hq, hpend⟩
  · have hpro : r.promotes e = false := (promotes_some hp h).trans (decide_eq_false (Nat.not_le.2 hlt))
    rw [hhigh h]
    exact pends_queued hp hpro

/-- Settles O45: a record's effect on what pends is a function of RAS alone, and the registers act on it through an open port. -/
theorem errorsPendAndQueue : Obligations.ErrorsPendAndQueue := by
  refine ⟨recordsPend, fun s port ho hc => ?_⟩
  intro p
  have hctl (t : Nat) (h : (some 0 : Option Nat) = some t) : s.controls p t = true := Option.some.inj h ▸ hc
  have hack {seq : BitVec 32} : exec (.rasAck port seq) s = .next (s.ack p seq) := next_congr (setupWrite_open ho hctl)
  have hinject {w : BitVec 32} : exec (.rasInject port w) s = .next (s.inject p w) := next_congr (setupWrite_open ho hctl)
  refine ⟨fun seq h => ?_, fun e he hq => ?_, fun e f rest he hq => ?_, fun value => ?_, fun value => next_congr (setupWrite_open ho hctl)⟩
  · rw [hack]
    unfold State.ack
    split
    · rfl
    · rename_i e he
      rw [if_pos (h e he)]
  · rw [hack]
    unfold State.ack
    rw [he, hq]
    simp
  · rw [hack]
    unfold State.ack
    rw [he, hq]
    simp
  · intro cls sev sound
    rw [hinject]
    unfold State.inject
    refine ⟨fun h => ?_, fun h => ?_⟩
    · have hs : ¬(sev < 2 ∨ 4 < sev ∨ cls = 0 ∨ 9 < cls) := by
        have hsound : 2 ≤ sev ∧ sev ≤ 4 ∧ 1 ≤ cls ∧ cls ≤ 9 := h
        omega
      exact next_congr (if_neg hs)
    · have hs : sev < 2 ∨ 4 < sev ∨ cls = 0 ∨ 9 < cls := by
        have hno : ¬(2 ≤ sev ∧ sev ≤ 4 ∧ 1 ≤ cls ∧ cls ≤ 9) := h
        omega
      exact next_congr (if_pos hs)

end

section
/-! PROOF. Job reset empties the device of work, and Fog mode drops what is in progress (R340, R353 to R355). -/

namespace Sys2Proof.Machine

variable {s t u : State}

theorem reg_lateLog_other {e : LateRec} {k : Nat} (hlost : k ≠ R.rotLogLost) (htail : k ≠ R.rotLogTail) :
    (s.lateLog e).reg k = s.reg k := by
  unfold State.lateLog
  dsimp only
  split
  · exact reg_count32_other hlost
  · exact (reg_setReg_other htail).trans reg_poolWrite

theorem setAlign_rot {a : Align} {p : Nat} : (s.setAlign a p).rot = { s.rot with align := a } := by
  unfold State.setAlign
  split
  · rename_i h
    rw [← h]
  · have hlog {u : State} {e : LateRec} : ((u.lateLog e).count R.rotAlignTotal).rot = u.rot := by
      have h : Touches 4123168604288 u ((u.lateLog e).count R.rotAlignTotal) := by simp
      exact (h .rot (by decide)).symm
    exact hlog

theorem reg_setAlign_other {a : Align} {p k : Nat} (hlost : k ≠ R.rotLogLost) (htail : k ≠ R.rotLogTail) (htotal : k ≠ R.rotAlignTotal) :
    (s.setAlign a p).reg k = s.reg k := by
  unfold State.setAlign
  split
  · rfl
  · exact (reg_count_other htotal).trans (reg_lateLog_other hlost htail)

theorem bit_setFld_zero {w : Word} : bit (setFld w 0 1 0) 0 = false := by
  have h := w.isLt
  simp only [bit, setFld, fld, BitVec.toNat_ofNat, Nat.pow_zero, Nat.div_one, Nat.pow_one, Nat.mul_one, Nat.zero_mod, Nat.add_zero,
    beq_eq_false_iff_ne, ne_eq]
  omega

theorem rotationStops_run : bit (s.rotationStops.reg R.rotCtrl) 0 = false := by
  have h : s.rotationStops.reg R.rotCtrl = setFld (s.reg R.rotCtrl) 0 1 0 :=
    (reg_setAlign_other (by decide) (by decide) (by decide)).trans reg_setReg_same
  rw [h]
  exact bit_setFld_zero

theorem rotationStops_rot : s.rotationStops.rot.phase = .idle ∧ s.rotationStops.rot.snapshot = [] ∧ s.rotationStops.rot.sentence = none := by
  refine ⟨?_, rfl, rfl⟩
  show (State.setAlign _ .halted 0).rot.phase = .idle
  rw [setAlign_rot]
  rfl

theorem rotationStops_touches : Touches 4123168608384 s s.rotationStops := (touches_rotationStops (Nat.and_self _)).2 .rfl

/-- What a job reset empties, once nothing is in progress. -/
def State.resetEmptied (s : State) : State :=
  { s with
    abuf := [], pads := [], carries := [], amms := [], tlb := [], walkCache := []
    walks := s.walks.map fun e => (e.1, { e.2 with drops := [(0, dvaTop)] })
    steps := []
    ras := { s.ras with
      pending := none, queue := [], jobHalt := false, haltNow := false, resetBusy := false, resetDone := true
      fences := s.ras.fences.map fun (f : FenceSt) => { f with afterReset := true } } }

/-- The rotation goes on by the last beacon's number, where it lagged behind. -/
def State.renumbered (s : State) : State := if s.rot.behind then s.setReg R.rotNumber s.rot.lastBeacon else s

/-- A job reset once nothing is in progress: what is left of accesses ends, everything is emptied, and the rotation stops. -/
def State.resetDone (s : State) : State :=
  ((s.settleAccesses.purge).each s.voices fun s e => s.setVoice e.1 (s.voice e.1).cleared).resetEmptied.renumbered.rotationStops.updRot
    fun r => { r with behind := false }

theorem resetEnds_eq (hb : s.ras.resetBusy = true) (hw : s.ras.resetWaits = false) : s.resetEnds =
    if (s.stopRings.each s.stopRings.openRings State.settle).anyBusy then s.stopRings.each s.stopRings.openRings State.settle
    else (s.stopRings.each s.stopRings.openRings State.settle).resetDone := by
  unfold State.resetEnds
  rw [if_neg (by simp [hb, hw])]
  rfl

/-- What is emptied is empty at the end too. -/
theorem resetDone_touches : ∃ x : State, Touches 4123168608384 x.resetEmptied s.resetDone :=
  ⟨_, by
    unfold State.resetDone State.renumbered
    refine (touches_updRot (by decide)).2 ((touches_rotationStops (by decide)).2 ?_)
    split
    · exact (touches_setReg (by decide)).2 .rfl
    · exact .rfl⟩

theorem resetDone_rotation : s.resetDone.rot.phase = .idle ∧ s.resetDone.rot.snapshot = [] ∧ s.resetDone.rot.sentence = none ∧
    bit (s.resetDone.reg R.rotCtrl) 0 = false := by
  unfold State.resetDone
  generalize State.renumbered _ = x
  obtain ⟨hphase, hsnapshot, hsentence⟩ := rotationStops_rot (s := x)
  exact ⟨hphase, hsnapshot, hsentence, rotationStops_run (s := x)⟩

theorem resetEmptied_walks {w : Nat × Walk} (h : w ∈ s.resetEmptied.walks) : w.2.drops = [(0, 2 ^ 57)] := by
  obtain ⟨e, -, rfl⟩ := List.mem_map.1 h
  rfl

theorem resetEmptied_fences {f : FenceSt} (h : f ∈ s.resetEmptied.ras.fences) : f.afterReset = true := by
  obtain ⟨e, -, rfl⟩ := List.mem_map.1 h
  rfl

/-- What the gallery domains hold is lost (R353 step 3). -/
def State.domainsLost (s : State) : State :=
  { s with
    voices := [], pads := [], carries := [], amms := [], gcache := [], abuf := [], tlb := [], walkCache := [], walks := []
    tags := tmap (fun _ => ReqTag.free) (fun _ t => t.orphan) s.tags }

/-- Granules keep only their current copies. -/
def State.granulesStill (s : State) : State := s.each s.granules fun s e => s.setGranule e.1 (s.granule e.1).still

/-- The record of a completed entry into Fog mode. -/
def State.entryRecorded (s : State) : State :=
  let s := s.record (ErrRec.plain 1 s.ras.fogCls s.ras.fogUnit 16)
  { s with ras := { s.ras with fogEntering := false } }

theorem entryRecorded_eq (h : t = s.record (ErrRec.plain 1 s.ras.fogCls s.ras.fogUnit 16)) :
    { t with ras := { t.ras with fogEntering := false } } = s.entryRecorded := by
  subst h
  rfl

theorem fogEntered_eq (hf : s.ras.fog = true) (he : s.ras.fogEntering = true) : s.fogEntered =
    (s.settleAccesses.each (List.range 32) State.abufFlush).runNet.purge.domainsLost.granulesStill.repostWaits.runNet.entryRecorded := by
  have hentering : ¬((!s.ras.fog) = true ∨ (!s.ras.fogEntering) = true) := by simp [hf, he]
  unfold State.fogEntered State.entryRecorded State.granulesStill State.domainsLost
  rw [if_neg hentering]

end Sys2Proof.Machine

open Sys2Proof Sys2Proof.Machine

/-- Settles O46: either command acts through an open port, and what its end empties stays empty while the rotation stops. -/
theorem jobResetAndFogRun : Obligations.JobResetAndFogRun := by
  refine ⟨fun s port ho hc => ?_, fun s hb hw => ?_, fun s hf he => ?_⟩
  · intro waits u
    have hctl (t : Nat) (h : (some 0 : Option Nat) = some t) : s.controls port.toNat t = true := Option.some.inj h ▸ hc
    have hjob : exec (.jobReset port) s = .next (s.jobReset port.toNat) := next_congr (setupWrite_open ho hctl)
    have hfog : exec (.fog port) s = .next (s.fogEnter 7 port.toNat) := next_congr (setupWrite_open ho hctl)
    refine ⟨fun h => hjob.trans (next_congr (if_pos h)), fun h hwait => hjob.trans (next_congr ((if_neg (by simp [h])).trans (if_pos hwait))),
      fun h hwait => hjob.trans (next_congr ((if_neg (by simp [h])).trans (if_neg (by rw [show ((List.range 16).any fun t => (s.part t).switching) = false from hwait]; decide)))), ?_⟩
    intro v w
    obtain ⟨hon, -, -, -, hnofog⟩ := ho
    have hawake : ¬(s.ras.fog = true ∨ s.pwr.state = .off ∨ s.pwr.state = .boot) := by simp [hon, hnofog]
    have hup : ¬s.asleep = true := by simp [State.asleep, hon]
    refine hfog.trans (next_congr ?_)
    unfold State.fogEnter
    rw [if_neg hawake, if_neg hup]
    rfl
  · intro r
    have hexec : exec .jobResetComplete s = .next s.resetEnds := rfl
    rw [hexec, resetEnds_eq hb hw]
    refine ⟨fun h => next_congr (if_pos h), fun h => ⟨r.resetDone, next_congr (if_neg fun hb => Bool.false_ne_true (h.symm.trans hb)), ?_⟩⟩
    obtain ⟨x, hx⟩ := resetDone_touches (s := r)
    obtain ⟨hphase, hsnapshot, hsentence, hrun⟩ := resetDone_rotation (s := r)
    generalize r.resetDone = t at hx hphase hsnapshot hsentence hrun
    have hras : t.ras = x.resetEmptied.ras := ras_of_touches hx
    have habuf : [] = t.abuf := hx .abuf (by decide)
    have hpads : [] = t.pads := hx .pads (by decide)
    have hcarries : [] = t.carries := hx .carries (by decide)
    have hamms : [] = t.amms := hx .amms (by decide)
    have htlb : [] = t.tlb := hx .tlb (by decide)
    have hwalkCache : [] = t.walkCache := hx .walkCache (by decide)
    have hsteps : [] = t.steps := hx .steps (by decide)
    have hwalks : x.resetEmptied.walks = t.walks := hx .walks (by decide)
    rw [hras, ← hwalks]
    exact ⟨rfl, rfl, rfl, rfl, rfl, rfl, fun f hf => resetEmptied_fences hf, habuf.symm, hpads.symm, hcarries.symm, hamms.symm,
      htlb.symm, hwalkCache.symm, hsteps.symm, fun w hw => resetEmptied_walks hw, hphase, hsnapshot, hsentence, hrun⟩
  · intro u v w x
    have hexec : exec .fogEntryComplete s = .next s.fogEntered := rfl
    have hv : v = u.domainsLost := rfl
    have hw : w = v.granulesStill.repostWaits.runNet := rfl
    have hx : { x with ras := { x.ras with fogEntering := false } } = w.entryRecorded := entryRecorded_eq rfl
    rw [hx, hw, hv, hexec, fogEntered_eq hf he]
    rfl

end

section
/-! PROOF. Units that differ are fenced, recovered or lost; a RELIEF is refused or begins (R350 to R352, R356). -/

namespace Sys2Proof.Machine

variable {s t u : State}

/-! ## Fencing a unit (R350) -/

theorem fenceBit_touches {cls unit : Nat} {b : Bool} : Touches 128 s (s.fenceBit cls unit b) := (touches_fenceBit (Nat.and_self _)).2 .rfl

/-- An advisory record takes a SEQ and leaves what pends, is fenced or is absent. -/
theorem record_corrected_ras {e : ErrRec} (h : e.severity = 1) : ∃ held, (s.record e).ras = s.ras.logged held := by
  obtain ⟨held, hr⟩ := recordOne_ras (s := s) e
  have hwindow : s.record e = s.recordOne e := by
    unfold State.record State.window
    exact if_pos (by simp [h])
  exact ⟨held, (congrArg State.ras hwindow).trans (hr.trans (if_pos (by omega)))⟩

theorem fenceUnit_skips {cls unit : Nat} (h : s.fenced cls unit = true ∨ s.unitExists cls unit = false ∨ s.unitLost cls unit = true) :
    s.fenceUnit cls unit = s := by
  unfold State.fenceUnit
  rw [if_pos]
  simpa using h

theorem fenceUnit_eq {cls unit : Nat} (hf : s.fenced cls unit = false) (he : s.unitExists cls unit = true)
    (hl : s.unitLost cls unit = false) : ∃ x : State, x.ras = { s.ras with fences := s.ras.fences ++ [{ cls, unit, late := false, afterReset := false }] } ∧
    s.fenceUnit cls unit = (x.record (ErrRec.plain 1 cls unit 7)).emit (.pldmEvent s.ras.seq) := by
  refine ⟨({ s with ras := { s.ras with fences := s.ras.fences ++ [{ cls, unit, late := false, afterReset := false }] } } : State).fenceBit
    cls unit true, ras_of_touches fenceBit_touches, ?_⟩
  unfold State.fenceUnit
  rw [if_neg (by simp [hf, he, hl])]

theorem fenceUnit_fences {cls unit : Nat} (hf : s.fenced cls unit = false) (he : s.unitExists cls unit = true)
    (hl : s.unitLost cls unit = false) : (s.fenceUnit cls unit).fenced cls unit = true ∧
      (s.fenceUnit cls unit).ras.seq = s.ras.seq + 1 ∧ (s.fenceUnit cls unit).out.getLast? = some (.pldmEvent s.ras.seq) := by
  obtain ⟨x, hx, heq⟩ := fenceUnit_eq hf he hl
  obtain ⟨held, hrec⟩ : ∃ held, (x.record (ErrRec.plain 1 cls unit 7)).ras = x.ras.logged held := record_corrected_ras rfl
  have hras : (s.fenceUnit cls unit).ras = x.ras.logged held := by
    rw [heq]
    exact hrec
  unfold State.fenced
  rw [hras, heq, hx]
  refine ⟨?_, rfl, ?_⟩
  · simp [Ras.logged]
  · simp [State.emit]

/-! ## Units that are fenced (R350, R351) -/

theorem compareFenced_differs {f : FenceSt} {d : List (Nat × Nat)} (h : d.contains (f.cls, f.unit) = true) :
    s.compareFenced d f = if f.afterReset then State.unitGone { s with ras := { s.ras with
      fences := dropIf (fun (g : FenceSt) => g.cls == f.cls && g.unit == f.unit) s.ras.fences } } f.cls f.unit else s := by
  unfold State.compareFenced
  exact if_pos h

theorem compareFenced_agrees {f : FenceSt} {d : List (Nat × Nat)} (h : d.contains (f.cls, f.unit) = false) :
    s.compareFenced d f = if f.late ∧ !f.afterReset then s else State.fenceLifted { s with ras := { s.ras with
      fences := dropIf (fun (g : FenceSt) => g.cls == f.cls && g.unit == f.unit) s.ras.fences } } f.cls f.unit := by
  unfold State.compareFenced
  exact if_neg (by rw [h]; decide)

/-! ## A fence that still differs (R352) -/

/-- What waited for a fenced unit is given up, by the unit's class. -/
def State.fenceGivesUp (s : State) (cls unit : Nat) : State :=
  let s := if cls = 7 then
      let l := (s.port unit).waiting
      (s.updPort unit fun p => { p with waiting := [], counted := 0 }).each l fun s w => s.timeHost unit w
    else s
  let s := if cls = 6 then
      s.dropQueue unit
    else s
  let s := if cls = 5 then
      s.each (s.granules.filter fun e => e.2.fill.isSome && e.2.waits && s.driveOf e.1 == some unit) fun s e => s.timeFill e.1
    else s
  if cls = 2 then
      s.each (s.voices.filter fun e => galleryOf e.1 == unit) fun s e =>
        s.each e.2.out fun s a => s.endAccess e.1 a St.timeout
    else s

/-- Requests that waited 2 ms at this home for a fenced unit complete TIMEOUT, and transfers that need it end. -/
def State.fenceTimesOut (s : State) (cls unit : Nat) : State :=
  (s.each s.homeWaits fun s e =>
    let (gone, kept) := e.2.partition (s.waitNeeds cls unit)
    (s.setWaits e.1 kept).each gone State.timeWait).timeTransfers cls unit

/-- The fence as it is kept until a job reset. -/
def State.fenceKept (s : State) (cls unit : Nat) : State :=
  { s with ras := { s.ras with
    fences := mapIf (fun (g : FenceSt) => g.cls == cls && g.unit == unit) (fun (f : FenceSt) => { f with late := true }) s.ras.fences } }

theorem fenceLate_skips {cls unit : Nat} {f : FenceSt} (h : (s.ras.fences.find? fun f => f.cls == cls && f.unit == unit) = some f)
    (hf : f.late = true ∨ f.afterReset = true) : s.fenceLate cls unit = s := by
  unfold State.fenceLate
  rw [h]
  exact if_pos hf

theorem fenceLate_eq {cls unit : Nat} {f : FenceSt} (h : (s.ras.fences.find? fun f => f.cls == cls && f.unit == unit) = some f)
    (hl : f.late = false) (ha : f.afterReset = false) : s.fenceLate cls unit =
      ((((s.fenceKept cls unit).record { ErrRec.plain 4 cls unit 7 with status := St.timeout }).fenceTimesOut cls unit).fenceGivesUp cls
        unit).runNet.itemsEnd := by
  unfold State.fenceLate
  rw [h]
  dsimp only
  rw [if_neg (by simp [hl, ha])]
  unfold State.fenceGivesUp State.fenceTimesOut State.fenceKept
  rfl

theorem fenceGivesUp_eq {cls unit : Nat} : s.fenceGivesUp cls unit =
    if cls = 7 then (s.port unit).waiting.foldl (fun s q => s.timeHost unit q) (s.updPort unit fun p => { p with waiting := [], counted := 0 })
    else if cls = 6 then s.dropQueue unit
    else if cls = 5 then (s.granules.filter fun e => e.2.fill.isSome && e.2.waits && s.driveOf e.1 == some unit).foldl
      (fun s e => s.timeFill e.1) s
    else if cls = 2 then (s.voices.filter fun e => galleryOf e.1 == unit).foldl
      (fun s e => e.2.out.foldl (fun s a => s.endAccess e.1 a St.timeout) s) s
    else s := by
  unfold State.fenceGivesUp
  by_cases h7 : cls = 7
  · subst h7
    rfl
  by_cases h6 : cls = 6
  · subst h6
    rfl
  by_cases h5 : cls = 5
  · subst h5
    rfl
  simp only [if_neg h7, if_neg h6, if_neg h5]
  rfl

/-! ## RELIEF (R356) -/

theorem reliefStart_refused {r pos : Nat} {f : Flight} {c : Cpl} (hf : s.mayStart r pos .mgmt = some f) (hc : s.reliefCheck f.desc = some c) :
    s.reliefStart r pos = s.finish r pos c := by
  unfold State.reliefStart
  rw [hf]
  dsimp only
  rw [hc]

end Sys2Proof.Machine

open Sys2Proof Sys2Proof.Machine

/-- Settles O47: the comparison, each of its effects on a unit, and the reliefs, by the conditions of each. -/
theorem unitsAreFenced : Obligations.UnitsAreFenced := by
  refine ⟨fun s differ failed hb => ?_, fun s cls unit => ⟨fenceUnit_skips, fun hf he hl => ?_⟩, fun s f differ => ?_,
    fun s cls unit f => ?_, fun s hb hd => ?_, fun s ring pos f hf => ?_⟩
  · intro d u
    exact next_congr (if_neg (by simp [hb]))
  · obtain ⟨hfenced, hseq, hout⟩ := fenceUnit_fences hf he hl
    exact ⟨_, rfl, hfenced, hseq, hout, ((touches_fenceUnit (Nat.and_self _)).2 .rfl : Touches _ s (s.fenceUnit cls unit)).keeps _ (by decide)⟩
  · intro lifted
    exact ⟨fun h ha => (compareFenced_differs h).trans (if_neg (by rw [ha]; decide)), fun h ha => (compareFenced_differs h).trans (if_pos ha),
      fun h hl ha => (compareFenced_agrees h).trans (if_pos ⟨hl, by rw [ha]; rfl⟩),
      fun h hl => (compareFenced_agrees h).trans (if_neg fun hh => by simp_all)⟩
  · intro c n hf
    refine ⟨fun h => next_congr (fenceLate_skips hf h), fun hl ha => ?_⟩
    intro u v w
    have hexec : exec (.fenceTimeout cls unit) s = .next (s.fenceLate c n) := rfl
    have hw : (((s.fenceKept c n).record { ErrRec.plain 4 c n 7 with status := St.timeout }).fenceTimesOut c n) = w := rfl
    rw [hexec, fenceLate_eq hf hl ha, hw, fenceGivesUp_eq]
    rfl
  · intro units
    refine next_congr (if_neg ?_)
    simp [hb, Nat.not_lt.2 hd]
  · intro d
    refine ⟨fun c hc => next_congr (reliefStart_refused hf hc), fun hc => ?_, fun ht => if_pos ht, fun ht h1 h2 h3 h4 h5 => ?_⟩
    · intro u
      have hras : u.ras = s.ras := ras_of_touches ((touches_setStage (Nat.and_self _)).2 .rfl)
      refine next_congr ?_
      unfold State.reliefStart
      rw [hf, hras]
      dsimp only
      rw [hc]
    · unfold State.reliefCheck
      dsimp only
      rw [if_neg (by simpa using ht), if_neg (by omega), if_neg (by omega), if_neg h4, if_neg (by simp [h5])]

end

section
/-! PROOF. Dark is entered and left (R366 to R370, R378). -/

namespace Sys2Proof.Machine

variable {s t u : State}

/-! ## PWR_CMD through an open port -/

theorem pwrCommand_open {port op : Nat} {act : State → State} (h : s.openTo port) (hc : s.controls port 0 = true) :
    s.pwrCommand port op act = act s := by
  obtain ⟨hon, hthere, hup, hboot, -⟩ := h
  rw [pwrCommand_on hthere hup hon hboot, hc]
  rfl

/-! ## What one update of each of several links or ports leaves -/

theorem link_updLink_same {p : Nat} {f : SLink → SLink} : (s.updLink p f).link p = f (s.link p) :=
  tget_tput_same (t := s.links) fun _ => SLink.off

theorem link_updLink_other {p q : Nat} {f : SLink → SLink} (h : q ≠ p) : (s.updLink p f).link q = s.link q :=
  tget_tput_other (t := s.links) (fun _ => SLink.off) h

theorem link_updLinks {l : List Nat} {f : SLink → SLink} {q : Nat} (hl : l.Nodup) :
    (s.each l fun s p => s.updLink p f).link q = if q ∈ l then f (s.link q) else s.link q := by
  induction l generalizing s with
  | nil => simp [State.each]
  | cons p l ih =>
    obtain ⟨hp, hl⟩ := List.nodup_cons.1 hl
    refine (ih (s := s.updLink p f) hl).trans ?_
    by_cases hq : q = p
    · subst hq
      rw [if_neg hp, if_pos (by simp), link_updLink_same]
    · rw [link_updLink_other hq]
      simp [hq]

theorem port_updPorts {l : List Nat} {f : HostPort → HostPort} {q : Nat} (hl : l.Nodup) :
    (s.each l fun s p => s.updPort p f).port q = if q ∈ l then f (s.port q) else s.port q := by
  induction l generalizing s with
  | nil => simp [State.each]
  | cons p l ih =>
    obtain ⟨hp, hl⟩ := List.nodup_cons.1 hl
    refine (ih (s := s.updPort p f) hl).trans ?_
    by_cases hq : q = p
    · subst hq
      rw [if_neg hp, if_pos (by simp), port_updPort_same]
    · rw [port_updPort_other hq]
      simp [hq]

/-! ## The last step of an entry (R368) -/

/-- ACTIVE links are idle. -/
def State.linksIdle (s : State) : State :=
  s.each ((List.range 18).filter fun p => (s.link p).state == .active) fun s p => s.updLink p fun x => { x with state := .idle }

/-- Host links that are up are in L1. -/
def State.linksL1 (s : State) : State :=
  s.each ((List.range 4).filter fun p => (s.port p).link == .up) fun s p => s.updPort p fun x => { x with l1 := true }

theorem darkEntered_eq (h : s.pwr.state = .entering) (hq : s.quietNow = true) : s.darkEntered =
    (s.linksIdle.linksL1.updPwr fun p => { p with state := .dark }).count R.pwrDarkTotal := by
  unfold State.darkEntered
  rw [if_neg (by simp [h, hq])]
  rfl

theorem linksIdle_touches : Touches 9007199254740992 s s.linksIdle := by simp [State.linksIdle]

theorem linksL1_touches : Touches 256 s s.linksL1 := by simp [State.linksL1]

theorem link_linksIdle {n : Nat} : s.linksIdle.link n =
    if n < 18 ∧ (s.link n).state = .active then { s.link n with state := .idle } else s.link n := by
  refine (link_updLinks (List.nodup_range.filter _)).trans ?_
  simp

theorem port_linksL1 {n : Nat} : s.linksL1.port n = if n < 4 ∧ (s.port n).link = .up then { s.port n with l1 := true } else s.port n := by
  refine (port_updPorts (List.nodup_range.filter _)).trans ?_
  simp

theorem darkEntered_link {n : Nat} : ((s.linksIdle.linksL1.updPwr fun p => { p with state := .dark }).count R.pwrDarkTotal).link n =
    s.linksIdle.link n := by
  have hlinks : s.linksIdle.links = s.linksIdle.linksL1.links := linksL1_touches .links (by decide)
  show tget _ s.linksIdle.linksL1.links n = _
  rw [← hlinks]
  rfl

theorem port_of_ports {n : Nat} (h : t.ports = s.ports) : t.port n = s.port n := by
  unfold State.port
  rw [h]

theorem count_regs {off : Nat} (h : t.regs = s.regs) : (t.count off).regs = (s.count off).regs := by
  unfold State.count State.setReg State.reg
  rw [h]

/-! ## A host that leaves L1, and the end of a wake (R370) -/

theorem wakeTrigger_sleeping {c : Nat} (h : s.pwr.state = .dark ∨ s.pwr.state = .entering) :
    s.wakeTrigger c = { s with pwr := { s.pwr with state := .waking, wakeCause := BitVec.ofNat 3 c } } := if_pos h

theorem wakeTrigger_awake {c : Nat} (h : s.pwr.state ≠ .dark) (h' : s.pwr.state ≠ .entering) : s.wakeTrigger c = s := if_neg (by simp [h, h'])

theorem l1Exit_up {p : Nat} (ht : s.hostThere p = true) (hu : (s.port p).link = .up) :
    s.l1Exit p = (s.updPort p fun x => { x with l1 := false }).wakeTrigger 4 := by
  unfold State.l1Exit
  exact if_neg (by simp [ht, hu])

end Sys2Proof.Machine

open Sys2Proof Sys2Proof.Machine

/-- Settles O48: each clause by what the gate of PWR_CMD, the entry and the wake come to. -/
theorem darkIsEnteredAndLeft : Obligations.DarkIsEnteredAndLeft := by
  refine ⟨fun s port ho => ?_, fun s => mayDark_iff, fun s hs => ⟨fun hq => next_congr (if_pos (.inr (by rw [hq]; rfl))), fun hq => ?_⟩,
    fun s port hthere hup => ?_, fun s hs => ?_⟩
  · intro p
    refine ⟨fun hc c hmem => ?_, fun hc hd => (next_congr (pwrCommand_open ho hc)).trans (next_congr (dark_refused hd)), fun hc hd =>
      (next_congr (pwrCommand_open ho hc)).trans (next_congr (if_neg (by rw [hd]; decide))),
      fun hc => next_congr (pwrCommand_open ho hc), fun hc => next_congr (pwrCommand_open ho hc)⟩
    obtain ⟨hon, hthere, hup, hboot, -⟩ := ho
    simp only [List.mem_cons, List.not_mem_nil, or_false] at hmem
    rcases hmem with rfl | rfl | rfl <;> exact next_congr (pwrCommand_foreign hthere hup hc (.inl ⟨hon, hboot⟩))
  · refine ⟨_, next_congr (darkEntered_eq hs hq), ?_, fun n hn ha => ?_, fun n ha => ?_, fun n hn hup => ?_, ?_, ?_⟩
    · have hpwr : s.pwr = s.linksIdle.linksL1.pwr := (linksIdle_touches .pwr (by decide)).trans (linksL1_touches .pwr (by decide))
      show ({ s.linksIdle.linksL1.pwr with state := .dark } : Pwr) = _
      rw [← hpwr]
    · rw [darkEntered_link, link_linksIdle, if_pos ⟨hn, ha⟩]
    · rw [darkEntered_link, link_linksIdle, if_neg fun h => ha h.2]
    · have hport : s.linksIdle.port n = s.port n := port_of_ports (linksIdle_touches .ports (by decide)).symm
      show (s.linksIdle.linksL1.port n).l1 = true
      rw [port_linksL1, hport, if_pos ⟨hn, hup⟩]
    · have hregs : s.regs = s.linksIdle.linksL1.regs := (linksIdle_touches .regs (by decide)).trans (linksL1_touches .regs (by decide))
      exact count_regs hregs.symm
    · have hmoved : Touches 147582959788931154304 s ((s.linksIdle.linksL1.updPwr fun p => { p with state := .dark }).count R.pwrDarkTotal) := by
        simp [State.linksIdle, State.linksL1]
      exact hmoved.keeps _ (by decide)
  · intro u
    have hexec : exec (.hostL1Exit port) s = .next (u.wakeTrigger 4) := next_congr (l1Exit_up hthere hup)
    exact ⟨fun h => hexec.trans (next_congr (wakeTrigger_sleeping (s := u) h)),
      fun h h' => hexec.trans (next_congr (wakeTrigger_awake (s := u) h h'))⟩
  · intro l a b c d rest reset e f
    refine next_congr ?_
    unfold State.woken
    rw [if_neg (by simp [hs])]
    rfl

end

section
/-! PROOF. Throttles begin and end with their triggers, and samples store, warn, trip and remove power (R361 to R363, R402). -/

namespace Sys2Proof.Machine

variable {s t u : State}

/-! ## Throttles (R362) -/

theorem triggered_iff {t : Throttle} : t.triggered = true ↔ t.power = true ∨ t.thermal ≠ [] ∨ t.margin = true := by
  cases h : t.thermal <;> simp [Throttle.triggered, h]

theorem throttleCheck_calm (h : s.pwr.throttle.triggered = false) : s.throttleCheck = s := by
  unfold State.throttleCheck
  exact if_pos (by rw [h]; rfl)

/-- The rotation in progress is off rated occupancy once a throttle begins, and the start is counted. -/
def State.throttleStarts (s : State) : State :=
  if s.pwr.throttle.inForce then s
  else (s.updRot fun r => { r with overran := r.overran || r.phase != .idle, parity := false }).count R.pwrThrottleTotal

/-- The start of a thermal throttle is recorded once. -/
def State.thermalRecorded (s : State) (t : Throttle) : State :=
  match t.thermal, t.wasThermal with
  | x :: _, false => s.record (ErrRec.plain 1 (x / 64) (x % 64) 10)
  | _, _ => s

theorem throttleCheck_eq (h : s.pwr.throttle.triggered = true) : s.throttleCheck =
    (s.throttleStarts.thermalRecorded s.pwr.throttle).updPwr fun p => { p with throttle := { s.pwr.throttle with
      inForce := true, wasPower := s.pwr.throttle.wasPower || s.pwr.throttle.power
      wasThermal := s.pwr.throttle.wasThermal || !s.pwr.throttle.thermal.isEmpty } } := by
  unfold State.throttleCheck
  exact if_neg (by rw [h]; decide)

theorem thermalRecorded_unrecorded {t : Throttle} (h : t.thermal = [] ∨ t.wasThermal = true) : s.thermalRecorded t = s := by
  unfold State.thermalRecorded
  rcases h with h | h
  · rw [h]
  · rw [h]
    cases t.thermal <;> rfl

theorem throttleStarts_inForce (h : s.pwr.throttle.inForce = true) : s.throttleStarts = s := by
  unfold State.throttleStarts
  rw [h]
  rfl

theorem throttleStarts_begins (h : s.pwr.throttle.inForce = false) : s.throttleStarts =
    (s.updRot fun r => { r with overran := r.overran || r.phase != .idle, parity := false }).count R.pwrThrottleTotal := by
  unfold State.throttleStarts
  rw [h]
  rfl

theorem throttleEnds_eq (h : s.pwr.throttle.triggered = false) : s.throttleEnds =
    s.updPwr fun p => { p with throttle := { p.throttle with inForce := false, wasPower := false, wasThermal := false } } := by
  unfold State.throttleEnds
  rw [h]
  rfl

/-! ## What a sample stores (R363) -/

theorem sensors_ordered {x : Sample} : ((s.sensors x).map Sensor.reg).Pairwise (· < ·) := by
  have hio : s.variant.ioDies ≤ 2 := by cases s.variant <;> decide
  unfold State.sensors
  simp only [List.map_append, List.map_map, List.pairwise_append, List.pairwise_map, List.mem_append, List.mem_map, List.mem_filter,
    List.mem_range, Function.comp, R.pwrTempG, R.pwrTempIo, R.pwrTempS, R.pwrTempD]
  have hrange (n : Nat) : (List.range n).Pairwise (· < ·) := List.pairwise_lt_range
  refine ⟨⟨⟨(hrange _).imp (by omega), (hrange _).imp (by omega), ?_⟩, ((hrange _).filter _).imp (by omega), ?_⟩,
    ((hrange _).filter _).imp (by omega), ?_⟩
  · rintro _ ⟨i, hi, rfl⟩ _ ⟨j, hj, rfl⟩
    omega
  · rintro _ (⟨i, hi, rfl⟩ | ⟨i, hi, rfl⟩) _ ⟨j, ⟨hj, -⟩, rfl⟩ <;> omega
  · rintro _ ((⟨i, hi, rfl⟩ | ⟨i, hi, rfl⟩) | ⟨i, ⟨hi, -⟩, rfl⟩) _ ⟨j, ⟨hj, -⟩, rfl⟩ <;> omega

theorem sensors_above {x : Sample} {q : Sensor} (h : q ∈ s.sensors x) : R.pwrTempG 0 ≤ q.reg := by
  unfold State.sensors at h
  simp only [List.mem_append, List.mem_map, List.mem_range, List.mem_filter] at h
  rcases h with ((⟨i, -, rfl⟩ | ⟨i, -, rfl⟩) | ⟨i, -, rfl⟩) | ⟨i, -, rfl⟩ <;>
    simp only [R.pwrTempG, R.pwrTempIo, R.pwrTempS, R.pwrTempD] <;> omega

/-- Each reading of a sample in its sensor's register. -/
def State.storeTemps (s : State) (l : List Sensor) : State := s.each l fun s q => s.setReg q.reg (BitVec.ofNat 64 q.value.toNat)

theorem reg_storeTemps_other {l : List Sensor} {k : Nat} (h : ∀ q ∈ l, k ≠ q.reg) : (s.storeTemps l).reg k = s.reg k := by
  induction l generalizing s with
  | nil => rfl
  | cons p l ih =>
    refine (ih (s := s.setReg p.reg _) fun q hq => h q (by simp [hq])).trans ?_
    exact reg_setReg_other (h p (by simp))

theorem reg_storeTemps {l : List Sensor} (hl : (l.map Sensor.reg).Pairwise (· < ·)) {q : Sensor} (hq : q ∈ l) :
    (s.storeTemps l).reg q.reg = BitVec.ofNat 64 q.value.toNat := by
  induction l generalizing s with
  | nil => simp at hq
  | cons p l ih =>
    obtain ⟨hp, hl⟩ := List.pairwise_cons.1 hl
    rcases List.mem_cons.1 hq with rfl | hq
    · refine (reg_storeTemps_other (s := s.setReg q.reg _) fun r hr => ?_).trans reg_setReg_same
      exact Nat.ne_of_lt (hp r.reg (List.mem_map_of_mem hr))
    · exact ih (s := s.setReg p.reg _) hl hq

theorem storeSample_eq {x : Sample} : s.storeSample x = (((s.storeTemps (s.sensors x)).setReg R.pwrVin (x.vin.setWidth 64)).setReg R.pwrIin
    (x.iin.setWidth 64)).setReg R.pwrInput (x.watts.setWidth 64) := rfl

theorem reg_storeSample_sensor {x : Sample} {q : Sensor} (h : q ∈ s.sensors x) :
    (s.storeSample x).reg q.reg = BitVec.ofNat 64 q.value.toNat := by
  have habove := sensors_above h
  simp only [R.pwrTempG] at habove
  rw [storeSample_eq, reg_setReg_other (by simp only [R.pwrInput]; omega), reg_setReg_other (by simp only [R.pwrIin]; omega),
    reg_setReg_other (by simp only [R.pwrVin]; omega), reg_storeTemps sensors_ordered h]

/-! ## A sample (R363, R402) -/

theorem sample_eq {x : Sample} (hp : s.pwr.state ≠ .off) (hb : s.keeper.booted = true) : s.sample x =
    let l := s.sensors x
    let t := ((((s.storeSample x).warnings l).triggers l x).throttleCheck).criticals l
    if l.any fun q => decide (q.shutdown ≤ q.temp) then (t.emit .thermTrip).coldKeep .off else t := by
  unfold State.sample
  exact if_neg (by simp [hp, hb])

end Sys2Proof.Machine

open Sys2Proof Sys2Proof.Machine

/-- Settles O50: a throttle begins as its three parts say, and a sample stores each reading in a register of its own. -/
theorem throttlesFollowSensors : Obligations.ThrottlesFollowSensors := by
  refine ⟨fun s inside h => next_congr (if_neg h), fun s => ?_, fun s x hp hb => ?_, fun s x => ?_⟩
  · intro t
    refine ⟨triggered_iff, fun h => ⟨throttleCheck_calm h, next_congr (throttleEnds_eq h)⟩, fun h => ⟨next_congr (if_pos h), ?_, ?_, ?_, ?_⟩⟩
    · rw [throttleCheck_eq h]
      rfl
    · intro hf ht
      rw [throttleCheck_eq h, throttleStarts_inForce hf, thermalRecorded_unrecorded ht]
      exact ⟨rfl, rfl⟩
    · intro hf ht
      rw [throttleCheck_eq h, throttleStarts_begins hf, thermalRecorded_unrecorded (.inl ht)]
      exact ⟨rfl, rfl⟩
    · exact ((touches_throttleCheck (Nat.and_self _)).2 .rfl : Touches _ s _).keeps _ (by decide)
  · intro l t
    refine ⟨fun hs => (next_congr (sample_eq hp hb)).trans (next_congr (if_pos ?_)), fun hs =>
      (next_congr (sample_eq hp hb)).trans (next_congr (if_neg ?_))⟩
    · simpa using hs
    · simpa using hs
  · intro l
    refine ⟨fun q hq => reg_storeSample_sensor hq, ?_, reg_setReg_same, ?_⟩
    · rw [storeSample_eq, reg_setReg_other (by decide), reg_setReg_other (by decide), reg_setReg_same]
    · intro u
      refine ⟨decide_eq_true_iff, fun q hq hhot => ?_⟩
      exact List.mem_map_of_mem (List.mem_filter.2 ⟨hq, by simp [hhot]⟩)

end

section
/-! PROOF. Cold resets, boot and bring-up (R212, R322, R323, R366, R372, R375, R376, R401). -/

namespace Sys2Proof.Machine

variable {s t u : State}

/-! ## Cold reset (R375) -/

theorem tget_tputs {α : Type} [DecidableEq α] {d f : Nat → α} {l : List Nat} {t : Tbl α} {k : Nat} :
    tget d (l.foldl (fun t p => tput d t p (f p)) t) k = if k ∈ l then f k else tget d t k := by
  induction l generalizing t with
  | nil => rfl
  | cons p l ih =>
    refine ih.trans ?_
    by_cases hk : k = p
    · subst hk
      simp
    · rw [tget_tput_other d hk]
      simp [hk]

theorem port_coldKeep {st : Power} {p : Nat} (h : p < 4) : (s.coldKeep st).port p = { HostPort.off with perst := (s.port p).perst } :=
  tget_tputs.trans (if_pos (List.mem_range.2 h))

theorem coldKeep_keeps {st : Power} : KeepsBut [.pending, .out, .free, .ports, .pwr] (State.cold s.variant s.nvm) (s.coldKeep st) := by
  intro f hf
  cases f <;> first | rfl | exact absurd (by decide) hf

/-! ## A device that waits to boot (R376, R401) -/

theorem tryBoot_free {b : BringUp} (ha : s.awaitsBoot = true) (hc : s.pwr.refSys = true) (hr : s.pwr.resetN = true) (hf : b.flashHeld = false) :
    s.tryBoot b = s.bringUp b false := by
  unfold State.tryBoot
  rw [if_neg (by simp [ha, hc, hr]), hf]
  rfl

theorem tryBoot_held {b : BringUp} (ha : s.awaitsBoot = true) (hc : s.pwr.refSys = true) (hr : s.pwr.resetN = true) (hf : b.flashHeld = true) :
    s.tryBoot b = { s with pwr := { s.pwr with state := .boot, flashExtN := false } } := by
  unfold State.tryBoot
  rw [if_neg (by simp [ha, hc, hr]), hf]
  rfl

theorem powered_awaits {b : BringUp} (ha : s.awaitsBoot = true) : s.powered b = s.tryBoot b := by
  unfold State.powered
  exact if_neg (by simp [ha])

theorem flashFree_held {b : BringUp} (ha : s.awaitsBoot = true) (hp : s.pwr.state ≠ .off) (hc : s.pwr.refSys = true) (hr : s.pwr.resetN = true)
    (hx : s.pwr.flashExtN = false) : s.flashFree b = State.bringUp { s with pwr := { s.pwr with flashExtN := true } } b true := by
  unfold State.flashFree
  exact if_pos ⟨by rw [hx]; rfl, hp, ha, hc, hr⟩

/-! ## What the Keeper boots (R322, R323) -/

theorem leNat_lt : (bs : List Byte) → leNat bs < 256 ^ bs.length
  | [] => by decide
  | b :: t => by
    have ih := leNat_lt t
    have hb : b.toNat < 256 := b.isLt
    simp only [leNat, List.length_cons, Nat.pow_succ]
    omega

theorem length_slice {bs : List Byte} {i n : Nat} : (slice bs i n).length = n := by
  simp only [slice, List.length_append, List.length_replicate, List.length_take]
  omega

theorem numAt_lt {bs : List Byte} {i n : Nat} : numAt bs i n < 256 ^ n := by
  have h := leNat_lt (slice bs i n)
  rwa [length_slice] at h

theorem svnOf_toNat {bs : List Byte} : (svnOf bs).toNat = numAt bs 4 1 := by
  have h : numAt bs 4 1 < 256 ^ 1 := numAt_lt
  simp only [svnOf, BitVec.toNat_ofNat]
  omega

theorem imageOk_iff {core : Bool} {x : Image} {fuses : Byte} : imageOk core x fuses = true ↔ x.genuine = true ∧
    numAt x.bytes 0 4 = (if core then 0x3146435A else 0x31464B5A) ∧ numAt x.bytes 8 4 % 64 = 0 ∧
    x.bytes.length = 112 + numAt x.bytes 8 4 + 96 ∧ fuses.toNat ≤ numAt x.bytes 4 1 ∧ numAt x.bytes 4 1 ≤ 64 := by
  unfold imageOk
  simp [svnOf_toNat, magicOf, bodyLen, imageLen, imageMagic, and_assoc]

/-! ## Bring-up (R212, R376) -/

/-- The pin SYS_READY rises, and the host ports whose domain is up train. -/
def State.readyPorts (s : State) : State := State.portsTrain { s with pwr := { s.pwr with sysReady := true } }

/-- The drives and the far tier come up, and the device is on. -/
def State.memoriesUp (s : State) (b : BringUp) : State :=
  ((s.ddrTrain b.ddr).drivesQualify b.nvme).updPwr fun p => { p with state := .on }

/-- The Keeper boots from the flash as it is found. -/
def State.keeperBoots (s : State) (b : BringUp) (rewritten : Bool) : State :=
  State.bootKeeper { s with nvm := s.nvm.found b rewritten, pwr := { s.pwr with state := .boot } }

theorem readyPorts_keeper : s.readyPorts.keeper = s.keeper :=
  (((touches_portsTrain (Nat.and_self _)).2 .rfl : Touches _ _ s.readyPorts) .keeper (by decide)).symm

theorem bringUp_fails {b : BringUp} {rewritten : Bool} (h : (s.keeperBoots b rewritten).keeper.bootFail = true) :
    s.bringUp b rewritten = (s.keeperBoots b rewritten).readyPorts := by
  unfold State.bringUp
  exact if_pos ((congrArg Keeper.bootFail readyPorts_keeper).trans h)

theorem bringUp_succeeds {b : BringUp} {rewritten : Bool} (h : (s.keeperBoots b rewritten).keeper.bootFail = false) :
    s.bringUp b rewritten = (s.keeperBoots b rewritten).readyPorts.memoriesUp b := by
  have hgoes : ¬(s.keeperBoots b rewritten).readyPorts.keeper.bootFail = true := by
    rw [readyPorts_keeper, h]
    decide
  unfold State.bringUp
  exact if_neg hgoes

theorem drive_updDrive_same {d : Nat} {f : Drive → Drive} : (s.updDrive d f).drive d = f (s.drive d) :=
  tget_tput_same (t := s.drives) fun _ => Drive.off

theorem drive_updDrive_other {d k : Nat} {f : Drive → Drive} (h : k ≠ d) : (s.updDrive d f).drive k = s.drive k :=
  tget_tput_other (t := s.drives) (fun _ => Drive.off) h

theorem drive_of_drives {d : Nat} (h : t.drives = s.drives) : t.drive d = s.drive d := by
  unfold State.drive
  rw [h]

/-- One drive qualified, or found absent (R212). -/
def State.driveQualifies (s : State) (l : List DrivePop) (d : Nat) : State :=
  match l[d]? with
  | none => s.updDrive d fun x => { x with state := .refused, reason := 1 }
  | some x => (s.driveAdmin d x).updDrive d fun y => { y with
      state := if driveRefusal x = 0 then .inService else .refused, reason := driveRefusal x
      granules := if driveRefusal x = 0 then x.granules.toNat else 0, perst := !x.present }

theorem drivesQualify_eq {l : List DrivePop} : s.drivesQualify l =
    s.each ((List.range 8).filter s.nvmeThere) fun s d => s.driveQualifies l d := rfl

theorem drive_driveAdmin {d k : Nat} {x : DrivePop} : (s.driveAdmin d x).drive k = s.drive k :=
  drive_of_drives (((touches_driveAdmin (Nat.and_self _)).2 .rfl : Touches _ s _) .drives (by decide)).symm

theorem drive_driveQualifies_other {l : List DrivePop} {d k : Nat} (h : k ≠ d) : (s.driveQualifies l d).drive k = s.drive k := by
  unfold State.driveQualifies
  split
  · exact drive_updDrive_other h
  · exact (drive_updDrive_other h).trans drive_driveAdmin

theorem drive_driveQualifies_present {l : List DrivePop} {d : Nat} {x : DrivePop} (h : l[d]? = some x) :
    ((s.driveQualifies l d).drive d).reason = driveRefusal x ∧
      (((s.driveQualifies l d).drive d).state = .inService ↔ driveRefusal x = 0) := by
  unfold State.driveQualifies
  rw [h]
  dsimp only
  rw [drive_updDrive_same]
  refine ⟨rfl, ?_⟩
  by_cases hr : driveRefusal x = 0 <;> simp [hr]

theorem drive_qualifyAll_other {l : List DrivePop} {ds : List Nat} {k : Nat} (h : k ∉ ds) :
    (s.each ds fun s d => s.driveQualifies l d).drive k = s.drive k := by
  induction ds generalizing s with
  | nil => rfl
  | cons d ds ih =>
    rw [List.mem_cons, not_or] at h
    exact (ih (s := s.driveQualifies l d) h.2).trans (drive_driveQualifies_other h.1)

theorem drive_qualifyAll {l : List DrivePop} {ds : List Nat} {d : Nat} {x : DrivePop} (hnd : ds.Nodup) (hd : d ∈ ds) (hx : l[d]? = some x) :
    ((s.each ds fun s d => s.driveQualifies l d).drive d).reason = driveRefusal x ∧
      (((s.each ds fun s d => s.driveQualifies l d).drive d).state = .inService ↔ driveRefusal x = 0) := by
  induction ds generalizing s with
  | nil => simp at hd
  | cons e ds ih =>
    obtain ⟨he, hnd⟩ := List.nodup_cons.1 hnd
    rcases List.mem_cons.1 hd with rfl | hd
    · have hkeep : ((s.driveQualifies l d).each ds fun s d => s.driveQualifies l d).drive d = (s.driveQualifies l d).drive d :=
        drive_qualifyAll_other he
      show (((s.driveQualifies l d).each ds fun s d => s.driveQualifies l d).drive d).reason = _ ∧
        ((((s.driveQualifies l d).each ds fun s d => s.driveQualifies l d).drive d).state = _ ↔ _)
      rw [hkeep]
      exact drive_driveQualifies_present hx
    · exact ih (s := s.driveQualifies l e) hnd hd

theorem nvmeThere_of_touches {m n : Nat} (h : Touches m s t) (hv : m.testBit 3 = false := by decide)
    (hw : m.testBit 6 = false := by decide) (hk : m.testBit 64 = false := by decide) (hr : m.testBit 66 = false := by decide) :
    t.nvmeThere n = s.nvmeThere n := by
  have hvariant : s.variant = t.variant := h .variant hv
  have hrwk : s.rwk = t.rwk := h .rwk hw
  have hkeeper : s.keeper = t.keeper := h .keeper hk
  have hras : s.ras = t.ras := h .ras hr
  simp only [State.nvmeThere, State.unitThere, State.unitLost, State.rwkReg, hvariant, hrwk, hkeeper, hras]

theorem memoriesUp_touches {b : BringUp} : Touches 147574128511536857218 s (s.memoriesUp b) := by
  simp [State.memoriesUp]

theorem memoriesUp_pwr {b : BringUp} : (s.memoriesUp b).pwr = { s.pwr with state := .on } := by
  have hpwr : s.pwr = ((s.ddrTrain b.ddr).drivesQualify b.nvme).pwr := by
    have htrain : Touches (140737488355456 ||| 35184372088834) s ((s.ddrTrain b.ddr).drivesQualify b.nvme) := by simp
    exact htrain .pwr (by decide)
  show ({ ((s.ddrTrain b.ddr).drivesQualify b.nvme).pwr with state := .on } : Pwr) = _
  rw [← hpwr]

theorem drive_memoriesUp {b : BringUp} {d : Nat} {x : DrivePop} (hd : d < 8) (ht : s.nvmeThere d = true) (hx : b.nvme[d]? = some x) :
    ((s.memoriesUp b).drive d).reason = driveRefusal x ∧ (((s.memoriesUp b).drive d).state = .inService ↔ driveRefusal x = 0) := by
  have hthere : (s.ddrTrain b.ddr).nvmeThere d = true := (nvmeThere_of_touches ((touches_ddrTrain (Nat.and_self _)).2 .rfl)).trans ht
  exact drive_qualifyAll (s := s.ddrTrain b.ddr) (List.nodup_range.filter _) (List.mem_filter.2 ⟨List.mem_range.2 hd, hthere⟩) hx

theorem bootKeeper_keeps : KeepsBut [.keeper] s s.bootKeeper := by
  intro f hf
  cases f <;> first | rfl | exact absurd (by decide) hf

end Sys2Proof.Machine

open Sys2Proof Sys2Proof.Machine

/-- Settles O51: a cold reset, the wait to boot, the Keeper's choice of a copy, and the bring-up, each by its own equation. -/
theorem coldResetsAndBoots : Obligations.ColdResetsAndBoots := by
  refine ⟨fun s st => ⟨rfl, rfl, rfl, rfl, rfl, rfl, rfl, rfl, rfl, fun p hp => by simp [port_coldKeep hp, HostPort.off], coldKeep_keeps⟩,
    fun s => ⟨rfl, fun h => ⟨next_congr (if_neg h), next_congr (if_neg h)⟩, fun h => ⟨next_congr (if_pos h), next_congr (if_pos h)⟩⟩,
    fun s b ha hf => ⟨fun hc hr => next_congr ((powered_awaits ha).trans (tryBoot_free ha hc hr hf)),
      fun hp hc => (next_congr (if_neg hp)).trans (next_congr (tryBoot_free ha hc rfl hf)),
      fun hp hr => (next_congr (if_neg hp)).trans (next_congr (tryBoot_free ha rfl hr hf)),
      fun hp hc hr hx => next_congr (flashFree_held ha hp hc hr hx)⟩,
    fun s b ha hc hr hf => next_congr ((powered_awaits ha).trans (tryBoot_held ha hc hr hf)), fun s => ?_, fun s b rewritten => ?_,
    fun core x fuses => imageOk_iff⟩
  · intro n a b k
    refine ⟨fun ha => ?_, fun ha hb => ?_, fun ha hb => ?_, rfl, bootKeeper_keeps⟩
    · have ha : imageOk false s.nvm.keeperA s.nvm.fuseSvn = true := ha
      simp only [k, n, State.bootKeeper, ha]
      simp
    · have ha : imageOk false s.nvm.keeperA s.nvm.fuseSvn = false := Bool.eq_false_iff.2 ha
      have hb : imageOk false s.nvm.keeperB s.nvm.fuseSvn = true := hb
      simp only [k, n, State.bootKeeper, ha, hb]
      simp
    · have ha : imageOk false s.nvm.keeperA s.nvm.fuseSvn = false := Bool.eq_false_iff.2 ha
      have hb : imageOk false s.nvm.keeperB s.nvm.fuseSvn = false := Bool.eq_false_iff.2 hb
      simp only [k, State.bootKeeper, ha, hb]
      simp
  · intro u v
    refine ⟨fun h => bringUp_fails h, fun h => ⟨_, bringUp_succeeds h, memoriesUp_pwr, fun d hd ht x hx => drive_memoriesUp hd ht hx, ?_⟩⟩
    exact memoriesUp_touches.keeps _ (by decide)

end

section
/-! PROOF. PERST, host links, the fabric clock and the TAP follow their pins (R319, R372 to R374, R376, R400, R403). -/

namespace Sys2Proof.Machine

variable {s : State} {p : Nat}

/-! ## PERSTn_N and the link of a host port -/

/-- The pin of a port stands low, or high. -/
def State.perstPin (s : State) (p : Nat) (low : Bool) : State := s.updPort p fun x => { x with perst := low }

theorem perstPin_link {low : Bool} : ((s.perstPin p low).port p).link = (s.port p).link := by
  unfold State.perstPin
  rw [port_updPort_same]

theorem perstFalls_awake (ht : s.hostThere p = true) (hp : s.pwr.state = .on ∨ s.pwr.state = .boot) : s.perstFalls p =
    if (s.port p).link = .reset then s.perstPin p true
    else ((s.perstPin p true).updPort p fun x => { x with link := .reset }).hostReset p := by
  have hoff : ¬((s.perstPin p true).pwr.state = .off ∨ !(s.perstPin p true).hostThere p) := by
    rintro (h | h)
    · exact absurd (show s.pwr.state = .off from h) (by rcases hp with hp | hp <;> simp [hp])
    · exact absurd ht (by simpa using show (!s.hostThere p) = true from h)
  have hawake : ¬(s.perstPin p true).asleep = true := by
    show ¬s.asleep = true
    unfold State.asleep
    rcases hp with hp | hp <;> simp [hp]
  unfold State.perstFalls
  refine (if_neg hoff).trans ((if_neg hawake).trans ?_)
  rw [← perstPin_link (s := s) (low := true)]
  rfl

theorem perstFalls_asleep (ht : s.hostThere p = true) (h : s.asleep = true) : s.perstFalls p = (s.perstPin p true).wakeTrigger 4 := by
  have hoff : ¬((s.perstPin p true).pwr.state = .off ∨ !(s.perstPin p true).hostThere p) := by
    rintro (ho | ho)
    · have ho : s.pwr.state = .off := ho
      simp [State.asleep, ho] at h
    · exact absurd ht (by simpa using show (!s.hostThere p) = true from ho)
  unfold State.perstFalls
  exact (if_neg hoff).trans (if_pos h)

theorem perstRises_trains (ht : s.hostThere p = true) (hr : s.pwr.sysReady = true) (hb : s.keeper.bootFail = false ∨ p = 0)
    (hl : (s.port p).link = .reset) : s.perstRises p = (s.perstPin p false).updPort p fun x => { x with link := .training } := by
  have hl : ((s.perstPin p false).port p).link = .reset := perstPin_link.trans hl
  have hb : (!s.keeper.bootFail || p == 0) = true := by simpa using hb
  unfold State.perstRises
  refine if_pos ?_
  show (s.pwr.sysReady && s.hostThere p && (!s.keeper.bootFail || p == 0) && ((s.perstPin p false).port p).link == .reset) = true
  simp [hr, ht, hb, hl]

theorem perstRises_linked (hl : (s.port p).link ≠ .reset) : s.perstRises p = s.perstPin p false := by
  have hl : ((s.perstPin p false).port p).link ≠ .reset := fun h => hl (perstPin_link.symm.trans h)
  unfold State.perstRises
  refine if_neg ?_
  show ¬(s.pwr.sysReady && s.hostThere p && (!s.keeper.bootFail || p == 0) && ((s.perstPin p false).port p).link == .reset) = true
  simp [hl]

/-! ## The TAP (R403) -/

theorem tapSelect_off {t : Tap} (h : s.pwr.state = .off ∨ s.pwr.resetN = false) : s.tapSelect t = s := by
  unfold State.tapSelect
  exact if_pos (by simpa using h)

theorem tapSelect_on {t : Tap} (hp : s.pwr.state ≠ .off) (hr : s.pwr.resetN = true) :
    s.tapSelect t = s.updPwr fun p => { p with tap := if s.keeper.tapLocked then t.locked else t } := by
  unfold State.tapSelect
  exact if_neg (by simp [hp, hr])

theorem tapId_off (h : s.pwr.state = .off ∨ s.pwr.resetN = false) : s.tapId = s := by
  unfold State.tapId
  exact if_pos (by simpa using h)

theorem tapId_on (hp : s.pwr.state ≠ .off) (hr : s.pwr.resetN = true) : s.tapId = (s.tapSelect .idcode).emit (.tdo 0x10980567) := by
  unfold State.tapId
  rw [if_neg (by simp [hp, hr])]
  rfl

theorem extest_off {cells : Word} (h : s.pwr.state = .off ∨ s.pwr.resetN = false) : s.extest cells = s := by
  unfold State.extest
  exact if_pos (by simpa using h)

theorem extest_open {cells : Word} (hp : s.pwr.state ≠ .off) (hr : s.pwr.resetN = true) (hl : s.keeper.tapLocked = false) :
    s.extest cells = s.updPwr fun p => { p with tap := .extest, cells } := by
  unfold State.extest
  rw [if_neg (by simp [hp, hr]), tapSelect_on hp hr, hl]
  rfl

theorem extest_locked {cells : Word} (hp : s.pwr.state ≠ .off) (hr : s.pwr.resetN = true) (hl : s.keeper.tapLocked = true) :
    s.extest cells = s.updPwr fun p => { p with tap := .bypass } := by
  unfold State.extest
  rw [if_neg (by simp [hp, hr]), tapSelect_on hp hr, hl]
  rfl

theorem tapSelect_open {t : Tap} (hp : s.pwr.state ≠ .off) (hr : s.pwr.resetN = true) (h : t.locked = t ∨ s.keeper.tapLocked = false) :
    s.tapSelect t = s.updPwr fun p => { p with tap := t } := by
  rw [tapSelect_on hp hr]
  rcases h with h | h
  · rw [h, ite_self]
  · rw [h]
    rfl

theorem tapSelect_locked {t : Tap} (hp : s.pwr.state ≠ .off) (hr : s.pwr.resetN = true) (h : s.keeper.tapLocked = true) :
    s.tapSelect t = s.updPwr fun p => { p with tap := t.locked } := by
  rw [tapSelect_on hp hr, h]
  rfl

end Sys2Proof.Machine

open Sys2Proof Sys2Proof.Machine

/-- Settles O52: each pin's edge by what the port's link, the device's power and the lock of the TAP say. -/
theorem pinsAndLinksFollow : Obligations.PinsAndLinksFollow := by
  refine ⟨fun s port ht => ?_, fun s => rfl, fun s cells => ?_⟩
  · intro p low high
    refine ⟨fun hp hl => (next_congr (perstFalls_awake ht hp)).trans (next_congr (if_neg hl)),
      fun hp hl => (next_congr (perstFalls_awake ht hp)).trans (next_congr (if_pos hl)), fun h => next_congr (perstFalls_asleep ht h),
      fun hr hb hl => next_congr (perstRises_trains ht hr hb hl), fun hl => next_congr (perstRises_linked hl),
      fun hl => next_congr (if_neg fun h => h hl), fun hl hr => next_congr (if_pos ⟨hl, ht, hr⟩)⟩
  · refine ⟨rfl, fun hp hr => ⟨next_congr (tapSelect_open hp hr (.inl rfl)), ?_, fun hl => ⟨next_congr (tapSelect_open hp hr (.inr hl)),
      next_congr (extest_open hp hr hl)⟩, fun hl => ⟨next_congr (tapSelect_locked hp hr hl), next_congr (extest_locked hp hr hl)⟩⟩, fun h c hc => ?_⟩
    · refine (next_congr (tapId_on hp hr)).trans (next_congr ?_)
      rw [tapSelect_open hp hr (.inl rfl)]
    · simp only [List.mem_cons, List.not_mem_nil, or_false] at hc
      rcases hc with rfl | rfl | rfl | rfl
      · exact next_congr (tapSelect_off h)
      · exact next_congr (tapId_off h)
      · exact next_congr (tapSelect_off h)
      · exact next_congr (extest_off h)

end

section
/-! PROOF. The registers that count and report, and what leaves every other register as it is. -/

namespace Sys2Proof.Machine

variable {s t u : State}

/-- The registers that count and report: the error log's and its lasting faults, the last translation fault, and the totals of engines
at work. -/
inductive Reports : Nat → Prop
  | logLost : Reports R.rasLogLost
  | logTail : Reports R.rasLogTail
  | severity (n : Nat) : Reports (R.rasSevTotal n)
  | queueLost : Reports R.rasQueueLost
  | lastingUnit : Reports R.rasLastingUnit
  | lastingPort : Reports R.rasLastingPort
  | lastingCore (n : Nat) : n < 16 → Reports (R.rasLastingCore 0 + 8 * n)
  | faultDva : Reports R.xltLastFaultDva
  | faultInfo : Reports R.xltLastFaultInfo
  | faults : Reports R.xltFaultTotal
  | walks : Reports R.xltWalkTotal
  | timeouts : Reports R.smfTimeoutTotal
  | dmaDescs : Reports R.dmaDescTotal
  | dmaErrs : Reports R.dmaErrTotal

/-- Every register but those that count and report keeps its value. -/
def KeepsRegs (s t : State) : Prop := ∀ k, ¬Reports k → t.reg k = s.reg k

theorem KeepsRegs.rfl : KeepsRegs s s := fun _ _ => Eq.refl _

theorem KeepsRegs.trans (h : KeepsRegs s t) (h' : KeepsRegs t u) : KeepsRegs s u := fun k hk => (h' k hk).trans (h k hk)

theorem keepsRegs_of_touches {m : Nat} (h : Touches m s t) (hm : m.testBit 7 = false) : KeepsRegs s t :=
  fun k _ => reg_of_touches h k hm

theorem keepsRegs_of_regs (h : t.regs = s.regs) : KeepsRegs s t := fun _ _ => reg_of_regs h

theorem keepsRegs_setReg {off : Nat} {w : Word} (h : Reports off) : KeepsRegs s (s.setReg off w) :=
  fun _ hk => reg_setReg_other fun e => hk (e ▸ h)

section
variable {k : Nat} (hlost : k ≠ R.rasLogLost) (htail : k ≠ R.rasLogTail)
include hlost htail

theorem reg_logRecord {l : Line} : (s.logRecord l).reg k = s.reg k := by
  unfold State.logRecord
  split
  · split
    · exact reg_setReg_other hlost
    · rfl
  · extract_lets tail head n o phase
    split
    · exact reg_setReg_other hlost
    · exact (reg_setReg_other htail).trans (reg_of_touches ((touches_poolWrite (Nat.and_self _)).2 .rfl) k)

/-- An error's record writes the log's registers, its severity's total and the lost count of the queue. -/
theorem reg_recordOne {e : ErrRec} (hsev : k ≠ R.rasSevTotal (e.severity - 1)) (hqueue : k ≠ R.rasQueueLost) : (s.recordOne e).reg k = s.reg k := by
  unfold State.recordOne
  extract_lets seq pend promoted lower queued overran ref line ras a b c d sev ras' f g
  have hc : c.reg k = s.reg k := (reg_logRecord hlost htail).trans (reg_setReg_other hsev)
  have hf : f.reg k = s.reg k := by
    have hd : d.reg k = s.reg k := (reg_of_regs (t := d) (s := c) rfl).trans hc
    unfold f
    split
    · exact (reg_of_regs rfl).trans hd
    · exact hd
  have hg : g.reg k = s.reg k := by
    unfold g
    split
    · exact (reg_setReg_other hqueue).trans hf
    · exact hf
  clear_value pend g
  have hg' {x : Ras} : ({ g with ras := x } : State).reg k = s.reg k := (reg_of_regs rfl).trans hg
  split
  · exact hc
  · split
    · exact (reg_of_touches ((touches_vectorH0 (Nat.and_self _)).2 .rfl) k).trans hg'
    · split
      · exact hg'
      · split
        · exact hg'
        · exact hg

end

theorem keepsRegs_recordOne {e : ErrRec} : KeepsRegs s (s.recordOne e) := fun _ hk =>
  reg_recordOne (fun h => hk (by rw [h]; exact .logLost)) (fun h => hk (by rw [h]; exact .logTail)) (fun h => hk (by rw [h]; exact .severity _))
    (fun h => hk (by rw [h]; exact .queueLost))

/-- What a record of an error leaves of RAS: all but its SEQ, what is logged, pending or counted, and job halt. -/
def Ras.standing (x : Ras) : Ras := { x with seq := 0, buffer := [], pending := none, queue := [], wins := [], jobHalt := false }

theorem standing_halted {x : Ras} {e : ErrRec} : (x.halted e).standing = x.standing := by
  unfold Ras.halted
  rw [apply_ite Ras.standing]
  exact ite_id _

theorem standing_pends {x : Ras} {n : BitVec 32} {e : ErrRec} : (x.pends n e).standing = x.standing := by
  have h : (x.halted e).standing = x.standing := standing_halted
  unfold Ras.pends
  split
  · exact h
  · rw [apply_ite Ras.standing, apply_ite Ras.standing]
    (repeat' split) <;> exact h

theorem standing_recordOne {e : ErrRec} : (s.recordOne e).ras.standing = s.ras.standing := by
  obtain ⟨held, h⟩ := recordOne_ras (s := s) e
  rw [h, apply_ite Ras.standing, standing_pends]
  exact ite_id _

/-- Nothing but counts and reports has changed: every other register, and RAS apart from its errors. -/
structure Steady (s t : State) : Prop where
  regs : KeepsRegs s t
  ras : t.ras.standing = s.ras.standing

theorem Steady.rfl : Steady s s := ⟨.rfl, Eq.refl _⟩

theorem Steady.trans (h : Steady s t) (h' : Steady t u) : Steady s u := ⟨h.regs.trans h'.regs, h'.ras.trans h.ras⟩

theorem steady_of_touches {m : Nat} (h : Touches m s t) (hm : m.testBit 7 = false) (hr : m.testBit 66 = false) :
    Steady s t := ⟨keepsRegs_of_touches h hm, congrArg Ras.standing (ras_of_touches h hr)⟩

theorem steady_setRing {r : Nat} {x : Ring} : Steady s (s.setRing r x) := ⟨fun _ _ => Eq.refl _, Eq.refl _⟩

theorem steady_updRing {r : Nat} {f : Ring → Ring} : Steady s (s.updRing r f) := steady_setRing

theorem steady_setReg {off : Nat} {w : Word} (h : Reports off) : Steady s (s.setReg off w) := ⟨keepsRegs_setReg h, Eq.refl _⟩

theorem steady_count {off n : Nat} (h : Reports off) : Steady s (s.count off n) := steady_setReg h

theorem steady_each {α : Type} {l : List α} {f : State → α → State} (h : ∀ s a, a ∈ l → Steady s (f s a)) : Steady s (s.each l f) := by
  induction l generalizing s with
  | nil => exact .rfl
  | cons a l ih => exact (h s a (by simp)).trans (ih fun s b hb => h s b (by simp [hb]))

/-! ## Error records -/

theorem steady_recordOne {e : ErrRec} : Steady s (s.recordOne e) := ⟨keepsRegs_recordOne, standing_recordOne⟩

/-- An error that is not to be counted in its window leaves one record and nothing else. -/
theorem window_uncounted {e : ErrRec} (h : e.severity < 2) : s.window e = s := by
  unfold State.window
  exact if_pos (.inr (.inl h))

theorem steady_record_low {e : ErrRec} (h : e.severity < 2) : Steady s (s.record e) := by
  unfold State.record
  rw [window_uncounted h]
  exact steady_recordOne

theorem reports_unitBit {cls unit off i : Nat} (hu : unit < 1024)
    (h : unitBit (R.rasLastingCore 0) R.rasLastingUnit R.rasLastingPort cls unit = some (off, i)) : Reports off := by
  unfold unitBit at h
  split at h <;> simp only [Option.some.injEq, Prod.mk.injEq, reduceCtorEq] at h <;> obtain ⟨rfl, -⟩ := h
  · exact .lastingCore _ (by omega)
  all_goals first | exact .lastingUnit | exact .lastingPort

theorem steady_window {e : ErrRec} (hu : e.unit < 1024) : Steady s (s.window e) := by
  unfold State.window
  split
  · exact .rfl
  · extract_lets key n span times put a b
    have ha : Steady s a := ⟨keepsRegs_of_regs rfl, rfl⟩
    split
    · split
      next off i hbit => exact (ha.trans steady_recordOne).trans (steady_setReg (reports_unitBit hu hbit))
      next => exact ha.trans steady_recordOne
    · exact ⟨keepsRegs_of_regs rfl, rfl⟩

theorem steady_record {e : ErrRec} (hu : e.unit < 1024) : Steady s (s.record e) := steady_recordOne.trans (steady_window hu)

/-! ## Rings in error, refusals and requests -/

theorem steady_ringError {r cause : Nat} : Steady s (s.ringError r cause) := by
  unfold State.ringError
  extract_lets x
  split
  · exact .rfl
  · exact steady_setRing.trans (steady_record_low (show 1 < 2 by decide))

theorem steady_noteRefusal {n core dva : Nat} {write : Bool} {why : Refuse} : Steady s (s.noteRefusal n write core dva why) := by
  unfold State.noteRefusal
  split
  · exact ((steady_setReg .faultDva).trans (steady_setReg .faultInfo)).trans (steady_count .faults)
  · exact .rfl

theorem steady_sendRsp {op : BitVec 5} {r : Rsp} : Steady s (s.sendRsp op r) :=
  steady_of_touches ((touches_sendRsp (Nat.and_self _)).2 .rfl) (by decide) (by decide)

theorem steady_unreachable {r : Req} : Steady s (s.unreachable r) := (steady_count .timeouts).trans steady_sendRsp

theorem steady_sendReq {op : HomeOp} {r : Req} : Steady s (s.sendReq op r) := by
  unfold State.sendReq
  split
  split
  · exact steady_of_touches ((touches_post (Nat.and_self _)).2 .rfl) (by decide) (by decide)
  · split
    · exact steady_unreachable
    · split
      · exact steady_of_touches ((touches_sendOn (Nat.and_self _)).2 .rfl) (by decide) (by decide)
      · exact steady_unreachable

theorem steady_engineReq {q : EngReq} : Steady s (s.engineReq q) := by
  unfold State.engineReq
  split
  · exact (steady_of_touches (t := s.takeTag _ _) ((touches_takeTag (Nat.and_self _)).2 .rfl) (by decide) (by decide)).trans steady_sendReq
  · exact ⟨keepsRegs_of_regs rfl, rfl⟩

theorem steady_sendBlock {e : Eng} {tgt : Bool} {key : BitVec 24} {addr dva : Nat} {bs : List PByte} :
    Steady s (s.sendBlock e tgt key addr dva bs) := by
  unfold State.sendBlock
  extract_lets op bad f
  split
  · exact steady_engineReq
  · exact steady_each fun s l _ => steady_engineReq

theorem steady_poolWriteP {o : Nat} {bs : List PByte} : Steady s (s.poolWriteP o bs) :=
  steady_of_touches ((touches_poolWriteP (Nat.and_self _)).2 .rfl) (by decide) (by decide)

theorem steady_putLocal {e : Eng} {key : BitVec 24} {o dva : Nat} {bs : List PByte} : Steady s (s.putLocal e key o dva bs) := by
  unfold State.putLocal
  split
  · exact steady_poolWriteP
  · refine steady_each fun s b _ => ?_
    dsimp only
    split
    · exact steady_poolWriteP
    · exact steady_sendBlock

theorem steady_putRemote {e : Eng} {tgt : Bool} {key : BitVec 24} {addr dva : Nat} {bs : List PByte} :
    Steady s (s.putRemote e tgt key addr dva bs) := steady_each fun _ _ _ => steady_sendBlock

theorem steady_xlatUse {who n dva : Nat} : Steady s (s.xlatUse who n dva) := by
  unfold State.xlatUse
  split
  · exact steady_of_touches ((touches_tlbUse (Nat.and_self _)).2 .rfl) (by decide) (by decide)
  · split
    · exact .rfl
    · exact (steady_of_touches ((touches_walkLoad (Nat.and_self _)).2 .rfl) (by decide) (by decide)).trans (steady_count .walks)

theorem steady_scatter {e : Eng} {fuel dva : Nat} {bs : List PByte} : Steady s (State.scatter e fuel s dva bs).1 := by
  induction fuel generalizing s dva bs with
  | zero => exact .rfl
  | succ n ih =>
    unfold State.scatter
    split
    · exact .rfl
    · extract_lets m
      split
      · exact steady_xlatUse
      · extract_lets a
        split
        · exact (steady_xlatUse.trans steady_putRemote).trans ih
        · split
          · exact steady_xlatUse.trans steady_putLocal
          · exact (steady_xlatUse.trans steady_putLocal).trans ih

/-! ## Completion records -/

theorem steady_deliver {r : Nat} {f : Flight} {c : Cpl} : Steady s (s.deliver r f c) := by
  unfold State.deliver
  extract_lets x c' n addr a b advance written drop
  have hb : Steady s b := by
    unfold b
    split
    · unfold a
      split
      · exact steady_count .dmaDescs
      · exact (steady_count .dmaDescs).trans (steady_count .dmaErrs)
    · exact .rfl
  have hwritten u : Steady u (written u) := steady_updRing.trans steady_updRing
  have hdrop u : Steady u (drop u) := steady_updRing.trans steady_updRing
  clear_value b written drop
  split
  · split
    next s1 k e hscatter =>
    have hs : Steady s s1 := by
      have hfst : (State.scatter _ _ _ _ _).1 = s1 := congrArg Prod.fst hscatter
      rw [← hfst]
      exact hb.trans steady_scatter
    split
    · exact ((hs.trans (hdrop s1)).trans steady_noteRefusal).trans steady_ringError
    · split
      · exact hs.trans (hwritten s1)
      · exact hs.trans (hdrop s1)
  · split
    · exact (hb.trans (hwritten b)).trans (steady_of_touches ((touches_hostWriteP (Nat.and_self _)).2 .rfl) (by decide) (by decide))
    · exact hb.trans (hdrop b)

theorem steady_flushEnded {r n : Nat} : Steady s (State.flushEnded r n s) := by
  induction n generalizing s with
  | zero => exact .rfl
  | succ n ih =>
    unfold State.flushEnded
    extract_lets x next
    clear_value next
    split
    · exact .rfl
    · split
      · exact .rfl
      · exact (steady_updRing.trans steady_deliver).trans ih

theorem steady_settle {r : Nat} : Steady s (s.settle r) := by
  unfold State.settle
  split
  · exact .rfl
  · extract_lets a x b c
    have ha : Steady s a := steady_flushEnded
    split
    · exact ((ha.trans steady_setRing).trans steady_flushEnded).trans steady_updRing
    · exact ha

end Sys2Proof.Machine
end

section
/-! PROOF. The Keeper's commands and its mailbox, and the partition switch (R322, R325, R329, R330, R337 to R341, R388, R389). -/

namespace Sys2Proof.Machine

variable {s t u : State}

/-! ## KPR_CMD (R341) -/

theorem kprCommand_running {port : Nat} {fwStage : Bool} {held : Held} {act : State → State × Byte × Bool} (ho : s.openTo port)
    (hc : s.keeper.cmd ≠ none) : s.kprCommand port fwStage held act = s.setupError port R.kprCmd 4 := by
  obtain ⟨-, -, -, hboot, -⟩ := id ho
  have hsome : s.keeper.cmd.isSome = true := Option.isSome_iff_ne_none.2 hc
  unfold State.kprCommand
  rw [setupWrite_open ho (by simp)]
  simp [hboot, hsome]

theorem sealKeeper_foreign {port : Nat} (h : ¬s.controls port 0 = true) : s.sealKeeper port = (s, St.notOwner, false) := by
  simp [State.sealKeeper, h]

theorem sealKeeper_sealed {port : Nat} (h : s.controls port 0 = true) (hs : s.keeper.sealed = true) :
    s.sealKeeper port = (s, St.badDescriptor, false) := by
  simp [State.sealKeeper, h, hs]

theorem sealKeeper_seals {port : Nat} (h : s.controls port 0 = true) (hs : s.keeper.sealed = false) : s.sealKeeper port =
    (((State.applyEnables { s with
      keeper := { s.keeper with sealed := true, tapLocked := true, measConfig := Config.sha384 s.configStream }
      pwr := { s.pwr with tap := s.pwr.tap.locked } } s).advanceMgen), St.done, false) := by
  unfold State.sealKeeper
  rw [h, hs]
  rfl

theorem setAnchor_foreign {port n : Nat} (h : ¬s.controls port n = true) : s.setAnchor port n = (s, St.notOwner, false) := by
  simp [State.setAnchor, h]

theorem switchPart_foreign {port n : Nat} {erase : Bool} (h : ¬s.controls port n = true) :
    s.switchPart port n erase = (s, St.notOwner, false) := by
  simp [State.switchPart, h]

theorem switchPart_switching {port n : Nat} {erase : Bool} (h : s.controls port n = true) (hw : (s.part n).switching = true) :
    s.switchPart port n erase = (s, St.badDescriptor, false) := by
  simp [State.switchPart, h, hw]

theorem switchPart_scrubs {port n : Nat} {erase : Bool} (h : s.controls port n = true) (hw : (s.part n).switching = false) :
    s.switchPart port n erase = (s.scrub n erase, St.done, true) := by
  unfold State.switchPart
  rw [h, hw]
  rfl

theorem commit_foreign {port : Nat} (h : ¬s.controls port 0 = true) : s.commit port = (s, St.notOwner, false) := by
  simp [State.commit, h]

theorem commit_raises {port : Nat} (h : s.controls port 0 = true) : s.commit port = ({ s with nvm := { s.nvm with
    fuseSvn := if s.nvm.fuseSvn.toNat < s.keeper.svn.toNat then s.keeper.svn else s.nvm.fuseSvn } }, St.done, false) := by
  unfold State.commit
  rw [h]
  rfl

theorem stageFirmware_foreign {port : Nat} {k c : Bool} (h : ¬s.controls port 0 = true) :
    s.stageFirmware port k c = (s, St.notOwner, false) := by
  simp [State.stageFirmware, h]

/-- The two staged arguments of FW_STAGE, and the images they name. -/
def State.stagedOff (s : State) (port : Nat) : Nat := (s.reg (stageOff port (R.kprArg 0))).toNat
def State.stagedLen (s : State) (port : Nat) : Nat := (s.reg (stageOff port (R.kprArg 1))).toNat
def State.stagedKeeper (s : State) (port : Nat) (genuine : Bool) : Image := { genuine, bytes := (s.stagedPair port).1 }
def State.stagedCore (s : State) (port : Nat) (genuine : Bool) : Image := { genuine, bytes := (s.stagedPair port).2 }

/-- Are the staged arguments and images sound (R322, R341)? -/
def State.stagedSound (s : State) (port : Nat) (k c : Bool) : Prop :=
  s.stagedOff port % 4096 = 0 ∧ s.stagedLen port ≤ 16 * 2 ^ 20 ∧ imageOk false (s.stagedKeeper port k) s.nvm.fuseSvn = true ∧
    imageOk true (s.stagedCore port c) s.nvm.fuseSvn = true

theorem stagedSound_iff {port : Nat} {k c : Bool} : ¬s.stagedSound port k c ↔ s.stagedOff port % 4096 ≠ 0 ∨
    16 * 2 ^ 20 < s.stagedLen port ∨ (!imageOk false (s.stagedKeeper port k) s.nvm.fuseSvn) = true ∨
    (!imageOk true (s.stagedCore port c) s.nvm.fuseSvn) = true := by
  unfold State.stagedSound
  simp only [Classical.not_and_iff_not_or_not, Nat.not_le, Bool.not_eq_true, Bool.not_eq_true', ne_eq]

theorem stageFirmware_unsound {port : Nat} {k c : Bool} (h : s.controls port 0 = true) (hs : ¬s.stagedSound port k c) :
    s.stageFirmware port k c = (s, St.badDescriptor, false) := by
  unfold State.stageFirmware
  rw [h]
  exact if_pos (stagedSound_iff.1 hs)

theorem stageFirmware_sound {port : Nat} {k c : Bool} (h : s.controls port 0 = true) (hs : s.stagedSound port k c) :
    s.stageFirmware port k c = ({ s with
      nvm := if s.keeper.copyB then { s.nvm with keeperA := s.stagedKeeper port k, coreA := s.stagedCore port c }
        else { s.nvm with keeperB := s.stagedKeeper port k, coreB := s.stagedCore port c }
      keeper := { s.keeper with stagedSvn := svnOf (s.stagedKeeper port k).bytes } }, St.done, false) := by
  unfold State.stageFirmware
  rw [h]
  exact if_neg fun hbad => stagedSound_iff.2 hbad hs

theorem kprDone_waits {c : KprCmd} (h : s.keeper.cmd = some c) (hw : c.waits = true) : s.kprDone = s := by
  unfold State.kprDone
  rw [h]
  exact if_pos hw

theorem kprDone_ends {c : KprCmd} (h : s.keeper.cmd = some c) (hw : c.waits = false) : s.kprDone = State.vectorH0 { s with keeper :=
    { s.keeper with cmd := none, last := tput (fun _ => 0) s.keeper.last c.port.toNat c.result } } R.kprVector := by
  unfold State.kprDone
  rw [h]
  exact if_neg (by simp [hw])

/-! ## The mailbox (R341) -/

theorem mailboxSend_busy {port : Nat} {len : BitVec 32} (hb : s.keeper.bootFail = false) (h : s.keeper.mbxBusy = true) :
    s.mailboxSend port len = s.setupError port R.kprMbxTxLen 5 := by
  unfold State.mailboxSend
  rw [hb, h]
  rfl

theorem mailboxSend_misfit {port : Nat} {len : BitVec 32} (hb : s.keeper.bootFail = false) (h : s.keeper.mbxBusy = false)
    (hn : fld len 0 11 = 0 ∨ 1024 < fld len 0 11) : s.mailboxSend port len = s.setupError port R.kprMbxTxLen 2 := by
  unfold State.mailboxSend
  rw [hb, h]
  exact if_pos hn

theorem mailboxSend_fits {port : Nat} {len : BitVec 32} (hb : s.keeper.bootFail = false) (h : s.keeper.mbxBusy = false)
    (h0 : 0 < fld len 0 11) (hn : fld len 0 11 ≤ 1024) : s.mailboxSend port len =
      State.setReg { s with keeper := { s.keeper with mbxBusy := true } } R.kprMbxTxLen (BitVec.ofNat 64 (fld len 0 11)) := by
  unfold State.mailboxSend
  rw [hb, h]
  exact if_neg (c := fld len 0 11 = 0 ∨ 1024 < fld len 0 11) (by omega)

theorem mailboxAck_unasked {v : BitVec 32} (h : bit v 0 = false) : s.mailboxAck v = s := by
  unfold State.mailboxAck
  exact if_pos (.inr (by simp [h]))

theorem mailboxAck_last {v : BitVec 32} (hb : s.keeper.bootFail = false) (h : bit v 0 = true) (hr : s.keeper.mbxRest = []) :
    s.mailboxAck v = State.setReg { s with keeper := { s.keeper with mbxFull := false } } R.kprMbxRxLen 0 := by
  unfold State.mailboxAck
  rw [if_neg (by simp [hb, h]), if_neg (by simp [hr])]

theorem mailboxAck_more {v : BitVec 32} (hb : s.keeper.bootFail = false) (h : bit v 0 = true) (hf : s.keeper.mbxFull = true)
    (hr : s.keeper.mbxRest ≠ []) : s.mailboxAck v = s.mailboxLoad s.keeper.mbxRest := by
  unfold State.mailboxAck
  rw [if_neg (by simp [hb, h]), if_pos ⟨hf, hr⟩]

theorem mailboxLoad_keeper {bytes : List Byte} :
    (s.mailboxLoad bytes).keeper = { s.keeper with mbxFull := true, mbxRest := bytes.drop 1024 } := by
  have h : Touches 386 { s with keeper := { s.keeper with mbxFull := true, mbxRest := bytes.drop 1024 } } (s.mailboxLoad bytes) := by
    simp [State.mailboxLoad]
  exact (h .keeper (by decide)).symm

theorem reg_vectorH0 {off k : Nat} : (s.vectorH0 off).reg k = s.reg k := reg_of_touches ((touches_vectorH0 (Nat.and_self _)).2 .rfl) k

theorem mailboxLoad_length {bytes : List Byte} :
    (s.mailboxLoad bytes).reg R.kprMbxRxLen = BitVec.ofNat 64 (min 1024 bytes.length + 2 ^ 31) := by
  unfold State.mailboxLoad
  rw [reg_vectorH0, reg_setReg_same, List.length_take]

/-! ## What a switch scrubs (R339) -/

theorem tget_tmap {α : Type} [DecidableEq α] {d : Nat → α} {f : Nat → α → α} {t : Tbl α} {k : Nat} {P : α → Prop} (hd : P (d k))
    (hf : ∀ a, P (f k a)) : P (tget d (tmap d f t) k) := by
  suffices h : ∀ acc, P (tget d acc k) → P (tget d (t.foldl (fun acc e => tput d acc e.1 (f e.1 e.2)) acc) k) from h [] hd
  induction t with
  | nil => exact fun _ h => h
  | cons e t ih =>
    intro acc h
    refine ih _ ?_
    by_cases hk : k = e.1
    · subst hk
      rw [tget_tput_same]
      exact hf _
    · rwa [tget_tput_other d hk]

theorem scrubbed_data {n : Tenant} {c : CLine} (h : (c.scrubbed n).tenant = n) : (c.scrubbed n).data = 0 := by
  unfold CLine.scrubbed at h ⊢
  split
  · rename_i hn
    rw [if_pos hn] at h
    exact absurd h hn
  · split <;> rfl

/-! ## The end of a switch (R339) -/

theorem not_reports_kprMgen : ¬Reports R.kprMgen := by
  suffices h : ∀ k, Reports k → k ≠ R.kprMgen from fun hr => h _ hr rfl
  intro k h
  cases h
  case severity n => simp only [R.rasSevTotal, R.kprMgen]; omega
  case lastingCore n _ => simp only [R.rasLastingCore, R.kprMgen]; omega
  all_goals decide

/-- The partition's regions stop, its keys go one by one, and with ERASE its translations too. -/
def State.switchClears (s : State) (n : Nat) : State :=
  let a := (s.each (s.boundRegions n none) fun s r => s.regionClear r n (s.regionKey r)).each (s.part n).keys fun s _ => s.advanceMgen
  if (s.part n).erase then (a.putRoot n noRoot).dropXlat (BitVec.ofNat 4 n) true 0 0 else a

/-- The partition is switched, and the command that waited for it waits no longer. -/
def State.switchApplied (s : State) (n : Nat) : State :=
  let a := (s.updPart n Part.switched).advanceMgen
  { a with keeper := { a.keeper with cmd := a.keeper.cmd.map fun (c : KprCmd) => { c with waits := false } } }

/-- The records of the partition's rings, which waited for the switch. -/
def State.switchSettles (s : State) (n : Nat) : State := s.each (s.openRings.filter fun r => (s.ring r).tenant == n) State.settle

theorem switchEnds_eq {n : Nat} (h : (s.part n).switching = true) : ∃ u : State, u = ((s.switchClears n).switchApplied n).switchSettles n ∧
    s.switchEnds n = if u.ras.resetWaits ∧ !((List.range 16).any fun p => (u.part p).switching) then u.resetBegin else u := by
  refine ⟨_, rfl, ?_⟩
  unfold State.switchEnds
  exact if_neg (by simp [h])

theorem mgen_advances {α : Type} {l : List α} : (s.each l fun s _ => s.advanceMgen).reg R.kprMgen = s.reg R.kprMgen + BitVec.ofNat 64 l.length := by
  induction l generalizing s with
  | nil => exact (BitVec.add_zero _).symm
  | cons a l ih =>
    refine (ih (s := s.advanceMgen)).trans ?_
    rw [State.advanceMgen, reg_setReg_same, BitVec.add_assoc, List.length_cons, Nat.add_comm, BitVec.ofNat_add]
    rfl

theorem mgen_switchClears {n : Nat} (hn : n < 16) : (s.switchClears n).reg R.kprMgen = s.reg R.kprMgen +
    BitVec.ofNat 64 (((s.boundRegions n none).filter s.regionValid).length + (s.part n).keys.length) := by
  unfold State.switchClears
  extract_lets a
  have ha : a.reg R.kprMgen = s.reg R.kprMgen +
      BitVec.ofNat 64 (((s.boundRegions n none).filter s.regionValid).length + (s.part n).keys.length) := by
    refine mgen_advances.trans ?_
    rw [mgen_regionsClear (key := fun s r => s.regionKey r) boundRegions_nodup, BitVec.add_assoc, BitVec.ofNat_add]
  split
  · have hroot : (a.putRoot n noRoot).reg R.kprMgen = a.reg R.kprMgen :=
      reg_setReg_other (by simp only [R.kprMgen, R.xltRoot]; omega)
    exact (reg_of_touches ((touches_dropXlat (Nat.and_self _)).2 .rfl) _).trans (hroot.trans ha)
  · exact ha

theorem switchClears_ras {n : Nat} : (s.switchClears n).ras = s.ras := by
  have h : Touches (18451247673336922240 ||| 1970324836978688) s (s.switchClears n) := by
    unfold State.switchClears
    extract_lets a
    have ha : Touches (18451247673336922240 ||| 1970324836978688) s a := by simp [a]
    split
    · simpa using ha
    · exact ha
  exact ras_of_touches h

theorem mgen_switchApplied {n : Nat} : (s.switchApplied n).reg R.kprMgen = s.reg R.kprMgen + 1 := reg_setReg_same

theorem steady_switchSettles {n : Nat} : Steady s (s.switchSettles n) := steady_each fun _ _ _ => steady_settle

theorem switchSettles_keeper {n : Nat} : (s.switchSettles n).keeper = s.keeper := by
  have h : Touches 664687117551710241670 s (s.switchSettles n) := by simp [State.switchSettles]
  exact (h .keeper (by decide)).symm

theorem mgen_switchEnds {n : Nat} (hn : n < 16) (h : (s.part n).switching = true) (hw : s.ras.resetWaits = false) :
    (s.switchEnds n).reg R.kprMgen = s.reg R.kprMgen +
      BitVec.ofNat 64 (1 + (s.part n).keys.length + ((s.boundRegions n none).filter s.regionValid).length) := by
  obtain ⟨u, hu, he⟩ := switchEnds_eq h
  have hsteady : Steady ((s.switchClears n).switchApplied n) u := hu ▸ steady_switchSettles
  have hras : u.ras.resetWaits = false := by
    have hstand : u.ras.standing = s.ras.standing := hsteady.ras.trans (congrArg Ras.standing switchClears_ras)
    exact (congrArg Ras.resetWaits hstand).trans hw
  rw [he, if_neg (by simp [hras]), hsteady.regs _ not_reports_kprMgen, mgen_switchApplied, mgen_switchClears hn, BitVec.add_assoc]
  congr 1
  rw [Nat.add_assoc, Nat.add_comm 1, Nat.add_comm (s.part n).keys.length]
  exact (BitVec.ofNat_add _ 1).symm

theorem switchEnds_cmd {n : Nat} {c : KprCmd} (h : (s.part n).switching = true) (hc : (s.switchEnds n).keeper.cmd = some c) : c.waits = false := by
  obtain ⟨u, hu, he⟩ := switchEnds_eq h
  have hkeeper : (s.switchEnds n).keeper = u.keeper := by
    rw [he]
    split
    · exact (((touches_resetBegin (Nat.and_self _)).2 .rfl : Touches _ u _) .keeper (by decide)).symm
    · rfl
  rw [hkeeper, hu, switchSettles_keeper] at hc
  obtain ⟨d, -, rfl⟩ := Option.map_eq_some_iff.1 hc
  rfl

theorem switched_switches {x : Part} : x.switched.switches.toNat = min (2 ^ 32 - 1) (x.switches.toNat + 1) := by
  have hs : x.switched.switches = if x.switches = 0xFFFFFFFF then x.switches else x.switches + 1 := by
    unfold Part.switched
    cases x.erase <;> rfl
  rw [hs]
  split
  · rename_i hmax
    rw [hmax]
    decide
  · bv_omega

end Sys2Proof.Machine

open Sys2Proof Sys2Proof.Machine

/-- The commands of the Keeper and its mailbox, each by what its gate and its action come to. -/
theorem keeperCommandsRun : Claims.KeeperCommandsRun := by
  refine ⟨fun s port t erase keeper core ho => ?_, fun s c hc => ⟨fun hw => next_congr (kprDone_waits hc hw), fun hw => next_congr (kprDone_ends hc hw)⟩,
    fun s port len ho => ?_⟩
  · intro p n takes idle zero own
    have hruns {c : Instr} {fwStage : Bool} {held : Held} {act : State → State × Byte × Bool} {u : State} {st : Byte} {waits : Bool}
        (he : exec c s = .next (s.kprCommand p fwStage held act)) (hidle : idle) (ha : act s = (u, st, waits)) : takes c u st waits :=
      he.trans (next_congr (kprCommand_open ho hidle ha))
    refine ⟨fun hbusy c hmem => ?_, fun hidle hzero c hmem => ?_, fun hidle hown c hmem => ?_,
      fun hidle hzero hs => hruns rfl hidle (sealKeeper_sealed hzero hs), fun hidle hzero hs => hruns rfl hidle (sealKeeper_seals hzero hs),
      fun hidle hown hb => hruns rfl hidle (setAnchor_of_busy hown hb),
      fun hidle hown hk hw => hruns rfl hidle (setAnchor_of_unkeyed hown hk hw),
      fun hidle hown hw => hruns rfl hidle (switchPart_switching hown hw), fun hidle hown hw => hruns rfl hidle (switchPart_scrubs hown hw),
      fun hidle hzero => ⟨fun hs => hruns rfl hidle (stageFirmware_unsound hzero hs), fun hs => hruns rfl hidle (stageFirmware_sound hzero hs)⟩,
      fun hidle hzero => hruns rfl hidle (commit_raises hzero)⟩
    · simp only [List.mem_cons, List.not_mem_nil, or_false] at hmem
      rcases hmem with rfl | rfl | rfl | rfl | rfl <;> exact next_congr (kprCommand_running ho hbusy)
    · simp only [List.mem_cons, List.not_mem_nil, or_false] at hmem
      rcases hmem with rfl | rfl | rfl
      · exact hruns rfl hidle (sealKeeper_foreign hzero)
      · exact hruns rfl hidle (stageFirmware_foreign hzero)
      · exact hruns rfl hidle (commit_foreign hzero)
    · simp only [List.mem_cons, List.not_mem_nil, or_false] at hmem
      rcases hmem with rfl | rfl
      · exact hruns rfl hidle (setAnchor_foreign hown)
      · exact hruns rfl hidle (switchPart_foreign hown)
  · intro n
    obtain ⟨-, -, -, hboot, -⟩ := id ho
    have hsend : exec (.mailboxSend port len) s = .next (s.mailboxSend port.toNat len) := next_congr (setupWrite_open ho (by simp))
    have hack : exec (.mailboxRxAck port len) s = .next (s.mailboxAck len) := next_congr (setupWrite_open ho (by simp))
    refine ⟨fun hb => hsend.trans (next_congr (mailboxSend_busy hboot hb)),
      fun hb hn => hsend.trans (next_congr (mailboxSend_misfit hboot hb hn)),
      fun hb h0 hn => hsend.trans (next_congr (mailboxSend_fits hboot hb h0 hn)),
      fun hv hr => hack.trans (next_congr (mailboxAck_last hboot hv hr)), fun hv hf hr => ⟨_, hack.trans (next_congr (mailboxAck_more hboot hv hf hr)), ?_⟩,
      fun hv => hack.trans (next_congr (mailboxAck_unasked hv))⟩
    rw [mailboxLoad_keeper]
    exact ⟨rfl, rfl, mailboxLoad_length⟩

/-- What a switch scrubs, by the filters of its caches; and its end, by the partition it switches. -/
theorem switchesScrubAndEnd : Claims.SwitchesScrubAndEnd := by
  refine ⟨fun s t => ?_, fun s t hw => ⟨_, rfl, ?_⟩⟩
  · intro u
    refine ⟨fun e he => by simpa using (List.mem_filter.1 he).2, fun e he ht => ?_, fun g l => ?_⟩
    · obtain ⟨d, -, rfl⟩ := List.mem_map.1 he
      by_cases hd : d.2.tenant = t
      · simp [hd]
      · exact absurd ht (by simp [hd])
    · exact tget_tmap (d := fun _ => CLine.none) (f := fun _ c => c.scrubbed t) (P := fun c : CLine => c.tenant = t → c.data = 0) (fun _ => rfl) fun c => scrubbed_data
  · have hpart {v : Nat} : ((s.switchEnds t.toNat).part v) = if v = t.toNat then (s.part t.toNat).switched else s.part v := part_switchEnds hw
    have hsame : (s.switchEnds t.toNat).part t.toNat = (s.part t.toNat).switched := hpart.trans (if_pos rfl)
    rw [hsame]
    refine ⟨?_, ?_, switched_switches, fun he => ?_, fun he => ?_, fun v hv => hpart.trans (if_neg hv), fun hr => mgen_switchEnds t.isLt hw hr,
      fun c => switchEnds_cmd hw⟩
    all_goals unfold Part.switched
    · cases (s.part t.toNat).erase <;> rfl
    · cases (s.part t.toNat).erase <;> rfl
    · rw [he]
      exact ⟨rfl, rfl, rfl⟩
    · rw [he]
      exact ⟨rfl, rfl, rfl⟩

/-- Settles O42: the Keeper's commands, and what a switch scrubs and leaves. -/
theorem keeperCommandsAndSwitches : Obligations.KeeperCommandsAndSwitches := ⟨keeperCommandsRun, switchesScrubAndEnd⟩

end

section
/-! PROOF. What the Keeper answers: MCTP control, PLDM and SPDM (R324, R326 to R328, R341). -/

namespace Sys2Proof.Machine

variable {s t u : State}

theorem asked_up {b : Nat} {act : State → State} (h : s.bindingUp b = true) : s.asked? b act = act s := if_pos h

/-! ## MCTP control and PLDM (R327) -/

theorem setEid_reserved {b : Nat} {eid : Byte} (h : eid = 0 ∨ eid = 0xFF) : s.setEid b eid = s.say b [0, 1, 2] := by
  unfold State.setEid
  exact if_pos h

theorem setEid_taken {b : Nat} {eid : Byte} (h : eid ≠ 0) (h' : eid ≠ 0xFF) : s.setEid b eid = State.say { s with
    keeper := { s.keeper with eids := tput (fun _ => 0) s.keeper.eids b eid } } b [0, 1, 0, 0, eid, 0] := by
  unfold State.setEid
  exact if_neg (not_or.2 ⟨h, h'⟩)

theorem mctpVersion_known {b : Nat} {type : Byte} (h : type ∈ ([0, 1, 5, 6, 0xFF] : List Byte)) :
    s.mctpVersion b type = s.say b ([0, 4, 0] ++ Config.pldmBody [4, type] []) := by
  have hknown : type = 0xFF ∨ mctpTypes.contains type = true := by
    simp only [List.mem_cons, List.not_mem_nil, or_false] at h
    rcases h with rfl | rfl | rfl | rfl | rfl <;> decide
  unfold State.mctpVersion
  rw [if_pos hknown]
  rfl

theorem mctpVersion_unknown {b : Nat} {type : Byte} (h : type ∉ ([0, 1, 5, 6, 0xFF] : List Byte)) :
    s.mctpVersion b type = s.say b [0, 4, 0x80] := by
  have hunknown : ¬(type = 0xFF ∨ mctpTypes.contains type = true) := by
    rintro (rfl | ht)
    · simp at h
    · exact h (List.mem_append_left [0xFF] (List.contains_iff_mem.1 ht))
  unfold State.mctpVersion
  rw [if_neg hunknown]
  rfl

theorem unsupported_answered {b : Nat} {command : Byte} (h : command ∉ ([1, 2, 4, 5] : List Byte)) :
    s.unsupported b command = s.say b [0, command, 5] := by
  unfold State.unsupported State.control
  rw [if_neg (by simpa using h), BitVec.ofNat_toNat, BitVec.setWidth_eq]
  rfl

theorem say_mailbox {bytes : List Byte} :
    s.say mailboxBinding bytes = State.mailboxLoad { s with keeper := { s.keeper with mbxBusy := false } } bytes := if_pos rfl

theorem say_elsewhere {binding : BitVec 3} {bytes : List Byte} (h : binding.toNat ≠ mailboxBinding) :
    s.say binding.toNat bytes = s.emit (.mctp binding bytes) := by
  unfold State.say
  rw [if_neg h, BitVec.ofNat_toNat, BitVec.setWidth_eq]

/-! ## SPDM requests (R328) -/

theorem spdmRequest_early {b code need : Nat} {body content : List Byte} {act : State → State} (hb : s.bindingUp b = true)
    (h : s.conn b < need) : s.spdmRequest b code need body content act = s.spdmFail b 4 := (asked_up hb).trans (if_pos h)

theorem spdmRequest_answered {b code need : Nat} {body content : List Byte} {act : State → State} (hb : s.bindingUp b = true)
    (h : need ≤ s.conn b) : s.spdmRequest b code need body content act = (act s).spdmSay b 0x05 (Config.spdmBody code body content) :=
  (asked_up hb).trans (if_neg (Nat.not_lt.2 h))

theorem spdmAlgorithms_early {b : Nat} {body : List Byte} {common : Bool} (hb : s.bindingUp b = true) (h : s.conn b < 2) :
    s.spdmAlgorithms b body common = s.spdmFail b 4 := by
  unfold State.spdmAlgorithms
  cases common
  · rw [if_pos (by decide), asked_up hb, if_pos h]
  · exact spdmRequest_early hb h

theorem spdmAlgorithms_none {b : Nat} {body : List Byte} (hb : s.bindingUp b = true) (h : 2 ≤ s.conn b) :
    s.spdmAlgorithms b body false = s.spdmFail b 1 := by
  unfold State.spdmAlgorithms
  rw [if_pos (by decide), asked_up hb, if_neg (Nat.not_lt.2 h)]

theorem spdmAlgorithms_common {b : Nat} {body : List Byte} (hb : s.bindingUp b = true) (h : 2 ≤ s.conn b) :
    s.spdmAlgorithms b body true = (s.setConn b 3).spdmSay b 5 (Config.spdmBody 0xE3 body []) := by
  unfold State.spdmAlgorithms
  exact spdmRequest_answered hb h

theorem spdmSlot_early {b code : Nat} {slot : Byte} {body : List Byte} (hb : s.bindingUp b = true) (h : s.conn b < 3) :
    s.spdmSlot b code slot body = s.spdmFail b 4 := by
  unfold State.spdmSlot
  refine (asked_up hb).trans ?_
  rw [if_neg fun hs => Nat.not_lt.2 hs.1 h]
  exact spdmRequest_early hb h

theorem spdmSlot_zero {b code : Nat} {body : List Byte} (hb : s.bindingUp b = true) (h : 3 ≤ s.conn b) :
    s.spdmSlot b code 0 body = s.spdmSay b 5 (Config.spdmBody code body s.nvm.chain) := by
  unfold State.spdmSlot
  refine (asked_up hb).trans ?_
  rw [if_neg (by simp)]
  exact spdmRequest_answered hb h

theorem spdmSlot_other {b code : Nat} {slot : Byte} {body : List Byte} (hb : s.bindingUp b = true) (h : 3 ≤ s.conn b) (hs : slot ≠ 0) :
    s.spdmSlot b code slot body = s.spdmFail b 1 := by
  unfold State.spdmSlot
  exact (asked_up hb).trans (if_pos ⟨h, hs⟩)

theorem challenge_early {b : Nat} {slot : Byte} {body : List Byte} (hb : s.bindingUp b = true) (h : s.conn b < 3) :
    s.challenge b slot body = s.spdmFail b 4 := (asked_up hb).trans (if_pos h)

theorem challenge_zero {b : Nat} {body : List Byte} (hb : s.bindingUp b = true) (h : 3 ≤ s.conn b) :
    s.challenge b 0 body = s.spdmSay b 5 (Config.spdmSigned s.identity 0x83 body s.nvm.chain) := by
  unfold State.challenge
  refine (asked_up hb).trans ?_
  rw [if_neg (Nat.not_lt.2 h)]
  rfl

theorem challenge_other {b : Nat} {slot : Byte} {body : List Byte} (hb : s.bindingUp b = true) (h : 3 ≤ s.conn b) (hs : slot ≠ 0) :
    s.challenge b slot body = s.spdmFail b 1 := by
  unfold State.challenge
  refine (asked_up hb).trans ?_
  rw [if_neg (Nat.not_lt.2 h), if_pos hs]

theorem keyExchange_early {b : Nat} {body : List Byte} (hb : s.bindingUp b = true) (h : s.conn b < 3) :
    s.keyExchange b body = s.spdmFail b 4 := (asked_up hb).trans (if_pos h)

theorem least_some {p : Nat → Bool} {n i : Nat} (hi : i < n) (hp : p i = true) (hlow : ∀ j < i, p j = false) : least p n = some i := by
  unfold least
  rw [List.find?_range_eq_some]
  exact ⟨hp, List.mem_range.2 hi, fun j hj => by simp [hlow j hj]⟩

theorem least_none {p : Nat → Bool} {n : Nat} (h : ∀ i < n, p i = false) : least p n = none :=
  List.find?_eq_none.2 fun i hi => by simp [h i (List.mem_range.1 hi)]

theorem keyExchange_opens {b i : Nat} {body : List Byte} (hb : s.bindingUp b = true) (h : 3 ≤ s.conn b) (hi : i < 4) (hfree : s.spdm i = none)
    (hlow : ∀ j < i, s.spdm j ≠ none) : s.keyExchange b body =
      (s.setSpdm i { binding := b, finished := false, mutually := false, root := 0, report := none }).spdmSay b 5
        (Config.spdmSigned s.identity 0xE4 body [BitVec.ofNat 8 i]) := by
  have hleast : least (fun i => (s.spdm i).isNone) 4 = some i := least_some hi (by simp [hfree]) fun j hj => by simpa [Option.isSome_iff_ne_none] using hlow j hj
  unfold State.keyExchange
  refine (asked_up hb).trans ?_
  rw [if_neg (Nat.not_lt.2 h), hleast]
  rfl

theorem keyExchange_full {b : Nat} {body : List Byte} (hb : s.bindingUp b = true) (h : 3 ≤ s.conn b) (hfull : ∀ i < 4, s.spdm i ≠ none) :
    s.keyExchange b body = s.spdmFail b 0x0A := by
  have hleast : least (fun i => (s.spdm i).isNone) 4 = none := least_none fun i hi => by simpa [Option.isSome_iff_ne_none] using hfull i hi
  unfold State.keyExchange
  refine (asked_up hb).trans ?_
  rw [if_neg (Nat.not_lt.2 h), hleast]

theorem chunkIn_early {b handle seq : Nat} {last : Bool} {body : List Byte} (hb : s.bindingUp b = true) (h : s.conn b < 3) :
    s.chunkIn b handle seq last body = s.spdmFail b 4 := (asked_up hb).trans (if_pos h)

theorem chunkIn_taken {b handle seq : Nat} {last : Bool} {body : List Byte} (hb : s.bindingUp b = true) (h : 3 ≤ s.conn b) :
    s.chunkIn b handle seq last body =
      (s.setChunkIn b (if last then [] else (if seq = 0 then [] else tget (fun _ => []) s.keeper.chunkIn b) ++ body)).spdmSay
        b 5 (Config.spdmBody 0x85 [BitVec.ofNat 8 handle, BitVec.ofNat 8 seq] []) :=
  (asked_up hb).trans (if_neg (Nat.not_lt.2 h))

theorem chunkGet_early {b handle seq : Nat} (hb : s.bindingUp b = true) (h : s.conn b < 3) : s.chunkGet b handle seq = s.spdmFail b 4 :=
  (asked_up hb).trans (if_pos h)

theorem chunkGet_past {b handle seq : Nat} (hb : s.bindingUp b = true) (h : 3 ≤ s.conn b)
    (hl : (tget (fun _ => []) s.keeper.chunkOut b).length ≤ 1024 * seq) : s.chunkGet b handle seq = s.spdmFail b 1 := by
  unfold State.chunkGet
  refine (asked_up hb).trans ?_
  rw [if_neg (Nat.not_lt.2 h)]
  exact if_pos hl

theorem chunkGet_part {b handle seq : Nat} (hb : s.bindingUp b = true) (h : 3 ≤ s.conn b)
    (hl : 1024 * seq < (tget (fun _ => []) s.keeper.chunkOut b).length) :
    let whole := tget (fun _ => []) s.keeper.chunkOut b
    s.chunkGet b handle seq = (if whole.length ≤ 1024 * (seq + 1) then s.setChunkOut b [] else s).say b (5 :: Config.spdmBody 0x86
      [BitVec.ofNat 8 handle, BitVec.ofNat 8 seq] (slice whole (1024 * seq) (min 1024 (whole.length - 1024 * seq)))) := by
  unfold State.chunkGet
  refine (asked_up hb).trans ?_
  rw [if_neg (Nat.not_lt.2 h)]
  exact if_neg (Nat.not_le.2 hl)

/-! ## GET_MEASUREMENTS (R326) -/

/-- Measurements requested outside a session are answered like those of no session. -/
theorem getMeasurements_none {b index : Nat} {signed : Bool} {body : List Byte} (hb : s.bindingUp b = true) (h : 3 ≤ s.conn b)
    (hm : s.measurement index = none) : s.getMeasurements b none index signed body = s.say b [5, 0x13, 0x7F, 1, 0] := by
  unfold State.getMeasurements
  refine (asked_up hb).trans ?_
  rw [if_neg (Nat.not_lt.2 h)]
  dsimp only
  rw [hm]
  rfl

theorem getMeasurements_content {b index : Nat} {signed : Bool} {body content : List Byte} (hb : s.bindingUp b = true) (h : 3 ≤ s.conn b)
    (hm : s.measurement index = some (content, false)) : s.getMeasurements b none index signed body =
      s.spdmSay b 5 (if signed then Config.spdmSigned s.identity 0xE0 (BitVec.ofNat 8 index :: (if signed then 1 else 0) :: body) content
        else Config.spdmBody 0xE0 (BitVec.ofNat 8 index :: (if signed then 1 else 0) :: body) content) := by
  unfold State.getMeasurements
  refine (asked_up hb).trans ?_
  rw [if_neg (Nat.not_lt.2 h)]
  dsimp only
  rw [hm]
  dsimp only
  rw [if_neg (by decide), hm]
  rfl

theorem say_keeper {b : Nat} {bytes : List Byte} : ∃ busy full rest,
    (s.say b bytes).keeper = { s.keeper with mbxBusy := busy, mbxFull := full, mbxRest := rest } := by
  unfold State.say
  split
  · exact ⟨_, _, _, mailboxLoad_keeper⟩
  · exact ⟨_, _, _, rfl⟩

theorem spdmSay_keeper {b : Nat} {type : Byte} {body : List Byte} : ∃ chunks busy full rest,
    (s.spdmSay b type body).keeper = { s.keeper with chunkOut := chunks, mbxBusy := busy, mbxFull := full, mbxRest := rest } := by
  unfold State.spdmSay
  split
  · obtain ⟨busy, full, rest, h⟩ := say_keeper (s := s.setChunkOut b body) (b := b) (bytes := type :: spdmError 0x0F 0)
    exact ⟨_, busy, full, rest, h⟩
  · obtain ⟨busy, full, rest, h⟩ := say_keeper (s := s) (b := b) (bytes := type :: body)
    exact ⟨_, busy, full, rest, h⟩

theorem spdmSay_reports {b : Nat} {type : Byte} {body : List Byte} : (s.spdmSay b type body).keeper.reports = s.keeper.reports := by
  obtain ⟨_, _, _, _, h⟩ := spdmSay_keeper (s := s) (b := b) (type := type) (body := body)
  rw [h]

theorem spdm_spdmSay {b i : Nat} {type : Byte} {body : List Byte} : (s.spdmSay b type body).spdm i = s.spdm i := by
  obtain ⟨_, _, _, _, h⟩ := spdmSay_keeper (s := s) (b := b) (type := type) (body := body)
  unfold State.spdm
  rw [h]

/-- A measurement with the report counts it. -/
def State.reportCounted (s : State) : State := { s with keeper := { s.keeper with reports := s.keeper.reports + 1 } }

/-- A signed report within a session is noted with its time and generation. -/
def State.reportNoted (s : State) (i : Nat) (x : Spdm) (noted : Bool) : State :=
  if noted then s.setSpdm i { x with report := some (s.time, s.reg R.kprMgen) } else s

theorem getMeasurements_report {b i index : Nat} {signed : Bool} {body content : List Byte} {x : Spdm} (hx : s.spdm i = some x)
    (hf : x.finished = true) (hb : s.bindingUp x.binding = true) (hm : s.measurement index = some (content, true)) :
    ∃ answer, s.getMeasurements b (some i) index signed body =
      (s.reportCounted.reportNoted i x (true && signed && index == 0xF0)).spdmSay x.binding 6 answer := by
  unfold State.getMeasurements
  dsimp only
  rw [inSession_finished hx hf hb, hm]
  exact ⟨_, rfl⟩

theorem measurement_report {index : Byte} (h : index = 0xF0 ∨ index = 0xFF) : ∃ content, s.measurement index.toNat = some (content, true) := by
  rcases h with rfl | rfl
  · exact ⟨_, rfl⟩
  · exact ⟨_, rfl⟩

theorem finishSession_verified {i : Nat} {mutually : Bool} {root : BitVec 384} {x : Spdm} (hx : s.spdm i = some x) (hb : s.bindingUp x.binding = true)
    (hf : x.finished = false) : s.finishSession i mutually root true =
      (s.setSpdm i { x with finished := true, mutually, root := if mutually then root else 0 }).spdmSay x.binding 6 (Config.spdmBody 0xE5 [] []) := by
  unfold State.finishSession
  rw [hx]
  dsimp only
  rw [asked_up hb, if_neg (by simp [hf])]
  rfl

theorem finishSession_failed {i : Nat} {mutually : Bool} {root : BitVec 384} {x : Spdm} (hx : s.spdm i = some x) (hb : s.bindingUp x.binding = true)
    (hf : x.finished = false) : s.finishSession i mutually root false = (s.dropSpdm i).say x.binding [6, 0x13, 0x7F, 6, 0] := by
  unfold State.finishSession
  rw [hx]
  dsimp only
  rw [asked_up hb, if_neg (by simp [hf])]
  rfl

theorem inSession_unfinished {i : Nat} {act : State → Spdm → State} {x : Spdm} (hx : s.spdm i = some x) (hf : x.finished = false)
    (hb : s.bindingUp x.binding = true) : s.inSession i act = s.say x.binding [6, 0x13, 0x7F, 4, 0] := by
  unfold State.inSession
  rw [hx]
  dsimp only
  rw [asked_up hb, if_neg (by simp [hf])]
  rfl

end Sys2Proof.Machine

open Sys2Proof Sys2Proof.Machine

/-- MCTP control and PLDM: each command's answer over a binding that is up. -/
theorem managementMessagesAreAnswered : Claims.ManagementMessagesAreAnswered := by
  intro s binding b hb
  refine ⟨fun eid => ⟨fun h => next_congr ((asked_up hb).trans (setEid_reserved h)), fun h h' => next_congr ((asked_up hb).trans (setEid_taken h h'))⟩,
    next_congr (asked_up hb), next_congr (asked_up hb), fun type => ⟨fun h => next_congr ((asked_up hb).trans (mctpVersion_known h)),
      fun h => next_congr ((asked_up hb).trans (mctpVersion_unknown h))⟩,
    fun command h => next_congr ((asked_up hb).trans (unsupported_answered h)), fun sensor body => next_congr ((asked_up hb).trans ?_),
    fun h bytes => ?_, fun h bytes => say_elsewhere h⟩
  · cases sensorReg sensor.toNat <;> rfl
  · rw [h, say_mailbox, mailboxLoad_keeper]
    exact ⟨rfl, rfl⟩

/-- SPDM: each request's answer, as far as its connection or its session has come. -/
theorem spdmRequestsAreAnswered : Claims.SpdmRequestsAreAnswered := by
  refine ⟨fun s binding body => ?_, fun s session x => ?_⟩
  · intro b n unexpected hb
    refine ⟨next_congr (spdmRequest_answered hb (Nat.zero_le _)), fun h => next_congr (spdmRequest_early hb h),
      fun h => next_congr (spdmRequest_answered hb h), fun h common => next_congr (spdmAlgorithms_early hb h),
      fun h => ⟨next_congr (spdmAlgorithms_common hb h), next_congr (spdmAlgorithms_none hb h)⟩, fun h slot handle seq last c hc => ?_,
      fun h => ⟨next_congr (spdmSlot_zero hb h), next_congr (spdmSlot_zero hb h), next_congr (challenge_zero hb h),
        fun slot hs => ⟨next_congr (spdmSlot_other hb h hs), next_congr (challenge_other hb h hs)⟩,
        fun i hi hfree hlow => next_congr (keyExchange_opens hb h hi hfree hlow), fun hfull => next_congr (keyExchange_full hb h hfull),
        fun handle seq last => next_congr (chunkIn_taken hb h), fun handle seq => ?_⟩,
      fun h index signed hm => next_congr (getMeasurements_none hb h hm),
      fun h index signed content hm => next_congr (getMeasurements_content hb h hm)⟩
    · simp only [List.mem_cons, List.not_mem_nil, or_false] at hc
      rcases hc with rfl | rfl | rfl | rfl | rfl | rfl
      · exact next_congr (spdmSlot_early hb h)
      · exact next_congr (spdmSlot_early hb h)
      · exact next_congr (challenge_early hb h)
      · exact next_congr (keyExchange_early hb h)
      · exact next_congr (chunkIn_early hb h)
      · exact next_congr (chunkGet_early hb h)
    · intro whole k
      exact ⟨fun hl => next_congr (chunkGet_past hb h hl), fun hl => next_congr (chunkGet_part hb h hl)⟩
  · intro i hx hb
    refine ⟨fun mutually root => ⟨fun hf => next_congr (finishSession_verified hx hb hf), fun hf => next_congr (finishSession_failed hx hb hf)⟩,
      fun hf body => ⟨next_congr (inSession_finished hx hf hb), next_congr (inSession_finished hx hf hb), next_congr (inSession_finished hx hf hb),
        fun binding index signed hi => ?_⟩, fun hf body c hc => ?_⟩
    · obtain ⟨content, hm⟩ := measurement_report (s := s) hi
      obtain ⟨answer, he⟩ := getMeasurements_report (b := binding.toNat) (signed := signed) (body := body) hx hf hb hm
      refine ⟨_, next_congr he, ?_, fun hs hindex => ?_, fun hs => ?_⟩
      · rw [spdmSay_reports]
        unfold State.reportNoted
        split <;> rfl
      · subst hs hindex
        rw [spdm_spdmSay]
        exact lget_lput_same
      · have hunnoted : (true && signed && index.toNat == 0xF0) = false := by
          rcases hs with rfl | rfl
          · rfl
          · cases signed <;> rfl
        rw [spdm_spdmSay, hunnoted]
        exact hx
    · simp only [List.mem_cons, List.not_mem_nil, or_false] at hc
      rcases hc with rfl | rfl | rfl <;> exact next_congr (inSession_unfinished hx hf hb)

/-- Settles O43: management messages and SPDM requests, each by its own answer. -/
theorem keeperAnswers : Obligations.KeeperAnswers := ⟨managementMessagesAreAnswered, spdmRequestsAreAnswered⟩

end

section
/-! PROOF. ROT_CHANGE_AT, sentence books, and RUN set and cleared (R62, R63, R65 to R70, R90, R91, R228). -/

namespace Sys2Proof.Machine

variable {s t u : State} {port : Nat}

/-- A set-up write that partition 0 owns, through an open port that controls it. -/
theorem setupWrite_owned {off : Nat} {fog : Bool} {held : Held} {act : State → State} (ho : s.openTo port) (hc : s.controls port 0 = true) :
    s.setupWrite port off (some 0) fog held act = act s := setupWrite_open ho (by simp [hc])

/-! ## ROT_CHANGE_AT (R63, R70) -/

theorem changeAt_locked {n : Word} (h : s.changeLocked = true) : s.changeAt port n = s.setupError port R.rotChangeAt 5 := by
  unfold State.changeAt
  exact if_pos h

theorem changeAt_back (h : ¬s.changeLocked = true) : s.changeAt port 0 = (s.setReg R.rotChangeAt 0).updRot fun r => { r with pending := false } := by
  unfold State.changeAt
  rw [if_neg h, if_pos rfl]

theorem changeAt_past {n : Word} (h : n ≠ 0) (hn : n.toNat ≤ s.rotNo.toNat + 1) : s.changeAt port n = s.setupError port R.rotChangeAt 5 := by
  unfold State.changeAt
  rw [if_neg h, if_pos hn, ite_self]

theorem changeAt_ahead {n : Word} (h : ¬s.changeLocked = true) (hn : s.rotNo.toNat + 1 < n.toNat) :
    s.changeAt port n = (s.setReg R.rotChangeAt n).updRot fun r => { r with pending := true } := by
  have hne : n ≠ 0 := by
    rintro rfl
    exact Nat.not_lt_zero _ hn
  unfold State.changeAt
  rw [if_neg h, if_neg hne, if_neg (Nat.not_le.2 hn)]

theorem changeLocked_iff : s.changeLocked = true ↔ s.rot.pending = true ∧ (s.reg R.rotChangeAt).toNat ≤ s.rotNo.toNat + 1 := by
  simp [State.changeLocked]

/-! ## Books (R65 to R70) -/

theorem bookCommand_loading {op n : Nat} (h : s.rot.loading ≠ none) : s.bookCommand port op n = s.setupError port R.rotBookCmd 5 := by
  unfold State.bookCommand State.loadingBook
  exact if_pos (Option.isSome_iff_ne_none.2 h)

theorem bookCommand_load {n : Nat} (h : s.rot.loading = none) : s.bookCommand port 1 n =
    if (s.book n).state = .empty ∨ (s.book n).state = .failed then s.bookStart n else s.setupError port R.rotBookCmd 5 := by
  unfold State.bookCommand State.loadingBook
  rw [h]
  rfl

/-- A book emptied by UNLOAD; where it was LOADED the measurement generation advances. -/
theorem bookCommand_unload {n : Nat} (h : s.rot.loading = none) : s.bookCommand port 2 n =
    if s.activeBook n ∨ s.bookPending n then s.setupError port R.rotBookCmd 5
    else if (s.book n).state = .loaded then (s.setBook n Book.empty).advanceMgen else s.setBook n Book.empty := by
  unfold State.bookCommand State.loadingBook
  rw [h]
  rfl

theorem activeBook_iff {n : BitVec 2} : s.activeBook n.toNat = true ↔ s.rot.active = some n := by
  simp [State.activeBook]

/-- The poison that the Keeper meets as it reads a book is recorded. -/
def State.bookPoison (s : State) (bad : Option Nat) : State :=
  match bad with
  | some l => s.poisonError (64 * l) none
  | none => s

theorem bookStart_eq {n : BitVec 2} {addr : Nat} {data : List Byte} {bad : Option Nat} (ha : (s.reg (R.rotBookAddr n.toNat)).toNat = addr)
    (hd : s.bookBytes addr = data) (hb : (linesOf addr data.length).find? s.poisoned = bad) :
    s.bookStart n.toNat = State.updRot ((s.bookPoison bad).setBook n.toNat
      { state := .loading, reason := BitVec.ofNat 4 (bookReason data bad.isSome), addr, data, digest := 0 }) fun r => { r with loading := some n } := by
  subst ha hd hb
  unfold State.bookStart
  rw [BitVec.ofNat_toNat, BitVec.setWidth_eq]
  rfl

theorem bookDone_sound {n : BitVec 2} (h : s.rot.loading = some n) (hr : (s.book n.toNat).reason = 0) : s.bookDone =
    (State.setBook { s with rot := { s.rot with loading := none } } n.toNat
      { s.book n.toNat with state := .loaded, digest := Config.sha384 (s.book n.toNat).data }).advanceMgen := by
  unfold State.bookDone
  rw [h]
  exact if_pos hr

theorem bookDone_unsound {n : BitVec 2} (h : s.rot.loading = some n) (hr : (s.book n.toNat).reason ≠ 0) : s.bookDone =
    State.setBook { s with rot := { s.rot with loading := none } } n.toNat { Book.empty with state := .failed, reason := (s.book n.toNat).reason } := by
  unfold State.bookDone
  rw [h]
  exact if_neg hr

/-! ## RUN (R62, R90, R91) -/

/-- A device that is not a standby root any more has not taken over. -/
def State.standbyKept (s : State) (standby : Bool) : State := if standby then s else s.updRot fun r => { r with rooted := false }

/-- The value of ROT_CTRL beside RUN. -/
def ctrlRoot (root standby : Bool) : Nat := 2 * b2n root + 4 * b2n standby

/-- ROT_CTRL written with RUN, before anything follows of it. -/
def State.ctrlSet (s : State) (root standby : Bool) : State :=
  (s.setReg R.rotCtrl (BitVec.ofNat 64 (1 + ctrlRoot root standby))).standbyKept standby

theorem runSet_eq {root standby : Bool} : s.runSet root standby =
    let u := s.ctrlSet root standby
    if s.rot.halting then u else if bit (s.reg R.rotCtrl) 0 then (if root then u.setAlign .aligned 0 else u) else u.runBegins := by
  unfold State.runSet State.ctrlSet ctrlRoot
  rw [← Nat.add_assoc]
  cases standby <;> rfl

theorem runClear_eq {root standby : Bool} : s.runClear root standby =
    let u := s.setReg R.rotCtrl (BitVec.ofNat 64 (2 * b2n root + 4 * b2n standby))
    if bit (s.reg R.rotCtrl) 0 = false then u else if s.rot.phase = .idle then u.runEnds else u.updRot fun r => { r with halting := true } := by
  unfold State.runClear State.running
  cases bit (s.reg R.rotCtrl) 0 <;> rfl

end Sys2Proof.Machine

open Sys2Proof Sys2Proof.Machine

/-- ROT_CHANGE_AT, by the lock on a pending change and the next rotation's number. -/
theorem changeAtWrites : Claims.ChangeAtWrites := by
  intro s port n ho hc refused locked
  have hexec : exec (.rotChangeAt port n) s = .next (s.changeAt port.toNat n) := next_congr (setupWrite_owned ho hc)
  rw [hexec]
  refine ⟨fun h => next_congr (changeAt_locked (changeLocked_iff.2 h)), fun h hn => ?_, fun h hn hle => next_congr (changeAt_past hn hle),
    fun h hlt => next_congr (changeAt_ahead (fun hl => h (changeLocked_iff.1 hl)) hlt)⟩
  subst hn
  exact next_congr (changeAt_back fun hl => h (changeLocked_iff.1 hl))

/-- ROT_BOOK_CMD and the end of a load, by the state of the book and what its bytes fail. -/
theorem booksLoadAndUnload : Claims.BooksLoadAndUnload := by
  refine ⟨fun s port n ho hc => ?_, fun s n hl => ?_⟩
  · intro b addr data refused idle inUse
    have hload : exec (.bookLoad port n) s = .next (s.bookCommand port.toNat 1 n.toNat) := next_congr (setupWrite_owned ho hc)
    have hunload : exec (.bookUnload port n) s = .next (s.bookCommand port.toNat 2 n.toNat) := next_congr (setupWrite_owned ho hc)
    have huse : inUse ↔ s.activeBook n.toNat = true ∨ s.bookPending n.toNat = true := by rw [activeBook_iff]
    rw [hload, hunload]
    refine ⟨fun hi hb => ?_, fun hi => ⟨next_congr (bookCommand_loading hi), next_congr (bookCommand_loading hi)⟩, fun hi he hf => ?_,
      fun hi hu => ?_, fun hi hu hb => ?_, fun hi hu hb => ?_⟩
    · intro bad u v
      refine next_congr ((bookCommand_load hi).trans ((if_pos hb).trans ((bookStart_eq rfl rfl rfl).trans ?_)))
      rfl
    · exact next_congr ((bookCommand_load hi).trans (if_neg (not_or.2 ⟨he, hf⟩)))
    · exact next_congr ((bookCommand_unload hi).trans (if_pos (huse.1 hu)))
    · exact next_congr ((bookCommand_unload hi).trans ((if_neg fun h => hu (huse.2 h)).trans (if_pos hb)))
    · exact next_congr ((bookCommand_unload hi).trans ((if_neg fun h => hu (huse.2 h)).trans (if_neg hb)))
  · intro b u
    exact ⟨fun hr => next_congr (bookDone_sound hl hr), fun hr => next_congr (bookDone_unsound hl hr)⟩

/-- ROT_CTRL, by whether the device runs, halts or stands idle. -/
theorem runSetAndCleared : Claims.RunSetAndCleared := by
  intro s port root standby ho hc ctrl roots
  have hset : exec (.rotRunSet port root standby) s = .next (s.runSet root standby) := next_congr (setupWrite_owned ho hc)
  have hclear : exec (.rotRunClear port root standby) s = .next (s.runClear root standby) := next_congr (setupWrite_owned ho hc)
  rw [hset, hclear]
  refine ⟨fun hrun hh => next_congr (runSet_eq.trans ?_), fun hrun hh => next_congr (runSet_eq.trans ?_),
    fun hh => next_congr (runSet_eq.trans (if_pos hh)), fun hrun => next_congr (runClear_eq.trans (if_pos hrun)), fun hrun hp => next_congr (runClear_eq.trans ?_),
    fun hrun hp => next_congr (runClear_eq.trans ?_)⟩
  · dsimp only
    rw [hh, hrun]
    rfl
  · dsimp only
    rw [hh, hrun]
    rfl
  · dsimp only
    rw [hrun, hp]
    rfl
  · dsimp only
    rw [hrun, if_neg hp]
    rfl

/-- Settles O21: changes, books, and RUN. -/
theorem rotationIsControlled : Obligations.RotationIsControlled := ⟨changeAtWrites, booksLoadAndUnload, runSetAndCleared⟩

end

section
/-! PROOF. Beacons align the device with its root (R89 to R92). -/

namespace Sys2Proof.Machine

variable {s t u : State} {p hops : Nat} {m : Word} {period : BitVec 9} {root : Dev} {e : Int}

theorem sendBeacon_touches {n : Nat} : Touches 9007199254740994 s (s.sendBeacon m period root n) := (touches_sendBeacon (Nat.and_self _)).2 .rfl

/-- Is a beacon one that a device on the fabric looks at? -/
def State.hearsBeacon (s : State) (p hops : Nat) : Prop := s.pwr.state = .on ∧ s.sportThere p = true ∧ hops ≤ 4

theorem beacon_far (h : 4 < hops) : s.beacon p m period root hops e = s := by
  unfold State.beacon
  exact if_pos (.inr (.inr h))

theorem beacon_heard (h : s.hearsBeacon p hops) : ¬(s.pwr.state ≠ .on ∨ (!s.sportThere p) = true ∨ 4 < hops) := by
  obtain ⟨hon, hthere, hhops⟩ := h
  simp [hon, hthere, hhops]

theorem beacon_second (h : s.hearsBeacon p hops) (h2 : s.secondRoot p root = true) :
    s.beacon p m period root hops e = s.lateLog { LateRec.plain 5 s.rot.align.code with measured := e.natAbs } := by
  unfold State.beacon
  rw [if_neg (beacon_heard h), if_pos h2]

theorem beacon_untaken (h : s.hearsBeacon p hops) (h2 : s.secondRoot p root = false) (ht : s.takesBeacon p = false) :
    s.beacon p m period root hops e = s := by
  unfold State.beacon
  rw [if_neg (beacon_heard h), if_neg (by simp [h2]), if_pos (by simp [ht])]

theorem beacon_root (h : s.hearsBeacon p hops) (h2 : s.secondRoot p root = false) (hr : s.isRoot = true) (hf : s.ras.fog = false) :
    s.beacon p m period root hops e = s := by
  unfold State.beacon
  rw [if_neg (beacon_heard h), if_neg (by simp [h2]), if_pos (show s.isRoot = true ∧ (!s.ras.fog) = true by simp [hr, hf]), ite_self]

/-- A beacon that is taken: forwarded, and remembered. -/
def State.beaconTaken (s : State) (p : Nat) (m : Word) (period : BitVec 9) (root : Dev) (hops : Nat) (had : Bool) : State :=
  (s.sendBeacon m period root (hops + 1)).updRot fun r => { r with
    lastBeacon := m, hops := BitVec.ofNat 3 hops, hadBeacon := r.hadBeacon || had
    up0 := if p = fld (s.reg R.rotBeaconCfg) 0 5 then some root else r.up0 }

theorem beacon_taken (h : s.hearsBeacon p hops) (h2 : s.secondRoot p root = false) (ht : s.takesBeacon p = true) (hr : s.isRoot = false) :
    s.beacon p m period root hops e =
      if s.ras.fog ∨ !s.running ∨ s.rot.halting then s.beaconTaken p m period root hops s.running
      else (s.beaconTaken p m period root hops s.running).align m e := by
  have hsent := sendBeacon_touches (s := s) (m := m) (period := period) (root := root) (n := hops + 1)
  have hreg {k : Nat} : (s.sendBeacon m period root (hops + 1)).reg k = s.reg k := reg_of_touches hsent k
  have hrot : (s.sendBeacon m period root (hops + 1)).rot = s.rot := (hsent .rot (by decide)).symm
  have hras : (s.sendBeacon m period root (hops + 1)).ras = s.ras := (hsent .ras (by decide)).symm
  unfold State.beacon
  rw [if_neg (beacon_heard h), if_neg (by simp [h2]), if_neg (by simp [ht]), if_neg (by simp [hr])]
  extract_lets a b
  have hb : b = s.beaconTaken p m period root hops s.running := by
    unfold b a State.beaconTaken State.running
    rw [hreg, hreg]
  have hfog : b.ras.fog = s.ras.fog := congrArg Ras.fog hras
  have hhalting : b.rot.halting = s.rot.halting := (congrArg Rot.halting hrot : a.rot.halting = s.rot.halting)
  have hrunning : b.running = s.running := by
    unfold State.running
    exact congrArg (bit · 0) hreg
  rw [hfog, hhalting, hrunning, hb]

theorem beaconTaken_known {had : Bool} (h : had = false) : s.beaconTaken p m period root hops had =
    (s.sendBeacon m period root (hops + 1)).updRot fun r => { r with
      lastBeacon := m, hops := BitVec.ofNat 3 hops, up0 := if p = fld (s.reg R.rotBeaconCfg) 0 5 then some root else r.up0 } := by
  subst h
  unfold State.beaconTaken
  simp only [Bool.or_false]

theorem beaconTaken_first {had : Bool} (h : had = true) : s.beaconTaken p m period root hops had =
    (s.sendBeacon m period root (hops + 1)).updRot fun r => { r with
      lastBeacon := m, hops := BitVec.ofNat 3 hops, hadBeacon := true
      up0 := if p = fld (s.reg R.rotBeaconCfg) 0 5 then some root else r.up0 } := by
  subst h
  unfold State.beaconTaken
  simp only [Bool.or_true]

end Sys2Proof.Machine

open Sys2Proof Sys2Proof.Machine

/-- Settles O22: a beacon by what the device makes of its port, its hops and its root; the timers by the alignment they find. -/
theorem beaconsAlign : Obligations.BeaconsAlign := by
  refine ⟨fun s p m period root hops e hon hfog hthere => ?_, fun s hrun hroot => ?_, fun s a n => ⟨?_, ?_⟩⟩
  · have hheard (h : hops.toNat ≤ 4) : s.hearsBeacon p.toNat hops.toNat := ⟨hon, hthere, h⟩
    refine ⟨fun h => next_congr (beacon_far h), fun h h2 ht => next_congr (beacon_untaken (hheard h) h2 ht),
      fun h h2 => next_congr (beacon_second (hheard h) h2), fun h h2 hr => next_congr (beacon_root (hheard h) h2 hr hfog),
      fun h h2 ht hr hrun => next_congr ((beacon_taken (hheard h) h2 ht hr).trans ?_),
      fun h h2 ht hr hrun hhalt => next_congr ((beacon_taken (hheard h) h2 ht hr).trans ?_)⟩
    · rw [if_pos (by simp [hrun]), beaconTaken_known hrun]
    · rw [if_neg (by simp [hrun, hfog, hhalt]), beaconTaken_first hrun]
  · have hother : (!s.isRoot) = true := by simp [hroot]
    exact ⟨fun h => next_congr (if_pos ⟨hrun, hother, h⟩), fun h => next_congr (if_pos h),
      fun hs h => next_congr (if_pos ⟨hrun, hs, hother, h⟩),
      fun h hhalt hhad hfog => next_congr (if_pos ⟨hrun, hother, by simp [hhalt], h, by simp [hhad], by simp [hfog]⟩)⟩
  · rw [setAlign_rot]
  · exact ((touches_setAlign (Nat.and_self _)).2 .rfl : Touches _ s _).keeps _ (by decide)

end

section
/-! PROOF. A rotation starts with the next number, the sentence its sequence selects, and a snapshot (R62, R63, R64, R71, R84, R362). -/

namespace Sys2Proof.Machine

variable {s t u : State}

/-! ## Late items leave their slots (R84) -/

/-- Is an item of a slot late and closing: one that leaves as a rotation starts? -/
def leaves (e : Nat × Item) : Bool := decide (e.1 < 65536) && e.2.closing && e.2.late.isSome

/-- A late item leaves its slot under a name of its own. -/
def State.leaveSlot (s : State) (e : Nat × Item) : State :=
  (s.reown e.1 (e.2.leftAs e.1)).updRot fun r => { r with items := lput (ldel r.items e.1) (e.2.leftAs e.1) e.2 }

theorem lateLeave_eq : s.lateLeave = s.each (s.rot.items.filter leaves) State.leaveSlot := rfl

theorem leaveSlot_rot {e : Nat × Item} : (s.leaveSlot e).rot = { s.rot with items := lput (ldel s.rot.items e.1) (e.2.leftAs e.1) e.2 } := by
  have h : (s.reown e.1 (e.2.leftAs e.1)).rot = s.rot :=
    (((touches_reown (Nat.and_self _)).2 .rfl : Touches _ s (s.reown e.1 (e.2.leftAs e.1))) .rot (by decide)).symm
  unfold State.leaveSlot State.updRot
  rw [h]

theorem leaveSlots_rot {l : List (Nat × Item)} : ∃ items, (s.each l State.leaveSlot).rot = { s.rot with items := items } := by
  induction l generalizing s with
  | nil => exact ⟨s.rot.items, rfl⟩
  | cons e l ih =>
    obtain ⟨items, h⟩ := ih (s := s.leaveSlot e)
    refine ⟨items, h.trans ?_⟩
    rw [leaveSlot_rot]

theorem leftAs_far {it : Item} {slot : Nat} : 65536 ≤ it.leftAs slot := by
  unfold Item.leftAs
  omega

/-- After late items have left their slots, those that would leave are among the ones still to be looked at. -/
theorem leaveSlots_late {l : List (Nat × Item)} (hl : ∀ e ∈ s.rot.items, leaves e = true → e ∈ l) :
    ∀ e ∈ (s.each l State.leaveSlot).rot.items, leaves e = false := by
  induction l generalizing s with
  | nil => exact fun e he => Bool.eq_false_iff.2 fun h => List.not_mem_nil (hl e he h)
  | cons a l ih =>
    refine ih (s := s.leaveSlot a) fun e he hleaves => ?_
    rw [leaveSlot_rot] at he
    rcases mem_lput he with hmem | rfl
    · obtain ⟨hmem, hkey⟩ := List.mem_filter.1 hmem
      rcases List.mem_cons.1 (hl e hmem hleaves) with rfl | hin
      · simp at hkey
      · exact hin
    · have hfar : 65536 ≤ a.2.leftAs a.1 := leftAs_far
      simp [leaves, Nat.not_lt.2 hfar] at hleaves

theorem lateLeave_rot : ∃ items, s.lateLeave.rot = { s.rot with items := items } := leaveSlots_rot

theorem lateLeave_late : ∀ e ∈ s.lateLeave.rot.items, leaves e = false :=
  leaveSlots_late fun _ he h => List.mem_filter.2 ⟨he, h⟩

theorem lateLeave_touches : Touches 19327356928 s s.lateLeave := (touches_lateLeave (Nat.and_self _)).2 .rfl

/-! ## A rotation start (R62, R64) -/

/-- A rotation in its snapshot phase: its number taken, its sentence selected, job halt in effect. -/
def State.rotationOpened (s : State) (n : Word) : State :=
  { s with
    rot := { s.rot with phase := .snapshot, rotations := s.rot.rotations + 1, sentence := s.selectSentence n.toNat, overran := false
                        forced := [], parity := false }
    ras := { s.ras with haltNow := s.ras.jobHalt } }

theorem changeDue_not {n : Nat} (h : s.rot.rotations ≠ 0) (hp : s.rot.pending = false) : s.changeDue n = false := by
  simp [State.changeDue, h, hp]

/-- The number of a rotation is taken, and late items leave. -/
def State.rotationNumbered (s : State) : State := (s.setReg R.rotNumber (s.rotNo + 1)).lateLeave

theorem rotationNumbered_rot : ∃ items, s.rotationNumbered.rot = { s.rot with items := items } :=
  lateLeave_rot (s := s.setReg R.rotNumber (s.rotNo + 1))

theorem rotationNumbered_touches : Touches (19327356928 ||| 128) s s.rotationNumbered := by simp [State.rotationNumbered]

theorem reg_rotationNumbered {k : Nat} (h : k ≠ R.rotNumber) : s.rotationNumbered.reg k = s.reg k :=
  (reg_of_touches lateLeave_touches k).trans (reg_setReg_other h)

theorem rotNo_rotationNumbered : s.rotationNumbered.reg R.rotNumber = s.rotNo + 1 :=
  (reg_of_touches lateLeave_touches _).trans reg_setReg_same

theorem rotationOpened_touches {n : Word} :
    Touches (19327356928 ||| 128 ||| 4096 ||| 73786976294838206464) s (s.rotationOpened n) :=
  fun f hf => by cases f <;> first | exact Eq.refl _ | exact absurd hf (by decide)

theorem rotationOpened_eq {n : Word} (ha : s.rot.adopt = none) : s.rotationOpened n = { s with
    rot := { s.rot with phase := .snapshot, adopt := none, rotations := s.rot.rotations + 1, sentence := s.selectSentence n.toNat
                        overran := false, forced := [], parity := false }
    ras := { s.ras with haltNow := s.ras.jobHalt } } := by
  unfold State.rotationOpened
  rw [← ha]

theorem startRotation_plain (ha : s.rot.adopt = none) (hr : s.rot.rotations ≠ 0) (hp : s.rot.pending = false)
    (ht : s.pwr.throttle.inForce = false) (hroot : s.isRoot = false) : s.startRotation =
      (s.rotationNumbered.rotationOpened (s.rotNo + 1)).takeSnapshot.reliefsBegin := by
  obtain ⟨items, hrot⟩ := rotationNumbered_rot (s := s)
  have hdue : s.rotationNumbered.changeDue (s.rotNo + 1).toNat = false :=
    changeDue_not (by rw [hrot]; exact hr) (by rw [hrot]; exact hp)
  have hthrottle : s.rotationNumbered.pwr.throttle.inForce = false := by
    rw [← rotationNumbered_touches .pwr (by decide)]
    exact ht
  have hplain : (s.rotationNumbered.rotationOpened (s.rotNo + 1)).isRoot = false := by
    have hrooted : s.rotationNumbered.rot.rooted = s.rot.rooted := by rw [hrot]
    have hctrl : s.rotationNumbered.reg R.rotCtrl = s.reg R.rotCtrl := reg_rotationNumbered (by decide)
    show (bit (s.rotationNumbered.reg R.rotCtrl) 1 || s.rotationNumbered.rot.rooted) = false
    rw [hrooted, hctrl]
    exact hroot
  have hopened := rotationOpened_eq (s := s.rotationNumbered) (n := s.rotNo + 1) (by rw [hrot]; exact ha)
  unfold State.startRotation
  rw [ha]
  extract_lets n a b throttled empty sentence c d e f
  have hb : b = s.rotationNumbered := if_neg fun h => Bool.false_ne_true (hdue.symm.trans h)
  have hthrottled : throttled = false := (congrArg (fun u : State => u.pwr.throttle.inForce) hb).trans hthrottle
  have he : e = s.rotationNumbered.rotationOpened (s.rotNo + 1) := by
    rw [hopened]
    unfold e d c sentence empty
    rw [hthrottled, hb]
    rfl
  have hf : f = e := if_neg (by rw [he, hplain]; decide)
  rw [hf, he]

/-! ## ROTATION_START (R64) -/

/-- The rotation in progress has ended. -/
def State.rotationEnded (s : State) : State := s.updRot fun r => { r with phase := .idle }

theorem rotationStart_ended (hon : s.pwr.state = .on) (hf : s.ras.fog = false) (hp : s.rot.phase = .idle ∨ s.rot.phase = .guard) : s.rotationStart =
    let u := if s.rot.halting then (if s.running then s.rotationEnded.runEnds.runBegins else s.rotationEnded.runEnds) else s.rotationEnded
    if u.running ∧ (u.rot.align = .aligned ∨ u.rot.align = .holdover ∨ u.rot.align = .free) then u.startRotation else u := by
  unfold State.rotationStart
  exact if_neg (by simp [hon, hf, hp])

theorem rotationStart_runs (hon : s.pwr.state = .on) (hf : s.ras.fog = false) (hp : s.rot.phase = .idle ∨ s.rot.phase = .guard)
    (hh : s.rot.halting = false) (hrun : s.running = true) (ha : s.rot.align = .aligned ∨ s.rot.align = .holdover ∨ s.rot.align = .free) :
    s.rotationStart = s.rotationEnded.startRotation := by
  rw [rotationStart_ended hon hf hp, hh]
  exact if_pos ⟨hrun, ha⟩

theorem rotationStart_stopped (hon : s.pwr.state = .on) (hf : s.ras.fog = false) (hp : s.rot.phase = .idle ∨ s.rot.phase = .guard)
    (hh : s.rot.halting = false) (hrun : s.running = false) : s.rotationStart = s.rotationEnded := by
  rw [rotationStart_ended hon hf hp, hh]
  exact if_neg fun h => Bool.false_ne_true (hrun.symm.trans h.1)

theorem rotationStart_halts (hon : s.pwr.state = .on) (hf : s.ras.fog = false) (hp : s.rot.phase = .idle ∨ s.rot.phase = .guard)
    (hh : s.rot.halting = true) (hrun : s.running = false) : s.rotationStart = s.rotationEnded.runEnds := by
  have halign : s.rotationEnded.runEnds.rot.align = .halted := by
    unfold State.runEnds
    rw [setAlign_rot]
  rw [rotationStart_ended hon hf hp, hh, hrun]
  exact if_neg (by simp [halign])

end Sys2Proof.Machine

open Sys2Proof Sys2Proof.Machine

/-- Settles O17: an ordinary start by what its number, its change and its throttle come to, the halt, and the idle device. -/
theorem rotationStarts : Obligations.RotationStarts := by
  intro s hon hfog hphase idle
  refine ⟨fun hh hrun halign hadopt hrot hpend hthrottle hroot => ?_, fun hh hrun => next_congr (rotationStart_halts hon hfog hphase hh hrun),
    fun hh hrun => next_congr (rotationStart_stopped hon hfog hphase hh hrun)⟩
  intro u v
  have hu : Touches (19327356928 ||| 128 ||| 4096) s u := by simp [u, idle]
  have hras : u.ras = s.ras := (hu .ras (by decide)).symm
  have hv : v = u.rotationOpened (s.rotNo + 1) := by
    obtain ⟨items, hitems⟩ := rotationNumbered_rot (s := idle)
    have hrotations : u.rot.rotations = s.rot.rotations := (congrArg Rot.rotations hitems).trans rfl
    unfold v State.rotationOpened
    rw [hrotations, hras]
  refine ⟨?_, ?_, fun e he hslot hclosing => ?_, ?_⟩
  · rw [hv]
    exact (next_congr (rotationStart_runs hon hfog hphase hh hrun halign)).trans
      (next_congr (startRotation_plain (s := idle) hadopt hrot hpend hthrottle hroot))
  · exact rotNo_rotationNumbered (s := idle)
  · have hstays := lateLeave_late e he
    simpa [leaves, hslot, hclosing] using hstays
  · have hkeep : Touches (19327356928 ||| 128 ||| 4096 ||| 73786976294838206464) s u := by simp [u, idle]
    rw [hv]
    exact (hkeep.trans rotationOpened_touches).keeps _ (by decide)

end

section
/-! PROOF. Candidates bind to slots in class order, or are deferred, refused or left (R71, R73 to R75, R87, R347). -/

namespace Sys2Proof.Machine

variable {s : State} {r pos : Nat} {f : Flight}

/-! ## One candidate at the binder -/

theorem bindOne_ends {c : Cpl} (hf : s.flight r pos = some f) (hs : f.stage = .candidate) (h : s.bindCheck (s.ring r).kind f.desc = .ends c) :
    s.bindOne r pos = (s.endFlight r pos c, false) := by
  unfold State.bindOne
  rw [hf]
  dsimp only
  rw [if_neg (Classical.not_not.2 hs), h]

theorem bindOne_blocked (hf : s.flight r pos = some f) (hs : f.stage = .candidate) (h : s.bindCheck (s.ring r).kind f.desc = .blocked) :
    s.bindOne r pos = (if (s.ring r).kind = .embu ∧ (embQ (s.ring r).kind f.desc).close = true then
      s.updRot fun x => { x with closes := if x.closes.contains (BitVec.ofNat 12 r, BitVec.ofNat 32 pos) then x.closes
        else (BitVec.ofNat 12 r, BitVec.ofNat 32 pos) :: x.closes }
      else s, true) := by
  unfold State.bindOne
  rw [hf]
  dsimp only
  rw [if_neg (Classical.not_not.2 hs), h]

theorem bindOne_ok (hf : s.flight r pos = some f) (hs : f.stage = .candidate) (h : s.bindCheck (s.ring r).kind f.desc = .ok) {o : Option Slot}
    (ho : s.findSlot (s.ring r).kind (s.ringClass r) f = o) :
    s.bindOne r pos = (o.elim s (s.bindSlot r pos (s.ring r).kind f), o.isNone) := by
  unfold State.bindOne
  rw [hf]
  dsimp only
  rw [if_neg (Classical.not_not.2 hs), h]
  dsimp only
  rw [ho]
  cases o <;> rfl

theorem bindSlot_resident {k : RingKind} {x : Slot} (h : ∀ g ∈ s.locations r k f, s.absence x.nearOnly g = none) : s.bindSlot r pos k f x =
    (((s.locations r k f).foldl (fun s g => s.pin x.nearOnly g) s).setItem x.index
      { s.newItem r pos k f x with pins := s.locations r k f }).setStage r pos .bound := by
  have hnone : ((s.locations r k f).filterMap fun g => (s.absence x.nearOnly g).map fun c => (g, c)) = [] :=
    List.filterMap_eq_nil_iff.2 fun g hg => by simp [h g hg]
  unfold State.bindSlot
  dsimp only
  rw [hnone]
  rfl

theorem bindSlot_absent {k : RingKind} {x : Slot} {g : Nat} (hg : g ∈ s.locations r k f) (h : s.absence x.nearOnly g ≠ none) :
    s.bindSlot r pos k f x = s.deferItem x.index (s.newItem r pos k f x)
      ((s.locations r k f).filterMap fun g => (s.absence x.nearOnly g).map fun c => (g, c)) := by
  have hsome : ¬((s.locations r k f).filterMap fun g => (s.absence x.nearOnly g).map fun c => (g, c)).isEmpty = true := by
    rw [List.isEmpty_iff, List.filterMap_eq_nil_iff]
    exact fun hnone => h (by simpa using hnone g hg)
  unfold State.bindSlot
  exact if_neg hsome

/-! ## BIND_PHASE -/

theorem bindPhase_snapshot (h : s.rot.phase = .snapshot) : s.bindPhase =
    let u : State := { s with rot := { s.rot with phase := .bind, closes := [] } }
    if s.rot.sentence.isNone ∨ s.ras.haltNow then u
    else ((u.bindOrder s.rot.snapshot).foldl (fun (q : State × List RingId) c =>
      if q.2.contains c.1 then q
      else ((q.1.bindOne c.1.toNat c.2.toNat).1, if (q.1.bindOne c.1.toNat c.2.toNat).2 then c.1 :: q.2 else q.2)) (u, [])).1 := by
  unfold State.bindPhase
  exact if_neg (Classical.not_not.2 h)

end Sys2Proof.Machine

open Sys2Proof Sys2Proof.Machine

/-- Settles O18: the phase by whether anything binds in this rotation, a candidate by its check, its slot and its granules. -/
theorem candidatesBind : Obligations.CandidatesBind := by
  intro s hphase u
  refine ⟨fun h => next_congr ((bindPhase_snapshot hphase).trans (if_pos (h.imp_left Option.isNone_iff_eq_none.2))),
    fun hs hh => next_congr ((bindPhase_snapshot hphase).trans (if_neg ?_)), fun r pos f hf hstage => ?_⟩
  · rintro (hnone | hhalt)
    · exact hs (Option.isNone_iff_eq_none.1 hnone)
    · exact Bool.false_ne_true (hh.symm.trans hhalt)
  · intro k it
    refine ⟨fun c hc => bindOne_ends hf hstage hc, fun hc => bindOne_blocked hf hstage hc, fun hc ho => bindOne_ok hf hstage hc ho,
      fun x hc ho => ⟨fun hres => ?_, fun g hg habs => ?_⟩⟩
    · rw [bindOne_ok hf hstage hc ho]
      exact congrArg (·, false) (bindSlot_resident hres)
    · rw [bindOne_ok hf hstage hc ho]
      exact congrArg (·, false) (bindSlot_absent hg habs)

end

section
/-! PROOF. Clauses launch at their windows for the items their slots hold (R77, R181, R182). -/

namespace Sys2Proof.Machine

variable {s t u : State}

/-! ## The registers of a launched voice (R181) -/

theorem xr_setX_same {x : Voice} {i : Nat} {w : Word} (h : i ≠ 0) : (x.setX i w).xr i = w := by
  unfold Voice.setX Voice.xr
  rw [if_neg h, if_neg h]
  exact tget_tput_same (t := x.x) fun _ => 0

theorem xr_setX_other {x : Voice} {i j : Nat} {w : Word} (h : j ≠ i) : (x.setX i w).xr j = x.xr j := by
  unfold Voice.setX
  split
  · rfl
  · unfold Voice.xr
    rw [tget_tput_other (t := x.x) (fun _ => 0) h]

theorem xr_unwritten {x : Voice} {r : Nat} (h : x.x = []) : x.xr r = 0 := by
  unfold Voice.xr
  rw [h]
  exact ite_self _

/-- The three arguments of a launch in x1, x2 and x3. -/
def Voice.argued (x : Voice) (a b c : Word) : Voice := ((x.setX 1 a).setX 2 b).setX 3 c

theorem argued_eq {x : Voice} {a b c : Word} : ∃ l, x.argued a b c = { x with x := l } := ⟨_, rfl⟩

theorem xr_argued {x : Voice} {a b c : Word} {r : Nat} (h : x.x = []) : (x.argued a b c).xr r =
    if r = 1 then a else if r = 2 then b else if r = 3 then c else 0 := by
  unfold Voice.argued
  by_cases h3 : r = 3
  · subst h3
    exact xr_setX_same (by decide)
  rw [xr_setX_other h3]
  by_cases h2 : r = 2
  · subst h2
    exact xr_setX_same (by decide)
  rw [xr_setX_other h2]
  by_cases h1 : r = 1
  · subst h1
    exact xr_setX_same (by decide)
  rw [xr_setX_other h1, xr_unwritten h, if_neg h1, if_neg h2, if_neg h3]

/-- The voice of a clause as it is launched, before its arguments. -/
def Voice.launched (x : Voice) (c : Clause) (code : List Byte) (sentence : Nat) (tenant : Tenant) : Voice :=
  { Voice.off with
    loaded := true, pc := c.code, code, slot := c.slot, sentence, tenant, start := c.start, stop := c.stop
    out := x.outdated.out, streams := x.outdated.streams, nextToken := x.nextToken }

/-- The array products of a voice that is launched anew are another launch's. -/
def State.ammsStale (s : State) (v : Nat) : State :=
  { s with amms := tput (fun _ => []) s.amms (coreOf v) ((tget (fun _ => []) s.amms (coreOf v)).map fun (q : Amm) =>
    if q.voice.toNat = v then { q with stale := true } else q) }

/-- A core carries a partition. -/
def State.carriesToo (s : State) (core : Nat) (t : Tenant) : State :=
  { s with carries := tput (fun _ => 0) s.carries core (s.carry core ||| (1#16 <<< t.toNat)) }

theorem launchClause_eq {i : Nat} {c : Clause} {it : Item} : s.launchClause i c (some it) =
    (((s.ammsStale c.voice).setVoice c.voice (((s.voice c.voice).launched c (codeOf (sentenceBytes s.activeBytes i)) i it.tenant).argued
      (BitVec.ofNat 64 it.runs) (BitVec.ofNat 64 (s.rotNo.toNat % 2 ^ 32)) (BitVec.ofNat 64 c.slot))).padWrite (coreOf c.voice)
        (0xBFE00 + 64 * (c.voice % 8)) (lineBytes (s.itemDesc it))).carriesToo (coreOf c.voice) it.tenant := rfl

theorem voice_carriesToo {core v : Nat} {n : Tenant} : (s.carriesToo core n).voice v = s.voice v := rfl

theorem padRead_carriesToo {core c a k : Nat} {n : Tenant} : (s.carriesToo core n).padRead c a k = s.padRead c a k := padRead_congr rfl

theorem voice_launchClause {i : Nat} {c : Clause} {it : Item} : (s.launchClause i c (some it)).voice c.voice =
    ((s.voice c.voice).launched c (codeOf (sentenceBytes s.activeBytes i)) i it.tenant).argued
      (BitVec.ofNat 64 it.runs) (BitVec.ofNat 64 (s.rotNo.toNat % 2 ^ 32)) (BitVec.ofNat 64 c.slot) := by
  rw [launchClause_eq]
  rw [voice_carriesToo, voice_padWrite, voice_setVoice]

theorem length_leBytes : ∀ n x : Nat, (leBytes n x).length = n
  | 0, _ => rfl
  | n + 1, x => congrArg (· + 1) (length_leBytes n (x / 256))

theorem length_lineBytes {l : Line} : (lineBytes l).length = 64 := length_leBytes 64 l.toNat

theorem padRead_launchClause {i : Nat} {c : Clause} {it : Item} :
    (s.launchClause i c (some it)).padRead (coreOf c.voice) (0xBFE00 + 64 * (c.voice % 8)) 64 = lineBytes (s.itemDesc it) := by
  rw [launchClause_eq]
  have hfits : 0xBFE00 + 64 * (c.voice % 8) + (lineBytes (s.itemDesc it)).length ≤ 2 ^ 20 := by
    rw [length_lineBytes]
    omega
  have h := padRead_padWrite_same (s := (s.ammsStale c.voice).setVoice c.voice
    (((s.voice c.voice).launched c (codeOf (sentenceBytes s.activeBytes i)) i it.tenant).argued
      (BitVec.ofNat 64 it.runs) (BitVec.ofNat 64 (s.rotNo.toNat % 2 ^ 32)) (BitVec.ofNat 64 c.slot))) (c := coreOf c.voice) hfits
  rw [padRead_carriesToo]
  rwa [length_lineBytes] at h

/-! ## LAUNCH_PHASE and a window's start (R77) -/

theorem launchPhase_empty (h : s.rot.phase = .bind) (hs : s.rot.sentence = none) :
    s.launchPhase = { s with rot := { s.rot with phase := .launch } } := by
  unfold State.launchPhase State.updRot
  rw [if_neg (Classical.not_not.2 h)]
  dsimp only
  rw [hs]

theorem launchPhase_sentence {i : Nat} (h : s.rot.phase = .bind) (hs : s.rot.sentence = some i) (hr : s.ras.resetBusy = false) :
    s.launchPhase =
      let u : State := { s with rot := { s.rot with phase := .launch } }
      let w := u.rot.items.foldl (fun s e => if s.itemRuns i e.1 e.2 then s.launchItem i e.1 e.2 else s) u
      (((clausesOf (sentenceBytes w.activeBytes i)).filter fun c => c.slot == 0xFFFF).foldl
        (fun s c => s.launchClause i c none) w).runNet.gradsGo := by
  unfold State.launchPhase State.updRot
  rw [if_neg (Classical.not_not.2 h)]
  dsimp only
  rw [hs]
  exact if_neg fun hb => Bool.false_ne_true (hr.symm.trans hb.1)

theorem windowStart_opens {v : Nat} (h : s.rot.phase = .launch) (hl : (s.voice v).loaded = true) (h0 : (s.voice v).start ≠ 0) :
    s.windowStart v = (s.setVoice v { s.voice v with running := true, start := 0 }).goto v (s.voice v).pc := by
  unfold State.windowStart
  exact if_pos ⟨h, hl, h0⟩

end Sys2Proof.Machine

open Sys2Proof Sys2Proof.Machine

/-- Settles O19: the phase by its sentence, a launched voice by its registers and its block, a window's start by its first word. -/
theorem clausesLaunch : Obligations.ClausesLaunch := by
  refine ⟨fun s h hs => next_congr (launchPhase_empty h hs), fun s i h hs hr => next_congr (launchPhase_sentence h hs hr), fun s i c it => ?_, fun s v => ?_⟩
  · intro t x
    have hx : x = ((s.voice c.voice).launched c (codeOf (sentenceBytes s.activeBytes i)) i it.tenant).argued
      (BitVec.ofNat 64 it.runs) (BitVec.ofNat 64 (s.rotNo.toNat % 2 ^ 32)) (BitVec.ofNat 64 c.slot) := voice_launchClause
    obtain ⟨l, hl⟩ := argued_eq (x := (s.voice c.voice).launched c (codeOf (sentenceBytes s.activeBytes i)) i it.tenant)
      (a := BitVec.ofNat 64 it.runs) (b := BitVec.ofNat 64 (s.rotNo.toNat % 2 ^ 32)) (c := BitVec.ofNat 64 c.slot)
    have hxr {r : Nat} : x.xr r = if r = 1 then BitVec.ofNat 64 it.runs else if r = 2 then BitVec.ofNat 64 (s.rotNo.toNat % 2 ^ 32)
        else if r = 3 then BitVec.ofNat 64 c.slot else 0 := hx ▸ xr_argued rfl
    have heq := hx.trans hl
    clear_value x
    refine ⟨?_, ?_, ?_, ?_, ?_, ?_, ?_, ?_, ?_, ?_, hxr, hxr, hxr, fun r hr => ?_, fun r => ?_, fun b r j => ?_, padRead_launchClause, ?_⟩
    iterate 10 rw [heq]; rfl
    · rw [hxr, if_neg (by omega), if_neg (by omega), if_neg (by omega)]
    · rw [heq]
      rfl
    · rw [heq]
      rfl
    · have ht : Touches 32212254720 s t := (touches_launchClause (Nat.and_self _)).2 .rfl
      exact ht.keeps _ (by decide)
  · intro x hp hl h0 u
    have hu : u.voice v.toNat = { x with running := true, start := 0 } := voice_setVoice
    refine ⟨fun hf => (next_congr (windowStart_opens hp hl h0)).trans (next_congr ?_), fun hf =>
      (next_congr (windowStart_opens hp hl h0)).trans (next_congr (goto_of_fault (by rw [voice_setVoice]; rfl) hf))⟩
    rw [goto_of_fetched (by rw [voice_setVoice]; exact hf), voice_setVoice]
    exact setVoice_setVoice hl

end

section
/-! PROOF. A clause past its window is late; the rotation closes and commits its items (R48, R64, R82, R84, R86, R88, R186). -/

namespace Sys2Proof.Machine

variable {s t u : State}

/-! ## The end of a window (R84, R86) -/

/-- The rotation in progress is marked off rated occupancy where a window's end found it so. -/
def State.overranBy (s : State) (overran : Bool) : State := if overran then s.updRot fun r => { r with overran := true } else s

/-- A late clause's voice is halted, and the clause counted and logged. -/
def State.lateLogged (s : State) (v waited bound cause sentence slot : Nat) : State :=
  let s := ((s.haltVoice v).count R.rotLateTotal).count32 (R.rotGlate (galleryOf v))
  let s := s.lateLog { event := 1, cls := cause, voice := v, sentence, slot, hops := 0, measured := waited, bound }
  if cause = 1 then s.selfLateEvent else s

/-- The cause of a clause that is late. -/
def State.windowCause (s : State) (v : Nat) (exceeded overran : Bool) : Nat :=
  lateCause (overran || s.rot.overran || s.voiceFenced v || (s.voice v).forced) exceeded

theorem windowEnd_halted {v waited bound : Nat} {exceeded overran : Bool} (h : (s.voice v).loaded = false ∨ (s.voice v).running = false) :
    s.windowEnd v waited bound exceeded overran = s := by
  unfold State.windowEnd
  exact if_pos (by simpa using h)

theorem windowEnd_late {v waited bound : Nat} {exceeded overran : Bool} (hl : (s.voice v).loaded = true) (hr : (s.voice v).running = true) :
    s.windowEnd v waited bound exceeded overran =
      ((s.overranBy overran).lateLogged v waited bound (s.windowCause v exceeded overran) (s.voice v).sentence (s.voice v).slot).itemLate
        (s.voice v).slot v (s.voice v).sentence (s.windowCause v exceeded overran) := by
  have hcause : (overran || (s.overranBy overran).rot.overran || (s.overranBy overran).voiceFenced v || (s.voice v).forced) =
      (overran || s.rot.overran || s.voiceFenced v || (s.voice v).forced) := by
    cases overran <;> rfl
  unfold State.windowEnd State.windowCause
  rw [if_neg (by simp [hl, hr]), ← hcause]
  rfl

theorem lateLogged_touches {v waited bound cause sentence slot : Nat} :
    Touches (4123168604288 ||| 2147483648 ||| 73786976294838206464) s (s.lateLogged v waited bound cause sentence slot) := by
  unfold State.lateLogged
  extract_lets a b
  have hb : Touches (4123168604288 ||| 2147483648 ||| 73786976294838206464) s b := by simp [b, a]
  split
  · simpa using hb
  · exact hb

theorem voices_lateLogged {v waited bound cause sentence slot : Nat} :
    (s.lateLogged v waited bound cause sentence slot).voices = (s.haltVoice v).voices := by
  unfold State.lateLogged
  extract_lets a b
  have hb : b.voices = (s.haltVoice v).voices := by
    have h : Touches 4123168604288 (s.haltVoice v) b := by simp [b, a]
    exact (h .voices (by decide)).symm
  clear_value b
  split
  · exact hb
  · exact hb

theorem voice_of_voices {v : Nat} (h : t.voices = s.voices) : t.voice v = s.voice v := by
  unfold State.voice
  rw [h]

theorem itemLate_touches {slot v sentence cause : Nat} : Touches 4096 s (s.itemLate slot v sentence cause) :=
  (touches_itemLate (Nat.and_self _)).2 .rfl

theorem item_updItem {slot : Nat} {f : Item → Item} {it : Item} (h : s.item slot = some it) : (s.updItem slot f).item slot = some (f it) := by
  unfold State.updItem
  rw [h]
  exact lget_lput_same

theorem item_itemLate {slot v sentence cause : Nat} {it : Item} (h : s.item slot = some it) (hl : it.late = none) :
    (s.itemLate slot v sentence cause).item slot =
      some { it with late := some (Cpl.why St.late (cause + v * 4 + sentence * 16384)) } := by
  unfold State.itemLate
  rw [item_updItem h, hl]

theorem item_of_rot {slot : Nat} (h : t.rot.items = s.rot.items) : t.item slot = s.item slot := by
  unfold State.item
  rw [h]

theorem overranBy_items {overran : Bool} : (s.overranBy overran).rot.items = s.rot.items := by
  cases overran <;> rfl

theorem overranBy_voices {overran : Bool} : (s.overranBy overran).voices = s.voices := by
  cases overran <;> rfl

theorem voice_lateEnded {v waited bound cause sentence slot w : Nat} :
    ((s.lateLogged v waited bound cause sentence slot).itemLate slot v sentence cause).voice w = (s.haltVoice v).voice w := by
  have hlate : (s.lateLogged v waited bound cause sentence slot).voices =
      ((s.lateLogged v waited bound cause sentence slot).itemLate slot v sentence cause).voices := itemLate_touches .voices (by decide)
  exact (voice_of_voices hlate.symm).trans (voice_of_voices voices_lateLogged)

theorem item_lateEnded {v waited bound cause sentence slot : Nat} {it : Item} (h : s.item slot = some it) (hl : it.late = none) :
    ((s.lateLogged v waited bound cause sentence slot).itemLate slot v sentence cause).item slot =
      some { it with late := some (Cpl.why St.late (cause + v * 4 + sentence * 16384)) } := by
  have hrot : s.rot = (s.lateLogged v waited bound cause sentence slot).rot := lateLogged_touches .rot (by decide)
  exact item_itemLate ((item_of_rot (congrArg Rot.items hrot.symm)).trans h) hl

/-! ## The close of a rotation (R64, R82) -/

/-- Voices that were loaded are loaded no more. -/
def State.unload (s : State) (l : List (Nat × Voice)) : State := s.each l fun s e => s.updVoice e.1 fun x => { x with loaded := false }

theorem unload_loaded {l : List (Nat × Voice)} (h : ∀ v, (s.voice v).loaded = true → v ∈ l.map Prod.fst) (v : Nat) :
    ((s.unload l).voice v).loaded = false := by
  induction l generalizing s with
  | nil => exact Bool.eq_false_iff.2 fun hv => List.not_mem_nil (h v hv)
  | cons e l ih =>
    refine ih (s := s.updVoice e.1 fun x => { x with loaded := false }) fun w hw => ?_
    by_cases he : w = e.1
    · subst he
      rw [State.updVoice, voice_setVoice] at hw
      exact Bool.noConfusion hw
    · rw [State.updVoice, voice_setVoice_other he] at hw
      exact (List.mem_cons.1 (h w hw)).resolve_left he

theorem mem_of_lget {α : Type} {l : Tbl α} {k : Nat} {x : α} (h : lget l k = some x) : (k, x) ∈ l := by
  induction l with
  | nil => cases h
  | cons e l ih =>
    obtain ⟨a, y⟩ := e
    unfold lget at h
    split at h
    · rename_i heq
      cases h
      rw [heq]
      exact List.mem_cons_self
    · exact List.mem_cons_of_mem _ (ih h)

theorem loaded_mem {v : Nat} (h : (s.voice v).loaded = true) : v ∈ (s.voices.filter fun e => e.2.loaded).map Prod.fst := by
  unfold State.voice at h
  rw [tget_eq_lget] at h
  cases hg : lget s.voices v with
  | none =>
    rw [hg] at h
    exact Bool.noConfusion h
  | some x =>
    rw [hg] at h
    exact List.mem_map.2 ⟨(v, x), List.mem_filter.2 ⟨mem_of_lget hg, h⟩, rfl⟩

theorem unrated_late {it : Item} {c : Cpl} (hc : it.unrated.closing = false) (h : it.unrated.late = some c) : fld c.detail 0 2 = 2 := by
  unfold Item.unrated at hc h
  split at hc
  · rename_i hclosing
    exact absurd (hc.symm.trans hclosing) Bool.false_ne_true
  · rename_i hopen
    rw [if_neg hopen] at h
    obtain ⟨d, -, rfl⟩ := Option.map_eq_some_iff.1 h
    have hd := d.detail.isLt
    simp only [fld, setFld, BitVec.toNat_ofNat]
    omega

/-- Every window has ended: late clauses are halted, and no voice is loaded. -/
def State.windowsClosed (s : State) (overran : Bool) : State :=
  let s := s.each (s.voices.filter fun e => e.2.running) fun s e => s.windowEnd e.1 0 0 false overran
  s.unload (s.voices.filter fun e => e.2.loaded)

/-- A rotation off rated occupancy is counted and logged, and its late items are told so. -/
def State.overrun (s : State) : State :=
  if s.rot.overran then
    ((s.updRot fun r => { r with items := r.items.map fun e => (e.1, e.2.unrated) }).count R.rotOveroccTotal).lateLog
      { LateRec.plain 4 2 with sentence := s.rot.sentence.getD 0 }
  else s

/-- The atomic buffers are written back, and items that are finished end. -/
def State.closeItems (s : State) : State :=
  let w := ((List.range 32).foldl State.abufFlush s).runNet
  State.itemsEnd { w with rot := { w.rot with items := w.rot.items.map fun e => (e.1, e.2.closed) } }

theorem closeItems_eq : s.closeItems =
    let w := ((List.range 32).foldl State.abufFlush s).runNet
    State.itemsEnd { w with rot := { w.rot with items := w.rot.items.map fun e => (e.1, e.2.closed) } } := by
  unfold State.closeItems
  rfl

theorem closePhase_eq {near : BitVec 7} {overran : Bool} (h : s.rot.phase = .launch) : s.closePhase near overran =
    (((s.windowsClosed overran).updRot fun r => { r with phase := .close, overran := r.overran || overran }).tally near).overrun.closeItems := by
  unfold State.closePhase
  rw [if_neg (Classical.not_not.2 h)]
  extract_lets a b c late d e
  have hb : b = s.windowsClosed overran := rfl
  have hc : c = ((s.windowsClosed overran).updRot fun r => { r with phase := .close, overran := r.overran || overran }).tally near := by
    rw [← hb]
  have hd : d = c.overrun := rfl
  have he : e = ((List.range 32).foldl State.abufFlush d).runNet := rfl
  rw [← hc, ← hd]
  clear_value d e
  unfold State.closeItems
  rw [← he]
  rfl

theorem overrun_voices : s.overrun.voices = s.voices := by
  have h : Touches (4123168604288 ||| 4096) s s.overrun := by
    unfold State.overrun
    split
    · simp
    · simp
  exact (h .voices (by decide)).symm

theorem overrun_use : s.overrun.use = s.use := by
  have h : Touches (4123168604288 ||| 4096) s s.overrun := by
    unfold State.overrun
    split
    · simp
    · simp
  exact (h .use (by decide)).symm

theorem rot_lateLog {e : LateRec} : (s.lateLog e).rot = s.rot := (((touches_lateLog (Nat.and_self _)).2 .rfl : Touches _ s _) .rot (by decide)).symm

theorem overrun_rot : s.overrun.rot =
    if s.rot.overran then { s.rot with items := s.rot.items.map fun e => (e.1, e.2.unrated) } else s.rot := by
  unfold State.overrun
  split
  · rw [rot_lateLog]
    rfl
  · rfl

end Sys2Proof.Machine

open Sys2Proof Sys2Proof.Machine

/-- A late clause, by what its window's end logs and what its item's completion becomes. -/
theorem lateClauses : Claims.LateClauses := by
  intro s v waited bound exceeded overran x
  refine ⟨fun h => next_congr (windowEnd_halted h), fun hl hr => ⟨_, next_congr (windowEnd_late hl hr), ?_, fun u hu => ?_, fun it hit hlate => ?_, ?_⟩⟩
  · have hx : (s.overranBy overran).voice v.toNat = x := voice_of_voices overranBy_voices
    rw [voice_lateEnded, State.haltVoice, State.updVoice, voice_setVoice, hx]
  · rw [voice_lateEnded, State.haltVoice, State.updVoice, voice_setVoice_other hu, voice_of_voices overranBy_voices]
  · exact item_lateEnded ((item_of_rot overranBy_items).trans hit) hlate
  · rw [← windowEnd_late hl hr]
    exact ((touches_windowEnd (Nat.and_self _)).2 .rfl : Touches _ s _).keeps _ (by decide)

/-- The close, by its parts in their order. -/
theorem rotationCloses : Claims.RotationCloses := by
  refine ⟨fun s near h hv ho => ?_, fun s near overran h => ?_, fun it hc => ?_, fun s h => next_congr (if_neg (Classical.not_not.2 h))⟩
  · intro u w
    have hclosed : s.windowsClosed false = s := by
      unfold State.windowsClosed State.unload
      rw [hv]
      simp [State.each, hv]
    have hrated : ((s.updRot fun r => { r with phase := .close, overran := r.overran || false }).tally near) = u := by
      unfold State.updRot
      dsimp only
      rw [Bool.or_false]
    have hover : u.overrun = u := by
      unfold State.overrun
      exact if_neg fun hh => Bool.false_ne_true (ho.symm.trans hh)
    refine (next_congr (closePhase_eq h)).trans (next_congr ?_)
    have hw : w = ((List.range 32).foldl State.abufFlush u).runNet := rfl
    rw [hclosed, hrated, hover]
    clear_value w u
    rw [closeItems_eq, ← hw]
  · refine ⟨(((s.windowsClosed overran).updRot fun r => { r with phase := .close, overran := r.overran || overran }).tally near).overrun, fun v => ?_, ?_, ?_, ?_, fun hover e he hc c hlate => ?_,
      (next_congr (closePhase_eq h)).trans (next_congr closeItems_eq)⟩
    · rw [voice_of_voices overrun_voices]
      exact unload_loaded (fun v hv => loaded_mem hv) v
    · rw [overrun_rot]
      split
      · rfl
      · rfl
    · rw [overrun_use]
      rfl
    · rw [overrun_use]
      rfl
    · rw [overrun_rot] at he hover
      split at hover
      · rename_i hr
        rw [if_pos hr] at he
        obtain ⟨d, -, rfl⟩ := List.mem_map.1 he
        exact unrated_late hc hlate
      · rename_i hr
        exact absurd hover hr
  · intro ran
    have hran : ran ↔ it.running = true ∧ it.fault.isNone = true ∧ it.late.isNone = true := by simp [ran, Option.isNone_iff_eq_none]
    have hclosed : it.closed = { it with
        running := false, runs := if it.running ∧ it.fault.isNone ∧ it.late.isNone then it.runs + 1 else it.runs
        closing := it.fault.isSome || it.late.isSome || (it.running && decide (it.need ≤
          if it.running ∧ it.fault.isNone ∧ it.late.isNone then it.runs + 1 else it.runs)) } := by
      unfold Item.closed
      exact if_neg (by simp [hc])
    rw [hclosed]
    refine ⟨fun h => if_pos (hran.1 h), fun h => if_neg fun hh => h (hran.2 hh), rfl, ?_⟩
    simp [Option.isSome_iff_ne_none, or_assoc]

/-- Settles O20: the ends of windows, and of the rotation. -/
theorem lateClausesAndClose : Obligations.LateClausesAndClose := ⟨lateClauses, rotationCloses⟩

end

section
/-! PROOF. The ring commands open, close, stop, resume and read a ring, or are refused (R33, R34, R239, R383). -/

namespace Sys2Proof.Machine

variable {s t u : State} {port r : Nat}

/-! ## The gate of a ring command (R33, R383) -/

theorem ringCommand_begins {p : Port} {ring : RingId} {op : Nat} {act : State → State × Byte} {res : Byte} (ho : s.openTo p.toNat)
    (hc : s.ringCmd = none) (ha : act s = (u, res)) :
    s.ringCommand p.toNat ring.toNat op act = { u with ringCmd := some { port := p, ring, result := res } } := by
  unfold State.ringCommand
  rw [setupWrite_open ho (by simp), hc, ha]
  simp

theorem ringCommand_busy {op : Nat} {act : State → State × Byte} {c : RingCmd} (ho : s.openTo port) (hc : s.ringCmd = some c) :
    s.ringCommand port r op act = s.setupError port R.hstRctxCmd 4 := by
  unfold State.ringCommand
  rw [setupWrite_open ho (by simp), hc]
  rfl

/-! ## What each command does (R34) -/

theorem ringForeign_of_mine (h : (s.ring r).state = .disabled ∨ s.controls port (s.ring r).tenant = true) : s.ringForeign port r = false := by
  unfold State.ringForeign
  rcases h with h | h <;> simp [h]

theorem ringForeign_of_foreign (h : (s.ring r).state ≠ .disabled) (hc : s.controls port (s.ring r).tenant = false) : s.ringForeign port r = true := by
  simp [State.ringForeign, h, hc]

/-- The ring CREATE opens. -/
def State.opened (s : State) (r : Nat) (c : Line) : Ring :=
  { Ring.off with ctx := c, state := .active, held := s.ringGranules r { Ring.off with ctx := c } }

theorem doCreate_done (h : s.createResult port r (s.stagedCtx port) = St.done) : s.doCreate port r =
    (((s.setRing r (s.opened r (s.stagedCtx port))).holdNear (s.opened r (s.stagedCtx port)).held).ringXlat r (s.opened r (s.stagedCtx port)), St.done) := by
  unfold State.doCreate
  dsimp only
  rw [if_pos h, h]
  rfl

theorem doCreate_sound (h : s.createResult port r (s.stagedCtx port) ≠ St.done) (hf : s.createFault port r (s.stagedCtx port) = none) :
    s.doCreate port r = (s, s.createResult port r (s.stagedCtx port)) := by
  unfold State.doCreate
  dsimp only
  rw [if_neg h, hf]

theorem doCreate_fault {dva reason level : Nat} {write : Bool} (h : s.createResult port r (s.stagedCtx port) ≠ St.done)
    (hf : s.createFault port r (s.stagedCtx port) = some (dva, reason, level, write)) : s.doCreate port r =
      (s.xltFault (fld (s.stagedCtx port) 144 4) dva reason level write 0x3FF, s.createResult port r (s.stagedCtx port)) := by
  unfold State.doCreate
  dsimp only
  rw [if_neg h, hf]
  rfl

theorem createResult_of_fault {c : Line} {a : Nat × Nat × Nat × Bool} (h : s.createFault port r c = some a) :
    s.createResult port r c = St.badDescriptor := by
  unfold State.createFault at h
  dsimp only at h
  split at h
  · rename_i hok
    obtain ⟨hs, hbad, hctl, hthere⟩ := hok
    unfold State.createResult
    dsimp only
    rw [if_neg (Classical.not_not.2 hs), if_neg (by simpa using hbad), if_neg (by simp [hctl]), if_neg (by simp [hthere]), if_pos (by rw [h]; rfl)]
  · cases h

theorem doDestroy_foreign (h : s.ringForeign port r = true) : s.doDestroy port r = (s, St.notOwner) := if_pos h

theorem doStop_foreign (h : s.ringForeign port r = true) : s.doStop port r = (s, St.notOwner) := if_pos h

theorem doResume_foreign (h : s.ringForeign port r = true) : s.doResume port r = (s, St.notOwner) := if_pos h

theorem doRead_foreign (h : s.ringForeign port r = true) : s.doRead port r = (s, St.notOwner) := if_pos h

theorem outstanding_of_error {x : Ring} (h : x.state = .error) : (!x.outstanding) = true ↔ x.flights = [] := by
  simp [Ring.outstanding, h]

theorem doDestroy_own (h : s.ringForeign port r = false) : s.doDestroy port r =
    if (s.ring r).state = .stopped ∨ ((s.ring r).state = .error ∧ !(s.ring r).outstanding) then
      (((s.ringShown r).setRing r Ring.off).unholdNear (s.ring r).held, St.done)
    else (s, St.badDescriptor) := by
  unfold State.doDestroy
  rw [h]
  rfl

theorem doStop_own (h : s.ringForeign port r = false) : s.doStop port r =
    if (s.ring r).state = .active then ((s.setRing r { s.ring r with state := .stopping, fetching := 0 }).settle r, St.done)
    else (s, St.badDescriptor) := by
  unfold State.doStop
  rw [h]
  rfl

theorem doResume_own (h : s.ringForeign port r = false) : s.doResume port r =
    if (s.ring r).state = .stopped then (s.setRing r { s.ring r with state := .active }, St.done) else (s, St.badDescriptor) := by
  unfold State.doResume
  rw [h]
  rfl

/-- The context of a ring in a port's staging registers. -/
def State.ctxStaged (s : State) (port r : Nat) (l : List Nat) : State :=
  s.each l fun s i => s.setReg (stageOff port (R.hstRctxData i)) (BitVec.ofNat 64 (fld (s.ring r).ctx (64 * i) 64))

theorem doRead_own (h : s.ringForeign port r = false) : s.doRead port r = (s.ctxStaged port r (List.range 8), St.done) := by
  unfold State.doRead
  rw [h]
  rfl

theorem stageOff_inj {a b : Nat} (h : stageOff port a = stageOff port b) : a = b := by
  unfold stageOff at h
  generalize port * 2 ^ 26 = c at h
  omega

theorem strided_inj {a i j : Nat} (h : a + 8 * i = a + 8 * j) : i = j := by omega

theorem hstRctxData_inj {i j : Nat} (h : R.hstRctxData i = R.hstRctxData j) : i = j := strided_inj h

theorem reg_ctxStaged_other {l : List Nat} {i : Nat} (h : i ∉ l) :
    (s.ctxStaged port r l).reg (stageOff port (R.hstRctxData i)) = s.reg (stageOff port (R.hstRctxData i)) := by
  induction l generalizing s with
  | nil => rfl
  | cons j l ih =>
    rw [List.mem_cons, not_or] at h
    exact (ih (s := s.setReg _ _) h.2).trans (reg_setReg_other fun e => h.1 (hstRctxData_inj (stageOff_inj e)))

theorem reg_ctxStaged {l : List Nat} {i : Nat} (hl : l.Nodup) (hi : i ∈ l) :
    (s.ctxStaged port r l).reg (stageOff port (R.hstRctxData i)) = BitVec.ofNat 64 (fld (s.ring r).ctx (64 * i) 64) := by
  induction l generalizing s with
  | nil => cases hi
  | cons j l ih =>
    obtain ⟨hj, hl⟩ := List.nodup_cons.1 hl
    rcases List.mem_cons.1 hi with rfl | hi
    · exact (reg_ctxStaged_other (s := s.setReg _ _) hj).trans reg_setReg_same
    · have hring {k : Nat} {w : Word} : (s.setReg k w).ring r = s.ring r := rfl
      exact (ih (s := s.setReg _ _) hl hi).trans (congrArg (fun x : Ring => BitVec.ofNat 64 (fld x.ctx (64 * i) 64)) hring)

theorem ctxStaged_touches {l : List Nat} : Touches 128 s (s.ctxStaged port r l) := by simp [State.ctxStaged]

theorem ringCmdDone_eq {c : RingCmd} (h : s.ringCmd = some c) : s.ringCmdDone = { s with
    ringCmd := none
    ringLast := tput (fun _ => 0) s.ringLast c.port.toNat (BitVec.ofNat 12 (c.result.toNat + (s.ring c.ring.toNat).state.code * 256)) } := by
  unfold State.ringCmdDone
  rw [h]

end Sys2Proof.Machine

open Sys2Proof Sys2Proof.Machine

/-- The ring commands that are carried out. -/
theorem ringCommandsRun : Claims.RingCommandsRun := by
  intro s port ring ho hc r x began ctx opened mine
  refine ⟨fun h => next_congr (ringCommand_begins ho hc (doCreate_done h)), fun hm hs => ?_, fun hm hs => ?_, fun hm hs => ?_,
    fun hm => ⟨s.ctxStaged port.toNat r (List.range 8), next_congr (ringCommand_begins ho hc (doRead_own (ringForeign_of_mine hm))), ?_, fun i hi => ?_⟩⟩
  · refine next_congr (ringCommand_begins ho hc ((doDestroy_own (ringForeign_of_mine hm)).trans (if_pos ?_)))
    exact hs.imp_right fun he => ⟨he.1, (outstanding_of_error he.1).2 he.2⟩
  · exact next_congr (ringCommand_begins ho hc ((doStop_own (ringForeign_of_mine hm)).trans (if_pos hs)))
  · exact next_congr (ringCommand_begins ho hc ((doResume_own (ringForeign_of_mine hm)).trans (if_pos hs)))
  · exact ctxStaged_touches.keeps _ (by decide)
  · exact reg_ctxStaged List.nodup_range (List.mem_range.2 hi)

/-- The ring commands that are refused, and the completion of one. -/
theorem ringCommandsRefuseAndComplete : Claims.RingCommandsRefuseAndComplete := by
  refine ⟨fun s port ring ho hc => ?_, fun s port ring c0 ho hc c hmem => ?_, fun s c hc => ⟨_, next_congr (ringCmdDone_eq hc), ?_, rfl, ?_, fun p hp => ?_⟩⟩
  · intro r x began foreign mine
    refine ⟨fun h => ?_, fun a ha => createResult_of_fault ha, fun hf c hmem => ?_, fun hm hs he => ?_, fun hm hs => ?_, fun hm hs => ?_⟩
    · cases hf : s.createFault port.toNat r (s.stagedCtx port.toNat) with
      | none => exact next_congr (ringCommand_begins ho hc (doCreate_sound h hf))
      | some a =>
        obtain ⟨dva, reason, level, write⟩ := a
        exact next_congr (ringCommand_begins ho hc (doCreate_fault h hf))
    · have hforeign := ringForeign_of_foreign hf.1 hf.2
      simp only [List.mem_cons, List.not_mem_nil, or_false] at hmem
      rcases hmem with rfl | rfl | rfl | rfl
      · exact next_congr (ringCommand_begins ho hc (doDestroy_foreign hforeign))
      · exact next_congr (ringCommand_begins ho hc (doStop_foreign hforeign))
      · exact next_congr (ringCommand_begins ho hc (doResume_foreign hforeign))
      · exact next_congr (ringCommand_begins ho hc (doRead_foreign hforeign))
    · refine next_congr (ringCommand_begins ho hc ((doDestroy_own (ringForeign_of_mine hm)).trans (if_neg ?_)))
      rintro (h | ⟨hstate, hout⟩)
      · exact hs h
      · exact he.elim (fun h => h hstate) fun h => h ((outstanding_of_error hstate).1 hout)
    · exact next_congr (ringCommand_begins ho hc ((doStop_own (ringForeign_of_mine hm)).trans (if_neg hs)))
    · exact next_congr (ringCommand_begins ho hc ((doResume_own (ringForeign_of_mine hm)).trans (if_neg hs)))
  · simp only [List.mem_cons, List.not_mem_nil, or_false] at hmem
    rcases hmem with rfl | rfl | rfl | rfl | rfl <;> exact next_congr (ringCommand_busy ho hc)
  · rw [← ringCmdDone_eq hc]
    exact ((touches_ringCmdDone (Nat.and_self _)).2 .rfl : Touches _ s _).keeps _ (by decide)
  · exact tget_tput_same (t := s.ringLast) fun _ => 0
  · exact tget_tput_other (t := s.ringLast) (fun _ => 0) hp

/-- Settles O10: the commands that run, and those that are refused or complete. -/
theorem ringCommandsComplete : Obligations.RingCommandsComplete := ⟨ringCommandsRun, ringCommandsRefuseAndComplete⟩

end

section
/-! PROOF. Descriptors are fetched as far as ring and completion slots allow, and pre-checked (R40, R45, R46, R72, R239). -/

namespace Sys2Proof.Machine

variable {s t u : State} {r pos : Nat} {x : Ring}

/-! ## A fetch begins (R45, R46) -/

/-- May a ring begin a fetch, but for the fence of a host port? -/
def State.fetches (s : State) (r : Nat) : Prop :=
  s.pwr.state = .on ∧ (s.ring r).state = .active ∧ (s.ring r).fetching = 0 ∧ (s.ring r).fetchable ≠ 0 ∧ s.fenced 8 (s.dieOf r) = false

theorem fetchBegin_gate (h : s.fetches r) (hp : (s.ring r).inPool = true ∨ s.fenced 7 (s.ring r).hport = false) :
    ¬(s.pwr.state ≠ .on ∨ (s.ring r).state ≠ .active ∨ (s.ring r).fetching ≠ 0 ∨ (s.ring r).fetchable = 0 ∨ s.fenced 8 (s.dieOf r) = true
      ∨ ((!(s.ring r).inPool) = true ∧ s.fenced 7 (s.ring r).hport = true)) := by
  obtain ⟨hon, hact, hidle, hn, hdie⟩ := h
  simp only [hon, hact, hidle, hn, hdie, ne_eq, not_true_eq_false, false_or, Bool.false_eq_true, not_and]
  rcases hp with hp | hp <;> simp [hp]

/-- A ring that is being fetched. -/
def State.fetching (s : State) (r : Nat) : State := s.setRing r { s.ring r with fetching := (s.ring r).fetchable }

theorem fetchBegin_pool (h : s.fetches r) (hp : (s.ring r).inPool = true) :
    s.fetchBegin r = (s.fetching r).dropCame (· == .fetch (BitVec.ofNat 12 r)) := by
  unfold State.fetchBegin
  dsimp only
  rw [if_neg (fetchBegin_gate h (.inl hp)), if_pos hp]
  rfl

/-- The first read of a fetch of host storage: a descriptors from SQ head. -/
def State.headRead (s : State) (x : Ring) (a : Nat) : State :=
  s.emit (.hostRead (BitVec.ofNat 2 x.hport) (BitVec.ofNat 64 (x.sqBase + 64 * (x.sqHead.toNat % x.entries))) (64 * a))

theorem fetchBegin_host (h : s.fetches r) (hp : (s.ring r).inPool = false) (hf : s.fenced 7 (s.ring r).hport = false) :
    let x := s.ring r
    let n := x.fetchable
    let a := min n (x.entries - x.sqHead.toNat % x.entries)
    s.fetchBegin r = if a < n then ((s.fetching r).headRead x a).emit (.hostRead (BitVec.ofNat 2 x.hport) (BitVec.ofNat 64 x.sqBase) (64 * (n - a)))
      else (s.fetching r).headRead x a := by
  unfold State.fetchBegin
  dsimp only
  rw [if_neg (fetchBegin_gate h (.inr hf)), if_neg (by simp [hp])]
  rfl

theorem fetchBegin_reads (h : s.fetches r) (hp : (s.ring r).inPool = false) (hf : s.fenced 7 (s.ring r).hport = false) :
    let x := s.ring r
    let slot := x.sqHead.toNat % x.entries
    (s.fetchBegin r).rings = (s.fetching r).rings ∧ KeepsBut [.rings, .out] s (s.fetchBegin r) ∧ (s.fetchBegin r).out = s.out ++
      (if x.fetchable ≤ x.entries - slot then [.hostRead (BitVec.ofNat 2 x.hport) (BitVec.ofNat 64 (x.sqBase + 64 * slot)) (64 * x.fetchable)]
        else [.hostRead (BitVec.ofNat 2 x.hport) (BitVec.ofNat 64 (x.sqBase + 64 * slot)) (64 * (x.entries - slot)),
          .hostRead (BitVec.ofNat 2 x.hport) (BitVec.ofNat 64 x.sqBase) (64 * (x.fetchable - (x.entries - slot)))]) := by
  intro x slot
  have hfr : KeepsBut [.rings, .out] s (s.fetching r) := fun f hf => by
    cases f <;> first | exact Eq.refl _ | exact absurd (by decide) hf
  rw [fetchBegin_host h hp hf]
  by_cases hw : x.fetchable ≤ x.entries - slot
  · have ha : min x.fetchable (x.entries - slot) = x.fetchable := Nat.min_eq_left hw
    rw [if_neg (by rw [ha]; exact Nat.lt_irrefl _), if_pos hw]
    refine ⟨rfl, fun f hf => ?_, congrArg (fun n => s.out ++ [Out.hostRead _ _ (64 * n)]) ha⟩
    cases f <;> first | exact Eq.refl _ | exact absurd (by decide) hf
  · have ha : min x.fetchable (x.entries - slot) = x.entries - slot := Nat.min_eq_right (by omega)
    rw [if_pos (by rw [ha]; exact Nat.lt_of_not_le hw), if_neg hw]
    refine ⟨rfl, fun f hf => ?_, ?_⟩
    · cases f <;> first | exact Eq.refl _ | exact absurd (by decide) hf
    · have hout (n : Nat) : (((s.fetching r).headRead x n).emit (.hostRead (BitVec.ofNat 2 x.hport) (BitVec.ofNat 64 x.sqBase)
          (64 * (x.fetchable - n)))).out = s.out ++ [.hostRead (BitVec.ofNat 2 x.hport) (BitVec.ofNat 64 (x.sqBase + 64 * slot)) (64 * n),
            .hostRead (BitVec.ofNat 2 x.hport) (BitVec.ofNat 64 x.sqBase) (64 * (x.fetchable - n))] := List.append_assoc _ [_] [_]
      exact (hout _).trans (by rw [ha])

/-! ## What was read arrives (R38, R41) -/

/-- A fetch whose descriptors have arrived. -/
def State.arrivals (s : State) (r : Nat) (l : List Line) : State :=
  (((s.dropCame (· == .fetch (BitVec.ofNat 12 r))).each l fun s d => s.arrive r d).updRing r fun y => { y with fetching := 0 }).settle r

/-- A fetch that met a fault. -/
def State.fetchFaulted (s : State) (r : Nat) (x : Ring) : State :=
  (((s.dropCame (· == .fetch (BitVec.ofNat 12 r))).setRing r { x with fetching := 0 }).ringError r 3).settle r

theorem fetched_gate (hf : (s.ring r).fetching ≠ 0) (ha : (s.ring r).state = .active) : ¬((s.ring r).fetching = 0 ∨ (s.ring r).state ≠ .active) := by
  simp [hf, ha]

variable {descs : List Line}

theorem fetched_host (hf : (s.ring r).fetching ≠ 0) (ha : (s.ring r).state = .active) (hp : (s.ring r).inPool = false) :
    s.fetched r descs false = s.arrivals r (descs.take (s.ring r).fetching) := by
  have hn : s.fetchNeeds r (s.ring r) = [] := by simp [State.fetchNeeds, hp]
  unfold State.fetched
  dsimp only
  rw [if_neg (fetched_gate hf ha), if_neg (by simp [hn]), if_neg (by simp [hp]), if_neg (by simp [hp]), if_neg (by simp [hp])]
  rfl

theorem fetched_pool (hf : (s.ring r).fetching ≠ 0) (ha : (s.ring r).state = .active) (hp : (s.ring r).inPool = true)
    (hn : s.fetchNeeds r (s.ring r) = []) (hok : s.fetchFails r (s.ring r) = none) :
    s.fetched r descs false = (s.fetchXlat r (s.ring r)).arrivals r (s.poolDescs r (s.ring r)) := by
  unfold State.fetched
  dsimp only
  rw [if_neg (fetched_gate hf ha), if_neg (by simp [hn]), if_neg (by simp [hok]), if_pos (by simp [hp]), if_pos hp]
  rfl

theorem fetched_needs (hf : (s.ring r).fetching ≠ 0) (ha : (s.ring r).state = .active) (hn : s.fetchNeeds r (s.ring r) ≠ []) :
    s.fetched r descs false = s.ask (s.fetchEng r (s.ring r)) (s.fetchNeeds r (s.ring r)) := by
  unfold State.fetched
  dsimp only
  rw [if_neg (fetched_gate hf ha), if_pos (by simp [hn])]

theorem fetched_fails (hf : (s.ring r).fetching ≠ 0) (ha : (s.ring r).state = .active) (hp : (s.ring r).inPool = true)
    (hn : s.fetchNeeds r (s.ring r) = []) (hbad : s.fetchFails r (s.ring r) ≠ none) :
    s.fetched r descs false = (s.fetchXlat r (s.ring r)).fetchFaulted r (s.ring r) := by
  have hsome : (s.fetchFails r (s.ring r)).isSome = true := Option.isSome_iff_ne_none.2 hbad
  unfold State.fetched
  dsimp only
  rw [if_neg (fetched_gate hf ha), if_neg (by simp [hn]), if_pos (by simp [hp, hsome]), if_pos (by simp [hp])]
  rfl

theorem fetched_fault (hf : (s.ring r).fetching ≠ 0) (ha : (s.ring r).state = .active) :
    s.fetched r descs true = s.fetchFaulted r (s.ring r) := by
  unfold State.fetched
  dsimp only
  rw [if_neg (fetched_gate hf ha), if_neg (by simp), if_pos (by simp), if_neg (by simp)]
  rfl

/-! ## One descriptor joins those in hand (R46) -/

theorem ring_of_rings (h : t.rings = s.rings) : t.ring r = s.ring r := congrArg (fun l => tget (fun _ => Ring.off) l r) h

theorem ring_setRing_same : (s.setRing r x).ring r = x := tget_tput_same (t := s.rings) fun _ => Ring.off

theorem ring_touchNamed {k : RingKind} {n : Nat} {d : Line} : (s.touchNamed k n d).ring r = s.ring r :=
  ring_of_rings (((touches_touchNamed (Nat.and_self _)).2 .rfl : Touches _ s _) .rings (by decide)).symm

theorem ring_arrive {d : Line} : let x := s.ring r
    (s.arrive r d).ring r = { x with
      sqHead := x.sqHead + 1, fetching := x.fetching - 1
      flights := x.flights ++ [{ pos := x.sqHead, desc := d, stage := s.firstStage x d, seq := s.nextSeq, host := [], idx := [], off := []
                                 depths := [] }] } :=
  ring_touchNamed.trans ring_setRing_same

theorem descriptorsAreFetched : Claims.DescriptorsAreFetched := by
  intro s ring r x n
  have hr : BitVec.ofNat 12 r = ring := (BitVec.ofNat_toNat 12 ring).trans (BitVec.setWidth_eq ring)
  refine ⟨fun hon ha hi hn hd => ?_, fun descs hf ha => ?_, fun d => ring_arrive⟩
  · have hg : s.fetches r := ⟨hon, ha, hi, hn, hd⟩
    refine ⟨fun hp => next_congr ((fetchBegin_pool hg hp).trans (by rw [hr]; rfl)), fun hp hfe => ⟨_, rfl, ?_⟩⟩
    exact fetchBegin_reads hg hp hfe
  · have hcame : (fun w => w == Waiter.fetch (BitVec.ofNat 12 r)) = (· == .fetch ring) := by rw [hr]
    have harr (u : State) (l : List Line) : u.arrivals r l = ((l.foldl (fun s d => s.arrive r d) (u.dropCame (· == .fetch ring))).updRing r
        fun y => { y with fetching := 0 }).settle r := by unfold State.arrivals; rw [hr]; rfl
    have hbad (u : State) : u.fetchFaulted r x = (((u.dropCame (· == .fetch ring)).setRing r { x with fetching := 0 }).ringError r 3).settle r := by
      unfold State.fetchFaulted; rw [hr]
    exact ⟨fun hp => next_congr ((fetched_host hf ha hp).trans (harr _ _)),
      fun hp hn hok => next_congr ((fetched_pool hf ha hp hn hok).trans (harr _ _)),
      fun _ hn => next_congr (fetched_needs hf ha hn),
      fun hp hn hno => next_congr ((fetched_fails hf ha hp hn hno).trans (hbad _)),
      next_congr ((fetched_fault hf ha).trans (hbad _))⟩

/-! ## The pre-check (R128, R136, R138, R239) -/

variable {f : Flight}

theorem precheckSpans_missing (hk : (s.ring r).kind = .attn) (hm : s.attnMissing (attnQ f.desc) f.depth ≠ []) :
    s.precheckSpans r f = s.each (s.attnMissing (attnQ f.desc) f.depth) fun u p =>
      u.askPage (sidHandle (attnQ f.desc).sid) (attnQ f.desc).layer p := by
  unfold State.precheckSpans
  dsimp only
  rw [if_pos hk, if_pos (by simp [hm])]

theorem precheckSpans_passes (hm : (s.ring r).kind = .attn → s.attnMissing (attnQ f.desc) f.depth = [])
    (hs : s.spanFault (s.frontCache r) (dTenant f.desc) (s.spansOf (s.ring r).kind f.desc) = none) :
    s.precheckSpans r f =
      (State.spansXlat (s.frontCache r) (dTenant f.desc) (s.spansOf (s.ring r).kind f.desc) s).setStage r f.pos.toNat .candidate := by
  unfold State.precheckSpans
  dsimp only
  rw [if_neg, hs]
  by_cases hk : (s.ring r).kind = .attn
  · rw [if_pos hk, hm hk]; simp
  · rw [if_neg hk]; simp

theorem precheckSpans_faults {byte dva reason level : Nat} {write : Bool}
    (hm : (s.ring r).kind = .attn → s.attnMissing (attnQ f.desc) f.depth = [])
    (hs : s.spanFault (s.frontCache r) (dTenant f.desc) (s.spansOf (s.ring r).kind f.desc) = some (byte, dva, reason, level, write)) :
    s.precheckSpans r f = ((State.spansXlat (s.frontCache r) (dTenant f.desc) (s.spansOf (s.ring r).kind f.desc) s).xltFault
      (dTenant f.desc) dva reason level write 0x3FF).endFlight r f.pos.toNat (Cpl.bad byte 6) := by
  unfold State.precheckSpans
  dsimp only
  rw [if_neg, hs]
  by_cases hk : (s.ring r).kind = .attn
  · rw [if_pos hk, hm hk]; simp
  · rw [if_neg hk]; simp

theorem flight_pos (h : s.flight r pos = some f) : f.pos.toNat = pos := by
  simpa using List.find?_some h

theorem precheck_other (h : s.flight r pos = some f) (hs : f.stage = .preparing) (hk : (s.ring r).kind ≠ .attn) :
    s.precheck r pos = s.precheckSpans r f := by
  unfold State.precheck
  rw [h]
  dsimp only
  rw [if_neg (by simp [hs]), if_pos hk]

theorem precheck_waits (h : s.flight r pos = some f) (hs : f.stage = .preparing) (hk : (s.ring r).kind = .attn)
    (hm : s.readMask r f = .waits u) : s.precheck r pos = u.runNet := by
  unfold State.precheck
  rw [h]
  dsimp only
  rw [if_neg (by simp [hs]), if_neg (by simp [hk]), hm]

theorem precheck_masked {bs : List Byte} (h : s.flight r pos = some f) (hs : f.stage = .preparing) (hk : (s.ring r).kind = .attn)
    (hm : s.readMask r f = .ok u bs) : let depths := (List.range 16).map fun i => numAt bs (32 + i) 1
    s.precheck r pos = (u.setFlight r pos fun f => { f with depths }).precheckSpans r { f with depths } := by
  unfold State.precheck
  rw [h]
  dsimp only
  rw [if_neg (by simp [hs]), if_neg (by simp [hk]), hm]

/-- Reading the mask leaves every ring as it is. -/
theorem ring_readMask {bs : List Byte} (hm : s.readMask r f = .ok u bs) : u.ring r = s.ring r := by
  have h : Touches _ s u := (Touches.got hm).2 ((touches_readMask (Nat.and_self _)).2 .rfl)
  exact ring_of_rings (h .rings (by decide)).symm

theorem kind_setFlight {g : Flight → Flight} : ((s.setFlight r pos g).ring r).kind = (s.ring r).kind := by
  unfold State.setFlight State.updRing
  rw [ring_setRing_same]
  rfl

theorem descriptorsArePrechecked : Claims.DescriptorsArePrechecked := by
  intro s ring pos f h hs r k ends
  have hpos : f.pos.toNat = pos.toNat := flight_pos h
  have hends {u : State} {g : Flight} (hg : g.pos = f.pos) (hd : g.desc = f.desc) (hk : (u.ring r).kind = k)
      (he : s.precheck r pos.toNat = u.precheckSpans r g) : ends u g := by
    have hgp : g.pos.toNat = pos.toNat := hg ▸ hpos
    refine ⟨fun hka hm => next_congr (he.trans ?_), fun hm => ⟨fun hok => next_congr (he.trans ?_), fun byte dva reason level write hbad =>
      next_congr (he.trans ?_)⟩⟩
    · rw [precheckSpans_missing (hk.trans hka) (by rw [hd]; exact hm), hd]; rfl
    · rw [precheckSpans_passes (by rw [hk, hd]; exact hm) (by rw [hk, hd]; exact hok), hk, hd, hgp]
    · rw [precheckSpans_faults (by rw [hk, hd]; exact hm) (by rw [hk, hd]; exact hbad), hk, hd, hgp]
  refine ⟨fun hk => hends rfl rfl rfl (precheck_other h hs hk), fun u bs hk hm => ?_, fun u hk hm => next_congr (precheck_waits h hs hk hm),
    fun _ ht => ?_⟩
  · exact hends rfl rfl (kind_setFlight.trans (by rw [ring_readMask hm])) (precheck_masked h hs hk hm)
  · unfold State.readMask
    dsimp only
    rw [if_neg (by simp [ht])]

/-- Settles O11: a fetch reads what ring and completion slots allow, and a pre-check goes by the spans' translation. -/
theorem descriptorsAreFetchedAndChecked : Obligations.DescriptorsAreFetchedAndChecked :=
  ⟨descriptorsAreFetched, descriptorsArePrechecked⟩

end Sys2Proof.Machine
end

section
/-! PROOF. DMA descriptors start in order, move all their bytes, and end with a count (R27, R51 to R56, R226, R263). -/

namespace Sys2Proof.Machine

variable {s t u s1 : State} {r pos op n : Nat} {f : Flight} {d : Line}

/-! ## A descriptor starts (R51, R53, R54) -/

/-- Does a fenced descriptor follow one that failed (R56)? -/
theorem dmaStopped_iff : s.dmaStopped r f = true ↔ dFence f.desc = true ∧ (s.ring r).failedAt = some (f.pos - 1) := by
  simp [State.dmaStopped]

theorem dmaStart_stopped (h : s.dmaMay r pos op = some f) (hs : s.dmaStopped r f = true) :
    s.dmaStart r pos op = s.finish r pos (Cpl.of St.stopped) := by
  unfold State.dmaStart
  rw [h]
  exact if_pos hs

theorem dmaStart_bad {off why : Nat} (h : s.dmaMay r pos op = some f) (hs : ¬s.dmaStopped r f = true)
    (hc : s.dmaCheck f.desc = some (off, why)) : s.dmaStart r pos op = s.finish r pos (Cpl.bad off why) := by
  unfold State.dmaStart
  rw [h]
  dsimp only
  rw [if_neg hs, hc]

theorem dmaStart_weights (h : s.dmaMay r pos op = some f) (hs : ¬s.dmaStopped r f = true) (hc : s.dmaCheck f.desc = none)
    (hw : s.dmaWeights (channelCache (s.ring r).channel) (s.ring r).tenant f.desc = true) :
    s.dmaStart r pos op = s.dmaEnd r pos (Cpl.bad 8 6) 0 := by
  unfold State.dmaStart
  rw [h]
  dsimp only
  rw [if_neg hs, hc]
  exact if_pos hw

/-- The granules a transfer touches are asked for. -/
def State.dmaDemand (s : State) (r pos : Nat) (l : List Nat) : State :=
  s.each l fun s g => s.demand g false (some (BitVec.ofNat 12 r, BitVec.ofNat 32 pos))

theorem touches_dmaDemand {l : List Nat} : Touches 37383395344386 s (s.dmaDemand r pos l) := by
  unfold State.dmaDemand
  exact (touches_each (by decide) fun _ _ => (touches_demand (by decide)).2 .rfl).2 .rfl

theorem dmaStart_runs (h : s.dmaMay r pos op = some f) (hs : ¬s.dmaStopped r f = true) (hc : s.dmaCheck f.desc = none)
    (hw : s.dmaWeights (channelCache (s.ring r).channel) (s.ring r).tenant f.desc = false) :
    ∃ l, s.dmaStart r pos op = (s.setStage r pos .running).dmaDemand r pos l := by
  unfold State.dmaStart
  rw [h]
  dsimp only
  rw [if_neg hs, hc]
  exact ⟨_, if_neg (by simp [hw])⟩

theorem dmaNop_ends (h : s.dmaMay r pos 3 = some f) : s.dmaNop r pos =
    s.finish r pos (Cpl.of (if s.dmaStopped r f then St.stopped else St.done)) := by
  unfold State.dmaNop
  rw [h]

theorem dmaDescriptorsStart : Claims.DmaDescriptorsStart := by
  intro s ring pos f r p t stopped
  refine ⟨fun e he hm => ?_, fun hm => next_congr (dmaNop_ends hm)⟩
  have hexec : exec e.1 s = .next (s.dmaStart r p e.2) := by
    rcases List.mem_cons.1 he with rfl | he
    · rfl
    · rw [List.mem_singleton.1 he]; rfl
  rw [hexec]
  refine ⟨fun hs => next_congr (dmaStart_stopped hm (dmaStopped_iff.2 hs)),
    fun hs off why hc => next_congr (dmaStart_bad hm (mt dmaStopped_iff.1 hs) hc),
    fun hs hc hw => next_congr (dmaStart_weights hm (mt dmaStopped_iff.1 hs) hc hw), fun hs hc hw => ?_⟩
  obtain ⟨l, hl⟩ := dmaStart_runs hm (mt dmaStopped_iff.1 hs) hc hw
  have hd : Touches _ (s.setStage r p .running) ((s.setStage r p .running).dmaDemand r p l) := touches_dmaDemand
  refine ⟨_, next_congr hl, (hd .rings (by decide)).symm, ?_⟩
  have hset : Touches 512 s (s.setStage r p .running) := fun g hg => by
    cases g <;> first | exact Eq.refl _ | exact absurd hg (by decide)
  exact ((hset.mono (by decide)).trans (hd.mono (m := 37383395344898) (by decide))).keeps _ (by decide)

/-! ## The oldest transfer ends (R52, R55, R56) -/

variable {src : List Byte} {bad : List Nat} {limit : Nat} {how : Cpl}

theorem dmaFinish_refused {w : Bool} {a : Nat} {e : Refuse} (h : s.dmaMove r f.pos.toNat f.desc src bad limit = (s1, n, some (w, a, e), false)) :
    s.dmaFinish r f src bad limit how = (s1.noteRefusal (s.ring r).tenant w 0x3FF a e).dmaEnd r f.pos.toNat (e.cpl (if w then 16 else 8)) n := by
  unfold State.dmaFinish
  rw [h]
  rfl

theorem dmaFinish_moved (h : s.dmaMove r f.pos.toNat f.desc src bad limit = (s1, n, none, false)) :
    s.dmaFinish r f src bad limit how = s1.dmaEnd r f.pos.toNat how n := by
  unfold State.dmaFinish
  rw [h]
  dsimp only
  rw [if_neg (by simp), if_neg (by simp)]

theorem dmaFinish_poisoned (h : s.dmaMove r f.pos.toNat f.desc src bad limit = (s1, n, none, true)) (hd : how.status = St.done) :
    s.dmaFinish r f src bad limit how = (if dmaIsFill f.desc = false ∧ dmaSrcHost f.desc = false then
      s1.poisonedRead (channelCache (s.ring r).channel) (s.ring r).tenant (dmaSrc f.desc) (dmaLen f.desc) else s1).dmaEnd r f.pos.toNat
        (Cpl.of St.poisoned) n := by
  unfold State.dmaFinish
  rw [h]
  dsimp only
  rw [if_pos ⟨hd, rfl⟩]
  simp

theorem dmaEnd_done {c : Cpl} (h : c.status = St.done) : s.dmaEnd r pos c n = s.finish r pos { c with result0 := BitVec.ofNat 64 n } := by
  unfold State.dmaEnd
  rw [if_pos h]

section
variable (h : s.dmaOldest r = some f)
include h

theorem dmaComplete_weights (hf : s.dmaFenced (s.ring r).channel f.desc = false)
    (hw : s.dmaWeights (channelCache (s.ring r).channel) (s.ring r).tenant f.desc = true) :
    s.dmaComplete r src bad = s.dmaEnd r f.pos.toNat (Cpl.bad 8 6) 0 := by
  unfold State.dmaComplete
  rw [h]
  dsimp only
  rw [if_neg (by simp [hf]), if_pos hw]

variable (hf : s.dmaFenced (s.ring r).channel f.desc = false)
  (hw : s.dmaWeights (channelCache (s.ring r).channel) (s.ring r).tenant f.desc = false)
include hf hw

theorem dmaComplete_waits (hg : (s.dmaGranules (channelCache (s.ring r).channel) (s.ring r).tenant f.desc).all s.served = false) :
    s.dmaComplete r src bad = s.each (s.dmaGranules (channelCache (s.ring r).channel) (s.ring r).tenant f.desc) fun u g => u.demand g false none := by
  unfold State.dmaComplete
  rw [h]
  dsimp only
  rw [if_neg (by simp [hf]), if_neg (by simp [hw]), if_neg (by simp [hg])]

variable (hg : (s.dmaGranules (channelCache (s.ring r).channel) (s.ring r).tenant f.desc).all s.served = true)
include hg

theorem dmaComplete_asks (hn : s.dmaNeeds r f.pos.toNat f.desc ≠ []) :
    s.dmaComplete r src bad = s.ask (s.dmaEng r f.pos.toNat 8) (s.dmaNeeds r f.pos.toNat f.desc) := by
  unfold State.dmaComplete
  rw [h]
  dsimp only
  rw [if_neg (by simp [hf]), if_neg (by simp [hw]), if_pos hg, if_neg (by simp [hn])]

theorem dmaComplete_moves (hn : s.dmaNeeds r f.pos.toNat f.desc = []) :
    s.dmaComplete r src bad = s.dmaFinish r f src bad (dmaLen f.desc) (Cpl.of St.done) := by
  unfold State.dmaComplete
  rw [h]
  dsimp only
  rw [if_neg (by simp [hf]), if_neg (by simp [hw]), if_pos hg, if_pos (by simp [hn])]

end

theorem dmaFails_eq {why : DmaFail} {written : Nat} (h : s.dmaOldest r = some f)
    (hw : why ≠ .hostTimeout ∨ (dmaIsFill f.desc = false ∧ dmaSrcHost f.desc = true)) :
    s.dmaFails r why written src = (if why = .translation then s.dmaXltFault r f.desc (min written (dmaLen f.desc)) else s).dmaFinish r f src []
      (min written (dmaLen f.desc)) (dmaFailCpl f.desc why) := by
  have hno : ¬(why = .hostTimeout ∧ (dmaIsFill f.desc = true ∨ (!dmaSrcHost f.desc) = true)) := by
    rintro ⟨hy, hd⟩
    rcases hw with hw | ⟨hi, hh⟩
    · exact hw hy
    · simp [hi, hh] at hd
  unfold State.dmaFails
  rw [h]
  dsimp only
  rw [if_neg hno]
  cases why <;> rfl

/-! ## A fill moves its whole length (R51) -/

theorem swapWords_zero {α : Type} : ∀ l : List α, swapWords 0 l = l
  | a :: b :: c :: e :: l => by simp [swapWords, swapWords_zero l]
  | [] | [_] | [_, _] | [_, _, _] => by simp [swapWords]

theorem length_fillBytes {p k : Nat} : (fillBytes p k).length = k := by simp [fillBytes]

theorem fillBytes_clean {p k : Nat} : (fillBytes p k).any Prod.snd = false := by simp [fillBytes]

theorem dmaWhole_plain (h : dmaSwap d = 0) : dmaWhole d n = n := if_pos h

theorem dmaMove_fill {k : Nat} (hi : dmaIsFill d = true) (hs : dmaSwap d = 0) (hd : dmaDstHost d = false)
    (hw : State.scatter (s.dmaEng r pos 16) (pieces (dmaLen d)) s (dmaDst d) (fillBytes (dNum d 32 8) (dmaLen d)) = (s1, k, none)) :
    s.dmaMove r pos d [] [] (dmaLen d) = (s1.count (R.dmaBytes (s.ring r).channel) k, k, none, false) := by
  have hread : s.dmaRead r pos d [] [] = (fillBytes (dNum d 32 8) (dmaLen d), none) := if_pos hi
  unfold State.dmaMove
  rw [hread]
  dsimp only
  simp only [hi, hs, hd, dmaWhole_plain hs, swapWords_zero, length_fillBytes, Nat.min_self, fillBytes_clean, hw, if_true, Bool.true_or,
    Bool.false_eq_true, if_false, Nat.lt_irrefl, Option.map_none, List.take_of_length_le (Nat.le_of_eq length_fillBytes)]

theorem dmaTransfersEnd : Claims.DmaTransfersEnd := by
  intro s ring f ho r x d granules
  refine ⟨fun src bad hf hw => ⟨fun hg hn => ?_, fun hg hn => next_congr (dmaComplete_asks ho hf hw hg hn),
      fun hg => next_congr (dmaComplete_waits ho hf hw hg)⟩,
    fun src bad hf hw => next_congr (dmaComplete_weights ho hf hw), fun why written src s1 n hy => ?_, fun s1 k hi hs hd hw => dmaMove_fill hi hs hd hw⟩
  · have he : exec (.dmaDescriptorComplete ring src bad) s = .next (s.dmaFinish r f src bad (dmaLen d) (Cpl.of St.done)) :=
      next_congr (dmaComplete_moves ho hf hw hg hn)
    rw [he]
    exact ⟨fun s1 n hm => next_congr ((dmaFinish_moved hm).trans (dmaEnd_done rfl)), fun s1 n w a e hm => next_congr (dmaFinish_refused hm),
      fun s1 n hm => next_congr (dmaFinish_poisoned hm rfl)⟩
  · intro k u hm
    exact next_congr ((dmaFails_eq ho hy).trans (dmaFinish_moved hm))

/-! ## A read of a host goes unanswered (R27) -/

theorem dmaCut_eq : ∃ n u src, n ≤ dmaLen f.desc ∧ KeepsBut [.free] s u ∧ s.dmaCut r f how = u.dmaFinish r f src [] n how := by
  refine ⟨(Config.freeWord s.free).toNat % (dmaLen f.desc + 1), _, _, Nat.le_of_lt_succ (Nat.mod_lt _ (Nat.succ_pos _)),
    ((touches_drawBytes (Nat.and_self 4)).2 ((touches_draw (Nat.and_self 4)).2 .rfl)).keeps _ (by decide), rfl⟩

theorem hostTimeout_waiting (h : s.flight r pos = some f) (hr : readsHost (s.ring r).kind f.desc = true) (hk : (s.ring r).kind ≠ .dma)
    (hs : f.stage = .queued ∨ f.stage = .preparing) : s.hostTimeout r pos = s.finish r pos (Cpl.of St.timeout) := by
  unfold State.hostTimeout
  rw [h]
  dsimp only
  rw [if_neg (by simp [hr]), if_neg hk, if_pos hs]

theorem hostTimeout_dma (h : s.flight r pos = some f) (hr : readsHost (s.ring r).kind f.desc = true) (hk : (s.ring r).kind = .dma)
    (hs : f.stage = .running) : s.hostTimeout r pos = s.dmaCut r f (Cpl.of St.timeout) := by
  unfold State.hostTimeout
  rw [h]
  dsimp only
  rw [if_neg (by simp [hr]), if_pos hk, if_pos hs]

theorem hostReadTimesOut : Claims.HostReadTimesOut := by
  intro s ring pos f h hr
  refine ⟨fun hk hs => next_congr (hostTimeout_waiting h hr hk hs), fun hk hs => ?_⟩
  obtain ⟨n, u, src, hn, hu, he⟩ := dmaCut_eq (s := s) (r := ring.toNat) (f := f) (how := Cpl.of St.timeout)
  exact ⟨n, u, src, hn, hu, next_congr ((hostTimeout_dma h hr hk hs).trans he)⟩

/-- Settles O16: a transfer starts by its checks, and ends with the bytes it moved or with what stopped it. -/
theorem dmaTransfersRun : Obligations.DmaTransfersRun := ⟨dmaDescriptorsStart, dmaTransfersEnd, hostReadTimesOut⟩

end Sys2Proof.Machine
end

section
/-! PROOF. The session store's timers expire with their consequences (R121 to R124, R129, R131). -/

namespace Sys2Proof.Machine

variable {s t u : State} {h : Nat}

/-! ## Sessions beside other state -/

theorem session_of_sessions (hs : t.sessions = s.sessions) : t.session h = s.session h := by
  unfold State.session
  rw [hs]

theorem session_of_touches {m : Nat} (ht : Touches m s t) (hm : m.testBit 13 = false := by decide) : t.session h = s.session h :=
  session_of_sessions (ht .sessions hm).symm

theorem session_setSession_same {x : Session} : (s.setSession h x).session h = x := tget_tput_same (t := s.sessions) (d := fun _ => Session.none)

theorem session_setSession_other {k : Nat} {x : Session} (hk : k ≠ h) : (s.setSession h x).session k = s.session k :=
  tget_tput_other (t := s.sessions) (d := fun _ => Session.none) hk

/-- The home of a handle is a matter of registers alone. -/
theorem isHome_of_regs (hr : t.regs = s.regs) (hw : t.rwk = s.rwk) (hv : t.variant = s.variant) : t.isHome h = s.isHome h := by
  have hreg (k : Nat) : t.reg k = s.reg k := reg_of_regs hr
  have hrwk (k : Nat) : t.rwkReg k = s.rwkReg k := by unfold State.rwkReg; rw [hw, hv]
  unfold State.isHome State.homeDev State.setMask State.setSize State.devNo State.setMask
  rw [hreg, hrwk]

theorem isHome_of_touches {m : Nat} (ht : Touches m s t) (hm : m.testBit 7 = false := by decide) (hw : m.testBit 6 = false := by decide)
    (hv : m.testBit 3 = false := by decide) :
    t.isHome h = s.isHome h :=
  isHome_of_regs (ht .regs hm).symm (ht .rwk hw).symm (ht .variant hv).symm

theorem mgAnswered_touches {p : Out → Bool} : Touches 18889483945877090336768 s (s.mgAnswered p) := (touches_mgAnswered (by decide)).2 .rfl

/-! ## The handoff timer (R129) -/

/-- OFFERs end with the session's ID. -/
theorem endOffers_touches {l : List Offer} {st : Byte} {c h : Nat} :
    Touches 1845278738269121545094 s (s.each l fun s (o : Offer) => s.endSess o.ring o.pos st c (s.sidOf h) none) :=
  (touches_each (by decide) fun _ _ => (touches_endSess (by decide)).2 .rfl).2 .rfl

/-- The entry whose handoff was given up. -/
def Session.orphaned (x : Session) : Session := { x with state := .live, hphase := .none, epoch := x.epoch + 1 }

/-- The event of an orphaned handoff is recorded. -/
def State.orphans (s : State) (h : Nat) : State :=
  ((s.setSession h (s.session h).orphaned).count R.sesOrphanTotal).record
    { ErrRec.plain 1 8 ((((s.setSession h (s.session h).orphaned).count R.sesOrphanTotal)).homeDie ((reservedBase + 64 * h) / 65536)) 5 with
      status := St.timeout, tenant := some (s.session h).tenant
      addr := ((s.setSession h (s.session h).orphaned).count R.sesOrphanTotal).sessionFpa h }

theorem handoffExpired_orphans (hs : (s.session h).state = .handoff) (hp : (s.session h).hphase = .offered ∨ (s.session h).hphase = .granted) :
    ∃ l : List Offer, s.handoffExpired h = ({ s.orphans h with offers := dropIf (fun o => o.handle.toNat == h) (s.orphans h).offers } : State).each l
      fun s o => s.endSess o.ring o.pos St.timeout 0 (s.sidOf h) none := by
  unfold State.handoffExpired
  dsimp only
  rw [if_pos ⟨hs, hp⟩]
  exact ⟨_, rfl⟩

theorem orphans_touches : Touches 73786980418006819202 s (s.orphans h) := by
  unfold State.orphans
  exact (touches_record (by decide)).2 ((touches_count (by decide)).2 ((touches_setSession (by decide)).2 .rfl))

theorem session_orphans {k : Nat} : (s.orphans h).session k = (s.setSession h (s.session h).orphaned).session k := by
  unfold State.orphans
  exact session_of_touches ((touches_record (Nat.and_self _)).2 ((touches_count (by decide)).2 .rfl))

theorem handoffTimer_orphans (hs : (s.session h).state = .handoff) (hp : (s.session h).hphase = .offered ∨ (s.session h).hphase = .granted) :
    (s.handoffExpired h).session h = (s.session h).orphaned ∧ (s.handoffExpired h).offers = dropIf (fun o => o.handle.toNat == h) s.offers ∧
      ∀ i, i ≠ h → (s.handoffExpired h).session i = s.session i := by
  obtain ⟨l, hl⟩ := handoffExpired_orphans hs hp
  rw [hl]
  have hses (i : Nat) := session_of_touches (h := i) (endOffers_touches (s := { s.orphans h with
    offers := dropIf (fun o => o.handle.toNat == h) (s.orphans h).offers }) (l := l) (st := St.timeout) (c := 0) (h := h))
  have hoff := endOffers_touches (s := { s.orphans h with
    offers := dropIf (fun o => o.handle.toNat == h) (s.orphans h).offers }) (l := l) (st := St.timeout) (c := 0) (h := h) .offers (by decide)
  refine ⟨(hses h).trans (session_orphans.trans session_setSession_same), hoff.symm.trans ?_,
    fun i hi => (hses i).trans (session_orphans.trans (session_setSession_other hi))⟩
  exact congrArg _ (orphans_touches .offers (by decide)).symm

/-! ## The release wait and the idle time (R124, R131) -/

theorem releaseExpired_loses (hs : (s.session h).state = .handoff) (hp : (s.session h).hphase = .committed) :
    s.releaseExpired h = s.loseSession h := if_pos ⟨hs, hp⟩

theorem sessionIdle_live (hs : (s.session h).state = .live) : s.sessionIdle h = s.setSession h { s.session h with state := .idle } := if_pos hs

theorem asleep_on (hon : s.pwr.state = .on) : s.asleep = false := by simp [State.asleep, hon]

theorem session_loseSession (hf : (s.session h).state ≠ .free) (hl : (s.session h).state ≠ .lost) :
    (s.loseSession h).session h = { s.session h with state := .lost, hphase := .none } := by
  unfold State.loseSession
  dsimp only
  rw [if_neg (by simp [hf, hl])]
  refine (session_of_touches ((touches_record (Nat.and_self _)).2 .rfl)).trans ?_
  exact session_setSession_same

theorem touches_losing : Touches 73786980418006819202 s (s.loseSession h) := (touches_loseSession (by decide)).2 .rfl

/-! ## A member follows its home's lease (R122, R130) -/

/-- What a member does with its entry by its home's lease. -/
def State.follows (s : State) (h : Nat) (l : Lease) : State :=
  let x := s.session h
  if l.lost then s.loseSession h
  else if x.state ≠ .handoff then s
  else if l.handoff then s.setSession h { x with epoch := l.epoch, hphase := .none, peer := l.peer }
  else s.setSession h { x with state := .live, hphase := .none, epoch := l.epoch }

theorem follows_heldPulls {l : Lease} : (s.follows h l).heldPulls = s.heldPulls := by
  unfold State.follows
  dsimp only
  split
  · exact (touches_losing .heldPulls (by decide)).symm
  · repeat' split
    all_goals rfl

theorem leaseRead_follows {sid : SessionId} {l : Lease} (hg : (s.session (sidHandle sid.toNat)).gen.toNat = sidGen sid.toNat)
    (hh : s.isHome (sidHandle sid.toNat) = false) (hp : s.heldPulls = []) : s.leaseRead sid l = s.follows (sidHandle sid.toNat) l := by
  have hn : (s.follows (sidHandle sid.toNat) l).heldPulls = [] := follows_heldPulls.trans hp
  unfold State.leaseRead
  dsimp only
  rw [if_neg (by simp [hg, hh])]
  change ({ s.follows (sidHandle sid.toNat) l with heldPulls := dropIf _ (s.follows (sidHandle sid.toNat) l).heldPulls } : State).each
    ((s.follows (sidHandle sid.toNat) l).heldPulls.filter _) _ = _
  rw [hn]
  exact withHeldPulls_self hn

theorem leaseResolve_follows {sid : SessionId} {l : Lease} (hon : s.pwr.state = .on) (hf : s.ras.fog = false) (hp : s.heldPulls = [])
    (hg : (s.session (sidHandle sid.toNat)).gen.toNat = sidGen sid.toNat) (hh : s.isHome (sidHandle sid.toNat) = false) :
    exec (.leaseResolve sid l) s = .next ((s.mgAnswered (leaseOut sid)).follows (sidHandle sid.toNat) l) := by
  have ht := mgAnswered_touches (s := s) (p := leaseOut sid)
  refine next_congr ((whenServed_on hon hf).trans (leaseRead_follows ?_ ?_ ?_))
  · rw [session_of_touches ht]; exact hg
  · rw [isHome_of_touches ht]; exact hh
  · exact (ht .heldPulls (by decide)).symm.trans hp

/-! ## Reclamation (R121) -/

theorem reclaimStep_discarded {g : Gone} {rest : List Gone} (hd : s.discarded = g :: rest) (hu : s.undoable g = false) :
    s.reclaimStep = ({ s with discarded := rest } : State).reclaimEntry g.entry := by
  unfold State.reclaimStep
  rw [hd, List.find?_cons_of_pos (by simp [hu])]
  simp

theorem reclaimStep_page {r : Reclaim} {rest : List Reclaim} (hd : s.discarded = []) (hr : s.reclaims = r :: rest)
    (hp : ((List.range r.span).all fun i => (s.granule (r.page + i)).pins == 0) = true) :
    s.reclaimStep = ({ s with reclaims := rest } : State).each (List.range r.span) fun s i =>
      (s.setFrame (r.page + i) Frame.free).dropGranule (r.page + i) := by
  unfold State.reclaimStep
  rw [hd, hr, List.find?_cons_of_pos (by exact hp)]
  simp

theorem undoable_of_home {g : Gone} (ho : ∀ o ∈ s.sesOps, ¬(o.kind = .discard ∧ sidHandle o.session.toNat = g.handle))
    (hg : s.isHome g.handle = true ∨ g.at_ + 4000000 ≤ s.time) : s.undoable g = false := by
  have hops : (s.sesOps.any fun o => o.kind == .discard && sidHandle o.session.toNat == g.handle) = false := by
    rw [List.any_eq_false]
    intro o hm
    simpa using ho o hm
  unfold State.undoable
  rw [hops, Bool.false_or]
  rcases hg with hh | ht
  · simp [hh]
  · simp [ht]

/-- Settles O27: each timer of the session store has its consequence. -/
theorem sessionTimers : Obligations.SessionTimers := by
  refine ⟨fun s handle hon => ⟨fun hs hp => ⟨_, next_congr (whenAwake_on hon), handoffTimer_orphans hs hp⟩,
      fun hs hp => next_congr ((whenAwake_on hon).trans (releaseExpired_loses hs hp)), fun hs => ?_⟩,
    fun s sid l hon hf hp hg hh => ?_, fun s h hf hl => ?_,
    fun s g rest hd ho hg => next_congr (reclaimStep_discarded hd (undoable_of_home ho hg)),
    fun s r rest hd hr hp => next_congr (reclaimStep_page hd hr (by simpa using hp))⟩
  · refine next_congr (?_ : (if s.asleep = true then s else s.sessionIdle handle.toNat) = _)
    rw [asleep_on hon]
    exact sessionIdle_live hs
  · have hu : (s.mgAnswered (leaseOut sid)).session (sidHandle sid.toNat) = s.session (sidHandle sid.toNat) := session_of_touches mgAnswered_touches
    rw [leaseResolve_follows hon hf hp hg hh]
    refine ⟨fun hl => next_congr (if_pos hl), fun hl hs => next_congr ?_⟩
    unfold State.follows
    dsimp only
    rw [if_neg (by simp [hl]), hu, if_neg (by simp [hs])]
    exact (apply_ite _ _ _ _).symm
  · exact ⟨by rw [session_loseSession hf hl], touches_losing.keeps _ (by decide)⟩

end Sys2Proof.Machine
end

section
/-! PROOF. A handoff moves a session from sender to receiver, or is given up at both (R108, R126 to R131). -/

namespace Sys2Proof.Machine

variable {s t u : State} {sid : SessionId} {epoch : BitVec 32} {peer : Dev}

theorem mgServe_room {d : Dev} {act : State → State} (h : s.mgQueue.length < 256) : s.mgServe d act = act s := if_pos h

/-! ## At the sender (R127, R128, R131) -/

/-- Is a session the one named, in a phase of its handoff, at an epoch? -/
def Session.inPhase (x : Session) (sid : SessionId) (epoch : BitVec 32) (p : HPhase) : Prop :=
  x.gen.toNat = sidGen sid.toNat ∧ x.state = .handoff ∧ x.hphase = p ∧ x.epoch = epoch

theorem claimed_grants {peerId : SessionId} {mask : Word} (h : (s.session (sidHandle sid.toNat)).inPhase sid epoch .offered)
    (hp : (s.session (sidHandle sid.toNat)).peer = peer) : s.claimed sid epoch peer peerId mask =
      (s.setSession (sidHandle sid.toNat) { s.session (sidHandle sid.toNat) with
        epoch := epoch + 1, hphase := .granted, peerId, peerMask := mask }).sendMg
          (.grant peer sid (epoch + 1) s.setMask (s.session (sidHandle sid.toNat)).info) := by
  obtain ⟨hg, hs, ho, he⟩ := h
  exact if_pos ⟨hg, hs, ho, he, hp⟩

theorem claimed_refuses {peerId : SessionId} {mask : Word}
    (h : ¬((s.session (sidHandle sid.toNat)).inPhase sid epoch .offered ∧ (s.session (sidHandle sid.toNat)).peer = peer)) :
    s.claimed sid epoch peer peerId mask = s.sendMg (.claimRefused peer sid (s.session (sidHandle sid.toNat)).epoch
      (decide ((s.session (sidHandle sid.toNat)).state = .free ∨ (s.session (sidHandle sid.toNat)).gen.toNat ≠ sidGen sid.toNat))) :=
  if_neg fun ⟨hg, hs, ho, he, hp⟩ => h ⟨⟨hg, hs, ho, he⟩, hp⟩

theorem committedAt_refuses (h : ¬(s.session (sidHandle sid.toNat)).inPhase sid epoch .granted) :
    s.committedAt sid epoch peer = s.sendMg (.claimRefused peer sid (s.session (sidHandle sid.toNat)).epoch false) := if_neg h

theorem handoffAtTheSender : Claims.HandoffAtTheSender := by
  intro s sid epoch peer hon hf hq h x named
  have hserve {c : Held} {act : State → State} : s.whenServed c (fun s => s.mgServe peer act) = act s :=
    (whenServed_on hon hf).trans (mgServe_room hq)
  refine ⟨fun peerId mask => ⟨fun hn => next_congr (hserve.trans (claimed_grants hn.1 hn.2)),
    fun hn => next_congr (hserve.trans (claimed_refuses hn))⟩, fun hn => next_congr (hserve.trans ?_),
    fun hn => next_congr (hserve.trans (committedAt_refuses hn)), fun hn => next_congr (hserve.trans (if_pos hn)),
    fun hn => next_congr (hserve.trans (if_neg hn))⟩
  exact if_pos hn

/-! ## At the receiver (R126, R127, R129, R130) -/

variable {peerId : SessionId} {a : Accept} {mask : Word} {i : EntryInfo}

theorem acceptOf_of_touches {m : Nat} (ht : Touches m s t) (hm : m.testBit 18 = false := by decide) :
    t.acceptOf peer peerId = s.acceptOf peer peerId := by
  have h : t.accepts = s.accepts := (ht .accepts hm).symm
  unfold State.acceptOf
  rw [h]

section
variable (ha : s.acceptOf peer peerId = some a)
include ha

theorem granted_otherTenant (hp : a.phase = .claiming) (ht : i.tenant ≠ a.tenant) :
    s.granted peer peerId (a.epoch + 1) mask i = s.endAccept a St.notOwner 5 := by
  unfold State.granted
  rw [ha]
  dsimp only
  rw [if_neg (by simp [hp]), if_pos ht]

theorem granted_otherShape (hp : a.phase = .claiming) (ht : i.tenant = a.tenant) (hq : a.quiet = false)
    (hs : popBelow mask 64 ≠ s.setSize ∨ (!s.acceptable i) = true) : s.granted peer peerId (a.epoch + 1) mask i =
      ({ s with accepts := dropIf (· == a) s.accepts } : State).finish a.ring.toNat a.pos.toNat (Cpl.bad 28 7) := by
  unfold State.granted
  rw [ha]
  dsimp only
  rw [if_neg (by simp [hp]), if_neg (by simp [ht]), if_pos hs, hq]
  rfl

variable (hp : a.phase = .claiming) (ht : i.tenant = a.tenant) (hm : popBelow mask 64 = s.setSize) (hs : s.acceptable i = true)
include hp ht hm hs

theorem granted_noHandle (hh : s.freeHandle a.tenant.toNat = none) :
    s.granted peer peerId (a.epoch + 1) mask i = s.endAccept a St.noSpace 0 := by
  unfold State.granted
  rw [ha]
  dsimp only
  rw [if_neg (by simp [hp]), if_neg (by simp [ht]), if_neg (by simp [hm, hs]), hh]

theorem granted_commits {h : Nat} (hh : s.freeHandle a.tenant.toNat = some h)
    (hn : s.newEntry h (receivedEntry i a.tenant peer peerId (a.epoch + 1) mask) = some t) :
    s.granted peer peerId (a.epoch + 1) mask i = ({ t with
      accepts := mapIf (· == a) (fun _ => { a with handle := some (BitVec.ofNat 20 h), phase := .committing }) t.accepts } : State).sendMg
        (.commit peer peerId (a.epoch + 1)) := by
  unfold State.granted
  rw [ha]
  dsimp only
  rw [if_neg (by simp [hp]), if_neg (by simp [ht]), if_neg (by simp [hm, hs]), hh]
  dsimp only
  rw [hn]

end

theorem newEntry_session {h : Nat} {x : Session} (hn : s.newEntry h x = some t) : ∃ g m n d, t.session h =
    { x with gen := g, state := .live, mapRoot := m, lastTouch := n, parent := 0xFFFFFFFF, home := d } ∧ g = (s.session h).gen ∧
      ∀ k, k ≠ h → t.session k = s.session k := by
  unfold State.newEntry at hn
  cases hu : s.allocUnits x.tenant.toNat x.rootUnits with
  | none => rw [hu] at hn; cases hn
  | some p =>
    obtain ⟨v, n⟩ := p
    rw [hu] at hn
    cases hn
    have hses (k : Nat) : v.session k = s.session k :=
      session_of_touches ((touches_allocUnits hu (Nat.and_self _)).2 .rfl)
    exact ⟨_, _, _, _, session_setSession_same, by rw [hses], fun k hk => (session_setSession_other hk).trans (hses k)⟩

theorem acceptDone_handle {h : Handle} (hh : a.handle = some h) : s.acceptDone a =
    ({ s.endAccept a St.done 0 with receiving := (s.endAccept a St.done 0).receiving ++
      [((s.endAccept a St.done 0).sidOf h.toNat, (s.endAccept a St.done 0).others)] } : State).pageCame h.toNat := by
  unfold State.acceptDone
  rw [hh]

theorem acceptDone_none (hh : a.handle = none) : s.acceptDone a = s.endAccept a St.done 0 := by
  unfold State.acceptDone
  rw [hh]

theorem commitAcked_done (ha : s.acceptOf peer peerId = some a) (hp : a.phase = .committing ∨ a.phase = .readingLease) :
    s.commitAcked peer peerId = s.acceptDone a := by
  unfold State.commitAcked
  rw [ha]
  exact if_pos hp

theorem commitExpired_reads (ha : s.acceptOf peer peerId = some a) (hp : a.phase = .committing) :
    s.commitExpired peer peerId = ({ s with
      accepts := mapIf (· == a) (fun (b : Accept) => { b with phase := .readingLease }) s.accepts } : State).sendMg (.leaseRead peer peerId) := by
  unfold State.commitExpired
  rw [ha]
  exact if_pos hp

/-- Does a lease say that a session was handed off to this device? -/
def leaseMoved (l : Lease) (a : Accept) (dev : Nat) : Prop :=
  l.handoff = true ∧ l.phase = 3 ∧ l.epoch = a.epoch + 1 ∧ l.peer.toNat = dev

theorem leaseAnswered_moved {l : Lease} (ha : s.acceptOf peer peerId = some a) (hp : a.phase = .readingLease) (hl : leaseMoved l a s.devNo) :
    s.leaseAnswered peer peerId l = s.acceptDone a := by
  unfold State.leaseAnswered
  rw [ha]
  dsimp only
  rw [if_neg (by simp [hp])]
  exact if_pos hl

theorem leaseAnswered_kept {l : Lease} (ha : s.acceptOf peer peerId = some a) (hp : a.phase = .readingLease) (hl : ¬leaseMoved l a s.devNo) :
    s.leaseAnswered peer peerId l = s.failAccept a 4 := by
  unfold State.leaseAnswered
  rw [ha]
  dsimp only
  rw [if_neg (by simp [hp])]
  exact if_neg hl

theorem leaseExpired_loses {h : Handle} (ha : s.acceptOf peer peerId = some a) (hp : a.phase = .readingLease) (hh : a.handle = some h) :
    s.leaseExpired peer peerId = (s.loseSession h.toNat).endAccept a St.lost 0 := by
  unfold State.leaseExpired
  rw [ha]
  dsimp only
  rw [if_neg (by simp [hp]), hh]

theorem claimRefusedAt_fails {stale : Bool} (ha : s.acceptOf peer peerId = some a) :
    s.claimRefusedAt peer peerId stale = s.failAccept a (if stale then 0 else 4) := by
  unfold State.claimRefusedAt
  rw [ha]

theorem mgLate_touches {p : Out → Bool} : Touches 18889483945877090336896 s (s.mgLate p) := (touches_mgLate (by decide)).2 .rfl

theorem setSize_of_regs (h : t.regs = s.regs) : t.setSize = s.setSize := by
  unfold State.setSize State.setMask
  rw [reg_of_regs h]

theorem acceptable_of_regs (h : t.regs = s.regs) : t.acceptable i = s.acceptable i := by
  unfold State.acceptable
  rw [reg_of_regs h]

theorem devNo_of_touches {m : Nat} (ht : Touches m s t) (hw : m.testBit 6 = false := by decide) (hv : m.testBit 3 = false := by decide) :
    t.devNo = s.devNo := by
  have hrwk : t.rwk = s.rwk := (ht .rwk hw).symm
  have hvar : t.variant = s.variant := (ht .variant hv).symm
  unfold State.devNo State.rwkReg
  rw [hrwk, hvar]

/-- The shape that SES_ACCEPT_PROFILE gives (R126). -/
theorem acceptable_iff : let p := s.reg R.sesAcceptProfile
    s.acceptable i = true ↔ i.layers.toNat = fld p 0 8 ∧ i.hdim.toNat = fld p 8 2 ∧ i.kvh.toNat = fld p 10 4 ∧ i.kvfmt.toNat = fld p 14 4 := by
  simp [State.acceptable, and_assoc]

theorem handoffAtTheReceiver : Claims.HandoffAtTheReceiver := by
  intro s peer peerId a hon hf ha p shaped u done
  have hserve {c : Held} {act : State → State} : s.whenServed c act = act s := whenServed_on hon hf
  have hans (q : Out → Bool) : (s.mgAnswered q).acceptOf peer peerId = some a := (acceptOf_of_touches mgAnswered_touches).trans ha
  have hlate (q : Out → Bool) : (s.mgLate q).acceptOf peer peerId = some a := (acceptOf_of_touches mgLate_touches).trans ha
  have hregs : u.regs = s.regs := (mgAnswered_touches .regs (by decide)).symm
  have hshape {i : EntryInfo} : u.acceptable i = true ↔ shaped i := by rw [acceptable_of_regs hregs]; exact acceptable_iff
  have hdone (w : State) : w.acceptDone a = done w := by
    cases hh : a.handle with
    | none => exact (acceptDone_none hh).trans (by simp only [done, hh])
    | some h => exact (acceptDone_handle hh).trans (by simp only [done, hh])
  refine ⟨fun mask i hp ht hm hs hh => ?_, fun mask i h t hp ht hm hs hh hn => ⟨?_, ?_⟩, fun mask i hp ht hs hq => ?_,
    fun mask i hp ht => next_congr (hserve.trans (granted_otherTenant (hans _) hp ht)),
    fun hp => next_congr (hserve.trans ((commitAcked_done (hans _) hp).trans (hdone _))),
    fun epoch stale => next_congr (hserve.trans (claimRefusedAt_fails (hans _))),
    fun hp => next_congr ((whenAwake_on hon).trans (commitExpired_reads (hlate _) hp)),
    fun hp => ⟨fun l => ⟨fun hl => next_congr (hserve.trans ((leaseAnswered_moved (hans _) hp ?_).trans (hdone _))),
      fun hl => next_congr (hserve.trans (leaseAnswered_kept (hans _) hp ?_))⟩,
      fun h hh => next_congr ((whenAwake_on hon).trans (leaseExpired_loses (hlate _) hp hh))⟩⟩
  · exact next_congr (hserve.trans (granted_noHandle (hans _) hp ht (hm.trans (setSize_of_regs hregs).symm) (hshape.2 hs) hh))
  · exact next_congr (hserve.trans (granted_commits (hans _) hp ht (hm.trans (setSize_of_regs hregs).symm) (hshape.2 hs) hh hn))
  · obtain ⟨g, m, n, d, hx, -, -⟩ := newEntry_session hn
    rw [hx]
    exact ⟨rfl, rfl, rfl, rfl, rfl, rfl⟩
  · refine next_congr (hserve.trans (granted_otherShape (hans _) hp ht hq ?_))
    refine hs.imp (fun hm => by rw [setSize_of_regs hregs]; exact hm) fun hs => ?_
    rw [Bool.not_eq_true', ← Bool.not_eq_true, hshape]
    exact hs
  · unfold leaseMoved
    rw [devNo_of_touches mgAnswered_touches]
    exact hl
  · unfold leaseMoved
    rw [devNo_of_touches mgAnswered_touches]
    exact hl

/-- Settles O26: a handoff by its phases at the sender, and by what the sender answers at the receiver. -/
theorem handoffsRun : Obligations.HandoffsRun := ⟨handoffAtTheSender, handoffAtTheReceiver⟩

end Sys2Proof.Machine
end

section
/-! PROOF. The commands of the session store complete with their effect or their refusal (R96 to R99, R103, R107, R108, R112 to R121, R127). -/

namespace Sys2Proof.Machine

variable {s t u : State} {ring : RingId} {pos : Pos} {op h sid tenant : Nat} {f : Flight}

/-! ## CREATE (R96, R99) -/

section
variable (hs : s.startSess ring pos 1 = some f)
include hs

theorem sesCreate_noHandle (hh : s.freeHandle (dTenant f.desc) = none) : s.sesCreate ring pos = s.endSess ring pos St.noSpace 0 0xFFFFFFFF none := by
  unfold State.sesCreate
  rw [hs]
  dsimp only
  rw [hh]

/-- The entry a CREATE asks for. -/
def createdEntry (d : Line) : Session := { Session.none with
  tenant := BitVec.ofNat 4 (dTenant d), layers := BitVec.ofNat 8 (fld d 288 8), hdim := BitVec.ofNat 2 (fld d 296 2)
  kvh := BitVec.ofNat 4 (fld d 298 4), kvfmt := BitVec.ofNat 4 (fld d 302 4) }

theorem sesCreate_noUnits (hh : s.freeHandle (dTenant f.desc) = some h) (hn : s.newEntry h (createdEntry f.desc) = none) :
    s.sesCreate ring pos = s.endSess ring pos St.noSpace 0 0xFFFFFFFF none := by
  unfold State.sesCreate
  rw [hs]
  dsimp only
  rw [hh]
  dsimp only
  unfold createdEntry at hn
  rw [hn]

theorem sesCreate_done (hh : s.freeHandle (dTenant f.desc) = some h) (hn : s.newEntry h (createdEntry f.desc) = some t) :
    s.sesCreate ring pos = t.endSess ring pos St.done 0 (t.sidOf h) none := by
  unfold State.sesCreate
  rw [hs]
  dsimp only
  rw [hh]
  dsimp only
  unfold createdEntry at hn
  rw [hn]

end

/-! ## Looking a session up (R97, R108, R111) -/

/-- Does a session ID name the entry that its handle has? -/
def Session.named (x : Session) (sid : Nat) : Prop := x.state ≠ .free ∧ x.gen.toNat = sidGen sid

section
variable {v : Option Nat}

theorem lookSession_found (hh : s.isHome (sidHandle sid) = true) (hn : (s.session (sidHandle sid)).named sid)
    (ht : (s.session (sidHandle sid)).tenant.toNat = tenant) : s.lookSession sid tenant v = .ok (sidHandle sid) := by
  obtain ⟨hf, hg⟩ := hn
  unfold State.lookSession
  dsimp only
  rw [if_pos hh, if_neg (by simp [hf, hg]), if_neg (by simp [ht])]

theorem lookSession_unknown (hh : s.isHome (sidHandle sid) = true) (hn : ¬(s.session (sidHandle sid)).named sid) :
    s.lookSession sid tenant v = .bad St.notOwner 0 := by
  unfold State.lookSession
  dsimp only
  rw [if_pos hh, if_pos]
  refine Classical.byContradiction fun h => hn ?_
  obtain ⟨hf, hg⟩ := not_or.1 h
  exact ⟨hf, Classical.not_not.1 hg⟩

theorem lookSession_foreign (hn : (s.session (sidHandle sid)).named sid) (ht : (s.session (sidHandle sid)).tenant.toNat ≠ tenant) :
    s.lookSession sid tenant v = .bad St.notOwner 5 := by
  obtain ⟨hf, hg⟩ := hn
  unfold State.lookSession
  dsimp only
  by_cases hh : s.isHome (sidHandle sid) = true
  · rw [if_pos hh, if_neg (by simp [hf, hg]), if_pos ht]
  · rw [if_neg hh, if_pos ⟨hg, hf⟩, if_pos ht]

variable (hh : s.isHome (sidHandle sid) = false)
include hh

theorem lookSession_free (hf : (s.session (sidHandle sid)).state = .free) : s.lookSession sid tenant v = .pull (sidHandle sid) := by
  unfold State.lookSession
  dsimp only
  rw [if_neg (by simp [hh]), if_neg (by simp [hf]), if_pos (.inl hf)]

theorem lookSession_stale (hf : (s.session (sidHandle sid)).state ≠ .free) (hg : (s.session (sidHandle sid)).gen.toNat ≠ sidGen sid) :
    s.lookSession sid tenant v = if (sidGen sid + 4095 - (s.session (sidHandle sid)).gen.toNat) % 4095 < 2048 then .pull (sidHandle sid)
      else .bad St.notOwner 0 := by
  unfold State.lookSession
  dsimp only
  rw [if_neg (by simp [hh]), if_neg (by simp [hg])]
  simp only [hf, false_or]

variable (hn : (s.session (sidHandle sid)).named sid) (ht : (s.session (sidHandle sid)).tenant.toNat = tenant)
include hn ht

theorem lookSession_behind {n : Nat} (hl : (s.session (sidHandle sid)).state ≠ .lost) (hv : (s.session (sidHandle sid)).version.toNat < n) :
    s.lookSession sid tenant (some n) = .pull (sidHandle sid) := by
  obtain ⟨hf, hg⟩ := hn
  unfold State.lookSession
  dsimp only
  rw [if_neg (by simp [hh]), if_pos ⟨hg, hf⟩, if_neg (by simp [ht]), if_pos ⟨hv, hl⟩]

theorem lookSession_current {n : Nat} (hv : n ≤ (s.session (sidHandle sid)).version.toNat) :
    s.lookSession sid tenant (some n) = .ok (sidHandle sid) := by
  obtain ⟨hf, hg⟩ := hn
  unfold State.lookSession
  dsimp only
  rw [if_neg (by simp [hh]), if_pos ⟨hg, hf⟩, if_neg (by simp [ht]), if_neg (by omega)]

end

theorem sessionsCreateAndLookUp : Claims.SessionsCreateAndLookUp := by
  refine ⟨fun s ring pos f hs => ⟨fun hh => next_congr (sesCreate_noHandle hs hh), fun h hh hn => next_congr (sesCreate_noUnits hs hh hn),
    fun h t hh hn => ⟨next_congr (sesCreate_done hs hh hn), ?_⟩⟩, fun s sid tenant v => ⟨fun hh hn ht => lookSession_found hh hn ht,
      fun hh hn => lookSession_unknown hh hn, fun hn ht => lookSession_foreign hn ht, fun hh hf => lookSession_free hh hf,
      fun hh hf hg => lookSession_stale hh hf hg, fun v hh hn hl ht hv => lookSession_behind hh hn ht hl hv,
      fun v hh hn ht hv => lookSession_current hh hn ht hv⟩⟩
  obtain ⟨g, m, n, w, hx, hg, ho⟩ := newEntry_session hn
  rw [hx]
  exact ⟨rfl, hg, rfl, rfl, rfl, rfl, rfl, ho⟩

/-! ## What every SESS command does first (R108) -/

theorem reg_sesLoad_other {k : Nat} (hk : k ≠ R.sesCacheMissTotal) : (s.sesLoad h).reg k = s.reg k := by
  have hc : (s.count R.sesCacheMissTotal).reg k = s.reg k := reg_count_other hk
  unfold State.sesLoad
  dsimp only
  repeat' split
  all_goals first | exact Eq.refl _ | exact hc

theorem touches_sesLoading : Touches 9444732965739290427524 s (s.sesLoad h) := (touches_sesLoad (by decide)).2 .rfl

theorem isHome_of_mask {k : Nat} (hr : t.reg R.sesSetMask = s.reg R.sesSetMask) (hd : t.devNo = s.devNo) : t.isHome k = s.isHome k := by
  unfold State.isHome State.homeDev State.setSize State.setMask
  rw [hr, hd]

theorem isHome_sesLoad {k : Nat} : (s.sesLoad h).isHome k = s.isHome k :=
  isHome_of_mask (reg_sesLoad_other (by decide)) (devNo_of_touches touches_sesLoading)

theorem session_sesLoad {k : Nat} : (s.sesLoad h).session k = s.session k := session_of_touches touches_sesLoading

theorem startSess_opcode (hs : s.startSess ring pos op = some f) : dOpcode f.desc = op := by
  unfold State.startSess at hs
  repeat' split at hs
  all_goals first | cases hs; assumption | cases hs

section
variable {homeOnly lostOk : Bool} {v : Option Nat} {act : State → Nat → State}
  (hl : (s.sesLoad (sidHandle (attnSession f.desc))).lookSession (attnSession f.desc) (dTenant f.desc) v = .ok (sidHandle (attnSession f.desc)))
  (hh : homeOnly = true → s.isHome (sidHandle (attnSession f.desc)) = true)
include hl hh

theorem withSession_lost (ho : dOpcode f.desc ≠ 2) (hs : (s.session (sidHandle (attnSession f.desc))).state = .lost) (hk : lostOk = false) :
    s.withSession ring pos f homeOnly lostOk v act =
      (s.sesLoad (sidHandle (attnSession f.desc))).endSess ring pos St.lost 0 (attnSession f.desc) none := by
  have hh' : ¬(homeOnly = true ∧ (!(s.sesLoad (sidHandle (attnSession f.desc))).isHome (sidHandle (attnSession f.desc))) = true) := by
    rintro ⟨ho, hn⟩
    rw [isHome_sesLoad, hh ho] at hn
    cases hn
  unfold State.withSession
  dsimp only
  rw [hl]
  dsimp only
  rw [if_neg hh', if_pos (by rw [session_sesLoad]; exact ⟨hs, by simp [hk]⟩), if_neg ho]

theorem withSession_acts (hs : (s.session (sidHandle (attnSession f.desc))).state ≠ .lost ∨ lostOk = true)
    (hb : s.sesBusy (attnSession f.desc) = false) (hq : s.sesBehind f = false)
    (ha : dOpcode f.desc = 2 → s.appendBehind ring.toNat f = false) :
    s.withSession ring pos f homeOnly lostOk v act =
      act (s.sesLoad (sidHandle (attnSession f.desc))) (sidHandle (attnSession f.desc)) := by
  generalize hu : s.sesLoad (sidHandle (attnSession f.desc)) = u at *
  have hh' : ¬(homeOnly = true ∧ (!u.isHome (sidHandle (attnSession f.desc))) = true) := by
    rintro ⟨ho, hn⟩
    rw [← hu, isHome_sesLoad, hh ho] at hn
    cases hn
  have ht : Touches _ s u := hu ▸ touches_sesLoading
  have hrings : u.rings = s.rings := (ht .rings (by decide)).symm
  have hops : u.sesOps = s.sesOps := (ht .sesOps (by decide)).symm
  have hses : u.session (sidHandle (attnSession f.desc)) = s.session _ := session_of_touches ht
  have hbusy : u.sesBusy (attnSession f.desc) = false := by unfold State.sesBusy at *; rw [hops]; exact hb
  have hbehind : u.sesBehind f = false := by unfold State.sesBehind at *; rw [hrings]; exact hq
  have happend : ¬(dOpcode f.desc = 2 ∧ u.appendBehind ring.toNat f = true) := by
    rintro ⟨ho, hn⟩
    have h := ha ho
    unfold State.appendBehind at *
    rw [ring_of_rings hrings] at hn
    exact absurd (hn.symm.trans h) (by decide)
  unfold State.withSession
  dsimp only
  rw [hu, hl]
  dsimp only
  rw [if_neg hh', if_neg (by rw [hses]; rcases hs with hs | hs <;> simp [hs]), if_neg (by simp only [hbusy, hbehind]; simpa using happend)]

end

/-! ## PUBLISH, FORK, OPEN, DISCARD, OFFER, QUERY and WAKE (R107, R114, R118 to R121, R127) -/

/-- A command that finds its session acts on it: the look-up of R108 stands behind it. -/
def State.finds (s : State) (ring : RingId) (pos : Pos) (f : Flight) (homeOnly lostOk : Bool) (u : State) (h : Nat) : Prop :=
  ∀ act, s.withSession ring pos f homeOnly lostOk none act = act u h

section Publish
variable (hs : s.startSess ring pos 3 = some f)
include hs

theorem sesPublish_long (ht : 1048576 < fld f.desc 128 21) : s.sesPublish ring pos = s.finish ring.toNat pos.toNat (Cpl.bad 16 7) := by
  unfold State.sesPublish
  rw [hs]
  exact if_pos ht

variable (ht : fld f.desc 128 21 ≤ 1048576)
include ht

theorem sesPublish_lost (hw : ∀ act, s.withSession ring pos f true false none act = u.endSess ring pos St.lost 0 sid none) :
    s.sesPublish ring pos = u.endSess ring pos St.lost 0 sid none := by
  unfold State.sesPublish
  rw [hs]
  dsimp only
  rw [if_neg (Nat.not_lt.2 ht), hw]

variable (hw : s.finds ring pos f true false u h)
include hw

theorem sesPublish_view (hv : ((u.touchSession h).session h).view = true) :
    s.sesPublish ring pos = (u.touchSession h).endSess ring pos St.notOwner 2 (attnSession f.desc) none := by
  unfold State.sesPublish
  rw [hs]
  dsimp only
  rw [if_neg (Nat.not_lt.2 ht), hw, if_pos hv]

variable (hv : ((u.touchSession h).session h).view = false)
include hv

theorem sesPublish_handoff (hx : ((u.touchSession h).session h).state = .handoff) :
    s.sesPublish ring pos = (u.touchSession h).endSess ring pos St.notOwner 3 (attnSession f.desc) none := by
  unfold State.sesPublish
  rw [hs]
  dsimp only
  rw [if_neg (Nat.not_lt.2 ht), hw, if_neg (by simp [hv]), if_pos hx]

variable (hx : ((u.touchSession h).session h).state ≠ .handoff)
include hx

theorem sesPublish_stale (hn : ((u.touchSession h).session h).version.toNat ≠ dNum f.desc 12 4) :
    s.sesPublish ring pos = (u.touchSession h).endSess ring pos St.staleVersion 0 (attnSession f.desc) none := by
  unfold State.sesPublish
  rw [hs]
  dsimp only
  rw [if_neg (Nat.not_lt.2 ht), hw, if_neg (by simp [hv]), if_neg hx, if_pos hn]

variable (hn : ((u.touchSession h).session h).version.toNat = dNum f.desc 12 4)
include hn

theorem sesPublish_fewer (hp : fld f.desc 128 21 < ((u.touchSession h).session h).pub.toNat) :
    s.sesPublish ring pos = (u.touchSession h).finish ring.toNat pos.toNat (Cpl.bad 16 7) := by
  unfold State.sesPublish
  rw [hs]
  dsimp only
  rw [if_neg (Nat.not_lt.2 ht), hw, if_neg (by simp [hv]), if_neg hx, if_neg (Classical.not_not.2 hn), if_pos hp]

theorem sesPublish_publishes (hp : ((u.touchSession h).session h).pub.toNat ≤ fld f.desc 128 21) :
    s.sesPublish ring pos = ((u.touchSession h).setSession h { (u.touchSession h).session h with
      version := ((u.touchSession h).session h).version + 1, pub := BitVec.ofNat 21 (fld f.desc 128 21) }).endSess ring pos St.done 0
        (attnSession f.desc) none := by
  unfold State.sesPublish
  rw [hs]
  dsimp only
  rw [if_neg (Nat.not_lt.2 ht), hw, if_neg (by simp [hv]), if_neg hx, if_neg (Classical.not_not.2 hn), if_neg (Nat.not_lt.2 hp)]

end Publish

section Child
variable {k : MemberKind} (hs : s.startSess ring pos op = some f)
include hs

theorem sesChild_lost (hw : ∀ act, s.withSession ring pos f true false none act = u.endSess ring pos St.lost 0 sid none) :
    s.sesChild ring pos op k = u.endSess ring pos St.lost 0 sid none := by
  unfold State.sesChild
  rw [hs]
  dsimp only
  rw [hw]

variable (hw : s.finds ring pos f true false u h)
include hw

theorem sesChild_stale (hn : ((u.touchSession h).session h).version.toNat ≠ dNum f.desc 12 4) :
    s.sesChild ring pos op k = (u.touchSession h).endSess ring pos St.staleVersion 0 (attnSession f.desc) none := by
  unfold State.sesChild
  rw [hs]
  dsimp only
  rw [hw, if_pos hn]

variable (hn : ((u.touchSession h).session h).version.toNat = dNum f.desc 12 4)
include hn

theorem sesChild_handoff (hx : ((u.touchSession h).session h).state = .handoff) :
    s.sesChild ring pos op k = (u.touchSession h).endSess ring pos St.notOwner 3 (attnSession f.desc) none := by
  unfold State.sesChild
  rw [hs]
  dsimp only
  rw [hw, if_neg (Classical.not_not.2 hn), if_pos hx]

variable (hx : ((u.touchSession h).session h).state ≠ .handoff)
include hx

theorem sesChild_noHandle (hh : (u.touchSession h).freeHandle (dTenant f.desc) = none) :
    s.sesChild ring pos op k = (u.touchSession h).endSess ring pos St.noSpace 0 (attnSession f.desc) none := by
  unfold State.sesChild
  rw [hs]
  dsimp only
  rw [hw, if_neg (Classical.not_not.2 hn), if_neg hx, hh]

theorem sesChild_starts {c : Nat} (hh : (u.touchSession h).freeHandle (dTenant f.desc) = some c) :
    s.sesChild ring pos op k = (u.touchSession h).startMulti ring pos k (attnSession f.desc) ((u.touchSession h).sidOf c)
      ((u.touchSession h).session h).version ((u.touchSession h).session h).pub := by
  unfold State.sesChild
  rw [hs]
  dsimp only
  rw [hw, if_neg (Classical.not_not.2 hn), if_neg hx, hh]

end Child

theorem sesDiscard_eq (hs : s.startSess ring pos 6 = some f) (hw : s.finds ring pos f true true u h) : s.sesDiscard ring pos =
    if (u.session h).state = .handoff ∧ ((u.session h).hphase = .offered ∨ (u.session h).hphase = .granted) then
      u.endSess ring pos St.notOwner 3 (attnSession f.desc) none
    else u.startMulti ring pos .discard (attnSession f.desc) 0 0 0 := by
  unfold State.sesDiscard
  rw [hs]
  dsimp only
  rw [hw]

theorem sesOffer_lost (hs : s.startSess ring pos 7 = some f)
    (hw : ∀ act, s.withSession ring pos f true false none act = u.endSess ring pos St.lost 0 sid none) :
    s.sesOffer ring pos = u.endSess ring pos St.lost 0 sid none := by
  unfold State.sesOffer
  rw [hs]
  dsimp only
  rw [hw]

theorem sesOffer_eq (hs : s.startSess ring pos 7 = some f) (hw : s.finds ring pos f true false u h) : s.sesOffer ring pos =
    if ((u.touchSession h).session h).state ≠ .live then (u.touchSession h).endSess ring pos St.notOwner 3 (attnSession f.desc) none
    else if ((u.touchSession h).session h).epoch.toNat ≠ dNum f.desc 32 4 then
      (u.touchSession h).endSess ring pos St.staleVersion 2 (attnSession f.desc) none
    else ((u.touchSession h).setSession h { (u.touchSession h).session h with peer := BitVec.ofNat 6 (fld f.desc 208 6) }).startMulti
      ring pos .offer (attnSession f.desc) 0 0 0 := by
  unfold State.sesOffer
  rw [hs]
  dsimp only
  rw [hw]

theorem sesQueryOp_done (hs : s.startSess ring pos 9 = some f) (hw : s.finds ring pos f false true u h) :
    s.sesQueryOp ring pos = u.endSess ring pos St.done 0 (attnSession f.desc) none := by
  unfold State.sesQueryOp
  rw [hs]
  dsimp only
  rw [hw]

theorem sesWake_lost (hs : s.startSess ring pos 10 = some f)
    (hw : ∀ act, s.withSession ring pos f false false none act = u.endSess ring pos St.lost 0 sid none) :
    s.sesWake ring pos = u.endSess ring pos St.lost 0 sid none := by
  unfold State.sesWake
  rw [hs]
  dsimp only
  rw [hw]

theorem sesWake_done (hs : s.startSess ring pos 10 = some f) (hw : s.finds ring pos f false false u h) : s.sesWake ring pos =
    (if ((u.touchSession h).session h).state = .waking then (u.touchSession h).wakeSession h else u.touchSession h).endSess ring pos St.done 0
      (attnSession f.desc) none := by
  unfold State.sesWake
  rw [hs]
  dsimp only
  rw [hw]

theorem sessionCommands : Claims.SessionCommands := by
  intro s ring pos op f hs d sid h s0 u x hh hg ht hf hb hq live tokens
  have hop : dOpcode f.desc = op := startSess_opcode hs
  have hses : s0.session h = s.session h := session_sesLoad
  have hlook : s0.lookSession sid (dTenant d) none = .ok h :=
    lookSession_found (isHome_sesLoad.trans hh) (by rw [hses]; exact ⟨hf, hg⟩) (by rw [hses]; exact ht)
  have hfind {homeOnly lostOk : Bool} (hl : live ∨ lostOk = true) (ho : op ≠ 2) : s.finds ring pos f homeOnly lostOk s0 h := fun _ =>
    withSession_acts hlook (fun _ => hh) hl hb hq fun h2 => absurd (hop.symm.trans h2) ho
  have hlost {homeOnly : Bool} (hl : ¬live) (ho : op ≠ 2) (act : State → Nat → State) :
      s.withSession ring pos f homeOnly false none act = s0.endSess ring pos St.lost 0 sid none :=
    withSession_lost hlook (fun _ => hh) (by rw [hop]; exact ho) (Classical.not_not.1 hl) rfl
  refine ⟨touches_sesLoading.keeps _ (by decide), fun c hc ho hl htok => ?_, fun ho hl htok => ?_, fun ho htok => ?_, fun e he ho hl => ?_,
    fun ho => ?_, fun ho hl hx => ?_, fun ho hx hl => ?_, fun ho => ?_, fun ho hl => ?_⟩
  · simp only [List.mem_cons, List.not_mem_nil, or_false] at hc
    rcases hc with rfl | rfl | rfl | rfl | rfl <;> subst ho
    · exact next_congr (sesPublish_lost hs htok (hlost hl (by simp)))
    · exact next_congr (sesChild_lost hs (hlost hl (by simp)))
    · exact next_congr (sesChild_lost hs (hlost hl (by simp)))
    · exact next_congr (sesOffer_lost hs (hlost hl (by simp)))
    · exact next_congr (sesWake_lost hs (hlost hl (by simp)))
  · subst ho
    have hw := hfind (homeOnly := true) (lostOk := false) (.inl hl) (by decide)
    exact ⟨fun hv => next_congr (sesPublish_view hs htok hw hv), fun hv hx => next_congr (sesPublish_handoff hs htok hw hv hx),
      fun hv hx hn => next_congr (sesPublish_stale hs htok hw hv hx hn), fun hv hx hn hp => next_congr (sesPublish_fewer hs htok hw hv hx hn hp),
      fun hv hx hn hp => next_congr (sesPublish_publishes hs htok hw hv hx hn hp)⟩
  · subst ho
    exact next_congr (sesPublish_long hs htok)
  · have hchild : exec e.1 s = .next (s.sesChild ring pos e.2.1 e.2.2) ∧ op ≠ 2 := by
      simp only [List.mem_cons, List.not_mem_nil, or_false] at he
      rcases he with rfl | rfl <;> subst ho <;> exact ⟨rfl, by simp⟩
    have hw := hfind (homeOnly := true) (lostOk := false) (.inl hl) hchild.2
    rw [hchild.1, ← ho]
    exact ⟨fun hn => next_congr (sesChild_stale hs hw hn), fun hn hx => next_congr (sesChild_handoff hs hw hn hx),
      fun hn hx hh => next_congr (sesChild_noHandle hs hw hn hx hh), fun c hn hx hh => next_congr (sesChild_starts hs hw hn hx hh)⟩
  · subst ho
    have he := sesDiscard_eq hs (hfind (homeOnly := true) (lostOk := true) (.inr rfl) (by decide))
    rw [hses] at he
    exact ⟨fun hk => next_congr (he.trans (if_pos hk)), fun hk => next_congr (he.trans (if_neg hk))⟩
  · subst ho
    exact next_congr ((sesOffer_eq hs (hfind (.inl hl) (by decide))).trans (if_pos hx))
  · subst ho
    have he := (sesOffer_eq hs (hfind (homeOnly := true) (.inl hl) (by decide))).trans (if_neg (Classical.not_not.2 hx))
    exact ⟨fun hn => next_congr (he.trans (if_pos hn)), fun hn => next_congr (he.trans (if_neg (Classical.not_not.2 hn)))⟩
  · subst ho
    exact next_congr (sesQueryOp_done hs (hfind (.inr rfl) (by decide)))
  · subst ho
    exact next_congr (sesWake_done hs (hfind (.inl hl) (by decide)))

/-- Settles O23: CREATE and the look-up by what they find, and each command of a session by its refusals in their order. -/
theorem sessionsAreCommanded : Obligations.SessionsAreCommanded := ⟨sessionsCreateAndLookUp, sessionCommands⟩

end Sys2Proof.Machine
end

section
/-! PROOF. APPEND publishes a longer session; ACCEPT claims one (R107, R112, R113, R120, R127). -/

namespace Sys2Proof.Machine

variable {s t u : State} {ring : RingId} {pos : Pos} {h : Nat} {f : Flight} {rows : List Byte}

theorem each_nil {α : Type} {act : State → α → State} : s.each [] act = s := rfl

/-! ## APPEND (R113) -/

section
variable (hs : s.startSess ring pos 2 = some f)
include hs

theorem sesAppend_badCount (hn : fld f.desc 128 21 = 0 ∨ 65536 < fld f.desc 128 21 ∨ 1048576 < fld f.desc 160 21 + fld f.desc 128 21) :
    s.sesAppend ring pos rows = s.finish ring.toNat pos.toNat (Cpl.bad 16 7) := by
  unfold State.sesAppend
  rw [hs]
  exact if_pos hn

/-- An append that passes the checks of its descriptor, and finds its session. -/
structure State.appends (s : State) (ring : RingId) (pos : Pos) (f : Flight) (u : State) (h : Nat) : Prop where
  count : ¬(fld f.desc 128 21 = 0 ∨ 65536 < fld f.desc 128 21 ∨ 1048576 < fld f.desc 160 21 + fld f.desc 128 21)
  layer : s.layerBad (attnSession f.desc) (fld f.desc 192 16) = false
  host : fld f.desc 384 2 = 1
  there : s.hostThere (fld f.desc 386 2) = true
  finds : ∀ act, s.withSession ring pos f false false (some (dNum f.desc 12 4)) act = act u h

variable (ha : s.appends ring pos f u h)
include ha

theorem sesAppend_refused {st : Byte} {c : Nat} {ly : Option Nat}
    (hr : (u.touchSession h).appendRefusal h (fld f.desc 192 16) (fld f.desc 160 21) (dNum f.desc 12 4) = some (st, c, ly)) :
    s.sesAppend ring pos rows = (u.touchSession h).endSess ring pos st c (attnSession f.desc) ly := by
  unfold State.sesAppend
  rw [hs]
  dsimp only
  rw [if_neg ha.count, if_neg (by simp [ha.layer]), if_neg (by simp [ha.there]), ha.finds, hr]

/-- Row i of a head's K or V in the rows an append brings, of a session of a shape (R107). -/
def appendedRow (x : Session) (rows : List Byte) (n i hd kv : Nat) : List Byte :=
  slice (slice rows 0 (x.heads * 2 * n * x.row)) (((2 * hd + kv) * n + i) * x.row) x.row

/-- The rows of an append from a host, as the session store places them. -/
def State.placeRows (s : State) (ring : RingId) (pos : Pos) (h : Nat) (d : Line) (rows : List Byte) : Option State :=
  State.appendRows (.flight ring pos 40) h (fld d 192 16) (appendedRow (s.session h) rows (fld d 128 21)) (fld d 128 21) 0 (fld d 160 21) s

theorem sesAppend_places (hr : (u.touchSession h).appendRefusal h (fld f.desc 192 16) (fld f.desc 160 21) (dNum f.desc 12 4) = none)
    (hp : fld f.desc 160 21 % 256 = 0) : s.sesAppend ring pos rows =
      ((u.touchSession h).placeRows ring pos h f.desc rows).elim
        ((u.touchSession h).endSess ring pos St.noSpace 0 (attnSession f.desc) (some (fld f.desc 192 16)))
        fun t => (t.updSession h fun x => x.setCount (fld f.desc 192 16) (fld f.desc 160 21 + fld f.desc 128 21)).endSess ring pos St.done 0
          (attnSession f.desc) (some (fld f.desc 192 16)) := by
  have hfst {l : List Byte} : (l.map fun b => (b, false)).map Prod.fst = l := (List.map_map ..).trans (List.map_id l)
  have hsnd {l : List Byte} : (l.map fun b => (b, false)).any Prod.snd = false := by simp
  unfold State.sesAppend
  rw [hs]
  dsimp only
  rw [if_neg ha.count, if_neg (by simp [ha.layer]), if_neg (by simp [ha.there]), ha.finds, hr]
  dsimp only
  rw [if_neg (by simp [hp])]
  simp only [hp, ha.host, if_true, each_nil, List.all_nil, List.any_nil, List.isEmpty_nil, Bool.not_true, Bool.false_eq_true, if_false, hsnd, hfst]
  cases hpl : (u.touchSession h).placeRows ring pos h f.desc rows <;>
    (unfold State.placeRows appendedRow at hpl; rw [hpl]; rfl)

end

theorem sesAccept_claims (hs : s.startSess ring pos 8 = some f) :
    let peer := BitVec.ofNat 6 (fld f.desc 208 6)
    let peerId := BitVec.ofNat 32 (dNum f.desc 28 4)
    let epoch := BitVec.ofNat 32 (dNum f.desc 32 4)
    s.sesAccept ring pos = State.sendMg { s.setStage ring.toNat pos.toNat .running with
      accepts := s.accepts ++ [{ ring, pos, tenant := BitVec.ofNat 4 (dTenant f.desc), quiet := false, peer, peerId, epoch, handle := none
                                 phase := .claiming }] } (.claim peer peerId epoch s.setMask) := by
  unfold State.sesAccept
  rw [hs]
  rfl

/-- Settles O24: an append is refused or placed as its session stands, and an ACCEPT claims what it names. -/
theorem appendAndAccept : Obligations.AppendAndAccept := by
  refine ⟨fun s ring pos f rows hs => ⟨fun hn => next_congr (sesAppend_badCount hs hn), fun h1 h2 h3 hl hd ht hk hlost hb hq happ => ?_⟩,
    fun s ring pos f hs => next_congr (sesAccept_claims hs)⟩
  have ha : s.appends ring pos f (s.sesLoad (sidHandle (attnSession f.desc))) (sidHandle (attnSession f.desc)) :=
    ⟨by omega, hl, hd, ht, fun _ => withSession_acts hk (fun h => absurd h (by decide)) (.inl hlost) hb hq fun _ => happ⟩
  refine ⟨fun st c ly hr => next_congr (sesAppend_refused hs ha hr), fun hr hp => ?_⟩
  have he := sesAppend_places (rows := rows) hs ha hr hp
  refine ⟨fun hrows => ?_, fun t hrows => ?_⟩
  · have hplace : ((s.sesLoad (sidHandle (attnSession f.desc))).touchSession (sidHandle (attnSession f.desc))).placeRows ring pos
        (sidHandle (attnSession f.desc)) f.desc rows = none := hrows
    rw [hplace] at he
    exact next_congr he
  · have hplace : ((s.sesLoad (sidHandle (attnSession f.desc))).touchSession (sidHandle (attnSession f.desc))).placeRows ring pos
        (sidHandle (attnSession f.desc)) f.desc rows = some t := hrows
    rw [hplace] at he
    exact next_congr he

end Sys2Proof.Machine
end

section
/-! PROOF. Members apply the home's operations and answer its pulls (R97, R105, R110, R111, R118, R119, R121, R122, R128, R130, R296). -/

namespace Sys2Proof.Machine

variable {s t u : State} {ring : RingId} {pos : Pos} {k : MemberKind} {sid child h : Nat} {version : BitVec 32} {pub : BitVec 21}

/-! ## The home starts an operation (R110) -/

/-- The home has applied an operation and told the others. -/
def State.told (s : State) (ring : RingId) (pos : Pos) (k : MemberKind) (sid child : Nat) (version : BitVec 32) (pub : BitVec 21) : State :=
  (s.setStage ring.toNat pos.toNat .running).tellOthers k sid child version pub

/-- The operation as it waits for a mask of members. -/
def awaitedOp (ring : RingId) (pos : Pos) (k : MemberKind) (sid child : Nat) (waiting : Word) : SesOp :=
  { ring, pos, kind := k, session := BitVec.ofNat 32 sid, child := BitVec.ofNat 32 child, waiting, missed := false }

theorem startMulti_reaching (ha : s.applyMember k sid child version pub (BitVec.ofNat 6 s.devNo) = some t)
    (hu : t.told ring pos k sid child version pub = u) (hr : (maskList u.others).filter (fun d => !u.reachable d) = []) :
    s.startMulti ring pos k sid child version pub = if u.others = 0 then
      ({ u with sesOps := u.sesOps ++ [awaitedOp ring pos k sid child u.others] } : State).endSesOp (awaitedOp ring pos k sid child u.others)
      else { u with sesOps := u.sesOps ++ [awaitedOp ring pos k sid child u.others] } := by
  unfold State.startMulti
  rw [ha]
  dsimp only
  unfold State.told at hu
  rw [hu, hr]
  rfl

theorem unreached_nil (hr : ∀ d ∈ maskList u.others, u.reachable d = true) : (maskList u.others).filter (fun d => !u.reachable d) = [] := by
  rw [List.filter_eq_nil_iff]
  intro d hd
  simp [hr d hd]

theorem maskList_zero : maskList 0 = [] := by decide

/-! ## A member applies it (R97, R111) -/

variable {op : MemberOp}

theorem memberOp_acks (ha : s.applyMember op.kind op.session.toNat op.child.toNat op.version op.pub op.home = some t)
    (hk : op.kind = .fork ∨ op.kind = .openView ∨ op.kind = .discard ∨ op.kind = .offer) :
    s.memberOp op = t.sendMg (.memberAck op.home op.session) := by
  unfold State.memberOp
  dsimp only
  rw [ha]
  dsimp only
  rcases hk with hk | hk | hk | hk <;> rw [hk, if_neg (by decide)]

theorem memberOp_undoes (ha : s.applyMember op.kind op.session.toNat op.child.toNat op.version op.pub op.home = some t)
    (hk : op.kind = .undoFork ∨ op.kind = .undoOpen ∨ op.kind = .undoDiscard ∨ op.kind = .undoOffer) : s.memberOp op = t := by
  unfold State.memberOp
  dsimp only
  rw [ha]
  exact if_pos hk

theorem memberOp_pulls (ha : s.applyMember op.kind op.session.toNat op.child.toNat op.version op.pub op.home = none)
    (hl : s.lookSession op.session.toNat (s.session (sidHandle op.session.toNat)).tenant.toNat none = .pull h)
    (hk : op.kind = .fork ∨ op.kind = .openView ∨ op.kind = .offer) :
    s.memberOp op = { s.askEntry h op.session.toNat with heldOps := s.heldOps ++ [op] } := by
  unfold State.memberOp
  dsimp only
  rw [ha]
  dsimp only
  rw [hl]
  exact if_pos hk

theorem memberOp_drops (ha : s.applyMember op.kind op.session.toNat op.child.toNat op.version op.pub op.home = none)
    (hl : ∀ h, s.lookSession op.session.toNat (s.session (sidHandle op.session.toNat)).tenant.toNat none ≠ .pull h) : s.memberOp op = s := by
  unfold State.memberOp
  dsimp only
  rw [ha]
  dsimp only
  split
  · next h hp => exact absurd hp (hl h)
  · rfl

/-! ## The members' answers (R110, R296) -/

variable {dev : Nat} {missed : Bool} {o : SesOp}

theorem memberAnswered_eq (hf : (s.sesOps.find? fun o => o.session.toNat == sid && maskHas o.waiting dev) = some o) :
    let o' := { o with waiting := maskDrop o.waiting dev, missed := o.missed || missed }
    let u : State := { s with sesOps := mapIf (· == o) (fun _ => o') s.sesOps }
    s.memberAnswered sid dev missed = if o'.waiting = 0 then u.endSesOp o' else u := by
  unfold State.memberAnswered
  rw [hf]

theorem memberAcked_answers (hf : (s.sesOps.find? fun o => o.session.toNat == sid && maskHas o.waiting dev) = some o) :
    s.memberAcked sid dev = s.memberAnswered sid dev false := by
  refine if_pos (List.any_eq_true.2 ⟨o, List.mem_of_find?_eq_some hf, ?_⟩)
  simpa using List.find?_some hf

/-! ## The operation ends (R110, R118, R121, R127, R128) -/

theorem sesCpl_of_sessions {st : Byte} {c : Nat} {l : Option Nat} (hs : t.sessions = s.sessions) : t.sesCpl st c sid l = s.sesCpl st c sid l := by
  unfold State.sesCpl
  rw [session_of_sessions hs]

theorem sessions_sendMg {out : Out} : (s.sendMg out).sessions = s.sessions :=
  (((touches_sendMg (Nat.and_self _)).2 .rfl : Touches _ s _) .sessions (by decide)).symm

/-- An operation leaves those in progress. -/
def State.opEnds (s : State) (o : SesOp) : State := { s with sesOps := dropIf (· == o) s.sesOps }

theorem endSesOp_discard {old : Session} (hm : o.missed = false) (hk : o.kind = .discard) (hg : (s.opEnds o).goneEntry o.session.toNat = some old) :
    s.endSesOp o = (if old.remote then (s.opEnds o).sendMg (.release old.peer old.peerId old.epoch) else s.opEnds o).endSess o.ring o.pos
      St.done 0 o.session.toNat none := by
  have hrel : (s.opEnds o).releaseGone o.session.toNat =
      if old.remote then (s.opEnds o).sendMg (.release old.peer old.peerId old.epoch) else s.opEnds o := by
    unfold State.releaseGone
    rw [hg]
  have hcpl : ((s.opEnds o).releaseGone o.session.toNat).sesCpl St.done 0 o.session.toNat none =
      (s.opEnds o).sesCpl St.done 0 o.session.toNat none := by
    refine sesCpl_of_sessions ?_
    rw [hrel]
    split
    · exact sessions_sendMg
    · rfl
  unfold State.endSesOp
  dsimp only
  rw [if_neg (by simp [hm]), hk]
  unfold State.endSess
  rw [← hrel, hcpl]
  rfl

theorem endSesOp_discard_none (hm : o.missed = false) (hk : o.kind = .discard) (hg : (s.opEnds o).goneEntry o.session.toNat = none) :
    s.endSesOp o = (s.opEnds o).endSess o.ring o.pos St.done 0 o.session.toNat none := by
  have hrel : (s.opEnds o).releaseGone o.session.toNat = s.opEnds o := by
    unfold State.releaseGone
    rw [hg]
  unfold State.endSesOp
  dsimp only
  rw [if_neg (by simp [hm]), hk]
  exact congrArg (fun v : State => v.finish o.ring.toNat o.pos.toNat ((s.opEnds o).sesCpl St.done 0 o.session.toNat none)) hrel

theorem endSesOp_child (hm : o.missed = false) (hk : o.kind = .fork ∨ o.kind = .openView) :
    s.endSesOp o = (s.opEnds o).endSess o.ring o.pos St.done 0 o.child.toNat none := by
  unfold State.endSesOp
  dsimp only
  rw [if_neg (by simp [hm])]
  rcases hk with hk | hk <;> rw [hk] <;> rfl

theorem endSesOp_offer (hm : o.missed = false) (hk : o.kind = .offer) : s.endSesOp o = (s.opEnds o).enterOffered o := by
  unfold State.endSesOp
  dsimp only
  rw [if_neg (by simp [hm]), hk]
  rfl

theorem endSesOp_undone (hm : o.missed = true) (hu : (s.opEnds o).applyMember (undoOf o.kind) o.session.toNat o.child.toNat 0 0 0 = some t) :
    s.endSesOp o = (t.tellOthers (undoOf o.kind) o.session.toNat o.child.toNat 0 0).endSess o.ring o.pos St.timeout 0 o.session.toNat none := by
  unfold State.endSesOp
  dsimp only
  unfold State.opEnds at hu
  rw [if_pos hm, hu]
  rfl

/-! ## A child of a session, and one that is given up (R118, R119, R121) -/

theorem count_allCounts {x : Session} {n l : Nat} (hl : l < x.nLayers) : tget (fun _ => 0) (x.allCounts n) l = n := by
  unfold Session.allCounts
  exact tget_tputs.trans (if_pos (List.mem_range.2 hl))

theorem session_freeEntry (hf : (s.session h).state ≠ .free) :
    (s.freeEntry h).session h = { Session.none with gen := BitVec.ofNat 12 (((s.session h).gen.toNat + 1) % 4095) } := by
  unfold State.freeEntry
  dsimp only
  rw [if_neg hf]
  exact session_setSession_same

theorem makeChild_session {view : Bool} {home : Dev} (hc : s.makeChild h child view version pub home = some t) :
    let y := t.session (sidHandle child)
    y.gen.toNat = sidGen child % 4096 ∧ y.state = .live ∧ y.view = view ∧ y.tenant = (s.session h).tenant ∧ y.pub = pub ∧
      y.parentVersion = version ∧ y.version = (if view then version else 0) ∧ (∀ l, l < (s.session h).nLayers → y.count l = pub.toNat) := by
  unfold State.makeChild at hc
  dsimp only at hc
  split at hc
  · cases hc
  · cases hc
    rw [session_setSession_same]
    exact ⟨BitVec.toNat_ofNat _ _, rfl, rfl, rfl, rfl, rfl, rfl, fun l hl => count_allCounts hl⟩

theorem memberOperations : Claims.MemberOperations := by
  refine ⟨fun s ring pos k sid child version pub t ha => ⟨fun h0 hr => ?_, fun h0 => ?_⟩, fun s op hon hf hq => ?_,
    fun s session dev o hon hf ho e he => ?_,
    fun s o hm => ⟨fun old hk hg => endSesOp_discard hm hk hg, fun hk hg => endSesOp_discard_none hm hk hg, fun hk => endSesOp_child hm hk,
      fun hk => endSesOp_offer hm hk⟩,
    fun s t o hm hu => endSesOp_undone hm hu, fun s t h child view version pub home hc => makeChild_session hc, fun s h hf => session_freeEntry hf⟩
  · exact (startMulti_reaching ha rfl (unreached_nil hr)).trans (if_neg h0)
  · exact (startMulti_reaching ha rfl (by unfold State.told; rw [h0, maskList_zero]; rfl)).trans (if_pos h0)
  · have hserve : exec (.memberOperation op) s = .next (s.memberOp op) := next_congr ((whenServed_on hon hf).trans (mgServe_room hq))
    rw [hserve]
    exact ⟨fun t ha hk => next_congr (memberOp_acks ha hk), fun t ha hk => next_congr (memberOp_undoes ha hk),
      fun ha => ⟨fun h hl hk => next_congr (memberOp_pulls ha hl hk), fun hl => next_congr (memberOp_drops ha hl)⟩⟩
  · have hops (u : State) (hu : u.sesOps = s.sesOps) (missed : Bool) : let o' := { o with waiting := maskDrop o.waiting dev.toNat, missed := o.missed || missed }
        u.memberAnswered session.toNat dev.toNat missed = if o'.waiting = 0 then
          ({ u with sesOps := mapIf (· == o) (fun _ => o') s.sesOps } : State).endSesOp o' else { u with sesOps := mapIf (· == o) (fun _ => o') s.sesOps } := by
      have h := memberAnswered_eq (s := u) (missed := missed) (by rw [hu]; exact ho)
      rw [hu] at h
      exact h
    have hexec : exec e.1 s = .next (e.2.2.memberAnswered session.toNat dev.toNat e.2.1) ∧ e.2.2.sesOps = s.sesOps := by
      simp only [List.mem_cons, List.not_mem_nil, or_false] at he
      rcases he with rfl | rfl
      · have hs : (s.mgAnswered (memberOut session dev)).sesOps = s.sesOps := (mgAnswered_touches .sesOps (by decide)).symm
        exact ⟨next_congr ((whenServed_on hon hf).trans (memberAcked_answers (by rw [hs]; exact ho))), hs⟩
      · exact ⟨next_congr (whenAwake_on hon), (mgLate_touches .sesOps (by decide)).symm⟩
    rw [hexec.1]
    exact ⟨fun hw => next_congr ((hops _ hexec.2 _).trans (if_neg hw)), fun hw => next_congr ((hops _ hexec.2 _).trans (if_pos hw))⟩

/-! ## Pulls (R105, R111, R128, R130) -/

variable {id : SessionId}

theorem pullAsked_entry {d : Dev} {epoch : BitVec 32} (hd : maskHas s.setMask d.toNat = true)
    (hf : (s.session (sidHandle id.toNat)).state ≠ .free) (hg : (s.session (sidHandle id.toNat)).gen.toNat = sidGen id.toNat) :
    s.pullAsked d id epoch .entry = s.sendMg (.pullAnswer d id (s.entryAnswer (sidHandle id.toNat))) := by
  unfold State.pullAsked
  dsimp only
  rw [if_pos ⟨hd, rfl⟩, if_neg (by simp [hf, hg])]

theorem pullAsked_refused {d : Dev} {epoch : BitVec 32} (hd : maskHas s.setMask d.toNat = true)
    (hn : (s.session (sidHandle id.toNat)).state = .free ∨ (s.session (sidHandle id.toNat)).gen.toNat ≠ sidGen id.toNat) :
    s.pullAsked d id epoch .entry = s.sendMg (.pullAnswer d id .refused) := by
  unfold State.pullAsked
  dsimp only
  rw [if_pos ⟨hd, rfl⟩, if_pos hn]

/-- A pull leaves those that are awaited. -/
def State.pulled (s : State) (p : Nat × PullKind → Bool) : State := { s with pulls := dropIf p s.pulls }

theorem pullAnswered_entry {eid : SessionId} {i : EntryInfo} (hp : s.pulls.contains (id.toNat, PullKind.entry) = true)
    (hf : (s.session (sidHandle id.toNat)).state = .free)
    (ht : (s.pulled (· == (id.toNat, PullKind.entry))).fillEntry (sidHandle id.toNat) (sidGen eid.toNat) i = some t) :
    s.pullAnswered id (.entry eid i) = (t.opsGoOn id.toNat).endNaming id.toNat fun d =>
      if dNum d 12 4 ≤ i.version.toNat ∨ (dOpcode d ≠ 2 ∧ dOpcode d ≠ 1) then none
      else some ((t.opsGoOn id.toNat).sesCpl St.staleVersion 0 id.toNat none) := by
  unfold State.pulled at ht
  unfold State.pullAnswered
  dsimp only
  rw [if_neg (by simp only [hp]; decide), if_pos hf, ht]

theorem pullAnswered_page {l : Byte} {p : BitVec 12} {fill : BitVec 16} {bytes : List Byte}
    (hp : s.pulls.contains (id.toNat, PullKind.page l p) = true)
    (hf : (s.session (sidHandle id.toNat)).state ≠ .free) (hg : (s.session (sidHandle id.toNat)).gen.toNat = sidGen id.toNat) :
    s.pullAnswered id (.page l p fill bytes) =
      ((s.pulled (· == (id.toNat, PullKind.page l p))).takePage (sidHandle id.toNat) l.toNat p.toNat fill.toNat bytes).elim
        ((s.pulled (· == (id.toNat, PullKind.page l p))).endNaming id.toNat fun _ =>
          some ((s.pulled (· == (id.toNat, PullKind.page l p))).sesCpl St.noSpace 0 id.toNat none))
        fun t => t.pageCame (sidHandle id.toNat) := by
  unfold State.pullAnswered
  dsimp only
  rw [if_neg (by rw [hp]; simp [hf, hg])]
  cases ht : (s.pulled (· == (id.toNat, PullKind.page l p))).takePage (sidHandle id.toNat) l.toNat p.toNat fill.toNat bytes <;>
    (unfold State.pulled at ht; rw [ht]; rfl)

theorem fillEntry_session {gen : Nat} {i : EntryInfo} (ht : s.fillEntry h gen i = some t) : let y := t.session h
    y.gen.toNat = gen % 4096 ∧ y.state = (if i.lost then .lost else .live) ∧ y.tenant = i.tenant ∧ y.version = i.version ∧ y.pub = i.pub ∧
      y.epoch = i.epoch ∧ y.remote = i.remote ∧ y.parent = i.parent := by
  unfold State.fillEntry at ht
  dsimp only at ht
  rw [Option.map_eq_some_iff] at ht
  obtain ⟨v, hv, rfl⟩ := ht
  obtain ⟨g, m, n, d, hx, hg, -⟩ := newEntry_session hv
  rw [session_setSession_same] at hg
  have hgen : g.toNat = gen % 4096 := (congrArg BitVec.toNat hg).trans (BitVec.toNat_ofNat _ _)
  have hupd (f : Session → Session) : (v.updSession h f).session h = f (v.session h) := session_setSession_same
  have hst : ((v.updSession h fun x => { x with parent := i.parent, parentVersion := i.parentVersion }).session h).state = .live := by
    rw [hupd, hx]
  by_cases hl : i.lost = true
  · rw [if_pos hl, if_pos hl, session_loseSession (by rw [hst]; decide) (by rw [hst]; decide), hupd, hx]
    exact ⟨hgen, rfl, rfl, rfl, rfl, rfl, rfl, rfl⟩
  · rw [if_neg hl, if_neg hl, hupd, hx]
    exact ⟨hgen, rfl, rfl, rfl, rfl, rfl, rfl, rfl⟩

theorem pageCame_held (hr : (s.session h).remote = false ∨ s.holdsAll (s.session h) = false) : s.pageCame h = s := by
  refine if_pos ?_
  rcases hr with hr | hr <;> simp [hr]

section
variable (hr : (s.session h).remote = true) (ha : s.holdsAll (s.session h) = true)
include hr ha

theorem pageCame_member (hh : s.isHome h = false) : s.pageCame h =
    (s.setSession h { s.session h with remote := false }).sendMg (.memberAck (BitVec.ofNat 6 (s.homeDev h)) (BitVec.ofNat 32 (s.sidOf h))) := by
  unfold State.pageCame
  dsimp only
  rw [if_neg (by simp [hr, ha]), if_neg (by simp [hh])]

theorem pageCame_awaits (hh : s.isHome h = true) (hw : s.stillReceiving (s.sidOf h) ≠ 0) : s.pageCame h = s := by
  unfold State.pageCame
  dsimp only
  rw [if_neg (by simp [hr, ha]), if_pos hh, if_neg hw]

theorem pageCame_home (hh : s.isHome h = true) (hw : s.stillReceiving (s.sidOf h) = 0) : s.pageCame h =
    ({ s.setSession h { s.session h with remote := false } with receiving := dropIf (fun e => e.1 == s.sidOf h) s.receiving } : State).sendMg
      (.release (s.session h).peer (s.session h).peerId (s.session h).epoch) := by
  unfold State.pageCame
  dsimp only
  rw [if_neg (by simp [hr, ha]), if_pos hh, if_pos hw]
  exact if_pos ((isHome_of_regs rfl rfl rfl).trans hh)

end

theorem pullAnswered_last : s.pullAnswered id .last =
    if (s.session (sidHandle id.toNat)).remote then (s.pulled fun e => e.1 == id.toNat).pullsEnd (sidHandle id.toNat)
    else s.pulled fun e => e.1 == id.toNat := rfl

theorem pullAnswered_refused (hp : s.pulls.any (fun e => e.1 == id.toNat) = true) :
    let v : State := { s.pulled fun e => e.1 == id.toNat with heldOps := dropIf (fun o => o.session.toNat == id.toNat) s.heldOps }
    s.pullAnswered id .refused = v.endNaming id.toNat fun _ =>
      some (v.sesCpl St.notOwner (if (s.session (sidHandle id.toNat)).remote then 4 else 0) id.toNat none) := by
  intro v
  unfold State.pullAnswered
  dsimp only
  rw [if_neg (by simp only [hp]; decide)]
  exact congrArg (fun c => v.endNaming id.toNat fun _ => some c) (sesCpl_of_sessions rfl)

theorem pullAnswered_poisoned (hp : s.pulls.any (fun e => e.1 == id.toNat) = true) : s.pullAnswered id .poisoned =
    (s.pulled fun e => e.1 == id.toNat).endNaming id.toNat fun _ =>
      some ((s.pulled fun e => e.1 == id.toNat).sesCpl St.poisoned 0 id.toNat none) := by
  unfold State.pullAnswered
  dsimp only
  rw [if_neg (by simp only [hp]; decide)]
  exact congrArg (fun c => (s.pulled fun e => e.1 == id.toNat).endNaming id.toNat fun _ => some c) (sesCpl_of_sessions rfl)

theorem pullExpired_loses (hp : s.pulls.any (fun e => e.1 == id.toNat) = true) : let w := s.pulled fun e => e.1 == id.toNat
    s.pullExpired id = (w.loseSession (sidHandle id.toNat)).endNaming id.toNat fun _ =>
      some ((w.loseSession (sidHandle id.toNat)).sesCpl St.lost 0 id.toNat none) :=
  if_neg (by simp only [hp]; decide)

theorem sessionPulls : Claims.SessionPulls := by
  intro s sid hon hf id h x
  have hserve {c : Held} {act : State → State} : s.whenServed c act = act s := whenServed_on hon hf
  have hpulls (q : Out → Bool) : (s.mgAnswered q).pulls = s.pulls := (mgAnswered_touches .pulls (by decide)).symm
  have hses (q : Out → Bool) : (s.mgAnswered q).session h = x := session_of_touches mgAnswered_touches
  refine ⟨fun dev epoch hq hd => ⟨fun hfr hg => next_congr ((hserve.trans (mgServe_room hq)).trans (pullAsked_entry hd hfr hg)),
      fun hn => next_congr ((hserve.trans (mgServe_room hq)).trans (pullAsked_refused hd hn))⟩,
    fun eid i t hp hfr ht => ⟨next_congr (hserve.trans (pullAnswered_entry ?_ ?_ ?_)), fillEntry_session ht⟩,
    fun l p fill bytes hp hfr hg => ?_,
    fun hr ha => ⟨fun hh hw => pageCame_home hr ha hh hw, fun hh hw => pageCame_awaits hr ha hh hw, fun hh => pageCame_member hr ha hh⟩,
    fun hr => pageCame_held hr, ?_⟩
  · rw [hpulls]; exact hp
  · rw [hses]; exact hfr
  · unfold State.pulled; rw [hpulls]; exact ht
  · have he := pullAnswered_page (s := s.mgAnswered (s.pullOut sid (some (.page l p)))) (id := sid) (fill := fill) (bytes := bytes)
      (by rw [hpulls]; exact hp) (by rw [hses]; exact hfr) (by rw [hses]; exact hg)
    unfold State.pulled at he
    rw [hpulls] at he
    exact ⟨fun t ht => next_congr (hserve.trans (he.trans (by rw [ht]; rfl))), fun ht => next_congr (hserve.trans (he.trans (by rw [ht]; rfl)))⟩
  · have hlast := pullAnswered_last (s := s.mgAnswered (s.pullOut sid none)) (id := sid)
    unfold State.pulled at hlast
    rw [hpulls, hses] at hlast
    refine ⟨fun hr => next_congr (hserve.trans (hlast.trans (if_pos hr))),
      fun hr => next_congr (hserve.trans (hlast.trans (if_neg (by rw [hr]; decide)))), fun hp => ⟨?_, ?_, ?_⟩⟩
    · have he := pullAnswered_refused (s := s.mgAnswered (s.pullOut sid none)) (id := sid) (by rw [hpulls]; exact hp)
      have hops : (s.mgAnswered (s.pullOut sid none)).heldOps = s.heldOps := (mgAnswered_touches .heldOps (by decide)).symm
      unfold State.pulled at he
      rw [hpulls, hses, hops] at he
      exact next_congr (hserve.trans he)
    · have he := pullAnswered_poisoned (s := s.mgAnswered (s.pullOut sid none)) (id := sid) (by rw [hpulls]; exact hp)
      unfold State.pulled at he
      rw [hpulls] at he
      exact next_congr (hserve.trans he)
    · have hlate : (s.mgLate (s.pullOut sid none)).pulls = s.pulls := (mgLate_touches .pulls (by decide)).symm
      have he := pullExpired_loses (s := s.mgLate (s.pullOut sid none)) (id := sid) (by rw [hlate]; exact hp)
      unfold State.pulled at he
      rw [hlate] at he
      exact next_congr ((whenAwake_on hon).trans he)

/-- Settles O25: what home and members do for one operation, and how pulls are answered. -/
theorem membersAndPulls : Obligations.MembersAndPulls := ⟨memberOperations, sessionPulls⟩

end Sys2Proof.Machine
end

section
/-! PROOF. A query that reads poison sends the event of its error record: what the statement says of its output does not hold (R154, R342, R343). -/

namespace Sys2Proof.Machine

variable {s : State}

/-- The first line of a range is the first that is found in it. -/
theorem find_linesOf {p : Nat → Bool} {o n : Nat} (hn : n ≠ 0) (hp : p (o / 64) = true) : (linesOf o n).find? p = some (o / 64) := by
  unfold linesOf
  rw [if_neg hn, List.range_succ_eq_map, List.map_cons]
  exact List.find?_cons_of_pos hp

/-- A page whose first line holds poison is recorded as its store's error. -/
theorem pageFault_poisoned {x : Session} {l p f : Nat} (hp : s.pageOf x l p = some f) (hn : x.heads * 512 * x.row ≠ 0)
    (hb : s.poisoned (65536 * f / 64) = true) :
    s.pageFault x l [p] = some (s.poisonError (64 * (65536 * f / 64)) (some x.tenant)) := by
  unfold State.pageFault
  simp only [List.filterMap_cons, hp, List.filterMap_nil, List.findSome?_cons, find_linesOf hn hb]

/-! ## A session with a poisoned page, and a query that reads it -/

/-- Session 0 holds one page, in frame 1, whose first line is poisoned. -/
def poisonedPage : State := { State.reset with
  sessions := [(0, { Session.none with state := .live, root := [(0, 1)] })]
  leaves := [(1, { count := 1, pages := [(0, 1)] })]
  poison := [(1024, true)] }

/-- A query of session 0's layer 0, one row at position 0, with its block and its output in host 0. -/
def hostQuery : Flight :=
  { pos := 0, desc := BitVec.ofNat 512 (2 ^ 448 + 2 ^ 452)
    stage := .bound, seq := 0, host := [], idx := [], off := [], depths := [] }

/-- Its item, at its last close. -/
def hostItem : Item :=
  { ring := 0, pos := 0, kind := .attn, tenant := 0, cls := 0, nearOnly := false, cap := 0, span := 1, runs := 1, need := 1, running := false
    fault := none, late := none, pins := [], closing := true, rope := 0, outLen := 0, written := false }

theorem hostQuery_pages : (attnQ hostQuery.desc).pages (fun i => i) = [0] := by decide

theorem hostQuery_calm : poisonedPage.attnLines (attnQ hostQuery.desc) (poisonedPage.session (sidHandle (attnQ hostQuery.desc).sid)) (fun i => i)
    hostItem.rope = [] := by decide

/-- Its page fault is recorded. -/
theorem hostQuery_faults : let a := attnQ hostQuery.desc
    (poisonedPage.count R.attPageTotal (a.pages fun i => i).length).pageFault (poisonedPage.session (sidHandle a.sid)) a.layer (a.pages fun i => i) =
      some ((poisonedPage.count R.attPageTotal (a.pages fun i => i).length).poisonError 65536 (some 0)) := by
  dsimp only
  rw [hostQuery_pages]
  exact pageFault_poisoned (f := 1) (by decide) (by decide) (by decide)

/-- Its record is an event to the baseboard controller. -/
theorem hostQuery_reports : ((poisonedPage.count R.attPageTotal 1).poisonError 65536 (some 0)).out = [.pldmEvent 0] := by decide

/-- Refutes O28: the record of a poisoned page is of contained severity, so its PLDM event goes out as the query ends POISONED; `poisonedPage`
and `hostQuery` are such a state and query. -/
theorem not_attentionQueriesRun : ¬Obligations.AttentionQueriesRun := by
  rintro ⟨-, h⟩
  obtain ⟨-, hp, -⟩ := h poisonedPage 0 hostItem hostQuery (by decide) (by decide) (by decide) (by decide) (by decide) rfl (by decide)
  obtain ⟨-, hout⟩ := hp _ hostQuery_calm hostQuery_faults
  rw [hostQuery_pages] at hout
  exact absurd (hostQuery_reports.symm.trans hout) (by decide)

end Sys2Proof.Machine
end

section
/-! PROOF. DEFINE, RETIRE and READ of embedding tables (R157, R158, R178, R220). -/

namespace Sys2Proof.Machine

variable {s t u : State} {port n g : Nat}

/-! ## A table command through an open port (R158) -/

theorem tableCommand_acts {op : Nat} {act : State → State} (ho : s.openTo port) (hc : s.tabCmd = none) : s.tableCommand port n op act = act s := by
  unfold State.tableCommand
  rw [setupWrite_open ho (by simp), hc]
  rfl

theorem table_of_tables (h : t.tables = s.tables) : t.table n = s.table n := by
  unfold State.table
  rw [h]

theorem table_setTable_same {x : Option Table} : (s.setTable n x).table n = x := tget_tput_same (t := s.tables) (d := fun _ => none)

theorem table_setTable_other {m : Nat} {x : Option Table} (h : m ≠ n) : (s.setTable n x).table m = s.table m :=
  tget_tput_other (t := s.tables) (d := fun _ => none) h

/-! ## DEFINE (R158) -/

theorem tableDefine_bad (h : tcBad (s.stagedTable port) = true ∨ tcTable (s.stagedTable port) ≠ n) :
    s.tableDefine port n = s.tableResult port St.badDescriptor := if_pos h

section
variable {c : Line} (hst : s.stagedTable port = c) (hb : tcBad c = false) (hn : tcTable c = n)
include hst hb hn

theorem tableDefine_foreign (hc : s.controls port (tcTenant c) = false) :
    s.tableDefine port n = s.tableResult port St.notOwner := by
  subst hst
  exact (if_neg (by simp [hb, hn])).trans (if_pos (by simp [hc]))

variable (hc : s.controls port (tcTenant c) = true) (ht : s.table n = none)
include hc ht

theorem tableDefine_noRoom (h : s.findRun (tcTenant c) (tableFrameCount c) = none ∨
    s.dramFails (tableFrameCount c) = true) : s.tableDefine port n = s.tableResult port St.noSpace := by
  subst hst
  refine ((if_neg (by simp [hb, hn])).trans (if_neg (by simp [hc]))).trans ((if_neg (by simp [ht])).trans ?_)
  split
  · rfl
  · next f hf => exact if_pos (h.resolve_left (by simp [hf]))

/-- The frames of a table, taken for it. -/
def State.takeFrames (s : State) (f k : Nat) : State := s.each (List.range k) fun s i => s.setFrame (f + i) { Frame.free with type := .table }

theorem tableDefine_begins {f : Nat} (hf : s.findRun (tcTenant c) (tableFrameCount c) = some f)
    (hd : s.dramFails (tableFrameCount c) = false) :
    s.tableDefine port n = { s.takeFrames f (tableFrameCount c) with
      tabCmd := some (BitVec.ofNat 2 port, BitVec.ofNat 12 n,
        { ctx := c, step := tcStep c, base := 65536 * f, dropped := 0, clipped := 0, nonfinite := 0 }) } := by
  subst hst
  refine ((if_neg (by simp [hb, hn])).trans (if_neg (by simp [hc]))).trans ((if_neg (by simp [ht])).trans ?_)
  rw [hf]
  exact if_neg (by simp [hd])

end

/-! ## RETIRE (R158) -/

theorem tableRetire_none (h : s.table n = none) : s.tableRetire port n = s.tableResult port St.badDescriptor := by
  unfold State.tableRetire
  rw [h]

section
variable {x : Table} (h : s.table n = some x)
include h

theorem tableRetire_foreign (hc : s.controls port (tcTenant x.ctx) = false) : s.tableRetire port n = s.tableResult port St.notOwner := by
  unfold State.tableRetire
  rw [h]
  exact if_pos (by simp [State.tableForeign, hc])

variable (hc : s.controls port (tcTenant x.ctx) = true)
include hc

theorem tableRetire_busy (hb : s.tableBusy n = true) : s.tableRetire port n = s.tableResult port St.badDescriptor := by
  unfold State.tableRetire
  rw [h]
  dsimp only
  rw [if_neg (by simp [State.tableForeign, hc]), if_pos hb]

/-- The frames of a table, given back. -/
def State.dropFrames (s : State) (x : Table) : State :=
  s.each (List.range (tableFrameCount x.ctx)) fun s i => (s.setFrame (x.base / 65536 + i) Frame.free).dropGranule (x.base / 65536 + i)

theorem tableRetire_retires (hb : s.tableBusy n = false) : s.tableRetire port n =
    (State.setTable { s.dropFrames x with
      steps := dropIf (fun e => e.table.toNat == n) (s.dropFrames x).steps
      poisonSteps := (s.dropFrames x).poisonSteps.filter fun p => p.1.toNat != n } n none).tableResult port St.done := by
  unfold State.tableRetire
  rw [h]
  dsimp only
  rw [if_neg (by simp [State.tableForeign, hc]), if_neg (by simp [hb])]
  rfl

end

/-! ## READ (R158) -/

/-- Words put in registers at places that differ are there. -/
theorem reg_putRegs_other {off : Nat → Nat} {w : Nat → Word} {l : List Nat} {k : Nat} (hk : ∀ i ∈ l, k ≠ off i) :
    (s.each l fun s i => s.setReg (off i) (w i)).reg k = s.reg k := by
  induction l generalizing s with
  | nil => rfl
  | cons j l ih =>
    exact (ih (s := s.setReg _ _) fun i hi => hk i (List.mem_cons_of_mem _ hi)).trans (reg_setReg_other (hk j List.mem_cons_self))

theorem reg_putRegs {off : Nat → Nat} {w : Nat → Word} {l : List Nat} {i : Nat} (hinj : ∀ i j, off i = off j → i = j) (hl : l.Nodup) (hi : i ∈ l) :
    (s.each l fun s i => s.setReg (off i) (w i)).reg (off i) = w i := by
  induction l generalizing s with
  | nil => cases hi
  | cons j l ih =>
    obtain ⟨hj, hl⟩ := List.nodup_cons.1 hl
    rcases List.mem_cons.1 hi with rfl | hi
    · exact (reg_putRegs_other (s := s.setReg _ _) fun k hk e => hj (by rw [hinj _ _ e]; exact hk)).trans reg_setReg_same
    · exact ih (s := s.setReg _ _) hl hi

theorem embTctxData_inj {i j : Nat} (h : R.embTctxData i = R.embTctxData j) : i = j := strided_inj h

/-- The context of a table in a port's staging registers. -/
def State.tableStaged (s : State) (port w : Nat) : State :=
  s.each (List.range 8) fun s i => s.setReg (stageOff port (R.embTctxData i)) (BitVec.ofNat 64 (w / 2 ^ (64 * i)))

theorem reg_tableStaged {w i : Nat} (hi : i < 8) :
    (s.tableStaged port w).reg (stageOff port (R.embTctxData i)) = BitVec.ofNat 64 (w / 2 ^ (64 * i)) :=
  reg_putRegs (off := fun i => stageOff port (R.embTctxData i)) (w := fun i => BitVec.ofNat 64 (w / 2 ^ (64 * i)))
    (fun _ _ h => embTctxData_inj (stageOff_inj h)) List.nodup_range (List.mem_range.2 hi)

theorem tableStaged_touches {w : Nat} : Touches 128 s (s.tableStaged port w) :=
  (touches_each (by decide) fun _ _ => (touches_setReg (by decide)).2 .rfl).2 .rfl

section
variable {x : Table} (h : s.table n = some x)
include h

theorem tableReadCmd_foreign (hc : s.controls port (tcTenant x.ctx) = false) : s.tableReadCmd port n = s.tableResult port St.notOwner := by
  unfold State.tableReadCmd
  rw [h]
  exact if_pos (by simp [State.tableForeign, hc])

theorem tableReadCmd_reads (hc : s.controls port (tcTenant x.ctx) = true) :
    s.tableReadCmd port n = (s.tableStaged port x.readBack).tableResult port St.done := by
  unfold State.tableReadCmd
  rw [h]
  exact if_neg (by simp [State.tableForeign, hc])

end

/-! ## The zeroing of a DEFINE, and the hold of its granules (R158, R220) -/

/-- What holds granules in DRAM holds them on. -/
def HoldsOn (s t : State) : Prop := ∀ g, (t.granule g).dramHeld = (s.granule g).dramHeld

theorem HoldsOn.trans (h : HoldsOn s t) (h' : HoldsOn t u) : HoldsOn s u := fun g => (h' g).trans (h g)

theorem holdsOn_of_touches {m : Nat} (h : Touches m s t) (hm : m.testBit 41 = false := by decide) : HoldsOn s t := fun g => by
  have hg : t.granules = s.granules := (h .granules hm).symm
  unfold State.granule
  rw [hg]

theorem holdsOn_setGranule {x : Granule} (hx : x.dramHeld = (s.granule g).dramHeld) : HoldsOn s (s.setGranule g x) := fun k => by
  by_cases h : k = g
  · rw [h, granule_setGranule_same, hx]
  · rw [granule_setGranule_other h]

theorem holdsOn_updGranule {f : Granule → Granule} (hf : ∀ x, (f x).dramHeld = x.dramHeld) : HoldsOn s (s.updGranule g f) :=
  holdsOn_setGranule (hf _)

theorem holdsOn_each {α : Type} {l : List α} {act : State → α → State} (h : ∀ s a, HoldsOn s (act s a)) : HoldsOn s (s.each l act) := by
  induction l generalizing s with
  | nil => exact fun _ => rfl
  | cons a l ih => exact (h s a).trans ih

theorem holdsOn_demote : HoldsOn s (s.demote g) := by
  have hevict : HoldsOn s (if (!s.evictable g (s.granule g)) = true then s else if (s.granule g).dirty = 0 then s.toDense g
      else s.setGranule g { s.granule g with move := some (Move.begun .none 0) }) := by
    repeat' split
    · exact fun _ => rfl
    · exact holdsOn_updGranule fun _ => rfl
    · exact holdsOn_setGranule rfl
  unfold State.demote
  dsimp only
  repeat' split
  all_goals first | exact fun _ => rfl | exact hevict | exact holdsOn_setGranule rfl

theorem holdsOn_demoteOldest {t : Tier} : ∀ (k : Nat) (s : State), HoldsOn s (State.demoteOldest t k s)
  | 0, _ => fun _ => rfl
  | k + 1, s => by
    unfold State.demoteOldest
    split
    · exact holdsOn_demote.trans (holdsOn_demoteOldest k _)
    · exact fun _ => rfl

theorem holdsOn_fillFrame {t : Tier} : HoldsOn s (s.fillFrame g t) := by
  have hup (f : Granule → Granule) (hf : ∀ x, (f x).dramHeld = x.dramHeld) : HoldsOn s (s.updGranule g f) := holdsOn_updGranule hf
  unfold State.fillFrame
  dsimp only
  repeat' split
  · exact hup _ fun _ => rfl
  · refine HoldsOn.trans ?_ (holdsOn_of_touches ((touches_issueDrive (Nat.and_self _)).2 .rfl))
    exact hup _ fun _ => rfl
  · exact hup _ fun _ => rfl
  · exact hup _ fun _ => rfl
  · refine HoldsOn.trans ?_ (holdsOn_demoteOldest 1 _)
    exact hup _ fun _ => rfl

theorem holdsOn_zeroGranule : HoldsOn s (s.zeroGranule g) := by
  have hwipe : HoldsOn s (s.wipe (65536 * g) 65536) := fun _ => rfl
  unfold State.zeroGranule
  dsimp only
  refine hwipe.trans ?_
  generalize s.wipe (65536 * g) 65536 = v
  generalize (if v.backed = true then (0xFFFF : BitVec 16) else 0) = dirty
  generalize (if v.backed = true ∨ (v.reg R.tierNearReserve).toNat < v.freeFrames .near then Tier.near else .far) = tier
  repeat' split
  · exact holdsOn_setGranule rfl
  · refine HoldsOn.trans ?_ holdsOn_fillFrame
    exact holdsOn_setGranule rfl
  · exact holdsOn_setGranule rfl
  · exact holdsOn_setGranule rfl

theorem holdsOn_placeWrite {o k : Nat} : HoldsOn s (s.placeWrite o k g) := by
  have hpoison (l : List Nat) : HoldsOn s (s.each l fun s i => s.setPoison (1024 * g + i) true) := holdsOn_each fun _ _ _ => rfl
  have htouch : HoldsOn s (s.touchGranule g) := holdsOn_updGranule fun _ => rfl
  unfold State.placeWrite
  generalize List.range 1024 = l
  extract_lets
  repeat' split
  all_goals first
    | exact htouch
    | exact holdsOn_setGranule rfl
    | exact (hpoison l).trans (holdsOn_setGranule (hpoison l g).symm)
    | exact fun _ => rfl

theorem holdsOn_poolWrite {o : Nat} {bs : List Byte} : HoldsOn s (s.poolWrite o bs) := by
  unfold State.poolWrite
  split
  · exact fun _ => rfl
  · exact (holdsOn_each (l := granulesOf o bs.length) fun _ _ => holdsOn_placeWrite).trans (holdsOn_of_touches ((touches_store (Nat.and_self _)).2 .rfl))

theorem holdsOn_poolWriteP {o : Nat} {bs : List PByte} : HoldsOn s (s.poolWriteP o bs) := by
  unfold State.poolWriteP
  refine holdsOn_poolWrite.trans (holdsOn_each fun s l => ?_)
  split <;> exact fun _ => rfl

theorem holdsOn_putFunc {who : Waiter} {o : Nat} {bs : List Byte} : HoldsOn s (s.putFunc who o bs) := by
  unfold State.putFunc State.putLocal
  split
  · exact holdsOn_poolWriteP
  · refine holdsOn_each fun s b => ?_
    dsimp only
    split
    · exact holdsOn_poolWriteP
    · exact holdsOn_of_touches ((touches_sendBlock (Nat.and_self _)).2 .rfl)

theorem holdsOn_zeroFrame : HoldsOn s (s.zeroFrame g) := by
  unfold State.zeroFrame
  exact holdsOn_zeroGranule.trans (holdsOn_each fun _ _ => holdsOn_putFunc)

theorem dramHeld_holdDram_same : ((s.holdDram g).granule g).dramHeld = true := by
  unfold State.holdDram State.updGranule
  rw [granule_setGranule_same]

theorem dramHeld_holdDram {k : Nat} (h : (s.granule k).dramHeld = true) : ((s.holdDram g).granule k).dramHeld = true := by
  by_cases hk : k = g
  · rw [hk]; exact dramHeld_holdDram_same
  · unfold State.holdDram State.updGranule
    rw [granule_setGranule_other hk, h]

/-- Frames are zeroed and held, one after another. -/
def State.zeroFrames (s : State) (first : Nat) (l : List Nat) : State := s.each l fun s i => (s.zeroFrame (first + i)).holdDram (first + i)

theorem dramHeld_zeroFrames {first k : Nat} {l : List Nat} (h : (∃ i ∈ l, k = first + i) ∨ (s.granule k).dramHeld = true) :
    ((s.zeroFrames first l).granule k).dramHeld = true := by
  induction l generalizing s with
  | nil => exact h.resolve_left (by simp)
  | cons j l ih =>
    refine ih (s := (s.zeroFrame (first + j)).holdDram (first + j)) ?_
    rcases h with ⟨i, hi, rfl⟩ | h
    · rcases List.mem_cons.1 hi with rfl | hi
      · exact .inr dramHeld_holdDram_same
      · exact .inl ⟨i, hi, rfl⟩
    · exact .inr (dramHeld_holdDram ((holdsOn_zeroFrame k).trans h))

theorem tableZeroed_eq {p : Port} {table : TableId} {x : Table} (h : s.tabCmd = some (p, table, x)) : s.tableZeroed =
    (State.setTable { s.zeroFrames (x.base / 65536) (List.range (tableFrameCount x.ctx)) with tabCmd := none } table.toNat (some x)).tableResult
      p.toNat St.done := by
  unfold State.tableZeroed
  rw [h]
  rfl

theorem zeroFrames_touches {first : Nat} {l : List Nat} : Touches 590899332016313991298 s (s.zeroFrames first l) :=
  (touches_each (by decide) fun _ _ => (touches_holdDram (by decide)).2 ((touches_zeroFrame (by decide)).2 .rfl)).2 .rfl

theorem dropFrames_touches {x : Table} : Touches 39307540725890 s (s.dropFrames x) :=
  (touches_each (by decide) fun _ _ => (touches_dropGranule (by decide)).2 ((touches_setFrame (by decide)).2 .rfl)).2 .rfl

theorem tables_zeroFrames {first : Nat} {l : List Nat} : (s.zeroFrames first l).tables = s.tables := (zeroFrames_touches .tables (by decide)).symm

theorem tables_dropFrames {x : Table} : (s.dropFrames x).tables = s.tables := (dropFrames_touches .tables (by decide)).symm

theorem tabLast_result {p : Nat} {b : Byte} : tget (fun _ => 0) (s.tableResult p b).tabLast p = b :=
  tget_tput_same (t := s.tabLast) (d := fun _ => 0)

theorem table_tableResult {p m : Nat} {b : Byte} : (s.tableResult p b).table m = s.table m := rfl

theorem table_withSteps {m : Nat} {l : List StepEntry} {q : List (TableId × BitVec 32)} :
    ({ s with steps := l, poisonSteps := q } : State).table m = s.table m := rfl

theorem table_withTabCmd {m : Nat} {q : Option (Port × TableId × Table)} : ({ s with tabCmd := q } : State).table m = s.table m := rfl

theorem granule_zeroed {p k : Nat} {b : Byte} {x : Option Table} {q : Option (Port × TableId × Table)} :
    ((({ s with tabCmd := q } : State).setTable n x).tableResult p b).granule k = s.granule k := rfl

theorem reg_tableResult {p k : Nat} {b : Byte} : (s.tableResult p b).reg k = s.reg k := rfl

/-- A READ stages the context, and changes nothing but registers and its result. -/
theorem tableRead_stages {w : Nat} : let t := (s.tableStaged port w).tableResult port St.done
    KeepsBut [.regs, .tabLast] s t ∧ ∀ i < 8, t.reg (stageOff port (R.embTctxData i)) = BitVec.ofNat 64 (w / 2 ^ (64 * i)) :=
  ⟨((touches_tableResult (m := 67108992) (by decide)).2 (tableStaged_touches.mono (by decide))).keeps _ (by decide),
    fun _ hi => reg_tableResult.trans (reg_tableStaged hi)⟩

/-- A retired table is gone with its step buffer; no other table changes. -/
theorem tableRetire_gone {x : Table} (h : s.table n = some x) (hc : s.controls port (tcTenant x.ctx) = true) (hb : s.tableBusy n = false) :
    let t := s.tableRetire port n
    t.table n = none ∧ (∀ e ∈ t.steps, e.table.toNat ≠ n) ∧ (∀ m, m ≠ n → t.table m = s.table m) ∧ tget (fun _ => 0) t.tabLast port = St.done := by
  dsimp only
  rw [tableRetire_retires h hc hb]
  refine ⟨table_tableResult.trans table_setTable_same, fun e he => ?_, fun m hm => table_tableResult.trans ((table_setTable_other hm).trans (table_withSteps.trans ?_)), tabLast_result⟩
  · have hk := (List.mem_filter.1 he).2
    simpa using hk
  · exact table_of_tables tables_dropFrames

/-- Settles O29: each command by its refusals in their order, and the zeroing's end. -/
theorem tableCommands : Obligations.TableCommands := by
  refine ⟨fun s port table ho hn => ⟨fun hb => next_congr ((tableCommand_acts ho hn).trans (tableDefine_bad hb)),
    fun hb ht hc => next_congr ((tableCommand_acts ho hn).trans (tableDefine_foreign rfl hb ht hc)),
    fun hb ht hc hd => ⟨fun hr => next_congr ((tableCommand_acts ho hn).trans (tableDefine_noRoom rfl hb ht hc hd hr)), fun f hf hr => ?_⟩,
    fun hd => next_congr ((tableCommand_acts ho hn).trans (tableRetire_none hd)),
    fun x hd hc => ⟨next_congr ((tableCommand_acts ho hn).trans (tableRetire_foreign hd hc)),
      next_congr ((tableCommand_acts ho hn).trans (tableReadCmd_foreign hd hc))⟩,
    fun x hd hc => ⟨fun hb => next_congr ((tableCommand_acts ho hn).trans (tableRetire_busy hd hc hb)),
      fun hb => ⟨_, next_congr (tableCommand_acts ho hn), tableRetire_gone hd hc hb⟩, _,
      next_congr ((tableCommand_acts ho hn).trans (tableReadCmd_reads hd hc)), tableRead_stages⟩⟩,
    fun s port table x h => ⟨_, rfl, ?_⟩⟩
  · refine next_congr ((tableCommand_acts ho hn).trans ((tableDefine_begins rfl hb ht hc hd hf hr).trans ?_))
    rw [BitVec.ofNat_toNat, BitVec.ofNat_toNat, BitVec.setWidth_eq, BitVec.setWidth_eq]
    rfl
  · refine ⟨?_, ?_, fun m hm => ?_, ?_, fun i hi => ?_, ((touches_tableZeroed (Nat.and_self _)).2 .rfl : Touches _ s _).keeps _ (by decide)⟩ <;>
      rw [tableZeroed_eq h]
    · rfl
    · exact table_tableResult.trans table_setTable_same
    · exact table_tableResult.trans ((table_setTable_other hm).trans (table_withTabCmd.trans (table_of_tables tables_zeroFrames)))
    · exact tabLast_result
    · rw [granule_zeroed]
      exact dramHeld_zeroFrames (.inl ⟨i, List.mem_range.2 hi, rfl⟩)

end Sys2Proof.Machine
end

section
/-! PROOF. Embedding descriptors start, accumulate a step, and close it (R161 to R163, R170 to R175). -/

namespace Sys2Proof.Machine

variable {s t u : State} {r pos op n : Nat} {k : RingKind} {f : Flight} {idx off : List (BitVec 32)} {src : List Byte}

/-! ## The pre-check begins (R161 to R163) -/

section
variable (hm : s.mayStart r pos k = some f) (ho : (embQ k f.desc).op = op)
include hm ho

theorem embStart_fails {e : Cpl} (he : s.embCheck (embQ k f.desc) f.desc = some e) : s.embStart r pos k op idx off src = s.finish r pos e := by
  unfold State.embStart
  rw [hm]
  dsimp only
  rw [if_neg (by simp [ho]), he]

theorem embStart_prepares (he : s.embCheck (embQ k f.desc) f.desc = none) : s.embStart r pos k op idx off src =
    s.setFlight r pos fun f => { f with stage := .preparing, host := src, idx, off } := by
  unfold State.embStart
  rw [hm]
  dsimp only
  rw [if_neg (by simp [ho]), he]

end

/-- The command that starts a descriptor of a kind and opcode, with what its host brings. -/
theorem embeddingDescriptorsStart : Claims.EmbeddingDescriptorsStart := by
  intro s ring pos idx off gsrc f k op hm ho a r p c hk
  have hexec : exec c s = .next (s.embStart r p k op (if op = 1 ∨ k = .embl then idx else []) (if k = .embl ∧ op = 1 then off else [])
      (if k = .embu ∧ op = 1 then gsrc else [])) := by
    rcases hk with ⟨rfl, rfl | rfl⟩ | ⟨rfl, rfl | rfl | rfl⟩ <;> rfl
  rw [hexec]
  exact ⟨fun e he => next_congr (embStart_fails hm ho he), fun he => next_congr (embStart_prepares hm ho he)⟩

/-! ## A row's contributions (R170, R171) -/

variable {x : Table} {step : BitVec 32} {row : Nat} {l : List (List Int × Bool)}

/-- The entry of a row in the step buffer. -/
def State.entryOf (s : State) (t : Nat) (step : BitVec 32) (row : Nat) : Option StepEntry :=
  s.steps.find? fun e => e.is t step && e.row.toNat == row

theorem addRow_adds {e : StepEntry} (h : s.entryOf n step row = some e) : let k := min l.length (2 ^ 32 - 1 - e.cnt)
    s.addRow n x step row l = some (s.changeEntry n step row fun e =>
      { e with cnt := e.cnt + k, acc := addInts e.acc (rowSums (tcElems x.ctx) l k).1, clips := e.clips + (rowSums (tcElems x.ctx) l k).2 }, k) := by
  unfold State.entryOf at h
  unfold State.addRow
  rw [h]

theorem addRow_makes (h : s.entryOf n step row = none) (hr : s.stepUsed + entryBytes x.ctx ≤ 8 * 2 ^ 30) : let k := min l.length (2 ^ 32 - 1)
    s.addRow n x step row l = some ({ s with steps := s.steps ++
      [{ table := BitVec.ofNat 12 n, tenant := BitVec.ofNat 4 (tcTenant x.ctx), step, row := BitVec.ofNat 32 row, cnt := k
         clips := (rowSums (tcElems x.ctx) l k).2, acc := (rowSums (tcElems x.ctx) l k).1, image := none }] }, k) := by
  unfold State.entryOf at h
  unfold State.addRow
  rw [h]
  exact if_neg (Nat.not_lt.2 hr)

theorem addRow_full (h : s.entryOf n step row = none) (hr : 8 * 2 ^ 30 < s.stepUsed + entryBytes x.ctx) : s.addRow n x step row l = none := by
  unfold State.entryOf at h
  unfold State.addRow
  rw [h]
  exact if_pos hr

/-! ## A GRAD is reversed (R172, R174) -/

variable {g : GradSum}

/-- The step of a GRAD whose contributions cannot be taken off is discarded. -/
def State.losesStep (s : State) (g : GradSum) (x : Table) : State :=
  let t : State := { s.discardStep g.table.toNat g.step with poisonSteps := (g.table, g.step) :: s.poisonSteps }
  t.record { ErrRec.plain 4 8 (t.homeDie (x.base / 65536)) 14 with tenant := some (BitVec.ofNat 4 (tcTenant x.ctx)), addr := t.fpaOf x.base }

/-- What a GRAD added is taken off, row by row. -/
def State.takesOff (s : State) (g : GradSum) (x : Table) (l : List (Nat × List Int × Bool)) : State :=
  s.each g.adds fun s w =>
    let sums := rowSums (tcElems x.ctx) ((l.filter fun q => q.1 == w.1).map Prod.snd) w.2
    s.changeEntry g.table.toNat g.step w.1 fun e =>
      { e with cnt := e.cnt - w.2, acc := addInts e.acc (sums.1.map fun i => -i), clips := e.clips - sums.2 }

section
variable (hg : (s.grads.find? fun g => g.is r pos && g.ends.isSome) = some g) (ht : s.table g.table.toNat = some x) (hf : s.flight r pos = some f)
include hg ht hf

theorem reversed_unread : s.reversed r pos false = ((s.dropGrad r pos).losesStep g x).finish r pos (g.ends.getD (Cpl.of St.stopped)) := by
  have ht' : (s.dropGrad r pos).table g.table.toNat = some x := ht
  have hf' : (s.dropGrad r pos).flight r pos = some f := hf
  unfold State.reversed
  rw [hg]
  dsimp only
  rw [ht', hf']
  rfl

theorem reversed_waits (hl : s.gradRead r (embQ .embu f.desc) x.ctx f = .waits u) : s.reversed r pos true = u := by
  have ht' : (s.dropGrad r pos).table g.table.toNat = some x := ht
  have hf' : (s.dropGrad r pos).flight r pos = some f := hf
  unfold State.reversed
  rw [hg]
  dsimp only
  rw [ht', hf']
  dsimp only
  rw [if_neg (by decide), hl]

theorem reversed_ends {c : Cpl} (hl : s.gradRead r (embQ .embu f.desc) x.ctx f = .ends u c) :
    s.reversed r pos true = ((u.dropGrad r pos).losesStep g x).finish r pos (g.ends.getD (Cpl.of St.stopped)) := by
  have ht' : (s.dropGrad r pos).table g.table.toNat = some x := ht
  have hf' : (s.dropGrad r pos).flight r pos = some f := hf
  unfold State.reversed
  rw [hg]
  dsimp only
  rw [ht', hf']
  dsimp only
  rw [if_neg (by decide), hl]
  rfl

theorem reversed_takesOff {l : List (Nat × List Int × Bool)} {d : Nat} (hl : s.gradRead r (embQ .embu f.desc) x.ctx f = .ok u l d) :
    s.reversed r pos true = ((u.dropGrad r pos).takesOff g x l).finish r pos (g.ends.getD (Cpl.of St.stopped)) := by
  have ht' : (s.dropGrad r pos).table g.table.toNat = some x := ht
  have hf' : (s.dropGrad r pos).flight r pos = some f := hf
  unfold State.reversed
  rw [hg]
  dsimp only
  rw [ht', hf']
  dsimp only
  rw [if_neg (by decide), hl]
  rfl

end

/-! ## The step is closed (R175) -/

/-- The images of a step's entries take the place of its rows. -/
def State.writesImages (s : State) (i : Install) (x : Table) : State :=
  s.each (s.stepRows i.table.toNat i.step) fun s e => s.putFunc (.flight i.ring i.pos 0) (x.rowAt e.row.toNat) (e.image.getD [])

theorem writesImages_touches {i : Install} : Touches 590899296831941902466 s (s.writesImages i x) :=
  (touches_each (by decide) fun _ _ => (touches_putFunc (by decide)).2 .rfl).2 .rfl

/-- An install leaves those in progress. -/
def State.installEnds (s : State) (n : Nat) : State := { s with installs := dropIf (fun i => i.table.toNat == n) s.installs }

/-- The step after an install. -/
def State.stepCloses (s : State) (i : Install) (x : Table) : State :=
  (((s.writesImages i x).discardStep i.table.toNat i.step).setTable i.table.toNat (some { x with step := i.step + 1 })).count R.embCloseTotal

theorem installed_closes {i : Install} (hi : (s.installs.find? fun i => i.table.toNat == n) = some i) (ht : s.table n = some x) :
    s.installed n = State.finish ((s.installEnds n).stepCloses i x) i.ring.toNat i.pos.toNat i.cpl := by
  have hn : i.table.toNat = n := by simpa using List.find?_some hi
  have ht' : (s.installEnds n).table n = some x := ht
  unfold State.installEnds at ht'
  unfold State.installed
  rw [hi]
  dsimp only
  rw [ht']
  unfold State.stepCloses State.writesImages
  rw [hn]
  rfl

theorem stepRows_discardStep : (s.discardStep n step).stepRows n step = [] := by
  unfold State.stepRows State.discardStep dropIf
  simp [List.filter_filter]

theorem table_count {a b m : Nat} : (s.count a b).table m = s.table m := rfl

theorem stepCloses_closed {i : Install} : let t := s.stepCloses i x
    t.table i.table.toNat = some { x with step := i.step + 1 } ∧ t.stepRows i.table.toNat i.step = [] ∧ t.installs = s.installs :=
  ⟨table_count.trans (table_setTable_same (s := (s.writesImages i x).discardStep i.table.toNat i.step)), stepRows_discardStep (s := s.writesImages i x),
    (writesImages_touches .installs (by decide)).symm⟩

theorem stepsAccumulateAndClose : Claims.StepsAccumulateAndClose := by
  refine ⟨fun s t x step row l => ⟨fun e he => addRow_adds he, fun hn hr => addRow_makes hn hr, fun hn hr => addRow_full hn hr⟩,
    fun s ring pos g x f hg ht hf => ⟨fun u l n hl => next_congr (reversed_takesOff hg ht hf hl),
      fun u hl => next_congr (reversed_waits hg ht hf hl), fun u c hl => next_congr (reversed_ends hg ht hf hl),
      next_congr (reversed_unread hg ht hf)⟩,
    fun s table i x hi ht => ⟨_, next_congr (installed_closes hi ht), ?_⟩⟩
  have hn : i.table.toNat = table.toNat := by simpa using List.find?_some hi
  have hc := stepCloses_closed (s := s.installEnds table.toNat) (i := i) (x := x)
  rw [hn] at hc
  exact hc

/-- Settles O30: a descriptor starts by its checks, and the step buffer by its entries. -/
theorem embeddingDescriptorsRun : Obligations.EmbeddingDescriptorsRun := ⟨embeddingDescriptorsStart, stepsAccumulateAndClose⟩

end Sys2Proof.Machine
end

section
/-! PROOF. The tiers become ready, drive commands end, and write-back passes (R204, R209, R211, R213 to R215, R224, R356, R400). -/

namespace Sys2Proof.Machine

variable {s t u : State} {port d g n c : Nat} {promote : Bool}

/-! ## ENABLE and READY (R204, R209, R213, R214) -/

theorem tierEnable_unsealed (h : s.keeper.sealed = false) : s.tierEnable port promote = s.setupError port R.tierCtrl 5 := if_pos (by simp [h])

/-- TIER_CTRL as it is written. -/
def State.tierCtrl (s : State) (promote : Bool) : State := s.setReg R.tierCtrl (BitVec.ofNat 64 (1 + 2 * b2n promote))

theorem tierEnable_again (h : s.keeper.sealed = true) (hb : bit (s.reg R.tierCtrl) 0 = true) : s.tierEnable port promote = s.tierCtrl promote := by
  unfold State.tierEnable
  rw [if_neg (by simp [h])]
  exact if_pos hb

theorem tierEnable_first (h : s.keeper.sealed = true) (hb : bit (s.reg R.tierCtrl) 0 = false) : s.tierEnable port promote =
    s.drivesUp.foldl (fun s d => s.issueDrive d deallocCode) { s.tierCtrl promote with preparing := true } := by
  unfold State.tierEnable
  rw [if_neg (by simp [h])]
  exact if_neg (by simp [hb])

/-- The granules of the drive in service that has the fewest. -/
def State.fewest (s : State) : Nat := s.drivesUp.foldl (fun a d => min a (s.drive d).granules) (s.drive (s.drivesUp.headD 0)).granules

theorem foldl_min_eq {f : Nat → Nat} : ∀ (l : List Nat) (a : Nat), g ≤ a → (∀ d ∈ l, g ≤ f d) → (a = g ∨ ∃ d ∈ l, f d = g) →
    l.foldl (fun a d => min a (f d)) a = g
  | [], a, _, _, h => h.resolve_right (by simp)
  | b :: l, a, ha, hl, h => by
    have hb : g ≤ f b := hl b List.mem_cons_self
    refine foldl_min_eq l (min a (f b)) (Nat.le_min.2 ⟨ha, hb⟩) (fun d hd => hl d (List.mem_cons_of_mem _ hd)) ?_
    rcases h with rfl | ⟨d, hd, hf⟩
    · exact .inl (Nat.min_eq_left hb)
    · rcases List.mem_cons.1 hd with rfl | hd
      · exact .inl (by rw [hf]; exact Nat.min_eq_right ha)
      · exact .inr ⟨d, hd, hf⟩

theorem fewest_eq (h0 : s.drivesUp ≠ []) (hl : ∀ d ∈ s.drivesUp, g ≤ (s.drive d).granules) (he : ∃ d ∈ s.drivesUp, (s.drive d).granules = g) :
    s.fewest = g := by
  have hhead : s.drivesUp.headD 0 ∈ s.drivesUp := by
    cases h : s.drivesUp with
    | nil => exact absurd h h0
    | cons a l => exact List.mem_cons_self
  exact foldl_min_eq (f := fun d => (s.drive d).granules) _ _ (hl _ hhead) hl (.inr he)

/-- The populated bytes of a pool that drives hold, dense of them, or of one that the near and far tiers hold. -/
def State.settledCapacity (s : State) (dense : Nat) : Nat :=
  if (!s.drivesUp.isEmpty) = true then dense / 2 ^ 30 * 2 ^ 30 else s.variant.nearBytes + (s.reg R.tierFarBytes).toNat - 32 * 2 ^ 30

theorem settledCapacity_drives (h : s.drivesUp ≠ []) : s.settledCapacity n = n / 2 ^ 30 * 2 ^ 30 := if_pos (by simpa using h)

theorem settledCapacity_none (h : s.drivesUp = []) :
    s.settledCapacity n = s.variant.nearBytes + (s.reg R.tierFarBytes).toNat - 32 * 2 ^ 30 := if_neg (by simp [h])

/-- The tiers are READY over the drives in service, with the bytes these hold. -/
def State.settled (s : State) (dense capacity : Nat) : State :=
  (({ s with stripe := s.drivesUp, backed := !s.drivesUp.isEmpty, preparing := false, ready := true } : State).setReg R.tierDenseBytes
    (BitVec.ofNat 64 dense)).setReg R.tierCapacity (BitVec.ofNat 64 capacity)

theorem settled_keeps : KeepsBut [.ready, .preparing, .stripe, .backed, .regs] s (s.settled n c) := by
  intro f hf
  cases f <;> first | exact Eq.refl _ | exact absurd (by decide) hf

theorem reg_settled_capacity : (s.settled n c).reg R.tierCapacity = BitVec.ofNat 64 c := reg_setReg_same

theorem reg_settled_dense : (s.settled n c).reg R.tierDenseBytes = BitVec.ofNat 64 n := (reg_setReg_other (by decide)).trans reg_setReg_same

theorem reg_settled_other {o : Nat} (h1 : o ≠ R.tierDenseBytes) (h2 : o ≠ R.tierCapacity) : (s.settled n c).reg o = s.reg o :=
  (reg_setReg_other h2).trans (reg_setReg_other h1)

theorem tierReady_settles (hon : s.pwr.state = .on) (hf : s.ras.fog = false) (hp : s.preparing = true) (hd : ∀ d ∈ s.drivesUp, (s.drive d).prepared = 2) :
    s.tierReady = s.settled (s.drivesUp.length * s.fewest * 65536) (s.settledCapacity (s.drivesUp.length * s.fewest * 65536)) := by
  have hall : (s.drivesUp.all fun d => (s.drive d).prepared == 2) = true := by simpa using hd
  unfold State.tierReady
  exact if_neg (by simp [State.tierOn, hon, hf, hp, hall])

theorem tiersBecomeReady : Claims.TiersBecomeReady := by
  refine ⟨fun s port promote ho hc => ?_, fun s hon hf hp hd => ⟨_, next_congr (tierReady_settles hon hf hp hd), Eq.refl _, Eq.refl _, Eq.refl _,
    Eq.refl _, fun h0 => ?_, fun g h0 hl he => ⟨?_, ?_⟩, fun o h1 h2 => reg_settled_other h1 h2, settled_keeps⟩⟩
  · have hopen : exec (.tierEnable port promote) s = .next (s.tierEnable port.toNat promote) :=
      next_congr (setupWrite_open ho fun t ht => by cases ht; exact hc)
    rw [hopen]
    exact ⟨fun h => next_congr (tierEnable_unsealed h), fun h hb => next_congr (tierEnable_again h hb), fun h hb => next_congr (tierEnable_first h hb)⟩
  · rw [reg_settled_capacity, settledCapacity_none h0]
  · rw [reg_settled_dense, fewest_eq h0 hl he]
  · rw [reg_settled_capacity, settledCapacity_drives h0, fewest_eq h0 hl he]

/-! ## A drive's command ends (R211, R214, R215, R224, R356) -/

/-- Only what the change makes of the drive as it stands counts. -/
theorem updDrive_congr {f h : Drive → Drive} (hf : f (s.drive d) = h (s.drive d)) : s.updDrive d f = s.updDrive d h := by
  unfold State.updDrive
  rw [hf]

section
/-! The drive answers a command of its list. -/
variable {how : DriveEnd} (hc : (s.drive d).cmds.contains c = true) (hr : (s.drive d).resetting = false) (h1 : s.pwr.state ≠ .off) (h2 : s.pwr.state ≠ .boot)
  (hu : u = (s.updDrive d fun x => { x with cmds := x.cmds.erase c }).drivesGoOn s)
include hc hr h1 h2 hu

theorem driveDone_ok : s.driveDone d c .ok = if u.ras.fog then u else u.driveOk d c := by
  subst hu
  unfold State.driveDone
  exact if_neg (by simp [hr, h1, h2, List.contains_iff_mem.1 hc])

theorem driveDone_media {units : BitVec 16} : s.driveDone d c (.mediaError units) =
    (((readOf c).elim u fun g => if (u.granule g).fill.isSome ∨ 2 ^ 47 ≤ c then u.poisonUnits g units else u)).failDrive d 9 := by
  subst hu
  unfold State.driveDone
  rw [if_neg (by simp [hr, h1, h2, List.contains_iff_mem.1 hc])]
  dsimp only
  cases readOf c <;> rfl

theorem driveDone_fog (hf : u.ras.fog = true) : s.driveDone d c .ok = u := (driveDone_ok hc hr h1 h2 hu).trans (if_pos hf)

theorem driveDone_clear (hf : u.ras.fog = false) : s.driveDone d c .ok = u.driveOk d c :=
  (driveDone_ok hc hr h1 h2 hu).trans (if_neg (by simp [hf]))

end

theorem driveDone_resetting {how : DriveEnd} (h : (s.drive d).resetting = true) : s.driveDone d c how = s := if_pos (by simp [h])

theorem driveOk_dealloc (h : c = deallocCode) : s.driveOk d c = (s.updDrive d fun x => { x with prepared := 1 }).issueDrive d cacheCode := if_pos h

theorem driveOk_cache (h : c = cacheCode) : s.driveOk d c = s.updDrive d fun x => { x with prepared := 2 } :=
  (if_neg (by rw [h]; decide)).trans (if_pos h)

theorem driveOk_write (h1 : c ≠ deallocCode) (h2 : c ≠ cacheCode) (h : isWrite c = true) :
    s.driveOk d c = s.writeDone (writeOf c).1 (writeOf c).2.1 (writeOf c).2.2 := by
  unfold State.driveOk
  rw [if_neg h1, if_neg h2, if_pos h]

theorem driveOk_direct (h : 2 ^ 47 ≤ c) : s.driveOk d c = { s with ras := { s.ras with
    reliefs := mapIf (fun (r : Relief) => r.started && !r.copied) (fun r => { r with read := (c - 2 ^ 47) :: r.read }) s.ras.reliefs } } := by
  have hw : isWrite c = false := by unfold isWrite; simp only [decide_eq_false_iff_not]; omega
  unfold State.driveOk
  rw [if_neg (by unfold deallocCode; omega), if_neg (by unfold cacheCode; omega), if_neg (by simp [hw])]
  exact if_pos h

theorem driveOk_other (h1 : c ≠ deallocCode) (h2 : c ≠ cacheCode) (h : isWrite c = false) (hlt : c < 2 ^ 47) : s.driveOk d c = s := by
  unfold State.driveOk
  rw [if_neg h1, if_neg h2, if_neg (by simp [h]), if_neg (by omega)]

theorem readOf_fill (h : c < 2 ^ 34) : readOf c = some c := if_pos h

theorem readOf_direct (h : 2 ^ 47 ≤ c) : readOf c = some (c - 2 ^ 47) := (if_neg (by omega)).trans (if_pos h)

theorem readOf_none (h1 : 2 ^ 34 ≤ c) (h2 : c < 2 ^ 47) : readOf c = none := (if_neg (by omega)).trans (if_neg (by omega))

/-! ## A drive that does not answer (R214, R215, R400) -/

section
variable {later : List Nat} (hs : (s.drive d).state = .inService) (hc : (s.drive d).cmds = c :: later)
include hs hc

theorem driveTimeout_preparing (hp : s.preparing = true) : s.driveTimeout d = s.failDrive d 8 := by
  unfold State.driveTimeout
  dsimp only
  rw [hc]
  dsimp only
  rw [if_neg (by simp [hs]), if_pos hp]

theorem driveTimeout_resets (hp : s.preparing = false) : s.driveTimeout d =
    ((s.driveCmd d 0x108 (s.driveOp c).2.1 (s.driveOp c).2.2).emit (.driveReset (BitVec.ofNat 3 d))).updDrive d
      fun x => { x with cmds := [], queued := c :: later ++ x.queued, resetting := true } := by
  have hstep : s.driveTimeout d = ((s.driveCmd d 0x108 (s.driveOp c).2.1 (s.driveOp c).2.2).emit (.driveReset (BitVec.ofNat 3 d))).updDrive d
      fun x => { x with cmds := [], queued := x.cmds ++ x.queued, resetting := true } := by
    unfold State.driveTimeout
    dsimp only
    rw [hc]
    dsimp only
    rw [if_neg (by simp [hs]), if_neg (by simp [hp])]
  have hcmds : (((s.driveCmd d 0x108 (s.driveOp c).2.1 (s.driveOp c).2.2).emit (.driveReset (BitVec.ofNat 3 d))).drive d).cmds = c :: later := hc
  rw [hstep]
  exact updDrive_congr (by rw [hcmds])

end

theorem driveLost_fails (h : (s.drive d).resetting = true) : s.driveLost d = s.failDrive d 8 := if_pos h

theorem perstLow_drives (h : (s.drive d).resetting = true) : s.perstLow d = s.updDrive d fun x => { x with perst := true } := if_pos h

theorem perstHigh_drives (h : (s.drive d).state ≠ .absent) : s.perstHigh d = s.updDrive d fun x => { x with perst := false } := if_pos h

theorem driveBack_serves (hs : (s.drive d).state = .inService) (hr : (s.drive d).resetting = true) (hp : (s.drive d).perst = false) :
    s.driveBack d = (s.updDrive d fun x => { x with resetting := false }).pumpDrive d := if_neg (by simp [hs, hr, hp])

/-! ## What waits for a drive (R23, R211) -/

section
variable {later : List Nat} (hq : (s.drive d).queued = c :: later)
include hq

theorem pumpDrive_holds (hr : s.driveRoom d c = false) : s.pumpDrive d = s := by
  unfold State.pumpDrive
  rw [hq]
  simp [State.pumpDriveN, hq, hr]

theorem pumpDrive_sends (hr : s.driveRoom d c = true) : s.pumpDrive d =
    ((s.updDrive d fun x => { x with cmds := x.cmds ++ [c], queued := later }).driveCmd d (s.driveOp c).1 (s.driveOp c).2.1
      (s.driveOp c).2.2).pumpDrive d := by
  have hlater : (((s.updDrive d fun x => { x with cmds := x.cmds ++ [c], queued := later }).driveCmd d (s.driveOp c).1 (s.driveOp c).2.1
      (s.driveOp c).2.2).drive d).queued = later :=
    congrArg Drive.queued (drive_updDrive_same (f := fun x => { x with cmds := x.cmds ++ [c], queued := later }))
  unfold State.pumpDrive
  rw [hlater, hq]
  simp [State.pumpDriveN, hq, hr]

end

theorem codeTxns_dealloc : codeTxns deallocCode = 0 := by decide

/-- Deallocate makes no memory transaction (R23). -/
theorem driveRoom_dealloc : s.driveRoom d deallocCode = true ↔ (s.drive d).resetting = false ∧ (s.drive d).cmds.length < 64 * 256 ∧ s.memTxns ≤ 65536 := by
  unfold State.driveRoom
  rw [codeTxns_dealloc]
  simp only [Bool.and_eq_true, decide_eq_true_eq, Bool.not_eq_true', Nat.add_zero, and_assoc]
  exact Iff.rfl

/-! ## A failed drive (R215) -/

/-- What a failed drive held is given up. -/
def State.orphan (s : State) (d : Nat) : State :=
  (s.granules.filter fun e => s.driveOf e.1 == some d).foldl (fun t e => t.updGranule e.1 fun y =>
    y.orphaned (y.zeroing || !(y.waits || (s.drive d).cmds.contains e.1 || (s.drive d).queued.contains e.1))) s

theorem touches_orphan : Touches 2199023255552 s (s.orphan d) :=
  (touches_each (by decide) fun _ _ => (touches_updGranule (by decide)).2 .rfl).2 .rfl

theorem drive_orphan {e : Nat} : (s.orphan d).drive e = s.drive e := drive_of_drives (touches_orphan .drives (by decide)).symm

/-- A drive that has failed, with the granules that are lost with it counted. -/
def State.driveFailed (s : State) (d reason n : Nat) : State :=
  (s.updDrive d fun x => { x with state := .failed, reason := BitVec.ofNat 6 reason, cmds := [], queued := [], resetting := false }).count
    R.tierPoisonTotal n

theorem driveFailed_keeps (h : Touches 2199023255552 s t) : KeepsBut [.drives, .granules, .regs] s (t.driveFailed d c n) :=
  Touches.keeps (m := 37383395344512) _ ((touches_count (by decide)).2 ((touches_updDrive (by decide)).2 (h.mono (by decide)))) (by decide)

theorem drive_driveFailed_same : (s.driveFailed d c n).drive d =
    { s.drive d with state := .failed, reason := BitVec.ofNat 6 c, cmds := [], queued := [], resetting := false } :=
  drive_updDrive_same (f := fun x => { x with state := .failed, reason := BitVec.ofNat 6 c, cmds := [], queued := [], resetting := false })

theorem drive_driveFailed_other {e : Nat} (h : e ≠ d) : (s.driveFailed d c n).drive e = s.drive e := by
  unfold State.driveFailed
  rw [State.drive_count, drive_updDrive_other h]

/-- The granules that a drive holds and no DRAM does. -/
def State.lostWith (s : State) (d : Nat) : Nat := s.drivesShare d - (s.granules.filter fun e => s.driveOf e.1 == some d && !inReserved (65536 * e.1)
  && (e.2.tier != .none || e.2.fill.isSome)).length

theorem failDrive_fails (h : (s.drive d).state = .inService) : s.failDrive d n =
    State.tierMoved (State.record ((s.orphan d).driveFailed d n (16 * (s.orphan d).lostWith d)) (ErrRec.plain 4 5 d 13)) := by
  unfold State.failDrive
  exact if_neg (by simp [h])

theorem failDrive_leaves (hn : n < 64) (h : (s.drive d).state = .inService) :
    ∃ t, s.failDrive d n = State.tierMoved (State.record t (ErrRec.plain 4 5 d 13)) ∧
      (t.drive d).state = .failed ∧ (t.drive d).reason.toNat = n ∧ (t.drive d).cmds = [] ∧ (t.drive d).queued = [] ∧ (∀ e, e ≠ d → t.drive e = s.drive e) ∧
      KeepsBut [.drives, .granules, .regs] s t := by
  refine ⟨_, failDrive_fails h, congrArg Drive.state drive_driveFailed_same, ?_, congrArg Drive.cmds drive_driveFailed_same,
    congrArg Drive.queued drive_driveFailed_same, fun e he => (drive_driveFailed_other he).trans drive_orphan, driveFailed_keeps touches_orphan⟩
  rw [drive_driveFailed_same]
  exact Nat.mod_eq_of_lt hn

theorem driveCommandsEnd : Claims.DriveCommandsEnd := by
  intro s drive d x
  refine ⟨fun granule hc hr h1 h2 => ?_,
    fun granule how hr => next_congr (driveDone_resetting hr), fun c later hs hc => ⟨fun hp => next_congr (driveTimeout_preparing hs hc hp), fun hp => ?_⟩,
    fun hr => ⟨next_congr (driveLost_fails hr), next_congr (perstLow_drives hr)⟩, fun hs => next_congr (perstHigh_drives hs),
    fun hs hr hp => next_congr (driveBack_serves hs hr hp), fun c later hq => ⟨pumpDrive_holds hq, pumpDrive_sends hq⟩, driveRoom_dealloc,
    fun reason hn hs => failDrive_leaves hn hs⟩
  · intro g u
    refine ⟨fun hf h3 h4 hw hlt => ?_, fun hf h => ?_, fun hf h => ?_, fun hf h => ?_, fun hf h3 h4 hw => ?_,
      fun hf => next_congr (driveDone_fog hc hr h1 h2 rfl hf), fun units h hfill => ?_, fun units h => ?_, fun units hlt h => ?_⟩
    · exact next_congr ((driveDone_clear hc hr h1 h2 rfl hf).trans (driveOk_other h3 h4 hw hlt))
    · exact next_congr ((driveDone_clear hc hr h1 h2 rfl hf).trans (driveOk_direct h))
    · exact next_congr ((driveDone_clear hc hr h1 h2 rfl hf).trans (driveOk_dealloc h))
    · exact next_congr ((driveDone_clear hc hr h1 h2 rfl hf).trans (driveOk_cache h))
    · exact next_congr ((driveDone_clear hc hr h1 h2 rfl hf).trans (driveOk_write h3 h4 hw))
    · refine next_congr ((driveDone_media hc hr h1 h2 rfl).trans ?_)
      rw [readOf_fill h, Option.elim_some, if_pos (.inl hfill)]
    · refine next_congr ((driveDone_media hc hr h1 h2 rfl).trans ?_)
      rw [readOf_direct h, Option.elim_some, if_pos (.inr h)]
    · refine next_congr ((driveDone_media hc hr h1 h2 rfl).trans ?_)
      by_cases hg : g < 2 ^ 34
      · have hnone : (u.granule g).fill = none := h.resolve_left (by omega)
        rw [readOf_fill hg, Option.elim_some, if_neg (by rw [hnone]; simp; omega)]
      · rw [readOf_none (by omega) hlt, Option.elim_none]
  · refine next_congr ((driveTimeout_resets hs hc hp).trans ?_)
    rw [BitVec.ofNat_toNat, BitVec.setWidth_eq]

/-! ## A Write completes (R224) -/

/-- The bits of a Write's run are clear, but those written to since. -/
def State.written (s : State) (g n : Nat) (left dirty : BitVec 16) : State :=
  (s.setGranule g { s.granule g with evict := left, dirty }).count R.tierWritebackTotal n

section
variable {v n : Nat} {m : Move} {run left dirty : BitVec 16} (hm : (s.granule g).move = some m) (hd : m.dst = .none)
  (hrun : run = (s.granule g).evict &&& unitRun v n) (hleft : left = (s.granule g).evict &&& ~~~run) (hdirty : dirty = (s.granule g).dirty &&& ~~~(run &&& ~~~m.marks))
include hm hrun hleft hdirty

theorem writeDone_eq : s.writeDone g v n =
    if m.dst ≠ .none ∨ left ≠ 0 ∨ run = 0 then s.written g n left dirty
    else if (s.granule g).dramHeld || (s.granule g).nearHeld then (s.written g n left dirty).updGranule g fun x => { x with move := none }
    else if dirty = 0 then ((s.written g n left dirty).toDense g).tierMoved
    else if m.passes + 1 = 4 then
      ((s.written g n left dirty).updGranule g fun x => { x with move := none, due := true }).count R.tierAbandonTotal
    else (s.written g n left dirty).updGranule g fun x => { x with move := some { m with passes := m.passes + 1, todo := 0xFFFF, copied := 0 } } := by
  subst hrun hleft hdirty
  unfold State.writeDone State.written
  dsimp only
  rw [hm]

theorem writeDone_more (h : left ≠ 0) : s.writeDone g v n = s.written g n left dirty :=
  (writeDone_eq hm hrun hleft hdirty).trans (if_pos (.inr (.inl h)))

include hd

theorem writeDone_held (h : left = 0) (hr : run ≠ 0) (hh : (s.granule g).dramHeld = true ∨ (s.granule g).nearHeld = true) :
    s.writeDone g v n = (s.written g n left dirty).updGranule g fun x => { x with move := none } := by
  rw [writeDone_eq hm hrun hleft hdirty, if_neg (fun e => e.elim (· hd) fun e => e.elim (· h) hr), if_pos (by simpa using hh)]

section
variable (h : left = 0) (hr : run ≠ 0) (h1 : (s.granule g).dramHeld = false) (h2 : (s.granule g).nearHeld = false)
include h hr h1 h2

theorem writeDone_clean (hc : dirty = 0) : s.writeDone g v n = ((s.written g n left dirty).toDense g).tierMoved := by
  rw [writeDone_eq hm hrun hleft hdirty, if_neg (fun e => e.elim (· hd) fun e => e.elim (· h) hr), if_neg (by simp [h1, h2]), if_pos hc]

theorem writeDone_again (hc : dirty ≠ 0) (hp : m.passes + 1 ≠ 4) : s.writeDone g v n = (s.written g n left dirty).updGranule g fun x =>
    { x with move := some { m with passes := m.passes + 1, todo := 0xFFFF, copied := 0 } } := by
  rw [writeDone_eq hm hrun hleft hdirty, if_neg (fun e => e.elim (· hd) fun e => e.elim (· h) hr), if_neg (by simp [h1, h2]), if_neg hc, if_neg hp]

theorem writeDone_abandons (hc : dirty ≠ 0) (hp : m.passes + 1 = 4) : s.writeDone g v n =
    ((s.written g n left dirty).updGranule g fun x => { x with move := none, due := true }).count R.tierAbandonTotal := by
  rw [writeDone_eq hm hrun hleft hdirty, if_neg (fun e => e.elim (· hd) fun e => e.elim (· h) hr), if_neg (by simp [h1, h2]), if_neg hc, if_pos hp]

end
end

theorem writeBackRunsPasses : Claims.WriteBackRunsPasses :=
  fun _ _ _ _ _ hm hd => ⟨fun h => writeDone_more hm rfl rfl rfl h,
    fun h hr h1 h2 => ⟨fun hc => writeDone_clean hm hd rfl rfl rfl h hr h1 h2 hc, fun hc hp => writeDone_again hm hd rfl rfl rfl h hr h1 h2 hc hp,
      fun hc hp => writeDone_abandons hm hd rfl rfl rfl h hr h1 h2 hc hp⟩,
    fun h hr hh => writeDone_held hm hd rfl rfl rfl h hr hh⟩

/-- Settles O31: TIER_CTRL and READY, the end of a drive's command and its failures, and a Write's passes, each by the one rule its function has. -/
theorem tiersAndDrives : Obligations.TiersAndDrives := ⟨tiersBecomeReady, driveCommandsEnd, writeBackRunsPasses⟩

end Sys2Proof.Machine
end

section
/-! PROOF. The tier unit's own work (R208, R216, R217, R219, R221, R224, R225, R342). -/

namespace Sys2Proof.Machine

variable {s : State} {g d l : Nat} {t : Tier} {m : Move}

theorem tierOn_of (hon : s.pwr.state = .on) (hf : s.ras.fog = false) : s.tierOn = true := by simp [State.tierOn, hon, hf]

/-! ## Fills (R216, R217) -/

section
variable (h : s.tierOn = true) (hx : (s.granule g).fill = some t)
include h hx

/-- What FILL_COMPLETE does to a granule that has a fill. -/
theorem fillDone_lands (hw : (s.granule g).waits = false) (hr : s.reading g = false) : s.fillDone g =
    let u := s.setGranule g { s.granule g with tier := t, fill := none, zeroing := false, fillUser := none }
    (if s.backed && !(s.granule g).zeroing then u.count R.tierFillTotal else u).tierMoved := by
  unfold State.fillDone
  dsimp only
  rw [hx]
  dsimp only
  rw [if_neg (by simp [h]), if_neg (by simp [hw]), if_neg (by simp [hr])]
  rfl

theorem fillDone_waits (hw : (s.granule g).waits = true) : s.fillDone g = s.fillsGoOn := by
  unfold State.fillDone
  dsimp only
  rw [hx]
  dsimp only
  rw [if_neg (by simp [h]), if_pos hw]

variable (hw : (s.granule g).waits = true)
include hw

theorem frameWait_frame (hp : s.pickFrame t ≠ none) : s.frameWait g = s.fillFrame g t := by
  unfold State.frameWait
  dsimp only
  rw [hx]
  dsimp only
  rw [if_neg (by simp [h, hw]), if_pos (Option.isSome_iff_ne_none.2 hp)]

/-- A fill that found no frame is given up, with its record. -/
def State.fillLost (s : State) (g : Nat) : State :=
  (s.setGranule g { s.granule g with fill := none, waits := false, zeroing := false, fillUser := none, dirty := 0 }).record
    { ErrRec.plain 3 8 (s.homeDie g) 5 with status := St.noSpace, addr := s.fpaOf (65536 * g) }

theorem frameWait_lost (hp : s.pickFrame t = none) {w : State}
    (hu : w = (s.granule g).fillUser.elim (s.fillLost g) fun u => (s.fillLost g).refuseUser u.1.toNat u.2.toNat) :
    s.frameWait g = ((w.homeWaits.filter fun e => e.1 / 256 == g).foldl (fun s e => e.2.foldl State.refuseWait (s.setWaits e.1 [])) w).runNet.itemsEnd := by
  subst hu
  unfold State.frameWait State.fillLost
  dsimp only
  rw [hx]
  dsimp only
  rw [if_neg (by simp [h, hw]), if_neg (by simp [hp])]
  cases (s.granule g).fillUser <;> rfl

end

/-! ## Ages (R219) -/

theorem ageExamination_demotes (h : s.tierOn = true) : s.ageExamination =
    let u := s.granules.foldl (fun s e => s.updGranule e.1 fun x => { x with due := false }) s
    let v := u.granules.foldl (fun s e => if s.aged e.1 (s.granule e.1) then s.demote e.1 else s) u
    let w := State.demoteOldest .near (v.waitingFor .near) v
    (State.demoteOldest .far (w.waitingFor .far) w).tierMoved := by
  unfold State.ageExamination
  exact if_neg (by simp [h])

/-! ## Copies (R221) -/

section
variable (h : s.tierOn = true) (hm : (s.granule g).move = some m) (hd : m.dst ≠ .none) (hn : (s.granule g).nearHeld = false ∨ m.dst = .near)
include h hm hd hn

/-- A pass ends: the switch, another pass, or abandonment. -/
theorem copyPass_eq : s.copyPass g =
    if m.marks = 0 then
      ((s.setGranule g { s.granule g with tier := m.dst, frame := m.frame, move := none }).count
        (if m.dst = .near then R.tierPromoteTotal else R.tierDemoteTotal)).tierMoved
    else if m.passes + 1 = 4 then ((s.setGranule g { s.granule g with move := none, due := true }).count R.tierAbandonTotal).tierMoved
    else s.setGranule g { s.granule g with move := some { m with marks := 0, passes := m.passes + 1, todo := m.marks, copied := 0 } } := by
  have hheld : ¬((s.granule g).nearHeld = true ∧ m.dst ≠ .near) := fun ⟨a, b⟩ => hn.elim (by simp [a]) b
  unfold State.copyPass
  dsimp only
  rw [hm]
  dsimp only
  rw [if_neg (by simp [h, hd]), if_neg hheld]

end

/-! ## Write-back (R224, R225) -/

section
variable (h : s.tierOn = true) (hm : (s.granule g).move = some m) (hd : m.dst = .none) (he : (s.granule g).evict = 0) (hg : s.driveOf g = some d)
  (hs : (s.drive d).state = .inService) (hf : s.fenced 5 d = false)
  (hc : ∀ c ∈ (s.drive d).cmds ++ (s.drive d).queued, ¬(isWrite c = true ∧ (writeOf c).1 = g)) (hb : s.stagingUsed (d / 4) < 64)
include h hm hd he hg hs hf hc hb

/-- A pass of an eviction begins. -/
theorem writebackStart_eq : s.writebackStart g =
    if (s.granule g).dramHeld then s.setGranule g { s.granule g with move := none }
    else if (s.granule g).dirty = 0 then (s.toDense g).tierMoved
    else (runsOf (s.granule g).dirty).foldl (fun s r => s.issueDrive d (writeCode g r.1 r.2))
      (s.setGranule g { s.granule g with
        evict := (s.granule g).dirty, move := some { m with marks := 0, todo := (s.granule g).dirty, copied := 0 } }) := by
  have hidle : (((s.drive d).cmds ++ (s.drive d).queued).any fun c => isWrite c && (writeOf c).1 == g) = false := by
    rw [List.any_eq_false]
    exact fun c hmem => by simpa using hc c hmem
  unfold State.writebackStart
  dsimp only
  rw [hm, hg]
  dsimp only
  rw [hidle]
  exact if_neg fun e => by
    rcases e with e | e | e | e | e | e | e
    · simp [h] at e
    · exact e hd
    · exact e he
    · simp [hf] at e
    · simp at e
    · omega
    · exact e hs

end

/-! ## The patrol scrub (R208, R342) -/

section
variable {corrected : Bool} (h : s.tierOn = true) (hl : (s.granule (l / 1024)).tier = .far)
include h hl

theorem patrol_eq {bad : Bool} : s.patrol l corrected bad =
    let rec_ (severity code : Nat) : ErrRec :=
      { ErrRec.plain severity (s.storeUnit (64 * l)).1 (s.storeUnit (64 * l)).2 code with addr := s.fpaOf (64 * l) }
    if bad then (s.setPoison l true).record (rec_ 3 2) else if corrected then s.record (rec_ 2 1) else s := by
  unfold State.patrol
  exact if_neg (by simp [h, hl])

end

/-- Settles O32: each command of the tier unit, by its function's branch in a device that is on and not in Fog mode. -/
theorem tierUnitWorks : Obligations.TierUnitWorks := by
  intro s hon hfog
  have h := tierOn_of hon hfog
  refine ⟨fun granule t hx => ⟨fun hw hr => ?_, fun hw => ?_, fun hw hp => ?_, fun hw hp => ?_⟩, ?_, fun granule m hm hd hn => ⟨fun h0 => ?_,
    fun h0 h4 => ?_, fun h0 h4 => ?_⟩, fun granule m d hm hd he hg hs hf hc hb => ⟨fun hx => ?_, fun hx h0 => ?_, fun hx h0 => ?_⟩,
    fun line corrected hl => ⟨?_, ?_, ?_⟩⟩
  · exact next_congr (fillDone_lands h hx hw hr)
  · exact next_congr (fillDone_waits h hx hw)
  · exact next_congr (frameWait_frame h hx hw hp)
  · refine next_congr (frameWait_lost h hx hw hp ?_)
    cases (s.granule granule.toNat).fillUser <;> rfl
  · exact next_congr (ageExamination_demotes h)
  · exact next_congr ((copyPass_eq h hm hd hn).trans (if_pos h0))
  · exact next_congr ((copyPass_eq h hm hd hn).trans ((if_neg h0).trans (if_pos h4)))
  · exact next_congr ((copyPass_eq h hm hd hn).trans ((if_neg h0).trans (if_neg h4)))
  · exact next_congr ((writebackStart_eq h hm hd he hg hs hf hc hb).trans (if_pos hx))
  · exact next_congr ((writebackStart_eq h hm hd he hg hs hf hc hb).trans ((if_neg (by simp [show (s.granule granule.toNat).dramHeld = false from hx])).trans (if_pos h0)))
  · exact next_congr ((writebackStart_eq h hm hd he hg hs hf hc hb).trans ((if_neg (by simp [show (s.granule granule.toNat).dramHeld = false from hx])).trans (if_neg h0)))
  · exact next_congr (patrol_eq h hl)
  · exact next_congr (patrol_eq h hl)
  · exact next_congr (patrol_eq h hl)

end Sys2Proof.Machine
end

section
/-! PROOF. XINV descriptors on this device and the others (R246 to R251, R288). -/

namespace Sys2Proof.Machine

variable {s t u v : State} {r p op n a off : Nat} {f : Flight} {bs : List Byte}

/-! ## The devices an operation goes to: its mask stands through what comes before it (R246) -/

/-- The register of the broadcast's devices keeps its value. -/
def KeepsMask (s t : State) : Prop := t.reg R.xltBcastMask = s.reg R.xltBcastMask

theorem KeepsMask.trans (h : KeepsMask s t) (h' : KeepsMask t u) : KeepsMask s u := Eq.trans h' h

theorem keepsMask_of_touches {m : Nat} (h : Touches m s t) (hm : m.testBit 7 = false := by decide) : KeepsMask s t := reg_of_touches h _ hm

theorem keepsMask_setReg {k : Nat} {w : Word} (h : k ≠ R.xltBcastMask) : KeepsMask s (s.setReg k w) := reg_setReg_other h.symm

theorem keepsMask_count {k : Nat} (h : k ≠ R.xltBcastMask) : KeepsMask s (s.count k n) := keepsMask_setReg h

theorem keepsMask_each {α : Type} {l : List α} {g : State → α → State} (h : ∀ s a, KeepsMask s (g s a)) : KeepsMask s (s.each l g) := by
  induction l generalizing s with
  | nil => exact Eq.refl _
  | cons b l ih => exact (h s b).trans ih

theorem keepsMask_recordOne {e : ErrRec} (hs : e.severity ≤ 4) : KeepsMask s (s.recordOne e) := by
  refine reg_recordOne (by decide) (by decide) ?_ (by decide)
  simp only [R.rasSevTotal, R.xltBcastMask]
  omega

/-- Only a core's fault is kept in a register of the core's own. -/
theorem unitBit_not_mask {cls unit i : Nat} (hc : cls ≠ 1) (h : unitBit (R.rasLastingCore 0) R.rasLastingUnit R.rasLastingPort cls unit = some (off, i)) :
    off ≠ R.xltBcastMask := by
  unfold unitBit at h
  split at h <;> simp only [Option.some.injEq, Prod.mk.injEq, reduceCtorEq] at h <;> obtain ⟨rfl, -⟩ := h
  · exact absurd rfl hc
  all_goals decide

theorem keepsMask_record {e : ErrRec} (hs : e.severity ≤ 4) (hc : e.cls ≠ 1) : KeepsMask s (s.record e) := by
  refine KeepsMask.trans (t := s.recordOne e) (keepsMask_recordOne hs) ?_
  unfold State.record State.window
  split
  · exact Eq.refl _
  · extract_lets key n span times put x y
    have hx : KeepsMask (s.recordOne e) x := Eq.refl _
    split
    · split
      next k i hk => exact (hx.trans (keepsMask_recordOne (Nat.le_refl 4))).trans (keepsMask_setReg (unitBit_not_mask hc hk))
      next => exact hx.trans (keepsMask_recordOne (Nat.le_refl 4))
    · exact Eq.refl _

theorem storeUnit_not_core {o : Nat} : (s.storeUnit o).1 ≠ 1 := by
  have hclass : (3 : Nat) ≠ 1 ∧ (4 : Nat) ≠ 1 ∧ (5 : Nat) ≠ 1 := by decide
  obtain ⟨h3, h4, h5⟩ := hclass
  unfold State.storeUnit
  dsimp only
  split
  · exact h3
  · split
    · exact h3
    · split
      · exact h4
      · split
        · exact h5
        · exact h3

theorem keepsMask_blockError {b : Nat} {decode : Bool} : KeepsMask s (s.blockError r b decode) := by
  have hclass : (8 : Nat) ≠ 1 := by decide
  unfold State.blockError
  refine (((keepsMask_count ?_).trans (keepsMask_setReg (by decide))).trans (keepsMask_setReg (by decide))).trans (keepsMask_record (Nat.le_of_lt (Nat.lt_succ_self 3)) ?_)
  · cases decode <;> decide
  · exact hclass

theorem keepsMask_poisonError {o : Nat} {x : Option Tenant} : KeepsMask s (s.poisonError o x) := keepsMask_record (Nat.le_of_lt (Nat.lt_succ_self 3)) storeUnit_not_core

theorem keepsMask_blockExpanded {b : Nat} : KeepsMask s (s.blockExpanded r b) := by
  have hkeep {t : State} {bytes : List Byte} : KeepsMask t (t.keepBlock r b bytes) := Eq.refl _
  unfold State.blockExpanded
  split
  · exact Eq.refl _
  · dsimp only
    split
    · exact keepsMask_blockError
    · exact keepsMask_blockError
    · exact keepsMask_poisonError
    · refine KeepsMask.trans ?_ hkeep
      split
      · exact keepsMask_count (by decide)
      · exact (keepsMask_count (by decide)).trans (keepsMask_count (by decide))
      · exact (keepsMask_count (by decide)).trans (keepsMask_count (by decide))

theorem keepsMask_blockUse {g : Nat} : KeepsMask s (s.blockUse g) := by
  unfold State.blockUse
  split
  · split
    · exact Eq.refl _
    · exact keepsMask_blockExpanded
  · exact Eq.refl _

theorem keepsMask_touchPiece {who t dva : Nat} : KeepsMask s (s.touchPiece who t dva) := by
  unfold State.touchPiece
  split
  · split
    · exact KeepsMask.trans (t := State.touchGranule _ _) (Eq.refl _) keepsMask_blockUse
    · exact Eq.refl _
  · exact Eq.refl _

theorem keepsMask_xlatUse {who t dva : Nat} : KeepsMask s (s.xlatUse who t dva) := by
  unfold State.xlatUse
  split
  · exact Eq.refl _
  · split
    · exact Eq.refl _
    · exact (keepsMask_of_touches ((touches_walkLoad (Nat.and_self _)).2 .rfl)).trans (keepsMask_count (by decide))

theorem keepsMask_xlatRange {who t k dva len : Nat} : KeepsMask s (State.xlatRange who t k s dva len) := by
  induction k generalizing s dva len with
  | zero => exact Eq.refl _
  | succ k ih =>
    unfold State.xlatRange
    split
    · exact Eq.refl _
    · exact keepsMask_xlatUse.trans ih

/-- What an engine's read leaves leaves the mask. -/
theorem keepsMask_readUse {who t a len got : Nat} : KeepsMask s (s.readUse who t a len got) :=
  keepsMask_xlatRange.trans (keepsMask_each fun _ _ => keepsMask_touchPiece)

theorem bcastMask_of {d : Line} (h : KeepsMask s t) (hd : t.devNo = s.devNo) : t.bcastMask d = s.bcastMask d := by
  unfold State.bcastMask
  rw [show t.reg R.xltBcastMask = s.reg R.xltBcastMask from h, hd]

theorem devNo_readUse {who t a len got : Nat} : (s.readUse who t a len got).devNo = s.devNo :=
  devNo_of_touches ((touches_readUse (Nat.and_self _)).2 .rfl)

theorem devNo_setStage {x : Stage} : (s.setStage r p x).devNo = s.devNo := devNo_of_touches ((touches_setStage (Nat.and_self _)).2 .rfl)

theorem devNo_poolWrite : (s.poolWrite n bs).devNo = s.devNo := devNo_of_touches ((touches_poolWrite (Nat.and_self _)).2 .rfl)

theorem bcastMask_setStage {x : Stage} {d : Line} : (s.setStage r p x).bcastMask d = s.bcastMask d := bcastMask_of (Eq.refl _) devNo_setStage

theorem tenant_setStage {x : Stage} : ((s.setStage r p x).ring r).tenant = (s.ring r).tenant := by
  unfold State.setStage State.updRing
  rw [ring_setRing_same]
  rfl

/-! ## XINV descriptors that start (R246 to R249) -/

section
variable {act : State → Flight → State} (hm : s.mayStart r p .xinv = some f) (ho : dOpcode f.desc = op)
include hm ho

theorem xinv_fails {w : Nat} (hc : s.xinvCheck (s.ring r).tenant f.desc = some (off, w)) : s.xinv r p op act = s.finish r p (Cpl.bad off w) := by
  unfold State.xinv
  rw [hm]
  dsimp only
  rw [if_neg (by simp [ho]), hc]

theorem xinv_acts (hc : s.xinvCheck (s.ring r).tenant f.desc = none) : s.xinv r p op act = act (s.setStage r p .running) f := by
  unfold State.xinv
  rw [hm]
  dsimp only
  rw [if_neg (by simp [ho]), hc]

end

/-- The bytes of a PTWRITE are written here and sent to the other devices of its mask. -/
def State.writesTables (s : State) (r p off : Nat) (mask : Word) (others : List Nat) (bs : List Byte) : State :=
  (others.foldl (fun s d => s.sendMg (.ptwrite (BitVec.ofNat 6 d) (BitVec.ofNat 32 off) bs)) (s.putTables off bs)).await r p mask false []

/-- An INVAL or SETROOT here, and on the other devices of its mask. -/
def State.dropsTables (s : State) (r p : Nat) (t : Tenant) (mask : Word) (others : List Nat) (all : Bool) (a n : Nat) (root : Option (BitVec 32)) :
    State :=
  (others.foldl (fun s d => s.sendMg (.inval (BitVec.ofNat 6 d) t all (BitVec.ofNat 64 a) (BitVec.ofNat 64 n) root))
    (root.elim (s.dropXlat t all a n) fun o => (s.dropXlat t all a n).putRoot t.toNat o.toNat)).await r p mask true (s.accessesIn t all a n)

section
variable {d : Line} {e : Eng} {got : List PByte × Option (Nat × Refuse)} {src : List Byte} {read : State}
  (hm : s.mayStart r p .xinv = some f) (ho : dOpcode f.desc = 1) (hc : s.xinvCheck (s.ring r).tenant f.desc = none)
include hm ho hc

theorem ptwrite_host (hh : fld f.desc 224 2 = 1) : s.ptwrite r p src = (s.setStage r p .running).writesTables r p (dNum f.desc 24 4)
    (s.bcastMask f.desc) (maskList (maskDrop (s.bcastMask f.desc) s.devNo)) (slice src 0 (dNum f.desc 16 8)) := by
  unfold State.ptwrite
  rw [xinv_acts hm ho hc]
  dsimp only
  rw [if_neg (by simp [hh]), if_pos hh, if_pos hh]
  dsimp only
  rw [if_neg (by simp [List.any_map]), bcastMask_setStage]
  unfold State.putTables State.writesTables
  rw [devNo_poolWrite, devNo_setStage]
  simp only [List.map_map, Function.comp_def, List.map_id']
  rfl

variable (hh : fld f.desc 224 2 ≠ 1) (hd : d = f.desc) (he : e = (s.setStage r p .running).xinvEng r p)
include hh hd he

theorem ptwrite_asks (hn : (s.setStage r p .running).needs e (pieces (dNum d 16 8)) (dNum d 8 8) (dNum d 16 8) ≠ []) :
    s.ptwrite r p src = ((s.setStage r p .running).ask e ((s.setStage r p .running).needs e (pieces (dNum d 16 8)) (dNum d 8 8) (dNum d 16 8))).setStage
      r p .queued := by
  subst hd he
  unfold State.ptwrite
  rw [xinv_acts hm ho hc]
  exact if_pos ⟨hh, by simpa using hn⟩

variable (hn : (s.setStage r p .running).needs e (pieces (dNum d 16 8)) (dNum d 8 8) (dNum d 16 8) = [])
  (hg : got = (s.setStage r p .running).gather e (pieces (dNum d 16 8)) (dNum d 8 8) (dNum d 16 8))
  (hr : read = (s.setStage r p .running).readUse e.cache (s.ring r).tenant (dNum d 8 8) (dNum d 16 8) got.1.length)
include hn hg hr

/-- A PTWRITE that reads its source: what the read gives decides. -/
theorem ptwrite_reads : s.ptwrite r p src = got.2.elim
    (if got.1.any Prod.snd then (read.poisonedRead e.cache (s.ring r).tenant (dNum d 8 8) (dNum d 16 8)).finish r p (Cpl.of St.poisoned)
      else read.writesTables r p (dNum d 24 4) (s.bcastMask d) (maskList (maskDrop (s.bcastMask d) s.devNo)) (got.1.map Prod.fst))
    fun x => (read.noteRefusal (s.ring r).tenant false 0x3FF x.1 x.2).finish r p (x.2.cpl 8) := by
  have hmask : read.bcastMask d = s.bcastMask d := by
    rw [hr]
    exact (bcastMask_of keepsMask_readUse devNo_readUse).trans bcastMask_setStage
  have hdev : read.devNo = s.devNo := by
    rw [hr]
    exact devNo_readUse.trans devNo_setStage
  unfold State.ptwrite
  rw [xinv_acts hm ho hc]
  subst hd he
  dsimp only
  rw [tenant_setStage, hn, if_neg (by simp), if_neg hh, ← hg]
  obtain ⟨bytes, err⟩ := got
  dsimp only at hr ⊢
  rw [if_neg hh, ← hr]
  cases err with
  | some x => rfl
  | none =>
    dsimp only [Option.elim]
    split
    · rfl
    · rw [hmask]
      unfold State.putTables State.writesTables
      rw [devNo_poolWrite, hdev]
      rfl

end

theorem devNo_dropXlat {x : Tenant} {all : Bool} : (s.dropXlat x all a n).devNo = s.devNo :=
  devNo_of_touches ((touches_dropXlat (Nat.and_self _)).2 .rfl)

theorem devNo_putRoot {x : Nat} : (s.putRoot x n).devNo = s.devNo := devNo_of_touches ((touches_putRoot (Nat.and_self _)).2 .rfl)

theorem invalidate_drops {d : Line} {all : Bool} {root : Option Nat} (hroot : ∀ o ∈ root, o < 2 ^ 32) :
    (s.setStage r p .running).invalidate r p d all a n root = (s.setStage r p .running).dropsTables r p (BitVec.ofNat 4 (s.ring r).tenant)
      (s.bcastMask d) (maskList (maskDrop (s.bcastMask d) s.devNo)) all a n (root.map (BitVec.ofNat 32)) := by
  unfold State.invalidate
  dsimp only
  rw [tenant_setStage, bcastMask_setStage]
  cases root with
  | none =>
    dsimp only
    rw [devNo_dropXlat, devNo_setStage]
    rfl
  | some o =>
    have ho : (BitVec.ofNat 32 o).toNat = o := Nat.mod_eq_of_lt (hroot o rfl)
    unfold State.dropsTables
    dsimp only [Option.map, Option.elim]
    rw [devNo_putRoot, devNo_dropXlat, devNo_setStage, ho]
    rfl

theorem inval_drops (hm : s.mayStart r p .xinv = some f) (ho : dOpcode f.desc = 2) (hc : s.xinvCheck (s.ring r).tenant f.desc = none) :
    s.inval r p = (s.setStage r p .running).dropsTables r p (BitVec.ofNat 4 (s.ring r).tenant) (s.bcastMask f.desc)
      (maskList (maskDrop (s.bcastMask f.desc) s.devNo)) (dFlag f.desc 13) (dNum f.desc 8 8) (dNum f.desc 16 8) none :=
  (xinv_acts hm ho hc).trans (invalidate_drops fun _ h => nomatch h)

theorem setroot_drops (hm : s.mayStart r p .xinv = some f) (ho : dOpcode f.desc = 3) (hc : s.xinvCheck (s.ring r).tenant f.desc = none) :
    s.setroot r p = (s.setStage r p .running).dropsTables r p (BitVec.ofNat 4 (s.ring r).tenant) (s.bcastMask f.desc)
      (maskList (maskDrop (s.bcastMask f.desc) s.devNo)) true 0 0 (some (BitVec.ofNat 32 (dNum f.desc 24 4))) :=
  (xinv_acts hm ho hc).trans (invalidate_drops fun o h => by
    cases h
    exact Nat.mod_lt _ (by decide))

/-! ## What an invalidation drops (R248, R250) -/

/-- Is an entry of a translation cache dropped? -/
def TlbEntry.gone (e : TlbEntry) (t : Tenant) (all : Bool) (a n : Nat) : Bool :=
  e.tenant == t && (all || rangesMeet a n (e.page * 2 ^ e.bits) (2 ^ e.bits))

section
variable {x : Tenant} {all : Bool} {e : TlbEntry}

theorem gone_iff : TlbEntry.gone e x all a n = true ↔ e.tenant = x ∧ (all = true ∨ rangesMeet a n (e.page * 2 ^ e.bits) (2 ^ e.bits) = true) := by
  unfold TlbEntry.gone
  simp

theorem mem_dropXlat : e ∈ (s.dropXlat x all a n).tlb ↔ e ∈ s.tlb ∧ TlbEntry.gone e x all a n = false := by
  rw [← Bool.not_eq_true, Bool.not_eq_true, ← Bool.not_eq_true']
  exact List.mem_filter

theorem rot_dropXlat_idle (h : s.rot.phase = .idle) : (s.dropXlat x all a n).rot = s.rot := by
  show ({ s.rot with forced := if s.rot.phase = .idle then s.rot.forced else _ } : Rot) = s.rot
  rw [if_pos h]

theorem forced_dropXlat (h : s.rot.phase ≠ .idle) (he : e ∈ s.tlb) (hg : TlbEntry.gone e x all a n = true) (hc : e.cache < 32) :
    (e.cache, e.tenant, e.page, e.bits) ∈ (s.dropXlat x all a n).rot.forced := by
  show _ ∈ (if s.rot.phase = .idle then s.rot.forced else s.rot.forced ++ _)
  rw [if_neg h]
  exact List.mem_append_right _ (List.mem_map.2 ⟨e, List.mem_filter.2 ⟨he, by simpa [hc] using gone_iff.1 hg⟩, rfl⟩)

theorem invalidationsDrop (s : State) (x : Tenant) (all : Bool) (a n : Nat) : let u := s.dropXlat x all a n
    (∀ e ∈ s.tlb, e ∈ u.tlb ∨ (e.tenant = x ∧ (all = true ∨ rangesMeet a n (e.page * 2 ^ e.bits) (2 ^ e.bits) = true))) ∧
    (∀ e ∈ u.tlb, e ∈ s.tlb ∧ (e.tenant = x → all = false ∧ rangesMeet a n (e.page * 2 ^ e.bits) (2 ^ e.bits) = false)) ∧
    (s.rot.phase = .idle → u.rot = s.rot) ∧
    (s.rot.phase ≠ .idle → ∀ e ∈ s.tlb, e ∉ u.tlb → e.cache < 32 → (e.cache, e.tenant, e.page, e.bits) ∈ u.rot.forced) ∧
    KeepsBut [.tlb, .walkCache, .walks, .rot] s u := by
  refine ⟨fun e he => ?_, fun e he => ?_, rot_dropXlat_idle, fun hp e he hne hc => ?_, ((touches_dropXlat (Nat.and_self _)).2 .rfl : Touches _ s _).keeps _ (by decide)⟩
  · cases hg : TlbEntry.gone e x all a n with
    | false => exact .inl (mem_dropXlat.2 ⟨he, hg⟩)
    | true => exact .inr (gone_iff.1 hg)
  · obtain ⟨hmem, hg⟩ := mem_dropXlat.1 he
    refine ⟨hmem, fun ht => ?_⟩
    simpa [TlbEntry.gone, ht] using hg
  · refine forced_dropXlat hp he ?_ hc
    cases hg : TlbEntry.gone e x all a n with
    | false => exact absurd (mem_dropXlat.2 ⟨he, hg⟩) hne
    | true => rfl

end

/-! ## An operation that concerns this device alone (R249) -/

theorem maskDrop_maskAdd_zero : maskDrop (maskAdd 0 n) n = 0 := by simp [maskDrop, maskAdd]

theorem bcastsEnd_one {b : Bcast} (hw : b.waiting = 0) (ha : b.accesses = []) :
    State.bcastsEnd { s with bcasts := [b] } = State.bcastDone { s with bcasts := [] } b := by
  unfold State.bcastsEnd
  simp [dropIf, hw, ha, State.each]

/-- An operation that no other device and no access holds up. -/
def aloneBcast (r p dev : Nat) (counts : Bool) : Bcast :=
  { ring := BitVec.ofNat 12 r, pos := BitVec.ofNat 32 p, quiet := false, sender := none, waiting := 0, confirmed := maskAdd 0 dev, missed := false
    counts, accesses := [] }

theorem await_alone {counts : Bool} (h : s.bcasts = []) : s.await r p (maskAdd 0 s.devNo) counts [] =
    (if counts then s.count R.xltToken else s).finish (BitVec.ofNat 12 r).toNat (BitVec.ofNat 32 p).toNat
      { Cpl.of St.done with result0 := (if counts then s.count R.xltToken else s).reg R.xltToken, result1 := maskAdd 0 s.devNo } := by
  have hawait : s.await r p (maskAdd 0 s.devNo) counts [] = State.bcastsEnd { s with bcasts := s.bcasts ++ [aloneBcast r p s.devNo counts] } := by
    unfold State.await
    dsimp only
    rw [maskDrop_maskAdd_zero, maskList_zero]
    rfl
  have hs : ({ s with bcasts := [] } : State) = s := by rw [← h]
  rw [hawait, h, List.nil_append, bcastsEnd_one (b := aloneBcast r p s.devNo counts) rfl rfl, hs]
  unfold State.bcastDone
  cases counts <;> rfl

/-- XINV descriptors, by opcode and by what PTWRITE's source gives; an invalidation's drops; and an operation of this device alone. -/
theorem xinvDescriptorsRun : Claims.XinvDescriptorsRun := by
  refine ⟨fun s ring pos f hm => ?_, invalidationsDrop, fun s r p counts h => await_alone h⟩
  intro r p d t n a off mask others u e needs got read write drops
  have hread {src : List Byte} (ho : dOpcode d = 1) (hc : s.xinvCheck t d = none) (hh : fld d 224 2 ≠ 1) (hn : needs = []) :=
    ptwrite_reads (src := src) hm ho hc hh rfl rfl hn rfl rfl
  refine ⟨fun o w hc => ⟨fun ho src => ?_, fun ho => next_congr (xinv_fails hm ho hc), fun ho => next_congr (xinv_fails hm ho hc)⟩,
    fun hc => ⟨fun src ho => ⟨fun hh => ?_, fun hh hn => ?_, fun dva why hh hn hg => ?_, fun hh hn hg hp => ?_, fun hh hn hg hp => ?_⟩,
      fun ho => next_congr (inval_drops hm ho hc), fun ho => next_congr (setroot_drops hm ho hc)⟩⟩
  · exact next_congr (congrArg State.runNet (xinv_fails hm ho hc))
  · exact next_congr (congrArg State.runNet (ptwrite_host hm ho hc hh))
  · exact next_congr (congrArg State.runNet (ptwrite_asks hm ho hc hh rfl rfl hn))
  · refine next_congr (congrArg State.runNet ((hread ho hc hh hn).trans ?_))
    rw [show got.2 = some (dva, why) from hg]
    rfl
  · refine next_congr (congrArg State.runNet ((hread ho hc hh hn).trans ?_))
    rw [show got.2 = none from hg]
    exact if_pos hp
  · refine next_congr (congrArg State.runNet ((hread ho hc hh hn).trans ?_))
    rw [show got.2 = none from hg]
    exact if_neg (by rw [show got.1.any Prod.snd = false from hp]; decide)

end Sys2Proof.Machine
end

section
/-! PROOF. Broadcasts at the other ends, walks, and the engines' caches (R235, R239 to R241, R247 to R249, R251). -/

namespace Sys2Proof.Machine

variable {s t u : State} {k n a dva level table who off : Nat} {w : Walk}

/-! ## Forwarded operations and their confirmations (R247 to R249, R251) -/

theorem message_on {c : Held} {act : State → State} (h : s.pwr.state = .on) (hf : s.ras.fog = false) :
    s.message c act = (act s).missesGo.runNet.itemsEnd := by
  unfold State.message
  rw [whenAwake_on h]
  exact if_neg (by simp [hf])

theorem invalForwarded_drops {d : Dev} {x : Tenant} {all : Bool} {root : Option (BitVec 32)} : s.invalForwarded d x all a n root =
    let w := root.elim (s.dropXlat x all a n) fun o => (s.dropXlat x all a n).putRoot x.toNat o.toNat
    State.bcastsEnd { w with bcasts := w.bcasts ++ [{ ring := 0, pos := 0, quiet := false, sender := some d, waiting := 0, confirmed := 0, missed := false,
                                                      counts := true, accesses := s.accessesIn x all a n }] } := by
  cases root <;> rfl

/-- Each command of the other ends is served and what it leads to done. -/
theorem otherEndsConfirm (s : State) (hon : s.pwr.state = .on) (hf : s.ras.fog = false) (dev : Dev) (off : BitVec 32) (bytes : List Byte) (tenant : Tenant)
    (all : Bool) (addr len : Word) (root : Option (BitVec 32)) (ring : RingId) :
    (s.mgQueue.length < 256 → exec (.ptwriteBroadcast dev off bytes) s =
      .next ((s.poolWrite (ptArea + off.toNat) bytes).sendMg (.invalConfirm dev)).missesGo.runNet.itemsEnd) ∧
    (s.mgQueue.length < 256 → exec (.invalForward dev tenant all addr len root) s =
      .next (s.invalForwarded dev tenant all addr.toNat len.toNat root).missesGo.runNet.itemsEnd) ∧
    exec (.invalConfirm ring dev) s = .next ((s.mgAnswered (tableOut dev)).confirmed ring.toNat dev.toNat).missesGo.runNet.itemsEnd := by
  have hserve {c : Held} {act : State → State} (hq : s.mgQueue.length < 256) :
      s.message c (fun s => s.mgServe dev act) = (act s).missesGo.runNet.itemsEnd := by
    rw [message_on hon hf, mgServe_room hq]
  exact ⟨fun hq => next_congr (hserve hq), fun hq => next_congr (hserve hq), next_congr (message_on hon hf)⟩

/-! ## Walks (R239, R240, R248) -/

theorem leafXlat_count_other {x lv : Nat} {e : Word} (hk : k < R.xltKey 0) : (s.count k n).leafXlat x dva lv e = s.leafXlat x dva lv e := by
  have hreg : (s.count k n).reg (R.xltKey (16 * x + fld e 4 4)) = s.reg (R.xltKey (16 * x + fld e 4 4)) :=
    reg_setReg_other (by unfold R.xltKey at hk ⊢; omega)
  unfold State.leafXlat
  rw [hreg]

/-- The pointer entry that a walk's read finds, as it is kept. -/
def State.walkPtr (s : State) (w : Walk) (next : Nat) : WalkEntry :=
  { die := s.dieOfGallery w.gallery, tenant := w.tenant, level := w.level - 1, path := pathAbove w.dva.toNat (w.level - 1), table := next }

/-- A walk has ended. -/
def State.walkEnds (s : State) (k : Nat) : State := { s with walks := ldel s.walks k }

/-- A walk that an invalidation overtook begins anew. -/
def State.walkAnew (s : State) (w : Walk) : State :=
  match s.startWalk w.gallery w.tenant w.dva.toNat w.prefetch with
  | .ok u => u.runNet
  | .error (r, l) => ((s.walkFault w r l).translateAll).runNet

theorem walkAnew_ok (h : s.startWalk w.gallery w.tenant w.dva.toNat w.prefetch = .ok u) : s.walkAnew w = u.runNet := by
  unfold State.walkAnew
  rw [h]

theorem walkAnew_error {r l : Nat} (h : s.startWalk w.gallery w.tenant w.dva.toNat w.prefetch = .error (r, l)) :
    s.walkAnew w = ((s.walkFault w r l).translateAll).runNet := by
  unfold State.walkAnew
  rw [h]

section
variable {e : Word} (hw : lget s.walks k = some w) (hf : s.fenced 8 (s.dieOfGallery w.gallery) = false)
  (he : e = s.ptEntry w.table w.dva.toNat w.level)
include hw hf he

theorem walkRead_pointer (hv : bit e 0 = true) (hb : entryFault (s.ptBase w.tenant.toNat) (s.ptSize w.tenant.toNat) w.level e = none)
    (hl : isLeaf w.level e = false) (hu : u = if w.stale w.level then s else s.walkKeep (s.walkPtr w (fld e 8 24 * 256))) :
    s.walkRead k = { u with walks := lput s.walks k { w with level := w.level - 1, table := fld e 8 24 * 256 } } := by
  subst he
  have hwalks : u.walks = s.walks := by
    rw [hu]
    split
    · rfl
    · exact (((touches_walkKeep (Nat.and_self _)).2 .rfl : Touches _ s _) .walks (by decide)).symm
  unfold State.walkRead
  rw [hw]
  dsimp only
  rw [if_neg (by simp [hf]), if_pos (by simp [hv, hb, hl])]
  unfold State.walkPtr at hu
  rw [← hu, hwalks]

/-- The read of a walk that goes no further down. -/
theorem walkRead_ends {fault : Option Nat} (hfault : fault = if !bit e 0 then some 1 else entryFault (s.ptBase w.tenant.toNat) (s.ptSize w.tenant.toNat) w.level e)
    (hend : fault.isSome = true ∨ isLeaf w.level e = true) : s.walkRead k =
    if w.stale w.level then ((s.walkEnds k).count R.xltRewalkTotal).walkAnew w
    else (State.translateAll (fault.elim
      ((if w.prefetch && (((s.walkEnds k).count R.xltWalkTotal).tlbFind w.gallery w.tenant w.dva.toNat).isNone then
        ((s.walkEnds k).count R.xltWalkTotal).count R.xltPrefetchTotal else (s.walkEnds k).count R.xltWalkTotal).tlbLoad w.gallery w.tenant
          (s.leafXlat w.tenant.toNat w.dva.toNat w.level e) w.dva.toNat)
      fun r => ((s.walkEnds k).count R.xltWalkTotal).walkFault w r w.level)).runNet := by
  have hgo : ¬(fault.isNone = true ∧ (!isLeaf w.level e) = true) := fun ⟨h1, h2⟩ => by
    rcases hend with h | h
    · rw [Option.isSome_iff_ne_none] at h
      exact h (Option.isNone_iff_eq_none.1 h1)
    · rw [h] at h2
      exact absurd h2 (by decide)
  have hleaf : ∀ v : State, v = (if w.prefetch && (((s.walkEnds k).count R.xltWalkTotal).tlbFind w.gallery w.tenant w.dva.toNat).isNone then
      ((s.walkEnds k).count R.xltWalkTotal).count R.xltPrefetchTotal else (s.walkEnds k).count R.xltWalkTotal) →
      v.leafXlat w.tenant.toNat w.dva.toNat w.level e = s.leafXlat w.tenant.toNat w.dva.toNat w.level e := by
    rintro v rfl
    split
    · exact (leafXlat_count_other (by decide)).trans (leafXlat_count_other (s := s.walkEnds k) (by decide))
    · exact leafXlat_count_other (s := s.walkEnds k) (by decide)
  subst he
  unfold State.walkRead
  rw [hw]
  dsimp only
  rw [if_neg (by simp [hf]), ← hfault, if_neg hgo, show ({ s with walks := ldel s.walks k } : State) = s.walkEnds k from rfl]
  generalize s.walkEnds k = v at hleaf ⊢
  split
  · unfold State.walkAnew
    rfl
  · cases fault with
    | some r => rfl
    | none =>
      dsimp only [Option.elim]
      rw [← hleaf _ rfl]

end

theorem walksRead (s : State) (walk : BitVec 7) (w : Walk) (hw : lget s.walks walk.toNat = some w) (hf : s.fenced 8 (s.dieOfGallery w.gallery) = false) :
    let k := walk.toNat
    let t := w.tenant.toNat
    let a := w.dva.toNat
    let e := s.ptEntry w.table a w.level
    let bad := entryFault (s.ptBase t) (s.ptSize t) w.level e
    let ended := s.walkEnds k
    (w.stale w.level = false →
      let u := ended.count R.xltWalkTotal
      (bit e 0 = false → exec (.walkEntryRead walk) s = .next ((u.walkFault w 1 w.level).translateAll).runNet) ∧
      (∀ r, bit e 0 = true → bad = some r → exec (.walkEntryRead walk) s = .next ((u.walkFault w r w.level).translateAll).runNet) ∧
      (bit e 0 = true → bad = none → isLeaf w.level e = true → exec (.walkEntryRead walk) s =
        .next ((((if w.prefetch && (u.tlbFind w.gallery w.tenant a).isNone then u.count R.xltPrefetchTotal else u).tlbLoad w.gallery w.tenant
          (s.leafXlat t a w.level e) a).translateAll).runNet))) ∧
    (w.stale w.level = true → bit e 0 = false ∨ bad ≠ none ∨ isLeaf w.level e = true →
      exec (.walkEntryRead walk) s = .next ((ended.count R.xltRewalkTotal).walkAnew w)) := by
  intro k t a e bad ended
  have hends (fault : Option Nat) (h : fault = if !bit e 0 then some 1 else bad) (hend : fault.isSome = true ∨ isLeaf w.level e = true) :=
    walkRead_ends hw hf rfl h hend
  refine ⟨fun hs => ⟨fun hv => ?_, fun r hv hb => ?_, fun hv hb hl => ?_⟩, fun hs hend => ?_⟩
  · exact next_congr ((hends (some 1) (by simp [hv]) (.inl rfl)).trans (if_neg (by simp [hs])))
  · exact next_congr ((hends (some r) (by simp [hv, hb]) (.inl rfl)).trans (if_neg (by simp [hs])))
  · exact next_congr ((hends none (by simp [hv, hb]) (.inr hl)).trans (if_neg (by simp [hs])))
  · refine next_congr ((hends _ rfl ?_).trans (if_pos hs))
    rcases hend with hv | hb | hl
    · exact .inl (by simp [hv])
    · left
      split
      · rfl
      · exact Option.isSome_iff_ne_none.2 hb
    · exact .inr hl

/-! ## What an engine's next use loads (R239 to R241) -/

/-- A walk reads the pool and the registers alone. -/
structure WalksAlike (s t : State) : Prop where
  pool : t.pool = s.pool
  regs : t.regs = s.regs
  dev : t.devNo = s.devNo

section
variable {write : Bool} {x : Xlat}

theorem leafFault_of_devNo (h : t.devNo = s.devNo) : t.leafFault x write = s.leafFault x write := by
  unfold State.leafFault
  rw [h]

theorem walkFrom_alike (h : WalksAlike s t) : t.walkFrom n dva write level table = s.walkFrom n dva write level table := by
  have hentry {b l : Nat} : t.ptEntry b dva l = s.ptEntry b dva l := by unfold State.ptEntry State.rawByte; rw [h.pool]
  have hreg {o : Nat} : t.reg o = s.reg o := reg_of_regs h.regs
  have hleaf {l : Nat} {e : Word} : t.leafXlat n dva l e = s.leafXlat n dva l e := by unfold State.leafXlat; rw [hreg]
  have hfault {x : Xlat} : t.leafFault x write = s.leafFault x write := leafFault_of_devNo h.dev
  induction level generalizing table with
  | zero =>
    unfold State.walkFrom
    simp only [hentry, hreg, hleaf, hfault]
  | succ l ih =>
    unfold State.walkFrom
    simp only [hentry, hreg, hleaf, hfault, ih]

theorem walkKeep_alike {e : WalkEntry} : WalksAlike s (s.walkKeep e) :=
  have h : Touches _ s (s.walkKeep e) := (touches_walkKeep (Nat.and_self _)).2 .rfl
  ⟨(h .pool (by decide)).symm, (h .regs (by decide)).symm, devNo_of_touches h⟩

theorem tlb_walkKeep {e : WalkEntry} : (s.walkKeep e).tlb = s.tlb :=
  (((touches_walkKeep (Nat.and_self _)).2 .rfl : Touches _ s (s.walkKeep e)) .tlb (by decide)).symm

theorem tlbFind_of_tlb {x : Tenant} (h : t.tlb = s.tlb) : t.tlbFind who x dva = s.tlbFind who x dva := by
  unfold State.tlbFind
  rw [h]

/-- Room in a cache is made by entries that go. -/
theorem tlbRoom_sub : (s.tlbRoom who).tlb.Sublist s.tlb := by
  unfold State.tlbRoom
  dsimp only
  split
  · exact .refl _
  · split
    · split
      · exact List.filter_sublist
      · exact .refl _
    · split
      · exact List.filter_sublist
      · exact .refl _

/-- A leaf that is loaded translates its page as it was read. -/
theorem tlbLoad_find {lv : Nat} {e : Word} (hn : s.tlbFind who (BitVec.ofNat 4 n) dva = none) (hx : x = s.leafXlat n dva lv e) :
    ∃ y, (s.tlbLoad who (BitVec.ofNat 4 n) x dva).tlbFind who (BitVec.ofNat 4 n) dva = some y ∧ y.xlat dva = x := by
  have hroom : (s.tlbRoom who).tlb.find? (fun e => e.has who (BitVec.ofNat 4 n) dva) = none := by
    rw [List.find?_eq_none]
    exact fun y hy => List.find?_eq_none.1 hn y (tlbRoom_sub.subset hy)
  unfold State.tlbLoad
  rw [if_neg (by simp [hn])]
  dsimp only
  unfold State.tlbFind
  dsimp only
  rw [List.find?_append, hroom, Option.none_or]
  refine ⟨_, List.find?_cons_of_pos (by simp [TlbEntry.has]), ?_⟩
  subst hx
  unfold TlbEntry.xlat State.leafXlat
  dsimp only
  cases bit e 3 <;> rfl

section
variable {e : Word} (he : e = s.ptEntry table dva level)
include he

/-- A walk without a fault read a valid entry, a leaf or a pointer that leads on. -/
theorem walkFrom_ok (h : s.walkFrom n dva write level table = .ok x) :
    bit e 0 = true ∧ entryFault (s.reg (R.xltPtBase n)).toNat (s.reg (R.xltPtSize n)).toNat level e = none ∧
      ((isLeaf level e = true ∧ x = s.leafXlat n dva level e ∧ s.leafFault x write = none) ∨
        (isLeaf level e = false ∧ ∃ l, level = l + 1 ∧ s.walkFrom n dva write l (fld e 8 24 * 256) = .ok x)) := by
  subst he
  unfold State.walkFrom at h
  dsimp only at h
  split at h
  · cases h
  next hv =>
  split at h
  · cases h
  next hb =>
  refine ⟨by simpa using hv, hb, ?_⟩
  split at h
  next hl =>
    split at h
    · cases h
    next hfault =>
    cases h
    exact .inl ⟨hl, rfl, hfault⟩
  next hl =>
    cases level with
    | zero => cases h
    | succ l => exact .inr ⟨by simpa using hl, l, rfl, h⟩

variable (hv : bit e 0 = true) (hb : entryFault (s.reg (R.xltPtBase n)).toNat (s.reg (R.xltPtSize n)).toNat level e = none)
include hv hb

theorem walkLoad_leaf (hl : isLeaf level e = true) :
    State.walkLoad who n dva level table s = s.tlbLoad who (BitVec.ofNat 4 n) (s.leafXlat n dva level e) dva := by
  subst he
  unfold State.walkLoad
  dsimp only
  rw [if_neg (by simp [hv, hb]), if_pos hl]

theorem walkLoad_pointer {l : Nat} (hl : isLeaf level e = false) (hlevel : level = l + 1) : ∃ p : WalkEntry,
    State.walkLoad who n dva level table s = State.walkLoad who n dva l (fld e 8 24 * 256) (s.walkKeep p) := by
  subst he hlevel
  refine ⟨{ die := s.cacheDie who, tenant := BitVec.ofNat 4 n, level := l, path := pathAbove dva l, table := fld (s.ptEntry table dva (l + 1)) 8 24 * 256 }, ?_⟩
  rw [State.walkLoad]
  dsimp only
  rw [if_neg (by simp [hv, hb]), if_neg (by simp [hl])]

end

/-- A walk that finds its leaf without a fault loads it. -/
theorem walkLoad_finds (h : s.walkFrom n dva false level table = .ok x) (hn : s.tlbFind who (BitVec.ofNat 4 n) dva = none) :
    (∃ y, (State.walkLoad who n dva level table s).tlbFind who (BitVec.ofNat 4 n) dva = some y ∧ y.xlat dva = x) ∧
      x.key = BitVec.ofNat 24 (fld (s.reg (R.xltKey (16 * n + fld x.leaf 4 4))) 0 24) ∧ s.leafFault x false = none := by
  induction level generalizing s table with
  | zero =>
    obtain ⟨hv, hb, ⟨hl, hx, hfault⟩ | ⟨-, l, hlevel, -⟩⟩ := walkFrom_ok rfl h
    · rw [walkLoad_leaf rfl hv hb hl, ← hx]
      exact ⟨tlbLoad_find hn hx, by rw [hx]; rfl, hfault⟩
    · cases hlevel
  | succ l ih =>
    obtain ⟨hv, hb, ⟨hl, hx, hfault⟩ | ⟨hl, k, hlevel, hgo⟩⟩ := walkFrom_ok rfl h
    · rw [walkLoad_leaf rfl hv hb hl, ← hx]
      exact ⟨tlbLoad_find hn hx, by rw [hx]; rfl, hfault⟩
    · cases hlevel
      obtain ⟨p, hp⟩ := walkLoad_pointer (who := who) rfl hv hb hl rfl
      have halike : WalksAlike s (s.walkKeep p) := walkKeep_alike
      obtain ⟨hy, hkey, hfault⟩ := ih ((walkFrom_alike halike).trans hgo) ((tlbFind_of_tlb tlb_walkKeep).trans hn)
      rw [hp]
      rw [reg_of_regs halike.regs] at hkey
      rw [leafFault_of_devNo halike.dev] at hfault
      exact ⟨hy, hkey, hfault⟩

/-- What an engine's cache has translated stays so, whatever a register takes. -/
theorem translate_kept {y : TlbEntry} (hd : dva < 2 ^ 57) (hy : s.tlbFind who (BitVec.ofNat 4 n) dva = some y) (hx : y.xlat dva = x)
    (hf : s.leafFault x false = none) : s.translate who n dva false = .ok x := by
  unfold State.translate
  rw [if_neg (by omega), hy]
  dsimp only
  rw [hx, hf]

/-- An engine's use of a page its cache does not hold loads it as a walk reads it. -/
theorem xlatUse_loads (hn : s.tlbFind who (BitVec.ofNat 4 n) dva = none) (h : s.translate who n dva false = .ok x) :
    x.key = BitVec.ofNat 24 (fld (s.reg (R.xltKey (16 * n + fld x.leaf 4 4))) 0 24) ∧
      ∀ slot key, ((s.xlatUse who n dva).setReg (R.xltKey slot) key).translate who n dva false = .ok x := by
  unfold State.translate at h
  split at h
  · cases h
  next hd =>
  rw [hn] at h
  dsimp only at h
  split at h
  · cases h
  next l b hstart =>
  obtain ⟨⟨y, hy, hyx⟩, hkey, hfault⟩ := walkLoad_finds h hn
  refine ⟨hkey, fun slot key => ?_⟩
  have huse : s.xlatUse who n dva = (State.walkLoad who n dva l b s).count R.xltWalkTotal := by
    unfold State.xlatUse
    rw [hn]
    dsimp only
    rw [hstart]
  have hdev : (State.walkLoad who n dva l b s).devNo = s.devNo := devNo_of_touches ((touches_walkLoad (Nat.and_self _)).2 .rfl)
  rw [huse]
  exact translate_kept (by omega) ((tlbFind_of_tlb rfl).trans hy) hyx ((leafFault_of_devNo hdev).trans hfault)

end

theorem invalidationsAndWalks : Claims.InvalidationsAndWalks := by
  refine ⟨fun s hon hf dev off bytes tenant all addr len root ring => ?_, fun s walk w hw hf => ?_, fun s who t dva x ht hn h => xlatUse_loads hn h⟩
  · intro answered
    obtain ⟨hwrite, hdrop, hconfirm⟩ := otherEndsConfirm s hon hf dev off bytes tenant all addr len root ring
    refine ⟨hwrite, fun hq => (hdrop hq).trans (next_congr ?_), ⟨hconfirm, next_congr rfl⟩⟩
    rw [invalForwarded_drops]
    cases root <;> rfl
  · intro k t a e bad ended
    obtain ⟨hends, hanew⟩ := walksRead s walk w hw hf
    refine ⟨fun hv hb hl => ?_, hends, fun hs hend => ⟨fun v hv => ?_, fun r l hr => ?_⟩⟩
    · exact next_congr (walkRead_pointer hw hf rfl hv hb hl rfl)
    · exact (hanew hs hend).trans (next_congr (walkAnew_ok hv))
    · exact (hanew hs hend).trans (next_congr (walkAnew_error hr))

/-- Settles O33: XINV descriptors here and at the other ends, the walks, and that what an engine loads stays as the walk read it. -/
theorem translationIsKeptCoherent : Obligations.TranslationIsKeptCoherent := ⟨xinvDescriptorsRun, invalidationsAndWalks⟩

end Sys2Proof.Machine
end

section
/-! PROOF. Weight regions become VALID, and their blocks expand (R252, R260 to R267, R325, R342, R384). -/

namespace Sys2Proof.Machine

variable {s t u : State} {port r b n o : Nat} {value : BitVec 32}

/-! ## GLS_REGION_CTRL (R261, R266, R384) -/

theorem regionWrite_runs {act : State → State} (ho : s.openTo port) (hc : s.controls port (s.regionTenant r) = true)
    (ht : s.controls port (fld value 1 4) = true) : s.regionWrite port r value act = act s := by
  unfold State.regionWrite
  rw [setupWrite_open ho fun t h => by cases h; exact hc]
  exact if_neg (by simp [ht])

theorem regionWrite_foreign {act : State → State} (ho : s.openTo port) (hc : s.controls port (s.regionTenant r) = true)
    (ht : s.controls port (fld value 1 4) = false) : s.regionWrite port r value act = s.setupError port (R.glsRegionCtrl r) 6 := by
  unfold State.regionWrite
  rw [setupWrite_open ho fun t h => by cases h; exact hc]
  exact if_pos (by simp [ht])

/-- A region that is VALID or PENDING keeps its TENANT and KEY. -/
theorem regionSet_held (h : s.regionValid r = true ∨ s.regionPending r = true) : s.regionSet port r value =
    if fld value 1 4 ≠ s.regionTenant r ∨ fld value 5 4 ≠ s.regionKey r then s.setupError port (R.glsRegionCtrl r) 5 else s := if_pos h

/-- Any other is PENDING where nothing is wrong with it, and else has its reason. -/
theorem regionSet_new (h : ¬(s.regionValid r = true ∨ s.regionPending r = true)) : s.regionSet port r value =
    let res := s.regionResult r (fld value 1 4) (fld value 5 4)
    let u := s.setReg (R.glsRegionCtrl r) (BitVec.ofNat 64 (fld value 1 4 * 2 + fld value 5 4 * 32 + (if res = 0 then 512 else 0) + res * 1024))
    if res = 0 then u.dropCached r else u := if_neg h

/-- A register of a region with neither VALID nor PENDING. -/
theorem pending_of_ctrl {ten key : Nat} (h : s.reg (R.glsRegionCtrl r) = BitVec.ofNat 64 (ten * 2 + key * 32)) (ht : ten < 16) (hk : key < 16) :
    s.regionPending r = false := by
  have hbit : bit (BitVec.ofNat 64 (ten * 2 + key * 32)) 9 = false := by
    simp [bit]
    omega
  unfold State.regionPending
  rw [h]
  exact hbit

theorem blocks_regionClear {ten key : Nat} : (s.regionClear r ten key).blocks = dropIf (fun (k : KeptBlock) => k.region == r) s.blocks := by
  unfold State.regionClear
  dsimp only
  split <;> rfl

theorem measRegion_regionClear {ten key : Nat} : tget (fun _ => 0) (s.regionClear r ten key).keeper.measRegion r = 0 := by
  have hkeeper : (s.regionClear r ten key).keeper.measRegion = tput (fun _ => 0) s.keeper.measRegion r 0 := by
    unfold State.regionClear
    dsimp only
    split <;> rfl
  rw [hkeeper]
  exact tget_tput_same _

theorem regionClear_forgets {ten key : Nat} (ht : ten < 16) (hk : key < 16) : let u := s.regionClear r ten key
    u.reg (R.glsRegionCtrl r) = BitVec.ofNat 64 (ten * 2 + key * 32) ∧ u.regionValid r = false ∧ u.regionPending r = false ∧
      (∀ b ∈ u.blocks, b.region ≠ r) ∧ tget (fun _ => 0) u.keeper.measRegion r = 0 ∧
      u.reg R.kprMgen = s.reg R.kprMgen + (if s.regionValid r then 1 else 0) ∧ KeepsBut [.regs, .blocks, .keeper] s u := by
  intro u
  have hctrl : u.reg (R.glsRegionCtrl r) = BitVec.ofNat 64 (ten * 2 + key * 32) := ctrl_regionClear.trans (if_pos rfl)
  refine ⟨hctrl, regionValid_regionClear.trans (if_pos rfl), pending_of_ctrl hctrl ht hk, fun b hb => ?_, measRegion_regionClear, ?_,
    ((touches_regionClear (Nat.and_self _)).2 .rfl : Touches _ s _).keeps _ (by decide)⟩
  · rw [blocks_regionClear] at hb
    simpa using (List.mem_filter.1 hb).2
  · rw [mgen_regionClear]
    split <;> rfl

/-! ## The Keeper's measurement (R325) -/

theorem regionReady_measures (h : s.regionPending r = true) : let u := s.regionReady r
    u.reg (R.glsRegionCtrl r) = BitVec.ofNat 64 (1 + s.regionTenant r * 2 + s.regionKey r * 32) ∧
      tget (fun _ => 0) u.keeper.measRegion r = Config.sha384 (s.regionBytes r) ∧
      u.reg R.kprMgen = s.reg R.kprMgen + 1 ∧ KeepsBut [.regs, .keeper] s u := by
  obtain ⟨v, hv, hregs, hmeas⟩ : ∃ v : State, s.regionReady r = v.advanceMgen ∧
      v.regs = (s.setReg (R.glsRegionCtrl r) (BitVec.ofNat 64 (1 + s.regionTenant r * 2 + s.regionKey r * 32))).regs ∧
      v.keeper.measRegion = tput (fun _ => 0) s.keeper.measRegion r (Config.sha384 (s.regionBytes r)) := ⟨_, if_pos h, rfl, rfl⟩
  intro u
  have hu : u = v.advanceMgen := hv
  refine ⟨?_, ?_, ?_, ((touches_regionReady (Nat.and_self _)).2 .rfl : Touches _ s _).keeps _ (by decide)⟩
  · rw [hu]
    exact (reg_setReg_other glsRegionCtrl_ne_kprMgen).trans ((reg_of_regs hregs).trans reg_setReg_same)
  · rw [hu]
    show tget _ v.keeper.measRegion r = _
    rw [hmeas]
    exact tget_tput_same _
  · rw [hu]
    refine reg_setReg_same.trans ?_
    rw [reg_of_regs hregs, reg_setReg_other glsRegionCtrl_ne_kprMgen.symm]

/-! ## The galleries' copies of a region (R263; log entry 207) -/

/-- Is a line, by its address, one of a region? -/
def State.inRegion (s : State) (r k : Nat) : Prop :=
  k % 2 ^ 50 / 2 ^ 44 = s.devNo ∧ s.regionBase r / 64 ≤ k % 2 ^ 44 ∧ k % 2 ^ 44 < (s.regionBase r + s.regionSize r) / 64

section
variable {α : Type} {l : List (Nat × α)} {e : Nat × α}

/-- The lines of a list that are not a region's. -/
def State.outside (s : State) (r : Nat) (l : List (Nat × α)) : List (Nat × α) :=
  dropIf (fun e => decide (e.1 % 2 ^ 50 / 2 ^ 44 = s.devNo) &&
    decide (s.regionBase r / 64 ≤ e.1 % 2 ^ 44 ∧ e.1 % 2 ^ 44 < (s.regionBase r + s.regionSize r) / 64)) l

theorem mem_outside : e ∈ s.outside r l ↔ e ∈ l ∧ ¬s.inRegion r e.1 := by
  unfold State.outside dropIf State.inRegion
  rw [List.mem_filter, Bool.not_eq_true', Bool.and_eq_false_iff, decide_eq_false_iff_not, decide_eq_false_iff_not, ← Classical.not_and_iff_not_or_not]

end

theorem dropCached_drops : let u := s.dropCached r
    (∀ e ∈ u.gcache, ¬s.inRegion r e.1) ∧ (∀ e ∈ u.victims, ¬s.inRegion r e.1) ∧ (∀ e ∈ u.abuf, ¬s.inRegion r e.1) ∧
    (∀ e ∈ s.gcache, ¬s.inRegion r e.1 → e ∈ u.gcache) ∧ (∀ e ∈ s.victims, ¬s.inRegion r e.1 → e ∈ u.victims) ∧
    (∀ e ∈ s.abuf, ¬s.inRegion r e.1 → e ∈ u.abuf) ∧ KeepsBut [.gcache, .abuf, .victims, .dir] s u :=
  ⟨fun _ h => (mem_outside.1 h).2, fun _ h => (mem_outside.1 h).2, fun _ h => (mem_outside.1 h).2, fun _ h hn => mem_outside.2 ⟨h, hn⟩,
    fun _ h hn => mem_outside.2 ⟨h, hn⟩, fun _ h hn => mem_outside.2 ⟨h, hn⟩, ((touches_dropCached (Nat.and_self _)).2 .rfl : Touches _ s _).keeps _ (by decide)⟩

theorem weightRegionsBecomeValid : Claims.WeightRegionsBecomeValid := by
  refine ⟨fun s port region value ho => ?_, fun s region => ⟨fun h => ?_, fun h => ⟨_, rfl, regionReady_measures h⟩⟩, fun s r => dropCached_drops⟩
  · intro r t k held ctrl hc
    refine ⟨fun ht => ⟨next_congr (regionWrite_foreign ho hc ht), next_congr (regionWrite_foreign ho hc ht)⟩, fun ht => ?_⟩
    have hset : exec (.regionValidSet port region value) s = .next (s.regionSet port.toNat r value) := next_congr (regionWrite_runs ho hc ht)
    have hclear : exec (.regionValidClear port region value) s = .next
        (if held ∧ (t ≠ s.regionTenant r ∨ k ≠ s.regionKey r) then s.setupError port.toNat ctrl 5 else s.regionClear r t k) :=
      next_congr (regionWrite_runs ho hc ht)
    rw [hset, hclear]
    refine ⟨fun hh hne => ⟨next_congr ((regionSet_held hh).trans (if_pos hne)), next_congr (if_pos ⟨hh, hne⟩)⟩,
      fun hh h1 h2 => next_congr ((regionSet_held hh).trans (if_neg ?_)), fun hn => next_congr (regionSet_new hn),
      fun hn => ⟨_, next_congr (if_neg ?_), regionClear_forgets fld_lt fld_lt⟩⟩
    · exact fun hne => hne.elim (· h1) (· h2)
    · rintro ⟨hh, hne⟩
      rcases hn with hn | ⟨h1, h2⟩
      · exact hn hh
      · exact hne.elim (· h1) (· h2)
  · exact next_congr (if_neg (by simp [show s.regionPending region.toNat = false from h]))

/-! ## Blocks (R252, R260, R262, R264, R342) -/

theorem expandBlock_kept {bs : List Byte} (h : s.keptBlock r b = some bs) : s.expandBlock r b = .ok bs := by
  unfold State.expandBlock
  rw [h]

theorem expandBlock_read (h : s.keptBlock r b = none) : s.expandBlock r b = s.readBlock r b := by
  unfold State.expandBlock
  rw [h]

/-- The totals that an expanded block advances, by its header's mode. -/
def State.blockCounted (s : State) (h : List Byte) : State :=
  match hdrMode h with
  | 0 => s.count R.glsRawTotal
  | 1 => (s.count R.glsCodedTotal).count R.glsLinesSavedTotal (1024 - hdrLines h)
  | _ => (s.count R.glsZeroTotal).count R.glsLinesSavedTotal 1024

theorem blockCounted_raw {h : List Byte} (hm : hdrMode h = 0) : s.blockCounted h = s.count R.glsRawTotal := by
  unfold State.blockCounted
  rw [hm]
  rfl

theorem blockCounted_coded {h : List Byte} (hm : hdrMode h = 1) :
    s.blockCounted h = (s.count R.glsCodedTotal).count R.glsLinesSavedTotal (1024 - hdrLines h) := by
  unfold State.blockCounted
  rw [hm]
  rfl

theorem blockCounted_zero {h : List Byte} (h0 : hdrMode h ≠ 0) (h1 : hdrMode h ≠ 1) :
    s.blockCounted h = (s.count R.glsZeroTotal).count R.glsLinesSavedTotal 1024 := by
  unfold State.blockCounted
  split
  · exact absurd ‹_› h0
  · exact absurd ‹_› h1
  · rfl

theorem touches_blockCounted {h : List Byte} : Touches 128 s (s.blockCounted h) := by
  unfold State.blockCounted
  split
  · exact (touches_count (by decide)).2 .rfl
  · exact (touches_count (by decide)).2 ((touches_count (by decide)).2 .rfl)
  · exact (touches_count (by decide)).2 ((touches_count (by decide)).2 .rfl)

/-- The totals leave a region's own registers. -/
theorem reg_blockCounted {h : List Byte} {k : Nat} (hk : R.glsRegionBase 0 ≤ k) : (s.blockCounted h).reg k = s.reg k := by
  have hne {o : Nat} (ho : o < R.glsRegionBase 0) : k ≠ o := by omega
  unfold State.blockCounted
  split
  · exact reg_setReg_other (hne (by decide))
  · exact (reg_setReg_other (hne (by decide))).trans (reg_setReg_other (hne (by decide)))
  · exact (reg_setReg_other (hne (by decide))).trans (reg_setReg_other (hne (by decide)))

section
variable (hv : s.regionValid r = true) (hb : 65536 * b < s.regionSize r) (hf : s.ras.fog = false)
include hv hb hf

/-- A block of a VALID region, by how its read ends. -/
theorem blockExpanded_ok {bs : List Byte} (h : s.readBlock r b = .ok bs) :
    s.blockExpanded r b = (s.blockCounted ((s.sealRecord r b).take 32)).keepBlock r b bs := by
  unfold State.blockExpanded
  rw [if_neg (by simp [hv, hf]; omega)]
  dsimp only
  rw [h]
  rfl

theorem blockExpanded_tag (h : s.readBlock r b = .tagFail) : s.blockExpanded r b = s.blockError r b false := by
  unfold State.blockExpanded
  rw [if_neg (by simp [hv, hf]; omega)]
  dsimp only
  rw [h]

theorem blockExpanded_decode (h : s.readBlock r b = .decodeError) : s.blockExpanded r b = s.blockError r b true := by
  unfold State.blockExpanded
  rw [if_neg (by simp [hv, hf]; omega)]
  dsimp only
  rw [h]

theorem blockExpanded_poisoned (h : s.readBlock r b = .poisoned o) :
    s.blockExpanded r b = s.poisonError o (some (BitVec.ofNat 4 (s.regionTenant r))) := by
  unfold State.blockExpanded
  rw [if_neg (by simp [hv, hf]; omega)]
  dsimp only
  rw [h]

end

/-- A block that is kept is the last of those kept. -/
theorem blocks_keepBlock {bs : List Byte} : ∃ rest : List KeptBlock, (s.keepBlock r b bs).blocks =
    rest ++ [{ die := s.blockDie b, region := r, tenant := s.regionTenant r, block := b, bytes := bs }] ∧
      ∀ k ∈ rest, ¬(k.die = s.blockDie b ∧ k.region = r ∧ k.block = b) := by
  refine ⟨_, rfl, fun k hk => ?_⟩
  have hmem : k ∈ dropIf (fun (k : KeptBlock) => k.die == s.blockDie b && k.region == r && k.block == b) s.blocks := by
    split at hk
    · exact List.mem_of_mem_eraseP hk
    · exact hk
  have hne := (List.mem_filter.1 hmem).2
  simp only [Bool.not_eq_true', Bool.and_eq_false_iff, beq_eq_false_iff_ne] at hne
  rintro ⟨h1, h2, h3⟩
  exact hne.elim (·.elim (· h1) (· h2)) (· h3)

theorem keptBlock_keepBlock {bs : List Byte} : (s.keepBlock r b bs).keptBlock r b = some bs := by
  obtain ⟨rest, hblocks, hrest⟩ := blocks_keepBlock (s := s) (r := r) (b := b) (bs := bs)
  have hdie : (s.keepBlock r b bs).blockDie b = s.blockDie b := rfl
  have hten : (s.keepBlock r b bs).regionTenant r = s.regionTenant r := rfl
  unfold State.keptBlock
  rw [hblocks, hdie, hten, List.find?_append, List.find?_eq_none.2, Option.none_or, List.find?_cons_of_pos (by simp)]
  · rfl
  · intro k hk he
    simp only [Bool.and_eq_true, beq_iff_eq] at he
    exact hrest k hk ⟨he.1.1.1, he.1.1.2, he.2⟩

/-- A block error is counted and told, and its record names the block (log entry 44). -/
theorem blockError_records {decode : Bool} : s.blockError r b decode =
    (((s.count (if decode then R.glsDecodeErrTotal else R.glsTagFailTotal)).setReg R.glsLastErr (BitVec.ofNat 64 (r + b2n decode * 64))).setReg
      R.glsLastErrBlock (BitVec.ofNat 64 b)).record { ErrRec.plain 3 8 (s.blockDie b) (if decode then 11 else 9) with
        status := St.poisoned, tenant := some (BitVec.ofNat 4 (s.regionTenant r)), addr := s.fpaOf (s.regionBase r + 65536 * b) } := by
  have hreg {k : Nat} (hk : R.glsRegionBase 0 ≤ k) : (((s.count (if decode then R.glsDecodeErrTotal else R.glsTagFailTotal)).setReg R.glsLastErr
      (BitVec.ofNat 64 (r + b2n decode * 64))).setReg R.glsLastErrBlock (BitVec.ofNat 64 b)).reg k = s.reg k := by
    have hne {o : Nat} (ho : o < R.glsRegionBase 0) : k ≠ o := by omega
    refine (reg_setReg_other (hne (by decide))).trans ((reg_setReg_other (hne (by decide))).trans (reg_setReg_other (hne ?_)))
    cases decode <;> decide
  have hten := hreg (k := R.glsRegionCtrl r) (by unfold R.glsRegionCtrl R.glsRegionBase; omega)
  have hbase := hreg (k := R.glsRegionBase r) (by unfold R.glsRegionBase; omega)
  unfold State.blockError State.regionTenant State.regionBase
  dsimp only
  rw [hten, hbase]
  rfl

/-- Only a poisoned line of its record or payload ends a block's read so. -/
theorem poisoned_readBlock (h : s.readBlock r b = .poisoned o) : s.poisoned (o / 64) = true := by
  have hp : s.blockPoison r b = some o := by
    unfold State.readBlock at h
    dsimp only at h
    split at h
    · cases h
      assumption
    · cases h
    · split at h
      · cases h
      · split at h
        · cases h
        · split at h <;> cases h
  unfold State.blockPoison at hp
  dsimp only at hp
  obtain ⟨l, hl, rfl⟩ := Option.map_eq_some_iff.1 hp
  rw [Nat.mul_div_cancel_left _ (by decide)]
  exact List.find?_some hl

theorem weightBlocksExpand : Claims.WeightBlocksExpand := by
  intro s region block r b hv hb hf h die
  refine ⟨fun bs hk => expandBlock_kept hk, expandBlock_read, fun bs hr => ?_, fun e he => ⟨fun hr => ?_, fun hr => ?_⟩, fun o hr => ⟨poisoned_readBlock hr, ?_⟩⟩
  · have hten : (s.blockCounted h).regionTenant r = s.regionTenant r := by
      unfold State.regionTenant
      rw [reg_blockCounted (by unfold R.glsRegionCtrl R.glsRegionBase; omega)]
    have hdie : (s.blockCounted h).blockDie b = die := by
      unfold State.blockDie
      rw [← touches_blockCounted .variant (by decide)]
      rfl
    obtain ⟨rest, hblocks, -⟩ := blocks_keepBlock (s := s.blockCounted h) (r := r) (b := b) (bs := bs)
    have hregs : ((s.blockCounted h).keepBlock r b bs).regs = (s.blockCounted h).regs := rfl
    refine ⟨_, next_congr (blockExpanded_ok hv hb hf hr), ?_, expandBlock_kept keptBlock_keepBlock, fun hm => ?_, fun hm => ?_, fun h0 h1 => ?_,
      Touches.keeps (m := 4503599627370624) _ ((touches_keepBlock (by decide)).2 (touches_blockCounted.mono (by decide))) (by decide)⟩
    · rw [hblocks, List.getLast?_append, hdie, hten]
      rfl
    · rw [hregs, blockCounted_raw hm]
    · rw [hregs, blockCounted_coded hm]
    · rw [hregs, blockCounted_zero h0 h1]
  · rw [he]
    exact next_congr ((blockExpanded_tag hv hb hf hr).trans blockError_records)
  · rw [he]
    exact next_congr ((blockExpanded_decode hv hb hf hr).trans blockError_records)
  · exact next_congr (blockExpanded_poisoned hv hb hf hr)

/-- Settles O34: the region register's writes by the region's state, the Keeper's measurement, and a block by how its read ends. -/
theorem weightRegionsAndBlocks : Obligations.WeightRegionsAndBlocks := ⟨weightRegionsBecomeValid, weightBlocksExpand⟩

end Sys2Proof.Machine
end

section
/-! PROOF. The links change state as their events say, and receive flits in order (R269 to R273, R275, R276, R296, R370). -/

namespace Sys2Proof.Machine

variable {s t u : State} {n : Nat} {x y : SLink} {delay : BitVec 11} {level : Byte}

/-! ## Training, keys and their ends (R273, R275, R276) -/

section
variable (h1 : s.pwr.state ≠ .off) (h2 : s.pwr.state ≠ .boot)
include h1 h2

theorem linksOn_of : s.linksOn = true := by simp [State.linksOn, h1, h2]

variable (hk : s.keeper.sealed = true) (ht : s.sportThere n = true) (hd : (s.link n).state = .down)
include hk ht hd

theorem signal_trains : s.signal n = { s.updLink n fun x => { x with state := .train } with pwr := { s.pwr with refFab := true } } :=
  if_pos ⟨by simp [State.linkReady, linksOn_of h1 h2, hk, ht], hd⟩

theorem trainRetry_trains (hr : (s.link n).reason = 2) : s.trainRetry n = s.updLink n fun x => { x with state := .train } :=
  if_pos ⟨by simp [State.linkReady, linksOn_of h1 h2, hk, ht], hd, hr⟩

end

theorem trained_train (h : (s.link n).state = .train) : s.trained n delay =
    s.updLink n fun x => { x with state := .key, delay, long := decide (20 < delay.toNat) } := by
  unfold State.trained
  dsimp only
  rw [h]

theorem trained_retrain (h : (s.link n).state = .retrain) : s.trained n delay =
    s.updLink n fun x => { x with retrainKey := true, delay, long := decide (20 < delay.toNat) } := by
  unfold State.trained
  dsimp only
  rw [h]

/-- A link whose keys are agreed, at the common level. -/
def SLink.keyed (x : SLink) (level : Byte) : SLink :=
  { x with state := .active, level, txCount := 0, rxCount := 0, epoch := x.epoch + 1, retrainKey := false }

theorem keyed_low (h : (s.link n).state = .key ∨ ((s.link n).state = .retrain ∧ (s.link n).retrainKey = true)) (hl : level.toNat < s.rackLevel) :
    s.keyed n level = s.linkOut n .failed 4 := by
  unfold State.keyed
  dsimp only
  rcases h with h | ⟨h, hk⟩
  · rw [h]
    exact if_pos (by simp [hl])
  · rw [h]
    dsimp only
    rw [if_neg (by simp [hk]), if_pos (by simp [hl])]

theorem keyed_fresh (h : (s.link n).state = .key) (hl : ¬level.toNat < s.rackLevel) : s.keyed n level = s.setLink n { SLink.keyed (s.link n) level with
    expSeq := 0, txSeq := 0, credits := [(0, 3584), (1, 1344), (2, 5376), (3, 448)], nonRot := [], owed := [], rx := [], rxRot := []
    reqSkip := 0, mgtSkip := 0 } := by
  unfold State.keyed
  dsimp only
  rw [h]
  exact if_neg (by simpa using hl)

theorem link_setLink_same : (s.setLink n x).link n = x := tget_tput_same (t := s.links) fun _ => SLink.off

theorem resend_setLink : (s.setLink n x).resend n = x.replay.foldl (fun s f => s.sendFlit n (setFld f 10 10 ((s.link n).expSeq - 1).toNat)) (s.setLink n x) := by
  unfold State.resend
  rw [link_setLink_same]
  rfl

theorem keyed_again (h : (s.link n).state = .retrain) (hk : (s.link n).retrainKey = true) (hl : ¬level.toNat < s.rackLevel) : s.keyed n level =
    (((s.link n).replay.foldl (fun s f => s.sendFlit n (setFld f 10 10 ((s.link n).expSeq - 1).toNat))
      (s.setLink n (SLink.keyed (s.link n) level)))).pumpPort n := by
  have hkeyed : s.keyed n level = ((s.setLink n (SLink.keyed (s.link n) level)).resend n).pumpPort n := by
    unfold State.keyed
    dsimp only
    rw [h]
    dsimp only
    rw [if_neg (by simp [hk]), if_neg (by simpa using hl)]
    rfl
  rw [hkeyed, resend_setLink]
  rfl

/-! ## Leaving ACTIVE (R272, R296) -/

/-- A link as it goes DOWN or FAILED. -/
def SLink.gone (x : SLink) (goes : LinkState) (reason : BitVec 4) : SLink :=
  { x with state := goes, reason, retrainKey := false, nakSet := false, sameNak := 0, gotNaks := 0, ackDue := false, nakTimes := [], replay := []
           owed := [], rx := [], rxRot := [] }

/-- A link as it enters RETRAIN. -/
def SLink.retrained (x : SLink) : SLink :=
  { x with state := .retrain, retrainKey := false, nakSet := false, sameNak := 0, gotNaks := 0, nakTimes := [] }

theorem dropQueue_drops {l : List Out} (h : (s.link n).txq = l) :
    s.dropQueue n = (l.foldl State.dropTx (s.updLink n fun x => { x with txq := [] })).missesGo.runNet.itemsEnd := by
  unfold State.dropQueue
  rw [h]
  rfl

theorem linkOut_drops {goes : LinkState} {reason : BitVec 4} : s.linkOut n goes reason =
    ((s.link n).txq.foldl State.dropTx ((s.setLink n (SLink.gone (s.link n) goes reason)).updLink n fun x => { x with txq := [] })).missesGo.runNet.itemsEnd := by
  refine dropQueue_drops (s := s.setLink n (SLink.gone (s.link n) goes reason)) ?_
  rw [link_setLink_same]
  rfl

theorem linkRetrain_drops : s.linkRetrain n =
    ((s.link n).txq.foldl State.dropTx (((s.setLink n (SLink.retrained (s.link n))).count R.smfRetrainTotal).updLink n
      fun x => { x with txq := [] })).missesGo.runNet.itemsEnd := by
  refine dropQueue_drops (s := (s.setLink n (SLink.retrained (s.link n))).count R.smfRetrainTotal) ?_
  rw [State.link_count, link_setLink_same]
  rfl

theorem linksChangeState : Claims.LinksChangeState := by
  refine ⟨fun s p => ?_, fun s n goes reason => ⟨linkOut_drops, linkRetrain_drops⟩, fun _ _ _ _ => rfl⟩
  intro n x
  refine ⟨fun h1 h2 hk ht hd => ⟨next_congr (signal_trains h1 h2 hk ht hd), fun hr => next_congr (trainRetry_trains h1 h2 hk ht hd hr)⟩,
    fun delay => ⟨fun h => next_congr (trained_train h), fun h => next_congr (trained_retrain h)⟩, fun h => next_congr (if_pos h),
    fun level => ⟨fun h hl => next_congr (keyed_low (.inl h) hl), fun h hl => next_congr (keyed_fresh h hl),
      fun h hk hl => next_congr (keyed_low (.inr ⟨h, hk⟩) hl), fun h hk hl => next_congr (keyed_again h hk hl)⟩,
    fun h => next_congr (if_pos h), fun h => next_congr (if_pos h), fun h => next_congr (if_neg h), fun h => next_congr (if_pos h),
    fun h => next_congr (if_pos h), fun h => next_congr (if_neg h), fun port ho hc => ?_⟩
  have hreset : exec (.portReset port p) s = .next (s.portReset n) := next_congr (setupWrite_owned ho hc)
  have hretrain : exec (.portRetrain port p) s = .next (s.portRetrain n) := next_congr (setupWrite_owned ho hc)
  rw [hreset, hretrain]
  exact ⟨fun h => next_congr (if_pos h), fun h1 h2 => next_congr (if_neg fun h => h.elim h1 h2), fun h => next_congr (if_pos h),
    fun h => next_congr (if_neg h)⟩

/-! ## A flit (R269 to R273) -/

variable {w : BitVec 2048} {payload : BitVec 1792} {correctable idle : Bool} {ack : BitVec 10} {a b : Nat} {free : Bool}

/-- Is a flit intact: its codewords could be corrected and its CRC is right? -/
def flitIntact (w : BitVec 2048) (correctable : Bool) : Prop := correctable = true ∧ fld w 1984 64 = flitCrc w

/-- Is a flit the one awaited? An idle one carries the SEQ of the last flit sent. -/
def SLink.awaits (x : SLink) (w : BitVec 2048) : Prop := fld w 0 10 = (if fld w 34 28 == 0 then x.expSeq - 1 else x.expSeq).toNat

/-- A flit has been received and counted. -/
def State.counted (s : State) (n : Nat) : State := s.setLink n { s.link n with rxCount := (s.link n).rxCount + 1 }

theorem link_counted : (s.counted n).link n = { s.link n with rxCount := (s.link n).rxCount + 1 } := link_setLink_same

theorem rejectFlit_eq : s.rejectFlit n = if (s.link n).nakSet then s else s.sendNak n := rfl

section
variable (hon : s.linksOn = true) (hx : (s.link n).state = .active)
include hon hx

theorem flit_broken (h : ¬flitIntact w correctable) : s.flit n w correctable =
    if (s.link n).nakSet then (s.counted n).count R.smfCrcErrTotal else ((s.counted n).count R.smfCrcErrTotal).sendNak n := by
  have hbad : (!correctable) = true ∨ fld w 1984 64 ≠ flitCrc w := by
    by_cases hc : correctable = true
    · exact .inr fun he => h ⟨hc, he⟩
    · exact .inl (by simpa using hc)
  have hnak : (((s.counted n).count R.smfCrcErrTotal).link n).nakSet = (s.link n).nakSet := by rw [State.link_count, link_counted]
  unfold State.flit
  dsimp only
  rw [if_neg (by simp [hon, hx]), if_pos hbad, rejectFlit_eq]
  exact congrArg (fun b : Bool => if b then _ else _) hnak

variable (hi : flitIntact w correctable)
include hi

theorem flit_late (hc : ¬bit w 63 = true) (ho : ¬(s.link n).awaits w) : s.flit n w correctable =
    if (s.link n).nakSet then s.counted n else (s.counted n).sendNak n := by
  have hnak : ((s.counted n).link n).nakSet = (s.link n).nakSet := by rw [link_counted]
  unfold State.flit
  dsimp only
  rw [if_neg (by simp [hon, hx]), if_neg (by simp [hi.1, hi.2]), if_pos ⟨by simpa using hc, ho⟩, rejectFlit_eq]
  exact congrArg (fun b : Bool => if b then _ else _) hnak

variable (ho : bit w 63 = true ∨ (s.link n).awaits w)
include ho

/-- A flit whose CRC and SEQ are right is decrypted. -/
theorem flit_opens : s.flit n w correctable = (Config.flitOpen n (s.link n).epoch (s.link n).rxCount w).elim ((s.counted n).tagFailed n) fun payload =>
    if bit w 63 then s.counted n else (s.counted n).takeFlit n w payload (fld w 34 28 == 0) := by
  have hgo : ¬((!bit w 63) = true ∧ fld w 0 10 ≠ (if (fld w 34 28 == 0) = true then (s.link n).expSeq - 1 else (s.link n).expSeq).toNat) :=
    fun h => ho.elim (by simpa using h.1) h.2
  unfold State.flit
  dsimp only
  rw [if_neg (by simp [hon, hx]), if_neg (by simp [hi.1, hi.2]), if_neg hgo]
  unfold State.counted
  cases Config.flitOpen n (s.link n).epoch (s.link n).rxCount w with
  | none => rw [Option.elim_none]
  | some payload => rw [Option.elim_some]

theorem flit_tagFailed (h : Config.flitOpen n (s.link n).epoch (s.link n).rxCount w = none) : s.flit n w correctable = (s.counted n).tagFailed n := by
  rw [flit_opens hon hx hi ho, h, Option.elim_none]

variable (h : Config.flitOpen n (s.link n).epoch (s.link n).rxCount w = some payload)
include h

theorem flit_control (hc : bit w 63 = true) : s.flit n w correctable = s.counted n := by
  rw [flit_opens hon hx hi ho, h, Option.elim_some]
  exact if_pos hc

theorem flit_taken (hc : ¬bit w 63 = true) : s.flit n w correctable = (s.counted n).takeFlit n w payload (fld w 34 28 == 0) := by
  rw [flit_opens hon hx hi ho, h, Option.elim_some]
  exact if_neg hc

end

/-! ## What an intact flit in order does to its link (R269 to R272, R284) -/

/-- The chunks of a flit arrive. -/
def SLink.chunks (x : SLink) (w : BitVec 2048) (payload : BitVec 1792) : SLink :=
  (List.range 14).foldl (fun x k => x.chunk (fld w (34 + 2 * k) 2) (BitVec.ofNat 128 (fld payload (128 * k) 128))) x

/-- The flit is consumed, unless it is idle. -/
def SLink.consumed (x : SLink) (idle : Bool) : SLink :=
  if idle then x else { x with expSeq := x.expSeq + 1, nakSet := false, sameNak := 0, ackDue := true }

/-- The partner's NAK is counted. -/
def SLink.nakked (x : SLink) (nak : Bool) : SLink := if nak then { x with gotNaks := x.gotNaks + 1 } else x

/-- A link that has taken a flit in order. -/
def SLink.taken (x : SLink) (w : BitVec 2048) (payload : BitVec 1792) (idle : Bool) : SLink :=
  SLink.nakked (SLink.consumed (((SLink.chunks x w payload).acked (BitVec.ofNat 10 (fld w 10 10))).credited (fld w 21 2) (fld w 23 10) (bit w 33)) idle)
    (bit w 20)

theorem takeFlit_eq (hy : y = SLink.taken (s.link n) w payload idle) : s.takeFlit n w payload idle =
    if bit w 20 = true ∧ 4 ≤ y.gotNaks then (s.setLink n y).linkRetrain n
    else (if bit w 20 then (s.setLink n y).resend n else s.setLink n y).pumpPort n := by
  subst hy
  rfl

/-- What chunks leave of a link: its sequence numbers, its replay buffer, its state, what it sends and what the partner asked again. -/
def SLink.core (x : SLink) : BitVec 10 × BitVec 10 × List (BitVec 2048) × LinkState × List Out × Nat × Bool × Nat :=
  (x.expSeq, x.txSeq, x.replay, x.state, x.txq, x.gotNaks, x.nakSet, x.sameNak)

theorem core_chunk {k : Nat} {c : BitVec 128} : SLink.core (x.chunk k c) = SLink.core x := by
  unfold SLink.chunk
  dsimp only
  split
  · rfl
  · split
    · generalize x.rxRot ++ [c] = cs
      split
      · cases cs <;> rfl
      · rfl
    · generalize (if k = 1 then [] else x.rx) ++ [c] = cs
      split
      · cases cs <;> rfl
      · rfl

theorem core_chunks : SLink.core (SLink.chunks x w payload) = SLink.core x := by
  unfold SLink.chunks
  generalize List.range 14 = l
  induction l generalizing x with
  | nil => rfl
  | cons k l ih => exact ih.trans core_chunk

/-- An acknowledgement takes flits off the replay buffer; the partner's NAKs are counted anew where it takes any. -/
theorem acked_drops : ∃ k, x.acked ack = { x with replay := x.replay.drop k, gotNaks := if k = 0 then x.gotNaks else 0 } := by
  unfold SLink.acked
  dsimp only
  split
  · exact ⟨_, rfl⟩
  · exact ⟨0, rfl⟩

/-- What an acknowledgement and credits leave of a link, after chunks. -/
theorem credited_acked : ∃ k, SLink.core (((SLink.chunks x w payload).acked ack).credited a b free) =
    (x.expSeq, x.txSeq, x.replay.drop k, x.state, x.txq, if k = 0 then x.gotNaks else 0, x.nakSet, x.sameNak) := by
  obtain ⟨k, hk⟩ := acked_drops (x := SLink.chunks x w payload) (ack := ack)
  have hcore : SLink.core (SLink.chunks x w payload) = SLink.core x := core_chunks
  have hcredited {z : SLink} : SLink.core (z.credited a b free) = SLink.core z := rfl
  rw [hcredited, hk]
  generalize SLink.chunks x w payload = z at hcore
  simp only [SLink.core, Prod.mk.injEq] at hcore
  obtain ⟨hexp, htx, hrep, hst, htxq, hgot, hnak, hsame⟩ := hcore
  refine ⟨k, ?_⟩
  show (z.expSeq, z.txSeq, z.replay.drop k, z.state, z.txq, (if k = 0 then z.gotNaks else 0), z.nakSet, z.sameNak) = _
  rw [hexp, htx, hrep, hst, htxq, hgot, hnak, hsame]

/-- What a flit that is taken does, apart from its chunks and credits. -/
theorem taken_spec (hy : y = SLink.taken x w payload idle) :
    y.expSeq = (if idle then x.expSeq else x.expSeq + 1) ∧ (¬idle = true → y.nakSet = false ∧ y.sameNak = 0) ∧ y.state = x.state ∧ y.txq = x.txq ∧
      y.txSeq = x.txSeq ∧ ∃ k, y.replay = x.replay.drop k ∧ y.gotNaks = (if k = 0 then x.gotNaks else 0) + (if bit w 20 then 1 else 0) := by
  obtain ⟨k, hcore⟩ := credited_acked (x := x) (w := w) (payload := payload) (ack := BitVec.ofNat 10 (fld w 10 10)) (a := fld w 21 2)
    (b := fld w 23 10) (free := bit w 33)
  subst hy
  unfold SLink.taken
  generalize ((SLink.chunks x w payload).acked (BitVec.ofNat 10 (fld w 10 10))).credited (fld w 21 2) (fld w 23 10) (bit w 33) = z at hcore
  simp only [SLink.core, Prod.mk.injEq] at hcore
  obtain ⟨hexp, htx, hrep, hst, htxq, hgot, -, -⟩ := hcore
  rw [← hexp, ← hst, ← htxq, ← htx]
  refine ⟨?_, fun h => ?_, ?_, ?_, ?_, k, ?_, ?_⟩
  · cases idle <;> cases bit w 20 <;> rfl
  · rw [Bool.not_eq_true] at h
    subst h
    cases bit w 20 <;> exact ⟨rfl, rfl⟩
  · cases idle <;> cases bit w 20 <;> rfl
  · cases idle <;> cases bit w 20 <;> rfl
  · cases idle <;> cases bit w 20 <;> rfl
  · rw [← hrep]
    cases idle <;> cases bit w 20 <;> rfl
  · rw [← hgot]
    cases idle <;> cases bit w 20 <;> rfl

/-! ## The replay timer (R272) -/

theorem replayTimer_sends (hx : (s.link n).state = .active) (h : (s.link n).nakSet = true) : s.replayTimer n = s.sendNak n := if_pos ⟨hx, h⟩

theorem replayTimer_rests (h : (s.link n).nakSet = false) : s.replayTimer n = s := if_neg fun ⟨_, hn⟩ => by simp [h] at hn

/-- The NAK for the flit awaited has gone out. -/
def State.nakSent (s : State) (n : Nat) : State :=
  let times := (s.time :: (s.link n).nakTimes).filter fun t => decide (s.time - t ≤ 10000)
  ((s.updLink n fun x => { x with nakSet := true, sameNak := (s.link n).sameNak + 1, nakTimes := times }).sendIdle n true).count R.smfReplayTotal

theorem sendNak_fourth (h : 3 ≤ (s.link n).sameNak) : ∃ t : State, s.sendNak n = t.linkRetrain n := by
  refine ⟨s.nakSent n, ?_⟩
  unfold State.sendNak
  exact if_pos (.inl (by omega))

theorem flitsAreReceived : Claims.FlitsAreReceived := by
  intro s p w correctable n x h1 h2 hx u idle control intact ordered
  have hon := linksOn_of h1 h2
  refine ⟨fun hi => next_congr (flit_broken hon hx hi), fun hi hc ho => next_congr (flit_late hon hx hi hc ho),
    fun hi ho h => next_congr (flit_tagFailed hon hx hi ho h), fun payload hi hc h => next_congr (flit_control hon hx hi (.inl hc) h hc),
    fun payload hi hc ho h => ?_, fun h => next_congr (replayTimer_sends hx h), fun h => next_congr (replayTimer_rests h), sendNak_fourth⟩
  obtain ⟨hexp, hnak, hst, htxq, htx, hk⟩ := taken_spec (x := (s.counted n).link n) (w := w) (payload := payload) (idle := fld w 34 28 == 0) rfl
  have hexec : exec (.flitReceived p w correctable) s = .next ((s.counted n).takeFlit n w payload (fld w 34 28 == 0)) :=
    next_congr (flit_taken hon hx hi (.inr ho) h hc)
  rw [link_counted] at hexp hnak hst htxq htx hk
  refine ⟨_, hexp, fun hidle => hnak (by simpa using hidle), hst.trans hx, htxq, htx, hk, ?_⟩
  rw [hexec]
  exact next_congr (takeFlit_eq (by rw [link_counted]))

/-- Settles O35: a link's states by event, and a flit by what its CRC, SEQ and tag say. -/
theorem linksRun : Obligations.LinksRun := ⟨linksChangeState, flitsAreReceived⟩

end Sys2Proof.Machine
end

section
/-! PROOF. Fabric messages reach a home, an agent or a requester, or go on (R279 to R281, R296, R298, R354). -/

namespace Sys2Proof.Machine

variable {s : State} {p via dev l : Nat}

/-- A request, a snoop or a response is handled whole, in Fog mode too. -/
theorem message_served {c : Held} {act : State → State} (h : s.pwr.state = .on) (hc : c.inFog = true) :
    s.message c act = (act s).missesGo.runNet.itemsEnd := by
  unfold State.message
  rw [whenAwake_on h]
  exact if_neg (by simp [hc])

section
variable {op : SnoopOp} {r : Snp}

theorem recvSnp_own (h : r.target.toNat = s.devNo) : s.recvSnp p op r = s.agentSnoop op { r with requester := s.srcOf p r.requester } := if_pos h

theorem recvSnp_onward (h : r.target.toNat ≠ s.devNo) : s.recvSnp p op r =
    s.onward p r.target.toNat 0 fun t => t.sendSnp op { r with requester := s.srcOf p r.requester } := if_neg h

end

section
variable {op : BitVec 5} {r : Rsp}

theorem recvRsp_own (h : s.isOwn (epDev r.dst) (epLocal r.dst) = true) : s.recvRsp p op r = s.ownRsp op r := if_pos h

theorem recvRsp_onward (h : s.isOwn (epDev r.dst) (epLocal r.dst) = false) : s.recvRsp p op r =
    s.onward p (epDev r.dst) (epLocal r.dst) fun s => s.routeRsp op r := if_neg (by simp [h])

end

section
variable {src : Endpoint} {tag : BitVec 15} {body : MgBody}

theorem mgArrive_joins (h : s.mgQueue.length < 256) : s.mgArrive p src tag body = { s with mgQueue := s.mgQueue ++ [(s.srcOf p src, tag, body)] } :=
  if_neg (by omega)

theorem mgArrive_full (h : 256 ≤ s.mgQueue.length) : s.mgArrive p src tag body =
    s.sendOn p (.mgStatus (BitVec.ofNat 5 p) (s.srcOf p src) tag St.noSpace) := if_pos h

end

section
variable {op : HomeOp} {r : Req}

/-- A request as its port's SRC makes it. -/
def State.asSent (s : State) (p : Nat) (r : Req) : Req := { r with src := s.srcOf p r.src }

/-- May a port not send for a request's tenant? -/
def State.barred (s : State) (p : Nat) (r : Req) : Prop := s.isEndpoint p = true ∧ bit (s.reg (R.smfPortTmask p)) r.tenant.toNat = false

/-- May a port not send an operation? -/
def State.unfit (s : State) (p : Nat) (op : HomeOp) : Prop := s.isEndpoint p = true ∧ endpointMay op = false

theorem recvReq_barred (h : s.barred p r) : s.recvReq p op r = s.sendRsp Op.cmp (Rsp.plain (s.asSent p r) St.keyMismatch) := by
  obtain ⟨he, hb⟩ := h
  exact if_pos (by rw [he]; simpa using hb)

variable (hb : ¬s.barred p r)
include hb

theorem recvReq_unfit (h : s.unfit p op) : s.recvReq p op r = s.sendRsp Op.cmp { Rsp.plain (s.asSent p r) St.badDescriptor with info := 2 } := by
  have hb' : ¬(s.isEndpoint p && !bit (s.reg (R.smfPortTmask p)) r.tenant.toNat) = true := fun h => hb (by simpa [State.barred] using h)
  obtain ⟨he, hm⟩ := h
  exact (if_neg hb').trans (if_pos (by simp [he, hm]))

variable (hu : ¬s.unfit p op)
include hu

/-- A request that its port may send, by where it goes. -/
theorem recvReq_sent : s.recvReq p op r =
    if s.isOwn (reqDest (s.asSent p r)).1 (reqDest (s.asSent p r)).2 then
      if r.tgt then s.sendRsp Op.cmp { Rsp.plain (s.asSent p r) St.badDescriptor with info := 2 } else s.homeRequest op (s.asSent p r) none
    else s.onward p (reqDest (s.asSent p r)).1 (reqDest (s.asSent p r)).2 fun t => t.sendReq op (s.asSent p r) := by
  have hb' : ¬(s.isEndpoint p && !bit (s.reg (R.smfPortTmask p)) r.tenant.toNat) = true := fun h => hb (by simpa [State.barred] using h)
  have hu' : ¬(s.isEndpoint p && !endpointMay op) = true := fun h => hu (by simpa [State.unfit] using h)
  exact (if_neg hb').trans (if_neg hu')

end

theorem onward_barred {send : State → State} (hx : s.exitPort dev l = some p) (h : s.isUp via = true ∧ s.isUp p = true) :
    s.onward via dev l send = s.count R.smfRouteErrTotal := by
  unfold State.onward
  rw [hx]
  exact if_pos (by simp [h.1, h.2])

theorem onward_goes {send : State → State} (hx : s.exitPort dev l = some p) (h : ¬(s.isUp via = true ∧ s.isUp p = true)) :
    s.onward via dev l send = send s := by
  unfold State.onward
  rw [hx]
  exact if_neg (by simpa using h)

/-- Settles O36: a message is handled whole, its request by port, its snoop and response by target, and none goes from UP to UP. -/
theorem messagesReachTheirEnds : Obligations.MessagesReachTheirEnds := by
  refine ⟨fun s via hon => ⟨fun r c op hc => ?_, fun r c op hc => ?_, fun r c op hc => ?_, fun src tag body hf => ⟨fun hq => ?_, fun hq => ?_⟩⟩,
    fun _ _ _ => rfl, fun s p op r => ?_, fun s via dev l p send hx => ⟨onward_barred hx, onward_goes hx⟩⟩
  · have hserve : exec c s = .next (s.message (.req via op r) fun s => s.recvReq via.toNat op r) := by
      simp only [List.mem_cons, List.not_mem_nil, or_false, Prod.mk.injEq] at hc
      rcases hc with ⟨rfl, rfl⟩ | ⟨rfl, rfl⟩ | ⟨rfl, rfl⟩ | ⟨rfl, rfl⟩ | ⟨rfl, rfl⟩ | ⟨rfl, rfl⟩ | ⟨rfl, rfl⟩ | ⟨rfl, rfl⟩ | ⟨rfl, rfl⟩ | ⟨rfl, rfl⟩ |
        ⟨rfl, rfl⟩ | ⟨rfl, rfl⟩ | ⟨rfl, rfl⟩ <;> rfl
    rw [hserve]
    exact next_congr (message_served hon rfl)
  · have hserve : exec c s = .next (s.message (.snp via op r) fun s => s.recvSnp via.toNat op r) := by
      simp only [List.mem_cons, List.not_mem_nil, or_false, Prod.mk.injEq] at hc
      rcases hc with ⟨rfl, rfl⟩ | ⟨rfl, rfl⟩ | ⟨rfl, rfl⟩ | ⟨rfl, rfl⟩ | ⟨rfl, rfl⟩ <;> rfl
    rw [hserve, message_served hon rfl]
    exact ⟨fun h => by rw [recvSnp_own h], fun h => by rw [recvSnp_onward h]⟩
  · have hserve : exec c s = .next (s.message (.rsp via op r) fun s => s.recvRsp via.toNat op r) := by
      simp only [List.mem_cons, List.not_mem_nil, or_false, Prod.mk.injEq] at hc
      rcases hc with ⟨rfl, rfl⟩ | ⟨rfl, rfl⟩ | ⟨rfl, rfl⟩ | ⟨rfl, rfl⟩ | ⟨rfl, rfl⟩ | ⟨rfl, rfl⟩ | ⟨rfl, rfl⟩ <;> rfl
    rw [hserve, message_served hon rfl]
    exact ⟨fun h => by rw [recvRsp_own h], fun h => by rw [recvRsp_onward h]⟩
  · exact next_congr ((message_on hon hf).trans (congrArg (fun t : State => t.missesGo.runNet.itemsEnd) (mgArrive_joins hq)))
  · exact next_congr ((message_on hon hf).trans (congrArg (fun t : State => t.missesGo.runNet.itemsEnd) (mgArrive_full hq)))
  · intro q dest barred unfit
    have hsent (hb : ¬s.barred p r) (hu : ¬s.unfit p op) := recvReq_sent hb hu
    exact ⟨fun h => recvReq_barred (p := p) (r := r) h, fun hb hu => recvReq_unfit (p := p) (r := r) hb hu,
      fun hb hu ho ht => (hsent hb hu).trans ((if_pos ho).trans (if_neg (Bool.eq_false_iff.1 ht))),
      fun hb hu ho ht => (hsent hb hu).trans ((if_pos ho).trans (if_pos ht)), fun hb hu ho => (hsent hb hu).trans (if_neg (Bool.eq_false_iff.1 ho))⟩

end Sys2Proof.Machine
end

section
/-! PROOF. A home serves each request by its line's state, or refuses it by its check (R286 to R288, R291, R292, R303). -/

namespace Sys2Proof.Machine

variable {s t u : State} {op : HomeOp} {r : Req} {k : Nat}

/-! ## The checks of a request, in order (R303) -/

/-- Does a request write what it names, for its check? -/
def reqWrites (op : HomeOp) (r : Req) : Bool := op.writes || op == .rdX || op == .upg || (op == .evict && bit r.nl 0)

/-- The check of the first or the last line of a request. -/
def State.checks (s : State) (op : HomeOp) (r : Req) (o : Nat) : Option Refuse := s.homeRefuses o r.tenant.toNat r.key (reqWrites op r) (reqChecked r)

/-- The offset a request names, and that of its last line. -/
def reqFirst (r : Req) : Nat := r.addr.toNat % 2 ^ 50
def reqLast (op : HomeOp) (r : Req) : Nat := 64 * (reqLines op r).getLastD 0

/-- A request is refused as its first line's check says, or its last line's, and else starts. -/
def State.checkedReq (s : State) (op : HomeOp) (r : Req) : Option Refuse → Option Refuse → State
  | some .key, _ => (s.keyError (reqFirst r) r.tenant).refuse r none St.keyMismatch 0
  | some .revoked, _ => s.refuse r none St.extentRevoked 0
  | some (.other status), _ => s.refuse r none status 0
  | some (.xlat why _), _ => s.refuse r none St.badDescriptor why
  | none, some (.xlat why _) => s.refuse r none St.badDescriptor why
  | none, some _ => s.refuse r none St.badDescriptor 8
  | none, none => s.startReq { op, req := r, host := none }

section
variable (hf : s.ras.fog = false)
include hf

theorem homeRequest_own (h : reqChecked r = false ∧ inReserved (reqFirst r) = true) : s.homeRequest op r none = s.startReq { op, req := r, host := none } := by
  unfold State.homeRequest
  dsimp only
  exact (if_neg (by simp [hf])).trans (if_pos (by simpa [reqFirst] using h))

/-- A request that no reserved memory of the device's own excuses is checked. -/
theorem homeRequest_checked (h : ¬(reqChecked r = false ∧ inReserved (reqFirst r) = true)) : s.homeRequest op r none =
    s.checkedReq op r (s.checks op r (reqFirst r)) (s.checks op r (reqLast op r)) := by
  unfold State.homeRequest
  dsimp only
  rw [if_neg (by simp [hf]), if_neg (by simpa [reqFirst] using h)]
  unfold State.checks reqFirst reqLast reqWrites
  split <;> simp only [*, State.checkedReq, reqFirst]
  rw [if_neg (by simp), if_neg (by simp), if_neg (by simp)]

end

theorem checkedReq_last {e : Refuse} (h : ∀ a b, e ≠ .xlat a b) : s.checkedReq op r none (some e) = s.refuse r none St.badDescriptor 8 := by
  cases e with
  | xlat a b => exact absurd rfl (h a b)
  | key => rfl
  | revoked => rfl
  | other st => rfl

/-! ## A transaction that awaits nothing more (R288, R292, R294) -/

theorem closeTxn_concludes {t : Txn} (ht : lget s.txns k = some t) (ha : t.awaiting = []) (hh : t.hosts = [])
    (hu : u = (State.conclude { s with txns := ldel s.txns k } t).wakeBlocks k) :
    s.closeTxn k = if u.drains.any (fun d => d.covers false 0 (extentOf k)) then u.post .sweep else u := by
  subst hu
  unfold State.closeTxn
  rw [ht]
  exact if_neg (by simp [ha, hh])

section
variable {t : Txn} {d : Dir}

/-- The directory entries of a transaction's lines are emptied. -/
def State.emptied (s : State) (t : Txn) : State := t.lines.foldl (fun s l => s.putDir l Dir.none) s

variable (hp : t.poison = false) (hd : d = s.dirEntry (reqLine t.req))
include hp hd

theorem conclude_rdS_alone (ho : t.op = .rdS) (hw : s.weightLine (reqLine t.req) = false) (hs : (s.homeData (reqLine t.req)).2 = false) (hi : d.state = .i) :
    s.conclude t = (s.putDir (reqLine t.req) (d.own .e (epDev t.req.src) t.req.agent.toNat)).answerRead t 2 := by
  subst hd
  unfold State.conclude
  dsimp only
  rw [ho]
  dsimp only
  rw [if_neg (by simp [hp]), if_neg (by simp [hw]), hi]
  exact if_neg (by simp [hs])

theorem conclude_rdS_shared (ho : t.op = .rdS) (hw : s.weightLine (reqLine t.req) = false) (hs : (s.homeData (reqLine t.req)).2 = false) (hi : d.state = .s)
    (hf : t.forwarded = false) : s.conclude t = (s.putDir (reqLine t.req) (d.add (epDev t.req.src) t.req.agent.toNat)).answerRead t 1 := by
  subst hd
  unfold State.conclude
  dsimp only
  rw [ho]
  dsimp only
  rw [if_neg (by simp [hp]), if_neg (by simp [hw]), hi]
  exact (if_neg (by simp [hf])).trans (if_neg (by simp [hs]))

theorem conclude_rdX (ho : t.op = .rdX) (hf : t.forwarded = false) : s.conclude t =
    if (s.homeData (reqLine t.req)).2 then (s.emptied t).answerRead t 0
    else (s.putDir (reqLine t.req) (d.own .m (epDev t.req.src) t.req.agent.toNat)).answerRead t 3 := by
  subst hd
  unfold State.conclude
  dsimp only
  rw [ho]
  dsimp only
  exact (if_neg (by simp [hp])).trans (if_neg (by simp [hf]))

theorem conclude_upg (ho : t.op = .upg) (hf : t.forwarded = false) : s.conclude t =
    if t.sharer then (s.putDir (reqLine t.req) (d.own .m (epDev t.req.src) t.req.agent.toNat)).answer t Op.cmp St.done 0 []
    else if (s.homeData (reqLine t.req)).2 then (s.emptied t).answerRead t 0
    else (s.putDir (reqLine t.req) (d.own .m (epDev t.req.src) t.req.agent.toNat)).answerRead t 3 := by
  subst hd
  unfold State.conclude
  dsimp only
  rw [ho]
  dsimp only
  exact (if_neg (by simp [hp])).trans (if_neg (by simp [hf]))

omit hp in
theorem conclude_evict (ho : t.op = .evict) : s.conclude t =
    if d.owner = some (epDev t.req.src, t.req.agent.toNat) then (s.putDir (reqLine t.req) Dir.none).answer t Op.cmp St.done 0 []
    else s.answer t Op.cmp St.done 0 [] true := by
  subst hd
  unfold State.conclude
  dsimp only
  rw [ho]

end

section
variable {t : Txn} (hp : t.poison = false) (ha : t.answered = false)
include ha

theorem conclude_wrNs (ho : t.op = .wrNs) : s.conclude t = (s.homeWrite t).answer t Op.cmp St.done 0 [] := by
  unfold State.conclude
  dsimp only
  rw [ho]
  exact if_neg (by simp [ha])

include hp

theorem conclude_wrC (ho : t.op = .wrC ∨ t.op = .wrCm) : s.conclude t = ((s.emptied t).homeWrite t).answer t Op.cmp St.done 0 [] := by
  have hwrite : State.conclude.write t s (fun s => s.emptied t) = ((s.emptied t).homeWrite t).answer t Op.cmp St.done 0 [] :=
    (if_neg (by simp [ha])).trans (if_neg (by simp [hp]))
  unfold State.conclude
  dsimp only
  rcases ho with ho | ho <;> rw [ho] <;> exact hwrite

theorem conclude_atomic (ho : t.op.atomic = true) : s.conclude t = (s.emptied t).homeAtomic t := by
  unfold State.conclude
  dsimp only
  cases h : t.op with
  | atAdd | atSwp | atCas | atMin | atMax => exact (if_neg (by simp [ha])).trans (if_neg (by simp [hp]))
  | _ =>
    rw [h] at ho
    cases ho

end

/-! ## Atomics by value (R198, R292) -/

section
variable {old x c : Nat} {wide : Bool}

theorem atomicNew_cas : atomicNew .atCas wide false old x c = if old = c % 2 ^ (if wide then 64 else 32) then x % 2 ^ (if wide then 64 else 32) else old := rfl

theorem atomicNew_min (h : old < 2 ^ (if wide then 64 else 32)) : atomicNew .atMin wide false old x c = min old (x % 2 ^ (if wide then 64 else 32)) := by
  generalize hn : (if wide then 64 else 32) = n at *
  unfold atomicNew
  simp only [hn, Bool.false_eq_true, false_and, if_false, Int.ofNat_lt, Nat.mod_eq_of_lt h]
  split
  next hlt => exact (Nat.min_eq_right (Nat.le_of_lt hlt)).symm
  next hle => exact (Nat.min_eq_left (Nat.le_of_not_lt hle)).symm

theorem atomicNew_max (h : old < 2 ^ (if wide then 64 else 32)) : atomicNew .atMax wide false old x c = max old (x % 2 ^ (if wide then 64 else 32)) := by
  generalize hn : (if wide then 64 else 32) = n at *
  unfold atomicNew
  simp only [hn, Bool.false_eq_true, false_and, if_false, Int.ofNat_lt, Nat.mod_eq_of_lt h]
  split
  next hlt => exact (Nat.max_eq_right (Nat.le_of_lt hlt)).symm
  next hle => exact (Nat.max_eq_left (Nat.le_of_not_lt hle)).symm

end

/-- Settles O37: a request by its checks, a transaction's close by operation and line state, and the atomics' values. -/
theorem homesServeRequests : Obligations.HomesServeRequests := by
  refine ⟨fun s op r hf => ?_, fun s k t ht ha hh => closeTxn_concludes ht ha hh rfl, fun s t hp ha => ?_, fun old x c wide => ?_⟩
  · refine ⟨fun h => homeRequest_own hf h, fun h => ?_⟩
    rw [homeRequest_checked hf h]
    refine ⟨fun h1 => ?_, fun h1 => ?_, fun st h1 => ?_, fun a b h1 => ?_, fun a b h1 h2 => ?_, fun e h1 h2 he => ?_, fun h1 h2 => ?_⟩
    · exact congrArg (s.checkedReq op r · (s.checks op r (reqLast op r))) h1
    · exact congrArg (s.checkedReq op r · (s.checks op r (reqLast op r))) h1
    · exact congrArg (s.checkedReq op r · (s.checks op r (reqLast op r))) h1
    · exact congrArg (s.checkedReq op r · (s.checks op r (reqLast op r))) h1
    · exact congr (congrArg (s.checkedReq op r) h1) h2
    · exact (congr (congrArg (s.checkedReq op r) h1) h2).trans (checkedReq_last he)
    · exact congr (congrArg (s.checkedReq op r) h1) h2
  · intro line dev g d clear sound
    refine ⟨fun ho hw hs => ⟨fun hi => conclude_rdS_alone hp rfl ho hw hs hi, fun hi hf => conclude_rdS_shared hp rfl ho hw hs hi hf⟩,
      fun ho hf => ⟨fun hs => (conclude_rdX hp rfl ho hf).trans (if_neg (Bool.eq_false_iff.1 hs)), fun hs => (conclude_rdX hp rfl ho hf).trans (if_pos ?_)⟩,
      fun ho hf => ⟨fun hsh => (conclude_upg hp rfl ho hf).trans (if_pos hsh), fun hsh hs => (conclude_upg hp rfl ho hf).trans
        ((if_neg (by simp [hsh])).trans (if_neg (Bool.eq_false_iff.1 hs)))⟩, conclude_wrC hp ha, conclude_wrNs ha, conclude_atomic hp ha,
      fun ho hown => (conclude_evict rfl ho).trans (if_pos hown), fun ho hown => (conclude_evict rfl ho).trans (if_neg hown)⟩
    simpa [sound] using hs
  · exact ⟨rfl, rfl, fun h => atomicNew_cas.trans (if_pos h), fun h => atomicNew_cas.trans (if_neg h), fun h => ⟨atomicNew_min h, atomicNew_max h⟩⟩

end Sys2Proof.Machine
end

section
/-! PROOF. A gallery answers a snoop with its line, and the home takes the answer (R288, R290, R291, R294). -/

namespace Sys2Proof.Machine

variable {s : State} {op : SnoopOp} {r : Snp} {c : CLine}

/-! ## The agent's side (R290, R291) -/

/-- A snoop of a line that a gallery holds. -/
theorem agentSnoop_held (hc : c = s.gline r.gallery.toNat (r.addr.toNat / 64)) (h : c.state ≠ .i) : s.agentSnoop op r =
    (s.applySnoop op r c).1.setGline r.gallery.toNat (r.addr.toNat / 64)
      (if (s.applySnoop op r c).2 = .i then CLine.none else { c with state := (s.applySnoop op r c).2 }) := by
  subst hc
  exact if_pos h

theorem applySnoop_fwdS : s.applySnoop .fwdS r c =
    (if c.state = .m then (s.snoopData r c 1).snoopLine r c else (s.snoopData r c 1).snoopAck r true, .s) := rfl

section
variable (h : (s.gline r.gallery.toNat (r.addr.toNat / 64)).state = .i)
include h

theorem agentSnoop_victim {v : CLine} (hv : s.victimLine r.gallery.toNat (r.addr.toNat / 64) = some v) (hi : v.state = .i) :
    s.agentSnoop op r = s.snoopAck r false := by
  unfold State.agentSnoop
  dsimp only
  rw [if_neg (by simp [h]), hv]
  exact if_pos hi

variable (hv : s.victimLine r.gallery.toNat (r.addr.toNat / 64) = none)
include hv

theorem agentSnoop_absent (hq : s.requestFor r.gallery.toNat (r.addr.toNat / 64) = none) : s.agentSnoop op r = s.snoopAck r false := by
  unfold State.agentSnoop
  dsimp only
  rw [if_neg (by simp [h]), hv, hq]

variable {t : Nat} (hq : s.requestFor r.gallery.toNat (r.addr.toNat / 64) = some t)
include hq

theorem agentSnoop_holds (ho : r.owner = true) (hh : (s.tag t).held = none) : s.agentSnoop op r = s.setTag t { s.tag t with held := some (op, r) } := by
  unfold State.agentSnoop
  dsimp only
  rw [if_neg (by simp [h]), hv, hq]
  exact if_pos (by simp [ho, hh])

variable (hn : r.owner = false ∨ (s.tag t).held ≠ none)
include hn

theorem agentSnoop_passes (ho : op ≠ .inv) : s.agentSnoop op r = s.snoopAck r false := by
  unfold State.agentSnoop
  dsimp only
  rw [if_neg (by simp [h]), hv, hq]
  dsimp only
  rw [if_neg (by rcases hn with hn | hn <;> simp [hn]), if_neg (by simp [ho])]

theorem agentSnoop_drops {v : VoiceId} {slot : BitVec 2} {l : Nat} (ho : op = .inv) (hu : (s.tag t).use = .access v slot l .rdS) :
    s.agentSnoop op r = (s.setTag t { s.tag t with noInstall := true }).snoopAck r false := by
  unfold State.agentSnoop
  dsimp only
  rw [if_neg (by simp [h]), hv, hq]
  dsimp only
  rw [if_neg (by rcases hn with hn | hn <;> simp [hn]), hu]
  exact congrArg (State.snoopAck · r false) (if_pos (by simp [ho]))

end

/-! ## The home's side (R288, R294) -/

section
variable {r : Rsp} {k : Nat} {t : Txn} {dev g line : Nat} (hl : line = r.info.toNat % 2 ^ 50 / 64) (hd : dev = r.from_.toNat) (hg : g = r.agent.toNat)
include hl hd hg

theorem homeAck_stray (h : s.awaited dev g line = none) : s.homeAck r = s.count R.smfStrayTotal := by
  subst hl hd hg
  unfold State.homeAck
  dsimp only
  rw [h]

theorem homeSnData_stray (h : s.awaited dev g line = none) : s.homeSnData r = s.count R.smfStrayTotal := by
  subst hl hd hg
  unfold State.homeSnData
  dsimp only
  rw [h]

variable (h : s.awaited dev g line = some (k, t))
include h

/-- An acknowledgement that is awaited: the line went on, or its owner has none, or a sharer is gone. -/
theorem homeAck_awaited : s.homeAck r =
    if r.fwd then s.answered k dev g line fun t => { t with forwarded := true }
    else if s.isOwner dev g line then (s.ownerLost line).answered k dev g line fun t => { t with poison := true }
    else s.answered k dev g line id := by
  subst hl hd hg
  unfold State.homeAck
  dsimp only
  rw [h]

theorem homeSnData_awaited : s.homeSnData r = (s.takeLine line r).answered k dev g line fun t => { t with forwarded := t.op == .rdS } := by
  subst hl hd hg
  unfold State.homeSnData
  dsimp only
  rw [h]

end

/-- Settles O38: a snoop by what the gallery holds of its line, and the home's answer by what it awaits. -/
theorem agentsAnswerSnoops : Obligations.AgentsAnswerSnoops := by
  refine ⟨fun s op r => ?_, fun s r => ?_⟩
  · intro g line c keeps drops
    refine ⟨fun h => ?_, agentSnoop_absent, fun v h hv hi => agentSnoop_victim h hv hi, fun t h hv hq ho hh => agentSnoop_holds h hv hq ho hh,
      fun t h hv hq hn => ⟨fun ho => agentSnoop_passes h hv hq hn ho, fun v slot l ho hu => agentSnoop_drops h hv hq hn ho hu⟩⟩
    have hheld := agentSnoop_held (op := op) (r := r) (c := c) rfl h
    rw [hheld]
    refine ⟨fun ho => ?_, fun ho hm => ?_, fun ho hm => ?_, fun ho => ?_, fun ho => ?_, fun ho => ?_⟩ <;> subst ho
    · rfl
    · rw [applySnoop_fwdS, if_pos hm]
      rfl
    · rw [applySnoop_fwdS, if_neg hm]
      rfl
    · rfl
    · rfl
    · rfl
  · intro line dev g
    refine ⟨fun h => ⟨homeAck_stray rfl rfl rfl h, homeSnData_stray rfl rfl rfl h⟩, fun k t h => ?_⟩
    have hack := homeAck_awaited rfl rfl rfl h
    exact ⟨fun hf => hack.trans (if_pos hf), fun hf ho => hack.trans ((if_neg (Bool.eq_false_iff.1 hf)).trans (if_pos ho)),
      fun hf ho => hack.trans ((if_neg (Bool.eq_false_iff.1 hf)).trans (if_neg (Bool.eq_false_iff.1 ho))), homeSnData_awaited rfl rfl rfl h⟩

end Sys2Proof.Machine
end

section
/-! PROOF. Snoops, evictions and requests with no answer end with their records (R291, R294, R296). -/

namespace Sys2Proof.Machine

variable {s u : State} {t g l : Nat}

/-! ## A snoop goes unanswered (R294) -/

section
variable {k d : Nat} {x : Txn}

theorem snoopLate_none (h : s.awaited d g l = none) : s.snoopLate l d g = s := by
  unfold State.snoopLate
  rw [h]

variable (h : s.awaited d g l = some (k, x)) (hu : u = (s.count R.smfSnoopTimeoutTotal).record { ErrRec.plain 4 8 (s.homeDie (l / 1024)) 5 with
  status := St.timeout, tenant := some x.req.tenant, addr := s.fpaOf (64 * l) })
include h hu

/-- The owner loses its line, and a sharer leaves the entry. -/
theorem snoopLate_awaited : s.snoopLate l d g =
    if u.isOwner d g l then (u.ownerLost l).answered k d g l fun t => { t with poison := true }
    else (u.setDir l { u.dirEntry l with ptrs := (u.dirEntry l).ptrs.filter (· != (d, g)) }).answered k d g l id := by
  subst hu
  unfold State.snoopLate
  rw [h]

end

/-! ## A request goes unanswered (R296) -/

/-- A tag of a request that is overdue. -/
def State.quarantined (s : State) (t : Nat) : State := (s.setTag t { ReqTag.free with use := .quarantined }).count R.smfTimeoutTotal

theorem tagTimeout_idle (h : (s.tag t).use = .free ∨ (s.tag t).use = .quarantined) : s.tagTimeout t = s := by
  unfold State.tagTimeout
  dsimp only
  rcases h with h | h <;> rw [h]

theorem tagTimeout_other (h : (s.tag t).use = .other) : s.tagTimeout t = s.quarantined t := by
  unfold State.tagTimeout
  dsimp only
  rw [h]
  rfl

theorem tagTimeout_host {p : Port} {n : BitVec 16} (h : (s.tag t).use = .host p n) :
    s.tagTimeout t = (s.quarantined t).hostAnswer p.toNat n 0 true false := by
  unfold State.tagTimeout
  dsimp only
  rw [h]
  rfl

theorem tagTimeout_engine {e : EngReq} (h : (s.tag t).use = .engine e) : s.tagTimeout t =
    if e.op.writes then (s.quarantined t).engineWrote e St.timeout 8
    else (s.quarantined t).engineRead e { Rsp.plain e.req St.timeout with tag := BitVec.ofNat 15 t } := by
  unfold State.tagTimeout
  dsimp only
  rw [h]
  rfl

theorem tagTimeout_mg {o : Out} (h : (s.tag t).use = .mg o) : s.tagTimeout t = { s.quarantined t with missed := s.missed ++ [o] } := by
  unfold State.tagTimeout
  dsimp only
  rw [h]
  rfl

theorem tagTimeout_evict (h : (s.tag t).use = .evict g l) : s.tagTimeout t =
    (State.record { s.quarantined t with victims := ldel s.victims (cacheKey g l) }
      { ErrRec.plain 4 2 g 5 with status := St.timeout, addr := 64 * l }).pumpGallery g := by
  unfold State.tagTimeout
  dsimp only
  rw [h]
  rfl

section
variable (hh : (s.tag t).held = none)
include hh

theorem tagTimeout_access {v : VoiceId} {slot : BitVec 2} {op : HomeOp} (h : (s.tag t).use = .access v slot l op) : s.tagTimeout t =
    (((s.quarantined t).access v.toNat slot).elim (s.quarantined t) fun a => (s.quarantined t).endAccess v.toNat a St.timeout).pumpGallery
      (galleryOf v.toNat) := by
  unfold State.tagTimeout
  dsimp only
  rw [h, hh]
  unfold State.quarantined
  dsimp only
  cases State.access _ v.toNat slot <;> rfl

theorem tagTimeout_gone {op : HomeOp} {a b c} (h : (s.tag t).use = .gone g l op a b c) : s.tagTimeout t = (s.quarantined t).pumpGallery g := by
  unfold State.tagTimeout
  dsimp only
  rw [h, hh]
  rfl

end

/-! ## A victim goes unanswered (R291) -/

theorem victimTimeout_none (h : (s.tags.find? fun e => e.2.use == .evict g l) = none) : s.victimTimeout g l = s := by
  unfold State.victimTimeout
  rw [h]

theorem victimTimeout_tag {e : Nat × ReqTag} (h : (s.tags.find? fun e => e.2.use == .evict g l) = some e) (he : s.tag e.1 = e.2) :
    s.victimTimeout g l = (State.record { s.quarantined e.1 with victims := ldel s.victims (cacheKey g l) }
      { ErrRec.plain 4 2 g 5 with status := St.timeout, addr := 64 * l }).pumpGallery g := by
  have huse : (s.tag e.1).use = .evict g l := by
    rw [he]
    simpa using List.find?_some h
  unfold State.victimTimeout
  rw [h]
  exact tagTimeout_evict huse

/-- Settles O39: a late snoop by whether its agent was the owner, and a late request by what its tag was for. -/
theorem coherenceTimersExpire : Obligations.CoherenceTimersExpire := by
  refine ⟨fun s line dev gallery => ?_, fun s tag => ?_, fun s gallery line => ?_⟩
  · intro l d g
    refine ⟨fun h => next_congr (congrArg State.runNet (snoopLate_none h)), fun k t h => ?_⟩
    have hlate := snoopLate_awaited h rfl
    exact ⟨fun ho => next_congr (congrArg State.runNet (hlate.trans (if_pos ho))),
      fun ho => next_congr (congrArg State.runNet (hlate.trans (if_neg (Bool.eq_false_iff.1 ho))))⟩
  · intro t q u late
    have hlate {w : State} (h : s.tagTimeout t = w) : late w := next_congr (congrArg (fun w : State => w.missesGo.runNet.itemsEnd) h)
    refine ⟨fun h => hlate (tagTimeout_idle h), fun h => hlate (tagTimeout_other h), fun p n h => hlate (tagTimeout_host h),
      fun e h => ⟨fun ho => hlate ((tagTimeout_engine h).trans (if_pos ho)), fun ho => hlate ((tagTimeout_engine h).trans (if_neg (Bool.eq_false_iff.1 ho)))⟩,
      fun o h => hlate (tagTimeout_mg h), fun v slot l op h hh => ⟨fun a ha => hlate ((tagTimeout_access hh h).trans ?_),
        fun ha => hlate ((tagTimeout_access hh h).trans ?_)⟩, fun g l op a b c h hh => hlate (tagTimeout_gone hh h), fun g l h => hlate (tagTimeout_evict h),
      fun h => next_congr (if_pos h), fun h => next_congr (if_neg h)⟩
    · rw [show (s.quarantined t).access v.toNat slot = some a from ha]
      rfl
    · rw [show (s.quarantined t).access v.toNat slot = none from ha]
      rfl
  · intro g l
    exact ⟨fun h => next_congr (congrArg (fun w : State => w.runNet.itemsEnd) (victimTimeout_none h)),
      fun e h he => next_congr (congrArg (fun w : State => w.runNet.itemsEnd) (victimTimeout_tag h he))⟩

end Sys2Proof.Machine
end

section
/-! PROOF. MARK, GRANT, QUERY, REVOKE, UNMARK and SETMODE, their drains and their ends (R300, R302, R305 to R310, R316, R318). -/

namespace Sys2Proof.Machine

variable {s t u : State} {r p op : Nat} {f : Flight} {d : Line}

/-! ## POOL descriptors that may start (R302, R305, R306) -/

section
variable {act : State → Ring → Line → State} (hm : s.mayStart r p .pool = some f) (ho : dOpcode f.desc = op)
include hm ho

theorem poolOp_ends {c : Cpl} (hc : s.poolCheck (s.ring r) f.desc = some c) : s.poolOp r p op act = s.finish r p c := by
  unfold State.poolOp
  rw [hm]
  dsimp only
  rw [if_neg (by simp [ho]), hc]

theorem poolOp_acts (hc : s.poolCheck (s.ring r) f.desc = none) : s.poolOp r p op act = act s (s.ring r) f.desc := by
  unfold State.poolOp
  rw [hm]
  dsimp only
  rw [if_neg (by simp [ho]), hc]

end

/-! ## QUERY (R300, R304; log entry 104) -/

/-- An entry that a QUERY names: its bytes, whether it may be shown, and its value. -/
def State.queryItems (s : State) (x : Ring) (d : Line) : List (Nat × Bool × Nat) :=
  if poolMarks d then (poolMarkList d).map fun e => (4, !((s.mark e).valid && (s.mark e).tenant.toNat != x.tenant), markNat (s.mark e))
  else (poolMapList d).map fun e => let m := (s.port (poolPort d)).extent e
    (8, !(m.state != 0 && m.tenant.toNat != x.tenant), extentNat m)

/-- An entry as the model lists it: none where it is another's. -/
def itemEntry (e : Nat × Bool × Nat) : Option (List Byte) := if e.2.1 then some (leBytes e.1 e.2.2) else none

/-- What a QUERY shows of an entry: its bytes, or free ones. -/
def itemShown (free : List Byte) (e : (Nat × Bool × Nat) × Nat) : List Byte :=
  if e.1.2.1 then leBytes e.1.1 e.1.2.2 else slice free (e.1.1 * e.2) e.1.1

/-- The free bytes that a QUERY draws. -/
def State.queryFree (s : State) (x : Ring) (d : Line) : List Byte × State :=
  if (s.queryItems x d).any fun e => !e.2.1 then State.drawBytes ((if poolMarks d then 4 else 8) * (s.queryItems x d).length) s else ([], s)

theorem contains_none (l : List (Nat × Bool × Nat)) : (l.map itemEntry).contains none = l.any fun e => !e.2.1 := by
  induction l with
  | nil => rfl
  | cons e l ih =>
    rw [List.map_cons, List.contains_cons, List.any_cons, ih]
    congr 1
    unfold itemEntry
    cases e.2.1 <;> rfl

theorem entries_shown (l : List (Nat × Bool × Nat)) (n : Nat) (free : List Byte) (h : ∀ e ∈ l, e.1 = n) :
    ((l.map itemEntry).zipIdx.map fun e => e.1.getD (slice free (n * e.2) n)) = l.zipIdx.map (itemShown free) := by
  rw [List.zipIdx_map, List.map_map]
  refine List.map_congr_left fun e he => ?_
  have hn : e.1.1 = n := h _ (List.fst_mem_of_mem_zipIdx he)
  unfold itemShown
  dsimp only [Function.comp_apply, Prod.map]
  rw [hn]
  unfold itemEntry
  split
  · rw [Option.getD_some, hn]
  · rfl

/-- The entries that the model lists for a QUERY are the items'. -/
theorem queryItems_entries {x : Ring} : (s.queryItems x d).map itemEntry =
    if poolMarks d then (poolMarkList d).map fun e =>
      if (s.mark e).valid && (s.mark e).tenant.toNat != x.tenant then none else some (leBytes 4 (markNat (s.mark e)))
    else (poolMapList d).map fun e =>
      if ((s.port (poolPort d)).extent e).state != 0 && ((s.port (poolPort d)).extent e).tenant.toNat != x.tenant then none
      else some (leBytes 8 (extentNat ((s.port (poolPort d)).extent e))) := by
  unfold State.queryItems
  split
  · rw [List.map_map]
    refine List.map_congr_left fun e _ => ?_
    unfold itemEntry
    dsimp only [Function.comp_apply]
    cases (s.mark e).valid && (s.mark e).tenant.toNat != x.tenant <;> rfl
  · rw [List.map_map]
    refine List.map_congr_left fun e _ => ?_
    unfold itemEntry
    dsimp only [Function.comp_apply]
    cases ((s.port (poolPort d)).extent e).state != 0 && ((s.port (poolPort d)).extent e).tenant.toNat != x.tenant <;> rfl

theorem queryItems_size {x : Ring} : ∀ e ∈ s.queryItems x d, e.1 = if poolMarks d then 4 else 8 := by
  unfold State.queryItems
  split
  · intro e he
    obtain ⟨a, -, rfl⟩ := List.mem_map.1 he
    rfl
  · intro e he
    obtain ⟨a, -, rfl⟩ := List.mem_map.1 he
    rfl

theorem queryBytes_eq {x : Ring} : s.queryBytes x d = (((s.queryItems x d).zipIdx.map (itemShown (s.queryFree x d).1)).flatten, (s.queryFree x d).2) := by
  unfold State.queryBytes
  dsimp only
  rw [← queryItems_entries, contains_none, List.length_map, ← entries_shown _ _ _ queryItems_size]
  rfl

section
variable {b : List Byte} {w : State} {e : Eng} 
  (hm : s.mayStart r p .pool = some f) (ho : dOpcode f.desc = 5) (hc : s.poolCheck (s.ring r) f.desc = none)
  (hq : s.queryBytes (s.ring r) f.desc = (b, w))
include hm ho hc hq

theorem poolQuery_host (hh : fld f.desc 256 2 = 1) : s.poolQuery r p =
    (w.hostWriteP (fld f.desc 258 2) (dNum f.desc 24 8) (b.map (·, false))).finish r p (Cpl.res St.done (poolCount f.desc) 0) := by
  unfold State.poolQuery
  rw [poolOp_acts hm ho hc, hq]
  exact if_pos hh

variable (hh : fld f.desc 256 2 ≠ 1) (he : e = Eng.func (w.frontCache r) (s.ring r).tenant (.flight (BitVec.ofNat 12 r) (BitVec.ofNat 32 p) 24))
include hh he

theorem poolQuery_pool {x : State} {y : Nat}
    (hout : State.scatter e (pieces (b.map fun c => (c, false)).length) w (dNum f.desc 24 8) (b.map (·, false)) = (x, y, none)) :
    s.poolQuery r p = x.finish r p (Cpl.res St.done (poolCount f.desc) 0) := by
  subst he
  unfold State.poolQuery
  rw [poolOp_acts hm ho hc, hq]
  dsimp only
  rw [if_neg hh, hout]

theorem poolQuery_refused {x : State} {y : Nat} {a : Nat} {why : Refuse}
    (hout : State.scatter e (pieces (b.map fun c => (c, false)).length) w (dNum f.desc 24 8) (b.map (·, false)) = (x, y, some (a, why))) :
    s.poolQuery r p = (x.noteRefusal (s.ring r).tenant true 0x3FF a why).finish r p (why.cpl 24) := by
  subst he
  unfold State.poolQuery
  rw [poolOp_acts hm ho hc, hq]
  dsimp only
  rw [if_neg hh, hout]

end

theorem poolDescriptorsRun : Claims.PoolDescriptorsRun := by
  intro s ring pos f hm r p x d hp n t passes drain
  refine ⟨fun e c op he hc ho => ?_, fun hc ho => next_congr (poolOp_acts hm ho hc), fun hc ho => next_congr (poolOp_acts hm ho hc),
    fun hc ho => next_congr (poolOp_acts hm ho hc), fun hc ho => next_congr (poolOp_acts hm ho hc), fun hc ho => ?_, fun hc ho => ?_⟩
  · simp only [List.mem_cons, List.not_mem_nil, or_false, Prod.mk.injEq] at hc
    rcases hc with ⟨rfl, rfl⟩ | ⟨rfl, rfl⟩ | ⟨rfl, rfl⟩ | ⟨rfl, rfl⟩ | ⟨rfl, rfl⟩ | ⟨rfl, rfl⟩ <;> exact next_congr (poolOp_ends hm ho he)
  · intro shown items size v bs e out
    have hq : s.queryBytes x d = ((items.zipIdx.map (itemShown v.1)).flatten, v.2) := queryBytes_eq
    have hout {o : Option (Nat × Refuse)} (h : out.2.2 = o) : out = (out.1, out.2.1, o) := by rw [← h]
    exact ⟨fun hh => next_congr (poolQuery_host hm ho hc hq hh), fun hh h => next_congr (poolQuery_pool hm ho hc hq hh rfl (hout h)),
      fun a w hh h => next_congr (poolQuery_refused hm ho hc hq hh rfl (hout h))⟩
  · have hmode : exec (.setmode ring pos) s = _ := next_congr (poolOp_acts hm ho hc)
    rw [hmode]
    exact ⟨fun h => next_congr (if_pos h), fun h => next_congr (if_neg h)⟩

/-! ## A drain ends (R307, R309) -/

variable {g : Drain} {n k : Nat}

theorem mark_setMark {i j : Nat} {m : Mark} : (s.setMark i m).mark j = if j = i then m else s.mark j := by
  unfold State.mark State.setMark
  dsimp only
  split
  next h => rw [h, tget_tput_same]
  next h => exact tget_tput_other _ h

/-- The marks of extents are cleared one by one. -/
theorem mark_cleared {l : List Nat} {j : Nat} (h : j ∈ l ∨ s.mark (k + j) = Mark.none) :
    (s.each l fun s i => s.setMark (k + i) Mark.none).mark (k + j) = Mark.none := by
  induction l generalizing s with
  | nil => exact h.resolve_left (by simp)
  | cons i l ih =>
    refine ih ?_
    by_cases hj : j = i
    · exact .inr (by rw [mark_setMark, if_pos (by rw [hj])])
    · rcases h with h | h
      · exact .inl ((List.mem_cons.1 h).resolve_left hj)
      · exact .inr (by rw [mark_setMark, h, ite_self])

theorem extent_setExtent {q : HostPort} {i j : Nat} {x : Extent} : (q.setExtent i x).extent j = if j = i then x else q.extent j := by
  unfold HostPort.extent HostPort.setExtent
  dsimp only
  split
  next h => rw [h, tget_tput_same]
  next h => exact tget_tput_other _ h

/-- The entries of a port are cleared one by one. -/
theorem extent_cleared {q : HostPort} {l : List Nat} {j : Nat} (h : j ∈ l ∨ q.extent (k + j) = Extent.none) :
    (l.foldl (fun q i => q.setExtent (k + i) Extent.none) q).extent (k + j) = Extent.none := by
  induction l generalizing q with
  | nil => exact h.resolve_left (by simp)
  | cons i l ih =>
    refine ih ?_
    by_cases hj : j = i
    · exact .inr (by rw [extent_setExtent, if_pos (by rw [hj])])
    · rcases h with h | h
      · exact .inl ((List.mem_cons.1 h).resolve_left hj)
      · exact .inr (by rw [extent_setExtent, h, ite_self])

/-- A drain is taken off the list, and the entries it drained are cleared. -/
def State.drained (s : State) (g : Drain) : State :=
  let u : State := { s with drains := dropIf (fun e => e.ring == g.ring && e.pos == g.pos) s.drains }
  if g.revoke then u.updPort g.port.toNat fun q => (List.range g.count).foldl (fun q i => q.setExtent (g.first + i) Extent.none) q
  else u.each (List.range g.count) fun s i => s.setMark (g.first + i) Mark.none

theorem touches_drained : Touches 5764607523034235136 s (s.drained g) := by
  unfold State.drained
  dsimp only
  split
  · exact (touches_updPort (by decide)).2 ((touches_set_drains (by decide)).2 .rfl)
  · exact (touches_each (by decide) fun _ _ => (touches_setMark (by decide)).2 .rfl).2 ((touches_set_drains (by decide)).2 .rfl)

theorem drains_drained : (s.drained g).drains = dropIf (fun e => e.ring == g.ring && e.pos == g.pos) s.drains := by
  unfold State.drained
  dsimp only
  split
  · rfl
  · exact ((touches_each (m := 1152921504606846976) (by decide) fun _ _ => (touches_setMark (by decide)).2 .rfl).2 .rfl .drains (by decide)).symm

theorem endDrain_clears : ∃ t : State, s.endDrain g = (if g.quiet then t
      else t.finish g.ring.toNat g.pos.toNat (Cpl.res St.done g.poisoned g.normal)) ∧
    (∀ e ∈ t.drains, ¬(e.ring = g.ring ∧ e.pos = g.pos)) ∧ t.regs = (s.count R.poolPoisonTotal g.poisoned).regs ∧
    (g.revoke = false → ∀ i < g.count, t.mark (g.first + i) = Mark.none) ∧
    (g.revoke = true → ∀ i < g.count, (t.port g.port.toNat).extent (g.first + i) = Extent.none) ∧
    KeepsBut [.drains, .marks, .ports, .regs] s t := by
  have hregs : (s.drained g).regs = s.regs := (touches_drained .regs (by decide)).symm
  refine ⟨(s.drained g).count R.poolPoisonTotal g.poisoned, rfl, fun e he => ?_, ?_, fun hr i hi => ?_, fun hr i hi => ?_,
    Touches.keeps (m := 5764607523034235264) _ ((touches_count (by decide)).2 (touches_drained.mono (by decide))) (by decide)⟩
  · have hmem : e ∈ (s.drained g).drains := he
    rw [drains_drained] at hmem
    rintro ⟨h1, h2⟩
    have hne := (List.mem_filter.1 hmem).2
    simp [h1, h2] at hne
  · show tput _ (s.drained g).regs _ _ = _
    unfold State.reg
    rw [hregs]
    rfl
  · show (s.drained g).mark (g.first + i) = Mark.none
    unfold State.drained
    dsimp only
    rw [if_neg (by simp [hr])]
    exact mark_cleared (.inl (List.mem_range.2 hi))
  · show ((s.drained g).port g.port.toNat).extent (g.first + i) = Extent.none
    unfold State.drained
    dsimp only
    rw [if_pos hr, port_updPort_same]
    exact extent_cleared (.inl (List.mem_range.2 hi))

/-! ## Timers and sweeps (R309) -/

/-- Is a drain a descriptor's? -/
def Drain.ownOf (r p : Nat) (d : Drain) : Bool := d.ring.toNat == r && d.pos.toNat == p

theorem revokeExpired_none (h : s.drains.find? (Drain.ownOf r p) = none) : s.revokeExpired r p = s := by
  unfold State.revokeExpired
  unfold Drain.ownOf at h
  rw [h]

section
variable (h : s.drains.find? (Drain.ownOf r p) = some g)
include h

theorem revokeExpired_revoke (hr : g.revoke = true) : s.revokeExpired r p =
    ((((s.port g.port.toNat).inflight.filter fun q => !q.dead && g.covers true g.port.toNat q.entry).foldl
      (fun s q => s.poisonHost g.port.toNat q) s).revokesEnd).runNet := by
  unfold State.revokeExpired
  unfold Drain.ownOf at h
  rw [h]
  exact if_pos hr

theorem revokeExpired_unmark (hr : g.revoke = false) : s.revokeExpired r p =
    (((s.homeWaits.map Prod.snd).flatten.filter fun w => reqChecked w.req && g.covers false 0 (extentOf (reqLine w.req))).foldl State.poisonWait
      (((s.txns.filter fun e => reqChecked e.2.req && !e.2.answered && g.covers false 0 (extentOf e.1)).map Prod.fst).foldl State.poisonTxn s)
      ).sweepStart.runNet := by
  unfold State.revokeExpired
  unfold Drain.ownOf at h
  rw [h]
  exact if_neg (by simp [hr])

end

theorem sweepDone_ends (hu : u = s.sweepStart.runNet) (h : u.drains.find? (Drain.ownOf r p) = some g) (hr : g.revoke = false) (hs : g.sweeping = true)
    (ht : t = ((u.dir.filter fun e => g.covers false 0 (extentOf e.1)).foldl (fun s e => s.recallLine e.1) u).runNet) :
    s.sweepDone r p = if (t.dir.any fun e => g.covers false 0 (extentOf e.1)) = true ∨ (t.txns.any fun e => g.covers false 0 (extentOf e.1)) = true then t
      else (t.endDrain g).runNet := by
  subst hu ht
  unfold State.sweepDone
  unfold Drain.ownOf at h
  dsimp only
  rw [h]
  exact if_neg (by simp [hr, hs])

/-! ## A switch of mode whose requests have drained (R316, R318) -/

section
variable {m : ModeSwitch} {port : Nat} (h : (s.modeSwitches.find? fun m => m.port.toNat == port) = some m) (hd : m.drained = false)
  (hi : (s.port port).inflight.all HostReq.dead = true)
include h hd hi

theorem modeDrained_eq : s.modeDrained port =
    if m.recalls then
      if s.recallOk port then (s.updPort port fun q => { q with hdir := [], hdirSeq := 0 }).modeEnd m true (Cpl.res St.done 0 0)
      else s.modeEnd m false (Cpl.why St.notOwner 4)
    else ((s.port port).hdir.foldl (fun s e => s.sendBi port e.1 false)
      (s.updMode port fun n => { n with drained := true, lines := (s.port port).hdir.length })).modeCheck port := by
  unfold State.modeDrained
  rw [h]
  exact if_neg (by simp [hd, hi])

end

theorem drainsAndSwitchesEnd : Claims.DrainsAndSwitchesEnd := by
  refine ⟨fun s g => endDrain_clears, fun s ring pos => ?_, fun s port m h hd hi => ?_⟩
  · refine ⟨fun h => next_congr (revokeExpired_none h), fun g h hr => next_congr (revokeExpired_revoke h hr),
      fun g h hr => next_congr (revokeExpired_unmark h hr), fun g h hr hs => ?_⟩
    have hdone := sweepDone_ends rfl h hr hs rfl
    exact ⟨fun hc => next_congr (hdone.trans (if_neg (by rw [hc.1, hc.2]; decide))),
      fun hc => next_congr (hdone.trans (if_pos (by rwa [Classical.not_and_iff_not_or_not, Bool.not_eq_false, Bool.not_eq_false] at hc)))⟩
  · have hmode := modeDrained_eq h hd hi
    exact ⟨fun hr ho => next_congr (hmode.trans ((if_pos hr).trans (if_pos ho))),
      fun hr ho => next_congr (hmode.trans ((if_pos hr).trans (if_neg (Bool.eq_false_iff.1 ho)))), fun hr => next_congr (hmode.trans (if_neg (Bool.eq_false_iff.1 hr)))⟩

/-- Settles O40: POOL descriptors by opcode and check, the end of a drain, its timer and sweep, and the end of a switch of mode. -/
theorem poolSharingRuns : Obligations.PoolSharingRuns := ⟨poolDescriptorsRun, drainsAndSwitchesEnd⟩

end Sys2Proof.Machine
end

section
/-! PROOF. A host's CXL.mem and configuration requests (R27, R233, R303, R312, R313, R316, R317, R376). -/

namespace Sys2Proof.Machine

variable {s u : State} {p l : Nat} {w v : HostWait}

/-- A device that boots serves a request at once. -/
theorem whenAwake_boot {cause : Nat} {c : Held} {act : State → State} (h : s.pwr.state = .boot) : s.whenAwake cause c act = act s := by
  unfold State.whenAwake
  rw [if_neg (by simp [h]), if_neg (by simp [State.asleep, h])]

/-! ## Admission and the bandwidth limit (R312, R313) -/

section
variable (hh : s.hostThere p = true) (hl : (s.port p).link = .up)
include hh hl

theorem cxlArrive_admits (hw : (s.port p).waiting = []) (ha : s.canAdmit p = true) : s.cxlArrive p w = (s.admitReq p w).runNet := by
  unfold State.cxlArrive
  dsimp only
  rw [if_neg (by simp [hh, hl]), if_pos (by simp [hw, ha])]

theorem cxlArrive_waits (h : (s.port p).waiting ≠ [] ∨ s.canAdmit p = false) :
    s.cxlArrive p w = (s.updPort p fun q => { q with waiting := q.waiting ++ [w] }).tokenWait p := by
  have hwait : ¬((s.port p).waiting.isEmpty && s.canAdmit p) = true := by
    rcases h with h | h
    · simp [h]
    · simp [h]
  unfold State.cxlArrive
  dsimp only
  rw [if_neg (by simp [hh, hl]), if_neg hwait]

end

/-- A request has joined those that wait at its port. -/
def State.queued (s : State) (p : Nat) (w : HostWait) : State := s.updPort p fun q => { q with waiting := q.waiting ++ [w] }

theorem port_queued : (s.queued p w).port p = { s.port p with waiting := (s.port p).waiting ++ [w] } := port_updPort_same

/-- Does what waits at a port not wait for tokens? -/
def State.unthrottled (s : State) (p : Nat) : Prop :=
  (s.port p).switching = true ∨ s.fenced 7 p = true ∨ s.limited p = false ∨ 64 ≤ (s.port p).tokens

theorem tokenWait_rests (h : s.unthrottled p) : (s.queued p w).tokenWait p = s.queued p w := by
  have hf : (s.queued p w).fenced 7 p = s.fenced 7 p := rfl
  have hlim : (s.queued p w).limited p = s.limited p := rfl
  unfold State.tokenWait
  rw [port_queued, hf, hlim]
  refine if_pos ?_
  rcases h with h | h | h | h <;> simp [h]

theorem tokenWait_throttles (h : ¬s.unthrottled p) : (s.queued p w).tokenWait p =
    ((s.queued p w).updPort p fun q => { q with throttled := true, counted := q.waiting.length }).count (R.poolThrottleTotal p)
      ((s.port p).waiting.length + 1 - (s.port p).counted) := by
  have hf : (s.queued p w).fenced 7 p = s.fenced 7 p := rfl
  have hlim : (s.queued p w).limited p = s.limited p := rfl
  have hlen : ((s.queued p w).port p).waiting.length - ((s.queued p w).port p).counted = (s.port p).waiting.length + 1 - (s.port p).counted := by
    rw [port_queued, List.length_append]
    rfl
  unfold State.unthrottled at h
  simp only [not_or, Bool.not_eq_true, Bool.not_eq_false, Nat.not_le] at h
  obtain ⟨h1, h2, h3, h4⟩ := h
  have hcond : ¬(((s.queued p w).port p).waiting.isEmpty || ((s.queued p w).port p).switching || (s.queued p w).fenced 7 p ||
      !(s.queued p w).limited p || decide (64 ≤ ((s.queued p w).port p).tokens)) = true := by
    rw [port_queued, hf, hlim]
    simp [h1, h2, h3]
    omega
  unfold State.tokenWait
  rw [if_neg hcond, hlen]

theorem admitNext_next {rest : List HostWait} (h : (s.port p).waiting = v :: rest) : s.admitNext p =
    (if s.canAdmit p then ((s.updPort p fun q => { q with waiting := rest, counted := q.counted - 1 }).admitReq p v).runNet else s).tokenWait p := by
  unfold State.admitNext
  rw [h]

theorem throttleOver_ends (h : (s.port p).counted = 0 ∨ s.limited p = false) :
    s.throttleOver p = s.updPort p fun q => { q with throttled := false } :=
  if_neg fun ⟨h1, h2⟩ => h.elim h1 fun h => by simp [h] at h2

theorem cxlGo_refused (h : s.cxlRoute p w = none) : s.cxlGo p w = (s.count (R.poolRefusedTotal p)).emit
    (if w.write then .cxlDone (BitVec.ofNat 2 p) w.tag else .cxlData (BitVec.ofNat 2 p) w.tag 0 true) := by
  unfold State.cxlGo
  rw [h]
  rfl

/-! ## Back-Invalidates (R316, R317) -/

theorem txnOn_poolWrite {n : Nat} {bs : List Byte} : (s.poolWrite n bs).txnOn l = s.txnOn l := by
  have h := ((touches_poolWrite (Nat.and_self _)).2 .rfl : Touches _ s (s.poolWrite n bs)) .txns (by decide)
  exact congrArg (fun x => (x.find? fun e => e.2.lines.contains l).map Prod.fst) h.symm

section
variable {b : BackInv} (h : ((s.port p).bis.find? fun b => b.line == l) = some b)
include h

theorem biAnswer_clean {data : Line} : s.biAnswer p l false data = s.biOver p b b.keep := by
  unfold State.biAnswer
  rw [h]
  rfl

theorem biAnswer_dirty {data : Line} (hu : u = if s.meetsRegion (64 * l) 64 then s else s.poolWrite (64 * l) (lineBytes data)) :
    s.biAnswer p l true data = (if (s.txnOn l).isSome then u else u.recallLine l).biOver p b b.keep := by
  have ht : u.txnOn l = s.txnOn l := by
    subst hu
    split
    · rfl
    · exact txnOn_poolWrite
  rw [← ht]
  subst hu
  unfold State.biAnswer
  rw [h]
  rfl

theorem biLate_poisons (hu : u = (s.count R.poolBiTimeoutTotal).record { ErrRec.plain 4 7 p 5 with status := St.timeout, addr := s.fpaOf (64 * l) }) :
    s.biLate p l = (if b.exclusive then
      (u.setPoison l true).updMode p fun m => if m.drained then { m with poisoned := m.poisoned + 1 } else m else u).biOver p b false := by
  subst hu
  unfold State.biLate
  rw [h]

end

/-! ## Decoders and configuration (R27, R233, R376) -/

section
variable (hh : s.hostThere p = true) (hl : (s.port p).link = .up)
include hh hl

theorem decoderCommit_sets {d ways : Nat} {base size : Word} {bi commit : Bool} : s.decoderCommit p d base size ways bi commit =
    let ok := ways == 1 && base.toNat % 2 ^ 30 == 0 && size.toNat % 2 ^ 30 == 0 && decide (size.toNat ≤ 2 ^ 46)
    s.updPort p fun q => { q with decoders := tput (fun _ => Decoder.off) q.decoders d { base, size, committed := commit && ok, error := commit && !ok, bi } } := by
  unfold State.decoderCommit
  exact if_neg (by simp [hh, hl])

theorem configRequest_retry {c : CfgReq} (h : s.idValid = false) : s.configRequest p c = s.emit (.cfgRetry (BitVec.ofNat 2 p)) := by
  unfold State.configRequest
  dsimp only
  rw [if_neg (by simp [hh, hl])]
  exact if_pos (by simp [h])

variable (hid : s.idValid = true)
include hid

theorem configRequest_busMaster {on : Bool} : s.configRequest p (.busMaster on) =
    (s.updPort p fun q => { q with busMaster := on }).emit (.cfgDone (BitVec.ofNat 2 p) 0) := by
  unfold State.configRequest
  dsimp only
  rw [if_neg (by simp [hh, hl]), if_neg (by simp [hid])]

theorem configRequest_fixed {item : CfgItem} {x : BitVec 32} (h : configFixed item = some x) :
    s.configRequest p (.read item) = s.emit (.cfgDone (BitVec.ofNat 2 p) x) := by
  unfold State.configRequest
  dsimp only
  rw [if_neg (by simp [hh, hl]), if_neg (by simp [hid]), h]

theorem configRequest_free {item : CfgItem} (h : configFixed item = none) : s.configRequest p (.read item) =
    State.emit { s with free := s.free + 1 } (.cfgDone (BitVec.ofNat 2 p) ((Config.freeWord s.free).setWidth 32)) := by
  unfold State.configRequest
  dsimp only
  rw [if_neg (by simp [hh, hl]), if_neg (by simp [hid]), h]
  rfl

end

/-- Settles O41: a request's admission by its port's bucket and mode, a Back-Invalidate's end, a decoder's commit, and a configuration request. -/
theorem hostAccessesAreServed : Obligations.HostAccessesAreServed := by
  refine ⟨fun s port hpa copy data tag c w hon hh hl hc => ?_, fun s p w h => cxlGo_refused h, fun s port line b h => ?_, fun s port hon hh hl => ?_,
    fun s port req hb hh hl => ?_⟩
  · have hserve : exec c s = .next (s.cxlArrive port.toNat w) := by
      simp only [List.mem_cons, List.not_mem_nil, or_false, Prod.mk.injEq] at hc
      rcases hc with ⟨rfl, rfl⟩ | ⟨rfl, rfl⟩ <;> exact next_congr (whenAwake_on hon)
    rw [hserve]
    intro p q admitted
    refine ⟨fun hw ha => next_congr (cxlArrive_admits hh hl hw ha), fun hn => ?_, fun v rest hw => ⟨fun ha => ?_, fun ha => ?_⟩,
      fun h => next_congr (throttleOver_ends h)⟩
    · have hwait : s.cxlArrive p w = (s.queued p w).tokenWait p := cxlArrive_waits hh hl hn
      rw [hwait]
      refine ⟨fun ht => ?_, fun h1 h2 h3 h4 => ?_⟩
      · have ht : s.unthrottled p := by
          unfold State.unthrottled
          exact ht
        exact next_congr (tokenWait_rests ht)
      have ht : ¬s.unthrottled p := by
        simp only [State.unthrottled, not_or, Bool.not_eq_true, Bool.not_eq_false, Nat.not_le]
        exact ⟨h1, h2, h3, h4⟩
      exact next_congr (tokenWait_throttles ht)
    · exact next_congr ((admitNext_next hw).trans (congrArg (State.tokenWait · port.toNat) (if_pos ha)))
    · exact next_congr ((admitNext_next hw).trans (congrArg (State.tokenWait · port.toNat) (if_neg (Bool.eq_false_iff.1 ha))))
  · refine ⟨fun data => next_congr (biAnswer_clean h), fun data => ?_, ?_⟩
    · intro u
      have hserve : exec (.birsp port line true data) s = .next (s.biAnswer port.toNat line.toNat true data) := rfl
      rw [hserve, biAnswer_dirty (u := u) h (Eq.refl _)]
    · intro u v
      have hserve : exec (.backInvalidateTimeout port line) s = .next (s.biLate port.toNat line.toNat) := rfl
      rw [hserve, biLate_poisons (u := u) h (Eq.refl _)]
  · have hid : s.idValid = true := by simp [State.idValid, hon]
    have hport : BitVec.ofNat 2 port.toNat = port := (BitVec.ofNat_toNat 2 port).trans (BitVec.setWidth_eq port)
    have hserve (c : CfgReq) : exec (.hostConfigRequest port c) s = .next (s.configRequest port.toNat c) := next_congr (whenAwake_on hon)
    simp only [hserve]
    refine ⟨fun decoder base size ways bi commit => next_congr (decoderCommit_sets hh hl), fun on => ?_, fun item v hv => ?_, fun off => ?_,
      rfl, rfl, rfl, rfl, rfl⟩
    · rw [configRequest_busMaster hh hl hid, hport]
    · rw [configRequest_fixed hh hl hid hv, hport]
    · rw [configRequest_free hh hl hid rfl, hport]
  · have hid : s.idValid = false := by simp [State.idValid, hb]
    have hport : BitVec.ofNat 2 port.toNat = port := (BitVec.ofNat_toNat 2 port).trans (BitVec.setWidth_eq port)
    have hserve : exec (.hostConfigRequest port req) s = .next (s.configRequest port.toNat req) :=
      next_congr (whenAwake_boot hb)
    rw [hserve, configRequest_retry hh hl hid, hport]

end Sys2Proof.Machine
end

section
/-! PROOF. Loads, stores, atomics, LINV and FENCE as a voice issues them (R79, R182, R183, R185, R193, R195, R196, R198). -/

namespace Sys2Proof.Machine

variable {s : State} {v : Nat} {f : Fields}

/-! ## The slot of an access (R79) -/

/-- The slots a voice's outstanding accesses have. -/
def Voice.slots (x : Voice) : List Nat := x.out.map fun b => b.slot.toNat

/-- With fewer than four accesses outstanding a slot is free. -/
theorem slot_free {x : Voice} (h : x.out.length < 4) : ∃ i < 4, (x.out.any fun b => b.slot.toNat == i) = false := by
  refine Classical.byContradiction fun hall => ?_
  simp only [not_exists, not_and, Bool.not_eq_false] at hall
  have hsub : List.range 4 ⊆ x.slots := by
    intro i hi
    obtain ⟨b, hb, hbi⟩ := List.any_eq_true.1 (hall i (List.mem_range.1 hi))
    exact List.mem_map.2 ⟨b, hb, by simpa using hbi⟩
  have hlen : (List.range 4).length ≤ x.slots.length := List.Nodup.length_le_of_subset List.nodup_range hsub
  simp [Voice.slots] at hlen
  omega

theorem slot_least {x : Voice} (h : x.out.length < 4) : ∃ i : BitVec 2, (∀ b ∈ x.out, b.slot ≠ i) ∧
    least (fun i => !(x.out.any fun b => b.slot.toNat == i)) 4 = some i.toNat := by
  obtain ⟨i, hi, hfree⟩ := slot_free h
  cases hl : least (fun i => !(x.out.any fun b => b.slot.toNat == i)) 4 with
  | none =>
    have hused := List.find?_eq_none.1 hl i (List.mem_range.2 hi)
    rw [hfree] at hused
    exact absurd rfl hused
  | some j =>
    have hj : j < 4 := List.mem_range.1 (List.mem_of_find?_eq_some hl)
    have hto : (BitVec.ofNat 2 j).toNat = j := by rw [BitVec.toNat_ofNat]; omega
    have hunused : (x.out.any fun b => b.slot.toNat == j) = false := by
      have hp := List.find?_some hl
      rwa [Bool.not_eq_true'] at hp
    refine ⟨BitVec.ofNat 2 j, fun b hb he => ?_, by rw [hto]⟩
    have hb := List.any_eq_false.1 hunused b hb
    simp [he, hto] at hb

/-! ## Issue (R79) -/

/-- An access joins those of its voice. -/
def Voice.issued (x : Voice) (a : Access) (i : BitVec 2) : Voice :=
  { x with out := x.out ++ [{ a with slot := i, own := x.slot, sentence := x.sentence, tenant := x.tenant }], pc := x.pc + 8 }

/-- The access has been issued: it is in its voice under a slot none of the others has, and is translated. -/
def State.issues (s t : State) (v : Nat) (a : Access) : Prop :=
  ∃ i : BitVec 2, (∀ b ∈ (s.voice v).out, b.slot ≠ i) ∧ t = ((s.setVoice v ((s.voice v).issued a i)).translateAccess v i).runNet

theorem issueAccess_issues {a : Access} (hl : (s.voice v).loaded = true) (hn : s.hasNext v) (hlen : (s.voice v).out.length < 4)
    (hstall : (s.voice v).stall = none) (hord : (s.voice v).out.any Access.ord = false) (ha : a.ord = false ∨ (s.voice v).out = []) :
    s.issues (s.issueAccess v a) v a := by
  obtain ⟨i, hi, hleast⟩ := slot_least hlen
  refine ⟨i, hi, ?_⟩
  have hgo : ¬((s.voice v).stall.isSome = true ∨ (s.voice v).out.any Access.ord = true ∨ (a.ord = true ∧ (!(s.voice v).out.isEmpty) = true)) := by
    rcases ha with ha | ha <;> simp [hstall, hord, ha]
  have hslot : BitVec.ofNat 2 i.toNat = i := (BitVec.ofNat_toNat 2 i).trans (BitVec.setWidth_eq i)
  unfold State.issueAccess
  dsimp only
  rw [if_neg hgo, if_neg (by omega), hleast]
  dsimp only
  rw [hslot, State.updVoice, advance_setVoice (by exact hl) (by exact hn)]
  rfl

theorem issueAccess_stalls {a : Access} (hlen : 4 ≤ (s.voice v).out.length) (hstall : (s.voice v).stall = none)
    (hord : (s.voice v).out.any Access.ord = false) (ha : a.ord = false) :
    s.issueAccess v a = s.setVoice v { s.voice v with stall := (s.voice v).out.head?.map Access.slot } := by
  unfold State.issueAccess
  dsimp only
  rw [if_neg (by simp [hstall, hord, ha]), if_pos hlen]

theorem issueAccess_waits {a : Access} (h : ¬((s.voice v).stall = none ∧ (s.voice v).out.any Access.ord = false) ∨
    (a.ord = true ∧ (s.voice v).out ≠ [])) : s.issueAccess v a = s := by
  have hwait : (s.voice v).stall.isSome = true ∨ (s.voice v).out.any Access.ord = true ∨ (a.ord = true ∧ (!(s.voice v).out.isEmpty) = true) := by
    rcases h with h | ⟨h1, h2⟩
    · cases hs : (s.voice v).stall with
      | some b => exact .inl rfl
      | none => exact .inr (.inl (by simpa [hs] using h))
    · exact .inr (.inr ⟨h1, by simp [h2]⟩)
  unfold State.issueAccess
  dsimp only
  rw [if_pos hwait]

/-! ## Loads, stores and atomics (R182, R183, R185, R193, R195, R198) -/

/-- What a scalar load or store of kind k issues. -/
def Voice.scalarAcc (x : Voice) (f : Fields) (k : AccKind) : Access :=
  { Access.blank k f (poolAddr x f) (accWidth f) with data := BitVec.ofNat 2048 ((x.xr f.b.toNat).toNat % 2 ^ (8 * accWidth f)) }

/-- What a vector load or store of kind k issues. -/
def Voice.vectorAcc (x : Voice) (f : Fields) (k : AccKind) : Access := { Access.blank k f (poolAddr x f) 256 with data := x.vr f.b.toNat }

/-- How many bytes an atomic acts on (R198). -/
def atomicWidth (f : Fields) : Nat := if bit f.imm 0 then 8 else 4

/-- What an atomic of kind k issues. -/
def Voice.atomicAcc (x : Voice) (f : Fields) (k : AccKind) : Access :=
  { Access.blank k f (x.xr f.a.toNat) (atomicWidth f) with
    data := BitVec.ofNat 2048 ((x.xr f.b.toNat).toNat % 2 ^ (8 * atomicWidth f))
    cmp := BitVec.ofNat 64 ((x.xr f.c.toNat).toNat % 2 ^ (8 * atomicWidth f)) }

section Issue

variable (hi : s.issuing v f) {k : AccKind} {rs : List (BitVec 5)} (hrs : ∀ r ∈ rs, r ∈ [f.d, f.a, f.b, f.c])
include hi hrs

theorem scalarAccess_aligned (h : (poolAddr (s.voice v) f).toNat % accWidth f = 0) :
    s.scalarAccess v f k rs = s.issueAccess v ((s.voice v).scalarAcc f k) := by
  rw [State.scalarAccess, issue_issuing hi hrs (by simp)]
  exact if_neg (Classical.not_not.2 h)

theorem scalarAccess_misaligned (h : (poolAddr (s.voice v) f).toNat % accWidth f ≠ 0) : s.scalarAccess v f k rs = s.voiceFault v 8 := by
  rw [State.scalarAccess, issue_issuing hi hrs (by simp)]
  exact if_pos h

theorem vectorAccess_aligned (h : (poolAddr (s.voice v) f).toNat % 256 = 0) :
    s.vectorAccess v f k rs = s.issueAccess v ((s.voice v).vectorAcc f k) := by
  rw [State.vectorAccess, issue_issuing hi (by simp) hrs]
  exact if_neg (Classical.not_not.2 h)

theorem vectorAccess_misaligned (h : (poolAddr (s.voice v) f).toNat % 256 ≠ 0) : s.vectorAccess v f k rs = s.voiceFault v 8 := by
  rw [State.vectorAccess, issue_issuing hi (by simp) hrs]
  exact if_pos h

theorem atomic_issues (hscope : f.mod.toNat % 8 ≤ 4) (h : ((s.voice v).xr f.a.toNat).toNat % atomicWidth f = 0) :
    s.atomic v f k rs = s.issueAccess v ((s.voice v).atomicAcc f k) := by
  rw [State.atomic, issue_issuing hi (by simpa using hrs) (by simp)]
  dsimp only
  rw [if_neg (Nat.not_lt.2 hscope)]
  exact if_neg (Classical.not_not.2 h)

theorem atomic_reserved (hscope : 4 < f.mod.toNat % 8) : s.atomic v f k rs = s.voiceFault v 2 := by
  rw [State.atomic, issue_issuing hi (by simpa using hrs) (by simp)]
  exact if_pos hscope

theorem atomic_misaligned (hscope : f.mod.toNat % 8 ≤ 4) (h : ((s.voice v).xr f.a.toNat).toNat % atomicWidth f ≠ 0) :
    s.atomic v f k rs = s.voiceFault v 8 := by
  rw [State.atomic, issue_issuing hi (by simpa using hrs) (by simp)]
  dsimp only
  rw [if_neg (Nat.not_lt.2 hscope)]
  exact if_pos h

end Issue

/-- A range of n bytes from a on is of at most 64 KiB, and lies in one 64 KiB span (R193). -/
def oneSpan (a n : Nat) : Prop := 1 ≤ n ∧ n ≤ 65536 ∧ a / 65536 = (a + n - 1) / 65536

section Order

variable (hi : s.issuing v f)
include hi

theorem linv_issues (h : oneSpan ((s.voice v).xr f.a.toNat).toNat ((s.voice v).xr f.b.toNat).toNat) :
    s.linv v f = s.issueAccess v (Access.blank .linv f ((s.voice v).xr f.a.toNat) ((s.voice v).xr f.b.toNat).toNat) := by
  obtain ⟨h1, h2, h3⟩ := h
  rw [State.linv, issue_issuing hi (by simp) (by simp)]
  dsimp only
  rw [if_neg (by omega), BitVec.ofNat_toNat, BitVec.setWidth_eq]

theorem linv_faults (h : ¬oneSpan ((s.voice v).xr f.a.toNat).toNat ((s.voice v).xr f.b.toNat).toNat) : s.linv v f = s.voiceFault v 7 := by
  rw [State.linv, issue_issuing hi (by simp) (by simp)]
  unfold oneSpan at h
  exact if_pos (by omega)

theorem fence_reserved (h : 4 < f.mod.toNat % 8 ∨ f.imm.toNat % 4 = 0) : s.fence v f = s.voiceFault v 2 := by
  rw [State.fence, issue_issuing hi (by simp) (by simp)]
  exact if_pos h

/-- Does a FENCE wait for an access that is outstanding (R195, R196)? -/
def Voice.fenceWaits (x : Voice) (f : Fields) : Bool :=
  if f.imm.toNat % 4 = 1 then x.out.any fun a => a.kind.toX || a.kind.toV else !x.out.isEmpty

variable (hscope : f.mod.toNat % 8 ≤ 4) (hkind : f.imm.toNat % 4 ≠ 0)
include hscope hkind

theorem fence_waits (h : (s.voice v).fenceWaits f = true) : s.fence v f = s := by
  rw [State.fence, issue_issuing hi (by simp) (by simp)]
  dsimp only
  rw [if_neg (by omega)]
  exact if_pos h

theorem fence_goes (hn : s.hasNext v) (h : (s.voice v).fenceWaits f = false) (ho : f.imm.toNat % 4 = 1 ∨ f.mod.toNat % 8 < 3) :
    s.fence v f = s.setVoice v { s.voice v with pc := (s.voice v).pc + 8 } := by
  have hinner : decide (1 < f.imm.toNat % 4 ∧ 3 ≤ f.mod.toNat % 8) = false := decide_eq_false (by omega)
  rw [State.fence, issue_issuing hi (by simp) (by simp)]
  dsimp only
  rw [if_neg (by omega)]
  refine (if_neg (Bool.eq_false_iff.1 h)).trans ?_
  rw [hinner]
  exact advance_set hn

omit hkind in
theorem fence_flushes (h : (s.voice v).fenceWaits f = false) (h1 : 1 < f.imm.toNat % 4) (h3 : 3 ≤ f.mod.toNat % 8) :
    s.fence v f = let u := (s.abufFlush (galleryOf v)).runNet
      if u.abufEmpty (galleryOf v) then u.advance v else u := by
  have houter : decide (1 < f.imm.toNat % 4 ∧ 3 ≤ f.mod.toNat % 8) = true := decide_eq_true ⟨h1, h3⟩
  rw [State.fence, issue_issuing hi (by simp) (by simp)]
  dsimp only
  rw [if_neg (by omega)]
  refine (if_neg (Bool.eq_false_iff.1 h)).trans ?_
  rw [houter]
  generalize (s.abufFlush (galleryOf v)).runNet = u
  cases he : u.abufEmpty (galleryOf v) <;> simp [he]

end Order

/-! ## The obligation -/

/-- The access a command issues has joined its voice's. -/
def State.execIssues (s : State) (c : Instr) (v : Nat) (a : Access) : Prop :=
  ∃ i : BitVec 2, (∀ b ∈ (s.voice v).out, b.slot ≠ i) ∧
    exec c s = .next (((s.setVoice v ((s.voice v).issued a i)).translateAccess v i).runNet)

theorem execIssues_of {c : Instr} {a : Access} {t : State} (hc : exec c s = .next t) (ht : t = s.issueAccess v a) (hl : (s.voice v).loaded = true)
    (hn : s.hasNext v) (hlen : (s.voice v).out.length < 4) (hfree : (s.voice v).stall = none ∧ (s.voice v).out.any Access.ord = false)
    (ha : a.ord = false ∨ (s.voice v).out = []) : s.execIssues c v a := by
  obtain ⟨i, hi, hgo⟩ := issueAccess_issues hl hn hlen hfree.1 hfree.2 ha
  exact ⟨i, hi, hc.trans (next_congr (ht.trans hgo))⟩

theorem poolLoadsAndStoresIssue : Claims.PoolLoadsAndStoresIssue := by
  intro s v f hi x dva n issued scalar vector free
  have hl : (s.voice v.toNat).loaded = true := hi.1
  refine ⟨fun hn hlen hfree => ⟨fun h => ?_, fun h => ?_⟩, fun c k hc h => ?_, fun h c hc => ?_, fun h c hc => ?_⟩
  · exact ⟨execIssues_of rfl (scalarAccess_aligned hi (by simp) h) hl hn hlen hfree (.inl rfl),
      execIssues_of rfl (scalarAccess_aligned hi (by simp) h) hl hn hlen hfree (.inl rfl),
      execIssues_of rfl (scalarAccess_aligned hi (by simp) h) hl hn hlen hfree (.inl rfl)⟩
  · exact ⟨execIssues_of rfl (vectorAccess_aligned hi (by simp) h) hl hn hlen hfree (.inl rfl),
      execIssues_of rfl (vectorAccess_aligned hi (by simp) h) hl hn hlen hfree (.inl rfl),
      execIssues_of rfl (vectorAccess_aligned hi (by simp) h) hl hn hlen hfree (.inl rfl)⟩
  · have hrun : ∃ a : Access, a.ord = false ∧ exec c s = .next (s.issueAccess v.toNat a) := by
      simp only [List.mem_cons, List.not_mem_nil, or_false, Prod.mk.injEq] at hc
      rcases hc with ⟨rfl, rfl⟩ | ⟨rfl, rfl⟩ | ⟨rfl, rfl⟩ | ⟨rfl, rfl⟩ | ⟨rfl, rfl⟩ | ⟨rfl, rfl⟩
      · exact ⟨_, rfl, next_congr (scalarAccess_aligned hi (by simp) h)⟩
      · exact ⟨_, rfl, next_congr (scalarAccess_aligned hi (by simp) h)⟩
      · exact ⟨_, rfl, next_congr (scalarAccess_aligned hi (by simp) h)⟩
      · exact ⟨_, rfl, next_congr (vectorAccess_aligned hi (by simp) h)⟩
      · exact ⟨_, rfl, next_congr (vectorAccess_aligned hi (by simp) h)⟩
      · exact ⟨_, rfl, next_congr (vectorAccess_aligned hi (by simp) h)⟩
    obtain ⟨a, ha, hrun⟩ := hrun
    exact ⟨fun hlen hfree => hrun.trans (next_congr (issueAccess_stalls hlen hfree.1 hfree.2 ha)),
      fun hfree => hrun.trans (next_congr (issueAccess_waits (.inl hfree)))⟩
  · simp only [List.mem_cons, List.not_mem_nil, or_false] at hc
    rcases hc with rfl | rfl | rfl <;> exact next_congr (scalarAccess_misaligned hi (by simp) h)
  · simp only [List.mem_cons, List.not_mem_nil, or_false] at hc
    rcases hc with rfl | rfl | rfl <;> exact next_congr (vectorAccess_misaligned hi (by simp) h)

/-- The instructions of R198, each with its kind of access. -/
def atomicInstrs (v : VoiceId) (f : Fields) : List (Instr × AccKind) :=
  [(.aadd v f, .aadd), (.aswp v f, .aswp), (.acas v f, .acas), (.amin v f, .amin), (.amax v f, .amax), (.alda v f, .alda), (.astr v f, .astr)]

/-- Each of them runs its voice's atomic, whose registers are among its fields', and its access is ordered as MOD[3] says. -/
theorem atomicInstrs_run {v : VoiceId} {e : Instr × AccKind} (h : e ∈ atomicInstrs v f) :
    (∃ rs : List (BitVec 5), (∀ r ∈ rs, r ∈ [f.d, f.a, f.b, f.c]) ∧ exec e.1 s = .next (s.atomic v.toNat f e.2 rs)) ∧
      ∀ x : Voice, (x.atomicAcc f e.2).ord = bit f.mod 3 := by
  simp only [atomicInstrs, List.mem_cons, List.not_mem_nil, or_false] at h
  rcases h with rfl | rfl | rfl | rfl | rfl | rfl | rfl
  · exact ⟨⟨_, by simp, rfl⟩, fun x => rfl⟩
  · exact ⟨⟨_, by simp, rfl⟩, fun x => rfl⟩
  · exact ⟨⟨_, by simp, rfl⟩, fun x => rfl⟩
  · exact ⟨⟨_, by simp, rfl⟩, fun x => rfl⟩
  · exact ⟨⟨_, by simp, rfl⟩, fun x => rfl⟩
  · exact ⟨⟨_, by simp, rfl⟩, fun x => rfl⟩
  · exact ⟨⟨_, by simp, rfl⟩, fun x => rfl⟩

theorem atomicsIssue : Claims.AtomicsIssue := by
  intro s v f hi x a b n issued atomic atomics span free
  have hl : (s.voice v.toNat).loaded = true := hi.1
  refine ⟨fun hn hlen hfree hord hs ha e he => ?_, fun hn hout hstall hord hs ha e he => ?_, fun hout hord hs ha e he => ?_, fun hs e he => ?_,
    fun hs ha e he => ?_, fun hn hlen hfree h => ?_, fun h => next_congr (linv_faults hi h)⟩
  · obtain ⟨⟨rs, hrs, hrun⟩, hacc⟩ := atomicInstrs_run (s := s) he
    exact execIssues_of hrun (atomic_issues hi hrs hs ha) hl hn hlen hfree (.inl ((hacc _).trans hord))
  · obtain ⟨⟨rs, hrs, hrun⟩, hacc⟩ := atomicInstrs_run (s := s) he
    have hout : (s.voice v.toNat).out = [] := hout
    exact execIssues_of hrun (atomic_issues hi hrs hs ha) hl hn (by simp [hout]) ⟨hstall, by simp [hout]⟩ (.inr hout)
  · obtain ⟨⟨rs, hrs, hrun⟩, hacc⟩ := atomicInstrs_run (s := s) he
    exact hrun.trans (next_congr ((atomic_issues hi hrs hs ha).trans (issueAccess_waits (.inr ⟨(hacc _).trans hord, hout⟩))))
  · obtain ⟨⟨rs, hrs, hrun⟩, -⟩ := atomicInstrs_run (s := s) he
    exact hrun.trans (next_congr (atomic_reserved hi hrs hs))
  · obtain ⟨⟨rs, hrs, hrun⟩, -⟩ := atomicInstrs_run (s := s) he
    exact hrun.trans (next_congr (atomic_misaligned hi hrs hs ha))
  · exact execIssues_of rfl (linv_issues hi h) hl hn hlen hfree (.inl rfl)

theorem fenceOrders : Claims.FenceOrders := by
  intro s v f hi x scope kind goes reads
  have hacq (h : kind = 1) : (s.voice v.toNat).fenceWaits f = reads := if_pos h
  have hrel (h : 1 < kind) : (s.voice v.toNat).fenceWaits f = !(s.voice v.toNat).out.isEmpty := if_neg (by omega)
  refine ⟨fun hn hs hk hr => ?_, fun hn hs hk ho => ?_, fun hs hk hr => ?_, fun hs hk ho => ?_, fun h3 hs hk ho => ?_,
    fun h => next_congr (fence_reserved hi h)⟩
  · exact next_congr (fence_goes hi hs (by omega) hn ((hacq hk).trans hr) (.inl hk))
  · exact next_congr (fence_goes hi (by omega) (by omega) hn ((hrel hk).trans (by simp [show (s.voice v.toNat).out = [] from ho])) (.inr hs))
  · exact next_congr (fence_waits hi hs (by omega) ((hacq hk).trans hr))
  · exact next_congr (fence_waits hi hs (by omega) ((hrel hk).trans (by simpa using ho)))
  · exact next_congr (fence_flushes hi hs ((hrel hk).trans (by simp [show (s.voice v.toNat).out = [] from ho])) hk h3)

/-- Settles O8: an access that passes its instruction's checks joins its voice's under a free slot, waits, or is refused with the voice's
fault; a FENCE waits for what it orders. -/
theorem poolAccessesIssue : Obligations.PoolAccessesIssue :=
  ⟨poolLoadsAndStoresIssue, atomicsIssue, fenceOrders⟩

end Sys2Proof.Machine
end

section
/-! PROOF. The end of a voice's access, and what it leaves (R79, R84, R193, R196, R198, R199, R409). -/

namespace Sys2Proof.Machine

variable {s : State} {v g l : Nat} {slot : BitVec 2} {a : Access}

/-! ## Nothing is left to do before an access completes -/

/-- What R79 and R196 let a completing access wait for is there: it is translated, its lines have come, and nothing is before it. -/
structure State.completes (s : State) (v : Nat) (slot : BitVec 2) (a : Access) : Prop where
  found : s.access v slot = some a
  net : s.net = []
  engineQ : s.engineQ = []
  ready : a.ready = true
  first : (s.voice v).blocked a = false
  unfenced : s.fenced 2 (galleryOf v) = false
  released : s.releases (galleryOf v) a = false
  lines : ∀ l ∈ a.lines, s.lineReady (galleryOf v) a l = true
  room : a.kind.atomic = true → a.outer = false → ∀ l ∈ a.lines, s.abufRoom (galleryOf v) l = true

/-- None of the lines a LINV names is cached, or on its way to the cache. -/
def State.dropped (s : State) (g : Nat) (a : Access) : Prop :=
  ∀ l ∈ a.lines, (s.gline g l).state = .i ∧ s.victimLine g l = none ∧ s.requestFor g l = none

theorem askLine_ready (h : s.lineReady (galleryOf v) a l = true) : s.askLine v a l = s := if_pos (by simp [h])

theorem evictLine_none (h : (s.gline g l).state = .i) : s.evictLine g l = s := by
  have hgive : s.giveUp g l = s := by
    unfold State.giveUp
    dsimp only
    rw [h]
  unfold State.evictLine
  rw [hgive, ite_self]

theorem abufMakeRoom_room (h : s.abufRoom g l = true) : s.abufMakeRoom g l = s := if_pos h

section
variable (h : s.completes v slot a)
include h

theorem pump_rests : s.pump v slot = s := by
  unfold State.pump
  rw [h.found]
  dsimp only
  rw [if_neg (by simp [h.ready, h.first]), if_neg (by simp [h.released])]
  exact each_keeps fun l hl => askLine_ready (h.lines l hl)

theorem evictions_rest (hd : a.kind = .linv → a.tgt = false → s.dropped (galleryOf v) a) :
    (if a.kind = .linv ∧ (!a.tgt) = true then (s.each a.lines fun s l => s.evictLine (galleryOf v) l).runNet else s) = s := by
  split
  next hk =>
    have htgt : a.tgt = false := by simpa using hk.2
    have heach : (s.each a.lines fun s l => s.evictLine (galleryOf v) l) = s :=
      each_keeps fun l hl => evictLine_none (hd hk.1 htgt l hl).1
    rw [heach]
    exact settleNet_empty h.net h.engineQ
  next => rfl

omit h in
theorem stays_none (hd : a.kind = .linv → a.tgt = false → s.dropped (galleryOf v) a) :
    (a.kind == .linv && !a.tgt && a.lines.any fun l => (s.gline (galleryOf v) l).state != .i || (s.victimLine (galleryOf v) l).isSome ||
      (s.requestFor (galleryOf v) l).isSome) = false := by
  by_cases hk : a.kind = .linv ∧ a.tgt = false
  · have hany : (a.lines.any fun l => (s.gline (galleryOf v) l).state != .i || (s.victimLine (galleryOf v) l).isSome ||
        (s.requestFor (galleryOf v) l).isSome) = false := by
      refine List.any_eq_false.2 fun l hl => ?_
      obtain ⟨h1, h2, h3⟩ := hd hk.1 hk.2 l hl
      simp [h1, h2, h3]
    rw [hany, Bool.and_false]
  · have hneg : (a.kind == .linv && !a.tgt) = false := by
      rw [Bool.and_eq_false_iff]
      by_cases hkind : a.kind = .linv
      · exact .inr (by simpa [hkind] using hk)
      · exact .inl (by simpa using hkind)
    rw [hneg, Bool.false_and]

theorem rooms_rest : (if (a.kind.atomic && !a.outer) = true then (s.each a.lines fun s l => s.abufMakeRoom (galleryOf v) l).runNet else s) = s := by
  split
  next hk =>
    simp only [Bool.and_eq_true, Bool.not_eq_true'] at hk
    have heach : (s.each a.lines fun s l => s.abufMakeRoom (galleryOf v) l) = s :=
      each_keeps fun l hl => abufMakeRoom_room (h.room hk.1 hk.2 l hl)
    rw [heach]
    exact settleNet_empty h.net h.engineQ
  next => rfl

theorem lines_room : (a.lines.all fun l => s.lineReady (galleryOf v) a l && (!(a.kind.atomic && !a.outer) || s.abufRoom (galleryOf v) l)) = true := by
  refine List.all_eq_true.2 fun l hl => ?_
  rw [h.lines l hl, Bool.true_and]
  cases hk : a.kind.atomic with
  | false => rfl
  | true =>
    cases ho : a.outer with
    | true => rfl
    | false => simp [h.room hk ho l hl]

/-- An access within its bound completes: it is performed, and what waited in its gallery goes on. -/
theorem accessComplete_performs {measured bound : Nat} (hb : measured ≤ bound) (hd : a.kind = .linv → a.tgt = false → s.dropped (galleryOf v) a) :
    s.accessComplete v slot measured bound = ((s.perform v a).pumpGallery (galleryOf v)).runNet := by
  have hrun : s.runNet = s := settleNet_empty h.net h.engineQ
  unfold State.accessComplete
  rw [pump_rests h, hrun]
  dsimp only
  rw [h.found]
  dsimp only
  rw [if_neg (by simp [h.ready, h.first, h.unfenced]), evictions_rest h hd, stays_none hd, rooms_rest h, lines_room h,
    if_neg (by simp [h.released]), if_neg (by omega)]

end

/-! ## What a completing access does (R193, R198, R199, R409) -/

section
variable (hk : a.kind ≠ .linv)
include hk

theorem perform_poisoned (hp : (s.seen (galleryOf v) a).2 = true) :
    s.perform v a = (s.dropAccess v a.slot).refusedOf v a.own a.stale (Cpl.of St.poisoned) := by
  unfold State.perform
  dsimp only
  rw [if_neg hk]
  exact if_pos hp

variable (hp : (s.seen (galleryOf v) a).2 = false)
include hp

/-- What an access does in its gallery before its result is given. -/
def State.acts (s : State) (v : Nat) (a : Access) : State :=
  let s :=
    if a.tgt then s
    else if a.kind = .st ∨ a.kind = .vst then s.each a.lines fun s l => s.putLine (galleryOf v) l (a.piece l).1 (a.piece l).2
    else if a.kind.atomic then s.doAtomic v a (s.seen (galleryOf v) a).1
    else s
  if a.kind = .ldv ∨ a.kind = .vldv then s.count R.corVolatileTotal else s

theorem perform_acts : s.perform v a = ((s.acts v a).result v a (s.seen (galleryOf v) a).1).dropAccess v a.slot := by
  unfold State.perform
  dsimp only
  rw [if_neg hk]
  exact if_neg (Bool.eq_false_iff.1 hp)

end

theorem perform_linv (hk : a.kind = .linv) : s.perform v a = (s.count R.corLinvTotal).dropAccess v a.slot := if_pos hk

theorem acts_store (ht : a.tgt = false) (hk : a.kind = .st ∨ a.kind = .vst) :
    s.acts v a = s.each a.lines fun s l => s.putLine (galleryOf v) l (a.piece l).1 (a.piece l).2 := by
  have hvol : ¬(a.kind = .ldv ∨ a.kind = .vldv) := by rcases hk with h | h <;> simp [h]
  unfold State.acts
  dsimp only
  rw [if_neg hvol, if_neg (Bool.eq_false_iff.1 ht), if_pos hk]

theorem acts_atomic (ht : a.tgt = false) (hk : a.kind.atomic = true) : s.acts v a = s.doAtomic v a (s.seen (galleryOf v) a).1 := by
  have hvol : ¬(a.kind = .ldv ∨ a.kind = .vldv) := by rintro (h | h) <;> simp [h, AccKind.atomic] at hk
  have hst : ¬(a.kind = .st ∨ a.kind = .vst) := by rintro (h | h) <;> simp [h, AccKind.atomic] at hk
  unfold State.acts
  dsimp only
  rw [if_neg hvol, if_neg (Bool.eq_false_iff.1 ht), if_neg hst, if_pos hk]

theorem acts_elsewhere (h : a.tgt = true ∨ (a.kind.atomic = false ∧ a.kind ≠ .st ∧ a.kind ≠ .vst)) :
    s.acts v a = if a.kind = .ldv ∨ a.kind = .vldv then s.count R.corVolatileTotal else s := by
  have hinner : (if a.tgt = true then s
      else if a.kind = .st ∨ a.kind = .vst then s.each a.lines fun s l => s.putLine (galleryOf v) l (a.piece l).1 (a.piece l).2
      else if a.kind.atomic = true then s.doAtomic v a (s.seen (galleryOf v) a).1 else s) = s := by
    rcases h with h | ⟨h1, h2, h3⟩
    · exact if_pos h
    · rw [if_neg (c := a.kind = .st ∨ a.kind = .vst) (by simp [h2, h3]), if_neg (c := a.kind.atomic = true) (by simp [h1]), ite_self]
  unfold State.acts
  dsimp only
  rw [hinner]

theorem result_store {t : State} {w : Nat} (hk : a.kind = .st ∨ a.kind = .vst) : t.result v a w = t := by
  unfold State.result
  rcases hk with h | h <;> simp [h, AccKind.toX, AccKind.toV]

/-! ## The result in the voice's register (R84) -/

section
variable {w : Nat} (hr : (s.voice v).running = true) (hs : a.stale = false)
include hr hs

theorem voice_result_x (hk : a.kind.toX = true) : (s.result v a w).voice v = (s.voice v).setX a.dst.toNat (BitVec.ofNat 64 w) := by
  unfold State.result
  rw [if_pos ⟨hr, hs⟩, if_pos hk]
  exact voice_setVoice

theorem voice_result_v (hk : a.kind.toV = true) : (s.result v a w).voice v = (s.voice v).setV a.dst.toNat (BitVec.ofNat 2048 w) := by
  have hx : ¬a.kind.toX = true := by
    cases hkind : a.kind <;> simp [hkind, AccKind.toX, AccKind.toV] at hk ⊢
  unfold State.result
  rw [if_pos ⟨hr, hs⟩, if_neg hx, if_pos hk]
  exact voice_setVoice

end

theorem result_discarded {w : Nat} (h : (s.voice v).running = false ∨ a.stale = true) : s.result v a w = s := by
  unfold State.result
  exact if_neg fun ⟨hr, hs⟩ => h.elim (by simp [hr]) (by simp [hs])

theorem vr_setV_same {x : Voice} {i : Nat} {w : BitVec 2048} : (x.setV i w).vr i = w := tget_tput_same fun _ => 0

theorem vr_setV_other {x : Voice} {i j : Nat} {w : BitVec 2048} (h : j ≠ i) : (x.setV i w).vr j = x.vr j := tget_tput_other (fun _ => 0) h

/-! ## A line written by a gallery (R199) -/

theorem putLine_cached {d : Line} {mask : BitVec 64} (h : s.aline g l = none) :
    s.putLine g l d mask = s.setGline g l { s.gline g l with state := .m, data := mergeLine mask d (s.gline g l).data } := by
  unfold State.putLine
  rw [h]

theorem gline_setGline_same {c : CLine} : (s.setGline g l c).gline g l = c := tget_tput_same fun _ => CLine.none

theorem leNat_byte (bs : List Byte) {i : Nat} {b : Byte} (h : bs[i]? = some b) : leNat bs / 2 ^ (8 * i) % 2 ^ 8 = b.toNat := by
  induction bs generalizing i with
  | nil => simp at h
  | cons c bs ih =>
    cases i with
    | zero =>
      simp only [List.getElem?_cons_zero, Option.some.injEq] at h
      simp only [leNat, h, Nat.mul_zero, Nat.pow_zero, Nat.div_one]
      omega
    | succ i =>
      have hc : (c.toNat + 256 * leNat bs) / 256 = leNat bs := by omega
      rw [leNat, show 8 * (i + 1) = 8 + 8 * i by omega, Nat.pow_add, ← Nat.div_div_eq_div_mul, hc]
      exact ih h

theorem fld_bytesLine {bs : List Byte} {i : Nat} {b : Byte} (hlen : bs.length = 64) (h : bs[i]? = some b) :
    fld (bytesLine bs) (8 * i) 8 = b.toNat := by
  have hlt := leNat_lt bs
  rw [hlen] at hlt
  unfold fld bytesLine
  have hmod : leNat bs % 2 ^ 512 = leNat bs := Nat.mod_eq_of_lt (by rwa [show (256 : Nat) = 2 ^ 8 from rfl, ← Nat.pow_mul] at hlt)
  rw [List.take_of_length_le (by omega), BitVec.toNat_ofNat, hmod]
  exact leNat_byte bs h

theorem fld_mergeLine {mask : BitVec 64} {d old : Line} {i : Nat} (h : i < 64) :
    fld (mergeLine mask d old) (8 * i) 8 = if bit mask i then fld d (8 * i) 8 else fld old (8 * i) 8 := by
  have hbyte : (if bit mask i then fld d (8 * i) 8 else fld old (8 * i) 8) < 2 ^ 8 := by
    split
    · exact fld_lt
    · exact fld_lt
  unfold mergeLine
  rw [fld_bytesLine (by simp) (by simp [h]; rfl), BitVec.toNat_ofNat, Nat.mod_eq_of_lt hbyte]

/-! ## The obligation -/

theorem poolAccessCompletes : Claims.PoolAccessCompletes := by
  intro s v slot a hf hnet heng hready hfirst hfence hrel hlines hroom measured bound hb g seen volatile ends
  have h : s.completes v.toNat slot a := ⟨hf, hnet, heng, hready, hfirst, hfence, hrel, List.all_eq_true.1 hlines,
    fun h1 h2 => List.all_eq_true.1 (hroom h1 h2)⟩
  have hends (hd : a.kind = .linv → a.tgt = false → s.dropped (galleryOf v.toNat) a) : ends :=
    next_congr (congrArg State.itemsEnd (accessComplete_performs h hb hd))
  refine ⟨fun hk => hends fun hk' => absurd hk' hk, fun _ ht => hends fun _ ht' => absurd (ht.symm.trans ht') (by decide), perform_linv,
    fun _ _ hd => hends fun _ _ => hd, perform_poisoned, fun hp ht hk => ?_, fun hp ht hk => ?_, fun hk hp ho => ?_⟩
  · have hne : a.kind ≠ .linv := by rcases hk with h | h <;> simp [h]
    rw [perform_acts hne hp, acts_store ht hk, result_store hk]
    rfl
  · have hne : a.kind ≠ .linv := fun h => by simp [h, AccKind.atomic] at hk
    rw [perform_acts hne hp, acts_atomic ht hk]
  · rw [perform_acts hk hp, acts_elsewhere ho]

theorem accessResults : Claims.AccessResults := by
  refine ⟨fun s v w a hr hs => ⟨fun hk hd => ?_, fun hk i hi => ?_, fun hk => ?_, fun hk i hi => ?_⟩, fun s v w a h => result_discarded h,
    fun s g line d mask ha => ?_⟩
  · have hne : a.dst.toNat ≠ 0 := fun h => hd (BitVec.eq_of_toNat_eq h)
    rw [voice_result_x hr hs hk, xr_setX_same hne]
  · rw [voice_result_x hr hs hk, xr_setX_other hi]
  · rw [voice_result_v hr hs hk, vr_setV_same]
  · rw [voice_result_v hr hs hk, vr_setV_other hi]
  · intro t
    have ht : t = s.setGline g line { s.gline g line with state := .m, data := mergeLine mask d (s.gline g line).data } := putLine_cached ha
    refine ⟨by rw [ht, gline_setGline_same], ?_, fun i hi => ?_⟩
    · rw [ht]
      exact ((touches_setGline (Nat.and_self _)).2 .rfl : Touches _ s _).keeps _ (by decide)
    · rw [ht, gline_setGline_same]
      exact fld_mergeLine hi

/-- Settles O9: an access for which nothing is awaited any more performs as its kind says, leaves its voice, and lets its gallery go on. -/
theorem poolAccessesComplete : Obligations.PoolAccessesComplete :=
  ⟨poolAccessCompletes, accessResults⟩

end Sys2Proof.Machine
end

section
/-! PROOF. STREAM, the tiles of a stream, and SWAIT (R81, R187, R226, R243, R244, R409). -/

namespace Sys2Proof.Machine

variable {s : State} {v : Nat} {tok : Word} {st : Strm} {x : Voice}

/-! ## A stream of a voice -/

theorem token_of_stream (h : x.stream tok = some st) : st.token = tok := by
  have hp := List.find?_some h
  simpa using hp

/-- The streams of a voice, with the one of a token changed. -/
def Voice.updStreams (x : Voice) (tok : Word) (f : Strm → Strm) : Voice := { x with streams := mapIf (fun t => t.token == tok) f x.streams }

theorem find_mapIf {l : List Strm} {f : Strm → Strm} (hf : ∀ t, (f t).token = t.token) :
    (mapIf (fun t => t.token == tok) f l).find? (fun t => t.token == tok) = (l.find? fun t => t.token == tok).map f := by
  induction l with
  | nil => rfl
  | cons t l ih =>
    by_cases ht : t.token = tok
    · simp [mapIf, ht, hf]
    · simp only [mapIf, List.map_cons, beq_iff_eq, ht, if_false, List.find?_cons] at ih ⊢
      simp only [show (t.token == tok) = false by simpa using ht]
      exact ih

theorem stream_updStreams {f : Strm → Strm} (hf : ∀ t, (f t).token = t.token) (h : x.stream tok = some st) :
    (x.updStreams tok f).stream tok = some (f st) := by
  have hmap := find_mapIf (tok := tok) (l := x.streams) hf
  unfold Voice.stream at h ⊢
  rw [h] at hmap
  exact hmap

theorem voice_updStream {f : Strm → Strm} : (s.updStream v tok f).voice v = (s.voice v).updStreams tok f := voice_setVoice

/-- A stream just begun is the only one of its token. -/
theorem updStreams_append {f : Strm → Strm} (h : x.stream st.token = none) :
    ({ x with streams := x.streams ++ [st] } : Voice).updStreams st.token f = { x with streams := x.streams ++ [f st] } := by
  have hrest : mapIf (fun t => t.token == st.token) f x.streams = x.streams :=
    (List.map_congr_left fun t ht => if_neg (List.find?_eq_none.1 h t ht)).trans (List.map_id' _)
  have hsplit : mapIf (fun t => t.token == st.token) f (x.streams ++ [st]) = x.streams ++ [f st] := by
    rw [mapIf, List.map_append, ← mapIf, hrest]
    simp
  exact congrArg (fun l => ({ x with streams := l } : Voice)) hsplit

/-! ## The pages a stream asks for (R244) -/

/-- One page a stream wants: it is held or walked for, a walk begins for it, it waits, or its fault is not reported. -/
def State.wantPage (g : Nat) (t : Tenant) (q : State × List Nat) (a : Nat) : State × List Nat :=
  if (q.1.tlbFind g t a).isSome || q.1.walking g t a then q
  else if !q.1.walkRoom g then (q.1, q.2 ++ [a])
  else
    match q.1.startWalk g t a true with
    | .ok s => (s, q.2)
    | .error _ => q

theorem wantPages_eq : s.wantPages v st =
    (st.want.foldl (State.wantPage (v / 128) st.tenant) (s, [])).1.updVoice v fun x =>
      x.updStreams st.token fun t => { t with want := (st.want.foldl (State.wantPage (v / 128) st.tenant) (s, [])).2 } := rfl

theorem wantPage_keeps {g a : Nat} {t : Tenant} {q : State × List Nat} :
    Touches 1125899906842624 q.1 (State.wantPage g t q a).1 ∧ ∀ b ∈ (State.wantPage g t q a).2, b ∈ q.2 ∨ b = a := by
  unfold State.wantPage
  split
  · exact ⟨.rfl, fun b hb => .inl hb⟩
  · split
    · exact ⟨.rfl, fun b hb => by simpa using hb⟩
    · split
      next hw => exact ⟨(touches_startWalk hw (Nat.and_self _)).2 .rfl, fun b hb => .inl hb⟩
      · exact ⟨.rfl, fun b hb => .inl hb⟩

theorem wantPages_fold {g : Nat} {t : Tenant} {l : List Nat} {q : State × List Nat} :
    Touches 1125899906842624 q.1 (l.foldl (State.wantPage g t) q).1 ∧ ∀ b ∈ (l.foldl (State.wantPage g t) q).2, b ∈ q.2 ∨ b ∈ l := by
  induction l generalizing q with
  | nil => exact ⟨.rfl, fun b hb => .inl hb⟩
  | cons a l ih =>
    obtain ⟨h1, h2⟩ := wantPage_keeps (g := g) (t := t) (q := q) (a := a)
    obtain ⟨h3, h4⟩ := ih (q := State.wantPage g t q a)
    refine ⟨h1.trans h3, fun b hb => ?_⟩
    rcases h4 b hb with hb | hb
    · exact (h2 b hb).imp_right fun h => by simp [h]
    · exact .inr (by simp [hb])

/-- The streams' requests leave their voice's stream with those that could not begin. -/
theorem wantPages_voice : ∃ later, (∀ p ∈ later, p ∈ st.want) ∧
    (s.wantPages v st).voice v = (s.voice v).updStreams st.token fun t => { t with want := later } := by
  obtain ⟨h1, h2⟩ := wantPages_fold (g := v / 128) (t := st.tenant) (l := st.want) (q := (s, []))
  refine ⟨_, fun p hp => (h2 p hp).resolve_left (by simp), ?_⟩
  rw [wantPages_eq, State.updVoice, voice_setVoice, voice_of_touches h1 v]

/-- A prefetch leaves its stream with those of the pages that could not begin, after what it wanted before. -/
theorem prefetch_voice {pages : List Nat} (h : (s.voice v).stream tok = some st) : ∃ later, (∀ p ∈ later, p ∈ st.want ++ pages) ∧
    (s.prefetch v tok pages).voice v = ((s.voice v).updStreams tok fun t => { t with want := t.want ++ ((pages.eraseDups.filter fun a =>
      (s.tlbFind (galleryOf v) st.tenant a).isNone && !st.want.contains a).take 256) }).updStreams tok fun t => { t with want := later } := by
  have htok := token_of_stream h
  unfold State.prefetch
  rw [h]
  dsimp only
  obtain ⟨later, hmem, hvoice⟩ := wantPages_voice (v := v) (s := s.updStream v tok fun t => { t with want := t.want ++
      ((pages.eraseDups.filter fun a => (s.tlbFind (galleryOf v) st.tenant a).isNone && !st.want.contains a).take 256) })
    (st := { st with want := st.want ++ ((pages.eraseDups.filter fun a =>
      (s.tlbFind (galleryOf v) st.tenant a).isNone && !st.want.contains a).take 256) })
  refine ⟨later, fun p hp => ?_, by rw [hvoice, voice_updStream, htok]⟩
  rcases List.mem_append.1 (hmem p hp) with hp | hp
  · exact List.mem_append.2 (.inl hp)
  · exact List.mem_append.2 (.inr (List.mem_eraseDups.1 (List.mem_filter.1 (List.mem_of_mem_take hp)).1))

theorem prefetch_voice_other {pages : List Nat} {u : Nat} (h : u ≠ v) : (s.prefetch v tok pages).voice u = s.voice u := by
  unfold State.prefetch
  split
  · rfl
  · rw [wantPages_eq, State.updVoice, voice_setVoice_other h]
    rw [voice_of_touches wantPages_fold.1 u]
    exact voice_setVoice_other h

/-! ## STREAM (R243) -/

/-- The stream that a STREAM with descriptor d begins. -/
def State.newStream (s : State) (v : Nat) (d : Line) : Strm :=
  { own := (s.voice v).slot, sentence := (s.voice v).sentence, seq := s.streamSeq (galleryOf v), begun := false, want := []
    tenant := (s.voice v).tenant, stale := false, token := (s.voice v).nextToken, desc := d, tiles := 0, done := none }

/-- A voice that has begun a stream. -/
def Voice.streaming (x : Voice) (st : Strm) : Voice := { x with streams := x.streams ++ [st], nextToken := x.nextToken + 1 }

/-- The descriptor at x[A]. -/
def State.sdOf (s : State) (v : Nat) (f : Fields) : Line := bytesLine (s.padRead (coreOf v) ((s.voice v).xr f.a.toNat).toNat 64)

section
variable {f : Fields} (hi : s.issuing v f)
include hi

theorem streamIssue_outside (h : 0xC0000 < ((s.voice v).xr f.a.toNat).toNat + 64) : s.streamIssue v f = s.voiceFault v 7 := by
  rw [State.streamIssue, issue_issuing hi (by simp) (by simp)]
  dsimp only
  rw [padFault_outside (Nat.mod_one _) h]

variable (hin : ((s.voice v).xr f.a.toNat).toNat + 64 ≤ 0xC0000)
include hin

theorem streamIssue_inside : s.streamIssue v f =
    if sdBad (s.sdOf v f) then s.voiceFault v 2 else if sdUneven (s.sdOf v f) then s.voiceFault v 8
    else if sdRange (s.sdOf v f) then s.voiceFault v 7
    else ((s.setVoice v ((s.voice v).streaming (s.newStream v (s.sdOf v f)))).prefetch v (s.voice v).nextToken
      (tilePages (s.sdOf v f) 0)).writeX v f.d (s.voice v).nextToken := by
  rw [State.streamIssue, issue_issuing hi (by simp) (by simp)]
  dsimp only
  rw [padFault_inside (Nat.mod_one _) hin]
  rfl

theorem streamIssue_begins (hbad : sdBad (s.sdOf v f) = false) (heven : sdUneven (s.sdOf v f) = false) (hrange : sdRange (s.sdOf v f) = false) :
    s.streamIssue v f = ((s.setVoice v ((s.voice v).streaming (s.newStream v (s.sdOf v f)))).prefetch v (s.voice v).nextToken
      (tilePages (s.sdOf v f) 0)).writeX v f.d (s.voice v).nextToken := by
  rw [streamIssue_inside hi hin, if_neg (Bool.eq_false_iff.1 hbad), if_neg (Bool.eq_false_iff.1 heven), if_neg (Bool.eq_false_iff.1 hrange)]

end

/-- A stream begun keeps its pages of tile 0 that cannot be asked for yet. -/
theorem streaming_prefetch {d : Line} {pages : List Nat} (hnew : (s.voice v).stream (s.voice v).nextToken = none) :
    ∃ later, (∀ p ∈ later, p ∈ pages) ∧ ((s.setVoice v ((s.voice v).streaming (s.newStream v d))).prefetch v (s.voice v).nextToken pages).voice v =
      (s.voice v).streaming { s.newStream v d with want := later } := by
  have hfound : ((s.setVoice v ((s.voice v).streaming (s.newStream v d))).voice v).stream (s.voice v).nextToken = some (s.newStream v d) := by
    rw [voice_setVoice]
    unfold Voice.stream Voice.streaming at *
    rw [List.find?_append, hnew]
    simp [State.newStream]
  obtain ⟨later, hmem, hvoice⟩ := prefetch_voice (pages := pages) hfound
  refine ⟨later, fun p hp => by simpa [State.newStream] using hmem p hp, ?_⟩
  rw [hvoice, voice_setVoice]
  have happend (st : Strm) (htok : st.token = (s.voice v).nextToken) (g : Strm → Strm) :
      ((s.voice v).streaming st).updStreams (s.voice v).nextToken g = (s.voice v).streaming (g st) := by
    rw [← htok] at hnew ⊢
    exact congrArg (fun y : Voice => { y with nextToken := (s.voice v).nextToken + 1 }) (updStreams_append (f := g) hnew)
  rw [happend _ rfl, happend _ rfl]

theorem streamStarts : Claims.StreamStarts := by
  intro s v f hi x a d stream
  refine ⟨fun hin hbad heven hrange hn hnew => ?_, fun h => next_congr (streamIssue_outside hi h), fun hin hbad => ?_, fun hin hbad heven => ?_,
    fun hin hbad heven hrange => ?_⟩
  · obtain ⟨later, hmem, hvoice⟩ := streaming_prefetch (d := d) (pages := tilePages d 0) hnew
    generalize hu : (s.setVoice v.toNat ((s.voice v.toNat).streaming (s.newStream v.toNat d))).prefetch v.toNat (s.voice v.toNat).nextToken
      (tilePages d 0) = u at hvoice
    have hkeep : KeepsBut [.voices, .walks] s (u.setVoice v.toNat ((u.voice v.toNat).wroteX f.d x.nextToken)) := by
      rw [← hu]
      exact Touches.keeps (m := 1125902054326272) _ ((touches_setVoice (by decide)).2 ((touches_prefetch (by decide)).2
        ((touches_setVoice (by decide)).2 .rfl))) (by decide)
    have hother (w : Nat) (hw : w ≠ v.toNat) : (u.setVoice v.toNat ((u.voice v.toNat).wroteX f.d x.nextToken)).voice w = s.voice w := by
      rw [voice_setVoice_other hw, ← hu, prefetch_voice_other hw, voice_setVoice_other hw]
    have hrun : s.streamIssue v.toNat f = u.writeX v.toNat f.d x.nextToken := by
      rw [streamIssue_begins hi hin hbad heven hrange, ← hu]
      rfl
    have hloaded : (u.voice v.toNat).loaded = true := by rw [hvoice]; exact hi.1
    have hnext : u.hasNext v.toNat := by rw [State.hasNext, hvoice]; exact hn
    refine ⟨_, later, next_congr (hrun.trans (writeX_hasNext hloaded hnext)), hkeep, hother, hmem, ?_⟩
    rw [voice_setVoice, hvoice]
    rfl
  · exact next_congr ((streamIssue_inside hi hin).trans (if_pos hbad))
  · exact next_congr ((streamIssue_inside hi hin).trans ((if_neg (Bool.eq_false_iff.1 hbad)).trans (if_pos heven)))
  · exact next_congr ((streamIssue_inside hi hin).trans ((if_neg (Bool.eq_false_iff.1 hbad)).trans
      ((if_neg (Bool.eq_false_iff.1 heven)).trans (if_pos hrange))))

/-! ## SWAIT (R187, R244, R409) -/

section
variable {f : Fields} (hi : s.issuing v f)
include hi

theorem swait_none (h : (s.voice v).stream ((s.voice v).xr f.a.toNat) = none) : s.swait v f = s.advance v := by
  rw [State.swait, issue_issuing hi (by simp) (by simp)]
  rw [h]

variable (h : (s.voice v).stream ((s.voice v).xr f.a.toNat) = some st)
include h

theorem swait_running (hd : st.done = none) : s.swait v f = s := by
  rw [State.swait, issue_issuing hi (by simp) (by simp)]
  rw [h]
  dsimp only
  rw [hd]

theorem swait_done (hd : st.done = some .ok) :
    s.swait v f = (s.updVoice v fun x => { x with streams := dropIf (fun t => t.token == st.token) x.streams }).advance v := by
  rw [State.swait, issue_issuing hi (by simp) (by simp)]
  rw [h]
  dsimp only
  rw [hd]

theorem swait_faults (hd : st.done = some .refused8 ∨ st.done = some .refused9) : s.swait v f = s.voiceFault v 6 := by
  rw [State.swait, issue_issuing hi (by simp) (by simp)]
  rw [h]
  dsimp only
  rcases hd with hd | hd <;> rw [hd]

theorem swait_refused {e : AccessEnd} (he : e ∈ [AccessEnd.keyMismatch, .extentRevoked, .timeout, .poisoned, .noFrame]) (hd : st.done = some e) :
    s.swait v f = s.voiceRefused v (Cpl.of (endStatus e)) := by
  rw [State.swait, issue_issuing hi (by simp) (by simp)]
  rw [h]
  dsimp only
  rw [hd]
  simp only [List.mem_cons, List.not_mem_nil, or_false] at he
  rcases he with rfl | rfl | rfl | rfl | rfl <;> rfl

end

theorem streamWait : Claims.StreamWait := by
  intro s v f hi hn x tok
  refine ⟨fun h => next_congr ((swait_none hi h).trans (advance_set hn)), fun st h => ⟨fun hd => next_congr ?_, fun hd => next_congr (swait_running hi h hd),
    fun hd => next_congr (swait_faults hi h hd), fun e he hd => next_congr (swait_refused hi h he hd)⟩⟩
  refine (swait_done hi h hd).trans ?_
  rw [State.updVoice, token_of_stream h]
  exact advance_setVoice (x := { s.voice v.toNat with streams := (s.voice v.toNat).streams.filter fun t => t.token != tok }) hi.1 hn

/-! ## Tiles (R226, R243) -/

theorem starts_eq {i : Nat} (h : st.token = tok) : s.tileStart v st i =
    ((s.updStream v tok fun t => { t with begun := true }).prefetch v tok (((List.range (sdAhead st.desc)).map (i + 1 + ·)).filter
      (· < sdCount st.desc) |>.flatMap (tilePages st.desc))).tileDemand (galleryOf v) st.tenant st.desc i := by
  subst h
  rfl

/-- A tile has been read into the scratchpad. -/
def State.tileMoved (s : State) (v : Nat) (st : Strm) (bs : List PByte) : State :=
  (((s.readUse (galleryOf v) st.tenant.toNat (sdAddr st.desc st.tiles) (sdTile st.desc) bs.length).dropCame (· == (st.eng v).who)).padWrite
    (coreOf v) (sdLocal st.desc + st.tiles * sdTile st.desc) (bs.map Prod.fst)).updStream v st.token fun t => { t with tiles := st.tiles + 1 }

/-- A tile of the pool is all there, and holds these bytes. -/
structure State.tileThere (s : State) (v : Nat) (st : Strm) (bs : List PByte) : Prop where
  reads : sdOut st.desc = false
  lands : sdCacheOnly st.desc = false
  served : s.tileServed (galleryOf v) st.tenant.toNat (sdAddr st.desc st.tiles) (sdTile st.desc) = true
  needs : s.tileNeeds v st st.tiles = []
  bytes : s.gather (st.eng v) (pieces (sdTile st.desc)) (sdAddr st.desc st.tiles) (sdTile st.desc) = (bs, none)
  clean : bs.any Prod.snd = false

theorem moveTile_moves {bs : List PByte} (h : s.tileThere v st bs) : s.moveTile v st st.tiles = .moved
    (((s.readUse (galleryOf v) st.tenant.toNat (sdAddr st.desc st.tiles) (sdTile st.desc) bs.length).dropCame (· == (st.eng v).who)).padWrite
      (coreOf v) (sdLocal st.desc + st.tiles * sdTile st.desc) (bs.map Prod.fst)) := by
  unfold State.moveTile
  dsimp only
  rw [if_neg (by simp [h.reads]), h.bytes]
  dsimp only
  rw [if_neg (by simp [h.clean]), if_neg (by simp [h.lands])]

theorem tryTile_moves {bs : List PByte} (h : (s.tileDemand (galleryOf v) st.tenant st.desc st.tiles).tileThere v st bs) :
    s.tryTile v st st.tiles = ((s.tileDemand (galleryOf v) st.tenant st.desc st.tiles).tileMoved v st bs, true) := by
  unfold State.tryTile
  dsimp only
  rw [if_neg (by simp [h.served]), if_neg (by simp [h.needs]), moveTile_moves h]
  rfl

section
variable (h : (s.voice v).stream tok = some st) (hd : st.done = none)
include h hd

theorem tileBegin_starts (hb : st.begun = false) : s.tileBegin v tok = s.tileStart v st 0 := by
  unfold State.tileBegin
  rw [h]
  dsimp only
  rw [if_neg (by simp [hd]), if_pos (by simp [hb])]

theorem tileBegin_moves {bs : List PByte} (hb : st.begun = true) (hleft : st.tiles + 1 < sdCount st.desc)
    (ht : (s.tileDemand (galleryOf v) st.tenant st.desc st.tiles).tileThere v st bs) :
    s.tileBegin v tok = ((s.tileDemand (galleryOf v) st.tenant st.desc st.tiles).tileMoved v st bs).tileStart v st (st.tiles + 1) := by
  unfold State.tileBegin
  rw [h]
  dsimp only
  rw [if_neg (by simp [hd]), if_neg (by simp [hb]), if_neg (by omega), tryTile_moves ht]
  rfl

theorem streamEnd_moves {bs : List PByte} {hops measured bound : Nat} (hlast : sdCount st.desc = st.tiles + 1)
    (hfirst : s.rot.overran = true ∨ s.streamFirst v st = true)
    (ht : ((s.tileDemand (galleryOf v) st.tenant st.desc st.tiles).tileDemand (galleryOf v) st.tenant st.desc st.tiles).tileThere v st bs)
    (hsent : (((s.tileDemand (galleryOf v) st.tenant st.desc st.tiles).tileDemand (galleryOf v) st.tenant st.desc st.tiles).tileMoved v st bs).streamSends
      v st.token = false) :
    s.streamEnd v tok .ok false hops measured bound =
      (((s.tileDemand (galleryOf v) st.tenant st.desc st.tiles).tileDemand (galleryOf v) st.tenant st.desc st.tiles).tileMoved v st bs).updStream v
        st.token fun t => { t with done := some .ok } := by
  have hleft : sdCount st.desc - st.tiles = 1 := by omega
  have hgo : ¬(st.done.isSome = true ∨ (AccessEnd.ok = .ok ∧ (!s.rot.overran) = true ∧ (!s.streamFirst v st) = true)) := by
    rcases hfirst with hf | hf <;> simp [hd, hf]
  have hmoves : State.moveTiles v st 1 (s.tileDemand (galleryOf v) st.tenant st.desc st.tiles) st.tiles =
      (((s.tileDemand (galleryOf v) st.tenant st.desc st.tiles).tileDemand (galleryOf v) st.tenant st.desc st.tiles).tileMoved v st bs).updStream v
        st.token fun t => { t with done := some .ok } := by
    unfold State.moveTiles
    rw [tryTile_moves ht]
    exact if_neg (Bool.eq_false_iff.1 hsent)
  unfold State.streamEnd
  rw [h]
  dsimp only
  rw [if_neg hgo, hleft, if_pos rfl]
  rw [if_neg (by simp)]
  exact hmoves

/-- A stream that fails as the command says, after its granules were asked for (R409). -/
theorem streamEnd_fails {how : AccessEnd} {hops measured bound : Nat} (hhow : how ≠ .ok) :
    s.streamEnd v tok how false hops measured bound = ((s.each (List.range (sdCount st.desc - st.tiles)) fun s k =>
      s.tileDemand (galleryOf v) st.tenant st.desc (st.tiles + k)).streamRefused v st how).streamStops v tok how := by
  unfold State.streamEnd
  rw [h]
  dsimp only
  rw [if_neg (by simp [hd, hhow]), if_neg hhow]
  exact if_neg (by simp)

end

theorem stream_refusedOf {own u : Nat} {stale : Bool} {c : Cpl} : ((s.refusedOf v own stale c).voice u).stream tok = (s.voice u).stream tok := by
  unfold State.refusedOf
  rw [voice_of_touches ((touches_itemFault (by decide)).2 .rfl : Touches 4096 _ _) u]
  split
  · rfl
  · unfold State.haltVoice State.updVoice
    by_cases hu : u = v
    · rw [hu, voice_setVoice]
      rfl
    · rw [voice_setVoice_other hu]

theorem stream_streamFailed {u : Nat} {t : Word} : ((s.streamFailed v tok).voice u).stream t = (s.voice u).stream t := by
  unfold State.streamFailed
  split
  · rfl
  · split
    · rfl
    · rfl
    · rfl
    · exact stream_refusedOf
    · rfl

theorem stream_streamStops {how : AccessEnd} (h : (s.voice v).stream tok = some st) :
    ((s.streamStops v tok how).voice v).stream tok = some { st with done := some how } := by
  unfold State.streamStops
  rw [stream_streamFailed, voice_updStream]
  exact stream_updStreams (fun _ => rfl) h

theorem streamTiles : Claims.StreamTiles := by
  intro s v tok st h hd g a n starts moved there
  have htok := token_of_stream h
  have hmoved (u : State) (bs : List PByte) : u.tileMoved v.toNat st bs = moved u bs := by
    subst htok
    rfl
  have hthere (u : State) (bs : List PByte) (ht : there u bs) : u.tileThere v.toNat st bs := by
    obtain ⟨h1, h2, h3, h4, h5, h6⟩ := ht
    exact ⟨h1, h2, h3, h4, h5, h6⟩
  have hstarts (u : State) (i : Nat) : u.tileStart v.toNat st i = starts u i := starts_eq htok
  have hbegins {t : State} (ht : s.tileBegin v.toNat tok = t) : exec (.streamTileBegin v tok) s = .next t.runNet.itemsEnd :=
    next_congr (congrArg (fun u : State => u.runNet.itemsEnd) ht)
  have hcompletes {how : AccessEnd} {hops : Byte} {m b : BitVec 32} {t : State}
      (ht : s.streamEnd v.toNat tok how false hops.toNat m.toNat b.toNat = t) :
      exec (.streamComplete v tok how false hops m b) s = .next t.runNet.itemsEnd :=
    next_congr (congrArg (fun u : State => u.runNet.itemsEnd) ht)
  refine ⟨fun hb => ⟨hbegins ((tileBegin_starts h hd hb).trans (hstarts s 0)), ?_⟩, fun hb hleft bs ht => hbegins ?_,
    fun hops m b hlast hfirst bs ht hsent => hcompletes ?_, fun how hops m b hhow => ⟨_, hcompletes (streamEnd_fails h hd hhow), ?_⟩⟩
  · rw [← hstarts]
    exact ((touches_tileStart (Nat.and_self _)).2 .rfl : Touches _ s _).keeps _ (by decide)
  · rw [tileBegin_moves h hd hb hleft (hthere _ _ ht), hmoved, hstarts]
  · rw [← hmoved, ← htok] at hsent
    rw [streamEnd_moves h hd hlast hfirst (hthere _ _ ht) hsent, hmoved, htok]
  · refine stream_streamStops ?_
    have hdemands : Touches 37383395344514 s ((s.each (List.range (sdCount st.desc - st.tiles)) fun s k =>
        s.tileDemand (galleryOf v.toNat) st.tenant st.desc (st.tiles + k)).streamRefused v.toNat st how) :=
      (touches_streamRefused (by decide)).2 ((touches_each (by decide) fun _ _ => (touches_tileDemand (by decide)).2 .rfl).2 .rfl)
    rw [voice_of_touches hdemands]
    exact h

/-- Settles O7: STREAM's checks and its token, what a stream's tiles ask for and move, its end, and SWAIT's four outcomes. -/
theorem streamsRun : Obligations.StreamsRun :=
  ⟨streamStarts, streamWait, streamTiles⟩

end Sys2Proof.Machine
end

section
/-! PROOF. Free values are drawn one after another: the operations that draw them, and those that answer, translate, fetch and copy (log entry 4). -/

namespace Sys2Proof.Machine

variable {n : Nat} {s t u : State}

/-- The counter of free values has reached n, seen through operations that draw none (the mask has every other piece). -/
@[reducible] def Reached (n : Nat) (u : State) : Prop := ∃ r : State, n ≤ r.free ∧ Touches 75557863725914323419131 r u

theorem reached_iff : Reached n t ↔ n ≤ t.free :=
  ⟨fun ⟨_, hn, h⟩ => Nat.le_trans hn (Nat.le_of_eq (h .free (by decide))), fun h => ⟨t, h, .rfl⟩⟩

theorem Reached.same (h : Reached n t) (hu : u.free = t.free) : Reached n u :=
  reached_iff.2 (hu ▸ reached_iff.1 h)

theorem Reached.via {m : Nat} (h : Reached n t) (hu : Touches m t u) (hm : m.testBit 2 = false) : Reached n u :=
  h.same (hu .free hm).symm

theorem Reached.then (h : Reached n t) (h' : Reached t.free u) : Reached n u :=
  reached_iff.2 (Nat.le_trans (reached_iff.1 h) (reached_iff.1 h'))

@[simp] theorem reached_self : Reached t.free t := reached_iff.2 (Nat.le_refl _)

@[simp] theorem reached_ite {c : Prop} [Decidable c] : Reached n (if c then t else u) ↔ (c → Reached n t) ∧ (¬c → Reached n u) := by
  split <;> simp [*]

@[simp] theorem reached_ite_fst {α : Type} {c : Prop} [Decidable c] {p q : State × α} :
    Reached n (if c then p else q).1 ↔ (c → Reached n p.1) ∧ (¬c → Reached n q.1) := by
  split <;> simp [*]

@[simp] theorem reached_foldl {α : Type} {l : List α} {f : State → α → State} (hf : ∀ u a, Reached u.free (f u a)) (h : Reached n t) :
    Reached n (l.foldl f t) := by
  induction l generalizing t with
  | nil => exact h
  | cons a l ih => exact ih (h.then (hf t a))

@[simp] theorem reached_each {α : Type} {l : List α} {f : State → α → State} (hf : ∀ u a, Reached u.free (f u a)) (h : Reached n t) :
    Reached n (t.each l f) := reached_foldl hf h

theorem reached_foldl_fst {α β : Type} {l : List α} {f : State × β → α → State × β} {q : State × β}
    (hf : ∀ q a, Reached q.1.free (f q a).1) (h : Reached n q.1) : Reached n (l.foldl f q).1 := by
  induction l generalizing q with
  | nil => exact h
  | cons a l ih => exact ih (h.then (hf q a))

/-! ## Drawing -/

@[simp] theorem reached_draw (h : Reached n t) : Reached n t.draw.2 := reached_iff.2 (Nat.le_succ_of_le (reached_iff.1 h))

@[simp] theorem reached_set_free (h : Reached n t) : Reached n { t with free := t.free + 1 } :=
  reached_iff.2 (Nat.le_succ_of_le (reached_iff.1 h))

@[simp] theorem reached_set_free_tlb {l : List TlbEntry} (h : Reached n t) : Reached n { t with free := t.free + 1, tlb := l } :=
  reached_iff.2 (Nat.le_succ_of_le (reached_iff.1 h))

@[simp] theorem reached_set_free_walkCache {l : List WalkEntry} (h : Reached n t) : Reached n { t with free := t.free + 1, walkCache := l } :=
  reached_iff.2 (Nat.le_succ_of_le (reached_iff.1 h))

@[simp] theorem reached_drawBytes {k : Nat} (h : Reached n t) : Reached n (State.drawBytes k t).2 := by
  induction k generalizing t with
  | zero => exact h
  | succ k ih => exact ih (reached_draw h)

/-! ## Management messages (R296) -/

@[simp] theorem reached_mgOut (h : Reached n t) : Reached n (t.mgOut a1 a2 a3) := by
  simp [Reached, h, -Touches.ite_iff, -Touches.ite_fst, State.mgOut]

@[simp] theorem reached_sendMg (h : Reached n t) : Reached n (t.sendMg a1) := by
  unfold State.sendMg
  dsimp only; (repeat' split) <;> simp [Reached, h, -Touches.ite_iff, -Touches.ite_fst]

@[simp] theorem reached_pumpMg {k : Nat} (h : Reached n t) : Reached n (State.pumpMg k t) := by
  induction k generalizing t with
  | zero => exact h
  | succ k ih =>
    unfold State.pumpMg
    (repeat' (first | split | dsimp only))
    · exact ih (by simp [Reached, h])
    · exact ih (h.same rfl)
    · exact h

@[simp] theorem reached_mgServe {a : Dev} {act : State → State} (hf : ∀ u, Reached u.free (act u)) (h : Reached n t) :
    Reached n (t.mgServe a act) := by
  simp only [State.mgServe, State.draw]
  (repeat' (first | split | dsimp only)) <;> simp [Reached, h, h.then (hf t), -Touches.ite_iff]

/-! ## Operands and translations (R239, R241) -/

@[simp] theorem reached_tlbRoom (h : Reached n t) : Reached n (t.tlbRoom a1) := by
  simp only [State.tlbRoom, State.draw]
  (repeat' split) <;> simp [Reached, h, -Touches.ite_iff, -Touches.ite_fst]

@[simp] theorem reached_tlbLoad (h : Reached n t) : Reached n (t.tlbLoad a1 a2 a3 a4) := by
  simp [Reached, h, -Touches.ite_iff, -Touches.ite_fst, State.tlbLoad]

@[simp] theorem reached_walkKeep (h : Reached n t) : Reached n (t.walkKeep a1) := by
  simp only [State.walkKeep, State.draw]
  (repeat' split) <;> simp [Reached, h, -Touches.ite_iff, -Touches.ite_fst]

@[simp] theorem reached_walkLoad (h : Reached n t) : Reached n (State.walkLoad a1 a2 a3 a4 a5 t) := by
  induction a4 generalizing t a5 with
  | zero =>
    unfold State.walkLoad
    dsimp only
    (repeat' split) <;> simp [Reached, h, -Touches.ite_iff]
  | succ k ih =>
    unfold State.walkLoad
    dsimp only
    (repeat' split) <;> simp [Reached, h, ih, -Touches.ite_iff]

@[simp] theorem reached_xlatUse (h : Reached n t) : Reached n (t.xlatUse a1 a2 a3) := by
  unfold State.xlatUse
  (repeat' split) <;> simp [Reached, h, -Touches.ite_iff, -Touches.ite_fst]

@[simp] theorem reached_xlatRange (h : Reached n t) : Reached n (State.xlatRange a1 a2 a3 t a4 a5) := by
  induction a3 generalizing t a4 a5 with
  | zero => exact h
  | succ k ih =>
    unfold State.xlatRange
    split <;> simp [Reached, h, ih, -Touches.ite_iff]

@[simp] theorem reached_xlatRead (h : Reached n t) : Reached n (t.xlatRead a1 a2 a3 a4 a5) := by
  simp [Reached, h, -Touches.ite_iff, -Touches.ite_fst, State.xlatRead]

@[simp] theorem reached_readUse (h : Reached n t) : Reached n (t.readUse a1 a2 a3 a4 a5) := by
  simp [Reached, h, -Touches.ite_iff, -Touches.ite_fst, State.readUse]

@[simp] theorem reached_scatter (h : Reached n t) : Reached n (State.scatter a1 a2 t a3 a4).1 := by
  induction a2 generalizing t a3 a4 with
  | zero => exact h
  | succ k ih =>
    unfold State.scatter
    (repeat' (first | split | dsimp only)) <;> simp [Reached, h, ih, -Touches.ite_iff]

/-! ## Completion records (R37, R49) -/

@[simp] theorem reached_deliver (h : Reached n t) : Reached n (t.deliver a1 a2 a3) := by
  unfold State.deliver
  (repeat' (first | split | dsimp only)) <;> simp [Reached, h, -Touches.ite_iff, -Touches.ite_fst]

@[simp] theorem reached_flushEnded (h : Reached n t) : Reached n (State.flushEnded a1 a2 t) := by
  induction a2 generalizing t with
  | zero => exact h
  | succ k ih =>
    unfold State.flushEnded
    (repeat' (first | split | dsimp only))
    · exact h
    · exact h
    · exact ih (by simp [Reached, h])

@[simp] theorem reached_settle (h : Reached n t) : Reached n (t.settle a1) := by
  simp [Reached, h, -Touches.ite_iff, -Touches.ite_fst, State.settle]

@[simp] theorem reached_finish (h : Reached n t) : Reached n (t.finish a1 a2 a3) := by
  simp [Reached, h, -Touches.ite_iff, -Touches.ite_fst, State.finish]

@[simp] theorem reached_landed (h : Reached n t) : Reached n (t.landed a1 a2) := by
  simp [Reached, h, -Touches.ite_iff, -Touches.ite_fst, State.landed]

/-! ## The session cache -/

@[simp] theorem reached_sesLoad (h : Reached n t) : Reached n (t.sesLoad a1) := by
  unfold State.sesLoad
  split
  · exact h
  · dsimp only
    split
    · exact h.same rfl
    · split <;> exact (reached_draw h).same rfl

@[simp] theorem reached_touchSession (h : Reached n t) : Reached n (t.touchSession a1) := by
  simp [Reached, h, -Touches.ite_iff, -Touches.ite_fst, State.touchSession]

/-! ## Rings (R33 to R49) -/

@[simp] theorem reached_ringXlat (h : Reached n t) : Reached n (t.ringXlat a1 a2) := by
  simp [Reached, h, -Touches.ite_iff, -Touches.ite_fst, State.ringXlat]

@[simp] theorem reached_doCreate (h : Reached n t) : Reached n (t.doCreate a1 a2).1 := by
  unfold State.doCreate
  (repeat' (first | split | dsimp only)) <;> simp [Reached, h, -Touches.ite_iff, -Touches.ite_fst]

@[simp] theorem reached_doStop (h : Reached n t) : Reached n (t.doStop a1 a2).1 := by
  unfold State.doStop
  (repeat' (first | split | dsimp only)) <;> simp [Reached, h, -Touches.ite_iff, -Touches.ite_fst]

@[simp] theorem reached_sqTailWrite (h : Reached n t) : Reached n (t.sqTailWrite a1 a2) := by
  simp [Reached, h, -Touches.ite_iff, -Touches.ite_fst, State.sqTailWrite]

@[simp] theorem reached_cqHeadWrite (h : Reached n t) : Reached n (t.cqHeadWrite a1 a2) := by
  simp [Reached, h, -Touches.ite_iff, -Touches.ite_fst, State.cqHeadWrite]

@[simp] theorem reached_touchNamed (h : Reached n t) : Reached n (t.touchNamed a1 a2 a3) := by
  unfold State.touchNamed
  (repeat' (first | split | dsimp only)) <;> simp [Reached, h, -Touches.ite_iff, -Touches.ite_fst]

@[simp] theorem reached_arrive (h : Reached n t) : Reached n (t.arrive a1 a2) := by
  simp [Reached, h, -Touches.ite_iff, -Touches.ite_fst, State.arrive]

@[simp] theorem reached_fetchXlat (h : Reached n t) : Reached n (t.fetchXlat a1 a2) := by
  unfold State.fetchXlat
  (repeat' (first | split | dsimp only)) <;> simp [Reached, h, -Touches.ite_iff, -Touches.ite_fst]

@[simp] theorem reached_fetched (h : Reached n t) : Reached n (t.fetched a1 a2 a3) := by
  have h1 : Reached n ((if (t.ring a1).inPool && !a3 then t.fetchXlat a1 (t.ring a1) else t).dropCame (· == .fetch (BitVec.ofNat 12 a1))) := by
    simp [Reached, h, -Touches.ite_iff]
  unfold State.fetched
  dsimp only
  generalize (if (t.ring a1).inPool && !a3 then t.fetchXlat a1 (t.ring a1) else t).dropCame (· == .fetch (BitVec.ofNat 12 a1)) = u at h1 ⊢
  split
  · exact h
  split
  · simp [Reached, h]
  split
  · simp [Reached, h1]
  · exact reached_settle (by simp [Reached, h1])

@[simp] theorem reached_recordFault (h : Reached n t) : Reached n (t.recordFault a1) := by
  unfold State.recordFault
  (repeat' (first | split | dsimp only)) <;> simp [Reached, h, -Touches.ite_iff, -Touches.ite_fst]

/-! ## DMA (R50) -/

@[simp] theorem reached_dmaMove (h : Reached n t) : Reached n (t.dmaMove a1 a2 a3 a4 a5 a6).1 := by
  unfold State.dmaMove
  (repeat' (first | split | dsimp only)) <;> simp [Reached, h, -Touches.ite_iff, -Touches.ite_fst]

@[simp] theorem reached_dmaEnd (h : Reached n t) : Reached n (t.dmaEnd a1 a2 a3 a4) := by
  simp [Reached, h, -Touches.ite_iff, -Touches.ite_fst, State.dmaEnd]

@[simp] theorem reached_dmaFinish (h : Reached n t) : Reached n (t.dmaFinish a1 a2 a3 a4 a5 a6) := by
  unfold State.dmaFinish
  dsimp only; (repeat' split) <;> simp [Reached, h, -Touches.ite_iff, -Touches.ite_fst]

@[simp] theorem reached_dmaCut (h : Reached n t) : Reached n (t.dmaCut a1 a2 a3) :=
  reached_dmaFinish (reached_drawBytes (reached_draw h))

@[simp] theorem reached_dmaStart (h : Reached n t) : Reached n (t.dmaStart a1 a2 a3) := by
  unfold State.dmaStart
  (repeat' split) <;> simp [Reached, h, -Touches.ite_iff, -Touches.ite_fst]

@[simp] theorem reached_dmaNop (h : Reached n t) : Reached n (t.dmaNop a1 a2) := by
  unfold State.dmaNop
  (repeat' split) <;> simp [Reached, h, -Touches.ite_iff, -Touches.ite_fst]

@[simp] theorem reached_dmaComplete (h : Reached n t) : Reached n (t.dmaComplete a1 a2 a3) := by
  unfold State.dmaComplete
  (repeat' split) <;> simp [Reached, h, -Touches.ite_iff, -Touches.ite_fst]

@[simp] theorem reached_dmaFails (h : Reached n t) : Reached n (t.dmaFails a1 a2 a3 a4) := by
  unfold State.dmaFails
  (repeat' split) <;> simp [Reached, h, -Touches.ite_iff, -Touches.ite_fst]

@[simp] theorem reached_hostTimeout (h : Reached n t) : Reached n (t.hostTimeout a1 a2) := by
  unfold State.hostTimeout
  (repeat' split) <;> simp [Reached, h, -Touches.ite_iff, -Touches.ite_fst]

end Sys2Proof.Machine
end

section
/-! PROOF. Free values are drawn one after another: the gates of commands, homes and drains, and the accesses of voices (log entry 4). -/

namespace Sys2Proof.Machine

variable {n : Nat} {s t u : State}

/-! ## The gates of commands (R350, R370, R384) -/

section
variable {act : State → State} (hf : ∀ u, Reached u.free (act u))
include hf

@[simp] theorem reached_whenAwake (h : Reached n t) : Reached n (t.whenAwake a1 a2 act) := by
  simp [Reached, h, h.then (hf t), State.whenAwake, -Touches.ite_iff]

@[simp] theorem reached_whenServed (h : Reached n t) : Reached n (t.whenServed a1 act) :=
  reached_whenAwake (fun u => by simp [Reached, hf u, -Touches.ite_iff]) h

@[simp] theorem reached_setupWrite_go (h : Reached n t) : Reached n (State.setupWrite.go a1 a2 a3 a4 act t) := by
  unfold State.setupWrite.go
  (repeat' (first | split | dsimp only)) <;> simp [Reached, h, h.then (hf t), -Touches.ite_iff]

@[simp] theorem reached_setupWrite (h : Reached n t) : Reached n (t.setupWrite a1 a2 a3 a4 a5 act) := by
  unfold State.setupWrite
  split
  · exact reached_setupWrite_go hf h
  · exact reached_whenAwake (fun u => reached_setupWrite_go hf reached_self) h

end

@[simp] theorem reached_issue {act : State → Voice → State} (hf : ∀ u x, Reached u.free (act u x)) (h : Reached n t) :
    Reached n (t.issue a1 a2 a3 act) := by
  simp [Reached, h, h.then (hf t _), State.issue, -Touches.ite_iff]

/-! ## Drains (R307) -/

@[simp] theorem reached_endDrain (h : Reached n t) : Reached n (t.endDrain a1) := by
  simp [Reached, h, -Touches.ite_iff, -Touches.ite_fst, State.endDrain]

@[simp] theorem reached_revokesEnd (h : Reached n t) : Reached n t.revokesEnd := by
  refine reached_each (fun u d => ?_) h
  (repeat' split) <;> simp [Reached, -Touches.ite_iff]

@[simp] theorem reached_reliefEnd (h : Reached n t) : Reached n (t.reliefEnd a1 a2) := by
  unfold State.reliefEnd
  (repeat' (first | split | dsimp only)) <;> simp [Reached, h, -Touches.ite_iff, -Touches.ite_fst]

@[simp] theorem reached_hostAnswer (h : Reached n t) : Reached n (t.hostAnswer a1 a2 a3 a4 a5 a6) := by
  unfold State.hostAnswer
  (repeat' split) <;> simp [Reached, h, -Touches.ite_iff, -Touches.ite_fst]

/-! ## Homes (R288 to R303) -/

@[simp] theorem reached_answer (h : Reached n t) : Reached n (t.answer a1 a2 a3 a4 a5 a6) := by
  unfold State.answer
  (repeat' (first | split | dsimp only)) <;> simp [Reached, h, -Touches.ite_iff]

@[simp] theorem reached_answerRead (h : Reached n t) : Reached n (t.answerRead a1 a2) := by
  unfold State.answerRead
  (repeat' (first | split | dsimp only)) <;> simp (disch := simp [Reached, h, -Touches.ite_iff]) [Reached, -Touches.ite_iff, -Touches.ite_fst]

@[simp] theorem reached_homeAtomic (h : Reached n t) : Reached n (t.homeAtomic a1) := by
  simp [Reached, h, -Touches.ite_iff, -Touches.ite_fst, State.homeAtomic]

@[simp] theorem reached_conclude_lost (h : Reached n t) : Reached n (State.conclude.lost a1 t) := by
  simp [Reached, h, -Touches.ite_iff, -Touches.ite_fst, State.conclude.lost]

@[simp] theorem reached_conclude_write {act : State → State} (hf : ∀ u, Reached u.free (act u)) (h : Reached n t) :
    Reached n (State.conclude.write a1 t act) := by
  have hact {n : Nat} {u : State} (hu : Reached n u) : Reached n (act u) := hu.then (hf u)
  simp [Reached, h, hact, State.conclude.write, -Touches.ite_iff]

@[simp] theorem reached_conclude (h : Reached n t) : Reached n (t.conclude a1) := by
  unfold State.conclude
  dsimp only
  (repeat' split) <;> simp (disch := simp [Reached, h]) [Reached, h, -Touches.ite_iff]

@[simp] theorem reached_closeTxn (h : Reached n t) : Reached n (t.closeTxn a1) := by
  unfold State.closeTxn
  (repeat' split) <;> simp [Reached, h, -Touches.ite_iff, -Touches.ite_fst]

@[simp] theorem reached_openTxn (h : Reached n t) : Reached n (t.openTxn a1 a2 a3) := by
  simp (disch := simp [Reached, h, -Touches.ite_iff]) [Reached, -Touches.ite_iff, -Touches.ite_fst, State.openTxn]

@[simp] theorem reached_recallLine (h : Reached n t) : Reached n (t.recallLine a1) := by
  simp [Reached, h, -Touches.ite_iff, -Touches.ite_fst, State.recallLine]

@[simp] theorem reached_recallRead (h : Reached n t) : Reached n (t.recallRead a1) := by
  simp [Reached, h, -Touches.ite_iff, -Touches.ite_fst, State.recallRead]

@[simp] theorem reached_sweepStart (h : Reached n t) : Reached n t.sweepStart := by
  refine reached_each (fun u d => ?_) h
  split <;> simp [Reached]

@[simp] theorem reached_startReq (h : Reached n t) : Reached n (t.startReq a1) := by
  unfold State.startReq
  (repeat' (first | split | dsimp only)) <;> simp (disch := simp [Reached, h, -Touches.ite_iff]) [Reached, -Touches.ite_iff, -Touches.ite_fst]

@[simp] theorem reached_retryBlock (h : Reached n t) : Reached n (t.retryBlock a1) := by
  simp [Reached, h, -Touches.ite_iff, -Touches.ite_fst, State.retryBlock]

@[simp] theorem reached_refuse (h : Reached n t) : Reached n (t.refuse a1 a2 a3 a4) := by
  unfold State.refuse
  (repeat' split) <;> simp [Reached, h, -Touches.ite_iff, -Touches.ite_fst]

@[simp] theorem reached_homeRequest (h : Reached n t) : Reached n (t.homeRequest a1 a2 a3) := by
  unfold State.homeRequest
  (repeat' (first | split | dsimp only)) <;> simp [Reached, h, -Touches.ite_iff, -Touches.ite_fst]

@[simp] theorem reached_answered (h : Reached n t) : Reached n (t.answered a1 a2 a3 a4 a5) := by
  simp [Reached, h, -Touches.ite_iff, -Touches.ite_fst, State.answered]

@[simp] theorem reached_homeAck (h : Reached n t) : Reached n (t.homeAck a1) := by
  unfold State.homeAck
  (repeat' (first | split | dsimp only)) <;> simp [Reached, h, -Touches.ite_iff, -Touches.ite_fst]

@[simp] theorem reached_homeSnData (h : Reached n t) : Reached n (t.homeSnData a1) := by
  unfold State.homeSnData
  (repeat' (first | split | dsimp only)) <;> simp [Reached, h, -Touches.ite_iff, -Touches.ite_fst]

@[simp] theorem reached_homeWbData (h : Reached n t) : Reached n (t.homeWbData a1) := by
  unfold State.homeWbData
  (repeat' split) <;> simp [Reached, h, -Touches.ite_iff, -Touches.ite_fst]

@[simp] theorem reached_snoopLate (h : Reached n t) : Reached n (t.snoopLate a1 a2 a3) := by
  unfold State.snoopLate
  (repeat' split) <;> simp [Reached, h, -Touches.ite_iff, -Touches.ite_fst]

/-! ## Invalidation tokens (R249) -/

@[simp] theorem reached_bcastDone (h : Reached n t) : Reached n (t.bcastDone a1) := by
  unfold State.bcastDone
  (repeat' split) <;> simp [Reached, h, -Touches.ite_iff, -Touches.ite_fst]

@[simp] theorem reached_bcastsEnd (h : Reached n t) : Reached n (t.bcastsEnd) := by
  simp [Reached, h, -Touches.ite_iff, -Touches.ite_fst, State.bcastsEnd]

@[simp] theorem reached_updBcast (h : Reached n t) : Reached n (t.updBcast a1 a2) := by
  simp [Reached, h, -Touches.ite_iff, -Touches.ite_fst, State.updBcast]

@[simp] theorem reached_bcastMiss (h : Reached n t) : Reached n (t.bcastMiss a1) := by
  unfold State.bcastMiss
  (repeat' (first | split | dsimp only)) <;> simp [Reached, h, -Touches.ite_iff, -Touches.ite_fst]

@[simp] theorem reached_confirmed (h : Reached n t) : Reached n (t.confirmed a1 a2) := by
  simp [Reached, h, -Touches.ite_iff, -Touches.ite_fst, State.confirmed]

@[simp] theorem reached_confirmTimeout (h : Reached n t) : Reached n (t.confirmTimeout a1) := by
  simp (disch := simp [Reached, h, -Touches.ite_iff]) [Reached, -Touches.ite_iff, -Touches.ite_fst, State.confirmTimeout]

@[simp] theorem reached_accessGone (h : Reached n t) : Reached n (t.accessGone a1 a2) := by
  simp [Reached, h, -Touches.ite_iff, -Touches.ite_fst, State.accessGone]

/-! ## Lines of a gallery (R188, R199) -/

@[simp] theorem reached_makeWay (h : Reached n t) : Reached n (t.makeWay a1 a2) := by
  unfold State.makeWay
  dsimp only; (repeat' split) <;> simp [Reached, h, -Touches.ite_iff, -Touches.ite_fst]

@[simp] theorem reached_abufMakeRoom (h : Reached n t) : Reached n (t.abufMakeRoom a1 a2) := by
  unfold State.abufMakeRoom
  dsimp only; (repeat' split) <;> simp [Reached, h, -Touches.ite_iff, -Touches.ite_fst]

/-! ## Pool accesses (R79, R182 to R200) -/

@[simp] theorem reached_askLine (h : Reached n t) : Reached n (t.askLine a1 a2 a3) := by
  unfold State.askLine
  (repeat' (first | split | dsimp only)) <;> simp [Reached, h, -Touches.ite_iff, -Touches.ite_fst]

@[simp] theorem reached_pump (h : Reached n t) : Reached n (t.pump a1 a2) := by
  unfold State.pump
  (repeat' split) <;> simp [Reached, h, -Touches.ite_iff, -Touches.ite_fst]

@[simp] theorem reached_pumpGallery (h : Reached n t) : Reached n (t.pumpGallery a1) :=
  reached_each (fun _ _ => reached_each (fun _ _ => reached_pump reached_self) reached_self) h

@[simp] theorem reached_dropAccess (h : Reached n t) : Reached n (t.dropAccess a1 a2 a3) := by
  simp (disch := simp [Reached, h, -Touches.ite_iff]) [Reached, -Touches.ite_iff, -Touches.ite_fst, State.dropAccess]

@[simp] theorem reached_accessFault (h : Reached n t) : Reached n (t.accessFault a1 a2 a3 a4 a5) := by
  simp [Reached, h, -Touches.ite_iff, -Touches.ite_fst, State.accessFault]

/-- Beginning a walk draws no free value. -/
theorem Reached.walk {g : Nat} {p : Tenant} {d : Nat} {b : Bool} (h : Reached n t) (hw : t.startWalk g p d b = .ok u) : Reached n u :=
  h.via ((touches_startWalk hw (Nat.and_self _)).2 .rfl) (by decide)

@[simp] theorem reached_translateAccess (h : Reached n t) : Reached n (t.translateAccess a1 a2) := by
  unfold State.translateAccess
  split
  · exact h
  extract_lets +onlyGivenNames g p
  split
  · exact h
  split
  · extract_lets +onlyGivenNames x
    split <;> simp [Reached, h]
  extract_lets +onlyGivenNames u
  have hu : Reached n u := by
    simp only [u]
    split <;> simp [Reached, h]
  clear_value u
  split
  · exact hu
  split
  · simp [Reached, hu]
  · exact hu.walk ‹_›

@[simp] theorem reached_translateGallery (h : Reached n t) : Reached n (t.translateGallery a1) :=
  reached_each (fun _ _ => reached_each (fun _ _ => reached_translateAccess reached_self) reached_self) h

@[simp] theorem reached_endAccess (h : Reached n t) : Reached n (t.endAccess a1 a2 a3 a4) := by
  simp [Reached, h, -Touches.ite_iff, -Touches.ite_fst, State.endAccess]

@[simp] theorem reached_refuseWeights (h : Reached n t) : Reached n (t.refuseWeights a1 a2) := by
  simp [Reached, h, -Touches.ite_iff, -Touches.ite_fst, State.refuseWeights]

@[simp] theorem reached_accessRsp (h : Reached n t) : Reached n (t.accessRsp a1 a2 a3 a4 a5 a6 a7 a8) := by
  unfold State.accessRsp
  extract_lets +onlyGivenNames g s1 d poison keep c st s2 s3 s4
  have hs1 : Reached n s1 := by simp [s1, Reached, h]
  have hkeep (b : Bool) {u : State} (hu : Reached n u) : Reached n (keep u b) := by simp [keep, Reached, hu]
  clear_value s1 keep
  have hs2 : Reached n s2 := by
    simp only [s2]
    (repeat' (first | split | dsimp only)) <;> simp (disch := simp [Reached, hs1]) [Reached, hs1, hkeep _ hs1, -Touches.ite_iff]
  clear_value s2
  have hs3 : Reached n s3 := by
    simp only [s3]
    split <;> simp [Reached, hs2]
  clear_value s3
  have hs4 : Reached n s4 := by
    simp only [s4]
    (repeat' split) <;> simp [Reached, hs3]
  exact reached_pumpGallery hs4

@[simp] theorem reached_goneRsp (h : Reached n t) : Reached n (t.goneRsp a1 a2 a3 a4 a5 a6 a7 a8 a9) := by
  unfold State.goneRsp
  (repeat' split) <;> simp [Reached, h, -Touches.ite_iff, -Touches.ite_fst]

@[simp] theorem reached_engineWrote (h : Reached n t) : Reached n (t.engineWrote a1 a2 a3) := by
  unfold State.engineWrote
  (repeat' (first | split | dsimp only)) <;> simp [Reached, h, -Touches.ite_iff, -Touches.ite_fst]

@[simp] theorem reached_engineEnd (h : Reached n t) : Reached n (t.engineEnd a1 a2 a3) := by
  simp [Reached, h, -Touches.ite_iff, -Touches.ite_fst, State.engineEnd]

@[simp] theorem reached_ownRsp (h : Reached n t) : Reached n (t.ownRsp a1 a2) := by
  unfold State.ownRsp
  split
  · exact reached_homeAck h
  split
  · exact reached_homeSnData h
  split
  · exact reached_homeWbData h
  extract_lets +onlyGivenNames k q x s1
  have hs1 : Reached n s1 := by
    simp only [s1]
    split <;> simp [Reached, h]
  clear_value s1
  (repeat' (first | split | dsimp only))
  case h_5.isFalse => exact reached_pumpGallery (hs1.same rfl)
  case h_8.isFalse => exact hs1.same rfl
  all_goals simp [Reached, hs1, -Touches.ite_iff]

@[simp] theorem reached_deliverMsg (h : Reached n t) : Reached n (t.deliverMsg a1) := by
  unfold State.deliverMsg
  (repeat' split) <;> simp [Reached, h, -Touches.ite_iff, -Touches.ite_fst]

@[simp] theorem reached_settleNet (h : Reached n t) : Reached n (State.settleNet a1 t) := by
  induction a1 generalizing t with
  | zero => exact h
  | succ k ih =>
    unfold State.settleNet
    split
    · split
      · exact ih (by simp [Reached, h])
      · exact h
    · split <;> exact ih (by simp [Reached, h])

@[simp] theorem reached_runNet (h : Reached n t) : Reached n (t.runNet) := by
  simp [Reached, h, -Touches.ite_iff, -Touches.ite_fst, State.runNet]

@[simp] theorem reached_issueAccess (h : Reached n t) : Reached n (t.issueAccess a1 a2) := by
  unfold State.issueAccess
  (repeat' (first | split | dsimp only)) <;> simp (disch := simp [Reached, h, -Touches.ite_iff]) [Reached, h, -Touches.ite_iff, -Touches.ite_fst]

@[simp] theorem reached_scalarAccess (h : Reached n t) : Reached n (t.scalarAccess a1 a2 a3 a4) := by
  simp [Reached, h, -Touches.ite_iff, -Touches.ite_fst, State.scalarAccess]

@[simp] theorem reached_vectorAccess (h : Reached n t) : Reached n (t.vectorAccess a1 a2 a3 a4) := by
  simp [Reached, h, -Touches.ite_iff, -Touches.ite_fst, State.vectorAccess]

@[simp] theorem reached_linv (h : Reached n t) : Reached n (t.linv a1 a2) := by
  simp [Reached, h, -Touches.ite_iff, -Touches.ite_fst, State.linv]

@[simp] theorem reached_atomic (h : Reached n t) : Reached n (t.atomic a1 a2 a3 a4) := by
  simp [Reached, h, -Touches.ite_iff, -Touches.ite_fst, State.atomic]

@[simp] theorem reached_fence (h : Reached n t) : Reached n (t.fence a1 a2) := by
  simp (disch := simp [Reached, h, -Touches.ite_iff]) [Reached, -Touches.ite_iff, -Touches.ite_fst, State.fence]

@[simp] theorem reached_perform (h : Reached n t) : Reached n (t.perform a1 a2) := by
  simp (disch := simp [Reached, h, -Touches.ite_iff]) [Reached, -Touches.ite_iff, -Touches.ite_fst, State.perform]

@[simp] theorem reached_accessComplete (h : Reached n t) : Reached n (t.accessComplete a1 a2 a3 a4) := by
  unfold State.accessComplete
  extract_lets +onlyGivenNames s1
  have hs1 : Reached n s1 := by simp [s1, Reached, h]
  clear_value s1
  split
  · exact hs1
  extract_lets +onlyGivenNames g
  split
  · exact hs1
  extract_lets +onlyGivenNames s2 still narrow s3
  have hs2 : Reached n s2 := by
    simp only [s2]
    split <;> simp (disch := simp [Reached, hs1]) [Reached, hs1]
  clear_value s2
  have hs3 : Reached n s3 := by
    simp only [s3]
    split <;> simp (disch := simp [Reached, hs2]) [Reached, hs2]
  clear_value s3
  split
  · exact hs3
  · exact reached_runNet (reached_pumpGallery (reached_perform (by split <;> simp [Reached, hs3])))

end Sys2Proof.Machine
end

section
/-! PROOF. Free values are drawn one after another: the session store (log entry 4). -/

namespace Sys2Proof.Machine

variable {n : Nat} {s t u : State}

/-! ## Sessions (R93 to R132) -/

@[simp] theorem reached_askEntry (h : Reached n t) : Reached n (t.askEntry a1 a2) := by
  simp [Reached, h, -Touches.ite_iff, -Touches.ite_fst, State.askEntry]

@[simp] theorem reached_tellMembers (h : Reached n t) : Reached n (t.tellMembers a1 a2) := by
  simp [Reached, h, -Touches.ite_iff, -Touches.ite_fst, State.tellMembers]

@[simp] theorem reached_tellOthers (h : Reached n t) : Reached n (t.tellOthers a1 a2 a3 a4 a5) := by
  simp [Reached, h, -Touches.ite_iff, -Touches.ite_fst, State.tellOthers]

@[simp] theorem reached_releaseGone (h : Reached n t) : Reached n (t.releaseGone a1) := by
  unfold State.releaseGone
  (repeat' split) <;> simp [Reached, h, -Touches.ite_iff, -Touches.ite_fst]

@[simp] theorem reached_endSesOp (h : Reached n t) : Reached n (t.endSesOp a1) := by
  unfold State.endSesOp
  extract_lets +onlyGivenNames sid s1
  have hs1 : Reached n s1 := by simp [s1, Reached, h]
  clear_value s1
  split
  · extract_lets +onlyGivenNames k s2
    have hs2 : Reached n s2 := by
      simp only [s2]
      split
      · exact hs1.via ((touches_applyMember (by assumption) (Nat.and_self _)).2 .rfl) (by decide)
      · exact hs1
    clear_value s2
    simp [Reached, hs2]
  · split <;> simp [Reached, hs1]

@[simp] theorem reached_memberAnswered (h : Reached n t) : Reached n (t.memberAnswered a1 a2 a3) := by
  unfold State.memberAnswered
  (repeat' split) <;> simp [Reached, h, -Touches.ite_iff, -Touches.ite_fst]

@[simp] theorem reached_startMulti (h : Reached n t) : Reached n (t.startMulti a1 a2 a3 a4 a5 a6 a7) := by
  unfold State.startMulti
  split
  · simp [Reached, h]
  next u happ =>
    have hu : Reached n u := h.via ((touches_applyMember happ (Nat.and_self _)).2 .rfl) (by decide)
    extract_lets s1 s2 gone waiting op s3
    have hs3 : Reached n s3 := by simp [s1, s2, s3, Reached, hu]
    split
    · exact reached_endSesOp hs3
    · exact hs3

@[simp] theorem reached_endSess (h : Reached n t) : Reached n (t.endSess a1 a2 a3 a4 a5 a6) := by
  simp [Reached, h, -Touches.ite_iff, -Touches.ite_fst, State.endSess]

@[simp] theorem reached_withSession {act : State → Nat → State} (hf : ∀ u i, Reached u.free (act u i)) (h : Reached n t) :
    Reached n (t.withSession a1 a2 a3 a4 a5 a6 act) := by
  unfold State.withSession
  extract_lets +onlyGivenNames d sid layer s1
  have hs1 : Reached n s1 := by simp [s1, Reached, h]
  clear_value s1
  split
  · simp [Reached, hs1]
  · simp [Reached, hs1]
  next i hi =>
    have hact : Reached n (act s1 i) := hs1.then (hf s1 i)
    simp [Reached, hs1, hact, -Touches.ite_iff]

@[simp] theorem reached_sesCreate (h : Reached n t) : Reached n (t.sesCreate a1 a2) := by
  unfold State.sesCreate
  split
  · exact h
  extract_lets +onlyGivenNames d
  split
  · simp [Reached, h]
  split
  · simp [Reached, h]
  next u hnew =>
    have hu : Reached n u := h.via ((touches_newEntry hnew (Nat.and_self _)).2 .rfl) (by decide)
    simp [Reached, hu]

@[simp] theorem reached_askPage (h : Reached n t) : Reached n (t.askPage a1 a2 a3) := by
  simp [Reached, h, -Touches.ite_iff, -Touches.ite_fst, State.askPage]

@[simp] theorem reached_sesAppend (h : Reached n t) : Reached n (t.sesAppend a1 a2 a3) := by
  unfold State.sesAppend
  split
  · exact h
  extract_lets +onlyGivenNames d k start l sid bad
  have hbad (off why : Nat) : Reached n (bad off why) := by simp [bad, Reached, h]
  clear_value bad
  split
  · exact hbad _ _
  split
  · exact hbad _ _
  split
  · exact hbad _ _
  refine reached_withSession (fun u i => ?_) h
  extract_lets +onlyGivenNames s1 x
  have hs1 : Reached u.free s1 := by simp [s1, Reached]
  clear_value s1
  split
  · simp [Reached, hs1]
  split
  · simp [Reached, hs1]
  extract_lets +onlyGivenNames tail s2 len eng needs
  have hs2 : Reached u.free s2 := by simp [s2, Reached, hs1]
  clear_value s2
  split
  · exact hs2
  split
  · simp [Reached, hs2]
  split
  · simp [Reached, hs2]
  split
  next bs e hread =>
  extract_lets +onlyGivenNames s3
  have hs3 : Reached u.free s3 := by
    simp only [s3]
    split <;> simp [Reached, hs2]
  clear_value s3
  split
  · simp [Reached, hs3]
  split
  · simp [Reached, hs3]
  extract_lets +onlyGivenNames data row
  split
  · simp [Reached, hs3]
  next w happ =>
    have hw : Reached u.free w := hs3.via ((touches_appendRows happ (Nat.and_self _)).2 .rfl) (by decide)
    simp [Reached, hw]

@[simp] theorem reached_sesPublish (h : Reached n t) : Reached n (t.sesPublish a1 a2) := by
  unfold State.sesPublish
  split
  · exact h
  extract_lets +onlyGivenNames d sid tokens
  split
  · simp [Reached, h]
  refine reached_withSession (fun u i => ?_) h
  dsimp only
  (repeat' split) <;> simp [Reached]

@[simp] theorem reached_sesChild (h : Reached n t) : Reached n (t.sesChild a1 a2 a3 a4) := by
  unfold State.sesChild
  split
  · exact h
  refine reached_withSession (fun u i => ?_) h
  dsimp only
  (repeat' split) <;> simp [Reached]

@[simp] theorem reached_sesDiscard (h : Reached n t) : Reached n (t.sesDiscard a1 a2) := by
  unfold State.sesDiscard
  (repeat' split) <;> simp [Reached, h, -Touches.ite_iff, -Touches.ite_fst]

@[simp] theorem reached_sesOffer (h : Reached n t) : Reached n (t.sesOffer a1 a2) := by
  unfold State.sesOffer
  split
  · exact h
  refine reached_withSession (fun u i => ?_) h
  dsimp only
  (repeat' split) <;> simp [Reached]

@[simp] theorem reached_sesAccept (h : Reached n t) : Reached n (t.sesAccept a1 a2) := by
  unfold State.sesAccept
  (repeat' split) <;> simp [Reached, h, -Touches.ite_iff, -Touches.ite_fst]

@[simp] theorem reached_sesQueryOp (h : Reached n t) : Reached n (t.sesQueryOp a1 a2) := by
  unfold State.sesQueryOp
  (repeat' split) <;> simp [Reached, h, -Touches.ite_iff, -Touches.ite_fst]

@[simp] theorem reached_sesWake (h : Reached n t) : Reached n (t.sesWake a1 a2) := by
  unfold State.sesWake
  split
  · exact h
  refine reached_withSession (fun u i => ?_) h
  dsimp only
  (repeat' split) <;> simp [Reached]

@[simp] theorem reached_memberOp (h : Reached n t) : Reached n (t.memberOp a1) := by
  unfold State.memberOp
  dsimp only
  split
  · (repeat' split) <;> simp [Reached, h]
  next u happ =>
    have hu : Reached n u := h.via ((touches_applyMember happ (Nat.and_self _)).2 .rfl) (by decide)
    split <;> simp [Reached, hu]

@[simp] theorem reached_endNaming (h : Reached n t) : Reached n (t.endNaming a1 a2) := by
  refine reached_each (fun u r => ?_) h
  dsimp only
  split
  · refine reached_each (fun v f => ?_) reached_self
    (repeat' split) <;> simp [Reached]
  · exact reached_self

@[simp] theorem reached_servePage (h : Reached n t) : Reached n (t.servePage a1 a2 a3 a4) := by
  unfold State.servePage
  (repeat' (first | split | dsimp only)) <;> simp [Reached, h, -Touches.ite_iff, -Touches.ite_fst]

@[simp] theorem reached_servePageWhenCalm (h : Reached n t) : Reached n (t.servePageWhenCalm a1 a2 a3 a4 a5) := by
  unfold State.servePageWhenCalm
  (repeat' (first | split | dsimp only)) <;> simp [Reached, h, -Touches.ite_iff, -Touches.ite_fst]

@[simp] theorem reached_serveLeased (h : Reached n t) : Reached n (t.serveLeased a1 a2 a3 a4 a5) := by
  unfold State.serveLeased
  (repeat' split) <;> simp [Reached, h, -Touches.ite_iff, -Touches.ite_fst]

@[simp] theorem reached_pullAsked (h : Reached n t) : Reached n (t.pullAsked a1 a2 a3 a4) := by
  simp [Reached, h, -Touches.ite_iff, -Touches.ite_fst, State.pullAsked]

@[simp] theorem reached_pullsGoOn (h : Reached n t) : Reached n t.pullsGoOn := by
  refine reached_each (fun u p => ?_) (h.same rfl)
  split <;> simp [Reached]

@[simp] theorem reached_pullsEnd (h : Reached n t) : Reached n (t.pullsEnd a1) := by
  unfold State.pullsEnd
  extract_lets +onlyGivenNames x r s1
  have hs1 : Reached n s1 := h.same rfl
  clear_value s1
  split <;> simp [Reached, hs1]

@[simp] theorem reached_pageCame (h : Reached n t) : Reached n (t.pageCame a1) := by
  unfold State.pageCame
  (repeat' (first | split | dsimp only)) <;> simp [Reached, h, -Touches.ite_iff, -Touches.ite_fst]

@[simp] theorem reached_memberHolds (h : Reached n t) : Reached n (t.memberHolds a1 a2) := by
  simp [Reached, h, -Touches.ite_iff, -Touches.ite_fst, State.memberHolds]

@[simp] theorem reached_memberAcked (h : Reached n t) : Reached n (t.memberAcked a1 a2) := by
  simp [Reached, h, -Touches.ite_iff, -Touches.ite_fst, State.memberAcked]

@[simp] theorem reached_opsGoOn (h : Reached n t) : Reached n (t.opsGoOn a1) := by
  simp [Reached, h, -Touches.ite_iff, -Touches.ite_fst, State.opsGoOn]

@[simp] theorem reached_pullAnswered (h : Reached n t) : Reached n (t.pullAnswered a1 a2) := by
  unfold State.pullAnswered
  extract_lets +onlyGivenNames sid i x
  split
  · split
    · exact h
    extract_lets +onlyGivenNames s1 w s2 s3
    have hs1 : Reached n s1 := by simp [s1, Reached, h]
    clear_value s1
    have hw : Reached n w := by simp [w, Reached, hs1]
    clear_value w
    have hs2 : Reached n s2 := by
      simp only [s2]
      split
      · split
        next hfill => exact hs1.via ((touches_fillEntry hfill (Nat.and_self _)).2 .rfl) (by decide)
        · simp [Reached, hs1]
      · (repeat' split) <;> simp [Reached, hs1, hw]
    clear_value s2
    have hs3 : Reached n s3 := by simp [s3, Reached, hs2]
    exact reached_endNaming hs3
  · extract_lets +onlyGivenNames k
    split
    · exact h
    extract_lets +onlyGivenNames s1
    have hs1 : Reached n s1 := h.same rfl
    clear_value s1
    split
    next htake => exact reached_pageCame (hs1.via ((touches_takePage htake (Nat.and_self _)).2 .rfl) (by decide))
    · simp [Reached, hs1]
  · (repeat' split) <;> simp [Reached, h]
  · extract_lets +onlyGivenNames s1
    have hs1 : Reached n s1 := h.same rfl
    split <;> simp [Reached, hs1]
  · split
    · exact h
    · exact reached_endNaming (h.same rfl)

@[simp] theorem reached_pullExpired (h : Reached n t) : Reached n (t.pullExpired a1) := by
  simp [Reached, h, -Touches.ite_iff, -Touches.ite_fst, State.pullExpired]

@[simp] theorem reached_claimed (h : Reached n t) : Reached n (t.claimed a1 a2 a3 a4 a5) := by
  simp [Reached, h, -Touches.ite_iff, -Touches.ite_fst, State.claimed]

@[simp] theorem reached_endAccept (h : Reached n t) : Reached n (t.endAccept a1 a2 a3) := by
  unfold State.endAccept
  (repeat' split) <;> simp [Reached, h, -Touches.ite_iff, -Touches.ite_fst]

@[simp] theorem reached_acceptDone (h : Reached n t) : Reached n (t.acceptDone a1) := by
  unfold State.acceptDone
  (repeat' (first | split | dsimp only)) <;> simp [Reached, h, -Touches.ite_iff, -Touches.ite_fst]

@[simp] theorem reached_failAccept (h : Reached n t) : Reached n (t.failAccept a1 a2) := by
  unfold State.failAccept
  (repeat' split) <;> simp [Reached, h, -Touches.ite_iff, -Touches.ite_fst]

@[simp] theorem reached_granted (h : Reached n t) : Reached n (t.granted a1 a2 a3 a4 a5) := by
  unfold State.granted
  split
  · exact h
  split
  · exact h
  split
  · simp [Reached, h]
  split
  · dsimp only
    split <;> simp [Reached, h]
  split
  · simp [Reached, h]
  split
  · simp [Reached, h]
  next u hnew =>
    have hu : Reached n u := h.via ((touches_newEntry hnew (Nat.and_self _)).2 .rfl) (by decide)
    simp [Reached, hu]

@[simp] theorem reached_committedAt (h : Reached n t) : Reached n (t.committedAt a1 a2 a3) := by
  unfold State.committedAt
  extract_lets +onlyGivenNames i x
  split
  · extract_lets +onlyGivenNames ticks s1 s2
    have hs2 : Reached n s2 := by simp (disch := simp [Reached, h]) [s2, s1, Reached]
    clear_value s2
    simp [Reached, hs2]
  · simp [Reached, h]

@[simp] theorem reached_commitAcked (h : Reached n t) : Reached n (t.commitAcked a1 a2) := by
  unfold State.commitAcked
  (repeat' split) <;> simp [Reached, h, -Touches.ite_iff, -Touches.ite_fst]

@[simp] theorem reached_commitExpired (h : Reached n t) : Reached n (t.commitExpired a1 a2) := by
  unfold State.commitExpired
  (repeat' split) <;> simp [Reached, h, -Touches.ite_iff, -Touches.ite_fst]

@[simp] theorem reached_leaseAnswered (h : Reached n t) : Reached n (t.leaseAnswered a1 a2 a3) := by
  unfold State.leaseAnswered
  (repeat' split) <;> simp [Reached, h, -Touches.ite_iff, -Touches.ite_fst]

@[simp] theorem reached_leaseExpired (h : Reached n t) : Reached n (t.leaseExpired a1 a2) := by
  unfold State.leaseExpired
  (repeat' split) <;> simp [Reached, h, -Touches.ite_iff, -Touches.ite_fst]

@[simp] theorem reached_claimRefusedAt (h : Reached n t) : Reached n (t.claimRefusedAt a1 a2 a3) := by
  unfold State.claimRefusedAt
  (repeat' split) <;> simp [Reached, h, -Touches.ite_iff, -Touches.ite_fst]

@[simp] theorem reached_leaseRead (h : Reached n t) : Reached n (t.leaseRead a1 a2) := by
  simp [Reached, h, -Touches.ite_iff, -Touches.ite_fst, State.leaseRead]

@[simp] theorem reached_leaseLost (h : Reached n t) : Reached n (t.leaseLost a1) := by
  simp [Reached, h, -Touches.ite_iff, -Touches.ite_fst, State.leaseLost]

@[simp] theorem reached_released (h : Reached n t) : Reached n (t.released a1 a2) := by
  simp [Reached, h, -Touches.ite_iff, -Touches.ite_fst, State.released]

@[simp] theorem reached_handoffExpired (h : Reached n t) : Reached n (t.handoffExpired a1) := by
  simp [Reached, h, -Touches.ite_iff, -Touches.ite_fst, State.handoffExpired]

@[simp] theorem reached_sessionMiss (h : Reached n t) : Reached n (t.sessionMiss a1) := by
  unfold State.sessionMiss
  (repeat' (first | split | dsimp only)) <;> simp [Reached, h, -Touches.ite_iff, -Touches.ite_fst]

end Sys2Proof.Machine
end

section
/-! PROOF. Free values are drawn one after another: attention, streams and embeddings (log entry 4). -/

namespace Sys2Proof.Machine

variable {n : Nat} {s t u : State}

/-- A read of an item that answers `g` leaves the state of `g`. -/
theorem Reached.got {g g' : Got} (h : Reached n g.state) (he : g = g') : Reached n g'.state := he ▸ h

/-! ## Attention (R133 to R156) -/

@[simp] theorem reached_attnStart (h : Reached n t) : Reached n (t.attnStart a1 a2 a3) := by
  unfold State.attnStart
  (repeat' (first | split | dsimp only)) <;> simp [Reached, h, -Touches.ite_iff, -Touches.ite_fst]

@[simp] theorem reached_itemRead (h : Reached n t) : Reached n (t.itemRead a1 a2 a3 a4 a5 a6 a7).state := by
  unfold State.itemRead
  (repeat' (first | split | dsimp only)) <;> simp [Reached, h, -Touches.ite_iff, -Touches.ite_fst]

@[simp] theorem reached_itemWrite (h : Reached n t) : Reached n (t.itemWrite a1 a2 a3 a4 a5 a6 a7).1 := by
  unfold State.itemWrite
  (repeat' (first | split | dsimp only)) <;> simp [Reached, h, -Touches.ite_iff, -Touches.ite_fst]

@[simp] theorem reached_spoil (h : Reached n t) : Reached n (State.spoil a1 a2 t a3 a4) := by
  induction a2 generalizing t a3 a4 with
  | zero => exact h
  | succ k ih =>
    unfold State.spoil
    split
    · exact h
    · exact ih (by simp [Reached, h])

@[simp] theorem reached_spoilOutput (h : Reached n t) : Reached n (t.spoilOutput a1 a2) := by
  simp [Reached, h, -Touches.ite_iff, -Touches.ite_fst, State.spoilOutput]

theorem reached_attnCommit {act : State → Option State} (hf : ∀ u v, act u = some v → Reached u.free v) (h : Reached n t) :
    Reached n (t.attnCommit a1 a2 a3 a4 act).1 := by
  unfold State.attnCommit
  split
  · exact h
  next u hact =>
    have hu : Reached n u := h.then (hf t u hact)
    simp (disch := simp [Reached, hu]) [Reached]

theorem reached_outputThen {act : State → Closed} (hf : ∀ u, Reached u.free (act u).state) (h : Reached n t) :
    Reached n (t.outputThen a1 a2 a3 a4 a5 a6 a7 act).state := by
  unfold State.outputThen
  extract_lets +onlyGivenNames r pos
  split
  · split
    · exact h
    · exact h.then (hf t)
  · have hw := reached_itemWrite (a1 := r) (a2 := pos) (a3 := a3) (a4 := a4) (a5 := a5) (a6 := a6) (a7 := a7) h
    split
    next he =>
      rw [he] at hw
      exact hw
    next u he =>
      rw [he] at hw
      split
      · simp [Reached, hw]
      · exact hw.then (hf u)

@[simp] theorem reached_attnClose (h : Reached n t) : Reached n (t.attnClose a1 a2 a3).state := by
  unfold State.attnClose
  extract_lets +onlyGivenNames a r x e
  have hread := reached_itemRead (a1 := r) (a2 := a3.pos.toNat) (a3 := a.srcHost) (a4 := a3.host) (a5 := a.src) (a6 := a.blockLen x) (a7 := 40) h
  split
  next hr => exact hread.got hr
  next hr => exact hread.got hr
  next u block hr =>
  have hu : Reached n u := hread.got hr
  split
  · exact hu
  extract_lets +onlyGivenNames depth pages
  split
  · simp [Reached, hu]
  extract_lets +onlyGivenNames w
  have hw : Reached n w := by
    simp only [w]
    split <;> simp [Reached, hu]
  clear_value w
  split
  next hf => exact hw.via ((touches_pageFault hf (Nat.and_self _)).2 .rfl) (by decide)
  extract_lets +onlyGivenNames rope
  split
  · simp [Reached, hw]
  split
  · exact hw
  split
  refine reached_outputThen (fun v => ?_) hw
  exact reached_attnCommit (fun v z hz => reached_self.via ((touches_attnAppend hz (Nat.and_self _)).2 .rfl) (by decide)) reached_self

/-! ## Streams (R243, R244) -/

@[simp] theorem reached_streamCache (h : Reached n t) : Reached n (t.streamCache a1 a2 a3 a4 a5) := by
  simp [Reached, h, -Touches.ite_iff, -Touches.ite_fst, State.streamCache]

@[simp] theorem reached_moveTile (h : Reached n t) : Reached n (t.moveTile a1 a2 a3).state := by
  unfold State.moveTile
  extract_lets +onlyGivenNames g p d a k
  split
  · have hs := reached_scatter (a1 := a2.eng a1) (a2 := pieces k) (a3 := a)
      (a4 := (t.padRead (coreOf a1) (sdLocal d + a3 * k) k).map (·, false)) h
    dsimp only
    split
    · simp [Reached, hs, TileEnd.state]
    · exact hs
  · split
    extract_lets +onlyGivenNames s1
    have hs1 : Reached n s1 := by simp [s1, Reached, h]
    clear_value s1
    split
    · simp [Reached, hs1, TileEnd.state]
    split
    · simp [Reached, hs1, TileEnd.state]
    split
    · refine reached_each (fun u i => ?_) hs1
      (repeat' split) <;> simp [Reached]
    · simp [Reached, hs1, TileEnd.state]

@[simp] theorem reached_tryTile (h : Reached n t) : Reached n (t.tryTile a1 a2 a3).1 := by
  unfold State.tryTile
  extract_lets +onlyGivenNames s1 needs
  have hs1 : Reached n s1 := by simp [s1, Reached, h]
  clear_value s1
  split
  · exact hs1
  split
  · simp [Reached, hs1]
  have hmove := reached_moveTile (a1 := a1) (a2 := a2) (a3 := a3) hs1
  split <;> (rename_i he; rw [he] at hmove; simp only [TileEnd.state] at hmove; simp [Reached, hmove])

@[simp] theorem reached_moveTiles (h : Reached n t) : Reached n (State.moveTiles a1 a2 a3 t a4) := by
  induction a3 generalizing t a4 with
  | zero =>
    unfold State.moveTiles
    split <;> simp [Reached, h]
  | succ k ih =>
    unfold State.moveTiles
    dsimp only
    split
    · exact ih (reached_tryTile h)
    · exact reached_tryTile h

@[simp] theorem reached_tileBegin (h : Reached n t) : Reached n (t.tileBegin a1 a2) := by
  unfold State.tileBegin
  dsimp only; (repeat' split) <;> simp [Reached, h, -Touches.ite_iff, -Touches.ite_fst]

@[simp] theorem reached_streamEnd (h : Reached n t) : Reached n (t.streamEnd a1 a2 a3 a4 a5 a6 a7) := by
  unfold State.streamEnd
  split
  · exact h
  split
  · exact h
  extract_lets +onlyGivenNames left s1 s2
  have hs1 : Reached n s1 := by simp [s1, Reached, h]
  clear_value s1
  have hs2 : Reached n s2 := by
    simp only [s2]
    split <;> simp [Reached, hs1]
  clear_value s2
  extract_lets +onlyGivenNames ended
  split <;> simp [Reached, hs2]

/-! ## Embeddings (R157 to R175) -/

@[simp] theorem reached_embStart (h : Reached n t) : Reached n (t.embStart a1 a2 a3 a4 a5 a6 a7) := by
  unfold State.embStart
  (repeat' (first | split | dsimp only)) <;> simp [Reached, h, -Touches.ite_iff, -Touches.ite_fst]

@[simp] theorem reached_readIdx (h : Reached n t) : Reached n (t.readIdx a1 a2 a3).state := by
  simp [Reached, h, -Touches.ite_iff, -Touches.ite_fst, State.readIdx]

@[simp] theorem reached_readOff (h : Reached n t) : Reached n (t.readOff a1 a2 a3).state := by
  unfold State.readOff
  (repeat' (first | split | dsimp only)) <;> simp [Reached, h, -Touches.ite_iff, -Touches.ite_fst]

@[simp] theorem reached_lookupClose (h : Reached n t) : Reached n (t.lookupClose a1 a2 a3 a4 a5).state := by
  unfold State.lookupClose
  extract_lets +onlyGivenNames r
  have hidx := reached_readIdx (a1 := r) (a2 := a3) (a3 := a5) h
  split
  next hr => exact hidx.got hr
  next hr => exact hidx.got hr
  next u bs hr =>
  have hu : Reached n u := hidx.got hr
  have hoff := reached_readOff (a1 := r) (a2 := a3) (a3 := a5) hu
  split
  next hr => exact hoff.got hr
  next hr => exact hoff.got hr
  next w ob hr =>
  have hw : Reached n w := hoff.got hr
  extract_lets +onlyGivenNames idx kept uniq offs
  split
  · exact hw
  split
  · simp [Reached, hw]
  dsimp only
  split
  · simp [Reached, hw]
  refine reached_outputThen (fun v => ?_) ?_
  · simp [Reached]
  · simp [Reached, hw]

@[simp] theorem reached_warm (h : Reached n t) : Reached n (t.warm a1 a2 a3) := by
  simp [Reached, h, -Touches.ite_iff, -Touches.ite_fst, State.warm]

@[simp] theorem reached_lookaheadClose (h : Reached n t) : Reached n (t.lookaheadClose a1 a2 a3 a4).state := by
  unfold State.lookaheadClose
  have hidx := reached_readIdx (a1 := a1.ring.toNat) (a2 := a2) (a3 := a4) h
  split
  next hr => exact hidx.got hr
  next hr => exact hidx.got hr
  next u bs hr =>
  have hu : Reached n u := hidx.got hr
  extract_lets +onlyGivenNames idx kept uniq galleries held
  split
  · simp [Reached, hu]
  extract_lets +onlyGivenNames near s1 s2
  have hs1 : Reached n s1 := reached_each (fun _ _ => reached_each (fun _ _ => by simp [Reached]) reached_self) hu
  clear_value s1
  have hs2 : Reached n s2 := by simp [s2, Reached, hs1]
  simp [Reached, hs2]

/-- A read of a GRAD's lists that answers `g` leaves the state of `g`. -/
theorem Reached.gradGot {g g' : GradGot} (h : Reached n g.state) (he : g = g') : Reached n g'.state := he ▸ h

@[simp] theorem reached_gradRead (h : Reached n t) : Reached n (t.gradRead a1 a2 a3 a4).state := by
  unfold State.gradRead
  have hidx := reached_readIdx (a1 := a1) (a2 := a2) (a3 := a4) h
  split
  next hr => exact hidx.got hr
  next hr => exact hidx.got hr
  next u bs hr =>
  have hu : Reached n u := hidx.got hr
  have hread := reached_itemRead (a1 := a1) (a2 := a4.pos.toNat) (a3 := a2.srcHost) (a4 := a4.host) (a5 := a2.off)
    (a6 := a2.count * tcElems a3 * a2.gb) (a7 := 32) hu
  split
  next hr => exact hread.got hr
  next hr => exact hread.got hr
  next hr => exact hread.got hr

@[simp] theorem reached_gradAdd (h : Reached n t) : Reached n (t.gradAdd a1 a2).state := by
  unfold State.gradAdd
  extract_lets +onlyGivenNames a
  split
  · exact h
  split
  · exact h
  next x hx =>
  have hread := reached_gradRead (a1 := a1) (a2 := a) (a3 := x.ctx) (a4 := a2) h
  split
  next hr => exact hread.gradGot hr
  next hr => exact hread.gradGot hr
  next u l dropped hr =>
  have hu : Reached n u := hread.gradGot hr
  dsimp only
  split <;> simp [Reached, hu]

@[simp] theorem reached_gradBegin (h : Reached n t) : Reached n (t.gradBegin a1 a2) := by
  unfold State.gradBegin
  split
  · exact h
  next f hf =>
  have hadd := reached_gradAdd (a1 := a2.ring.toNat) (a2 := f) h
  split
  next hr => exact hadd.got hr
  next u c hr =>
    have hu : Reached n u := hadd.got hr
    simp [Reached, hu]
  next hr => exact hadd.got hr

@[simp] theorem reached_gradClose (h : Reached n t) : Reached n (t.gradClose a1 a2).state := by
  unfold State.gradClose
  have hadd := reached_gradAdd (a1 := a1) (a2 := a2) h
  split
  next hr => exact hadd.got hr
  next hr => exact hadd.got hr
  next u bs hr =>
    have hu : Reached n u := hadd.got hr
    simp [Reached, hu]

@[simp] theorem reached_itemRecord (h : Reached n t) : Reached n (t.itemRecord a1 a2 a3) := by
  unfold State.itemRecord
  (repeat' split) <;> simp [Reached, h, -Touches.ite_iff, -Touches.ite_fst]

@[simp] theorem reached_reversed (h : Reached n t) : Reached n (t.reversed a1 a2 a3) := by
  unfold State.reversed
  split
  · exact h
  next g hg =>
  extract_lets +onlyGivenNames c p s0 s1 lost
  have hs1 : Reached n s1 := by simp [s1, Reached, h]
  have hlost {u : State} {x : Table} (hu : Reached n u) : Reached n (lost u x) := by
    have hd : Reached n (u.discardStep p g.step) := by simp [Reached, hu]
    have hstep : Reached n { u.discardStep p g.step with poisonSteps := (g.table, g.step) :: (u.discardStep p g.step).poisonSteps } := hd.same rfl
    exact hstep.via ((touches_record (Nat.and_self _)).2 .rfl) (by decide)
  clear_value s1 lost
  split
  next x f hx hf =>
    extract_lets +onlyGivenNames a
    split
    · exact reached_finish (hlost hs1)
    have hread := reached_gradRead (a1 := a1) (a2 := a) (a3 := x.ctx) (a4 := f) h
    split
    next hr => exact hread.gradGot hr
    next u e hr =>
      have hu : Reached n u := hread.gradGot hr
      exact reached_finish (hlost (by simp [Reached, hu]))
    next u l dropped hr =>
      have hu : Reached n u := hread.gradGot hr
      extract_lets +onlyGivenNames s2 s3
      have hs2 : Reached n s2 := by simp [s2, Reached, hu]
      clear_value s2
      have hs3 : Reached n s3 := reached_each (fun v w => by simp [Reached]) hs2
      exact reached_finish hs3
  · exact reached_finish hs1

@[simp] theorem reached_installed (h : Reached n t) : Reached n (t.installed a1) := by
  unfold State.installed
  split
  · exact h
  extract_lets +onlyGivenNames s1
  have hs1 : Reached n s1 := h.same rfl
  clear_value s1
  split
  · exact reached_finish hs1
  extract_lets +onlyGivenNames s2 s3
  have hs2 : Reached n s2 := by simp [s2, Reached, hs1]
  have hs3 : Reached n s3 := by simp [s3, Reached, hs2]
  exact reached_finish (by simp [Reached, hs3])

@[simp] theorem reached_embClose (h : Reached n t) : Reached n (t.embClose a1 a2 a3).state := by
  unfold State.embClose
  (repeat' (first | split | dsimp only)) <;> simp [Reached, h, -Touches.ite_iff, -Touches.ite_fst]

end Sys2Proof.Machine
end

section
/-! PROOF. Free values are drawn one after another: reliefs, the rotation, and messages that arrive (log entry 4). -/

namespace Sys2Proof.Machine

variable {n : Nat} {s t u : State}

/-- A close that answers `c` leaves the state of `c`. -/
theorem Reached.closed {c c' : Closed} (h : Reached n c.state) (he : c = c') : Reached n c'.state := he ▸ h

/-! ## Reliefs (R340) -/

@[simp] theorem reached_reliefStart (h : Reached n t) : Reached n (t.reliefStart a1 a2) := by
  unfold State.reliefStart
  (repeat' split) <;> simp [Reached, h, -Touches.ite_iff, -Touches.ite_fst]

@[simp] theorem reached_reliefCopy (h : Reached n t) : Reached n (t.reliefCopy a1) := by
  unfold State.reliefCopy
  extract_lets +onlyGivenNames lines e s1 s2 s3
  have hs1 : Reached n s1 := by simp [s1, Reached, h]
  have hs2 : Reached n s2 := reached_each (fun _ _ => by simp [Reached]) hs1
  clear_value s2
  have hs3 : Reached n s3 := by
    simp only [s3]
    split <;> simp [Reached, hs2]
  exact reached_reliefEnd hs3

@[simp] theorem reached_reliefsGo (h : Reached n t) : Reached n t.reliefsGo := by
  unfold State.reliefsGo
  refine reached_each (fun u a => ?_) h
  split <;> simp [Reached]

@[simp] theorem reached_reliefsBegin (h : Reached n t) : Reached n t.reliefsBegin := by
  unfold State.reliefsBegin
  exact reached_runNet (reached_reliefsGo (reached_runNet (reached_reliefsGo (reached_each (fun _ _ => by simp [Reached]) h))))

/-! ## The rotation (R57 to R92) -/

@[simp] theorem reached_spansXlat (h : Reached n t) : Reached n (State.spansXlat a1 a2 a3 t) := by
  induction a3 generalizing t with
  | nil => exact h
  | cons p l ih =>
    unfold State.spansXlat
    split <;> simp [Reached, h, ih]

@[simp] theorem reached_endFlight (h : Reached n t) : Reached n (t.endFlight a1 a2 a3) := by
  unfold State.endFlight
  (repeat' split) <;> simp [Reached, h, -Touches.ite_iff, -Touches.ite_fst]

@[simp] theorem reached_precheckSpans (h : Reached n t) : Reached n (t.precheckSpans a1 a2) := by
  unfold State.precheckSpans
  (repeat' (first | split | dsimp only)) <;> simp [Reached, h, -Touches.ite_iff, -Touches.ite_fst]

@[simp] theorem reached_readMask (h : Reached n t) : Reached n (t.readMask a1 a2).state := by
  unfold State.readMask
  (repeat' (first | split | dsimp only)) <;> simp [Reached, h, -Touches.ite_iff, -Touches.ite_fst]

@[simp] theorem reached_precheck (h : Reached n t) : Reached n (t.precheck a1 a2) := by
  unfold State.precheck
  split
  · exact h
  split
  · exact h
  split
  · simp [Reached, h]
  split
  next hr => exact reached_runNet ((reached_readMask h).got hr)
  next => simp [Reached, h]
  next u bs hr =>
    have hu : Reached n u := (reached_readMask h).got hr
    simp [Reached, hu]

@[simp] theorem reached_countPages (h : Reached n t) : Reached n (t.countPages a1) := by
  unfold State.countPages
  dsimp only; (repeat' split) <;> simp [Reached, h, -Touches.ite_iff, -Touches.ite_fst]

@[simp] theorem reached_stopItem (h : Reached n t) : Reached n (t.stopItem a1 a2) := by
  unfold State.stopItem
  (repeat' split) <;> simp (disch := simp [Reached, h, -Touches.ite_iff]) [Reached, h, -Touches.ite_iff, -Touches.ite_fst]

@[simp] theorem reached_commitItem (h : Reached n t) : Reached n (t.commitItem a1 a2) := by
  unfold State.commitItem
  split
  · simp [Reached, h]
  next f _ =>
  have hc : Reached n (if a2.kind = .attn then t.attnClose a1 a2 f else t.embClose a1 a2 f).state := by
    split <;> simp [Reached, h]
  split
  next u he => exact hc.closed he
  next u he =>
    have hu : Reached n u := hc.closed he
    simp [Reached, hu]
  next u c he =>
    have hu : Reached n u := hc.closed he
    simp (disch := simp [Reached, hu]) [Reached]

@[simp] theorem reached_endItem (h : Reached n t) : Reached n (t.endItem a1) := by
  unfold State.endItem
  (repeat' split) <;> simp [Reached, h, -Touches.ite_iff, -Touches.ite_fst]

@[simp] theorem reached_itemsTry (h : Reached n t) : Reached n (t.itemsTry) := by
  simp [Reached, h, -Touches.ite_iff, -Touches.ite_fst, State.itemsTry]

@[simp] theorem reached_itemsEnd (h : Reached n t) : Reached n t.itemsEnd := by
  unfold State.itemsEnd
  extract_lets +onlyGivenNames s1
  have hs1 : Reached n s1 := reached_itemsTry h
  split
  · exact reached_runNet (reached_itemsTry (reached_runNet hs1))
  · exact hs1

@[simp] theorem reached_applyChange (h : Reached n t) : Reached n (t.applyChange a1) := by
  simp (disch := simp [Reached, h, -Touches.ite_iff]) [Reached, -Touches.ite_iff, -Touches.ite_fst, State.applyChange]

@[simp] theorem reached_takeSnapshot (h : Reached n t) : Reached n (t.takeSnapshot) := by
  simp [Reached, h, -Touches.ite_iff, -Touches.ite_fst, State.takeSnapshot]

@[simp] theorem reached_startRotation (h : Reached n t) : Reached n t.startRotation := by
  unfold State.startRotation
  extract_lets +onlyGivenNames k s1 s2 throttled empty sentence s3 ras s4 s5
  have hs1 : Reached n s1 := by simp [s1, Reached, h]
  have hs2 : Reached n s2 := by
    simp only [s2]
    split <;> simp [Reached, hs1]
  clear_value s2
  have hs3 : Reached n s3 := by simp [s3, Reached, hs2]
  have hs4 : Reached n s4 := hs3.same rfl
  clear_value s4
  have hs5 : Reached n s5 := by
    simp only [s5]
    split <;> simp [Reached, hs4]
  exact reached_reliefsBegin (by simp [Reached, hs5])

@[simp] theorem reached_rotationStart (h : Reached n t) : Reached n (t.rotationStart) := by
  simp [Reached, h, -Touches.ite_iff, -Touches.ite_fst, State.rotationStart]

@[simp] theorem reached_deferItem (h : Reached n t) : Reached n (t.deferItem a1 a2 a3) := by
  simp (disch := simp [Reached, h, -Touches.ite_iff]) [Reached, -Touches.ite_iff, -Touches.ite_fst, State.deferItem]

@[simp] theorem reached_bindSlot (h : Reached n t) : Reached n (t.bindSlot a1 a2 a3 a4 a5) := by
  simp [Reached, h, -Touches.ite_iff, -Touches.ite_fst, State.bindSlot]

@[simp] theorem reached_bindOne (h : Reached n t) : Reached n (t.bindOne a1 a2).1 := by
  unfold State.bindOne
  (repeat' (first | split | dsimp only)) <;> simp [Reached, h, -Touches.ite_iff, -Touches.ite_fst]

@[simp] theorem reached_bindPhase (h : Reached n t) : Reached n t.bindPhase := by
  unfold State.bindPhase
  split
  · exact h
  extract_lets +onlyGivenNames s1
  have hs : Reached n s1 := by simp [s1, Reached, h]
  split
  · exact hs
  · refine reached_foldl_fst (fun q a => ?_) hs
    split
    · exact reached_self
    · simp [Reached]

@[simp] theorem reached_gradsGo (h : Reached n t) : Reached n (t.gradsGo) := by
  simp [Reached, h, -Touches.ite_iff, -Touches.ite_fst, State.gradsGo]

@[simp] theorem reached_launchItem (h : Reached n t) : Reached n (t.launchItem a1 a2 a3) := by
  simp [Reached, h, -Touches.ite_iff, -Touches.ite_fst, State.launchItem]

@[simp] theorem reached_launchPhase (h : Reached n t) : Reached n t.launchPhase := by
  unfold State.launchPhase
  split
  · exact h
  extract_lets +onlyGivenNames s1
  have hs1 : Reached n s1 := by simp [s1, Reached, h]
  clear_value s1
  split
  · exact hs1
  split
  · exact hs1
  extract_lets +onlyGivenNames s2
  have hs2 : Reached n s2 := reached_each (fun u a => by split <;> simp [Reached]) hs1
  exact reached_gradsGo (reached_runNet (reached_each (fun _ _ => by simp [Reached]) hs2))

@[simp] theorem reached_closePhase (h : Reached n t) : Reached n (t.closePhase a1 a2) := by
  unfold State.closePhase
  split
  · exact h
  extract_lets +onlyGivenNames s1 s2 s3 late s4 s5
  have hs1 : Reached n s1 := reached_each (fun _ _ => by simp [Reached]) h
  have hs2 : Reached n s2 := reached_each (fun _ _ => by simp [Reached]) hs1
  clear_value s2
  have hs3 : Reached n s3 := by simp [s3, Reached, hs2]
  clear_value s3
  have hs4 : Reached n s4 := by
    simp only [s4]
    split <;> simp [Reached, hs3]
  have hs5 : Reached n s5 := reached_runNet (reached_each (fun _ _ => by simp [Reached]) hs4)
  exact reached_itemsEnd (by simp [Reached, hs5])

/-! ## Messages that arrive and timers (R279 to R296) -/

@[simp] theorem reached_recvReq (h : Reached n t) : Reached n (t.recvReq a1 a2 a3) := by
  simp [Reached, h, -Touches.ite_iff, -Touches.ite_fst, State.recvReq]

@[simp] theorem reached_recvRsp (h : Reached n t) : Reached n (t.recvRsp a1 a2 a3) := by
  simp [Reached, h, -Touches.ite_iff, -Touches.ite_fst, State.recvRsp]

@[simp] theorem reached_missesGo (h : Reached n t) : Reached n t.missesGo := by
  unfold State.missesGo
  refine reached_each (fun u a => ?_) (h.same rfl)
  split <;> simp [Reached]

theorem reached_message {act : State → State} (hf : ∀ u, Reached u.free (act u)) (h : Reached n t) : Reached n (t.message a1 act) := by
  unfold State.message
  refine reached_whenAwake (fun u => ?_) h
  split
  · exact reached_self
  · simp (disch := simp [Reached, hf u]) [Reached]

@[simp] theorem reached_tagTimeout (h : Reached n t) : Reached n (t.tagTimeout a1) := by
  unfold State.tagTimeout
  extract_lets +onlyGivenNames q free quarantine
  have hq : Reached n (quarantine t) := by simp [quarantine, Reached, h]
  split
  · exact h
  · exact h
  · extract_lets +onlyGivenNames s1 s2 s3
    have hs2 : Reached n s2 := by
      simp only [s2]
      split <;> simp [s1, Reached, hq]
    clear_value s2
    have hs3 : Reached n s3 := by
      simp only [s3]
      split <;> simp [Reached, hs2]
    exact reached_pumpGallery hs3
  · extract_lets +onlyGivenNames s1 s2
    have hs2 : Reached n s2 := by
      simp only [s2]
      split <;> simp [s1, Reached, hq]
    exact reached_pumpGallery hs2
  · extract_lets +onlyGivenNames s1
    have hs1 : Reached n s1 := hq.same rfl
    exact reached_pumpGallery (by simp [Reached, hs1])
  · simp [Reached, hq]
  · split <;> simp [Reached, hq]
  · exact hq.same rfl
  · exact hq

@[simp] theorem reached_victimTimeout (h : Reached n t) : Reached n (t.victimTimeout a1 a2) := by
  unfold State.victimTimeout
  (repeat' split) <;> simp [Reached, h, -Touches.ite_iff, -Touches.ite_fst]

end Sys2Proof.Machine
end

section
/-! PROOF. Free values are drawn one after another: the tiers, the links and pool sharing (log entry 4). -/

namespace Sys2Proof.Machine

variable {n : Nat} {s t u : State}

theorem reached_scatter_of {e : Eng} {l d : Nat} {bs : List PByte} {q : State × Nat × Option (Nat × Refuse)}
    (h : Reached n t) (he : State.scatter e l t d bs = q) : Reached n q.1 := he ▸ reached_scatter h

/-! ## The tiers (R213 to R225) -/

@[simp] theorem reached_tierMoved (h : Reached n t) : Reached n (t.tierMoved) := by
  simp (disch := simp [Reached, h, -Touches.ite_iff]) [Reached, -Touches.ite_iff, -Touches.ite_fst, State.tierMoved]

@[simp] theorem reached_failDrive (h : Reached n t) : Reached n (t.failDrive a1 a2) := by
  simp (disch := simp [Reached, h, -Touches.ite_iff]) [Reached, h, -Touches.ite_iff, -Touches.ite_fst, State.failDrive]

@[simp] theorem reached_writeDone (h : Reached n t) : Reached n (t.writeDone a1 a2 a3) := by
  unfold State.writeDone
  (repeat' (first | split | dsimp only)) <;> simp [Reached, h, -Touches.ite_iff, -Touches.ite_fst]

@[simp] theorem reached_driveOk (h : Reached n t) : Reached n (t.driveOk a1 a2) := by
  simp [Reached, h, -Touches.ite_iff, -Touches.ite_fst, State.driveOk]

@[simp] theorem reached_drivesGoOn {w : State} (h : Reached n t) : Reached n (t.drivesGoOn w) := by
  unfold State.drivesGoOn
  extract_lets +onlyGivenNames s1
  have hs1 : Reached n s1 := reached_each (fun _ _ => by simp [Reached]) h
  split
  · exact hs1
  · exact reached_runNet (by simp [Reached, hs1])

@[simp] theorem reached_driveDone (h : Reached n t) : Reached n (t.driveDone a1 a2 a3) := by
  unfold State.driveDone
  (repeat' (first | split | dsimp only)) <;> simp (disch := simp [Reached, h, -Touches.ite_iff]) [Reached, h, -Touches.ite_iff, -Touches.ite_fst]

@[simp] theorem reached_driveTimeout (h : Reached n t) : Reached n (t.driveTimeout a1) := by
  unfold State.driveTimeout
  (repeat' (first | split | dsimp only)) <;> simp [Reached, h, -Touches.ite_iff, -Touches.ite_fst]

@[simp] theorem reached_driveLost (h : Reached n t) : Reached n (t.driveLost a1) := by
  simp [Reached, h, -Touches.ite_iff, -Touches.ite_fst, State.driveLost]

@[simp] theorem reached_fillDone (h : Reached n t) : Reached n (t.fillDone a1) := by
  unfold State.fillDone
  (repeat' (first | split | dsimp only)) <;> simp [Reached, h, -Touches.ite_iff, -Touches.ite_fst]

@[simp] theorem reached_refuseWait (h : Reached n t) : Reached n (t.refuseWait a1) := by
  simp [Reached, h, -Touches.ite_iff, -Touches.ite_fst, State.refuseWait]

@[simp] theorem reached_refuseUser (h : Reached n t) : Reached n (t.refuseUser a1 a2) := by
  unfold State.refuseUser
  (repeat' split) <;> simp [Reached, h, -Touches.ite_iff, -Touches.ite_fst]

@[simp] theorem reached_frameWait (h : Reached n t) : Reached n (t.frameWait a1) := by
  unfold State.frameWait
  extract_lets +onlyGivenNames x
  split
  · exact h
  split
  · exact h
  split
  · simp [Reached, h]
  extract_lets +onlyGivenNames s1 rec s2 s3 s4
  have hs2 : Reached n s2 := by simp [s2, s1, Reached, h]
  clear_value s2
  have hs3 : Reached n s3 := by
    simp only [s3]
    split <;> simp [Reached, hs2]
  have hs4 : Reached n s4 := reached_each (fun _ _ => reached_each (fun _ _ => by simp [Reached]) (by simp [Reached])) hs3
  exact reached_itemsEnd (reached_runNet hs4)

@[simp] theorem reached_ageExamination (h : Reached n t) : Reached n t.ageExamination := by
  unfold State.ageExamination
  split
  · exact h
  extract_lets +onlyGivenNames s1 s2
  have hs1 : Reached n s1 := reached_each (fun _ _ => by simp [Reached]) h
  have hs2 : Reached n s2 := reached_each (fun _ _ => by split <;> simp [Reached]) hs1
  simp [Reached, hs2]

@[simp] theorem reached_copyPass (h : Reached n t) : Reached n (t.copyPass a1) := by
  unfold State.copyPass
  (repeat' (first | split | dsimp only)) <;> simp [Reached, h, -Touches.ite_iff, -Touches.ite_fst]

@[simp] theorem reached_writebackStart (h : Reached n t) : Reached n (t.writebackStart a1) := by
  unfold State.writebackStart
  (repeat' (first | split | dsimp only)) <;> simp [Reached, h, -Touches.ite_iff, -Touches.ite_fst]

/-! ## Links (R268 to R278) -/

@[simp] theorem reached_dropQueue (h : Reached n t) : Reached n (t.dropQueue a1) := by
  unfold State.dropQueue
  exact reached_itemsEnd (reached_runNet (reached_missesGo (reached_each (fun _ _ => by simp [Reached]) (by simp [Reached, h]))))

@[simp] theorem reached_linkOut (h : Reached n t) : Reached n (t.linkOut a1 a2 a3) := by
  simp [Reached, h, -Touches.ite_iff, -Touches.ite_fst, State.linkOut]

@[simp] theorem reached_linkRetrain (h : Reached n t) : Reached n (t.linkRetrain a1) := by
  simp [Reached, h, -Touches.ite_iff, -Touches.ite_fst, State.linkRetrain]

@[simp] theorem reached_trainTimeout (h : Reached n t) : Reached n (t.trainTimeout a1) := by
  simp [Reached, h, -Touches.ite_iff, -Touches.ite_fst, State.trainTimeout]

@[simp] theorem reached_keyed (h : Reached n t) : Reached n (t.keyed a1 a2) := by
  unfold State.keyed
  (repeat' (first | split | dsimp only)) <;> simp [Reached, h, -Touches.ite_iff, -Touches.ite_fst]

@[simp] theorem reached_keyTimeout (h : Reached n t) : Reached n (t.keyTimeout a1) := by
  simp [Reached, h, -Touches.ite_iff, -Touches.ite_fst, State.keyTimeout]

@[simp] theorem reached_retrainTimeout (h : Reached n t) : Reached n (t.retrainTimeout a1) := by
  simp [Reached, h, -Touches.ite_iff, -Touches.ite_fst, State.retrainTimeout]

@[simp] theorem reached_signalLost (h : Reached n t) : Reached n (t.signalLost a1) := by
  simp [Reached, h, -Touches.ite_iff, -Touches.ite_fst, State.signalLost]

@[simp] theorem reached_alignmentLost (h : Reached n t) : Reached n (t.alignmentLost a1) := by
  simp [Reached, h, -Touches.ite_iff, -Touches.ite_fst, State.alignmentLost]

@[simp] theorem reached_sendNak (h : Reached n t) : Reached n (t.sendNak a1) := by
  simp [Reached, h, -Touches.ite_iff, -Touches.ite_fst, State.sendNak]

@[simp] theorem reached_rejectFlit (h : Reached n t) : Reached n (t.rejectFlit a1) := by
  simp [Reached, h, -Touches.ite_iff, -Touches.ite_fst, State.rejectFlit]

@[simp] theorem reached_tagFailed (h : Reached n t) : Reached n (t.tagFailed a1) := by
  simp [Reached, h, -Touches.ite_iff, -Touches.ite_fst, State.tagFailed]

@[simp] theorem reached_takeFlit (h : Reached n t) : Reached n (t.takeFlit a1 a2 a3 a4) := by
  simp [Reached, h, -Touches.ite_iff, -Touches.ite_fst, State.takeFlit]

@[simp] theorem reached_flit (h : Reached n t) : Reached n (t.flit a1 a2 a3) := by
  unfold State.flit
  (repeat' (first | split | dsimp only)) <;> simp [Reached, h, -Touches.ite_iff, -Touches.ite_fst]

@[simp] theorem reached_replayTimer (h : Reached n t) : Reached n (t.replayTimer a1) := by
  simp [Reached, h, -Touches.ite_iff, -Touches.ite_fst, State.replayTimer]

@[simp] theorem reached_portRetrain (h : Reached n t) : Reached n (t.portRetrain a1) := by
  simp [Reached, h, -Touches.ite_iff, -Touches.ite_fst, State.portRetrain]

/-! ## Pool sharing (R300 to R318) -/

theorem reached_poolOp {act : State → Ring → Line → State} (hf : ∀ u x d, Reached u.free (act u x d)) (h : Reached n t) :
    Reached n (t.poolOp a1 a2 a3 act) := by
  unfold State.poolOp
  (repeat' split) <;> simp [Reached, h, h.then (hf t _ _)]

@[simp] theorem reached_poolMark (h : Reached n t) : Reached n (t.poolMark a1 a2) := by
  unfold State.poolMark
  refine reached_poolOp (fun u x d => ?_) h
  exact reached_finish (reached_each (fun _ _ => by simp [Reached]) reached_self)

@[simp] theorem reached_poolGrant (h : Reached n t) : Reached n (t.poolGrant a1 a2) := by
  unfold State.poolGrant
  exact reached_poolOp (fun _ _ _ => reached_finish (by simp [Reached])) h

@[simp] theorem reached_queryBytes (h : Reached n t) : Reached n (t.queryBytes a1 a2).2 := by
  unfold State.queryBytes
  (repeat' (first | split | dsimp only)) <;> simp [Reached, h, -Touches.ite_iff, -Touches.ite_fst]

@[simp] theorem reached_poolQuery (h : Reached n t) : Reached n (t.poolQuery a1 a2) := by
  unfold State.poolQuery
  refine reached_poolOp (fun u x d => ?_) h
  have hb : Reached u.free (u.queryBytes x d).2 := reached_queryBytes reached_self
  dsimp only
  split
  · simp [Reached, hb]
  · split
    next he => exact reached_finish (reached_scatter_of hb he)
    next he =>
      have hs := reached_scatter_of hb he
      simp [Reached, hs]

@[simp] theorem reached_poolRevoke (h : Reached n t) : Reached n (t.poolRevoke a1 a2) := by
  unfold State.poolRevoke
  exact reached_poolOp (fun _ _ _ => reached_revokesEnd (by simp [Reached])) h

@[simp] theorem reached_poolUnmark (h : Reached n t) : Reached n (t.poolUnmark a1 a2) := by
  unfold State.poolUnmark
  refine reached_poolOp (fun u x d => ?_) h
  exact reached_runNet (reached_sweepStart (by simp [Reached]))

@[simp] theorem reached_poisonHost (h : Reached n t) : Reached n (t.poisonHost a1 a2) := by
  unfold State.poisonHost
  (repeat' (first | split | dsimp only)) <;> simp [Reached, h, -Touches.ite_iff, -Touches.ite_fst]

@[simp] theorem reached_poisonTxn (h : Reached n t) : Reached n (t.poisonTxn a1) := by
  unfold State.poisonTxn
  (repeat' split) <;> simp [Reached, h, -Touches.ite_iff, -Touches.ite_fst]

@[simp] theorem reached_poisonWait (h : Reached n t) : Reached n (t.poisonWait a1) := by
  unfold State.poisonWait
  (repeat' split) <;> simp [Reached, h, -Touches.ite_iff, -Touches.ite_fst]

@[simp] theorem reached_revokeExpired (h : Reached n t) : Reached n (t.revokeExpired a1 a2) := by
  unfold State.revokeExpired
  split
  · exact h
  split
  · exact reached_runNet (reached_revokesEnd (reached_each (fun _ _ => by simp [Reached]) h))
  · exact reached_runNet (reached_sweepStart (reached_each (fun _ _ => by simp [Reached]) (reached_each (fun _ _ => by simp [Reached]) h)))

@[simp] theorem reached_sweepDone (h : Reached n t) : Reached n (t.sweepDone a1 a2) := by
  unfold State.sweepDone
  extract_lets +onlyGivenNames s1
  have hs1 : Reached n s1 := reached_runNet (reached_sweepStart h)
  clear_value s1
  split
  · exact hs1
  next d _ =>
  split
  · exact hs1
  extract_lets +onlyGivenNames held s2
  have hs2 : Reached n s2 := reached_runNet (reached_each (fun _ _ => by simp [Reached]) hs1)
  split
  · exact hs2
  · exact reached_runNet (by simp [Reached, hs2])

@[simp] theorem reached_cxlGo (h : Reached n t) : Reached n (t.cxlGo a1 a2 a3) := by
  unfold State.cxlGo
  (repeat' (first | split | dsimp only)) <;> simp [Reached, h, -Touches.ite_iff, -Touches.ite_fst]

@[simp] theorem reached_admitReq (h : Reached n t) : Reached n (t.admitReq a1 a2) := by
  simp [Reached, h, -Touches.ite_iff, -Touches.ite_fst, State.admitReq]

@[simp] theorem reached_cxlArrive (h : Reached n t) : Reached n (t.cxlArrive a1 a2) := by
  simp [Reached, h, -Touches.ite_iff, -Touches.ite_fst, State.cxlArrive]

@[simp] theorem reached_admitNext (h : Reached n t) : Reached n (t.admitNext a1) := by
  unfold State.admitNext
  (repeat' (first | split | dsimp only)) <;> simp (disch := simp [Reached, h, -Touches.ite_iff]) [Reached, h, -Touches.ite_iff, -Touches.ite_fst]

@[simp] theorem reached_resume (h : Reached n t) : Reached n (t.resume a1) := by
  simp [Reached, h, -Touches.ite_iff, -Touches.ite_fst, State.resume]

@[simp] theorem reached_poolSetmode (h : Reached n t) : Reached n (t.poolSetmode a1 a2) := by
  unfold State.poolSetmode
  refine reached_poolOp (fun u x d => ?_) h
  extract_lets +onlyGivenNames p want m s1
  have hs1 : Reached u.free s1 := by simp [s1, Reached]
  split
  · simp [Reached]
  · exact hs1.same rfl

@[simp] theorem reached_modeEnd (h : Reached n t) : Reached n (t.modeEnd a1 a2 a3) := by
  simp [Reached, h, -Touches.ite_iff, -Touches.ite_fst, State.modeEnd]

@[simp] theorem reached_modeCheck (h : Reached n t) : Reached n (t.modeCheck a1) := by
  unfold State.modeCheck
  (repeat' split) <;> simp [Reached, h, -Touches.ite_iff, -Touches.ite_fst]

@[simp] theorem reached_modeDrained (h : Reached n t) : Reached n (t.modeDrained a1) := by
  unfold State.modeDrained
  (repeat' split) <;> simp (disch := simp [Reached, h, -Touches.ite_iff]) [Reached, h, -Touches.ite_iff, -Touches.ite_fst]

@[simp] theorem reached_biOver (h : Reached n t) : Reached n (t.biOver a1 a2 a3) := by
  unfold State.biOver
  extract_lets +onlyGivenNames s1 s2 ks s3
  have hs1 : Reached n s1 := by simp [s1, Reached, h]
  have hs2 : Reached n s2 := by
    simp only [s2]
    split <;> simp [Reached, hs1]
  have hs3 : Reached n s3 := reached_each (fun _ _ => reached_closeTxn (by simp [Reached])) hs2
  exact reached_runNet (reached_modeCheck (reached_runNet hs3))

@[simp] theorem reached_biAnswer (h : Reached n t) : Reached n (t.biAnswer a1 a2 a3 a4) := by
  unfold State.biAnswer
  (repeat' split) <;> simp [Reached, h, -Touches.ite_iff, -Touches.ite_fst]

@[simp] theorem reached_biLate (h : Reached n t) : Reached n (t.biLate a1 a2) := by
  unfold State.biLate
  (repeat' split) <;> simp [Reached, h, -Touches.ite_iff, -Touches.ite_fst]

@[simp] theorem reached_configRequest (h : Reached n t) : Reached n (t.configRequest a1 a2) := by
  unfold State.configRequest
  simp; (repeat' split) <;> simp [Reached, h, -Touches.ite_iff, -Touches.ite_fst]

end Sys2Proof.Machine
end

section
/-! PROOF. Free values are drawn one after another: resets, translations, scrubs, job halt, Fog mode and fences (log entry 4). -/

namespace Sys2Proof.Machine

variable {n : Nat} {s t u : State}

/-! ## Resets of the device and of its ports (R375, R376) -/

@[simp] theorem reached_coldKeep (h : Reached n t) : Reached n (t.coldKeep a1) := h.same rfl

@[simp] theorem reached_resetLow (h : Reached n t) : Reached n (t.resetLow) := by
  simp [Reached, h, -Touches.ite_iff, -Touches.ite_fst, State.resetLow]

@[simp] theorem reached_sysLost (h : Reached n t) : Reached n (t.sysLost) := by
  simp [Reached, h, -Touches.ite_iff, -Touches.ite_fst, State.sysLost]

@[simp] theorem reached_cutTransfers (h : Reached n t) : Reached n (t.cutTransfers a1) := by
  unfold State.cutTransfers
  refine reached_each (fun u r => ?_) h
  split
  · exact reached_self
  · exact reached_each (fun _ _ => by simp [Reached]) reached_self

@[simp] theorem reached_portRingsFail (h : Reached n t) : Reached n (t.portRingsFail a1) := by
  simp (disch := simp [Reached, h, -Touches.ite_iff]) [Reached, -Touches.ite_iff, -Touches.ite_fst, State.portRingsFail]

@[simp] theorem reached_hostReset (h : Reached n t) : Reached n (t.hostReset a1) := by
  unfold State.hostReset
  extract_lets +onlyGivenNames bis s1 live s2 s3 s4 s5
  have hs1 : Reached n s1 := reached_each (fun _ _ => by simp [Reached]) h
  have hs2 : Reached n s2 := by simp [s2, Reached, hs1]
  have hs3 : Reached n s3 := reached_revokesEnd hs2
  have hs4 : Reached n s4 := by simp [s4, Reached, hs3]
  have hs5 : Reached n s5 := reached_each (fun _ _ => by simp [Reached]) hs4
  exact reached_itemsEnd (reached_runNet (reached_modeCheck hs5))

@[simp] theorem reached_perstFalls (h : Reached n t) : Reached n (t.perstFalls a1) := by
  simp [Reached, h, -Touches.ite_iff, -Touches.ite_fst, State.perstFalls]

@[simp] theorem reached_hostDown (h : Reached n t) : Reached n (t.hostDown a1) := by
  simp [Reached, h, -Touches.ite_iff, -Touches.ite_fst, State.hostDown]

/-! ## Translations (R237 to R252) -/

@[simp] theorem reached_await (h : Reached n t) : Reached n (t.await a1 a2 a3 a4 a5) := by
  simp [Reached, h, -Touches.ite_iff, -Touches.ite_fst, State.await]

theorem reached_xinv {act : State → Flight → State} (hf : ∀ u f, Reached u.free (act u f)) (h : Reached n t) :
    Reached n (t.xinv a1 a2 a3 act) := by
  unfold State.xinv
  split
  · exact h
  next f _ =>
  split
  · exact h
  split
  · simp [Reached, h]
  · have hs : Reached n (t.setStage a1 a2 .running) := by simp [Reached, h]
    exact hs.then (hf _ f)

@[simp] theorem reached_ptwrite (h : Reached n t) : Reached n (t.ptwrite a1 a2 a3) := by
  unfold State.ptwrite
  refine reached_xinv (fun u f => ?_) h
  extract_lets +onlyGivenNames d k m a e off
  split
  · simp [Reached]
  split
  extract_lets +onlyGivenNames s1 mask s2 s3
  have hs1 : Reached u.free s1 := by
    simp only [s1]
    split <;> simp [Reached]
  split
  · simp (disch := simp [Reached, hs1]) [Reached]
  split
  · simp [Reached, hs1]
  have hs2 : Reached u.free s2 := by simp [s2, Reached, hs1]
  exact reached_await (reached_each (fun _ _ => by simp [Reached]) hs2)

@[simp] theorem reached_invalidate (h : Reached n t) : Reached n (t.invalidate a1 a2 a3 a4 a5 a6 a7) := by
  unfold State.invalidate
  (repeat' split) <;> simp (disch := simp [Reached, h, -Touches.ite_iff]) [Reached, -Touches.ite_iff, -Touches.ite_fst]

@[simp] theorem reached_inval (h : Reached n t) : Reached n (t.inval a1 a2) := by
  unfold State.inval
  exact reached_xinv (fun _ _ => by simp [Reached]) h

@[simp] theorem reached_setroot (h : Reached n t) : Reached n (t.setroot a1 a2) := by
  unfold State.setroot
  exact reached_xinv (fun _ _ => by simp [Reached]) h

@[simp] theorem reached_invalForwarded (h : Reached n t) : Reached n (t.invalForwarded a1 a2 a3 a4 a5 a6) := by
  unfold State.invalForwarded
  (repeat' split) <;> simp [Reached, h, -Touches.ite_iff, -Touches.ite_fst]

@[simp] theorem reached_walkFault (h : Reached n t) : Reached n (t.walkFault a1 a2 a3) := by
  unfold State.walkFault
  exact reached_each (fun _ _ => reached_each (fun _ _ => by simp [Reached]) reached_self) h

@[simp] theorem reached_translateAll (h : Reached n t) : Reached n (t.translateAll) := by
  simp [Reached, h, -Touches.ite_iff, -Touches.ite_fst, State.translateAll]

@[simp] theorem reached_walkRead (h : Reached n t) : Reached n (t.walkRead a1) := by
  unfold State.walkRead
  split
  · exact h
  next w _ =>
  split
  · exact h
  extract_lets +onlyGivenNames k a e fault next s1 s2 s3 s4 s5 s6
  split
  · have hs1 : Reached n s1 := by
      simp only [s1]
      split <;> simp [Reached, h]
    exact hs1.same rfl
  have hs2 : Reached n s2 := h.same rfl
  clear_value s2
  have hs3 : Reached n s3 := by simp [s3, Reached, hs2]
  have hs4 : Reached n s4 := by simp [s4, Reached, hs2]
  clear_value s3 s4
  split
  · split
    next hw => exact reached_runNet (hs3.walk hw)
    next => exact reached_runNet (by simp (disch := simp [Reached, hs3]) [Reached])
  · have hs5 : Reached n s5 := by
      simp only [s5]
      split <;> simp [Reached, hs4]
    have hs6 : Reached n s6 := by
      simp only [s6]
      clear_value fault
      split <;> simp [Reached, hs4, hs5]
    exact reached_runNet (by simp [Reached, hs6])

/-! ## What a scrub empties (R332, R336) -/

@[simp] theorem reached_endAll (h : Reached n t) : Reached n (t.endAll a1 a2) := by
  simp (disch := simp [Reached, h, -Touches.ite_iff]) [Reached, -Touches.ite_iff, -Touches.ite_fst, State.endAll]

@[simp] theorem reached_undoOps (h : Reached n t) : Reached n (t.undoOps a1) := by
  unfold State.undoOps
  refine reached_each (fun u o => ?_) h
  extract_lets +onlyGivenNames sid k s1 s2
  have hs1 : Reached u.free s1 := reached_self.same rfl
  clear_value s1
  have hs2 : Reached u.free s2 := by
    simp only [s2]
    split
    next ha => exact hs1.via ((touches_applyMember ha (Nat.and_self _)).2 .rfl) (by decide)
    next => exact hs1
  simp [Reached, hs2]

@[simp] theorem reached_settleAccesses (h : Reached n t) : Reached n t.settleAccesses := by
  unfold State.settleAccesses
  exact reached_each (fun _ _ => reached_each (fun _ _ => by simp [Reached]) reached_self) h

@[simp] theorem reached_purge (h : Reached n t) : Reached n (t.purge) := by
  simp (disch := simp [Reached, h, -Touches.ite_iff]) [Reached, -Touches.ite_iff, -Touches.ite_fst, State.purge]

@[simp] theorem reached_stopInstall (h : Reached n t) : Reached n (t.stopInstall a1) := by
  unfold State.stopInstall
  (repeat' (first | split | dsimp only)) <;> simp [Reached, h, -Touches.ite_iff, -Touches.ite_fst]

/-! ## Job halt, Fog mode and fences (R350 to R358) -/

@[simp] theorem reached_dropOperations (h : Reached n t) : Reached n (t.dropOperations) := by
  simp [Reached, h, -Touches.ite_iff, -Touches.ite_fst, State.dropOperations]

@[simp] theorem reached_fogEnter (h : Reached n t) : Reached n (t.fogEnter a1 a2) := by
  simp (disch := simp [Reached, h, -Touches.ite_iff]) [Reached, h, -Touches.ite_iff, -Touches.ite_fst, State.fogEnter]

@[simp] theorem reached_fogEntered (h : Reached n t) : Reached n t.fogEntered := by
  unfold State.fogEntered
  split
  · exact h
  extract_lets +onlyGivenNames s1 s2 s3 s4 s5 s6
  have hs1 : Reached n s1 := reached_settleAccesses h
  clear_value s1
  have hs2 : Reached n s2 := reached_purge (reached_runNet (reached_each (fun _ _ => by simp [Reached]) hs1))
  clear_value s2
  have hs3 : Reached n s3 := hs2.same rfl
  clear_value s3
  have hs4 : Reached n s4 := reached_each (fun _ _ => by simp [Reached]) hs3
  have hs5 : Reached n s5 := reached_runNet (by simp [Reached, hs4])
  clear_value s5
  have hs6 : Reached n s6 := by simp [s6, Reached, hs5]
  exact hs6.same rfl

@[simp] theorem reached_stopEmbedding (h : Reached n t) : Reached n t.stopEmbedding := by
  unfold State.stopEmbedding
  extract_lets +onlyGivenNames s1
  have hs1 : Reached n s1 := reached_each (fun _ _ => reached_finish (by simp [Reached])) h
  refine reached_each (fun u i => ?_) hs1
  extract_lets +onlyGivenNames dies s2
  have hs2 : Reached u.free s2 := by
    simp only [s2]
    split <;> simp [Reached]
  exact reached_finish (by simp [Reached, hs2])

@[simp] theorem reached_stopSessions (h : Reached n t) : Reached n (t.stopSessions) := by
  simp [Reached, h, -Touches.ite_iff, -Touches.ite_fst, State.stopSessions]

@[simp] theorem reached_stopReliefs (h : Reached n t) : Reached n (t.stopReliefs) := by
  simp [Reached, h, -Touches.ite_iff, -Touches.ite_fst, State.stopReliefs]

@[simp] theorem reached_resetBegin (h : Reached n t) : Reached n t.resetBegin := by
  unfold State.resetBegin
  extract_lets +onlyGivenNames ras s1 s2 s3 s4 s5 s6
  have hs1 : Reached n s1 := h.same rfl
  have hs3 : Reached n s3 := reached_each (fun _ _ => by simp [Reached]) (by simp [s2, Reached, hs1])
  clear_value s3
  have hs4 : Reached n s4 := by simp [s4, Reached, hs3]
  have hs5 : Reached n s5 := by
    refine reached_each (fun u r => ?_) hs4
    split
    · exact reached_self
    · exact reached_each (fun _ _ => by simp [Reached]) reached_self
  clear_value s5
  have hs6 : Reached n s6 := by simp (disch := simp [Reached, hs5]) [s6, Reached]
  exact reached_each (fun _ _ => by simp [Reached]) hs6

@[simp] theorem reached_jobReset (h : Reached n t) : Reached n (t.jobReset a1) := by
  simp [Reached, h, -Touches.ite_iff, -Touches.ite_fst, State.jobReset]

@[simp] theorem reached_resetEnds (h : Reached n t) : Reached n (t.resetEnds) := by
  simp [Reached, h, -Touches.ite_iff, -Touches.ite_fst, State.resetEnds]

@[simp] theorem reached_fenceLifted (h : Reached n t) : Reached n (t.fenceLifted a1 a2) := by
  unfold State.fenceLifted
  extract_lets +onlyGivenNames s1 s2 s3
  have hs1 : Reached n s1 := by simp [s1, Reached, h]
  have hs2 : Reached n s2 := reached_runNet (by simp [Reached, hs1])
  clear_value s2
  have hs3 : Reached n s3 := by
    simp only [s3]
    split <;> simp [Reached, hs2]
  split <;> simp [Reached, hs3]

@[simp] theorem reached_unitGone (h : Reached n t) : Reached n (t.unitGone a1 a2) := by
  simp (disch := simp [Reached, h, -Touches.ite_iff]) [Reached, -Touches.ite_iff, -Touches.ite_fst, State.unitGone]

@[simp] theorem reached_compareFenced (h : Reached n t) : Reached n (t.compareFenced a1 a2) := by
  simp [Reached, h, -Touches.ite_iff, -Touches.ite_fst, State.compareFenced]

@[simp] theorem reached_reconcile (h : Reached n t) : Reached n (t.reconcile a1 a2) := by
  simp [Reached, h, -Touches.ite_iff, -Touches.ite_fst, State.reconcile]

@[simp] theorem reached_timeWait (h : Reached n t) : Reached n (t.timeWait a1) := by
  simp [Reached, h, -Touches.ite_iff, -Touches.ite_fst, State.timeWait]

@[simp] theorem reached_timeTransfers (h : Reached n t) : Reached n (t.timeTransfers a1 a2) := by
  unfold State.timeTransfers
  refine reached_each (fun u r => ?_) h
  dsimp only
  split
  · exact reached_self
  · exact reached_each (fun _ _ => by simp [Reached]) reached_self

@[simp] theorem reached_timeFill (h : Reached n t) : Reached n (t.timeFill a1) := by
  unfold State.timeFill
  extract_lets +onlyGivenNames x s1 s2
  have hs1 : Reached n s1 := by simp [s1, Reached, h]
  clear_value s1
  have hs2 : Reached n s2 := by
    simp only [s2]
    (repeat' (first | split | dsimp only)) <;> simp [Reached, hs1]
  exact reached_each (fun _ _ => reached_each (fun _ _ => by simp [Reached]) (by simp [Reached])) hs2

@[simp] theorem reached_fenceLate (h : Reached n t) : Reached n (t.fenceLate a1 a2) := by
  unfold State.fenceLate
  split
  · exact h
  split
  · exact h
  extract_lets +onlyGivenNames late ras s1 rec s2 s3 s4 l s5 s6 s7 s8
  have hs1 : Reached n s1 := h.same rfl
  clear_value s1
  have hs2 : Reached n s2 := by simp [s2, Reached, hs1]
  have hs3 : Reached n s3 := reached_each (fun _ _ => reached_each (fun _ _ => by simp [Reached]) (by simp [Reached])) hs2
  have hs4 : Reached n s4 := reached_timeTransfers hs3
  clear_value s4
  have hs5 : Reached n s5 := by
    simp only [s5]
    split
    · exact reached_each (fun _ _ => by simp [Reached]) (by simp [Reached, hs4])
    · exact hs4
  have hs6 : Reached n s6 := by
    simp only [s6]
    split <;> simp [Reached, hs5]
  have hs7 : Reached n s7 := by
    simp only [s7]
    split
    · exact reached_each (fun _ _ => by simp [Reached]) hs6
    · exact hs6
  have hs8 : Reached n s8 := by
    simp only [s8]
    split
    · exact reached_each (fun _ _ => reached_each (fun _ _ => by simp [Reached]) reached_self) hs7
    · exact hs7
  exact reached_itemsEnd (reached_runNet hs8)

end Sys2Proof.Machine
end

section
/-! PROOF. Free values are drawn one after another: the Keeper, switches, sensors and a tick of the clock (log entry 4). -/

namespace Sys2Proof.Machine

variable {n : Nat} {s t u : State}

/-! ## The Keeper and the partition switch (R321 to R341) -/

@[simp] theorem reached_applyEnables {w : State} (h : Reached n t) : Reached n (t.applyEnables w) := by
  unfold State.applyEnables
  extract_lets +onlyGivenNames s1 gone drives hosts s2 s3
  have hs1 : Reached n s1 := by simp [s1, Reached, h]
  have hs2 : Reached n s2 := reached_each (fun _ _ => by simp [Reached]) hs1
  have hs3 : Reached n s3 := reached_each (fun _ _ => reached_hostReset (by simp [Reached])) hs2
  exact reached_each (fun _ _ => by simp [Reached]) hs3

@[simp] theorem reached_sealKeeper (h : Reached n t) : Reached n (t.sealKeeper a1).1 := by
  unfold State.sealKeeper
  split
  · exact h
  split
  · exact h
  extract_lets +onlyGivenNames keeper k pwr s1
  have hs1 : Reached n s1 := h.same rfl
  clear_value s1
  have ha := reached_applyEnables (w := t) hs1
  simp [Reached, ha]

@[simp] theorem reached_dropWrites (h : Reached n t) : Reached n (t.dropWrites a1) := by
  unfold State.dropWrites
  exact reached_each (fun _ _ => reached_each (fun _ _ => by simp [Reached]) (by simp [Reached])) (by simp [Reached, h])

@[simp] theorem reached_dropAccesses (h : Reached n t) : Reached n (t.dropAccesses a1) := by
  unfold State.dropAccesses
  exact reached_each (fun _ _ => reached_each (fun _ _ => by simp [Reached]) reached_self) h

@[simp] theorem reached_scrubCaches (h : Reached n t) : Reached n (t.scrubCaches a1) := by
  unfold State.scrubCaches
  extract_lets +onlyGivenNames others s1
  have hs1 : Reached n s1 := reached_runNet (reached_each (fun _ _ => by simp [Reached]) h)
  exact hs1.same rfl

@[simp] theorem reached_scrubCores (h : Reached n t) : Reached n (t.scrubCores a1) := by
  unfold State.scrubCores
  exact reached_each (fun _ _ => by simp [Reached]) (reached_each (fun _ _ => by simp [Reached]) h)

@[simp] theorem reached_scrub (h : Reached n t) : Reached n (t.scrub a1 a2) := by
  unfold State.scrub
  extract_lets +onlyGivenNames ten own rings s1 s2 s3 s4 s5 s6 s7 s8 s9 s10 s11 s12
  have hs3 : Reached n s3 := reached_each (fun _ _ => by simp [Reached]) (by simp [s2, s1, Reached, h])
  have hs4 : Reached n s4 := reached_each (fun _ _ => by simp [Reached]) hs3
  have hs5 : Reached n s5 := hs4.same rfl
  have hs6 : Reached n s6 := by simp (disch := simp [Reached, hs5]) [s6, Reached]
  clear_value s6
  have hs7 : Reached n s7 := by simp (disch := simp [Reached, hs6]) [s7, Reached]
  have hs8 : Reached n s8 := hs7.same rfl
  have hs9 : Reached n s9 := reached_scrubCores (reached_scrubCaches (reached_runNet hs8))
  clear_value s9
  have hs10 : Reached n s10 := hs9.same rfl
  have hs11 : Reached n s11 := reached_each (fun _ _ => by simp [Reached]) hs10
  exact reached_itemsEnd (reached_runNet (reached_each (fun _ _ => by simp [Reached]) hs11))

@[simp] theorem reached_switchPart (h : Reached n t) : Reached n (t.switchPart a1 a2 a3).1 := by
  unfold State.switchPart
  (repeat' split) <;> simp [Reached, h, -Touches.ite_iff, -Touches.ite_fst]

@[simp] theorem reached_switchEnds (h : Reached n t) : Reached n (t.switchEnds a1) := by
  unfold State.switchEnds
  extract_lets +onlyGivenNames x
  split
  · exact h
  extract_lets +onlyGivenNames s1 s2 s3 s4 k s5 s6
  have hs1 : Reached n s1 := reached_each (fun _ _ => by simp [Reached]) h
  have hs2 : Reached n s2 := reached_each (fun _ _ => by simp [Reached]) hs1
  have hs3 : Reached n s3 := by
    simp only [s3]
    split <;> simp [Reached, hs2]
  have hs4 : Reached n s4 := by simp [s4, Reached, hs3]
  have hs5 : Reached n s5 := hs4.same rfl
  have hs6 : Reached n s6 := reached_each (fun _ _ => by simp [Reached]) hs5
  split <;> simp [Reached, hs6]

/-! ## Sensors and clocks (R361 to R372) -/

@[simp] theorem reached_criticals (h : Reached n t) : Reached n (t.criticals a1) := by
  unfold State.criticals
  extract_lets +onlyGivenNames new keep s1
  have hs1 : Reached n s1 := by simp [s1, Reached, h]
  exact reached_each (fun _ _ => reached_fogEnter (by simp [Reached])) hs1

@[simp] theorem reached_sample (h : Reached n t) : Reached n (t.sample a1) := by
  simp (disch := simp [Reached, h, -Touches.ite_iff]) [Reached, h, -Touches.ite_iff, -Touches.ite_fst, State.sample]

@[simp] theorem reached_fabLost (h : Reached n t) : Reached n t.fabLost := by
  unfold State.fabLost
  exact reached_each (fun _ _ => by simp [Reached]) (by simp [Reached, h])

/-! ## A tick of the clock -/

@[simp] theorem reached_goOn (h : Reached n t) : Reached n t.goOn := by
  unfold State.goOn
  extract_lets +onlyGivenNames s1 s2 s3
  have hs1 : Reached n s1 := reached_runNet (reached_pullsGoOn (by simp [Reached, h]))
  clear_value s1
  have hs2 : Reached n s2 := by
    simp only [s2]
    split <;> simp [Reached, hs1]
  have hs3 : Reached n s3 := reached_itemsEnd (reached_runNet (by simp [Reached, hs2]))
  simp [Reached, hs3]

@[simp] theorem reached_tick (h : Reached n t) : Reached n t.tick := by
  unfold State.tick
  exact reached_goOn (by simp [Reached, h])

/-! ## Waking (R370) -/

@[simp] theorem reached_lateReset (h : Reached n t) : Reached n (t.lateReset a1 a2) := by
  unfold State.lateReset
  extract_lets +onlyGivenNames s1
  have hs1 : Reached n s1 := by
    refine reached_each (fun u a => ?_) h
    split <;> simp [Reached]
  exact reached_hostReset (by simp [Reached, hs1])

end Sys2Proof.Machine
end

section
/-! PROOF. Free values are drawn one after another: the commands that draw them (log entry 4). -/

namespace Sys2Proof.Machine

variable {n : Nat} {s t u : State}

/-- What an outcome leaves has drawn no fewer free values. -/
def ReachedO (s : State) (o : Host.Outcome State Fault Refusal) : Prop := ∀ u, o = .next u → Reached s.free u

@[simp] theorem reachedO_next : ReachedO s (.next u) ↔ Reached s.free u :=
  ⟨fun h => h u rfl, fun h _ e => Host.Outcome.next.inj e ▸ h⟩

theorem ReachedO.of_touches {m : Nat} {o : Host.Outcome State Fault Refusal} (h : TouchesO m s o) (hm : m.testBit 2 = false) :
    ReachedO s o := fun u e => reached_self.via (h u e) hm

theorem ReachedO.after {o : Host.Outcome State Fault Refusal} (ho : ReachedO t o) (h : Reached n t) : Reached n (t.after o) := by
  unfold State.after
  split
  next => exact h.then (ho _ rfl)
  next => exact h

/-! ## The registers that begin commands (R33, R276, R341, R352, R367) -/

section
variable {act : State → State} (hf : ∀ u, Reached u.free (act u))
include hf

theorem reached_portCmd (h : Reached n t) : Reached n (t.portCmd a1 a2 act) := reached_setupWrite hf h

theorem reached_rasCmd (h : Reached n t) : Reached n (t.rasCmd a1 a2 act) := reached_setupWrite hf h

theorem reached_pwrCommand (h : Reached n t) : Reached n (t.pwrCommand a1 a2 act) := by
  unfold State.pwrCommand
  extract_lets +onlyGivenNames there
  split
  · simp [Reached, h]
  split
  · simp [Reached, h]
  · refine reached_setupWrite (fun u => ?_) h
    split
    · simp [Reached]
    · exact hf u

end

theorem reached_ringCommand {act : State → State × Byte} (hf : ∀ u, Reached u.free (act u).1) (h : Reached n t) :
    Reached n (t.ringCommand a1 a2 a3 act) := by
  unfold State.ringCommand
  refine reached_setupWrite (fun u => ?_) h
  split
  · simp [Reached]
  · exact (hf u).same rfl

theorem reached_kprCommand {act : State → State × Byte × Bool} (hf : ∀ u, Reached u.free (act u).1) (h : Reached n t) :
    Reached n (t.kprCommand a1 a2 a3 act) := by
  unfold State.kprCommand
  refine reached_setupWrite (fun u => ?_) h
  split
  · exact reached_self
  split
  · simp [Reached]
  · exact (hf u).same rfl

/-! ## Rings and descriptors (R33 to R49) -/

theorem reached_execRingCreate : ReachedO t (execRingCreate a1 a2 t) :=
  reachedO_next.2 (reached_ringCommand (fun _ => by simp [Reached]) reached_self)

theorem reached_execRingStop : ReachedO t (execRingStop a1 a2 t) :=
  reachedO_next.2 (reached_ringCommand (fun _ => by simp [Reached]) reached_self)

theorem reached_execDbSqTail : ReachedO t (execDbSqTail a1 a2 t) := by
  simp [Reached, -Touches.ite_iff, execDbSqTail]

theorem reached_execDbCqHead : ReachedO t (execDbCqHead a1 a2 t) := by
  simp [Reached, -Touches.ite_iff, execDbCqHead]

theorem reached_execDescriptorFetched : ReachedO t (execDescriptorFetched a1 a2 a3 t) := by
  simp [Reached, -Touches.ite_iff, execDescriptorFetched]

theorem reached_execCompletionRecordWriteFault : ReachedO t (execCompletionRecordWriteFault a1 t) := by
  simp [Reached, -Touches.ite_iff, execCompletionRecordWriteFault]

/-! ## DMA (R50) -/

theorem reached_execDmaCopy : ReachedO t (execDmaCopy a1 a2 t) := by
  simp [Reached, -Touches.ite_iff, execDmaCopy]

theorem reached_execDmaFill : ReachedO t (execDmaFill a1 a2 t) := by
  simp [Reached, -Touches.ite_iff, execDmaFill]

theorem reached_execDmaNop : ReachedO t (execDmaNop a1 a2 t) := by
  simp [Reached, -Touches.ite_iff, execDmaNop]

theorem reached_execDmaDescriptorComplete : ReachedO t (execDmaDescriptorComplete a1 a2 a3 t) := by
  simp [Reached, -Touches.ite_iff, execDmaDescriptorComplete]

theorem reached_execDmaTransferFailure : ReachedO t (execDmaTransferFailure a1 a2 a3 a4 t) := by
  simp [Reached, -Touches.ite_iff, execDmaTransferFailure]

theorem reached_execPcieCompletionTimeout : ReachedO t (execPcieCompletionTimeout a1 a2 t) := by
  simp [Reached, -Touches.ite_iff, execPcieCompletionTimeout]

/-! ## Pool accesses (R79, R182 to R200) -/

theorem reached_execLd : ReachedO t (execLd a1 a2 t) := by
  simp [Reached, -Touches.ite_iff, execLd]

theorem reached_execSt : ReachedO t (execSt a1 a2 t) := by
  simp [Reached, -Touches.ite_iff, execSt]

theorem reached_execVld : ReachedO t (execVld a1 a2 t) := by
  simp [Reached, -Touches.ite_iff, execVld]

theorem reached_execVst : ReachedO t (execVst a1 a2 t) := by
  simp [Reached, -Touches.ite_iff, execVst]

theorem reached_execLdv : ReachedO t (execLdv a1 a2 t) := by
  simp [Reached, -Touches.ite_iff, execLdv]

theorem reached_execVldv : ReachedO t (execVldv a1 a2 t) := by
  simp [Reached, -Touches.ite_iff, execVldv]

theorem reached_execLinv : ReachedO t (execLinv a1 a2 t) := by
  simp [Reached, -Touches.ite_iff, execLinv]

theorem reached_execAadd : ReachedO t (execAadd a1 a2 t) := by
  simp [Reached, -Touches.ite_iff, execAadd]

theorem reached_execAswp : ReachedO t (execAswp a1 a2 t) := by
  simp [Reached, -Touches.ite_iff, execAswp]

theorem reached_execAcas : ReachedO t (execAcas a1 a2 t) := by
  simp [Reached, -Touches.ite_iff, execAcas]

theorem reached_execAmin : ReachedO t (execAmin a1 a2 t) := by
  simp [Reached, -Touches.ite_iff, execAmin]

theorem reached_execAmax : ReachedO t (execAmax a1 a2 t) := by
  simp [Reached, -Touches.ite_iff, execAmax]

theorem reached_execAlda : ReachedO t (execAlda a1 a2 t) := by
  simp [Reached, -Touches.ite_iff, execAlda]

theorem reached_execAstr : ReachedO t (execAstr a1 a2 t) := by
  simp [Reached, -Touches.ite_iff, execAstr]

theorem reached_execFence : ReachedO t (execFence a1 a2 t) := by
  simp [Reached, -Touches.ite_iff, execFence]

/-! ## Sessions (R93 to R132) -/

theorem reached_execSessCreate : ReachedO t (execSessCreate a1 a2 t) := by
  simp [Reached, -Touches.ite_iff, execSessCreate]

theorem reached_execAppend : ReachedO t (execAppend a1 a2 a3 t) := by
  simp [Reached, -Touches.ite_iff, execAppend]

theorem reached_execPublish : ReachedO t (execPublish a1 a2 t) := by
  simp [Reached, -Touches.ite_iff, execPublish]

theorem reached_execFork : ReachedO t (execFork a1 a2 t) := by
  simp [Reached, -Touches.ite_iff, execFork]

theorem reached_execSessOpen : ReachedO t (execSessOpen a1 a2 t) := by
  simp [Reached, -Touches.ite_iff, execSessOpen]

theorem reached_execDiscard : ReachedO t (execDiscard a1 a2 t) := by
  simp [Reached, -Touches.ite_iff, execDiscard]

theorem reached_execOffer : ReachedO t (execOffer a1 a2 t) := by
  simp [Reached, -Touches.ite_iff, execOffer]

theorem reached_execAccept : ReachedO t (execAccept a1 a2 t) := by
  simp [Reached, -Touches.ite_iff, execAccept]

theorem reached_execSessQuery : ReachedO t (execSessQuery a1 a2 t) := by
  simp [Reached, -Touches.ite_iff, execSessQuery]

theorem reached_execWake : ReachedO t (execWake a1 a2 t) := by
  simp [Reached, -Touches.ite_iff, execWake]

theorem reached_execMemberOperation : ReachedO t (execMemberOperation a1 t) := by
  simp (disch := simp [Reached]) [Reached, -Touches.ite_iff, execMemberOperation]

theorem reached_execMemberAck : ReachedO t (execMemberAck a1 a2 t) := by
  simp (disch := simp [Reached]) [Reached, -Touches.ite_iff, execMemberAck]

theorem reached_execSessionMemberTimeout : ReachedO t (execSessionMemberTimeout a1 a2 t) := by
  simp (disch := simp [Reached]) [Reached, -Touches.ite_iff, execSessionMemberTimeout]

theorem reached_execPull : ReachedO t (execPull a1 a2 a3 a4 t) := by
  simp (disch := simp [Reached]) [Reached, -Touches.ite_iff, execPull]

theorem reached_execPullResponse : ReachedO t (execPullResponse a1 a2 t) := by
  simp (disch := simp [Reached]) [Reached, -Touches.ite_iff, execPullResponse]

theorem reached_execPullTimeout : ReachedO t (execPullTimeout a1 t) := by
  simp (disch := simp [Reached]) [Reached, -Touches.ite_iff, execPullTimeout]

theorem reached_execClaim : ReachedO t (execClaim a1 a2 a3 a4 a5 t) := by
  simp (disch := simp [Reached]) [Reached, -Touches.ite_iff, execClaim]

theorem reached_execHandoffGrant : ReachedO t (execHandoffGrant a1 a2 a3 a4 a5 t) := by
  simp (disch := simp [Reached]) [Reached, -Touches.ite_iff, execHandoffGrant]

theorem reached_execCommit : ReachedO t (execCommit a1 a2 a3 t) := by
  simp (disch := simp [Reached]) [Reached, -Touches.ite_iff, execCommit]

theorem reached_execCommitAck : ReachedO t (execCommitAck a1 a2 t) := by
  simp (disch := simp [Reached]) [Reached, -Touches.ite_iff, execCommitAck]

theorem reached_execCommitTimeout : ReachedO t (execCommitTimeout a1 a2 t) := by
  simp (disch := simp [Reached]) [Reached, -Touches.ite_iff, execCommitTimeout]

theorem reached_execLeaseReadTimeout : ReachedO t (execLeaseReadTimeout a1 a2 t) := by
  simp (disch := simp [Reached]) [Reached, -Touches.ite_iff, execLeaseReadTimeout]

theorem reached_execLeaseResolve : ReachedO t (execLeaseResolve a1 a2 t) := by
  simp (disch := simp [Reached]) [Reached, -Touches.ite_iff, execLeaseResolve]

theorem reached_execRelease : ReachedO t (execRelease a1 a2 a3 t) := by
  simp (disch := simp [Reached]) [Reached, -Touches.ite_iff, execRelease]

theorem reached_execHandoffTimerExpiry : ReachedO t (execHandoffTimerExpiry a1 t) := by
  simp [Reached, -Touches.ite_iff, execHandoffTimerExpiry]

theorem reached_execClaimRefused : ReachedO t (execClaimRefused a1 a2 a3 t) := by
  simp (disch := simp [Reached]) [Reached, -Touches.ite_iff, execClaimRefused]

theorem reached_execLeaseReadAnswer : ReachedO t (execLeaseReadAnswer a1 a2 a3 t) := by
  simp (disch := simp [Reached]) [Reached, -Touches.ite_iff, execLeaseReadAnswer]

/-! ## Attention (R133 to R156) -/

theorem reached_execAttnQuery : ReachedO t (execAttnQuery a1 a2 a3 t) := by
  simp [Reached, -Touches.ite_iff, execAttnQuery]

/-! ## Embeddings (R157 to R175) -/

theorem reached_execLookup : ReachedO t (execLookup a1 a2 a3 a4 t) := by
  simp [Reached, -Touches.ite_iff, execLookup]

theorem reached_execLookahead : ReachedO t (execLookahead a1 a2 a3 t) := by
  simp [Reached, -Touches.ite_iff, execLookahead]

theorem reached_execGrad : ReachedO t (execGrad a1 a2 a3 a4 t) := by
  simp [Reached, -Touches.ite_iff, execGrad]

theorem reached_execClose : ReachedO t (execClose a1 a2 t) := by
  simp [Reached, -Touches.ite_iff, execClose]

theorem reached_execAbandon : ReachedO t (execAbandon a1 a2 t) := by
  simp [Reached, -Touches.ite_iff, execAbandon]

theorem reached_execReversalComplete : ReachedO t (execReversalComplete a1 a2 a3 t) := by
  simp [Reached, -Touches.ite_iff, execReversalComplete]

theorem reached_execCloseInstallComplete : ReachedO t (execCloseInstallComplete a1 t) := by
  simp [Reached, -Touches.ite_iff, execCloseInstallComplete]

/-! ## Reliefs (R340) -/

theorem reached_execRelief : ReachedO t (execRelief a1 a2 t) := by
  simp [Reached, -Touches.ite_iff, execRelief]

/-! ## The rotation (R57 to R92) -/

theorem reached_execDescriptorPrecheckComplete : ReachedO t (execDescriptorPrecheckComplete a1 a2 t) := by
  simp [Reached, -Touches.ite_iff, execDescriptorPrecheckComplete]

theorem reached_execRotationStart : ReachedO t (execRotationStart t) := by
  simp [Reached, -Touches.ite_iff, execRotationStart]

theorem reached_execBindPhase : ReachedO t (execBindPhase t) := by
  simp [Reached, -Touches.ite_iff, execBindPhase]

theorem reached_execLaunchPhase : ReachedO t (execLaunchPhase t) := by
  simp [Reached, -Touches.ite_iff, execLaunchPhase]

theorem reached_execClosePhase : ReachedO t (execClosePhase a1 a2 t) := by
  simp [Reached, -Touches.ite_iff, execClosePhase]

theorem reached_execPoolAccessComplete : ReachedO t (execPoolAccessComplete a1 a2 a3 a4 t) := by
  simp [Reached, -Touches.ite_iff, execPoolAccessComplete]

theorem reached_execStreamTileBegin : ReachedO t (execStreamTileBegin a1 a2 t) := by
  simp (disch := simp [Reached]) [Reached, -Touches.ite_iff, execStreamTileBegin]

theorem reached_execStreamComplete : ReachedO t (execStreamComplete a1 a2 a3 a4 a5 a6 a7 t) := by
  simp (disch := simp [Reached]) [Reached, -Touches.ite_iff, execStreamComplete]

/-! ## Messages that arrive and timers (R279 to R296) -/

theorem reached_execRdS : ReachedO t (execRdS a1 a2 t) :=
  reachedO_next.2 (reached_message (fun _ => by simp [Reached]) reached_self)

theorem reached_execRdX : ReachedO t (execRdX a1 a2 t) :=
  reachedO_next.2 (reached_message (fun _ => by simp [Reached]) reached_self)

theorem reached_execUpg : ReachedO t (execUpg a1 a2 t) :=
  reachedO_next.2 (reached_message (fun _ => by simp [Reached]) reached_self)

theorem reached_execRdNc : ReachedO t (execRdNc a1 a2 t) :=
  reachedO_next.2 (reached_message (fun _ => by simp [Reached]) reached_self)

theorem reached_execWrC : ReachedO t (execWrC a1 a2 t) :=
  reachedO_next.2 (reached_message (fun _ => by simp [Reached]) reached_self)

theorem reached_execWrCm : ReachedO t (execWrCm a1 a2 t) :=
  reachedO_next.2 (reached_message (fun _ => by simp [Reached]) reached_self)

theorem reached_execWrNs : ReachedO t (execWrNs a1 a2 t) :=
  reachedO_next.2 (reached_message (fun _ => by simp [Reached]) reached_self)

theorem reached_execAtAdd : ReachedO t (execAtAdd a1 a2 t) :=
  reachedO_next.2 (reached_message (fun _ => by simp [Reached]) reached_self)

theorem reached_execAtSwp : ReachedO t (execAtSwp a1 a2 t) :=
  reachedO_next.2 (reached_message (fun _ => by simp [Reached]) reached_self)

theorem reached_execAtCas : ReachedO t (execAtCas a1 a2 t) :=
  reachedO_next.2 (reached_message (fun _ => by simp [Reached]) reached_self)

theorem reached_execAtMin : ReachedO t (execAtMin a1 a2 t) :=
  reachedO_next.2 (reached_message (fun _ => by simp [Reached]) reached_self)

theorem reached_execAtMax : ReachedO t (execAtMax a1 a2 t) :=
  reachedO_next.2 (reached_message (fun _ => by simp [Reached]) reached_self)

theorem reached_execEvict : ReachedO t (execEvict a1 a2 t) :=
  reachedO_next.2 (reached_message (fun _ => by simp [Reached]) reached_self)

theorem reached_execSnInv : ReachedO t (execSnInv a1 a2 t) :=
  reachedO_next.2 (reached_message (fun _ => by simp [Reached]) reached_self)

theorem reached_execSnFwdS : ReachedO t (execSnFwdS a1 a2 t) :=
  reachedO_next.2 (reached_message (fun _ => by simp [Reached]) reached_self)

theorem reached_execSnFwdX : ReachedO t (execSnFwdX a1 a2 t) :=
  reachedO_next.2 (reached_message (fun _ => by simp [Reached]) reached_self)

theorem reached_execSnRecall : ReachedO t (execSnRecall a1 a2 t) :=
  reachedO_next.2 (reached_message (fun _ => by simp [Reached]) reached_self)

theorem reached_execSnRecallX : ReachedO t (execSnRecallX a1 a2 t) :=
  reachedO_next.2 (reached_message (fun _ => by simp [Reached]) reached_self)

theorem reached_execData : ReachedO t (execData a1 a2 t) :=
  reachedO_next.2 (reached_message (fun _ => by simp [Reached]) reached_self)

theorem reached_execCmp : ReachedO t (execCmp a1 a2 t) :=
  reachedO_next.2 (reached_message (fun _ => by simp [Reached]) reached_self)

theorem reached_execSnAck : ReachedO t (execSnAck a1 a2 t) :=
  reachedO_next.2 (reached_message (fun _ => by simp [Reached]) reached_self)

theorem reached_execSnData : ReachedO t (execSnData a1 a2 t) :=
  reachedO_next.2 (reached_message (fun _ => by simp [Reached]) reached_self)

theorem reached_execWbPull : ReachedO t (execWbPull a1 a2 t) :=
  reachedO_next.2 (reached_message (fun _ => by simp [Reached]) reached_self)

theorem reached_execWbData : ReachedO t (execWbData a1 a2 t) :=
  reachedO_next.2 (reached_message (fun _ => by simp [Reached]) reached_self)

theorem reached_execAtData : ReachedO t (execAtData a1 a2 t) :=
  reachedO_next.2 (reached_message (fun _ => by simp [Reached]) reached_self)

theorem reached_execMg : ReachedO t (execMg a1 a2 a3 a4 t) :=
  reachedO_next.2 (reached_message (fun _ => by simp [Reached]) reached_self)

theorem reached_execSnoopTimeout : ReachedO t (execSnoopTimeout a1 a2 a3 t) := by
  simp [Reached, -Touches.ite_iff, execSnoopTimeout]

theorem reached_execVictimBufferTimeout : ReachedO t (execVictimBufferTimeout a1 a2 t) := by
  simp (disch := simp [Reached]) [Reached, -Touches.ite_iff, execVictimBufferTimeout]

theorem reached_execRemoteRequestTimeout : ReachedO t (execRemoteRequestTimeout a1 t) :=
  reachedO_next.2 (reached_itemsEnd (reached_runNet (reached_missesGo (reached_tagTimeout reached_self))))

/-! ## The tiers (R213 to R225) -/

theorem reached_execNvmeCommandComplete : ReachedO t (execNvmeCommandComplete a1 a2 a3 t) := by
  simp [Reached, -Touches.ite_iff, execNvmeCommandComplete]

theorem reached_execNvmeCommandTimeout : ReachedO t (execNvmeCommandTimeout a1 t) := by
  simp [Reached, -Touches.ite_iff, execNvmeCommandTimeout]

theorem reached_execDriveResetTimeout : ReachedO t (execDriveResetTimeout a1 t) := by
  simp [Reached, -Touches.ite_iff, execDriveResetTimeout]

theorem reached_execFillComplete : ReachedO t (execFillComplete a1 t) := by
  simp [Reached, -Touches.ite_iff, execFillComplete]

theorem reached_execFrameWaitTimeout : ReachedO t (execFrameWaitTimeout a1 t) := by
  simp [Reached, -Touches.ite_iff, execFrameWaitTimeout]

theorem reached_execAgeExamination : ReachedO t (execAgeExamination t) := by
  simp [Reached, -Touches.ite_iff, execAgeExamination]

theorem reached_execCopyPassComplete : ReachedO t (execCopyPassComplete a1 t) := by
  simp [Reached, -Touches.ite_iff, execCopyPassComplete]

theorem reached_execWritebackStart : ReachedO t (execWritebackStart a1 t) := by
  simp [Reached, -Touches.ite_iff, execWritebackStart]

/-! ## Links (R268 to R278) -/

theorem reached_execFlitReceived : ReachedO t (execFlitReceived a1 a2 a3 t) := by
  simp [Reached, -Touches.ite_iff, execFlitReceived]

theorem reached_execReplayTimerExpiry : ReachedO t (execReplayTimerExpiry a1 t) := by
  simp [Reached, -Touches.ite_iff, execReplayTimerExpiry]

theorem reached_execTrainTimeout : ReachedO t (execTrainTimeout a1 t) := by
  simp [Reached, -Touches.ite_iff, execTrainTimeout]

theorem reached_execKeyExchangeComplete : ReachedO t (execKeyExchangeComplete a1 a2 t) := by
  simp [Reached, -Touches.ite_iff, execKeyExchangeComplete]

theorem reached_execKeyExchangeTimeout : ReachedO t (execKeyExchangeTimeout a1 t) := by
  simp [Reached, -Touches.ite_iff, execKeyExchangeTimeout]

theorem reached_execRetrainTimeout : ReachedO t (execRetrainTimeout a1 t) := by
  simp [Reached, -Touches.ite_iff, execRetrainTimeout]

theorem reached_execSignalLost : ReachedO t (execSignalLost a1 t) := by
  simp [Reached, -Touches.ite_iff, execSignalLost]

theorem reached_execCodewordAlignmentLost : ReachedO t (execCodewordAlignmentLost a1 t) := by
  simp [Reached, -Touches.ite_iff, execCodewordAlignmentLost]

theorem reached_execPortRetrain : ReachedO t (execPortRetrain a1 a2 t) :=
  reachedO_next.2 (reached_portCmd (fun _ => by simp [Reached]) reached_self)

/-! ## Pool sharing (R300 to R318) -/

theorem reached_execMark : ReachedO t (execMark a1 a2 t) := by
  simp [Reached, -Touches.ite_iff, execMark]

theorem reached_execUnmark : ReachedO t (execUnmark a1 a2 t) := by
  simp [Reached, -Touches.ite_iff, execUnmark]

theorem reached_execGrant : ReachedO t (execGrant a1 a2 t) := by
  simp [Reached, -Touches.ite_iff, execGrant]

theorem reached_execRevoke : ReachedO t (execRevoke a1 a2 t) := by
  simp [Reached, -Touches.ite_iff, execRevoke]

theorem reached_execPoolQuery : ReachedO t (execPoolQuery a1 a2 t) := by
  simp [Reached, -Touches.ite_iff, execPoolQuery]

theorem reached_execSetmode : ReachedO t (execSetmode a1 a2 t) := by
  simp [Reached, -Touches.ite_iff, execSetmode]

theorem reached_execSetmodeDrained : ReachedO t (execSetmodeDrained a1 t) := by
  simp [Reached, -Touches.ite_iff, execSetmodeDrained]

theorem reached_execRevokeTimerExpiry : ReachedO t (execRevokeTimerExpiry a1 a2 t) := by
  simp [Reached, -Touches.ite_iff, execRevokeTimerExpiry]

theorem reached_execDirectorySweepComplete : ReachedO t (execDirectorySweepComplete a1 a2 t) := by
  simp [Reached, -Touches.ite_iff, execDirectorySweepComplete]

theorem reached_execCxlMemRead : ReachedO t (execCxlMemRead a1 a2 a3 a4 t) := by
  simp [Reached, -Touches.ite_iff, execCxlMemRead]

theorem reached_execCxlMemWrite : ReachedO t (execCxlMemWrite a1 a2 a3 a4 t) := by
  simp [Reached, -Touches.ite_iff, execCxlMemWrite]

theorem reached_execTokenAdmit : ReachedO t (execTokenAdmit a1 t) := by
  simp [Reached, -Touches.ite_iff, execTokenAdmit]

theorem reached_execBirsp : ReachedO t (execBirsp a1 a2 a3 a4 t) := by
  simp [Reached, -Touches.ite_iff, execBirsp]

theorem reached_execBackInvalidateTimeout : ReachedO t (execBackInvalidateTimeout a1 a2 t) := by
  simp [Reached, -Touches.ite_iff, execBackInvalidateTimeout]

theorem reached_execHostConfigRequest : ReachedO t (execHostConfigRequest a1 a2 t) := by
  simp [Reached, -Touches.ite_iff, execHostConfigRequest]

/-! ## Resets of the device and of its ports (R375, R376) -/

theorem reached_execResetNAssert : ReachedO t (execResetNAssert t) := by
  simp [Reached, -Touches.ite_iff, execResetNAssert]

theorem reached_execVinLockout : ReachedO t (execVinLockout t) := by
  simp [Reached, -Touches.ite_iff, execVinLockout]

theorem reached_execRefclkSysLost : ReachedO t (execRefclkSysLost t) := by
  simp [Reached, -Touches.ite_iff, execRefclkSysLost]

theorem reached_execPerstAssert : ReachedO t (execPerstAssert a1 t) := by
  simp [Reached, -Touches.ite_iff, execPerstAssert]

theorem reached_execHostLinkDown : ReachedO t (execHostLinkDown a1 t) := by
  simp [Reached, -Touches.ite_iff, execHostLinkDown]

/-! ## Translations (R237 to R252) -/

theorem reached_execPtwrite : ReachedO t (execPtwrite a1 a2 a3 t) := by
  simp [Reached, -Touches.ite_iff, execPtwrite]

theorem reached_execInval : ReachedO t (execInval a1 a2 t) := by
  simp [Reached, -Touches.ite_iff, execInval]

theorem reached_execSetroot : ReachedO t (execSetroot a1 a2 t) := by
  simp [Reached, -Touches.ite_iff, execSetroot]

theorem reached_execPtwriteBroadcast : ReachedO t (execPtwriteBroadcast a1 a2 a3 t) :=
  reachedO_next.2 (reached_message (fun _ => reached_mgServe (fun _ => by simp [Reached]) reached_self) reached_self)

theorem reached_execInvalForward : ReachedO t (execInvalForward a1 a2 a3 a4 a5 a6 t) :=
  reachedO_next.2 (reached_message (fun _ => by simp [Reached]) reached_self)

theorem reached_execInvalConfirm : ReachedO t (execInvalConfirm a1 a2 t) :=
  reachedO_next.2 (reached_message (fun _ => by simp [Reached]) reached_self)

theorem reached_execInvalConfirmTimeout : ReachedO t (execInvalConfirmTimeout a1 t) := by
  simp [Reached, -Touches.ite_iff, execInvalConfirmTimeout]

theorem reached_execWalkEntryRead : ReachedO t (execWalkEntryRead a1 t) := by
  simp [Reached, -Touches.ite_iff, execWalkEntryRead]

/-! ## Job halt, Fog mode and fences (R350 to R358) -/

theorem reached_execKeeperReconciliation : ReachedO t (execKeeperReconciliation a1 a2 t) := by
  simp [Reached, -Touches.ite_iff, execKeeperReconciliation]

theorem reached_execFenceTimeout : ReachedO t (execFenceTimeout a1 a2 t) := by
  simp [Reached, -Touches.ite_iff, execFenceTimeout]

theorem reached_execJobReset : ReachedO t (execJobReset a1 t) :=
  reachedO_next.2 (reached_rasCmd (fun _ => by simp [Reached]) reached_self)

theorem reached_execJobResetComplete : ReachedO t (execJobResetComplete t) := by
  simp [Reached, -Touches.ite_iff, execJobResetComplete]

theorem reached_execFog : ReachedO t (execFog a1 t) :=
  reachedO_next.2 (reached_rasCmd (fun _ => by simp [Reached]) reached_self)

theorem reached_execFogEntryComplete : ReachedO t (execFogEntryComplete t) := by
  simp [Reached, -Touches.ite_iff, execFogEntryComplete]

/-! ## The Keeper and the partition switch (R321 to R341) -/

theorem reached_execSeal : ReachedO t (execSeal a1 t) :=
  reachedO_next.2 (reached_kprCommand (fun _ => by simp [Reached]) reached_self)

theorem reached_execSwitch : ReachedO t (execSwitch a1 a2 a3 t) :=
  reachedO_next.2 (reached_kprCommand (fun _ => by simp [Reached]) reached_self)

theorem reached_execSwitchComplete : ReachedO t (execSwitchComplete a1 t) := by
  simp [Reached, -Touches.ite_iff, execSwitchComplete]

/-! ## Sensors and clocks (R361 to R372) -/

theorem reached_execCold : ReachedO t (execCold a1 t) :=
  reachedO_next.2 (reached_pwrCommand (fun _ => by simp [Reached]) reached_self)

theorem reached_execSensorSample : ReachedO t (execSensorSample a1 t) := by
  simp [Reached, -Touches.ite_iff, execSensorSample]

theorem reached_execRefclkFabLost : ReachedO t (execRefclkFabLost t) := by
  simp [Reached, -Touches.ite_iff, execRefclkFabLost]

end Sys2Proof.Machine
end

section
/-! PROOF. Every step takes its command, keeps the device, and draws free values one after another (O57, R321, R322, R375, log entry 4). -/

namespace Sys2Proof.Machine

variable {n : Nat} {s t u : State}

/-! ## Writes of the set-up space (R29, R30, R378 to R400) -/

@[simp] theorem reached_kprWrite (h : Reached n t) : Reached n (t.kprWrite a1 a2) := by
  have hforeign : ReachedO t (.next (t.kprForeign a1 a2)) := by simp [Reached]
  unfold State.kprWrite
  refine ReachedO.after ?_ h
  split
  · split
    · exact reached_execSeal
    · exact hforeign
  · exact .of_touches touches_execAnchor (by decide)
  · exact reached_execSwitch
  · exact .of_touches touches_execFwStage (by decide)
  · split
    · exact .of_touches touches_execCommitSvn (by decide)
    · exact hforeign
  · simp [Reached]

@[simp] theorem reached_pwrWrite (h : Reached n t) : Reached n (t.pwrWrite a1 a2) := by
  unfold State.pwrWrite
  split
  · exact (ReachedO.of_touches touches_execDark (by decide)).after h
  · exact (ReachedO.of_touches touches_execPwrWake (by decide)).after h
  · exact reached_execCold.after h
  · exact reached_pwrCommand (fun _ => by simp [Reached]) h

@[simp] theorem reached_rasWrite (h : Reached n t) : Reached n (t.rasWrite a1 a2) := by
  unfold State.rasWrite
  split
  · exact reached_execJobReset.after h
  · exact reached_execFog.after h
  · simp [Reached, h]

@[simp] theorem reached_ringWrite (h : Reached n t) : Reached n (t.ringWrite a1 a2) := by
  unfold State.ringWrite
  dsimp only
  split
  · exact reached_execRingCreate.after h
  · exact (ReachedO.of_touches touches_execRingDestroy (by decide)).after h
  · exact reached_execRingStop.after h
  · exact (ReachedO.of_touches touches_execRingResume (by decide)).after h
  · exact (ReachedO.of_touches touches_execRingRead (by decide)).after h
  · simp [Reached, h]

@[simp] theorem reached_portWrite (h : Reached n t) : Reached n (t.portWrite a1 a2) := by
  unfold State.portWrite
  dsimp only
  split
  · exact (ReachedO.of_touches touches_execPortReset (by decide)).after h
  · exact reached_execPortRetrain.after h
  · simp [Reached, h]

/-- One more command register of the chain that `State.commandWrite` tries in turn. -/
theorem reached_some_ite {p : Prop} [Decidable p] {o : Option State} (hc : Reached n t) (hr : o = some u → Reached n u)
    (h : (if p then some t else o) = some u) : Reached n u := by
  split at h
  · exact Option.some.inj h ▸ hc
  · exact hr h

theorem reached_commandWrite {p : Port} {x : RegRow} {i : Nat} {v : BitVec 32} (h : Reached n t) (hw : t.commandWrite p x i v = some u) :
    Reached n u := by
  have hrun : Reached n (t.after (if bit v 0 then execRotRunSet p (bit v 1) (bit v 2) t else execRotRunClear p (bit v 1) (bit v 2) t)) := by
    split
    · exact (ReachedO.of_touches touches_execRotRunSet (by decide)).after h
    · exact (ReachedO.of_touches touches_execRotRunClear (by decide)).after h
  have hregion {r : BitVec 6} : Reached n (t.after (if bit v 0 then execRegionValidSet p r v t else execRegionValidClear p r v t)) := by
    split
    · exact (ReachedO.of_touches touches_execRegionValidSet (by decide)).after h
    · exact (ReachedO.of_touches touches_execRegionValidClear (by decide)).after h
  refine reached_some_ite (reached_kprWrite h) ?_ hw
  refine reached_some_ite ((ReachedO.of_touches touches_execMailboxSend (by decide)).after h) ?_
  refine reached_some_ite ((ReachedO.of_touches touches_execMailboxRxAck (by decide)).after h) ?_
  refine reached_some_ite (reached_pwrWrite h) ?_
  refine reached_some_ite (reached_rasWrite h) ?_
  refine reached_some_ite ((ReachedO.of_touches touches_execRasAck (by decide)).after h) ?_
  refine reached_some_ite ((ReachedO.of_touches touches_execRasInject (by decide)).after h) ?_
  refine reached_some_ite (reached_ringWrite h) ?_
  refine reached_some_ite (t := t.tableWrite p v) (by simp [Reached, h]) ?_
  refine reached_some_ite hrun ?_
  refine reached_some_ite (t := t.bookCmdWrite p v) (by simp [Reached, h]) ?_
  refine reached_some_ite ((ReachedO.of_touches touches_execAttAbftInject (by decide)).after h) ?_
  refine reached_some_ite (t := t.tierWrite p v) (by simp [Reached, h]) ?_
  refine reached_some_ite (t := t.portWrite p v) (reached_portWrite h) ?_
  exact reached_some_ite hregion nofun

@[simp] theorem reached_write32 (h : Reached n t) : Reached n (t.write32 a1 a2 a3) := by
  unfold State.write32
  split
  · exact h
  split
  · simp [Reached, h]
  split
  next hc => exact reached_commandWrite h hc
  next => simp [Reached, h]

@[simp] theorem reached_write32Door (h : Reached n t) : Reached n (t.write32Door a1 a2 a3) := by
  unfold State.write32Door
  dsimp only
  split
  · exact h
  split
  · exact reached_execDbSqTail.after h
  split
  · exact reached_execDbCqHead.after h
  · exact h

@[simp] theorem reached_barWrite32 (h : Reached n t) : Reached n (t.barWrite32 a1 a2 a3) := by
  simp [Reached, h, -Touches.ite_iff, -Touches.ite_fst, State.barWrite32]

@[simp] theorem reached_barWrite (h : Reached n t) : Reached n (t.barWrite a1 a2 a3 a4) := by
  unfold State.barWrite
  (repeat' split) <;> simp [Reached, h, -Touches.ite_iff, -Touches.ite_fst]

theorem reached_execSetupRegisterWrite : ReachedO t (execSetupRegisterWrite a1 a2 a3 a4 t) := reachedO_next.2 (reached_barWrite reached_self)

/-! ## The end of a wake (R370) -/

@[simp] theorem reached_serve {w : Held} (h : Reached n t) : Reached n (t.serve w) := by
  cases w with
  | setup => exact reached_execSetupRegisterWrite.after h
  | fwStage => exact (ReachedO.of_touches touches_execFwStage (by decide)).after h
  | doorbell =>
    simp only [State.serve]
    split
    · exact reached_execDbCqHead.after h
    · exact reached_execDbSqTail.after h
  | cxl =>
    simp only [State.serve]
    split
    · exact reached_execCxlMemWrite.after h
    · exact reached_execCxlMemRead.after h
  | config => exact reached_execHostConfigRequest.after h
  | req => exact reached_message (fun _ => by simp [Reached]) h
  | snp => exact reached_message (fun _ => by simp [Reached]) h
  | rsp => exact reached_message (fun _ => by simp [Reached]) h
  | mg => exact reached_execMg.after h
  | ptwrite => exact reached_execPtwriteBroadcast.after h
  | inval => exact reached_execInvalForward.after h
  | confirm => exact reached_execInvalConfirm.after h
  | member => exact reached_execMemberOperation.after h
  | memberAck => exact reached_execMemberAck.after h
  | pull => exact reached_execPull.after h
  | pullAnswer => exact reached_execPullResponse.after h
  | claim => exact reached_execClaim.after h
  | grant => exact reached_execHandoffGrant.after h
  | commit => exact reached_execCommit.after h
  | commitAck => exact reached_execCommitAck.after h
  | lease => exact reached_execLeaseResolve.after h
  | release => exact reached_execRelease.after h
  | claimRefused => exact reached_execClaimRefused.after h
  | leaseAnswer => exact reached_execLeaseReadAnswer.after h
  | memberTimeout => exact reached_execSessionMemberTimeout.after h
  | pullTimeout => exact reached_execPullTimeout.after h
  | commitTimeout => exact reached_execCommitTimeout.after h
  | leaseTimeout => exact reached_execLeaseReadTimeout.after h
  | handoffTimer => exact reached_execHandoffTimerExpiry.after h
  | releaseWait => exact (ReachedO.of_touches touches_execReleaseWaitExpiry (by decide)).after h

@[simp] theorem reached_woken (h : Reached n t) : Reached n t.woken := by
  unfold State.woken
  split
  · exact h
  extract_lets +onlyGivenNames l fog s1 s2 s3 s4 rest reset s5 s6
  have hs2 : Reached n s2 := reached_each (fun _ _ => by simp [Reached]) (by simp [s1, Reached, h])
  have hs3 : Reached n s3 := reached_each (fun _ _ => by simp [Reached]) hs2
  have hs4 : Reached n s4 := reached_each (fun _ _ => by simp [Reached]) hs3
  have hs5 : Reached n s5 := reached_each (fun _ _ => by simp [Reached]) hs4
  have hs6 : Reached n s6 := reached_each (fun _ _ => by simp [Reached]) hs5
  split <;> simp [Reached, hs6]

theorem reached_execWakeComplete : ReachedO t (execWakeComplete t) := reachedO_next.2 (reached_woken reached_self)

/-! ## Every command and every step -/

theorem exec_reached {i : Instr} : ReachedO s (exec i s) := by
  cases i with
  | setupRegisterWrite => exact reached_execSetupRegisterWrite
  | ringCreate => exact reached_execRingCreate
  | ringDestroy => exact .of_touches touches_execRingDestroy (by decide)
  | ringStop => exact reached_execRingStop
  | ringResume => exact .of_touches touches_execRingResume (by decide)
  | ringRead => exact .of_touches touches_execRingRead (by decide)
  | ringCommandComplete => exact .of_touches touches_execRingCommandComplete (by decide)
  | dbSqTail => exact reached_execDbSqTail
  | dbCqHead => exact reached_execDbCqHead
  | descriptorFetch => exact .of_touches touches_execDescriptorFetch (by decide)
  | descriptorFetched => exact reached_execDescriptorFetched
  | descriptorPrecheckComplete => exact reached_execDescriptorPrecheckComplete
  | completionRecordWriteFault => exact reached_execCompletionRecordWriteFault
  | coalesceTimerExpiry => exact .of_touches touches_execCoalesceTimerExpiry (by decide)
  | msixUnmask => exact .of_touches touches_execMsixUnmask (by decide)
  | msixEnable => exact .of_touches touches_execMsixEnable (by decide)
  | dmaCopy => exact reached_execDmaCopy
  | dmaFill => exact reached_execDmaFill
  | dmaNop => exact reached_execDmaNop
  | dmaDescriptorComplete => exact reached_execDmaDescriptorComplete
  | dmaTransferFailure => exact reached_execDmaTransferFailure
  | pcieCompletionTimeout => exact reached_execPcieCompletionTimeout
  | rotationStart => exact reached_execRotationStart
  | bindPhase => exact reached_execBindPhase
  | launchPhase => exact reached_execLaunchPhase
  | clauseWindowStart => exact .of_touches touches_execClauseWindowStart (by decide)
  | clauseWindowEnd => exact .of_touches touches_execClauseWindowEnd (by decide)
  | closePhase => exact reached_execClosePhase
  | guardPhase => exact .of_touches touches_execGuardPhase (by decide)
  | rotChangeAt => exact .of_touches touches_execRotChangeAt (by decide)
  | bookLoad => exact .of_touches touches_execBookLoad (by decide)
  | bookUnload => exact .of_touches touches_execBookUnload (by decide)
  | bookLoadComplete => exact .of_touches touches_execBookLoadComplete (by decide)
  | rotRunSet => exact .of_touches touches_execRotRunSet (by decide)
  | rotRunClear => exact .of_touches touches_execRotRunClear (by decide)
  | beaconReceived => exact .of_touches touches_execBeaconReceived (by decide)
  | beaconMissed => exact .of_touches touches_execBeaconMissed (by decide)
  | holdoverExpiry => exact .of_touches touches_execHoldoverExpiry (by decide)
  | standbyRootTakeover => exact .of_touches touches_execStandbyRootTakeover (by decide)
  | firstBeaconWaitExpiry => exact .of_touches touches_execFirstBeaconWaitExpiry (by decide)
  | sessCreate => exact reached_execSessCreate
  | append => exact reached_execAppend
  | publish => exact reached_execPublish
  | fork => exact reached_execFork
  | sessOpen => exact reached_execSessOpen
  | discard => exact reached_execDiscard
  | offer => exact reached_execOffer
  | accept => exact reached_execAccept
  | sessQuery => exact reached_execSessQuery
  | wake => exact reached_execWake
  | memberOperation => exact reached_execMemberOperation
  | memberAck => exact reached_execMemberAck
  | sessionMemberTimeout => exact reached_execSessionMemberTimeout
  | pull => exact reached_execPull
  | pullResponse => exact reached_execPullResponse
  | pullTimeout => exact reached_execPullTimeout
  | claim => exact reached_execClaim
  | handoffGrant => exact reached_execHandoffGrant
  | commit => exact reached_execCommit
  | commitAck => exact reached_execCommitAck
  | commitTimeout => exact reached_execCommitTimeout
  | leaseReadTimeout => exact reached_execLeaseReadTimeout
  | leaseResolve => exact reached_execLeaseResolve
  | release => exact reached_execRelease
  | handoffTimerExpiry => exact reached_execHandoffTimerExpiry
  | releaseWaitExpiry => exact .of_touches touches_execReleaseWaitExpiry (by decide)
  | sessionIdleExpiry => exact .of_touches touches_execSessionIdleExpiry (by decide)
  | reclamationProgress => exact .of_touches touches_execReclamationProgress (by decide)
  | attnQuery => exact reached_execAttnQuery
  | attAbftInject => exact .of_touches touches_execAttAbftInject (by decide)
  | define => exact .of_touches touches_execDefine (by decide)
  | retire => exact .of_touches touches_execRetire (by decide)
  | tableRead => exact .of_touches touches_execTableRead (by decide)
  | tableZeroingComplete => exact .of_touches touches_execTableZeroingComplete (by decide)
  | lookup => exact reached_execLookup
  | lookahead => exact reached_execLookahead
  | grad => exact reached_execGrad
  | close => exact reached_execClose
  | abandon => exact reached_execAbandon
  | reversalComplete => exact reached_execReversalComplete
  | closeInstallComplete => exact reached_execCloseInstallComplete
  | nop v f => exact .of_touches (touches_execNop (a2 := f)) (by decide)
  | add => exact .of_touches touches_execAdd (by decide)
  | sub => exact .of_touches touches_execSub (by decide)
  | and => exact .of_touches touches_execAnd (by decide)
  | or => exact .of_touches touches_execOr (by decide)
  | xor => exact .of_touches touches_execXor (by decide)
  | shl => exact .of_touches touches_execShl (by decide)
  | shr => exact .of_touches touches_execShr (by decide)
  | sra => exact .of_touches touches_execSra (by decide)
  | mul => exact .of_touches touches_execMul (by decide)
  | mulh => exact .of_touches touches_execMulh (by decide)
  | min => exact .of_touches touches_execMin (by decide)
  | max => exact .of_touches touches_execMax (by decide)
  | slt => exact .of_touches touches_execSlt (by decide)
  | sltu => exact .of_touches touches_execSltu (by decide)
  | li => exact .of_touches touches_execLi (by decide)
  | lih => exact .of_touches touches_execLih (by decide)
  | addImm => exact .of_touches touches_execAddImm (by decide)
  | subImm => exact .of_touches touches_execSubImm (by decide)
  | andImm => exact .of_touches touches_execAndImm (by decide)
  | orImm => exact .of_touches touches_execOrImm (by decide)
  | xorImm => exact .of_touches touches_execXorImm (by decide)
  | shlImm => exact .of_touches touches_execShlImm (by decide)
  | shrImm => exact .of_touches touches_execShrImm (by decide)
  | sraImm => exact .of_touches touches_execSraImm (by decide)
  | mulImm => exact .of_touches touches_execMulImm (by decide)
  | mulhImm => exact .of_touches touches_execMulhImm (by decide)
  | minImm => exact .of_touches touches_execMinImm (by decide)
  | maxImm => exact .of_touches touches_execMaxImm (by decide)
  | sltImm => exact .of_touches touches_execSltImm (by decide)
  | sltuImm => exact .of_touches touches_execSltuImm (by decide)
  | fadd => exact .of_touches touches_execFadd (by decide)
  | fsub => exact .of_touches touches_execFsub (by decide)
  | fmul => exact .of_touches touches_execFmul (by decide)
  | ffma => exact .of_touches touches_execFfma (by decide)
  | fdiv => exact .of_touches touches_execFdiv (by decide)
  | fsqrt => exact .of_touches touches_execFsqrt (by decide)
  | fmin => exact .of_touches touches_execFmin (by decide)
  | fmax => exact .of_touches touches_execFmax (by decide)
  | fcvti => exact .of_touches touches_execFcvti (by decide)
  | icvtf => exact .of_touches touches_execIcvtf (by decide)
  | beq => exact .of_touches touches_execBeq (by decide)
  | bne => exact .of_touches touches_execBne (by decide)
  | blt => exact .of_touches touches_execBlt (by decide)
  | bge => exact .of_touches touches_execBge (by decide)
  | jmp => exact .of_touches touches_execJmp (by decide)
  | halt v f => exact .of_touches (touches_execHalt (a2 := f)) (by decide)
  | vadd => exact .of_touches touches_execVadd (by decide)
  | vsub => exact .of_touches touches_execVsub (by decide)
  | vmul => exact .of_touches touches_execVmul (by decide)
  | vfma => exact .of_touches touches_execVfma (by decide)
  | vmin => exact .of_touches touches_execVmin (by decide)
  | vmax => exact .of_touches touches_execVmax (by decide)
  | vand => exact .of_touches touches_execVand (by decide)
  | vor => exact .of_touches touches_execVor (by decide)
  | vxor => exact .of_touches touches_execVxor (by decide)
  | vsel => exact .of_touches touches_execVsel (by decide)
  | vbcast => exact .of_touches touches_execVbcast (by decide)
  | vredsum => exact .of_touches touches_execVredsum (by decide)
  | vredmax => exact .of_touches touches_execVredmax (by decide)
  | vperm => exact .of_touches touches_execVperm (by decide)
  | vcvt => exact .of_touches touches_execVcvt (by decide)
  | vexp2 => exact .of_touches touches_execVexp2 (by decide)
  | vdiv => exact .of_touches touches_execVdiv (by decide)
  | vsqrt => exact .of_touches touches_execVsqrt (by decide)
  | vcmp => exact .of_touches touches_execVcmp (by decide)
  | amm => exact .of_touches touches_execAmm (by decide)
  | ammComplete => exact .of_touches touches_execAmmComplete (by decide)
  | azero => exact .of_touches touches_execAzero (by decide)
  | astore => exact .of_touches touches_execAstore (by decide)
  | aload => exact .of_touches touches_execAload (by decide)
  | lds => exact .of_touches touches_execLds (by decide)
  | sts => exact .of_touches touches_execSts (by decide)
  | vlds => exact .of_touches touches_execVlds (by decide)
  | vsts => exact .of_touches touches_execVsts (by decide)
  | stream => exact .of_touches touches_execStream (by decide)
  | swait => exact .of_touches touches_execSwait (by decide)
  | streamTileBegin => exact reached_execStreamTileBegin
  | streamComplete => exact reached_execStreamComplete
  | ld => exact reached_execLd
  | st => exact reached_execSt
  | vld => exact reached_execVld
  | vst => exact reached_execVst
  | ldv => exact reached_execLdv
  | vldv => exact reached_execVldv
  | linv => exact reached_execLinv
  | aadd => exact reached_execAadd
  | aswp => exact reached_execAswp
  | acas => exact reached_execAcas
  | amin => exact reached_execAmin
  | amax => exact reached_execAmax
  | alda => exact reached_execAlda
  | astr => exact reached_execAstr
  | fence => exact reached_execFence
  | poolAccessComplete => exact reached_execPoolAccessComplete
  | tierEnable => exact .of_touches touches_execTierEnable (by decide)
  | tierReady => exact .of_touches touches_execTierReady (by decide)
  | nvmeCommandComplete => exact reached_execNvmeCommandComplete
  | nvmeCommandTimeout => exact reached_execNvmeCommandTimeout
  | driveResetTimeout => exact reached_execDriveResetTimeout
  | fillComplete => exact reached_execFillComplete
  | frameWaitTimeout => exact reached_execFrameWaitTimeout
  | ageExamination => exact reached_execAgeExamination
  | copyPassComplete => exact reached_execCopyPassComplete
  | writebackStart => exact reached_execWritebackStart
  | patrolScrubStep => exact .of_touches touches_execPatrolScrubStep (by decide)
  | ptwrite => exact reached_execPtwrite
  | inval => exact reached_execInval
  | setroot => exact reached_execSetroot
  | ptwriteBroadcast => exact reached_execPtwriteBroadcast
  | invalForward => exact reached_execInvalForward
  | invalConfirm => exact reached_execInvalConfirm
  | invalConfirmTimeout => exact reached_execInvalConfirmTimeout
  | walkEntryRead => exact reached_execWalkEntryRead
  | regionValidSet => exact .of_touches touches_execRegionValidSet (by decide)
  | regionValidClear => exact .of_touches touches_execRegionValidClear (by decide)
  | regionMeasured => exact .of_touches touches_execRegionMeasured (by decide)
  | weightBlockExpanded => exact .of_touches touches_execWeightBlockExpanded (by decide)
  | flitReceived => exact reached_execFlitReceived
  | replayTimerExpiry => exact reached_execReplayTimerExpiry
  | signalDetect => exact .of_touches touches_execSignalDetect (by decide)
  | trainComplete => exact .of_touches touches_execTrainComplete (by decide)
  | trainTimeout => exact reached_execTrainTimeout
  | trainRetryTimer => exact .of_touches touches_execTrainRetryTimer (by decide)
  | keyExchangeComplete => exact reached_execKeyExchangeComplete
  | keyExchangeTimeout => exact reached_execKeyExchangeTimeout
  | retrainTimeout => exact reached_execRetrainTimeout
  | signalLost => exact reached_execSignalLost
  | portReset => exact .of_touches touches_execPortReset (by decide)
  | portRetrain => exact reached_execPortRetrain
  | rdS => exact reached_execRdS
  | rdX => exact reached_execRdX
  | upg => exact reached_execUpg
  | rdNc => exact reached_execRdNc
  | wrC => exact reached_execWrC
  | wrCm => exact reached_execWrCm
  | wrNs => exact reached_execWrNs
  | atAdd => exact reached_execAtAdd
  | atSwp => exact reached_execAtSwp
  | atCas => exact reached_execAtCas
  | atMin => exact reached_execAtMin
  | atMax => exact reached_execAtMax
  | evict => exact reached_execEvict
  | snInv => exact reached_execSnInv
  | snFwdS => exact reached_execSnFwdS
  | snFwdX => exact reached_execSnFwdX
  | snRecall => exact reached_execSnRecall
  | snRecallX => exact reached_execSnRecallX
  | data => exact reached_execData
  | cmp => exact reached_execCmp
  | snAck => exact reached_execSnAck
  | snData => exact reached_execSnData
  | wbPull => exact reached_execWbPull
  | wbData => exact reached_execWbData
  | atData => exact reached_execAtData
  | mg => exact reached_execMg
  | snoopTimeout => exact reached_execSnoopTimeout
  | victimBufferTimeout => exact reached_execVictimBufferTimeout
  | remoteRequestTimeout => exact reached_execRemoteRequestTimeout
  | tagQuarantineExpiry => exact .of_touches touches_execTagQuarantineExpiry (by decide)
  | mark => exact reached_execMark
  | unmark => exact reached_execUnmark
  | grant => exact reached_execGrant
  | revoke => exact reached_execRevoke
  | poolQuery => exact reached_execPoolQuery
  | setmode => exact reached_execSetmode
  | setmodeDrained => exact reached_execSetmodeDrained
  | revokeTimerExpiry => exact reached_execRevokeTimerExpiry
  | directorySweepComplete => exact reached_execDirectorySweepComplete
  | cxlMemRead => exact reached_execCxlMemRead
  | cxlMemWrite => exact reached_execCxlMemWrite
  | tokenAdmit => exact reached_execTokenAdmit
  | throttleHoldExpiry => exact .of_touches touches_execThrottleHoldExpiry (by decide)
  | birsp => exact reached_execBirsp
  | backInvalidateTimeout => exact reached_execBackInvalidateTimeout
  | hdmDecoderCommit => exact .of_touches touches_execHdmDecoderCommit (by decide)
  | hostConfigRequest => exact reached_execHostConfigRequest
  | sealKeeper => exact reached_execSeal
  | anchor => exact .of_touches touches_execAnchor (by decide)
  | switch => exact reached_execSwitch
  | switchComplete => exact reached_execSwitchComplete
  | fwStage => exact .of_touches touches_execFwStage (by decide)
  | commitSvn => exact .of_touches touches_execCommitSvn (by decide)
  | kprCommandComplete => exact .of_touches touches_execKprCommandComplete (by decide)
  | mailboxSend => exact .of_touches touches_execMailboxSend (by decide)
  | mailboxRxAck => exact .of_touches touches_execMailboxRxAck (by decide)
  | getVersion => exact .of_touches touches_execGetVersion (by decide)
  | getCapabilities => exact .of_touches touches_execGetCapabilities (by decide)
  | negotiateAlgorithms => exact .of_touches touches_execNegotiateAlgorithms (by decide)
  | getDigests => exact .of_touches touches_execGetDigests (by decide)
  | getCertificate => exact .of_touches touches_execGetCertificate (by decide)
  | challenge => exact .of_touches touches_execChallenge (by decide)
  | getMeasurements => exact .of_touches touches_execGetMeasurements (by decide)
  | keyExchange => exact .of_touches touches_execKeyExchange (by decide)
  | finish => exact .of_touches touches_execFinish (by decide)
  | heartbeat => exact .of_touches touches_execHeartbeat (by decide)
  | keyUpdate => exact .of_touches touches_execKeyUpdate (by decide)
  | endSession => exact .of_touches touches_execEndSession (by decide)
  | chunkSend => exact .of_touches touches_execChunkSend (by decide)
  | chunkGet => exact .of_touches touches_execChunkGet (by decide)
  | keyInstall => exact .of_touches touches_execKeyInstall (by decide)
  | keyDestroy => exact .of_touches touches_execKeyDestroy (by decide)
  | setEndpointId => exact .of_touches touches_execSetEndpointId (by decide)
  | getEndpointId => exact .of_touches touches_execGetEndpointId (by decide)
  | getMctpVersionSupport => exact .of_touches touches_execGetMctpVersionSupport (by decide)
  | getMessageTypeSupport => exact .of_touches touches_execGetMessageTypeSupport (by decide)
  | unsupportedMctpCommand => exact .of_touches touches_execUnsupportedMctpCommand (by decide)
  | pldmRequest => exact .of_touches touches_execPldmRequest (by decide)
  | keeperReconciliation => exact reached_execKeeperReconciliation
  | fenceTimeout => exact reached_execFenceTimeout
  | proxyTimeout => exact .of_touches touches_execProxyTimeout (by decide)
  | jobReset => exact reached_execJobReset
  | jobResetComplete => exact reached_execJobResetComplete
  | fog => exact reached_execFog
  | fogEntryComplete => exact reached_execFogEntryComplete
  | rasAck => exact .of_touches touches_execRasAck (by decide)
  | rasInject => exact .of_touches touches_execRasInject (by decide)
  | rasLogBaseWrite => exact .of_touches touches_execRasLogBaseWrite (by decide)
  | relief => exact reached_execRelief
  | dark => exact .of_touches touches_execDark (by decide)
  | darkEntryComplete => exact .of_touches touches_execDarkEntryComplete (by decide)
  | pwrWake => exact .of_touches touches_execPwrWake (by decide)
  | wakeComplete => exact reached_execWakeComplete
  | cold => exact reached_execCold
  | resetNAssert => exact reached_execResetNAssert
  | resetNRelease => exact .of_touches touches_execResetNRelease (by decide)
  | powerOn => exact .of_touches touches_execPowerOn (by decide)
  | vinLockout => exact reached_execVinLockout
  | vinMargin => exact .of_touches touches_execVinMargin (by decide)
  | sensorSample => exact reached_execSensorSample
  | throttleClearExpiry => exact .of_touches touches_execThrottleClearExpiry (by decide)
  | refclkSysLost => exact reached_execRefclkSysLost
  | refclkSysRestored => exact .of_touches touches_execRefclkSysRestored (by decide)
  | refclkFabLost => exact reached_execRefclkFabLost
  | perstAssert => exact reached_execPerstAssert
  | perstDeassert => exact .of_touches touches_execPerstDeassert (by decide)
  | hostLinkDown => exact reached_execHostLinkDown
  | flashExtRelease => exact .of_touches touches_execFlashExtRelease (by decide)
  | tapBypass => exact .of_touches touches_execTapBypass (by decide)
  | tapIdcode => exact .of_touches touches_execTapIdcode (by decide)
  | tapSamplePreload => exact .of_touches touches_execTapSamplePreload (by decide)
  | tapExtest => exact .of_touches touches_execTapExtest (by decide)
  | trstAssert => exact .of_touches touches_execTrstAssert (by decide)
  | hostL1Exit => exact .of_touches touches_execHostL1Exit (by decide)
  | idleLinkMessage => exact .of_touches touches_execIdleLinkMessage (by decide)
  | hostLinkTrained => exact .of_touches touches_execHostLinkTrained (by decide)
  | codewordAlignmentLost => exact reached_execCodewordAlignmentLost
  | nvmeControllerReady => exact .of_touches touches_execNvmeControllerReady (by decide)
  | nvmeControllerResetTimeout => exact .of_touches touches_execNvmeControllerResetTimeout (by decide)
  | nvmePerstPulseEnd => exact .of_touches touches_execNvmePerstPulseEnd (by decide)
  | claimRefused => exact reached_execClaimRefused
  | leaseReadAnswer => exact reached_execLeaseReadAnswer

theorem step_reached (h : step s = .next t) : Reached s.free t := by
  unfold step at h
  split at h
  next => exact Host.Outcome.next.inj h ▸ reached_tick reached_self
  next i rest _ => exact exec_reached (s := { s with pending := rest }) t h

end Sys2Proof.Machine

open Sys2Proof Sys2Proof.Machine

/-- Settles O57: commands and ticks let the state age (`step_ages`, by cases of the command), and each draw of a free value moves the counter on. -/
theorem stepsKeepTheDevice : Obligations.StepsKeepTheDevice := by
  intro s t h
  obtain ⟨hqueue, hvariant, hlifecycle, hsecret, hserial, hroot, hchain, hfuses, -⟩ := step_ages (c := s.awaitsBoot = false) id h
  exact ⟨hqueue, hvariant, hsecret, hlifecycle, hchain, hserial, hroot, hfuses, reached_iff.1 (step_reached h)⟩
end
